-- ==== Sys2Proof/Machine/FabTypes.lean ====
section
/-!
DEFINITION. What the frames of the edge fabric configure (R398 to R401, R405): the blocks, macrocells and MAC slices of a region,
and what lies at its boundary crossings. The spec gives these parts and not the places of their bits in a frame: the constants of
Config.lean that read frames answer in these types (log entry 36).
-/
namespace Sys2Proof.Machine

/-- A signal of a region (R398): a macrocell's output, a bit of a MAC slice's result, or an inward crossing; `low` reads 0. -/
inductive FabSig where
  | low
  | cell (m : Nat)
  | mac (j b : Nat)
  | cross (i : Nat)
deriving DecidableEq, Repr, Inhabited

/-- A product term (R398): the inputs of its block that it takes true, and those that it takes complemented. -/
structure PTerm where
  pos : BitVec 48 := 0
  neg : BitVec 48 := 0
deriving DecidableEq, Repr, Inhabited

/-- Where a macrocell's group of terms is summed (Table 14-2): its own macrocell, or the one before or after it in the block. -/
inductive Steer where
  | own | before | after
deriving DecidableEq, Repr, Inhabited

/-- Storage of a macrocell (Table 14-2). -/
inductive CellKind where
  | comb | dff | tff | latch
deriving DecidableEq, Repr, Inhabited

/-- A macrocell (Table 14-2): the five terms of its group, its sum's polarity, storage, the term that enables its clock or gates its
latch, the term that sets or resets it, carry, and initial value. -/
structure MCell where
  terms : List PTerm := []
  steer : Steer := .own
  invert : Bool := false
  kind : CellKind := .comb
  enable : Option (Fin 5) := none
  force : Option (Fin 5 × Bool) := none
  carry : Bool := false
  init : Bool := false
deriving DecidableEq, Repr, Inhabited

/-- A product-term block (Table 14-1): its 48 inputs and its 32 macrocells. -/
structure FabBlock where
  inputs : List FabSig := []
  cells : List MCell := []
deriving DecidableEq, Repr, Inhabited

/-- An edge MAC slice (R401): the signals of its two operands, their signedness, the operation and the enable. -/
structure EMac where
  a : List FabSig := []
  b : List FabSig := []
  aSigned : Bool := false
  bSigned : Bool := false
  op0 : FabSig := .low
  op1 : FabSig := .low
  en : FabSig := .low
deriving DecidableEq, Repr, Inhabited

/-- What the frames of a region configure: its 64 blocks, its 6 MAC slices, and the signals of its 512 outward crossings. -/
structure RegionCfg where
  blocks : List FabBlock := []
  macs : List EMac := []
  outs : List FabSig := []
deriving DecidableEq, Repr, Inhabited

/-- A signal that a bank bridge gives a region (R409, R411): a bit of CO, OUT_EMPTY, or the in-FIFO being full. -/
inductive BridgeSig where
  | co (i : Nat)
  | outEmpty
  | inFull
deriving DecidableEq, Repr, Inhabited

/-- What stands outside an inward crossing (R405): an outward crossing of another region, a bit of a pin's serialiser word, or a
bridge signal of a bank. -/
inductive CrossFrom where
  | low
  | region (r i : Nat)
  | pin (n b : Nat)
  | bridge (g : Nat) (x : BridgeSig)
deriving DecidableEq, Repr, Inhabited

/-- The clamp value of an isolation cell (R405): 0, 1, or the last value passed. -/
inductive Clamp where
  | zero | one | last
deriving DecidableEq, Repr, Inhabited

end Sys2Proof.Machine
end

