-- ==== Sys2Proof/Config.lean ====
section
/-!
DEFINITION. What the manual leaves to the unit or does not state: free values, as constants without a body.
Nothing in Lean can evaluate one, so a statement about a free value holds whatever the hardware gives.
Each constant is applied to State.freeCtr, a counter the reading step advances, so that two uses are unrelated.
-/
namespace Sys2Proof.Config

/-- A free natural number, applied to the counter (log entry 3). -/
opaque freeNat : Nat → Nat

/-- A free bit, applied to the counter (log entry 3). -/
opaque freeBit : Nat → Bool

/-- A free 64-bit word, applied to the counter (log entry 3). -/
opaque freeDWord : Nat → BitVec 64

/-- SEQ of the entry that records a cause whose report is lost (R229), so that no entry does (log entry 3). The argument is LOST. -/
opaque lostSeq : Nat → Nat

/-- Whether an ECDSA P-384 signature verifies: the cryptography of FIPS 186-5 and FIPS 180-4 that R428 names by reference
(log entry 4). The arguments are the signed bytes, the public key and the signature. -/
opaque sigVerifies : List (BitVec 8) → List (BitVec 8) → List (BitVec 8) → Bool

/-- The SHA-384 digest of a byte string, as a number (FIPS 180-4, by reference; log entry 4). -/
opaque sha384 : List (BitVec 8) → Nat

/-- The 13 extended Hamming check bits over bytes 0x000 to 0x10B of a frame: R431 fixes the code and does not state the
arrangement of its columns (log entry 36). -/
opaque frameEcc : List (BitVec 8) → Nat

/-- What a region's frames configure (R398 to R401): the meaning of the configuration bits is not stated (log entry 36). The argument is
the frames' data, here and below. -/
opaque regionCfg : List (List (BitVec 8)) → Machine.RegionCfg
/-- What stands outside an inward crossing, of a region and a number, by the static frames (R396, R405; log entry 36). -/
opaque crossIn : List (List (BitVec 8)) → Nat → Nat → Machine.CrossFrom
/-- The clamp value of an inward or outward crossing of a region (R405; log entry 36). -/
opaque clamp : List (List (BitVec 8)) → Bool → Nat → Nat → Machine.Clamp
/-- The region and outward crossing behind a bit of a pin's TX port, if any (R403; log entry 36). -/
opaque pinTx : List (List (BitVec 8)) → Nat → Nat → Option (Nat × Nat)
/-- The region and outward crossing behind a pin's OE port, if any (R403; log entry 36). -/
opaque pinOe : List (List (BitVec 8)) → Nat → Option (Nat × Nat)
/-- The region and outward crossing behind a bit of a bank's CI, if any (R409, R411; log entry 36). -/
opaque bridgeCi : List (List (BitVec 8)) → Nat → Nat → Option (Nat × Nat)
/-- The value that the static frames preset in the EDG register at an offset of PF BAR0 (R430; log entry 36). -/
opaque edgPreset : List (List (BitVec 8)) → Nat → Nat

/-- The row of its pseudo-channel that holds a deep-store byte address: R332 fixes it and does not state it (log entry 34). -/
opaque dsRow : Nat → BitVec 24

/-- The unit type in bits [15:11] of an error-log entry's SOURCE: Table 7-9 names the field and no code of it (log entry 54). The
arguments are the entry's CODE and instance. -/
opaque unitType : Nat → Nat → BitVec 5

/-- SOURCE of an entry whose code no chapter gives a source (log entry 54). The arguments are the entry's CODE and the unit that
the report concerns. -/
opaque entrySource : Nat → Nat → BitVec 16

/-- The unit is a KT2192-E, with its limit of 105 °C, rather than a KT2192-A (R2, R269, Table 18-2): fused (log entry 39). -/
opaque gradeE : Bool

/-- Lomevo's PCI vendor ID: R340 names it and gives no number (log entry 99). -/
opaque vendorId : BitVec 16

/-- The unit's fused serial number (Table 18-2; log entry 39). -/
opaque serial : BitVec 64

/-- 1 % of the full scale of the range in which the hub-die temperature is converted, in units of 0.25 °C: R478 names it and
gives no figure for a temperature (log entry 40). -/
opaque tempBand : Nat

end Sys2Proof.Config
end

