-- ==== Sys2Proof/Word.lean ====
section
/-!
DEFINITION. The plain types that commands and state are written in: words, unit numbers (one finite type per
kind of numbered unit the manual counts), and the small enumerations an operand can name.
-/
namespace Sys2Proof

abbrev Byte := BitVec 8
abbrev Word := BitVec 32
abbrev DWord := BitVec 64

/-- Tenants 0 to 255; tenant 0 is the physical function and the administrator (R16). -/
abbrev TenId := Fin 256
/-- Logical tiles 0 to 191 (R16, R20). -/
abbrev TileId := Fin 192
/-- Physical tiles T000 to T199 (R16). -/
abbrev PTileId := Fin 200
/-- The 16 banks, slices, sprigs or result registers of a tile. -/
abbrev Lane16 := Fin 16
/-- Lattice links 0 to 143 of a module (Table 0-1). -/
abbrev LinkId := Fin 144
/-- Lattice modules 0 to 255 (R16). -/
abbrev ModId := Fin 256
/-- The 12 edge banks (Table 0-1). -/
abbrev EBank := Fin 12
/-- The 8 partially reconfigurable edge regions. -/
abbrev Region := Fin 8
/-- The 16 trigger sequencers, acquisition channels. -/
abbrev Unit16 := Fin 16
/-- The 8 trace sinks, submission rings, completion rings or ports of a function. -/
abbrev Ring8 := Fin 8
/-- The four deep-store stacks DS0 to DS3 (R16). -/
abbrev Stack4 := Fin 4

/-- What the code of a protected word finds when it is read (R141, R333): an operand of the commands that read
such words, because the error is an event of the storage cells and not of any state the manual gives. -/
inductive ErrFound where
  | clean
  | single
  | double
  | multi
deriving DecidableEq, Repr

/-- What the sequencer's own checks find at an operation (R105), an operand of the SEQ commands for the same reason:
nothing, a popped frame that fails PAR, or SP failing its parity. -/
inductive SeqFind where
  | ok | framePar | spPar
deriving DecidableEq, Repr

/-- A clock source of the root (chapter 16). -/
inductive ClkSrc where
  | none | iosc | xtal | ref
deriving DecidableEq, Repr

/-- How a host transfer ends (R364, Table 11-8): whole, with a failed host access after some bytes moved, or with a
poisoned line of the hub store. -/
inductive XferEnd where
  | ok
  | hostFault (moved : Nat)
  | poisoned
deriving DecidableEq, Repr

/-- What the other modules of a span answer to a START or STEP (R69, R164, R237, R299). -/
inductive SpanAns where
  | ok | noImage | noTiles | noPath
deriving DecidableEq, Repr

/-- What becomes of a word with an error that the hub reads from an array bank (R141, R143, R144). -/
inductive WordFind where
  | corrected | uncorrectable | miscorrected | undetected
deriving DecidableEq, Repr
/-- A word that a move reads with an error (R141, R207): what the code of its lanes made of it, image tile, bank, word, and, unless it
was corrected, the word as read. -/
structure BadWord where
  found : WordFind
  itile : TileId
  bank : Lane16
  word : BitVec 13
  raw : DWord
deriving DecidableEq, Repr

/-- What an EDG_ASSIGN_WRITE assigns (R404). -/
inductive EdgeUnit where
  | bank (g : EBank)
  | region (r : Region)
deriving DecidableEq, Repr

/-- The descriptor a command carries out, by its issuing function, submission ring, completion ring, TAG, FLAGS and
DSEQ (Table 12-6, R346). -/
structure DRef where
  fn : TenId
  sq : Ring8
  cq : Ring8
  tag : BitVec 16
  flags : Byte
  dseq : DWord
deriving DecidableEq, Repr

/-- One exchange slot as a packet on the XCH virtual channel (R58): the word of a net-store row, its tenant, the
image tile it leaves and enters, the arrival word, the occupant number, the ecycle and the destination's epoch. -/
structure Slot where
  ten : Nat
  src : Nat
  dst : Nat
  word : Nat
  occ : Nat
  ecyc : Nat
  epoch : Nat
  data : DWord
  remote : Bool
  dmod : Nat
deriving DecidableEq, Repr

/-- A request entry of a BND token (Table 10-11). -/
structure BndEnt where
  typ : Nat
  origin : Nat
  sub : Nat
  arg : Nat
  b : Nat
deriving DecidableEq, Repr

/-- A lattice token (R291, Table 10-10): type, tenant, origin module, the type-specific word, up to three 8-byte
payload words, the request entries of a BND (R292), the neighbour set of an NBR, and the MORE and FWD flags. -/
structure Token where
  typ : Nat
  ten : Nat
  origin : Nat
  word : Nat
  a : Nat := 0
  b : Nat := 0
  c : Nat := 0
  reqs : List BndEnt := []
  nbr : BitVec 256 := 0
  more : Bool := false
  fwd : Bool := false
deriving DecidableEq, Repr

/-- A NoC packet (Tables 11-2 and 11-3): virtual channel, operation, age class, tenant, nodes, epoch, ECYC / TAG, the
marks, and the bytes from 0x09 of the head flit onwards. -/
structure Pkt where
  vc : Nat
  op : Nat
  age : Nat := 0
  ten : Nat
  dest : Nat
  src : Nat
  epoch : Nat := 0
  tag : Nat := 0
  damaged : Bool := false
  poison : Bool := false
  body : List Byte := []
deriving DecidableEq, Repr

/-- A slot entry of an XCH frame (Table 10-6). -/
structure SlotEnt where
  dtile : Nat
  word : Nat
  epoch : Nat
  occ : Nat
  data : DWord
deriving DecidableEq, Repr

/-- A CTL body (Table 10-7). -/
structure Ctl where
  ack : Option (BitVec 12)
  nak : Bool
  xch : Nat
  pkt : Nat
  tok : Nat
  dtr : Nat
deriving DecidableEq, Repr

/-- A frame body (Table 10-5); a DTR body carries a frame of another link (R309). -/
inductive Body where
  | xch (ten ecyc dmod omod : Nat) (slots : List SlotEnt)
  | tok (k : Token)
  | pkt (p : Pkt)
  | dtr (dst org link iseq : Nat) (inner : Body)
  | ctl (c : Ctl)
deriving DecidableEq, Repr

/-- What a module reads from the far end's training sets (Table 10-9): the module and link that each lane names, the
flags, the tag, and the last SEQ received in order. -/
structure TrainSet where
  mod0 : ModId
  link0 : Nat
  mod1 : ModId
  link1 : Nat
  tag : BitVec 16
  idValid : Bool
  rxLocked : Bool
  ack : Bool
  fast : Bool
  loopReq : Bool
  loopAck : Bool
  sub : Bool
  subLane : Fin 2
  spare : Bool
  lastSeq : BitVec 12
deriving DecidableEq, Repr

/-- The 10-bit codes that the pins of a link's two lanes have brought since its command before (R279). -/
structure LineIn where
  lane0 : List (BitVec 10) := []
  lane1 : List (BitVec 10) := []
deriving DecidableEq, Repr

end Sys2Proof
end

