-- ==== Sys2Proof/Machine/Map.lean ====
section
/-!
DEFINITION. Finite tables by number, as lists of pairs, and byte memory in one canonical form: addresses strictly
rising and no entry equal to 0, the byte an unlisted address reads as (log entry 1).
-/
namespace Sys2Proof.Machine

/-- A table from numbers to values; the reader supplies what an unlisted number holds. -/
abbrev Map (α : Type) := List (Nat × α)

/-- The entry of number `k`, or `d` where none is listed. -/
def Map.get {α : Type} (m : Map α) (d : α) (k : Nat) : α :=
  match m with
  | [] => d
  | (k', v) :: r => if k' = k then v else Map.get r d k

/-- Gives number `k` the value `v`, keeping rising numbers. -/
def Map.set {α : Type} (m : Map α) (k : Nat) (v : α) : Map α :=
  match m with
  | [] => [(k, v)]
  | (k', v') :: r =>
    if k < k' then (k, v) :: (k', v') :: r
    else if k = k' then (k, v) :: r
    else (k', v') :: Map.set r k v

/-- Takes number `k` out of the table. -/
def Map.del {α : Type} (m : Map α) (k : Nat) : Map α :=
  m.filter (fun e => e.1 ≠ k)

/-- The numbers of the table are strictly rising. -/
def Map.sorted {α : Type} (m : Map α) : Bool :=
  match m with
  | [] => true
  | [_] => true
  | (a, _) :: (b, v) :: r => decide (a < b) && Map.sorted ((b, v) :: r)

/-- Byte memory: the cells that do not read 0. -/
abbrev Mem := List Host.Cell

/-- The byte at address `a`; an unlisted address reads 0 (log entry 1). -/
def Mem.read (m : Mem) (a : Nat) : Byte := Map.get m 0 a

/-- Writes one byte, keeping the canonical form. -/
def Mem.write (m : Mem) (a : Nat) (b : Byte) : Mem :=
  if b = 0 then Map.del m a else Map.set m a b

/-- The canonical form: rising addresses, and no cell that holds 0. -/
def Mem.wf (m : Mem) : Bool := Map.sorted m && m.all (fun c => c.2 ≠ 0)

/-- `n` bytes from address `a` upwards. -/
def Mem.readBytes (m : Mem) (a : Nat) : Nat → List Byte
  | 0 => []
  | n + 1 => m.read a :: Mem.readBytes m (a + 1) n

/-- Stores a list of bytes from address `a` upwards. -/
def Mem.writeBytes (m : Mem) (a : Nat) : List Byte → Mem
  | [] => m
  | b :: bs => Mem.writeBytes (m.write a b) (a + 1) bs

end Sys2Proof.Machine
end

