-- ==== Sys2Proof/Machine/Bits.lean ====
section
/-!
DEFINITION. Bit fields, byte order (R9) and the CRC-32C that sections, packages and frames carry.
-/
namespace Sys2Proof.Machine

/-- Bits [lsb + width − 1 : lsb] of a number. -/
def fld (w lsb width : Nat) : Nat := (w >>> lsb) % 2 ^ width

/-- Puts `v` into bits [lsb + width − 1 : lsb] of `w`. -/
def setFld (w lsb width v : Nat) : Nat :=
  w % 2 ^ lsb + ((v % 2 ^ width) <<< lsb) + ((w >>> (lsb + width)) <<< (lsb + width))

/-- Bit `i` of a number as 0 or 1. -/
def bit (w i : Nat) : Nat := fld w i 1

/-- A truth value as a bit. -/
def b2n (b : Bool) : Nat := if b then 1 else 0

/-- The little-endian number of a byte list (R9). -/
def leNat : List Byte → Nat
  | [] => 0
  | b :: bs => b.toNat + 256 * leNat bs

/-- The `n` little-endian bytes of a number (R9). -/
def leBytes (v : Nat) : Nat → List Byte
  | 0 => []
  | n + 1 => BitVec.ofNat 8 (v % 256) :: leBytes (v / 256) n

/-- The `n`-byte little-endian number at address `a`. -/
def Mem.le (m : Mem) (a n : Nat) : Nat := leNat (m.readBytes a n)

/-- Stores the `n` little-endian bytes of `v` at address `a`. -/
def Mem.putLE (m : Mem) (a n v : Nat) : Mem := m.writeBytes a (leBytes v n)

/-- Bytes `i` to `i + n − 1` of a byte list, as a little-endian number. -/
def leAt (bs : List Byte) (i n : Nat) : Nat := leNat ((bs.drop i).take n)

/-- One bit of the reflected CRC-32C division, eight times a byte. -/
def crcBits (c : Nat) : Nat → Nat
  | 0 => c
  | n + 1 => crcBits (if c % 2 = 1 then (c / 2) ^^^ 0x82F63B78 else c / 2) n

/-- CRC-32C of a byte list continued from register value `c`. -/
def crcFrom (c : Nat) : List Byte → Nat
  | [] => c
  | b :: bs => crcFrom (crcBits (c ^^^ b.toNat) 8) bs

/-- CRC-32C (Castagnoli) of a byte list. -/
def crc32c (bs : List Byte) : Nat := (crcFrom 0xFFFFFFFF bs) ^^^ 0xFFFFFFFF

/-- `n` zero bytes. -/
def zeros (n : Nat) : List Byte := List.replicate n 0

/-- Adds 1 and stays at `top` once there. -/
def satInc (v top : Nat) : Nat := if v < top then v + 1 else top

/-- Replaces the first element that meets `p`. -/
def replaceFirst {α : Type} (p : α → Bool) (f : α → α) : List α → List α
  | [] => []
  | x :: xs => if p x then f x :: xs else x :: replaceFirst p f xs

/-- Takes out the first element that meets `p`. -/
def removeFirst {α : Type} (p : α → Bool) : List α → List α
  | [] => []
  | x :: xs => if p x then xs else x :: removeFirst p xs

end Sys2Proof.Machine
end

