-- ==== Sys2Proof/Syntax.lean ====
section
/-!
DEFINITION. The commands the module takes: one constructor per row of spec/opcode_table.json. What a command carries
is what its rule names: the unit it acts on, the value written or received, and the figure measured.
-/
namespace Sys2Proof

inductive Instr where
  /-- VIN_ENTER_RANGE (R257). VIN enters its operating range and the device enters RESET and brings up its supplies. -/
  | vinEnterRange (sel : BitVec 2)
  /-- VIN_LEAVE_RANGE (R265). VIN leaves its range; outputs go fail-safe and domains fall; the device goes to KEEP or OFF. -/
  | vinLeaveRange
  /-- VBAT_RISE (R26). VBAT rises above 2.5 V with VIN absent and the device enters KEEP. -/
  | vbatRise
  /-- VBAT_FALL (R266). VBAT falls below 2.5 V without VIN and the backup domain resets. -/
  | vbatFall
  /-- RESET_PIN (R458). RESET_N stays low for the filter time and the device enters RESET. -/
  | resetPin (sel : BitVec 2)
  /-- PERST (R489). PERST_N low acts on the host interface as a link down. -/
  | perst
  /-- DEV_HOLD_RAISE (R28). Writing DEV_CTL.HOLD = 1 raises the HOLD condition. -/
  | devHoldRaise
  /-- DEV_HOLD_WITHDRAW (R26). Writing DEV_CTL.HOLD = 0 withdraws the HOLD condition. -/
  | devHoldWithdraw
  /-- FORCE_SAFE (R26). DEV_CTL.FORCE_SAFE written with the key enters SAFE with cause FORCED. -/
  | forceSafe (key : Byte)
  /-- SOFT_RESET (R26). DEV_CTL.SOFT_RESET written with the key enters RESET as if RESET_N were asserted. -/
  | softReset (key : Byte) (sel : BitVec 2)
  /-- POST_COMPLETE (R463). The power-on self-test ends and the device enters LOAD or SAFE. -/
  | postComplete (tiles : List PTileId) (cols : List (PTileId × Lane16 × BitVec 7)) (dies : List (Fin 8)) (unit : Fin 6) (sigs : List (PTileId × DWord))
  /-- CSP_BOOT_WAIT_EXPIRE (R441). LOAD's 1 s wait for a CSP push expires and selection proceeds from flash. -/
  | cspBootWaitExpire
  /-- CONFIG_LOAD_COMPLETE (R440). A configuration copy finishes loading and passes or fails, selecting IDLE, a further copy or SAFE. -/
  | configLoadComplete
  /-- RUN_START (R31). A RUN descriptor with CMD START requests the tenant to run. -/
  | runStart (d : DRef) (ten : TenId) (count : Word) (span : SpanAns)
  /-- RUN_STOP (R31). A RUN descriptor with CMD STOP requests the tenant to stop at the next boundary. -/
  | runStop (d : DRef) (ten : TenId) (count : Word)
  /-- RUN_STEP (R352). A RUN descriptor with CMD STEP requests n further ecycles. -/
  | runStep (d : DRef) (ten : TenId) (count : Word) (span : SpanAns)
  /-- RUN_RELEASE (R33). A RUN descriptor with CMD RELEASE clears the hold causes in force unless a persisting cause refuses it. -/
  | runRelease (d : DRef) (ten : TenId) (count : Word)
  /-- RUN_HOLD (R352). A RUN descriptor with CMD HOLD raises hold cause ADMIN for the tenant. -/
  | runHold (d : DRef) (ten : TenId) (count : Word)
  /-- STEP_COUNT_EXPIRE (R56). A STEPPING count reaches 0 and the tenant stops at that boundary. -/
  | stepCountExpire (ten : TenId)
  /-- STEP_FETCH (R49). The sequencer raises the fetch request of a step once the next address is formed and the pacer permits. -/
  | stepFetch (l : TileId) (delayed : Bool)
  /-- STEP_GATE (R50). The gate of a step opens once fetch has completed, the previous write has ended and every read arrival word and result is ready. -/
  | stepGate (l : TileId)
  /-- STEP_EVALUATE (R139). The evaluate phase runs once bank queues, slice input stages and deep-command slots have room. -/
  | stepEvaluate (l : TileId) (held : BitVec 16)
  /-- STEP_WRITE (R44). The write phase runs once the send queue has room for every slot of the step. -/
  | stepWrite (l : TileId)
  /-- SEQ_NEXT (R96). Control operation NEXT continues at s + 1, subject to loop-end detection. -/
  | seqNext (l : TileId) (e : SeqFind)
  /-- SEQ_END (R52). Control operation END ends the tile's ecycle after the step. -/
  | seqEnd (l : TileId) (e : SeqFind)
  /-- SEQ_JUMP (R96). Control operation JUMP continues at ADDR. -/
  | seqJump (l : TileId)
  /-- SEQ_LOOP (R97). Control operation LOOP pushes a LOOP frame and enters the body. -/
  | seqLoop (l : TileId) (e : SeqFind)
  /-- SEQ_CALL (R96). Control operation CALL pushes a CALL frame and continues at ADDR. -/
  | seqCall (l : TileId) (e : SeqFind)
  /-- SEQ_RET (R96). Control operation RET pops a CALL frame and returns. -/
  | seqRet (l : TileId) (e : SeqFind)
  /-- SEQ_TRAP (R106). Control operation TRAP tests its condition, counts it and may deliver an event or take an exception. -/
  | seqTrap (l : TileId) (e : SeqFind)
  /-- SEQ_RETX (R110). Control operation RETX pops an EXC frame and resumes or enters double fault. -/
  | seqRetx (l : TileId) (e : SeqFind)
  /-- STACK_SPILL_ACCESS (R102). A spill write or fill read of bank 15 completes for a push or pop beyond the on-chip entries. -/
  | stackSpillAccess (l : TileId) (err : ErrFound) (parFails spBad : Bool)
  /-- MAC_MUL (R125). MAC command MUL loads the product into the accumulator. -/
  | macMul (l : TileId) (p : Lane16)
  /-- MAC_MAC (R125). MAC command MAC adds the product to the accumulator. -/
  | macMac (l : TileId) (p : Lane16)
  /-- MAC_MSUB (R125). MAC command MSUB subtracts the product from the accumulator. -/
  | macMsub (l : TileId) (p : Lane16)
  /-- MAC_CAS (R125). MAC command CAS adds the product to the cascade from the slice below. -/
  | macCas (l : TileId) (p : Lane16)
  /-- MAC_READ (R125). MAC command READ delivers the accumulator half to a result register. -/
  | macRead (l : TileId) (p : Lane16)
  /-- ARRAY_READ (R138). The bank performs a READ and delivers the lane. -/
  | arrayRead (l : TileId) (p : Lane16) (err : ErrFound)
  /-- ARRAY_WRITE (R138). The bank performs a WRITE of the lane, delivering the old lane if asked. -/
  | arrayWrite (l : TileId) (p : Lane16) (err : ErrFound)
  /-- ARRAY_SET (R137). The bank performs an atomic SET of the lane. -/
  | arraySet (l : TileId) (p : Lane16) (err : ErrFound)
  /-- ARRAY_CLEAR (R137). The bank performs an atomic CLEAR of the lane. -/
  | arrayClear (l : TileId) (p : Lane16) (err : ErrFound)
  /-- ARRAY_SCRUB (R145). The scrubber reads and corrects the next word of a bank. -/
  | arrayScrub (l : TileId) (p : Lane16) (err : ErrFound)
  /-- DEEP_DREAD (R149). The hub performs a DREAD of a deep memory and returns the lane. -/
  | deepDread (ten : TenId) (memid : Fin 64) (err : ErrFound)
  /-- DEEP_DWRITE (R149). The hub performs a DWRITE of a deep memory. -/
  | deepDwrite (ten : TenId) (memid : Fin 64) (err : ErrFound) (wbad : Bool)
  /-- DEEP_DSET (R149). The hub performs an atomic DSET of a deep memory. -/
  | deepDset (ten : TenId) (memid : Fin 64) (err : ErrFound) (wbad : Bool)
  /-- DEEP_DCLEAR (R149). The hub performs an atomic DCLEAR of a deep memory. -/
  | deepDclear (ten : TenId) (memid : Fin 64) (err : ErrFound) (wbad : Bool)
  /-- SLOT_ARRIVE (R60). An XCH SLOT packet enters its arrival word, or is discarded or treated as a path fault. -/
  | slotArrive (p : Slot) (damaged : Bool)
  /-- CREDIT_ARRIVE (R60). An XCH CREDIT packet returns a credit for the next occupant of a word. -/
  | creditArrive (ten : TenId) (src dst : TileId) (word : Lane16) (occ : Nat) (ecyc : Nat)
  /-- SEND_SLOT_DEPART (R63). A queued slot leaves the send queue once it holds its credit. -/
  | sendSlotDepart (l : TileId) (i : Nat)
  /-- TILE_END_REPORT (R55). A tile reports the end of an ecycle to the boundary collector once its commands have completed. -/
  | tileEndReport (l : TileId)
  /-- START_GRANT (R55). The boundary collector grants a tile the start of its next ecycle once every condition holds. -/
  | startGrant (l : TileId) (pins : List DWord)
  /-- CHECKPOINT_DUE (R209). A regular checkpoint boundary is reached and the tenant stops for its checkpoint. -/
  | checkpointDue (ten : TenId)
  /-- SCH_LSYNC_WRITE (R71). A write of SCH_LSYNC WINDOW retests the link buffers and recomputes LAG and the checkpoint interval. -/
  | schLsyncWrite (t : TenId) (window : BitVec 4)
  /-- IMAGE_COMMIT (R161). An IMAGE_COMMIT descriptor starts the load check of a tenant image. -/
  | imageCommit (d : DRef) (ten : TenId) (off len : DWord)
  /-- LOAD_CHECK_COMPLETE (R162). The load check ends, accepting the image or refusing it with a check code. -/
  | loadCheckComplete (ten : TenId)
  /-- IMAGE_DISCARD (R354). An IMAGE_DISCARD descriptor removes the tenant's image. -/
  | imageDiscard (d : DRef) (ten : TenId)
  /-- TIL_CONTRACT_CLEAR (R171). Writing TIL_CONTRACT.CLEAR clears the tile's stall counters and VIOL. -/
  | tilContractClear (n : PTileId)
  /-- HAZARD_REPORT_POST (R175). A pending hazard report is posted once its ring has a free entry. -/
  | hazardReportPost (ten : TenId)
  /-- SCH_DEBUG_WRITE (R172). A write of SCH_DEBUG changes the detector settings if the tenant is stopped. -/
  | schDebugWrite (t : TenId) (v : Word)
  /-- TAPS_PACKET (R179). An MGT TAPS packet delivers tap records to the trigger unit. -/
  | tapsPacket (l : TileId)
  /-- TRAP_EVT (R179). An MGT TRAP_EVT packet delivers a trap event to the trigger unit. -/
  | trapEvt (l : TileId)
  /-- TRIGGER_EVALUATE (R182). An armed sequencer evaluates once the tap vector of an ecycle is complete. -/
  | triggerEvaluate (q : Unit16) (span : SpanAns)
  /-- TRIG_IN_EDGE (R194). A rising edge on TRIG_IN latches the TI term and may raise a hold. -/
  | trigInEdge (i : Fin 4) (level : Bool) (span : SpanAns)
  /-- TRIG_TIMER_EXPIRE (R186). A sequencer timer reaches its target. -/
  | trigTimerExpire (q : Unit16) (i : Fin 2) (span : SpanAns)
  /-- TRIG_HOLDOFF_END (R187). A sequencer's hold-off ends. -/
  | trigHoldoffEnd (q : Unit16)
  /-- TRIG_OUT_PULSE_END (R195). A PULSE-mode TRIG_OUT pulse reaches its width and falls. -/
  | trigOutPulseEnd (i : Fin 4)
  /-- TRG_OWNER_WRITE (R180). Tenant 0 writes a sequencer's OWNER, disarming and clearing it. -/
  | trgOwnerWrite (q : Unit16) (by' owner : TenId)
  /-- TRG_ARM (R182). Writing TRG_CTL.ARM = 1 arms the sequencer in its INIT state. -/
  | trgArm (q : Unit16) (by' : TenId) (init : BitVec 4) (ring : Ring8)
  /-- TRG_DISARM (R182). Writing TRG_CTL.ARM = 0 disarms the sequencer. -/
  | trgDisarm (q : Unit16) (by' : TenId)
  /-- TRG_SWEV (R184). Writing TRG_CTL.SWEV latches the software term. -/
  | trgSwev (q : Unit16) (by' : TenId) (span : SpanAns)
  /-- ACQ_RUN_START (R198). Writing ACQ_CTL.RUN = 1 starts a channel with a START mark. -/
  | acqRunStart (c : Unit16) (by' : TenId)
  /-- ACQ_RUN_STOP (R198). Writing ACQ_CTL.RUN = 0 stops a channel with a STOP mark. -/
  | acqRunStop (c : Unit16) (by' : TenId)
  /-- ACQ_OWNER_WRITE (R198). Writing ACQ_CTL.OWNER puts the channel in OFF. -/
  | acqOwnerWrite (c : Unit16) (by' owner : TenId)
  /-- ACQ_RECORD_LANDED (R196). An acquisition record lands in the deep store and WIDX advances. -/
  | acqRecordLanded (c : Unit16) (bad : BitVec 10)
  /-- ACQ_GAP_ROOM (R198). Staging room returns to a WRAP channel and a GAP mark is written. -/
  | acqGapRoom (c : Unit16)
  /-- ACQ_PACING_ROOM (R198). Room returns to a PACING channel and the waiting DATA record is written. -/
  | acqPacingRoom (c : Unit16)
  /-- ACQ_PACE_TIMEOUT (R198). PACE_LIMIT elapses in PACING and the channel stops with PACE_TIMEOUT. -/
  | acqPaceTimeout (c : Unit16) (ms : BitVec 16)
  /-- ACQ_RIDX_WRITE (R196). Software advances an acquisition ring's RIDX. -/
  | acqRidxWrite (c : Unit16) (by' : TenId) (v : DWord)
  /-- CAPTURE (R353). A CAPTURE descriptor requests a HOST or SAFE capture. -/
  | capture (d : DRef) (ten : TenId)
  /-- CAPTURE_MOVE_START (R204). A capture, checkpoint or swap-out reaches the queue head, receives hub-store space and moves the tile state. -/
  | captureMoveStart
  /-- CAPTURE_MOVE_DONE (R204). The last tile has emptied its state into the hub store and the boundary is released. -/
  | captureMoveDone (bad : List BadWord)
  /-- CAPTURE_LANDED (R204). A capture record lands in the deep store and its completion is posted. -/
  | captureLanded (pathOk : Bool) (bad : Option Word)
  /-- CAP_RIDX_WRITE (R202). Software releases capture slots by writing CAP_RIDX. -/
  | capRidxWrite (by' t : TenId) (n : BitVec 16)
  /-- CAPTURE_AREA (R354). A CAPTURE_AREA descriptor sets the tenant's capture ring. -/
  | captureArea (d : DRef) (ten : TenId) (off : DWord) (slots : Byte)
  /-- CHECKPOINT_LANDED (R211). A checkpoint's last byte lands in the deep store. -/
  | checkpointLanded (ten : TenId) (bad : Option Word)
  /-- WATCHDOG_EXPIRE (R218). A tile's wait reaches WDOG and starts recovery of its tenant. -/
  | watchdogExpire (l : TileId) (more : List TileId)
  /-- RECOVERY_PLACEMENT (R216). The faulty tile is placed on a spare, rebound or the tenant swapped out, and epochs advanced. -/
  | recoveryPlacement (ten : TenId)
  /-- RESTORE_COMPLETE (R219). The journal is applied and the tiles are loaded from the restored checkpoint. -/
  | restoreComplete (ten : TenId) (newBad oldBad : Bool)
  /-- DRAIN_MARKER (R221). An XCH DRAIN marker packet is returned confirming the old epoch has drained. -/
  | drainMarker (marker : BitVec 16)
  /-- PARTITION_TIMEOUT (R227). A remote wait reaches the partition timeout and the tenant is held with PARTITION. -/
  | partitionTimeout (ten : TenId) (ms : Nat)
  /-- LATE_ERROR_PACKET (R228). A late-error packet reaches the origin module and is logged and queued for posting. -/
  | lateErrorPacket (ten : TenId) (ring status : Byte) (tag : BitVec 16) (dseq addr : DWord) (mod : ModId) (memid : Byte) (tile : BitVec 16)
  /-- ERROR_LOG_INTAKE (R229). The intake moves a waiting report into the error-log ring. -/
  | errorLogIntake
  /-- ERR_LOG_RIDX_WRITE (R229). Tenant 0 frees error-log entries by writing RIDX. -/
  | errLogRidxWrite (v : Word)
  /-- ERR_CKPT_CFG_WRITE (R209). Tenant 0 writes a tenant's checkpoint configuration, refused for sizes while an image is loaded. -/
  | errCkptCfgWrite (t : TenId) (v : Word)
  /-- SLICE_END (R242). A tenant's slice ends and the scheduler makes a placement decision. -/
  | sliceEnd (ten : TenId)
  /-- SWAP_START (R245). A swap starts once it can reserve its deep-store rate. -/
  | swapStart
  /-- SWAP_OUT_EMPTIED (R243). The victim's last tile has emptied and the victim becomes SWAPPED. -/
  | swapOutEmptied (v : TenId) (bad : List BadWord)
  /-- SWAP_IN_LOADED (R244). Every tile of the incoming tenant is loaded and its start is granted. -/
  | swapInLoaded (bad : Bool)
  /-- SWAP_DRAIN_DONE (R243). The victim state drains from the hub store to its swap slot. -/
  | swapDrainDone (ten : TenId)
  /-- REBALANCE (R239). A REBALANCE descriptor moves image tiles to new logical tiles under REFIT. -/
  | rebalance (d : DRef) (ten : TenId) (pairs : List (Byte × Byte))
  /-- SCH_TREGION_WRITE (R233). Tenant 0 writes a tenant's deep-store region base or size. -/
  | schTregionWrite (t : TenId) (size : Bool) (v : Word)
  /-- SCH_TCFG_WRITE (R237). Tenant 0 writes a tenant's group, weight or pin. -/
  | schTcfgWrite (t : TenId) (v : Word)
  /-- SCH_BW_CLASS_WRITE (R250). Tenant 0 writes a token class's minimum share. -/
  | schBwClassWrite (c : Fin 6) (v : Word)
  /-- TOKEN_WINDOW (R250). A 1 µs token window distributes bandwidth tokens by reservation, minimum and priority. -/
  | tokenWindow
  /-- MSG_OUT_RELEASE (R254). A processed message is released in key order by posting its completion. -/
  | msgOutRelease (ten : TenId) (cq : Ring8)
  /-- BASIL_EVALUATE (R268). Basil evaluates the budget once per millisecond and sets cap, voltage and hub level. -/
  | basilEvaluate (used : List Word) (lk : BitVec 16) (loads : List (BitVec 16)) (waited : Bool) (share : BitVec 10)
  /-- FAST_CAP (R259). The input current reaches 15.2 A and Basil sets the fast cap. -/
  | fastCap (iin : BitVec 16)
  /-- LIMIT_TRIP (R260). The input limiter holds the current at its limit for 1 ms and the device enters SAFE. -/
  | limitTrip (vin : BitVec 16)
  /-- PHASE_SHED (R261). A converter phase leaves its window and is shed in favour of the spare. -/
  | phaseShed (c : Fin 14) (p : Fin 7)
  /-- CONVERTER_OUT_OF_WINDOW (R261). A converter output leaves its window for 20 µs and the device enters SAFE. -/
  | converterOutOfWindow (c : Fin 14)
  /-- DOMAIN_FAULT (R262). A domain leaves its window for 20 µs with the outcome of its table row. -/
  | domainFault (d : Fin 66)
  /-- DOMAIN_IDLE_OFF (R263). A tile-group domain unused for IDLE_MS is switched off. -/
  | domainIdleOff (d : Fin 66)
  /-- DOMAIN_POWER_GOOD (R263). A requested domain comes up good and the waiting swap may begin. -/
  | domainPowerGood (d : Fin 66)
  /-- PWR_DOM_CTL_WRITE (R262). Tenant 0 requests a domain off or on. -/
  | pwrDomCtlWrite (d : Fin 66) (en : Bool)
  /-- VT_MOVE_DONE (R273). A tile-voltage or hub-level move reaches its target rail and the rate is raised if needed. -/
  | vtMoveDone (hub : Bool)
  /-- SMALL_CONFIG_ENTER (R275). The small-configuration condition has held for IDLE_MS and Basil enters it. -/
  | smallConfigEnter
  /-- FULL_CONFIG_DONE (R275). The change to the full configuration completes and the waiting domain is powered. -/
  | fullConfigDone
  /-- LINK_DETECT_LOCK (R296). Both lanes lock in DETECT and the link enters TRAIN. -/
  | linkDetectLock (l : LinkId)
  /-- LINK_DETECT_TIMEOUT (R296). DETECT passes 2 ms without lock and restarts. -/
  | linkDetectTimeout (l : LinkId) (bad : Option (Fin 2))
  /-- LINK_TRAIN_DONE (R296). Both lanes are aligned and deskewed and the link enters IDENT. -/
  | linkTrainDone (l : LinkId) (swap : Bool) (pol : BitVec 2)
  /-- LINK_TRAIN_TIMEOUT (R296). TRAIN passes 1 ms without success and the link returns to DETECT. -/
  | linkTrainTimeout (l : LinkId)
  /-- TS_RECEIVE (R298). A training set is received and checked; IDENT may complete to UP. -/
  | tsReceive (l : LinkId) (line : LineIn) (ts : TrainSet) (rtt : BitVec 16)
  /-- LINK_IDENT_RETRY (R298). A failed IDENT check is retried after 1 ms. -/
  | linkIdentRetry (l : LinkId)
  /-- LINK_FAST_RT_ENTER (R304). Loss of signal, code errors, the resend limit or acknowledgement timeouts start FAST_RT. -/
  | linkFastRtEnter (l : LinkId) (line : LineIn) (cause : Fin 4)
  /-- LINK_FAST_RT_TIMEOUT (R304). FAST_RT does not reach UP within 100 µs and the link enters FULL_RT. -/
  | linkFastRtTimeout (l : LinkId) (bad : Option (Fin 2))
  /-- LINK_FULL_RT_TIMEOUT (R304). FULL_RT does not reach UP within 1 ms and the link goes DOWN. -/
  | linkFullRtTimeout (l : LinkId)
  /-- LINK_DOWN_RETRY (R296). A DOWN link retries bring-up every 10 ms. -/
  | linkDownRetry (l : LinkId)
  /-- FRAME_RECEIVE_XCH (R282). An XCH frame is received and its slots enter the exchange receive buffer. -/
  | frameReceiveXch (l : LinkId) (line : LineIn) (seq : BitVec 12) (damaged : Bool) (ten : TenId) (ecyc : BitVec 16) (dmod omod : ModId) (slots : List SlotEnt)
  /-- SLOT_FORWARD (R65). A buffered remote slot is forwarded to the spine once its destination grants credit. -/
  | slotForward (l : LinkId) (i : Nat)
  /-- FRAME_RECEIVE_PKT (R281). A PKT frame is received and its packet forwarded onto the spine. -/
  | frameReceivePkt (l : LinkId) (line : LineIn) (seq : BitVec 12) (damaged : Bool) (p : Pkt)
  /-- FRAME_RECEIVE_DTR (R309). A DTR frame is relayed toward its destination or processed as its inner frame. -/
  | frameReceiveDtr (l : LinkId) (line : LineIn) (seq : BitVec 12) (damaged : Bool) (dst org : ModId) (link : LinkId) (iseq : BitVec 12) (inner : Body)
  /-- FRAME_RECEIVE_CTL (R287). A CTL frame acknowledges frames, requests resends and returns credit. -/
  | frameReceiveCtl (l : LinkId) (line : LineIn) (damaged : Bool) (c : Ctl)
  /-- FRAME_TRANSMIT (R289). At a gap the transmitter sends the highest-priority due item. -/
  | frameTransmit (l : LinkId) (ctlDue skpDue : Bool) (delay : BitVec 10)
  /-- RETRY_ACK_TIMEOUT (R287). 4 µs pass with frames outstanding and every unacknowledged frame is resent. -/
  | retryAckTimeout (l : LinkId)
  /-- FMK_SEND (R290). A link sends a frame mark at the first gap after each Thyme microsecond. -/
  | fmkSend (l : LinkId) (delay : BitVec 10)
  /-- FMK_RECEIVE (R290). A frame mark is received, stamped and delivered to time and trimming. -/
  | fmkReceive (l : LinkId) (line : LineIn) (mseq : BitVec 16) (delay : BitVec 10) (tvalid : Bool) (src : ModId) (stratum : Byte) (crcBad : Bool) (sub : Fin 80)
  /-- TOKEN_BND (R67). A BND token is applied, counting toward the start window and carrying requests. -/
  | tokenBnd (l : LinkId) (line : LineIn) (seq : BitVec 12) (damaged : Bool) (k : Token)
  /-- TOKEN_REPLAY (R225). A REPLAY token starts restore and replay of a spanning tenant. -/
  | tokenReplay (l : LinkId) (line : LineIn) (seq : BitVec 12) (damaged : Bool) (k : Token)
  /-- TOKEN_PACE (R200). A PACE token restarts the partition count for the tenant. -/
  | tokenPace (l : LinkId) (line : LineIn) (seq : BitVec 12) (damaged : Bool) (k : Token)
  /-- TOKEN_DRAIN (R221). A DRAIN token marker is returned or forwarded. -/
  | tokenDrain (l : LinkId) (line : LineIn) (seq : BitVec 12) (damaged : Bool) (k : Token)
  /-- TOKEN_PARTX (R227). A PARTX token exchanges c_m and checkpoints to resolve a partition. -/
  | tokenPartx (l : LinkId) (line : LineIn) (seq : BitVec 12) (damaged : Bool) (k : Token)
  /-- TOKEN_LHOLD (R294). An LHOLD token is forwarded and raises or withdraws the lattice hold. -/
  | tokenLhold (l : LinkId) (line : LineIn) (seq : BitVec 12) (damaged : Bool) (k : Token)
  /-- TOKEN_NBR (R295). An NBR token updates a neighbour's link set. -/
  | tokenNbr (l : LinkId) (line : LineIn) (seq : BitVec 12) (damaged : Bool) (k : Token)
  /-- NBR_SEND (R295). A module sends NBR on its up links at least every 1 ms. -/
  | nbrSend
  /-- PACE_NOTICE_SEND (R200). A pacing or swapping module sends a pace notice every 0.5 ms. -/
  | paceNoticeSend (ten : TenId)
  /-- LINK_SLEEP_ENTER (R303). An idle transmitter sends SLP and sleeps after IDLE_US. -/
  | linkSleepEnter (l : LinkId)
  /-- LINK_WAKE (R303). A sleeping transmitter wakes with a WAK burst. -/
  | linkWake (l : LinkId)
  /-- LNK_ENABLE (R296). Writing LNK_CTL.ENABLE = 1 lets the link train. -/
  | lnkEnable (l : LinkId)
  /-- LNK_DISABLE (R300). Writing LNK_CTL.ENABLE = 0 sends the link to OFF. -/
  | lnkDisable (l : LinkId)
  /-- LNK_MODE_WRITE (R300). Writing LNK_CTL.MODE enters a test mode or returns to NORMAL. -/
  | lnkModeWrite (l : LinkId) (mode : BitVec 3) (prbs : BitVec 2)
  /-- LNK_RETRAIN (R304). Writing LNK_CTL.RETRAIN starts FULL_RT. -/
  | lnkRetrain (l : LinkId)
  /-- LNK_CLR_CNT (R302). Writing LNK_CTL.CLR_CNT clears the link's counters. -/
  | lnkClrCnt (l : LinkId)
  /-- LNK_ID_WRITE (R298). Writing LNK_ID sets the module ID and retrains links if no loaded image names them. -/
  | lnkIdWrite (id : ModId) (valid : Bool) (tag : BitVec 16)
  /-- PKT_REQ_WRITE (R317). A REQ WRITE packet writes lines at its destination. -/
  | pktReqWrite (p : Pkt) (ce : Option (BitVec 12))
  /-- PKT_REQ_READ (R317). A REQ READ packet reads lines and answers with DATA. -/
  | pktReqRead (p : Pkt) (ce : Option (BitVec 12)) (err : ErrFound)
  /-- PKT_REQ_DEEP (R328). A REQ DEEP packet enters its memory's ordered queue. -/
  | pktReqDeep (ten : TenId) (memid : Fin 64) (damaged : Bool)
  /-- PKT_REQ_REG_RD (R317). A REQ REG_RD packet reads a tile register. -/
  | pktReqRegRd (p : Pkt) (ce : Option (BitVec 12))
  /-- PKT_REQ_REG_WR (R317). A REQ REG_WR packet writes a tile register. -/
  | pktReqRegWr (p : Pkt) (ce : Option (BitVec 12))
  /-- PKT_RSP_DATA (R317). A RSP DATA packet delivers lines to the requester. -/
  | pktRspData (p : Pkt) (ce : Option (BitVec 12))
  /-- PKT_RSP_DEEP_RES (R150). A DEEP_RES packet delivers a deep result or failure status into a result register. -/
  | pktRspDeepRes (ten : TenId) (tile : TileId) (i : Nat) (damaged : Bool)
  /-- PKT_RSP_REG_DATA (R317). A REG_DATA packet returns a tile register value. -/
  | pktRspRegData (p : Pkt) (ce : Option (BitVec 12))
  /-- PKT_RSP_ERROR (R317). A RSP ERROR packet completes a request with a failure status. -/
  | pktRspError (p : Pkt) (ce : Option (BitVec 12))
  /-- PKT_MGT_STOP (R317). An MGT STOP packet reports that a tile has stopped. -/
  | pktMgtStop (p : Pkt) (ce : Option (BitVec 12))
  /-- PKT_MGT_FAULT (R317). An MGT FAULT packet reports a detection to the fault manager. -/
  | pktMgtFault (p : Pkt) (ce : Option (BitVec 12))
  /-- DS_PATROL_READ (R334). The patrol scrub reads and corrects the next deep-store line. -/
  | dsPatrolRead (k : Stack4) (err : ErrFound)
  /-- DS_ROW_REPAIR_DONE (R335). A soft post-package repair completes and waiting accesses proceed. -/
  | dsRowRepairDone (k : Stack4) (pc : Fin 32) (row : BitVec 24)
  /-- DS_TEMP_READ (R336). A stack temperature is read every 1 ms, setting doubled refresh or the hot limit. -/
  | dsTempRead (k : Stack4) (t : Byte)
  /-- SQ_DOORBELL (R345). Software writes a submission doorbell announcing new descriptors. -/
  | sqDoorbell (fn : TenId) (r : Ring8) (value : Word)
  /-- CQ_HEAD_WRITE (R347). Software writes a completion consumer index, freeing entries. -/
  | cqHeadWrite (fn : TenId) (r : Ring8) (value : Word)
  /-- SQ_ENABLE (R348). Writing ENABLE = 1 enables a submission ring with zeroed indices. -/
  | sqEnable (fn : TenId) (r : Ring8) (log2 : BitVec 5) (cq : Ring8)
  /-- SQ_DISABLE (R348). Writing ENABLE = 0 stops a submission ring fetching. -/
  | sqDisable (fn : TenId) (r : Ring8)
  /-- CQ_ENABLE (R348). Writing ENABLE = 1 enables a completion ring with zeroed indices. -/
  | cqEnable (fn : TenId) (r : Ring8) (log2 : BitVec 5) (ien : Bool) (vector : Ring8) (coalCnt coalUs : Byte)
  /-- CQ_DISABLE (R348). Writing ENABLE = 0 disables a completion ring and discards its completions. -/
  | cqDisable (fn : TenId) (r : Ring8)
  /-- DESCRIPTOR_FETCH (R346). The device fetches an announced descriptor from a submission ring. -/
  | descriptorFetch (fn : TenId) (r : Ring8) (bytes : List Byte)
  /-- DESCRIPTOR_START (R346). A fetched descriptor starts once its ring has room, a completion entry is reserved and any fence is met. -/
  | descriptorStart (fn : TenId) (r : Ring8)
  /-- DESC_NOP (R354). A NOP descriptor completes at once. -/
  | descNop (d : DRef)
  /-- DESC_WRITE_DEEP (R351). A WRITE_DEEP descriptor moves host bytes into the deep store. -/
  | descWriteDeep (d : DRef) (ten : TenId) (hostAddr : DWord) (deepOff : DWord) (len : Word)
  /-- DESC_READ_DEEP (R351). A READ_DEEP descriptor moves deep-store bytes to the host. -/
  | descReadDeep (d : DRef) (ten : TenId) (hostAddr : DWord) (deepOff : DWord) (len : Word)
  /-- MSG_BIND (R357). A MSG_BIND descriptor binds or unbinds a port to a deep memory. -/
  | msgBind (d : DRef) (port : Byte) (dir : Byte) (memid : Byte) (cq : Byte)
  /-- MSG_IN (R361). A MSG_IN descriptor reads a message from the host into staging. -/
  | msgIn (d : DRef) (port : Byte) (len : BitVec 16) (hostAddr : DWord)
  /-- MSG_IN_LAND (R361). A staged message lands in its in port at a start grant and is logged. -/
  | msgInLand (ten : TenId) (port : Ring8)
  /-- MSG_OUT (R359). A MSG_OUT descriptor posts a buffer for an out port. -/
  | msgOut (d : DRef) (port : Byte) (cap : Word) (hostAddr : DWord)
  /-- MSG_OUT_PROCESS (R359). A DMA engine writes a staged message into its buffer once one is available. -/
  | msgOutProcess (ten : TenId) (port : Ring8) (res : XferEnd)
  /-- DMA_TRANSFER_DONE (R364). A host transfer finishes or fails with HOST_FAULT. -/
  | dmaTransferDone (d : DRef) (bytes : List Byte) (res : XferEnd)
  /-- COMPLETION_POST (R356). A completion is written to its ring once an entry is free. -/
  | completionPost (fn : TenId) (cq : Ring8)
  /-- MSIX_COALESCE_TIMER (R362). COAL_US expires and the CQ signals its MSI-X vector. -/
  | msixCoalesceTimer (fn : TenId) (cq : Ring8)
  /-- FLR (R363). A Function Level Reset disables the function's rings and resets its page. -/
  | flr (fn : TenId)
  /-- D3HOT_ENTER (R363). A function entering D3hot acts as an FLR on its rings. -/
  | d3hotEnter (fn : TenId)
  /-- VF_ENABLE_CLEAR (R363). VF Enable cleared acts as FLR on every VF. -/
  | vfEnableClear
  /-- HOT_RESET (R363). A hot reset or link down acts as FLR on every function. -/
  | hotReset
  /-- BME_CLEAR (R363). Clearing Bus Master Enable makes fetching, posting and transfers wait. -/
  | bmeClear (fn : TenId)
  /-- PCLK_TRIP (R363). The PCLK monitor trips and the PCIe link goes down. -/
  | pclkTrip
  /-- SMB_SET_POINTER (R366). SMBus command 0x10 sets the address pointer. -/
  | smbSetPointer (off : Word) (pec : Bool)
  /-- SMB_BLOCK_READ (R366). SMBus command 0x11 reads the register at the pointer and advances it. -/
  | smbBlockRead (pec : Bool)
  /-- SMB_BLOCK_WRITE (R366). SMBus command 0x12 writes the register at the pointer and advances it. -/
  | smbBlockWrite (v : Word) (pec : Bool)
  /-- SMB_TIMEOUT (R367). An SMBus line stays low for 35 ms and the port resets, possibly declaring itself dead. -/
  | smbTimeout (dat : Bool)
  /-- SMB_REVIVED (R367). Both SMBus lines stay high for 10 ms and the dead port returns to service. -/
  | smbRevived
  /-- THY_INC_APPLY (R370). Writing THY_INC_NS applies the staged increment at the next tick. -/
  | thyIncApply (v : BitVec 4)
  /-- THY_SET (R371). Writing THY_CTL.SET loads Thyme and marks it valid. -/
  | thySet
  /-- THY_ADJ (R371). Writing THY_ADJ steps Thyme by signed nanoseconds. -/
  | thyAdj (v : Word)
  /-- THY_SOURCE_LOSS (R376). No valid mark arrives on the source link for 5 µs and the module changes source or enters holdover. -/
  | thySourceLoss
  /-- THY_SOURCE_PREFER (R376). A better link has been preferred for 1 ms and becomes the source. -/
  | thySourcePrefer (l : LinkId)
  /-- THYME_MARK_IN_EDGE (R379). A rising edge on THYME_MARK_IN is stamped and steers Thyme in MARK_IN. -/
  | thymeMarkInEdge
  /-- MARK_IN_HOLDOVER (R379). No MARK_IN edge for 1.5 s puts Thyme in holdover. -/
  | markInHoldover
  /-- MARK_OUT_RISE (R380). Thyme reaches a period instant and THYME_MARK_OUT rises. -/
  | markOutRise
  /-- MARK_OUT_FALL (R380). The mark output pulse width elapses and the pin falls. -/
  | markOutFall
  /-- TSTART_ARM (R381). Tenant 0 arms a timed-start slot. -/
  | tstartArm (k : Fin 4) (step : Bool) (ten : TenId)
  /-- TSTART_FIRE (R381). Thyme reaches T and the slot raises its START or STEP. -/
  | tstartFire (k : Fin 4) (span : SpanAns)
  /-- TRACE_PACKET_ENTER (R387). A source packet enters sink staging or is dropped by priority. -/
  | tracePacketEnter
  /-- TRACE_DRAIN (R393). A staged packet drains to its sink ring once the ring has room. -/
  | traceDrain (k : Ring8) (bad : BitVec 10)
  /-- SINK_ENABLE (R393). Writing CHV_SINK_CTL.EN = 1 enables a sink with a SYNC START. -/
  | sinkEnable (k : Ring8)
  /-- SINK_DISABLE (R393). Writing CHV_SINK_CTL.EN = 0 places CLOSE, drains and stops the sink. -/
  | sinkDisable (k : Ring8)
  /-- SINK_OWNER_WRITE (R393). Writing a sink's OWNER disables it without a CLOSE. -/
  | sinkOwnerWrite (k : Ring8) (owner : TenId)
  /-- SWMARK_WRITE (R383). Writing CHV_SINK_SWMARK places a software mark. -/
  | swmarkWrite (k : Ring8) (v : Word)
  /-- BANK_RELEASE (R416). Writing EDG_BANK_CTL.RELEASE starts the staged release of a bank. -/
  | bankRelease (g : EBank)
  /-- BANK_WITHDRAW (R417). Writing EDG_BANK_CTL.WITHDRAW undoes the stages in reverse order. -/
  | bankWithdraw (g : EBank)
  /-- BANK_STAGE_TIMER (R416). STAGE_US elapses and the bank advances or retreats one stage. -/
  | bankStageTimer (g : EBank) (pins : DWord)
  /-- BROWNOUT_TRIP (R415). A bank's VIO falls below 85 % and its brown-out detector trips. -/
  | brownoutTrip (g : EBank)
  /-- TARGET_CYCLE_C1 (R409). The output group heads the out-FIFO and target cycle C1 pops it into CO. -/
  | targetCycleC1 (g : EBank)
  /-- TARGET_CYCLE_C2 (R409). After SETUP the target clocks rise and inputs are sampled. -/
  | targetCycleC2 (g : EBank) (pins : DWord)
  /-- TARGET_CYCLE_C3 (R409). After HIGH the target clocks fall. -/
  | targetCycleC3 (g : EBank)
  /-- EDGE_INPUT_DELIVER (R406). An input group is written into the routed tiles' parity bank. -/
  | edgeInputDeliver (g : EBank)
  /-- FREE_POP (R411). A FREE region POP moves the out-FIFO head into CO. -/
  | freePop (g : EBank) (r : Region)
  /-- FREE_PUSH (R411). A FREE region PUSH stores CI in the in-FIFO or is refused. -/
  | freePush (g : EBank) (r : Region) (pins : DWord)
  /-- EDG_PR_GO (R421). Writing EDG_PR_CMD.GO starts a region reconfiguration. -/
  | edgPrGo (r : Region)
  /-- REGION_PR_DONE (R421). The region's frames are written and checked and the refit ends. -/
  | regionPrDone
  /-- EDG_PIN_WRITE (R403). Tenant 0 configures a pin, refused for invalid combinations or stages. -/
  | edgPinWrite (n : Fin 768) (v : Word)
  /-- EDG_ASSIGN_WRITE (R404). Tenant 0 assigns a bank or region to a tenant. -/
  | edgAssignWrite (u : EdgeUnit) (v : Word)
  /-- EDG_ROUTE_WRITE (R407). Tenant 0 writes a bank's input or output route. -/
  | edgRouteWrite (g : EBank) (inward : Bool) (v : Word)
  /-- CSP_STATUS (R442). CSP command STATUS returns DEV_MODE and CFG_UPD_STAT. -/
  | cspStatus (rdy : Bool)
  /-- CSP_PUSH_BEGIN (R441). CSP command PUSH_BEGIN starts a boot push. -/
  | cspPushBegin (rdy : Bool) (len : DWord)
  /-- CSP_DATA (R442). CSP command DATA appends bytes to a push or update. -/
  | cspData (rdy : Bool) (bytes : List Byte)
  /-- CSP_END (R442). CSP command END ends a push or download and checks the package. -/
  | cspEnd (rdy : Bool)
  /-- CSP_UPD_BEGIN (R444). CSP command UPD_BEGIN starts a DOWNLOAD. -/
  | cspUpdBegin (rdy : Bool) (len : DWord) (tgt : Byte)
  /-- CSP_UPD_ACTIVATE (R445). CSP command UPD_ACTIVATE activates a verified copy. -/
  | cspUpdActivate (rdy : Bool)
  /-- CSP_UPD_CONFIRM (R445). CSP command UPD_CONFIRM confirms a trial copy. -/
  | cspUpdConfirm (rdy : Bool)
  /-- CSP_TIMEOUT (R443). CSP_CS_N stays low for 35 ms and the port resets, possibly declaring itself dead. -/
  | cspTimeout
  /-- CSP_REVIVED (R443). CSP_CS_N stays high for 10 ms and the dead port returns. -/
  | cspRevived
  /-- UPD_DOWNLOAD (R444). CFG_UPD_CMD OP DOWNLOAD writes a package into a slot. -/
  | updDownload (bay : Bool)
  /-- UPD_ACTIVATE (R445). CFG_UPD_CMD OP ACTIVATE marks a verified copy ACTIVATED. -/
  | updActivate
  /-- UPD_CONFIRM (R445). CFG_UPD_CMD OP CONFIRM confirms the trial copy and raises MC0. -/
  | updConfirm
  /-- DOWNLOAD_COMPLETE (R444). Erase, program and read-back end and VERIFIED or ABORTED is written. -/
  | downloadComplete (retries : List (Fin 384 × BitVec 16)) (failed : Option (Fin 384))
  /-- SORREL_FRAME_READ (R434). Sorrel reads back and checks the next configuration frame. -/
  | sorrelFrameRead (f : ErrFound)
  /-- MC_RAISE (R448). Writing CFG_MC_CMD.SET raises a monotonic counter. -/
  | mcRaise (k : BitVec 2)
  /-- IOSC_PROVEN (R452). CHK finds IOSC within range for 50 µs and IOSC is proven. -/
  | ioscProven
  /-- EXT_SOURCE_PROVEN (R452). An external source passes 128 consecutive windows and is proven. -/
  | extSourceProven (ref : Bool) (freq : Fin 4)
  /-- ROOT_LOCK (R459). The root locks to a proven external source and the device leaves RESET for SELFTEST. -/
  | rootLock
  /-- IOSC_TRIP (R460). The IOSC monitor trips, keeping RESET or entering SAFE afterwards. -/
  | ioscTrip
  /-- IOSC_RETRY (R460). IOSC is restarted every 10 ms while it fails in RESET. -/
  | ioscRetry
  /-- EXT_RETRY (R460). External-source detection is restarted every 50 ms while none proves. -/
  | extRetry
  /-- CLOCK_SOURCE_TRIP (R456). The selected source trips and the root enters holdover and switches source. -/
  | clockSourceTrip
  /-- CLOCK_SWITCH_LOCK (R456). The root locks to its new source and the switch-over completes. -/
  | clockSwitchLock
  /-- CLOCK_REVERT (R457). The preferred source stays proven for 100 ms and the root returns to it. -/
  | clockRevert
  /-- BOUNDARY_CLOCK_TRIP (R26). A boundary clock monitor trips after RESET and the device enters SAFE. -/
  | boundaryClockTrip (edge : Bool)
  /-- TRIM_WINDOW (R455). A trim window completes and the IOSC trim and TRIM_VALID are updated. -/
  | trimWindow (err : BitVec 16)
  /-- SAGE_TILE_LBIST (R464). Sage test TILE_LBIST runs logic BIST on one tile. -/
  | sageTileLbist (n : PTileId)
  /-- SAGE_TILE_MBIST (R464). Sage test TILE_MBIST runs every march pattern on a tile. -/
  | sageTileMbist (n : PTileId)
  /-- SAGE_DS_MARCH (R464). Sage test DS_MARCH marches a whole stack. -/
  | sageDsMarch (k : Stack4)
  /-- SAGE_FUSE_COLUMN (R464). Sage test FUSE_COLUMN fuses a tile's soft column repairs. -/
  | sageFuseColumn (n : PTileId)
  /-- SAGE_DS_HPPR (R464). Sage test DS_HPPR turns repair-list entries into hard repairs. -/
  | sageDsHppr (k : Stack4)
  /-- SAGE_KEY_FUSE (R464). Sage test KEY_FUSE fuses a key digest into a slot. -/
  | sageKeyFuse (k : Fin 4)
  /-- SAGE_KEY_REVOKE (R464). Sage test KEY_REVOKE fuses a slot's revocation bit. -/
  | sageKeyRevoke (k : Fin 4)
  /-- SAGE_TEST_DONE (R464). A Sage test finishes and reports passed or failed. -/
  | sageTestDone (fails : BitVec 16) (sig : DWord)
  /-- SAGE_LC_WRITE (R465). Writing SAGE_LC with the key requests a life-cycle transition. -/
  | sageLcWrite (nx : BitVec 3) (key : Byte)
  /-- ANA_CONVERSION (R469). A slot's conversion completes and its result is published and compared. -/
  | anaConversion (raw cal : BitVec 14) (slice : Fin 5) (temp : BitVec 16) (due : Bool)
  /-- ANA_CAL_ROTATE (R476). Every CAL_MS the spare slice replaces the oldest-calibrated slice. -/
  | anaCalRotate (k : Fin 5) (offLow offHigh gainLow gainHigh : BitVec 16)
  /-- ANA_SEQ_WRITE (R470). Tenant 0 writes a sequence entry, refused on owned fields. -/
  | anaSeqWrite (e : Fin 32) (v : Word)
  /-- REG_WRITE (R482). A write to a register without a row of its own stores or acts on its enabled fields. -/
  | regWrite (page : Option TenId) (off : BitVec 25) (data : DWord) (be : Byte) (span : SpanAns)
  /-- BAR_ACCESS_UNSUPPORTED (R485). A misaligned or malformed BAR access completes with Unsupported Request. -/
  | barAccessUnsupported (read : Bool)
  /-- ZERO_LENGTH_ACCESS (R485). An access with all byte enables zero completes with no effect. -/
  | zeroLengthAccess (read : Bool)
  /-- RESET_N_RELEASE (R458). RESET_N rises after the filter has acted, letting the device leave RESET at once if supplies and clock are ready. -/
  | resetNRelease
  /-- ALL_SUPPLIES_GOOD (R265). The supply bring-up completes with every supply good, one condition for leaving RESET. -/
  | allSuppliesGood
  /-- THYME_TICK (R369). A 400 MHz timekeeping tick adds INC to Thyme, carries into SEC and copies into the backup count. -/
  | thymeTick
  /-- BACKUP_COUNT_TICK (R374). The 32.768 kHz backup oscillator advances the backup count, also in KEEP and RESET. -/
  | backupCountTick
  /-- UNSELECTED_SOURCE_TRIP (R452). The monitor of an external source that is not selected trips, so the source is no longer proven and SRC_LOST is recorded. -/
  | unselectedSourceTrip (ref : Bool)
  /-- TRIM_WINDOW_TIMEOUT (R455). 10 s pass without a completed trim window and TRIM_VALID becomes 0 with TRIM_LOST. -/
  | trimWindowTimeout
  /-- DRAIN_MARKER_TIMEOUT (R305). No return of a drain marker arrives within 100 µs and the fault manager resends it. -/
  | drainMarkerTimeout (marker : BitVec 16)
  /-- BME_SET (R363). Bus Master Enable is set again and waiting fetching, posting and transfers resume. -/
  | bmeSet (fn : TenId)
  /-- VF_ENABLE_SET (R341). The PF's VF Enable is set with NumVFs and VFs t ≤ NumVFs come into existence. -/
  | vfEnableSet (n : TenId)
  /-- PCIE_LINK_UP (R459). The PCIe link finishes training once the PCIE domain is good and PCLK runs. -/
  | pcieLinkUp (rate : BitVec 3) (width : BitVec 5) (flit l0p : Bool)
  /-- SLP_RECEIVE (R303). A receiver takes SLP followed by idle as sleep of the far transmitter, not as loss of signal. -/
  | slpReceive (l : LinkId) (line : LineIn)
  /-- WAK_RECEIVE (R303). A receiver relocks within the WAK burst as the far transmitter wakes. -/
  | wakReceive (l : LinkId) (line : LineIn)
  /-- REG_READ_SIDE_EFFECT (R483). A register read that includes byte 0 latches a high word or clears a field such as NOC_AGE.MAX_CLASS. -/
  | regReadSideEffect (page : Option TenId) (off : BitVec 25) (be : Byte)
deriving DecidableEq, Repr

end Sys2Proof
end

