-- ==== Sys2Proof/Machine/State.lean ====
section
/-!
DEFINITION. State as plain data: every register, queue, buffer, counter, mode and pin the manual gives the module, and
the queue of commands that wait. Configuration registers that software writes and the device only reads are kept by
their offset in PF BAR0 (`regs`), with their reset values in Machine/Regs.lean; everything else has a field of its own.
-/
namespace Sys2Proof.Machine

/-! ## Modes and tenants (chapter 01) -/

/-- The twelve device modes (Table 1-3). -/
inductive Mode where
  | off | keep | reset | selftest | load | idle | active | refit | replay | hold | derate | safe
deriving DecidableEq, Repr

/-- The cause of the last entry to SAFE (Table 1-5). -/
inductive SafeCause where
  | none | clock | supply | config | thermal | forced | selftest
deriving DecidableEq, Repr

/-- Tenant run states (Table 1-7). -/
inductive RunState where
  | stopped | running | stepping | held | swapped
deriving DecidableEq, Repr

/-! ## Images (chapters 03 and 05) -/

/-- The six program stores of one tile (Table 3-1); entries not listed are zero. Step words are keyed 1,024·s + b,
crossbar words 16·s + p, control words s, dictionary entries by index. -/
structure TileProg where
  depth : Nat := 0
  steps : Map (BitVec 56) := []
  xbar : Map (BitVec 768) := []
  ctrl : Map (BitVec 256) := []
  dict : Map DWord := []
  sends : List DWord := []
  seqCfg : DWord := 0
deriving DecidableEq, Repr

/-- One image tile: its program and its initial state (Table 5-2). -/
structure TileImg where
  prog : TileProg := {}
  retInit : Map DWord := []
  arrInit : Map DWord := []
  macInit : Map DWord := []
  taps : List DWord := []
deriving DecidableEq, Repr

/-- A DEEP_MEM entry (Table 5-5). -/
structure DeepEnt where
  memid : Nat
  owner : Nat
  ownerMod : Nat
  k : Nat
  init : Bool
  base : Nat
deriving DecidableEq, Repr

/-- A link-table entry of the lattice map (Table 5-4). -/
structure LinkEnt where
  frm : Nat
  dst : Nat
  link : Nat
deriving DecidableEq, Repr

/-- An accepted tenant image (chapter 05): what the load check kept of its sections. -/
structure Image where
  off : Nat := 0
  len : Nat := 0
  contract : Nat := 0
  eMax : Nat := 0
  deepBytes : Nat := 0
  mods : List (Nat × Nat) := []
  diam : Nat := 0
  links : List LinkEnt := []
  me : Nat := 0
  deep : List DeepEnt := []
  /-- exchange words per ecycle on each link of this module, along the executed path (R65) -/
  linkWords : Map Nat := []
  tiles : Map TileImg := []
deriving DecidableEq, Repr

/-! ## Tiles (chapters 02 to 05) -/

/-- One exchange arrival word (R60 to R62): FULL, its content, how many occupants have entered and left it in the
ecycle. -/
structure ArrWord where
  full : Bool := false
  data : DWord := 0
  entered : Nat := 0
  released : Nat := 0
deriving DecidableEq, Repr

/-- A credit for one occupant of one arrival word (R60), held by a source tile. -/
structure Credit where
  ten : Nat
  src : Nat
  dst : Nat
  word : Nat
  occ : Nat
  ecyc : Nat
deriving DecidableEq, Repr

/-- A MAC command issued to a slice and not yet performed (R125 to R127). -/
structure MacCmd where
  exe : Nat
  step : Nat
  bp : Nat
  op : Nat
  prod : DWord
  en : Bool
  rd : Nat
  rdv : Bool
  rhi : Bool
  ident : Nat
deriving DecidableEq, Repr

/-- An array command waiting in a bank's queue (R134 to R139). -/
structure ArrCmd where
  exe : Nat
  step : Nat
  bp : Nat
  op : Nat
  addr : Nat
  lane : Nat
  data : Word
  en : Bool
  rd : Nat
  rdv : Bool
  ident : Nat
deriving DecidableEq, Repr

/-- A deep command between issue and completion (R147 to R150, Table 11-3). -/
structure DeepCmd where
  ten : Nat
  itile : Nat
  memid : Nat
  ecyc : Nat
  step : Nat
  bp : Nat
  op : Nat
  addr : Nat
  lane : Nat
  data : Word
  en : Bool
  rd : Nat
  rdv : Bool
  ident : Nat
deriving DecidableEq, Repr

/-- An answer to a deep command on its way back (Table 11-3). -/
structure DeepAns where
  ten : Nat
  itile : Nat
  rd : Nat
  ident : Nat
  val : Word
  status : Nat
  ecyc : Nat
  step : Nat
  /-- SEQ of the entry that records the cause of a status other than OK -/
  seq : Nat := 0
  /-- the memory, whose queue's quadrant sends the answer (R328) -/
  memid : Nat := 0
deriving DecidableEq, Repr

/-- Which unit a result register waits for (Table 5-10). -/
inductive ResFrom where
  | array | mac | deep
deriving DecidableEq, Repr

/-- A result register (R131, R132): its value, and the latest command of the ecycle that named it if that command has
not delivered. -/
structure Res where
  val : Word := 0
  named : Bool := false
  waits : Option (Nat × ResFrom) := none
  step : Nat := 0
  bank : Nat := 0
deriving DecidableEq, Repr

/-- Frame types (Table 3-8); TYPE 0b00 stands for none, and only a word of the spill region read wrong can hold it. -/
inductive FrameKind where
  | none | loop | call | exc
deriving DecidableEq, Repr

/-- A stack frame (Table 3-8); PAR is not kept, since a storage error is an operand of the command that reads the
frame (log entry 6). -/
structure Frame where
  kind : FrameKind
  addr : Nat
  last : Nat := 0
  rem : Nat := 0
  code : Nat := 0
  cause : Nat := 0
  /-- bits [62:48], zero in every frame that the sequencer forms -/
  resv : Nat := 0
deriving DecidableEq, Repr

/-- What a pop whose fill succeeds goes on to (R97 step 3, R107, R110): nothing more, the TRAP exception with its code and return
address, or UNRECOVERABLE. -/
inductive AfterFill where
  | nothing
  | trap (code ret : Nat)
  | unrecoverable
deriving DecidableEq, Repr

/-- A spill write or a fill read of bank 15 under way (R102), with the on-chip frames to put back if the fill fails, and what the pop
goes on to if it succeeds. -/
structure Spill where
  fill : Bool
  word : Nat
  frame : Option Frame
  undo : List Frame
  after : AfterFill
  step : Nat
deriving DecidableEq, Repr

/-- How far the step in hand has come (Table 2-3). -/
inductive Stage where
  | none | operand | sequenced | evaluated | written
deriving DecidableEq, Repr

/-- Why a tile stopped at its step handshake (R497). -/
inductive Halt where
  | safe | doubleFault | arrayUe | recovery
deriving DecidableEq, Repr

/-- One logical tile: its stores, its net state, its units, its sequencer and its status registers. -/
structure Tile where
  prog : TileProg := {}
  hasImg : Bool := false
  cur : Map DWord := []
  ret : Map DWord := []
  lastOut : BitVec 1024 := 0
  outs : BitVec 1024 := 0
  rows : Map DWord := []
  win : Map DWord := []
  arrive : Map ArrWord := []
  edgeIn : Map (BitVec 128) := []
  sendQ : List Slot := []
  credits : List Credit := []
  -- the ecycle and the step in hand
  ecyc : Nat := 0
  inEcyc : Bool := false
  ending : Bool := false
  waitStart : Bool := false
  atClosed : Bool := false
  exe : Nat := 0
  stepNo : Nat := 0
  stage : Stage := .none
  nextA : Option Nat := none
  fetched : Option Nat := none
  gateWait : Bool := false
  waitWords : Nat := 0
  waited : List Nat := []
  execCnt : Map Nat := []
  /-- steps executed for each tenant since Basil's last evaluation (R247) -/
  ran : Map Nat := []
  taps : List Nat := []
  trapEv : List Nat := []
  -- the sequencer: the on-chip frames, topmost first, and SP; the other frames lie in the spill region (R101)
  stack : List Frame := []
  sp : Nat := 0
  spill : Option Spill := none
  excCause : Nat := 0
  dfCause : Nat := 0
  excCode : Nat := 0
  excStep : Nat := 0
  excSeen : Bool := false
  dfault : Bool := false
  trapCnt : Word := 0
  -- MAC slices, array banks, result registers
  acc : Map DWord := []
  macQ : Map (List MacCmd) := []
  res : Map Res := []
  ident : Nat := 0
  banks : Map DWord := []
  bankQ : Map (List ArrCmd) := []
  deepOut : Nat := 0
  scrubAt : Map Nat := []
  scrubbed : List Nat := []
  corrBanks : List Nat := []
  -- stop and status
  halt : Option Halt := none
  lastEnded : DWord := BitVec.allOnes 64
  ceCount : Nat := 0
  ceBank : Nat := 0
  ue : Bool := false
  ueBank : Nat := 0
  ueSrc : Nat := 0
  stall : Map Nat := []
  contract : Nat := 0
  viol : Nat := 0
deriving DecidableEq, Repr
/-! ## Tenants, requests, checkpoints and recovery (chapters 01, 02, 05, 07, 08) -/

/-- What a boundary request asks for (Table 2-4, R31); a capture with its kind code of Table 6-14. -/
inductive ReqKind where
  | start
  | step (n : Nat)
  | stop
  | release
  | hold (cause : Nat)
  | capture (kind : Nat)
  | checkpoint
  | swapOut
  | refit
  | devHold
deriving DecidableEq, Repr

/-- A boundary request: it takes effect when the tenant has completed `due` ecycles, that is at the boundary after
ecycle due − 1 (R57). `cmd` is the descriptor to complete; `origin` the module where it was raised (R32). -/
structure Req where
  kind : ReqKind
  due : Nat
  cmd : Option DRef
  origin : Nat
deriving DecidableEq, Repr

/-- The retained state of one image tile at a boundary (R48, R114, R129). -/
structure TileSave where
  ret : Map DWord := []
  banks : Map DWord := []
  acc : Map DWord := []
  trapCnt : Word := 0
deriving DecidableEq, Repr

/-- A checkpoint, a swap slot or a moved state: every image tile's retained state before ecycle `k`. -/
structure Saved where
  k : Nat
  tiles : Map TileSave
  /-- the edge input groups of the boundary's ecycle (Table 14-8) -/
  edge : List DWord := []
  /-- logged messages of ecycle `k` that had landed when the state was taken, so that a replay does not land them again (R361) -/
  landed : Nat := 0
  /-- the CAP_EDGE payload of the boundary, as a state slot holds it (R499) -/
  edgeRec : List Byte := []
deriving DecidableEq, Repr

/-- An input-log record (Table 7-1). -/
structure LogRec where
  typ : Nat
  ecyc : Nat
  payload : List Byte
deriving DecidableEq, Repr

/-- A journal entry (R214): the prior content of a 64-byte line of a deep memory, tagged by checkpoint. -/
structure JEnt where
  k : Nat
  memid : Nat
  line : Nat
  data : List Byte
deriving DecidableEq, Repr

/-- Why a tenant is restored and replayed (R112, R219, R223, R225, R227, R216 item 3). -/
inductive RecKind where
  | masked | rolledBack | doubleFault | partition | swapIn
deriving DecidableEq, Repr

/-- How far a recovery has come (Table 7-6). -/
inductive RecPhase where
  | stopped | placed | replay
deriving DecidableEq, Repr

/-- A recovery in progress: checkpoint K, the last completed ecycle count, the generation, the error-log SEQ of its
cause, and the tile to place, if any. -/
structure Recovery where
  kind : RecKind
  phase : RecPhase
  k : Nat
  upTo : Nat
  gen : Nat
  logSeq : Nat
  /-- faulty logical tiles to place, ascending -/
  ltiles : List Nat
  failedAt : Option Nat
  suspended : Bool
  /-- the request for the tokens of its restore (R249, Table 8-4) -/
  tok : Nat := 0
deriving DecidableEq, Repr

/-- A pending hazard report (Table 5-14). -/
structure Hazard where
  tile : Nat
  cls : Nat
  step : Nat
  ecyc : Nat
  res : Nat
  count : Nat
  detail : Nat
  ns : Nat
deriving DecidableEq, Repr

/-- A load check in progress (R161). -/
structure LoadJob where
  cmd : DRef
  off : Nat
  len : Nat
  /-- the request for the tokens of its reads (R249, Table 8-4) -/
  tok : Nat := 0
deriving DecidableEq, Repr

/-- A port bound to a deep memory (R357). -/
structure Port where
  out : Bool
  memid : Nat
  cq : Nat
deriving DecidableEq, Repr

/-- A port binding that waits for the tenant's next start grant (R357): the port, and none to unbind it. -/
structure BindJob where
  cmd : DRef
  port : Nat
  tgt : Option Port
deriving DecidableEq, Repr

/-- A complete tap vector (R178, R179), with its trap codes and the Thyme value of its completion. -/
structure TapVec where
  e : Nat
  vec : BitVec 4096
  traps : List Nat
  sec : Nat
  ns : Nat
deriving DecidableEq, Repr

/-- One tenant on this module. `done` counts its completed ecycles, so its last completed ecycle is done − 1. -/
structure Tenant where
  run : RunState := .stopped
  back : RunState := .stopped
  stepLeft : Nat := 0
  stepCmd : Option DRef := none
  holds : List Nat := []
  firstHold : Nat := 0
  affected : Bool := false
  img : Option Image := none
  load : Option LoadJob := none
  done : Nat := 0
  reqs : List Req := []
  /-- boundary closed by a capture or checkpoint whose state has not left the tiles (R56) -/
  moving : Bool := false
  /-- stopped by the DEV_CTL.HOLD, lattice or floor condition at its boundary (R28) -/
  devHeld : Bool := false
  /-- boundary closed for a rebalance or a region reconfiguration (R239, R421) -/
  refitHeld : Bool := false
  /-- completed-ecycle count of each span neighbour as its last BND gives it (R66, R67) -/
  bnd : Map Nat := []
  bndSent : Nat := 0
  newest : Option Saved := none
  older : Option Saved := none
  /-- checkpoints that have left the tiles and not landed, oldest first, each with its token request (R210, R211) -/
  ckptMoved : List (Saved × Nat) := []
  ckptBad : Bool := false
  log : List LogRec := []
  journal : List JEnt := []
  /-- bytes ever written to the input log and to the journal, which place the next; and the checkpoint slot of the newest (R499) -/
  logAt : Nat := 0
  jrnAt : Nat := 0
  ckptSlot : Nat := 0
  jTag : Nat := 0
  /-- the edge input groups of the two ecycles that may be in progress, by ecycle parity (R406, R74) -/
  edgeGrp : Map (List DWord) := []
  /-- ecycles below this one have their edge inputs in the log -/
  edgeTo : Nat := 0
  /-- logged MSG_IN records that the ecycles run again have still to take (R222) -/
  redoMsg : List LogRec := []
  /-- the last ecycle, plus one, whose start LOG_WAIT was reported for (Table 7-11) -/
  logWait : Nat := 0
  swapSlot : Option Saved := none
  fromCkpt : Bool := false
  stopRank : Nat := 0
  /-- the slice has ended and not renewed; and when the slice began, in ns of Thyme (R242, R252) -/
  sliceOver : Bool := false
  sliceFrom : Nat := 0
  started : Bool := false
  vt : Nat := 0
  /-- release mark of each MSG_OUT flow, by completion ring (R222, R254) -/
  msgMark : Map (Nat × Nat) := []
  recov : Option Recovery := none
  gen : Nat := 0
  drained : Bool := true
  /-- when the partition count of the tenant last started again by a pace notice, in ns of Thyme, and the SEQ of its PARTITION entry -/
  partWait : Option Nat := none
  partSeq : Nat := 0
  partC : Map Nat := []
  partK : Map (Nat × Nat) := []
  transient : List (Nat × Nat × Nat) := []
  hazards : List Hazard := []
  hazLost : Nat := 0
  hazFlag : Bool := false
  /-- the tap vectors and trap codes of the two ecycles that may be forming, by ecycle parity (R178, R179) -/
  tapVec : Map (BitVec 4096) := []
  trapCodes : Map (List Nat) := []
  /-- complete tap vectors that an armed sequencer has still to evaluate: ecycle, vector, trap codes (R182, R183) -/
  tapReady : List TapVec := []
  ports : Map Port := []
  binds : List BindJob := []
  capOff : Nat := 0
  capSlots : Nat := 0
  capNext : Nat := 1
  capSeq : Nat := 0
  /-- the sequence last released by software (CAP_RIDX) -/
  capRel : Nat := 0
  /-- Thyme when the tenant last stood at a closed boundary -/
  stopS : Nat := 0
  stopNs : Nat := 0
  /-- the ecycle in which each out port last emitted, and its emissions in it (R358) -/
  outSeq : Map (Nat × Nat) := []
  /-- deep memories that have been an out port and are bound to none now (R358) -/
  gone : List Nat := []
deriving DecidableEq, Repr

/-! ## The fault manager and the error log (chapter 07) -/

/-- A report on its way to the error log, or an entry of it (Table 7-9). -/
structure Report where
  code : Nat
  cls : Nat
  src : Nat
  ten : Option Nat
  detail : Nat
  count : Nat
  firstS : Nat
  firstNs : Nat
deriving DecidableEq, Repr

/-- The remap table's entry of a logical tile (Table 7-4). -/
structure Remap where
  ptile : Nat := 0
  epoch : Nat := 0
  onSpare : Bool := false
  runtime : Bool := false
  failed : Bool := false
deriving DecidableEq, Repr

/-- The fault manager: the error log with its intake, the remap table, and its counts. -/
structure FaultMgr where
  ring : Map Report := []
  widx : Word := 0
  ridx : Word := 0
  overflow : Bool := false
  pend : Bool := false
  lost : Nat := 0
  intake : List Report := []
  remap : Map Remap := []
  bad : List Nat := []
  failed : Nat := 0
  spareUsed : Nat := 0
  recoveries : Nat := 0
  dropped : Nat := 0
  lateLost : Nat := 0
  /-- SEQ of the entry that holds the latest report, or will hold it (Table 7-8, LOGSEQ) -/
  lastAt : Nat := 0
deriving DecidableEq, Repr

/-! ## The scheduler (chapter 08) -/

/-- The binding and residency of a logical tile (Table 8-12). -/
structure LTile where
  ten : Nat := 0
  itile : Nat := 0
  bound : Bool := false
  resident : Bool := false
deriving DecidableEq, Repr

/-- A swap (R243 to R245): the incoming tenant, its victims, how far it has come, and the rate it reserves. -/
structure Swap where
  inT : Nat
  victims : List Nat
  emptied : List Nat
  rate : Nat
deriving DecidableEq, Repr

/-- A waiting token request (R249, R250). -/
structure TokReq where
  ten : Nat
  tokens : Nat
  seq : Nat
deriving DecidableEq, Repr

/-- A rebalance waiting for its boundary or its copy (R239). -/
structure Rebal where
  cmd : DRef
  ten : Nat
  pairs : List (Nat × Nat)
  /-- the request for the tokens of its copy (R249, Table 8-4), 0 before its boundary has closed -/
  tok : Nat := 0
deriving DecidableEq, Repr

structure Sched where
  ltiles : Map LTile := []
  swap : Option Swap := none
  chosen : Option (Nat × List Nat) := none
  fMsps : Nat := 1250
  /-- swapped-out states on their way to their swap slots, with their token requests (R243) -/
  draining : List (Nat × Saved × Nat) := []
  /-- tenants that R248 swaps out by weight and whose boundary is not yet asked for, since Table 1-12 queues the swap or another
  swap runs (R38 item 6, Table 9-5), and those whose swap-out has begun -/
  derateQ : List Nat := []
  derateOut : List Nat := []
  tokens : Map (List TokReq) := []
  /-- tokens of each class granted in the last 64 windows, newest first (R252) -/
  granted : Map (List Nat) := []
  tokSeq : Nat := 0
  vg : Map Nat := []
  pb : Nat := 0
  resv : Nat := 0
  rate : Nat := 0x04AC
  energy : Map Nat := []
  rebal : List Rebal := []
  /-- bytes of each tenant's input log and journal that are paid for, and the token request that waits (R249) -/
  faultAcct : Map (Nat × Nat) := []
  stopSeq : Nat := 0
deriving DecidableEq, Repr

/-! ## Capture, triggers and acquisition (chapter 06) -/

/-- Capture kinds (Table 6-14). -/
inductive CapKind where
  | host | trigger | fault | safe
deriving DecidableEq, Repr

/-- An entry of the capture queue (R203, R205, R210): one stop and one move of a tenant, for the capture it makes, with the
descriptors that share its record and its sequence (0 where no record can be written), and for a checkpoint. -/
structure CapEnt where
  ten : Nat
  due : Nat
  kind : Option CapKind
  cmds : List DRef := []
  /-- HOST and TRIGGER requests that share the entry (R203, R205) -/
  asks : Nat := 0
  seq : Nat := 0
  overwr : Bool := false
  src : Nat := 0
  ckpt : Bool := false
deriving DecidableEq, Repr

/-- A capture whose state has left the tiles and drains to the deep store (R204): what its record is written from, and the
token request that its drain waits for. -/
structure CapRec where
  kind : CapKind
  ten : Nat
  slot : Nat
  seq : Nat
  flags : Nat
  ecyc : Nat
  src : Nat
  sec : Nat
  ns : Nat
  cmds : List DRef
  saved : Saved
  /-- the stopped tiles of a FAULT or SAFE capture, by image tile -/
  full : Map Tile
  /-- words found uncorrectable: image tile, bank, word (R207) -/
  bad : List (Nat × Nat × Nat)
  edge : List Byte
  tok : Nat
  /-- where the slots begin in the deep store, and the module's index in the lattice map -/
  base : Nat
  me : Nat
deriving DecidableEq, Repr

structure Capture where
  queue : List CapEnt := []
  moving : Option CapEnt := none
  draining : List CapRec := []
deriving DecidableEq, Repr

/-- A hold-off under way (R187): mode and what is left, in evaluated ecycles or as a Thyme target in ns. -/
structure HoldOff where
  mode : Nat
  left : Nat
  target : Nat
  term : Nat
deriving DecidableEq, Repr

/-- The running state of a trigger sequencer (R180 to R189); its configuration stands in the registers. -/
structure TrigSeq where
  armed : Bool := false
  st : Nat := 0
  holding : Option HoldOff := none
  frozen : Bool := false
  actFail : Bool := false
  taken : Nat := 0
  cnt : Map Nat := []
  /-- targets of started timers, Thyme values in ns, and whether the expiry has been taken (R184, R186) -/
  timer : Map (Nat × Bool) := []
  vcount : Map Nat := []
  viol : Option (Nat × Nat × Nat) := none
  ti : Nat := 0
  sw : Bool := false
  prev : Nat := 0
  nextE : Nat := 0
deriving DecidableEq, Repr

/-- Acquisition channel states (Table 6-11, code order of Table 6-13). -/
inductive AcqState where
  | off | run | post | stopped | pacing | frozen
deriving DecidableEq, Repr

/-- The running state of an acquisition channel. -/
structure Acq where
  st : AcqState := .off
  ovf : Bool := false
  gapSeen : Bool := false
  widx : Nat := 0
  ridx : Nat := 0
  lost : Nat := 0
  postLeft : Nat := 0
  pacingFrom : AcqState := .run
  /-- records in hub staging, oldest first, each with its token request -/
  staging : List (List Byte × Nat) := []
  /-- records named by a transition that wait for room, oldest first, and the last ecycle with a DATA record, plus one (R197, R198) -/
  held : List (List Byte) := []
  recTo : Nat := 0
  /-- lengths of the whole records between RIDX and WIDX, oldest first (R199) -/
  landed : List Nat := []
  waiting : List (List Byte) := []
  lastGroups : Option (List DWord) := none
  nextE : Nat := 0
  gap : Option (Nat × Nat) := none
deriving DecidableEq, Repr

structure Trig where
  seqs : Map TrigSeq := []
  acq : Map Acq := []
  /-- levels of TRIG_OUT[3:0] and TRIG_IN[3:0] -/
  outPins : Nat := 0
  inPins : Nat := 0
  frozen : Bool := false
deriving DecidableEq, Repr
/-! ## The host interface (chapter 12) -/

/-- A fetched descriptor that waits to start (R346): its reference, opcode, target tenant and 64 bytes. -/
structure Desc where
  ref : DRef
  opc : Nat
  ten : Nat
  bytes : List Byte
deriving DecidableEq, Repr

/-- A submission ring's indices and the descriptors of it that wait or are in progress (R344 to R348). -/
structure Sq where
  en : Bool := false
  pi : Word := 0
  cidx : Word := 0
  dseq : DWord := 0
  wait : List Desc := []
  prog : List DRef := []
deriving DecidableEq, Repr

/-- A completion ring's indices, reservations and interrupt count (R347, R362). -/
structure Cq where
  en : Bool := false
  tidx : Word := 0
  head : Word := 0
  resv : Nat := 0
  count : Nat := 0
  timing : Bool := false
deriving DecidableEq, Repr

/-- The body of a completion: a CMD completion, whose CIDX is taken at posting, or bytes 0x04 to 0x1F (Table 12-10). -/
inductive CplBody where
  | cmd (opc flags tag dseq result aux : Nat)
  | raw (bytes : List Byte)
deriving DecidableEq, Repr

/-- A completion that waits to be posted (R355, R356). `sq` is 0xFF for an unsolicited one. -/
structure Cpl where
  fn : Nat
  cq : Nat
  typ : Nat
  status : Nat
  sq : Nat
  body : CplBody
  noIrq : Bool
  resv : Bool
deriving DecidableEq, Repr

/-- A MSG_OUT buffer (R359). -/
structure OutBuf where
  ref : DRef
  ten : Nat
  port : Nat
  cap : Nat
  addr : Nat
deriving DecidableEq, Repr

/-- A message in its ordered flow (R253, R358 to R360): key (e, s), its bytes, and what its processing gave. -/
structure Msg where
  ten : Nat
  port : Nat
  cq : Nat
  e : Nat
  s : Nat
  len : Nat
  bytes : List Byte
  bad : Bool
  done : Option (OutBuf × Nat × Nat)
deriving DecidableEq, Repr

/-- A MSG_IN message in staging (R361). -/
structure InMsg where
  ref : DRef
  ten : Nat
  port : Nat
  bytes : List Byte
deriving DecidableEq, Repr

/-- A host transfer under way on a DMA engine (R364). -/
structure Xfer where
  ref : DRef
  opc : Nat
  ten : Nat
  port : Nat
  hostAddr : Nat
  off : Nat
  len : Nat
  /-- the token request that its deep-store bytes wait for (R249) -/
  tok : Nat := 0
deriving DecidableEq, Repr

/-- What the last BAR access answered (R485): nothing yet, a completion with its data, or Unsupported Request, which a posted
write signals under AER. -/
inductive BarOut where
  | none | data (v : DWord) | ur | aer
deriving DecidableEq, Repr

/-- What the last SMBus transaction answered (R365): nothing yet, NACK, ACK, or the four bytes of a Block Read. -/
inductive SmbOut where
  | none | nack | ack | data (v : Word)
deriving DecidableEq, Repr

structure HostIf where
  sqs : Map Sq := []
  cqs : Map Cq := []
  cpls : List Cpl := []
  fregs : Map Word := []
  fnStat : Map Nat := []
  hostMem : Mem := []
  msiOut : List (Nat × Nat) := []
  /-- interrupts that wait for Bus Master Enable: function and vector (R363) -/
  msiWait : List (Nat × Nat) := []
  /-- descriptors whose completion ring was disabled after they started (R348) -/
  orphans : List DRef := []
  /-- the descriptors fetched and not yet completed, oldest fetch first (R359, R361, R364) -/
  fetched : List DRef := []
  pba : Map Nat := []
  linkUp : Bool := false
  rate : Nat := 0
  width : Nat := 0
  flit : Bool := false
  l0p : Bool := false
  numVfs : Nat := 0
  vfEn : Bool := false
  bmeOff : List Nat := []
  d3 : List Nat := []
  msgs : List Msg := []
  bufs : List OutBuf := []
  ins : List InMsg := []
  xfers : List Xfer := []
  barOut : BarOut := .none
  smbPtr : Nat := 0
  smbOut : SmbOut := .none
  smbDead : Bool := false
  smbTimeouts : Nat := 0
  smbRow : Nat := 0
  smbDatLow : Bool := false
  smbClkLow : Bool := false
deriving DecidableEq, Repr

/-! ## The exchange in flight and the deep memories' queues (chapters 02, 04, 11) -/

/-- An answer that has reached its requester. -/
structure Answer where
  node : Nat
  tag : Nat
  status : Nat
  bytes : List Byte
deriving DecidableEq, Repr

/-- A deep-store stack (R331 to R336): temperature, refresh, error counts, repaired rows, the patrol position, and the
corrected errors of each row within the patrol pass. -/
structure Stack where
  temp : Nat := 0
  hotRef : Bool := false
  hot : Bool := false
  ce : Nat := 0
  ue : Nat := 0
  rows : Nat := 0
  noSpare : Nat := 0
  patrol : Nat := 0
  rowCe : Map Nat := []
  inRepair : List Nat := []
  noRepairRec : List Nat := []
deriving DecidableEq, Repr

/-- What travels on the NoC, as the list that holds it names it. -/
inductive NocRef where
  | slot (p : Slot)
  | credit (c : Credit)
  | deep (c : DeepCmd)
  | ans (r : DeepAns)
  | pkt (p : Pkt)
deriving DecidableEq, Repr

/-- A packet on its way (R313 to R322): its virtual channel and destination, its age class and the age tick of its injection, the
switch that holds it (200 the spine, 201 once it stands at its destination), the rank of the input it came by, the output it asks
for, its flits, and those that have passed that output. -/
structure Flight where
  ref : NocRef
  vc : Nat
  dest : Nat
  age : Nat
  inj : Nat
  node : Nat
  rank : Nat
  out : Nat
  flits : Nat
  gone : Nat := 0
deriving DecidableEq, Repr

/-- Packets in flight and the deep memories' ordered queues (R149, R317, R328): exchange slots, credits, deep commands on
their way to their queue, deep commands in it in issue order, and answers on their way back. -/
structure Noc where
  slots : List Slot := []
  credits : List Credit := []
  deepReq : List DeepCmd := []
  deepQ : List DeepCmd := []
  answers : List DeepAns := []
  /-- line accesses that each tenant's tokens still pay for, and the request that waits (R337) -/
  deepPaid : Map Nat := []
  deepTok : Map Nat := []
  damaged : Nat := 0
  ce : Nat := 0
  maxClass : Nat := 0
  class15 : Nat := 0
  /-- packets on the spine or waiting at a node that no other list holds (R313, R317) -/
  pkts : List Pkt := []
  /-- what a requester has been answered: its node, tag, status and the bytes (Table 11-3) -/
  got : List Answer := []
  /-- tiles that have reported a stop, with its cause (MGT STOP) -/
  stops : Map Nat := []
  hub : Mem := []
  hubPoison : List Nat := []
  hubCe : Nat := 0
  hubUe : Nat := 0
  poisonSeen : Bool := false
  dsPoison : List Nat := []
  stks : Map Stack := []
  /-- 400 MHz ticks of the age tick (R321), the packets on their way, and the flit wheel of each output (R320) -/
  clk : Nat := 0
  flights : List Flight := []
  wheel : Map Nat := []
deriving DecidableEq, Repr
/-! ## The device mode (chapter 01) -/

/-- The counters of TIL_ARR_ERR (Table 4-9). -/
structure ArrErr where
  ceCount : Nat := 0
  ceBank : Nat := 0
  ue : Bool := false
  ueBank : Nat := 0
  ueSrc : Nat := 0
deriving DecidableEq, Repr

/-- The mode and the conditions it is chosen from (R23 to R29), and what the device sees of its supplies and its reset
pin. -/
structure Dev where
  mode : Mode := .reset
  cause : SafeCause := .none
  holdBit : Bool := false
  lattice : List Nat := []
  floor : Bool := false
  derate : Bool := false
  /-- refits in their order, the first in progress (R38 item 5): t for a recovery of tenant t, 256 + t for a rebalance of it,
  1,000 + r for a reconfiguration of region r -/
  refits : List Nat := []
  vinOk : Bool := true
  vbatOk : Bool := false
  /-- the backup domain has reset, or never held state, and R267 has not acted (R266) -/
  bkpLost : Bool := true
  /-- TIL_ARR_ERR of physical tiles that carry no logical tile (R145); that of the others stands in their tile -/
  arrErr : Map ArrErr := []
deriving DecidableEq, Repr

/-! ## Time (chapter 13) -/

/-- A timed-start slot (R381); its command, tenant, count and time stand in the registers. -/
structure TStart where
  arm : Bool := false
  lateArm : Bool := false
  late : Bool := false
  status : Nat := 0
deriving DecidableEq, Repr

/-- Thyme, its steering and its mark pins (R369 to R382), and the backup count of the backup domain (R374). -/
structure Thyme where
  sec : Nat := 0
  ns : Nat := 0
  frac : Nat := 0
  /-- Thyme counts: from the end of RESET while VIN is in range (R373) -/
  runs : Bool := false
  /-- the increment in force, in units of 2^-32 ns -/
  inc : Nat := 0x280000000
  /-- what the next tick applies: an increment, and the steps in the order of their writes, a SET as none -/
  incDue : Option Nat := none
  stepsDue : List (Option Int) := []
  valid : Bool := false
  fromBackup : Bool := false
  locked : Bool := false
  holdover : Bool := false
  stepped : Bool := false
  /-- consecutive marks with an offset below 20 ns (R377) -/
  good : Nat := 0
  offset : Int := 0
  srcLink : Option Nat := none
  /-- links whose last mark was valid, with its stratum and SRC_ID (R376) -/
  marks : Map (Nat × Nat) := []
  minSec : Nat := 0
  minNs : Nat := 0
  minCnt : Nat := 0
  /-- level of THYME_MARK_OUT -/
  markOut : Bool := false
  slots : Map TStart := []
  /-- the backup count: seconds, and the 15-bit fraction of a second -/
  bkpSec : Nat := 0
  bkpFrac : Nat := 0
deriving DecidableEq, Repr

/-! ## Trace (chapter 13) -/

/-- A traced command of a deep memory (R384, Table 13-5). -/
structure MemAcc where
  ecyc : Nat
  op : Nat
  lane : Nat
  memid : Nat
  idx : Nat
  before : Word
  after : Word
deriving DecidableEq, Repr

/-- A packet that a trace source has made and that has not yet entered a sink (R383 to R387): source ID, tenant, type, body,
stamp, the sink where the source names one, and the access of a MEMACC, whose form is chosen on entry. -/
structure TracePkt where
  src : Nat
  ten : Nat
  typ : Nat
  payload : List Byte
  sec : Nat
  ns : Nat
  sink : Option Nat := none
  acc : Option MemAcc := none
deriving DecidableEq, Repr

/-- A trace sink (R387 to R394): packets in staging, funnel packets that wait for room (type, tenant and two arguments of the body), ring
indices, the stamp of the last packet, and each source's compression base and drops. -/
structure Sink where
  en : Bool := false
  staging : List (List Byte) := []
  wait : List (Nat × Nat × Nat × Nat) := []
  widx : Nat := 0
  ridx : Nat := 0
  lost : Nat := 0
  lostSeen : Bool := false
  lastSec : Nat := 0
  lastNs : Nat := 0
  /-- packets placed since enable, and those that are not SYNC -/
  seq : Nat := 0
  count : Nat := 0
  base : Map (Nat × Nat) := []
  drops : Map Nat := []
  /-- bytes whose tokens are granted, and the request that waits -/
  paid : Nat := 0
  tok : Nat := 0
deriving DecidableEq, Repr

structure Chv where
  inq : List TracePkt := []
  sinks : Map Sink := []
  srcLost : Map Nat := []
  frozen : Bool := false
deriving DecidableEq, Repr
/-! ## Lattice links (chapter 10) -/

/-- Link states, in the code order of Table 10-18. -/
inductive LinkSt where
  | off | detect | train | ident | up | fastRt | fullRt | down | test | looped
deriving DecidableEq, Repr

/-- A sequenced frame in the retry buffer, with the times it has been sent (R287, R304). -/
structure SentFrame where
  seq : BitVec 12
  body : Body
  sent : Nat
deriving DecidableEq, Repr

/-- What a transmitter puts on the line (R289). -/
inductive WireItem where
  | ts (s : TrainSet)
  | fmk (mseq delay : Nat) (tvalid : Bool) (src stratum : Nat)
  | skp
  | frame (seq : BitVec 12) (b : Body)
  | idl
  | slp
  | wak
deriving DecidableEq, Repr

/-- One lattice link: its state and what it has learnt of the far end, its credits and buffers, its counters. -/
structure Link where
  st : LinkSt := .off
  noPeerRec : Bool := false
  noSignal : Bool := false
  /-- bring-up in the background of a DOWN link (Table 10-12) -/
  bg : Option LinkSt := none
  laneSwap : Bool := false
  polInv : Nat := 0
  subst : Option Nat := none
  peer : Option TrainSet := none
  peerRec : Bool := false
  goodTs : Nat := 0
  ackTs : Nat := 0
  sentAck : Nat := 0
  rtCause : Nat := 0
  txSleep : Bool := false
  rxSleep : Bool := false
  loopAcked : Bool := false
  /-- the detour of this end: the third module and the local link it uses (R308) -/
  detour : Option (Nat × Nat) := none
  -- transmitter
  txSeq : BitVec 12 := 0
  retry : List SentFrame := []
  resendAt : Option Nat := none
  ackOuts : Nat := 0
  credXch : Nat := 4096
  credTok : Nat := 64
  credPkt : Nat := 512
  credDtr : Nat := 256
  sinceDtr : Nat := 0
  sincePkt : Nat := 0
  -- receiver
  rxSeq : BitVec 12 := 0
  gotAny : Bool := false
  nakSent : Bool := false
  nakDue : Bool := false
  arrived : Nat := 0
  rxBuf : List Slot := []
  retXch : Nat := 0
  retTok : Nat := 0
  retPkt : Nat := 0
  retDtr : Nat := 0
  -- counters
  cntCrc : Nat := 0
  code0 : Nat := 0
  code1 : Nat := 0
  cntRetry : Nat := 0
  fast : Nat := 0
  full : Nat := 0
  downs : Nat := 0
  losses : Nat := 0
  /-- tenants of discarded frames (R305), and each tenant's completed ecycles at the last LINK_LOSS -/
  cut : List Nat := []
  lastLoss : Map Nat := []
  prbsErr0 : Nat := 0
  prbsErr1 : Nat := 0
  prbsBits : Nat := 0
  rtt : Nat := 0
  /-- running disparity of each lane, positive where true (R279) -/
  txRd0 : Bool := false
  txRd1 : Bool := false
  rxRd0 : Bool := false
  rxRd1 : Bool := false
  /-- symbol times received, and the places of the code errors of the last 256 (R304) -/
  rxSyms : Nat := 0
  errs0 : List Nat := []
  errs1 : List Nat := []
  /-- a frame mark waits for its gap (R289, R290) -/
  markDue : Bool := false
deriving DecidableEq, Repr

/-- Token traffic of the module: what waits for a link, what has gone out, the LHOLD sequences, what has been applied. -/
structure Lattice where
  links : Map Link := []
  tokOut : List (Nat × Token) := []
  /-- tokens that came as inner frames of a detour: failed link, SEQ, token (R309) -/
  tokIn : List (Nat × BitVec 12 × Token) := []
  slotOut : List (Nat × Slot) := []
  pktOut : List (Nat × Pkt) := []
  dtrOut : List (Nat × Body) := []
  wire : List (Nat × WireItem) := []
  spareOk : List (Nat × Nat) := []
  spareUsed : List (Nat × Nat) := []
  lholdSeq : Nat := 0
  lholdSeen : Map Nat := []
  nbrOf : Map (BitVec 256) := []
  marker : Nat := 0
  /-- drain markers that have not returned: number, tenant, and the link it went out on, none for the NoC (R221) -/
  markers : List (Nat × Nat × Option Nat) := []
  /-- request entries applied: tenant, origin, type, b (R291) -/
  reqSeen : List (Nat × Nat × Nat × Nat) := []
deriving DecidableEq, Repr
/-! ## Supply and power domains (chapter 09) -/

/-- A switched power domain (Table 9-8): its rail switched on, in its window, and whether it has left it. -/
structure Domain where
  on : Bool := false
  good : Bool := false
  fault : Bool := false
deriving DecidableEq, Repr

/-- Supplies, domains and Basil's figures: powers in units of 0.1 W, voltages in mV or steps of 5 mV above 0.60 V,
temperatures in units of 0.25 °C. -/
structure Pwr where
  domains : Map Domain := []
  suppliesGood : Bool := false
  fastCap : Bool := false
  limiter : Bool := false
  small : Bool := false
  hub : Nat := 2
  hubTarget : Option Nat := none
  /-- the newest evaluation's level, which a move in progress puts off (Table 9-5) -/
  hubWish : Option Nat := none
  thermalWarn : Bool := false
  /-- the sum and the number of the results of VIN and of the input current since the last evaluation (R472) -/
  vinSum : Nat := 0
  vinN : Nat := 0
  iinSum : Nat := 0
  iinN : Nat := 0
  vin : Nat := 0
  iin : Nat := 0
  pIn : Nat := 0
  pTh : Nat := 5600
  pNt : Nat := 0
  pLk : Nat := 0
  vt : Nat := 0x1E
  vtTarget : Option Nat := none
  cap : Nat := 0
  /-- the newest evaluation's cap, 0 for none, and V_T, which a move in progress puts off (Table 9-5) -/
  capTarget : Nat := 0
  vtWish : Nat := 0x1E
  derateRun : Nat := 0
  floorRun : Nat := 0
  tMax : Int := 0
  tSrc : Nat := 0
  bkpReset : Bool := false
  vbatLow : Bool := false
  vbatAbsent : Bool := false
  vbat : Nat := 0
  energy : Map (BitVec 48) := []
  /-- output current of each converter in 0.1 A, and the phases shed, 8·converter + phase (R261) -/
  load : Map Nat := []
  phaseBad : List Nat := []
  /-- domains whose power-up the scheduler or Basil has requested (R263, R275) -/
  wanted : List Nat := []
deriving DecidableEq, Repr
/-! ## The edge fabric (chapter 14) -/

/-- Bank stages, in the code order of EDG_BANK_STAT. -/
inductive BStage where
  | off | check | out | we | run | failsafe | retreat
deriving DecidableEq, Repr

/-- An edge bank: its stage and the stage that RETREAT shows, its bridge, and the groups of the ecycles. -/
structure EdgeBank where
  stage : BStage := .off
  undoing : BStage := .off
  fsCause : Nat := 0
  /-- the pins are at high impedance rather than in their fail-safe states (Table 14-6) -/
  hiZ : Bool := false
  vioOk : Bool := false
  /-- when the first of the good readings in a row was made, in sixths of a microsecond of slots (R414) -/
  vioSince : Option Nat := none
  brownout : Bool := false
  /-- output groups that wait, by ecycle -/
  outFifo : List (Nat × DWord) := []
  /-- input groups that wait, by the ecycle that takes them in LOCKED -/
  inFifo : List (Nat × DWord) := []
  /-- the release sample's two ecycles (R410) -/
  rel : List (Nat × DWord) := []
  co : DWord := 0
  /-- the target cycle under way: its ecycle, and whether C2 has passed -/
  cyc : Option (Nat × Bool) := none
  tclk : Bool := false
  tcyc : Nat := 0
  /-- ecycles below this one have been pushed, so the release mark is pushed − 1 (R222) -/
  pushed : Nat := 0
  /-- the next ecycle whose input group is to be delivered, and the groups delivered for the latest ecycles -/
  nextIn : Nat := 0
  given : List (Nat × DWord) := []
  /-- the routed row as it left its tile at the end of an ecycle that the tenant has not completed (R407) -/
  rows : Map DWord := []
  grpOut : DWord := 0
  grpIn : DWord := 0
  inRef : Nat := 0
deriving DecidableEq, Repr

/-- What the clock of a region changes (R399, R401, R405): the stored values of its macrocells in region order, the accumulators of its
MAC slices, their results of the last four clocks, and the values that its isolation cells passed last. -/
structure FabRegion where
  regs : BitVec 2048 := 0
  acc : List DWord := []
  pipe : List (List DWord) := []
  lastIn : BitVec 512 := 0
  lastOut : BitVec 512 := 0
deriving DecidableEq, Repr

/-- The edge fabric: banks, loaded regions, the reconfiguration under way, and the pad-ring latches that hold fail-safe
states (R419): presets by pin, and none after a loss of VIN until LOAD. -/
structure Edg where
  banks : Map EdgeBank := []
  loaded : List Nat := []
  pr : Option Nat := none
  prQueue : List Nat := []
  prResult : Nat := 0
  /-- the token request that the region image waits for (R421, R249) -/
  prTok : Nat := 0
  prCheck : Nat := 0
  padsPreset : Bool := false
  /-- the fail-safe state in the latches of a pin (R419), as Table 14-11 codes it; high impedance where none is held -/
  padFs : Map Nat := []
  fab : Map FabRegion := []
  /-- serialiser words of FABRIC pins: as last received, and as last sent, and the pins that their region drives by OE (R397, R403) -/
  rx : Map Byte := []
  tx : Map Byte := []
  oe : List Nat := []
  /-- FCLK runs within its monitor limits -/
  fclkOk : Bool := false
deriving DecidableEq, Repr
/-! ## Configuration and update (chapter 15) -/

/-- The stages of an update (Table 15-10); none is a slot without a record. -/
inductive UStage where
  | none | download | verified | activated | trial | confirmed | reverted | aborted
deriving DecidableEq, Repr

/-- The newest STAGE record of a slot (Table 15-10), and the sector of the records ring that holds it (R439). -/
structure StageRec where
  rseq : Nat
  stage : UStage
  cseq : Nat
  len : Nat
  pcheck : Nat
  sec : Nat
deriving DecidableEq, Repr

/-- The newest STATE record (Table 15-10). -/
structure StateRec where
  rseq : Nat
  lc : Nat
  mcs : List Nat
  sec : Nat
deriving DecidableEq, Repr

/-- The configuration flash (R435 to R439, R449): the packages of the slots (0 copy A, 1 copy B, 2 Bay), the newest records,
the ring position of the next record, and each sector's counts and retirement. -/
structure Flash where
  slots : Map (List Byte) := []
  stages : Map StageRec := []
  state : Option StateRec := none
  /-- the metadata shows that the device has left BLANK (R267) -/
  leftBlank : Bool := false
  rseq : Nat := 0
  recSec : Nat := 0
  recIdx : Nat := 0
  recWrap : Bool := false
  erases : Map Nat := []
  /-- program-verify retries of a sector (R436) -/
  retries : Map Nat := []
  /-- retired sectors and the spare that serves in their place -/
  retired : Map Nat := []
  noSpare : List Nat := []
  retiredN : Nat := 0
  sparesUsed : Nat := 0
  worn : List Nat := []
  /-- repair list: location, RSEQ -/
  repairs : List (Nat × Nat) := []
deriving DecidableEq, Repr

/-- What LOAD is doing (R440, R441). -/
inductive LoadPhase where
  | none
  | cspWait
  | pushing (len : Nat)
  | pushed
  | copy (slot : Nat) (trial : Bool)
deriving DecidableEq, Repr

/-- A DOWNLOAD under way (R444): its slot and CSEQ, who asked, and the package's place or its bytes so far. -/
structure UpdJob where
  slot : Nat
  cseq : Nat
  csp : Bool
  off : Nat
  len : Nat
  bytes : List Byte
  ended : Bool
deriving DecidableEq, Repr

structure Cfg where
  flash : Flash := {}
  /-- backup domain: life-cycle state, the one that takes effect at the next RESET, MC0 to MC3 (R448, R465) -/
  lc : Nat := 0
  lcNext : Option Nat := none
  mc : Map Nat := []
  bootSrc : Nat := 0
  bootSeq : Nat := 0
  trial : Bool := false
  /-- the loaded copy carried a valid AUTH section (R465), and its ROLLBACK -/
  auth : Bool := false
  rollback : Nat := 0
  /-- configuration memory: 256 bytes of DATA by 2^24 SPACE + INDEX -/
  frames : Map (List Byte) := []
  /-- target-class frames in error (R433) -/
  bad : List Nat := []
  ce : Nat := 0
  ue : Nat := 0
  /-- the frame that Sorrel read last in this pass -/
  pos : Option Nat := none
  phase : LoadPhase := .none
  tried : List Nat := []
  push : List Byte := []
  cspSel : Nat := 0
  cspDead : Bool := false
  cspTimeouts : Nat := 0
  cspRow : Nat := 0
  /-- the reply that the port drove last (R442) -/
  cspOut : List Byte := []
  job : Option UpdJob := none
  updStage : UStage := .none
  updResult : Nat := 0
  updCsp : Bool := false
  progress : Nat := 0
  flashRetries : Nat := 0
deriving DecidableEq, Repr

/-! ## Clocks, reset and Sage (chapter 16) -/

/-- The root's sources and what proves them (R451 to R457), the trim loop (R455), and the last reset (R458). -/
structure Clk where
  ioscProven : Bool := false
  xtalProven : Bool := false
  refProven : Bool := false
  refFreq : Nat := 0
  root : ClkSrc := .none
  /-- the source that the root is moving to, and whether its own loss began the move (R456) or a return did (R457) -/
  toSrc : Option (ClkSrc × Bool) := none
  trimValid : Bool := false
  holdover : Bool := false
  pclkOk : Bool := false
  trim : Int := 0
  err : Int := 0
  good : Nat := 0
  /-- the hub-die temperature at the last valid window, in 0.25 °C -/
  tempAt : Int := 0
  rstCause : Nat := 1
  savedUsed : Bool := false
  ioscRetry : Nat := 0
  extRetry : Nat := 0
  /-- IOSC has tripped in this RESET -/
  ioscTrip : Bool := false
  switched : Bool := false
  /-- RESET_N is low after its filter has acted (R458) -/
  resetLow : Bool := false
  /-- backup domain: the trim saved at the last valid window; fuses: the trim -/
  savedTrim : Option Int := none
  fusedTrim : Int := 0
deriving DecidableEq, Repr

/-- Sage: the self-test's outcome, the test in hand, signatures, and the fuses (R462 to R465). -/
structure Sage where
  post : Nat := 0
  tilesFailed : Nat := 0
  colRepairs : Nat := 0
  failUnit : Nat := 0
  tfail : List Nat := []
  state : Nat := 0
  test : Nat := 0
  arg : Nat := 0
  fails : Nat := 0
  sig : Map DWord := []
  keys : Map Nat := []
  revoked : List Nat := []
  /-- soft and fused column repairs: physical tile, bank, column -/
  soft : List (Nat × Nat × Nat) := []
  fused : List (Nat × Nat × Nat) := []
  /-- rows repaired for good: stack and row -/
  hard : List Nat := []
deriving DecidableEq, Repr

/-! ## The analogue monitor (chapter 17) -/

/-- A published result (ANA_RES), with ANA_RAW. -/
structure AnaRes where
  value : Int := 0
  valid : Bool := false
  high : Bool := false
  ovr : Bool := false
  changed : Bool := false
  isOpen : Bool := false
  urgent : Bool := false
  count : Nat := 0
  code : Nat := 0
  slice : Nat := 0
deriving DecidableEq, Repr

/-- The progress of one entry of the sequence table (R473, R475). -/
structure AnaEnt where
  enabled : Bool := false
  /-- the range that the next conversion uses under AUTO, and that of the last published result -/
  high : Bool := true
  last : Option Bool := none
  reconv : Bool := false
  /-- open-wire test: passes since the last one, the pull-up reading of one under way, and what the last one found -/
  passes : Nat := 0
  up : Option Nat := none
  isOpen : Bool := false
  /-- the value lies beyond a limit, until it returns inside by 1 % (R478) -/
  beyond : Bool := false
deriving DecidableEq, Repr

structure Ana where
  /-- healthy slices in rotation, oldest calibration first; the spare; whether R477's last row holds -/
  rota : List Nat := [0, 1, 2, 3]
  spare : Option Nat := some 4
  failed : Bool := false
  /-- the offsets of each slice's latest calibration, in LOW and in HIGH -/
  cal : Map (Int × Int) := []
  res : Map AnaRes := []
  ents : Map AnaEnt := []
  alarm : Nat := 0
  /-- the next entry of the pass, the slots that the pass has taken, and the last pass's time in 0.1 µs -/
  pos : Nat := 0
  slots : Nat := 0
  pass : Nat := 0
  /-- time of the slots taken so far, in sixths of a microsecond -/
  tick : Nat := 0
  /-- when Basil last asked for the die temperatures -/
  asked : Nat := 0
  /-- inputs that wait in an urgent request -/
  urgent : List Nat := []
  /-- conversions in a row at or above the shutdown limit, by input (R269) -/
  hot : Map Nat := []
deriving DecidableEq, Repr
/-! ## The whole module -/

/-- Reasons a step stops. No path of this model ends in one: the manual gives every command an effect. -/
inductive Fault where
  /-- Raised by no command; kept so that the type has a name to report with. Safe. -/
  | none
deriving DecidableEq, Repr

/-- Reasons a command has no meaning. -/
inductive Refusal where
  /-- An arm of exec that has not been written yet. Safe: the machine stops where the hardware goes on. -/
  | notModelled (mnemonic : String)
deriving DecidableEq, Repr

structure State where
  dev : Dev := {}
  regs : Map Word := []
  tenants : Map Tenant := []
  tiles : Map Tile := []
  fm : FaultMgr := {}
  sched : Sched := {}
  cap : Capture := {}
  trig : Trig := {}
  host : HostIf := {}
  noc : Noc := {}
  ds : Mem := []
  thy : Thyme := {}
  chv : Chv := {}
  lat : Lattice := {}
  pwr : Pwr := {}
  edg : Edg := {}
  cfg : Cfg := {}
  clk : Clk := {}
  sage : Sage := {}
  ana : Ana := {}
  /-- words that the read of a low word has latched, by the offset that returns them (R483) -/
  latch : Map Word := []
  /-- the model's own: the next argument of a free value (log entry 3) -/
  freeCtr : Nat := 0
  /-- the model's own: the commands that wait, first in, first out -/
  pending : List Instr := []
deriving DecidableEq, Repr

/-- The module right after reset: mode RESET, no tenant, every table at its reset values, nothing waiting. -/
def State.reset : State := {}

end Sys2Proof.Machine
end

