-- ==== Sys2Proof/Machine/Regs.lean ====
section
/-!
DEFINITION. The registers that software writes, by their offset in PF BAR0 (Table 18-1): reset value, and which bits are
RW, W1C, W1S and WO (Table 0-5); `whole` marks a whole-word register (R482). Read-only registers are views of State.
-/
namespace Sys2Proof.Machine

/-- One register, or `n1` × `n2` instances of it at strides `s1` and `s2`. -/
structure RegDesc where
  base : Nat
  s1 : Nat
  n1 : Nat
  s2 : Nat
  n2 : Nat
  reset : Nat
  rw : Nat
  w1c : Nat
  w1s : Nat
  wo : Nat
  whole : Bool
deriving DecidableEq, Repr

/-- Whether a descriptor names the register at an offset. -/
def RegDesc.covers (r : RegDesc) (off : Nat) : Bool :=
  let d := off - r.base
  let i := if r.n1 ≤ 1 then 0 else d / r.s1
  let e := d - i * r.s1
  let j := if r.n2 ≤ 1 then 0 else e / r.s2
  decide (r.base ≤ off) && decide (i < r.n1) && decide (j < r.n2) && decide (d = i * r.s1 + j * r.s2)

def regTable0 : List RegDesc := [
  /- DEV_ID -/ ⟨0x0, 0, 1, 0, 1, 0x00012192, 0, 0, 0, 0, false⟩,
  /- DEV_CTL -/ ⟨0x24, 0, 1, 0, 1, 0, 0x1, 0, 0x00010100, 0xFF000000, true⟩,
  /- TIL_ARR_ERR -/ ⟨0x010000C0, 0x10000, 200, 0, 1, 0, 0, 0x00100000, 0, 0, true⟩,
  /- TIL_CONTRACT -/ ⟨0x01000140, 0x10000, 200, 0, 1, 0, 0, 0x0FFF0000, 0x80000000, 0, true⟩,
  /- SCH_CTL -/ ⟨0x90000, 0, 1, 0, 1, 0x00007800, 0x0000FF03, 0, 0, 0, false⟩,
  /- SCH_BW_CLASS0 -/ ⟨0x90040, 4, 2, 0, 1, 0x0000000A, 0x0000007F, 0, 0, 0, false⟩,
  /- SCH_BW_CLASS2 -/ ⟨0x90048, 0, 1, 0, 1, 0x0000000F, 0x0000007F, 0, 0, 0, false⟩,
  /- SCH_BW_CLASS3 -/ ⟨0x9004C, 0, 1, 0, 1, 0x00000014, 0x0000007F, 0, 0, 0, false⟩,
  /- SCH_BW_CLASS4 -/ ⟨0x90050, 0, 1, 0, 1, 0x0000000F, 0x0000007F, 0, 0, 0, false⟩,
  /- SCH_BW_CLASS5 -/ ⟨0x90054, 0, 1, 0, 1, 0x0000000A, 0x0000007F, 0, 0, 0, false⟩,
  /- SCH_GROUP -/ ⟨0x90100, 4, 16, 0, 1, 0x00003210, 0x00FFFFFF, 0, 0, 0, false⟩,
  /- SCH_TCFG -/ ⟨0x92000, 4, 256, 0, 1, 0x00001000, 0x0000FF1F, 0, 0, 0, false⟩,
  /- SCH_TREGION_BASE -/ ⟨0x92400, 4, 256, 0, 1, 0, 0x7FF, 0, 0, 0, false⟩,
  /- SCH_TREGION_SIZE -/ ⟨0x92800, 4, 256, 0, 1, 0, 0x7FF, 0, 0, 0, false⟩,
  /- SCH_LSYNC -/ ⟨0x93000, 4, 256, 0, 1, 0x00010004, 0xF, 0, 0, 0, false⟩,
  /- SCH_DEBUG -/ ⟨0x94000, 4, 256, 0, 1, 0, 0x7F, 0x100, 0, 0, true⟩,
  /- ERR_LOG_RIDX -/ ⟨0x70004, 0, 1, 0, 1, 0, 0xFFFFFFFF, 0, 0, 0, false⟩,
  /- ERR_LOG_STAT -/ ⟨0x70008, 0, 1, 0, 1, 0, 0, 0x3, 0, 0, true⟩,
  /- ERR_FM_CFG -/ ⟨0x70010, 0, 1, 0, 1, 0x0010020A, 0x001FFFFF, 0, 0, 0, false⟩,
  /- ERR_CKPT_CFG -/ ⟨0x71000, 4, 256, 0, 1, 0x0C18180C, 0x00FF1F1F, 0, 0, 0, false⟩]

def regTable1 : List RegDesc := [
  /- TRG_CTL -/ ⟨0xD0000, 0x800, 16, 0, 1, 0, 0x0000FFFF, 0, 0x10000, 0, true⟩,
  /- TRG_STAT -/ ⟨0xD0004, 0x800, 16, 0, 1, 0, 0, 0x80, 0, 0, true⟩,
  /- TRG_COND_A -/ ⟨0xD0100, 0x800, 16, 16, 16, 0, 0xFFFFFFFF, 0, 0, 0, false⟩,
  /- TRG_ACT_A -/ ⟨0xD0104, 0x800, 16, 16, 16, 0, 0x00FFFFFF, 0, 0, 0, false⟩,
  /- TRG_COND_B -/ ⟨0xD0108, 0x800, 16, 16, 16, 0, 0xFFFFFFFF, 0, 0, 0, false⟩,
  /- TRG_ACT_B -/ ⟨0xD010C, 0x800, 16, 16, 16, 0, 0x00FFFFFF, 0, 0, 0, false⟩,
  /- TRG_MASK_CFG -/ ⟨0xD0200, 0x800, 16, 32, 8, 0, 0x000003FF, 0, 0, 0, false⟩,
  /- TRG_MASK_VAL_LO -/ ⟨0xD0204, 0x800, 16, 32, 8, 0, 0xFFFFFFFF, 0, 0, 0, false⟩,
  /- TRG_MASK_VAL_HI -/ ⟨0xD0208, 0x800, 16, 32, 8, 0, 0xFFFFFFFF, 0, 0, 0, false⟩,
  /- TRG_MASK_MSK_LO -/ ⟨0xD020C, 0x800, 16, 32, 8, 0, 0xFFFFFFFF, 0, 0, 0, false⟩,
  /- TRG_MASK_MSK_HI -/ ⟨0xD0210, 0x800, 16, 32, 8, 0, 0xFFFFFFFF, 0, 0, 0, false⟩,
  /- TRG_CNT_SRC -/ ⟨0xD0300, 0x800, 16, 16, 4, 0, 0x1F, 0, 0, 0, false⟩,
  /- TRG_CNT_LIMIT_LO -/ ⟨0xD0304, 0x800, 16, 16, 4, 0, 0xFFFFFFFF, 0, 0, 0, false⟩,
  /- TRG_CNT_LIMIT_HI -/ ⟨0xD0308, 0x800, 16, 16, 4, 0, 0xFFFF, 0, 0, 0, false⟩,
  /- TRG_DUR_LO -/ ⟨0xD0360, 0x800, 16, 8, 2, 0, 0xFFFFFFFF, 0, 0, 0, false⟩,
  /- TRG_DUR_HI -/ ⟨0xD0364, 0x800, 16, 8, 2, 0, 0xFF, 0, 0, 0, false⟩,
  /- TRG_HOLDOFF -/ ⟨0xD0370, 0x800, 16, 0, 1, 0, 0xFFFFFF7F, 0, 0, 0, false⟩,
  /- ACQ_CTL -/ ⟨0xD8000, 0x40, 16, 0, 1, 0x00100000, 0x003FFFFF, 0, 0, 0, true⟩,
  /- ACQ_STAT -/ ⟨0xD8004, 0x40, 16, 0, 1, 0, 0, 0x18, 0, 0, true⟩,
  /- ACQ_GROUPS_LO -/ ⟨0xD8008, 0x40, 16, 0, 1, 0, 0xFFFFFFFF, 0, 0, 0, false⟩]

def regTable2 : List RegDesc := [
  /- ACQ_GROUPS_HI -/ ⟨0xD800C, 0x40, 16, 0, 1, 0, 0xFFFFFFFF, 0, 0, 0, false⟩,
  /- ACQ_BASE_LO -/ ⟨0xD8010, 0x40, 16, 0, 1, 0, 0xFFFFFFFF, 0, 0, 0, false⟩,
  /- ACQ_BASE_HI -/ ⟨0xD8014, 0x40, 16, 0, 1, 0, 0xFFFFFFFF, 0, 0, 0, false⟩,
  /- ACQ_POST -/ ⟨0xD8018, 0x40, 16, 0, 1, 0, 0xFFFFFFFF, 0, 0, 0, false⟩,
  /- ACQ_PACE_LIMIT -/ ⟨0xD801C, 0x40, 16, 0, 1, 0, 0xFFFF, 0, 0, 0, false⟩,
  /- ACQ_RIDX_LO -/ ⟨0xD8028, 0x40, 16, 0, 1, 0, 0xFFFFFFFF, 0, 0, 0, false⟩,
  /- ACQ_RIDX_HI -/ ⟨0xD802C, 0x40, 16, 0, 1, 0, 0xFFFFFFFF, 0, 0, 0, false⟩,
  /- TRG_IN_CTL -/ ⟨0xDC000, 4, 4, 0, 1, 0, 0x000007FF, 0, 0, 0, false⟩,
  /- TRG_OUT_CTL -/ ⟨0xDC010, 4, 4, 0, 1, 0, 0x00FF007B, 0, 0, 0, false⟩,
  /- CAP_RIDX -/ ⟨0xF1400, 4, 256, 0, 1, 0, 0xFFFF, 0, 0, 0, true⟩,
  /- HIF_SMB_CFG -/ ⟨0x80100, 0, 1, 0, 1, 0x000000D8, 0x1FF, 0, 0, 0, false⟩,
  /- PWR_CFG -/ ⟨0x10004, 0, 1, 0, 1, 0x000F0A1E, 0xFFFFFFFF, 0, 0, 0, false⟩,
  /- PWR_FLOOR -/ ⟨0x10008, 0, 1, 0, 1, 0x1D6, 0x7FF, 0, 0, 0, false⟩,
  /- PWR_BKP -/ ⟨0x10024, 0, 1, 0, 1, 0, 0, 1, 0, 0, true⟩,
  /- PWR_DOM_CTL -/ ⟨0x10100, 4, 66, 0, 1, 1, 1, 0, 0, 0, false⟩,
  /- LNK_ID -/ ⟨0x100000, 0, 1, 0, 1, 0, 0xFFFF01FF, 0, 0, 0, false⟩,
  /- LNK_CTL -/ ⟨0x110000, 0x400, 144, 0, 1, 0x41, 0xFF, 0, 0x300, 0, true⟩,
  /- LNK_SLEEP -/ ⟨0x11000C, 0x400, 144, 0, 1, 0xA, 0xFFFF, 0, 0, 0, false⟩,
  /- THY_STAT -/ ⟨0x40000, 0, 1, 0, 1, 0x00FFFF00, 0, 0x10, 0, 0, true⟩,
  /- THY_CTL -/ ⟨0x40004, 0, 1, 0, 1, 0, 0x7, 0, 0x100, 0, true⟩]

def regTable3 : List RegDesc := [
  /- THY_SET_NS -/ ⟨0x40020, 0, 1, 0, 1, 0, 0x3FFFFFFF, 0, 0, 0, false⟩,
  /- THY_SET_S_LO -/ ⟨0x40024, 0, 1, 0, 1, 0, 0xFFFFFFFF, 0, 0, 0, false⟩,
  /- THY_SET_S_HI -/ ⟨0x40028, 0, 1, 0, 1, 0, 0xFFFF, 0, 0, 0, false⟩,
  /- THY_INC_FRAC -/ ⟨0x40030, 0, 1, 0, 1, 0x80000000, 0xFFFFFFFF, 0, 0, 0, false⟩,
  /- THY_INC_NS -/ ⟨0x40034, 0, 1, 0, 1, 0x2, 0xF, 0, 0, 0, false⟩,
  /- THY_ADJ -/ ⟨0x40038, 0, 1, 0, 1, 0, 0, 0, 0, 0xFFFFFFFF, false⟩,
  /- THY_ASYM -/ ⟨0x40040, 0, 1, 0, 1, 0, 0xFFFF, 0, 0, 0, false⟩,
  /- THY_MOUT -/ ⟨0x40050, 0, 1, 0, 1, 0xF4240000, 0xFFFFFFF1, 0, 0, 0, false⟩,
  /- THY_TSTART -/ ⟨0x40100, 0x20, 4, 0, 1, 0, 0xFF03, 0, 0, 0, true⟩,
  /- THY_TSTART_COUNT -/ ⟨0x40104, 0x20, 4, 0, 1, 1, 0xFFFFFFFF, 0, 0, 0, false⟩,
  /- THY_TSTART_NS -/ ⟨0x40108, 0x20, 4, 0, 1, 0, 0x3FFFFFFF, 0, 0, 0, false⟩,
  /- THY_TSTART_S_LO -/ ⟨0x4010C, 0x20, 4, 0, 1, 0, 0xFFFFFFFF, 0, 0, 0, false⟩,
  /- THY_TSTART_S_HI -/ ⟨0x40110, 0x20, 4, 0, 1, 0, 0xFFFF, 0, 0, 0, false⟩,
  /- CHV_SRC_MEM -/ ⟨0xE0100, 4, 16, 0, 1, 0x2, 0x77, 0, 0, 0, false⟩,
  /- CHV_SRC_SCHED -/ ⟨0xE0140, 0, 1, 0, 1, 0x4, 0x77, 0, 0, 0, false⟩,
  /- CHV_SRC_TRIG -/ ⟨0xE0144, 0, 1, 0, 1, 0x6, 0x77, 0, 0, 0, false⟩,
  /- CHV_SRC_FAULT -/ ⟨0xE0148, 0, 1, 0, 1, 0x6, 0x77, 0, 0, 0, false⟩,
  /- CHV_SRC_THYIN -/ ⟨0xE014C, 4, 2, 0, 1, 0x4, 0x77, 0, 0, 0, false⟩,
  /- CHV_MEM_CTL -/ ⟨0xE1000, 0x20, 16, 0, 1, 0, 0x003F3FFF, 0, 0, 0, false⟩,
  /- CHV_MEM_LO -/ ⟨0xE1004, 0x20, 16, 0, 1, 0, 0x1FFFFFFF, 0, 0, 0, false⟩]

def regTable4 : List RegDesc := [
  /- CHV_MEM_HI -/ ⟨0xE1008, 0x20, 16, 0, 1, 0x1FFFFFFF, 0x1FFFFFFF, 0, 0, 0, false⟩,
  /- CHV_MEM_VMATCH -/ ⟨0xE100C, 0x20, 16, 4, 2, 0, 0xFFFFFFFF, 0, 0, 0, false⟩,
  /- CHV_SINK_CTL -/ ⟨0xE2000, 0x40, 8, 0, 1, 0x0C100000, 0x0F3F07FF, 0, 0, 0, true⟩,
  /- CHV_SINK_STAT -/ ⟨0xE2004, 0x40, 8, 0, 1, 0, 0, 0x100, 0, 0, true⟩,
  /- CHV_SINK_BASE -/ ⟨0xE2008, 0x40, 8, 4, 2, 0, 0xFFFFFFFF, 0, 0, 0, false⟩,
  /- CHV_SINK_RIDX -/ ⟨0xE2018, 0x40, 8, 4, 2, 0, 0xFFFFFFFF, 0, 0, 0, false⟩,
  /- CHV_SINK_SWMARK -/ ⟨0xE2030, 0x40, 8, 0, 1, 0, 0, 0, 0, 0xFFFFFFFF, false⟩,
  /- EDG_CFG -/ ⟨0x200000, 0, 1, 0, 1, 0x00070A0A, 0x000FFFFF, 0, 0, 0, false⟩,
  /- EDG_BANK_CFG -/ ⟨0x200100, 0x40, 12, 0, 1, 0, 0x0003FFFF, 0, 0, 0, false⟩,
  /- EDG_BANK_CTL -/ ⟨0x200104, 0x40, 12, 0, 1, 0, 0, 0, 0x3, 0, true⟩,
  /- EDG_BANK_TIME -/ ⟨0x20010C, 0x40, 12, 0, 1, 0x00280A04, 0xFFFFFFFF, 0, 0, 0, false⟩,
  /- EDG_BANK_INIT_LO -/ ⟨0x200110, 0x40, 12, 0, 1, 0, 0xFFFFFFFF, 0, 0, 0, false⟩,
  /- EDG_BANK_INIT_HI -/ ⟨0x200114, 0x40, 12, 0, 1, 0, 0xFFFFFFFF, 0, 0, 0, false⟩,
  /- EDG_ROUTE_OUT -/ ⟨0x200118, 0x40, 12, 0, 1, 0, 0x00FFFFFF, 0, 0, 0, false⟩,
  /- EDG_ROUTE_IN -/ ⟨0x20011C, 0x40, 12, 0, 1, 0, 0x03FF03FF, 0, 0, 0, false⟩,
  /- EDG_PIN -/ ⟨0x201000, 4, 768, 0, 1, 0, 0x000FFFFF, 0, 0, 0, false⟩,
  /- EDG_REGION -/ ⟨0x204000, 0x10, 8, 0, 1, 0, 0x1FF, 0, 0, 0, false⟩,
  /- EDG_PR_CMD -/ ⟨0x204100, 0, 1, 0, 1, 0, 0, 0, 0x80000000, 0x7, true⟩,
  /- EDG_PR_OFF_LO -/ ⟨0x204104, 0, 1, 0, 1, 0, 0xFFFFFFC0, 0, 0, 0, false⟩,
  /- EDG_PR_OFF_HI -/ ⟨0x204108, 0, 1, 0, 1, 0, 0xFFFFFFFF, 0, 0, 0, false⟩]

def regTable5 : List RegDesc := [
  /- CLK_CFG -/ ⟨0x20000, 0, 1, 0, 1, 0xE, 0x7F, 0, 0, 0, false⟩,
  /- CLK_RST_STAT -/ ⟨0x2000C, 0, 1, 0, 1, 0, 0, 0x1000000, 0, 0, true⟩,
  /- ANA_CTL -/ ⟨0x30000, 0, 1, 0, 1, 0x864, 0xFFF, 0, 0, 0, false⟩,
  /- ANA_ALARM -/ ⟨0x30008, 4, 2, 0, 1, 0, 0, 0xFFFFFFFF, 0, 0, true⟩,
  /- CFG_MC_VAL -/ ⟨0x50040, 0, 1, 0, 1, 0, 0xFFFFFFFF, 0, 0, 0, false⟩,
  /- CFG_MC_CMD -/ ⟨0x50044, 0, 1, 0, 1, 0, 0, 0, 0x80000000, 0x3, true⟩,
  /- CFG_UPD_OFF_LO -/ ⟨0x50050, 0, 1, 0, 1, 0, 0xFFFFFFC0, 0, 0, 0, false⟩,
  /- CFG_UPD_OFF_HI -/ ⟨0x50054, 0, 1, 0, 1, 0, 0xFFFFFFFF, 0, 0, 0, false⟩,
  /- CFG_UPD_LEN -/ ⟨0x50058, 0, 1, 0, 1, 0, 0xFFFFFFFF, 0, 0, 0, false⟩,
  /- CFG_UPD_CMD -/ ⟨0x5005C, 0, 1, 0, 1, 0, 0, 0, 0x80000000, 0xF, true⟩,
  /- CFG_SORREL -/ ⟨0x50070, 0, 1, 0, 1, 0xA, 0xFF, 0, 0, 0, false⟩,
  /- SAGE_CMD -/ ⟨0x60100, 0, 1, 0, 1, 0, 0, 0, 0x80000000, 0xFFFF, true⟩,
  /- SAGE_LC -/ ⟨0x60110, 0, 1, 0, 1, 0, 0, 0, 0, 0xFF000007, true⟩,
  /- SAGE_DATA -/ ⟨0x60200, 4, 12, 0, 1, 0, 0xFFFFFFFF, 0, 0, 0, false⟩,
  /- DST_CFG -/ ⟨0xC0100, 0, 1, 0, 1, 0x00030131, 0x00FF013F, 0, 0, 0, false⟩,
  /- ANA_SEQ -/ ⟨0x30100, 4, 24, 0, 1, 0x100, 0x3C0, 0, 0, 0, false⟩,
  /- ANA_LIM -/ ⟨0x30200, 4, 31, 0, 1, 0xFFFF0000, 0xFFFFFFFF, 0, 0, 0, false⟩,
  /- ANA_LIM31 -/ ⟨0x3027C, 0, 1, 0, 1, 0x7FFF8000, 0xFFFFFFFF, 0, 0, 0, false⟩,
  /- HUB_ERR -/ ⟨0xB0004, 0, 1, 0, 1, 0, 0, 0x01000000, 0, 0, true⟩]

/-- Every register that software writes. -/
def regTable : List RegDesc := regTable0 ++ regTable1 ++ regTable2 ++ regTable3 ++ regTable4 ++ regTable5

/-- The descriptor of the register at an offset. -/
def regDesc (off : Nat) : Option RegDesc := regTable.find? (fun r => r.covers off)

/-- The reset value of the register at an offset (R11); an unassigned offset reads zero (R480). -/
def regReset (off : Nat) : Word :=
  match regDesc off with
  | some r => BitVec.ofNat 32 r.reset
  | none => 0

/-- The stored value of a register. -/
def State.reg (s : State) (off : Nat) : Nat := (Map.get s.regs (regReset off) off).toNat

/-- Stores a register. -/
def State.setReg (s : State) (off v : Nat) : State := { s with regs := Map.set s.regs off (BitVec.ofNat 32 v) }

/-- A field of a stored register. -/
def State.rfld (s : State) (off lsb w : Nat) : Nat := fld (s.reg off) lsb w

end Sys2Proof.Machine
end

