-- ==== Sys2Proof/Machine/TileOps.lean ====
section
/-!
DEFINITION. The pure operations of one tile: what a step reads, how BPs and carry cells evaluate, the sequencer and
its stack, MAC products, and array lanes (chapters 02 to 04). The commands of the tile families call these.
-/
namespace Sys2Proof.Machine

/-- The number whose bit `i` is `f i`, for i below `n`. -/
def packBits (f : Nat → Bool) : Nat → Nat
  | 0 => 0
  | n + 1 => packBits f n + (if f n then 2 ^ n else 0)

/-! ### Program fields -/

/-- Control word of step `s` (Table 3-5). -/
def Tile.ctrl (t : Tile) (s : Nat) : Nat := (Map.get t.prog.ctrl 0 s).toNat
/-- Step word of BP `b` at step `s` (Table 3-3). -/
def Tile.word (t : Tile) (s b : Nat) : Nat := (Map.get t.prog.steps 0 (1024 * s + b)).toNat
/-- Crossbar code of slot `m` of sprig `p` at step `s` (R91). -/
def Tile.xcode (t : Tile) (s p m : Nat) : Nat := fld (Map.get t.prog.xbar 0 (16 * s + p)).toNat (12 * m) 12
/-- Truth table of a dictionary entry; entry 0 is wired to zero (R86). -/
def Tile.table (t : Tile) (f : Nat) : Nat := if f = 0 then 0 else (Map.get t.prog.dict 0 f).toNat

def Tile.tvec (t : Tile) : Nat := fld t.prog.seqCfg.toNat 0 11
def Tile.tvecValid (t : Tile) : Bool := bit t.prog.seqCfg.toNat 11 = 1
def Tile.spillBase (t : Tile) : Nat := fld t.prog.seqCfg.toNat 12 13
def Tile.spillWords (t : Tile) : Nat := fld t.prog.seqCfg.toNat 25 11
/-- Stack capacity C (R101). -/
def Tile.cap (t : Tile) : Nat := 8 + t.spillWords
/-- Sequencer operation of step `s` (Table 3-6). -/
def Tile.op (t : Tile) (s : Nat) : Nat := fld (t.ctrl s) 208 4
def Tile.opAddr (t : Tile) (s : Nat) : Nat := fld (t.ctrl s) 212 11
def Tile.opCount (t : Tile) (s : Nat) : Nat :=
  if fld (t.ctrl s) 223 12 = 0 then 4096 else fld (t.ctrl s) 223 12

/-! ### Reads of a step -/

/-- The row that bank `p` reads at step `s` (R45 to R47). A current-half row reads 0 at its own step address, also in
a loop (log entry 7). -/
def Tile.rowRead (t : Tile) (s p : Nat) : DWord :=
  let row := fld (t.ctrl s) (12 * p) 11
  if bit (t.ctrl s) (12 * p + 11) = 1 then Map.get t.ret 0 (2048 * p + row)
  else if row = s then 0 else Map.get t.cur 0 (2048 * p + row)

/-- A frame in the 64-bit form of Table 3-8, with even parity in bit 63. -/
def Frame.encode (f : Frame) : DWord :=
  let ty := match f.kind with | .none => 0 | .loop => 1 | .call => 2 | .exc => 3
  let v := ty + f.addr % 2048 * 2 ^ 2 + f.last % 2048 * 2 ^ 13 + f.rem % 4096 * 2 ^ 24 + f.code % 256 * 2 ^ 36
    + f.cause % 16 * 2 ^ 44 + f.resv % 2 ^ 15 * 2 ^ 48
  let par := ((List.range 63).filter (fun i => v.testBit i)).length % 2
  BitVec.ofNat 64 (v + par * 2 ^ 63)
/-- A frame from its 64-bit form (Table 3-8). -/
def Frame.decode (w : DWord) : Frame :=
  let v := w.toNat
  let kind := if fld v 0 2 = 0 then .none else if fld v 0 2 = 1 then .loop else if fld v 0 2 = 2 then .call else .exc
  { kind := kind, addr := fld v 2 11, last := fld v 13 11
    rem := if kind = FrameKind.loop ∧ fld v 24 12 = 0 then 4096 else fld v 24 12
    code := fld v 36 8, cause := fld v 44 4, resv := fld v 48 15 }

/-- Word `n` of the spill region (R101). -/
def Tile.spillWord (t : Tile) (n : Nat) : DWord := Map.get t.banks 0 (8192 * 15 + n)
/-- Every frame on the stack, topmost first: the on-chip ones and those of the spill region (R101). -/
def Tile.frames (t : Tile) : List Frame :=
  t.stack ++ ((List.range (t.sp - t.stack.length)).reverse).map (fun i => Frame.decode (t.spillWord (t.spillBase + i)))
/-- The topmost EXC frame. -/
def Tile.topExc (t : Tile) : Option Frame := t.frames.find? (fun f => f.kind = .exc)
/-- The topmost LOOP frame. -/
def Tile.topLoop (t : Tile) : Option Frame := t.frames.find? (fun f => f.kind = .loop)
/-- Iteration index of the topmost LOOP frame, 0 with none (R98). Table 3-8 keeps no n in the frame: it is the COUNT of the LOOP at the
step before the body (log entry 93). -/
def Tile.loopIdx (t : Tile) : Nat :=
  match t.topLoop with
  | some f => (t.opCount ((f.addr + 2047) % 2048) + 4096 - f.rem) % 4096
  | none => 0
def Tile.excCauseOf (t : Tile) : Nat := match t.topExc with | some f => f.cause | none => 0
def Tile.excCodeOf (t : Tile) : Nat := match t.topExc with | some f => f.code | none => 0

/-- The arrival word `w` of the parity bank of the ecycle in progress (R54). -/
def Tile.arrWord (t : Tile) (w : Nat) : ArrWord := Map.get t.arrive {} (16 * (t.ecyc % 2) + w)

/-- The value a crossbar code names (Table 2-2, Table 3-4). -/
def Tile.source (t : Tile) (code : Nat) : Bool :=
  if code < 0x400 then t.lastOut.getLsbD code
  else if code < 0x800 then (Map.get t.rows 0 ((code - 0x400) / 64)).getLsbD ((code - 0x400) % 64)
  else if code < 0xC00 then (t.arrWord ((code - 0x800) / 64)).data.getLsbD ((code - 0x800) % 64)
  else if code < 0xE00 then (Map.get t.res {} ((code - 0xC00) / 32)).val.getLsbD ((code - 0xC00) % 32)
  else if code = 0xE01 then true
  else if code = 0xE02 then decide (t.ecyc = 0)
  else if 0xE04 ≤ code ∧ code ≤ 0xE07 then t.excCauseOf.testBit (code - 0xE04)
  else if 0xE08 ≤ code ∧ code ≤ 0xE0F then t.excCodeOf.testBit (code - 0xE08)
  else if 0xE10 ≤ code ∧ code ≤ 0xE1B then t.loopIdx.testBit (code - 0xE10)
  else if code = 0xE1C then t.topExc.isSome
  else if 0xE20 ≤ code ∧ code ≤ 0xE3F then t.ecyc.testBit (code - 0xE20)
  else if 0xE80 ≤ code ∧ code ≤ 0xEFF then (Map.get t.edgeIn 0 (t.ecyc % 2)).getLsbD (code - 0xE80)
  else false

/-- The operand window of sprig `p` at step `s` (R41). -/
def Tile.window (t : Tile) (s p : Nat) : DWord := BitVec.ofNat 64 (packBits (fun m => t.source (t.xcode s p m)) 64)

/-- Some crossbar slot of step `s` names a code from `lo` to `lo + n − 1`. -/
def Tile.readsCode (t : Tile) (s lo n : Nat) : Bool :=
  (List.range 16).any (fun p => (List.range 64).any (fun m =>
    decide (lo ≤ t.xcode s p m) && decide (t.xcode s p m < lo + n)))

/-- Arrival words that step `s` reads and that are not FULL, as a mask (R50). -/
def Tile.awaitedWords (t : Tile) (s : Nat) : Nat :=
  packBits (fun w => t.readsCode s (0x800 + 64 * w) 64 && !(t.arrWord w).full) 16

/-- Result registers that step `s` reads and whose latest command has not delivered (R50, R132). -/
def Tile.awaitedRes (t : Tile) (s : Nat) : List (Nat × ResFrom) :=
  (List.range 16).filterMap (fun r =>
    if t.readsCode s (0xC00 + 32 * r) 32 then
      match (Map.get t.res {} r).waits with
      | some (_, k) => some (r, k)
      | none => none
    else none)

/-! ### Evaluation -/

/-- A command word (R83). -/
def isCmdWord (w : Nat) : Bool := bit w 4 = 1 || bit w 3 = 1

/-- The six operands of a step word, as index bits x0 to x5 (R82). -/
def operandBit (w : Nat) (win : DWord) (k : Nat) : Bool := win.getLsbD (fld w (9 + 6 * k) 6)

/-- Output and carry output of one BP (R40, R87); the carry output of a BP that is no carry cell is 0. -/
def bpEval (tbl w : Nat) (win : DWord) (cin : Bool) : Bool × Bool :=
  if isCmdWord w then (false, false)
  else
    let x := fun k => operandBit w win k
    let j := packBits x 5
    if fld w 5 2 = 0 then (tbl.testBit (packBits x 6), false)
    else
      let c := if fld w 5 2 = 1 then false else if fld w 5 2 = 2 then x 5 else cin
      let p := tbl.testBit j
      let g := tbl.testBit (32 + j)
      (xor p c, if p then c else g)

/-- Outputs of BPs `b` to `b + n − 1` in ascending order, the carry passing along (R88, R89). -/
def Tile.evalFrom (t : Tile) (s : Nat) (b : Nat) (carry : Bool) : Nat → Nat
  | 0 => 0
  | n + 1 =>
    let w := t.word s b
    let r := bpEval (t.table (fld w 45 11)) w (Map.get t.win 0 (b / 64)) carry
    (if r.1 then 2 ^ b else 0) + t.evalFrom s (b + 1) r.2 n

/-- The 1,024 outputs of step `s` (R40). -/
def Tile.evalAll (t : Tile) (s : Nat) : BitVec 1024 := BitVec.ofNat 1024 (t.evalFrom s 0 false 1024)

/-- The 64 BPs of bank `p` whose step word has bit `i` set, as a mask. -/
def Tile.enMask (t : Tile) (s p i : Nat) : Nat :=
  packBits (fun q => decide (bit (t.word s (64 * p + q)) i = 1)) 64

/-- A row after the BPs of `mask` have written `out` into it. -/
def maskedRow (old : DWord) (mask out : Nat) : DWord :=
  (old &&& ~~~(BitVec.ofNat 64 mask)) ||| (BitVec.ofNat 64 mask &&& BitVec.ofNat 64 out)

/-- The net-store writes of step `s` over banks 0 to `n − 1` (R44). -/
def Tile.writeRows (t : Tile) (s : Nat) : Nat → Tile
  | 0 => t
  | p + 1 =>
    let t := t.writeRows s p
    let out := fld t.outs.toNat (64 * p) 64
    let we := t.enMask s p 8
    let rt := t.enMask s p 2
    let k := 2048 * p + s
    { t with
      cur := if we = 0 then t.cur else Map.set t.cur k (maskedRow (Map.get t.cur 0 k) we out)
      ret := if rt = 0 then t.ret else Map.set t.ret k (maskedRow (Map.get t.ret 0 k) rt out) }

/-- The BPs of step `s` that deliver a tap, with their output (R84). -/
def Tile.tapsOf (t : Tile) (s : Nat) : List (Nat × Bool) :=
  (List.range 1024).filterMap (fun b => if bit (t.word s b) 7 = 1 then some (b, t.outs.getLsbD b) else none)

/-! ### MAC slices -/

/-- A 27-bit operand as an integer (R125). -/
def macOperand (v : Nat) (signed : Bool) : Int :=
  if signed && decide (2 ^ 26 ≤ v) then (v : Int) - 2 ^ 27 else v

/-- The product P, modulo 2^64 (R125). -/
def macProd (w : Nat) (win : DWord) : DWord :=
  let a := macOperand (fld win.toNat (fld w 47 6) 27) (bit w 46 = 1)
  let b := macOperand (fld win.toNat (fld w 40 6) 27) (bit w 39 = 1)
  BitVec.ofInt 64 (a * b)

/-- Whether window bit ENS enables a command (R126, R136). -/
def enabled (enu : Bool) (win : DWord) (ens : Nat) : Bool := !enu || win.getLsbD ens

/-- ACC after a command, given the cascade input (Table 4-3, R126). -/
def macAcc (c : MacCmd) (acc casc : DWord) : DWord :=
  if !c.en then acc
  else if c.op = 0 then c.prod
  else if c.op = 1 then acc + c.prod
  else if c.op = 2 then acc - c.prod
  else if c.op = 3 then casc + c.prod
  else acc

/-- The half of ACC that a command delivers (RHI). -/
def macHalf (c : MacCmd) (acc : DWord) : Word :=
  BitVec.ofNat 32 (if c.rhi then acc.toNat / 2 ^ 32 else acc.toNat)

/-- Delivers a result into RES[rd] unless a later command has named that register (R132). -/
def Tile.deliver (t : Tile) (rd ident : Nat) (v : Word) : Tile :=
  let r := Map.get t.res {} rd
  match r.waits with
  | some (i, _) => if i = ident then { t with res := Map.set t.res rd { r with val := v, waits := none } } else t
  | none => t

/-- Records that a command of this step names RES[rd] (R132). -/
def Tile.nameRes (t : Tile) (rd ident bank : Nat) (k : ResFrom) (step : Nat) : Tile :=
  { t with res := Map.set t.res rd { val := 0, named := true, waits := some (ident, k), step := step, bank := bank } }

/-! ### Array lanes -/

/-- A 32-bit lane of a 64-bit word (chapter 04). -/
def laneOf (w : DWord) (lane : Nat) : Word := BitVec.ofNat 32 (w.toNat >>> (32 * lane))

/-- The word with one lane replaced. -/
def putLane (w : DWord) (lane : Nat) (v : Word) : DWord := BitVec.ofNat 64 (setFld w.toNat (32 * lane) 32 v.toNat)

/-- The lane after an array operation (Table 4-6): 0 READ, 1 WRITE, 2 SET, 3 CLEAR. -/
def laneAfter (op : Nat) (old data : Word) (en : Bool) : Word :=
  if !en then old
  else if op = 1 then data
  else if op = 2 then old ||| data
  else if op = 3 then old &&& ~~~data
  else old

/-- Whether an array command reads the addressed lane (R144). -/
def ArrCmd.reads (c : ArrCmd) : Bool := c.op != 1 || c.rdv

/-- Counts one correction (R143, Table 4-9). -/
def Tile.countCe (t : Tile) (bank : Nat) : Tile := { t with ceCount := satInc t.ceCount 0xFFFF, ceBank := bank }

/-- Sets UE with its bank and reader (R144, Table 4-9): 0 command, 1 fill, 2 hub, 3 scrubber. -/
def Tile.setUe (t : Tile) (bank src : Nat) : Tile := { t with ue := true, ueBank := bank, ueSrc := src }

/-! ### The sequencer -/

/-- Even parity over all 64 bits holds (R105). -/
def frameParOk (w : DWord) : Bool := ((List.range 64).filter (fun i => w.getLsbD i)).length % 2 = 0

/-- Enters double fault with a cause (R111, R112 item 1): no further fetch. -/
def Tile.doubleFault (t : Tile) (cause : Nat) : Tile :=
  { t with dfault := true, dfCause := cause, excStep := t.stepNo, nextA := none, fetched := none, ending := false,
           halt := some .doubleFault }

/-- Pushes a frame; with SP ≥ 8 the bottom on-chip frame goes to the spill region (R102). -/
def Tile.push (t : Tile) (f : Frame) : Tile :=
  { t with
    stack := (f :: t.stack).take 8
    sp := t.sp + 1
    spill := if t.sp < 8 then t.spill else
      some { fill := false, word := t.spillBase + (t.sp - 8), frame := t.stack[7]?, undo := [], after := .nothing,
             step := t.stepNo } }

/-- Pops the topmost frame; with SP ≥ 9 a fill read of bank 15 follows, which may undo the pop (R102, R107). -/
def Tile.pop (t : Tile) : Tile :=
  { t with
    stack := t.stack.tail
    sp := t.sp - 1
    spill := if t.sp < 9 then t.spill else
      some { fill := true, word := t.spillBase + (t.sp - 9), frame := none, undo := t.stack, after := .nothing,
             step := t.stepNo } }
/-- What follows a pop waits for its fill, and no next address is formed meanwhile (R97); with no fill it happens at once. -/
def Tile.afterPop (t : Tile) (a : AfterFill) (now : Tile → Tile) : Tile :=
  match t.spill with
  | some sp => { t with spill := some { sp with after := a }, nextA := none }
  | none => now t

/-- Takes an exception (R108): the sequencer's own exception, pushed as an EXC frame with TVEC as the next address, or
double fault. `spBad` says that SP fails its parity. -/
def Tile.takeExc (t : Tile) (spBad : Bool) (ret cause code : Nat) : Tile :=
  if !t.tvecValid then t.doubleFault 3
  else if spBad || decide (t.cap < t.sp) then t.doubleFault 2
  else if t.sp = t.cap then t.doubleFault 1
  else
    let t := t.push { kind := .exc, addr := ret % 2048, code := code, cause := cause }
    { t with nextA := some t.tvec, fetched := none, excCause := cause, excCode := code, excStep := t.stepNo,
             excSeen := t.excSeen || decide (cause ≠ 1) }

/-- Loop-end detection after NEXT or TRAP (R97 step 2): the tile and whether a stack exception was taken. -/
def Tile.loopEnd (t : Tile) (e : SeqFind) : Tile × Bool :=
  let s := t.stepNo
  match t.stack with
  | f :: r =>
    if f.kind = .loop ∧ f.last = s then
      if 1 < f.rem then ({ t with stack := { f with rem := f.rem - 1 } :: r, nextA := some f.addr }, false)
      else if e = .spPar then (t.takeExc true (s + 1) 5 0, true)
      else if e = .framePar then (t.takeExc false (s + 1) 5 0, true)
      else ({ t.pop with nextA := some (s + 1) }, false)
    else ({ t with nextA := some (s + 1) }, false)
  | [] => ({ t with nextA := some (s + 1) }, false)

/-- NEXT (Table 3-6). -/
def Tile.seqNext (t : Tile) (e : SeqFind) : Tile := (t.loopEnd e).1

/-- END: with frames on the stack a FRAME exception, else the ecycle ends after this step (R52, Table 3-9). -/
def Tile.seqEnd (t : Tile) (e : SeqFind) : Tile :=
  if t.sp = 0 then { t with ending := true, nextA := none }
  else t.takeExc (e = .spPar) (t.stepNo + 1) 4 0

/-- JUMP. -/
def Tile.seqJump (t : Tile) : Tile := { t with nextA := some (t.opAddr t.stepNo) }

/-- LOOP: a push of a LOOP frame, or STACK_OVF (R104). -/
def Tile.seqLoop (t : Tile) (e : SeqFind) : Tile :=
  let s := t.stepNo
  if e = .spPar then t.takeExc true (s + 1) 5 0
  else if t.cap - 1 ≤ t.sp then t.takeExc false (s + 1) 2 0
  else { t.push { kind := .loop, addr := (s + 1) % 2048, last := t.opAddr s, rem := t.opCount s }
         with nextA := some (s + 1) }

/-- CALL: a push of a CALL frame, or STACK_OVF (R104). -/
def Tile.seqCall (t : Tile) (e : SeqFind) : Tile :=
  let s := t.stepNo
  if e = .spPar then t.takeExc true (s + 1) 5 0
  else if t.cap - 1 ≤ t.sp then t.takeExc false (s + 1) 2 0
  else { t.push { kind := .call, addr := (s + 1) % 2048 } with nextA := some (t.opAddr s) }

/-- RET: pops a CALL frame (Table 3-6), or STACK_UNF, PARITY or FRAME (Table 3-9). -/
def Tile.seqRet (t : Tile) (e : SeqFind) : Tile :=
  let s := t.stepNo
  match t.stack with
  | [] => t.takeExc (e = .spPar) (s + 1) 3 0
  | f :: _ =>
    if e = .spPar then t.takeExc true (s + 1) 5 0
    else if e = .framePar then t.takeExc false (s + 1) 5 0
    else if f.kind ≠ .call then t.takeExc false (s + 1) 4 0
    else { t.pop with nextA := some f.addr }

/-- RETX: pops an EXC frame; a cause other than TRAP ends in double fault UNRECOVERABLE (R110). -/
def Tile.seqRetx (t : Tile) (e : SeqFind) : Tile :=
  let s := t.stepNo
  match t.stack with
  | [] => t.takeExc (e = .spPar) (s + 1) 3 0
  | f :: _ =>
    if e = .spPar then t.takeExc true (s + 1) 5 0
    else if e = .framePar then t.takeExc false (s + 1) 5 0
    else if f.kind ≠ .exc then t.takeExc false (s + 1) 4 0
    else if f.cause = 1 then { t.pop with nextA := some f.addr }
    else t.pop.afterPop .unrecoverable (fun t => t.doubleFault 4)

/-- TRAP's condition at the step in hand (R106). -/
def Tile.trapHolds (t : Tile) : Bool :=
  let c := t.ctrl t.stepNo
  bit c 222 = 1 || (Map.get t.rows 0 (fld c 212 10 / 64)).getLsbD (fld c 212 10 % 64)

/-- TRAP (R97, R106): counts a condition that holds, detects a loop end, and takes the TRAP exception unless step 2
took one; while a fill is under way the exception waits for it. -/
def Tile.seqTrap (t : Tile) (e : SeqFind) : Tile :=
  let c := t.ctrl t.stepNo
  let hold := t.trapHolds
  let t := { t with trapCnt := if hold then t.trapCnt + 1 else t.trapCnt }
  let r := t.loopEnd e
  let t := r.1
  if hold && bit c 231 = 1 && !r.2 then
    let ret := t.nextA.getD 0
    t.afterPop (.trap (fld c 223 8) ret) (fun t => t.takeExc (e = .spPar) ret 1 (fld c 223 8))
  else t

/-- The trap event of the step in hand, if its condition holds with EVT = 1 (R106). -/
def Tile.trapEvent (t : Tile) : Option Nat :=
  if t.trapHolds && bit (t.ctrl t.stepNo) 232 = 1 then some (fld (t.ctrl t.stepNo) 223 8) else none

/-- Ends a fill read that failed: the pop is undone and a PARITY exception taken (R107). -/
def Tile.fillFails (t : Tile) (sp : Spill) (spBad : Bool) : Tile :=
  let t := { t with stack := sp.undo, sp := t.sp + 1, spill := none, stepNo := sp.step }
  t.takeExc spBad (sp.step + 1) 5 0

/-- A fill read delivers word `w` (R102, R107); `bad` says that the read found it uncorrectable or that it fails PAR, `spBad` that SP
fails its parity before the push of an exception (R105, R108). -/
def Tile.fillDone (t : Tile) (sp : Spill) (w : DWord) (bad spBad : Bool) : Tile :=
  if bad || !frameParOk w then t.fillFails sp spBad
  else
    let t := { t with stack := t.stack ++ [Frame.decode w], spill := none }
    match sp.after with
    | .nothing => t
    | .trap code ret => t.takeExc spBad ret 1 code
    | .unrecoverable => t.doubleFault 4
/-- A spill write puts its frame into bank 15 (R102). -/
def Tile.spillDone (t : Tile) (sp : Spill) : Tile :=
  { t with
    spill := none
    banks := match sp.frame with
      | some f => Map.set t.banks (8192 * 15 + sp.word) f.encode
      | none => t.banks }

end Sys2Proof.Machine
end

