-- ==== Sys2Proof/Machine/Ops.lean ====
section
/-!
DEFINITION. The named operations that the commands share: units by number, register fields, the error log (R229),
completions and interrupts (R355, R356, R362), hazard and stall counts, free values and the clock stamps.
-/
namespace Sys2Proof.Machine

/-- The outcome type of every meaning. -/
abbrev Out := Host.Outcome State Fault Refusal

/-! ### Units by number -/

def State.ten (s : State) (t : Nat) : Tenant := Map.get s.tenants {} t
def State.setTen (s : State) (t : Nat) (v : Tenant) : State := { s with tenants := Map.set s.tenants t v }
def State.updTen (s : State) (t : Nat) (f : Tenant → Tenant) : State := s.setTen t (f (s.ten t))
def State.tile (s : State) (l : Nat) : Tile := Map.get s.tiles {} l
def State.setTile (s : State) (l : Nat) (v : Tile) : State := { s with tiles := Map.set s.tiles l v }
def State.updTile (s : State) (l : Nat) (f : Tile → Tile) : State := s.setTile l (f (s.tile l))
def State.ltile (s : State) (l : Nat) : LTile := Map.get s.sched.ltiles {} l
/-- The remap entry of a logical tile; at reset logical tile 24n + i lies on T(25n + i) (R20). -/
def State.remap (s : State) (l : Nat) : Remap := Map.get s.fm.remap { ptile := l / 24 * 25 + l % 24 } l
/-- The logical tiles bound to tenant `t`, ascending (R235). -/
def State.boundTiles (s : State) (t : Nat) : List Nat :=
  (List.range 192).filter (fun l => (s.ltile l).bound && decide ((s.ltile l).ten = t))
/-- The logical tile that carries image tile `i` of tenant `t` (R116). -/
def State.tileOf (s : State) (t i : Nat) : Option Nat :=
  (s.boundTiles t).find? (fun l => decide ((s.ltile l).itile = i))
/-- The physical tile of a logical tile (R20). -/
def State.ptile (s : State) (l : Nat) : Nat := (s.remap l).ptile
/-- The logical tile that a physical tile carries, if any. -/
def State.ltileOfPhys (s : State) (n : Nat) : Option Nat :=
  (List.range 192).find? (fun l => decide ((s.remap l).ptile = n) && !(s.remap l).failed)

/-- TIL_ARR_ERR of a tile (Table 4-9). -/
def Tile.arrErr (t : Tile) : ArrErr :=
  { ceCount := t.ceCount, ceBank := t.ceBank, ue := t.ue, ueBank := t.ueBank, ueSrc := t.ueSrc }
def Tile.setArrErr (t : Tile) (e : ArrErr) : Tile :=
  { t with ceCount := e.ceCount, ceBank := e.ceBank, ue := e.ue, ueBank := e.ueBank, ueSrc := e.ueSrc }
/-- TIL_ARR_ERR of a physical tile (R145). -/
def State.arrErrOf (s : State) (n : Nat) : ArrErr :=
  match s.ltileOfPhys n with
  | some l => (s.tile l).arrErr
  | none => Map.get s.dev.arrErr {} n
/-- Logical tile `l` goes to physical tile `n`: each physical tile keeps its own TIL_ARR_ERR. -/
def State.moveArrErr (s : State) (l n : Nat) : State :=
  let e := Map.get s.dev.arrErr {} n
  let s := { s with dev := { s.dev with arrErr := Map.set s.dev.arrErr (s.ptile l) (s.tile l).arrErr } }
  s.updTile l (fun t => t.setArrErr e)

/-! ### Free values (log entry 3) -/

/-- A free natural number, and the counter advanced. -/
def State.freshNat (s : State) : Nat × State := (Config.freeNat s.freeCtr, { s with freeCtr := s.freeCtr + 1 })
/-- A free bit, and the counter advanced. -/
def State.freshBit (s : State) : Bool × State := (Config.freeBit s.freeCtr, { s with freeCtr := s.freeCtr + 1 })
/-- A free 64-bit word, and the counter advanced. -/
def State.freshDWord (s : State) : DWord × State := (Config.freeDWord s.freeCtr, { s with freeCtr := s.freeCtr + 1 })

/-! ### Function pages and interrupts (R342, R362) -/

/-- Reset value of a function-page register (Tables 12-3 to 12-5). The vector control word of an MSI-X table entry is
masked at reset (PRESUMED, PCI Express; log entry 10). -/
def fregReset (off : Nat) : Word :=
  if 0x100 ≤ off ∧ off < 0x200 then (if off % 0x20 = 8 then 0x60 else 0)
  else if 0x200 ≤ off ∧ off < 0x300 then (if off % 0x20 = 8 then 0x00010060 else 0)
  else if 0x3800 ≤ off ∧ off < 0x3900 then (if off % 16 = 12 then 1 else 0)
  else 0

/-- A register of function `fn`'s page. -/
def State.freg (s : State) (fn off : Nat) : Nat := (Map.get s.host.fregs (fregReset off) (0x4000 * fn + off)).toNat
def State.setFreg (s : State) (fn off v : Nat) : State :=
  { s with host := { s.host with fregs := Map.set s.host.fregs (0x4000 * fn + off) (BitVec.ofNat 32 v) } }
def State.sq (s : State) (fn r : Nat) : Sq := Map.get s.host.sqs {} (8 * fn + r)
def State.setSq (s : State) (fn r : Nat) (v : Sq) : State :=
  { s with host := { s.host with sqs := Map.set s.host.sqs (8 * fn + r) v } }
def State.cq (s : State) (fn r : Nat) : Cq := Map.get s.host.cqs {} (8 * fn + r)
def State.setCq (s : State) (fn r : Nat) (v : Cq) : State :=
  { s with host := { s.host with cqs := Map.set s.host.cqs (8 * fn + r) v } }
/-- Function `fn` exists (R341): the PF from IDLE onward, a VF while VF Enable is 1 and its number is within NumVFs. -/
def State.fnExists (s : State) (fn : Nat) : Bool :=
  decide (fn = 0) || (s.host.vfEn && decide (fn ≤ s.host.numVfs))

/-- The PF and its registers exist: from IDLE onward (R350, Table 1-12). -/
def Mode.configured (m : Mode) : Bool :=
  match m with
  | .off | .keep | .reset | .selftest | .load => false
  | _ => true

/-- Signals an MSI-X vector of a function: the message write, or its pending bit while the vector is masked (R362).
Without Bus Master Enable the write waits (R363). -/
def State.msix (s : State) (fn v : Nat) : State :=
  if s.freg fn (0x3800 + 16 * v + 12) % 2 = 1 then
    let p := Map.get s.host.pba 0 fn
    { s with host := { s.host with pba := Map.set s.host.pba fn (p ||| 2 ^ v) } }
  else if fn ∈ s.host.bmeOff then { s with host := { s.host with msiWait := s.host.msiWait ++ [(fn, v)] } }
  else
    { s with host := { s.host with msiOut := s.host.msiOut ++
        [(s.freg fn (0x3800 + 16 * v) + 2 ^ 32 * s.freg fn (0x3800 + 16 * v + 4), s.freg fn (0x3800 + 16 * v + 8))] } }

/-- Sets a bit of HIF_FN_STAT; each rise signals vector 8 of the function (R362, Table 12-12). -/
def State.raiseFnStat (s : State) (fn i : Nat) : State :=
  let v := Map.get s.host.fnStat 0 fn
  if v.testBit i then s
  else ({ s with host := { s.host with fnStat := Map.set s.host.fnStat fn (v ||| 2 ^ i) } }).msix fn 8

/-! ### The error log (R229, R230) -/

/-- Error classes (Table 7-10). -/
def clsEvent : Nat := 0
def clsCorrected : Nat := 1
def clsMasked : Nat := 2
def clsTenant : Nat := 3
def clsDegraded : Nat := 4
def clsDevice : Nat := 5

/-- Two reports coalesce: same CODE, SOURCE, TENANT and DETAIL. -/
def Report.same (a b : Report) : Bool :=
  decide (a.code = b.code) && decide (a.src = b.src) && decide (a.ten = b.ten) && decide (a.detail = b.detail)

/-- The report with its COUNT raised by one, saturating. -/
def Report.again (r : Report) : Report := { r with count := satInc r.count 0xFFFFFFFF }

/-- The error log after a report arrives (R229, R230): it coalesces, waits in the intake, or is lost. -/
def FaultMgr.arrive (f : FaultMgr) (r : Report) : FaultMgr :=
  let f := { f with pend := f.pend || decide (r.cls = clsDegraded) || decide (r.cls = clsDevice) }
  let newest := (f.widx - 1).toNat % 1024
  if f.intake.any (fun q => q.same r) then
    { f with intake := replaceFirst (fun q => q.same r) Report.again f.intake
             lastAt := f.widx.toNat + (f.intake.findIdx? (fun q => q.same r)).getD 0 }
  else if f.widx ≠ f.ridx ∧ ((f.ring.find? (fun e => e.1 = newest)).any (fun e => e.2.same r)) = true then
    { f with ring := f.ring.map (fun e => if e.1 = newest then (e.1, e.2.again) else e), lastAt := (f.widx - 1).toNat }
  else if f.intake.length < 64 then { f with intake := f.intake ++ [r], lastAt := f.widx.toNat + f.intake.length }
  else { f with overflow := true, lost := satInc f.lost 0xFFFF, lastAt := Config.lostSeq f.lost }

/-- Makes a report, stamped with Thyme. -/
def State.report (s : State) (code cls src : Nat) (ten : Option Nat) (detail : Nat) : State :=
  { s with fm := s.fm.arrive { code := code, cls := cls, src := src, ten := ten, detail := detail % 2 ^ 64, count := 1,
                               firstS := s.thy.sec % 2 ^ 32, firstNs := s.thy.ns } }

/-- Bits [15:0] of the SEQ of the entry that the latest report takes (Table 7-8). -/
def State.lastSeq (s : State) : Nat := s.fm.lastAt % 2 ^ 16

/-- ACCESS reports of Table 7-11, DETAIL the register offset. -/
def State.accPartial (s : State) (off : Nat) : State := s.report 0x0001 clsEvent 0 none off
def State.accKey (s : State) (off : Nat) : State := s.report 0x0002 clsEvent 0 none off
def State.accState (s : State) (off : Nat) : State := s.report 0x0003 clsEvent 0 none off
def State.accOwner (s : State) (off : Nat) : State := s.report 0x0004 clsEvent 0 none off
def State.accValue (s : State) (off : Nat) : State := s.report 0x0005 clsEvent 0 none off

/-- Moves the oldest waiting report into the ring, while the ring has room (R229). -/
def FaultMgr.intakeOne (f : FaultMgr) : FaultMgr :=
  match f.intake with
  | [] => f
  | r :: rest =>
    if (f.widx - f.ridx).toNat < 1024 then
      { f with ring := Map.set f.ring (f.widx.toNat % 1024) r, widx := f.widx + 1, intake := rest }
    else f

/-- The number of ecycles a tile has ended. -/
def Tile.endedCount (t : Tile) : Nat := (t.lastEnded + 1).toNat
/-- The number of ecycles a tile has started. -/
def Tile.startedCount (t : Tile) : Nat := if t.inEcyc then t.ecyc + 1 else t.endedCount

/-! ### Completions (R355, R356) -/

/-- Status codes (Table 12-9). -/
def stOk : Nat := 0x00
def stBadState : Nat := 0x01
def stNoImage : Nat := 0x02
def stSuperseded : Nat := 0x03
def stImageRefused : Nat := 0x04
def stCapFull : Nat := 0x05
def stBusy : Nat := 0x06
def stNoArea : Nat := 0x07
def stCapturedBad : Nat := 0x08
def stPathDown : Nat := 0x09
def stBadMode : Nat := 0x0A
def stBadArea : Nat := 0x0B
def stNoTiles : Nat := 0x0C
def stNoPath : Nat := 0x0D
def stDataUe : Nat := 0x0E
def stRegion : Nat := 0x0F
def stBadOpc : Nat := 0x10
def stBadArg : Nat := 0x11
def stNotAdmin : Nat := 0x12
def stHostFault : Nat := 0x13
def stMsgTrunc : Nat := 0x14
def stMsgFormat : Nat := 0x15
def stStoppedEarly : Nat := 0x16
def stNoPort : Nat := 0x17
def stAborted : Nat := 0x18

/-- A completion is lost: CPL_LOST in HIF_FN_STAT and in the error log (R356). -/
def State.cplLost (s : State) (fn typ : Nat) : State :=
  (s.raiseFnStat fn 17).report 0x0506 clsEvent fn none (fn + 256 * typ)

/-- Queues a completion for its ring; a disabled ring loses it (R348). -/
def State.queueCpl (s : State) (c : Cpl) : State :=
  if (s.cq c.fn c.cq).en then { s with host := { s.host with cpls := s.host.cpls ++ [c] } }
  else s.cplLost c.fn c.typ

/-- An unsolicited completion, within the pending limit of its type (R356). -/
def State.unsolicited (s : State) (fn cq typ limit : Nat) (body : List Byte) : State :=
  if ((s.host.cpls.filter (fun c => decide (c.fn = fn) && decide (c.typ = typ))).length < limit) then
    s.queueCpl { fn := fn, cq := cq, typ := typ, status := 0, sq := 0xFF, body := .raw body, noIrq := false, resv := false }
  else s.cplLost fn typ

/-- The same descriptor: one DSEQ of one submission ring (R346). -/
def sameDesc (d e : DRef) : Bool := decide (e.fn = d.fn ∧ e.sq = d.sq ∧ e.dseq = d.dseq)
/-- Takes a descriptor out of its submission ring's descriptors in progress. -/
def State.retire (s : State) (d : DRef) : State :=
  let q := s.sq d.fn d.sq
  let s := s.setSq d.fn d.sq { q with prog := removeFirst (fun e => e = d) q.prog }
  { s with host := { s.host with orphans := removeFirst (fun e => e = d) s.host.orphans, fetched := removeFirst (sameDesc d) s.host.fetched } }
/-- The place of a descriptor in fetch order across all functions; one that was never fetched comes last. -/
def State.fetchPos (s : State) (d : DRef) : Nat := s.host.fetched.findIdx (sameDesc d)
/-- Puts an entry into a list that is kept in the fetch order of its descriptors (R359, R361, R364). -/
def State.byFetch {α : Type} (s : State) (ref : α → DRef) (x : α) (l : List α) : List α :=
  let early := fun (y : α) => decide (s.fetchPos (ref y) ≤ s.fetchPos (ref x))
  l.takeWhile early ++ x :: l.dropWhile early

/-- Posts a completion of a started descriptor on its reserved entry; it is lost where the ring has been disabled since
the descriptor started (R348). -/
def State.postFor (s : State) (d : DRef) (typ status : Nat) (body : CplBody) : State :=
  if d ∈ s.host.orphans then s.cplLost d.fn typ
  else s.queueCpl { fn := d.fn, cq := d.cq, typ := typ, status := status, sq := d.sq, body := body,
                    noIrq := d.flags.getLsbD 1, resv := true }

/-- Completes a descriptor with a CMD completion (Table 12-10). -/
def State.complete (s : State) (d : DRef) (opc status result aux : Nat) : State :=
  (s.postFor d 0x01 status (.cmd opc d.flags.toNat d.tag.toNat d.dseq.toNat result aux)).retire d

/-- As complete, where a descriptor stands behind the event at all. -/
def State.completeOpt (s : State) (d : Option DRef) (opc status result aux : Nat) : State :=
  match d with
  | some r => s.complete r opc status result aux
  | none => s

/-- The RESULT of a run command: the last completed ecycle, all ones if there is none (R352). -/
def Tenant.lastEcyc (t : Tenant) : Nat := if t.done = 0 then 2 ^ 64 - 1 else t.done - 1

/-! ### Stalls and hazards (R170, R173, R175) -/

/-- Classes Table 5-9 claims zero for a contract mode: 1 BANK_EXACT, 2 QUEUE_DEPTH. -/
def claimedZero (mode c : Nat) : Bool :=
  if mode = 0 then false
  else decide (c = 5 ∨ c = 6 ∨ c = 7) || (decide (mode = 1) && decide (c = 1 ∨ c = 2))

/-- Counts one wait in class `c` and marks a violated claim (R170, Table 5-12). -/
def Tile.countStall (t : Tile) (c : Nat) : Tile :=
  { t with
    stall := Map.set t.stall c (satInc (Map.get t.stall 0 c) 0xFFFFFFFF)
    viol := if claimedZero t.contract c then t.viol ||| 2 ^ c else t.viol }

/-- Counts class `c` once for the wait in hand. -/
def Tile.stallOnce (t : Tile) (c : Nat) : Tile :=
  if c ∈ t.waited then t else { t.countStall c with waited := c :: t.waited }

/-- The detector acts for a tenant (R172). -/
def State.detects (s : State) (t : Nat) : Bool := decide (s.rfld (0x94000 + 4 * t) 0 1 = 1) && (s.ten t).img.isSome

/-- Whether SCH_DEBUG enables hazard class `cls` (Table 5-13). -/
def State.hazEnabled (s : State) (t cls : Nat) : Bool :=
  let d := s.reg (0x94000 + 4 * t)
  if cls ≤ 5 then bit d 1 = 1 else if cls ≤ 0x12 then bit d 2 = 1 else bit d 3 = 1

/-- One hazard occurrence of an ecycle that is not replayed (R172, R175): it raises a pending report's COUNT, opens a report, or is lost. -/
def State.hazard (s : State) (t itile cls step res detail ecyc : Nat) : State :=
  if s.detects t && (s.ten t).recov.isNone && s.hazEnabled t cls then
    let tn := s.ten t
    let same := fun (h : Hazard) => decide (h.tile = itile) && decide (h.cls = cls) && decide (h.step = step) &&
      decide (h.res = res)
    if tn.hazards.any same then
      s.setTen t { tn with hazards := replaceFirst same (fun h => { h with count := satInc h.count 0xFFFF }) tn.hazards }
    else if tn.hazards.length < 64 then
      s.setTen t { tn with hazards := tn.hazards ++
        [{ tile := itile, cls := cls, step := step, ecyc := ecyc, res := res, count := 1, detail := detail,
           ns := s.thy.ns }] }
    else s.setTen t { tn with hazLost := satInc tn.hazLost 0xFFFFFFFF, hazFlag := true }
  else s

/-- Hazard class of a stall class that a claim covers (Table 5-13). -/
def hazOfStall (c : Nat) : Option Nat :=
  if c = 5 then some 1 else if c = 6 then some 2 else if c = 7 then some 3
  else if c = 1 then some 4 else if c = 2 then some 5 else none

/-- Counts a wait of the step in hand at tile `l` and reports a broken claim (R170, R173). -/
def State.stallAt (s : State) (l c step res detail : Nat) : State :=
  let t := s.tile l
  if c ∈ t.waited then s
  else
    let s := s.setTile l (t.stallOnce c)
    match hazOfStall c with
    | some h => if claimedZero t.contract c then s.hazard (s.ltile l).ten (s.ltile l).itile h step res detail t.ecyc else s
    | none => s

end Sys2Proof.Machine
end

