-- ==== Sys2Proof/Machine/SchedOps.lean ====
section
/-!
DEFINITION. The scheduler's arithmetic: runnable tenants, weights, keys, the ready list and the placement of R242
(chapter 08), with the span figures of chapter 02 that requests and checkpoints use.
-/
namespace Sys2Proof.Machine

/-! ### The span of a tenant (R66 to R71) -/

/-- The tenant spans more than one module. -/
def Tenant.spans (t : Tenant) : Bool :=
  match t.img with
  | some i => decide (1 < i.mods.length)
  | none => false
/-- The span diameter, 0 on one module (Table 2-5). -/
def Tenant.diam (t : Tenant) : Nat := match t.img with | some i => i.diam | none => 0
/-- The run-ahead window W. -/
def State.window (s : State) (t : Nat) : Nat := s.rfld (0x93000 + 4 * t) 0 4
/-- The agreement lag L = d·W + 1 (R68). -/
def State.lag (s : State) (t : Nat) : Nat := (s.ten t).diam * s.window t + 1

/-- The least exponent not below `e` whose power of two is at least `n` (R209). -/
def expAtLeast (e n : Nat) : Nat → Nat
  | 0 => e
  | f + 1 => if n ≤ 2 ^ e then e else expAtLeast (e + 1) n f

/-- The exponent of the checkpoint interval in use (R209, INT_EFF). -/
def State.intEff (s : State) (t : Nat) : Nat :=
  let e := s.rfld (0x71000 + 4 * t) 0 5
  if (s.ten t).spans then expAtLeast e (2 * s.lag t) 32 else e
/-- The checkpoint interval in use, in ecycles. -/
def State.interval (s : State) (t : Nat) : Nat := 2 ^ s.intEff t

/-! ### Runnable tenants and tiles (R24, R235 to R238) -/

/-- A run state that advances. -/
def RunState.advancing (r : RunState) : Bool := decide (r = .running ∨ r = .stepping)
/-- The run state that counts: the return state while SWAPPED. -/
def Tenant.eff (t : Tenant) : RunState := if t.run = .swapped then t.back else t.run
/-- Runnable (R24). -/
def Tenant.runnable (t : Tenant) : Bool := t.eff.advancing
/-- NTILES of this module in the tenant's image. -/
def Tenant.ntiles (t : Tenant) : Nat :=
  match t.img with
  | some i => ((i.mods[i.me]?).map (fun m => m.2)).getD 0
  | none => 0
/-- Pinned: PIN = 1, or a runnable tenant that spans (R237, R238). -/
def State.pinned (s : State) (t : Nat) : Bool :=
  decide (s.rfld (0x92000 + 4 * t) 4 1 = 1) || ((s.ten t).spans && (s.ten t).runnable)
/-- A logical tile that a physical tile in use carries (R216). -/
def State.healthy (s : State) (l : Nat) : Bool := !(s.remap l).failed && !s.fm.bad.contains (s.ptile l)
/-- Healthy logical tiles bound to no tenant. -/
def State.freeTiles (s : State) : List Nat :=
  (List.range 192).filter (fun l => s.healthy l && !(s.ltile l).bound)
/-- The available tiles A of tenant `t` (R237). A pinned tenant that is not in tiles pins none yet: which tiles count as pinned is the
model's reading, and the PIN test of SCH_TCFG counts NTILES of every pinned tenant (log entry 90). -/
def State.available (s : State) (t : Nat) : Nat :=
  ((List.range 192).filter (fun l => s.healthy l &&
    !((s.ltile l).bound && decide ((s.ltile l).ten ≠ t) && s.pinned (s.ltile l).ten))).length
/-- The tenant holds tiles. -/
def State.inTiles (s : State) (t : Nat) : Bool := decide ((s.ten t).run ≠ .swapped) && !(s.boundTiles t).isEmpty

/-! ### Keys (R240, R241) -/

def State.group (s : State) (t : Nat) : Nat := s.rfld (0x92000 + 4 * t) 0 4
def State.weightT (s : State) (t : Nat) : Nat := max 1 (s.rfld (0x92000 + 4 * t) 8 8)
def State.weightG (s : State) (g : Nat) : Nat := max 1 (s.rfld (0x90100 + 4 * g) 0 8)
def State.vg (s : State) (g : Nat) : Nat := Map.get s.sched.vg 0 g
/-- Virtual times are held in units of 1 / vtUnit, so that n / W is exact for every weight W below 256. -/
def vtUnit : Nat := (List.range 255).foldl (fun a i => Nat.lcm a (i + 1)) 1

/-- The key of a tenant comes strictly before another's (R241). -/
def State.keyLt (s : State) (a b : Nat) : Bool :=
  let ga := s.vg (s.group a)
  let gb := s.vg (s.group b)
  decide (ga < gb) || (decide (ga = gb) &&
    (decide ((s.ten a).vt < (s.ten b).vt) || (decide ((s.ten a).vt = (s.ten b).vt) && decide (a < b))))

/-- Insertion into a list sorted by `lt`. -/
def insertBy (lt : Nat → Nat → Bool) (x : Nat) : List Nat → List Nat
  | [] => [x]
  | y :: r => if lt y x then y :: insertBy lt x r else x :: y :: r
/-- The list sorted by `lt`. -/
def sortBy (lt : Nat → Nat → Bool) (l : List Nat) : List Nat := l.foldr (insertBy lt) []

/-- Tenants with an entry in the table; every other one stands as at reset: STOPPED with no image. -/
def State.known (s : State) : List Nat := s.tenants.map (fun e => e.1)

/-- The ready list: runnable SWAPPED tenants, pinned ones first, then by key (R241). -/
def State.readyList (s : State) : List Nat :=
  let r := s.known.filter (fun t => decide ((s.ten t).run = .swapped) && (s.ten t).runnable)
  sortBy s.keyLt (r.filter s.pinned) ++ sortBy s.keyLt (r.filter (fun t => !s.pinned t))

/-- The tenant's forecast is never: its tiles exceed the available ones (R237). -/
def State.neverFits (s : State) (t : Nat) : Bool := decide (s.available t < (s.ten t).ntiles)

/-! ### Energy (R247) -/

/-- e_t in pJ per tile-step: measured, else SCH_CTL.EDEF in units of 10 pJ. -/
def State.eps (s : State) (t : Nat) : Nat :=
  let m := Map.get s.sched.energy 0 t
  if m = 0 then 10 * max 1 (s.rfld 0x90000 8 8) else m
/-- The step-rate cap of a tenant, where the device's is `f` Msteps/s: an acting detector lowers it to 1.00 Gsteps/s (R172). -/
def State.rateFor (s : State) (t f : Nat) : Nat := if s.detects t then min 1000 f else f
/-- P_t in µW at a device rate. -/
def State.powerAt (s : State) (t f : Nat) : Nat := (s.ten t).ntiles * s.eps t * s.rateFor t f
/-- P_t in µW at the rate in force. -/
def State.powerT (s : State) (t : Nat) : Nat := s.powerAt t s.sched.fMsps
def sumNat (l : List Nat) : Nat := l.foldl (· + ·) 0
/-- The demand of some tenants in µW at a device rate. -/
def State.demandAt (s : State) (l : List Nat) (f : Nat) : Nat := sumNat (l.map (fun t => s.powerAt t f))
/-- Runnable tenants in tiles. -/
def State.runningSet (s : State) : List Nat :=
  s.known.filter (fun t => s.inTiles t && (s.ten t).runnable)

/-! ### Bandwidth tokens (R249) -/

/-- Tokens for a transfer: one for each 4 KiB. -/
def tokensFor (bytes : Nat) : Nat := (bytes + 4095) / 4096
/-- A transfer of class `c` asks for its tokens; the answer is the number of its request. -/
def State.askTokens (s : State) (c t bytes : Nat) : Nat × State :=
  let n := s.sched.tokSeq + 1
  let q := Map.get s.sched.tokens [] c ++ [{ ten := t, tokens := tokensFor bytes, seq := n }]
  (n, { s with sched := { s.sched with tokSeq := n, tokens := Map.set s.sched.tokens c q } })
/-- The request still waits for tokens. -/
def State.tokWaits (s : State) (c seq : Nat) : Bool := (Map.get s.sched.tokens [] c).any (fun r => decide (r.seq = seq))

/-! ### Placement (R242) -/

/-- Takes victims in order until their tiles cover `need`; none if they cannot. -/
def State.takeVictims (s : State) (need : Nat) : List Nat → Option (List Nat)
  | [] => if need = 0 then some [] else none
  | v :: r =>
    if need = 0 then some []
    else (s.takeVictims (need - (s.boundTiles v).length) r).map (fun l => v :: l)

/-- Victims in the order R242 takes them for the head `h`; one that leaves by weight is none. -/
def State.victimOrder (s : State) (h : Nat) : List Nat :=
  let inT := s.known.filter (fun t => s.inTiles t && decide (s.rfld (0x92000 + 4 * t) 4 1 = 0) && !s.sched.derateOut.contains t)
  let stopped := sortBy (fun a b => decide ((s.ten a).stopRank < (s.ten b).stopRank))
    (inT.filter (fun t => !(s.ten t).runnable))
  let excess := sortBy (fun a b => s.keyLt b a)
    (inT.filter (fun t => (s.ten t).runnable && !s.pinned t && (s.ten t).sliceOver && s.keyLt h t))
  stopped ++ excess

/-- Thyme in nanoseconds. -/
def Thyme.total (t : Thyme) : Nat := t.sec * 1000000000 + t.ns
/-- An enabled trace source makes a packet, stamped with Thyme (R383, R387); none once Chervil has stopped (R394). -/
def State.emit (s : State) (p : TracePkt) : State :=
  if s.rfld (0xE0100 + 4 * p.src) 0 1 = 1 ∧ s.chv.frozen = false then { s with chv := { s.chv with inq := s.chv.inq ++ [p] } }
  else s
def State.trace (s : State) (src ten typ : Nat) (payload : List Byte) : State :=
  s.emit { src := src, ten := ten, typ := typ, payload := payload, sec := s.thy.sec, ns := s.thy.ns }

/-- A decision record of Table 8-5, while SCH_CTL.TRACE is 1. -/
def State.decision (s : State) (typ t other tiles value : Nat) : State :=
  if s.rfld 0x90000 0 1 = 1 then
    let body := leBytes (typ + 2 ^ 8 * t + 2 ^ 16 * other + 2 ^ 24 * s.group t) 4 ++ leBytes tiles 2 ++ zeros 2
      ++ leBytes value 8
    s.trace 0x10 t 2 body
  else s

/-! ### Binding and power domains (R236, R245, R263) -/

/-- A power domain (Table 9-4). -/
def State.domain (s : State) (d : Nat) : Domain := Map.get s.pwr.domains {} d
/-- The tile-group domain of a logical tile: T(25n + 5r) to T(25n + 5r + 4) lie in domain 5n + r (Table 9-4). -/
def State.domainOf (s : State) (l : Nat) : Nat := s.ptile l / 5
/-- Domains of some logical tiles that are not good. -/
def State.darkDomains (s : State) (ls : List Nat) : List Nat := ((ls.map s.domainOf).filter (fun d => !(s.domain d).good)).eraseDups
/-- The scheduler requests power for the domains of some logical tiles (R263). -/
def State.wantPower (s : State) (ls : List Nat) : State :=
  { s with pwr := { s.pwr with
    wanted := s.pwr.wanted ++ (s.darkDomains ls).filter (fun d => !s.pwr.wanted.contains d) } }

/-- The logical tile that still holds the tenant's program stores for image tile `i`, if it is free. -/
def State.residentFor (s : State) (t i : Nat) : Option Nat :=
  (List.range 192).find? (fun l => let x := s.ltile l
    x.resident && !x.bound && decide (x.ten = t ∧ x.itile = i) && s.healthy l)
/-- The logical tiles that image tiles `is` would take, in ascending order, and whether each is resident. -/
def State.bindPlan (s : State) (t : Nat) : List Nat → List Nat → List (Nat × Nat × Bool)
  | _, [] => []
  | free, i :: r =>
    match s.residentFor t i with
    | some l => if l ∈ free then (i, l, true) :: State.bindPlan s t (free.filter (fun x => decide (x ≠ l))) r
        else match free with
          | [] => []
          | x :: f => (i, x, false) :: State.bindPlan s t f r
    | none =>
      match free with
      | [] => []
      | x :: f => (i, x, false) :: State.bindPlan s t f r
/-- The plan of R236 for all image tiles of a tenant, given the free tiles. -/
def State.planFor (s : State) (t : Nat) (free : List Nat) : List (Nat × Nat × Bool) :=
  s.bindPlan t free (List.range (s.ten t).ntiles)
/-- The plan of a swap of tenant `h` with victims `vs`. -/
def State.swapPlan (s : State) (h : Nat) (vs : List Nat) : List (Nat × Nat × Bool) :=
  s.planFor h (sortBy (fun a b => decide (a < b)) (s.freeTiles ++ vs.flatMap (fun v => s.boundTiles v)))
/-- Bytes to be read for the incoming tenant (R245): state, and the program stores of tiles that are not resident. -/
def State.swapBytes (s : State) (t : Nat) (plan : List (Nat × Nat × Bool)) : Nat :=
  sumNat (plan.map (fun e =>
    let d := match (s.ten t).img with | some i => (Map.get i.tiles {} e.1).prog.depth | none => 0
    1310848 + if e.2.2 then 0 else d * 8736 + 49152))
/-- Tokens per microsecond that move `b` bytes in 0.78 ms (R245). -/
def swapRate (b : Nat) : Nat := (b + 4096 * 780 - 1) / (4096 * 780)

/-- Victims are needed (R242): the head of the ready list, but for the tenant that a swap in progress brings in, takes more tiles
than are free and than the tenants that are not runnable hold. -/
def State.victimNeeded (s : State) : Bool :=
  match s.readyList.find? (fun t => !s.neverFits t && !s.sched.swap.any (fun w => decide (w.inT = t))) with
  | none => false
  | some h =>
    let idle := s.known.filter (fun t => s.inTiles t && !(s.ten t).runnable && !s.pinned t)
    let coming := match s.sched.swap with | some w => (s.ten w.inT).ntiles | none => 0
    decide (s.freeTiles.length + sumNat (idle.map (fun t => (s.boundTiles t).length)) < (s.ten h).ntiles + coming)
/-- Slices that have ended renew where no victim is needed any longer (R242). -/
def State.renewSlices (s : State) : State :=
  if s.victimNeeded then s
  else s.known.foldl (fun s t =>
    if (s.ten t).sliceOver then s.updTen t (fun v => { v with sliceOver := false, sliceFrom := s.thy.total }) else s) s

/-- One placement decision: the head of the ready list and the victims it takes, if it is admitted (R242, R247). Power for the
domains that the placement needs is requested with the decision (R263). -/
def State.place (s : State) : State :=
  if s.sched.swap.isSome then s
  else
    let s := s.renewSlices
    match s.readyList.find? (fun t => !s.neverFits t) with
    | none => { s with sched := { s.sched with chosen := none } }
    | some h =>
      let need := (s.ten h).ntiles - s.freeTiles.length
      match s.takeVictims need (s.victimOrder h) with
      | none => ({ s with sched := { s.sched with chosen := none } }).decision 5 h 0xFF need 0
      | some vs =>
        let load := s.demandAt (s.runningSet.filter (fun t => !(vs.contains t))) s.sched.fMsps + s.powerT h
        if s.sched.pb * 1000 < load then
          ({ s with sched := { s.sched with chosen := none } }).decision 6 h 0xFF need (load / 1000)
        else ({ s with sched := { s.sched with chosen := some (h, vs) } }).wantPower ((s.swapPlan h vs).map (fun (e : Nat × Nat × Bool) => e.2.1))

/-! ### The space set (R248) -/

/-- The tenants in tiles once the ready tenants, in their order, have taken free tiles and those of their victims, with the number of
free tiles and the tenants in tiles so far. -/
def State.admitAll (s : State) : Nat → List Nat → List Nat → List Nat
  | _, held, [] => held
  | free, held, h :: r =>
    let n := (s.ten h).ntiles
    match s.takeVictims (n - free) ((s.victimOrder h).filter held.contains) with
    | none => held
    | some vs =>
      s.admitAll (free + sumNat (vs.map (fun v => (s.boundTiles v).length)) - n) (held.filter (fun x => !vs.contains x) ++ [h]) r
/-- The space set S of R248: the runnable tenants that R242 would hold in tiles if energy were unlimited. -/
def State.spaceSet (s : State) : List Nat :=
  (s.admitAll s.freeTiles.length (s.known.filter s.inTiles) (s.readyList.filter (fun t => !s.neverFits t))).filter
    (fun t => (s.ten t).runnable)

/-! ### Forecasts (R252) -/

/-- Nanoseconds to the end of the slice of a runnable tenant in tiles; a stopped one gives its tiles at once. -/
def State.sliceLeft (s : State) (t : Nat) : Nat :=
  if (s.ten t).runnable then (s.ten t).sliceFrom + 100000 * s.rfld (0x90100 + 4 * s.group t) 8 16 - s.thy.total else 0
/-- The victims that the ready tenants in front of and including the one at place `n` take, in the order in which they give their
tiles: those not runnable, then those whose slices end first (log entry 47). The answer is the last victim of that tenant. -/
def State.victimAt (s : State) : Nat → Nat → List Nat → List Nat → Option Nat → Option Nat
  | 0, _, _, _, last => last
  | _, _, _, [], last => last
  | n + 1, free, vs, h :: r, _ =>
    let need := (s.ten h).ntiles - free
    match s.takeVictims need vs with
    | none => none
    | some l => s.victimAt n (free + sumNat (l.map (fun v => (s.boundTiles v).length)) - (s.ten h).ntiles)
        (vs.filter (fun v => !l.contains v)) r l.getLast?
/-- WAIT_US of the swap forecast of the tenant at place `n` of the ready list, from 1 (R252), rounded up. -/
def State.swapWait (s : State) (t n : Nat) : Nat :=
  let inT := s.known.filter (fun v => s.inTiles v && !s.pinned v)
  let vs := sortBy (fun a b => decide ((s.ten a).stopRank < (s.ten b).stopRank)) (inT.filter (fun v => !(s.ten v).runnable)) ++
    sortBy (fun a b => decide (s.sliceLeft a < s.sliceLeft b)) (inT.filter (fun v => (s.ten v).runnable))
  let v := s.victimAt n s.freeTiles.length vs s.readyList none
  let b := s.swapBytes t (s.swapPlan t v.toList)
  let rate := s.sched.rate - s.sched.resv
  let ns := (match v with | some x => s.sliceLeft x + 12600 | none => 0) + (1000 * b + 4096 * rate - 1) / (4096 * rate)
  if rate = 0 then 2 ^ 22 - 1 else min (2 ^ 22 - 1) ((ns + 999) / 1000)

/-- A tenant that has become runnable has its vt, and its group's vg, raised to the lowest of its peers (R240). -/
def State.raiseVt (s : State) (t : Nat) : State :=
  let g := s.group t
  let peers := s.known.filter (fun u => decide (u ≠ t) && (s.ten u).runnable)
  let same := (peers.filter (fun u => decide (s.group u = g))).map (fun u => (s.ten u).vt)
  let others := (peers.filter (fun u => decide (s.group u ≠ g))).map (fun u => s.vg (s.group u))
  let s := match same with
    | [] => s
    | x :: r => s.updTen t (fun v => { v with vt := max v.vt (r.foldl min x) })
  if same.isEmpty then
    match others with
    | [] => s
    | x :: r => { s with sched := { s.sched with vg := Map.set s.sched.vg g (max (s.vg g) (r.foldl min x)) } }
  else s

end Sys2Proof.Machine
end

