-- ==== Sys2Proof/Machine/Funnel.lean ====
section
/-!
DEFINITION. The trace funnel: sinks and the packets of the funnel itself (R390 to R394).
-/
namespace Sys2Proof.Machine

def State.sink (s : State) (k : Nat) : Sink := Map.get s.chv.sinks {} k
def State.setSink (s : State) (k : Nat) (v : Sink) : State := { s with chv := { s.chv with sinks := Map.set s.chv.sinks k v } }
def State.updSink (s : State) (k : Nat) (f : Sink → Sink) : State := s.setSink k (f (s.sink k))
/-- Offset of CHV_SINK_CTL, of CHV_SRC and of CHV_MEM_CTL. -/
def sinkReg (k : Nat) : Nat := 0xE2000 + 0x40 * k
def srcReg (id : Nat) : Nat := 0xE0100 + 4 * id
def memReg (u : Nat) : Nat := 0xE1000 + 0x20 * u
def State.sinkOwner (s : State) (k : Nat) : Nat := s.rfld (sinkReg k) 0 8
def State.sinkSize (s : State) (k : Nat) : Nat := 2 ^ s.rfld (sinkReg k) 16 6
def State.sinkBase (s : State) (k : Nat) : Nat := s.reg (sinkReg k + 8) + 2 ^ 32 * s.reg (sinkReg k + 12)
/-- Bytes in staging. -/
def Sink.fill (k : Sink) : Nat := sumNat (k.staging.map List.length)

/-- The difference of two Thyme values in nanoseconds (R372). -/
def thyDiff (sa na sb nb : Nat) : Int :=
  let d : Nat := (sa + 2 ^ 48 - sb) % 2 ^ 48
  let ds : Int := if d < 2 ^ 47 then (d : Int) else (d : Int) - 2 ^ 48
  if ds ≥ 2 ^ 33 then 2 ^ 63 - 1 else if ds ≤ -(2 ^ 33) then -(2 ^ 63 - 1) else ds * 1000000000 + ((na : Int) - nb)

/-! ### Packets (R390 to R392) -/

/-- A packet: the header of Table 13-3, then its body. -/
def tracePacket (src pri typ full ten : Nat) (td : Int) (body : List Byte) : List Byte :=
  leBytes (src + 2 ^ 6 * pri) 1 ++ leBytes (typ + 2 ^ 4 * full) 1 ++ leBytes ((8 + body.length) / 4) 1 ++ leBytes ten 1 ++
    leBytes (BitVec.ofInt 32 td).toNat 4 ++ body
/-- A packet is placed in a sink's staging. -/
def Sink.put (k : Sink) (p : List Byte) (sec ns : Nat) (sync : Bool) : Sink :=
  { k with staging := k.staging ++ [p], lastSec := sec, lastNs := ns, seq := k.seq + 1, count := if sync then k.count else k.count + 1
           base := if sync then [] else k.base }
/-- The body of a funnel packet (Table 13-4), as it is placed: of a SYNC from its REASON and ECYCLE, of a LOST from its SOURCE and COUNT,
of a CLOSE from its REASON. -/
def State.funnelBody (s : State) (k typ a b : Nat) : List Byte :=
  if typ = 0 then
    leBytes s.thy.sec 8 ++ leBytes s.thy.ns 4 ++ leBytes a 1 ++ zeros 3 ++ leBytes (s.sink k).seq 4 ++ zeros 4 ++ leBytes b 8
  else if typ = 0xC then leBytes a 1 ++ zeros 3 ++ leBytes b 4
  else leBytes a 1 ++ zeros 7
/-- A packet of the funnel enters staging with the stamp of the present. -/
def State.funnelPut (s : State) (k typ ten a b : Nat) : State :=
  let q := s.sink k
  let td := if typ = 0 then 0 else thyDiff s.thy.sec s.thy.ns q.lastSec q.lastNs
  s.setSink k (q.put (tracePacket 0x3F 0 typ 1 ten td (s.funnelBody k typ a b)) s.thy.sec s.thy.ns (decide (typ = 0)))
/-- A packet of the funnel itself, where there is room for it; otherwise it waits (R387). -/
def State.funnel (s : State) (k typ ten a b : Nat) : State :=
  let q := s.sink k
  if q.wait.isEmpty && decide (q.fill + 8 + (s.funnelBody k typ a b).length ≤ 131072) then s.funnelPut k typ ten a b
  else s.setSink k { q with wait := q.wait ++ [(typ, ten, a, b)] }
def allOnes64 : Nat := 2 ^ 64 - 1
/-- A SYNC packet with full Thyme (Table 13-4). -/
def State.syncPut (s : State) (k reason ten ecyc : Nat) : State := s.funnel k 0 ten reason ecyc
/-- A stamp lies too far from that of the sink's last packet for TDELTA (R390). -/
def Sink.far (q : Sink) (sec ns : Nat) : Bool :=
  let d := thyDiff sec ns q.lastSec q.lastNs
  decide (d < -(2 ^ 31 - 1) ∨ 2 ^ 31 - 1 < d)
/-- Packets after which a PERIODIC SYNC comes (R392). -/
def State.syncEvery (s : State) (k : Nat) : Nat := if s.rfld (sinkReg k) 9 1 = 1 then 64 else 2 ^ s.rfld (sinkReg k) 24 4
/-- A PERIODIC SYNC after every 2^SYNC_LOG2 packets, or 64 in TEST, counted since `was` packets (R392; SYNC packets are not counted, log
entry 31). -/
def State.periodic (s : State) (k was : Nat) : State :=
  if (s.sink k).count / s.syncEvery k = was / s.syncEvery k then s else s.syncPut k 2 0xFF allOnes64
/-- A funnel packet other than a SYNC, with the SYNCs that its stamp and its count call for (R390, R392). -/
def State.funnelMark (s : State) (k typ ten a b : Nat) : State :=
  let was := (s.sink k).count
  let s := if (s.sink k).far s.thy.sec s.thy.ns then s.syncPut k 6 0xFF allOnes64 else s
  (s.funnel k typ ten a b).periodic k was
/-- A SYNC in every enabled sink (R371). -/
def State.syncAll (s : State) (reason : Nat) : State :=
  (List.range 8).foldl (fun s k => if (s.sink k).en then s.syncPut k reason 0xFF allOnes64 else s) s
/-- A CLOSE packet. -/
def State.closePut (s : State) (k reason ten : Nat) : State := s.funnelMark k 0xD ten reason 0

/-- Sinks that a memory unit of the tenant feeds. -/
def State.memSinks (s : State) (t : Nat) : List Nat :=
  (List.range 8).filter (fun k => (s.sink k).en && (List.range 16).any (fun u =>
    decide (s.rfld (srcReg u) 0 1 = 1 ∧ s.rfld (memReg u) 0 8 = t ∧ s.rfld (srcReg u) 4 3 = k)))
/-- SYNC REPLAY_RESUME when the tenant's AFFECTED falls (R386). -/
def State.resumeTrace (s : State) (t : Nat) : State :=
  (s.memSinks t).foldl (fun s k => s.syncPut k 4 t (s.ten t).done) s
/-- An image commit or discard ends the tracing of its tenant's memories (R394). -/
def State.closeTrace (s : State) (t : Nat) : State :=
  (List.range 16).foldl (fun s u =>
    let r := s.reg (srcReg u)
    if bit r 0 = 1 ∧ s.rfld (memReg u) 0 8 = t then
      let k := fld r 4 3
      let s := s.setReg (srcReg u) (setFld r 0 1 0)
      if (s.sink k).en then s.closePut k 3 t else s
    else s) s
/-- A FAULTEV packet (Table 13-4). -/
def State.faultEvent (s : State) (t ev logSeq e : Nat) : State :=
  s.trace 0x12 t 4 (leBytes ev 1 ++ zeros 3 ++ leBytes logSeq 4 ++ leBytes e 8)

/-- Chervil stops with the DBG domain: no packet is placed and nothing drains (R394, Table 9-4). -/
def State.chvCut (s : State) : State :=
  { s with chv := { s.chv with
      inq := [], frozen := true, sinks := s.chv.sinks.map (fun e => (e.1, { e.2 with staging := [], wait := [] })) } }
/-- Chervil stops for SAFE (R394), unless it has stopped before. -/
def State.chvSafe (s : State) : State :=
  let s := if s.chv.frozen then s else (List.range 8).foldl (fun s k => if (s.sink k).en then s.closePut k 1 0xFF else s) s
  { s with chv := { s.chv with inq := [], frozen := true } }

end Sys2Proof.Machine
end

