-- ==== Sys2Proof/Machine/Areas.lean ====
section
/-!
DEFINITION. The tenant regions of the deep store with their carved areas (R233, R234, R499), and what is written there: bytes, rings
of bytes, the input log and the journal with the tokens they hold (R213, R214, R249).
-/
namespace Sys2Proof.Machine

/-- First byte of tenant `t`'s region (SCH_TREGION_BASE). -/
def State.rbase (s : State) (t : Nat) : Nat := 2 ^ 26 * s.rfld (0x92400 + 4 * t) 0 11
/-- Bytes of tenant `t`'s region (SCH_TREGION_SIZE). -/
def State.rsize (s : State) (t : Nat) : Nat := 2 ^ 26 * s.rfld (0x92800 + 4 * t) 0 11
/-- `n` rounded up to a multiple of `a`. -/
def roundUp (n a : Nat) : Nat := (n + a - 1) / a * a
/-- Size S of a state slot for `n` tiles (R499). -/
def stateSlot (n : Nat) : Nat := roundUp (4096 + n * 1310976 + 448) 4096
/-- Size of the fault area (R499). -/
def State.faultArea (s : State) (t n : Nat) : Nat :=
  2 * stateSlot n + 2 ^ s.rfld (0x71000 + 4 * t) 8 5 + 2 ^ s.rfld (0x71000 + 4 * t) 16 5
/-- Bytes of the carved areas, swap slot and fault area, for `n` tiles. -/
def State.carvedBytes (s : State) (t n : Nat) : Nat := stateSlot n + s.faultArea t n
/-- Two byte ranges share a byte. -/
def overlaps (a la b lb : Nat) : Bool := decide (0 < la ∧ 0 < lb ∧ a < b + lb ∧ b < a + la)
/-- A range reaches into the carved areas at the top of the region. -/
def State.inCarved (s : State) (t n off len : Nat) : Bool := decide (0 < len ∧ s.rsize t < off + len + s.carvedBytes t n)
/-- Bytes are written: a line written whole is no longer poisoned (R333). -/
def State.dsWrite (s : State) (a : Nat) (bs : List Byte) : State :=
  { s with
    ds := s.ds.writeBytes a bs
    noc := { s.noc with dsPoison := s.noc.dsPoison.filter (fun l => !decide (a ≤ 64 * l ∧ 64 * l + 64 ≤ a + bs.length)) } }
/-- The bytes of a record at ring position `pos`, with those of its poisoned 64-byte lines zero (Table 11-8). -/
def zeroLines (pos : Nat) (bad : BitVec 10) (p : List Byte) : List Byte :=
  p.mapIdx (fun j b => if bad.getLsbD ((pos % 64 + j) / 64) then 0 else b)
/-- A line of the hub store's staging areas reads uncorrectable (R330): where it lies is a free value. -/
def State.stagingUe (s : State) : State :=
  let r := s.freshNat
  { r.2 with noc := { r.2.noc with hubUe := satInc r.2.noc.hubUe 0xFF, poisonSeen := true } }.report 0x0603 clsDegraded
    (0xC8 + r.1 % 4) none (r.1 / 4 % 2 ^ 28 / 64 * 64)
/-- Line `n` of a state slot or record of `size` bytes at `a` is written with its mark of poison (Table 11-8). -/
def State.poisonLine (s : State) (a size n : Nat) : State :=
  let s := s.stagingUe
  { s with noc := { s.noc with dsPoison := (a / 64 + n % (size / 64)) :: s.noc.dsPoison } }
/-- `n` bytes from address `a` become undefined: each a free value (R363; log entry 3). -/
def State.freeBytes (s : State) (a : Nat) : Nat → State
  | 0 => s
  | n + 1 =>
    let r := s.freshNat
    State.freeBytes { r.2 with ds := r.2.ds.write a (BitVec.ofNat 8 r.1) } (a + 1) n

/-- Stores bytes in a ring of `size` bytes at `base`, from ring offset `x` on, wrapping. -/
def Mem.putRing (m : Mem) (base size x : Nat) : List Byte → Mem
  | [] => m
  | b :: bs => Mem.putRing (m.write (base + x % size) b) base size (x + 1) bs

/-! ### The fault area (R499) -/

/-- First byte of a tenant's fault area: it ends at the top of the region. -/
def State.faultBase (s : State) (t : Nat) : Nat := s.rbase t + s.rsize t - s.faultArea t (s.ten t).ntiles
/-- First byte of checkpoint slot `i`, of the input log and of the journal, each directly after the one before. -/
def State.ckptBase (s : State) (t i : Nat) : Nat := s.faultBase t + i * stateSlot (s.ten t).ntiles
def State.logBase (s : State) (t : Nat) : Nat := s.ckptBase t 2
def State.logCap (s : State) (t : Nat) : Nat := 2 ^ s.rfld (0x71000 + 4 * t) 8 5
def State.jrnCap (s : State) (t : Nat) : Nat := 2 ^ s.rfld (0x71000 + 4 * t) 16 5
def State.jrnBase (s : State) (t : Nat) : Nat := s.logBase t + s.logCap t
/-- First byte of the swap slot: it ends directly below the fault area. -/
def State.swapBase (s : State) (t : Nat) : Nat := s.faultBase t - stateSlot (s.ten t).ntiles

/-! ### Tokens of the fault area (R249, class FAULT) -/

/-- The bytes of the input log and the journal that a tenant's tokens still pay for, and the request that waits. -/
def State.faultAcct (s : State) (t : Nat) : Nat × Nat := Map.get s.sched.faultAcct (0, 0) t
def State.setFaultAcct (s : State) (t : Nat) (v : Nat × Nat) : State :=
  { s with sched := { s.sched with faultAcct := Map.set s.sched.faultAcct t v } }
/-- A request for such tokens waits. -/
def State.faultWaits (s : State) (t : Nat) : Bool := s.tokWaits 0 (s.faultAcct t).2
/-- Tokens are asked for: one for each 4 KiB of `n` bytes. -/
def State.askFault (s : State) (t n : Nat) : State :=
  let r := s.askTokens 0 t n
  r.2.setFaultAcct t ((s.faultAcct t).1 + 4096 * tokensFor n, r.1)
/-- `n` bytes are written against what is paid for; tokens are asked for where that is too little. -/
def State.chargeFault (s : State) (t n : Nat) : State :=
  let s := if n ≤ (s.faultAcct t).1 then s else s.askFault t n
  s.setFaultAcct t ((s.faultAcct t).1 - n, (s.faultAcct t).2)

/-! ### The input log (R213) -/

/-- Bytes of an input-log record: a 16-byte header, and the payload padded to 16. -/
def LogRec.size (r : LogRec) : Nat := 16 + (r.payload.length + 15) / 16 * 16
/-- The record as it stands in the log. -/
def LogRec.bytes (r : LogRec) : List Byte :=
  leBytes r.typ 1 ++ zeros 1 ++ leBytes r.size 2 ++ zeros 4 ++ leBytes r.ecyc 8 ++ r.payload ++
    zeros ((r.payload.length + 15) / 16 * 16 - r.payload.length)
/-- Bytes go into a ring of the deep store. -/
def State.dsRing (s : State) (base size at_ : Nat) (bs : List Byte) : State :=
  let n := size - at_ % size
  (s.dsWrite (base + at_ % size) (bs.take n)).dsWrite base (bs.drop n)
/-- Writes an input-log record, whose bytes follow those of the record before. -/
def State.logAdd (s : State) (t typ ecyc : Nat) (payload : List Byte) : State :=
  if (s.ten t).img.isSome then
    let r : LogRec := { typ := typ, ecyc := ecyc, payload := payload }
    let at_ := (s.ten t).logAt
    let s := s.updTen t (fun v => { v with log := v.log ++ [r], logAt := v.logAt + r.size })
    (s.dsRing (s.logBase t) (s.logCap t) at_ r.bytes).chargeFault t r.size
  else s
/-- Writes a journal entry (R214): 64 free bytes of the device's own tag, and the line. -/
def State.journalAdd (s : State) (t : Nat) (e : JEnt) : State :=
  let at_ := (s.ten t).jrnAt % max 128 (s.jrnCap t)
  let s := s.updTen t (fun v => { v with journal := v.journal ++ [e], jrnAt := v.jrnAt + 128 })
  ((s.freeBytes (s.jrnBase t + at_) 64).dsWrite (s.jrnBase t + at_ + 64) e.data).chargeFault t 128

end Sys2Proof.Machine
end

