-- ==== Sys2Proof/Machine/RunState.lean ====
section
/-!
DEFINITION. Device modes (R23 to R29), run states, hold causes and boundary requests (R30 to R39, R55 to R57, R498),
the input log and early checkpoints (R213, R215).
-/
namespace Sys2Proof.Machine

/-! ### Span neighbours and tokens -/

/-- This module's ID (LNK_ID). -/
def State.moduleId (s : State) : Nat := s.rfld 0x100000 0 8

/-- The span neighbours of an image's module, as module indices (chapter 02, Across a lattice). -/
def Image.neighbours (i : Image) : List Nat :=
  (List.range i.mods.length).filter (fun m => i.links.any (fun e =>
    decide (e.frm = i.me ∧ e.dst = m) || decide (e.frm = m ∧ e.dst = i.me)))
/-- The first link of the table that leads to a module index (R496). -/
def Image.linkTo (i : Image) (m : Nat) : Option Nat :=
  (i.links.find? (fun e => decide (e.frm = i.me ∧ e.dst = m))).map (fun e => e.link)

/-- Puts a token on the link to each span neighbour of the tenant. -/
def State.tokSpan (s : State) (t : Nat) (k : Token) : State :=
  match (s.ten t).img with
  | some i =>
    let out := i.neighbours.filterMap (fun m => (i.linkTo m).map (fun l => (l, k)))
    { s with lat := { s.lat with tokOut := s.lat.tokOut ++ out } }
  | none => s

/-- The entry of a BND token that carries a request (Table 10-11). Two entries are the model's own, since the table names no type
for them: the device's own hold travels as HOLD without a cause, and an early checkpoint, whose boundary R209 has agreed under R57,
as CAPTURE without a kind (log entry 16). -/
def Req.ent (r : Req) : Option BndEnt :=
  let e := fun (typ sub arg : Nat) =>
    some { typ := typ, origin := r.origin, sub := sub, arg := arg, b := (r.due + 2 ^ 64 - 1) % 2 ^ 64 }
  match r.kind with
  | .stop => e 1 0 0
  | .start => e 2 0 0
  | .step n => e 3 0 n
  | .release => e 4 0 0
  | .hold c => e 5 c 0
  | .devHold => e 5 0 0
  | .capture k => e 6 k 0
  | .checkpoint => e 6 0 0
  | .refit => e 7 0 0
  | .swapOut => e 8 0 0

/-- The request that an entry of a BND token asks for. -/
def entKind (e : BndEnt) : Option ReqKind :=
  if e.typ = 1 then some .stop
  else if e.typ = 2 then some .start
  else if e.typ = 3 then some (.step e.arg)
  else if e.typ = 4 then some .release
  else if e.typ = 5 then some (if e.sub = 0 then .devHold else .hold e.sub)
  else if e.typ = 6 then some (if e.sub = 0 then .checkpoint else .capture e.sub)
  else if e.typ = 7 then some .refit
  else if e.typ = 8 then some .swapOut
  else none

/-- The tokens of one BND: at most 14 request entries each, all but the last with MORE (R292). -/
def splitBnd (k : Token) (es : List BndEnt) : Nat → List Token
  | 0 => [{ k with reqs := es.take 14 }]
  | f + 1 => if es.length ≤ 14 then [{ k with reqs := es }]
             else { k with reqs := es.take 14, more := true } :: splitBnd k (es.drop 14) f

/-- The hold causes in force, one bit each. -/
def causeBits (l : List Nat) : Nat := l.foldl (fun a c => a ||| 2 ^ c) 0

/-- Sends BND(t, k) to every span neighbour, with every request known and not yet in effect (R66, R293). -/
def State.sendBnd (s : State) (t k : Nat) : State :=
  let tn := s.ten t
  (splitBnd { typ := 1, ten := t, origin := s.moduleId, word := causeBits tn.holds, a := k }
    (tn.reqs.filterMap Req.ent) tn.reqs.length).foldl (fun s x => s.tokSpan t x) s
/-- The BND of the last ecycle announced once more, for the requests of a tenant that completes no ecycle (R69): ecycles that
R212 still withholds are not announced with it. -/
def State.sendNow (s : State) (t : Nat) : State := s.sendBnd t (((s.ten t).bndSent + 2 ^ 64 - 1) % 2 ^ 64)

/-- The ecycles of a tenant that BND may announce: those completed, below every checkpoint that has not landed (R212). -/
def State.bndLimit (s : State) (t : Nat) : Nat :=
  let tn := s.ten t
  (tn.ckptMoved.map (fun c => c.1.k)).foldl min tn.done

/-- Drain markers go out on every path of a tenant: one on each of the NoC's four virtual channels, and one DRAIN token to each span
neighbour, since tokens have one channel (log entry 18). -/
def State.sendMarkers (s : State) (t epoch : Nat) : State :=
  let links := match (s.ten t).img with
    | some i => if (s.ten t).spans then i.neighbours.filterMap (fun m => i.linkTo m) else []
    | none => []
  let s := (List.replicate 4 none ++ links.map some).foldl (fun s x =>
    let n := (s.lat.marker + 1) % 2 ^ 16
    let s := { s with lat := { s.lat with marker := n, markers := s.lat.markers ++ [(n, t, x)] } }
    match x with
    | some l => { s with lat := { s.lat with tokOut := s.lat.tokOut ++
        [(l, { typ := 4, ten := t, origin := s.moduleId, word := epoch + 2 ^ 16 * n })] } }
    | none => s) s
  s.updTen t (fun v => { v with drained := false })

/-! ### Modes -/

/-- The mode code of Table 1-3. -/
def Mode.code (m : Mode) : Nat :=
  match m with
  | .off => 0 | .keep => 1 | .reset => 2 | .selftest => 3 | .load => 4 | .idle => 5 | .active => 6 | .refit => 7
  | .replay => 8 | .hold => 9 | .derate => 10 | .safe => 11

/-- The SAFE_CAUSE code of Table 1-5. -/
def SafeCause.code (c : SafeCause) : Nat :=
  match c with
  | .none => 0 | .clock => 1 | .supply => 2 | .config => 3 | .thermal => 4 | .forced => 5 | .selftest => 6

/-- Changes the mode, recording MODE_CHANGE and signalling vector 9 (R29, R362). No report is made outside the
modes in which a log exists: the caller enters OFF, KEEP and RESET by other means. -/
def State.setMode (s : State) (m : Mode) : State :=
  if s.dev.mode = m then s
  else
    let old := s.dev.mode
    let s := { s with dev := { s.dev with mode := m } }
    (s.report 0x0020 clsEvent 0 none (old.code + 16 * m.code + 256 * s.dev.cause.code)).msix 0 9

/-- A HOLD condition holds: DEV_CTL.HOLD, a lattice hold token, or Basil's hold floor (Table 1-4). -/
def State.holdCond (s : State) : Bool := s.dev.holdBit || !s.dev.lattice.isEmpty || s.dev.floor
/-- A refit runs or waits: a recovery before its placement (event 1 of Table 7-6), a rebalance or a region reconfiguration. -/
def State.inRefit (s : State) : Bool :=
  !s.dev.refits.isEmpty ||
  s.tenants.any (fun e => match e.2.recov with | some r => decide (r.phase = .stopped) | none => false)
/-- Some tenant restores and replays (events 3 to 6 of Table 7-6). -/
def State.inReplay (s : State) : Bool :=
  s.tenants.any (fun e => match e.2.recov with | some r => decide (r.phase ≠ .stopped) | none => false)
/-- Every tenant that advances has stopped at its hold boundary (R28); one that recovers stops when its replay ends (R25). -/
def State.allStopped (s : State) : Bool :=
  s.tenants.all (fun e => !(e.2.run.advancing) || e.2.devHeld || e.2.recov.isSome)
def State.anyRunnable (s : State) : Bool := s.tenants.any (fun e => e.2.runnable)

/-- The highest-ranked mode below REFIT and REPLAY whose condition holds (R25). -/
def State.nextMode (s : State) : Mode :=
  if s.holdCond && s.allStopped then .hold
  else if s.dev.derate then .derate
  else if s.anyRunnable then .active
  else .idle
/-- The highest-ranked mode whose condition holds (R25). -/
def State.rankedMode (s : State) : Mode :=
  if s.inRefit then .refit
  else if s.inReplay then .replay
  else s.nextMode
/-- The mode whose column of Table 1-12 a tenant takes: in REFIT and REPLAY, that of the device only while the tenant is
affected (R37). -/
def State.modeFor (s : State) (t : Nat) : Mode :=
  if (s.dev.mode = .refit ∨ s.dev.mode = .replay) ∧ (s.ten t).affected = false then s.nextMode else s.dev.mode

/-! ### The input log (R213 to R215) -/

def Tenant.logBytes (t : Tenant) : Nat := sumNat (t.log.map LogRec.size)
def Tenant.jrnBytes (t : Tenant) : Nat := 128 * t.journal.length
/-- Log or journal holds no further record (R215). -/
def State.logFull (s : State) (t : Nat) : Bool :=
  decide (s.logCap t ≤ (s.ten t).logBytes) || decide (s.jrnCap t ≤ (s.ten t).jrnBytes)

/-- The tenant has no ecycle in progress: every bound tile stands at the boundary after its last ecycle (R57). -/
def State.noEcycle (s : State) (t : Nat) : Bool :=
  (s.boundTiles t).all (fun l => !(s.tile l).inEcyc && decide ((s.tile l).lastEnded + 1 = BitVec.ofNat 64 (s.ten t).done))

/-- The completed-ecycle count at which a request raised now takes effect (R57). A spanning tenant that is not runnable takes it at
once, since no later boundary comes (log entry 12). During a recovery the boundary is the one after c (the example of R38). -/
def State.dueOf (s : State) (t : Nat) : Nat :=
  let tn := s.ten t
  if (s.noEcycle t || tn.recov.isSome) && (!tn.spans || !tn.runnable) then tn.done else tn.done + s.lag t

/-! ### The capture queue (R203, R205, R210) -/

/-- Rank in the queue: FAULT and SAFE captures, then checkpoints, then HOST and TRIGGER captures. -/
def CapEnt.rank (q : CapEnt) : Nat :=
  if q.kind = some .fault ∨ q.kind = some .safe then 0 else if q.ckpt then 1 else 2
/-- Order of the queue: rank, then the boundary at which the tenant stops, then the tenant. -/
def CapEnt.before (a b : CapEnt) : Bool :=
  decide (a.rank < b.rank) || (decide (a.rank = b.rank) &&
    (decide (a.due < b.due) || (decide (a.due = b.due) && decide (a.ten < b.ten))))
def capInsert (q : CapEnt) : List CapEnt → List CapEnt
  | [] => [q]
  | x :: r => if q.before x then q :: x :: r else x :: capInsert q r
/-- Puts an entry into the queue. -/
def State.capPut (s : State) (q : CapEnt) : State := { s with cap := { s.cap with queue := capInsert q s.cap.queue } }
/-- Takes an entry out of the queue. -/
def State.capTake (s : State) (q : CapEnt) : State :=
  { s with cap := { s.cap with queue := removeFirst (fun x => x = q) s.cap.queue } }
/-- The entry of a tenant at a boundary that a further request shares (R205). -/
def State.capShared (s : State) (t due : Nat) : Option CapEnt :=
  s.cap.queue.find? (fun q => decide (q.ten = t ∧ q.due = due) && decide (q.rank ≠ 0))
/-- A checkpoint joins the queue, or the entry of its tenant at the same boundary (R205, R210). -/
def State.capCkpt (s : State) (t due : Nat) : State :=
  match s.capShared t due with
  | some q => (s.capTake q).capPut { q with ckpt := true }
  | none => s.capPut { ten := t, due := due, kind := none, ckpt := true }
/-- Two entries of one tenant at one boundary as one: one stop, one move and one record, whose sequence is that of the first
(R205). -/
def CapEnt.join (a b : CapEnt) : CapEnt :=
  { a with
    kind := if a.kind.isSome then a.kind else b.kind, cmds := a.cmds ++ b.cmds, asks := a.asks + b.asks, ckpt := a.ckpt || b.ckpt
    seq := if a.kind.isSome then a.seq else b.seq, overwr := if a.kind.isSome then a.overwr else b.overwr
    src := if a.kind.isSome then a.src else b.src }
/-- The capture of a tenant that waits for boundary `due` acts where the tenant stands (R498). -/
def State.capHere (s : State) (t due : Nat) : State :=
  let n := (s.ten t).done
  if due ≤ n then s
  else
    match s.capShared t due with
    | none => s
    | some q =>
      let s := s.capTake q
      match s.capShared t n with
      | some p => (s.capTake p).capPut (p.join { q with due := n })
      | none => s.capPut { q with due := n }
/-- A checkpoint of the tenant waits in the queue, moves, or has not landed. -/
def State.ckptUnderWay (s : State) (t : Nat) : Bool :=
  !(s.ten t).ckptMoved.isEmpty || s.cap.queue.any (fun q => decide (q.ten = t) && q.ckpt) ||
    s.cap.moving.any (fun q => decide (q.ten = t) && q.ckpt)
/-- A checkpoint closes the boundary where the tenant stands (R210): its tiles stop for the move, and the journal carries its
tag (R214). -/
def State.closeCkpt (s : State) (t : Nat) : State :=
  (s.updTen t (fun v => { v with moving := true, jTag := v.done })).capCkpt t (s.ten t).done

/-! ### Early checkpoints (R215) -/

/-- Whether R215 lets a checkpoint fall at `due`: not within 2L ecycles before the next regular one, which then serves. -/
def State.earlyFits (s : State) (t due : Nat) : Bool :=
  let i := s.interval t
  decide (2 * s.lag t < (due / i + 1) * i - due) && decide (due % i ≠ 0)
/-- Requests an early checkpoint when the log or the journal has reached three quarters (R215) and none is under way: at the
boundary of R57, and so at once where no ecycle is in progress. -/
def State.earlyCheckpoint (s : State) (t : Nat) : State :=
  let tn := s.ten t
  let due := max (s.dueOf t) (tn.jTag + 2 * s.lag t)
  if (3 * s.logCap t ≤ 4 * tn.logBytes ∨ 3 * s.jrnCap t ≤ 4 * tn.jrnBytes) ∧ tn.run ≠ .swapped ∧ s.ckptUnderWay t = false ∧
      tn.reqs.all (fun r => decide (r.kind ≠ .checkpoint)) = true ∧ s.earlyFits t due = true then
    if decide (due ≤ tn.done) && s.noEcycle t && tn.recov.isNone && !tn.spans then s.closeCkpt t
    else s.setTen t { tn with reqs := tn.reqs ++ [{ kind := .checkpoint, due := due, cmd := none, origin := s.moduleId }] }
  else s

/-- Writes an input-log record, and asks for an early checkpoint if that fills the log to three quarters. -/
def State.logInput (s : State) (t typ ecyc : Nat) (payload : List Byte) : State :=
  if (s.ten t).img.isSome then (s.logAdd t typ ecyc payload).earlyCheckpoint t else s

/-! ### Tile states and the copy of a rebalance (R48, R239) -/

/-- The retained state of a tile. -/
def Tile.save (t : Tile) : TileSave := { ret := t.ret, banks := t.banks, acc := t.acc, trapCnt := t.trapCnt }

/-- A tile at a boundary, emptied of everything that a boundary does not carry (R48), counted from ecycle `k`. -/
def Tile.blank (t : Tile) (k : Nat) : Tile :=
  { t with
    cur := [], lastOut := 0, outs := 0, rows := [], win := [], arrive := [], edgeIn := [], sendQ := [], credits := []
    ecyc := k, inEcyc := false, ending := false, waitStart := false, atClosed := true, exe := 0, stage := .none
    nextA := none, fetched := none, gateWait := false, waitWords := 0, waited := [], execCnt := [], taps := [], trapEv := []
    stack := [], sp := 0, spill := none, dfault := false, macQ := [], res := [], bankQ := [], deepOut := 0, scrubbed := []
    corrBanks := [], halt := none
    lastEnded := BitVec.ofNat 64 k - 1 }

/-- A tile that receives a tile image (R171): program, retained state, cleared stall counters and error counts. -/
def Tile.load (t : Tile) (p : TileProg) (mode : Nat) (v : TileSave) (k : Nat) : Tile :=
  { t.blank k with
    prog := p, hasImg := true, ret := v.ret, banks := v.banks, acc := v.acc, trapCnt := v.trapCnt
    stall := [], contract := mode, viol := 0, ceCount := 0 }

/-- A logical tile that no tenant holds: its counters stay to be read, and its program stores until others are written; with no
image its claim is none (Table 5-12). -/
def Tile.free (t : Tile) : Tile :=
  { t.blank 0 with
    hasImg := false, contract := 0, ret := [], banks := [], acc := [], lastEnded := BitVec.allOnes 64, atClosed := false }

/-- A tile takes over the epoch of the tile whose image tile it is to carry, so that no packet of that epoch is taken for a current
one after the advance (R221; log entry 88). -/
def State.passEpoch (s : State) (l n : Nat) : State :=
  { s with fm := { s.fm with remap := Map.set s.fm.remap n { s.remap n with epoch := (s.remap l).epoch } } }
/-- Each named image tile's program stores and retained state go to its new logical tile, and the image tile is rebound (R239). -/
def State.moveTiles (s : State) (t : Nat) (pairs : List (Nat × Nat)) : State :=
  match (s.ten t).img with
  | none => s
  | some i =>
    let from' := pairs.filterMap (fun p => (s.tileOf t p.1).map (fun l => (p.1, l, p.2)))
    let saved := from'.map (fun e => (e, (s.tile e.2.1).save))
    let s := from'.foldl (fun s e => s.passEpoch e.2.1 e.2.2) s
    let s := from'.foldl (fun s e =>
      let s := s.updTile e.2.1 Tile.free
      { s with sched := { s.sched with ltiles := Map.set s.sched.ltiles e.2.1 {} } }) s
    saved.foldl (fun s e =>
      let n := e.1.2.2
      let p := (Map.get i.tiles {} e.1.1).prog
      let s := s.updTile n (fun x => x.load p i.contract e.2 (s.ten t).done)
      let lt : LTile := { ten := t, itile := e.1.1, bound := true, resident := true }
      { s with sched := { s.sched with ltiles := Map.set s.sched.ltiles n lt } }) s
/-- The epochs of logical tiles of tenant `t` advance by one, and drain markers follow (R221). -/
def State.advance (s : State) (t : Nat) (ls : List Nat) : State :=
  let s := ls.foldl (fun s l => { s with fm := { s.fm with
    remap := Map.set s.fm.remap l { s.remap l with epoch := ((s.remap l).epoch + 1) % 16 } } }) s
  s.sendMarkers t ((((s.boundTiles t).head?).map (fun x => (s.remap x).epoch)).getD 0)
/-- The copy of a rebalance at its closed boundary (R239): the tiles move, and the epochs of the new ones advance. -/
def State.rebalance (s : State) (t : Nat) (pairs : List (Nat × Nat)) : State :=
  (s.moveTiles t pairs).advance t (pairs.map (fun p => p.2))

/-! ### Refits in their order (R38 items 4 and 5, R239, R421) -/

/-- The tenant that a region is assigned to (EDG_REGION), if any. -/
def State.regionOwner (s : State) (r : Nat) : Option Nat :=
  if s.rfld (0x204000 + 0x10 * r) 8 1 = 1 then some (s.rfld (0x204000 + 0x10 * r) 0 8) else none
/-- The rebalance of a tenant that has not ended. -/
def State.rebalOf (s : State) (t : Nat) : Option Rebal := s.sched.rebal.find? (fun r => decide (r.ten = t))
/-- The rebalance of a tenant ends with a status, if it has one. -/
def State.endRebal (s : State) (t st : Nat) : State :=
  match s.rebalOf t with
  | some r => ({ s with sched := { s.sched with rebal := removeFirst (fun x => x = r) s.sched.rebal } }).complete r.cmd 0x15 st 0 0
  | none => s
/-- A refit leaves the order. -/
def State.endRefit (s : State) (x : Nat) : State :=
  { s with dev := { s.dev with refits := removeFirst (fun y => decide (y = x)) s.dev.refits } }
/-- A refit that is first in order takes up its tenant: it is AFFECTED, and its boundary closes under R57. -/
def State.closeRefit (s : State) (t : Nat) : State :=
  let q : Req := { kind := .refit, due := s.dueOf t, cmd := none, origin := s.moduleId }
  if decide (q.due ≤ (s.ten t).done) && s.noEcycle t then
    s.updTen t (fun v => { v with affected := true, refitHeld := true })
  else
    let s := s.updTen t (fun v => { v with affected := true, reqs := v.reqs ++ [q] })
    if (s.ten t).spans && !(s.ten t).runnable then s.sendNow t else s
/-- Bytes that a rebalance copies: state and program stores of the image tiles it names. -/
def State.rebalBytes (s : State) (r : Rebal) : Nat :=
  sumNat (r.pairs.map (fun p => 1310848 + 49152 +
    8736 * ((s.ten r.ten).img.map (fun i => (Map.get i.tiles {} p.1).prog.depth)).getD 0))
/-- Bytes of the region package at EDG_PR_OFF, as far as tenant 0's region reaches (R421). -/
def State.prBytes (s : State) : Nat :=
  let off := s.reg 0x204104 + 2 ^ 32 * s.reg 0x204108
  let room := s.rsize 0 - off
  min room (max 128 (leAt (s.ds.readBytes (s.rbase 0 + off) (min room 128)) 0x10 8))
/-- The refit that is first in order begins or goes on. A region reconfiguration asks for the tokens of its image (R421), takes up its
owner and ends by REGION_PR_DONE; a
rebalance closes its tenant's boundary, asks for the tokens of its copy (R249), and copies once they are granted, the drain
markers of the epoch before are back (R221) and the new tiles have power (R263); a recovery ends by RECOVERY_PLACEMENT. -/
def State.refitStep (s : State) : State :=
  match s.dev.refits with
  | [] => s
  | x :: _ =>
    if 1000 ≤ x then
      if s.edg.pr.isSome then s
      else
        let r := x - 1000
        let q := s.askTokens 2 0 s.prBytes
        let s := q.2
        let s := { s with edg := { s.edg with prTok := q.1, pr := some r, prQueue := removeFirst (fun y => decide (y = r)) s.edg.prQueue } }
        match s.regionOwner r with
        | none => s
        | some t => s.closeRefit t
    else if 256 ≤ x then
      let t := x - 256
      let tn := s.ten t
      match s.rebalOf t with
      | none => s.endRefit x
      | some r =>
        if tn.run = .swapped ∨ tn.img = none then (s.endRebal t stBadState).endRefit x
        else if tn.refitHeld = false then (if tn.affected then s else s.closeRefit t)
        else if r.tok = 0 then
          let q := s.askTokens 2 t (s.rebalBytes r)
          { q.2 with sched := { q.2.sched with
            rebal := replaceFirst (fun y => y = r) (fun y => { y with tok := q.1 }) q.2.sched.rebal } }
        else if s.tokWaits 2 r.tok || !tn.drained || !(s.darkDomains (r.pairs.map (fun p => p.2))).isEmpty then s
        else
          let s := ((s.rebalance t r.pairs).endRebal t stOk).endRefit x
          s.updTen t (fun v => { v with refitHeld := false, affected := v.recov.isSome })
    else s
/-- Refits go as far as they can. -/
def State.refitsGo (s : State) : State := (List.range (3 * s.dev.refits.length)).foldl (fun s _ => s.refitStep) s

/-- Once the device is configured and not in SAFE, takes the mode of R25; the refits that its REFIT is for go on. -/
def State.remode (s : State) : State :=
  if s.dev.mode.configured && decide (s.dev.mode ≠ .safe) then
    let s := (s.setMode s.rankedMode).refitsGo
    s.setMode s.rankedMode
  else s

/-! ### Run-state changes -/

/-- Sets the run state that counts: the return state while SWAPPED (Table 1-8). -/
def Tenant.setEff (t : Tenant) (r : RunState) : Tenant :=
  if t.run = .swapped then { t with back := r } else { t with run := r }

/-- A tenant's stop order among those not runnable (R242). -/
def State.markStop (s : State) (t : Nat) : State :=
  let n := s.sched.stopSeq + 1
  ({ s with sched := { s.sched with stopSeq := n } }).updTen t (fun v => { v with stopRank := n })

/-- A STEPPING ends by a hold cause or a STOP: its STEP completes STOPPED_EARLY with the remaining count (R352), or, where its count
reaches 0 at the same boundary, SUPERSEDED, since the count then is the lower event of R32 (log entry 61). -/
def State.endStepEarly (s : State) (t : Nat) : State :=
  let tn := s.ten t
  match tn.stepCmd with
  | some d =>
    (s.setTen t { tn with stepCmd := none }).complete d 0x12 (if tn.stepLeft = 0 then stSuperseded else stStoppedEarly)
      tn.lastEcyc tn.stepLeft
  | none => s

/-- Inserts a cause into the set of hold causes in force. -/
def addCause (c : Nat) (l : List Nat) : List Nat := if c ∈ l then l else insertBy (fun a b => decide (a < b)) c l

/-- Hold causes take effect on a tenant (R32, R33): they join the set; a tenant not HELD becomes HELD, and the first
cause shown is the lowest of those that take effect together. -/
def State.holdNow (s : State) (t : Nat) (causes : List Nat) : State :=
  match causes with
  | [] => s
  | c :: cs =>
    let tn := s.ten t
    let set := causes.foldr addCause tn.holds
    if tn.eff = .held then s.setTen t { tn with holds := set }
    else
      let s := s.endStepEarly t
      let s := s.updTen t (fun v => { v.setEff .held with holds := set, firstHold := cs.foldl min c, stepLeft := 0 })
      (s.markStop t).logInput t 4 (s.ten t).done (leBytes (cs.foldl min c) 8)

/-- STOP takes effect (Table 1-8). -/
def State.stopNow (s : State) (t : Nat) : State :=
  if (s.ten t).runnable then
    let s := s.endStepEarly t
    (s.updTen t (fun v => { v.setEff .stopped with stepLeft := 0 })).markStop t
  else s

/-- A pending early checkpoint of a tenant that runs again falls at the first boundary that R57 then gives (R498), unless a
regular one serves (R215). -/
def State.renewCkpt (s : State) (t : Nat) : State :=
  let due := (s.ten t).done + s.lag t
  let ok := s.earlyFits t due
  s.updTen t (fun v => { v with
    reqs := (v.reqs.filter (fun r => decide (r.kind ≠ .checkpoint) || ok)).map (fun r =>
      if r.kind = .checkpoint then { r with due := due } else r) })
/-- START or STEP takes effect on a tenant whose state that counts is STOPPED (Table 1-8). Under a HOLD condition it
stands suspended at its boundary (Table 1-14). -/
def State.startNow (s : State) (t : Nat) (n : Option Nat) (cmd : Option DRef) : State :=
  let s := match n with
    | none => s.updTen t (fun v => { v.setEff .running with devHeld := s.holdCond })
    | some k => s.updTen t (fun v => { v.setEff .stepping with stepLeft := k, stepCmd := cmd, devHeld := s.holdCond })
  (s.renewCkpt t).raiseVt t

def Req.isHold (r : Req) : Bool := match r.kind with | .hold _ => true | _ => false
def Req.isStop (r : Req) : Bool := match r.kind with | .stop => true | _ => false
def Req.isStart (r : Req) : Bool := match r.kind with | .start => true | .step _ => true | _ => false
def Req.cause (r : Req) : Nat := match r.kind with | .hold c => c | _ => 0
def Req.count (r : Req) : Option Nat := match r.kind with | .step n => some n | _ => none

/-- Requests in the order of R32: by module of origin, then in order of acceptance. -/
def orderReqs (l : List Req) : List Req :=
  l.foldr (fun r acc => (acc.takeWhile (fun q => decide (q.origin < r.origin))) ++ [r] ++
    (acc.dropWhile (fun q => decide (q.origin < r.origin)))) []

/-- Completes each request's descriptor with a status; RESULT is the last completed ecycle (R352). -/
def State.completeReqs (s : State) (t : Nat) (status : Nat) (l : List Req) : State :=
  l.foldl (fun s r => s.completeOpt r.cmd 0x12 status (s.ten t).lastEcyc 0) s

/-- Every bound tile of the tenant shows the closed boundary (TIL_ESTAT.PHASE 0x5). -/
def State.closeTiles (s : State) (t : Nat) : State :=
  let s := s.updTen t (fun v => { v with stopS := s.thy.sec, stopNs := s.thy.ns })
  (s.boundTiles t).foldl (fun s l => s.updTile l (fun v => { v with atClosed := !v.inEcyc })) s

/-- Payload of a RUNCMD record (Table 7-1): command code of Table 12-8, origin module, STEP count. -/
def runCmdBytes (code origin count : Nat) : List Byte := leBytes code 1 ++ leBytes origin 1 ++ zeros 2 ++ leBytes count 4

/-- RELEASE clears every cause in the set; the tenant becomes STOPPED, or keeps SWAPPED with return state STOPPED (R33).
That of a DOUBLE_FAULT hold clears TIL_SEQ_FAULT (Table 3-14). -/
def State.releaseNow (s : State) (t origin : Nat) : State :=
  if (s.ten t).eff = .held then
    let s := if (s.ten t).holds.contains 3 then
        (s.boundTiles t).foldl (fun s l => s.updTile l (fun v =>
          { v with excCause := 0, dfCause := 0, excCode := 0, excStep := 0, excSeen := false })) s
      else s
    ((s.updTen t (fun v => { v.setEff .stopped with holds := [], firstHold := 0 })).markStop t).logInput t 3
      (s.ten t).done (runCmdBytes 4 origin 0)
  else s

/-- The run-state requests among `l` take effect together (R32). -/
def State.resolveRun (s : State) (t : Nat) (l : List Req) : State :=
  let l := orderReqs l
  let holds := l.filter Req.isHold
  let stops := l.filter Req.isStop
  let starts := l.filter Req.isStart
  if !holds.isEmpty then
    let s := s.holdNow t (holds.map Req.cause)
    ((s.completeReqs t stOk holds).completeReqs t stSuperseded stops).completeReqs t stSuperseded starts
  else if !stops.isEmpty then
    let s := (s.stopNow t).logInput t 3 (s.ten t).done (runCmdBytes 2 ((stops.head?.map (fun r => r.origin)).getD 0) 0)
    (s.completeReqs t stOk stops).completeReqs t stSuperseded starts
  else
    match starts with
    | [] => s
    | r :: rest =>
      if (s.ten t).eff = .stopped then
        let s := (s.startNow t r.count r.cmd).logInput t 3 (s.ten t).done
          (runCmdBytes (if r.count.isSome then 3 else 1) r.origin (r.count.getD 0))
        let s := if r.count.isSome then s else s.completeOpt r.cmd 0x12 stOk (s.ten t).lastEcyc 0
        s.completeReqs t stSuperseded rest
      else s.completeReqs t stSuperseded starts

/-- The tenant waits to be swapped out. -/
def State.leaving (s : State) (t : Nat) : Bool :=
  s.sched.derateOut.contains t || s.sched.swap.any (fun w => w.victims.contains t && !w.emptied.contains t)
/-- A capture of a STOPPED or HELD tenant moves its state: a run-state command that arrives takes effect after the release
(R206), but for a victim of a swap, which takes it at its closed boundary (Table 8-3). -/
def State.captureMoves (s : State) (t : Nat) : Bool :=
  let tn := s.ten t
  tn.moving && !tn.runnable && !s.leaving t &&
    (s.cap.queue.any (fun q => decide (q.ten = t ∧ q.due ≤ tn.done)) || s.cap.moving.any (fun q => decide (q.ten = t)))
def Req.isRun (r : Req) : Bool := r.isHold || r.isStop || r.isStart || decide (r.kind = .release)

/-- A pending request of another kind takes effect: it stops the tenant's tiles at this boundary (R56). A swap-out or a refit of
another module of the span has nothing to move here and no token tells of its end, so that its boundary opens again at once
(log entry 89). -/
def State.closeFor (s : State) (t : Nat) (r : Req) : State :=
  match r.kind with
  | .capture _ => (s.updTen t (fun v => { v with moving := true })).capHere t r.due
  | .swapOut => if r.origin = s.moduleId then s.updTen t (fun v => { v with moving := true }) else s
  | .checkpoint => s.closeCkpt t
  | .devHold => s.updTen t (fun v => { v with devHeld := true })
  | .refit => if r.origin = s.moduleId then s.updTen t (fun v => { v with refitHeld := true }) else s
  | .release => (s.releaseNow t r.origin).completeOpt r.cmd 0x12 stOk (s.ten t).lastEcyc 0
  | _ => s

/-- A swap-out by weight that waits begins at this boundary (R248), where Table 1-12 does not queue it for the tenant and no
other swap runs (R38 item 6, Table 9-5). -/
def State.derateHere (s : State) (t : Nat) : State :=
  let m := s.modeFor t
  if s.sched.derateQ.contains t ∧ (s.ten t).runnable = true ∧ s.sched.swap = none ∧ s.holdCond = false ∧ m ≠ .refit ∧
      m ≠ .replay ∧ (s.ten t).recov = none then
    ({ s with sched := { s.sched with
      derateQ := s.sched.derateQ.filter (fun x => decide (x ≠ t)), derateOut := s.sched.derateOut ++ [t] } }).updTen t (fun v =>
      { v with moving := true })
  else s

/-- Swaps by weight that wait for no ecycle begin where their tenants stand (R57). -/
def State.derateGo (s : State) : State :=
  s.sched.derateQ.foldl (fun s t => if s.noEcycle t then s.derateHere t else s) s

/-- What waits for a later boundary is resolved where the tenant has stopped (R498): hold causes join, START, STEP and STOP are
superseded, captures, swap-outs, refits and hold requests act here, and an early checkpoint stays pending. -/
def State.resolveLater (s : State) (t : Nat) (rest : List Req) : State :=
  let s := s.updTen t (fun v => { v with
    reqs := v.reqs.filter (fun r => decide (r.kind = .checkpoint) || !rest.contains r) })
  let s := s.holdNow t ((rest.filter Req.isHold).map Req.cause)
  let s := s.completeReqs t stOk (rest.filter Req.isHold)
  let s := s.completeReqs t stSuperseded (rest.filter (fun r => r.isStop || r.isStart))
  (rest.filter (fun r => decide (r.kind ≠ .checkpoint))).foldl (fun s r => s.closeFor t r) s

/-- The requests pending at the boundary where the tenant stands take effect (R32, R57), and, if the tenant has then stopped,
the later ones too (R498). A START or STEP that a spanning tenant learns for the boundary where it still stops was accepted
after that stop, on a module that had passed it, and follows it here (R69). -/
def State.boundary (s : State) (t : Nat) : State :=
  let tn := s.ten t
  let wait := s.captureMoves t
  let due := tn.reqs.filter (fun r => decide (r.due ≤ tn.done) && !(wait && r.isRun))
  let after := due.filter (fun r => tn.spans && tn.runnable && r.isStart)
  let now := due.filter (fun r => !after.contains r)
  let s := s.setTen t { tn with reqs := tn.reqs.filter (fun r => !due.contains r) }
  let s := s.resolveRun t now
  let s := now.foldl (fun s r => s.closeFor t r) s
  let s :=
    if after.isEmpty then s
    else if (s.ten t).run = .stepping ∧ (s.ten t).stepLeft = 0 then s.updTen t (fun v => { v with reqs := v.reqs ++ after })
    else s.resolveRun t after
  let s := if (s.ten t).runnable then s.derateHere t
           else s.resolveLater t ((s.ten t).reqs.filter (fun r => decide (tn.done < r.due)))
  ((s.closeTiles t).remode).place

/-- Where no ecycle is in progress and no recovery runs, what is due at the boundary where the tenant stands takes effect at
once (R57). -/
def State.settle (s : State) (t : Nat) : State :=
  if s.noEcycle t && (s.ten t).recov.isNone && (s.ten t).reqs.any (fun r => decide (r.due ≤ (s.ten t).done)) then s.boundary t
  else s
/-- Adds a request. A spanning tenant that completes no ecycle sends it to its neighbours now, and so onward (R69, R293). -/
def State.addReq (s : State) (t : Nat) (r : Req) : State :=
  let s := s.updTen t (fun v => { v with reqs := v.reqs ++ [r] })
  (if (s.ten t).spans && !(s.ten t).runnable then s.sendNow t else s).settle t
/-- Adds a request raised on this module, for the boundary of R57. -/
def State.request (s : State) (t : Nat) (k : ReqKind) (cmd : Option DRef) : State :=
  s.addReq t { kind := k, due := s.dueOf t, cmd := cmd, origin := s.moduleId }
/-- Adds a request for a boundary that is already agreed (R66, R191). -/
def State.requestAt (s : State) (t : Nat) (k : ReqKind) (due : Nat) (cmd : Option DRef) (origin : Nat) : State :=
  s.addReq t { kind := k, due := due, cmd := cmd, origin := origin }

/-- Raises a hold cause: at once for a tenant that is HELD or SWAPPED, else at the boundary of R57 (R31, R33). On a spanning
tenant it is a request in every state, so that it is carried to every module (R35). -/
def State.raiseHold (s : State) (t cause : Nat) (cmd : Option DRef) : State :=
  let tn := s.ten t
  if (tn.run = .swapped ∨ tn.run = .held) ∧ tn.spans = false then
    ((s.holdNow t [cause]).completeOpt cmd 0x12 stOk tn.lastEcyc 0).place
  else s.request t (.hold cause) cmd

/-- The HOLD condition is raised: every advancing tenant is asked to stop (R28). -/
def State.enterHold (s : State) : State :=
  (s.tenants.map (fun e => e.1)).foldl (fun s t =>
    if (s.ten t).run.advancing && !(s.ten t).devHeld &&
        (s.ten t).reqs.all (fun r => decide (r.kind ≠ .devHold)) then s.request t .devHold none else s) s

/-- Every hold condition has been withdrawn: the tenants stopped for it may go on (Table 2-4). -/
def State.leaveHold (s : State) : State :=
  if s.holdCond then s
  else
    ((s.tenants.map (fun e => e.1)).foldl (fun s t =>
      if (s.ten t).devHeld || (s.ten t).reqs.any (fun r => decide (r.kind = .devHold)) then
        s.updTen t (fun v => { v with devHeld := false, reqs := v.reqs.filter (fun r => decide (r.kind ≠ .devHold)) })
      else s) s).derateGo

end Sys2Proof.Machine
end

