-- ==== Sys2Proof/Machine/RecovOps.lean ====
section
/-!
DEFINITION. What the fault manager starts: spans and tokens, saved tile states, recovery and its events (R219 to R227),
and how a tile stops at its step handshake (R497).
-/
namespace Sys2Proof.Machine

/-! ### Saved tile states (R48, R114, R129) -/

/-- The initial state that an image gives its tiles: checkpoint 0 (R209). -/
def Image.initial (i : Image) : Saved :=
  { k := 0, tiles := i.tiles.map (fun e =>
      (e.1, { ret := e.2.retInit, banks := e.2.arrInit, acc := e.2.macInit, trapCnt := 0 })) }

/-- The tenant that an edge bank is assigned to (EDG_BANK_CFG), if any. -/
def State.bankOwner (s : State) (g : Nat) : Option Nat :=
  if s.rfld (0x200100 + 0x40 * g) 8 1 = 1 then some (s.rfld (0x200100 + 0x40 * g) 0 8) else none
def State.bank (s : State) (g : Nat) : EdgeBank := Map.get s.edg.banks {} g
/-- The banks of a tenant, ascending. -/
def State.banksOf (s : State) (t : Nat) : List Nat := (List.range 12).filter (fun g => decide (s.bankOwner g = some t))

/-- Something of every bound tile of a tenant, in ascending image tile. -/
def State.tilesByImage {α : Type} (s : State) (t : Nat) (f : Tile → α) : List (Nat × α) :=
  (List.range 192).filterMap (fun i => (s.tileOf t i).map (fun l => (i, f (s.tile l))))
/-- The retained state of every bound tile of a tenant, by image tile (R204), and the edge input groups that the boundary's
ecycle took. -/
def State.saveTenant (s : State) (t : Nat) : Saved :=
  { k := (s.ten t).done, tiles := s.tilesByImage t Tile.save
    edge := Map.get (s.ten t).edgeGrp [] (((s.ten t).done + 1) % 2)
    landed := ((s.ten t).log.filter (fun r => decide (r.typ = 1 ∧ r.ecyc = (s.ten t).done))).length }

/-- Writes a saved state into the bound tiles of a tenant, with their programs from the image (R244). -/
def State.loadTenant (s : State) (t : Nat) (v : Saved) : State :=
  match (s.ten t).img with
  | some i =>
    (s.boundTiles t).foldl (fun s l =>
      let it := (s.ltile l).itile
      let s := s.updTile l (fun x => x.load (Map.get i.tiles {} it).prog i.contract (Map.get v.tiles {} it) v.k)
      { s with sched := { s.sched with ltiles := Map.set s.sched.ltiles l { s.ltile l with resident := true } } }) s
  | none => s

/-! ### Stops at the step handshake (R497, R152) -/

/-- A tile stops at its current step handshake: no further gate and no further fetch. -/
def Tile.stopAt (t : Tile) (h : Halt) : Tile :=
  if t.halt.isSome then t else { t with halt := some h, fetched := none }

/-- A tile that stands stopped at its step handshake, with every command that it has issued complete: the hub may read it (R152,
R497). -/
def Tile.settled (t : Tile) : Bool :=
  t.halt.isSome && decide (t.stage = .none) && t.spill.isNone && decide (t.deepOut = 0) && t.macQ.all (fun e => e.2.isEmpty) &&
    t.bankQ.all (fun e => e.2.isEmpty)
/-- Every tile of a tenant stops at its step handshake. -/
def State.haltTenant (s : State) (t : Nat) (h : Halt) : State :=
  (s.boundTiles t).foldl (fun s l => s.updTile l (fun v => v.stopAt h)) s

/-! ### Recovery (R219 to R227) -/

/-- The checkpoint a restore uses: the newest landed one; for a spanning tenant the newest that R212 shows landed on
every module, that is with K + L − 1 ≤ c (R220, R225). Checkpoint 0 is the image. -/
def State.restorePoint (s : State) (t : Nat) : Nat :=
  let tn := s.ten t
  let ok := fun (k : Nat) => !tn.spans || decide (k + s.lag t ≤ tn.done)
  match tn.newest, tn.older with
  | some a, b => if ok a.k then a.k else match b with | some c => c.k | none => 0
  | none, _ => 0

/-- The saved state of checkpoint `k`. -/
def Tenant.checkpoint (t : Tenant) (k : Nat) : Option Saved :=
  match t.newest, t.older, t.img with
  | some a, b, i => if a.k = k then some a else
      match b with
      | some c => if c.k = k then some c else if k = 0 then i.map Image.initial else none
      | none => if k = 0 then i.map Image.initial else none
  | none, _, i => if k = 0 then i.map Image.initial else none

/-- Adds a faulty tile to those to place, ascending (R217). -/
def addTile (lt : Option Nat) (l : List Nat) : List Nat := match lt with | some x => addCause x l | none => l

/-- A physical tile is found faulty: it stays out of use until the next power-on self-test. -/
def State.markBad (s : State) (n : Nat) : State :=
  if s.fm.bad.contains n then s else { s with fm := { s.fm with bad := n :: s.fm.bad, failed := satInc s.fm.failed 0xFF } }

/-- The order of refits with the recovery of tenant `t` in it (R38 item 5): behind the others, or in the place of a rebalance of
the tenant, which its placement then carries out. -/
def refitOrder (t : Nat) (l : List Nat) : List Nat :=
  if l.contains t then l else if l.contains (256 + t) then replaceFirst (fun x => decide (x = 256 + t)) (fun _ => t) l else l ++ [t]
/-- Event 1 of a recovery to checkpoint `k` under generation `g` (Table 7-6), whose cause stands at `seq` in the error log: the
tenant's tiles stop at their step handshake, it becomes AFFECTED and the device enters REFIT. A replay under way is suspended
and begun again (R38 item 4). A region reconfiguration under way has the tenant's boundary closed by this stop. -/
def State.beginRecovery (s : State) (t : Nat) (kind : RecKind) (lt : Option Nat) (k g seq : Nat) : State :=
  let tn := s.ten t
  let r : Recovery := match tn.recov with
    | some r => { r with phase := .stopped, suspended := true, ltiles := addTile lt r.ltiles, k := k, gen := g
                         kind := if r.kind = .masked then kind else r.kind }
    | none => { kind := kind, phase := .stopped, k := k, upTo := tn.done, gen := g, logSeq := seq, ltiles := addTile lt []
                failedAt := none, suspended := false }
  let region := s.edg.pr.any (fun x => decide (s.regionOwner x = some t))
  let s := match lt with | some l => s.markBad (s.ptile l) | none => s
  let s := { s with dev := { s.dev with refits := refitOrder t s.dev.refits } }
  let s := (s.updTen t (fun v => { v with
    recov := some r, affected := true, gen := g, refitHeld := region
    reqs := v.reqs.filter (fun q => decide (q.kind ≠ .refit)) })).haltTenant t .recovery
  (s.faultEvent t 1 r.logSeq tn.lastEcyc).remode

/-- The fault manager starts a recovery of a tenant, for the cause at `seq`; for a spanning tenant a REPLAY token with a new
generation goes to every module of the span (R225). -/
def State.startRecovery (s : State) (t : Nat) (kind : RecKind) (lt : Option Nat) (seq : Nat) : State :=
  let tn := s.ten t
  let k := match tn.recov with | some r => r.k | none => s.restorePoint t
  let c := match tn.recov with | some r => r.upTo | none => tn.done
  let g := if tn.spans || tn.recov.isNone then (tn.gen + 1) % 2 ^ 16 else tn.gen
  let s := s.beginRecovery t kind lt k g seq
  if tn.spans then
    s.tokSpan t { typ := 2, ten := t, origin := s.moduleId, word := g, a := k, b := (c + 2 ^ 64 - 1) % 2 ^ 64 }
  else s

/-- A transient fault of class `cls` at `unit` (R218): a second one of the same class there within the repeat window is
treated as permanent. The answer says so, and the fault is remembered. -/
def State.transientFault (s : State) (t cls unit : Nat) : Bool × State :=
  let tn := s.ten t
  let w := 2 ^ s.rfld 0x70010 16 5
  let again := tn.transient.any (fun e => decide (e.1 = cls ∧ e.2.1 = unit ∧ tn.done < e.2.2 + w))
  (again, s.setTen t { tn with transient := (cls, unit, tn.done) :: tn.transient })

/-- A tile fault just reported and detected as transient: recovery in place, or as a permanent fault on its repeat (R218). -/
def State.tileTransient (s : State) (t l cls : Nat) : State :=
  let r := s.transientFault t cls (s.ptile l)
  r.2.startRecovery t .masked (if r.1 then some l else none) s.lastSeq

/-- A slot of a path fault (R64): logged and recovered in place. -/
def State.pathFault (s : State) (t l ecyc : Nat) : State :=
  (s.report 0x0101 clsMasked (s.ptile l) (some t) ecyc).tileTransient t l 1

/-- A double-bit error on a command read (R144): the tile is faulty. -/
def State.arrayUe (s : State) (t l bank word : Nat) : State :=
  let s := s.report 0x0100 clsMasked (s.ptile l) (some t) (bank + 16 * word)
  s.startRecovery t .masked (some l) s.lastSeq

/-- A FAULT capture of the tenant waits or moves. -/
def State.faultCapture (s : State) (t : Nat) : Bool :=
  s.cap.queue.any (fun q => decide (q.kind = some .fault ∧ q.ten = t)) ||
    s.cap.moving.any (fun q => decide (q.kind = some .fault ∧ q.ten = t))
/-- R112 items 2 and 3 on one module: hold cause DOUBLE_FAULT, every tile of the tenant stopped, and one fault capture, ahead of
every HOST and TRIGGER capture, for all the double faults of the tenant (R113). `src` is the first faulting image tile. -/
def State.faultStop (s : State) (t src : Nat) : State :=
  let s := (s.haltTenant t .doubleFault).updTen t (fun v => { v with
    holds := addCause 3 v.holds, moving := true, stopS := s.thy.sec, stopNs := s.thy.ns })
  if s.faultCapture t then s
  else
    let tn := s.ten t
    let n := if tn.capSlots = 0 then 0 else tn.capNext
    let q : CapEnt := { ten := t, due := tn.done, kind := some .fault, seq := n, src := src
                        overwr := decide (tn.capSlots < (n + 2 ^ 16 - tn.capRel % 2 ^ 16) % 2 ^ 16) }
    (s.capPut q).updTen t (fun v => { v with capNext := if n = 0 then v.capNext else n + 1 })
/-- A hold of cause DOUBLE_FAULT goes to every module of the span (R112 item 2), with its request entry. -/
def State.spreadFault (s : State) (t b origin : Nat) : State :=
  if (s.ten t).spans then
    (s.updTen t (fun v => { v with reqs := v.reqs ++ [{ kind := .hold 3, due := b, cmd := none, origin := origin }] })).sendNow t
  else s
/-- A double fault (R112): the tile's log entry, and the stop and the fault capture on every module of the span. -/
def State.doubleFault (s : State) (t l : Nat) : State :=
  let s := s.report 0x0104 clsTenant (s.ptile l) (some t) (s.tile l).ecyc
  (s.spreadFault t (s.dueOf t) s.moduleId).faultStop t (s.ltile l).itile

/-- The tenant is sent to a rollback (R223): replay will end before the failed deep access. -/
def State.dataLoss (s : State) (t ecyc seq : Nat) : State :=
  match (s.ten t).recov with
  | some r =>
    s.updTen t (fun v => { v with recov := some { r with
      kind := .rolledBack, failedAt := some (min ecyc (r.failedAt.getD ecyc)) } })
  | none =>
    let s := s.startRecovery t .rolledBack none seq
    s.updTen t (fun v => { v with recov := v.recov.map (fun r => { r with failedAt := none }) })

/-- A partition of the tenant is not resolved (R227). -/
def State.partOpen (s : State) (t : Nat) : Bool :=
  !(s.ten t).partC.isEmpty || (s.ten t).recov.any (fun r => decide (r.kind = .partition))

/-! ### Capture requests (R202, R203, R206) -/

def CapKind.code (k : CapKind) : Nat := match k with | .host => 1 | .trigger => 2 | .fault => 3 | .safe => 4
/-- The kind holds FAULT contents: the tiles stand stopped at a step (Table 6-14). -/
def CapKind.full (k : CapKind) : Bool := decide (k = .fault ∨ k = .safe)
/-- HOST and TRIGGER requests queued: of one tenant, or of all; a request that shares an entry counts as its own (R203). -/
def State.capPending (s : State) (t : Option Nat) : Nat :=
  sumNat ((s.cap.queue.filter (fun q => decide (t = none ∨ t = some q.ten))).map (fun q => q.asks))
/-- The slot of capture `n` is free: software has released capture n − SLOTS, in modulo 2^16 order. -/
def Tenant.slotFree (t : Tenant) (n : Nat) : Bool := decide ((n + 2 ^ 16 - t.capRel % 2 ^ 16) % 2 ^ 16 ≤ t.capSlots)
/-- A capture request (R202, R203, R205): the status that refuses it, or OK with the entry it joins or makes. Its number and its
slot are settled here, when it is accepted; R202 does not say when (log entry 83). -/
def State.capAsk (s : State) (t : Nat) (kind : CapKind) (due : Nat) (cmd : Option DRef) (src : Nat) : Nat × State :=
  let tn := s.ten t
  if tn.img.isNone then (stNoImage, s)
  else if tn.capSlots = 0 then (stNoArea, s)
  else if !kind.full && (decide (64 ≤ s.capPending none) || decide (4 ≤ s.capPending (some t))) then (stBusy, s)
  else
    match (if kind.full then none else s.capShared t due) with
    | some q =>
      let s := s.capTake q
      if q.kind.isSome then (stOk, s.capPut { q with cmds := q.cmds ++ cmd.toList, asks := q.asks + 1 })
      else if !tn.slotFree tn.capNext then (stCapFull, s.capPut q)
      else
        (stOk, (s.capPut { q with
          kind := some kind, cmds := cmd.toList, asks := 1, seq := tn.capNext, src := src }).updTen t (fun v =>
            { v with capNext := v.capNext + 1 }))
    | none =>
      let free := tn.slotFree tn.capNext
      if !kind.full && !free then (stCapFull, s)
      else
        let q : CapEnt := { ten := t, due := due, kind := some kind, cmds := cmd.toList, asks := if kind.full then 0 else 1
                            seq := tn.capNext, overwr := !free, src := src }
        (stOk, (s.capPut q).updTen t (fun v => { v with capNext := v.capNext + 1 }))
/-- A capture of a spanning tenant that another module asked for: this module writes its own record at the same boundary (R206).
One that finds no slot here is not taken here (log entry 83). -/
def State.capLearn (s : State) (t kind due origin : Nat) : State :=
  let r := s.freshNat
  let a := r.2.capAsk t (if kind = 2 then .trigger else .host) due none (r.1 % 2 ^ 32)
  if a.1 = stOk then a.2.requestAt t (.capture kind) due none origin else a.2

end Sys2Proof.Machine
end

