-- ==== Sys2Proof/Machine/Fabric.lean ====
section
/-!
DEFINITION. The logic of the edge fabric (R396 to R401, R405): product terms, macrocells, carry chains and edge MAC slices of a region,
the isolation cells at its boundary, and what one FCLK period changes.
-/
namespace Sys2Proof.Machine

/-! ### Configuration -/

/-- The data of the frames of a space in configuration memory. -/
def State.spaceFrames (s : State) (sp : Nat) : List (List Byte) :=
  (s.cfg.frames.filter (fun e => decide (e.1 / 2 ^ 24 = sp))).map (fun e => e.2)
/-- The static frames of both halves. -/
def State.staticFrames (s : State) : List (List Byte) := s.spaceFrames 1 ++ s.spaceFrames 2
/-- What the frames of region `r` configure. -/
def State.regionCfg (s : State) (r : Nat) : RegionCfg := Config.regionCfg (s.spaceFrames (3 + r))
/-- A region has a pin of bank `g` behind one of its crossings. -/
def drivesBank (st : List (List Byte)) (r g : Nat) : Bool :=
  (List.range 64).any (fun i => (List.range 8).any (fun k => (Config.pinTx st (64 * g + i) k).any (fun x => decide (x.1 = r))))

/-- Macrocell `m` of a region, in region order (R396). -/
def RegionCfg.cell (c : RegionCfg) (m : Nat) : MCell := (c.blocks.getD (m / 32) {}).cells.getD (m % 32) {}
/-- The longest run of macrocells with carry on: how many stand in the run that ends before the list, and the longest so far. -/
def longestChain (run best : Nat) : List Bool → Nat
  | [] => best
  | b :: r => if b then longestChain (run + 1) (max best (run + 1)) r else longestChain 0 best r
/-- A carry chain is longer than 256 macrocells (R400). -/
def RegionCfg.chainTooLong (c : RegionCfg) : Bool :=
  decide (256 < longestChain 0 0 ((List.range 2048).map (fun m => (c.cell m).carry)))
/-- The configured initial values of a region's macrocells. -/
def RegionCfg.initial (c : RegionCfg) : BitVec 2048 := BitVec.ofNat 2048 (packBits (fun m => (c.cell m).init) 2048)

/-! ### Ownership, GWE and GRST (R404, R405, Table 14-5) -/

/-- The stage whose outputs a bank shows: in RETREAT, that being undone. -/
def EdgeBank.shown (b : EdgeBank) : BStage := if b.stage = .retreat then b.undoing else b.stage
/-- The banks whose stages govern a region: those of its half that its owner holds (log entry 98). -/
def State.banksFor (s : State) (r : Nat) : List Nat :=
  match s.regionOwner r with
  | some t => (s.banksOf t).filter (fun g => decide (g / 6 = r / 4))
  | none => []
/-- GWE of a region: loaded, not under reconfiguration, and each of its banks in WE or RUN. -/
def State.gwe (s : State) (r : Nat) : Bool :=
  s.edg.loaded.contains r && decide (s.edg.pr ≠ some r) &&
    (s.banksFor r).all (fun g => decide ((s.bank g).shown = .we ∨ (s.bank g).shown = .run))
/-- GRST of a region: released only where each of its banks is in RUN. -/
def State.grst (s : State) (r : Nat) : Bool := !s.gwe r || !(s.banksFor r).all (fun g => decide ((s.bank g).shown = .run))
/-- The isolation cells between region `r` and a unit of tenant `own` pass (R405). -/
def State.isoPasses (s : State) (r : Nat) (own : Option Nat) : Bool :=
  own.isSome && decide (s.regionOwner r = own) && s.edg.loaded.contains r && decide (s.edg.pr ≠ some r)
/-- What a clamped cell presents. -/
def clampLevel (c : Clamp) (last : Bool) : Bool := match c with | .zero => false | .one => true | .last => last

/-! ### Logic cells (R398 to R400) -/

/-- The level of a signal of a region, given its macrocells, MAC results and inward crossings. -/
def FabSig.level (cells : BitVec 2048) (macs : List DWord) (inw : Nat → Bool) : FabSig → Bool
  | .low => false
  | .cell m => cells.getLsbD m
  | .mac j b => (macs.getD j 0).getLsbD b
  | .cross i => inw i

/-- A product term over the 48 inputs of its block (R398). -/
def PTerm.holds (t : PTerm) (x : BitVec 48) : Bool := decide (t.pos &&& x = t.pos) && decide (t.neg &&& x = 0)
/-- Term `i` of a macrocell's group. -/
def MCell.term (c : MCell) (i : Nat) (x : BitVec 48) : Bool := (c.terms.getD i {}).holds x
/-- The OR of a group's terms but those that enable, gate, set or reset (R399, log entry 98). -/
def MCell.sum (c : MCell) (x : BitVec 48) : Bool :=
  (List.range 5).any (fun i => c.term i x && !c.enable.any (fun e => decide (e.val = i)) && !c.force.any (fun f => decide (f.1.val = i)))

/-- What macrocell evaluation gives: the value after polarity, the carry output, the clock enable or gate, and a set or reset that
acts. -/
structure CellOut where
  data : Bool
  carry : Bool
  enable : Bool
  force : Option Bool
deriving DecidableEq, Repr

/-- Macrocell `m` of a block with inputs `x` and carry input `cin` (Table 14-2, R400). -/
def FabBlock.eval (b : FabBlock) (m : Nat) (x : BitVec 48) (cin : Bool) : CellOut :=
  let c := b.cells.getD m {}
  let sum := (decide (c.steer = .own) && c.sum x) ||
    (decide (0 < m ∧ (b.cells.getD (m - 1) {}).steer = .after) && (b.cells.getD (m - 1) {}).sum x) ||
    (decide ((b.cells.getD (m + 1) {}).steer = .before) && (b.cells.getD (m + 1) {}).sum x)
  let p := c.term 0 x
  { data := xor (if c.carry then xor p cin else sum) c.invert
    carry := c.carry && (c.term 1 x || (p && cin))
    enable := match c.enable with | some e => c.term e x | none => true
    force := c.force.bind (fun f => if c.term f.1 x then some f.2 else none) }
/-- Macrocells `m` to `m + n − 1` in region order, the carry passing along. -/
def RegionCfg.evalFrom (c : RegionCfg) (sig : FabSig → Bool) (m : Nat) (cin : Bool) : Nat → List CellOut
  | 0 => []
  | n + 1 =>
    let b := c.blocks.getD (m / 32) {}
    let e := b.eval (m % 32) (BitVec.ofNat 48 (packBits (fun i => sig (b.inputs.getD i .low)) 48)) cin
    e :: c.evalFrom sig (m + 1) e.carry n
/-- Every macrocell of a region. -/
def RegionCfg.eval (c : RegionCfg) (sig : FabSig → Bool) : List CellOut := c.evalFrom sig 0 false 2048

/-- The value that a macrocell's storage shows, or, where it has none, its value. -/
def MCell.shows (c : MCell) (grst stored : Bool) (e : CellOut) : Bool :=
  if c.kind = .comb then e.data
  else if grst then c.init
  else match e.force with
    | some v => v
    | none => if c.kind = .latch ∧ e.enable = true then e.data else stored
/-- What a macrocell stores at an edge of FCLK with GWE on and GRST released (R399). -/
def MCell.stores (c : MCell) (stored : Bool) (e : CellOut) : Bool :=
  match e.force with
  | some v => v
  | none =>
    if e.enable then
      match c.kind with
      | .tff => xor stored e.data
      | _ => e.data
    else stored

/-! ### Edge MAC slices (R401) -/

/-- The operands of an edge MAC slice. -/
def EMac.prod (m : EMac) (sig : FabSig → Bool) : DWord :=
  let v := fun (l : List FabSig) => packBits (fun i => sig (l.getD i .low)) 27
  BitVec.ofInt 64 (macOperand (v m.a) m.aSigned * macOperand (v m.b) m.bSigned)
/-- The accumulator of slice `j` of a region after an edge (Table 4-3): CASC is that of slice j − 1, and slice 0 performs CAS as MUL. -/
def EMac.next (m : EMac) (sig : FabSig → Bool) (j : Nat) (acc : List DWord) : DWord :=
  let old := acc.getD j 0
  let p := m.prod sig
  if sig m.en = false then old
  else
    match sig m.op1, sig m.op0 with
    | false, false => p
    | false, true => old + p
    | true, false => old - p
    | true, true => if j = 0 then p else acc.getD (j - 1) 0 + p

/-! ### The fabric between its regions -/

def State.fabOf (s : State) (r : Nat) : FabRegion := Map.get s.edg.fab {} r
/-- The stored values of a region: the initial ones while GRST is asserted. -/
def State.fabRegs (s : State) (r : Nat) : BitVec 2048 := if s.grst r then (s.regionCfg r).initial else (s.fabOf r).regs
/-- The MAC results that a region sees: those of the edge three periods before the last; 0 while GRST holds the accumulators. -/
def State.fabMacs (s : State) (r : Nat) : List DWord := if s.grst r then [] else (s.fabOf r).pipe.getD 3 []

/-- Levels of every macrocell, by region. -/
abbrev Levels := Map (BitVec 2048)
/-- Outward crossing `i` of region `r`, as a unit of tenant `own` sees it (R405). -/
def State.crossOut (s : State) (v : Levels) (own : Option Nat) (inw : Nat → Nat → Bool) (r i : Nat) : Bool :=
  if s.isoPasses r own then
    ((s.regionCfg r).outs.getD i .low).level (Map.get v 0 r) (s.fabMacs r) (inw r)
  else clampLevel (Config.clamp s.staticFrames false r i) ((s.fabOf r).lastOut.getLsbD i)
/-- A bridge signal of bank `g`. -/
def State.bridgeSig (s : State) (g : Nat) (x : BridgeSig) : Bool :=
  let b := s.bank g
  match x with
  | .co i => b.co.getLsbD i
  | .outEmpty => b.outFifo.isEmpty
  | .inFull => decide (16 ≤ b.inFifo.length)
/-- Inward crossing `i` of region `r` (R405). A crossing between regions passes a cell of each; `n` bounds how many regions a signal
crosses in one period without a macrocell. -/
def State.crossIn (s : State) (v : Levels) : Nat → Nat → Nat → Bool
  | 0, _, _ => false
  | n + 1, r, i =>
    let held := clampLevel (Config.clamp s.staticFrames true r i) ((s.fabOf r).lastIn.getLsbD i)
    match Config.crossIn s.staticFrames r i with
    | .low => held
    | .region q j => if s.isoPasses r (s.regionOwner q) then s.crossOut v (s.regionOwner r) (s.crossIn v n) q j else held
    | .pin k b => if s.isoPasses r (s.bankOwner (k / 64)) then (Map.get s.edg.rx 0 k).getLsbD b else held
    | .bridge g x => if s.isoPasses r (s.bankOwner g) then s.bridgeSig g x else held
/-- Inward crossings. -/
def State.inward (s : State) (v : Levels) : Nat → Nat → Bool := s.crossIn v 9
/-- Every macrocell of a region, evaluated from the levels `v`. -/
def State.fabEval (s : State) (v : Levels) (r : Nat) : List CellOut :=
  (s.regionCfg r).eval (FabSig.level (Map.get v 0 r) (s.fabMacs r) (s.inward v r))
/-- The levels after one more pass over the loaded regions. -/
def State.fabPass (s : State) (v : Levels) : Levels :=
  s.edg.loaded.map (fun r =>
    let c := s.regionCfg r
    let e := s.fabEval v r
    (r, BitVec.ofNat 2048 (packBits (fun m =>
      (e[m]?).any (fun x => (c.cell m).shows (s.grst r) ((s.fabRegs r).getLsbD m) x)) 2048)))
/-- Levels that a number of passes, or a fixed point before, leaves. -/
def State.fabIterate (s : State) : Nat → Levels → Levels
  | 0, v => v
  | n + 1, v => let w := s.fabPass v; if w = v then v else s.fabIterate n w
/-- The settled levels of the fabric. Logic with a combinational loop that has no stable levels is left where the passes end (log entry
98). -/
def State.fabLevels (s : State) : Levels := s.fabIterate 16384 (s.edg.loaded.map (fun r => (r, s.fabRegs r)))

/-- A level that an outward crossing gives a unit of tenant `own`; 0 where none is connected. -/
def State.portLevel (s : State) (own : Option Nat) (c : Option (Nat × Nat)) : Bool :=
  match c with
  | some x => let v := s.fabLevels; s.crossOut v own (s.inward v) x.1 x.2
  | none => false
/-- CI of bank `g`: what its region gives it through the isolation cells (R405, R411). -/
def State.ciOf (s : State) (g : Nat) : DWord :=
  BitVec.ofNat 64 (packBits (fun i => s.portLevel (s.bankOwner g) (Config.bridgeCi s.staticFrames g i)) 64)

/-! ### An edge of FCLK (R397) -/

/-- What an edge of FCLK leaves of a region, with levels `v` before it. -/
def State.fabClock (s : State) (v : Levels) (r : Nat) : FabRegion :=
  let c := s.regionCfg r
  let f := s.fabOf r
  let inw := s.inward v
  let sig := FabSig.level (Map.get v 0 r) (s.fabMacs r) (inw r)
  let e := s.fabEval v r
  let old := s.fabRegs r
  let regs := if s.grst r || !s.gwe r then old
    else BitVec.ofNat 2048 (packBits (fun m => (e[m]?).any (fun x => (c.cell m).stores (old.getLsbD m) x)) 2048)
  let acc := if s.grst r then [] else (List.range 6).map (fun j => (c.macs.getD j {}).next sig j f.acc)
  { regs := regs, acc := acc, pipe := if s.grst r then [] else acc :: f.pipe.take 3
    lastIn := if s.isoPasses r (s.regionOwner r) then BitVec.ofNat 512 (packBits (inw r) 512) else f.lastIn
    lastOut := if s.isoPasses r (s.regionOwner r) then
      BitVec.ofNat 512 (packBits (fun i => s.crossOut v (s.regionOwner r) inw r i) 512) else f.lastOut }
/-- GRST of a region is about to be released: its registers start from the values that it has held (R399, R401). -/
def State.latchInit (s : State) : State :=
  { s with edg := { s.edg with fab := s.edg.loaded.foldl (fun m r =>
      if s.grst r then Map.set m r { s.fabOf r with regs := (s.regionCfg r).initial, acc := [], pipe := [] } else m) s.edg.fab } }

/-- SRC of a pin is FABRIC. -/
def State.pinFabric (s : State) (n : Nat) : Bool := decide (bit (s.reg (0x201000 + 4 * n)) 2 = 1)
/-- One FCLK period of the fabric (R397): every loaded region is clocked, each FABRIC pin sends its word and receives one, whose bits are
the outside world's. Without FCLK, or with no region loaded, nothing changes. -/
def State.fclkEdge (s : State) : State :=
  if s.edg.fclkOk = false ∨ s.edg.loaded = [] then s
  else
    let v := s.fabLevels
    let inw := s.inward v
    let st := s.staticFrames
    let port := fun (n : Nat) (c : Option (Nat × Nat)) => c.any (fun x => s.crossOut v (s.bankOwner (n / 64)) inw x.1 x.2)
    let pins := (List.range 768).filter s.pinFabric
    { s with
      freeCtr := s.freeCtr + 768
      edg := { s.edg with
        fab := s.edg.loaded.foldl (fun m r => Map.set m r (s.fabClock v r)) s.edg.fab
        tx := pins.map (fun n => (n, BitVec.ofNat 8 (packBits (fun k => port n (Config.pinTx st n k)) 8)))
        oe := pins.filter (fun n => port n (Config.pinOe st n))
        rx := pins.map (fun n => (n, BitVec.ofNat 8 (Config.freeNat (s.freeCtr + n)))) } }

end Sys2Proof.Machine
end

