-- ==== Sys2Proof/Machine/EdgeOps.lean ====
section
/-!
DEFINITION. The edge fabric's shared operations (chapter 14): bank stages and fail-safe, input and output groups, routes, and
the writes of its registers.
-/
namespace Sys2Proof.Machine

def State.setBank (s : State) (g : Nat) (v : EdgeBank) : State := { s with edg := { s.edg with banks := Map.set s.edg.banks g v } }
def State.updBank (s : State) (g : Nat) (f : EdgeBank → EdgeBank) : State := s.setBank g (f (s.bank g))
/-- Offset of the registers of bank `g`. -/
def bankReg (g : Nat) : Nat := 0x200100 + 0x40 * g
/-- MODE FREE. -/
def State.bankFree (s : State) (g : Nat) : Bool := decide (s.rfld (bankReg g) 9 1 = 1)
/-- The bank is in RUN. -/
def State.bankRuns (s : State) (g : Nat) : Bool := decide ((s.bank g).stage = .run)
/-- The initial output word EDG_BANK_INIT. -/
def State.bankInit (s : State) (g : Nat) : DWord := BitVec.ofNat 64 (s.reg (bankReg g + 0x10) + 2 ^ 32 * s.reg (bankReg g + 0x14))
/-- STAGE codes of EDG_BANK_STAT. -/
def BStage.code (b : BStage) : Nat :=
  match b with
  | .off => 0 | .check => 1 | .out => 2 | .we => 3 | .run => 4 | .failsafe => 5 | .retreat => 6

/-! ### Routes and groups (R406 to R410) -/

/-- The routed retained row of bank `g`, as its tile holds it now (R407). -/
def State.routedRow (s : State) (g l : Nat) : DWord :=
  let r := s.reg (bankReg g + 0x18)
  Map.get (s.tile l).ret 0 (2048 * fld r 8 4 + fld r 12 11)
/-- The output route of bank `g` names an image tile. -/
def State.routesFrom (s : State) (g it : Nat) : Bool :=
  let r := s.reg (bankReg g + 0x18)
  decide (bit r 23 = 1 ∧ fld r 0 8 = it)
/-- Tile `l` ends ecycle `k`: the rows that the routes of its tenant's banks name leave it (R407). -/
def State.rowsLeave (s : State) (l k : Nat) : State :=
  (s.banksOf (s.ltile l).ten).foldl (fun s g =>
    if s.routesFrom g (s.ltile l).itile then s.updBank g (fun b => { b with rows := Map.set b.rows k (s.routedRow g l) }) else s) s
/-- The output group of ecycle `k`, just completed (R407): the row that left the routed tile at its end, or the initial word. -/
def State.outGroup (s : State) (t g k : Nat) : DWord :=
  let r := s.reg (bankReg g + 0x18)
  if bit r 23 = 1 ∧ (s.tileOf t (fld r 0 8)).isSome then Map.get (s.bank g).rows 0 k else s.bankInit g

/-- What an input group of bank `g` puts into the EDGE_IN bits of an image tile (R406). -/
def State.routeIn (s : State) (g it : Nat) (v : DWord) : BitVec 128 :=
  let r := s.reg (bankReg g + 0x1C)
  let half := fun (lsb : Nat) => if bit r (lsb + 9) = 1 ∧ fld r lsb 8 = it then
    BitVec.ofNat 128 (v.toNat <<< (64 * bit r (lsb + 8))) else 0
  half 0 ||| half 16
/-- The bank's input route names an image tile. -/
def State.routesTo (s : State) (g it : Nat) : Bool :=
  let r := s.reg (bankReg g + 0x1C)
  (decide (bit r 9 = 1) && decide (fld r 0 8 = it)) || (decide (bit r 25 = 1) && decide (fld r 16 8 = it))

/-- The group delivered for an ecycle, if any. -/
def EdgeBank.groupOf (b : EdgeBank) (e : Nat) : Option DWord := (b.given.find? (fun x => decide (x.1 = e))).map (fun x => x.2)
/-- EDGE_IN of an image tile in an ecycle: the OR of the groups that its routes deliver (R406). -/
def State.edgeFor (s : State) (t it e : Nat) : BitVec 128 :=
  (s.banksOf t).foldl (fun a g => match (s.bank g).groupOf e with
    | some v => a ||| s.routeIn g it v
    | none => a) 0

/-- The first ecycle that no tile of the tenant has started. -/
def State.unstarted (s : State) (t : Nat) : Nat :=
  (s.boundTiles t).foldl (fun a l => max a (s.tile l).startedCount) (s.ten t).done

/-- The release sample (R410): the input group of the next two ecycles that the tenant has not started. -/
def State.releaseSample (s : State) (t g : Nat) (v : DWord) : State :=
  let e := s.unstarted t
  s.updBank g (fun b => { b with rel := [(e, v), (e + 1, v)], inFifo := [], nextIn := e })

/-- The configuration of a pin (R402): a pair takes every field from the register of its even pin. -/
def State.pinCfg (s : State) (n : Nat) : Nat :=
  let e := s.reg (0x201000 + 4 * (n / 2 * 2))
  if fld e 5 3 = 0 then s.reg (0x201000 + 4 * n) else e
/-- A group sampled at the pins (R403, R409): DIRECT input pins give their levels, every other bit is that of CI. -/
def State.sampleOf (s : State) (g : Nat) (pins : DWord) : DWord :=
  BitVec.ofNat 64 (packBits (fun i =>
    let p := s.pinCfg (64 * g + i)
    if fld p 0 2 = 0 ∧ bit p 2 = 0 then xor (pins.getLsbD i) (decide (bit p 18 = 1)) else (s.ciOf g).getLsbD i) 64)

/-- The tenant completes ecycle `k`: each of its banks takes the output group (R408), and a bank that is not in RUN, or
whose release mark is not below it, drives nothing. -/
def State.pushGroups (s : State) (t k : Nat) : State :=
  (s.banksOf t).foldl (fun s g =>
    let v := s.outGroup t g k
    s.updBank g (fun b =>
      let b := { b with grpOut := v, grpIn := (b.groupOf k).getD b.grpIn, given := b.given.filter (fun x => decide (k < x.1)),
                           rows := b.rows.filter (fun x => decide (k < x.1)) }
      if b.stage = .run ∧ b.pushed ≤ k then { b with outFifo := b.outFifo ++ [(k, v)], pushed := k + 1 }
      else { b with pushed := max b.pushed (k + 1) })) s

/-- Every RUN bank of the tenant has room for the ecycles in progress and one more (R408). -/
def State.edgeRoom (s : State) (t e : Nat) : Bool :=
  (s.banksOf t).all (fun g => !s.bankRuns g || decide ((s.bank g).outFifo.length + (e - (s.ten t).done) ≤ 15))

/-- The bank's input route names a tile that the tenant holds here. -/
def State.routedHere (s : State) (t g : Nat) : Bool := (s.boundTiles t).any (fun l => s.routesTo g (s.ltile l).itile)
/-- Every bank in RUN has delivered the input group of ecycle `e`; a FREE bank that reaches no tile need not (R406, R410). -/
def State.edgeGiven (s : State) (t e : Nat) : Bool :=
  (s.banksOf t).all (fun g => !s.bankRuns g || (s.bankFree g && !s.routedHere t g) || ((s.bank g).groupOf e).isSome)

/-! ### Stages and fail-safe (R416 to R420) -/

/-- The bridge stops: FIFOs emptied, the target cycle under way abandoned, TCLK low. -/
def EdgeBank.stopBridge (b : EdgeBank) : EdgeBank :=
  { b with outFifo := [], inFifo := [], rel := [], cyc := none, tclk := false }

/-- A cause of Table 14-6 acts on bank `g`: FAILSAFE at once and without stages. A bank in OFF already has its pins in
their fail-safe states and stays OFF (log entry 19). -/
def State.failBank (s : State) (g cause : Nat) (hiZ hold : Bool) : State :=
  let b := s.bank g
  match b.stage with
  | .off => s
  | .failsafe => s.setBank g { b with hiZ := b.hiZ || hiZ }
  | _ =>
    let s := s.setBank g { b.stopBridge with stage := .failsafe, undoing := .off, fsCause := cause, hiZ := hiZ }
    let own := s.bankOwner g
    let s := s.report 0x0701 clsTenant g own (g + 16 * cause + 256 * own.getD 0)
    match own with
    | some t => if hold then s.raiseHold t 5 none else s
    | none => s

/-- Every bank enters FAILSAFE (R418). -/
def State.failAll (s : State) (cause : Nat) : State := (List.range 12).foldl (fun s g => s.failBank g cause false false) s
/-- The banks of half `h` enter FAILSAFE with their domain (Table 14-6). -/
def State.failHalf (s : State) (h : Nat) : State :=
  (List.range 6).foldl (fun s i => s.failBank (6 * h + i) 2 false true) s
/-- VIO of a bank is in doubt (R414). -/
def State.vioDoubt (s : State) (g : Nat) : State :=
  (s.updBank g (fun b => { b with vioOk := false, vioSince := none })).failBank g 4 true true

/-- A mode from IDLE to DERATE. -/
def Mode.idleToDerate (m : Mode) : Bool := m.configured && decide (m ≠ .safe)

/-- What R416 asks of RELEASE and R417 of WITHDRAW beside the stage. -/
def State.releasable (s : State) (g : Nat) : Bool :=
  match s.bankOwner g with
  | some t => s.noEcycle t && s.dev.mode.idleToDerate
  | none => false

/-- The bank leaves CHECK once its VIO qualifies. -/
def State.leaveCheck (s : State) (g : Nat) : State :=
  if (s.bank g).stage = .check ∧ (s.bank g).vioOk = true then s.updBank g (fun b => { b with stage := .out, co := s.bankInit g }) else s

/-- VIO of a bank has qualified (R414). -/
def State.vioQualified (s : State) (g mv : Nat) : State :=
  if (s.bank g).vioOk then s
  else ((s.updBank g (fun b => { b with vioOk := true, brownout := false })).report 0x0702 clsEvent g none (g + 2 ^ 16 * mv)).leaveCheck g

/-- RELEASE (R416). -/
def State.bankRelease (s : State) (g : Nat) : State :=
  let b := s.bank g
  if (b.stage = .off ∨ b.stage = .failsafe) ∧ s.releasable g = true then
    (s.setBank g { b with stage := .check, fsCause := 0, hiZ := false }).leaveCheck g
  else s.accState (bankReg g + 4)

/-- The withdrawal of a bank ends in OFF. -/
def State.bankOff (s : State) (g : Nat) : State :=
  (s.updBank g (fun b => { b.stopBridge with stage := .off, undoing := .off, fsCause := 0, hiZ := false })).report
    0x0703 clsEvent g none g

/-- WITHDRAW (R417): the first stage is undone at once, the others STAGE_US apart; RETREAT shows the stage that is undone
next (log entry 20). -/
def State.bankWithdraw (s : State) (g : Nat) : State :=
  let b := s.bank g
  if s.releasable g then
    match b.stage with
    | .off => s.accState (bankReg g + 4)
    | .run => s.setBank g { b.stopBridge with stage := .retreat, undoing := .we }
    | .we => s.setBank g { b with stage := .retreat, undoing := .out }
    | .retreat => s
    | _ => s.bankOff g
  else s.accState (bankReg g + 4)

/-- The bank enters RUN (R399, R408, R410): GRST of its regions is released. -/
def State.enterRun (s : State) (g : Nat) (pins : DWord) : State :=
  match s.bankOwner g with
  | none => s
  | some t =>
    let s := s.latchInit.updBank g (fun b => { b.stopBridge with stage := .run, undoing := .off, nextIn := s.unstarted t, given := [] })
    let s := if s.bankFree g then s else s.releaseSample t g (s.sampleOf g pins)
    s.report 0x0700 clsEvent g (some t) (g + 256 * t)

/-! ### Register writes (R403, R404, R407) -/

/-- Highest rate of a standard at a bank voltage, in Mb/s (Table 14-3); 0 for a standard that the voltage does not have. -/
def stdRate (std vio : Nat) : Nat :=
  if std = 1 then (if vio = 3 then 1600 else 0)
  else if std = 2 then (if vio = 0 ∨ vio = 2 then 1600 else 0)
  else if vio = 4 then 200 else if vio = 3 then 400 else 800

/-- EDG_PIN as stored: reserved codes fall back to 0 (Table 14-11). -/
def pinStored (v : Nat) : Nat :=
  let v := v % 2 ^ 20
  let v := if fld v 0 2 = 3 then setFld v 0 2 0 else v
  let v := if 2 < fld v 5 3 then setFld v 5 3 0 else v
  if fld v 15 2 = 3 then setFld v 15 2 0 else v

/-- A combination that EDG_PIN refuses (R403). -/
def pinBad (v vio : Nat) : Bool :=
  decide (stdRate (fld v 5 3) vio < 200 * 2 ^ fld v 3 2) ||
  decide (bit v 2 = 0 ∧ fld v 3 2 ≠ 0) || decide (fld v 0 2 = 2 ∧ bit v 2 = 0) ||
  decide (bit v 17 = 1 ∧ fld v 0 2 ≠ 1) ||
  decide (fld v 15 2 ≠ 0 ∧ fld v 13 2 ≠ 1 ∧ fld v 13 2 ≠ 2)

/-- EDG_PIN is written (R403): FS goes to the latch of the pin (R419). -/
def State.writePin (s : State) (n v : Nat) : State :=
  let off := 0x201000 + 4 * n
  let g := n / 64
  let v := pinStored v
  if (s.bank g).stage ≠ .off ∧ (s.bank g).stage ≠ .failsafe then s.accState off
  else if pinBad v (s.rfld (bankReg g) 10 3) then s.accValue off
  else
    let s := s.setReg off v
    { s with edg := { s.edg with padFs := Map.set s.edg.padFs n (fld v 13 2) } }

/-- EDG_BANK_CFG as stored. -/
def bankCfgStored (v : Nat) : Nat :=
  let v := v % 2 ^ 18
  let v := if 4 < fld v 10 3 then setFld v 10 3 0 else v
  if 11 < fld v 13 4 then setFld v 13 4 11 else v

/-- EDG_BANK_CFG is written (R404): owner, assignment and MODE change only in OFF. A half that Basil has switched off comes on
again with the assignment of one of its banks (Table 9-4). -/
def State.writeBankCfg (s : State) (g v : Nat) : State :=
  let v := bankCfgStored v
  if fld v 0 10 ≠ s.rfld (bankReg g) 0 10 ∧ (s.bank g).stage ≠ .off then s.accState (bankReg g)
  else
    let s := s.setReg (bankReg g) v
    let d := 62 + g / 6
    let x := Map.get s.pwr.domains {} d
    if bit v 8 = 1 ∧ x.on = false then { s with pwr := { s.pwr with domains := Map.set s.pwr.domains d { x with on := true } } } else s

/-- EDG_REGION is written (R404). -/
def State.writeRegion (s : State) (r v : Nat) : State :=
  let off := 0x204000 + 0x10 * r
  let own := fun (w : Nat) => if bit w 8 = 1 then some (fld w 0 8) else none
  let ok := (List.range 6).all (fun i =>
    let g := 6 * (r / 4) + i
    match s.bankOwner g with
    | none => true
    | some t => decide (own v ≠ some t ∧ own (s.reg off) ≠ some t) || decide ((s.bank g).stage = .off ∨ (s.bank g).stage = .failsafe))
  if ok then s.setReg off (v % 2 ^ 9) else s.accState off

/-- EDG_ROUTE_OUT and EDG_ROUTE_IN are written: only while the tenant has no ecycle in progress (R407). -/
def State.writeRoute (s : State) (g : Nat) (inward : Bool) (v : Nat) : State :=
  let off := bankReg g + (if inward then 0x1C else 0x18)
  let still := match s.bankOwner g with | some t => s.noEcycle t | none => true
  if still then s.setReg off (if inward then v % 2 ^ 26 - fld v 10 6 * 2 ^ 10 else v % 2 ^ 24) else s.accState off

/-- EDG_BANK_TIME as stored (Table 14-10). -/
def bankTimeStored (v : Nat) : Nat :=
  let a := max 1 (fld v 0 8)
  let b := max 1 (fld v 8 8)
  a + 2 ^ 8 * b + 2 ^ 16 * max (a + b + 1) (fld v 16 16)
/-- EDG_CFG as stored (Table 14-10). -/
def edgCfgStored (v : Nat) : Nat :=
  max 1 (fld v 0 8) + 2 ^ 8 * max 1 (fld v 8 8) + 2 ^ 16 * max 3 (min 10 (fld v 16 4))

end Sys2Proof.Machine
end

