-- ==== Sys2Proof/Machine/Coding.lean ====
section
/-!
DEFINITION. The line code of a lattice link: 8b/10b with running disparity, the K-characters of Table 10-2, and the characters of
every ordered set and frame (R279 to R282, R290, R292; Tables 10-3 to 10-11). The code tables are those of ANSI X3.230, which R279
names (log entry 101).
-/
namespace Sys2Proof.Machine

/-! ### 8b/10b (R279) -/

/-- K-characters of Table 10-2. -/
inductive KChar where
  | com | skp | fmk | slp | wak | trn | sfr | efr | abt
deriving DecidableEq, Repr
def KChar.value : KChar → Nat
  | .com => 0xBC | .skp => 0x1C | .fmk => 0x3C | .slp => 0x5C | .wak => 0x7C | .trn => 0x9C | .sfr => 0xFB | .efr => 0xFD | .abt => 0xFE
def allK : List KChar := [.com, .skp, .fmk, .slp, .wak, .trn, .sfr, .efr, .abt]
/-- A character: one of the 256 data characters or a K-character of the table. -/
inductive Sym where
  | d (v : Byte)
  | k (c : KChar)
deriving DecidableEq, Repr

/-- The 5b/6b codes abcdei for negative running disparity, D.0 to D.31. -/
def code6 : List Nat :=
  [0b100111, 0b011101, 0b101101, 0b110001, 0b110101, 0b101001, 0b011001, 0b111000] ++
  [0b111001, 0b100101, 0b010101, 0b110100, 0b001101, 0b101100, 0b011100, 0b010111] ++
  [0b011011, 0b100011, 0b010011, 0b110010, 0b001011, 0b101010, 0b011010, 0b111010] ++
  [0b110011, 0b100110, 0b010110, 0b110110, 0b001110, 0b101110, 0b011110, 0b101011]
/-- The 3b/4b codes fghj for negative running disparity: of data, and of K28. -/
def code4 : List Nat := [0b1011, 0b1001, 0b0101, 0b1100, 0b1101, 0b1010, 0b0110, 0b1110]
def code4k : List Nat := [0b1011, 0b0110, 0b1010, 0b1100, 0b1101, 0b0101, 0b1001, 0b0111]
/-- Ones among the low `n` bits. -/
def onesIn (v : Nat) : Nat → Nat
  | 0 => 0
  | n + 1 => v % 2 + onesIn (v / 2) n
/-- A block of `n` bits as it goes out at the running disparity `rd` (true: positive), from its form for the negative one; and the
running disparity after it. `both` marks a balanced block that has two forms. -/
def rdBlock (v n : Nat) (both rd : Bool) : Nat × Bool :=
  if 2 * onesIn v n = n then (if rd && both then 2 ^ n - 1 - v else v, rd)
  else (if rd then 2 ^ n - 1 - v else v, !rd)
/-- The 10-bit code abcdeifghj, a first, of the character `v`, a K-character where `k`; and the running disparity after it. -/
def encode10 (k : Bool) (v : Nat) (rd : Bool) : Nat × Bool :=
  let x := v % 32
  let y := v / 32 % 8
  let six := if k && decide (x = 28) then rdBlock 0b001111 6 false rd else rdBlock (code6[x]?.getD 0) 6 (decide (x = 7)) rd
  let alt := decide (y = 7) &&
    (k || (!six.2 && decide (x = 17 ∨ x = 18 ∨ x = 20)) || (six.2 && decide (x = 11 ∨ x = 13 ∨ x = 14)))
  let four :=
    if k && decide (x = 28) then rdBlock (code4k[y]?.getD 0) 4 true six.2
    else rdBlock (if alt then 0b0111 else code4[y]?.getD 0) 4 (decide (y = 3)) six.2
  (six.1 * 16 + four.1, four.2)
def Sym.encode (c : Sym) (rd : Bool) : Nat × Bool :=
  match c with
  | .d v => encode10 false v.toNat rd
  | .k c => encode10 true c.value rd
/-- The codes of a run of characters, and the running disparity after them. -/
def encodeSyms : List Sym → Bool → List Nat × Bool
  | [], rd => ([], rd)
  | c :: cs, rd => let e := c.encode rd; let r := encodeSyms cs e.2; (e.1 :: r.1, r.2)

/-- The character that a received code spells at the running disparity `rd`; none is a code error: an invalid code, a K-character
that Table 10-2 lacks, or a character of wrong disparity (R279). -/
def decode10 (c : Nat) (rd : Bool) : Option Sym :=
  match allK.find? (fun k => decide ((encode10 true k.value rd).1 = c)) with
  | some k => some (.k k)
  | none => ((List.range 256).find? (fun v => decide ((encode10 false v rd).1 = c))).map (fun v => .d (BitVec.ofNat 8 v))
/-- The running disparity after a received code, from the code's own bits. -/
def rdAfter (c : Nat) (rd : Bool) : Bool :=
  let n := onesIn c 10
  if 5 < n then true else if n < 5 then false else rd
/-- What a run of received codes spells, and the running disparity after it. -/
def decodeSyms : List Nat → Bool → List (Option Sym) × Bool
  | [], rd => ([], rd)
  | c :: cs, rd => let r := decodeSyms cs (rdAfter c rd); (decode10 c rd :: r.1, r.2)

/-! ### Bytes of a frame (Tables 10-4 to 10-11) -/

/-- A CTL body (Table 10-7). -/
def ctlWord (c : Ctl) : Nat :=
  (match c.ack with | some a => a.toNat + 2 ^ 12 | none => 0) + 2 ^ 13 * b2n c.nak + 2 ^ 16 * c.xch + 2 ^ 32 * c.pkt + 2 ^ 42 * c.tok +
    2 ^ 49 * c.dtr
/-- A request entry (Table 10-11). -/
def bndEntBytes (e : BndEnt) : List Byte :=
  leBytes (e.typ % 256 + 2 ^ 8 * (e.origin % 256) + 2 ^ 16 * (e.sub % 256)) 4 ++ leBytes e.arg 4 ++ leBytes e.b 8
/-- A TOK body (R291, Table 10-10). -/
def tokenBytes (k : Token) : List Byte :=
  leBytes k.typ 1 ++ leBytes k.ten 1 ++ leBytes (b2n k.more + 2 * b2n k.fwd) 1 ++ leBytes k.origin 1 ++ leBytes k.word 4 ++
  (if k.typ = 1 then leBytes k.a 8 ++ k.reqs.flatMap bndEntBytes
   else if k.typ = 2 then leBytes k.a 8 ++ leBytes k.b 8
   else if k.typ = 5 then leBytes k.a 8 ++ leBytes k.b 8 ++ leBytes k.c 8
   else if k.typ = 7 then leBytes k.nbr.toNat 32
   else [])
/-- A slot entry (Table 10-6). -/
def slotEntBytes (e : SlotEnt) : List Byte :=
  leBytes (e.dtile % 256 + 2 ^ 8 * (e.word % 16) + 2 ^ 12 * (e.epoch % 16) + 2 ^ 16 * (e.occ % 256)) 4 ++ leBytes e.data.toNat 8
/-- A packet in the layout of chapter 11 (Tables 11-2 and 11-3), in whole flits. -/
def pktBytes (p : Pkt) : List Byte :=
  let n := (9 + p.body.length + 63) / 64
  let head := p.vc % 4 + 2 ^ 2 * (n - 1) + 2 ^ 4 * (p.age % 16) + 2 ^ 8 * (p.ten % 256) + 2 ^ 16 * (p.dest % 256) +
    2 ^ 24 * (p.src % 256) + 2 ^ 32 * (p.epoch % 16) + 2 ^ 48 * (p.tag % 65536)
  let used := leBytes head 8 ++ leBytes (p.op % 16 + 2 ^ 4 * b2n p.damaged + 2 ^ 5 * b2n p.poison) 1 ++ p.body
  used ++ zeros (64 * n - used.length)
/-- The CLASS code of a body (Table 10-4). -/
def bodyCls : Body → Nat
  | .xch _ _ _ _ _ => 1 | .tok _ => 2 | .pkt _ => 3 | .dtr _ _ _ _ _ => 4 | .ctl _ => 5
/-- A frame header (Table 10-4). -/
def frameHead (cls seq bytes : Nat) : List Byte := leBytes (cls + 2 ^ 4 * (seq % 4096) + 2 ^ 16 * (bytes / 4)) 4
/-- A frame body: XCH (Table 10-6), TOK, PKT, CTL, and DTR with the header and body of its inner frame (R309). -/
def bodyRaw : Body → List Byte
  | .xch ten ecyc dmod omod sl =>
    leBytes (ten % 256 + 2 ^ 8 * (sl.length - 1) + 2 ^ 16 * (ecyc % 65536) + 2 ^ 32 * (dmod % 256) + 2 ^ 40 * (omod % 256)) 8 ++
      sl.flatMap slotEntBytes
  | .tok k => tokenBytes k
  | .pkt p => pktBytes p
  | .ctl c => leBytes (ctlWord c) 8
  | .dtr dst org link iseq inner =>
    let b := bodyRaw inner
    leBytes (dst % 256 + 2 ^ 8 * (org % 256) + 2 ^ 16 * (link % 256) + 2 ^ 24 * (iseq % 4096)) 8 ++ frameHead (bodyCls inner) iseq b.length ++ b
/-- Header, body and CRC-32C of a frame (R281). -/
def frameBytes (seq : BitVec 12) (b : Body) : List Byte :=
  let hb := frameHead (bodyCls b) seq.toNat (bodyRaw b).length ++ bodyRaw b
  hb ++ leBytes (crc32c hb) 4

/-! ### The characters of a lane (R281, Tables 10-3, 10-8 and 10-9) -/

/-- The bytes of one lane: 2n on lane 0, 2n + 1 on lane 1. -/
def stripe (lane : Nat) (bs : List Byte) : List Sym :=
  ((bs.zipIdx).filter (fun e => decide (e.2 % 2 = lane))).map (fun e => Sym.d e.1)
/-- CRC-8 with polynomial 0x07 (Table 10-8). -/
def crc8Bits (c : Nat) : Nat → Nat
  | 0 => c
  | n + 1 => crc8Bits (if 128 ≤ c then (2 * c % 256) ^^^ 7 else 2 * c) n
def crc8 (bs : List Byte) : Nat := bs.foldl (fun c b => crc8Bits (c ^^^ b.toNat) 8) 0
/-- The data of a frame mark (Table 10-8). -/
def fmkBytes (mseq delay : Nat) (tvalid : Bool) (src stratum : Nat) : List Byte :=
  let b := leBytes (mseq % 65536 + 2 ^ 16 * (delay % 1024) + 2 ^ 26 * b2n tvalid) 4 ++ leBytes src 1 ++ leBytes stratum 1
  b ++ leBytes (crc8 b) 1 ++ leBytes 0 1
/-- The training set of a lane of link `l` (Table 10-9). A lane that a spare carries sends it there, with SUB. -/
def tsSyms (l : Nat) (t : TrainSet) (lane : Nat) : List Sym :=
  let onSpare := t.sub && decide (t.subLane.val = lane)
  let flags := b2n t.idValid + 2 * b2n t.rxLocked + 4 * b2n t.ack + 8 * b2n t.fast + 16 * b2n t.loopReq + 32 * b2n t.loopAck +
    64 * b2n onSpare + 128 * b2n (onSpare && decide (lane = 1))
  [.k .com, .k .trn] ++
  ([if t.spare then 2 + 4 * (l % 36 / 9) else lane, if lane = 0 then t.mod0.val else t.mod1.val, if lane = 0 then t.link0 else t.link1,
    flags, t.tag.toNat % 256, t.tag.toNat / 256, t.lastSeq.toNat % 256, t.lastSeq.toNat / 256] ++ List.replicate 6 0x4A).map
    (fun v => Sym.d (BitVec.ofNat 8 v))
/-- The characters of an item on a lane (Table 10-3, R281). WAK lasts 1.5 µs, which is 4,800 symbol times. -/
def WireItem.syms (l lane : Nat) : WireItem → List Sym
  | .idl => [.k .com]
  | .skp => [.k .com, .k .skp]
  | .slp => [.k .com, .k .slp, .k .slp, .k .slp]
  | .wak => (List.replicate 2400 [Sym.k .com, Sym.k .wak]).flatten
  | .fmk mseq delay tvalid src stratum => .k .fmk :: stripe lane (fmkBytes mseq delay tvalid src stratum)
  | .ts t => tsSyms l t lane
  | .frame seq b => .k .sfr :: (stripe lane (frameBytes seq b) ++ [.k .efr])

/-! ### The two ends of a lane -/

/-- The codes of an item on a lane of the link, at its running disparity; and that disparity after it. -/
def Link.txCodes (k : Link) (l lane : Nat) (w : WireItem) : List Nat × Bool :=
  encodeSyms (w.syms l lane) (if lane = 0 then k.txRd0 else k.txRd1)
/-- The transmitter's running disparities after an item. -/
def Link.afterItem (k : Link) (l : Nat) (w : WireItem) : Link :=
  { k with txRd0 := (k.txCodes l 0 w).2, txRd1 := (k.txCodes l 1 w).2 }

/-- The codes of logical lane `n` of what the pins have brought: the lane swap and the polarity are corrected (R280). -/
def Link.laneIn (k : Link) (x : LineIn) (n : Nat) : List Nat :=
  let raw := if decide (n = 0) != k.laneSwap then x.lane0 else x.lane1
  raw.map (fun c => if k.polInv.testBit n then 1023 - c.toNat else c.toNat)
/-- Places of the code errors in what a lane has spelt, counted from `at`. -/
def errPlaces (at_ : Nat) (cs : List (Option Sym)) : List Nat := ((cs.zipIdx).filter (fun e => e.1.isNone)).map (fun e => at_ + e.2)
/-- What the last frame of a lane shows of damage: a code error after its SFR, or an ABT at its end (R286). -/
def frameHurt (cs : List (Option Sym)) : Bool :=
  let tail := cs.reverse.takeWhile (fun c => decide (c ≠ some (Sym.k KChar.sfr)))
  decide (tail.length < cs.length) && (tail.any Option.isNone || decide (tail.head? = some (some (Sym.k KChar.abt))))
/-- The receiver takes what the lanes have brought: code errors are counted, the places of those of the last 256 symbol times are
kept (R304), and the running disparities go on. The Bool says whether the frame that ended there is damaged. -/
def Link.takeLine (k : Link) (x : LineIn) : Bool × Link :=
  let a := decodeSyms (k.laneIn x 0) k.rxRd0
  let b := decodeSyms (k.laneIn x 1) k.rxRd1
  let e0 := errPlaces k.rxSyms a.1
  let e1 := errPlaces k.rxSyms b.1
  let now := k.rxSyms + max a.1.length b.1.length
  let near := fun (es : List Nat) => es.filter (fun p => decide (now < p + 257))
  (frameHurt a.1 || frameHurt b.1,
   { k with rxRd0 := a.2, rxRd1 := b.2, rxSyms := now, code0 := min 0xFFFF (k.code0 + e0.length), code1 := min 0xFFFF (k.code1 + e1.length)
            errs0 := near (k.errs0 ++ e0), errs1 := near (k.errs1 ++ e1) })
/-- A lane shows 4 code errors within 256 symbol times (R304). -/
def Link.manyErrs (k : Link) : Bool := decide (4 ≤ k.errs0.length ∨ 4 ≤ k.errs1.length)

end Sys2Proof.Machine
end

