-- ==== Sys2Proof/Machine/Noc.lean ====
section
/-!
DEFINITION. The network on chip (R313 to R323): routes over the die meshes and the spine, the flit wheel of every output, age
classes, and the arbiter (log entry 100).
-/
namespace Sys2Proof.Machine

/-! ### Routes (R313, R314) -/

/-- The spine, as one switch whose ports are numbered as the nodes of Table 11-1; and the place of a packet that has come to
its destination. -/
def nocSpine : Nat := 200
def nocHome : Nat := 201
/-- Input ports of a switch (R313, Table 11-1). -/
def nocPorts (node : Nat) : Nat := if node < 200 then 6 else 211
/-- The output that a packet for `dest` asks for. In a mesh router the ports are L 0, N 1, E 2, S 3, W 4 and U 5; a packet inside
its die moves along its row to its column first, and then along the column; every other packet takes U. -/
def nocOut (node dest : Nat) : Nat :=
  if node = nocSpine then dest
  else if dest = node then 0
  else if dest < 200 ∧ dest / 25 = node / 25 then
    let (r, c) := (node % 25 / 5, node % 5)
    let (r', c') := (dest % 25 / 5, dest % 5)
    if c < c' then 2 else if c' < c then 4 else if r < r' then 3 else 1
  else 5
/-- The switch behind an output, and the rank of the input there. -/
def nocNext (node out : Nat) : Nat × Nat :=
  if node = nocSpine then (if out < 200 then (out, 5) else (nocHome, 0))
  else if out = 1 then (node - 5, 3)
  else if out = 2 then (node + 1, 4)
  else if out = 3 then (node + 5, 1)
  else if out = 4 then (node - 1, 2)
  else if out = 5 then (nocSpine, node)
  else (nocHome, 0)

/-! ### Age (R321) -/

/-- Table 11-4, over an age in ticks of 40 ns. -/
def ageClass (a : Nat) : Nat :=
  ([1, 2, 4, 8, 16, 32, 64, 128, 256, 512, 1024, 1536, 2048, 2560, 3072].filter (· ≤ a)).length
/-- The age tick: the 400 MHz clock over 16, as a 12-bit count. -/
def Noc.tick (n : Noc) : Nat := n.clk / 16 % 4096
/-- The class of a packet, which never falls. -/
def Noc.classOf (n : Noc) (f : Flight) : Nat := max f.age (ageClass ((n.tick + 4096 - f.inj) % 4096))
/-- Every router writes the class of the heads it holds (Table 11-11: the highest class, and the heads that reach 15). -/
def Noc.refresh (n : Noc) : Noc :=
  let fs := n.flights.map (fun f => if f.node = nocHome then f else { f with age := n.classOf f })
  let hits := ((n.flights.zip fs).filter (fun e => decide (e.1.age < 15 ∧ 15 ≤ e.2.age))).length
  { n with flights := fs, maxClass := fs.foldl (fun a f => max a f.age) n.maxClass
           class15 := min 0xFFFF (n.class15 + hits) }

/-! ### Order (R315) -/

/-- Of the packets that go one way on one virtual channel the first sent is the first to come; `key` names the way. A packet that the
list does not hold has none before it. -/
def comesFirst {α β : Type} [DecidableEq α] [DecidableEq β] (key : α → β) (p : α) (l : List α) : Bool :=
  !l.contains p || decide (l.find? (fun q => decide (key q = key p)) = some p)
/-- The way of a slot, of a credit, of an answer to a deep command and of a packet. -/
def slotWay (p : Slot) : Bool × Nat × Nat × Nat := (p.remote, p.ten, p.src, p.dst)
def creditWay (c : Credit) : Nat × Nat × Nat := (c.ten, c.src, c.dst)
def ansWay (r : DeepAns) : Nat × Nat × Nat := (r.ten, r.itile, (r.ten + r.memid) % 4)
def pktWay (p : Pkt) : Nat × Nat × Nat := (p.vc, p.src, p.dest)

/-! ### Injection (R313, R316) -/

/-- Physical node of an image tile. -/
def State.nocTile (s : State) (t i : Nat) : Nat := ((s.tileOf t i).map s.ptile).getD 0
/-- Flits of a packet. -/
def pktFlits (p : Pkt) : Nat := min 4 ((9 + p.body.length + 63) / 64)
/-- Virtual channel, source node, destination node, age class on entry and flits of what a list holds. A slot from another module
enters at the SerDes side that its `src` names. -/
def State.nocHead (s : State) : NocRef → Nat × Nat × Nat × Nat × Nat
  | .slot p => (2, if p.remote then p.src else s.nocTile p.ten p.src, s.nocTile p.ten p.dst, 0, 1)
  | .credit c => (2, s.nocTile c.ten c.dst, s.nocTile c.ten c.src, 0, 1)
  | .deep c => (0, s.nocTile c.ten c.itile, 0xCC + (c.ten + c.memid) % 4, 0, 1)
  | .ans r => (1, 0xCC + (r.ten + r.memid) % 4, s.nocTile r.ten r.itile, 0, 1)
  | .pkt p => (p.vc, p.src, p.dest, p.age, pktFlits p)
/-- The packet as its network interface injects it. -/
def State.inject (s : State) (r : NocRef) : Flight :=
  let (vc, src, dest, age, n) := s.nocHead r
  let (node, rank) := if src < 200 then (src, 0) else (nocSpine, src)
  { ref := r, vc := vc, dest := dest, age := age, inj := s.noc.tick, node := node, rank := rank, out := nocOut node dest, flits := n }
/-- The flights whose packets still travel, and the packets that have none yet. -/
def keepFlights : List Flight → List NocRef → List Flight × List NocRef
  | [], rs => ([], rs)
  | f :: fs, rs =>
    let k := keepFlights fs (rs.erase f.ref)
    if f.ref ∈ rs then (f :: k.1, k.2) else keepFlights fs rs
/-- Everything that the lists of the NoC hold. -/
def Noc.refs (n : Noc) : List NocRef :=
  n.slots.map .slot ++ n.credits.map .credit ++ n.deepReq.map .deep ++ n.answers.map .ans ++ n.pkts.map .pkt
/-- What has been sent since enters at its source; what has been taken leaves. -/
def State.nocSync (s : State) : Noc :=
  let k := keepFlights s.noc.flights s.noc.refs
  let new := k.2.map s.inject
  { s.noc with
    flights := k.1 ++ new
    class15 := min 0xFFFF (s.noc.class15 + (new.filter (fun f => decide (15 ≤ f.age))).length) }

/-! ### The flit wheel and the arbiter (R320, R322, R323) -/

/-- The virtual channel of each position of the wheel, none where it is open. -/
def wheelVc (pos : Nat) : Option Nat :=
  match pos % 8 with
  | 1 => some 3 | 3 => some 1 | 5 => some 0 | 7 => none | _ => some 2
/-- What a virtual channel counts in the input number. -/
def vcWeight (vc : Nat) : Nat := if vc = 2 then 3 else if vc = 3 then 2 else if vc = 1 then 1 else 0
/-- The input number of R322. -/
def Flight.inputNo (f : Flight) : Nat := 4 * (nocPorts f.node * f.age + f.rank) + vcWeight f.vc
/-- The next input has room for another flit of the packet (4 flits per virtual channel); a destination sinks every packet. -/
def Noc.credit (n : Noc) (f : Flight) : Bool :=
  let d := nocNext f.node f.out
  decide (d.1 = nocHome) ||
    decide (((n.flights.filter (fun g => decide (g.node = d.1 ∧ g.rank = d.2 ∧ g.vc = f.vc))).map (fun g => g.flits - g.gone)).foldl (· + ·) 0
      + f.gone < 4)
/-- The packet at the head of each input and virtual channel of a switch, in the order of the list. -/
def nocHeads : List Flight → List Flight
  | [] => []
  | f :: fs => f :: (nocHeads fs).filter (fun g => !decide (g.rank = f.rank ∧ g.vc = f.vc))
/-- The heads that contend for an output: one that has won its virtual channel holds it until its tail has passed. -/
def Noc.contend (n : Noc) (node out : Nat) : List Flight :=
  let hs := (nocHeads (n.flights.filter (fun f => decide (f.node = node)))).filter (fun f => decide (f.out = out))
  hs.filter (fun f => decide (0 < f.gone) || !hs.any (fun g => decide (g.vc = f.vc ∧ 0 < g.gone)))
/-- The head of highest input number. -/
def nocBest : List Flight → Option Flight
  | [] => none
  | f :: fs =>
    match nocBest fs with
    | none => some f
    | some g => if f.inputNo < g.inputNo then some g else some f
/-- The winner of a position: among the heads of its virtual channel, or among all at an open one. -/
def nocWinner (pos : Nat) (ready : List Flight) : Option Flight :=
  let mine := ready.filter (fun f => decide (wheelVc pos = some f.vc))
  nocBest (if mine.isEmpty then ready else mine)
/-- A flit of the packet passes; with its tail the packet stands at the next switch. -/
def Flight.pass (f : Flight) : Flight × Bool :=
  if f.gone + 1 < f.flits then ({ f with gone := f.gone + 1 }, false)
  else
    let d := nocNext f.node f.out
    ({ f with node := d.1, rank := d.2, out := nocOut d.1 f.dest, gone := 0 }, true)
/-- Key of an output in the table of wheels. -/
def wheelKey (node out : Nat) : Nat := 256 * node + out
/-- One flit position of an output (R320). -/
def Noc.turn (n : Noc) (node out : Nat) : Noc :=
  let pos := Map.get n.wheel 0 (wheelKey node out)
  match nocWinner pos ((n.contend node out).filter n.credit) with
  | none => n
  | some f =>
    let p := f.pass
    { n with wheel := Map.set n.wheel (wheelKey node out) ((pos + 1) % 8)
             flights := if p.2 then removeFirst (fun g => g = f) n.flights ++ [p.1]
                        else replaceFirst (fun g => decide (g = f)) (fun _ => p.1) n.flights }
/-- One flit position at every output that a packet asks for. -/
def Noc.turnAll (n : Noc) : Noc :=
  ((n.flights.filter (fun f => decide (f.node ≠ nocHome))).map (fun f => (f.node, f.out))).eraseDups.foldl
    (fun n e => n.turn e.1 e.2) n.refresh
/-- The turn forecast of a head (R323). -/
def Noc.turnOf (n : Noc) (f : Flight) : Nat :=
  min 255 ((n.contend f.node f.out).filter (fun g => decide (f.inputNo < g.inputNo))).length
/-- The oldest head that waits in a node's network interface. -/
def Noc.niHead (n : Noc) (node : Nat) : Option Flight :=
  n.flights.find? (fun f => if node < 200 then decide (f.node = node ∧ f.rank = 0) else decide (f.node = nocSpine ∧ f.rank = node))
/-- The class that a packet has reached, which a lattice link keeps (R321). -/
def Noc.ageOf (n : Noc) (p : Pkt) : Nat :=
  ((n.flights.filter (fun f => decide (f.ref = .pkt p))).map (fun f => f.age)).foldl max p.age

/-- A flit position passes all over the NoC. -/
def State.nocTurn (s : State) : State :=
  if s.noc.flights.isEmpty && s.noc.refs.isEmpty then s else { s with noc := s.nocSync.turnAll }
/-- A tick of the 400 MHz clock reaches the routers (R321). -/
def State.nocTick (s : State) : State :=
  let n := if s.noc.flights.isEmpty && s.noc.refs.isEmpty then s.noc else s.nocSync
  { s with noc := { n with clk := (n.clk + 1) % 65536 } }

end Sys2Proof.Machine
end

