-- ==== Sys2Proof/Machine/Steps.lean ====
section
/-!
DEFINITION. The step family: fetch, gate, evaluate and write of a tile's steps, the sequencer operations, and the
commands of MAC slices and array banks (chapters 02 to 04). A command whose condition does not hold does not occur:
it leaves the state as it is (log entry 2).
-/
namespace Sys2Proof.Machine

/-! ### Fetch and gate (E1 to E4) -/

/-- STEP_FETCH: the next address is formed, no fetch is raised and the tile is not stopped (E1, R49). -/
def Tile.canFetch (t : Tile) : Bool := t.inEcyc && t.nextA.isSome && t.fetched.isNone && t.halt.isNone

/-- STEP_FETCH (R49, R77): the fetch request of the next step; `delayed` says that the pacer delayed it (R170). -/
def execStepFetch (l : TileId) (delayed : Bool) (s : State) : Out :=
  let t := s.tile l
  if t.canFetch then
    let t := { t with fetched := t.nextA, nextA := none }
    .next (s.setTile l (if delayed then t.countStall 11 else t))
  else .next s

/-- The gate may be tried: a fetched step, the previous write ended, the tile not stopped (E3). -/
def Tile.atGate (t : Tile) : Option Nat :=
  if t.inEcyc && t.halt.isNone && decide (t.stage = .none) then t.fetched else none

/-- Nothing holds the gate of step `a` (R50, R102). -/
def Tile.gateOpens (t : Tile) (a : Nat) : Bool :=
  t.awaitedWords a = 0 && (t.awaitedRes a).isEmpty && t.spill.isNone

/-- The operand phase of step `a` (E4): rows latched, windows filled (R41, R45). -/
def Tile.operandPhase (t : Tile) (a : Nat) : Tile :=
  let t := { t with stepNo := a, fetched := none, gateWait := false, waitWords := 0,
                    rows := (List.range 16).map (fun p => (p, t.rowRead a p)) }
  { t with stage := .operand, win := (List.range 16).map (fun p => (p, t.window a p)) }

/-- Hazards that the operand phase of step `a` shows (Table 5-13, ZERO_CURRENT, ZERO_RESULT, LAST_STEP_ZERO,
RETAIN_NEW). -/
def State.gateHazards (s : State) (l a : Nat) : State :=
  let t := s.tile l
  let tn := (s.ltile l).ten
  let it := (s.ltile l).itile
  let s := (List.range 16).foldl (fun s p =>
    let row := fld (t.ctrl a) (12 * p) 11
    let ran := decide (0 < Map.get t.execCnt 0 row)
    if bit (t.ctrl a) (12 * p + 11) = 1 then
      if ran && decide (t.enMask row p 2 ≠ 0) then s.hazard tn it 0x13 a p row t.ecyc else s
    else if !(ran && decide (t.enMask row p 8 ≠ 0)) then s.hazard tn it 0x10 a p row t.ecyc else s) s
  (List.range 16).foldl (fun s p => (List.range 64).foldl (fun s m =>
    let c := t.xcode a p m
    if decide (c < 0x400) && decide (t.exe = 0) then s.hazard tn it 0x12 a p m t.ecyc
    else if decide (0xC00 ≤ c) && decide (c < 0xE00) && !(Map.get t.res {} ((c - 0xC00) / 32)).named then
      s.hazard tn it 0x11 a ((c - 0xC00) / 32) (64 * p + m) t.ecyc
    else s) s) s

/-- Counts the waits of a gate that does not open, each class once for the step (R170, Table 5-10); of several registers or banks of
one class the first is the hazard occurrence (log entry 97). -/
def State.gateWaits (s : State) (l a : Nat) : State :=
  let t := s.tile l
  let s := if t.awaitedWords a ≠ 0 then s.stallAt l 0 a 0 0 else s
  let s := (t.awaitedRes a).foldl (fun s r =>
    let x := Map.get t.res {} r.1
    match r.2 with
    | .array => if x.bank ∈ t.corrBanks then s.stallAt l 9 a 0 0 else s.stallAt l 1 a r.1 x.step
    | .mac => s.stallAt l 2 a r.1 x.step
    | .deep => s.stallAt l 3 a r.1 x.step) s
  let s := if t.spill.isSome then s.stallAt l 4 a 0 0 else s
  s.updTile l (fun v => { v with gateWait := true, waitWords := t.awaitedWords a })

/-- STEP_GATE (R49, R50): the operand phase, or one more wait at the gate. -/
def execStepGate (l : TileId) (s : State) : Out :=
  let t := s.tile l
  match t.atGate with
  | none => .next s
  | some a =>
    if t.gateOpens a then .next ((s.gateHazards l a).updTile l (fun v => v.operandPhase a))
    else .next (s.gateWaits l a)

/-! ### Evaluate (E5) -/

/-- The BPs of step `a` that carry a MAC command word, ascending. -/
def Tile.macWords (t : Tile) (a : Nat) : List Nat := (List.range 1024).filter (fun b => decide (bit (t.word a b) 4 = 1))
/-- The BPs of step `a` that carry an array command word, ascending. -/
def Tile.arrWords (t : Tile) (a : Nat) : List Nat := (List.range 1024).filter (fun b => decide (bit (t.word a b) 3 = 1))
/-- The BPs among `l` whose command addresses bank `p` of the tile. -/
def Tile.bankWords (t : Tile) (a p : Nat) (l : List Nat) : List Nat :=
  l.filter (fun b => decide (b / 64 = p) && decide (fld (t.word a b) 53 3 < 4))
/-- The BPs among `l` whose command addresses a deep memory. -/
def Tile.deepWords (t : Tile) (a : Nat) (l : List Nat) : List Nat := l.filter (fun b => decide (4 ≤ fld (t.word a b) 53 3))

/-- Banks whose queue cannot take the step's commands (R139); an empty queue starts to take any number of them (log
entry 8). -/
def Tile.fullBanks (t : Tile) (a : Nat) : List Nat :=
  (List.range 16).filter (fun p =>
    let q := (Map.get t.bankQ [] p).length
    let n := (t.bankWords a p (t.arrWords a)).length
    decide (0 < q) && decide (0 < n) && decide (8 < q + n))
/-- Slices whose input stage still holds its last command while the step has one for them (R130): `held` says which input stages
do, which only a slice that is late past its input stage cycle makes one do. -/
def Tile.busySlices (t : Tile) (a : Nat) (held : BitVec 16) : List Nat :=
  (List.range 16).filter (fun p =>
    held.getLsbD p && !(Map.get t.macQ [] p).isEmpty && (t.macWords a).any (fun b => decide (b / 64 = p)))
/-- The step's deep commands would exceed 32 between issue and completion (R150). -/
def Tile.deepFull (t : Tile) (a : Nat) : Bool :=
  let n := (t.deepWords a (t.arrWords a)).length
  decide (0 < t.deepOut) && decide (0 < n) && decide (32 < t.deepOut + n)

/-- Nothing holds the evaluate phase (R130, R139, R150). -/
def Tile.evalReady (t : Tile) (a : Nat) (held : BitVec 16) : Bool :=
  (t.fullBanks a).isEmpty && (t.busySlices a held).isEmpty && !t.deepFull a

/-- The MAC command of BP `b` at step `a` (Table 4-2). -/
def Tile.macOf (t : Tile) (a b ident : Nat) : MacCmd :=
  let w := t.word a b
  let win := Map.get t.win 0 (b / 64)
  { exe := t.exe, step := a, bp := b, op := fld w 53 3, prod := macProd w win
    en := enabled (bit w 38 = 1) win (fld w 32 6)
    rd := fld w 28 4, rdv := bit w 27 = 1, rhi := bit w 26 = 1, ident := ident }

/-- The array command of BP `b` at step `a` (Table 4-5, R135). -/
def Tile.arrOf (t : Tile) (a b ident : Nat) : ArrCmd :=
  let w := t.word a b
  let win := Map.get t.win 0 (b / 64)
  { exe := t.exe, step := a, bp := b, op := fld w 53 3
    addr := (fld w 39 13 ||| fld win.toNat (fld w 29 6) (fld w 35 4)) % 8192, lane := bit w 52
    data := laneOf win (bit w 28)
    en := enabled (bit w 27 = 1) win (fld w 21 6)
    rd := fld w 17 4, rdv := bit w 16 = 1, ident := ident }

/-- The deep command of BP `b` at step `a` (Table 4-10). -/
def Tile.deepOf (t : Tile) (a b ident ten itile : Nat) : DeepCmd :=
  let w := t.word a b
  let win := Map.get t.win 0 (b / 64)
  { ten := ten, itile := itile, memid := fld w 46 6, ecyc := t.ecyc, step := a, bp := b, op := fld w 53 3 - 4
    addr := fld win.toNat (fld w 35 6) (fld w 41 5), lane := bit w 52
    data := laneOf win (bit w 34)
    en := enabled (bit w 33 = 1) win (fld w 27 6)
    rd := fld w 23 4, rdv := bit w 22 = 1, ident := ident }

/-- Issues the MAC command of BP `b`. -/
def Tile.issueMac (t : Tile) (a b : Nat) : Tile :=
  let c := t.macOf a b (t.ident + 1)
  let p := b / 64
  let t := { t with ident := t.ident + 1, macQ := Map.set t.macQ p (Map.get t.macQ [] p ++ [c]) }
  if c.rdv then t.nameRes c.rd c.ident p .mac a else t

/-- Issues the array command of BP `b` to its own bank. -/
def Tile.issueArr (t : Tile) (a b : Nat) : Tile :=
  let c := t.arrOf a b (t.ident + 1)
  let p := b / 64
  let t := { t with ident := t.ident + 1, bankQ := Map.set t.bankQ p (Map.get t.bankQ [] p ++ [c]) }
  if c.rdv then t.nameRes c.rd c.ident p .array a else t

/-- Issues the deep command of BP `b`: the tile counts it, and the request leaves for the hub (R150). -/
def State.issueDeep (s : State) (l a b : Nat) : State :=
  let t := s.tile l
  let c := t.deepOf a b (t.ident + 1) (s.ltile l).ten (s.ltile l).itile
  let t := { t with ident := t.ident + 1, deepOut := t.deepOut + 1 }
  let s := s.setTile l (if c.rdv then t.nameRes c.rd c.ident 0 .deep a else t)
  { s with noc := { s.noc with deepReq := s.noc.deepReq ++ [c] } }

/-- The evaluate phase of the step in hand: outputs, then the commands in ascending BP order (R83, R138). A tile that
has stopped at its handshake issues no command (R497). -/
def State.evaluate (s : State) (l : Nat) : State :=
  let t := s.tile l
  let a := t.stepNo
  let s := s.setTile l { t with outs := t.evalAll a, stage := .evaluated }
  if t.halt.isSome then s
  else
    let s := (t.macWords a).foldl (fun s b => s.updTile l (fun v => v.issueMac a b)) s
    (t.arrWords a).foldl (fun s b =>
      if fld (t.word a b) 53 3 < 4 then s.updTile l (fun v => v.issueArr a b) else s.issueDeep l a b) s

/-- Counts the waits of an evaluate phase that cannot begin (R170): a MACIN wait is also a timing fault of the tile
(Table 5-9, Table 7-5). -/
def State.evalWaits (s : State) (l : Nat) (held : BitVec 16) : State :=
  let t := s.tile l
  let a := t.stepNo
  let s := (t.fullBanks a).foldl (fun s p =>
    if p ∈ t.corrBanks then s.stallAt l 9 a 0 0
    else s.stallAt l 5 a p ((t.bankWords a p (t.arrWords a)).head?.getD 0)) s
  let s := if t.deepFull a then
      let b := (t.deepWords a (t.arrWords a)).head?.getD 0
      s.stallAt l 7 a (fld (t.word a b) 46 6) b
    else s
  match (t.busySlices a held).head? with
  | none => s
  | some p =>
    if 6 ∈ t.waited then s
    else
      let b := ((t.macWords a).find? (fun b => decide (b / 64 = p))).getD 0
      let s := s.stallAt l 6 a p b
      (s.report 0x0103 clsMasked (s.ptile l) (some (s.ltile l).ten) p).tileTransient (s.ltile l).ten l 3

/-- STEP_EVALUATE (R40, R87, R139): the evaluate phase, or one more wait for its queues. -/
def execStepEvaluate (l : TileId) (held : BitVec 16) (s : State) : Out :=
  let t := s.tile l
  if t.stage = .sequenced then
    if t.halt.isSome || t.evalReady t.stepNo held then .next (s.evaluate l)
    else .next (s.evalWaits l held)
  else .next s

/-! ### Write (E6) -/

/-- The send-table entries of step `a`, in entry order (R116). -/
def Tile.sendsOf (t : Tile) (a : Nat) : List Nat :=
  (t.prog.sends.map BitVec.toNat).filter (fun e => decide (fld e 0 11 = a))

/-- The slot that a send-table entry places (R58, R116, R117): the row is read after the write phase. A slot to another module should
carry the destination tile's epoch (Table 10-6), which nothing gives this module: it carries the sending tile's (log entry 94). -/
def State.slotOf (s : State) (l e : Nat) : Slot :=
  let t := s.tile l
  let row := 2048 * fld e 11 4 + fld e 16 11
  let ten := (s.ltile l).ten
  let dst := fld e 27 8
  let dl := if bit e 47 = 1 then l else (s.tileOf ten dst).getD l
  { ten := ten, src := (s.ltile l).itile, dst := dst, word := fld e 35 4
    occ := fld e 39 8 + Map.get t.execCnt 0 t.stepNo, ecyc := t.ecyc, epoch := (s.remap dl).epoch
    data := if bit e 15 = 1 then Map.get t.ret 0 row else Map.get t.cur 0 row
    remote := bit e 47 = 1, dmod := fld e 48 8 }

/-- The tap numbers that a BP at a step feeds (Table 6-1, R178). -/
def tapNumbers (recs : List DWord) (a b : Nat) : List Nat :=
  (recs.map BitVec.toNat).filterMap (fun r =>
    if fld r 0 11 = a ∧ fld r 11 10 = b ∧ fld r 21 11 = 0 ∧ fld r 44 20 = 0 then some (fld r 32 12) else none)

/-- The image tile of the source whose send table feeds an arrival word of an image tile on this module (R59). -/
def Image.sourceOf (i : Image) (dst w : Nat) : Option Nat :=
  (i.tiles.find? (fun e => e.2.prog.sends.any (fun d =>
    let v := d.toNat
    decide (bit v 47 = 0 ∧ fld v 27 8 = dst ∧ fld v 35 4 = w)))).map (fun e => e.1)

/-- Releases arrival word `w`, its credit on the way to the source (R61). -/
def State.releaseWord (s : State) (l w : Nat) : State :=
  let t := s.tile l
  let a := t.arrWord w
  let k := 16 * (t.ecyc % 2) + w
  let s := s.setTile l { t with arrive := Map.set t.arrive k { a with full := false, released := a.released + 1 } }
  let ten := (s.ltile l).ten
  match (s.ten ten).img.bind (fun i => i.sourceOf (s.ltile l).itile w) with
  | some src =>
    let c : Credit := { ten := ten, src := src, dst := (s.ltile l).itile, word := w, occ := a.released + 1, ecyc := t.ecyc }
    { s with noc := { s.noc with credits := s.noc.credits ++ [c] } }
  | none => s

/-- The write phase of the step in hand (R44, R61, R84, R116). Of a stopped tile, slots enter the send queue only where
it has room (R497). -/
def State.writePhase (s : State) (l : Nat) : State :=
  let t := s.tile l
  let a := t.stepNo
  let recs := match (s.ten (s.ltile l).ten).img with
    | some i => (Map.get i.tiles {} (s.ltile l).itile).taps
    | none => []
  let taps := (t.tapsOf a).flatMap (fun e => if e.2 then tapNumbers recs a e.1 else [])
  let s := s.setTile l { t.writeRows a 16 with lastOut := t.outs, taps := t.taps ++ taps }
  let slots := (t.sendsOf a).map (fun e => s.slotOf l e)
  let put := if t.halt.isSome then slots.take (16 - t.sendQ.length) else slots
  let s := s.updTile l (fun v => { v with sendQ := v.sendQ ++ put })
  let s := (List.range 16).foldl (fun s w => if (fld (t.ctrl a) 192 16).testBit w then s.releaseWord l w else s) s
  s.updTile l (fun v => { v with
    stage := .none, exe := v.exe + 1, waited := []
    ran := Map.set v.ran (s.ltile l).ten (Map.get v.ran 0 (s.ltile l).ten + 1)
    execCnt := Map.set v.execCnt a (Map.get v.execCnt 0 a + 1) })

/-- The send queue has room for every slot of the step (Table 2-3); an empty queue takes any number of them (log
entry 8). -/
def Tile.sendRoom (t : Tile) : Bool :=
  t.sendQ.isEmpty || decide (t.sendQ.length + (t.sendsOf t.stepNo).length ≤ 16)

/-- STEP_WRITE (R44): the write phase, or one more wait for the send queue. -/
def execStepWrite (l : TileId) (s : State) : Out :=
  let t := s.tile l
  if t.stage = .evaluated then
    if t.halt.isSome || t.sendRoom then .next (s.writePhase l)
    else .next (s.stallAt l 8 t.stepNo 0 0)
  else .next s

/-! ### Sequencer operations (Table 3-6) -/

/-- One sequencer operation of the step in the operand phase; a double fault reaches the fault manager (R112). -/
def State.seqOp (s : State) (l op : Nat) (f : Tile → Tile) : State :=
  let t := s.tile l
  if t.stage = .operand ∧ t.op t.stepNo = op then
    let u := f t
    let s := s.setTile l { u with stage := .sequenced }
    if u.dfault && !t.dfault then s.doubleFault (s.ltile l).ten l else s
  else s

def execSeqNext (l : TileId) (e : SeqFind) (s : State) : Out := .next (s.seqOp l 0 (fun t => t.seqNext e))
def execSeqEnd (l : TileId) (e : SeqFind) (s : State) : Out := .next (s.seqOp l 1 (fun t => t.seqEnd e))
def execSeqJump (l : TileId) (s : State) : Out := .next (s.seqOp l 2 Tile.seqJump)
def execSeqLoop (l : TileId) (e : SeqFind) (s : State) : Out := .next (s.seqOp l 3 (fun t => t.seqLoop e))
def execSeqCall (l : TileId) (e : SeqFind) (s : State) : Out := .next (s.seqOp l 4 (fun t => t.seqCall e))
def execSeqRet (l : TileId) (e : SeqFind) (s : State) : Out := .next (s.seqOp l 5 (fun t => t.seqRet e))
/-- SEQ_TRAP (R106): the trap event of a condition that holds waits to be delivered with the tile's taps (R179). -/
def execSeqTrap (l : TileId) (e : SeqFind) (s : State) : Out :=
  .next (s.seqOp l 6 (fun t => { t.seqTrap e with trapEv := t.trapEv ++ t.trapEvent.toList }))
def execSeqRetx (l : TileId) (e : SeqFind) (s : State) : Out := .next (s.seqOp l 7 (fun t => t.seqRetx e))

/-- A correction on a read of bank `p`: counted, and the commands that wait in its queue wait for the write-back (R140, R143). -/
def Tile.corrected (t : Tile) (p waiting : Nat) : Tile :=
  let t := t.countCe p
  if waiting < (Map.get t.bankQ [] p).length then { t with corrBanks := p :: t.corrBanks } else t

/-- STACK_SPILL_ACCESS (R102, R107): the spill write or fill read under way completes. A fill whose word fails PAR or is uncorrectable
raises PARITY. An error of three or more bits is found, miscorrected or not found, as the hardware gives (R141). -/
def execStackSpillAccess (l : TileId) (err : ErrFound) (parFails spBad : Bool) (s : State) : Out :=
  let t := s.tile l
  match t.spill with
  | none => .next s
  | some sp =>
    let w := t.spillWord sp.word
    let fin := fun (s : State) (u : Tile) =>
      let s := s.setTile l u
      if u.dfault && !t.dfault then s.doubleFault (s.ltile l).ten l else s
    if !sp.fill then .next (fin s (t.spillDone sp))
    else
      match err with
      | .clean => .next (fin s (t.fillDone sp w parFails spBad))
      | .single => .next (fin s ((t.corrected 15 0).fillDone sp w parFails spBad))
      | .double => .next (fin s ((t.setUe 15 1).fillDone sp w true spBad))
      | .multi =>
        let r := s.freshNat
        if r.1 % 3 = 0 then .next (fin r.2 ((t.setUe 15 1).fillDone sp w true spBad))
        else
          let v := r.2.freshDWord
          let u := if r.1 % 3 = 1 then t.corrected 15 0 else t
          .next (fin v.2 (({ u with banks := Map.set t.banks (8192 * 15 + sp.word) v.1 }).fillDone sp v.1 parFails spBad))

/-! ### MAC commands (Table 4-3) -/

/-- Performs the oldest command of slice `p` if it is `op`: a CAS after slice p − 1's command of the same step, and no
command before an older CAS of slice p + 1 has taken its cascade (R125 to R127). -/
def Tile.macReady (t : Tile) (p op : Nat) : Option MacCmd :=
  match Map.get t.macQ [] p with
  | [] => none
  | c :: _ =>
    let below := if p = 0 then [] else Map.get t.macQ [] (p - 1)
    let above := Map.get t.macQ [] (p + 1)
    if c.op = op && (op != 3 || below.all (fun d => decide (c.exe < d.exe))) &&
        above.all (fun d => decide (d.op ≠ 3) || decide (c.exe ≤ d.exe)) then some c
    else none

/-- The effect of a MAC command of slice `p`: ACC, and the half delivered. -/
def Tile.macDo (t : Tile) (p : Nat) (c : MacCmd) : Tile :=
  let acc := macAcc c (Map.get t.acc 0 p) (if p = 0 then 0 else Map.get t.acc 0 (p - 1))
  let t := { t with acc := Map.set t.acc p acc, macQ := Map.set t.macQ p (Map.get t.macQ [] p).tail }
  if c.rdv then t.deliver c.rd c.ident (macHalf c acc) else t

/-- A slice performs its oldest command, if that is `op` and may run. -/
def State.macOp (s : State) (l p op : Nat) : State :=
  match (s.tile l).macReady p op with
  | some c => s.setTile l ((s.tile l).macDo p c)
  | none => s

def execMacMul (l : TileId) (p : Lane16) (s : State) : Out := .next (s.macOp l p 0)
def execMacMac (l : TileId) (p : Lane16) (s : State) : Out := .next (s.macOp l p 1)
def execMacMsub (l : TileId) (p : Lane16) (s : State) : Out := .next (s.macOp l p 2)
def execMacCas (l : TileId) (p : Lane16) (s : State) : Out := .next (s.macOp l p 3)
def execMacRead (l : TileId) (p : Lane16) (s : State) : Out := .next (s.macOp l p 4)

/-! ### Array commands (Table 4-6) -/

/-- Performs an array command whose addressed lane reads as `old` (R135 to R138). -/
def Tile.arrDo (t : Tile) (p : Nat) (c : ArrCmd) (old : Word) : Tile :=
  let k := 8192 * p + c.addr
  let w := putLane (Map.get t.banks 0 k) c.lane (laneAfter c.op old c.data c.en)
  let q := (Map.get t.bankQ [] p).tail
  let t := { t with
    banks := Map.set t.banks k w, bankQ := Map.set t.bankQ p q
    corrBanks := if q.isEmpty then t.corrBanks.filter (fun b => decide (b ≠ p)) else t.corrBanks }
  if c.rdv then t.deliver c.rd c.ident old else t

/-- The command finds a double-bit error: it delivers nothing and writes nothing, and the tile stops (R144). -/
def State.arrUe (s : State) (l p : Nat) (c : ArrCmd) : State :=
  let t := s.tile l
  let t := ({ t with bankQ := Map.set t.bankQ p (Map.get t.bankQ [] p).tail }).setUe p 0
  ((s.setTile l t).updTile l (fun v => v.stopAt .arrayUe)).arrayUe (s.ltile l).ten l p c.addr

/-- A spill write or fill read waits for the port of bank `p`, ahead of its command queue (rank 2 of Table 4-7). -/
def Tile.spillFirst (t : Tile) (p : Nat) : Bool := decide (p = 15) && t.spill.isSome
/-- Bank `p` performs the head of its queue, if that is `op` and no client of a higher rank waits (R140). -/
def State.arrOp (s : State) (l p op : Nat) (err : ErrFound) : State :=
  let t := s.tile l
  match Map.get t.bankQ [] p with
  | [] => s
  | c :: _ =>
    if c.op = op ∧ t.spillFirst p = false then
      let old := laneOf (Map.get t.banks 0 (8192 * p + c.addr)) c.lane
      if !c.reads then s.setTile l (t.arrDo p c old)
      else
        match err with
        | .clean => s.setTile l (t.arrDo p c old)
        | .single => s.setTile l ((t.corrected p 1).arrDo p c old)
        | .double => s.arrUe l p c
        | .multi =>
          let r := s.freshNat
          if r.1 % 3 = 0 then r.2.arrUe l p c
          else
            let v := r.2.freshDWord
            v.2.setTile l ((if r.1 % 3 = 1 then t.corrected p 1 else t).arrDo p c (laneOf v.1 0))
    else s

def execArrayRead (l : TileId) (p : Lane16) (err : ErrFound) (s : State) : Out := .next (s.arrOp l p 0 err)
def execArrayWrite (l : TileId) (p : Lane16) (err : ErrFound) (s : State) : Out := .next (s.arrOp l p 1 err)
def execArraySet (l : TileId) (p : Lane16) (err : ErrFound) (s : State) : Out := .next (s.arrOp l p 2 err)
def execArrayClear (l : TileId) (p : Lane16) (err : ErrFound) (s : State) : Out := .next (s.arrOp l p 3 err)

/-- ARRAY_SCRUB (R140, R145): in a bank cycle that no other client wants, the scrubber reads the next word of a bank, corrects it, or
finds it uncorrectable; in an ecycle the bank has had its cycle. -/
def execArrayScrub (l : TileId) (p : Lane16) (err : ErrFound) (s : State) : Out :=
  let t := s.tile l
  let a := Map.get t.scrubAt 0 p
  let t' := { t with scrubAt := Map.set t.scrubAt p ((a + 1) % 8192), scrubbed := if t.inEcyc then addCause p.val t.scrubbed else t.scrubbed }
  let ue := fun (s : State) => (s.setTile l (t'.setUe p 3)).arrayUe (s.ltile l).ten l p a
  if !t.hasImg || !(s.ltile l).bound || !(Map.get t.bankQ [] p).isEmpty || t.spillFirst p then .next s else
  match err with
  | .clean => .next (s.setTile l t')
  | .single => .next (s.setTile l (t'.countCe p))
  | .double => .next (ue s)
  | .multi =>
    let r := s.freshNat
    if r.1 % 3 = 0 then .next (ue r.2)
    else if r.1 % 3 = 1 then
      let v := r.2.freshDWord
      .next (v.2.setTile l { t'.countCe p with banks := Map.set t'.banks (8192 * p + a) v.1 })
    else
      let v := r.2.freshDWord
      .next (v.2.setTile l { t' with banks := Map.set t'.banks (8192 * p + a) v.1 })

end Sys2Proof.Machine
end

