-- ==== Sys2Proof/Machine/Exchange.lean ====
section
/-!
DEFINITION. Exchange slots and credits between tiles (R58 to R64, R221, R324) and the delivery of taps and trap events
to the trigger unit (R178, R179).
-/
namespace Sys2Proof.Machine

/-- The link a remote slot of an image tile crosses (R496): links to DMOD in table order, number DTILE mod N. -/
def Image.linkFor (i : Image) (dmod dtile : Nat) : Option Nat :=
  let ls := i.links.filter (fun e => decide (e.frm = i.me ∧ e.dst = dmod))
  (ls[dtile % ls.length]?).map (fun e => e.link)

/-- The credit a local slot needs (R60). -/
def slotCredit (p : Slot) : Credit :=
  { ten := p.ten, src := p.src, dst := p.dst, word := p.word, occ := p.occ, ecyc := p.ecyc }

/-- Slot `i` of the send queue may leave: a local slot holds its credit; a remote slot is the first of the queue for its
link (R63, R284). A stopped tile's queue stands (R497). -/
def State.mayDepart (s : State) (l i : Nat) : Option Slot :=
  let t := s.tile l
  match t.sendQ[i]? with
  | none => none
  | some p =>
    if t.halt.isSome then none
    else if p.remote then
      match (s.ten p.ten).img with
      | some im =>
        if (t.sendQ.take i).any (fun q => q.remote && im.linkFor q.dmod q.dst == im.linkFor p.dmod p.dst) then none
        else some p
      | none => none
    else if t.credits.contains (slotCredit p) then some p
    else none

/-- The credit of a local slot can no longer come: its destination tile has ended the slot's ecycle, and the credit is neither
held nor on its way (R60, R61, R64; log entry 80). -/
def State.creditLost (s : State) (l : Nat) (p : Slot) : Bool :=
  let c := slotCredit p
  !p.remote && !(s.tile l).credits.contains c && !s.noc.credits.contains c &&
    (s.tileOf p.ten p.dst).any (fun d => decide (p.ecyc < (s.tile d).endedCount))

/-- SEND_SLOT_DEPART (R63): a slot leaves for its destination tile, using its credit, or for its lattice link. One whose credit can
no longer come is discarded. -/
def execSendSlotDepart (l : TileId) (i : Nat) (s : State) : Out :=
  match s.mayDepart l i with
  | none =>
    if (s.tile l).halt.isNone && ((s.tile l).sendQ[i]?).any (s.creditLost l) then
      .next (s.updTile l (fun t => { t with sendQ := t.sendQ.eraseIdx i }))
    else .next s
  | some p =>
    let s := s.updTile l (fun t => { t with
      sendQ := t.sendQ.eraseIdx i
      credits := if p.remote then t.credits else removeFirst (fun c => c = (slotCredit p)) t.credits })
    if p.remote then
      match (s.ten p.ten).img.bind (fun im => im.linkFor p.dmod p.dst) with
      | some k => .next { s with lat := { s.lat with slotOut := s.lat.slotOut ++ [(k, p)] } }
      | none => .next s
    else .next { s with noc := { s.noc with slots := s.noc.slots ++ [p] } }

/-- A packet dropped under R221. -/
def State.dropPkt (s : State) : State := { s with fm := { s.fm with dropped := satInc s.fm.dropped 0xFFFFFFFF } }

/-- What becomes of a slot at its destination tile. -/
inductive SlotFate where
  | dropped | late | entered | pathFault
deriving DecidableEq, Repr

/-- The fate of an undamaged slot (R60, R64, R221). -/
def State.slotFate (s : State) (l : Nat) (p : Slot) : SlotFate :=
  let t := s.tile l
  let below := match (s.ten p.ten).recov with | some r => decide (p.ecyc < r.k) | none => false
  if p.epoch ≠ (s.remap l).epoch ∨ below = true then .dropped
  else if p.ecyc < t.endedCount then .late
  else
    let a := Map.get t.arrive {} (16 * (p.ecyc % 2) + p.word)
    if p.ecyc ≤ t.endedCount + 1 ∧ a.full = false ∧ a.entered = p.occ then .entered else .pathFault

/-- SLOT_ARRIVE (R60, R64): a slot enters its arrival word, is discarded as late, is dropped with its epoch, or is a
path fault. A damaged packet is a path fault (R324). A slot behind another of its way waits (R315). -/
def execSlotArrive (p : Slot) (damaged : Bool) (s : State) : Out :=
  if comesFirst slotWay p s.noc.slots = false then .next s else
  let s := { s with noc := { s.noc with slots := removeFirst (fun q => q = p) s.noc.slots } }
  match s.tileOf p.ten p.dst with
  | none => .next s.dropPkt
  | some l =>
    if damaged then
      .next (({ s with noc := { s.noc with damaged := satInc s.noc.damaged 0xFFFF } }).pathFault p.ten l p.ecyc)
    else
      match s.slotFate l p with
      | .dropped => .next s.dropPkt
      | .late => .next (s.hazard p.ten p.dst 0x14 (s.tile l).stepNo p.word p.occ p.ecyc)
      | .entered =>
        let t := s.tile l
        let k := 16 * (p.ecyc % 2) + p.word
        let a := Map.get t.arrive {} k
        let a' := { a with full := true, data := p.data, entered := a.entered + 1 }
        .next (s.setTile l { t with arrive := Map.set t.arrive k a' })
      | .pathFault => .next (s.pathFault p.ten l p.ecyc)

/-- CREDIT_ARRIVE (R60, R315): the credit for the next occupant of a word reaches its source tile. -/
def execCreditArrive (ten : TenId) (src dst : TileId) (word : Lane16) (occ : Nat) (ecyc : Nat) (s : State) : Out :=
  let c : Credit := { ten := ten, src := src, dst := dst, word := word, occ := occ, ecyc := ecyc }
  if comesFirst creditWay c s.noc.credits = false then .next s else
  let s := { s with noc := { s.noc with credits := removeFirst (fun d => d = c) s.noc.credits } }
  match s.tileOf ten src with
  | some l => .next (s.updTile l (fun t => { t with credits := t.credits ++ [c] }))
  | none => .next s.dropPkt

/-- The tenant's ecycles count as replayed: no tap, record or trace of them (outcome M, R201). -/
def Tenant.replaying (t : Tenant) : Bool := match t.recov with | some r => decide (r.phase = .replay) | none => false

/-- TAPS_PACKET (R178, R179): the tile's tap deliveries join the tap vector of its ecycle; those of a replayed ecycle
are not received (outcome M). -/
def execTapsPacket (l : TileId) (s : State) : Out :=
  let t := s.tile l
  let tn := (s.ltile l).ten
  let s := s.setTile l { t with taps := [] }
  if (s.ten tn).replaying then .next s
  else .next (s.updTen tn (fun v =>
    let k := t.ecyc % 2
    let vec := t.taps.foldl (fun x n => x ||| BitVec.ofNat 4096 (2 ^ n)) (Map.get v.tapVec 0 k)
    { v with tapVec := Map.set v.tapVec k vec }))

/-- TRAP_EVT (R106, R179): the tile's trap events reach the trigger unit. -/
def execTrapEvt (l : TileId) (s : State) : Out :=
  let t := s.tile l
  let tn := (s.ltile l).ten
  let s := s.setTile l { t with trapEv := [] }
  if (s.ten tn).replaying then .next s
  else .next (s.updTen tn (fun v =>
    { v with trapCodes := Map.set v.trapCodes (t.ecyc % 2) (Map.get v.trapCodes [] (t.ecyc % 2) ++ t.trapEv) }))

end Sys2Proof.Machine
end

