-- ==== Sys2Proof/Machine/HostOps.lean ====
section
/-!
DEFINITION. The host interface's shared operations (chapter 12): functions, rings, the tenant regions of the deep store
with their carved areas (R233, R234, R499), ports, and the reset of a function's rings (R348, R363).
-/
namespace Sys2Proof.Machine

/-! ### Regions of the deep store -/

/-- Bytes of the deep memories that this module holds for an image (R160). -/
def Image.memRanges (i : Image) : List (Nat × Nat) :=
  (i.deep.filter (fun e => decide (e.ownerMod = i.me))).map (fun e => (e.base, 8 * 2 ^ e.k))
/-- Bytes of a section of payload `n` in a capture record (R155, R208). -/
def secBytes (n : Nat) : Nat := roundUp (32 + roundUp n 64) 64
/-- Bytes of a capture slot for `n` tiles: the largest capture, FAULT contents and every array word listed as bad
(log entry 13). -/
def captureSlot (n : Nat) : Nat :=
  128 + n * (2 * secBytes 262144 + secBytes 1048576 + 2 * secBytes 128) + secBytes (8 * n * 131072) + secBytes 392
/-- A range overlaps what WRITE_DEEP may not touch of a loaded tenant (R351). -/
def State.protectedRange (s : State) (t off len : Nat) : Bool :=
  match (s.ten t).img with
  | none => false
  | some i =>
    let n := (s.ten t).ntiles
    overlaps off len i.off i.len || i.memRanges.any (fun m => overlaps off len m.1 m.2) || s.inCarved t n off len ||
      overlaps off len (s.ten t).capOff ((s.ten t).capSlots * captureSlot n)
/-- An access outside the region: it is refused and recorded (R329). -/
def State.regionFault (s : State) (t off : Nat) : State := s.report 0x0604 clsEvent 0 (some t) off

/-- A byte range of the deep store holds a poisoned line (R333). -/
def State.rangePoisoned (s : State) (a n : Nat) : Bool := s.noc.dsPoison.any (fun l => overlaps (64 * l) 64 a n)

/-! ### Functions and descriptors -/

/-- The function exists and its page answers. -/
def State.fnUp (s : State) (fn : Nat) : Bool := s.dev.mode.configured && s.fnExists fn
/-- Exponent n of a submission ring (R344). -/
def State.sqLog2 (s : State) (fn r : Nat) : Nat := fld (s.freg fn (0x108 + 0x20 * r)) 4 5
/-- Exponent n of a completion ring. -/
def State.cqLog2 (s : State) (fn r : Nat) : Nat := fld (s.freg fn (0x208 + 0x20 * r)) 4 5
/-- A refused doorbell or head write (R345, R347). -/
def State.doorbellBad (s : State) (fn r cq : Nat) (v : Word) : State :=
  (s.raiseFnStat fn (r + 8 * cq)).report 0x0501 clsEvent fn (some fn) (fn + 256 * r + 2048 * cq + 2 ^ 32 * v.toNat)
/-- LOG2 as stored (Table 12-4). -/
def clampLog2 (v : Nat) : Nat := max 6 (min 16 v)

/-- The target tenant of a descriptor: TENANT on the PF, the function's own tenant on a VF (Table 12-6). -/
def target (d : DRef) (ten : Nat) : Nat := if d.fn.val = 0 then ten else d.fn.val

/-- The checks every started descriptor passes (R350): its function is up, a PF-only opcode comes from the PF, and an
opcode refused in SAFE is not carried out there. -/
def State.takeUp (s : State) (d : DRef) (opc : Nat) (pfOnly safeRefused : Bool) (k : State → State) : Out :=
  if !s.fnUp d.fn then .next s
  else if pfOnly && decide (d.fn.val ≠ 0) then .next (s.complete d opc stNotAdmin 0 0)
  else if safeRefused && decide (s.dev.mode = .safe) then .next (s.complete d opc stBadMode 0 0)
  else .next (k s)

/-! ### Ports (R357) -/

/-- The DEEP_MEM entry of a memory that this module holds. -/
def Image.mem (i : Image) (memid : Nat) : Option DeepEnt := i.deep.find? (fun e => decide (e.memid = memid))
def State.port (s : State) (t p : Nat) : Option Port := ((s.ten t).ports.find? (fun e => decide (e.1 = p))).map (fun e => e.2)
/-- The tenant runs no ecycle. -/
def State.runsNone (s : State) (t : Nat) : Bool := !(s.ten t).run.advancing && s.noEcycle t

/-- A MSG_OUT completion (Table 12-10). -/
def msgOutBody (port : Nat) (d : DRef) (e sq len written : Nat) : CplBody :=
  .raw (leBytes port 2 ++ leBytes d.tag.toNat 2 ++ leBytes d.dseq.toNat 8 ++ leBytes e 8 ++ leBytes sq 2 ++ leBytes len 2
    ++ leBytes written 2 ++ zeros 2)
/-- Completes a MSG_OUT descriptor. -/
def State.completeOut (s : State) (d : DRef) (status port e sq len written : Nat) : State :=
  (s.postFor d 0x02 status (msgOutBody port d e sq len written)).retire d

/-- Every port of the tenant is unbound, with the descriptors that wait on one completing ABORTED and its unreleased
messages dropped (log entry 14). -/
def State.dropPorts (s : State) (t : Nat) : State :=
  let bufs := s.host.bufs.filter (fun b => decide (b.ten = t))
  let ins := s.host.ins.filter (fun b => decide (b.ten = t))
  let binds := (s.ten t).binds
  let s := { s with host := { s.host with
    bufs := s.host.bufs.filter (fun b => decide (b.ten ≠ t))
    ins := s.host.ins.filter (fun b => decide (b.ten ≠ t))
    msgs := s.host.msgs.filter (fun b => decide (b.ten ≠ t)) } }
  let s := bufs.foldl (fun s b => s.completeOut b.ref stAborted b.port 0 0 0 0) s
  let s := ins.foldl (fun s b => s.complete b.ref 0x21 stAborted 0 0) s
  let s := binds.foldl (fun s b => s.complete b.cmd 0x20 stAborted 0 0) s
  s.updTen t (fun v => { v with ports := [], binds := [], msgMark := [], outSeq := [], gone := [] })

/-! ### Disabling rings (R348, R363) -/

def State.setCtlEnable (s : State) (fn off : Nat) (en : Bool) : State :=
  s.setFreg fn off (setFld (s.freg fn off) 0 1 (b2n en))

/-- A submission ring stops fetching; what it has fetched goes on. -/
def State.disableSq (s : State) (fn r : Nat) : State :=
  (s.setSq fn r { s.sq fn r with en := false }).setCtlEnable fn (0x108 + 0x20 * r) false

/-- A completion ring is disabled: its waiting completions are lost, the descriptors in progress on it lose theirs, and
MSG_OUT buffers of ports bound to it are dropped without completion. Messages stay in their flow without a buffer. -/
def State.disableCq (s : State) (fn r : Nat) : State :=
  let lost := s.host.cpls.filter (fun c => decide (c.fn = fn ∧ c.cq = r))
  let bufs := s.host.bufs.filter (fun b => decide (b.ten = fn) &&
    (s.port b.ten b.port).any (fun p => decide (p.cq = r)))
  let used := s.host.msgs.filterMap (fun m => if m.ten = fn ∧ m.cq = r then m.done.map (fun x => x.1.ref) else none)
  let prog := ((List.range 8).flatMap (fun q => (s.sq fn q).prog)).filter (fun d => decide (d.cq.val = r))
  let s := (s.setCq fn r { s.cq fn r with en := false, resv := 0, count := 0, timing := false }).setCtlEnable fn
    (0x208 + 0x20 * r) false
  let s := { s with host := { s.host with
    cpls := s.host.cpls.filter (fun c => !decide (c.fn = fn ∧ c.cq = r))
    bufs := s.host.bufs.filter (fun b => !bufs.contains b)
    msgs := s.host.msgs.map (fun m => if m.ten = fn ∧ m.cq = r then { m with done := none } else m)
    orphans := s.host.orphans ++ prog.filter (fun d => !s.host.orphans.contains d) } }
  let s := lost.foldl (fun s c => s.cplLost fn c.typ) s
  (bufs.map (fun b => b.ref) ++ used).foldl (fun s d => s.retire d) s

/-- The rings and transfers of a function under a host-side reset (Table 12-13): rings disabled, host reads stopped, the
deep-store bytes of an unfinished WRITE_DEEP undefined. -/
def State.ringReset (s : State) (fn : Nat) : State :=
  let s := (List.range 8).foldl (fun s r => if (s.sq fn r).en then s.disableSq fn r else s) s
  let s := (List.range 8).foldl (fun s r => if (s.cq fn r).en then s.disableCq fn r else s) s
  let cut := s.host.xfers.filter (fun x => decide (x.ref.fn.val = fn))
  let s := { s with host := { s.host with xfers := s.host.xfers.filter (fun x => decide (x.ref.fn.val ≠ fn)) } }
  cut.foldl (fun s x =>
    let s := if x.opc = 0x01 then s.freeBytes (s.rbase x.ten + x.off) x.len else s
    s.complete x.ref x.opc stAborted 0 0) s

/-- The registers of a function page that a Function Level Reset returns to reset, then FLR_SEEN (Table 12-13). -/
def State.pageReset (s : State) (fn : Nat) : State :=
  let keep := fun (k : Nat) => !decide (k / 0x4000 = fn ∧ (k % 0x4000 = 0x30 ∨ (0x3800 ≤ k % 0x4000 ∧ k % 0x4000 < 0x3900)))
  let s := { s with host := { s.host with
    fregs := s.host.fregs.filter (fun e => keep e.1)
    fnStat := Map.del s.host.fnStat fn
    pba := Map.del s.host.pba fn } }
  (s.raiseFnStat fn 18).report 0x0502 clsEvent fn (some fn) fn

/-- The VFs that exist. -/
def State.vfs (s : State) : List Nat := if s.host.vfEn then (List.range s.host.numVfs).map (· + 1) else []

/-- A function-level reset of one function. -/
def State.flrOne (s : State) (fn : Nat) : State := (s.ringReset fn).pageReset fn

/-- Hot reset or link down (Table 12-13): every function's rings and transfers, and VF Enable cleared. -/
def State.hotReset (s : State) : State :=
  let s := (0 :: s.vfs).foldl (fun s fn => s.ringReset fn) s
  ({ s with host := { s.host with vfEn := false, d3 := [] } }).report 0x0503 clsEvent 0 none 0

/-- The PCIe link goes down: as a hot reset, and PCIE_LINK_DOWN is recorded with the last rate and width. -/
def State.pcieDown (s : State) : State :=
  let d := s.host.rate + 8 * s.host.width
  let up := s.host.linkUp
  let s := s.hotReset
  let s := { s with host := { s.host with linkUp := false, rate := 0, width := 0, flit := false, l0p := false } }
  if up then s.report 0x0504 clsDegraded 0 none d else s

/-! ### Opcodes (Table 12-7, Table 12-8) -/

def knownOpc (o : Nat) : Bool :=
  o ∈ [0x00, 0x01, 0x02, 0x10, 0x11, 0x12, 0x13, 0x14, 0x15, 0x20, 0x21, 0x22]
/-- The bytes 0x08 to 0x3F that an opcode's fields take, as offset and size. -/
def opcFields (o : Nat) : List (Nat × Nat) :=
  if o = 0x01 ∨ o = 0x02 then [(8, 20)]
  else if o = 0x10 then [(8, 16)]
  else if o = 0x12 then [(8, 1), (12, 4)]
  else if o = 0x14 then [(8, 9)]
  else if o = 0x15 then [(8, 1), (16, 48)]
  else if o = 0x20 then [(8, 4)]
  else if o = 0x21 then [(8, 1), (10, 2), (16, 8)]
  else if o = 0x22 then [(8, 1), (12, 4), (16, 8)]
  else []
/-- The header's reserved bits and the bytes no field takes are zero (R349). -/
def descClean (bs : List Byte) : Bool :=
  decide (leAt bs 1 1 < 4 ∧ leAt bs 6 2 = 0) &&
  (List.range 56).all (fun i => (opcFields (leAt bs 0 1)).any (fun f => decide (f.1 ≤ i + 8 ∧ i + 8 < f.1 + f.2)) ||
    decide (leAt bs (i + 8) 1 = 0))
/-- Completions an opcode posts (R346). -/
def opcEntries (o : Nat) : Nat := if o = 0x13 then 2 else 1
/-- The type of completion a discarded descriptor would have posted (Table 12-16). -/
def opcCplType (o : Nat) : Nat := if o = 0x13 then 0x08 else if o = 0x22 then 0x02 else 0x01

end Sys2Proof.Machine
end

