-- ==== Sys2Proof/Machine/LinkOps.lean ====
section
/-!
DEFINITION. Lattice links, shared operations: states and bring-up (R296 to R298), failure and detours (R304 to R308),
reception, acknowledgement and credit (R286 to R288).
-/
namespace Sys2Proof.Machine

/-- State codes of Table 10-18. -/
def LinkSt.code (x : LinkSt) : Nat :=
  match x with
  | .off => 0 | .detect => 1 | .train => 2 | .ident => 3 | .up => 4 | .fastRt => 5 | .fullRt => 6 | .down => 7 | .test => 8
  | .looped => 9

def State.link (s : State) (l : Nat) : Link := Map.get s.lat.links {} l
def State.setLink (s : State) (l : Nat) (v : Link) : State := { s with lat := { s.lat with links := Map.set s.lat.links l v } }
def State.updLink (s : State) (l : Nat) (f : Link → Link) : State := s.setLink l (f (s.link l))
/-- Offset of LNK_CTL[l]. -/
def lnkCtl (l : Nat) : Nat := 0x110000 + 0x400 * l
def State.lnkEnabled (s : State) (l : Nat) : Bool := decide (s.rfld (lnkCtl l) 0 1 = 1)
def State.lnkMode (s : State) (l : Nat) : Nat := s.rfld (lnkCtl l) 1 3
/-- A power domain is on and in its window. -/
def State.domainGood (s : State) (d : Nat) : Bool :=
  let v := Map.get s.pwr.domains {} d
  v.on && v.good
/-- The SerDes domain of a link's side (Table 9-4). -/
def sideDomain (l : Nat) : Nat := 57 + l / 36
/-- Spare group of a link (R277). -/
def spareKey (l : Nat) : Nat × Nat := (l / 36, l % 36 / 9)
def State.isUp (s : State) (l : Nat) : Bool := decide ((s.link l).st = .up)
/-- Up links, ascending. -/
def State.upLinks (s : State) : List Nat := (List.range 144).filter s.isUp
/-- The module at the far end, as last received. -/
def Link.farId (k : Link) : Option Nat := k.peer.map (fun p => p.mod0.val)
/-- A tenant that meets `p` has an image whose link table names link `l` of this module (R299, R300). -/
def State.linkNamed (s : State) (l : Nat) (p : Tenant → Bool) : Bool :=
  s.tenants.any (fun e => p e.2 && match e.2.img with
    | some i => i.links.any (fun x => decide (x.frm = i.me ∧ x.link = l))
    | none => false)
/-- Tenants whose image names link `l`. -/
def State.linkUsers (s : State) (l : Nat) : List Nat :=
  (s.tenants.filter (fun e => match e.2.img with
    | some i => i.links.any (fun x => decide (x.frm = i.me ∧ x.link = l))
    | none => false)).map (fun e => e.1)
/-- The link carries a detour (Table 10-18). -/
def State.carriesDetour (s : State) (l : Nat) : Bool :=
  s.lat.links.any (fun e => e.2.detour.any (fun d => decide (d.2 = l))) || s.lat.dtrOut.any (fun e => decide (e.1 = l))
/-- A test mode may not be entered, nor the link switched off (R300). -/
def State.testBarred (s : State) (l : Nat) : Bool := s.linkNamed l (fun _ => true) || s.carriesDetour l
/-- A link report, with the link as its source (Table 10-20). -/
def State.linkReport (s : State) (l code cls detail : Nat) : State := s.report code cls l none detail

/-- The first link of the tenant's table that fails the test of R299. -/
def State.badPath (s : State) (t : Nat) : Option Nat :=
  match (s.ten t).img with
  | none => none
  | some i =>
    ((i.links.filter (fun e => decide (e.frm = i.me))).find? (fun e =>
      let k := s.link e.link
      !((decide (k.st = .up) && decide (k.farId = (i.mods[e.dst]?).map (fun m => m.1))) ||
        (decide (k.st = .down) && k.detour.isSome)))).map (fun e => e.link)

/-! ### Neighbours (R295) -/

/-- Puts a token on every up link but one. -/
def State.tokUp (s : State) (but : Option Nat) (k : Token) : State :=
  let out := (s.upLinks.filter (fun l => decide (some l ≠ but))).map (fun l => (l, k))
  { s with lat := { s.lat with tokOut := s.lat.tokOut ++ out } }
/-- The modules to which this one has an up link. -/
def State.nbrSet (s : State) : BitVec 256 :=
  s.upLinks.foldl (fun a l => match (s.link l).farId with | some m => a ||| BitVec.ofNat 256 (2 ^ m) | none => a) 0
/-- NBR on every up link. -/
def State.sendNbr (s : State) : State := s.tokUp none { typ := 7, ten := 0, origin := s.moduleId, word := 0, nbr := s.nbrSet }
/-- NBR goes out where the links of `s` have come to lead to other modules than `old` says. -/
def State.nbrSince (s : State) (old : BitVec 256) : State := if s.nbrSet = old then s else s.sendNbr

/-! ### Bring-up -/

/-- Where bring-up stands: the state itself, or the background attempt of a DOWN link. -/
def Link.phase (k : Link) : LinkSt := if k.st = .down then k.bg.getD .down else k.st
def Link.setPhase (k : Link) (p : LinkSt) : Link := if k.st = .down then { k with bg := some p } else { k with st := p }
/-- A fresh transmitter and receiver: SEQ counters reset, all credits restored (R288, R304). -/
def Link.freshFlow (k : Link) : Link :=
  { k with txSeq := 0, rxSeq := 0, gotAny := false, nakSent := false, nakDue := false, arrived := 0, resendAt := none
           ackOuts := 0, credXch := 4096, credTok := 64, credPkt := 512, credDtr := 256, retXch := 0, retTok := 0
           retPkt := 0, retDtr := 0, sinceDtr := 0, sincePkt := 0 }
/-- Enters DETECT (R296); the running disparities start negative (R279). -/
def Link.enterDetect (k : Link) : Link :=
  { k.setPhase .detect with noSignal := true, goodTs := 0, ackTs := 0, sentAck := 0, peerRec := false
                            txRd0 := false, txRd1 := false, rxRd0 := false, rxRd1 := false }
/-- A link may come up: enabled, MODE NORMAL, its side powered. -/
def State.mayTrain (s : State) (l : Nat) : Bool :=
  s.lnkEnabled l && decide (s.lnkMode l = 0) && s.domainGood (sideDomain l) && s.dev.mode.configured
/-- An OFF link that may come up enters DETECT. -/
def State.startLink (s : State) (l : Nat) : State :=
  if s.mayTrain l && decide ((s.link l).st = .off) then
    s.updLink l (fun k => { k.enterDetect.freshFlow with noPeerRec := false })
  else s
/-- A side's domain has come on (R296): its links enter DETECT, one that is DOWN in the background. -/
def State.startSide (s : State) (d : Nat) : State :=
  (List.range' (36 * (d - 57)) 36).foldl (fun s l =>
    if s.mayTrain l && decide ((s.link l).st = .down) then s.updLink l Link.enterDetect else s.startLink l) s
/-- Every link that may come up does (R296), when the device enters IDLE. -/
def State.startLinks (s : State) : State := (List.range 144).foldl State.startLink s
/-- A link goes to OFF; what it held is gone, but its counters and its substituted lane stay. -/
def Link.toOff (k : Link) : Link :=
  { k.freshFlow with st := .off, bg := none, retry := [], rxBuf := [], detour := none, txSleep := false, rxSleep := false
                     loopAcked := false, goodTs := 0, ackTs := 0, sentAck := 0, markDue := false, errs0 := [], errs1 := [] }

/-- The counts of a test pattern are what the line gives, which no command says: free values (R302; log entry 64). -/
def State.prbsCounts (s : State) (l : Nat) : State :=
  let a := s.freshNat
  let b := a.2.freshNat
  let c := b.2.freshNat
  c.2.updLink l (fun k => { k with prbsErr0 := a.1 % 2 ^ 32, prbsErr1 := b.1 % 2 ^ 32, prbsBits := c.1 % 2 ^ 64 })

/-- A spare can take a lane of the link: usable and free (R307). -/
def State.spareFree (s : State) (l : Nat) : Bool :=
  s.lat.spareOk.contains (spareKey l) && !s.lat.spareUsed.contains (spareKey l) && (s.link l).subst.isNone
/-- A logical lane moves onto the group's spare (R307). -/
def State.substitute (s : State) (l lane : Nat) : State :=
  let s := s.updLink l (fun k => { k with subst := some lane })
  ({ s with lat := { s.lat with spareUsed := spareKey l :: s.lat.spareUsed } }).linkReport l 0x0204 clsDegraded
    (lane + 2 * (spareKey l).2)

/-! ### Failure and detours (R304 to R311) -/

/-- The detour that a link's end chooses (R308): the neighbour of lowest module ID whose NBR shows the far module, over
the lowest-numbered up link to it. -/
def State.findDetour (s : State) (l : Nat) : Option (Nat × Nat) :=
  match (s.link l).farId with
  | none => none
  | some f =>
    let cand := (List.range 256).find? (fun c => decide (c ≠ f) &&
      (Map.get s.lat.nbrOf 0 c).getLsbD f && s.upLinks.any (fun m => decide ((s.link m).farId = some c)))
    cand.bind (fun c => (s.upLinks.find? (fun m => decide ((s.link m).farId = some c))).map (fun m => (c, m)))

/-- A link's detour is chosen (R308), with its record and the recovery of the tenants that use it (R226). -/
def State.takeDetour (s : State) (l : Nat) : State :=
  match s.findDetour l with
  | none =>
    (s.updLink l (fun k => { k with detour := none })).linkReport l 0x020A clsDegraded (((s.link l).farId).getD 0)
  | some d =>
    let s := (s.updLink l (fun k => { k with detour := some d })).linkReport l 0x0122 clsDegraded l
    let q := s.lastSeq
    ((s.linkUsers l).filter (fun t => s.inTiles t)).foldl (fun s t => s.startRecovery t .masked none q) s

/-- A frame body is a lattice token. -/
def bodyIsTok : Body → Bool
  | .tok _ => true
  | _ => false

/-- The TOK frames that FULL_RT kept, numbered from 0 to be sent first (R304). -/
def Link.requeue (k : Link) : Link :=
  let toks := ((k.retry.filter (fun f => bodyIsTok f.body)).zipIdx).map (fun e => { e.1 with seq := BitVec.ofNat 12 e.2 })
  { k with retry := toks, txSeq := BitVec.ofNat 12 toks.length, credTok := 64 - toks.length
           resendAt := if toks.isEmpty then none else some 0 }

/-- A link enters DOWN; the kept tokens go by its detour; every detour through it is chosen again (R304, R308, R309, R311). -/
def State.linkDown (s : State) (l : Nat) : State :=
  let old := s.nbrSet
  let s := s.updLink l (fun k => { k.requeue with
    st := .down, bg := none, downs := satInc k.downs 0xFF, txSleep := false, rxSleep := false, markDue := false })
  let s := if s.thy.srcLink = some l then s else { s with thy := { s.thy with marks := Map.del s.thy.marks l } }
  let s := s.nbrSince old
  let s := (s.linkReport l 0x0203 clsDegraded (((s.link l).farId).getD 0)).takeDetour l
  let via := (List.range 144).filter (fun m => (s.link m).detour.any (fun d => decide (d.2 = l)))
  via.foldl State.takeDetour s

/-- The tenants that a frame body names. -/
def bodyTenants : Body → List Nat
  | .xch t _ _ _ _ => [t]
  | .tok _ => []
  | .pkt p => [p.ten]
  | .dtr _ _ _ _ b => bodyTenants b
  | .ctl _ => []
/-- FULL_RT is entered (R304): the retry buffer keeps its TOK frames only. -/
def Link.enterFull (k : Link) : Link :=
  let cut := (k.retry.filter (fun f => !bodyIsTok f.body)).flatMap (fun f => bodyTenants f.body)
  { k.freshFlow with st := .fullRt, full := satInc k.full 0xFF, cut := k.cut ++ cut
                     retry := k.retry.filter (fun f => bodyIsTok f.body), goodTs := 0, ackTs := 0, sentAck := 0
                     txSleep := false, rxSleep := false, markDue := false, errs0 := [], errs1 := [] }
/-- FAST_RT is entered (R304): the retry buffer, the SEQ counters and all credits are kept; a sleeping transmitter wakes. -/
def Link.enterFast (k : Link) : Link :=
  { k with st := .fastRt, fast := satInc k.fast 0xFF, goodTs := 0, ackTs := 0, sentAck := 0
           txSleep := false, rxSleep := false, markDue := false, errs0 := [], errs1 := [] }
/-- A link takes a new state, and the neighbours hear of it where the set of linked modules changes (R295). -/
def State.changeLink (s : State) (l : Nat) (k : Link) : State := (s.setLink l k).nbrSince s.nbrSet

/-- The link comes up after FULL_RT (R304, R305): the tokens are sent again first, LINK_LOSS is recorded and the tenants
of discarded frames recover; a second loss within the repeat window takes the link DOWN. -/
def State.upFromFull (s : State) (l : Nat) : State :=
  let k := s.link l
  let cut := k.cut.eraseDups
  let w := 2 ^ s.rfld 0x70010 16 5
  let again := cut.any (fun t => match k.lastLoss.find? (fun e => decide (e.1 = t)) with
    | some e => decide ((s.ten t).done < e.2 + w)
    | none => false)
  let s := s.setLink l { k.requeue with
    st := .up, cut := [], losses := satInc k.losses 0xFF
    lastLoss := cut.foldl (fun m t => Map.set m t (s.ten t).done) k.lastLoss }
  let s := s.linkReport l 0x0202 clsMasked cut.length
  let q := s.lastSeq
  let s := (cut.filter (fun t => (s.ten t).img.isSome)).foldl (fun s t => s.startRecovery t .masked none q) s
  if again then s.linkDown l else s

/-- Applies a CTL body (R287, R288): what it acknowledges leaves the retry buffer, credits return, a NAK asks for a
resend from the first frame left. -/
def Link.applyCtl (k : Link) (c : Ctl) : Link :=
  let n := match c.ack, k.retry with
    | some a, f :: _ => let m := (a - f.seq).toNat + 1; if m ≤ k.retry.length then m else 0
    | _, _ => 0
  let rest := k.retry.drop n
  { k with retry := rest
           ackOuts := if n = 0 then k.ackOuts else 0
           resendAt := if rest.isEmpty then none else if c.nak then some 0 else k.resendAt.map (fun i => i - n)
           credXch := min 4096 (k.credXch + c.xch), credPkt := min 512 (k.credPkt + c.pkt)
           credTok := min 64 (k.credTok + c.tok), credDtr := min 256 (k.credDtr + c.dtr) }

/-- The link enters UP. From FAST_RT each transmitter resends from the far end's last in-order SEQ (R297, R304). One that was DOWN keeps its SEQ counters and resends what its detour has not seen acknowledged, so that
no packet is lost in the move (R311; log entry 82). -/
def State.comeUp (s : State) (l : Nat) : State :=
  let k := s.link l
  match k.st with
  | .fastRt =>
    let k := k.applyCtl { ack := k.peer.map (fun p => p.lastSeq), nak := true, xch := 0, pkt := 0, tok := 0, dtr := 0 }
    let s := s.setLink l { k with st := .up }
    s.linkReport l 0x0201 clsCorrected k.rtCause
  | .fullRt => s.upFromFull l
  | .down =>
    let s := s.setLink l { k with
      st := .up, bg := none, detour := none, cut := [], resendAt := if k.retry.isEmpty then none else some 0
      credXch := 4096, credTok := 64, credPkt := 512, credDtr := 256, retXch := 0, retTok := 0, retPkt := 0, retDtr := 0 }
    match k.detour with
    | some d => s.linkReport l 0x020B clsEvent d.1
    | none => s
  | _ =>
    let far := match k.peer with | some p => p.mod0.val + 256 * p.link0 | none => 0
    (s.setLink l { k.freshFlow with st := .up, bg := none, retry := [], cut := [] }).linkReport l 0x0200 clsEvent far

/-- The link enters UP, and the neighbours hear of it (R295). -/
def State.linkUpNow (s : State) (l : Nat) : State := (s.comeUp l).nbrSince s.nbrSet

/-! ### Reception (R286, R288) -/

/-- 4-byte units of a frame body (Table 10-4), in bytes. -/
def bodyBytes : Body → Nat
  | .xch _ _ _ _ sl => 8 + 12 * sl.length
  | .tok k =>
    if k.typ = 1 then 16 + 16 * k.reqs.length
    else if k.typ = 2 then 24
    else if k.typ = 5 then 32
    else if k.typ = 7 then 40
    else 8
  | .pkt p => 64 * ((9 + p.body.length + 63) / 64)
  | .dtr _ _ _ _ b => 12 + bodyBytes b
  | .ctl _ => 8
/-- Credit units of 64 bytes (Table 10-5). -/
def bodyUnits (b : Body) : Nat := (bodyBytes b + 63) / 64

/-- A frame is discarded (R286): one NAK for the first discard after an in-order frame. -/
def Link.discard (k : Link) (counted : Bool) : Link :=
  { k with cntCrc := if counted then satInc k.cntCrc 0xFFFFFFFF else k.cntCrc
           nakDue := k.nakDue || !k.nakSent, nakSent := true }

/-- Whether a sequenced frame is taken, and the link after its arrival (R286). A frame reaches a link that is up, or one
whose frames come by a detour. -/
def State.takeFrame (s : State) (l : Nat) (seq : BitVec 12) (damaged : Bool) : Bool × State :=
  let k := s.link l
  if k.st ≠ .up ∧ k.st ≠ .down then (false, s)
  else if damaged then (false, s.setLink l (k.discard true))
  else if seq ≠ k.rxSeq then (false, s.setLink l (k.discard false))
  else (true, s.setLink l { k with rxSeq := k.rxSeq + 1, gotAny := true, nakSent := false, arrived := k.arrived + 1 })

/-- The full ecycle number nearest to `near` whose low 16 bits are `low` (R283). -/
def nearestEcyc (low near : Nat) : Nat :=
  let base := near / 65536 * 65536 + low
  let cands := [base, base + 65536] ++ (if 65536 ≤ base then [base - 65536] else [])
  let dist := fun (x : Nat) => if x ≤ near then near - x else x - near
  cands.foldl (fun a x => if dist x < dist a then x else a) base

/-- The slots of a received XCH body as they wait in the exchange receive buffer (R65, R282, R283). -/
def State.slotsOf (s : State) (ten ecyc dmod : Nat) (sl : List SlotEnt) : List Slot :=
  sl.map (fun e => { ten := ten, src := 0, dst := e.dtile, word := e.word, occ := e.occ
                     ecyc := nearestEcyc ecyc ((s.ten ten).done - 1), epoch := e.epoch, data := e.data, remote := true
                     dmod := dmod })

/-- Puts an item on the line; both lanes' running disparities go on (R279). -/
def State.send (s : State) (l : Nat) (w : WireItem) : State :=
  let s := s.updLink l (fun k => k.afterItem l w)
  { s with lat := { s.lat with wire := s.lat.wire ++ [(l, w)] } }

/-- What the lanes of a link have brought (R279): whether the frame that ended there is damaged, and the receiver after it. In a test
mode and in OFF nothing is decoded. -/
def State.takeLine (s : State) (l : Nat) (x : LineIn) : Bool × State :=
  let k := s.link l
  if k.st = .off ∨ k.st = .test ∨ k.st = .looped then (false, s)
  else
    let r := k.takeLine x
    (r.1, s.setLink l r.2)

end Sys2Proof.Machine
end

