-- ==== Sys2Proof/Machine/Tokens.lean ====
section
/-!
DEFINITION. Lattice tokens (R291 to R295): BND, REPLAY, PACE, DRAIN, PARTX, LHOLD and NBR, with the drain markers of R221 and
the resolution of a partition (R227).
-/
namespace Sys2Proof.Machine

/-- A TOK frame arrives on a link, or as an inner frame of a detour, and its token is processed; its credit then returns
(R288). -/
def State.tokFrame (s : State) (l : Nat) (line : LineIn) (seq : BitVec 12) (damaged : Bool) (k : Token) (apply : State → State) : Out :=
  let s := { s with lat := { s.lat with tokIn := removeFirst (fun e => e = (l, seq, k)) s.lat.tokIn } }
  let x := s.takeLine l line
  let r := x.2.takeFrame l seq (damaged || x.1)
  if r.1 then .next ((apply r.2).updLink l (fun v => { v with retTok := v.retTok + 1 })) else .next r.2

/-- Puts a token on the links to the span neighbours of a tenant but the one it came by. -/
def State.tokSpanBut (s : State) (t : Nat) (but : Nat) (k : Token) : State :=
  match (s.ten t).img with
  | some i =>
    let out := (i.neighbours.filterMap (fun m => i.linkTo m)).filter (fun l => decide (l ≠ but)) |>.map (fun l => (l, k))
    { s with lat := { s.lat with tokOut := s.lat.tokOut ++ out } }
  | none => s

/-- The index of a module ID in a tenant's lattice map. -/
def State.modIndex (s : State) (t m : Nat) : Option Nat :=
  match (s.ten t).img with
  | some i => i.mods.findIdx? (fun e => decide (e.1 = m))
  | none => none

/-! ### BND (R66, R67, R291 to R293) -/

/-- A request entry is learnt: once for its origin, type and b. A double fault stops the tiles at once (R112), and a capture makes
this module's own record (R206). -/
def State.learn (s : State) (t : Nat) (e : BndEnt) : State :=
  let key := (t, e.origin, e.typ, e.b)
  if s.lat.reqSeen.contains key || decide (e.origin = s.moduleId) then s
  else
    let s := { s with lat := { s.lat with reqSeen := key :: s.lat.reqSeen } }
    let due := (e.b + 1) % 2 ^ 64
    match entKind e with
    | some (.hold 3) =>
      let r := s.freshNat
      (r.2.spreadFault t due e.origin).faultStop t (r.1 % 2 ^ 32)
    | some (.capture k) => s.capLearn t k due e.origin
    | some k => s.requestAt t k due none e.origin
    | none => s

/-- A hold cause in force on the sender joins the set of a tenant that is already HELD here (R33, R66). -/
def State.joinCauses (s : State) (t bits : Nat) : State :=
  if (s.ten t).eff = .held then
    s.updTen t (fun v => { v with holds := ((List.range 8).filter (fun c => bits.testBit c)).foldr addCause v.holds })
  else s

/-- TOKEN_BND (R67, R291): every request entry not yet applied is learnt. The neighbour has completed ecycle k once the frame
without MORE has arrived; a BND equal in tenant and k to one that this neighbour's count shows applied brings nothing more. -/
def execTokenBnd (l : LinkId) (line : LineIn) (seq : BitVec 12) (damaged : Bool) (k : Token) (s : State) : Out :=
  s.tokFrame l line seq damaged k (fun s =>
    let s := k.reqs.foldl (fun s e => s.learn k.ten e) s
    match s.modIndex k.ten k.origin with
    | some m =>
      let n := (k.a + 1) % 2 ^ 64
      if n ≤ Map.get (s.ten k.ten).bnd 0 m then s
      else
        let s := s.joinCauses k.ten k.word
        if k.more then s else s.updTen k.ten (fun v => { v with bnd := Map.set v.bnd m n })
    | none => s)

/-! ### REPLAY (R225) -/

/-- Generation `a` is newer than `b`. -/
def genNewer (a b : Nat) : Bool := decide (a ≠ b ∧ (a + 2 ^ 16 - b) % 2 ^ 16 < 2 ^ 15)

/-- TOKEN_REPLAY (R225): a newer generation starts restore and replay here and is passed on along the span; of two with one
generation the lower K wins, and of equal K both name the same restore; an older one is dropped. After a double fault the replay
ends at the least c that any module of the span names, and a module whose own c is lower names it in a token of its own (R112
item 4; log entry 84). The cause stands in the log of the module that decided; here none does (log entry 3). -/
def execTokenReplay (l : LinkId) (line : LineIn) (seq : BitVec 12) (damaged : Bool) (k : Token) (s : State) : Out :=
  s.tokFrame l line seq damaged k (fun s =>
    let tn := s.ten k.ten
    let g := k.word % 2 ^ 16
    let wins := match tn.recov with
      | some r => decide (g = tn.gen ∧ k.a < r.k)
      | none => false
    if tn.img.isSome && (genNewer g tn.gen || wins) then
      let df := decide (3 ∈ tn.holds ∧ tn.eff ≠ .held)
      let n := s.freshNat
      let c := (k.b + 1) % 2 ^ 64
      let s := (n.2.beginRecovery k.ten (if df then .doubleFault else .masked) none k.a g (n.1 % 2 ^ 16)).tokSpanBut k.ten l
        { k with fwd := true }
      if df then
        let s := s.updTen k.ten (fun v => { v with recov := v.recov.map (fun r => { r with upTo := min r.upTo c }) })
        if tn.done < c then s.startRecovery k.ten .doubleFault none (n.1 % 2 ^ 16) else s
      else s
    else s)

/-! ### PACE (R200, R238) -/

/-- TOKEN_PACE (R200, R227): the partition count of the tenant starts again. -/
def execTokenPace (l : LinkId) (line : LineIn) (seq : BitVec 12) (damaged : Bool) (k : Token) (s : State) : Out :=
  s.tokFrame l line seq damaged k (fun s => s.updTen k.ten (fun v => { v with partWait := some s.thy.total }))

/-- The tenant waits for pacing, or for tiles (R200, R238). -/
def State.pacing (s : State) (t : Nat) : Bool :=
  (s.trig.acq.any (fun e => decide (e.2.st = .pacing ∧ s.rfld (0xD8000 + 0x40 * e.1) 0 8 = t))) ||
  decide ((s.ten t).run = .swapped ∧ (s.ten t).runnable = true)

/-- PACE_NOTICE_SEND (R200, R238): a pace notice to every span neighbour. -/
def execPaceNoticeSend (ten : TenId) (s : State) : Out :=
  if (s.ten ten).spans && s.pacing ten then .next (s.tokSpan ten { typ := 3, ten := ten, origin := s.moduleId, word := 0 })
  else .next s

/-! ### DRAIN (R221) -/

/-- A marker has returned; when the tenant's last one has, its epochs may advance again. -/
def State.markerBack (s : State) (n : Nat) : State :=
  match s.lat.markers.find? (fun e => decide (e.1 = n)) with
  | none => s
  | some m =>
    let rest := s.lat.markers.filter (fun e => decide (e.1 ≠ n))
    let s := { s with lat := { s.lat with markers := rest } }
    if rest.any (fun e => decide (e.2.1 = m.2.1)) then s else (s.updTen m.2.1 (fun v => { v with drained := true })).remode

/-- TOKEN_DRAIN (R221, Table 10-10): a marker is returned with FWD = 1; a returned one ends here, or is forwarded to its
origin. -/
def execTokenDrain (l : LinkId) (line : LineIn) (seq : BitVec 12) (damaged : Bool) (k : Token) (s : State) : Out :=
  s.tokFrame l line seq damaged k (fun s =>
    if !k.fwd then { s with lat := { s.lat with tokOut := s.lat.tokOut ++ [(l.val, { k with fwd := true })] } }
    else if k.origin = s.moduleId then s.markerBack (k.word / 2 ^ 16)
    else
      match s.upLinks.find? (fun m => decide ((s.link m).farId = some k.origin)) with
      | some m => { s with lat := { s.lat with tokOut := s.lat.tokOut ++ [(m, k)] } }
      | none => s)

/-- DRAIN_MARKER (R221): the XCH marker over the NoC has returned. -/
def execDrainMarker (marker : BitVec 16) (s : State) : Out := .next (s.markerBack marker.toNat)

/-- DRAIN_MARKER_TIMEOUT (R305): a marker that has not returned within 100 µs is sent again. -/
def execDrainMarkerTimeout (marker : BitVec 16) (s : State) : Out :=
  match s.lat.markers.find? (fun e => decide (e.1 = marker.toNat)) with
  | some (n, t, some l) =>
    let ep := (((s.boundTiles t).head?).map (fun x => (s.remap x).epoch)).getD 0
    .next { s with lat := { s.lat with tokOut := s.lat.tokOut ++
      [(l, { typ := 4, ten := t, origin := s.moduleId, word := ep + 2 ^ 16 * n })] } }
  | _ => .next s

/-! ### PARTX (R227) -/

/-- What a module announces for a partition: c_m and its landed checkpoints, all ones where absent. -/
def State.partxToken (s : State) (t : Nat) : Token :=
  let tn := s.ten t
  let ones := 2 ^ 64 - 1
  { typ := 5, ten := t, origin := s.moduleId, word := 0, a := tn.lastEcyc
    b := match tn.newest with | some v => v.k | none => ones, c := match tn.older with | some v => v.k | none => ones }

/-- The c and the checkpoint that resolve a partition, once every module of the span has announced its own (R227): the
least c_m, as a count of completed ecycles, and the newest checkpoint landed on all of them, the image being one. -/
def State.partResolved (s : State) (t : Nat) : Option (Nat × Nat) :=
  let tn := s.ten t
  match tn.img with
  | none => none
  | some i =>
    let ids := i.mods.map (fun m => m.1)
    let cs := ids.map (fun m => tn.partC.find? (fun e => decide (e.1 = m)))
    if cs.all Option.isSome then
      let cnt := cs.filterMap (fun x => x.map (fun e => (e.2 + 1) % 2 ^ 64))
      let own := (match tn.newest with | some v => [v.k] | none => []) ++ (match tn.older with | some v => [v.k] | none => [])
      let onAll := own.filter (fun k => ids.all (fun m =>
        let p := Map.get tn.partK (2 ^ 64 - 1, 2 ^ 64 - 1) m
        decide (p.1 = k ∨ p.2 = k)))
      some (cnt.foldl min (cnt.headD 0), onAll.foldl max 0)
    else none

/-- Takes what a module has announced, and restores and replays once all have (R227). The cause is the PARTITION entry. -/
def State.takePartx (s : State) (t m a b c : Nat) : State :=
  let s := s.updTen t (fun v => { v with partC := Map.set v.partC m a, partK := Map.set v.partK m (b, c) })
  if 2 ∈ (s.ten t).holds ∧ (s.ten t).recov = none then
    match s.partResolved t with
    | some (cnt, k) =>
      let s := s.beginRecovery t .partition none k (((s.ten t).gen + 1) % 2 ^ 16) (s.ten t).partSeq
      s.updTen t (fun v => { v with recov := v.recov.map (fun r => { r with upTo := cnt }), partC := [], partK := [] })
    | none => s
  else s

/-- TOKEN_PARTX (R227): a new announcement is passed on along the span and counted. -/
def execTokenPartx (l : LinkId) (line : LineIn) (seq : BitVec 12) (damaged : Bool) (k : Token) (s : State) : Out :=
  s.tokFrame l line seq damaged k (fun s =>
    if k.origin = s.moduleId ∨ (s.ten k.ten).partC.any (fun e => decide (e = (k.origin, k.a))) = true then s
    else (s.tokSpanBut k.ten l { k with fwd := true }).takePartx k.ten k.origin k.a k.b k.c)

/-! ### LHOLD (R294) -/

/-- This module raises or withdraws its own lattice hold. -/
def State.sendLhold (s : State) (raise : Bool) : State :=
  let n := s.lat.lholdSeq + 1
  let s := { s with lat := { s.lat with lholdSeq := n } }
  s.tokUp none { typ := 6, ten := 0, origin := s.moduleId, word := n % 2 ^ 16 + 2 ^ 16 * b2n raise }

/-- The hold conditions have changed: tenants stop or go on, and the mode follows (R25, R28). -/
def State.holdChanged (s : State) : State := if s.holdCond then s.enterHold.remode else s.leaveHold.remode

/-- TOKEN_LHOLD (R294): a new token is forwarded on every other up link, and holds this module while it is a raise. -/
def execTokenLhold (l : LinkId) (line : LineIn) (seq : BitVec 12) (damaged : Bool) (k : Token) (s : State) : Out :=
  s.tokFrame l line seq damaged k (fun s =>
    let n := k.word % 2 ^ 16
    if k.origin = s.moduleId ∨ (s.lat.lholdSeen.any (fun e => decide (e.1 = k.origin) && !genNewer n e.2)) = true then s
    else
      let s := s.tokUp (some l) { k with fwd := true }
      let rest := s.dev.lattice.filter (· ≠ k.origin)
      let s := { s with
        lat := { s.lat with lholdSeen := Map.set s.lat.lholdSeen k.origin n }
        dev := { s.dev with lattice := if (k.word / 2 ^ 16) % 2 = 1 then k.origin :: rest else rest } }
      s.holdChanged)

/-! ### NBR (R295) -/

/-- TOKEN_NBR (R295): the neighbour's latest set is kept. -/
def execTokenNbr (l : LinkId) (line : LineIn) (seq : BitVec 12) (damaged : Bool) (k : Token) (s : State) : Out :=
  s.tokFrame l line seq damaged k (fun s => { s with lat := { s.lat with nbrOf := Map.set s.lat.nbrOf k.origin k.nbr } })

/-- NBR_SEND (R295): NBR on every up link. -/
def execNbrSend (s : State) : Out :=
  .next s.sendNbr

end Sys2Proof.Machine
end

