-- ==== Sys2Proof/Machine/FaultOps.lean ====
section
/-!
DEFINITION. The fault manager's shared operations: freeing tiles and images, placement on spares (R216), epochs (R221), the
journal (R214), RECOVERY completions (Table 7-8) and the end of a replay (R220 to R223, R227).
-/
namespace Sys2Proof.Machine

/-! ### Tiles and images -/

/-- The tenant leaves its tiles (R235); after a swap-out a tile keeps the program stores (R236). -/
def State.unbind (s : State) (t : Nat) (keep : Bool) : State :=
  (s.boundTiles t).foldl (fun s l =>
    let x := s.ltile l
    let s := s.updTile l Tile.free
    { s with sched := { s.sched with ltiles := Map.set s.sched.ltiles l (if keep then { x with bound := false } else {}) } }) s
/-- No tile keeps the tenant's program stores any longer (R235). -/
def State.dropResident (s : State) (t : Nat) : State :=
  { s with sched := { s.sched with ltiles := s.sched.ltiles.filter (fun e => decide (e.2.ten ≠ t) || e.2.bound) } }

/-- Bytes 0x04 to 0x1F of a CAPTURE completion (Table 12-10). -/
def capCplBody (slot flags : Nat) (d : DRef) (e seq : Nat) : CplBody :=
  .raw (leBytes slot 1 ++ leBytes flags 1 ++ leBytes d.tag.toNat 2 ++ leBytes d.dseq.toNat 8 ++ leBytes e 8 ++ leBytes seq 4
    ++ zeros 4)
/-- Completes a CAPTURE descriptor. -/
def State.completeCap (s : State) (d : DRef) (status slot flags e seq : Nat) : State :=
  (s.postFor d 0x08 status (capCplBody slot flags d e seq)).retire d

/-- The captures of a tenant whose image has gone before they have left its tiles complete NO_IMAGE (R38 item 1). -/
def State.dropCaptures (s : State) (t : Nat) : State :=
  let mine := (s.cap.queue ++ s.cap.moving.toList).filter (fun q => decide (q.ten = t))
  let s := { s with cap := { s.cap with
    queue := s.cap.queue.filter (fun q => decide (q.ten ≠ t)), moving := s.cap.moving.filter (fun q => decide (q.ten ≠ t)) } }
  (mine.flatMap (fun q => q.cmds)).foldl (fun s d => s.completeCap d stNoImage 0 0 0 0) s

/-- What the scheduler and the fault manager still hold of a tenant that leaves or loses its tile image: a rebalance ends NO_IMAGE,
its refits leave the order, no state of it drains to a swap slot, no swap-out by weight waits, and a swap counts it as gone. -/
def State.dropRefits (s : State) (t : Nat) : State :=
  let s := (s.sched.rebal.filter (fun r => decide (r.ten = t))).foldl (fun s _ => s.endRebal t stNoImage) s
  { s with
   dev := { s.dev with refits := s.dev.refits.filter (fun x => decide (x ≠ t ∧ x ≠ 256 + t)) }
   sched := { s.sched with
    draining := s.sched.draining.filter (fun e => decide (e.1 ≠ t)), derateQ := s.sched.derateQ.filter (fun x => decide (x ≠ t))
    derateOut := s.sched.derateOut.filter (fun x => decide (x ≠ t))
    swap := s.sched.swap.map (fun w => if w.victims.contains t then { w with emptied := w.emptied ++ [t] } else w) } }
/-- The tenant loses its image (R354, R161, R223): it is STOPPED with LOADED = 0, its tiles are free, its ports unbound and
its capture area has no slots. What waits for it completes. -/
def State.dropImage (s : State) (t : Nat) : State :=
  let s := (s.endStepEarly t).dropPorts t
  let s := s.completeReqs t stSuperseded (s.ten t).reqs
  let s := (((s.unbind t false).dropResident t).dropCaptures t).dropRefits t
  s.updTen t (fun v =>
    { vt := v.vt, gen := v.gen, hazards := v.hazards, hazLost := v.hazLost, hazFlag := v.hazFlag, stopRank := v.stopRank
      load := v.load, drained := v.drained })

/-! ### Placement (R216, R217) -/

/-- The spare of logical tile `l`'s die (R20). -/
def spareOf (l : Nat) : Nat := 25 * (l / 24) + 24
def State.setRemap (s : State) (l : Nat) (r : Remap) : State := { s with fm := { s.fm with remap := Map.set s.fm.remap l r } }
/-- The die's spare is healthy and carries no logical tile. -/
def State.spareUsable (s : State) (l : Nat) : Bool :=
  !s.fm.bad.contains (spareOf l) && (List.range 192).all (fun m => decide (s.ptile m ≠ spareOf l))

/-- Where a faulty logical tile of a tenant has been put. -/
inductive Placed where
  | spare | rebound | none
deriving DecidableEq, Repr

/-- Places one faulty logical tile (R216): the die's spare, else the lowest free logical tile, else nowhere. -/
def State.placeTile (s : State) (l : Nat) : Placed × State :=
  let old := s.ptile l
  let s := s.markBad old
  if s.spareUsable l then
    let s := (s.moveArrErr l (spareOf l)).setRemap l { s.remap l with ptile := spareOf l, onSpare := true, runtime := true }
    let s := { s with fm := { s.fm with spareUsed := s.fm.spareUsed ||| 2 ^ (l / 24) } }
    (.spare, s.report 0x0111 clsDegraded old none (l + 256 * spareOf l))
  else
    let lt := s.ltile l
    match lt.bound, s.freeTiles.head? with
    | true, some m =>
      let lts := Map.set (Map.set s.sched.ltiles l {}) m { lt with resident := false }
      let s := s.passEpoch l m
      let s := { s with sched := { s.sched with ltiles := lts } }
      (.rebound, (s.updTile l Tile.free).report 0x0112 clsDegraded old (some lt.ten) (l + 256 * m))
    | _, _ =>
      let own := if lt.bound then some lt.ten else none
      (.none, (s.setRemap l { s.remap l with failed := true }).report 0x0113 clsTenant old own l)

/-- Places faulty tiles one after another (R217). -/
def State.placeAll (s : State) (l : List Nat) : State := l.foldl (fun s x => (s.placeTile x).2) s
/-- The faulty tiles that the recoveries in their event 1 wait for, in ascending logical-tile order (R217). -/
def State.faultyTiles (s : State) : List Nat :=
  let ls := s.tenants.flatMap (fun e => match e.2.recov with | some r => if r.phase = .stopped then r.ltiles else [] | none => [])
  (List.range 192).filter (fun l => ls.contains l)
/-- Those tiles are placed: none waits any longer. -/
def State.placeFaulty (s : State) : State :=
  let ls := s.faultyTiles
  let s := s.placeAll ls
  { s with tenants := s.tenants.map (fun e => (e.1, { e.2 with
      recov := e.2.recov.map (fun r => if r.phase = .stopped then { r with ltiles := [] } else r) })) }
/-- Every image tile of the tenant on this module has a healthy tile. -/
def State.allPlaced (s : State) (t : Nat) : Bool := (s.boundTiles t).all s.healthy

/-- The epochs of the tenant's tiles advance (R221), and drain markers go out. -/
def State.advanceEpochs (s : State) (t : Nat) : State := s.advance t (s.boundTiles t)

/-- The tenant's unreleased messages leave their flow (Table 7-6, event 3); a buffer that one of them had filled is first
in its port's line again (log entry 21). -/
def State.discardMessages (s : State) (t : Nat) : State :=
  let mine := s.host.msgs.filter (fun m => decide (m.ten = t))
  { s with host := { s.host with
    msgs := s.host.msgs.filter (fun m => decide (m.ten ≠ t))
    bufs := (mine.filterMap (fun m => m.done.map (fun d => d.1))) ++ s.host.bufs } }

/-- Credits and answers of the epoch before are dropped and counted (R221). -/
def State.dropInFlight (s : State) (t : Nat) : State :=
  let c := s.noc.credits.filter (fun x => decide (x.ten = t))
  let a := s.noc.answers.filter (fun x => decide (x.ten = t))
  let s := { s with noc := { s.noc with
    credits := s.noc.credits.filter (fun x => decide (x.ten ≠ t))
    answers := s.noc.answers.filter (fun x => decide (x.ten ≠ t)) } }
  { s with fm := { s.fm with dropped := min 0xFFFFFFFF (s.fm.dropped + c.length + a.length) } }

/-! ### RECOVERY completions (Table 7-8) -/

def rkMasked : Nat := 1
def rkRolledBack : Nat := 2
def rkPartition : Nat := 3
def rkNoSpare : Nat := 4
def rkLost : Nat := 5

/-- The tenant's ring for RECOVERY and LATE_ERROR completions. -/
def State.errRing (s : State) (t : Nat) : Nat := s.rfld (0x71000 + 4 * t) 21 3

/-- Posts a RECOVERY completion. STRETCH_US is a time, so it is a free value but for PARTITION (log entry 3). -/
def State.recoveryCpl (s : State) (t kind logSeq k e : Nat) : State :=
  let r := s.freshNat
  let us := if kind = rkPartition then 0 else r.1 % 2 ^ 32
  r.2.unsolicited t (s.errRing t) 0x04 32
    (leBytes kind 1 ++ zeros 1 ++ leBytes logSeq 2 ++ leBytes k 8 ++ leBytes e 8 ++ leBytes us 4 ++ zeros 4)
/-- A late error is recorded, and its completion posted while fewer than 256 wait (R228, Table 7-7). -/
def State.lateError (s : State) (t addr : Nat) (body : List Byte) : State :=
  let s := s.report 0x0130 clsTenant 0 (some t) addr
  if (s.host.cpls.filter (fun c => decide (c.fn = t ∧ c.typ = 5))).length < 256 then s.unsolicited t (s.errRing t) 0x05 256 body
  else
    let k := s.fm.lateLost + 1
    ({ s with fm := { s.fm with lateLost := k } }).report 0x0131 clsTenant 0 (some t) k

/-- Every tenant with an image tile on a tile without a place becomes SWAPPED with return state HELD and cause NO_SPARE; its
state is its newest checkpoint and its log (R216 item 3). Its recovery and a rebalance of it end. -/
def State.noSpare (s : State) (t : Nat) : State :=
  let seq := ((s.ten t).recov.map (fun r => r.logSeq)).getD s.lastSeq
  let s := (((s.holdNow t [4]).endRebal t stBadState).endRefit t).unbind t true
  let s := s.updTen t (fun v => { v with run := .swapped, back := .held, fromCkpt := true, recov := none, affected := false
                                         moving := false, tapVec := [], trapCodes := [], swapSlot := none })
  let s := s.resumeTrace t
  (s.recoveryCpl t rkNoSpare seq (2 ^ 64 - 1) (s.ten t).lastEcyc).remode.place

/-! ### The journal (R214) -/

/-- Bytes of the region at which a deep memory of the tenant starts. -/
def State.memBase (s : State) (t memid : Nat) : Option Nat :=
  ((s.ten t).img.bind (fun i => i.mem memid)).map (fun e => s.rbase t + e.base)

/-- Applies the journal entries tagged `k` or later, newest first, and takes them out. -/
def State.applyJournal (s : State) (t k : Nat) : State :=
  let js := ((s.ten t).journal.filter (fun j => decide (k ≤ j.k))).reverse
  let ds := js.foldl (fun m j => match s.memBase t j.memid with
    | some a => Mem.writeBytes m (a + 64 * j.line) j.data
    | none => m) s.ds
  let s := { s with ds := ds }
  s.updTen t (fun v => { v with journal := v.journal.filter (fun j => decide (j.k < k)), jTag := k })

/-- A write of the line needs a journal entry that is not there yet (R214). -/
def State.needsJournal (s : State) (t memid line ecyc : Nat) : Bool :=
  let v := s.ten t
  !v.journal.any (fun j => decide (j.k = min v.jTag ecyc ∧ j.memid = memid ∧ j.line = line)) && (s.memBase t memid).isSome
/-- The first write to a line after the newest checkpoint copies its prior content into the journal (R214). A write of an
ecycle before that checkpoint carries its ecycle as tag, so that a restore of the checkpoint keeps it (log entry 29). -/
def State.journalLine (s : State) (t memid line ecyc : Nat) : State :=
  let v := s.ten t
  let tag := min v.jTag ecyc
  if v.journal.any (fun j => decide (j.k = tag ∧ j.memid = memid ∧ j.line = line)) then s
  else
    match s.memBase t memid with
    | some a =>
      let e : JEnt := { k := tag, memid := memid, line := line, data := s.ds.readBytes (a + 64 * line) 64 }
      (s.journalAdd t e).earlyCheckpoint t
    | none => s

/-! ### The end of a replay -/

/-- The ecycle count at which a rollback ends (R223): before the first failed deep access of the replay, or at c. -/
def Recovery.stopAt (r : Recovery) : Nat :=
  match r.kind, r.failedAt with
  | .rolledBack, some e => max r.k (min e r.upTo)
  | _, _ => r.upTo

/-- Captures of a tenant that was not in tiles, or had no tile image, stop it at the boundary where it now stands (R206, R38
item 1). -/
def State.capResume (s : State) (t : Nat) : State :=
  if s.cap.queue.any (fun q => decide (q.ten = t ∧ q.due ≤ (s.ten t).done) && !q.kind.any CapKind.full) then
    s.updTen t (fun v => { v with moving := true })
  else s
/-- The replay has passed the last completed ecycle (Table 7-6, event 6): the tenant goes on in its run state, or is HELD
after a rollback, a double fault or a partition. A restore that masks no fault posts no RECOVERY completion (log entry
22). A tenant that has gone back counts its neighbours' ecycles from there. -/
def State.finishReplay (s : State) (t : Nat) (r : Recovery) : State :=
  let n := r.stopAt
  let s := s.updTen t (fun v => { v with
    recov := none, affected := false, done := n, bndSent := min v.bndSent n
    bnd := if n < v.done then v.bnd.map (fun e => (e.1, min e.2 n)) else v.bnd })
  let e := (s.ten t).lastEcyc
  let s := (s.faultEvent t 3 r.logSeq e).resumeTrace t
  let s := match r.kind with
    | .rolledBack =>
      let s := ((s.report 0x0114 clsTenant 0 (some t) e).holdNow t [4])
      s.recoveryCpl t rkRolledBack r.logSeq r.k e
    | .partition => s.report 0x0121 clsTenant 0 (some t) e
    | .doubleFault => s.holdNow t [3]
    | .swapIn => s
    | .masked =>
      let s := s.report 0x0110 clsMasked 0 (some t) r.k
      s.recoveryCpl t rkMasked r.logSeq r.k e
  (s.capResume t).boundary t

/-- Events 2 and 3 of a recovery: the epochs advance, what was in flight is dropped, the restore asks for its tokens (R249), the
refit ends and the device enters REPLAY. -/
def State.placed (s : State) (t : Nat) : State :=
  let s := ((s.advanceEpochs t).dropInFlight t).discardMessages t
  let n := ((s.ten t).recov.map (fun r => r.logSeq)).getD 0
  let q := s.askTokens 0 t (stateSlot (s.ten t).ntiles)
  let s := q.2.updTen t (fun v => { v with recov := v.recov.map (fun r => { r with phase := .placed, ltiles := [], tok := q.1 }) })
  (((s.faultEvent t 2 n (s.ten t).lastEcyc).endRefit t).remode).place

/-- Messages that an image replayed from a saved state lands again: those logged from its ecycle on, but for the first
`landed` of that ecycle, which the saved deep memories hold (R220, R361). -/
def Saved.redo (v : Saved) (log : List LogRec) : List LogRec :=
  ((log.filter (fun e => decide (e.typ = 1 ∧ e.ecyc = v.k))).drop v.landed) ++
    log.filter (fun e => decide (e.typ = 1 ∧ v.k < e.ecyc))
/-- Event 4: the journal is applied and the tiles hold the checkpoint; a tenant with nothing to replay is done (R219). -/
def State.restored (s : State) (t : Nat) (r : Recovery) (v : Saved) : State :=
  let s := (s.applyJournal t v.k).loadTenant t v
  let r := { r with k := v.k, phase := .replay, upTo := max v.k r.upTo }
  let s := s.updTen t (fun x => { x with
    recov := some r, tapVec := [], trapCodes := [], outSeq := [], edgeGrp := [((v.k + 1) % 2, v.edge)]
    redoMsg := v.redo x.log })
  if r.stopAt ≤ v.k then s.finishReplay t r else s.remode

/-- The checkpoint that a restore reads (R220, R223): `newBad` and `oldBad` say that the newest or the older slot cannot be
read. -/
def Tenant.readable (t : Tenant) (k : Nat) (newBad oldBad : Bool) : Option Saved :=
  let old := t.older.bind (fun c => if oldBad then none else some c)
  match t.newest with
  | none => t.img.map Image.initial
  | some a => if a.k = k then (if newBad then old else some a) else if k = 0 ∧ t.older = none then none else old

/-- The tenant's state is lost (R223). -/
def State.lost (s : State) (t : Nat) (r : Recovery) : State :=
  let e := (s.ten t).lastEcyc
  let s := s.report 0x0115 clsTenant 0 (some t) r.k
  let s := s.recoveryCpl t rkLost r.logSeq (2 ^ 64 - 1) e
  ((s.dropImage t).markStop t).remode

end Sys2Proof.Machine
end

