-- ==== Sys2Proof/Machine/TileRegs.lean ====
section
/-!
DEFINITION. The read-only engine and sequencer registers of a tile as views of its state (Tables 2-9, 2-10, 3-13 to 3-17).
-/
namespace Sys2Proof.Machine

/-- PHASE of TIL_ESTAT. -/
def Tile.phase (t : Tile) : Nat :=
  if !t.hasImg then 6
  else if t.dfault then 7
  else if !t.inEcyc then (if t.atClosed then 5 else 4)
  else
    match t.stage with
    | .none => if t.gateWait then 1 else 0
    | .operand | .sequenced => 2
    | _ => 3
/-- TIL_ESTAT (Table 2-9). -/
def Tile.estat (t : Tile) : Nat :=
  t.stepNo + 2 ^ 11 * (t.ecyc % 2) + 2 ^ 12 * t.phase + 2 ^ 16 * (if t.phase = 1 then t.waitWords else 0)
/-- TIL_SEQ_STAT (Table 3-13); a tile without an image reads 0. -/
def Tile.seqStat (t : Tile) : Nat :=
  if t.hasImg then
    t.sp + 2 ^ 11 * min 8 t.sp + 2 ^ 15 * b2n t.topExc.isSome + 2 ^ 16 * t.loopIdx + 2 ^ 28 * b2n t.dfault
  else 0
/-- TIL_SEQ_FAULT (Table 3-14). -/
def Tile.seqFault (t : Tile) : Nat :=
  if t.hasImg then
    t.excCause + 2 ^ 4 * t.dfCause + 2 ^ 8 * t.excCode + 2 ^ 16 * t.excStep + 2 ^ 27 * b2n t.excSeen
  else 0
/-- Depth D of the loaded program. -/
def Tile.depthLast (t : Tile) : Nat := t.prog.depth - 1
/-- TIL_SEQ_CFG0 (Table 3-16). -/
def Tile.seqCfg0 (t : Tile) : Nat := if t.hasImg then fld t.prog.seqCfg.toNat 0 12 + 2 ^ 16 * t.depthLast else 0

end Sys2Proof.Machine
end

