-- ==== Sys2Proof/Machine/CapOps.lean ====
section
/-!
DEFINITION. Captures, shared operations: requests and the queue (R202, R203), moves (R204 to R207) and the bytes of a record
(R208).
-/
namespace Sys2Proof.Machine

/-! ### The record (R208) -/

/-- Words of 8 bytes from a table, entries `0` to `n − 1`. -/
def wordBytes (m : Map DWord) (n : Nat) : List Byte := (List.range n).flatMap (fun i => leBytes (Map.get m 0 i).toNat 8)
/-- `bs` padded with zeros to a multiple of 64. -/
def pad64 (bs : List Byte) : List Byte := bs ++ zeros (roundUp bs.length 64 - bs.length)
/-- A section (R155, Table 5-1). -/
def capSec (typ tile mod count : Nat) (payload : List Byte) : List Byte :=
  pad64 (leBytes typ 2 ++ leBytes 1 1 ++ zeros 1 ++ leBytes tile 2 ++ leBytes mod 1 ++ zeros 1 ++ leBytes payload.length 8 ++
    leBytes count 4 ++ leBytes (crc32c payload) 4 ++ zeros 8 ++ pad64 payload)
/-- The 128 bytes of CAP_SEQ (Table 6-16). -/
def seqBytes (trapCnt : Word) (t : Option Tile) : List Byte :=
  let b := leBytes trapCnt.toNat 4 ++ match t with
    | some v => leBytes v.seqStat 4 ++ leBytes v.seqFault 4 ++ leBytes v.estat 4 ++
        (v.stack.reverse).flatMap (fun f => leBytes f.encode.toNat 8)
    | none => []
  (b ++ zeros 128).take 128
/-- The CAP_RETAIN, CAP_ARRAY, CAP_MAC and CAP_SEQ payloads of a tile in a state slot (R499). -/
def slotTile (v : TileSave) : List Byte :=
  wordBytes v.ret 32768 ++ wordBytes v.banks 131072 ++ wordBytes v.acc 16 ++ seqBytes v.trapCnt none
/-- A state goes into a state slot (R499): the device's own header, free bytes; the tiles by ascending image tile; and the CAP_EDGE
payload. -/
def State.writeSlot (s : State) (t a : Nat) (v : Saved) : State :=
  let body := v.tiles.flatMap (fun e => slotTile e.2) ++ (v.edgeRec ++ zeros 448).take 448
  (s.freeBytes a 4096).dsWrite (a + 4096) ((body ++ zeros (stateSlot (s.ten t).ntiles)).take (stateSlot (s.ten t).ntiles - 4096))
/-- The sections of one image tile, by ascending TYPE. -/
def tileSections (mod it : Nat) (v : TileSave) (full : Option Tile) : List (List Byte) :=
  [capSec 0x0300 it mod 32768 (wordBytes v.ret 32768), capSec 0x0301 it mod 131072 (wordBytes v.banks 131072),
   capSec 0x0302 it mod 16 (wordBytes v.acc 16), capSec 0x0303 it mod 1 (seqBytes v.trapCnt full)] ++
  match full with
  | some t => [capSec 0x0304 it mod 32768 (wordBytes t.cur 32768)]
  | none => []
/-- An entry of CAP_BADWORD (Table 6-16), read by the hub. -/
def badEntry (b : Nat × Nat × Nat) : List Byte := leBytes (b.1 + 2 ^ 8 * b.2.1 + 2 ^ 12 * b.2.2 + 2 ^ 25 * 2) 8
/-- The sections of a record. CAP_EDGE is always there, CAP_BADWORD when a word is bad (log entry 26). -/
def CapRec.sections (r : CapRec) (mod : Nat) : List (List Byte) :=
  r.saved.tiles.flatMap (fun e => tileSections mod e.1 e.2
      (if r.kind.full then some (Map.get r.full {} e.1) else none)) ++
  (if r.bad.isEmpty then [] else [capSec 0x0305 0xFFFF 0 r.bad.length (r.bad.flatMap badEntry)]) ++
  [capSec 0x0310 0xFFFF 0 (leAt r.edge 0 1) r.edge]
/-- The bytes of a capture record (Tables 6-15 and 6-16) of a module with ID `id` and lattice-map index `mod`. -/
def CapRec.bytes (r : CapRec) (id mod : Nat) : List Byte :=
  let secs := r.sections mod
  let body := secs.flatten
  let head := leBytes 0x5041434B 4 ++ leBytes 1 1 ++ leBytes r.kind.code 1 ++ leBytes r.ten 1 ++ leBytes id 1 ++
    leBytes r.ecyc 8 ++ leBytes r.sec 8 ++ leBytes r.ns 4 ++ leBytes r.flags 4 ++ leBytes r.saved.tiles.length 2 ++
    leBytes secs.length 2 ++ leBytes r.seq 4 ++ leBytes (128 + body.length) 8 ++ leBytes r.src 4
  head ++ leBytes (crc32c head) 4 ++ zeros 72 ++ body

/-- CAP_EDGE payload of a tenant (Table 14-8). -/
def State.edgePayload (s : State) (t : Nat) : List Byte :=
  let gs := s.banksOf t
  leBytes gs.length 1 ++ zeros 7 ++ gs.flatMap (fun g =>
    let b := s.bank g
    leBytes g 1 ++ leBytes (b2n (s.bankFree g) + 2 * b.stage.code) 1 ++ zeros 6 ++ leBytes b.grpOut.toNat 8 ++
      leBytes b.grpIn.toNat 8 ++ leBytes (b.tcyc + b.outFifo.length) 8)

/-! ### The forecast (R203) -/

/-- The state of a SWAPPED tenant's tile image: its swap slot, or what drains to it (R206, R243). -/
def State.swapImage (s : State) (t : Nat) : Option Saved :=
  match s.sched.draining.find? (fun e => decide (e.1 = t)) with
  | some e => some e.2.1
  | none => if (s.ten t).fromCkpt then none else
      match (s.ten t).swapSlot with
      | some v => some v
      | none => if (s.ten t).done = 0 then (s.ten t).img.map Image.initial else none

/-- Bytes of the record that an entry makes, as the forecast counts them. -/
def State.capSize (s : State) (q : CapEnt) : Nat :=
  let n := (s.ten q.ten).ntiles
  let full := q.kind.any CapKind.full
  128 + n * (secBytes 262144 + secBytes 1048576 + 2 * secBytes 128 + (if full then secBytes 262144 else 0)) +
    secBytes (8 + 32 * (s.banksOf q.ten).length)
/-- Bytes of the hub store's general pool (Table 11-7). -/
def poolBytes : Nat := 248 * 2 ^ 20
/-- Transit units of 64 KiB in use (R251, R326): one for each transfer whose tokens are granted and whose bytes still pass, of a DMA
engine, of a restore and of a load check (log entry 59). -/
def State.transitUnits (s : State) : Nat :=
  ((s.host.xfers.take 16).filter (fun x => decide (x.opc ≠ 0x21) && !s.tokWaits 4 x.tok)).length +
  (s.tenants.filter (fun e => e.2.recov.any (fun r => decide (r.phase = .placed) && !s.tokWaits 0 r.tok))).length +
  (s.tenants.filter (fun e => e.2.load.any (fun j => !s.tokWaits 2 j.tok))).length
/-- Units of the transit floor (Table 11-7). -/
def transitFloor : Nat := 31
/-- Bytes of the general pool that are held (R251, R327): by the move under way, by records, checkpoints and swapped-out states that
have not landed, and by the transit units that the floor does not take. -/
def State.poolHeld (s : State) : Nat :=
  65536 * (s.transitUnits - transitFloor) +
  (match s.cap.moving with | some q => s.capSize q | none => 0) +
  sumNat (s.cap.draining.map (fun r => s.capSize { ten := r.ten, due := 0, kind := some r.kind })) +
  sumNat (s.tenants.map (fun e => sumNat (e.2.ckptMoved.map (fun v => stateSlot v.1.tiles.length)))) +
  sumNat (s.sched.draining.map (fun e => stateSlot e.2.1.tiles.length))
/-- A full-size move of `n` bytes has its space (R204, R251); one larger than the pool takes it when it is empty
(log entry 46). -/
def State.poolRoom (s : State) (n : Nat) : Bool := decide (s.poolHeld = 0 ∨ s.poolHeld + n ≤ poolBytes)
/-- CAP_QSTAT.RATE: the drain rate in GB/s, from the tokens of 4 KiB per microsecond (R249). -/
def State.capRate (s : State) : Nat := s.sched.rate * 4096 / 1000
/-- The FORECAST of a request (R203, Table 12-10): its place in the queue from 1, and the wait, rounded up. -/
def State.forecast (s : State) (d : DRef) : State :=
  match s.cap.queue.findIdx? (fun q => q.cmds.contains d) with
  | none => s
  | some i =>
    let ahead := sumNat ((s.cap.queue.take i).map s.capSize) + (match s.cap.moving with | some q => s.capSize q | none => 0)
    let us := min 0xFFFFFFFF ((ahead + s.capRate * 1000 - 1) / (s.capRate * 1000))
    s.postFor d 0x07 stOk (.raw (zeros 2 ++ leBytes d.tag.toNat 2 ++ leBytes d.dseq.toNat 8 ++ leBytes (i + 1) 2 ++ zeros 2 ++
      leBytes us 4 ++ zeros 8))

/-- A reserved entry that a descriptor does not use is free again (R353). -/
def State.releaseResv (s : State) (d : DRef) : State :=
  if d ∈ s.host.orphans then s
  else s.setCq d.fn d.cq { s.cq d.fn d.cq with resv := (s.cq d.fn d.cq).resv - 1 }

/-! ### Moves (R204 to R207) -/

/-- The entry can move now: the tenant's tiles stand stopped for it, or its tile image is read (R206, R38 items 1, 9); not while a
partition is open (R227). -/
def State.capReady (s : State) (q : CapEnt) : Bool :=
  let tn := s.ten q.ten
  if q.kind.any CapKind.full then (s.boundTiles q.ten).all (fun l => (s.tile l).settled)
  else if s.partOpen q.ten then false
  else if tn.run = .swapped then (s.swapImage q.ten).isSome
  else tn.moving && s.noEcycle q.ten && tn.recov.isNone && decide (q.due ≤ tn.done)

/-- A full-size move waits for space (R327). -/
def State.moveWaits (s : State) : Bool :=
  s.cap.moving.isNone && (match s.cap.queue.find? s.capReady with | some q => !s.poolRoom (s.capSize q) | none => false)
/-- A transfer beyond the transit floor waits for its unit while a full-size move waits (R327). -/
def State.unitWaits (s : State) : Bool := decide (transitFloor < s.transitUnits) && s.moveWaits
/-- The words of a move that are marked as bad (R144, R207). -/
def badWords (l : List BadWord) : List BadWord := l.filter (fun b => decide (b.found = .uncorrectable))
/-- The state that an entry moves; a word that the hub did not read right stands there as it was read. -/
def State.capSaved (s : State) (t : Nat) (bad : List BadWord) : Saved :=
  let v := if (s.ten t).run = .swapped then (s.swapImage t).getD { k := 0, tiles := [] } else s.saveTenant t
  let put := fun (it : Nat) (m : Map DWord) => (bad.filter (fun b => decide (b.itile.val = it ∧ b.found ≠ .corrected))).foldl
    (fun m b => Map.set m (8192 * b.bank.val + b.word.toNat) b.raw) m
  { v with tiles := v.tiles.map (fun e => (e.1, { e.2 with banks := put e.1 e.2.banks })), edgeRec := s.edgePayload t }

/-- The record of an entry, on its way to the deep store (R202, R204). Where the tiles of a FAULT or SAFE capture stand in
different ecycles, ECYCLE is that of the lowest logical tile (log entry 86). -/
def State.capRecord (s : State) (q : CapEnt) (k : CapKind) (bad : List BadWord) : State :=
  let tn := s.ten q.ten
  let img := decide (tn.run = .swapped)
  let tiles := s.tilesByImage q.ten id
  let e := if k.full then (((s.boundTiles q.ten).head?).map (fun l => (s.tile l).ecyc)).getD tn.done else tn.lastEcyc
  let r := s.askTokens (if k.full then 0 else 5) q.ten (s.capSize q)
  let s := r.2
  let rec' : CapRec := { kind := k, ten := q.ten, slot := (q.seq - 1) % max 1 tn.capSlots, seq := q.seq
                         flags := b2n k.full + 2 * b2n (!(badWords bad).isEmpty) + 4 * b2n img + 8 * b2n q.overwr, ecyc := e, src := q.src
                         sec := tn.stopS, ns := tn.stopNs, cmds := q.cmds, saved := s.capSaved q.ten bad
                         full := if k.full then tiles else []
                         bad := (badWords bad).map (fun b => (b.itile.val, b.bank.val, b.word.toNat)), edge := s.edgePayload q.ten
                         tok := r.1, base := s.rbase q.ten + tn.capOff
                         me := (tn.img.map (fun (i : Image) => i.me)).getD 0 }
  { s with cap := { s.cap with draining := s.cap.draining ++ [rec'] } }

/-- What one move gives each destination of an entry: a record, a checkpoint (R205). A checkpoint with a word that cannot
be read is not kept (log entry 27). -/
def State.capEffects (s : State) (q : CapEnt) (bad : List BadWord) : State :=
  let s := match q.kind with
    | some k => if q.seq = 0 then s else s.capRecord q k bad
    | none => s
  if q.ckpt && (badWords bad).isEmpty then
    let v := s.capSaved q.ten bad
    let r := s.askTokens 1 q.ten (stateSlot v.tiles.length)
    r.2.updTen q.ten (fun x => { x with ckptMoved := x.ckptMoved ++ [(v, r.1)] })
  else s

/-- What a read of the hub leaves at the tile (R141, R143): a correction is counted, and an error of three or more bits that was not
found leaves the word as it was read. -/
def State.hubCount (s : State) (t : Nat) (b : BadWord) : State :=
  match s.tileOf t b.itile with
  | none => s
  | some l =>
    let put := fun (v : Tile) => { v with banks := Map.set v.banks (8192 * b.bank.val + b.word.toNat) b.raw }
    match b.found with
    | .corrected => s.updTile l (fun v => v.countCe b.bank)
    | .miscorrected => s.updTile l (fun v => put (v.countCe b.bank))
    | .undetected => s.updTile l put
    | .uncorrectable => s.updTile l (fun v => v.setUe b.bank 2)
/-- A word that the hub finds uncorrectable makes the tile faulty (R144, R207). -/
def State.hubUe (s : State) (t : Nat) (b : BadWord) : State :=
  match s.tileOf t b.itile with
  | some l => s.arrayUe t l b.bank b.word.toNat
  | none => s
/-- The findings of the hub on a tenant's tiles. -/
def State.hubFinds (s : State) (t : Nat) (found : List BadWord) : State :=
  (badWords found).foldl (fun s b => s.hubUe t b) (found.foldl (fun s b => s.hubCount t b) s)

/-- The boundary is released when nothing more of the tenant's state has to leave the tiles (R204, R205); what waited for the
release takes effect (R206). -/
def State.releaseMove (s : State) (t : Nat) : State :=
  if s.leaving t || s.cap.queue.any (fun q => decide (q.ten = t ∧ q.due ≤ (s.ten t).done)) then s
  else (s.updTen t (fun v => { v with moving := false })).settle t

end Sys2Proof.Machine
end

