-- ==== Sys2Proof/Machine/AcqOps.lean ====
section
/-!
DEFINITION. Acquisition channels: records, the staging buffer, the ring and the transitions of Table 6-11 (R196 to R201).
-/
namespace Sys2Proof.Machine

def State.acqOf (s : State) (c : Nat) : Acq := Map.get s.trig.acq {} c
def State.setAcq (s : State) (c : Nat) (v : Acq) : State := { s with trig := { s.trig with acq := Map.set s.trig.acq c v } }
def State.updAcq (s : State) (c : Nat) (f : Acq → Acq) : State := s.setAcq c (f (s.acqOf c))
/-- Offset of ACQ_CTL. -/
def acqReg (c : Nat) : Nat := 0xD8000 + 0x40 * c
def State.acqOwner (s : State) (c : Nat) : Nat := s.rfld (acqReg c) 0 8
def State.acqSeq (s : State) (c : Nat) : Nat := s.rfld (acqReg c) 8 4
def State.acqMode (s : State) (c : Nat) : Nat := s.rfld (acqReg c) 12 2
/-- Ring size in bytes. -/
def State.acqSize (s : State) (c : Nat) : Nat := 2 ^ s.rfld (acqReg c) 16 6
/-- BASE, the byte offset of the ring in the owner's region. -/
def State.acqBase (s : State) (c : Nat) : Nat := s.reg (acqReg c + 0x10) + 2 ^ 32 * s.reg (acqReg c + 0x14)
/-- RUN, POST or PACING. -/
def AcqState.runs (a : AcqState) : Bool := decide (a = .run ∨ a = .post ∨ a = .pacing)
/-- Code of Table 6-13. -/
def AcqState.code (a : AcqState) : Nat :=
  match a with | .off => 0 | .run => 1 | .post => 2 | .stopped => 3 | .pacing => 4 | .frozen => 5

/-- A record (R197, Table 6-10). -/
def acqRecord (typ chan ten flags e sec ns aux : Nat) (payload : List Byte) : List Byte :=
  let p := payload ++ zeros (roundUp payload.length 32 - payload.length)
  leBytes typ 1 ++ leBytes chan 1 ++ leBytes ten 1 ++ leBytes flags 1 ++ leBytes (32 + p.length) 4 ++ leBytes e 8 ++
    leBytes sec 6 ++ zeros 2 ++ leBytes ns 4 ++ leBytes aux 4 ++ p

/-- Bytes in the channel's hub staging. -/
def Acq.staged (a : Acq) : Nat := sumNat (a.staging.map (fun r => r.1.length))
/-- TYPE and ECYCLE of a record. -/
def recTyp (r : List Byte) : Nat := leAt r 0 1
def recEcyc (r : List Byte) : Nat := leAt r 8 8
/-- A record has room in staging and, where the mode keeps the ring's records, in the ring: in MODE STOP all of it but the 64 bytes
kept for an OVERFLOW or SAFE mark (R199, R200). -/
def State.acqHasRoom (s : State) (c : Nat) (r : List Byte) : Bool :=
  let a := s.acqOf c
  let n := r.length
  let ring := a.widx - a.ridx + a.staged + n
  decide (a.staged + n ≤ 262144) &&
    (if s.acqMode c = 1 then decide (ring + (if recTyp r = 0x13 ∨ recTyp r = 0x16 then 0 else 64) ≤ s.acqSize c)
     else if s.acqMode c = 2 then decide (ring ≤ s.acqSize c) else true)
/-- A record fits: no earlier one waits, and it has room. -/
def State.acqFits (s : State) (c : Nat) (r : List Byte) : Bool := (s.acqOf c).held.isEmpty && s.acqHasRoom c r
/-- A record enters staging and asks for its token. -/
def State.acqStage (s : State) (c : Nat) (r : List Byte) : State :=
  let q := s.askTokens 5 (s.acqOwner c) r.length
  q.2.updAcq c (fun a => { a with
    staging := a.staging ++ [(r, q.1)], recTo := if recTyp r = 1 then recEcyc r + 1 else a.recTo })
/-- Records that wait enter staging as far as there is room. -/
def State.acqDrain (s : State) (c : Nat) : List (List Byte) → State
  | [] => s.updAcq c (fun a => { a with held := [] })
  | r :: rest => if s.acqHasRoom c r then (s.acqStage c r).acqDrain c rest else s.updAcq c (fun a => { a with held := r :: rest })
/-- The GAP mark of a WRAP channel joins the records that wait (R198): the ecycles lost. -/
def State.acqGap (s : State) (c : Nat) : State :=
  match (s.acqOf c).gap with
  | some (e, n) => s.updAcq c (fun a => { a with
      gap := none, gapSeen := true, held := a.held ++ [acqRecord 0x14 c (s.acqOwner c) 0 e s.thy.sec s.thy.ns n []] })
  | none => s
/-- A record that a transition names is written before any of a later ecycle, and after those before it: where there is no room
it waits (R198; log entry 23). -/
def State.acqPut (s : State) (c : Nat) (r : List Byte) : State :=
  let s := s.acqGap c
  s.acqDrain c ((s.acqOf c).held ++ [r])
/-- A mark record with the stamp of the present. -/
def State.acqMark (s : State) (c typ e aux : Nat) : State :=
  s.acqPut c (acqRecord typ c (s.acqOwner c) 0 e s.thy.sec s.thy.ns aux [])
/-- The last ecycle recorded, or the one before the first to be recorded (R197; log entry 23). -/
def Acq.lastRec (a : Acq) : Nat := (a.recTo + 2 ^ 64 - 1) % 2 ^ 64
/-- A record does not fit in MODE STOP (Table 6-11): OVERFLOW, with the first ecycle not recorded. -/
def State.acqOverflow (s : State) (c e : Nat) : State :=
  (s.acqMark c 0x13 e 0).updAcq c (fun a => { a with st := .stopped, ovf := true })
/-- STOP in RUN or POST (Table 6-11). In MODE STOP an end that does not fit is an OVERFLOW. -/
def State.acqStop (s : State) (c : Nat) : State :=
  let a := s.acqOf c
  if a.st = .run ∨ a.st = .post then
    if s.acqMode c = 1 ∧ s.acqFits c (acqRecord 0x12 c (s.acqOwner c) 0 a.lastRec s.thy.sec s.thy.ns 0 []) = false then
      s.acqOverflow c a.recTo
    else (s.acqMark c 0x12 a.lastRec 0).updAcq c (fun a => { a with st := .stopped })
  else s
/-- START (Table 6-11): the first ecycle to be recorded is `e`. -/
def State.acqStart (s : State) (c e : Nat) : State :=
  let a := s.acqOf c
  if a.st = .off ∨ a.st = .stopped then
    (s.acqMark c 0x10 e 0).updAcq c (fun a => { a with
      st := .run, lost := 0, postLeft := 0, lastGroups := none, nextE := e, recTo := e, waiting := [] })
  else s
/-- What a DATA or VIOLATION record of ecycle `e` comes to, by the mode (Table 6-11): it is staged, waits in PACING, or is lost under
an OVERFLOW or a GAP with `n` ecycles. -/
def State.acqTake (s : State) (c e n : Nat) (r : List Byte) : State :=
  let a := s.acqOf c
  let lose := fun (s : State) => s.updAcq c (fun x => { x with lost := min 0xFFFFFFFF (x.lost + n) })
  if a.st = .pacing then s.updAcq c (fun x => { x with waiting := x.waiting ++ [r] })
  else if a.gap.isSome then lose (s.updAcq c (fun x => { x with gap := x.gap.map (fun g => (g.1, g.2 + n)) }))
  else if s.acqFits c r then s.acqStage c r
  else if s.acqMode c = 1 then lose (s.acqOverflow c (max e a.recTo))
  else if s.acqMode c = 2 then s.updAcq c (fun x => { x with st := .pacing, pacingFrom := x.st, waiting := [r] })
  else lose (s.updAcq c (fun x => { x with gap := some (max e a.recTo, n) }))
/-- The channel records after its trigger (FLAGS.POST). -/
def Acq.inPost (a : Acq) : Bool := decide (a.st = .post ∨ (a.st = .pacing ∧ a.pacingFrom = .post))

/-- The selected groups of a tap vector, in ascending number. -/
def State.acqGroups (s : State) (c : Nat) (v : BitVec 4096) : List DWord :=
  let m := s.reg (acqReg c + 0x08) + 2 ^ 32 * s.reg (acqReg c + 0x0C)
  ((List.range 64).filter (fun g => m.testBit g)).map (fun g => BitVec.ofNat 64 (v.toNat >>> (64 * g)))

/-- The post-trigger count falls; at 0 the channel stops (Table 6-11). -/
def State.acqCount (s : State) (c : Nat) : State :=
  let a := s.acqOf c
  if a.st = .post then
    let s := s.setAcq c { a with postLeft := a.postLeft - 1 }
    if a.postLeft ≤ 1 then s.acqStop c else s
  else if a.st = .pacing ∧ a.pacingFrom = .post then s.setAcq c { a with postLeft := a.postLeft - 1 }
  else s

/-- The channel takes the tap vector of an ecycle (R198 to R201). -/
def State.acqData (s : State) (c : Nat) (t : TapVec) : State :=
  let a := s.acqOf c
  if !a.st.runs || decide (t.e < a.nextE) then s
  else
    let gs := s.acqGroups c t.vec
    let s := s.setAcq c { a with nextE := t.e + 1 }
    if s.rfld (acqReg c) 15 1 = 1 ∧ a.lastGroups = some gs then s.acqCount c
    else
      let r := acqRecord 0x01 c (s.acqOwner c) (b2n a.inPost) t.e t.sec t.ns gs.length (gs.flatMap (fun g => leBytes g.toNat 8))
      let kept := decide (a.st = .pacing) || (a.gap.isNone && (s.acqFits c r || decide (s.acqMode c = 2)))
      let s := s.acqTake c t.e 1 r
      (if kept then s.updAcq c (fun x => { x with lastGroups := some gs }) else s).acqCount c

/-- ACQ_TRIG at ecycle `e`, whose tap vector was complete at `sec` and `ns` (Table 6-11): TRIGGER after DATA, then POST, or STOPPED
when POST is 0. It may wait in PACING or end in an OVERFLOW as a DATA record does. -/
def State.acqTrig (s : State) (c q e sec ns : Nat) : State :=
  let a := s.acqOf c
  if a.st = .run then
    let r := acqRecord 0x11 c (s.acqOwner c) 0 e sec ns q []
    let n := s.reg (acqReg c + 0x18)
    if s.acqMode c = 1 ∧ s.acqFits c r = false then s.acqOverflow c a.recTo
    else if s.acqMode c = 2 ∧ s.acqFits c r = false then
      s.updAcq c (fun x => { x with st := .pacing, pacingFrom := .post, postLeft := n, waiting := [r] })
    else
      let s := (s.acqPut c r).updAcq c (fun x => { x with st := .post, postLeft := n })
      if n = 0 then s.acqStop c else s
  else s

/-- A VIOLATION record (R189): the observed group and the mismatch bits. -/
def State.acqViolation (s : State) (c unit group : Nat) (obs mis : DWord) (t : TapVec) : State :=
  if (s.acqOf c).st.runs then
    s.acqTake c t.e 0 (acqRecord 0x15 c (s.acqOwner c) (b2n (s.acqOf c).inPost) t.e t.sec t.ns (unit + 2 ^ 8 * group)
      (leBytes obs.toNat 8 ++ leBytes mis.toNat 8))
  else s

/-- The path from the acquisition unit and Chervil to the deep store is healthy: the domains of the hub store, the spine and the
deep store hold (Table 9-4). -/
def State.pathHealthy (s : State) : Bool :=
  (List.range' 48 9).all (fun d => !(Map.get s.pwr.domains {} d).fault)
/-- The channel freezes with SAFE (Table 6-11, R38 item 8), with a SAFE mark where the path is healthy. -/
def State.acqSafe (s : State) (c : Nat) : State :=
  let a := s.acqOf c
  if a.st = .off ∨ a.st = .frozen then s
  else (if s.pathHealthy then s.acqMark c 0x16 a.lastRec 0 else s).updAcq c (fun a => { a with st := .frozen, waiting := [] })
/-- The channel freezes with the DBG domain, with no mark (Table 9-4). -/
def State.acqCut (s : State) (c : Nat) : State :=
  if (s.acqOf c).st = .off then s else s.updAcq c (fun a => { a with st := .frozen, waiting := [], held := [], staging := [], gap := none })

/-- RIDX moves past the oldest whole records until `n` bytes fit (R199, MODE WRAP). -/
def Acq.makeRoom (a : Acq) (size n : Nat) : List Nat → Acq
  | [] => a
  | e :: r => if a.widx + n - a.ridx ≤ size then a else Acq.makeRoom { a with ridx := e, landed := r } size n r

/-- The oldest staged record lands in the ring (R196), in the modes that keep the ring's records once it has room there; an access
past the region is refused (R329). Records that waited for staging follow. In poisoned staging lines `bad` it lands with those lines zero,
and a GAP mark for its ecycle (Table 11-8). -/
def State.acqLand (s : State) (c : Nat) (bad : BitVec 10) : State :=
  let a := s.acqOf c
  match a.staging with
  | [] => s
  | (r, tok) :: rest =>
    let size := s.acqSize c
    let n := r.length
    if s.tokWaits 5 tok || (decide (s.acqMode c ≠ 0) && decide (size < a.widx - a.ridx + n)) then s
    else
      let t := s.acqOwner c
      let a := if s.acqMode c = 0 then a.makeRoom size n a.landed else a
      let s := s.setAcq c { a with staging := rest, widx := a.widx + n, landed := a.landed ++ [a.widx + n] }
      let s := s.acqDrain c a.held
      let z := zeroLines a.widx bad r
      let s := if s.rsize t < s.acqBase c + size then s.regionFault t (s.acqBase c)
        else { s with ds := s.ds.putRing (s.rbase t + s.acqBase c) size a.widx z }
      if z = r then s else (s.stagingUe.updAcq c (fun x => { x with gapSeen := true })).acqMark c 0x14 (recEcyc r) 1

/-- Room has come back to a PACING channel (Table 6-11). -/
def State.acqRoom (s : State) (c : Nat) : State :=
  let a := s.acqOf c
  match a.st, a.waiting with
  | .pacing, r :: rest =>
    if s.acqFits c r then
      let s := (s.acqStage c r).updAcq c (fun x => { x with waiting := rest, st := if rest.isEmpty then x.pacingFrom else x.st })
      if rest.isEmpty && decide (a.pacingFrom = .post ∧ a.postLeft = 0) then s.acqStop c else s
    else s
  | _, _ => s

/-- ACQ_CTL's other fields, as stored (Table 6-12). -/
def acqCtlStored (v : Nat) : Nat :=
  let v := v % 2 ^ 22
  let v := if fld v 12 2 = 3 then setFld v 12 2 1 else v
  setFld v 16 6 (max 16 (min 36 (fld v 16 6)))

/-- A ring that reaches into the carved areas of the owner's region (R234), or whose BASE is no multiple of its size (R196; that
such a write is refused as well is log entry 23). -/
def State.acqRingBad (s : State) (t base size : Nat) : Bool :=
  decide (base % size ≠ 0) || ((s.ten t).img.isSome && s.inCarved t (s.ten t).ntiles base size)

/-- OWNER is written (R198): the channel is OFF; what it had staged is dropped (log entry 23). -/
def State.setAcqOwner (s : State) (c owner : Nat) : State :=
  (s.setReg (acqReg c) (setFld (s.reg (acqReg c)) 0 8 owner)).updAcq c (fun a => { a with
    st := .off, waiting := [], staging := [], held := [], gap := none, postLeft := 0 })
/-- OWNER and SIZE_LOG2 are written: not where the ring would then reach into the carved areas of the new owner (R234). -/
def State.newAcqOwner (s : State) (c owner v : Nat) : State :=
  if s.acqRingBad owner (s.acqBase c) (2 ^ fld v 16 6) then s.accValue (acqReg c)
  else (s.setReg (acqReg c) v).setAcqOwner c owner

/-- A write of ACQ_CTL by function `by'` (R198, Table 6-12). -/
def State.writeAcqCtl (s : State) (by' c v : Nat) : State :=
  let off := acqReg c
  let v := acqCtlStored v
  let old := s.reg off
  if by' ≠ 0 ∧ by' ≠ s.acqOwner c then s.accOwner off
  else if by' = 0 ∧ fld v 0 8 ≠ fld old 0 8 then
    s.newAcqOwner c (fld v 0 8) (setFld v 14 1 0)
  else
    let v := setFld v 0 8 (fld old 0 8)
    let run := bit v 14 = 1
    let same := decide (setFld v 14 1 0 = setFld old 14 1 0)
    let s :=
      if same then s
      else if (s.acqOf c).st.runs then s.accState off
      else if s.acqRingBad (s.acqOwner c) (s.acqBase c) (2 ^ fld v 16 6) then s.accValue off
      else s.setReg off (setFld v 14 1 0)
    if run then s.acqStart c (s.ten (s.acqOwner c)).done
    else s.acqStop c

/-- A write of RIDX (R196, Table 6-13): below RIDX or above WIDX it has no effect. -/
def State.writeAcqRidx (s : State) (by' c v : Nat) : State :=
  let a := s.acqOf c
  if by' ≠ 0 ∧ by' ≠ s.acqOwner c then s.accOwner (acqReg c + 0x28)
  else if v < a.ridx ∨ a.widx < v then s.accValue (acqReg c + 0x28)
  else (s.setAcq c { a with ridx := v, landed := a.landed.filter (fun e => decide (v < e)) }).acqDrain c a.held

end Sys2Proof.Machine
end

