-- ==== Sys2Proof/Machine/AcqCmd.lean ====
section
/-!
DEFINITION. The acquisition commands (R196 to R201).
-/
namespace Sys2Proof.Machine

/-- ACQ_RUN_START (R198): ACQ_CTL is written with RUN = 1 and its other fields as they stand. -/
def execAcqRunStart (c : Unit16) (by' : TenId) (s : State) : Out :=
  if s.dev.mode.configured then .next (s.writeAcqCtl by' c (setFld (s.reg (acqReg c)) 14 1 1)) else .next s

/-- ACQ_RUN_STOP (R198). -/
def execAcqRunStop (c : Unit16) (by' : TenId) (s : State) : Out :=
  if s.dev.mode.configured then .next (s.writeAcqCtl by' c (setFld (s.reg (acqReg c)) 14 1 0)) else .next s

/-- ACQ_OWNER_WRITE (R198): the channel is OFF. -/
def execAcqOwnerWrite (c : Unit16) (by' owner : TenId) (s : State) : Out :=
  if !s.dev.mode.configured then .next s
  else if by'.val ≠ 0 then .next (s.accOwner (acqReg c))
  else .next (s.newAcqOwner c owner (s.reg (acqReg c)))

/-- ACQ_RECORD_LANDED (R196): bit i of `bad` says that the i-th 64-byte staging line of the record, by ring position, is poisoned (Table
11-8). -/
def execAcqRecordLanded (c : Unit16) (bad : BitVec 10) (s : State) : Out := .next (s.acqLand c bad)

/-- ACQ_GAP_ROOM (R198): room has come back to a WRAP channel, and its GAP mark is written. -/
def execAcqGapRoom (c : Unit16) (s : State) : Out :=
  if (s.acqOf c).st.runs && (s.acqOf c).gap.isSome && s.acqFits c (zeros 32) then
    let s := s.acqGap c
    .next (s.acqDrain c (s.acqOf c).held)
  else .next s

/-- ACQ_PACING_ROOM (R198). -/
def execAcqPacingRoom (c : Unit16) (s : State) : Out := .next (s.acqRoom c)

/-- ACQ_PACE_TIMEOUT (R198, R200): a wait of `ms` has reached PACE_LIMIT; the ecycles whose DATA waits are lost. -/
def execAcqPaceTimeout (c : Unit16) (ms : BitVec 16) (s : State) : Out :=
  let a := s.acqOf c
  let n := s.rfld (acqReg c + 0x1C) 0 16
  match a.st, a.waiting with
  | .pacing, r :: _ =>
    if n ≠ 0 ∧ n ≤ ms.toNat then
      .next ((s.acqMark c 0x17 (recEcyc r) 0).updAcq c (fun x => { x with
        st := .stopped, ovf := true, waiting := []
        lost := min 0xFFFFFFFF (x.lost + (a.waiting.filter (fun w => decide (recTyp w = 1))).length) }))
    else .next s
  | _, _ => .next s

/-- ACQ_RIDX_WRITE (R196). -/
def execAcqRidxWrite (c : Unit16) (by' : TenId) (v : DWord) (s : State) : Out :=
  if s.dev.mode.configured then .next (s.writeAcqRidx by' c v.toNat) else .next s

end Sys2Proof.Machine
end

