-- ==== Sys2Proof/Machine/FlashOps.lean ====
section
/-!
DEFINITION. The configuration flash (R435 to R439, R447 to R449): sectors, records and the repair list.
-/
namespace Sys2Proof.Machine

def State.updFlash (s : State) (f : Flash → Flash) : State := { s with cfg := { s.cfg with flash := f s.cfg.flash } }
/-- Codes of Table 15-10. -/
def UStage.code (u : UStage) : Nat :=
  match u with
  | .none => 0 | .download => 1 | .verified => 2 | .activated => 3 | .trial => 4 | .confirmed => 5 | .reverted => 6 | .aborted => 7

/-! ### Sectors (R436, R437, R447) -/

/-- A sector is erased: counted, and recorded once as worn at 90,000. -/
def State.eraseSector (s : State) (n : Nat) : State :=
  let c := satInc (Map.get s.cfg.flash.erases 0 n) 0xFFFFF
  let s := s.updFlash (fun f => { f with erases := Map.set f.erases n c })
  if 90000 ≤ c ∧ s.cfg.flash.worn.contains n = false then
    (s.updFlash (fun f => { f with worn := n :: f.worn })).report 0x0408 clsEvent 0 none n
  else s
/-- The sector that serves for sector `n` of a slot. -/
def State.sectorOf (s : State) (n : Nat) : Nat := Map.get s.cfg.flash.retired n n
/-- A sector is retired (R437): the lowest free spare takes its place, if one is left. -/
def State.retireSector (s : State) (n : Nat) : State :=
  let old := s.sectorOf n
  let k := s.cfg.flash.sparesUsed
  if k < 14 then
    (s.updFlash (fun f => { f with
      retired := Map.set f.retired n (1010 + k), sparesUsed := k + 1, retiredN := satInc f.retiredN 0x7F })).report
      0x0409 clsDegraded 0 none (old + 2 ^ 16 * (1010 + k))
  else
    (s.updFlash (fun f => { f with noSpare := n :: f.noSpare, retiredN := satInc f.retiredN 0x7F })).report
      0x040A clsDegraded 0 none old

/-! ### Records (R438, R439) -/

/-- The newest records whose only copy lies in sector `n` of the ring are copied into the reserved positions of the sector in
use, with fresh RSEQ values. -/
def Flash.saveNewest (f : Flash) (n : Nat) : Flash :=
  let f := match f.state with
    | some r => if r.sec = n then { f with state := some { r with rseq := f.rseq, sec := f.recSec }, rseq := f.rseq + 1 } else f
    | none => f
  (List.range 3).foldl (fun f k => match f.stages.find? (fun e => decide (e.1 = k)) with
    | some e =>
      if e.2.sec = n then
        { f with stages := Map.set f.stages k { e.2 with rseq := f.rseq, sec := f.recSec }, rseq := f.rseq + 1 }
      else f
    | none => f) f
/-- Room for one more record: the ring goes on to its next sector, which is erased where it has been used. -/
def State.recordRoom (s : State) : State :=
  let f := s.cfg.flash
  if f.recIdx < 2040 then s
  else
    let n := (f.recSec + 1) % 32
    let wrap := f.recWrap || decide (n = 0)
    let s := if wrap then (s.updFlash (fun f => f.saveNewest n)).eraseSector (962 + n) else s
    s.updFlash (fun f => { f with recSec := n, recIdx := 0, recWrap := wrap })
/-- A STAGE record is written for a slot (R438). -/
def State.recordStage (s : State) (k : Nat) (u : UStage) (cseq len pcheck : Nat) : State :=
  let s := s.recordRoom
  s.updFlash (fun f => { f with
    stages := Map.set f.stages k { rseq := f.rseq, stage := u, cseq := cseq, len := len, pcheck := pcheck, sec := f.recSec }
    rseq := f.rseq + 1, recIdx := f.recIdx + 1 })
/-- The monotonic counter MC`k`. -/
def State.mc (s : State) (k : Nat) : Nat := Map.get s.cfg.mc 0 k
/-- A STATE record is written: a life-cycle state and the counters in force. -/
def State.recordState (s : State) (lc : Nat) : State :=
  let s := s.recordRoom
  s.updFlash (fun f => { f with
    state := some { rseq := f.rseq, lc := lc, mcs := (List.range 4).map s.mc, sec := f.recSec }
    rseq := f.rseq + 1, recIdx := f.recIdx + 1 })
/-- A counter rises: the new value is recorded (R448). -/
def State.raiseMc (s : State) (k v : Nat) : State :=
  let s := { s with cfg := { s.cfg with mc := Map.set s.cfg.mc k v } }
  s.recordState (s.cfg.lcNext.getD s.cfg.lc)
/-- The newest STAGE record of a slot. -/
def State.stageRec (s : State) (k : Nat) : StageRec :=
  Map.get s.cfg.flash.stages { rseq := 0, stage := .none, cseq := 0, len := 0, pcheck := 0, sec := 0 } k
/-- The highest CSEQ of any record. -/
def State.topCseq (s : State) : Nat := (List.range 3).foldl (fun a k => max a (s.stageRec k).cseq) 0
/-- A stage is written and recorded (R444, R445, Table 15-14). -/
def State.writeStage (s : State) (k : Nat) (u : UStage) (cseq len pcheck : Nat) : State :=
  let s := s.recordStage k u cseq len pcheck
  if u = .reverted then s.report 0x0402 clsEvent 0 none (k + 2 ^ 32 * cseq)
  else if u = .aborted then s
  else s.report 0x0406 clsEvent 0 none (k + 2 ^ 8 * u.code + 2 ^ 32 * cseq)
/-- The newest stage of a slot moves on, its other fields kept. -/
def State.moveStage (s : State) (k : Nat) (u : UStage) : State :=
  let r := s.stageRec k
  s.writeStage k u r.cseq r.len r.pcheck

/-- A DOWNLOAD ends ABORTED with a result (R444, Table 15-13). -/
def State.abortJob (s : State) (result : Nat) : State :=
  match s.cfg.job with
  | none => s
  | some j =>
    let r := s.stageRec j.slot
    let s := s.writeStage j.slot .aborted j.cseq r.len r.pcheck
    let s := { s with cfg := { s.cfg with job := none, updStage := .aborted, updResult := result, updCsp := j.csp } }
    s.report 0x0407 clsEvent 0 none (j.slot + 2 ^ 8 * result)

/-- A row repair joins the repair list (R449): its location in the layout of DS_ROW_REPAIR. -/
def State.recordRepair (s : State) (loc : Nat) : State :=
  s.updFlash (fun f =>
    if f.repairs.length < 65536 then { f with repairs := f.repairs ++ [(loc, f.rseq)], rseq := f.rseq + 1 } else f)

end Sys2Proof.Machine
end

