-- ==== Sys2Proof/Machine/Olp.lean ====
section
/-!
DEFINITION. OLP packages (R425 to R428, R155): the header, the sections, and the identity check of Table 15-2.
-/
namespace Sys2Proof.Machine

/-- A section of a package: its number, its place, its header fields (Table 5-1) and its payload. -/
structure Sec where
  no : Nat
  off : Nat
  typ : Nat
  ver : Nat
  flags : Nat
  tile : Nat
  mod : Nat
  rsv : Nat
  len : Nat
  count : Nat
  check : Nat
  payload : List Byte
deriving DecidableEq, Repr

/-- The section whose header stands at offset `off`. -/
def secAt (bs : List Byte) (off no : Nat) : Sec :=
  let h := (bs.drop off).take 32
  let n := leAt h 8 8
  { no := no, off := off, typ := leAt h 0 2, ver := leAt h 2 1, flags := leAt h 3 1, tile := leAt h 4 2, mod := leAt h 6 1
    rsv := leAt h 7 1 + 256 * leAt h 24 8, len := n, count := leAt h 16 4, check := leAt h 20 4
    payload := (bs.drop (off + 32)).take n }
/-- A section's header, or its payload with its padding, passes the end of the package. -/
def secPasses (bs : List Byte) (off : Nat) : Bool :=
  decide (bs.length < off + 32) || decide (bs.length < off + 32 + roundUp (leAt (bs.drop off) 8 8) 64)
/-- The sections from offset `off` on; none where one passes the end (R155). -/
def sectionsFrom (bs : List Byte) (off no : Nat) : Nat → Option (List Sec)
  | 0 => some []
  | n + 1 =>
    if secPasses bs off then none
    else
      let x := secAt bs off no
      (sectionsFrom bs (off + secBytes x.len) (no + 1) n).map (fun l => x :: l)

/-! ### The header (Table 15-1) -/

def olpKind (bs : List Byte) : Nat := leAt bs 6 1
def olpAuth (bs : List Byte) : Bool := decide (leAt bs 7 1 % 2 = 1)
def olpLength (bs : List Byte) : Nat := leAt bs 0x10 8
def olpSections (bs : List Byte) : Nat := leAt bs 0x18 4
def olpRollback (bs : List Byte) : Nat := leAt bs 0x1C 4
def olpPcheck (bs : List Byte) : Nat := leAt bs 0x28 4
/-- The package as its LENGTH cuts it. -/
def olpBody (bs : List Byte) : List Byte := bs.take (olpLength bs)
/-- The sections of a package, none where they pass its LENGTH. -/
def olpSecs (bs : List Byte) : Option (List Sec) := sectionsFrom (olpBody bs) 0x80 0 (olpSections bs)

/-- Kinds of package (Table 15-1). -/
def kTenant : Nat := 1
def kConfig : Nat := 2
def kBay : Nat := 3
def kRegion : Nat := 4

/-- The path on which a package arrives (Table 15-4). -/
inductive OlpPath where
  | flash | push | update | updateBay | other
deriving DecidableEq, Repr

/-- Table 15-4: what a life-cycle state permits; a tenant or region package never fails it (R429). -/
def lcPermits (lc : Nat) (p : OlpPath) : Bool :=
  match p with
  | .other => true
  | .flash => decide (lc ≠ 0 ∧ lc ≠ 5)
  | .push => decide (lc ≠ 5)
  | .update => decide (lc ≠ 0 ∧ lc ≠ 5)
  | .updateBay => decide (lc = 1 ∨ lc = 4)

/-- Type of an AUTH section. -/
def tAuth : Nat := 0x0402

/-- What the device knows for the check: its life-cycle state, the counter that bounds the kind, and Sage's keys. -/
structure OlpEnv where
  kind : Nat
  path : OlpPath
  limit : Nat
  lc : Nat
  bound : Nat
  keys : Map Nat
  revoked : List Nat

/-- An AUTH section's payload passes (R428, Table 15-3). -/
def authValid (e : OlpEnv) (bs : List Byte) (x : Sec) : Bool :=
  let p := x.payload
  let slot := leAt p 1 1
  let key := (p.drop 8).take 97
  decide (p.length = 208 ∧ leAt p 0 1 = 1 ∧ slot < 4 ∧ leAt p 2 6 = 0 ∧ leAt p 0x69 7 = 0) &&
  (e.keys.any (fun k => decide (k.1 = slot ∧ k.2 = Config.sha384 key))) && !e.revoked.contains slot &&
  Config.sigVerifies (bs.take x.off) key ((p.drop 0x70).take 96)
/-- The AUTH test: the flag agrees with the sections, the section is the last, and it verifies; in SECURE_DEPLOY a package
other than a tenant's has one. -/
def authOk (e : OlpEnv) (bs : List Byte) (l : List Sec) : Bool :=
  match l.getLast? with
  | some x =>
    if olpAuth bs then decide (x.typ = tAuth) && l.dropLast.all (fun y => decide (y.typ ≠ tAuth)) && authValid e bs x
    else l.all (fun y => decide (y.typ ≠ tAuth)) && (decide (e.lc ≠ 3) || decide (e.kind = kTenant))
  | none => !olpAuth bs && (decide (e.lc ≠ 3) || decide (e.kind = kTenant))

/-- A reserved field of the header is not zero. -/
def olpReserved (bs : List Byte) : Bool :=
  decide (leAt bs 7 1 / 2 ≠ 0 ∨ leAt bs 0x0E 2 ≠ 0 ∨ leAt bs 0x30 80 ≠ 0)

/-- The identity check (R427, Table 15-2): 0 where the package passes, else the first refusal's code. `bs` are the bytes
supplied. -/
def identityCheck (e : OlpEnv) (bs : List Byte) : Nat :=
  let n := olpLength bs
  if leAt bs 0 4 ≠ 0x31504C4F then 0x01
  else if leAt bs 4 2 ≠ 1 then 0x02
  else if leAt bs 8 4 ≠ 0x2192 then 0x03
  else if 1 < leAt bs 0x0C 2 then 0x04
  else if olpKind bs ≠ e.kind then 0x05
  else if n < 0x80 ∨ bs.length < n ∨ e.limit < n ∨ olpReserved bs = true then 0x06
  else
    match olpSecs bs with
    | none => 0x06
    | some l =>
      if leAt bs 0x2C 4 ≠ crc32c (bs.take 0x2C) then 0x07
      else if olpPcheck bs ≠ crc32c ((bs.take n).drop 0x80) then 0x08
      else if lcPermits e.lc e.path = false then 0x09
      else if olpRollback bs < e.bound then 0x0A
      else if authOk e bs l = false then 0x0B
      else 0

/-- What the device knows when a package of a kind arrives on a path. -/
def State.olpEnv (s : State) (kind limit : Nat) (path : OlpPath) : OlpEnv :=
  { kind := kind, path := path, limit := limit, lc := s.cfg.lc
    bound := if kind = kConfig then s.mc 0 else if kind = kRegion then s.mc 1 else 0
    keys := s.sage.keys, revoked := s.sage.revoked }

end Sys2Proof.Machine
end

