-- ==== Sys2Proof/Machine/RunCmd.lean ====
section
/-!
DEFINITION. Run control: the RUN descriptor's five commands (R31 to R33, R352), the end of a STEPPING count, and SCH_LSYNC.
-/
namespace Sys2Proof.Machine

/-- The run state that a command is judged by: the return state of a SWAPPED tenant (Table 1-8). -/
def State.judged (s : State) (t : Nat) : RunState := (s.ten t).eff

/-- The status that refuses a START or STEP outright, if any (Table 1-8, R164, R237, R299). -/
def State.startRefusal (s : State) (t : Nat) (span : SpanAns) : Option Nat :=
  let tn := s.ten t
  if s.judged t ≠ .stopped then some stBadState
  else if tn.img.isNone then some stNoImage
  else if s.neverFits t then some stNoTiles
  else if (s.badPath t).isSome then some stNoPath
  else if tn.spans then
    match span with
    | .ok => none
    | .noImage => some stNoImage
    | .noTiles => some stNoTiles
    | .noPath => some stNoPath
  else none

/-- What a refusal records besides its completion: NO_PATH with the link, and the decision NO_TILES (Table 8-5). -/
def State.recordRefusal (s : State) (t st : Nat) : State :=
  if st = stNoPath then
    match s.badPath t with
    | some l => s.report 0x020C clsEvent l (some t) (t + 256 * l)
    | none => s
  else if st = stNoTiles then s.decision 9 t 0xFF (s.ten t).ntiles 0
  else s

/-- Completes a RUN at once. -/
def State.endRun (s : State) (d : DRef) (t st : Nat) : State := s.complete d 0x12 st (s.ten t).lastEcyc 0

/-- A START or STEP (R31, R352): refused at once, or requested for its boundary. -/
def State.runStart (s : State) (d : DRef) (t : Nat) (k : ReqKind) (span : SpanAns) : State :=
  match s.startRefusal t span with
  | some st => (s.recordRefusal t st).endRun d t st
  | none => s.request t k (some d)

/-- RUN_START (R31). -/
def execRunStart (d : DRef) (ten : TenId) (count : Word) (span : SpanAns) (s : State) : Out :=
  s.takeUp d 0x12 false true (fun s =>
    let t := target d ten
    if count ≠ 0 then s.endRun d t stBadArg else s.runStart d t .start span)

/-- RUN_STEP (R352). -/
def execRunStep (d : DRef) (ten : TenId) (count : Word) (span : SpanAns) (s : State) : Out :=
  s.takeUp d 0x12 false true (fun s =>
    let t := target d ten
    if count = 0 then s.endRun d t stBadArg else s.runStart d t (.step count.toNat) span)

/-- RUN_STOP (R31): judged by the run state; for a SWAPPED tenant the return state becomes STOPPED. -/
def execRunStop (d : DRef) (ten : TenId) (count : Word) (s : State) : Out :=
  s.takeUp d 0x12 false true (fun s =>
    let t := target d ten
    if count ≠ 0 then s.endRun d t stBadArg
    else if (s.judged t).advancing then s.request t .stop (some d)
    else s.endRun d t stBadState)

/-- An edge bank of the tenant is in FAILSAFE (R33, R420). -/
def State.vioPersists (s : State) (t : Nat) : Bool :=
  (s.banksOf t).any (fun g => decide ((s.bank g).stage = .failsafe))

/-- A hold cause persists and refuses RELEASE (R33). -/
def State.releaseBarred (s : State) (t issuer : Nat) : Bool :=
  let h := (s.ten t).holds
  (h.contains 2 && s.partOpen t) || (h.contains 5 && s.vioPersists t) || (h.contains 7 && decide (issuer ≠ 0))

/-- RUN_RELEASE (R33). -/
def execRunRelease (d : DRef) (ten : TenId) (count : Word) (s : State) : Out :=
  s.takeUp d 0x12 false true (fun s =>
    let t := target d ten
    if count ≠ 0 then s.endRun d t stBadArg
    else if s.judged t ≠ .held ∨ s.releaseBarred t d.fn = true then s.endRun d t stBadState
    else s.request t .release (some d))

/-- RUN_HOLD (R352): hold cause ADMIN, from tenant 0 only. -/
def execRunHold (d : DRef) (ten : TenId) (count : Word) (s : State) : Out :=
  s.takeUp d 0x12 true true (fun s =>
    let t := target d ten
    if count ≠ 0 then s.endRun d t stBadArg else s.raiseHold t 7 (some d))

/-- STEP_COUNT_EXPIRE (R32, R56, R213, R352): a STEPPING tenant whose count is 0 at its boundary becomes STOPPED, and its STEP
completes. The change is logged as a RUNCMD record of STEP with count 0 (log entry 85). -/
def execStepCountExpire (ten : TenId) (s : State) : Out :=
  let tn := s.ten ten
  if tn.run = .stepping ∧ tn.stepLeft = 0 ∧ s.noEcycle ten = true ∧ tn.recov = none then
    let s := s.updTen ten (fun v => { v with run := .stopped, stepCmd := none })
    let s := s.completeOpt tn.stepCmd 0x12 stOk tn.lastEcyc 0
    .next (((s.markStop ten).logInput ten 3 tn.done (runCmdBytes 3 s.moduleId 0)).boundary ten)
  else .next s

/-- The tenant is STOPPED, or SWAPPED with return state STOPPED, with no ecycle in progress (R70, R161, R235). -/
def State.restsStopped (s : State) (t : Nat) : Bool := decide ((s.ten t).eff = .stopped) && s.noEcycle t

/-- The LAG and checkpoint-interval fields that registers show follow WINDOW (R68, R209). -/
def State.writeLsync (s : State) (t w : Nat) : State :=
  let off := 0x93000 + 4 * t
  let w := if w = 0 then 1 else w
  if !s.restsStopped t then s.accState off
  else if (s.ten t).img.any (fun i => i.linkWords.any (fun e => decide (4096 < e.2 * (w + 1)))) then s.accValue off
  else s.setReg off (setFld (s.reg off) 0 4 w)

/-- SCH_LSYNC_WRITE (R71): WINDOW is tested against R65 for a loaded image; LAG and the interval follow it. -/
def execSchLsyncWrite (t : TenId) (window : BitVec 4) (s : State) : Out :=
  if s.dev.mode.configured then .next (s.writeLsync t window.toNat) else .next s

end Sys2Proof.Machine
end

