-- ==== Sys2Proof/Machine/ThymeOps.lean ====
section
/-!
DEFINITION. Thyme, the device's clock of record: its tick, its steps, its sources and its servo (R369 to R382).
-/
namespace Sys2Proof.Machine

/-- THY_CTL.SRC: 0 FREE, 1 MARK_IN, 2 LATTICE. -/
def State.thySrc (s : State) : Nat := s.rfld 0x40004 0 2
/-- Thyme reaches the time (sec, ns) (R372). -/
def Thyme.reached (t : Thyme) (sec ns : Nat) : Bool := decide (0 ≤ thyDiff t.sec t.ns sec ns)
/-- The stratum sent (R375). -/
def State.stratum (s : State) : Nat :=
  if s.rfld 0x40004 2 1 = 1 ∧ s.thy.valid = true ∧ s.thySrc ≠ 2 then 0
  else if s.thySrc = 2 then
    match s.thy.srcLink with
    | some l => min 254 ((Map.get s.thy.marks (255, 0) l).1 + 1)
    | none => 255
  else 255

/-! ### Steps and the tick (R369 to R371, R374) -/

/-- A SET (none) or an addition of signed nanoseconds (R371). THY_SET_NS holds at most 999,999,999. -/
def State.thyStep (s : State) (d : Option Int) : State :=
  let t := s.thy
  let n : Thyme := match d with
    | none =>
      { t with sec := s.reg 0x40024 + 2 ^ 32 * s.reg 0x40028, ns := min 999999999 (s.reg 0x40020), frac := 0, valid := true, fromBackup := false }
    | some a =>
      let x : Int := (t.ns : Int) + a
      { t with sec := (((t.sec : Int) + x / 1000000000) % 2 ^ 48).toNat, ns := (x % 1000000000).toNat }
  let size : Int := match d with | none => thyDiff n.sec n.ns t.sec t.ns | some a => a
  let s := { s with thy := { n with stepped := true, markOut := false } }
  (s.report 0x0850 clsEvent 0 none (BitVec.ofInt 64 size).toNat).syncAll 5

/-- SEC and NS as the backup count keeps them: seconds and 2^-15 s. -/
def Thyme.backup (t : Thyme) : Thyme := { t with bkpSec := t.sec, bkpFrac := t.ns * 32768 / 1000000000 }

/-- One tick of the timekeeping clock (R369): INC is added with its carries, then the steps that wait; a carry into SEC is
copied into the backup count (R374). -/
def State.thyTick (s : State) : State :=
  let t := s.thy
  let inc := t.incDue.getD t.inc
  let f := t.frac + inc
  let n := t.ns + f / 2 ^ 32
  let t' : Thyme := { t with
    inc := inc, incDue := none, stepsDue := [], frac := f % 2 ^ 32, ns := n % 1000000000
    sec := (t.sec + n / 1000000000) % 2 ^ 48 }
  let s := t.stepsDue.foldl State.thyStep { s with thy := t' }
  if 1000000000 ≤ n then { s with thy := s.thy.backup } else s

/-- Thyme starts counting at the end of RESET: from the backup count, or from zero where the backup domain has reset
(R374, R267). -/
def State.thyStart (s : State) : State :=
  let t := s.thy
  let z : Thyme := { bkpSec := t.bkpSec, bkpFrac := t.bkpFrac, runs := true }
  if s.pwr.bkpReset then { s with thy := z }
  else { s with thy := { z with sec := t.bkpSec, ns := t.bkpFrac * 1000000000 / 32768, valid := true, fromBackup := true } }

/-! ### Register writes -/

/-- THY_INC_NS is written (R370): the pair takes effect at the next tick. -/
def State.writeIncNs (s : State) (v : Nat) : State :=
  let inc := v % 16 * 2 ^ 32 + s.reg 0x40030
  if s.thySrc ≠ 0 then s.accState 0x40034
  else if inc < 0x240000000 ∨ 0x2C0000000 < inc then s.accValue 0x40034
  else { s.setReg 0x40034 (v % 16) with thy := { s.thy with incDue := some inc } }
/-- THY_INC_FRAC is written (R370). -/
def State.writeIncFrac (s : State) (v : Nat) : State := if s.thySrc ≠ 0 then s.accState 0x40030 else s.setReg 0x40030 v
def State.thySet (s : State) : State := { s with thy := { s.thy with stepsDue := s.thy.stepsDue ++ [none] } }
/-- THY_ADJ is written. -/
def State.thyAdj (s : State) (v : Word) : State := { s with thy := { s.thy with stepsDue := s.thy.stepsDue ++ [some v.toInt] } }

/-- A mark is preferred to another (R376): the lower stratum, then the lower SRC_ID, then the lower link. -/
def State.markLt (s : State) (a b : Nat) : Bool :=
  let x := Map.get s.thy.marks (255, 0) a
  let y := Map.get s.thy.marks (255, 0) b
  decide (x.1 < y.1 ∨ (x.1 = y.1 ∧ (x.2 < y.2 ∨ (x.2 = y.2 ∧ a < b))))
/-- The best link whose marks are valid. -/
def State.bestMark (s : State) : Option Nat :=
  (sortBy s.markLt ((s.thy.marks.map (fun e => e.1)).filter s.isUp)).head?
/-- Holdover begins (R376, R379). -/
def State.thyHoldover (s : State) (last : Nat) : State :=
  if s.thy.holdover then s
  else ({ s with thy := { s.thy with holdover := true, srcLink := none } }).report 0x0852 clsEvent 0 none last
/-- A LATTICE module takes the best link as its source, or goes into holdover (R376). -/
def State.takeSource (s : State) (last : Nat) : State :=
  match s.bestMark with
  | some l => { s with thy := { s.thy with srcLink := some l, holdover := false } }
  | none => s.thyHoldover last
/-- THY_CTL is written. A change of SRC ends the servo's lock; the increment stays (R370, R376). -/
def State.writeThyCtl (s : State) (v : Nat) : State :=
  let src := if fld v 0 2 = 3 then 0 else fld v 0 2
  let old := s.thySrc
  let s := s.setReg 0x40004 (src + 4 * bit v 2)
  let s := if src = old then s else
    let s := if src = 0 then (s.setReg 0x40030 (s.thy.inc % 2 ^ 32)).setReg 0x40034 (s.thy.inc / 2 ^ 32) else s
    let s := { s with thy := { s.thy with locked := false, good := 0, holdover := false, srcLink := none } }
    if src = 2 then s.takeSource 0xFF else s
  if bit v 8 = 1 then s.thySet else s
/-- THY_MOUT is written (R380). -/
def State.writeMout (s : State) (v : Nat) : State :=
  let p := fld v 12 20
  if p = 0 ∨ 1000000 % p ≠ 0 ∨ p * 1000 ≤ (fld v 4 8 + 1) * 100 then s.accValue 0x40050
  else
    let s := s.setReg 0x40050 (v &&& 0xFFFFFFF1)
    if bit v 0 = 0 then { s with thy := { s.thy with markOut := false } } else s

/-! ### The servo (R377, R379) -/

/-- The signed distance to the nearest multiple of `p` from a remainder `d` below it; halfway is free (log entry 32). -/
def State.nearest (s : State) (d p : Nat) : Int × State :=
  if 2 * d < p then ((d : Int), s)
  else if p < 2 * d then ((d : Int) - p, s)
  else
    let r := s.freshBit
    (if r.1 then (d : Int) else (d : Int) - p, r.2)
/-- The servo's increment: free within 200 ppm of 2.5 ns, since the gains of the servo are not stated (log entry 32). -/
def State.servoInc (s : State) : State :=
  let r := s.freshNat
  { r.2 with thy := { r.2.thy with incDue := some (0x280000000 - 2147483 + r.1 % 4294967) } }
/-- The offset of a mark, in units of 2^-2 ps, acts on Thyme: `link` and `stratum` are those of THYME_LOCK. Its whole
nanoseconds, as THY_OFFSET shows them, are one of the two next to it (log entry 32). -/
def State.steer (s : State) (o : Int) (link stratum : Nat) : State :=
  let r := s.freshBit
  let ns : Int := if o % 4000 = 0 then o / 4000 else if r.1 then o / 4000 else o / 4000 + 1
  let s := r.2
  let a := o.natAbs
  let s := if 4000000 ≤ a ∧ s.thy.valid = true then
      { s with thy := { s.thy with stepsDue := s.thy.stepsDue ++ [some (-ns)] } }
    else s.servoInc
  let good := if a < 80000 then min 16 (s.thy.good + 1) else 0
  let locked := if 400000 ≤ a then false else s.thy.locked || decide (good = 16)
  let was := s.thy.locked
  let s := { s with thy := { s.thy with offset := ns, good := good, locked := locked } }
  if locked && !was then s.report 0x0851 clsEvent 0 none (link + 256 * stratum) else s

/-- A mark from the source link (R377): its offset is that of E from the nearest instant with its number. -/
def State.steerMark (s : State) (l mseq delay sub stratum : Nat) : State :=
  let a : Int := (s.thy.total * 4000 + sub * 125 : Nat)
  let p : Int := (s.link l).rtt * 625 + (BitVec.ofNat 16 (s.reg 0x40040)).toInt * 4
  let e : Int := a - delay * 1250 - p
  let r := s.nearest ((e - mseq * 4000000) % (65536 * 4000000)).toNat (65536 * 4000000)
  r.2.steer r.1 l stratum

/-- The mark of the microsecond that Thyme has passed goes out (R290, Table 10-8). -/
def State.sendMark (s : State) (l delay : Nat) : State :=
  let s := s.updLink l (fun k => { k with markDue := false })
  s.send l (.fmk (s.thy.total / 1000 % 65536) delay s.thy.valid s.moduleId s.stratum)
/-- Thyme's nanoseconds have passed a multiple of 1,000 since `was`: a mark waits on every up link that is awake (R290, R303). -/
def State.marksSince (s : State) (was : Nat) : State :=
  if s.thy.ns / 1000 = was then s
  else s.upLinks.foldl (fun s l => if (s.link l).txSleep then s else s.updLink l (fun k => { k with markDue := true })) s

end Sys2Proof.Machine
end

