-- ==== Sys2Proof/Machine/TrigOps.lean ====
section
/-!
DEFINITION. Trigger sequencers: terms and conditions, the evaluation of R182 and R184, its actions, and the writes of
TRG_CTL (R180 to R195).
-/
namespace Sys2Proof.Machine

def State.seqOf (s : State) (q : Nat) : TrigSeq := Map.get s.trig.seqs {} q
def State.setSeq (s : State) (q : Nat) (v : TrigSeq) : State := { s with trig := { s.trig with seqs := Map.set s.trig.seqs q v } }
def State.updSeq (s : State) (q : Nat) (f : TrigSeq → TrigSeq) : State := s.setSeq q (f (s.seqOf q))
/-- Offset of TRG_CTL. -/
def trgReg (q : Nat) : Nat := 0xD0000 + 0x800 * q
def State.seqOwner (s : State) (q : Nat) : Nat := s.rfld (trgReg q) 0 8
/-- The channels linked to a sequencer and of its owner (Table 6-12). -/
def State.linked (s : State) (q : Nat) : List Nat :=
  (List.range 16).filter (fun c => decide (s.acqSeq c = q ∧ s.acqOwner c = s.seqOwner q))
/-- The armed sequencers of a tenant. -/
def State.armedOf (s : State) (t : Nat) : List Nat :=
  (List.range 16).filter (fun q => (s.seqOf q).armed && decide (s.seqOwner q = t))
/-- The owner runs no ecycle (R184, outcome I of Tables 1-12 and 1-13): it stands stopped, held by the device or under a refit, or
its recovery has stopped its tiles. -/
def State.idleOwner (s : State) (t : Nat) : Bool :=
  let tn := s.ten t
  (s.noEcycle t && tn.recov.isNone && (!tn.run.advancing || tn.devHeld || tn.refitHeld)) ||
    tn.recov.any (fun r => decide (r.phase = .stopped))
/-- Thyme has reached a time, given in ns: the difference of R372 is not negative. -/
def State.thyPast (s : State) (x : Nat) : Bool := decide (0 ≤ thyDiff s.thy.sec s.thy.ns (x / 1000000000) (x % 1000000000))
/-- The Thyme value `d` nanoseconds from now, in ns. -/
def State.thyAfter (s : State) (d : Nat) : Nat := (s.thy.total + d) % (2 ^ 48 * 1000000000)

/-! ### Terms (Table 6-2) -/

/-- Tap group `g` of a vector (R178). -/
def tapGroup (v : BitVec 4096) (g : Nat) : Nat := fld v.toNat (64 * g) 64
/-- GROUP of a mask unit, and its mismatch bits on a vector (R188). -/
def State.maskGroup (s : State) (q u : Nat) : Nat := s.rfld (trgReg q + 0x200 + 32 * u) 0 6
def State.maskMis (s : State) (q u : Nat) (v : BitVec 4096) : Nat :=
  let b := trgReg q + 0x200 + 32 * u
  (tapGroup v (s.maskGroup q u) ^^^ (s.reg (b + 4) + 2 ^ 32 * s.reg (b + 8))) &&& (s.reg (b + 12) + 2 ^ 32 * s.reg (b + 16))
def State.maskMode (s : State) (q u : Nat) : Nat := s.rfld (trgReg q + 0x200 + 32 * u) 6 2
/-- Term Mu. -/
def State.maskTerm (s : State) (q u : Nat) (v : BitVec 4096) : Bool :=
  (decide (s.maskMode q u = 1) && decide (s.maskMis q u v = 0)) || (decide (s.maskMode q u = 2) && decide (s.maskMis q u v ≠ 0))
/-- LIMIT of a counter. -/
def State.limitOf (s : State) (q c : Nat) : Nat :=
  s.reg (trgReg q + 0x304 + 16 * c) + 2 ^ 32 * s.rfld (trgReg q + 0x308 + 16 * c) 0 16
/-- A started timer has reached its target (R186): timers stop with SAFE. -/
def State.timerDue (s : State) (q i : Nat) : Bool :=
  !(s.seqOf q).frozen && (s.seqOf q).timer.any (fun e => decide (e.1 = i) && s.thyPast e.2.1)
/-- Levels that the TI terms show without an edge (R194, EDGE = 0). -/
def State.tiLevels (s : State) : Nat :=
  packBits (fun i => s.trig.inPins.testBit i && decide (s.rfld (0xDC000 + 4 * i) 0 2 = 1)) 4
/-- The M terms and the TRAP term of an ecycle, in their places in TERMS; TRAP stands for any code (log entry 28). -/
def State.ecycleTerms (s : State) (q : Nat) (ev : Option TapVec) : Nat :=
  match ev with
  | some v => packBits (fun u => s.maskTerm q u v.vec) 8 + 2 ^ 18 * b2n (!v.traps.isEmpty)
  | none => 0
/-- The other terms, in their places. -/
def State.otherTerms (s : State) (q : Nat) : Nat :=
  let v := s.seqOf q
  2 ^ 8 * packBits (fun c => decide (s.limitOf q c ≤ Map.get v.cnt 0 c)) 4 + 2 ^ 12 * packBits (fun i => s.timerDue q i) 2 +
    2 ^ 14 * (v.ti ||| s.tiLevels) + 2 ^ 19 * b2n v.sw
/-- A branch is eligible and its condition holds (R181). -/
def condHolds (w terms : Nat) (traps : List Nat) : Bool :=
  let trap := if bit w 31 = 1 then !traps.isEmpty else traps.contains (fld w 23 8)
  let terms := setFld terms 18 1 (b2n trap)
  let sel := fld w 0 20
  let r := if bit w 20 = 0 then decide (sel &&& terms = sel) else decide (sel &&& terms ≠ 0)
  decide (bit w 22 = 1) && xor r (decide (bit w 21 = 1))

/-! ### Actions (Table 6-4, R191, R192) -/

/-- TRIG_OUT follows an OUT action of sequencer `q` (R195). -/
def State.trigOut (s : State) (q : Nat) : State :=
  let f := fun (i : Nat) =>
    let c := s.reg (0xDC010 + 4 * i)
    let now := s.trig.outPins.testBit i
    if bit c 0 = 1 ∧ fld c 3 4 = q then (if bit c 1 = 1 then !now else true) else now && decide (bit c 0 = 1)
  { s with trig := { s.trig with outPins := packBits f 4 } }

/-- The boundary of an action of sequencer `q`'s evaluation (R191): that after ecycle k + 1 + L, or that of R57 where no ecycle was
evaluated or the owner has stopped since, since no later one comes. -/
def State.actDue (s : State) (t : Nat) (ev : Option TapVec) : Nat :=
  match ev with
  | some v => if (s.ten t).run.advancing && !(s.ten t).devHeld then v.e + 2 + s.lag t else s.dueOf t
  | none => s.dueOf t
/-- A hold of cause TRIGGER for the boundary at `due` (R191, item 7 of R38). -/
def State.trigHold (s : State) (t due : Nat) : State :=
  if (s.ten t).run.advancing then s.requestAt t (.hold 1) due none s.moduleId else s.raiseHold t 1 none
/-- A CAPTURE action (R191, R202, R203). -/
def State.trigCapture (s : State) (q t due : Nat) : State :=
  let r := s.capAsk t .trigger due none q
  if r.1 ≠ stOk then r.2.updSeq q (fun v => { v with actFail := true })
  else if (s.ten t).run = .swapped ∧ (s.ten t).spans = false then r.2
  else r.2.requestAt t (.capture 2) due none s.moduleId
/-- A START action (R191, R192). -/
def State.trigStart (s : State) (q t due : Nat) (span : SpanAns) : State :=
  if (s.startRefusal t span).isSome then s.updSeq q (fun v => { v with actFail := true })
  else s.requestAt t .start due none s.moduleId
/-- A NOTIFY action: a TRIGGER completion, at most 16 of the sequencer pending (R356). -/
def State.trigNotify (s : State) (q t next e : Nat) : State :=
  let mine := fun (c : Cpl) => decide (c.fn = t ∧ c.typ = 3) &&
    (match c.body with | .raw (b :: _) => decide (b.toNat = q) | _ => false)
  if (s.host.cpls.filter mine).length < 16 then
    s.queueCpl { fn := t, cq := s.rfld (trgReg q) 13 3, typ := 3, status := 0, sq := 0xFF, noIrq := false, resv := false
                 body := .raw (leBytes q 1 ++ leBytes next 1 ++ zeros 2 ++ leBytes e 8 ++ leBytes s.thy.sec 8 ++
                   leBytes s.thy.ns 4 ++ zeros 4) }
  else s.cplLost t 3
/-- A MARK action: a TRIGMARK packet for the owner's sinks (R392). -/
def State.trigMark (s : State) (q t next e : Nat) : State :=
  s.trace 0x11 t 3 (leBytes q 1 ++ leBytes next 1 ++ zeros 6 ++ leBytes e 8)
/-- The hold-off that a HOLDOFF action starts, if it does not end at once (R187). -/
def State.holdOff (s : State) (q : Nat) : Option HoldOff :=
  let w := s.reg (trgReg q + 0x370)
  let v := w / 256
  if fld w 0 2 = 0 ∨ v = 0 then none
  else some { mode := fld w 0 2, left := v, target := s.thyAfter (1000 * v), term := fld w 2 5 }

/-- The boundary action and its record in the input log (R74, R191). -/
def State.trigBoundary (s : State) (q t act due : Nat) (span : SpanAns) : State :=
  let bits := fld act 4 8 &&& 0x23
  if bits = 0 then s
  else
    let s := s.logInput t 5 (due + 2 ^ 64 - 1) (leBytes q 1 ++ leBytes bits 1 ++ zeros 6)
    let s := if bit act 5 = 1 then s.trigCapture q t due else s
    let s := if bit act 4 = 1 then s.trigHold t due else s
    if bit act 9 = 1 then s.trigStart q t due span else s

/-- The actions of a taken branch, in the order of R182 step 5. -/
def State.trigAct (s : State) (q act : Nat) (ev : Option TapVec) (due : Nat) (span : SpanAns) : State :=
  let t := s.seqOwner q
  let e := match ev with | some v => v.e | none => 2 ^ 64 - 1
  let next := fld act 0 4
  let s := s.updSeq q (fun v =>
    let cnt := (List.range 4).map (fun c =>
      let n := if bit act (17 + c) = 1 then 0 else Map.get v.cnt 0 c
      (c, if bit act (13 + c) = 1 then satInc n (2 ^ 48 - 1) else n))
    let timer := (List.range 2).foldl (fun m i => if bit act (21 + i) = 1 then
      Map.set m i (s.thyAfter (s.reg (trgReg q + 0x360 + 8 * i) + 2 ^ 32 * s.rfld (trgReg q + 0x364 + 8 * i) 0 8), false)
      else m) v.timer
    { v with st := next, taken := satInc v.taken 0xFFFF, cnt := cnt, timer := timer })
  let s := if bit act 10 = 1 then s.trigOut q else s
  let l := s.linked q
  let s := if bit act 8 = 1 then l.foldl (fun s c => s.acqStop c) s else s
  let s := if bit act 7 = 1 then l.foldl (fun s c =>
      let s := s.acqStart c (match ev with | some v => v.e | none => (s.ten t).done)
      match ev with | some v => s.acqData c v | none => s) s else s
  let at' := match ev with | some v => (v.sec, v.ns) | none => (s.thy.sec, s.thy.ns)
  let s := if bit act 6 = 1 then l.foldl (fun s c => s.acqTrig c q e at'.1 at'.2) s else s
  let s := s.trigBoundary q t act due span
  let s := if bit act 11 = 1 then s.trigNotify q t next e else s
  let s := if bit act 12 = 1 then s.trigMark q t next e else s
  if bit act 23 = 1 then s.updSeq q (fun v => { v with holding := s.holdOff q }) else s

/-! ### Evaluation (R182 to R189) -/

/-- A violation of mask unit `u` on the vector of an ecycle (R189). -/
def State.violation (s : State) (q u : Nat) (v : TapVec) (due : Nat) : State :=
  let t := s.seqOwner q
  let g := s.maskGroup q u
  let cfg := s.reg (trgReg q + 0x200 + 32 * u)
  let mis := s.maskMis q u v.vec
  if s.maskMode q u ≠ 2 ∨ mis = 0 then s
  else
    let s := s.updSeq q (fun x => { x with
      vcount := Map.set x.vcount u (satInc (Map.get x.vcount 0 u) 0xFFFF), viol := x.viol.or (some (v.e, u, g)) })
    let s := if bit cfg 9 = 1 then (s.linked q).foldl (fun s c =>
        s.acqViolation c u g (BitVec.ofNat 64 (tapGroup v.vec g)) (BitVec.ofNat 64 mis) v) s else s
    if bit cfg 8 = 1 then (s.logInput t 5 (due + 2 ^ 64 - 1) (leBytes q 1 ++ leBytes 1 1 ++ zeros 6)).trigHold t due else s

/-- Step 2 of R182: each counter whose source held adds 1 (R185). -/
def State.countSources (s : State) (q cur : Nat) : State :=
  s.updSeq q (fun v =>
    let held := cur ||| (v.prev &&& 0xBFF00)
    { v with cnt := (List.range 4).map (fun c =>
        let src := s.rfld (trgReg q + 0x300 + 16 * c) 0 5
        let n := Map.get v.cnt 0 c
        (c, if src = 1 ∨ (2 ≤ src ∧ held.testBit (src - 2) = true) then satInc n (2 ^ 48 - 1) else n)) })

/-- A hold-off in force counts an evaluated ecycle in which its term held (R187). -/
def HoldOff.count (h : HoldOff) (terms : Nat) : Option HoldOff :=
  if h.mode = 2 ∨ (h.mode = 3 ∧ terms.testBit h.term = true) then
    (if h.left ≤ 1 then none else some { h with left := h.left - 1 })
  else some h

/-- One evaluation of sequencer `q` (R182): of the ecycle of `ev`, or with none under R184. -/
def State.evalSeq (s : State) (q : Nat) (ev : Option TapVec) (span : SpanAns) : State :=
  let t := s.seqOwner q
  let due := s.actDue t ev
  let s : State := match ev with
    | some v =>
      let s := (s.linked q).foldl (fun s c => s.acqData c v) s
      (List.range 8).foldl (fun s u => s.violation q u v due) s
    | none => s
  let cur := s.ecycleTerms q ev
  let s := if ev.isSome then s.countSources q cur else s
  let terms := cur ||| s.otherTerms q
  let traps := match ev with | some v => v.traps | none => []
  let v := s.seqOf q
  let held := v.holding.filter (fun (h : HoldOff) => decide (h.mode ≠ 1) || !s.thyPast h.target)
  let cond := fun (o : Nat) => condHolds (s.reg (trgReg q + 0x100 + 16 * v.st + o)) terms traps
  let s := s.setSeq q { v with
    holding := if ev.isSome then held.bind (fun (h : HoldOff) => h.count terms) else held
    nextE := match ev with | some x => x.e + 1 | none => v.nextE }
  let s :=
    if held.isSome then s
    else if cond 0 then s.trigAct q (s.reg (trgReg q + 0x104 + 16 * v.st)) ev due span
    else if cond 8 then s.trigAct q (s.reg (trgReg q + 0x10C + 16 * v.st)) ev due span
    else s
  s.updSeq q (fun v => { v with ti := 0, sw := false, prev := terms })

/-- Vectors that every armed sequencer of a tenant has evaluated are dropped. -/
def State.pruneTaps (s : State) (t : Nat) : State :=
  let l := s.armedOf t
  s.updTen t (fun v => { v with tapReady := v.tapReady.filter (fun x => l.any (fun q => decide ((s.seqOf q).nextE ≤ x.e))) })

/-- An evaluation under R184, for an armed sequencer whose owner runs no ecycle; none once it is frozen (outcome F). -/
def State.idleEval (s : State) (q : Nat) (span : SpanAns) : State :=
  if (s.seqOf q).armed && !(s.seqOf q).frozen && s.idleOwner (s.seqOwner q) then s.evalSeq q none span else s

/-! ### Control (R180, Table 6-7) -/

/-- The sequencer disarms; the vectors it had still to evaluate go to its linked channels. -/
def State.disarm (s : State) (q : Nat) : State :=
  if (s.seqOf q).armed then
    let t := s.seqOwner q
    let vs := (s.ten t).tapReady.filter (fun x => decide ((s.seqOf q).nextE ≤ x.e))
    let s := vs.foldl (fun s x => (s.linked q).foldl (fun s c => s.acqData c x) s) s
    (s.updSeq q (fun v => { v with armed := false })).pruneTaps t
  else s
/-- The sequencer arms in state INIT (Table 6-7). -/
def State.arm (s : State) (q : Nat) : State :=
  let v := s.seqOf q
  if v.armed || v.frozen then s
  else s.setSeq q { v with
    armed := true, st := s.rfld (trgReg q) 9 4, holding := none, taken := 0, cnt := [], timer := [], vcount := [], viol := none
    prev := 0, nextE := (s.ten (s.seqOwner q)).done }
/-- OWNER is written (R180): the sequencer disarms and its program and units return to their reset values. -/
def State.setSeqOwner (s : State) (q owner : Nat) : State :=
  let s := s.disarm q
  let b := trgReg q
  let s := { s with regs := s.regs.filter (fun e => decide (e.1 < b + 0x100 ∨ b + 0x800 ≤ e.1)) }
  let v := s.seqOf q
  (s.setReg b (setFld (s.reg b) 0 8 owner)).setSeq q { frozen := v.frozen, actFail := v.actFail }
/-- The software term is latched; an idle owner's sequencer evaluates (R184). -/
def State.swev (s : State) (q : Nat) (span : SpanAns) : State :=
  (s.updSeq q (fun v => { v with sw := true })).idleEval q span

/-- A write of TRG_CTL by function `by'` (R180, Table 6-7). One that changes OWNER disarms the sequencer and does nothing else: an ARM
or SWEV bit in the same word has no effect, where R180 does not say which of the two acts last (log entry 24). -/
def State.writeTrgCtl (s : State) (by' q v : Nat) (span : SpanAns) : State :=
  let b := trgReg q
  if by' ≠ 0 ∧ by' ≠ s.seqOwner q then s.accOwner b
  else
    let keep := setFld (setFld (fld v 0 16) 8 1 0) 0 8 (s.seqOwner q)
    if by' = 0 ∧ fld v 0 8 ≠ s.seqOwner q then (s.setReg b keep).setSeqOwner q (fld v 0 8)
    else
      let s := s.setReg b keep
      let s := if bit v 8 = 1 then s.arm q else s.disarm q
      if bit v 16 = 1 then s.swev q span else s

/-- Another register of a sequencer is written (R180): by its owner or tenant 0, and its configuration only while
disarmed. -/
def State.writeTrgCfg (s : State) (by' q off v : Nat) : State :=
  if by' ≠ 0 ∧ by' ≠ s.seqOwner q then s.accOwner off
  else if (s.seqOf q).armed then s.accState off
  else s.setReg off v

end Sys2Proof.Machine
end

