-- ==== Sys2Proof/Machine/Safe.lean ====
section
/-!
DEFINITION. Entry to SAFE (R29, R38, R418), entry to RESET (R27, R458, R500) and what leaving RESET restores (R267, R459).
-/
namespace Sys2Proof.Machine

/-! ### SAFE -/

/-- The modes that Table 1-4 lets go to SAFE. -/
def Mode.maySafe (m : Mode) : Bool :=
  match m with
  | .off | .keep | .reset | .safe => false
  | _ => true

/-- A region reconfiguration stops where it stands, and its region is unloaded (Table 14-9). -/
def State.stopPr (s : State) : State :=
  match s.edg.pr with
  | none => { s with edg := { s.edg with prQueue := [] } }
  | some r =>
    { s with
      edg := { s.edg with pr := none, prQueue := [], prResult := 3, loaded := s.edg.loaded.filter (fun x => decide (x ≠ r)) }
      dev := { s.dev with refits := s.dev.refits.filter (fun x => decide (x < 1000)) } }
/-- Every tile stops at its current step handshake (R497). -/
def State.haltAll (s : State) : State := { s with tiles := s.tiles.map (fun e => (e.1, e.2.stopAt .safe)) }
/-- The trigger unit and the acquisition channels freeze, and the trigger outputs fall (R186, R200, Table 1-11); the channels take
`f`, with their marks or without. -/
def State.freezeTrig (s : State) (f : State → Nat → State) : State :=
  let s := (List.range 16).foldl (fun s q => s.updSeq q (fun v => { v with frozen := true })) s
  let s := (List.range 16).foldl f s
  { s with trig := { s.trig with frozen := true, outPins := 0 } }
/-- Entry to SAFE with a cause (R29); from SAFE itself, RESET, KEEP and OFF there is none. -/
def State.enterSafe (s : State) (c : SafeCause) : State :=
  if s.dev.mode.maySafe = false then s
  else
    let s := ({ s with dev := { s.dev with cause := c } }).setMode .safe
    let s := (((s.haltAll.freezeTrig State.acqSafe).chvSafe).failAll 1).stopPr
    let s := { s with thy := { s.thy with markOut := false }, cfg := { s.cfg with phase := .none } }
    if s.cfg.job.any (fun j => !j.csp) then s.abortJob 0x41 else s

/-! ### RESET (R27, R500) -/

/-- Contents that a reset leaves undefined: every byte listed becomes a free value (R27; log entry 38). -/
def scramble (n : Nat) : Mem → Mem
  | [] => []
  | (a, _) :: r =>
    let b : Byte := BitVec.ofNat 8 (Config.freeNat n)
    if b = 0 then scramble (n + 1) r else (a, b) :: scramble (n + 1) r

/-- What a reset leaves: the backup domain, the flash, the fuses, the pad latches, and what lies outside the device; everything
else as at reset (R27). -/
def State.wiped (s : State) : State :=
  { State.reset with
    dev := { mode := s.dev.mode, vinOk := s.dev.vinOk, vbatOk := s.dev.vbatOk, bkpLost := s.dev.bkpLost }
    host := { hostMem := s.host.hostMem, msiOut := s.host.msiOut }
    noc := { hub := scramble s.freeCtr s.noc.hub }
    ds := scramble (s.freeCtr + s.noc.hub.length) s.ds
    thy := { bkpSec := s.thy.bkpSec, bkpFrac := s.thy.bkpFrac }
    trig := { inPins := s.trig.inPins }
    lat := { wire := s.lat.wire }
    edg := { padsPreset := s.edg.padsPreset, padFs := s.edg.padFs }
    cfg := { flash := s.cfg.flash, lc := s.cfg.lc, lcNext := s.cfg.lcNext, mc := s.cfg.mc }
    clk := { savedTrim := s.clk.savedTrim, fusedTrim := s.clk.fusedTrim, resetLow := s.clk.resetLow }
    sage := { keys := s.sage.keys, revoked := s.sage.revoked, fused := s.sage.fused, hard := s.sage.hard }
    freeCtr := s.freeCtr + s.noc.hub.length + s.ds.length
    pending := s.pending }

/-- The domains of the main supplies in the order of R265; each group comes up when the one before it is good. -/
def supplyGroups : List (List Nat) :=
  [[65], [40, 41, 42, 43, 44, 45, 46, 47, 61], [48, 49, 50, 51, 52], [53, 54, 55, 56], [57, 58, 59, 60, 62, 63, 64]]
/-- The first group that is not good is switched on. -/
def State.bringUp (s : State) : State :=
  match supplyGroups.find? (fun g => !g.all (fun d => (s.domain d).good)) with
  | some g => g.foldl (fun (s : State) d =>
      { s with pwr := { s.pwr with domains := Map.set s.pwr.domains d { s.domain d with on := true } } }) s
  | none => s

/-- Entry to RESET with its cause, 1 POWER, 2 PIN, 3 SOFT, and the straps that it samples (R455, R458, R465). -/
def State.enterReset (s : State) (cause : Nat) (sel : BitVec 2) : State :=
  let s := s.wiped
  let saved := if s.dev.bkpLost then none else s.clk.savedTrim
  { s with
    dev := { s.dev with mode := .reset }
    cfg := { s.cfg with lc := s.cfg.lcNext.getD s.cfg.lc, lcNext := none, cspSel := sel.toNat }
    clk := { s.clk with rstCause := cause, trim := saved.getD s.clk.fusedTrim, savedUsed := saved.isSome } }

/-- The backup domain loses its supply: every register of it is at its reset value (R266). -/
def State.bkpDown (s : State) : State :=
  { s with
    dev := { s.dev with bkpLost := true }
    cfg := { s.cfg with lc := 0, lcNext := none, mc := [] }
    clk := { s.clk with savedTrim := none }
    thy := { s.thy with bkpSec := 0, bkpFrac := 0 } }

/-- No valid STATE record says what a backup domain that has reset held, and the device has left BLANK (R267). -/
def State.bkpUnknown (s : State) : Bool := s.cfg.flash.state.isNone && s.cfg.flash.leftBlank
/-- R267, where the backup domain has reset: the life-cycle state and the counters come from the newest STATE record; with none, the
state is BLANK where the device never left it. Otherwise nothing is restored: the life-cycle state is a free value, and the domain
still counts as reset at the next RESET (log entry 102). -/
def State.bkpRestore (s : State) : State :=
  if s.dev.bkpLost then
    let r := s.freshNat
    let lost := s.bkpUnknown
    let c := match s.cfg.flash.state with
      | some r => { s.cfg with lc := r.lc, mc := (List.range r.mcs.length).zip r.mcs }
      | none => { s.cfg with lc := if lost then r.1 % 6 else 0, mc := [] }
    { (if lost then r.2 else s) with
      cfg := c, dev := { s.dev with bkpLost := lost }, pwr := { s.pwr with bkpReset := true } }
  else s

/-- The device leaves RESET for SELFTEST once RESET_N is high, every supply is good and the root is locked to an external source
(R459). -/
def State.tryLeaveReset (s : State) : State :=
  if s.dev.mode = .reset ∧ s.clk.resetLow = false ∧ s.pwr.suppliesGood = true ∧ (s.clk.root = .xtal ∨ s.clk.root = .ref) then
    let s := (s.bkpRestore).thyStart
    ({ s with edg := { s.edg with fclkOk := true } }).setMode .selftest
  else s

end Sys2Proof.Machine
end

