-- ==== Sys2Proof/Machine/CfgOps.lean ====
section
/-!
DEFINITION. Configuration packages and frames (R430 to R433), the selection of a copy at LOAD (R440, R441), and the stages of
an update (R444, R445).
-/
namespace Sys2Proof.Machine

/-! ### Frames (Table 15-6, R431) -/

/-- The byte list with bit `i` inverted. -/
def flipBit (bs : List Byte) (i : Nat) : List Byte :=
  bs.take (i / 8) ++ [(bs.getD (i / 8) 0) ^^^ BitVec.ofNat 8 (2 ^ (i % 8))] ++ bs.drop (i / 8 + 1)
/-- The frame's check bits are those of its bytes. -/
def eccHolds (bs : List Byte) : Bool := decide (Config.frameEcc (bs.take 0x10C) % 2 ^ 13 = fld (leAt bs 0x10C 2) 0 13)
/-- A frame as R431 reads it: its bytes with a single-bit error corrected, and whether one was; none where it is
uncorrectable. -/
def readFrame (bs : List Byte) : Option (List Byte × Bool) :=
  let c := if eccHolds bs then some (bs, false)
    else ((List.range 2160).find? (fun i => eccHolds (flipBit bs i))).map (fun i => (flipBit bs i, true))
  c.bind (fun f => if leAt f.1 0x108 4 = crc32c (f.1.take 0x108) then some f else none)
/-- A frame of a package: FADDR as it stands, and the frame as R431 reads it. -/
structure FrameIn where
  addr : Nat
  got : Option (List Byte × Bool)
deriving DecidableEq, Repr
/-- `n` records of 272 bytes. -/
def framesOf (bs : List Byte) : Nat → List FrameIn
  | 0 => []
  | n + 1 =>
    let f := bs.take 272
    let g := readFrame f
    { addr := leAt ((g.map (fun x => x.1)).getD f) 0 4, got := g } :: framesOf (bs.drop 272) n

def tFrames : Nat := 0x0400
def tPresets : Nat := 0x0401
/-- The frames of a package in order. -/
def pkgFrames (l : List Sec) : List FrameIn := (l.filter (fun x => decide (x.typ = tFrames))).flatMap (fun x => framesOf x.payload x.count)
/-- `n` preset entries: register offset and value. -/
def presetsOf (bs : List Byte) : Nat → List (Nat × Nat)
  | 0 => []
  | n + 1 => (leAt bs 0 4, leAt bs 4 4) :: presetsOf (bs.drop 8) n
/-- The presets of a package in order. -/
def pkgPresets (l : List Sec) : List (Nat × Nat) :=
  (l.filter (fun x => decide (x.typ = tPresets))).flatMap (fun x => presetsOf x.payload x.count)
/-- Registers that presets may name (Table 15-5): LNK_ID, HIF_SMB_CFG, PWR_CFG, PWR_FLOOR, DST_CFG, ERR_FM_CFG, THY_CTL. -/
def presetRegs : List Nat := [0x100000, 0x80100, 0x10004, 0x10008, 0xC0100, 0x70010, 0x40004]

/-- A section that breaks R155 or R430. -/
def cfgSecBad (x : Sec) : Bool :=
  decide (x.rsv ≠ 0 ∨ 2 ≤ x.flags ∨ x.ver ≠ 1 ∨ x.check ≠ crc32c x.payload) ||
  (if x.typ = tFrames then decide (x.len ≠ 272 * x.count) else if x.typ = tPresets then decide (x.len ≠ 8 * x.count)
   else decide (x.typ ≠ tAuth))
/-- Indices of a frame space. -/
def spaceSize (sp : Nat) : Nat := if sp = 0 then 8192 else if sp ≤ 2 then 2048 else if sp ≤ 10 then 640 else 0
def frameSpace (a : Nat) : Nat := fld a 24 4
/-- FADDR names a space or an index that a package of the kind may not use. -/
def frameAddrBad (kind a : Nat) : Bool :=
  decide (a / 2 ^ 28 ≠ 0 ∨ spaceSize (frameSpace a) ≤ fld a 0 24) || (decide (kind = kRegion) && decide (frameSpace a ≠ 3))
/-- Every frame of a space is there. -/
def spaceWhole (l : List FrameIn) (sp : Nat) : Bool :=
  (List.range (spaceSize sp)).all (fun i => l.any (fun f => decide (f.addr = 2 ^ 24 * sp + i)))
/-- A frame of the space is there twice. -/
def spaceTwice (l : List FrameIn) (sp : Nat) : Bool :=
  let m := (l.filter (fun f => decide (frameSpace f.addr = sp))).map (fun f => f.addr)
  decide (m.eraseDups.length < m.length)
/-- The data of a space's frames. -/
def spaceData (l : List FrameIn) (sp : Nat) : List (List Byte) :=
  (l.filter (fun f => decide (frameSpace f.addr = sp))).filterMap (fun f => f.got.map (fun g => (g.1.drop 8).take 256))
/-- A preset names a register outside Table 15-5. -/
def presetBad (l : List Sec) : Bool := (pkgPresets l).any (fun p => !presetRegs.contains p.1)

/-- The checks of a package that has passed the identity check, at a download, at ACTIVATE and at a reconfiguration
(Table 15-2; their order is the model's, log entry 36): 0 or the first refusal's code. -/
def fullCheck (kind : Nat) (l : List Sec) : Nat :=
  let f := pkgFrames l
  let spaces := if kind = kRegion then [3] else List.range 11
  let need := if kind = kRegion then [3] else [0, 1, 2]
  if l.any cfgSecBad then 0x25
  else if f.any (fun x => x.got.isNone) then 0x20
  else if f.any (fun x => frameAddrBad kind x.addr) then 0x21
  else if spaces.any (spaceTwice f) || need.any (fun sp => !spaceWhole f sp) ||
      spaces.any (fun sp => decide (3 ≤ sp) && f.any (fun x => decide (frameSpace x.addr = sp)) && !spaceWhole f sp) then 0x22
  else if presetBad l then 0x23
  else if spaces.any (fun sp => decide (3 ≤ sp) && (Config.regionCfg (spaceData f sp)).chainTooLong) then 0x24
  else 0
/-- The checks at LOAD (R440): only core frames, presets and the form of the package make it fail. -/
def loadFail (kind : Nat) (l : List Sec) : Nat :=
  let f := pkgFrames l
  let core := f.filter (fun x => decide (frameSpace x.addr = 0))
  if l.any cfgSecBad then 0x25
  else if core.any (fun x => x.got.isNone) then 0x20
  else if f.any (fun x => frameAddrBad kind x.addr) then 0x21
  else if spaceTwice f 0 || !spaceWhole f 0 then 0x22
  else if presetBad l then 0x23
  else 0

/-! ### Errors of target-class frames (R432, R433) -/

/-- The banks whose pins a region drives: those of its half with a FABRIC pin that the static frames give the region. -/
def State.regionBanks (s : State) (r : Nat) : List Nat :=
  let h := r / 4
  (List.range 12).filter (fun g => decide (g / 6 = h) && drivesBank s.staticFrames r g &&
    (List.range 64).any (fun i => let p := s.reg (0x201000 + 4 * (64 * g + i)); decide (bit p 2 = 1 ∧ fld p 0 2 ≠ 0)))
/-- The banks that an error in a frame space puts into FAILSAFE. -/
def State.spaceBanks (s : State) (sp : Nat) : List Nat :=
  if sp = 1 ∨ sp = 2 then (List.range 12).filter (fun g => decide (g / 6 = sp - 1)) else if 3 ≤ sp then s.regionBanks (sp - 3) else []
/-- The banks enter FAILSAFE with cause CONFIG, and a region is unloaded. -/
def State.spaceError (s : State) (sp : Nat) (hold : Bool) : State :=
  let s := (s.spaceBanks sp).foldl (fun s g => s.failBank g 5 false hold) s
  if 3 ≤ sp then { s with edg := { s.edg with loaded := s.edg.loaded.filter (fun x => decide (x ≠ sp - 3)) } } else s

/-! ### Presets (R430) -/

/-- PWR_CFG as stored (Table 9-7). -/
def pwrCfgStored (v : Nat) : Nat :=
  let v := setFld v 0 8 (min 50 (fld v 0 8))
  let v := setFld v 8 8 (max 1 (fld v 8 8))
  setFld v 18 2 (max 2 (fld v 18 2))
/-- PWR_FLOOR as stored. -/
def pwrFloorStored (v : Nat) : Nat := max 470 (min 1700 (fld v 0 11))
/-- DST_CFG as stored (Table 11-11). -/
def dstCfgStored (v : Nat) : Nat :=
  let v := v &&& 0x00FF013F
  setFld (setFld v 1 5 (max 1 (fld v 1 5))) 16 8 (max 1 (fld v 16 8))
/-- ERR_FM_CFG as stored (Table 7-14). -/
def fmCfgStored (v : Nat) : Nat :=
  let v := v &&& 0x001FFFFF
  setFld (setFld v 0 8 (max 1 (fld v 0 8))) 8 8 (max 1 (fld v 8 8))
/-- HIF_SMB_CFG as stored. -/
def smbCfgStored (v : Nat) : Nat :=
  let a := fld v 0 7
  setFld (v % 2 ^ 9) 0 7 (if a < 8 ∨ 0x78 ≤ a then 0x58 else a)
/-- LNK_ID is written: its stored bits (Table 10-17). -/
def lnkIdStored (v : Nat) : Nat := v &&& 0xFFFF01FF
/-- One of the registers that presets name is written. -/
def State.writePreset (s : State) (off v : Nat) : State :=
  if off = 0x100000 then s.setReg off (lnkIdStored v)
  else if off = 0x80100 then s.setReg off (smbCfgStored v)
  else if off = 0x10004 then s.setReg off (pwrCfgStored v)
  else if off = 0x10008 then s.setReg off (pwrFloorStored v)
  else if off = 0xC0100 then s.setReg off (dstCfgStored v)
  else if off = 0x70010 then s.setReg off (fmCfgStored v)
  else if off = 0x40004 then s.writeThyCtl v
  else s
/-- The regions of a list have their configured initial values in their macrocells. -/
def State.initFab (s : State) (rs : List Nat) : State :=
  { s with edg := { s.edg with fab := rs.foldl (fun m r => Map.set m r { regs := (s.regionCfg r).initial }) s.edg.fab } }
/-- The static frames preset the EDG registers and the fail-safe latches of the pads (R419, R430), as they would be stored. -/
def State.presetEdg (s : State) : State :=
  let v := fun (off : Nat) => Config.edgPreset s.staticFrames off % 2 ^ 32
  let put := fun (s : State) (off : Nat) (f : Nat → Nat) => s.setReg off (f (v off))
  let s := put s 0x200000 edgCfgStored
  let s := (List.range 12).foldl (fun s g =>
    let a := bankReg g
    put (put (put (put (put (put s a bankCfgStored) (a + 0xC) bankTimeStored) (a + 0x10) id) (a + 0x14) id)
      (a + 0x18) (fun x => x % 2 ^ 24)) (a + 0x1C) (fun x => x % 2 ^ 26 - fld x 10 6 * 2 ^ 10)) s
  let s := (List.range 8).foldl (fun s r => put s (0x204000 + 0x10 * r) (fun x => x % 2 ^ 9)) s
  let s := (List.range 768).foldl (fun s n => put s (0x201000 + 4 * n) pinStored) s
  { s with edg := { s.edg with
      padsPreset := true, padFs := (List.range 768).map (fun n => (n, fld (pinStored (v (0x201000 + 4 * n))) 13 2)) } }
/-- Presets apply in order (R430). -/
def State.applyPresets (s : State) (l : List (Nat × Nat)) : State := l.foldl (fun s p => s.writePreset p.1 p.2) s

/-! ### Selecting a copy (R440) -/

/-- The CSEQ values of confirmed copies. -/
def State.confirmed (s : State) : List Nat := ([0, 1].filter (fun k => decide ((s.stageRec k).stage = .confirmed)))
/-- The next copy that LOAD reads: an activated one first, then confirmed ones in descending CSEQ, then the Bay image. -/
def State.nextCopy (s : State) : Option (Nat × Bool) :=
  let open' := fun (k : Nat) => !s.cfg.tried.contains k
  let top := s.confirmed.foldl (fun a k => max a (s.stageRec k).cseq) 0
  match [0, 1].find? (fun k => open' k && decide ((s.stageRec k).stage = .activated) &&
      (s.confirmed.isEmpty || decide (top < (s.stageRec k).cseq))) with
  | some k => some (k, true)
  | none =>
    match sortBy (fun a b => decide ((s.stageRec b).cseq < (s.stageRec a).cseq)) (s.confirmed.filter open') with
    | k :: _ => some (k, false)
    | [] => if open' 2 && decide ((s.stageRec 2).stage = .verified) then some (2, false) else none
/-- BKP_RESET (R267, Table 9-11), recorded at the end of LOAD. -/
def State.reportBkp (s : State) : State :=
  if s.pwr.bkpReset then
    s.report 0x0308 (if s.rfld 0x10004 17 1 = 1 then clsDegraded else clsEvent) 0 none
      ((s.cfg.flash.state.map (fun r => r.rseq)).getD 0)
  else s
/-- LOAD ends in SAFE with cause CONFIG (R440, R267). -/
def State.loadSafe (s : State) : State := s.reportBkp.enterSafe .config
/-- LOAD goes on to the next copy, or into SAFE (R440). -/
def State.loadNext (s : State) : State :=
  if s.cfg.lc = 0 ∨ s.cfg.lc = 5 then s.loadSafe
  else
    match s.nextCopy with
    | none => s.loadSafe
    | some (k, trial) =>
      let s := if trial then s.moveStage k .trial else s
      { s with cfg := { s.cfg with phase := .copy k trial } }
/-- Selection from flash begins: a copy whose trial was not confirmed is reverted (R440). -/
def State.loadFlash (s : State) : State :=
  let s := if s.cfg.lc = 0 ∨ s.cfg.lc = 5 then s
    else [0, 1].foldl (fun s k => if (s.stageRec k).stage = .trial then s.moveStage k .reverted else s) s
  ({ s with cfg := { s.cfg with tried := [] } }).loadNext
/-- LOAD is entered (R440, R441); with a backup domain that could not be restored it ends at once (R267). -/
def State.enterLoad (s : State) : State :=
  let s := s.setMode .load
  if s.pwr.bkpReset && s.bkpUnknown then s.loadSafe
  else if s.cfg.cspSel ≠ 0 then { s with cfg := { s.cfg with phase := .cspWait } } else s.loadFlash

/-- A copy is in configuration memory (R432): its good frames, its loaded regions and its target-class errors. -/
def State.placeFrames (s : State) (l : List Sec) : State :=
  let f := pkgFrames l
  let good : List (Nat × List Byte × Bool) := f.filterMap (fun x => x.got.map (fun g => (x.addr, (g.1.drop 8).take 256, g.2)))
  let bad := (f.filter (fun x => x.got.isNone)).map (fun x => x.addr) ++
    ([1, 2].filter (fun sp => !spaceWhole f sp)).map (fun sp => 2 ^ 24 * sp)
  let part := (List.range 8).filter (fun r => f.any (fun x => decide (frameSpace x.addr = 3 + r)))
  let lost := fun (r : Nat) => bad.any (fun a => decide (frameSpace a = 3 + r)) || !spaceWhole f (3 + r) ||
    (Config.regionCfg (spaceData f (3 + r))).chainTooLong
  let s := { s with
    cfg := { s.cfg with
      frames := good.foldl (fun (m : Map (List Byte)) (e : Nat × List Byte × Bool) => Map.set m e.1 e.2.1) []
      bad := bad, ce := min 0xFFFF (s.cfg.ce + (good.filter (fun (e : Nat × List Byte × Bool) => e.2.2)).length), pos := none }
    edg := { s.edg with loaded := part.filter (fun r => !lost r) } }
  s.initFab (List.range 8)

/-- What a loaded copy is: BOOT_SRC, its CSEQ, and whether it is on trial. -/
def bootSrcOf (k : Nat) : Nat := k + 1
/-- The spaces in error at the end of LOAD put their banks into FAILSAFE (R433). -/
def State.spaceErrors (s : State) (hold : Bool) (l : List Nat) : State :=
  l.foldl (fun (s : State) sp =>
    if s.cfg.bad.any (fun a => decide (frameSpace a = sp)) then s.spaceError sp hold else s) s
/-- The retries of this RESET are reported at IDLE (R460). -/
def State.reportRetries (s : State) : State :=
  if s.clk.ioscRetry = 0 ∧ s.clk.extRetry = 0 ∧ s.clk.ioscTrip = false then s
  else s.report 0x0346 clsEvent 0 none (s.clk.ioscRetry + 2 ^ 8 * s.clk.extRetry + 2 ^ 16 * s.clk.rstCause)
/-- The reports at the end of LOAD: what was loaded, the Bay image, a backup domain that had reset (R440, R267). -/
def State.reportLoad (s : State) (src cseq : Nat) : State :=
  let s := s.report 0x0400 clsEvent 0 none (src + 2 ^ 32 * cseq)
  let s := if src = 3 then s.report 0x0403 clsDegraded 0 none 0 else s
  s.reportBkp
/-- The end of LOAD with a copy that has passed (R430, R440, R267, R460): presets, the reports, and IDLE. -/
def State.loadPassed (s : State) (src cseq : Nat) (trial : Bool) (bs : List Byte) (l : List Sec) : State :=
  let s := s.placeFrames l
  let s := { s with cfg := { s.cfg with
    phase := .none, push := [], bootSrc := src, bootSeq := cseq, trial := trial, auth := olpAuth bs, rollback := olpRollback bs } }
  let s := (s.applyPresets (pkgPresets l)).reportLoad src cseq
  let s := (s.spaceErrors false (List.range' 1 10)).reportRetries
  (s.setMode .idle).startLinks.presetEdg
/-- A copy has failed: it is recorded, a trial is reverted, and the next copy is taken (R440). -/
def State.loadFailed (s : State) (k : Nat) (trial : Bool) (code : Nat) : State :=
  let s := s.report 0x0401 clsDegraded 0 none (k + 2 ^ 8 * code + 2 ^ 32 * (s.stageRec k).cseq)
  let s := if trial then s.moveStage k .reverted else s
  ({ s with cfg := { s.cfg with tried := k :: s.cfg.tried } }).loadNext
/-- The package of a slot or of a push passes its checks, or the code of its refusal. -/
def State.checkCopy (s : State) (kind limit : Nat) (path : OlpPath) (bs : List Byte) (atLoad : Bool) : Nat :=
  let c := identityCheck (s.olpEnv kind limit path) bs
  if c ≠ 0 then c
  else
    let l := (olpSecs bs).getD []
    if atLoad then loadFail kind l else fullCheck kind l
/-- Bytes of package that a slot holds (R435). -/
def slotBytes (k : Nat) : Nat := 65472 * (if k = 2 then 192 else 384)
/-- The first sector of a slot (Table 15-8). -/
def slotSector (k : Nat) : Nat := if k = 0 then 2 else if k = 1 then 386 else 770
def slotKind (k : Nat) : Nat := if k = 2 then kBay else kConfig
/-- The bytes in a slot. -/
def State.slotData (s : State) (k : Nat) : List Byte := Map.get s.cfg.flash.slots [] k

/-! ### Updates (R444, R445) -/

/-- An update has a result, with the stage that it wrote. -/
def State.updDone (s : State) (csp : Bool) (result : Nat) (u : Option UStage) : State :=
  { s with cfg := { s.cfg with updResult := result, updCsp := csp, updStage := u.getD s.cfg.updStage } }
/-- The copy slot that does not hold the confirmed copy with the highest CSEQ (R444). -/
def State.targetSlot (s : State) : Nat :=
  match sortBy (fun a b => decide ((s.stageRec b).cseq < (s.stageRec a).cseq)) s.confirmed with
  | k :: _ => 1 - k
  | [] => if (s.stageRec 0).cseq ≤ (s.stageRec 1).cseq then 0 else 1
/-- DOWNLOAD begins (R444): one at a time, only where the life-cycle state permits it. -/
def State.startDownload (s : State) (csp bay : Bool) (off len : Nat) : State :=
  if s.cfg.job.isSome then s.updDone csp 0x42 none
  else if lcPermits s.cfg.lc (if bay then .updateBay else .update) = false then s.updDone csp 0x09 none
  else
    let k := if bay then 2 else s.targetSlot
    let c := s.topCseq + 1
    let s := s.writeStage k .download c len 0
    let s := s.updFlash (fun f => { f with slots := Map.del f.slots k })
    let j : UpdJob := { slot := k, cseq := c, csp := csp, off := off, len := len, bytes := [], ended := false }
    { s with cfg := { s.cfg with
      job := some j, updStage := .download, updResult := 0, updCsp := csp, progress := 0
      trial := s.cfg.trial && decide (s.cfg.bootSrc ≠ k + 1) } }
/-- ACTIVATE (R445). -/
def State.activate (s : State) (csp : Bool) : State :=
  if s.cfg.job.isSome then s.updDone csp 0x42 none
  else
    match [0, 1].find? (fun k => decide ((s.stageRec k).stage = .verified)) with
    | none => s.updDone csp 0x43 none
    | some k =>
      let c := s.checkCopy kConfig (slotBytes k) .update (s.slotData k) false
      if c = 0 then (s.moveStage k .activated).updDone csp 0 (some .activated)
      else ((s.moveStage k .aborted).report 0x0407 clsEvent 0 none (k + 2 ^ 8 * c)).updDone csp c (some .aborted)
/-- CONFIRM (R445): the loaded copy's trial ends, and MC0 rises to its ROLLBACK. -/
def State.confirmTrial (s : State) (csp : Bool) : State :=
  if s.cfg.job.isSome then s.updDone csp 0x42 none
  else
    let k := s.cfg.bootSrc - 1
    if (s.cfg.bootSrc = 1 ∨ s.cfg.bootSrc = 2) ∧ (s.stageRec k).stage = .trial then
      let s := s.moveStage k .confirmed
      let s := { s with cfg := { s.cfg with trial := false } }
      let s := if s.mc 0 < s.cfg.rollback then s.raiseMc 0 s.cfg.rollback else s
      s.updDone csp 0 (some .confirmed)
    else s.updDone csp 0x43 none

/-- The sectors of a slot are erased and programmed in ascending order, `n` of them (R436, R444). -/
def State.programSlot (s : State) (k n : Nat) : State :=
  (List.range n).foldl (fun s i => s.eraseSector (s.sectorOf (slotSector k + i))) s
/-- Sectors that a package of `len` bytes takes. -/
def sectorsOf (len : Nat) : Nat := (len + 65471) / 65472
/-- The programmed package is checked: VERIFIED or ABORTED (R444). -/
def State.verifyDownload (s : State) (j : UpdJob) (bytes : List Byte) : State :=
  let path := if j.slot = 2 then OlpPath.updateBay else OlpPath.update
  let c := s.checkCopy (slotKind j.slot) (slotBytes j.slot) path bytes false
  if c = 0 then
    let s := s.writeStage j.slot .verified j.cseq (olpLength bytes) (olpPcheck bytes)
    ({ s with cfg := { s.cfg with job := none } }).updDone j.csp 0 (some .verified)
  else s.abortJob c
/-- Page verifies were repeated in sectors of a slot (R436, R437). -/
def State.countRetries (s : State) (k : Nat) (l : List (Fin 384 × BitVec 16)) : State :=
  let s := l.foldl (fun s e =>
    let n := s.sectorOf (slotSector k + e.1.val)
    s.updFlash (fun f => { f with retries := Map.set f.retries n (Map.get f.retries 0 n + e.2.toNat) })) s
  { s with cfg := { s.cfg with flashRetries := min 0xFFFFFFFF (s.cfg.flashRetries + sumNat (l.map (fun e => e.2.toNat))) } }
/-- The end of a DOWNLOAD (R437, R444): page verifies were repeated as `retries` says, and sector `failed` of the slot, if any, failed
for good. -/
def State.finishDownload (s : State) (j : UpdJob) (bytes : List Byte) (retries : List (Fin 384 × BitVec 16)) (failed : Option Nat) : State :=
  let bytes := bytes.take (slotBytes j.slot)
  let n := sectorsOf bytes.length
  if (List.range n).any (fun i => s.cfg.flash.noSpare.contains (slotSector j.slot + i)) then s.abortJob 0x40
  else
    let s := s.countRetries j.slot retries
    match failed with
    | some i =>
      if i < n then
        let s := s.programSlot j.slot (i + 1)
        (({ s with cfg := { s.cfg with progress := i } }).retireSector (slotSector j.slot + i)).abortJob 0x41
      else s
    | none =>
      let s := s.programSlot j.slot n
      let s := s.updFlash (fun f => { f with slots := Map.set f.slots j.slot bytes })
      ({ s with cfg := { s.cfg with progress := n } }).verifyDownload j bytes

end Sys2Proof.Machine
end

