-- ==== Sys2Proof/Machine/TraceOps.lean ====
section
/-!
DEFINITION. Trace packets entering sinks, and the sinks' registers and rings (R383 to R394).
-/
namespace Sys2Proof.Machine

/-- VALS of memory unit `u` (Table 13-8). -/
def State.valMode (s : State) (u : Nat) : Nat := s.rfld (memReg u) 20 2
/-- The body of a MEMACC and whether it takes full form (R391). -/
def State.memBody (s : State) (k u : Nat) (a : MemAcc) (full : Bool) : Bool × List Byte :=
  let vals := s.valMode u
  let ops := leBytes (a.op + 2 ^ 2 * a.lane + 2 ^ 3 * vals) 1
  let words := (if vals = 2 then leBytes a.before.toNat 4 else []) ++ (if vals = 0 then [] else leBytes a.after.toNat 4)
  let b := (s.sink k).base.find? (fun e => decide (e.1 = u))
  let delta := match b with
    | some (_, e, i) => decide (e ≤ a.ecyc ∧ a.ecyc - e ≤ 255 ∧ i ≤ a.idx + 32768 ∧ a.idx ≤ i + 32767)
    | none => false
  if delta && !full && decide (s.rfld (sinkReg k) 9 1 = 0) then
    let e := b.getD (0, 0, 0)
    (false, leBytes (a.ecyc - e.2.1) 1 ++ ops ++ leBytes (BitVec.ofInt 16 ((a.idx : Int) - e.2.2)).toNat 2 ++ words)
  else (true, leBytes a.ecyc 8 ++ ops ++ leBytes a.memid 1 ++ zeros 2 ++ leBytes a.idx 4 ++ words)

/-- Fill that a source packet of priority `p` may reach (R387). -/
def fillLimit (p : Nat) : Nat := if p = 0 then 65536 else if p = 1 then 98304 else if p = 2 then 122880 else 126976
/-- A source packet is dropped (R387, R388). -/
def State.traceDrop (s : State) (k src : Nat) : State :=
  let q := s.sink k
  let n := Map.get q.drops 0 src
  let s := s.setSink k { q with lost := satInc q.lost 0xFFFFFFFF, lostSeen := true, drops := Map.set q.drops src (n + 1) }
  let l := Map.set s.chv.srcLost src (satInc (Map.get s.chv.srcLost 0 src) 0xFFFFFFFF)
  let s := { s with chv := { s.chv with srcLost := l } }
  if n = 0 then s.report 0x0840 clsEvent src none (k + 2 ^ 8 * src) else s
/-- A source packet enters a sink's staging, or is dropped (R387 to R392). -/
def State.enterSink (s : State) (k : Nat) (p : TracePkt) : State :=
  let q := s.sink k
  let pri := s.rfld (srcReg p.src) 1 2
  let n := Map.get q.drops 0 p.src
  if !q.en || s.chv.frozen then s
  else
    let size := match p.acc with
      | some a => 8 + (s.memBody k p.src a (decide (n ≠ 0))).2.length
      | none => 8 + p.payload.length
    if !q.wait.isEmpty || decide (fillLimit pri < q.fill + size) then s.traceDrop k p.src
    else
      let s := if n = 0 then s else
        ((s.syncPut k 3 0xFF allOnes64).funnelMark k 0xC 0xFF p.src n).updSink k (fun q => { q with drops := Map.del q.drops p.src })
      let s := if (s.sink k).far p.sec p.ns then s.syncPut k 6 0xFF allOnes64 else s
      let was := (s.sink k).count
      let b := match p.acc with
        | some a => s.memBody k p.src a (decide (n ≠ 0))
        | none => (true, p.payload)
      let td := thyDiff p.sec p.ns (s.sink k).lastSec (s.sink k).lastNs
      let s := s.updSink k (fun q => q.put (tracePacket p.src pri p.typ (b2n b.1) p.ten td b.2) p.sec p.ns false)
      let s := match p.acc with
        | some a => s.updSink k (fun q => { q with base := Map.set q.base p.src (a.ecyc, a.idx) })
        | none => s
      s.periodic k was

/-- A sink that a source may write into (R383). -/
def State.maySink (s : State) (src k : Nat) : Bool :=
  let own := s.sinkOwner k
  if src < 16 then decide (own = 0 ∨ own = s.rfld (memReg src) 0 8)
  else if src = 0x10 ∨ src = 0x12 ∨ src = 0x13 then decide (own = 0) else true
/-- The sinks of a packet (R383, R392). -/
def State.sinksOf (s : State) (p : TracePkt) : List Nat :=
  if p.src = 0x11 then (List.range 8).filter (fun k => decide (s.sinkOwner k = p.ten ∧ s.rfld (sinkReg k) 10 1 = 1))
  else match p.sink with
    | some k => [k]
    | none => (List.range 8).filter (fun k => decide (k = s.rfld (srcReg p.src) 4 3) && s.maySink p.src k)

/-! ### Memory trace (R384 to R386) -/

/-- Memory unit `u` traces a performed command. -/
def State.traces (s : State) (u t : Nat) (a : MemAcc) : Bool :=
  let c := s.reg (memReg u)
  let v := fun (o : Nat) => s.reg (memReg u + o)
  decide (fld c 0 8 = t ∧ fld c 8 6 = a.memid) && (fld c 16 4).testBit a.op &&
    decide (v 4 ≤ a.idx ∧ a.idx ≤ v 8 ∧ (a.after.toNat ^^^ v 12) &&& v 16 = 0)
/-- The memory units that watch it make a packet of a performed command; none of an ecycle that is replayed (R386). -/
def State.memTrace (s : State) (t : Nat) (a : MemAcc) : State :=
  if (s.ten t).recov.any (fun r => decide (a.ecyc < r.upTo)) then s
  else (List.range 16).foldl (fun s u =>
    if s.traces u t a then
      s.emit { src := u, ten := t, typ := 1, payload := [], sec := s.thy.sec, ns := s.thy.ns, acc := some a }
    else s) s
/-! ### Sinks (R393, R394) -/

/-- EN is written 1: the indices are 0 and a SYNC START comes first. -/
def State.enableSink (s : State) (k : Nat) : State :=
  if (s.sink k).en || s.chv.frozen then s
  else (s.setSink k { en := true, lost := (s.sink k).lost, lostSeen := (s.sink k).lostSeen }).syncPut k 1 0xFF allOnes64
/-- EN is written 0. -/
def State.disableSink (s : State) (k : Nat) : State :=
  if (s.sink k).en then (s.closePut k 2 0xFF).updSink k (fun q => { q with en := false }) else s
/-- OWNER is written: the sink is disabled without a CLOSE, and what it had staged is dropped (log entry 23). -/
def State.setSinkOwner (s : State) (k owner : Nat) : State :=
  (s.setReg (sinkReg k) (setFld (setFld (s.reg (sinkReg k)) 8 1 0) 0 8 owner)).updSink k (fun q =>
    { q with en := false, staging := [], wait := [] })
/-- CHV_SINK_CTL as stored. -/
def sinkCtlStored (v : Nat) : Nat :=
  let v := setFld v 16 6 (max 16 (min 36 (fld v 16 6)))
  setFld v 24 4 (max 8 (fld v 24 4))
/-- A ring that does not lie at a multiple of its size, or that reaches into the owner's carved areas, image or deep memories (R393,
R196). -/
def State.sinkBad (s : State) (t base size : Nat) : Bool :=
  decide (base % size ≠ 0) || (s.ten t).img.any (fun i => s.inCarved t (s.ten t).ntiles base size || overlaps base size i.off i.len ||
    i.memRanges.any (fun m => overlaps base size m.1 m.2))
/-- CHV_SINK_CTL is written (Table 13-8). -/
def State.writeSinkCtl (s : State) (k v : Nat) : State :=
  let off := sinkReg k
  let v := sinkCtlStored (v &&& 0x0F3F07FF)
  let old := s.reg off
  if fld v 0 8 ≠ fld old 0 8 then
    if s.sinkBad (fld v 0 8) (s.sinkBase k) (2 ^ fld v 16 6) then s.accValue off
    else (s.setReg off (setFld v 8 1 0)).setSinkOwner k (fld v 0 8)
  else
    let same := decide (setFld v 8 1 0 = setFld old 8 1 0)
    let s := if same then s
      else if (s.sink k).en then s.accState off
      else if fld v 16 6 ≠ fld old 16 6 ∧ s.sinkBad (fld v 0 8) (s.sinkBase k) (2 ^ fld v 16 6) = true then s.accValue off
      else s.setReg off (setFld v 8 1 0)
    if bit v 8 = 1 then s.enableSink k else s.disableSink k
/-- CHV_SINK_BASE is written (R393). -/
def State.writeSinkBase (s : State) (k off v : Nat) : State :=
  let n := s.setReg off v
  if (s.sink k).en then s.accState off
  else if n.sinkBad (s.sinkOwner k) (n.sinkBase k) (s.sinkSize k) then s.accValue off else n
/-- CHV_SRC is written (R383). -/
def State.writeSrc (s : State) (id v : Nat) : State :=
  let v := v &&& 0x77
  let n := s.setReg (srcReg id) v
  if id ≠ 0x11 ∧ n.maySink id (fld v 4 3) = false then s.accOwner (srcReg id) else n
/-- CHV_MEM registers are written: not while the unit's source is enabled. -/
def State.writeMemUnit (s : State) (u off v : Nat) : State :=
  if s.rfld (srcReg u) 0 1 = 1 then s.accState off
  else s.setReg off (if off = memReg u ∧ fld v 20 2 = 3 then setFld v 20 2 2 else v)
/-- CHV_SINK_SWMARK[k] is written: a SWMARK in sink k, whatever CHV_SRC[0x14].SINK names (log entry 105). -/
def State.writeSwmark (s : State) (k v : Nat) : State :=
  s.emit { src := 0x14, ten := 0xFF, typ := 6, payload := leBytes v 4 ++ zeros 4, sec := s.thy.sec, ns := s.thy.ns, sink := some k }
/-- CHV_SINK_RIDX is written (rules as Table 6-13). -/
def State.writeSinkRidx (s : State) (k v : Nat) : State :=
  let q := s.sink k
  if v < q.ridx ∨ q.widx < v then s.accValue (sinkReg k + 0x18) else s.setSink k { q with ridx := v }

/-- Funnel packets that waited enter as room comes. -/
def State.funnelWaiting (s : State) (k : Nat) : State :=
  match (s.sink k).wait with
  | (typ, ten, a, b) :: rest =>
    if (s.sink k).fill + 8 + (s.funnelBody k typ a b).length ≤ 131072 then
      (s.updSink k (fun q => { q with wait := rest })).funnelPut k typ ten a b
    else s
  | [] => s
/-- The oldest staged packet drains to the ring (R393) under OBS tokens of 4 KiB; past the region it is refused (R329). Of a packet in
poisoned staging lines `bad` those lines are zeros, and a SYNC LOSS follows at once (R394, Table 11-8). -/
def State.sinkDrain (s : State) (k : Nat) (bad : BitVec 10) : State :=
  let q := s.sink k
  match q.staging with
  | [] => s.funnelWaiting k
  | p :: rest =>
    let t := s.sinkOwner k
    if s.sinkSize k < q.widx - q.ridx + p.length then s
    else if q.paid < p.length then
      if q.tok = 0 then
        let r := s.askTokens 5 t 4096
        r.2.updSink k (fun q => { q with tok := r.1 })
      else if s.tokWaits 5 q.tok then s
      else s.setSink k { q with tok := 0, paid := q.paid + 4096 }
    else
      let z := zeroLines q.widx bad p
      let s := s.setSink k { q with staging := rest, paid := q.paid - p.length, widx := q.widx + p.length }
      let s := if s.rsize t < s.sinkBase k + s.sinkSize k then s.regionFault t (s.sinkBase k)
        else { s with ds := s.ds.putRing (s.rbase t + s.sinkBase k) (s.sinkSize k) q.widx z }
      let s := if z = p then s else if q.en && !s.chv.frozen then s.stagingUe.syncPut k 3 0xFF allOnes64 else s.stagingUe
      s.funnelWaiting k
end Sys2Proof.Machine
end

