-- ==== Sys2Proof/Machine/DeepOps.lean ====
section
/-!
DEFINITION. The deep store: its errors and row repairs (R331 to R336), and the performance of deep commands by the hub (R149,
R150, R328, R337, R358).
-/
namespace Sys2Proof.Machine

/-! ### Stacks (R332 to R335) -/

def State.stack (s : State) (k : Nat) : Stack := Map.get s.noc.stks {} k
def State.setStack (s : State) (k : Nat) (v : Stack) : State := { s with noc := { s.noc with stks := Map.set s.noc.stks k v } }
def State.updStack (s : State) (k : Nat) (f : Stack → Stack) : State := s.setStack k (f (s.stack k))
/-- Stack and pseudo-channel of a deep-store byte address (R332). -/
def dsStack (a : Nat) : Nat := a / 4096 % 4
def dsChannel (a : Nat) : Nat := a / 4096 / 4 % 32
/-- The row of an address within its stack: pseudo-channel and row. -/
def rowKey (a : Nat) : Nat := dsChannel a * 2 ^ 24 + (Config.dsRow a).toNat
/-- DETAIL of the row codes (Table 11-12). -/
def rowDetail (k key : Nat) : Nat := k + 4 * (key / 2 ^ 24) + 256 * (key % 2 ^ 24)
/-- Address of line `n` of a stack, counting its granules in ascending order. -/
def stackLine (k n : Nat) : Nat := (4 * (n / 64) + k) * 4096 + 64 * (n % 64)
/-- Lines of a stack of 24 GiB. -/
def stackLines : Nat := 402653184
/-- DST_CFG. -/
def dstCfg : Nat := 0xC0100
/-- The tenant whose region holds a deep-store address. -/
def State.dsOwner (s : State) (a : Nat) : Option Nat :=
  (List.range 256).find? (fun t => decide (s.rbase t ≤ a ∧ a < s.rbase t + s.rsize t))
/-- The line's 64 bytes are marked poisoned. -/
def State.poisoned (s : State) (a : Nat) : Bool := s.noc.dsPoison.contains (a / 64)

/-- A row needs repair (R335): it starts where a spare row is left, whether one is left being free (log entry 34). -/
def State.wantRepair (s : State) (a : Nat) : State :=
  let k := dsStack a
  let key := rowKey a
  if s.rfld dstCfg 8 1 = 0 ∨ (s.stack k).inRepair.contains key = true then s
  else
    let r := s.freshBit
    if r.1 then r.2.updStack k (fun v => { v with inRepair := key :: v.inRepair })
    else
      let s := r.2
      if (s.stack k).noRepairRec.contains key then s
      else
        (s.updStack k (fun v => { v with noSpare := satInc v.noSpare 0xFFFF, noRepairRec := key :: v.noRepairRec })).report
          0x0608 clsDegraded k none (rowDetail k key)
/-- A corrected error of a line: counted, and a row with too many within the pass is repaired (R333, R335). -/
def State.dsCe (s : State) (a : Nat) : State :=
  let k := dsStack a
  let key := rowKey a
  let n := Map.get (s.stack k).rowCe 0 key + 1
  let s := s.updStack k (fun v => { v with ce := satInc v.ce 0xFFFF, rowCe := Map.set v.rowCe key n })
  let s := s.report 0x0605 clsCorrected k none a
  if s.rfld dstCfg 16 8 ≤ n then s.wantRepair a else s
/-- An uncorrectable error of a line: counted and recorded, and the line stays poisoned (R333). -/
def State.dsUe (s : State) (a : Nat) : State :=
  let k := dsStack a
  let s := s.updStack k (fun v => { v with ue := satInc v.ue 0xFFFF })
  let s := { s with noc := { s.noc with dsPoison := (a / 64) :: s.noc.dsPoison } }
  (s.report 0x0606 clsTenant k (s.dsOwner a) a).wantRepair a

/-- What the code of a line gives when it is read (R333): whether its data can be used, and whether they are as stored. An
error in three symbols or more is found, miscorrected or missed as the hardware gives (log entry 35). -/
def State.dsCheck (s : State) (a : Nat) (f : ErrFound) : Bool × Bool × State :=
  if s.poisoned a then (false, true, s.report 0x060A clsTenant (dsStack a) (s.dsOwner a) a)
  else
    match f with
    | .clean => (true, true, s)
    | .single => (true, true, s.dsCe a)
    | .double => (false, true, s.dsUe a)
    | .multi =>
      let r := s.freshNat
      if r.1 % 3 = 0 then (false, true, r.2.dsUe a)
      else (true, false, if r.1 % 3 = 1 then r.2.dsCe a else r.2)

/-! ### Deep commands -/

/-- Line accesses that a deep command needs tokens for (R328, R337): a read, and a write where it writes. -/
def DeepCmd.accesses (c : DeepCmd) : Nat := if c.op ≠ 0 ∧ c.en = true then 2 else 1
/-- The tenant's tokens pay for a deep command; if not, one is asked for, of which 64 accesses come (R337). -/
def State.payDeep (s : State) (t n : Nat) : Bool × State :=
  let paid := Map.get s.noc.deepPaid 0 t
  let tok := Map.get s.noc.deepTok 0 t
  let put := fun (s : State) (p k : Nat) =>
    { s with noc := { s.noc with deepPaid := Map.set s.noc.deepPaid t p, deepTok := Map.set s.noc.deepTok t k } }
  if n ≤ paid then (true, put s (paid - n) tok)
  else if tok = 0 then
    let r := s.askTokens 3 t 4096
    (false, put r.2 paid r.1)
  else if s.tokWaits 3 tok then (false, s)
  else (true, put s (paid + 64 - n) 0)

/-- Bytes in message staging (Table 11-7). -/
def State.staged (s : State) : Nat := sumNat (s.host.msgs.map (fun m => m.bytes.length)) + sumNat (s.host.ins.map (fun m => m.bytes.length))
/-- The out port that a memory is bound to. -/
def State.outPort (s : State) (t memid : Nat) : Option (Nat × Port) :=
  ((s.ten t).ports.find? (fun e => e.2.out && decide (e.2.memid = memid)))
/-- The EMIT word's message (R358, Table 12-11): its bytes, and whether its form is bad. -/
def State.emitted (s : State) (e : DeepEnt) (a : Nat) (emit : Word) (n : Nat) : Bool × List Byte :=
  let len := fld emit.toNat 0 13
  let start := fld emit.toNat 13 19
  if len = 0 ∨ 4096 < len ∨ start = 0 ∨ 2 ^ e.k < start + (len + 7) / 8 ∨ 65535 < n then (true, [])
  else (false, s.ds.readBytes (a + 8 * start) len)
/-- An enabled DWRITE to lane 0 of word 0 emits a message where its memory is an out port (R358, R253). Within one ecycle the flow may
grow past 1,024, up to the 65,536 places of R253: R255 only withholds starts, and that nothing else stops it is the model's choice (log
entry 103). -/
def State.emitMsg (s : State) (c : DeepCmd) (e : DeepEnt) (a : Nat) : State :=
  match s.outPort c.ten c.memid with
  | some (p, b) =>
    let n := match (s.ten c.ten).outSeq.find? (fun x => decide (x.1 = p)) with
      | some x => if x.2.1 = c.ecyc then x.2.2 else 0
      | none => 0
    let m := s.emitted e a c.data n
    let s := s.updTen c.ten (fun v => { v with outSeq := Map.set v.outSeq p (c.ecyc, n + 1) })
    let msg : Msg := { ten := c.ten, port := p, cq := b.cq, e := c.ecyc, s := n, len := fld c.data.toNat 0 13, bytes := m.2, bad := m.1
                       done := none }
    { s with host := { s.host with msgs := s.host.msgs ++ [msg] } }
  | none =>
    if (s.ten c.ten).gone.contains c.memid then
      s.report 0x0505 clsEvent c.ten (some c.ten) (c.ten + 2 ^ 8 * c.memid + 2 ^ 16 * (c.ecyc % 2 ^ 48))
    else s
/-- The command emits, and message staging has no room for what it would emit. -/
def State.emitWaits (s : State) (c : DeepCmd) (e : DeepEnt) (a : Nat) : Bool :=
  decide (c.op = 1 ∧ c.en = true ∧ c.addr = 0 ∧ c.lane = 0) && (s.outPort c.ten c.memid).isSome &&
    decide (2 ^ 20 < s.staged + (s.emitted e a c.data 0).2.length)

/-- The first command of a memory's queue leaves it. -/
def State.popDeep (s : State) (c : DeepCmd) : State := { s with noc := { s.noc with deepQ := removeFirst (fun x => x = c) s.noc.deepQ } }
/-- The answer to a command that delivers a result goes on its way; a failure is on record at `seq`. -/
def State.answerDeep (s : State) (c : DeepCmd) (status : Nat) (v : Word) (seq : Nat) : State :=
  if c.rdv then
    let r : DeepAns := { ten := c.ten, itile := c.itile, rd := c.rd, ident := c.ident, val := v, status := status, ecyc := c.ecyc
                         step := c.step, seq := seq, memid := c.memid }
    { s with noc := { s.noc with answers := s.noc.answers ++ [r] } }
  else s
/-- A deep command fails (R149, R150, R228, Table 7-5): the reports, the late error, and the rollback, which the answer of a command with
a result brings. `off` is the byte offset in the region. -/
def State.deepFails (s : State) (c : DeepCmd) (status off : Nat) : State :=
  let s := if status = 1 then s.report 0x0132 clsTenant 0 (some c.ten) (off / 64 * 64) else s
  let seq := s.lastSeq
  let s := s.lateError c.ten (off / 64 * 64) (leBytes 0xFF 1 ++ leBytes 1 1 ++ leBytes 0xFFFF 2 ++ leBytes c.ecyc 8 ++
    leBytes (off / 64 * 64) 8 ++ leBytes s.moduleId 1 ++ leBytes c.memid 1 ++ leBytes c.itile 2 ++ zeros 4)
  if c.rdv then s.answerDeep c status 0 seq else s.dataLoss c.ten c.ecyc seq

/-- The hub performs the first command of a memory's queue, if it is an operation `op` (R149, R328, R329, Table 4-6). `wbad`
says that its write fails after its retry. -/
def State.performDeep (s : State) (t memid op : Nat) (f : ErrFound) (wbad : Bool) : State :=
  match s.noc.deepQ.find? (fun c => decide (c.ten = t ∧ c.memid = memid)) with
  | none => s
  | some c =>
    if c.op ≠ op then s
    else
      match (s.ten t).img.bind (fun i => i.mem memid) with
      | none => s.popDeep c
      | some e =>
        let off := e.base + 8 * c.addr
        let a := s.rbase t + off
        if s.rsize t ≤ off then ((s.popDeep c).regionFault t off).deepFails c 2 off
        else if (s.stack (dsStack a)).inRepair.contains (rowKey a) then s
        else if s.emitWaits c e (s.rbase t + e.base) then s
        else if s.faultWaits t then s
        else if decide (c.op ≠ 0 ∧ c.en = true) && s.needsJournal t memid (c.addr / 8) c.ecyc && decide ((s.faultAcct t).1 < 128) then
          s.askFault t 128
        else
          let p := s.payDeep t c.accesses
          if !p.1 then p.2
          else
            let r := (p.2.popDeep c).dsCheck (a / 64 * 64) f
            let s := r.2.2
            if !r.1 then s.deepFails c 1 off
            else
              let x := s.freshDWord
              let old := if r.2.1 then BitVec.ofNat 32 (s.ds.le (a + 4 * c.lane) 4) else laneOf x.1 0
              let s := if r.2.1 then s else x.2
              let new := laneAfter c.op old c.data c.en
              let acc : MemAcc := { ecyc := c.ecyc, op := c.op, lane := c.lane, memid := memid, idx := c.addr, before := old, after := new }
              if c.op = 0 ∨ c.en = false then
                (if c.op = 0 then s.memTrace t acc else s).answerDeep c 0 old 0
              else if wbad then s.deepFails c 1 off
              else
                let s := s.journalLine t memid (c.addr / 8) c.ecyc
                let s := { s with ds := s.ds.putLE (a + 4 * c.lane) 4 new.toNat }
                let s := if c.op = 1 ∧ c.addr = 0 ∧ c.lane = 0 then s.emitMsg c e (s.rbase t + e.base) else s
                (s.memTrace t acc).answerDeep c 0 old 0

end Sys2Proof.Machine
end

