-- ==== Sys2Proof/Machine/LoadParse.lean ====
section
/-!
DEFINITION. A tenant image as its sections give it (R80, R155 to R160, R495): the head, the lattice map, the deep memories and
the program and initial state of each tile of this module.
-/
namespace Sys2Proof.Machine

/-- Section types (Table 5-2). -/
def tSched : Nat := 0x0100
def tMap : Nat := 0x0101
def tDeep : Nat := 0x0102
def tStep : Nat := 0x0200
def tXbar : Nat := 0x0201
def tCtrl : Nat := 0x0202
def tDict : Nat := 0x0203
def tSend : Nat := 0x0204
def tSeqcfg : Nat := 0x0205
def tRetain : Nat := 0x0206
def tArray : Nat := 0x0207
def tMac : Nat := 0x0208
def tTaps : Nat := 0x0209
def tDebug : Nat := 0x7F00
def tileTypes : List Nat := [tStep, tXbar, tCtrl, tDict, tSend, tSeqcfg, tRetain, tArray, tMac, tTaps]
def tileRequired : List Nat := [tStep, tXbar, tCtrl, tDict, tSend, tSeqcfg, tRetain]
def tenantTypes : List Nat := [tSched, tMap, tDeep]
/-- A type listed in Table 5-2. -/
def listedType (t : Nat) : Bool := tenantTypes.contains t || tileTypes.contains t || decide (t = tDebug)

/-- `n` records of `w` bytes each, as numbers. -/
def records (w : Nat) (bs : List Byte) : Nat → List Nat
  | 0 => []
  | n + 1 => leNat (bs.take w) :: records w (bs.drop w) n

/-- A run of an ARRAY_INIT section: bank, reserved byte, first word, its words. -/
structure Run where
  bank : Nat
  rsv : Nat
  first : Nat
  words : List Nat
deriving DecidableEq, Repr
/-- The runs of a payload; none where a run does not lie in it. -/
def runsOf (bs : List Byte) : Nat → Option (List Run × List Byte)
  | 0 => some ([], bs)
  | n + 1 =>
    let k := leAt bs 4 4
    if bs.length < 8 + 8 * k then none
    else
      let r : Run := { bank := leAt bs 0 1, rsv := leAt bs 1 1, first := leAt bs 2 2, words := records 8 (bs.drop 8) k }
      (runsOf (bs.drop (8 + 8 * k)) n).map (fun x => (r :: x.1, x.2))
/-- The runs of an ARRAY_INIT section that test 0x01 has passed. -/
def Sec.runs (x : Sec) : List Run := ((runsOf x.payload x.count).map (fun r => r.1)).getD []

/-- The bytes that COUNT and the record sizes of Table 5-2 give (R495). -/
def Sec.lengthOk (x : Sec) : Bool :=
  let p := x.payload
  if x.typ = tSched then decide (x.len = 64)
  else if x.typ = tMap then decide (x.len = 8 + 8 * leAt p 0 2 + 4 * leAt p 3 2)
  else if x.typ = tDeep then decide (x.len = 16 * x.count)
  else if x.typ = tStep then decide (x.len = 7 * x.count)
  else if x.typ = tXbar then decide (x.len = 96 * x.count)
  else if x.typ = tCtrl then decide (x.len = 32 * x.count)
  else if x.typ = tArray then (match runsOf p x.count with | some r => r.2.isEmpty | none => false)
  else if x.typ = tMac then decide (x.len = 8 * x.count)
  else if x.typ = tDebug then true
  else if tileTypes.contains x.typ then decide (x.len = 8 * x.count)
  else true

/-- Entries other than zero, by their number. -/
def sparse {w : Nat} (l : List Nat) : Map (BitVec w) :=
  ((List.range l.length).zip l).filterMap (fun e => if e.2 = 0 then none else some (e.1, BitVec.ofNat w e.2))

/-- One tile of an image: its index, its sections' numbers by type, the count D of its control words, and what they hold. -/
structure PTile where
  it : Nat
  secs : Map Nat
  img : TileImg
  runs : List Run
deriving DecidableEq, Repr
/-- The number of the tile's section of a type. -/
def PTile.sec (p : PTile) (t : Nat) : Nat := Map.get p.secs 0 t

/-- The arrays that runs leave, a later run over an earlier one (R495). -/
def runWords (l : List Run) : Map DWord :=
  l.foldl (fun m r => ((List.range r.words.length).zip r.words).foldl (fun m e =>
    let k := 8192 * r.bank + r.first + e.1
    if e.2 = 0 then Map.del m k else Map.set m k (BitVec.ofNat 64 e.2)) m) []

/-- An image's tables, as far as they stand. -/
structure PImage where
  secs : List Sec
  sched : Sec
  map : Sec
  mods : List (Nat × Nat)
  links : List LinkEnt
  me : Option Nat
  deep : List DeepEnt
  deepSec : Nat
deriving DecidableEq, Repr

/-- A section that is absent. -/
def noSec : Sec :=
  { no := 0, off := 0, typ := 0, ver := 0, flags := 0, tile := 0, mod := 0, rsv := 0, len := 0, count := 0, check := 0, payload := [] }
/-- The first tenant-wide section of a type. -/
def findWide (l : List Sec) (t : Nat) : Option Sec := l.find? (fun x => decide (x.typ = t))
/-- The first section of a type for a tile of module index `m`. -/
def findTile (l : List Sec) (t it m : Nat) : Option Sec := l.find? (fun x => decide (x.typ = t ∧ x.tile = it ∧ x.mod = m))
/-- A DEEP_MEM entry (Table 5-5). -/
def deepEnt (w : Nat) : DeepEnt :=
  { memid := fld w 0 6, owner := fld w 8 8, ownerMod := fld w 16 8, k := fld w 24 5, init := decide (bit w 29 = 1)
    base := fld w 32 40 }

/-- The tenant-wide tables of an image (Tables 5-3 to 5-5); `own` is this module's ID. -/
def parseImage (l : List Sec) (own : Nat) : PImage :=
  let m := (findWide l tMap).getD noSec
  let d := (findWide l tDeep).getD noSec
  let k := leAt m.payload 0 2
  let mods := (records 8 (m.payload.drop 8) k).map (fun w => (fld w 0 8, fld w 8 8))
  { secs := l, sched := (findWide l tSched).getD noSec, map := m, mods := mods
    links := (records 4 (m.payload.drop (8 + 8 * k)) (leAt m.payload 3 2)).map (fun w =>
      { frm := fld w 0 8, dst := fld w 8 8, link := fld w 16 8 })
    me := (List.range mods.length).find? (fun i => (mods[i]?).any (fun e => decide (e.1 = own)))
    deep := (records 16 d.payload d.count).map deepEnt, deepSec := d.no }
/-- Image tiles of this module. -/
def PImage.ntiles (p : PImage) : Nat := (p.me.bind (fun i => p.mods[i]?)).elim 0 (fun e => e.2)

/-- The tile image of tile `it` (Table 3-2). -/
def PImage.tile (p : PImage) (it : Nat) : PTile :=
  let me := p.me.getD 0
  let x := fun t => (findTile p.secs t it me).getD noSec
  let r := fun t w => records w (x t).payload (x t).count
  let runs := (x tArray).runs
  { it := it
    secs := (tileTypes.filter (fun t => (findTile p.secs t it me).isSome)).map (fun t => (t, (x t).no))
    runs := runs
    img :=
      { prog := { depth := (x tCtrl).count, steps := sparse (r tStep 7), xbar := sparse (r tXbar 96), ctrl := sparse (r tCtrl 32)
                  dict := sparse (r tDict 8), sends := (r tSend 8).map (BitVec.ofNat 64)
                  seqCfg := BitVec.ofNat 64 ((r tSeqcfg 8).headD 0) }
        retInit := sparse (r tRetain 8), arrInit := runWords runs, macInit := sparse (r tMac 8)
        taps := (r tTaps 8).map (BitVec.ofNat 64) } }
/-- The tiles of this module. -/
def PImage.tiles (p : PImage) : List PTile := (List.range p.ntiles).map p.tile

end Sys2Proof.Machine
end

