-- ==== Sys2Proof/Machine/LoadWalk.lean ====
section
/-!
DEFINITION. The walks of the load check (R97 to R99): the static path of a tile from address 0 and from its trap vector, and the
slots that the path sends (R115 to R117).
-/
namespace Sys2Proof.Machine

/-- A tile with the program of a tile image, to read its stores by. -/
def PTile.asTile (p : PTile) : Tile := { prog := p.img.prog }

/-! ### The path (R98, R99) -/

/-- A frame of the walk: its kind, the address it goes back to, and of a LOOP its end and what remains. -/
structure WFrame where
  kind : FrameKind
  addr : Nat
  last : Nat
  rem : Nat
deriving DecidableEq, Repr

/-- What a step of the walk gives: the next address and stack, the end of the walk, or a refusal at this step. -/
inductive WNext where
  | go (a : Nat) (st : List WFrame)
  | fin
  | bad

/-- The address after a NEXT or TRAP, with loop-end detection at the topmost frame (R97 item 2). -/
def walkNext (s : Nat) (st : List WFrame) : WNext :=
  match st with
  | f :: r =>
    if f.kind = .loop ∧ f.last = s then
      if 1 < f.rem then .go f.addr ({ f with rem := f.rem - 1 } :: r) else .go (s + 1) r
    else .go (s + 1) st
  | [] => .go (s + 1) []

/-- One step of the walk (Table 3-6, R98, R99). A walk of the handler ends at the RETX that pops its EXC frame. -/
def walkStep (t : Tile) (s : Nat) (st : List WFrame) : WNext :=
  let a := t.opAddr s
  let d := t.prog.depth
  let room := decide (st.length + 1 ≤ t.cap - 1)
  match t.op s with
  | 0 => walkNext s st
  | 1 => if st.isEmpty then .fin else .bad
  | 2 => if a ≤ s then .bad else .go a st
  | 3 =>
    if a ≤ s ∨ d ≤ a ∨ room = false ∨ st.any (fun f => decide (f.kind = .loop ∧ f.last = a)) = true ∨
        (t.op a ≠ 0 ∧ t.op a ≠ 6) then .bad
    else .go (s + 1) ({ kind := .loop, addr := s + 1, last := a, rem := t.opCount s } :: st)
  | 4 => if room then .go a ({ kind := .call, addr := s + 1, last := 0, rem := 0 } :: st) else .bad
  | 5 => match st with
    | f :: r => if f.kind = .call then .go f.addr r else .bad
    | [] => .bad
  | 6 => walkNext s st
  | 7 => match st with
    | f :: r => if f.kind = .exc then (if r.isEmpty then .fin else .go f.addr r) else .bad
    | [] => .bad
  | _ => .bad

/-- The walk from address `s`: the addresses executed, in order, or the step at which it meets a failure. Fuel is the number
of steps still allowed. -/
def walk (t : Tile) (s : Nat) (st : List WFrame) (acc : List Nat) : Nat → Except Nat (List Nat)
  | 0 => .error s
  | n + 1 =>
    match walkStep t s st with
    | .bad => .error s
    | .fin => .ok (s :: acc).reverse
    | .go a st' => if t.prog.depth ≤ a then .error s else walk t a st' (s :: acc) n
/-- Most executed steps of a walk (R99). -/
def walkLimit : Nat := 1048576
/-- The static path of a tile. -/
def mainWalk (t : Tile) : Except Nat (List Nat) := walk t 0 [] [] walkLimit
/-- The handler's walk from TVEC with one EXC frame; empty where the tile has no handler. -/
def handlerWalk (t : Tile) : Except Nat (List Nat) :=
  if t.tvecValid then
    if t.prog.depth ≤ t.tvec then .error t.tvec
    else walk t t.tvec [{ kind := .exc, addr := 0, last := 0, rem := 0 }] [] walkLimit
  else .ok []
/-- The addresses of a walk that ends. -/
def walked (r : Except Nat (List Nat)) : List Nat := match r with | .ok l => l | .error _ => []

/-! ### Slots along the path (R116, R117) -/

/-- A send-table entry (Table 3-10). -/
structure Send where
  sstep : Nat
  dtile : Nat
  word : Nat
  occ : Nat
  remote : Bool
  dmod : Nat
  rsv : Nat
deriving DecidableEq, Repr
def sendOf (w : DWord) : Send :=
  let v := w.toNat
  { sstep := fld v 0 11, dtile := fld v 27 8, word := fld v 35 4, occ := fld v 39 8, remote := decide (bit v 47 = 1)
    dmod := fld v 48 8, rsv := fld v 56 8 }
/-- The entries of a tile with their numbers. -/
def PTile.sends (p : PTile) : List (Nat × Send) := (List.range p.img.prog.sends.length).zip (p.img.prog.sends.map sendOf)

/-- One step executed on a tile's path: its position, its address, how often that address was executed before, and the arrival
words it reads with the occupant that each read takes, and releases (R62). -/
structure Node where
  tile : Nat
  pos : Nat
  addr : Nat
  before : Nat
  reads : List (Nat × Nat)
  frees : List (Nat × Nat)
deriving DecidableEq, Repr
/-- Arrival words that a step reads. -/
def stepReads (t : Tile) (a : Nat) : List Nat := (List.range 16).filter (fun w => t.readsCode a (0x800 + 64 * w) 64)
/-- Arrival words that a step releases. -/
def stepFrees (t : Tile) (a : Nat) : List Nat := (List.range 16).filter (fun w => bit (t.ctrl a) (192 + w) = 1)
/-- The steps of a path, from counts of executions and of releases so far. -/
def nodesFrom (t : Tile) (it : Nat) (execs rel : Map Nat) (pos : Nat) : List Nat → List Node
  | [] => []
  | a :: r =>
    let n := Map.get execs 0 a
    let fr := stepFrees t a
    let x : Node := { tile := it, pos := pos, addr := a, before := n
                      reads := (stepReads t a).map (fun w => (w, Map.get rel 0 w)), frees := fr.map (fun w => (w, Map.get rel 0 w)) }
    x :: nodesFrom t it (Map.set execs a (n + 1)) (fr.foldl (fun m w => Map.set m w (Map.get m 0 w + 1)) rel) (pos + 1) r
/-- The steps of a tile's path. -/
def PTile.nodes (p : PTile) : List Node := nodesFrom p.asTile p.it [] [] 0 (walked (mainWalk p.asTile))

/-- A slot that a step of a path sends: its step's tile and position, the entry, and its occupant number. -/
structure Sent where
  tile : Nat
  pos : Nat
  entry : Nat
  e : Send
  occ : Nat
deriving DecidableEq, Repr
/-- The slots of a tile in its send order. -/
def PTile.slots (p : PTile) : List Sent :=
  p.nodes.flatMap (fun n => (p.sends.filter (fun x => decide (x.2.sstep = n.addr))).map (fun x =>
    { tile := p.it, pos := n.pos, entry := x.1, e := x.2, occ := x.2.occ + n.before }))

end Sys2Proof.Machine
end

