-- ==== Sys2Proof/Machine/LoadCheck.lean ====
section
/-!
DEFINITION. The load check's tests 0x01 to 0x15 (Table 5-6). Each test gives the sections and records that fail it; the first
in image order is the one reported (R162).
-/
namespace Sys2Proof.Machine

/-- A section number and a record number. -/
abbrev Loc := Nat × Nat
def locLt (a b : Loc) : Bool := decide (a.1 < b.1 ∨ (a.1 = b.1 ∧ a.2 < b.2))
/-- The first failure in image order. -/
def firstLoc : List Loc → Option Loc
  | [] => none
  | x :: r => some (r.foldl (fun a b => if locLt b a then b else a) x)
/-- The location of a record where a condition holds. -/
def failIf (c : Bool) (l : Loc) : List Loc := if c then [l] else []

/-! ### Sections and tables: tests 0x01 to 0x06 -/

def secBad (x : Sec) : Bool :=
  decide (x.typ ≠ tAuth) &&
  (decide (x.rsv ≠ 0 ∨ 2 ≤ x.flags ∨ x.check ≠ crc32c x.payload) || (listedType x.typ && decide (x.ver ≠ 1)) || !x.lengthOk)
/-- Tests 0x01 and 0x02 judge every section, those of other modules' tiles too: a section's header is read before the map tells whose
it is (log entry 96). -/
def test01 (p : PImage) : List Loc := (p.secs.filter secBad).map (fun x => (x.no, 0))

def typeBad (x : Sec) : Bool :=
  if x.typ = tAuth ∨ x.typ = tDebug then false else if listedType x.typ then decide (x.flags % 2 = 1) else decide (x.flags % 2 = 0)
def test02 (p : PImage) : List Loc := (p.secs.filter typeBad).map (fun x => (x.no, 0))

/-- The section is one that this module judges: tenant-wide, or of a tile of its own (R164). -/
def PImage.mine (p : PImage) (x : Sec) : Bool :=
  tenantTypes.contains x.typ || (tileTypes.contains x.typ && decide (some x.mod = p.me))
/-- TILE and MOD lie outside what the map and Table 5-1 allow. -/
def PImage.outside (p : PImage) (x : Sec) : Bool :=
  if tenantTypes.contains x.typ then decide (x.tile ≠ 0xFFFF ∨ x.mod ≠ 0)
  else if tileTypes.contains x.typ then decide (p.mods.length ≤ x.mod) || (p.mine x && decide (p.ntiles ≤ x.tile))
  else false
/-- COUNT differs from what R495 requires. -/
def PImage.countBad (p : PImage) (x : Sec) : Bool :=
  let d := (findTile p.secs tCtrl x.tile x.mod).map (fun y => y.count)
  if x.typ = tSched ∨ x.typ = tSeqcfg then decide (x.count ≠ 1)
  else if x.typ = tMap then decide (x.count ≠ p.mods.length + p.links.length)
  else if x.typ = tDeep then decide (x.count < 1 ∨ 64 < x.count)
  else if x.typ = tCtrl then decide (x.count < 1 ∨ 2048 < x.count)
  else if x.typ = tStep then d.any (fun n => decide (x.count ≠ n * 1024))
  else if x.typ = tXbar then d.any (fun n => decide (x.count ≠ n * 16))
  else if x.typ = tDict then decide (x.count ≠ 2048)
  else if x.typ = tSend then decide (4096 < x.count)
  else if x.typ = tRetain then decide (x.count ≠ 32768)
  else if x.typ = tMac then decide (x.count ≠ 16)
  else false
/-- An earlier section of the same type, tile and module. R156 and Table 5-6 name a duplicate of a required type only; one of an optional
type is refused alike (log entry 95). -/
def PImage.twice (p : PImage) (x : Sec) : Bool :=
  p.secs.any (fun y => decide (y.no < x.no ∧ y.typ = x.typ ∧ y.tile = x.tile ∧ y.mod = x.mod))
/-- The required sections that are absent, in the order of R162. -/
def PImage.absent (p : PImage) : List Loc :=
  let n := p.secs.length
  failIf (findWide p.secs tSched).isNone (n, 0) ++ failIf (findWide p.secs tMap).isNone (n, 0) ++
  (match p.me with
   | some m => (List.range p.ntiles).flatMap (fun it => failIf (tileRequired.any (fun t => (findTile p.secs t it m).isNone)) (n, it))
   | none => [])
def test03 (p : PImage) : List Loc :=
  ((p.secs.filter (fun x => p.outside x || (p.mine x && (p.countBad x || p.twice x)))).map (fun x => (x.no, 0))) ++ p.absent

def test04 (p : PImage) : List Loc :=
  let b := p.sched.payload
  failIf (decide ((leAt b 0 1 ≠ 1 ∧ leAt b 0 1 ≠ 2) ∨ leAt b 1 1 ≠ 1 ∨ leAt b 2 2 < 1 ∨ 256 < leAt b 2 2 ∨
    leAt b 4 2 < 1 ∨ 192 < leAt b 4 2 ∨ leAt b 6 2 ≠ 0 ∨ leAt b 32 32 ≠ 0)) (p.sched.no, 0)

/-- Modules within one more crossing of a set; a link joins its two modules in either direction (log entry 37). -/
def spread (links : List LinkEnt) (m : Nat) (l : List Nat) : List Nat :=
  (List.range m).filter (fun x => l.contains x ||
    links.any (fun e => decide (e.frm = x) && l.contains e.dst || decide (e.dst = x) && l.contains e.frm))
/-- Crossings from a set to every one of `m` modules, if all can be reached. -/
def reachAll (links : List LinkEnt) (m : Nat) (l : List Nat) (k : Nat) : Nat → Option Nat
  | 0 => if l.length = m then some k else none
  | f + 1 => if l.length = m then some k else reachAll links m (spread links m l) (k + 1) f
/-- The span diameter (R159), none where a module cannot be reached. -/
def diameter (links : List LinkEnt) (m : Nat) : Option Nat :=
  (List.range m).foldl (fun a x => a.bind (fun d => (reachAll links m [x] 0 m).map (max d))) (some 0)

def test05 (p : PImage) : List Loc :=
  let b := p.map.payload
  let s := p.map.no
  let m := p.mods.length
  let raw := records 8 (b.drop 8) m
  let top := p.mods.foldl (fun a e => max a e.2) 0
  let head := decide (m < 1 ∨ 256 < m ∨ m ≠ leAt p.sched.payload 2 2 ∨ leAt b 5 3 ≠ 0) || p.me.isNone ||
    (decide (top ≤ 192) && decide (leAt p.sched.payload 4 2 ≠ top))
  let modBad := fun (i : Nat) => (p.mods[i]?).any (fun e =>
    decide (fld (raw.getD i 0) 16 48 ≠ 0 ∨ e.2 = 0 ∨ (some i ≠ p.me ∧ 192 < e.2)) ||
    (List.range i).any (fun j => (p.mods[j]?).any (fun x => decide (x.1 = e.1))))
  let linkRaw := records 4 (b.drop (8 + 8 * m)) p.links.length
  let linkBad := fun (j : Nat) => (p.links[j]?).any (fun e =>
    decide (fld (linkRaw.getD j 0) 24 8 ≠ 0 ∨ e.frm = e.dst ∨ m ≤ e.frm ∨ m ≤ e.dst ∨ 143 < e.link))
  failIf (head || decide (diameter p.links m ≠ some (leAt b 2 1))) (s, 0) ++ ((List.range m).filter modBad).map (fun i => (s, i)) ++
    ((List.range p.links.length).filter linkBad).map (fun j => (s, m + j))

/-- What is left of a region below the swap slot (R234). -/
def belowSwap (size carved : Nat) : Nat := size - carved
/-- `below` is what the region leaves below the swap slot; `off` and `len` are the image's place. -/
def test06 (p : PImage) (below off len : Nat) : List Loc :=
  failIf (decide (192 < p.ntiles)) (p.map.no, p.me.getD 0) ++
  failIf (decide (below < leAt p.sched.payload 0x10 8 ∨ below < off + len)) (p.sched.no, 0) ++
  ((List.range p.deep.length).filter (fun i => (p.deep[i]?).any (fun e =>
    decide (some e.ownerMod = p.me ∧ below < e.base + 8 * 2 ^ e.k)))).map (fun i => (p.deepSec, i))

/-! ### Program stores: tests 0x07 to 0x0C -/

/-- Step words of a tile that a condition refuses, as records of its STEP section. -/
def PTile.badSteps (t : PTile) (f : Nat → Nat → Bool) : List Loc :=
  (t.img.prog.steps.filter (fun e => f e.1 e.2.toNat)).map (fun e => (t.sec tStep, e.1))

def test07 (t : PTile) : List Loc :=
  t.badSteps (fun _ w => decide (fld w 0 2 ≠ 0 ∨ (bit w 4 = 1 ∧ bit w 3 = 1)) ||
    (isCmdWord w && decide (bit w 8 = 1 ∨ bit w 7 = 1 ∨ bit w 2 = 1 ∨ fld w 5 2 ≠ 0)))
def test08 (t : PTile) : List Loc := failIf (decide (Map.get t.img.prog.dict 0 0 ≠ 0)) (t.sec tDict, 0)
def test09 (t : PTile) : List Loc :=
  t.badSteps (fun k w => decide (fld w 5 2 = 3) && (decide (k % 1024 = 0) ||
    (let v := (Map.get t.img.prog.steps 0 (k - 1)).toNat
     decide (fld v 5 2 = 0) || isCmdWord v)))
/-- A code that Table 3-4 or Table 2-2 reserves. -/
def codeBad (c : Nat) : Bool := decide (c = 0xE03 ∨ (0xE1D ≤ c ∧ c ≤ 0xE1F) ∨ (0xE40 ≤ c ∧ c ≤ 0xE7F) ∨ 0xF00 ≤ c)
def test0A (t : PTile) : List Loc :=
  (t.img.prog.xbar.filter (fun e => (List.range 64).any (fun m => codeBad (fld e.2.toNat (12 * m) 12)))).map
    (fun e => (t.sec tXbar, e.1))
/-- A control word that R95 or R96 refuses. -/
def ctrlBad (t : Tile) (s : Nat) : Bool :=
  let w := t.ctrl s
  let op := t.op s
  decide (7 < op ∨ fld w 235 21 ≠ 0) ||
  (if op = 6 then decide (fld w 233 2 ≠ 0)
   else if op = 2 ∨ op = 4 then decide (fld w 223 12 ≠ 0)
   else if op = 3 then false
   else decide (fld w 212 23 ≠ 0)) ||
  (stepFrees t s).any (fun x => !t.readsCode s (0x800 + 64 * x) 64)
def test0B (t : PTile) : List Loc :=
  ((List.range t.img.prog.depth).filter (ctrlBad t.asTile)).map (fun s => (t.sec tCtrl, s))
/-- An array command word of bank `b`. -/
def isArr (w : Nat) : Bool := decide (bit w 3 = 1 ∧ bit w 4 = 0 ∧ fld w 53 3 < 4)
def isDeep (w : Nat) : Bool := decide (bit w 3 = 1 ∧ bit w 4 = 0 ∧ 4 ≤ fld w 53 3)
def isMac (w : Nat) : Bool := decide (bit w 4 = 1)
/-- The words that an array command may reach (R135). -/
def arrTop (w : Nat) : Nat := fld w 39 13 ||| (2 ^ min 13 (fld w 35 4) - 1)
def test0C (t : PTile) : List Loc :=
  let c := t.img.prog.seqCfg.toNat
  let x := t.asTile
  let lo := x.spillBase
  let n := x.spillWords
  failIf (decide (fld c 36 28 ≠ 0 ∨ 1024 < n ∨ 8192 < lo + n) ||
    (!x.tvecValid && (List.range t.img.prog.depth).any (fun s => decide (x.op s = 6 ∧ bit (x.ctrl s) 231 = 1)))) (t.sec tSeqcfg, 0) ++
  t.badSteps (fun k w => isArr w && decide (k % 1024 / 64 = 15 ∧ 0 < n ∧ fld w 39 13 < lo + n ∧ lo ≤ arrTop w)) ++
  ((List.range t.runs.length).filter (fun i => (t.runs[i]?).any (fun r =>
    decide (r.bank = 15) && overlaps r.first r.words.length lo n))).map (fun i => (t.sec tArray, i))

/-! ### Paths and commands: tests 0x0D to 0x12 -/

def walkFail (t : PTile) (r : Except Nat (List Nat)) : List Loc := match r with | .error s => [(t.sec tCtrl, s)] | .ok _ => []
/-- LOOPs of a tile, executed or not, whose end holds an OP other than NEXT or TRAP (R98). -/
def badEnds (t : PTile) : List Loc :=
  let x := t.asTile
  ((List.range t.img.prog.depth).filter (fun s =>
    decide (x.op s = 3 ∧ x.op (x.opAddr s) ≠ 0 ∧ x.op (x.opAddr s) ≠ 6))).map (fun s => (t.sec tCtrl, s))
/-- The largest E of the module's tiles whose walk ends. -/
def topE (ts : List PTile) : Nat := ts.foldl (fun a t => max a (walked (mainWalk t.asTile)).length) 0
/-- Where a walk fails, E_MAX is judged against the E of the tiles whose walk ends: it may be larger (R158). -/
def test0D (p : PImage) (ts : List PTile) : List Loc :=
  let l := ts.flatMap (fun t => walkFail t (mainWalk t.asTile) ++ walkFail t (handlerWalk t.asTile))
  let m := leAt p.sched.payload 0x0C 4
  failIf (if p.mods.length = 1 ∧ l.isEmpty = true then decide (m ≠ topE ts) else decide (m < topE ts)) (p.sched.no, 0) ++
    l ++ ts.flatMap badEnds
def test0E (t : PTile) : List Loc :=
  let h := walked (handlerWalk t.asTile)
  let x := t.asTile
  ((t.sends.filter (fun e => h.contains e.2.sstep)).map (fun e => (t.sec tSend, e.1))) ++
  (h.flatMap (fun s => ((List.range 16).filter (fun q => (List.range 64).any (fun m =>
      decide (0x800 ≤ x.xcode s q m ∧ x.xcode s q m < 0xC00)))).map (fun q => (t.sec tXbar, 16 * s + q)))) ++
  ((h.filter (fun s => decide (fld (x.ctrl s) 192 16 ≠ 0))).map (fun s => (t.sec tCtrl, s))) ++
  t.badSteps (fun k w => isMac w && h.contains (k / 1024))
/-- A MAC command of the step's slice that stands before BP `b`, or anywhere in the slice. -/
def macIn (t : PTile) (s p : Nat) (f : Nat → Bool) : Bool :=
  (List.range 64).any (fun i => f (64 * p + i) && isMac (Map.get t.img.prog.steps 0 (1024 * s + 64 * p + i)).toNat)
def test0F (t : PTile) : List Loc :=
  t.badSteps (fun k w =>
    let s := k / 1024
    let b := k % 1024
    let p := b / 64
    let op := fld w 53 3
    isMac w && (decide (37 < fld w 47 6 ∨ 37 < fld w 40 6 ∨ 4 < op ∨ fld w 9 17 ≠ 0 ∨
        (op = 4 ∧ (bit w 27 = 0 ∨ bit w 38 = 1))) ||
      (decide (op = 3) && (decide (p = 0) || !macIn t s (p - 1) (fun _ => true))) ||
      macIn t s p (fun x => decide (x < b))))
def test10 (t : PTile) : List Loc :=
  t.badSteps (fun _ w =>
    let iw := fld w 35 4
    let op := fld w 53 3
    isArr w && decide (fld w 39 13 % 2 ^ iw ≠ 0 ∨ 13 < iw ∨ 64 < fld w 29 6 + iw ∨ fld w 9 7 ≠ 0 ∨
      (op = 0 ∧ (bit w 16 = 0 ∨ bit w 27 = 1)))) ++
  ((List.range t.runs.length).filter (fun i => (t.runs[i]?).any (fun r =>
    decide (15 < r.bank ∨ r.rsv ≠ 0 ∨ r.words.isEmpty = true ∨ 8192 < r.first + r.words.length)))).map (fun i => (t.sec tArray, i))
/-- The result register that a command word names with RDV = 1. -/
def namesRd (w : Nat) : Option Nat :=
  if isMac w then (if bit w 27 = 1 then some (fld w 28 4) else none)
  else if isArr w then (if bit w 16 = 1 then some (fld w 17 4) else none)
  else if isDeep w then (if bit w 22 = 1 then some (fld w 23 4) else none)
  else none
def test11 (t : PTile) : List Loc :=
  t.badSteps (fun k w => (namesRd w).isSome && t.img.prog.steps.any (fun e =>
    decide (e.1 / 1024 = k / 1024 ∧ e.1 < k) && decide (namesRd e.2.toNat = namesRd w)))
/-- A DEEP_MEM entry that Table 5-5 or R160 refuses. -/
def PImage.deepBad (p : PImage) (i : Nat) (w : Nat) : Bool :=
  let e := deepEnt w
  decide (fld w 6 2 ≠ 0 ∨ fld w 30 2 ≠ 0 ∨ fld w 72 56 ≠ 0 ∨ 29 < e.k ∨ e.base % 64 ≠ 0 ∨ p.mods.length ≤ e.ownerMod ∨
    (some e.ownerMod = p.me ∧ p.ntiles ≤ e.owner)) ||
  (p.deep.take i).any (fun x => decide (x.memid = e.memid))
def test12 (p : PImage) (ts : List PTile) : List Loc :=
  let raw := records 16 ((findWide p.secs tDeep).getD noSec).payload p.deep.length
  ((List.range raw.length).filter (fun i => p.deepBad i (raw.getD i 0))).map (fun i => (p.deepSec, i)) ++
  ts.flatMap (fun t => t.badSteps (fun _ w => isDeep w &&
    (match p.deep.find? (fun e => decide (e.memid = fld w 46 6)) with
     | none => true
     | some e =>
       let iw := fld w 41 5
       decide (e.owner ≠ t.it ∨ some e.ownerMod ≠ p.me ∨ e.k < iw ∨ 64 < fld w 35 6 + iw ∨ fld w 9 13 ≠ 0 ∨
         (fld w 53 3 = 4 ∧ (bit w 22 = 0 ∨ bit w 33 = 1))))))

/-! ### The exchange: tests 0x13 to 0x15 -/

/-- The links of the table from this module to another (R496). -/
def PImage.linksTo (p : PImage) (d : Nat) : List LinkEnt := p.links.filter (fun e => decide (some e.frm = p.me ∧ e.dst = d))
def test13 (p : PImage) (t : PTile) : List Loc :=
  let ex := fun (a : Nat) => ((walked (mainWalk t.asTile)).filter (fun x => decide (x = a))).length
  (t.sends.filter (fun x =>
    let e := x.2
    let prev := if x.1 = 0 then 0 else ((t.img.prog.sends[x.1 - 1]?).map (fun w => (sendOf w).sstep)).getD 0
    let dst := if e.remote then e.dmod else p.me.getD 0
    decide (255 < e.occ + (ex e.sstep - 1) ∨ e.sstep < prev ∨ e.rsv ≠ 0 ∨ t.img.prog.depth ≤ e.sstep ∨
      (e.remote = false ∧ e.dmod ≠ 0)) ||
    decide (((p.mods[dst]?).map (fun m => m.2)).getD 0 ≤ e.dtile) ||
    (e.remote && (decide (p.mods.length ≤ e.dmod ∨ some e.dmod = p.me) || (p.linksTo e.dmod).isEmpty)))).map
    (fun x => (t.sec tSend, x.1))

/-- All slots of the module's paths, tile by tile in send order. -/
def allSlots (ts : List PTile) : List Sent := ts.flatMap PTile.slots
/-- Two slots go to one arrival word. -/
def sameWord (a b : Send) : Bool :=
  decide (a.remote = b.remote ∧ a.dmod = b.dmod ∧ a.dtile = b.dtile ∧ a.word = b.word)
/-- Slots in order, each with the number of earlier slots of its tile into its word. -/
def numbered (seen : List Sent) : List Sent → List (Sent × Nat)
  | [] => []
  | x :: r => (x, (seen.filter (fun y => decide (y.tile = x.tile) && sameWord y.e x.e)).length) :: numbered (seen ++ [x]) r
/-- The SEND section of a tile. -/
def sendSec (ts : List PTile) (it : Nat) : Nat := ((ts.find? (fun t => decide (t.it = it))).map (fun t => t.sec tSend)).getD 0
/-- The tile whose send entry for a word comes first in image order (R162). -/
def firstSource (ts : List PTile) (sl : List Sent) (e : Send) : Option Nat :=
  ((sl.filter (fun y => sameWord y.e e)).foldl (fun (a : Option Sent) y => match a with
    | none => some y
    | some x => if locLt (sendSec ts y.tile, y.entry) (sendSec ts x.tile, x.entry) then some y else some x) none).map (fun y => y.tile)
/-- Slots that break R59: from a second tile, or out of occupant order. -/
def breaks59 (ts : List PTile) (sl : List Sent) : List Sent :=
  ((numbered [] sl).filter (fun x =>
    decide (x.1.occ ≠ x.2) || (firstSource ts sl x.1.e).any (fun y => decide (y ≠ x.1.tile)))).map (fun x => x.1)
/-- Slots of this module into word `w` of its tile `it`. -/
def fedBy (sl : List Sent) (it w : Nat) : List Sent := sl.filter (fun x => decide (x.e.remote = false ∧ x.e.dtile = it ∧ x.e.word = w))
/-- Reads that no tile of a tenant on one module can satisfy (R163), as crossbar records. -/
def unsatisfied (t : PTile) (sl : List Sent) : List Loc :=
  t.nodes.flatMap (fun n => (n.reads.filter (fun r => decide ((fedBy sl t.it r.1).length ≤ r.2))).flatMap (fun r =>
    ((List.range 16).filter (fun q => (List.range 64).any (fun m =>
      let c := t.asTile.xcode n.addr q m
      decide (0x800 + 64 * r.1 ≤ c ∧ c < 0x800 + 64 * r.1 + 64)))).map (fun q => (t.sec tXbar, 16 * n.addr + q))))

/-- An edge of the wait graph (R163) between steps, by tile and position; the entry whose slot it stands for, if any. -/
structure Edge where
  src : Nat × Nat
  dst : Nat × Nat
  by' : Option (Nat × Nat)
deriving DecidableEq, Repr
/-- The edges that one slot gives: to the steps that read its occupant, and from the step that frees the occupant before. -/
def slotEdges (nodes : List Node) (x : Sent) : List Edge :=
  if x.e.remote then []
  else
    let own := nodes.filter (fun n => decide (n.tile = x.e.dtile))
    let me := (x.tile, x.pos)
    (own.filter (fun n => n.reads.contains (x.e.word, x.occ))).map (fun n =>
      { src := me, dst := (n.tile, n.pos), by' := some (x.tile, x.entry) }) ++
    (if x.occ = 0 then [] else (own.filter (fun n => n.frees.contains (x.e.word, x.occ - 1))).map (fun n =>
      { src := (n.tile, n.pos), dst := me, by' := some (x.tile, x.entry) }))
/-- The wait graph of a module. -/
def waitGraph (nodes : List Node) (sl : List Sent) : List Edge :=
  (nodes.filter (fun n => nodes.any (fun m => decide (m.tile = n.tile ∧ m.pos = n.pos + 1)))).map (fun n =>
    { src := (n.tile, n.pos), dst := (n.tile, n.pos + 1), by' := none }) ++ sl.flatMap (slotEdges nodes)
/-- Steps that can be reached from a set along edges. -/
def reachFrom (es : List Edge) (l : List (Nat × Nat)) : Nat → List (Nat × Nat)
  | 0 => l
  | f + 1 =>
    let more := (es.filter (fun e => l.contains e.src && !l.contains e.dst)).map (fun e => e.dst)
    if more.isEmpty then l else reachFrom es (l ++ more.eraseDups) f
/-- Send entries that lie on a cycle of the wait graph. -/
def onCycles (nodes : List Node) (sl : List Sent) : List (Nat × Nat) :=
  let es := waitGraph nodes sl
  es.filterMap (fun e => if (reachFrom es [e.dst] nodes.length).contains e.src then e.by' else none)
def test14 (p : PImage) (ts : List PTile) : List Loc :=
  let sl := allSlots ts
  let b := (breaks59 ts sl).map (fun x => (sendSec ts x.tile, x.entry))
  let u := if p.mods.length = 1 then ts.flatMap (fun t => unsatisfied t sl) else []
  b ++ u ++ (onCycles (ts.flatMap PTile.nodes) sl).map (fun x => (sendSec ts x.1, x.2))

/-- Words of one ecycle that each send entry, in image order, puts on its link: section, record, link, words. -/
def linkLoads (p : PImage) (ts : List PTile) : List (Nat × Nat × Nat × Nat) :=
  let l := ts.flatMap (fun t => t.sends.filterMap (fun x =>
    if x.2.remote then
      let ls := p.linksTo x.2.dmod
      (ls[x.2.dtile % ls.length]?).map (fun e =>
        (t.sec tSend, x.1, e.link, ((walked (mainWalk t.asTile)).filter (fun a => decide (a = x.2.sstep))).length))
    else none))
  l.foldr (fun x a => (a.takeWhile (fun y => locLt (y.1, y.2.1) (x.1, x.2.1))) ++ [x] ++
    (a.dropWhile (fun y => locLt (y.1, y.2.1) (x.1, x.2.1)))) []
/-- Words of one ecycle on each link (R65). -/
def linkTotals (l : List (Nat × Nat × Nat × Nat)) : Map Nat :=
  l.foldl (fun m x => Map.set m x.2.2.1 (Map.get m 0 x.2.2.1 + x.2.2.2)) []
def test15 (p : PImage) (ts : List PTile) (window : Nat) : List Loc :=
  let l := linkLoads p ts
  ((List.range l.length).filter (fun i => (l[i]?).any (fun x =>
    decide (4096 < Map.get (linkTotals (l.take (i + 1))) 0 x.2.2.1 * (window + 1))))).filterMap (fun i =>
      (l[i]?).map (fun x => (x.1, x.2.1)))

/-! ### The check -/

/-- What the module brings to the check: its ID, the space below the swap slot for a count of tiles, the window, and the image's
place. -/
structure LoadEnv where
  own : Nat
  below : Nat → Nat
  window : Nat
  off : Nat
  len : Nat

/-- The tests in the order of Table 5-6, each only where every one before has passed (R162). -/
def loadTests (e : LoadEnv) (p : PImage) : List (Nat × (Unit → List Loc)) :=
  let ts := p.tiles
  [(0x01, fun _ => test01 p), (0x02, fun _ => test02 p), (0x03, fun _ => test03 p), (0x04, fun _ => test04 p),
   (0x05, fun _ => test05 p), (0x06, fun _ => test06 p (e.below p.ntiles) e.off e.len),
   (0x07, fun _ => ts.flatMap test07), (0x08, fun _ => ts.flatMap test08), (0x09, fun _ => ts.flatMap test09),
   (0x0A, fun _ => ts.flatMap test0A), (0x0B, fun _ => ts.flatMap test0B), (0x0C, fun _ => ts.flatMap test0C),
   (0x0D, fun _ => test0D p ts), (0x0E, fun _ => ts.flatMap test0E), (0x0F, fun _ => ts.flatMap test0F),
   (0x10, fun _ => ts.flatMap test10), (0x11, fun _ => ts.flatMap test11), (0x12, fun _ => test12 p ts),
   (0x13, fun _ => ts.flatMap (test13 p)), (0x14, fun _ => test14 p ts), (0x15, fun _ => test15 p ts e.window)]
/-- The first test that fails: its code, section and record. -/
def firstFail : List (Nat × (Unit → List Loc)) → Option (Nat × Nat × Nat)
  | [] => none
  | (c, f) :: r =>
    match firstLoc (f ()) with
    | some l => some (c, l.1, l.2)
    | none => firstFail r

/-- The image that an accepted package gives. -/
def PImage.accept (p : PImage) (off len : Nat) : Image :=
  let ts := p.tiles
  { off := off, len := len, contract := leAt p.sched.payload 0 1, eMax := topE ts, deepBytes := leAt p.sched.payload 0x10 8
    mods := p.mods, diam := leAt p.map.payload 2 1, links := p.links, me := p.me.getD 0, deep := p.deep
    linkWords := linkTotals (linkLoads p ts), tiles := ts.map (fun t => (t.it, t.img)) }

/-- The load check of a package's bytes (R162, R427): the check code, section and record of the first failure, or the image. -/
def loadCheck (e : LoadEnv) (o : OlpEnv) (bs : List Byte) : Except (Nat × Nat × Nat) Image :=
  let c := identityCheck o bs
  if c ≠ 0 then .error (0, c, 0)
  else
    let p := parseImage ((olpSecs bs).getD []) e.own
    match firstFail (loadTests e p) with
    | some f => .error f
    | none => .ok (p.accept e.off e.len)

end Sys2Proof.Machine
end

