-- ==== Sys2Proof/Machine/ImageCmd.lean ====
section
/-!
DEFINITION. IMAGE_COMMIT with its load check, and IMAGE_DISCARD (R161, R162, R235, R354).
-/
namespace Sys2Proof.Machine

/-- The tenant stands STOPPED, also while SWAPPED, with no ecycle in progress (R161, R235), and is no victim of a swap that is still
in tiles (Table 8-3). -/
def State.mayCommit (s : State) (t : Nat) : Bool :=
  decide ((s.ten t).eff = .stopped) && s.noEcycle t && !(s.leaving t && decide ((s.ten t).run ≠ .swapped))
/-- What the tenant's region leaves below the swap slot for `n` tiles (R234). -/
def State.belowCarved (s : State) (t n : Nat) : Nat := belowSwap (s.rsize t) (s.carvedBytes t n)

/-- IMAGE_COMMIT (R161): the tenant loses its image, and the load check starts; its reads ask for their tokens (R249). -/
def execImageCommit (d : DRef) (ten : TenId) (off len : DWord) (s : State) : Out :=
  s.takeUp d 0x10 false true (fun s =>
    let t := target d ten
    let o := off.toNat
    let n := len.toNat
    if o % 64 ≠ 0 then s.complete d 0x10 stBadArg 0 0
    else if s.sage.state = 1 ∨ (s.ten t).load.isSome = true then s.complete d 0x10 stBusy 0 0
    else if s.mayCommit t = false then s.complete d 0x10 stBadState 0 0
    else if s.rsize t < o + n then (s.regionFault t o).complete d 0x10 stRegion 0 0
    else
      let s := (s.closeTrace t).dropImage t
      let r := s.askTokens 2 t n
      r.2.updTen t (fun v => { v with load := some { cmd := d, off := o, len := n, tok := r.1 } }))

/-- What the check is given for tenant `t`. -/
def State.loadEnv (s : State) (t : Nat) (j : LoadJob) : LoadEnv :=
  { own := s.moduleId, below := s.belowCarved t, window := s.window t, off := j.off, len := j.len }
/-- The deep memories that this module holds begin at zero, but for those with initial contents (R160). -/
def State.zeroMems (s : State) (t : Nat) (i : Image) : State :=
  (i.deep.filter (fun e => decide (e.ownerMod = i.me) && !e.init)).foldl (fun s e =>
    let a := s.rbase t + e.base
    let n := 8 * 2 ^ e.k
    { s with ds := s.ds.filter (fun c => !decide (a ≤ c.1 ∧ c.1 < a + n))
             noc := { s.noc with dsPoison := s.noc.dsPoison.filter (fun l => !decide (a ≤ 64 * l ∧ 64 * l + 64 ≤ a + n)) } }) s
/-- The image is accepted: the tenant is SWAPPED with return state STOPPED until its first binding (R161, R235), and its virtual time
is 0 (R240). -/
def State.acceptImage (s : State) (t : Nat) (i : Image) : State :=
  (s.zeroMems t i).updTen t (fun v => { v with img := some i, run := .swapped, back := .stopped, load := none, vt := 0 })

/-- LOAD_CHECK_COMPLETE (R162): with its tokens granted (R249), the check of the bytes that the region holds ends, and the image
is accepted or refused. -/
def execLoadCheckComplete (ten : TenId) (s : State) : Out :=
  match (s.ten ten).load with
  | none => .next s
  | some j =>
    let a := s.rbase ten + j.off
    if s.tokWaits 2 j.tok || s.unitWaits then .next s
    else if s.rangePoisoned a j.len then .next ((s.updTen ten (fun v => { v with load := none })).complete j.cmd 0x10 stDataUe 0 0)
    else
      match loadCheck (s.loadEnv ten j) (s.olpEnv kTenant (s.rsize ten) .other) (s.ds.readBytes a j.len) with
      | .ok i => .next ((s.acceptImage ten i).complete j.cmd 0x10 stOk 0 0)
      | .error (c, sec, rec') =>
        let r := c + 2 ^ 8 * (sec % 2 ^ 24) + 2 ^ 32 * rec'
        .next (((s.updTen ten (fun v => { v with load := none })).report 0x0010 clsEvent 0 (some ten) r).complete j.cmd 0x10
          stImageRefused r 0)

/-- IMAGE_DISCARD (R354). -/
def execImageDiscard (d : DRef) (ten : TenId) (s : State) : Out :=
  s.takeUp d 0x11 false true (fun s =>
    let t := target d ten
    let e := (s.ten t).eff
    if e = .stopped ∨ e = .held then ((s.closeTrace t).dropImage t).complete d 0x11 stOk 0 0
    else s.complete d 0x11 stBadState 0 0)

end Sys2Proof.Machine
end

