-- ==== Sys2Proof/Machine/CfgCmd.lean ====
section
/-!
DEFINITION. The commands of configuration and update (chapter 15), and the reconfiguration of edge regions (R421, R422).
-/
namespace Sys2Proof.Machine

/-! ### LOAD (R440, R441) -/

/-- A boot push has failed: it is recorded, and LOAD goes on from flash (R441). -/
def State.pushRefused (s : State) (code : Nat) : State :=
  let s := s.report 0x0583 clsEvent 0 none code
  ({ s with cfg := { s.cfg with push := [] } }).loadFlash
/-- The sections of a package that the identity check has passed. -/
def pkgSecs (bs : List Byte) : List Sec := (olpSecs bs).getD []

/-- CONFIG_LOAD_COMPLETE (R440, R441): the copy or the push in hand has been read and checked. -/
def execConfigLoadComplete (s : State) : Out :=
  if s.dev.mode ≠ .load then .next s
  else
    match s.cfg.phase with
    | .copy k trial =>
      let bs := s.slotData k
      let c := s.checkCopy (slotKind k) (slotBytes k) .flash bs true
      if c = 0 then .next (s.loadPassed (bootSrcOf k) (if k = 2 then 0 else (s.stageRec k).cseq) trial bs (pkgSecs bs))
      else .next (s.loadFailed k trial c)
    | .pushed =>
      let bs := s.cfg.push
      let c := s.checkCopy kConfig bs.length .push bs true
      if c = 0 then .next (s.loadPassed 4 0 false bs (pkgSecs bs)) else .next (s.pushRefused c)
    | _ => .next s

/-- CSP_BOOT_WAIT_EXPIRE (R441): no push has begun within 1 s. -/
def execCspBootWaitExpire (s : State) : Out :=
  if s.dev.mode = .load ∧ s.cfg.phase = .cspWait then .next s.loadFlash else .next s

/-! ### The configuration slave port (R442, R443) -/

/-- CSP_PROTOCOL with the command. -/
def State.cspBad (s : State) (cmd : Nat) : State := s.report 0x0584 clsEvent 0 none cmd
/-- The port is powered and alive. -/
def State.cspLives (s : State) : Bool := decide (s.dev.mode ≠ .off ∧ s.dev.mode ≠ .keep) && !s.cfg.cspDead
/-- A transaction of the port: ignored while CSP_RDY is low, refused where the mode does not permit the command (R442). -/
def State.csp (s : State) (rdy : Bool) (cmd : Nat) (may : Bool) (act : State → State) : Out :=
  if s.cspLives = false then .next s
  else if rdy = false then .next (s.cspBad cmd)
  else
    let s := { s with cfg := { s.cfg with cspRow := 0 } }
    if may then .next (act s) else .next (s.cspBad cmd)
/-- A mode from LOAD onward. -/
def Mode.fromLoad (m : Mode) : Bool := m.configured || decide (m = .load)

/-- DEV_MODE (Table 1-5). -/
def State.devModeWord (s : State) : Nat :=
  s.dev.mode.code + 2 ^ 8 * b2n s.dev.derate + 2 ^ 9 * b2n s.holdCond + 2 ^ 10 * b2n s.inReplay + 2 ^ 11 * b2n s.inRefit +
    2 ^ 12 * b2n (decide (s.dev.mode = .safe)) + 2 ^ 13 * b2n s.dev.floor + 2 ^ 14 * b2n (!s.dev.lattice.isEmpty) +
    2 ^ 16 * s.dev.cause.code
/-- CFG_UPD_STAT (Table 15-13). -/
def State.updStatWord (s : State) : Nat :=
  s.cfg.updStage.code + 2 ^ 3 * b2n s.cfg.job.isSome + 2 ^ 4 * b2n s.cfg.updCsp + 2 ^ 8 * s.cfg.updResult + 2 ^ 16 * s.cfg.progress

/-- CSP_STATUS (Table 15-11): the reply is DEV_MODE, then CFG_UPD_STAT. -/
def execCspStatus (rdy : Bool) (s : State) : Out :=
  s.csp rdy 0x05 true (fun s => { s with cfg := { s.cfg with cspOut := leBytes s.devModeWord 4 ++ leBytes s.updStatWord 4 } })
/-- CSP_PUSH_BEGIN (R441): only while LOAD waits. -/
def execCspPushBegin (rdy : Bool) (len : DWord) (s : State) : Out :=
  s.csp rdy 0x10 (decide (s.dev.mode = .load ∧ s.cfg.phase = .cspWait)) (fun s =>
    { s with cfg := { s.cfg with phase := .pushing len.toNat, push := [] } })
/-- A push takes bytes. -/
def LoadPhase.pushes (p : LoadPhase) : Bool := match p with | .pushing _ => true | _ => false
/-- A DOWNLOAD from the port takes bytes. -/
def State.cspTakes (s : State) : Bool := s.cfg.job.any (fun j => j.csp && !j.ended)
/-- CSP_DATA (Table 15-11): 1 to 4,096 bytes for the push or the DOWNLOAD in progress. -/
def execCspData (rdy : Bool) (bytes : List Byte) (s : State) : Out :=
  s.csp rdy 0x11 ((s.cfg.phase.pushes || s.cspTakes) && decide (1 ≤ bytes.length ∧ bytes.length ≤ 4096)) (fun s =>
    if s.cfg.phase.pushes then { s with cfg := { s.cfg with push := s.cfg.push ++ bytes } }
    else { s with cfg := { s.cfg with job := s.cfg.job.map (fun j => { j with bytes := j.bytes ++ bytes }) } })
/-- CSP_END (Table 15-11): the package is complete; its check follows with CONFIG_LOAD_COMPLETE or DOWNLOAD_COMPLETE. -/
def execCspEnd (rdy : Bool) (s : State) : Out :=
  s.csp rdy 0x12 (s.cfg.phase.pushes || s.cspTakes) (fun s =>
    if s.cfg.phase.pushes then { s with cfg := { s.cfg with phase := .pushed } }
    else { s with cfg := { s.cfg with job := s.cfg.job.map (fun j => { j with ended := true }) } })
/-- CSP_UPD_BEGIN (R444). -/
def execCspUpdBegin (rdy : Bool) (len : DWord) (tgt : Byte) (s : State) : Out :=
  s.csp rdy 0x20 (s.dev.mode.fromLoad && decide (tgt.toNat < 2)) (fun s =>
    s.startDownload true (decide (tgt = 1)) 0 len.toNat)
/-- CSP_UPD_ACTIVATE (R445). -/
def execCspUpdActivate (rdy : Bool) (s : State) : Out := s.csp rdy 0x21 s.dev.mode.fromLoad (fun s => s.activate true)
/-- CSP_UPD_CONFIRM (R445). -/
def execCspUpdConfirm (rdy : Bool) (s : State) : Out := s.csp rdy 0x22 s.dev.mode.fromLoad (fun s => s.confirmTrial true)

/-- What a timeout of the port ends: a boot push under way fails, with a code that the manual does not give, and an update from
the port ends ABORTED (R443 item 1). -/
def State.cspDrop (s : State) : State :=
  let s := if s.cfg.job.any (fun j => j.csp) then s.abortJob 0x41 else s
  if s.cfg.phase.pushes then
    let r := s.freshNat
    r.2.pushRefused (r.1 % 2 ^ 8)
  else s
/-- CSP_TIMEOUT (R443): CSP_CS_N has stayed low for 35 ms. -/
def execCspTimeout (s : State) : Out :=
  if s.cspLives = false then .next s
  else
    let row := s.cfg.cspRow + 1
    let s := { s with cfg := { s.cfg with cspRow := row, cspTimeouts := satInc s.cfg.cspTimeouts 0xFF } }
    let s := (s.report 0x0580 clsEvent 0 none 0).cspDrop
    if row < 3 then .next s
    else .next (({ s with cfg := { s.cfg with cspDead := true } }).report 0x0581 clsDegraded 0 none 0)
/-- CSP_REVIVED (R443 item 3). -/
def execCspRevived (s : State) : Out :=
  if s.cfg.cspDead then .next (({ s with cfg := { s.cfg with cspDead := false, cspRow := 0 } }).report 0x0582 clsEvent 0 none 0)
  else .next s

/-! ### Updates from the host (R444, R445) -/

/-- CFG_UPD_CMD is accepted in IDLE to DERATE while no operation runs; else it records ACCESS_STATE. -/
def State.updCmd (s : State) (act : State → State) : Out :=
  if s.dev.mode.idleToDerate && s.cfg.job.isNone then .next (act s)
  else if s.dev.mode.configured then .next (s.accState 0x5005C) else .next s
/-- UPD_DOWNLOAD (R444): the package lies in tenant 0's region; one that reaches beyond it ends ABORTED. -/
def execUpdDownload (bay : Bool) (s : State) : Out :=
  s.updCmd (fun s =>
    let off := s.reg 0x50050 + 2 ^ 32 * s.reg 0x50054
    let len := s.reg 0x50058
    let n := s.startDownload false bay off len
    if s.rsize 0 < off + len then (n.regionFault 0 off).abortJob 0x41 else n)
/-- UPD_ACTIVATE (R445). -/
def execUpdActivate (s : State) : Out := s.updCmd (fun s => s.activate false)
/-- UPD_CONFIRM (R445). -/
def execUpdConfirm (s : State) : Out := s.updCmd (fun s => s.confirmTrial false)

/-- DOWNLOAD_COMPLETE (R437, R444): erase, program and read-back have ended, with the page verifies that `retries` names repeated in sectors of the slot,
and with sector `failed` of the slot failed for good, if any. -/
def execDownloadComplete (retries : List (Fin 384 × BitVec 16)) (failed : Option (Fin 384)) (s : State) : Out :=
  match s.cfg.job with
  | none => .next s
  | some j =>
    if j.csp then
      if j.ended then .next (s.finishDownload j j.bytes retries (failed.map (fun f => f.val))) else .next s
    else
      let a := s.rbase 0 + j.off
      if s.rangePoisoned a j.len then .next (s.abortJob 0x41)
      else .next (s.finishDownload j (s.ds.readBytes a j.len) retries (failed.map (fun f => f.val)))

/-! ### Sorrel (R434) -/

/-- Sorrel reads the frame: it is loaded, and its region is neither unloaded nor being reconfigured. -/
def State.sorrelReads (s : State) (a : Nat) : Bool :=
  let sp := frameSpace a
  decide (sp < 3) || (s.edg.loaded.contains (sp - 3) && decide (s.edg.pr ≠ some (sp - 3)))
/-- The next frame in ascending order, from the lowest again after the last. -/
def State.nextFrame (s : State) : Option Nat :=
  let l := (s.cfg.frames.map (fun e => e.1)).filter s.sorrelReads
  match s.cfg.pos with
  | some p => match l.find? (fun a => decide (p < a)) with
    | some a => some a
    | none => l.head?
  | none => l.head?
/-- A frame is found uncorrectable (Table 15-7): SAFE for a core frame; fail-safe banks and HELD tenants for a target frame. In
SAFE it is recorded only. -/
def State.sorrelUe (s : State) (a : Nat) : State :=
  let s := { s with cfg := { s.cfg with ue := satInc s.cfg.ue 0xFF } }
  if frameSpace a = 0 then (s.report 0x0405 clsDevice 0 none a).enterSafe .config
  else
    let s := s.report 0x0405 clsDegraded 0 none a
    if s.dev.mode = .safe then s
    else
      let s := { s with cfg := { s.cfg with bad := if s.cfg.bad.contains a then s.cfg.bad else s.cfg.bad ++ [a] } }
      s.spaceError (frameSpace a) true
/-- SORREL_FRAME_READ (R431, R434): the next frame is read; `f` is what its check bits find. -/
def execSorrelFrameRead (f : ErrFound) (s : State) : Out :=
  if s.dev.mode.configured = false then .next s
  else
    match s.nextFrame with
    | none => .next s
    | some a =>
      let s := { s with cfg := { s.cfg with pos := some a } }
      match f with
      | .clean => .next s
      | .single => .next (({ s with cfg := { s.cfg with ce := satInc s.cfg.ce 0xFFFF } }).report 0x0404 clsCorrected 0 none a)
      | .double => .next (s.sorrelUe a)
      | .multi => .next (s.sorrelUe a)

/-! ### Counters (R448) -/

/-- MC_RAISE (R448): CFG_MC_CMD.SET with a counter's number. -/
def execMcRaise (k : BitVec 2) (s : State) : Out :=
  if s.dev.mode.configured = false then .next s
  else
    let v := s.reg 0x50040
    if k = 0 ∨ v < s.mc k.toNat then .next (s.accValue 0x50044)
    else if v = s.mc k.toNat then .next s
    else .next (s.raiseMc k.toNat v)

/-! ### Edge regions (R421, R422) -/

/-- EDG_PR_GO (R421): the command takes its place among the refits, and begins at once where none runs (R38 item 5). -/
def execEdgPrGo (r : Region) (s : State) : Out :=
  if s.dev.mode.idleToDerate then
    .next (({ s with
      edg := { s.edg with prQueue := s.edg.prQueue ++ [r.val] }, dev := { s.dev with refits := s.dev.refits ++ [1000 + r.val] } }).remode)
  else .next s
/-- The region package at EDG_PR_OFF, as far as tenant 0's region reaches. -/
def State.prPackage (s : State) : List Byte :=
  s.ds.readBytes (s.rbase 0 + (s.reg 0x204104 + 2 ^ 32 * s.reg 0x204108)) s.prBytes
/-- The region image passes: its frames, its presets, and its error cleared (R421, R430, R433). -/
def State.prPass (s : State) (r : Nat) (own : Option Nat) (bs : List Byte) : State :=
  let f := pkgFrames (pkgSecs bs)
  let good : List (Nat × List Byte × Bool) :=
    f.filterMap (fun x => x.got.map (fun g => (2 ^ 24 * (3 + r) + fld x.addr 0 24, (g.1.drop 8).take 256, g.2)))
  let keep : Map (List Byte) := s.cfg.frames.filter (fun (e : Nat × List Byte) => decide (frameSpace e.1 ≠ 3 + r))
  let s := { s with
    cfg := { s.cfg with
      frames := good.foldl (fun (m : Map (List Byte)) (e : Nat × List Byte × Bool) => Map.set m e.1 e.2.1) keep
      bad := s.cfg.bad.filter (fun a => decide (frameSpace a ≠ 3 + r))
      ce := min 0xFFFF (s.cfg.ce + (good.filter (fun (e : Nat × List Byte × Bool) => e.2.2)).length) }
    edg := { s.edg with loaded := r :: s.edg.loaded.filter (fun x => decide (x ≠ r)), prResult := 1, prCheck := 0 } }
  ((s.initFab [r]).applyPresets (pkgPresets (pkgSecs bs))).report 0x0704 clsEvent r own (r + 2 ^ 8 * own.getD 0)
/-- The region image is refused (R422). -/
def State.prFail (s : State) (r : Nat) (own : Option Nat) (code : Nat) : State :=
  let s := { s with edg := { s.edg with prResult := 2, prCheck := code } }
  (s.spaceError (3 + r) true).report 0x0705 clsTenant r own (r + 2 ^ 8 * code)
/-- Event 5 of Table 14-7: the boundary is released, and the refit ends. -/
def State.prEnd (s : State) (r : Nat) (own : Option Nat) : State :=
  let s := s.latchInit
  let s := ({ s with edg := { s.edg with pr := none } }).endRefit (1000 + r)
  let s := match own with
    | some t => s.updTen t (fun v => { v with refitHeld := false, affected := v.recov.isSome })
    | none => s
  (s.remode).place
/-- The tenant whose boundary is closed has come to it. -/
def State.prReady (s : State) (own : Option Nat) : Bool := match own with | some t => (s.ten t).refitHeld | none => true
/-- REGION_PR_DONE (R421, R422, R249): with its tokens granted, the frames are written and checked. -/
def execRegionPrDone (s : State) : Out :=
  match s.edg.pr with
  | none => .next s
  | some r =>
    let own := s.regionOwner r
    if s.prReady own = false ∨ s.tokWaits 2 s.edg.prTok = true then .next s
    else
      let bs := s.prPackage
      let off := s.reg 0x204104 + 2 ^ 32 * s.reg 0x204108
      let s := if s.rsize 0 < off + 128 then s.regionFault 0 off else s
      let c := if s.rangePoisoned (s.rbase 0 + off) bs.length then 0x08 else s.checkCopy kRegion bs.length .other bs false
      if c = 0 then .next ((s.prPass r own bs).prEnd r own) else .next ((s.prFail r own c).prEnd r own)

end Sys2Proof.Machine
end

