-- ==== Sys2Proof/Machine/DeepCmd.lean ====
section
/-!
DEFINITION. The commands of the deep memories and of the deep store (R149, R150, R328, R334 to R336).
-/
namespace Sys2Proof.Machine

/-- PKT_REQ_DEEP (R328): the oldest command of a deep memory that is on its way enters its queue; one without a result
completes there (R149). A damaged packet is discarded, and the tenant recovers as for a path fault (R324). -/
def execPktReqDeep (ten : TenId) (memid : Fin 64) (damaged : Bool) (s : State) : Out :=
  match s.noc.deepReq.find? (fun c => decide (c.ten = ten.val ∧ c.memid = memid.val)) with
  | none => .next s
  | some c =>
    let s := { s with noc := { s.noc with deepReq := removeFirst (fun x => x = c) s.noc.deepReq } }
    let l := s.tileOf ten c.itile
    if damaged then
      let src := (l.map s.ptile).getD 0
      let s := { s with noc := { s.noc with damaged := satInc s.noc.damaged 0xFFFF } }
      let s := s.report 0x0601 clsMasked src (some ten) (2 ^ 8 * (0xCC + (ten.val + memid.val) % 4) + 2 ^ 16 * src)
      match l with
      | some x => .next (s.pathFault ten x c.ecyc)
      | none => .next s
    else
      let s := { s with noc := { s.noc with deepQ := s.noc.deepQ ++ [c] } }
      match l with
      | some x => if c.rdv then .next s else .next (s.updTile x (fun v => { v with deepOut := v.deepOut - 1 }))
      | none => .next s

/-- DEEP_DREAD (R149, Table 4-6). -/
def execDeepDread (ten : TenId) (memid : Fin 64) (err : ErrFound) (s : State) : Out := .next (s.performDeep ten memid 0 err false)
/-- DEEP_DWRITE. -/
def execDeepDwrite (ten : TenId) (memid : Fin 64) (err : ErrFound) (wbad : Bool) (s : State) : Out :=
  .next (s.performDeep ten memid 1 err wbad)
/-- DEEP_DSET. -/
def execDeepDset (ten : TenId) (memid : Fin 64) (err : ErrFound) (wbad : Bool) (s : State) : Out :=
  .next (s.performDeep ten memid 2 err wbad)
/-- DEEP_DCLEAR. -/
def execDeepDclear (ten : TenId) (memid : Fin 64) (err : ErrFound) (wbad : Bool) (s : State) : Out :=
  .next (s.performDeep ten memid 3 err wbad)

/-- PKT_RSP_DEEP_RES (R150): the i-th answer on its way to an image tile delivers its value, 0 where its status is not OK, and
such a status begins the rollback. One behind another of its quadrant waits (R315). -/
def execPktRspDeepRes (ten : TenId) (tile : TileId) (i : Nat) (damaged : Bool) (s : State) : Out :=
  match (s.noc.answers.filter (fun r => decide (r.ten = ten.val ∧ r.itile = tile.val)))[i]? with
  | none => .next s
  | some r =>
    if comesFirst ansWay r s.noc.answers = false then .next s else
    let s := { s with noc := { s.noc with answers := removeFirst (fun x => x = r) s.noc.answers } }
    match s.tileOf ten tile with
    | none => .next s
    | some l =>
      if damaged then
        let s := { s with noc := { s.noc with damaged := satInc s.noc.damaged 0xFFFF } }
        .next ((s.report 0x0601 clsMasked (s.ptile l) (some ten) (1 + 2 ^ 8 * s.ptile l)).pathFault ten l r.ecyc)
      else
        let s := s.updTile l (fun v => { v.deliver r.rd r.ident (if r.status = 0 then r.val else 0) with deepOut := v.deepOut - 1 })
        if r.status = 0 then .next s else .next (s.dataLoss ten r.ecyc r.seq)

/-! ### The deep store (R334 to R336) -/

/-- DS_PATROL_READ (R334): the next line of a stack is read and corrected; a pass begins its row counts again. -/
def execDsPatrolRead (k : Stack4) (err : ErrFound) (s : State) : Out :=
  if s.rfld dstCfg 0 1 = 0 ∨ s.dev.mode.configured = false then .next s
  else
    let n := (s.stack k).patrol
    let a := stackLine k n
    let wrap := decide (n + 1 = stackLines)
    let s := s.updStack k (fun v => { v with patrol := if wrap then 0 else n + 1, rowCe := if wrap then [] else v.rowCe })
    if s.poisoned a then .next s
    else
      let r := s.dsCheck a err
      if r.1 && !r.2.1 then
        let w := r.2.2.freshNat
        .next { w.2 with ds := w.2.ds.writeBytes a (leBytes w.1 64) }
      else .next r.2.2

/-- DS_ROW_REPAIR_DONE (R335): the row is on its spare, and the accesses that waited proceed. -/
def execDsRowRepairDone (k : Stack4) (pc : Fin 32) (row : BitVec 24) (s : State) : Out :=
  let key := pc.val * 2 ^ 24 + row.toNat
  if (s.stack k).inRepair.contains key then
    let s := s.updStack k (fun v => { v with
      inRepair := removeFirst (fun x => x = key) v.inRepair, rows := satInc v.rows 0xFFFF, rowCe := Map.del v.rowCe key })
    .next ((s.recordRepair (rowDetail k key)).report 0x0607 clsDegraded k none (rowDetail k key))
  else .next s

/-- Tokens per µs of the hub level in force (Table 11-10). -/
def rateOf (level : Nat) (hot : Bool) : Nat :=
  if level = 0 then (if hot then 580 else 598) else if level = 1 then (if hot then 870 else 897) else if hot then 1160 else 1196
/-- DS_TEMP_READ (R336): a stack's temperature, its refresh rate, and the hub level held by a hot stack. -/
def execDsTempRead (k : Stack4) (t : Byte) (s : State) : Out :=
  let old := s.stack k
  let hot := decide (95 < t.toNat)
  let s := s.setStack k { old with temp := t.toNat, hotRef := decide (85 < t.toNat), hot := old.hot || hot }
  let s := if hot && !old.hot then s.report 0x0609 clsDegraded k none (k.val + 2 ^ 8 * t.toNat) else s
  let s := if (List.range 4).all (fun i => decide ((s.stack i).temp < 90)) then
      (List.range 4).foldl (fun s i => s.updStack i (fun v => { v with hot := false })) s
    else s
  let any := (List.range 4).any (fun i => (s.stack i).hotRef)
  .next { s with sched := { s.sched with rate := rateOf s.pwr.hub any } }

end Sys2Proof.Machine
end

