-- ==== Sys2Proof/Machine/CapCmd.lean ====
section
/-!
DEFINITION. The capture commands (R202 to R208, R353, R354).
-/
namespace Sys2Proof.Machine

/-- CAPTURE (R353, R203, R206): a HOST capture, or a SAFE capture in SAFE. -/
def State.capture (s : State) (d : DRef) (t : Nat) : State :=
  let safe := decide (s.dev.mode = .safe)
  let due := if safe then (s.ten t).done else s.dueOf t
  let r := s.capAsk t (if safe then .safe else .host) due (some d) d.tag.toNat
  if r.1 ≠ stOk then (r.2.completeCap d r.1 0 0 0 0).releaseResv d
  else
    let s := r.2.forecast d
    if safe then s.updTen t (fun v => { v with stopS := s.thy.sec, stopNs := s.thy.ns })
    else if (s.ten t).run = .swapped ∧ (s.ten t).spans = false then s
    else s.requestAt t (.capture 1) due none s.moduleId
def execCapture (d : DRef) (ten : TenId) (s : State) : Out :=
  s.takeUp d 0x13 false false (fun s => s.capture d (target d ten))

/-- The entry that moves next: the first of the queue whose tenant stands stopped for it. One whose boundary the tenant has not
reached, whose tenant recovers, or that has no tile image yet (R38 item 1) is passed over and keeps its place (log entry 87). -/
def State.capHead (s : State) : Option CapEnt := s.cap.queue.find? s.capReady
/-- CAPTURE_MOVE_START (R204, R251): the first entry of the queue whose tenant stands stopped for it moves, one at a time, once the
hub store has space for its full size. -/
def execCaptureMoveStart (s : State) : Out :=
  match s.cap.moving, s.capHead with
  | none, some q =>
    if s.poolRoom (s.capSize q) = false then .next s
    else .next { s.capTake q with cap := { (s.capTake q).cap with moving := some q } }
  | _, _ => .next s

/-- CAPTURE_MOVE_DONE (R204 to R207): the last tile has emptied. After a FAULT capture the tenant is restored as a HELD one (R112
item 4), with a recovery that has begun meanwhile (R113). -/
def execCaptureMoveDone (bad : List BadWord) (s : State) : Out :=
  match s.cap.moving with
  | none => .next s
  | some q =>
    let s := { s with cap := { s.cap with moving := none } }
    let s := s.capEffects q bad
    let s := s.hubFinds q.ten bad
    let s := s.releaseMove q.ten
    if q.kind = some .fault then
      match (s.ten q.ten).recov with
      | some _ => .next (s.updTen q.ten (fun v => { v with recov := v.recov.map (fun r =>
          { r with kind := if r.kind = .masked then .doubleFault else r.kind }) }))
      | none => .next (s.startRecovery q.ten .doubleFault none s.lastSeq)
    else .next s

/-- Completes the descriptors of a record. -/
def State.capComplete (s : State) (r : CapRec) (status : Nat) : State :=
  r.cmds.foldl (fun s d => s.completeCap d status r.slot (r.flags % 16) r.ecyc r.seq) s

/-- CAPTURE_LANDED (R204, R207): `bad` names a line of the record that is poisoned in the hub store, which is then written with its mark and
makes the capture a bad one (Table 11-8). The oldest draining record lands in its slot and its completions are posted; a SAFE
capture whose path has failed writes nothing. -/
def execCaptureLanded (pathOk : Bool) (bad : Option Word) (s : State) : Out :=
  match s.cap.draining with
  | [] => .next s
  | r :: rest =>
    if s.tokWaits (if r.kind.full then 0 else 5) r.tok then .next s
    else
      let s := { s with cap := { s.cap with draining := rest } }
      if r.kind = .safe ∧ pathOk = false then .next (s.capComplete r stPathDown)
      else
        let a := r.base + r.slot * captureSlot r.saved.tiles.length
        let r := if bad.isSome then { r with flags := setFld r.flags 1 1 1 } else r
        let bs := r.bytes s.moduleId r.me
        let s := s.dsWrite a bs
        let s := match bad with | some n => s.poisonLine a bs.length n.toNat | none => s
        let s := s.updTen r.ten (fun v => { v with capSeq := r.seq })
        .next (s.capComplete r (if r.bad.isEmpty && bad.isNone then stOk else stCapturedBad))

/-- CAP_RIDX is written (R202, Table 6-18) by the tenant or by tenant 0. -/
def State.writeCapRidx (s : State) (by' t n : Nat) : State :=
  if by' ≠ 0 ∧ by' ≠ t then s.accOwner (0xF1400 + 4 * t)
  else if (n + 2 ^ 16 - (s.ten t).capRel) % 2 ^ 16 < 2 ^ 15 then s.updTen t (fun v => { v with capRel := n % 2 ^ 16 })
  else s
/-- CAP_RIDX_WRITE (R202). -/
def execCapRidxWrite (by' t : TenId) (n : BitVec 16) (s : State) : Out :=
  if s.dev.mode.configured then .next (s.writeCapRidx by' t n.toNat) else .next s

/-- CAPTURE_AREA (R354, R234, R351). -/
def State.captureArea (s : State) (d : DRef) (t off slots : Nat) : State :=
  match (s.ten t).img with
  | none => s.complete d 0x14 stNoImage 0 0
  | some i =>
    let n := (s.ten t).ntiles
    let len := slots * captureSlot n
    if s.cap.queue.any (fun q => decide (q.ten = t) && q.kind.isSome) ∨ s.cap.moving.any (fun q => decide (q.ten = t)) = true then
      s.complete d 0x14 stBusy 0 0
    else if off % 64 ≠ 0 then s.complete d 0x14 stBadArg 0 0
    else if s.rsize t < off + len then (s.regionFault t off).complete d 0x14 stRegion 0 0
    else if s.inCarved t n off len ∨ overlaps off len i.off i.len = true ∨
        (i.memRanges.any (fun m => overlaps off len m.1 m.2)) = true then s.complete d 0x14 stBadArea 0 0
    else (s.updTen t (fun v => { v with capOff := off, capSlots := slots })).complete d 0x14 stOk (captureSlot n) 0
/-- CAPTURE_AREA (R354). -/
def execCaptureArea (d : DRef) (ten : TenId) (off : DWord) (slots : Byte) (s : State) : Out :=
  s.takeUp d 0x14 false false (fun s => s.captureArea d (target d ten) off.toNat slots.toNat)

end Sys2Proof.Machine
end

