-- ==== Sys2Proof/Machine/SwapOps.lean ====
section
/-!
DEFINITION. Swaps, token windows and rebalances, shared operations (R235 to R252).
-/
namespace Sys2Proof.Machine

/-! ### Binding (R236) -/

/-- Binds the tiles of a plan (R236). -/
def State.bindTiles (s : State) (t : Nat) (plan : List (Nat × Nat × Bool)) : State :=
  plan.foldl (fun s e =>
    let lt : LTile := { ten := t, itile := e.1, bound := true, resident := true }
    { s with sched := { s.sched with ltiles := Map.set s.sched.ltiles e.2.1 lt } }) s

/-! ### Swap-out (R243) -/

/-- The captures and checkpoints of this boundary share the move (R205). -/
def State.sharedMoves (s : State) (t : Nat) (bad : List BadWord) : State :=
  let mine := s.cap.queue.filter (fun q => decide (q.ten = t ∧ q.due ≤ (s.ten t).done) && !q.kind.any CapKind.full)
  let s := { s with cap := { s.cap with queue := s.cap.queue.filter (fun q => !mine.contains q) } }
  mine.foldl (fun s q => s.capEffects q bad) s
/-- A word read uncorrectable while a tenant leaves: the tile is faulty and is placed (R144, R216). -/
def State.leavingUe (s : State) (t : Nat) (l : Nat) (b : BadWord) : State :=
  let s := s.report 0x0100 clsMasked (s.ptile l) (some t) (b.bank.val + 16 * b.word.toNat)
  if s.healthy l then (s.placeTile l).2 else s
/-- The tenant is SWAPPED: its state is on its way to its swap slot, or, with a word lost, its newest checkpoint and log
(Table 8-3). -/
def State.swapAway (s : State) (t : Nat) (bad : List BadWord) : State :=
  let tn := s.ten t
  let v := s.capSaved t bad
  let s := bad.foldl (fun s b => s.hubCount t b) s
  let bad := badWords bad
  let ls := bad.filterMap (fun b => (s.tileOf t b.itile).map (fun l => (l, b)))
  let s := s.unbind t true
  let s := s.setTen t { tn with
    run := .swapped, back := tn.run, moving := false, devHeld := false, sliceOver := false, swapSlot := none
    fromCkpt := tn.fromCkpt || !bad.isEmpty }
  let s := if bad.isEmpty then { s with sched := { s.sched with draining := s.sched.draining ++ [(t, v, 0)] } } else s
  ls.foldl (fun s e => s.leavingUe t e.1 e.2) s
/-- Drains of swapped-out states ask for their tokens (R243, class SWAP). -/
def State.startDrains (s : State) : State :=
  s.sched.draining.foldl (fun s e =>
    if e.2.2 = 0 then
      let r := s.askTokens 2 e.1 (stateSlot e.2.1.tiles.length)
      let d := replaceFirst (fun x => decide (x.1 = e.1 ∧ x.2.2 = 0)) (fun x => (x.1, x.2.1, r.1)) r.2.sched.draining
      { r.2 with sched := { r.2.sched with draining := d } }
    else s) s

/-! ### Token windows (R240, R249, R250) -/

/-- Grants up to `n` tokens to the waiting requests of a class, oldest first: what is left, and the queue. -/
def serveTokens : Nat → List TokReq → Nat × List TokReq
  | n, [] => (n, [])
  | n, r :: rest => if r.tokens ≤ n then serveTokens (n - r.tokens) rest else (0, { r with tokens := r.tokens - n } :: rest)
/-- Grants tokens to class `c` from the pool, at most `lim`. -/
def State.grantClass (s : State) (c pool lim : Nat) : Nat × State :=
  let n := min pool lim
  let r := serveTokens n (Map.get s.sched.tokens [] c)
  let used := n - r.1
  let h := Map.get s.sched.granted [] c
  let h := match h with | x :: t => (x + used) :: t | [] => [used]
  (pool - used, { s with sched := { s.sched with tokens := Map.set s.sched.tokens c r.2, granted := Map.set s.sched.granted c h } })
/-- MIN of a class in percent. -/
def State.minShare (s : State) (c : Nat) : Nat := s.rfld (0x90040 + 4 * c) 0 7
/-- One window of R250. -/
def State.tokenWindow (s : State) : State :=
  let g := (List.range 6).map (fun c => (c, 0 :: (Map.get s.sched.granted [] c).take 63))
  let s := { s with sched := { s.sched with granted := g } }
  let pool := s.sched.rate - s.sched.resv
  let a := (List.range 6).foldl (fun (p : Nat × State) c => p.2.grantClass c p.1 (p.2.minShare c * p.2.sched.rate / 100)) (pool, s)
  ((List.range 6).foldl (fun (p : Nat × State) c => p.2.grantClass c p.1 p.1) a).2
/-- The virtual times after one microsecond (R240). -/
def State.accrue (s : State) : State :=
  s.runningSet.foldl (fun s t =>
    let n := (s.boundTiles t).length
    let g := s.group t
    let s := s.updTen t (fun v => { v with vt := v.vt + n * (vtUnit / s.weightT t) })
    { s with sched := { s.sched with vg := Map.set s.sched.vg g (s.vg g + n * (vtUnit / s.weightG g)) } }) s

end Sys2Proof.Machine
end

