-- ==== Sys2Proof/Machine/SchedCmd.lean ====
section
/-!
DEFINITION. The scheduler's commands: slices, swaps, rebalances, tokens and its registers (chapter 08), and the contract and
hazard registers of chapter 05.
-/
namespace Sys2Proof.Machine

/-- SLICE_END (R242): a placement decision; the slice renews while no victim is needed. -/
def execSliceEnd (ten : TenId) (s : State) : Out :=
  if s.inTiles ten && (s.ten ten).runnable && decide (s.dev.mode ≠ .safe) then
    if s.victimNeeded then .next (s.updTen ten (fun v => { v with sliceOver := true })).place
    else
      let s := s.updTen ten (fun v => { v with sliceOver := false, sliceFrom := s.thy.total })
      .next (if s.rfld 0x90000 1 1 = 1 then s.decision 4 ten 0xFF (s.boundTiles ten).length 0 else s)
  else .next s

/-- A tenant of a swap, or a tile that it takes, is under refit (R38 item 5). -/
def State.underRefit (s : State) (ts ls : List Nat) : Bool :=
  ts.any (fun t => (s.ten t).affected || (s.rebalOf t).isSome) || s.sched.rebal.any (fun r => r.pairs.any (fun p => ls.contains p.2))
/-- SWAP_START (R245, R263, R28): the chosen swap starts if its rate can be reserved and its domains are good; not in SAFE, under a
HOLD condition, or while a tenant or tile of it is under refit. -/
def execSwapStart (s : State) : Out :=
  match s.sched.chosen, s.sched.swap with
  | some (h, vs), none =>
    let plan := s.swapPlan h vs
    let ls := plan.map (fun e => e.2.1)
    if decide (s.dev.mode = .hold ∨ s.dev.mode = .safe) || s.holdCond || s.underRefit (h :: vs) ls || !s.sched.derateOut.isEmpty then .next s
    else
      let b := s.swapBytes h plan
      if !(s.darkDomains ls).isEmpty then .next (s.wantPower ls)
      else if s.sched.rate - s.sched.resv < swapRate b then .next (s.decision 0x0A h 0xFF plan.length b)
      else
        let w : Swap := { inT := h, victims := vs, emptied := [], rate := swapRate b }
        let s := { s with sched := { s.sched with swap := some w, chosen := none, resv := s.sched.resv + w.rate } }
        let s := s.decision 1 h (vs.head?.getD 0xFF) plan.length 0
        .next (vs.foldl (fun s v => s.request v .swapOut none) s)
  | _, _ => .next s

/-- SWAP_OUT_EMPTIED (R243, Table 8-3): the last tile of a victim has emptied; `bad` are the words found uncorrectable. -/
def execSwapOutEmptied (v : TenId) (bad : List BadWord) (s : State) : Out :=
  let tn := s.ten v
  let victim := s.sched.swap.any (fun w => w.victims.contains v.val && !w.emptied.contains v.val)
  if s.leaving v && tn.moving && s.noEcycle v && tn.recov.isNone && decide (tn.run ≠ .swapped ∧ s.dev.mode ≠ .safe) &&
      tn.reqs.all (fun r => decide (r.kind ≠ .swapOut)) && !s.cap.moving.any (fun q => decide (q.ten = v.val)) && s.poolRoom (stateSlot tn.ntiles) then
    let n := (s.boundTiles v).length
    let s := s.sharedMoves v bad
    let s := s.swapAway v bad
    let s := if victim then s.decision 3 v ((s.sched.swap.map (fun w => w.inT)).getD 0xFF) n tn.done else s
    let out := s.sched.derateOut.filter (fun x => decide (x ≠ v.val))
    let sw := s.sched.swap.map (fun (w : Swap) => if victim then { w with emptied := w.emptied ++ [v.val] } else w)
    let s := { s with sched := { s.sched with derateOut := out, swap := sw } }
    .next (if victim then s.remode else ((s.startDrains.remode).derateGo).place)
  else .next s

/-- The swap ends: its rate is free, drains begin, and what waited for it goes on. -/
def State.dropSwap (s : State) (w : Swap) : State :=
  (({ s with sched := { s.sched with swap := none, resv := s.sched.resv - w.rate } }).startDrains.derateGo).place

/-- The state that a swap-in takes (R243, R244): from the hub store, the swap slot, or the image. -/
def State.swapInState (s : State) (t : Nat) : Saved :=
  (s.swapImage t).getD ((((s.ten t).img).map Image.initial).getD { k := 0, tiles := [] })

/-- SWAP_IN_LOADED (R236, R244): every tile of the incoming tenant is loaded; it resumes its return state. Where its state is a
checkpoint, the fault manager restores and replays it (R216 item 3). So it does where a line of what is loaded is poisoned: `bad` says so of
a line read in the hub store (Table 11-8). -/
def execSwapInLoaded (bad : Bool) (s : State) : Out :=
  match s.sched.swap with
  | none => .next s
  | some w =>
    let t := w.inT
    let tn := s.ten t
    let plan := s.planFor t s.freeTiles
    let ls := plan.map (fun e => e.2.1)
    if !w.victims.all (fun v => w.emptied.contains v) || decide (s.dev.mode = .safe) || s.underRefit [t] ls then .next s
    else if tn.img.isNone || decide (tn.run ≠ .swapped) || decide (plan.length < tn.ntiles) then .next (s.dropSwap w)
    else if !(s.darkDomains ls).isEmpty then .next (s.wantPower ls)
    else
      let v := s.swapInState t
      let s := s.bindTiles t plan
      let s := { s with sched := { s.sched with draining := s.sched.draining.filter (fun e => decide (e.1 ≠ t)) } }
      let s := s.updTen t (fun x => { x with
        run := x.back, back := .stopped, devHeld := x.back.advancing && s.holdCond, sliceOver := false, sliceFrom := s.thy.total
        swapSlot := none, fromCkpt := false })
      let s := s.decision 2 t 0xFF plan.length tn.done
      let s := if tn.fromCkpt || bad || (tn.swapSlot.isSome && s.rangePoisoned (s.swapBase t) (stateSlot tn.ntiles)) then
          s.startRecovery t .swapIn none s.lastSeq else ((s.loadTenant t v).capResume t).boundary t
      .next (s.dropSwap w)

/-- SWAP_DRAIN_DONE (R243): a swapped-out state is in its swap slot. -/
def execSwapDrainDone (ten : TenId) (s : State) : Out :=
  match s.sched.draining.find? (fun e => decide (e.1 = ten.val)) with
  | some (_, v, tok) =>
    if tok = 0 ∨ s.tokWaits 2 tok = true then .next s
    else
      let dr := s.sched.draining.filter (fun e => decide (e.1 ≠ ten.val))
      let s := s.writeSlot ten (s.swapBase ten) v
      .next (({ s with sched := { s.sched with draining := dr } }).updTen ten (fun x => { x with swapSlot := some v }))
  | none => .next s

/-! ### Rebalance (R239) -/

/-- The status that refuses a REBALANCE, or OK. R239 names stopped and runnable tenants; one that is HELD or SWAPPED completes
BAD_STATE, which the rule does not say (log entry 92). -/
def State.rebalStatus (s : State) (t : Nat) (pairs : List (Nat × Nat)) : Nat :=
  let tn := s.ten t
  let old := pairs.filterMap (fun p => s.tileOf t p.1)
  let bad := fun (l : Nat) => decide (192 ≤ l) || !s.healthy l || ((s.ltile l).bound && !old.contains l)
  if pairs.isEmpty ∨ 24 < pairs.length ∨ !(pairs.map (fun p => p.1)).Nodup ∨ !(pairs.map (fun p => p.2)).Nodup ∨
      pairs.any (fun p => decide (tn.ntiles ≤ p.1)) = true then stBadArg
  else if tn.img.isNone then stNoImage
  else if !(decide (tn.run = .stopped) || tn.run.advancing) || old.length ≠ pairs.length || pairs.any (fun p => bad p.2) then
    stBadState
  else stOk

/-- REBALANCE (R239): the device enters REFIT, and the boundary closes and the copy follows once no earlier refit is in progress
(R38 item 5). A replay of the tenant is suspended, and its placement carries the rebalance out (R38 item 4). -/
def execRebalance (d : DRef) (ten : TenId) (pairs : List (Byte × Byte)) (s : State) : Out :=
  s.takeUp d 0x15 true true (fun s =>
    let ps := pairs.map (fun p => (p.1.toNat, p.2.toNat))
    let st := s.rebalStatus ten ps
    if st ≠ stOk then s.complete d 0x15 st 0 0
    else
      let r : Rebal := { cmd := d, ten := ten, pairs := ps }
      let s := ({ s with sched := { s.sched with rebal := s.sched.rebal ++ [r] } }).wantPower (ps.map (fun (p : Nat × Nat) => p.2))
      match (s.ten ten).recov with
      | none => ({ s with dev := { s.dev with refits := s.dev.refits ++ [256 + ten.val] } }).remode
      | some (q : Recovery) => if q.phase = RecPhase.stopped then s else s.startRecovery ten q.kind none q.logSeq)

/-! ### Register writes (R233, R237, R250) -/

/-- SCH_TREGION_BASE and SCH_TREGION_SIZE are written (R233), in units of 64 MiB. -/
def State.writeRegionReg (s : State) (t : Nat) (size : Bool) (v : Nat) : State :=
  let off := (if size then 0x92800 else 0x92400) + 4 * t
  let v := v % 2 ^ 11
  let b := if size then s.rfld (0x92400 + 4 * t) 0 11 else v
  let n := if size then v else s.rfld (0x92800 + 4 * t) 0 11
  let clash := (List.range 256).any (fun u => decide (u ≠ t) &&
    overlaps b n (s.rfld (0x92400 + 4 * u) 0 11) (s.rfld (0x92800 + 4 * u) 0 11))
  if (s.ten t).img.isSome ∨ (s.ten t).load.isSome then s.accState off
  else if 1504 < b + n ∨ clash = true then s.accValue off
  else s.setReg off v
/-- SCH_TREGION_WRITE (R233). -/
def execSchTregionWrite (t : TenId) (size : Bool) (v : Word) (s : State) : Out :=
  if s.dev.mode.configured then .next (s.writeRegionReg t size v.toNat) else .next s

/-- Tiles of the pinned tenants, with tenant `t` counted as pinned. -/
def State.pinnedTiles (s : State) (t : Nat) : Nat :=
  sumNat (s.known.map (fun u => if u = t ∨ s.pinned u = true then (s.ten u).ntiles else 0))
/-- SCH_TCFG is written (R237): a placement decision. -/
def State.writeTcfg (s : State) (t v : Nat) : State :=
  let off := 0x92000 + 4 * t
  let w := fld v 0 5 + 2 ^ 8 * max 1 (fld v 8 8)
  let fit := ((List.range 192).filter (fun l => s.healthy l)).length
  if bit w 4 = 1 ∧ s.rfld off 4 1 = 0 ∧ fit < s.pinnedTiles t then s.accValue off else (s.setReg off w).place
/-- SCH_TCFG_WRITE (R237). -/
def execSchTcfgWrite (t : TenId) (v : Word) (s : State) : Out :=
  if s.dev.mode.configured then .next (s.writeTcfg t v.toNat) else .next s
/-- SCH_GROUP is written (Table 8-9): a placement decision. -/
def State.writeGroup (s : State) (g v : Nat) : State :=
  (s.setReg (0x90100 + 4 * g) (max 1 (fld v 0 8) + 2 ^ 8 * max 1 (fld v 8 16))).place
/-- SCH_CTL as stored (Table 8-6). -/
def schCtlStored (v : Nat) : Nat := fld v 0 2 + 2 ^ 8 * max 1 (fld v 8 8)

/-- SCH_BW_CLASS is written (R250). -/
def State.writeBwClass (s : State) (c v : Nat) : State :=
  let off := 0x90040 + 4 * c
  let m := min 100 (v % 2 ^ 7)
  if 100 < sumNat ((List.range 6).map (fun i => if i = c then m else s.minShare i)) then s.accValue off else s.setReg off m
/-- SCH_BW_CLASS_WRITE (R250). -/
def execSchBwClassWrite (c : Fin 6) (v : Word) (s : State) : Out :=
  if s.dev.mode.configured then .next (s.writeBwClass c v.toNat) else .next s

/-- TOKEN_WINDOW (R240, R250): one microsecond of tokens and of virtual time. -/
def execTokenWindow (s : State) : Out :=
  if s.dev.mode.configured then
    let s := s.tokenWindow.accrue
    .next (if s.sched.rebal.isEmpty then s else s.remode)
  else .next s

/-! ### The hazard detector and the contract registers (R171 to R175) -/

/-- SCH_DEBUG is written (Table 5-15). -/
def State.writeDebug (s : State) (t v : Nat) : State :=
  let off := 0x94000 + 4 * t
  let v' := v % 2 ^ 7
  let s := if bit v 8 = 1 then s.updTen t (fun x => { x with hazLost := 0, hazFlag := false }) else s
  if v' = s.rfld off 0 7 then s
  else if decide ((s.ten t).eff = .stopped ∨ (s.ten t).eff = .held) && s.noEcycle t then s.setReg off v'
  else s.accState off
/-- SCH_DEBUG_WRITE (R172). -/
def execSchDebugWrite (t : TenId) (v : Word) (s : State) : Out :=
  if s.dev.mode.configured then .next (s.writeDebug t v.toNat) else .next s

/-- The 28 bytes of a hazard report (Table 5-14). -/
def Hazard.bytes (h : Hazard) : List Byte :=
  leBytes h.tile 1 ++ leBytes h.cls 1 ++ leBytes h.step 2 ++ leBytes h.ecyc 8 ++ leBytes h.res 2 ++ leBytes h.count 2 ++
    leBytes h.detail 4 ++ leBytes h.ns 4 ++ zeros 4
/-- HAZARD_REPORT_POST (R175): the oldest report is posted once its ring has a free entry. -/
def execHazardReportPost (ten : TenId) (s : State) : Out :=
  let r := s.rfld (0x94000 + 4 * ten.val) 4 3
  let c := s.cq ten r
  let room := decide ((c.tidx - c.head).toNat + c.resv + (s.host.cpls.filter (fun x =>
    decide (x.fn = ten.val ∧ x.cq = r) && !x.resv)).length < 2 ^ s.cqLog2 ten r)
  match (s.ten ten).hazards with
  | h :: rest =>
    if c.en && room then
      .next ((s.updTen ten (fun v => { v with hazards := rest })).unsolicited ten r 0x06 64 h.bytes)
    else .next s
  | [] => .next s

/-- TIL_CONTRACT is written (Table 5-12). -/
def State.writeContract (s : State) (n v : Nat) : State :=
  match s.ltileOfPhys n with
  | some l => s.updTile l (fun t =>
      if bit v 31 = 1 then { t with stall := [], viol := 0 }
      else { t with viol := packBits (fun i => t.viol.testBit i && decide (bit v (16 + i) = 0)) 12 })
  | none => s
/-- TIL_CONTRACT_CLEAR (R171). -/
def execTilContractClear (n : PTileId) (s : State) : Out :=
  if s.dev.mode.configured then .next (s.writeContract n (2 ^ 31)) else .next s

end Sys2Proof.Machine
end

