-- ==== Sys2Proof/Machine/PwrOps.lean ====
section
/-!
DEFINITION. Basil's arithmetic (R258 to R275): the budget, the cap and the tile voltage, the hold floor, the hub level and swaps
by weight. Powers are in mW, step rates in Msteps/s, tile voltages in steps of 5 mV above 0.60 V, temperatures in units of 0.25 °C.
-/
namespace Sys2Proof.Machine

def State.updPwr (s : State) (f : Pwr → Pwr) : State := { s with pwr := f s.pwr }
def State.setDomain (s : State) (d : Nat) (v : Domain) : State := s.updPwr (fun p => { p with domains := Map.set p.domains d v })

/-! ### Rates (Table 2-7) -/

/-- Typical step rates from 0.60 V in rows of 50 mV. -/
def typRows : List Nat := [550, 780, 1020, 1250, 1440, 1600]
/-- Minimum step rates. -/
def minRows : List Nat := [470, 670, 880, 1080, 1240, 1380]
/-- A column of Table 2-7 at a tile voltage, by straight-line interpolation (R76). -/
def atVolt (rows : List Nat) (v : Nat) : Nat :=
  let a := rows.getD (v / 10) 0
  let b := rows.getD (v / 10 + 1) a
  a + (b - a) * (v % 10) / 10
def State.vtNom (s : State) : Nat := s.rfld 0x10004 0 8
def State.floorRate (s : State) : Nat := s.rfld 0x10008 0 11
/-- The rate in force follows the cap, the tile voltage and the fast cap (R247, R259). -/
def State.setRate (s : State) : State :=
  let f := if s.pwr.cap = 0 then atVolt typRows s.pwr.vt else s.pwr.cap
  { s with sched := { s.sched with fMsps := if s.pwr.fastCap then min f s.floorRate else f } }
/-- The token rate follows the hub level (R336). -/
def State.setTokenRate (s : State) : State :=
  { s with sched := { s.sched with rate := rateOf s.pwr.hub ((List.range 4).any (fun i => (s.stack i).hotRef)) } }

/-! ### Moves of V_T and of the hub level (R273) -/

/-- The cap and V_T of an evaluation, 0 for no cap: a decrease lowers the rate first, an increase the voltage first; a move in
progress runs to its target (Table 9-5). -/
def Pwr.steer (p : Pwr) (f v : Nat) : Pwr :=
  let p := { p with capTarget := f, vtWish := v }
  let low := if f ≠ 0 ∧ (p.cap = 0 ∨ f < p.cap) then { p with cap := f } else p
  if p.vtTarget.isSome then low
  else if p.vt < v then { low with vtTarget := some v }
  else if v < p.vt then { p with cap := f, vtTarget := some v }
  else { p with cap := f }
/-- V_T has reached its target: the rate follows where it waited, and then the newest evaluation's target. -/
def Pwr.vtDone (p : Pwr) : Pwr :=
  match p.vtTarget with
  | none => p
  | some v => ({ p with vt := v, vtTarget := none }).steer p.capTarget p.vtWish
/-- The hub goes to a level: HCLK falls at once, and rises only once the rail is good. A move in progress runs to its target. -/
def Pwr.steerHub (p : Pwr) (l : Nat) : Pwr :=
  let p := { p with hubWish := some l }
  if p.hubTarget.isSome ∨ l = p.hub then p
  else if l < p.hub then { p with hub := l, hubTarget := some l } else { p with hubTarget := some l }
/-- The hub has reached its level, and goes on to that of the newest evaluation. -/
def Pwr.hubDone (p : Pwr) : Pwr :=
  match p.hubTarget with
  | none => p
  | some l => ({ p with hub := l, hubTarget := none }).steerHub (p.hubWish.getD l)

/-! ### The budget (R258, R261, R268, R269) -/

/-- P_IN (R258). -/
def State.pIn (s : State) : Nat :=
  let lim := s.rfld 0x10004 20 12
  min (14 * s.pwr.vin) (min 560000 (if lim = 0 then 560000 else 1000 * lim))
/-- T_lim (R269). -/
def tLim : Int := if Config.gradeE then 420 else 380
/-- The highest die temperature, and its die, 8 for the hub die. -/
def State.hottest (s : State) : Int × Nat :=
  let l := (List.range 9).filterMap (fun i => let r := Map.get s.ana.res {} (31 + i); if r.valid then some (r.value, i) else none)
  match l with
  | [] => (0, 0)
  | x :: r => r.foldl (fun a b => if a.1 < b.1 then b else a) x
/-- P_TH at temperature T (R269). -/
def pThAt (t : Int) : Nat := if t ≤ tLim - 40 then 560000 else (7000 * (tLim + 40 - t)).toNat
/-- Phases of converter `c` (Table 9-3). -/
def phasesOf (c : Nat) : Nat := if c < 8 then 6 else if c ≤ 10 then 4 else if c ≤ 12 then 3 else 2
/-- Phases shed of a converter. -/
def State.phasesShed (s : State) (c : Nat) : Nat := (s.pwr.phaseBad.filter (fun x => decide (x / 8 = c))).length
/-- Phases at work: a first loss is made good by the spare (R261). -/
def State.phasesLeft (s : State) (c : Nat) : Nat := min (phasesOf c) (phasesOf c + 1 - s.phasesShed c)
/-- P_B in mW, a multiple of 0.1 W: the smallest remaining rating of CT0 to CT7 scales it (R261), and a failed monitor makes it
0 (R477). `nt` and `lk` are P_NT and P_LK. -/
def State.budget (s : State) (nt lk : Nat) : Nat :=
  let pin := s.pIn
  let left := (List.range 8).foldl (fun a c => min a (s.phasesLeft c)) 6
  let n := (50 * min pin (pThAt s.hottest.1) - (50 * nt + 50 * lk + pin)) * left
  if s.ana.failed then 0 else n / 30000 * 100

/-! ### Demand (R248, R270 to R272) -/

/-- Energy of one step of every tile of some tenants, in pJ. -/
def State.stepEnergy (s : State) (l : List Nat) : Nat := sumNat (l.map (fun t => (s.ten t).ntiles * s.eps t))
/-- The tenants that leave by weight until the rest fit (R248). -/
def State.cutByWeight (s : State) (f : Nat) : List Nat → List Nat → List Nat
  | _, [] => []
  | keep, t :: r =>
    if s.sched.pb * 1000 < s.demandAt keep f then t :: State.cutByWeight s f (keep.filter (fun x => decide (x ≠ t))) r else []
/-- Order of R248: ascending W_g × W_t, then highest key, then highest number. -/
def State.weightLt (s : State) (a b : Nat) : Bool :=
  let wa := s.weightG (s.group a) * s.weightT a
  let wb := s.weightG (s.group b) * s.weightT b
  decide (wa < wb) || (decide (wa = wb) && s.keyLt b a)
/-- Swaps by weight (R248): the tenants in tiles that leave wait in the order of the rule, each with its decision record, until
Table 1-12 lets it and no other swap runs. -/
def State.swapByWeight (s : State) : State :=
  let all := s.spaceSet
  let cut := s.cutByWeight s.floorRate all (sortBy s.weightLt (all.filter (fun t => !s.pinned t)))
  let q := cut.filter (fun t => s.inTiles t && !s.leaving t)
  let new := q.filter (fun t => !s.sched.derateQ.contains t)
  let s := { s with sched := { s.sched with derateQ := q } }
  (new.foldl (fun (s : State) t => s.decision 7 t 0xFF (s.boundTiles t).length 0) s).derateGo

/-- The lowest tile voltage whose minimum rate is at least `f`, else VT_NOM (R270). -/
def State.voltFor (s : State) (f : Nat) : Nat :=
  ((List.range (s.vtNom + 1)).find? (fun v => decide (f ≤ atVolt minRows v))).getD s.vtNom
/-- f_cap (R270). With no runnable tenant in tiles the quotient has no value; the model then takes the upper limit (log entry 91). -/
def State.capFor (s : State) : Nat :=
  let e := s.stepEnergy s.runningSet
  let top := atVolt typRows s.vtNom
  let f := if e = 0 then top else s.sched.pb * 1000 / e / 10 * 10
  min top (max s.floorRate f)
/-- DERATE is set or cleared (R271). -/
def State.derateCond (s : State) : State :=
  let all := s.spaceSet
  let pb := s.sched.pb * 1000
  if s.dev.derate then
    let n := if 100 * s.demandAt all (atVolt typRows s.vtNom) ≤ 95 * pb then s.pwr.derateRun + 1 else 0
    if 10 ≤ n then
      (({ s with dev := { s.dev with derate := false } }).updPwr (fun p => { p with derateRun := 0 })).report 0x0306 clsEvent 0 none s.sched.pb
    else s.updPwr (fun p => { p with derateRun := n })
  else if pb < s.demandAt all s.sched.fMsps then
    (({ s with dev := { s.dev with derate := true } }).updPwr (fun p => { p with derateRun := 0 })).report 0x0305 clsEvent 0 none s.sched.pb
  else s
/-- The cap and V_T of an evaluation (R270). -/
def State.derateEval (s : State) : State :=
  let s := s.derateCond
  if s.dev.derate then
    let f := s.capFor
    let s := s.updPwr (fun p => p.steer f (s.voltFor f))
    let s := s.setRate
    if s.sched.pb * 1000 < s.demandAt s.spaceSet s.floorRate then s.swapByWeight
    else { s with sched := { s.sched with derateQ := [] } }
  else ({ s with sched := { s.sched with derateQ := [] } }.updPwr (fun p => p.steer 0 s.vtNom)).setRate

/-- This module's own hold condition changes (R28, R294). -/
def State.setOwnHold (s : State) (hold floor : Bool) : State :=
  let old := s.dev.holdBit || s.dev.floor
  let s := { s with dev := { s.dev with holdBit := hold, floor := floor } }
  let s := if old = (hold || floor) then s else s.sendLhold (hold || floor)
  s.holdChanged
/-- The hold floor (R272). -/
def State.floorEval (s : State) : State :=
  let hf := s.demandAt (s.runningSet.filter s.pinned) s.floorRate
  let pb := s.sched.pb * 1000
  if s.dev.floor then
    let n := if 105 * hf ≤ 100 * pb then s.pwr.floorRun + 1 else 0
    if 10 ≤ n then (s.updPwr (fun p => { p with floorRun := 0 })).setOwnHold s.dev.holdBit false
    else s.updPwr (fun p => { p with floorRun := n })
  else if pb < hf then
    ((s.updPwr (fun p => { p with floorRun := 0 })).report 0x0307 clsEvent 0 none (hf / 1000)).setOwnHold s.dev.holdBit true
  else s

/-! ### The hub level (R274) -/

/-- The highest level whose power fits what is left of CH (R261, Table 9-6). -/
def State.hubFits (s : State) : Nat :=
  let p := 15 * s.phasesLeft 9
  if 40000 ≤ 800 * p then 3 else if 31000 ≤ 750 * p then 2 else 1
/-- A token request waits, or a swap waits for its rate. -/
def State.rateWaits (s : State) : Bool :=
  s.sched.tokens.any (fun e => !e.2.isEmpty) || s.sched.chosen.any (fun c =>
    decide (s.sched.rate - s.sched.resv < swapRate (s.swapBytes c.1 (s.swapPlan c.1 c.2))))
/-- The fast cap or a hot stack holds the hub at H1 or below (R259, R336). -/
def State.hubCapped (s : State) : Bool := s.pwr.fastCap || (List.range 4).any (fun i => (s.stack i).hot)
/-- The hub level of an evaluation: `waited` says that a token request has waited for 1 ms, and `share` counts the windows of the
last 1,000 with waiting requests. Where R274 names no level the hub keeps its own. -/
def State.hubLevel (s : State) (waited : Bool) (share : Nat) : Nat :=
  let cur := s.pwr.hub
  let l := if !s.anyRunnable && !waited then 1
    else
      let l := if cur = 3 ∧ share < 100 then 2 else max 1 cur
      let l := if s.rateWaits then max 2 l else l
      if 500 ≤ share then 3 else l
  let l := min l (min (s.rfld 0x10004 18 2) s.hubFits)
  if s.hubCapped then min 1 l else l
/-- The hub level follows, H0 in the small configuration. -/
def State.hubEval (s : State) (waited : Bool) (share : Nat) : State :=
  let l := if s.pwr.small then 0 else s.hubLevel waited share
  (s.updPwr (fun p => p.steerHub l)).setTokenRate

/-! ### The small configuration (R275) -/

/-- Logical tiles in powered tile-group domains, with some more domains counted as powered. -/
def State.poweredTiles (s : State) (more : List Nat) : Nat :=
  ((List.range 192).filter (fun l => (s.domain (s.domainOf l)).on || more.contains (s.domainOf l))).length
/-- A domain is switched on where Basil may do so at once; beyond 48 logical tiles the full configuration comes first. -/
def State.mayPower (s : State) (d : Nat) : Bool := !s.pwr.small || decide (s.poweredTiles [d] ≤ 48)

end Sys2Proof.Machine
end

