-- ==== Sys2Proof/Machine/PwrCmd.lean ====
section
/-!
DEFINITION. The commands of supply, power domains and Basil (chapter 09).
-/
namespace Sys2Proof.Machine

/-- A mode after RESET with main power. -/
def Mode.afterReset (m : Mode) : Bool :=
  match m with
  | .off | .keep | .reset => false
  | _ => true

/-! ### Basil's evaluation (R268) -/

/-- The energy counters advance (R264). -/
def State.countEnergy (s : State) (used : List Word) : State :=
  s.updPwr (fun p => { p with energy := ((List.range 68).zip used).foldl (fun (m : Map (BitVec 48)) x =>
    Map.set m x.1 (Map.get m 0 x.1 + BitVec.ofNat 48 x.2.toNat)) p.energy })
/-- Steps executed since the last evaluation by the tiles of a tile-group domain, for tenant `t` or for every tenant. -/
def State.stepsIn (s : State) (d : Nat) (t : Option Nat) : Nat :=
  sumNat (((List.range 192).filter (fun l => decide (s.domainOf l = d))).flatMap (fun l =>
    ((s.tile l).ran.filter (fun e => t.all (fun t => decide (e.1 = t)))).map (fun e => e.2)))
/-- e_t of a tenant over the last millisecond in pJ, none where it executed no step: the energy of each tile-group domain, `used` in
µJ, goes to the tiles that stepped in it in proportion to their executed steps (R247; rounded down, log entry 43). -/
def State.measuredEps (s : State) (used : List Word) (t : Nat) : Option Nat :=
  let per := (List.range 40).filterMap (fun d =>
    let n := s.stepsIn d (some t)
    if n = 0 then none else some (n, (used[d]?.getD 0).toNat * 1000000 * n / s.stepsIn d none))
  let n := sumNat (per.map (fun e => e.1))
  if n = 0 then none else some (sumNat (per.map (fun e => e.2)) / n)
/-- Every tenant's e_t is measured (R247); that of a tenant held by the device keeps its last value (R272). -/
def State.attribute (s : State) (used : List Word) : State :=
  let new := s.known.filterMap (fun t => if (s.ten t).devHeld then none else (s.measuredEps used t).map (fun e => (t, e)))
  let s := { s with sched := { s.sched with energy := new.foldl (fun m e => Map.set m e.1 e.2) s.sched.energy } }
  ((List.range 192).filter (fun l => !(s.tile l).ran.isEmpty)).foldl (fun s l => s.updTile l (fun t => { t with ran := [] })) s
/-- What the last millisecond measured is taken in: the means of VIN and of the input current (R472; they round down, log entry
41), the energy of each domain with each tenant's e_t, and the converters' currents. -/
def State.measure (s : State) (used : List Word) (loads : List (BitVec 16)) : State :=
  let p := s.pwr
  let vin := if p.vinN = 0 then p.vin else p.vinSum / p.vinN
  let iin := if p.iinN = 0 then p.iin else p.iinSum / p.iinN
  ((s.countEnergy used).updPwr (fun p => { p with
    vin := vin, iin := iin, vinSum := 0, vinN := 0, iinSum := 0, iinN := 0
    load := (List.range 14).zip (loads.map (fun x => x.toNat)) })).attribute used
/-- P_IN, P_TH, P_NT, P_LK and P_B are published. -/
def State.publish (s : State) (nt lk : Nat) : State :=
  let t := s.hottest
  let pb := s.budget nt lk
  { s with
    sched := { s.sched with pb := pb }
    pwr := { s.pwr with pIn := s.pIn / 100, pTh := pThAt t.1 / 100, pNt := nt / 100, pLk := lk / 100, tMax := t.1, tSrc := t.2 } }
/-- Basil asks for the nine die temperatures (R268, R471). -/
def State.askTemps (s : State) : State :=
  let u := s.ana.urgent ++ (List.range' 31 9).filter (fun i => !s.ana.urgent.contains i)
  { s with ana := { s.ana with urgent := u, asked := s.ana.tick } }
/-- The fast cap ends below 14.4 A (R259). -/
def State.endFastCap (s : State) : State :=
  s.updPwr (fun p => { p with fastCap := p.fastCap && decide (14400 ≤ p.iin), limiter := decide (16000 ≤ p.iin) })

/-- The decision record of a budget (R256, Table 8-5): its TENANT and GROUP name no tenant and are free values (log entry 99). -/
def State.budgetRecord (s : State) : State :=
  if s.rfld 0x90000 0 1 = 1 then
    let a := s.freshNat
    let b := a.2.freshNat
    b.2.trace 0x10 0 2 (leBytes (8 + 2 ^ 8 * (a.1 % 2 ^ 8) + 2 ^ 16 * 0xFF + 2 ^ 24 * (b.1 % 2 ^ 8)) 4 ++ zeros 4 ++ leBytes s.sched.pb 8)
  else s

/-- BASIL_EVALUATE (R264, R268 to R275): `used` is the energy of each domain, of AON and of the input since the last such command in
µJ, `lk` P_LK in 0.1 W, `loads` the converters' currents, `waited` and `share` what R274 asks of the token queues. Before IDLE only
the energy counters advance. In SAFE, P_B is published and nothing moves (Table 9-5). -/
def execBasilEvaluate (used : List Word) (lk : BitVec 16) (loads : List (BitVec 16)) (waited : Bool) (share : BitVec 10)
    (s : State) : Out :=
  if s.dev.mode = .off ∨ s.dev.mode = .keep then .next s
  else if s.dev.mode.configured = false then .next (s.countEnergy used)
  else
    let nt := sumNat (((used.take 67).drop 40).map (fun x => x.toNat))
    let s := (((s.measure used loads).publish nt (100 * lk.toNat)).budgetRecord).endFastCap.askTemps
    if s.dev.mode = .safe then .next s
    else .next (((((s.derateEval).floorEval).hubEval waited share.toNat).remode).place)

/-! ### The input (R259, R260) -/

/-- FAST_CAP (R259): the input current has reached 15.2 A; a rising move reverses. -/
def execFastCap (iin : BitVec 16) (s : State) : Out :=
  if s.dev.mode.afterReset = false ∨ iin.toNat < 15200 ∨ s.pwr.fastCap = true then .next s
  else
    let p := s.pwr
    let rising := fun (t : Option Nat) (v : Nat) => if t.any (fun x => decide (v < x)) then none else t
    let p := { p with fastCap := true, hubWish := none, vtTarget := rising p.vtTarget p.vt, hubTarget := rising p.hubTarget p.hub }
    let p := if p.small ∨ p.hub ≤ 1 then p else { p with hub := 1, hubTarget := some 1 }
    .next ((({ s with pwr := p }).setRate.setTokenRate).report 0x0302 clsEvent 0 none iin.toNat)

/-- LIMIT_TRIP (R260): the limiter has held the current for 1 ms. -/
def execLimitTrip (vin : BitVec 16) (s : State) : Out :=
  if s.dev.mode.afterReset then
    .next (((s.updPwr (fun p => { p with limiter := true })).report 0x0303 clsDevice 0 none vin.toNat).enterSafe .supply)
  else .next s

/-! ### Converters (R261) -/

/-- PHASE_SHED (R261): phase `p` of converter `c` leaves its window. -/
def execPhaseShed (c : Fin 14) (p : Fin 7) (s : State) : Out :=
  let k := 8 * c.val + p.val
  if phasesOf c < p.val ∨ s.pwr.phaseBad.contains k = true ∨ s.dev.mode.afterReset = false then .next s
  else .next ((s.updPwr (fun v => { v with phaseBad := k :: v.phaseBad })).report 0x0300 clsDegraded c none (c.val + 2 ^ 8 * p.val))
/-- CONVERTER_OUT_OF_WINDOW (R261): SAFE with cause SUPPLY. -/
def execConverterOutOfWindow (_c : Fin 14) (s : State) : Out := .next (s.enterSafe .supply)

/-! ### Domains (R217, R262, R263, R275) -/

/-- The tiles of a tile-group domain are faulty (R217): every tenant with a tile there recovers, and the first of them waits for
the logical tiles there that no tenant holds too, so that one placement takes them all in ascending order; with no such tenant
they are placed at once. The cause is the DOMAIN_FAULT entry. -/
def State.groupFaulty (s : State) (d : Nat) : State :=
  let q := s.lastSeq
  let here := (List.range 5).map (fun i => 5 * d + i)
  let ls := (List.range 192).filter (fun l => here.contains (s.ptile l))
  let s := here.foldl State.markBad s
  let ts := ((ls.filter (fun l => (s.ltile l).bound)).map (fun l => (s.ltile l).ten)).eraseDups
  match ts with
  | [] => s.placeAll ls
  | t0 :: _ =>
    let s := ts.foldl (fun (s : State) t =>
      (ls.filter (fun l => (s.ltile l).bound && decide ((s.ltile l).ten = t))).foldl (fun s l =>
        s.startRecovery t .masked (some l) q) s) s
    s.updTen t0 (fun v => { v with recov := v.recov.map (fun r =>
      { r with ltiles := (ls.filter (fun l => !(s.ltile l).bound)).foldr addCause r.ltiles }) })
/-- The outcome of Table 9-4. -/
def State.domainOutcome (s : State) (d : Nat) : State :=
  if d < 40 then (if s.dev.mode = .safe then s else s.groupFaulty d)
  else if 57 ≤ d ∧ d ≤ 60 then
    ((List.range' (36 * (d - 57)) 36).filter (fun l => s.lnkEnabled l && decide ((s.link l).st ≠ .off ∧ (s.link l).st ≠ .down))).foldl
      State.linkDown s
  else if d = 62 ∨ d = 63 then s.failHalf (d - 62)
  else if d = 64 then (s.freezeTrig State.acqCut).chvCut
  else s.enterSafe .supply
/-- The domain's failure takes the device to SAFE. -/
def domainIsDevice (d : Nat) : Bool := decide (40 ≤ d) && !(decide (57 ≤ d ∧ d ≤ 60)) && decide (d ≠ 62 ∧ d ≠ 63 ∧ d ≠ 64)
/-- DOMAIN_FAULT (R262): a domain has left its window for 20 µs. -/
def execDomainFault (d : Fin 66) (s : State) : Out :=
  if s.dev.mode.afterReset = false then .next s
  else
    let s := s.setDomain d { s.domain d with good := false, fault := true }
    let s := s.report 0x0301 (if domainIsDevice d then clsDevice else clsDegraded) d none d
    .next ((s.domainOutcome d).remode)

/-- A tile-group domain is in use: one of its tiles is bound, resident, or carries a logical tile on a spare. -/
def State.groupUsed (s : State) (d : Nat) : Bool :=
  (List.range 192).any (fun l => decide (s.domainOf l = d) && ((s.ltile l).bound || (s.ltile l).resident || (s.remap l).onSpare))
/-- RESIDENT is cleared for the domain's tiles (R263). -/
def State.clearResident (s : State) (d : Nat) : State :=
  { s with sched := { s.sched with
    ltiles := s.sched.ltiles.map (fun e => if s.domainOf e.1 = d then (e.1, { e.2 with resident := false }) else e) } }
/-- A tile-group domain of row `r` comes up for the self-test: those of the rows before are off again, and a row does not come back
while a later one is on (Table 16-8; log entry 103). -/
def State.postRow (s : State) (r d : Nat) : State :=
  if (List.range 40).any (fun x => decide (r < x % 5) && (s.domain x).on) then s
  else
    let s := ((List.range 40).filter (fun x => decide (x % 5 < r) && (s.domain x).on)).foldl (fun (s : State) x =>
      s.setDomain x { s.domain x with on := false, good := false }) s
    s.setDomain d { s.domain d with on := true, good := true }
/-- DOMAIN_IDLE_OFF (R263, Table 9-4): a tile-group domain in which nothing has been bound or carried on a spare for IDLE_MS, or
an edge half with no bank assigned, is switched off. A tile that is only resident keeps its domain. R263 names no mode: in SAFE the model
leaves every domain on, the model's choice (log entry 103). -/
def execDomainIdleOff (d : Fin 66) (s : State) : Out :=
  let v := s.domain d
  let idle := if d.val < 40 then !s.groupUsed d && !s.pwr.wanted.contains d.val
    else decide (d.val = 62 ∨ d.val = 63) && (List.range 6).all (fun i => (s.bankOwner (6 * (d.val - 62) + i)).isNone)
  if v.on && idle && s.dev.mode.configured && decide (s.dev.mode ≠ .safe) then
    .next ((s.setDomain d { v with on := false, good := false }).clearResident d)
  else .next s

/-- DOMAIN_POWER_GOOD (R263, R265): a domain that has been requested or switched on is in its window. In the small configuration a
domain beyond 48 logical tiles waits for the full configuration (R275). In RESET the supplies follow the order of R265. The
self-test switches the tile groups of one row of every die on, row by row (Table 16-8). -/
def execDomainPowerGood (d : Fin 66) (s : State) : Out :=
  let v := s.domain d
  if s.dev.mode = .reset then
    .next (if (s.domain d).on then (s.setDomain d { s.domain d with good := true }).bringUp else s)
  else if s.dev.mode = .selftest ∧ d.val < 40 then .next (s.postRow (d.val % 5) d)
  else if s.dev.mode.afterReset && !v.good && (v.on || (s.pwr.wanted.contains d.val && s.mayPower d)) then
    let s := s.setDomain d { v with on := true, good := true }
    let s := s.updPwr (fun p => { p with wanted := p.wanted.filter (fun x => decide (x ≠ d.val)) })
    .next (if 57 ≤ d.val ∧ d.val ≤ 60 then s.startSide d else s)
  else .next s

/-- Tenant 0 may have the domain off (Table 9-4). -/
def State.mayOff (s : State) (d : Nat) : Bool :=
  if d = 64 then
    (List.range 16).all (fun q => !(s.seqOf q).armed) &&
    (List.range 16).all (fun c => decide ((s.acqOf c).st = .off ∨ (s.acqOf c).st = .stopped ∨ (s.acqOf c).st = .frozen)) &&
    (List.range 64).all (fun i => decide (s.rfld (0xE0100 + 4 * i) 0 1 = 0))
  else (List.range' (36 * (d - 57)) 36).all (fun l => !s.isUp l)
/-- PWR_DOM_CTL is written (R262, Table 9-8; log entry 42). The links of a side that goes off go to OFF (Table 10-14). -/
def State.writeDomCtl (s : State) (d : Nat) (en : Bool) : State :=
  let off := 0x10100 + 4 * d
  if (57 ≤ d ∧ d ≤ 60) ∨ d = 64 then
    let v := s.domain d
    if en then (s.setReg off 1).setDomain d { v with on := true }
    else if s.mayOff d then
      let s := (s.setReg off 0).setDomain d { v with on := false, good := false }
      if d = 64 then s else (List.range' (36 * (d - 57)) 36).foldl (fun s l => s.updLink l Link.toOff) s
    else s.accState off
  else s
/-- PWR_DOM_CTL_WRITE (R262). -/
def execPwrDomCtlWrite (d : Fin 66) (en : Bool) (s : State) : Out :=
  if s.dev.mode.configured then .next (s.writeDomCtl d en) else .next s

/-- VT_MOVE_DONE (R273): the rail has reached its target; `hub` names V_H rather than V_T. -/
def execVtMoveDone (hub : Bool) (s : State) : Out :=
  if hub then .next ((s.updPwr Pwr.hubDone).setTokenRate) else .next ((s.updPwr Pwr.vtDone).setRate)

/-- SMALL_CONFIG_ENTER (R275): the condition has held for IDLE_MS. -/
def execSmallConfigEnter (s : State) : Out :=
  if s.dev.mode.idleToDerate && !s.pwr.small && decide (s.rfld 0x10004 16 1 = 1) && decide (s.poweredTiles s.pwr.wanted ≤ 48) then
    .next ((s.updPwr (fun p => { p with small := true, hub := 0, hubTarget := if p.hub = 0 then none else some 0 })).setTokenRate)
  else .next s
/-- The small configuration has to end: SMALL_EN is 0, or a domain waits that would take it beyond 48 logical tiles (R275). -/
def State.smallEnds (s : State) : Bool := decide (s.rfld 0x10004 16 1 = 0) || s.pwr.wanted.any (fun d => !s.mayPower d)
/-- FULL_CONFIG_DONE (R275): the hub is at H2 on its synthesiser, or as high as its caps allow (R274), and the domains that waited
are switched on. -/
def execFullConfigDone (s : State) : Out :=
  if s.pwr.small && s.smallEnds then
    let w := s.pwr.wanted
    let l := if s.hubCapped then 1 else min 2 s.hubFits
    let s := (s.updPwr (fun p => { p with small := false, hub := l, hubTarget := none, hubWish := none })).setTokenRate
    .next (w.foldl (fun (s : State) d => s.setDomain d { s.domain d with on := true }) s)
  else .next s

end Sys2Proof.Machine
end

