-- ==== Sys2Proof/Machine/ModeCmd.lean ====
section
/-!
DEFINITION. The commands of the device mode: supply, reset, hold, SAFE, the end of the self-test and the PCIe link (chapters 01, 09,
16).
-/
namespace Sys2Proof.Machine

/-! ### Supply (R26, R257, R265, R266) -/

/-- VIN_ENTER_RANGE (R26, R257): from OFF or KEEP the device enters RESET; `sel` is CSP_SEL as sampled. -/
def execVinEnterRange (sel : BitVec 2) (s : State) : Out :=
  if s.dev.vinOk then .next s else .next (({ s with dev := { s.dev with vinOk := true } }).enterReset 1 sel)

/-- VIN_LEAVE_RANGE (R26, R265, R419): outputs are fail-safe, every domain falls, and the device is in KEEP, or in OFF with the
backup domain reset. -/
def execVinLeaveRange (s : State) : Out :=
  if s.dev.vinOk = false then .next s
  else
    let keep := s.dev.vbatOk
    let s := s.wiped
    let s := { s with
      dev := { s.dev with mode := if keep then .keep else .off, vinOk := false }
      edg := { s.edg with padsPreset := false, padFs := [] } }
    .next (if keep then s else s.bkpDown)

/-- VBAT_RISE (R26): KEEP where VIN is absent. -/
def execVbatRise (s : State) : Out :=
  .next { s with dev := { s.dev with vbatOk := true, mode := if s.dev.mode = .off then .keep else s.dev.mode } }
/-- VBAT_FALL (R26, R266): without VIN the backup domain resets and the device is OFF. -/
def execVbatFall (s : State) : Out :=
  let s := { s with dev := { s.dev with vbatOk := false } }
  if s.dev.mode = .keep then .next ({ s with dev := { s.dev with mode := .off } }).bkpDown else .next s

/-- ALL_SUPPLIES_GOOD (R265): the last item is good, so every switched domain but the tile groups is on and good. -/
def execAllSuppliesGood (s : State) : Out :=
  if s.dev.mode = .reset ∧ s.pwr.suppliesGood = false then
    let s := s.updPwr (fun p => { p with suppliesGood := true })
    .next ((List.range' 40 26).foldl (fun (s : State) d => s.setDomain d { on := true, good := true }) s).tryLeaveReset
  else .next s

/-! ### Reset (R27, R458) -/

/-- RESET_PIN (R458): RESET_N has been low for the filter time. -/
def execResetPin (sel : BitVec 2) (s : State) : Out :=
  let s := { s with clk := { s.clk with resetLow := true } }
  if s.dev.mode.afterReset then .next (s.enterReset 2 sel) else .next s
/-- RESET_N_RELEASE (R458, R459). -/
def execResetNRelease (s : State) : Out := .next ({ s with clk := { s.clk with resetLow := false } }).tryLeaveReset
/-- SOFT_RESET (Table 1-6): DEV_CTL.SOFT_RESET is written; without the key it records ACCESS_KEY. -/
def execSoftReset (key : Byte) (sel : BitVec 2) (s : State) : Out :=
  if s.dev.mode.afterReset = false then .next s
  else if key = 0xA5 then .next (s.enterReset 3 sel) else .next (s.accKey 0x24)
/-- FORCE_SAFE (Table 1-6): without the key it records ACCESS_KEY. -/
def execForceSafe (key : Byte) (s : State) : Out :=
  if s.dev.mode.afterReset = false then .next s
  else if key = 0xA5 then .next (s.enterSafe .forced) else .next (s.accKey 0x24)

/-! ### HOLD (R28, R294) -/

/-- DEV_HOLD_RAISE (Table 1-6). -/
def execDevHoldRaise (s : State) : Out :=
  if s.dev.mode.configured then .next (s.setOwnHold true s.dev.floor) else .next s
/-- DEV_HOLD_WITHDRAW (Table 1-6). -/
def execDevHoldWithdraw (s : State) : Out :=
  if s.dev.mode.configured then .next (s.setOwnHold false s.dev.floor) else .next s

/-! ### The power-on self-test (R462, R463) -/

/-- The tiles that fail: those named, and those with a bank that needs more than two column repairs (R142, R462). -/
def State.postFailed (s : State) (tiles : List PTileId) (cols : List (PTileId × Lane16 × BitVec 7)) : List Nat :=
  (List.range 200).filter (fun n =>
    tiles.any (fun t => decide (t.val = n)) || (List.range 16).any (fun p =>
      decide (2 < (cols.filter (fun c => decide (c.1.val = n ∧ c.2.1.val = p))).length +
        (s.sage.fused.filter (fun c => decide (c.1 = n ∧ c.2.1 = p))).length)))
/-- One failed tile (R20, Table 16-9): its logical tile goes to the die's spare, or has no tile; a failed spare has none. -/
def State.postTile (s : State) (failed : List Nat) (n : Nat) : State :=
  if n % 25 = 24 then
    let r := s.freshNat
    r.2.report 0x0351 clsDegraded n none (n + 2 ^ 8 * (r.1 % 2 ^ 8))
  else
    let l := 24 * (n / 25) + n % 25
    let sp := spareOf l
    let s := if failed.contains sp ∨ s.fm.spareUsed.testBit (n / 25) = true then s.setRemap l { s.remap l with failed := true }
      else
        let s := s.setRemap l { s.remap l with ptile := sp, onSpare := true }
        { s with fm := { s.fm with spareUsed := s.fm.spareUsed ||| 2 ^ (n / 25) } }
    s.report 0x0351 clsDegraded n none (n + 2 ^ 8 * l)
/-- The tiles of a die whose uncore has failed show FAILED. -/
def State.postDie (s : State) (d : Fin 8) : State :=
  (List.range 24).foldl (fun (s : State) k => s.setRemap (24 * d.val + k) { s.remap (24 * d.val + k) with failed := true }) s
/-- Every valid entry of the repair list is applied (R449). -/
def State.applyRepairs (s : State) : State :=
  (List.range 4).foldl (fun (s : State) k => s.updStack k (fun v => { v with
    rows := min 0xFFFF (s.cfg.flash.repairs.filter (fun e => decide (e.1 % 4 = k))).length })) s

/-- The self-test leaves every tile-group domain off (Table 16-8). -/
def State.tilesOff (s : State) : State :=
  ((List.range 40).filter (fun d => (s.domain d).on)).foldl (fun (s : State) d => s.setDomain d {}) s
/-- POST_COMPLETE (R462, R463): what the self-test has found. `unit` is FAIL_UNIT, 0 for none. -/
def execPostComplete (tiles : List PTileId) (cols : List (PTileId × Lane16 × BitVec 7)) (dies : List (Fin 8)) (unit : Fin 6)
    (sigs : List (PTileId × DWord)) (s : State) : Out :=
  if s.dev.mode ≠ .selftest then .next s
  else
    let bad := s.postFailed tiles cols
    let res := if unit ≠ 0 then 3 else if bad.isEmpty ∧ cols.isEmpty = true ∧ dies.isEmpty = true then 1 else 2
    let s := { s with
      sage := { s.sage with
        post := res, tilesFailed := bad.length, colRepairs := min 0xFF cols.length, failUnit := unit.val, tfail := bad
        soft := cols.map (fun c => (c.1.val, c.2.1.val, c.2.2.toNat))
        sig := sigs.foldl (fun (m : Map DWord) x => Map.set m x.1.val x.2) s.sage.sig }
      fm := { s.fm with bad := bad, failed := min 0xFF bad.length } }
    let s := bad.foldl (fun (s : State) n => s.postTile bad n) s
    let s := cols.foldl (fun (s : State) c =>
      s.report 0x0352 clsCorrected c.1 none (c.1.val + 2 ^ 8 * c.2.1.val + 2 ^ 12 * c.2.2.toNat)) s
    let s := ((dies.foldl State.postDie s).applyRepairs).tilesOff
    let s := s.report 0x0350 clsEvent 0 none (res + 2 ^ 8 * bad.length)
    if res = 3 then .next (s.enterSafe .selftest) else .next s.enterLoad

/-! ### The PCIe link (R363, R459) -/

/-- PCIE_LINK_UP (R459): the link has trained; `rate`, `width`, `flit` and `l0p` are what it runs at. -/
def execPcieLinkUp (rate : BitVec 3) (width : BitVec 5) (flit l0p : Bool) (s : State) : Out :=
  if (s.domain 61).good then
    .next { s with
      host := { s.host with linkUp := true, rate := rate.toNat, width := width.toNat, flit := flit, l0p := l0p }
      clk := { s.clk with pclkOk := true } }
  else .next s
/-- PCLK_TRIP (R363, Table 16-4): the link goes down; it never takes the device to SAFE. -/
def execPclkTrip (s : State) : Out :=
  if s.clk.pclkOk then
    let s := ({ s with clk := { s.clk with pclkOk := false } }).report 0x0345 clsDegraded 0 none 0
    .next (if s.fnUp 0 then s.pcieDown else { s with host := { s.host with linkUp := false } })
  else .next s

end Sys2Proof.Machine
end

