-- ==== Sys2Proof/Machine/ClkCmd.lean ====
section
/-!
DEFINITION. The commands of clocks and of Sage (chapter 16).
-/
namespace Sys2Proof.Machine

def State.updClk (s : State) (f : Clk → Clk) : State := { s with clk := f s.clk }
/-- ROOT_SRC's code (Table 16-12). -/
def srcCode (c : ClkSrc) : Nat := match c with | .none => 0 | .xtal => 1 | .ref => 2 | .iosc => 3
/-- The source is proven (R452); IOSC counts only while TRIM_VALID is 1 (R456). -/
def Clk.usable (c : Clk) (x : ClkSrc) : Bool :=
  match x with
  | .none => false
  | .iosc => c.ioscProven && c.trimValid
  | .xtal => c.xtalProven
  | .ref => c.refProven
/-- An external source is no longer proven. -/
def Clk.lose (c : Clk) (x : ClkSrc) : Clk :=
  match x with
  | .xtal => { c with xtalProven := false }
  | .ref => { c with refProven := false, refFreq := 0 }
  | _ => c
/-- SRC_PREF (Table 16-12). -/
def State.preferred (s : State) : ClkSrc := if s.rfld 0x20000 0 1 = 1 then .ref else .xtal

/-! ### Proving sources (R451, R452, R460) -/

/-- IOSC_PROVEN (R452). In RESET the supplies begin to come up with it (R265, Table 16-6 event 2). -/
def execIoscProven (s : State) : Out :=
  if s.dev.mode = .off ∨ s.dev.mode = .keep then .next s
  else
    let s := s.updClk (fun c => { c with ioscProven := true, ioscTrip := false })
    .next (if s.dev.mode = .reset then s.bringUp else s)
/-- EXT_SOURCE_PROVEN (R451, R452): the crystal, or REF_IN with its frequency: 1 for 10, 2 for 50, 3 for 100 MHz. The windows are
IOSC's, and the source is enabled. -/
def execExtSourceProven (ref : Bool) (freq : Fin 4) (s : State) : Out :=
  if s.clk.ioscProven = false ∨ s.rfld 0x20000 (if ref then 3 else 2) 1 = 0 ∨ (ref = true ∧ freq = 0) then .next s
  else .next (s.updClk (fun c => if ref then { c with refProven := true, refFreq := freq.val } else { c with xtalProven := true }))
/-- ROOT_LOCK (R453, R459): in RESET the root locks to the preferred source where that is proven, else to the other. -/
def execRootLock (s : State) : Out :=
  if s.dev.mode = .reset ∧ s.clk.root = .none then
    let x := if s.clk.usable s.preferred then s.preferred else if s.clk.xtalProven then .xtal else if s.clk.refProven then .ref else .none
    .next (s.updClk (fun c => { c with root := x })).tryLeaveReset
  else .next s
/-- IOSC_TRIP (R460, R461, Table 16-4): RESET goes on; a later mode goes to SAFE. -/
def execIoscTrip (s : State) : Out :=
  let n := s.updClk (fun c => { c with ioscProven := false })
  if s.dev.mode = .reset then .next (n.updClk (fun c => { c with ioscTrip := true }))
  else if s.dev.mode.afterReset then .next (n.enterSafe .clock) else .next s
/-- IOSC_RETRY (R460). -/
def execIoscRetry (s : State) : Out :=
  if s.dev.mode = .reset ∧ s.clk.ioscTrip = true then .next (s.updClk (fun c => { c with ioscRetry := satInc c.ioscRetry 0xFF }))
  else .next s
/-- EXT_RETRY (R460). -/
def execExtRetry (s : State) : Out :=
  if s.dev.mode = .reset ∧ s.pwr.suppliesGood = true ∧ s.clk.xtalProven = false ∧ s.clk.refProven = false then
    .next (s.updClk (fun c => { c with extRetry := satInc c.extRetry 0xFF }))
  else .next s

/-! ### Switch-over (R456, R457) -/

/-- The source selected now: the one that the root is moving to, else the root's. -/
def Clk.selected (c : Clk) : ClkSrc := match c.toSrc with | some x => x.1 | none => c.root
/-- CLOCK_SOURCE_TRIP (R456): holdover, and the other external source, else IOSC, else SAFE. In RESET the root is unlocked. -/
def execClockSourceTrip (s : State) : Out :=
  let x := s.clk.selected
  if x = .none ∨ x = .iosc then .next s
  else
    let s := s.updClk (fun c => c.lose x)
    if s.dev.mode.afterReset = false then .next (s.updClk (fun c => { c with root := .none, toSrc := none }))
    else
      match [ClkSrc.xtal, ClkSrc.ref, ClkSrc.iosc].find? (fun y => s.clk.usable y) with
      | some y => .next (s.updClk (fun c => { c with holdover := true, toSrc := some (y, true) }))
      | none => .next ((s.updClk (fun c => { c with holdover := true, toSrc := none })).enterSafe .clock)
/-- CLOCK_SWITCH_LOCK (R456 step 4, R457): the root has locked to its new source. -/
def execClockSwitchLock (s : State) : Out :=
  match s.clk.toSrc with
  | none => .next s
  | some (y, lost) =>
    let old := srcCode s.clk.root
    let d := old + 2 ^ 2 * srcCode y
    let s := s.updClk (fun c => { c with root := y, toSrc := none, holdover := false, switched := c.switched || lost })
    if lost then .next ((s.report 0x0340 clsDegraded 0 none old).report 0x0341 clsEvent 0 none d)
    else .next (s.report 0x0342 clsEvent 0 none d)
/-- CLOCK_REVERT (R457): the preferred source has stayed proven for 100 ms, or any external one while the root runs from IOSC. -/
def execClockRevert (s : State) : Out :=
  let p := s.preferred
  let x := if s.clk.usable p then p
    else if s.clk.root = .iosc then (if s.clk.xtalProven then .xtal else if s.clk.refProven then .ref else .none) else .none
  if s.rfld 0x20000 1 1 = 1 ∧ s.clk.toSrc = none ∧ s.dev.mode.afterReset = true ∧ x ≠ .none ∧ x ≠ s.clk.root ∧ s.clk.root ≠ .none then
    .next (s.updClk (fun c => { c with toSrc := some (x, false) }))
  else .next s
/-- UNSELECTED_SOURCE_TRIP (R452, Table 16-4). -/
def execUnselectedSourceTrip (ref : Bool) (s : State) : Out :=
  let x := if ref then ClkSrc.ref else ClkSrc.xtal
  if s.clk.usable x = true ∧ s.clk.selected ≠ x then
    .next ((s.updClk (fun c => c.lose x)).report 0x0340 clsDegraded 0 none (srcCode x))
  else .next s
/-- BOUNDARY_CLOCK_TRIP (R26, Table 16-4, Table 14-6): `edge` says that the edge clock is the one. -/
def execBoundaryClockTrip (edge : Bool) (s : State) : Out :=
  if s.dev.mode.afterReset then .next ((if edge then (let n := s.failAll 3; { n with edg := { n.edg with fclkOk := false } }) else s).enterSafe .clock) else .next s

/-! ### Trimming (R455) -/

/-- The trim source in use, by its TRIM_SRC code (Table 16-3). -/
def State.trimSource (s : State) : Nat :=
  let ref := s.clk.refProven
  let lat := s.thy.locked && s.thy.srcLink.any s.isUp
  let pci := s.host.linkUp && s.clk.pclkOk
  let c := s.rfld 0x20000 4 3
  if c = 0 then (if ref then 1 else if lat then 2 else if pci then 3 else 4)
  else if c = 1 then (if ref then 1 else 4)
  else if c = 2 then (if lat then 2 else 4)
  else if c = 3 then (if pci then 3 else 4) else 4
/-- TRIM_VALID falls, with its cause: 0 error, 1 no window, 2 temperature. -/
def State.trimLost (s : State) (cause : Nat) : State :=
  let n := s.updClk (fun c => { c with trimValid := false, good := 0 })
  if s.clk.trimValid then n.report 0x0344 clsEvent 0 none cause else n
/-- The hub-die temperature. -/
def State.hubTemp (s : State) : Int := (Map.get s.ana.res {} 39).value
/-- A number kept within limits. -/
def clampInt (lo hi x : Int) : Int := max lo (min hi x)
/-- TRIM_WINDOW (R455): a window has ended with an error of `err` ppm. -/
def execTrimWindow (err : BitVec 16) (s : State) : Out :=
  if s.trimSource = 4 ∨ s.clk.ioscProven = false then .next s
  else
    let e := err.toInt
    let t := clampInt (-32767) 32767 (s.clk.trim - clampInt (-4) 4 e)
    let n := if -20 < e ∧ e < 20 then min 16 (s.clk.good + 1) else 0
    let was := s.clk.trimValid
    let s := s.updClk (fun c => { c with trim := t, err := clampInt (-128) 127 e, good := n })
    if e < -100 ∨ 100 < e then .next (s.trimLost 0)
    else if was ∨ n = 16 then
      let s := s.updClk (fun c => { c with trimValid := true, savedTrim := some t, tempAt := s.hubTemp })
      if was then .next s else .next (s.report 0x0343 clsEvent 0 none s.trimSource)
    else .next s
/-- TRIM_WINDOW_TIMEOUT (R455): 10 s have passed without a window. -/
def execTrimWindowTimeout (s : State) : Out := .next (s.trimLost 1)

/-- CLK_CFG is written (Table 16-12): the root's own source is not switched off; another one that is loses its proof. -/
def State.writeClkCfg (s : State) (v : Nat) : State :=
  let v := v % 2 ^ 7
  let v := if 4 < fld v 4 3 then setFld v 4 3 0 else v
  let uses := fun (x : ClkSrc) => decide (s.clk.root = x ∨ s.clk.selected = x)
  let badX := decide (bit v 2 = 0) && uses .xtal
  let badR := decide (bit v 3 = 0) && uses .ref
  let v := if badX then setFld v 2 1 1 else v
  let v := if badR then setFld v 3 1 1 else v
  let s := s.setReg 0x20000 v
  let s := if bit v 2 = 0 then s.updClk (fun c => c.lose .xtal) else s
  let s := if bit v 3 = 0 then s.updClk (fun c => c.lose .ref) else s
  if badX || badR then s.accState 0x20000 else s

/-! ### Sage (R464, R465) -/

/-- Sage may run a test of Table 16-10. -/
def State.sageMay (s : State) : Bool :=
  decide (s.cfg.lc = 1 ∨ s.cfg.lc = 4) && decide (s.dev.mode = .idle) && s.tenants.all (fun e => e.2.img.isNone && e.2.load.isNone) &&
    decide (s.sage.state ≠ 1)
/-- A test starts, or the write records ACCESS_STATE. -/
def State.sageStart (s : State) (test arg : Nat) (may : Bool) : Out :=
  if s.dev.mode.configured = false then .next s
  else if s.sageMay && may then .next { s with sage := { s.sage with state := 1, test := test, arg := arg, fails := 0 } }
  else .next (s.accState 0x60100)
/-- SAGE_TILE_LBIST (Table 16-10). -/
def execSageTileLbist (n : PTileId) (s : State) : Out := s.sageStart 1 n true
/-- SAGE_TILE_MBIST. -/
def execSageTileMbist (n : PTileId) (s : State) : Out := s.sageStart 2 n true
/-- SAGE_DS_MARCH. -/
def execSageDsMarch (k : Stack4) (s : State) : Out := s.sageStart 3 k true
/-- SAGE_FUSE_COLUMN. -/
def execSageFuseColumn (n : PTileId) (s : State) : Out := s.sageStart 4 n true
/-- SAGE_DS_HPPR. -/
def execSageDsHppr (k : Stack4) (s : State) : Out := s.sageStart 5 k true
/-- SAGE_KEY_FUSE: in MANUFACTURE only, and not for a fused slot. -/
def execSageKeyFuse (k : Fin 4) (s : State) : Out :=
  s.sageStart 6 k (decide (s.cfg.lc = 1) && s.sage.keys.all (fun e => decide (e.1 ≠ k.val)))
/-- SAGE_KEY_REVOKE. -/
def execSageKeyRevoke (k : Fin 4) (s : State) : Out := s.sageStart 7 k true

/-- The digest in SAGE_DATA, byte 4k to 4k + 3 in word k. -/
def State.sageDigest (s : State) : Nat := sumNat ((List.range 12).map (fun k => 2 ^ (32 * k) * s.reg (0x60200 + 4 * k)))
/-- A tile test leaves nothing in the tile. -/
def State.tileWiped (s : State) (n : Nat) : State :=
  match s.ltileOfPhys n with
  | some l => { s.setTile l {} with sched := { s.sched with ltiles := Map.del s.sched.ltiles l } }
  | none => s
/-- A march leaves a stack's contents undefined (log entry 38). -/
def State.stackWiped (s : State) (k : Nat) : State :=
  let mine := s.ds.filter (fun c => decide (dsStack c.1 = k))
  let f := scramble s.freeCtr mine
  { s with ds := f.foldl (fun (m : Mem) c => Mem.write m c.1 c.2) (s.ds.filter (fun c => decide (dsStack c.1 ≠ k)))
           freeCtr := s.freeCtr + mine.length }
/-- What a test that has passed leaves (Table 16-10). -/
def State.sageEffect (s : State) (test arg : Nat) : State :=
  if test = 4 then
    let mine := s.sage.soft.filter (fun c => decide (c.1 = arg))
    { s with sage := { s.sage with fused := s.sage.fused ++ mine, soft := s.sage.soft.filter (fun c => decide (c.1 ≠ arg)) } }
  else if test = 5 then
    let mine := s.cfg.flash.repairs.filter (fun e => decide (e.1 % 4 = arg))
    let s := s.updFlash (fun f => { f with repairs := f.repairs.filter (fun e => decide (e.1 % 4 ≠ arg)) })
    { s with sage := { s.sage with hard := s.sage.hard ++ mine.map (fun e => e.1) } }
  else if test = 6 then { s with sage := { s.sage with keys := Map.set s.sage.keys arg s.sageDigest } }
  else if test = 7 then { s with sage := { s.sage with revoked := addCause arg s.sage.revoked } }
  else s
/-- SAGE_TEST_DONE (R464): the test has ended with `fails` failing locations, and for TILE_LBIST with signature `sig`. -/
def execSageTestDone (fails : BitVec 16) (sig : DWord) (s : State) : Out :=
  if s.sage.state ≠ 1 then .next s
  else
    let t := s.sage.test
    let a := s.sage.arg
    let st := if fails = 0 then 2 else 3
    let s := { s with sage := { s.sage with
      state := st, fails := fails.toNat, sig := if t = 1 then Map.set s.sage.sig a sig else s.sage.sig } }
    let s := if t = 1 ∨ t = 2 then s.tileWiped a else if t = 3 then s.stackWiped a else s
    let s := if fails = 0 then s.sageEffect t a else s
    .next (s.report 0x0353 clsEvent 0 none (t + 2 ^ 8 * st + 2 ^ 16 * fails.toNat))

/-- The transitions of Table 16-11. -/
def State.lcMay (s : State) (nx : Nat) : Bool :=
  let lc := s.cfg.lc
  (decide (lc = 0 ∧ nx = 1)) || (decide (lc = 1 ∧ nx = 2)) ||
  (decide (lc = 1 ∧ nx = 3) && s.sage.keys.any (fun e => !s.sage.revoked.contains e.1)) ||
  (decide (lc = 2 ∧ nx = 4)) || (decide (lc = 3 ∧ nx = 4) && s.cfg.auth) || (decide (lc ≠ 5 ∧ nx = 5))
/-- SAGE_LC_WRITE (R465): an accepted transition is recorded, and takes effect at the next entry to RESET. -/
def execSageLcWrite (nx : BitVec 3) (key : Byte) (s : State) : Out :=
  if s.dev.mode.configured = false then .next s
  else if key ≠ 0xA5 then .next (s.accKey 0x60110)
  else if s.lcMay nx.toNat then
    let old := s.cfg.lc
    let s := (s.recordState nx.toNat).updFlash (fun f => { f with leftBlank := true })
    .next (({ s with cfg := { s.cfg with lcNext := some nx.toNat } }).report 0x0354 clsEvent 0 none (old + 2 ^ 4 * nx.toNat))
  else .next (s.accState 0x60110)

end Sys2Proof.Machine
end

