-- ==== Sys2Proof/Machine/AnaCmd.lean ====
section
/-!
DEFINITION. The analogue monitor (chapter 17): the sequence table, ranges, the open-wire test, limits, the checks that the edge
banks, Basil and the trim loop make of a result, and the calibration through the spare slice.
-/
namespace Sys2Proof.Machine

def State.updAna (s : State) (f : Ana → Ana) : State := { s with ana := f s.ana }
def State.anaEnt (s : State) (e : Nat) : AnaEnt := Map.get s.ana.ents {} e
def State.setEnt (s : State) (e : Nat) (v : AnaEnt) : State := s.updAna (fun a => { a with ents := Map.set a.ents e v })
def anaSeq (e : Nat) : Nat := 0x30100 + 4 * e

/-! ### The sequence table (R469, R470) -/

/-- A bank owns the entry (R470). -/
def State.anaOwned (s : State) (e : Nat) : Bool :=
  if e < 12 then (s.bankOwner e).isSome
  else decide (e < 24) && (List.range 12).any (fun g =>
    (s.bankOwner g).isSome && decide (s.rfld (bankReg g) 17 1 = 1 ∧ s.rfld (bankReg g) 13 4 = e - 12))
/-- The entry is enabled. -/
def State.anaEn (s : State) (e : Nat) : Bool := decide (24 ≤ e) || s.anaOwned e || decide (s.rfld (anaSeq e) 6 1 = 1)
/-- The entry's range: 0 LOW, 1 HIGH, 2 AUTO (Table 17-2). -/
def State.anaMode (s : State) (e : Nat) : Nat :=
  if s.anaOwned e then 1
  else if e < 24 then s.rfld (anaSeq e) 7 2
  else if e = 24 ∨ e = 26 ∨ e = 27 then 1 else 0
/-- The entry has open-wire tests. -/
def State.anaOw (s : State) (e : Nat) : Bool := decide (e < 24) && (s.anaOwned e || decide (s.rfld (anaSeq e) 9 1 = 1))
/-- The input of an entry. -/
def anaInput (e : Nat) : Nat := if e = 31 then 39 else e
/-- The entry takes a slot: the VBAT entry only while VBAT_USED is 1 and a second has passed, which `due` says. -/
def State.anaTakes (s : State) (due : Bool) (e : Nat) : Bool :=
  if e = 26 then decide (s.rfld 0x10004 17 1 = 1) && due else s.anaEn e
/-- The entry of the next slot, and whether a new pass starts with it. -/
def State.anaNext (s : State) (due : Bool) : Nat × Bool :=
  match (List.range 32).find? (fun e => decide (s.ana.pos ≤ e) && s.anaTakes due e) with
  | some e => (e, false)
  | none => (((List.range 32).find? (s.anaTakes due)).getD 24, true)

/-! ### Values (R468, R473) -/

/-- The divider or sense factor of an input (Table 17-2). -/
def anaFactor (i : Nat) : Nat := if i = 24 then 10 else if i = 25 then 20 else 1
/-- Full scale of a range in mV. -/
def anaFs (high : Bool) : Nat := if high then 6000 else 1200
/-- VALUE of a calibrated code (R468), rounded to the nearest. -/
def anaValue (i : Nat) (high : Bool) (c : Nat) : Nat := (anaFactor i * anaFs high * c + 8192) / 16384

/-! ### What a result does -/

/-- A reading of a bank's VIO or power-good input (R414): `vio` is the VIO in mV where it is that input's. -/
def State.vioReading (s : State) (g : Nat) (good : Bool) (vio : Option Nat) : State :=
  let b := s.bank g
  if b.vioOk then (if good then s else s.vioDoubt g)
  else if good = false then s.updBank g (fun b => { b with vioSince := none })
  else
    match vio, b.vioSince with
    | some _, none => s.updBank g (fun b => { b with vioSince := some s.ana.tick })
    | some mv, some t => if 6000 * s.rfld 0x200000 8 8 ≤ s.ana.tick - t then s.vioQualified g mv else s
    | none, _ => s
/-- VIO_NOM in mV (Table 14-10). -/
def State.vioNom (s : State) (g : Nat) : Nat := [1200, 1500, 1800, 2500, 3300].getD (s.rfld (bankReg g) 10 3) 1200
/-- The check of R414 on a result of an external input. -/
def State.vioCheck (s : State) (i mv : Nat) (ovr : Bool) : State :=
  if i < 12 then
    if (s.bankOwner i).isSome then
      let n := s.vioNom i
      let tol := n * s.rfld 0x200000 16 4
      s.vioReading i (!ovr && !(s.anaEnt i).isOpen && decide (100 * mv ≤ 100 * n + tol ∧ 100 * n ≤ 100 * mv + tol)) (some mv)
    else s
  else if i < 24 then
    ((List.range 12).filter (fun g =>
      (s.bankOwner g).isSome && decide (s.rfld (bankReg g) 17 1 = 1 ∧ s.rfld (bankReg g) 13 4 = i - 12))).foldl
      (fun (s : State) g => s.vioReading g (decide (s.vioNom g ≤ 2 * mv)) none) s
  else s
/-- VBAT_LOW and VBAT_ABSENT, each recorded once per fall (R267). -/
def State.vbatCheck (s : State) (mv : Nat) : State :=
  let low := decide (mv < 2700)
  let gone := decide (mv < 500)
  let was := s.pwr
  let s := s.updPwr (fun p => { p with vbat := mv, vbatLow := low, vbatAbsent := gone })
  let s := if low && !was.vbatLow then s.report 0x0309 clsDegraded 0 none mv else s
  if gone && !was.vbatAbsent then s.report 0x030A clsDegraded 0 none mv else s
/-- The low ten bits of a temperature (Table 9-7). -/
def temp10 (t : Int) : Nat := (t % 1024).toNat
/-- THERMAL_WARN, shutdown, and the trim loop's watch on the hub-die temperature (R269, R455). -/
def State.tempCheck (s : State) (i : Nat) (t : Int) : State :=
  let n := if tLim + 40 ≤ t then Map.get s.ana.hot 0 i + 1 else 0
  let s := s.updAna (fun a => { a with hot := Map.set a.hot i n })
  let h := s.hottest
  let warn := decide (tLim - 40 < h.1)
  let was := s.pwr.thermalWarn
  let s := s.updPwr (fun p => { p with thermalWarn := warn })
  let s := if warn && !was then s.report 0x0304 clsEvent 0 none (temp10 h.1 + 2 ^ 10 * h.2) else s
  let s := if i = 39 ∧ s.clk.trimValid = true ∧ (t < s.clk.tempAt - 40 ∨ s.clk.tempAt + 40 < t) then s.trimLost 2 else s
  if 2 ≤ n then s.enterSafe .thermal else s
/-- The limits of an entry (R478): a crossing is recorded once, until the value is back inside by 1 %. -/
def State.anaLimit (s : State) (e i : Nat) (v : Int) (high : Bool) : State :=
  let w := s.reg (0x30200 + 4 * e)
  let sgn := fun (x : Nat) => if e = 31 ∧ 32768 ≤ x then (x : Int) - 65536 else (x : Int)
  let lo := sgn (fld w 0 16)
  let hi := sgn (fld w 16 16)
  let band : Int := if e = 31 then Config.tempBand else anaFactor i * anaFs high / 100
  let x := s.anaEnt e
  if v < lo ∨ hi < v then
    let s := s.updAna (fun a => { a with alarm := a.alarm ||| 2 ^ i })
    if x.beyond then s
    else (s.setEnt e { x with beyond := true }).report 0x0360 clsEvent i none
      (i + 2 ^ 8 * b2n (decide (hi < v)) + 2 ^ 16 * (v % 65536).toNat)
  else if lo + band ≤ v ∧ v ≤ hi - band then s.setEnt e { x with beyond := false } else s
/-- The checks that a published result of input `i` meets. -/
def State.anaChecks (s : State) (i : Nat) (v : Int) (high ovr : Bool) : State :=
  let n := v.toNat
  let s := if i = 24 then s.updPwr (fun p => { p with vinSum := p.vinSum + n, vinN := p.vinN + 1 })
    else if i = 25 then s.updPwr (fun p => { p with iinSum := p.iinSum + n, iinN := p.iinN + 1 })
    else if i = 26 then s.vbatCheck n
    else if 31 ≤ i then s.tempCheck i v
    else s.vioCheck i n ovr
  if i < 31 then s.anaLimit i i v high else if i = 39 then s.anaLimit 31 i v high else s
/-- A result is published (Table 17-4). -/
def State.anaPublish (s : State) (i : Nat) (v : Int) (high ovr changed urgent : Bool) (raw slice : Nat) : State :=
  let old := Map.get s.ana.res {} i
  let r : AnaRes := { value := v, valid := true, high := high, ovr := ovr, changed := changed, isOpen := (s.anaEnt i).isOpen && decide (i < 24)
                      urgent := urgent, count := (old.count + 1) % 256, code := raw, slice := slice }
  (s.updAna (fun a => { a with res := Map.set a.res i r })).anaChecks i v high ovr

/-! ### Slots -/

/-- Healthy slices. -/
def Ana.healthy (a : Ana) : Nat := a.rota.length + (if a.spare.isSome then 1 else 0)
/-- Time of a slot, in sixths of a microsecond (R472, R477). -/
def Ana.slotTime (a : Ana) : Nat := if 4 ≤ a.healthy then 3 else 4
/-- A slot passes. -/
def State.anaSlot (s : State) : State := s.updAna (fun a => { a with tick := a.tick + a.slotTime, slots := a.slots + 1 })
/-- Above T_lim − 10 °C the temperatures are asked for every 100 µs (R269). -/
def State.askAgain (s : State) : State := if s.pwr.thermalWarn && decide (600 ≤ s.ana.tick - s.ana.asked) then s.askTemps else s
/-- A pass ends and the next begins with the slot just counted: entries count it, and those that are not enabled lose their place. -/
def State.anaPass (s : State) : State :=
  s.updAna (fun a => { a with
    pass := (a.slots - 1) * a.slotTime * 10 / 6, slots := 1
    ents := a.ents.map (fun e => (e.1, { e.2 with passes := e.2.passes + 1, enabled := e.2.enabled && s.anaEn e.1 })) })
/-- The open-wire test has read the pull-up and now the pull-down (R475). -/
def State.openTest (s : State) (e u d : Nat) : State :=
  let x := s.anaEnt e
  let o := decide (1140 ≤ u ∧ d ≤ 60)
  let s := s.setEnt e { x with up := none, passes := 0, isOpen := o }
  if o = x.isOpen then s else s.report (if o then 0x0361 else 0x0362) clsEvent (anaInput e) none (anaInput e)
/-- A conversion of entry `e` (R473 to R475): a conversion of the open-wire test, or a result. -/
def State.anaEntry (s : State) (e raw cal slice : Nat) (temp : Int) : State :=
  let i := anaInput e
  let x := s.anaEnt e
  let x := if x.enabled then x else { x with enabled := true, high := true, reconv := false, passes := 0, up := none }
  let x := if s.anaOw e then x else { x with up := none }
  let low := anaValue i false cal
  match x.up with
  | some u => (s.setEnt e x).openTest e u low
  | none =>
    if s.anaOw e && decide (2 ^ s.rfld 0x30000 8 4 ≤ x.passes) && !x.reconv then s.setEnt e { x with up := some low }
    else
      let m := s.anaMode e
      let high := if m = 2 then x.high else decide (m = 1)
      let ovr := decide (raw = 16383)
      let next := if high then decide (2730 < raw) else decide (15565 ≤ raw)
      let changed := x.last.any (fun l => decide (l ≠ high))
      let v : Int := if e = 31 then temp else if ovr then anaFactor i * anaFs high else anaValue i high cal
      let y := { x with high := if m = 2 then next else high, last := some high, reconv := decide (m = 2) && ovr && !high }
      (s.setEnt e y).anaPublish i v high (ovr && decide (e ≠ 31)) changed false raw slice

/-- Results are published: from SELFTEST onward, and there once all five slices have calibrated (R477). -/
def State.anaReady (s : State) : Bool :=
  s.dev.mode.afterReset && (decide (s.dev.mode ≠ .selftest) || decide (5 ≤ s.ana.cal.length))
/-- ANA_CONVERSION (R469 to R475): the next slot's conversion has completed, urgent requests first. `raw` is its code, `cal` the
code corrected with the slice's calibration, `temp` the temperature that a sensor's voltage stands for in 0.25 °C, and `due` says
that the VBAT entry's second has passed. -/
def execAnaConversion (raw cal : BitVec 14) (slice : Fin 5) (temp : BitVec 16) (due : Bool) (s : State) : Out :=
  if s.anaReady = false then .next s
  else
    let s := s.anaSlot.askAgain
    match sortBy (fun a b => decide (a < b)) s.ana.urgent with
    | i :: _ =>
      let s := s.updAna (fun a => { a with urgent := a.urgent.filter (fun x => decide (x ≠ i)) })
      .next (s.anaPublish i temp.toInt false false false true raw.toNat slice)
    | [] =>
      let n := s.anaNext due
      let s := if n.2 then s.anaPass else s
      let s := s.updAna (fun a => { a with pos := n.1 + 1 })
      .next (s.anaEntry n.1 raw.toNat cal.toNat slice temp.toInt)

/-! ### Calibration (R476, R477) -/

/-- A slice fails: it leaves the rotation, a spare takes its place, and with two left or fewer the monitor has failed. -/
def State.sliceFails (s : State) (k : Nat) : State :=
  let a := s.ana
  let rota := a.rota.filter (fun x => decide (x ≠ k))
  let sp := a.spare.bind (fun x => if x = k then none else some x)
  let a := if rota.length < a.rota.length then { a with rota := rota ++ sp.toList, spare := none } else { a with spare := sp }
  let h := a.healthy
  let s := ({ s with ana := a }).report 0x0363 clsDegraded k none (k + 2 ^ 4 * h)
  if h ≤ 2 ∧ s.ana.failed = false then
    let s := (s.updAna (fun a => { a with failed := true })).report 0x0364 clsDegraded 0 none 0
    ((List.range 12).filter (fun g => (s.bankOwner g).isSome)).foldl (fun (s : State) g => s.vioDoubt g) s
  else s
/-- A calibration fails (R477): offsets in codes, gains in ppm, for LOW and HIGH. -/
def calFails (old : Option (Int × Int)) (ol oh gl gh : Int) : Bool :=
  decide (64 < ol.natAbs ∨ 64 < oh.natAbs ∨ 10000 < gl.natAbs ∨ 10000 < gh.natAbs) ||
  old.any (fun o => decide (8 < (ol - o.1).natAbs ∨ 8 < (oh - o.2).natAbs))
/-- ANA_CAL_ROTATE (R476, R477): slice `k` has calibrated. In SELFTEST any slice does; later only the spare, which then takes
the place of the slice with the oldest calibration. -/
def execAnaCalRotate (k : Fin 5) (offLow offHigh gainLow gainHigh : BitVec 16) (s : State) : Out :=
  let old := (s.ana.cal.find? (fun e => decide (e.1 = k.val))).map (fun e => e.2)
  let bad := calFails old offLow.toInt offHigh.toInt gainLow.toInt gainHigh.toInt
  let keep := s.updAna (fun a => { a with cal := Map.set a.cal k (offLow.toInt, offHigh.toInt) })
  if s.dev.mode.afterReset = false then .next s
  else if s.dev.mode = .selftest then
    if s.ana.rota.contains k.val || decide (s.ana.spare = some k.val) then .next (if bad then keep.sliceFails k else keep) else .next s
  else if s.ana.spare ≠ some k.val then .next s
  else if bad then .next (keep.sliceFails k)
  else
    match s.ana.rota with
    | o :: r => .next (keep.updAna (fun a => { a with rota := r ++ [k.val], spare := some o }))
    | [] => .next keep

/-! ### Registers -/

/-- ANA_SEQ is written (R470): EN, RMODE and OW of an owned entry stay, and a device entry's are fixed. -/
def State.writeAnaSeq (s : State) (e v : Nat) : State :=
  if 24 ≤ e then s
  else if s.anaOwned e then s.accState (anaSeq e)
  else
    let w := v &&& 0x3C0
    let w := if fld w 7 2 = 3 then setFld w 7 2 2 else w
    s.setReg (anaSeq e) w
/-- ANA_SEQ_WRITE (R470). -/
def execAnaSeqWrite (e : Fin 32) (v : Word) (s : State) : Out :=
  if s.dev.mode.configured then .next (s.writeAnaSeq e v.toNat) else .next s
/-- ANA_CTL as stored (Table 17-4). -/
def anaCtlStored (v : Nat) : Nat := max 1 (fld v 0 8) + 2 ^ 8 * max 4 (fld v 8 4)

end Sys2Proof.Machine
end

