-- ==== Sys2Proof/Machine/FaultCmd.lean ====
section
/-!
DEFINITION. The commands of the fault manager and the error log (chapter 07).
-/
namespace Sys2Proof.Machine

/-! ### Watchdog (R218) -/

/-- The tile waits for something of its own module: a local arrival, a local result, or send-queue room for a local slot. -/
def State.waitsLocal (s : State) (l : Nat) : Bool :=
  let t := s.tile l
  let here := fun (w : Nat) => (s.ten (s.ltile l).ten).img.any (fun i => (i.sourceOf (s.ltile l).itile w).isSome)
  match t.atGate with
  | some a =>
    (List.range 16).any (fun w => (t.awaitedWords a).testBit w && here w) ||
    (t.awaitedRes a).any (fun r => decide (r.2 ≠ .deep))
  | none => decide (t.stage = .evaluated) && !t.sendRoom && t.sendQ.any (fun p => !p.remote)

/-- The step whose wait a tile's watchdog times: the one at its gate, else the one in hand. -/
def Tile.waitStep (t : Tile) : Nat := t.atGate.getD t.stepNo
/-- One tile's WATCHDOG entry, and its place in the repeat window. -/
def State.watchdogOne (s : State) (t l : Nat) : Bool × State :=
  (s.report 0x0102 clsMasked (s.ptile l) (some t) (s.tile l).waitStep).transientFault t 2 (s.ptile l)

/-- WATCHDOG_EXPIRE (R218): the wait of tile `l` reaches WDOG, with those of `more` before the tenant has stopped. The
tenant recovers once, for the entry of `l`. -/
def execWatchdogExpire (l : TileId) (more : List TileId) (s : State) : Out :=
  let t := (s.ltile l).ten
  let ls := (l.val :: (more.map (fun m => m.val)).filter (fun m => decide (m ≠ l.val ∧ (s.ltile m).ten = t))).filter
    (fun m => (s.ltile m).bound && s.waitsLocal m && (s.tile m).halt.isNone)
  if ls.head? = some l.val ∧ s.dev.mode ≠ .safe then
    let seq := (s.report 0x0102 clsMasked (s.ptile l) (some t) (s.tile l).waitStep).lastSeq
    let r := ls.foldl (fun (p : List Nat × State) m =>
      let q := p.2.watchdogOne t m
      (if q.1 then m :: p.1 else p.1, q.2)) ([], s)
    match r.1 with
    | [] => .next (r.2.startRecovery t .masked none seq)
    | b => .next (b.foldl (fun s m => s.startRecovery t .masked (some m) seq) r.2)
  else .next s

/-! ### Recovery (R216 to R227) -/

/-- The recovery of a tenant is the refit in progress: no other comes before it (R38 item 5). -/
def State.refitFirst (s : State) (t : Nat) : Bool := decide (s.dev.refits.head? = none ∨ s.dev.refits.head? = some t)
/-- Every tile of the tenant that holds an image stands at its step handshake with every command it issued complete (R152). -/
def State.allSettled (s : State) (t : Nat) : Bool := (s.boundTiles t).all (fun l => !(s.tile l).hasImg || (s.tile l).settled)
/-- RECOVERY_PLACEMENT (R216, R217, R221): events 2 and 3 of Table 7-6, once the recovery is first among the refits, its tiles have
completed what they had issued (R152), a fault capture has left them (R112) and the drain markers of the epoch before are back. Every faulty tile that waits is placed, in ascending
order. A rebalance of the tenant that waits is carried out with the placement (R38 item 4). -/
def execRecoveryPlacement (ten : TenId) (s : State) : Out :=
  let tn := s.ten ten
  match tn.recov with
  | some r =>
    if r.phase = .stopped ∧ tn.drained = true ∧ s.refitFirst ten = true ∧ s.faultCapture ten = false ∧ s.allSettled ten = true ∧
        s.dev.mode ≠ .safe then
      let s := match s.rebalOf ten with
        | some b => (s.moveTiles ten b.pairs).endRebal ten stOk
        | none => s
      let s := s.placeFaulty
      let s := s.wantPower (s.boundTiles ten)
      let s := if r.kind = .swapIn then s else { s with fm := { s.fm with recoveries := satInc s.fm.recoveries 0xFFFF } }
      if s.allPlaced ten then .next (s.placed ten) else .next ((s.discardMessages ten).noSpare ten)
    else .next s
  | none => .next s

/-- Deep commands of the tenant that have been issued and not yet performed (R152). -/
def State.deepBusy (s : State) (t : Nat) : Bool :=
  s.noc.deepReq.any (fun c => decide (c.ten = t)) || s.noc.deepQ.any (fun c => decide (c.ten = t))

/-- RESTORE_COMPLETE (R214, R219, R223, R249, R263): with the restore's tokens granted and its tiles powered, the journal is applied and the tiles are loaded, or the state is lost. -/
def execRestoreComplete (ten : TenId) (newBad oldBad : Bool) (s : State) : Out :=
  let tn := s.ten ten
  match tn.recov with
  | some r =>
    if r.phase = .placed ∧ s.tokWaits 0 r.tok = false ∧ s.deepBusy ten = false ∧ s.darkDomains (s.boundTiles ten) = [] ∧
        s.dev.mode ≠ .safe then
      let lost := fun (n : Nat) => s.rangePoisoned (s.ckptBase ten n) (stateSlot tn.ntiles)
      match tn.readable r.k (newBad || (tn.newest.isSome && lost tn.ckptSlot)) (oldBad || (tn.newest.isSome && tn.older.isSome && lost (1 - tn.ckptSlot))) with
      | some v =>
        let s := if v.k = r.k then s else s.updTen ten (fun x => { x with newest := x.older, older := none })
        .next (s.restored ten r v)
      | none => .next (s.lost ten r)
    else .next s
  | none => .next s

/-- A wait of R70: for a remote arrival, or at the start for a neighbour's BND. -/
def State.waitsRemote (s : State) (t : Nat) : Bool :=
  let i := (s.ten t).img
  (s.boundTiles t).any (fun l =>
    let x := s.tile l
    x.waitStart || match x.atGate with
      | some a => (List.range 16).any (fun w => (x.awaitedWords a).testBit w &&
          i.any (fun i => (i.sourceOf (s.ltile l).itile w).isNone))
      | none => decide (x.stage = .evaluated) && !x.sendRoom && x.sendQ.any (fun p => p.remote))

/-- A link of the tenant that is down has a detour, or one that it could take (R227). -/
def State.detourOpen (s : State) (t : Nat) : Bool :=
  (s.ten t).img.any (fun i => (i.links.filter (fun e => decide (e.frm = i.me))).any (fun e =>
    decide ((s.link e.link).st = .down) && ((s.link e.link).detour.isSome || (s.findDetour e.link).isSome)))
/-- The partition count has run for PART_MS since the last pace notice (R227). -/
def State.partDue (s : State) (t ms : Nat) : Bool :=
  let n := s.rfld 0x70010 8 8
  decide (n ≤ ms) && (s.ten t).partWait.all (fun p => decide (p + 1000000 * n ≤ s.thy.total))
/-- PARTITION_TIMEOUT (R70, R227): a remote wait has lasted `ms` milliseconds with no detour available. -/
def execPartitionTimeout (ten : TenId) (ms : Nat) (s : State) : Out :=
  let tn := s.ten ten
  if tn.spans ∧ s.partDue ten ms = true ∧ s.detourOpen ten = false ∧ s.waitsRemote ten = true ∧ !(tn.holds.contains 2) = true ∧
      s.dev.mode ≠ .safe then
    let c := tn.lastEcyc
    let s := s.haltTenant ten .recovery
    let s := s.report 0x0120 clsTenant 0 (some ten) c
    let q := s.lastSeq
    let s := (s.faultEvent ten 4 q c).updTen ten (fun v => { v with partSeq := q, partWait := none })
    let s := (s.recoveryCpl ten rkPartition q (2 ^ 64 - 1) c).holdNow ten [2]
    let k := s.partxToken ten
    let s := s.tokSpan ten k
    .next ((s.takePartx ten s.moduleId k.a k.b k.c).remode)
  else .next s

/-! ### Late errors (R228) -/

/-- LATE_ERROR_PACKET (R228): the failure of an accepted write comes back to its origin module. -/
def execLateErrorPacket (ten : TenId) (ring status : Byte) (tag : BitVec 16) (dseq addr : DWord) (mod : ModId) (memid : Byte)
    (tile : BitVec 16) (s : State) : Out :=
  .next (s.lateError ten addr.toNat (leBytes ring.toNat 1 ++ leBytes status.toNat 1 ++ leBytes tag.toNat 2 ++
    leBytes dseq.toNat 8 ++ leBytes addr.toNat 8 ++ leBytes mod.val 1 ++ leBytes memid.toNat 1 ++ leBytes tile.toNat 2 ++ zeros 4))

/-! ### The error log (R229, R230) -/

/-- ERROR_LOG_INTAKE (R229): the oldest waiting report takes an entry; one of class TENANT, DEGRADED or DEVICE signals
vector 9 of the physical function (R362). -/
def execErrorLogIntake (s : State) : Out :=
  let f := s.fm.intakeOne
  let n := { s with fm := f }
  if f.widx = s.fm.widx then .next n
  else
    match s.fm.intake.head? with
    | some r => if clsTenant ≤ r.cls then .next (n.msix 0 9) else .next n
    | none => .next n

/-- ERR_LOG_RIDX is written (R229): a value below RIDX or above WIDX is refused. -/
def State.writeLogRidx (s : State) (v : Word) : State :=
  if (v - s.fm.ridx).toNat ≤ (s.fm.widx - s.fm.ridx).toNat then { s with fm := { s.fm with ridx := v } }
  else s.accValue 0x70004
/-- ERR_LOG_RIDX_WRITE (R229). -/
def execErrLogRidxWrite (v : Word) (s : State) : Out := if s.dev.mode.configured then .next (s.writeLogRidx v) else .next s

/-- ERR_CKPT_CFG as stored (Table 7-2). -/
def ckptCfgStored (v : Nat) : Nat :=
  max 10 (min 20 (fld v 0 5)) + 2 ^ 8 * max 20 (fld v 8 5) + 2 ^ 16 * max 20 (fld v 16 5) + 2 ^ 21 * fld v 21 3
/-- ERR_CKPT_CFG is written (R209, Table 7-2): the sizes and the interval keep their values while an image is loaded. -/
def State.writeCkptCfg (s : State) (t v : Nat) : State :=
  let off := 0x71000 + 4 * t
  let n := ckptCfgStored v
  let old := fld (s.reg off) 0 24
  if fld n 0 21 ≠ fld old 0 21 ∧ (s.ten t).img.isSome then
    (s.setReg off (setFld (s.reg off) 21 3 (fld n 21 3))).accState off
  else s.setReg off n
/-- ERR_CKPT_CFG_WRITE (R209). -/
def execErrCkptCfgWrite (t : TenId) (v : Word) (s : State) : Out :=
  if s.dev.mode.configured then .next (s.writeCkptCfg t v.toNat) else .next s

/-! ### Checkpoints (R211, R212) -/

/-- BND for the ecycles that a checkpoint's landing has held back, up to the next checkpoint that has not landed (R212). -/
def State.sendHeldBnd (s : State) (t : Nat) : State :=
  let tn := s.ten t
  if tn.spans then
    let m := s.bndLimit t
    let ks := (List.range (m - tn.bndSent)).map (fun i => tn.bndSent + i)
    (ks.foldl (fun s k => s.sendBnd t k) s).updTen t (fun v => { v with bndSent := max v.bndSent m })
  else s

/-- CHECKPOINT_LANDED (R211, R212, R215): `bad` names a line of the slot that is poisoned in the hub store; the checkpoint is then written
with it, does not count as landed (Table 11-8) and is not kept (log entry 27). Otherwise the last byte of the oldest checkpoint on its way is in the deep store. It is now the
newest; on one module the older one goes with its log and journal. -/
def execCheckpointLanded (ten : TenId) (bad : Option Word) (s : State) : Out :=
  let tn := s.ten ten
  match tn.ckptMoved with
  | [] => .next s
  | (c, tok) :: rest =>
    if s.tokWaits 1 tok then .next s else
    let before := match tn.newest with | some a => some a | none => tn.img.map Image.initial
    let slot := if tn.newest.isSome then 1 - tn.ckptSlot else 0
    let s := s.writeSlot ten (s.ckptBase ten slot) c
    match bad with
    | some n =>
      let s := s.updTen ten (fun v => { v with ckptMoved := rest, older := if tn.newest.isSome then none else v.older })
      .next ((s.poisonLine (s.ckptBase ten slot) (stateSlot tn.ntiles) n.toNat).sendHeldBnd ten)
    | none =>
    let s := s.updTen ten (fun v => { v with
      ckptSlot := slot, ckptMoved := rest, newest := some c, older := if tn.spans then before else none
      log := if tn.spans then v.log else v.log.filter (fun r => decide (c.k ≤ r.ecyc))
      journal := if tn.spans then v.journal else v.journal.filter (fun j => decide (c.k ≤ j.k)) })
    .next (s.sendHeldBnd ten)

end Sys2Proof.Machine
end

