-- ==== Sys2Proof/Machine/HostCmd.lean ====
section
/-!
DEFINITION. The commands of the host interface: rings, descriptors, transfers, messages and host-side resets (R339 to R364).
-/
namespace Sys2Proof.Machine

/-! ### Rings (R344 to R348) -/

/-- SQ_DOORBELL (R345). -/
def execSqDoorbell (fn : TenId) (r : Ring8) (value : Word) (s : State) : Out :=
  if !s.fnUp fn then .next s
  else
    let q := s.sq fn r
    let n := 2 ^ s.sqLog2 fn r
    if q.en ∧ (value - q.pi).toNat ≤ n ∧ (value - q.cidx).toNat ≤ n then .next (s.setSq fn r { q with pi := value })
    else .next (s.doorbellBad fn r 0 value)

/-- CQ_HEAD_WRITE (R347). -/
def execCqHeadWrite (fn : TenId) (r : Ring8) (value : Word) (s : State) : Out :=
  if !s.fnUp fn then .next s
  else
    let q := s.cq fn r
    if (value - q.head).toNat ≤ (q.tidx - q.head).toNat then .next (s.setCq fn r { q with head := value })
    else .next (s.doorbellBad fn r 1 value)

/-- A write of HIF_SQ_CTL (R348, Table 12-4): enabling zeroes the indices and DSEQ; the other fields change only while
the ring is disabled. -/
def State.writeSqCtl (s : State) (fn r : Nat) (en : Bool) (log2 cq : Nat) : State :=
  let off := 0x108 + 0x20 * r
  let v := setFld (setFld 0 4 5 (clampLog2 log2)) 9 3 cq
  let q := s.sq fn r
  if q.en then
    let s := if v ≠ setFld (s.freg fn off) 0 1 0 then s.accState off else s
    if en then s.setSq fn r { q with pi := 0, cidx := 0, dseq := 0 } else s.disableSq fn r
  else
    let s := s.setFreg fn off (v + b2n en)
    if en then s.setSq fn r { q with en := true, pi := 0, cidx := 0, dseq := 0 } else s

/-- A write of HIF_CQ_CTL (R348, Table 12-5). -/
def State.writeCqCtl (s : State) (fn r : Nat) (en : Bool) (log2 ien vector cnt us : Nat) : State :=
  let off := 0x208 + 0x20 * r
  let v := 2 ^ 4 * clampLog2 log2 + 2 ^ 9 * ien + 2 ^ 10 * vector + 2 ^ 16 * (if cnt = 0 then 1 else cnt) + 2 ^ 24 * us
  let q := s.cq fn r
  if q.en then
    let s := if v ≠ setFld (s.freg fn off) 0 1 0 then s.accState off else s
    if en then s.setCq fn r { q with tidx := 0, head := 0 } else s.disableCq fn r
  else
    let s := s.setFreg fn off (v + b2n en)
    if en then s.setCq fn r { en := true } else s

/-- SQ_ENABLE (R348). -/
def execSqEnable (fn : TenId) (r : Ring8) (log2 : BitVec 5) (cq : Ring8) (s : State) : Out :=
  if s.fnUp fn then .next (s.writeSqCtl fn r true log2.toNat cq) else .next s
/-- SQ_DISABLE (R348). -/
def execSqDisable (fn : TenId) (r : Ring8) (s : State) : Out :=
  if s.fnUp fn && (s.sq fn r).en then .next (s.disableSq fn r) else .next s
/-- CQ_ENABLE (R348). -/
def execCqEnable (fn : TenId) (r : Ring8) (log2 : BitVec 5) (ien : Bool) (vector : Ring8) (coalCnt coalUs : Byte)
    (s : State) : Out :=
  if s.fnUp fn then .next (s.writeCqCtl fn r true log2.toNat (b2n ien) vector coalCnt.toNat coalUs.toNat) else .next s
/-- CQ_DISABLE (R348). -/
def execCqDisable (fn : TenId) (r : Ring8) (s : State) : Out :=
  if s.fnUp fn && (s.cq fn r).en then .next (s.disableCq fn r) else .next s

/-! ### Fetching and starting descriptors (R346, R349, R350) -/

/-- DESCRIPTOR_FETCH (R346): the next announced descriptor of an enabled ring is read; the bytes are those the host holds
at the ring's entry. -/
def execDescriptorFetch (fn : TenId) (r : Ring8) (bytes : List Byte) (s : State) : Out :=
  let q := s.sq fn r
  if !s.fnUp fn || !q.en || decide (q.cidx = q.pi) || s.host.bmeOff.contains fn.val then .next s
  else
    let cqb := leAt bytes 5 1
    let cq : Ring8 := if cqb = 0xFF then Fin.ofNat 8 (fld (s.freg fn (0x108 + 0x20 * r)) 9 3) else Fin.ofNat 8 cqb
    let d : DRef := { fn := fn, sq := r, cq := cq, tag := BitVec.ofNat 16 (leAt bytes 2 2),
                      flags := BitVec.ofNat 8 (leAt bytes 1 1), dseq := q.dseq }
    let e : Desc := { ref := d, opc := leAt bytes 0 1, ten := leAt bytes 4 1, bytes := (bytes ++ zeros 64).take 64 }
    let s := { s with host := { s.host with fetched := s.host.fetched ++ [d] } }
    .next (s.setSq fn r { q with cidx := q.cidx + 1, dseq := q.dseq + 1, wait := q.wait ++ [e] })

/-- The ring a MSG_OUT completes on: that of its port where it is bound (R359). -/
def State.ringOf (s : State) (e : Desc) : Ring8 :=
  if e.opc = 0x22 then
    match s.port e.ref.fn (leAt e.bytes 8 1) with
    | some p => if p.out then Fin.ofNat 8 p.cq else e.ref.cq
    | none => e.ref.cq
  else e.ref.cq

/-- The CQ byte names a ring: 0 to 7, or 0xFF. -/
def cqByteOk (bs : List Byte) : Bool := decide (leAt bs 5 1 < 8 ∨ leAt bs 5 1 = 0xFF)

/-- DESCRIPTOR_START (R346, R349, R350): the oldest fetched descriptor starts once its ring has fewer than 64 in
progress, its completions have entries and its fence is met. One that is malformed or unknown completes at once; one
whose completion ring is disabled is discarded. -/
def execDescriptorStart (fn : TenId) (r : Ring8) (s : State) : Out :=
  let q := s.sq fn r
  match q.wait with
  | [] => .next s
  | e :: rest =>
    let cq := s.ringOf e
    let d : DRef := { e.ref with cq := cq }
    let c := s.cq fn cq
    let need := opcEntries e.opc
    if !s.fnUp fn || decide (64 ≤ q.prog.length) || (d.flags.getLsbD 0 && !q.prog.isEmpty) then .next s
    else if !c.en then .next (((s.setSq fn r { q with wait := rest }).retire d).cplLost fn (opcCplType e.opc))
    else if 2 ^ s.cqLog2 fn cq < (c.tidx - c.head).toNat + c.resv + need then .next s
    else
      let bad := !descClean e.bytes || !cqByteOk e.bytes ||
        (decide (e.opc = 0x12) && decide (leAt e.bytes 8 1 = 0 ∨ 5 < leAt e.bytes 8 1))
      let ends := !knownOpc e.opc || bad
      let s := s.setSq fn r { q with wait := rest, prog := q.prog ++ [d] }
      let s := s.setCq fn cq { c with resv := c.resv + (if ends then 1 else need) }
      if !knownOpc e.opc && descClean (e.bytes.take 8) then .next (s.complete d e.opc stBadOpc 0 0)
      else if bad || !knownOpc e.opc then .next (s.complete d e.opc stBadArg 0 0)
      else .next s

/-- DESC_NOP (R354). -/
def execDescNop (d : DRef) (s : State) : Out := s.takeUp d 0x00 false false (fun s => s.complete d 0x00 stOk 0 0)

/-! ### WRITE_DEEP and READ_DEEP (R351, R364) -/

/-- Starts a transfer, or completes the descriptor with what refuses it. -/
def State.startXfer (s : State) (d : DRef) (opc ten host off len : Nat) : State :=
  if off % 64 ≠ 0 ∨ len % 64 ≠ 0 ∨ len < 64 ∨ 2 ^ 30 < len then s.complete d opc stBadArg 0 0
  else if s.rsize ten < off + len then (s.regionFault ten off).complete d opc stRegion 0 0
  else if opc = 0x01 ∧ s.protectedRange ten off len = true then s.complete d opc stBadArea 0 0
  else
    let r := s.askTokens 4 ten len
    let s := r.2
    let x : Xfer := { ref := d, opc := opc, ten := ten, port := 0, hostAddr := host, off := off, len := len, tok := r.1 }
    { s with host := { s.host with xfers := s.byFetch (fun y => y.ref) x s.host.xfers } }

/-- DESC_WRITE_DEEP (R351). -/
def execDescWriteDeep (d : DRef) (ten : TenId) (hostAddr : DWord) (deepOff : DWord) (len : Word) (s : State) : Out :=
  s.takeUp d 0x01 false true (fun s => s.startXfer d 0x01 (target d ten) hostAddr.toNat deepOff.toNat len.toNat)
/-- DESC_READ_DEEP (R351). -/
def execDescReadDeep (d : DRef) (ten : TenId) (hostAddr : DWord) (deepOff : DWord) (len : Word) (s : State) : Out :=
  s.takeUp d 0x02 false false (fun s => s.startXfer d 0x02 (target d ten) hostAddr.toNat deepOff.toNat len.toNat)

/-- A host access has failed: the descriptor ends with HOST_FAULT (R364). -/
def State.hostFault (s : State) (d : DRef) (opc : Nat) : State :=
  ((s.raiseFnStat d.fn 16).report 0x0500 clsEvent d.fn (some d.fn) (d.fn + 256 * opc + 2 ^ 16 * (d.dseq.toNat % 2 ^ 48)))

/-- The end of a transfer (R351, R364): the bytes moved stay moved. Poisoned data from the host is a host fault; only a READ_DEEP reads
lines of the hub store. -/
def State.endXfer (s : State) (x : Xfer) (bytes : List Byte) (res : XferEnd) : State :=
  let data := (bytes ++ zeros x.len).take x.len
  let moved := match res with | .ok => x.len | .hostFault n => min n x.len | .poisoned => 0
  let phys := s.rbase x.ten + x.off
  let s :=
    if x.opc = 0x01 then s.dsWrite phys (data.take moved)
    else if x.opc = 0x02 then
      { s with host := { s.host with hostMem := s.host.hostMem.writeBytes x.hostAddr ((s.ds.readBytes phys moved)) } }
    else s
  match if x.opc = 0x02 ∨ res = .ok then res else .hostFault moved with
  | .hostFault _ => (s.hostFault x.ref x.opc).complete x.ref x.opc stHostFault 0 0
  | .poisoned => s.complete x.ref x.opc stDataUe 0 0
  | .ok =>
    if x.opc = 0x21 then
      let m : InMsg := { ref := x.ref, ten := x.ten, port := x.port, bytes := data }
      { s with host := { s.host with ins := s.byFetch (fun y => y.ref) m s.host.ins } }
    else s.complete x.ref x.opc stOk 0 0

/-- DMA_TRANSFER_DONE (R364): one of the 16 engines' transfers ends, its tokens granted (R249); `bytes` are those the host holds at HOST_ADDR.
A READ_DEEP of a poisoned line ends with DATA_UE (Table 11-8). -/
def execDmaTransferDone (d : DRef) (bytes : List Byte) (res : XferEnd) (s : State) : Out :=
  match (s.host.xfers.take 16).find? (fun x => decide (x.ref = d)) with
  | none => .next s
  | some x =>
    let a := s.rbase x.ten + x.off
    if s.host.bmeOff.contains d.fn.val || s.tokWaits 4 x.tok then .next s
    else if x.opc = 0x02 ∧ s.rangePoisoned a x.len = true then
      .next (({ s with host := { s.host with xfers := removeFirst (fun y => y = x) s.host.xfers } }.report 0x060A clsTenant
        (a / 4096 % 4) (some x.ten) a).endXfer x bytes .poisoned)
    else .next (({ s with host := { s.host with xfers := removeFirst (fun y => y = x) s.host.xfers } }).endXfer x bytes res)

/-! ### Messages (R357 to R361, R253 to R255) -/

/-- The status of a binding (R357), against the ports in force once every waiting binding has taken effect. -/
def State.bindStatus (s : State) (t port dir memid cq : Nat) : Nat :=
  match (s.ten t).img with
  | none => stNoImage
  | some i =>
    let now := (s.ten t).binds.foldl (fun m b => match b.tgt with | some p => Map.set m b.port p | none => Map.del m b.port)
      (s.ten t).ports
    if 8 ≤ port ∨ (dir ≠ 0 ∧ dir ≠ 1 ∧ dir ≠ 0xFF) then stBadArg
    else if dir = 0xFF then stOk
    else
      match i.mem memid with
      | none => stBadArg
      | some e =>
        if e.ownerMod ≠ i.me ∨ e.k < (if dir = 1 then 1 else 2) ∨ 19 < e.k ∨
            (now.any (fun x => decide (x.1 ≠ port ∧ x.2.memid = memid))) = true ∨
            (dir = 1 ∧ (8 ≤ cq ∨ now.any (fun x => decide (x.1 ≠ port) && x.2.out && decide (x.2.cq = cq)) = true))
        then stBadArg else stOk

/-- A binding takes effect: messages and buffers of a port that changes end with it (log entry 14). -/
def State.bindNow (s : State) (t : Nat) (b : BindJob) : State :=
  let bufs := s.host.bufs.filter (fun x => decide (x.ten = t ∧ x.port = b.port))
  let ins := s.host.ins.filter (fun x => decide (x.ten = t ∧ x.port = b.port))
  let s := { s with host := { s.host with
    bufs := s.host.bufs.filter (fun x => !decide (x.ten = t ∧ x.port = b.port))
    ins := s.host.ins.filter (fun x => !decide (x.ten = t ∧ x.port = b.port)) } }
  let s := bufs.foldl (fun s x => s.completeOut x.ref stAborted x.port 0 0 0 0) s
  let s := ins.foldl (fun s x => s.complete x.ref 0x21 stAborted 0 0) s
  let was := match s.port t b.port with | some p => if p.out then [p.memid] else [] | none => []
  let now := match b.tgt with | some p => [p.memid] | none => []
  let s := s.updTen t (fun v => { v with
    ports := match b.tgt with | some p => Map.set v.ports b.port p | none => Map.del v.ports b.port
    gone := (was ++ v.gone).filter (fun m => !now.contains m) })
  s.complete b.cmd 0x20 stOk 0 0

/-- MSG_BIND (R357). -/
def execMsgBind (d : DRef) (port : Byte) (dir : Byte) (memid : Byte) (cq : Byte) (s : State) : Out :=
  s.takeUp d 0x20 false true (fun s =>
    let t := d.fn.val
    let st := s.bindStatus t port.toNat dir.toNat memid.toNat cq.toNat
    if st ≠ stOk then s.complete d 0x20 st 0 0
    else
      let p : Port := { out := decide (dir.toNat = 1), memid := memid.toNat, cq := cq.toNat }
      let b : BindJob := { cmd := d, port := port.toNat, tgt := if dir.toNat = 0xFF then none else some p }
      if s.runsNone t then s.bindNow t b
      else s.updTen t (fun v => { v with binds := v.binds ++ [b] }))

/-- MSG_IN (R361): the message is read into staging by a DMA engine. -/
def execMsgIn (d : DRef) (port : Byte) (len : BitVec 16) (hostAddr : DWord) (s : State) : Out :=
  s.takeUp d 0x21 false true (fun s =>
    let t := d.fn.val
    if len.toNat = 0 ∨ 4096 < len.toNat ∨ 8 ≤ port.toNat then s.complete d 0x21 stBadArg 0 0
    else
      match s.port t port.toNat, (s.ten t).img with
      | some p, some i =>
        match i.mem p.memid with
        | some e =>
          if p.out then s.complete d 0x21 stNoPort 0 0
          else if 2 ^ (e.k - 1) < 1 + (len.toNat + 7) / 8 then s.complete d 0x21 stMsgFormat 0 0
          else
            let x : Xfer := { ref := d, opc := 0x21, ten := t, port := port.toNat, hostAddr := hostAddr.toNat, off := 0
                              len := len.toNat }
            { s with host := { s.host with xfers := s.byFetch (fun y => y.ref) x s.host.xfers } }
        | none => s.complete d 0x21 stNoPort 0 0
      | _, _ => s.complete d 0x21 stNoPort 0 0)

/-- MSG_OUT (R359): a buffer for an out port. -/
def execMsgOut (d : DRef) (port : Byte) (cap : Word) (hostAddr : DWord) (s : State) : Out :=
  if s.fnUp d.fn then
    if cap.toNat = 0 ∨ 4096 < cap.toNat ∨ 8 ≤ port.toNat then .next (s.complete d 0x22 stBadArg 0 0)
    else
      match s.port d.fn port.toNat with
      | some p =>
        if p.out then
          let b : OutBuf := { ref := d, ten := d.fn, port := port.toNat, cap := cap.toNat, addr := hostAddr.toNat }
          .next { s with host := { s.host with bufs := s.byFetch (fun y => y.ref) b s.host.bufs } }
        else .next (s.completeOut d stNoPort port.toNat 0 0 0 0)
      | none => .next (s.completeOut d stNoPort port.toNat 0 0 0 0)
  else .next s

/-- Keys of messages in order (R253). -/
def keyBefore (a b : Nat × Nat) : Bool := decide (a.1 < b.1 ∨ (a.1 = b.1 ∧ a.2 < b.2))

/-- A message lies above the release mark of its flow (R222, R254). -/
def State.aboveMark (s : State) (m : Msg) : Bool :=
  match (s.ten m.ten).msgMark.find? (fun e => decide (e.1 = m.cq)) with
  | some e => keyBefore e.2 (m.e, m.s)
  | none => true

/-- What processing a message into a buffer gives: the bytes written and the status (R359). -/
def outcomeOf (m : Msg) (cap : Nat) (res : XferEnd) : Nat × Nat :=
  let n := min cap m.bytes.length
  if m.bad then (0, stMsgFormat)
  else
    match res with
    | .ok => (n, if cap < m.bytes.length then stMsgTrunc else stOk)
    | .hostFault k => (min k n, stHostFault)
    | .poisoned => (0, stDataUe)

/-- MSG_OUT_PROCESS (R359): an engine writes the port's oldest unprocessed message into its oldest buffer. -/
def execMsgOutProcess (ten : TenId) (port : Ring8) (res : XferEnd) (s : State) : Out :=
  let p : Msg → Bool := fun m => decide (m.ten = ten.val ∧ m.port = port.val ∧ m.done = none) && s.aboveMark m
  match s.host.msgs.find? p, s.host.bufs.find? (fun b => decide (b.ten = ten.val ∧ b.port = port.val)) with
  | some m, some b =>
    if s.host.bmeOff.contains ten.val then .next s
    else
      let r := outcomeOf m b.cap res
      let s := { s with host := { s.host with
        bufs := removeFirst (fun x => x = b) s.host.bufs
        msgs := replaceFirst p (fun x => { x with done := some (b, r.2, r.1) }) s.host.msgs
        hostMem := s.host.hostMem.writeBytes b.addr (m.bytes.take r.1) } }
      if r.2 = stHostFault then .next (s.hostFault b.ref 0x22) else .next s
  | _, _ => .next s

/-- The unreleased message of lowest key in the flow of a completion ring. -/
def State.flowHead (s : State) (t cq : Nat) : Option Msg :=
  (s.host.msgs.filter (fun m => decide (m.ten = t ∧ m.cq = cq))).foldl (fun a m =>
    match a with
    | none => some m
    | some x => if keyBefore (m.e, m.s) (x.e, x.s) then some m else some x) none

/-- MSG_OUT_RELEASE (R254, R360): the lowest message of a flow is released once it is processed and its ecycle has
completed; at or below the release mark it is discarded. -/
def execMsgOutRelease (ten : TenId) (cq : Ring8) (s : State) : Out :=
  match s.flowHead ten cq with
  | none => .next s
  | some m =>
    if (s.ten ten).done ≤ m.e then .next s
    else
      let s' := { s with host := { s.host with msgs := removeFirst (fun x => x = m) s.host.msgs } }
      if s.aboveMark m then
        match m.done with
        | none => .next s
        | some (b, st, n) =>
          .next ((s'.updTen ten (fun v => { v with msgMark := Map.set v.msgMark cq (m.e, m.s) })).completeOut
            b.ref st m.port m.e m.s m.len n)
      else .next s'

/-! ### Posting (R347, R355, R356, R362) -/

/-- The 32 bytes of a completion (R355). -/
def State.cplBytes (s : State) (c : Cpl) (phase : Nat) : List Byte :=
  let body := match c.body with
    | .cmd opc flags tag dseq result aux => leBytes opc 1 ++ leBytes flags 1 ++ leBytes tag 2 ++ leBytes dseq 8 ++
        leBytes result 8 ++ leBytes aux 4 ++ leBytes (s.sq c.fn c.sq).cidx.toNat 4
    | .raw b => b
  (leBytes phase 1 ++ leBytes c.typ 1 ++ leBytes c.status 1 ++ leBytes c.sq 1 ++ body ++ zeros 32).take 32

/-- The completion that a ring posts next: one that holds its reserved entry, or, while an entry is free, an unsolicited
one (R356). -/
def State.nextCpl (s : State) (fn cq : Nat) : Option Cpl :=
  let c := s.cq fn cq
  let room := decide ((c.tidx - c.head).toNat + c.resv < 2 ^ s.cqLog2 fn cq)
  s.host.cpls.find? (fun x => decide (x.fn = fn ∧ x.cq = cq) && (x.resv || room))

/-- COMPLETION_POST (R347, R356, R362): one 32-byte write at the ring's next entry with the phase of its pass, and the
interrupt that it completes or whose timer it starts. -/
def execCompletionPost (fn : TenId) (cq : Ring8) (s : State) : Out :=
  if !s.fnUp fn || s.host.bmeOff.contains fn.val || !(s.cq fn cq).en then .next s
  else
    match s.nextCpl fn cq with
    | none => .next s
    | some x =>
      let c := s.cq fn cq
      let n := s.cqLog2 fn cq
      let idx := c.tidx.toNat
      let phase := 1 - bit idx n
      let base := s.freg fn (0x200 + 0x20 * cq) + 2 ^ 32 * s.freg fn (0x204 + 0x20 * cq)
      let ctl := s.freg fn (0x208 + 0x20 * cq)
      let cnt := if x.noIrq then c.count else c.count + 1
      let fire := bit ctl 9 = 1 ∧ x.noIrq = false ∧ fld ctl 16 8 ≤ cnt
      let c := { c with
        tidx := c.tidx + 1
        resv := if x.resv then c.resv - 1 else c.resv
        count := if fire then 0 else if bit ctl 9 = 1 then cnt else 0
        timing := if fire then false else c.timing || (bit ctl 9 == 1 && !x.noIrq && fld ctl 24 8 != 0) }
      let mem := s.host.hostMem.writeBytes (base + 32 * (idx % 2 ^ n)) (s.cplBytes x phase)
      let s := { s with host := { s.host with hostMem := mem, cpls := removeFirst (fun y => y = x) s.host.cpls } }
      let s := s.setCq fn cq c
      if fire then .next (s.msix fn (fld ctl 10 3)) else .next s

/-- MSIX_COALESCE_TIMER (R362). -/
def execMsixCoalesceTimer (fn : TenId) (cq : Ring8) (s : State) : Out :=
  let c := s.cq fn cq
  if c.timing && decide (0 < c.count) then
    .next ((s.setCq fn cq { c with timing := false, count := 0 }).msix fn (fld (s.freg fn (0x208 + 0x20 * cq)) 10 3))
  else .next s

/-! ### Host-side resets (R363, R341, R489) -/

/-- FLR (R363): of the function; of the PF, for every VF as well. -/
def execFlr (fn : TenId) (s : State) : Out :=
  if !s.fnUp fn then .next s
  else
    let s := if fn.val = 0 then s.vfs.foldl (fun s v => s.ringReset v) s else s
    let s := { s with host := { s.host with d3 := s.host.d3.filter (fun g => decide (g ≠ fn.val ∧ (fn.val ≠ 0 ∨ s.vfs.contains g = false))) } }
    .next (s.flrOne fn)
/-- D3HOT_ENTER (R363). The function's BAR does not answer until a reset of its function brings it back to D0 (log entry 104). -/
def execD3hotEnter (fn : TenId) (s : State) : Out :=
  if !s.fnUp fn then .next s
  else .next (({ s with host := { s.host with d3 := fn.val :: s.host.d3.filter (· ≠ fn.val) } }).flrOne fn)
/-- VF_ENABLE_CLEAR (R363, R341): as FLR on the rings of every VF, which then no longer exist. -/
def execVfEnableClear (s : State) : Out :=
  if !s.fnUp 0 then .next s
  else
    let s := s.vfs.foldl (fun s v => s.ringReset v) s
    .next { s with host := { s.host with vfEn := false, d3 := s.host.d3.filter (· = 0) } }
/-- VF_ENABLE_SET (R341). -/
def execVfEnableSet (n : TenId) (s : State) : Out :=
  if s.fnUp 0 then .next { s with host := { s.host with vfEn := true, numVfs := n } } else .next s
/-- HOT_RESET (R363): a hot reset of the link. -/
def execHotReset (s : State) : Out := if s.fnUp 0 then .next s.hotReset else .next s
/-- PERST (R489): PERST_N low acts as a link down. -/
def execPerst (s : State) : Out := if s.fnUp 0 then .next s.pcieDown else .next s
/-- BME_CLEAR (R363): fetching, posting and transfers of the function wait. -/
def execBmeClear (fn : TenId) (s : State) : Out :=
  .next { s with host := { s.host with bmeOff := fn.val :: s.host.bmeOff.filter (· ≠ fn.val) } }
/-- BME_SET (R363): what waited goes on, interrupts included. -/
def execBmeSet (fn : TenId) (s : State) : Out :=
  let w := s.host.msiWait.filter (fun e => decide (e.1 = fn.val))
  let s := { s with host := { s.host with
    bmeOff := s.host.bmeOff.filter (· ≠ fn.val)
    msiWait := s.host.msiWait.filter (fun e => decide (e.1 ≠ fn.val)) } }
  .next (w.foldl (fun s e => s.msix e.1 e.2) s)

end Sys2Proof.Machine
end

