-- ==== Sys2Proof/Machine/Boundary.lean ====
section
/-!
DEFINITION. The boundary collector: the end of an ecycle at a tile and at the tenant (R52 to R54, R151), start grants (R55,
R56, R67), messages that land (R361) and regular checkpoints (R209).
-/
namespace Sys2Proof.Machine

/-! ### The end of an ecycle -/

/-- A channel of the tenant runs. -/
def State.acqRuns (s : State) (t : Nat) : Bool :=
  (List.range 16).any (fun c => (s.acqOf c).st.runs && decide (s.acqOwner c = t))
/-- The trigger unit takes the tenant's taps (R179). -/
def State.observed (s : State) (t : Nat) : Bool := !(s.armedOf t).isEmpty || s.acqRuns t

/-- The tile may report the end of its ecycle (R52, R151, R145, R179). -/
def State.mayEnd (s : State) (l : Nat) : Bool :=
  let t := s.tile l
  t.inEcyc && t.ending && decide (t.stage = .none) && t.halt.isNone && t.spill.isNone && decide (t.deepOut = 0) &&
    t.macQ.all (fun e => e.2.isEmpty) && t.bankQ.all (fun e => e.2.isEmpty) && decide (t.scrubbed.length = 16) &&
    (!s.observed (s.ltile l).ten || (t.taps.isEmpty && t.trapEv.isEmpty))

/-- Entries of a table that are not of parity bank `p` of 16 words. -/
def otherParity {α : Type} (p : Nat) (m : Map α) : Map α := m.filter (fun e => decide (e.1 / 16 ≠ p))
/-- The tile after the end of its ecycle: nothing of it is carried but the retained state (R46, R48, R54). -/
def Tile.endEcycle (t : Tile) : Tile :=
  { t with
    cur := [], lastOut := 0, outs := 0, rows := [], win := [], res := [], execCnt := [], exe := 0, taps := [], trapEv := []
    arrive := otherParity (t.ecyc % 2) t.arrive, edgeIn := Map.del t.edgeIn (t.ecyc % 2)
    credits := t.credits.filter (fun c => decide (t.ecyc ≤ c.ecyc + 1))
    inEcyc := false, ending := false, scrubbed := [], lastEnded := BitVec.ofNat 64 t.ecyc }

/-- ARRIVAL_LEFT for each word left FULL (Table 5-13). -/
def State.leftWords (s : State) (l : Nat) : State :=
  let t := s.tile l
  (List.range 16).foldl (fun s w =>
    let a := t.arrWord w
    if a.full then s.hazard (s.ltile l).ten (s.ltile l).itile 0x14 t.stepNo w (a.entered - 1) t.ecyc else s) s

/-- The tap vector of ecycle `k` is complete: it waits for the armed sequencers, and the channels without one take it. -/
def State.tapsComplete (s : State) (t k : Nat) : State :=
  let tn := s.ten t
  let v : TapVec := { e := k, vec := Map.get tn.tapVec 0 (k % 2), traps := Map.get tn.trapCodes [] (k % 2), sec := s.thy.sec
                      ns := s.thy.ns }
  let arm := s.armedOf t
  let s := s.setTen t { tn with
    tapVec := Map.del tn.tapVec (k % 2), trapCodes := Map.del tn.trapCodes (k % 2)
    tapReady := if arm.isEmpty then [] else tn.tapReady ++ [v] }
  (List.range 16).foldl (fun s c =>
    if s.acqOwner c = t ∧ arm.contains (s.acqSeq c) = false then s.acqData c v else s) s

/-- A module of a span drops the older checkpoint, with its log and journal, once every module has the newer one (R211). -/
def State.dropOlder (s : State) (t : Nat) : State :=
  let tn := s.ten t
  match tn.newest, tn.older with
  | some a, some _ =>
    if tn.spans ∧ a.k + 2 * s.lag t ≤ tn.done then
      s.setTen t { tn with
        older := none
        log := tn.log.filter (fun r => decide (a.k ≤ r.ecyc))
        journal := tn.journal.filter (fun j => decide (a.k ≤ j.k)) }
    else s
  | _, _ => s

/-- BND for the ecycle just completed, unless a checkpoint that has not landed holds it back (R66, R212). -/
def State.bndAfter (s : State) (t : Nat) : State :=
  let tn := s.ten t
  if tn.spans ∧ tn.done ≤ s.bndLimit t then
    (s.sendBnd t (tn.done - 1)).updTen t (fun v => { v with bndSent := v.done })
  else s

/-- The tenant completes ecycle `k` on the module (R52). -/
def State.completeEcycle (s : State) (t k : Nat) : State :=
  let s := s.updTen t (fun v => { v with
    done := k + 1, stepLeft := if v.run = .stepping then v.stepLeft - 1 else v.stepLeft })
  ((((s.tapsComplete t k).pushGroups t k).bndAfter t).dropOlder t).boundary t

/-- Every tile of the tenant has ended the ecycles below `n`. -/
def State.allEnded (s : State) (t n : Nat) : Bool := (s.boundTiles t).all (fun l => decide (n ≤ (s.tile l).endedCount))

/-- What the end of ecycle `k` at a tile completes: the tenant's ecycle, or an ecycle of a replay (R34, R220). -/
def State.afterEnd (s : State) (t k : Nat) : State :=
  let tn := s.ten t
  if s.allEnded t (k + 1) then
    match tn.recov with
    | some r =>
      let s := if tn.newest.any (fun c => decide (c.k = k + 1)) then s.updTen t (fun v => { v with jTag := k + 1 }) else s
      if r.stopAt ≤ k + 1 then s.finishReplay t r else s
    | none => s.completeEcycle t k
  else s

/-- TILE_END_REPORT (R55, R151): the tile has ended its ecycle, with every command of it complete. -/
def execTileEndReport (l : TileId) (s : State) : Out :=
  if s.mayEnd l then
    let k := (s.tile l).ecyc
    .next ((((s.leftWords l).rowsLeave l k).updTile l Tile.endEcycle).afterEnd (s.ltile l).ten k)
  else .next s

/-! ### Regular checkpoints (R209, R210) -/

/-- A regular checkpoint falls before ecycle `k`, and has not been taken. -/
def State.ckptAt (s : State) (t k : Nat) : Bool :=
  let tn := s.ten t
  let n := match tn.newest with | some c => c.k | none => 0
  decide (n < k ∧ k % s.interval t = 0) && !tn.ckptMoved.any (fun c => decide (k ≤ c.1.k)) &&
    (!tn.spans || decide (n + 2 * s.lag t ≤ k))

/-- CHECKPOINT_DUE (R209): the tenant stands at the boundary of a regular checkpoint and stops for it. -/
def execCheckpointDue (ten : TenId) (s : State) : Out :=
  let tn := s.ten ten
  if s.ckptAt ten tn.done && tn.run.advancing && s.noEcycle ten && tn.recov.isNone && !tn.moving && decide (s.dev.mode ≠ .safe) then
    .next (s.closeFor ten { kind := .checkpoint, due := tn.done, cmd := none, origin := s.moduleId })
  else .next s

/-! ### Start grants (R55 to R57, R67) -/

/-- The boundary before ecycle `e` is closed by the run state or by a request (Table 2-4). -/
def State.closedFor (s : State) (t e : Nat) : Bool :=
  let tn := s.ten t
  !tn.run.advancing || tn.devHeld || tn.refitHeld || tn.reqs.any (fun r => decide (r.due ≤ e)) ||
    (decide (tn.run = .stepping) && decide (tn.stepLeft ≤ e - tn.done))
/-- A checkpoint or a move of the tenant's state holds the boundary (R204, R210). -/
def State.movingFor (s : State) (t e : Nat) : Bool :=
  (s.ten t).moving || s.ckptAt t e || s.ckptAt t (s.ten t).done
/-- A neighbour's BND that the start of ecycle `e` needs has not come (R67). -/
def State.bndWaits (s : State) (t e : Nat) : Bool :=
  let tn := s.ten t
  let w := s.window t
  tn.spans && decide (w ≤ e) && tn.img.any (fun i => i.neighbours.any (fun m => decide (Map.get tn.bnd 0 m < e - w + 1)))
/-- The start of ecycle `e` waits for an observer (R190, R200). -/
def State.observerWaits (s : State) (t e : Nat) : Bool :=
  (s.armedOf t).any (fun q => (s.ten t).tapReady.any (fun x => decide (x.e + 2 ≤ e ∧ (s.seqOf q).nextE ≤ x.e))) ||
  (List.range 16).any (fun c => decide (s.acqOwner c = t ∧ (s.acqOf c).st = .pacing) &&
    (s.acqOf c).waiting.any (fun r => decide (recEcyc r + 2 ≤ e)))
/-- A message flow of the tenant is full (R255). -/
def State.flowFull (s : State) (t : Nat) : Bool :=
  (List.range 8).any (fun q => decide (1024 ≤ (s.host.msgs.filter (fun m => decide (m.ten = t ∧ m.cq = q))).length))

/-! ### Messages in (R361, Table 12-11) -/

/-- The in port's memory entry and its byte address. -/
def State.inPort (s : State) (t p : Nat) : Option (DeepEnt × Nat) :=
  match s.port t p, (s.ten t).img with
  | some b, some i => if b.out then none else (i.mem b.memid).map (fun e => (e, s.rbase t + e.base))
  | _, _ => none
/-- A record of `words` ring words has room (R361 step 3). -/
def State.recordFits (s : State) (e : DeepEnt) (a words : Nat) : Bool :=
  decide ((s.ds.le a 4 + words + 2 ^ 32 - s.ds.le (a + 4) 4) % 2 ^ 32 ≤ 2 ^ (e.k - 1))
/-- No deep command of the memory is on its way or queued. -/
def State.memIdle (s : State) (t memid : Nat) : Bool :=
  !(s.noc.deepReq ++ s.noc.deepQ).any (fun c => decide (c.ten = t ∧ c.memid = memid))
/-- Ring words of a message. -/
def recordWords (n : Nat) : Nat := 1 + (n + 7) / 8
/-- The message of a port that lands at the owner tile's next grant, if there is one with room. -/
def State.landable (s : State) (t p : Nat) : Option InMsg :=
  match s.host.ins.find? (fun m => decide (m.ten = t ∧ m.port = p)), s.inPort t p with
  | some m, some (e, a) => if s.memIdle t e.memid && s.recordFits e a (recordWords m.bytes.length) then some m else none
  | _, _ => none
/-- Writes a record and WIDX into an in port, in the ecycle `ec` (Table 12-11, R214). -/
def State.putRecord (s : State) (t p dseq ec : Nat) (bytes : List Byte) : State :=
  match s.inPort t p with
  | none => s
  | some (e, a) =>
    let n := 2 ^ (e.k - 1)
    let w := s.ds.le a 4
    let head := leBytes (bytes.length + 2 ^ 32 * (dseq % 2 ^ 32)) 8
    let body := bytes ++ zeros (8 * ((bytes.length + 7) / 8) - bytes.length)
    let all := head ++ body
    let s := (List.range (recordWords bytes.length)).foldl (fun s i =>
      let word := n + (w + i) % n
      let s := s.journalLine t e.memid (word / 8) ec
      { s with ds := s.ds.writeBytes (a + 8 * word) ((all.drop (8 * i)).take 8) }) s
    let s := s.journalLine t e.memid 0 ec
    { s with ds := s.ds.putLE a 4 ((w + recordWords bytes.length) % 2 ^ 32) }

/-- Logged MSG_IN records of ecycle `e` for the memories of image tile `it`: the ring byte names the in port (log entry 29). -/
def State.redoFor (s : State) (t it e : Nat) : List LogRec :=
  (s.ten t).redoMsg.filter (fun r => decide (r.ecyc = e) &&
    (s.inPort t (leAt r.payload 0 1)).any (fun x => decide (x.1.owner = it)))
/-- A message waits to land before the grant of ecycle `e` to image tile `it`. -/
def State.messageDue (s : State) (t it e : Nat) : Bool :=
  (s.redoFor t it e).isEmpty &&
    (List.range 8).any (fun p => (s.landable t p).isSome && (s.inPort t p).any (fun x => decide (x.1.owner = it)))

/-- The edge groups of ecycle `e` (R406, R220): of the log for an ecycle run again, else those delivered. -/
def State.edgeGroups (s : State) (t e : Nat) : List DWord :=
  let tn := s.ten t
  if e < tn.edgeTo then
    let prev := Map.get tn.edgeGrp [] ((e + 1) % 2)
    match tn.log.find? (fun r => decide (r.typ = 2 ∧ r.ecyc = e)) with
    | some r =>
      let mask := leAt r.payload 0 2
      (List.range 12).map (fun g => if mask.testBit g then
        BitVec.ofNat 64 (leAt r.payload (8 + 8 * ((List.range g).filter (fun i => mask.testBit i)).length) 8) else prev.getD g 0)
    | none => prev
  else (List.range 12).map (fun g => if s.bankOwner g = some t then ((s.bank g).groupOf e).getD 0 else 0)
/-- The EDGE record of an ecycle whose groups changed (Table 7-1). -/
def edgeRecord (old new : List DWord) : List Byte :=
  let ch := (List.range 12).filter (fun g => decide (new.getD g 0 ≠ old.getD g 0))
  leBytes (ch.foldl (fun a g => a + 2 ^ g) 0) 2 ++ zeros 6 ++ ch.flatMap (fun g => leBytes (new.getD g 0).toNat 8)
/-- The first start of ecycle `e` fixes and logs its edge inputs (R74, R213); in a replay, they are those of the log (R220). -/
def State.takeEdges (s : State) (t e : Nat) : State :=
  if (s.boundTiles t).any (fun l => decide (e < (s.tile l).startedCount)) then s
  else
    let tn := s.ten t
    let old := Map.get tn.edgeGrp [] ((e + 1) % 2)
    let new := s.edgeGroups t e
    let same := (List.range 12).all (fun g => decide (new.getD g 0 = old.getD g 0))
    let s' := s.setTen t { tn with edgeGrp := Map.set tn.edgeGrp (e % 2) new, edgeTo := max tn.edgeTo (e + 1) }
    if e < tn.edgeTo ∨ same = true then s' else s'.logAdd t 2 e (edgeRecord old new)

/-- Credits for the first occupant of every arrival word that a tile of the module feeds (R60). -/
def State.startCredits (s : State) (l e : Nat) : State :=
  let t := (s.ltile l).ten
  let it := (s.ltile l).itile
  let cs := (List.range 16).filterMap (fun w =>
    ((s.ten t).img.bind (fun i => i.sourceOf it w)).map (fun src =>
      ({ ten := t, src := src, dst := it, word := w, occ := 0, ecyc := e } : Credit)))
  { s with noc := { s.noc with credits := s.noc.credits ++ cs } }

/-- A checkpoint of the tenant holds its boundary (R210). -/
def State.ckptHolds (s : State) (t e : Nat) : Bool :=
  s.ckptAt t e || s.ckptAt t (s.ten t).done || ((s.ten t).moving && s.ckptUnderWay t)
/-- The conditions that R55 and the rules that add to it set for a start: what TIL_STALL class START counts (R170, R190, R200, R210,
R215, R255, R408). -/
def State.startWaits (s : State) (t e : Nat) : Bool :=
  s.ckptHolds t e || !s.allEnded t (e - 1) || s.bndWaits t e || s.observerWaits t e || s.logFull t || s.flowFull t || !s.edgeRoom t e
/-- What holds a start besides: a message that lands, edge inputs that are not there (R361, R406), and log or journal bytes whose
tokens are not granted (R213, R249). -/
def State.startHeld (s : State) (t it e : Nat) : Bool :=
  s.faultWaits t || s.messageDue t it e || (decide ((s.ten t).edgeTo ≤ e) && !s.edgeGiven t e)

/-- The grant itself (R53 to R55): logged inputs of an ecycle run again land, and the tile starts at step address 0. -/
def State.grant (s : State) (l e : Nat) : State :=
  let t := (s.ltile l).ten
  let it := (s.ltile l).itile
  let s := (s.ten t).binds.foldl (fun s b => s.bindNow t b) s
  let redo := s.redoFor t it e
  let s := redo.foldl (fun s r =>
    s.putRecord t (leAt r.payload 0 1) (leAt r.payload 4 4) e (r.payload.drop 8)) s
  let s := s.updTen t (fun v => { v with
    binds := [], started := true, redoMsg := v.redoMsg.filter (fun r => !redo.contains r) })
  let s := s.takeEdges t e
  let gs := Map.get (s.ten t).edgeGrp [] (e % 2)
  let bits := (s.banksOf t).foldl (fun a g => a ||| s.routeIn g it (gs.getD g 0)) 0
  let s := s.startCredits l e
  (s.updTile l (fun x => { x with
    ecyc := e, inEcyc := true, ending := false, waitStart := false, atClosed := false, exe := 0, stage := .none, nextA := some 0
    fetched := none, gateWait := false, waited := [], stack := [], sp := 0, edgeIn := if bits = 0 then Map.del x.edgeIn (e % 2)
      else Map.set x.edgeIn (e % 2) bits })).earlyCheckpoint t

/-- The release samples of the first start grant after IMAGE_COMMIT (R410): the pin levels of each bank. -/
def State.firstSamples (s : State) (t : Nat) (pins : List DWord) : State :=
  let s := (s.banksOf t).foldl (fun s g =>
    if s.bankRuns g && !s.bankFree g then s.releaseSample t g (s.sampleOf g (pins.getD g 0)) else s) s
  s.updTen t (fun v => { v with started := true })

/-- LOG_WAIT (Table 7-11, R215): the start of ecycle `e` waits for space in the log or the journal, reported once. -/
def State.logWaits (s : State) (t e : Nat) : State :=
  if s.logFull t ∧ (s.ten t).logWait ≠ e + 1 then
    (s.updTen t (fun v => { v with logWait := e + 1 })).report 0x0116 clsEvent 0 (some t) e
  else s

/-- The wait of a start is counted, and a wait for a neighbour's BND is marked (R70, R170). -/
def State.waitAt (s : State) (l e : Nat) : State :=
  (s.stallAt l 10 0 0 0).updTile l (fun v => { v with waitStart := s.bndWaits (s.ltile l).ten e })
/-- START_GRANT (R55, R56, R67): the tile starts its next ecycle, or waits and counts the wait once. In a replay R55, R67 and R255
hold as well (R220). -/
def execStartGrant (l : TileId) (pins : List DWord) (s : State) : Out :=
  let x := s.tile l
  let t := (s.ltile l).ten
  let it := (s.ltile l).itile
  let e := x.endedCount
  if !(s.ltile l).bound || x.inEcyc || x.halt.isSome || decide (s.dev.mode = .safe) then .next s
  else
    match (s.ten t).recov with
    | some r =>
      if r.phase = .replay ∧ e < r.stopAt then
        if !s.allEnded t (e - 1) || s.bndWaits t e || s.flowFull t then .next (s.waitAt l e) else .next (s.grant l e)
      else .next s
    | none =>
      let s := if (s.ten t).started || s.closedFor t e then s else s.firstSamples t pins
      if s.closedFor t e || (s.movingFor t e && !s.ckptHolds t e) then .next s
      else if s.startWaits t e then .next ((s.waitAt l e).logWaits t e)
      else if s.startHeld t it e then .next s
      else .next (s.grant l e)

/-- MSG_IN_LAND (R361): the oldest staged message of a port lands at its owner tile's next start grant, after those of
lower ports, and is logged. -/
def execMsgInLand (ten : TenId) (port : Ring8) (s : State) : Out :=
  match s.landable ten port, s.inPort ten port with
  | some m, some (d, _) =>
    match s.tileOf ten d.owner with
    | none => .next s
    | some l =>
      let e := (s.tile l).endedCount
      let first := (List.range port.val).all (fun p =>
        (s.landable ten p).isNone || !(s.inPort ten p).any (fun x => decide (x.1.owner = d.owner)))
      if !first || (s.tile l).inEcyc || (s.tile l).halt.isSome || (s.ten ten).recov.isSome || s.closedFor ten e ||
          s.movingFor ten e || s.logFull ten || !(s.redoFor ten d.owner e).isEmpty || decide (s.dev.mode = .safe) then .next s
      else
        let s := { s with host := { s.host with ins := removeFirst (fun x => x = m) s.host.ins } }
        let s := s.putRecord ten port m.ref.dseq.toNat e m.bytes
        let s := s.logInput ten 1 e (leBytes port.val 1 ++ zeros 3 ++ leBytes m.ref.dseq.toNat 4 ++ m.bytes)
        .next (s.complete m.ref 0x21 stOk e 0)
  | _, _ => .next s

end Sys2Proof.Machine
end

