-- ==== Sys2Proof/Machine/EdgeCmd.lean ====
section
/-!
DEFINITION. The commands of the edge banks (chapter 14): staged release, target cycles, groups, and the writes of pins, owners
and routes.
-/
namespace Sys2Proof.Machine

/-- BANK_RELEASE (R416). -/
def execBankRelease (g : EBank) (s : State) : Out := if s.dev.mode.configured then .next (s.bankRelease g) else .next s
/-- BANK_WITHDRAW (R417). -/
def execBankWithdraw (g : EBank) (s : State) : Out := if s.dev.mode.configured then .next (s.bankWithdraw g) else .next s

/-- BANK_STAGE_TIMER (R416, R417): STAGE_US passes; `pins` are the levels that a release sample finds. -/
def execBankStageTimer (g : EBank) (pins : DWord) (s : State) : Out :=
  let b := s.bank g
  match b.stage with
  | .out => .next (s.setBank g { b with stage := .we })
  | .we => .next (s.enterRun g pins)
  | .retreat => if b.undoing = .we then .next (s.setBank g { b with undoing := .out }) else .next (s.bankOff g)
  | _ => .next s

/-- BROWNOUT_TRIP (R415, R418): VIO is below 85 % of its nominal value. -/
def execBrownoutTrip (g : EBank) (s : State) : Out :=
  .next ((s.updBank g (fun b => { b with brownout := true })).vioDoubt g)

/-- TARGET_CYCLE_C1 (R409, R412, R222): the group at the head moves into CO; no target cycle begins during a recovery. -/
def execTargetCycleC1 (g : EBank) (s : State) : Out :=
  let b := s.bank g
  match b.outFifo, s.bankOwner g with
  | (k, v) :: rest, some t =>
    if b.stage = .run ∧ s.bankFree g = false ∧ b.cyc = none ∧ (s.ten t).recov = none then
      .next (s.setBank g { b with outFifo := rest, co := v, cyc := some (k, false), tcyc := b.tcyc + 1 })
    else .next s
  | _, _ => .next s

/-- A recovery of the bank's tenant holds its emulated target clocks where they are (R222, event 1 of Table 7-6). -/
def State.clockHeld (s : State) (g : Nat) : Bool := (s.bankOwner g).any (fun t => (s.ten t).recov.isSome)
/-- TARGET_CYCLE_C2 (R409, R410): the target clocks rise, and the sample is the input group of ecycle k + 2. -/
def execTargetCycleC2 (g : EBank) (pins : DWord) (s : State) : Out :=
  let b := s.bank g
  match b.cyc with
  | some (k, false) =>
    if s.clockHeld g then .next s
    else .next (s.setBank g { b with cyc := some (k, true), tclk := true, inFifo := b.inFifo ++ [(k + 2, s.sampleOf g pins)] })
  | _ => .next s

/-- TARGET_CYCLE_C3 (R409): the target clocks fall. -/
def execTargetCycleC3 (g : EBank) (s : State) : Out :=
  let b := s.bank g
  match b.cyc with
  | some (_, true) => if s.clockHeld g then .next s else .next (s.setBank g { b with cyc := none, tclk := false })
  | _ => .next s

/-- The next input group of a bank and the bank without it (R410, R411). -/
def State.nextGroup (s : State) (g : Nat) : Option (Nat × DWord × EdgeBank) :=
  let b := s.bank g
  if s.bankFree g then
    match b.inFifo with
    | (_, v) :: r => some (b.nextIn, v, { b with inFifo := r })
    | [] => some (b.nextIn, (b.groupOf (b.nextIn - 1)).getD b.grpIn, b)
  else
    match b.rel, b.inFifo with
    | (e, v) :: r, _ => some (e, v, { b with rel := r })
    | [], (e, v) :: r => some (e, v, { b with inFifo := r })
    | [], [] => none

/-- EDGE_INPUT_DELIVER (R406, R410, R411): the group of ecycle e reaches the routed tiles' parity bank, once they have ended
e − 2. -/
def execEdgeInputDeliver (g : EBank) (s : State) : Out :=
  match s.nextGroup g, s.bankOwner g with
  | some (e, v, b), some t =>
    let routed := (s.boundTiles t).filter (fun l => s.routesTo g (s.ltile l).itile)
    if s.bankRuns g ∧ routed.all (fun l => decide (e ≤ (s.tile l).endedCount + 1)) = true ∧ e ≤ (s.ten t).done + 1 ∧
        (s.ten t).recov = none then
      let s := s.setBank g { b with nextIn := e + 1, given := b.given ++ [(e, v)] }
      .next (routed.foldl (fun s l => s.updTile l (fun x =>
        { x with edgeIn := Map.set x.edgeIn (e % 2) (s.edgeFor t (s.ltile l).itile e) })) s)
    else .next s
  | _, _ => .next s

/-- FREE_POP (R405, R411): region `r` asserts POP, its isolation cell passes it, and the head of the out-FIFO moves into CO; an empty FIFO
changes nothing. -/
def execFreePop (g : EBank) (r : Region) (s : State) : Out :=
  let b := s.bank g
  match b.outFifo with
  | (_, v) :: rest =>
    if b.stage = .run ∧ s.bankFree g = true ∧ s.isoPasses r (s.bankOwner g) = true then .next (s.setBank g { b with outFifo := rest, co := v })
    else .next s
  | [] => .next s

/-- FREE_PUSH (R405, R411): region `r` asserts PUSH, its isolation cell passes it, and CI enters the in-FIFO, or is refused and counted. -/
def execFreePush (g : EBank) (r : Region) (pins : DWord) (s : State) : Out :=
  let b := s.bank g
  if b.stage = .run ∧ s.bankFree g = true ∧ s.isoPasses r (s.bankOwner g) = true then
    if b.inFifo.length < 16 then .next (s.setBank g { b with inFifo := b.inFifo ++ [(0, s.sampleOf g pins)] })
    else .next ((s.setBank g { b with inRef := satInc b.inRef 0xFFFFFFFF }).report 0x0706 clsEvent g none g)
  else .next s

/-- EDG_PIN_WRITE (R403). -/
def execEdgPinWrite (n : Fin 768) (v : Word) (s : State) : Out :=
  if s.dev.mode.configured then .next (s.writePin n v.toNat) else .next s
/-- EDG_ASSIGN_WRITE (R404). -/
def execEdgAssignWrite (u : EdgeUnit) (v : Word) (s : State) : Out :=
  if s.dev.mode.configured then
    match u with
    | .bank g => .next (s.writeBankCfg g v.toNat)
    | .region r => .next (s.writeRegion r v.toNat)
  else .next s
/-- EDG_ROUTE_WRITE (R407). -/
def execEdgRouteWrite (g : EBank) (inward : Bool) (v : Word) (s : State) : Out :=
  if s.dev.mode.configured then .next (s.writeRoute g inward v.toNat) else .next s

end Sys2Proof.Machine
end

