-- ==== Sys2Proof/Machine/LinkCmd.lean ====
section
/-!
DEFINITION. The commands of the lattice links: bring-up, frames, retraining, sleep and the LNK registers (R277 to R312).
-/
namespace Sys2Proof.Machine

/-! ### Bring-up (R296 to R298, R306, R307) -/

/-- LINK_DETECT_LOCK: both lanes lock, so DETECT gives way to TRAIN. -/
def execLinkDetectLock (l : LinkId) (s : State) : Out :=
  let k := s.link l
  if k.phase = .detect then .next (s.setLink l { k.setPhase .train with noSignal := false }) else .next s

/-- LINK_DETECT_TIMEOUT: 2 ms without lock. One failing lane moves onto a usable spare, or the link goes DOWN; a link with
no signal restarts, recording NO_PEER once. -/
def execLinkDetectTimeout (l : LinkId) (bad : Option (Fin 2)) (s : State) : Out :=
  let k := s.link l
  if k.phase ≠ .detect then .next s
  else
    match bad with
    | some n =>
      if s.spareFree l then .next ((s.substitute l n).updLink l Link.enterDetect)
      else if k.st = .down then .next s
      else .next (s.linkDown l)
    | none =>
      let s := s.setLink l { k.enterDetect with noPeerRec := true }
      if k.noPeerRec then .next s else .next (s.linkReport l 0x0208 clsEvent 0)

/-- LINK_TRAIN_DONE: both lanes are aligned and deskewed; what was corrected is kept for as long as the link is up (R280). -/
def execLinkTrainDone (l : LinkId) (swap : Bool) (pol : BitVec 2) (s : State) : Out :=
  let k := s.link l
  if k.phase = .train then .next (s.setLink l { k.setPhase .ident with laneSwap := swap, polInv := pol.toNat }) else .next s

/-- LINK_TRAIN_TIMEOUT: 1 ms without success. -/
def execLinkTrainTimeout (l : LinkId) (s : State) : Out :=
  let k := s.link l
  if k.phase = .train then .next (s.setLink l k.enterDetect) else .next s

/-- What R298 finds wrong in the far end's training set: the code, class and DETAIL to record. While an end's module ID is not valid
the link only waits. -/
def State.identFault (s : State) (ts : TrainSet) : Option (Nat × Nat × Nat) :=
  if ts.idValid = false ∨ s.rfld 0x100000 8 1 = 0 then none
  else if ts.mod0 ≠ ts.mod1 ∨ ts.link0 ≠ ts.link1 then
    some (0x0205, clsEvent, ts.mod0.val + 256 * ts.link0 + 2 ^ 16 * (ts.mod1.val + 256 * ts.link1))
  else if ts.tag.toNat ≠ s.rfld 0x100000 16 16 then some (0x0206, clsEvent, ts.tag.toNat)
  else if ts.mod0.val = s.moduleId then some (0x0207, clsDegraded, s.moduleId)
  else none
/-- Both ends carry a valid module ID. -/
def State.bothValid (s : State) (ts : TrainSet) : Bool := ts.idValid && decide (s.rfld 0x100000 8 1 = 1)
/-- The values of a training set that LNK_PEER shows and R298 checks. -/
def TrainSetValues (t : TrainSet) : Nat × Nat × Nat × Nat × Nat × Bool :=
  (t.mod0.val, t.link0, t.mod1.val, t.link1, t.tag.toNat, t.idValid)

/-- UP once ACK has gone out in 16 training sets and come in 8 in a row (Table 10-12). -/
def State.tryUp (s : State) (l : Nat) : State :=
  let k := s.link l
  if 8 ≤ k.goodTs ∧ 8 ≤ k.ackTs ∧ 16 ≤ k.sentAck then s.linkUpNow l else s

/-- A training set in IDENT or in retraining: the checks of R298, and the counts of good and acknowledging sets in a row. A set
counts only from an end in the same retraining (R297). -/
def State.identTs (s : State) (l : Nat) (ts : TrainSet) (rtt : Nat) : State :=
  let k := s.link l
  let changed := decide (k.peer.map TrainSetValues ≠ some (TrainSetValues ts))
  let k := { k with peer := some ts, rtt := rtt }
  match s.identFault ts with
  | some (code, cls, d) =>
    let s := s.setLink l { k with goodTs := 0, ackTs := 0, sentAck := 0, peerRec := true }
    if changed || !k.peerRec then s.linkReport l code cls d else s
  | none =>
    if !s.bothValid ts then s.setLink l { k with goodTs := 0, ackTs := 0, sentAck := 0, peerRec := false }
    else
      let same := ts.fast == decide (k.st = .fastRt)
      let good := if ts.rxLocked && same then k.goodTs + 1 else 0
      let ackIn := if ts.ack && same then k.ackTs + 1 else 0
      (s.setLink l { k with goodTs := good, ackTs := ackIn, peerRec := false
                            sentAck := if 8 ≤ good then k.sentAck else 0 }).tryUp l

/-- The training set that this end sends (Table 10-9, R297, R301). -/
def State.ownTs (s : State) (l : Nat) : TrainSet :=
  let k := s.link l
  let p := k.phase
  { mod0 := Fin.ofNat 256 s.moduleId, link0 := l, mod1 := Fin.ofNat 256 s.moduleId, link1 := l
    tag := BitVec.ofNat 16 (s.rfld 0x100000 16 16), idValid := decide (s.rfld 0x100000 8 1 = 1)
    rxLocked := decide (p = .ident ∨ p = .fastRt ∨ p = .fullRt), ack := decide (8 ≤ k.goodTs), fast := decide (p = .fastRt)
    loopReq := decide (p = .test), loopAck := false, sub := k.subst.isSome, subLane := Fin.ofNat 2 (k.subst.getD 0)
    spare := false, lastSeq := k.rxSeq - 1 }
/-- The states in which training sets go out: those of Table 10-3, and a far-end loopback that is not yet granted (R301). -/
def State.sendsTs (s : State) (l : Nat) : Bool :=
  let k := s.link l
  decide (k.phase ∈ [LinkSt.detect, .train, .ident, .fastRt, .fullRt]) ||
    (decide (k.st = .test) && decide (s.lnkMode l = 4) && !k.loopAcked)
/-- A training set goes out; one that acknowledges is counted (Table 10-12). -/
def State.sendTs (s : State) (l : Nat) : State :=
  let t := s.ownTs l
  let s := s.send l (.ts t)
  if t.ack then (s.updLink l (fun k => { k with sentAck := k.sentAck + 1 })).tryUp l else s

/-- The far end's spare trains (R306): usable when it is the spare of the same group on the module the group's links
lead to. -/
def State.spareTs (s : State) (l : Nat) (ts : TrainSet) : State :=
  let g := spareKey l
  let first := 36 * g.1 + 9 * g.2
  let far := ((List.range 9).filterMap (fun i => (s.link (first + i)).peer)).head?
  let ok := match far with
    | some p => decide (ts.mod0 = p.mod0 ∧ ts.link0 % 9 = 0 ∧ ts.link0 / 9 = p.link0 / 9)
    | none => false
  if ok then { s with lat := { s.lat with spareOk := if s.lat.spareOk.contains g then s.lat.spareOk else g :: s.lat.spareOk } }
  else ({ s with lat := { s.lat with spareOk := s.lat.spareOk.filter (· ≠ g) } }).linkReport l 0x0209 clsEvent (g.1 + 4 * g.2)

/-- The far end asks for its loopback (R301): granted with FARLOOP_PERMIT, where a test mode could be written, and not
during a local test; of two requests at once the lower module ID's is granted. -/
def State.loopGranted (s : State) (l : Nat) (ts : TrainSet) : Bool :=
  decide (s.rfld (lnkCtl l) 7 1 = 1) && !s.testBarred l &&
  (decide ((s.link l).st ≠ .test) || (decide (s.lnkMode l = 4) && decide (ts.mod0.val < s.moduleId)))

/-- The far end asks for its loopback: the answer goes out, and a request that is granted takes the link to LOOPED (R301). -/
def State.answerLoop (s : State) (l : Nat) (ts : TrainSet) : State :=
  let ok := s.loopGranted l ts
  let s := s.send l (.ts { s.ownTs l with loopAck := ok })
  if ok then s.changeLink l { s.link l with st := .looped, peer := some ts } else s
/-- A loopback that this end has asked for is answered: its pattern runs once it is granted (R301, R302). -/
def State.loopAnswer (s : State) (l : Nat) (ts : TrainSet) : State :=
  let k := s.link l
  let s := s.setLink l { k with loopAcked := ts.loopAck }
  if ts.loopAck && !k.loopAcked then s.prbsCounts l else s

/-- TS_RECEIVE (R297, R298, R301, R304, R306, R307). -/
def execTsReceive (l : LinkId) (line : LineIn) (ts : TrainSet) (rtt : BitVec 16) (s : State) : Out :=
  if ts.spare then .next (s.spareTs l ts)
  else
    let s := (s.takeLine l line).2
    let s := if ts.sub && s.spareFree l then s.substitute l ts.subLane else s
    let k := s.link l
    if ts.loopReq && decide (k.st ≠ .off ∧ k.st ≠ .looped) then .next (s.answerLoop l ts)
    else if k.st = .looped ∧ ts.loopReq = false then .next (s.setLink l k.enterDetect)
    else if k.st = .test ∧ s.lnkMode l = 4 then .next (s.loopAnswer l ts)
    else if k.phase = .ident ∨ k.st = .fullRt ∨ k.st = .fastRt then .next (s.identTs l ts rtt.toNat)
    else if k.st = .up ∧ (ts.fast = true ∨ ts.ack = false) then
      .next (s.changeLink l (if ts.fast then k.enterFast else k.enterFull))
    else .next s

/-- LINK_IDENT_RETRY: a failed check is tried again after 1 ms. -/
def execLinkIdentRetry (l : LinkId) (s : State) : Out :=
  let k := s.link l
  if k.phase = .ident then .next (s.setLink l { k with goodTs := 0, ackTs := 0, sentAck := 0 }) else .next s

/-! ### Retraining (R304, R305) -/

/-- The condition of a cause of FAST_RT: loss of signal on an awake direction, code errors, a frame sent 8 times, four
acknowledgement timeouts in a row. -/
def Link.fastCause (k : Link) (cause : Nat) : Bool :=
  if cause = 0 then !k.rxSleep
  else if cause = 1 then k.manyErrs
  else if cause = 2 then k.retry.any (fun f => decide (8 ≤ f.sent))
  else decide (4 ≤ k.ackOuts)

/-- LINK_FAST_RT_ENTER (R304). -/
def execLinkFastRtEnter (l : LinkId) (line : LineIn) (cause : Fin 4) (s : State) : Out :=
  let s := (s.takeLine l line).2
  let k := s.link l
  if k.st = .up ∧ k.fastCause cause = true then .next (s.changeLink l { k.enterFast with rtCause := cause }) else .next s

/-- LINK_FAST_RT_TIMEOUT (R304, R307): 100 µs pass, so FULL_RT follows; a lane that fails moves onto a usable spare, and
a link that has lost a lane and has no spare goes DOWN. -/
def execLinkFastRtTimeout (l : LinkId) (bad : Option (Fin 2)) (s : State) : Out :=
  let k := s.link l
  if k.st ≠ .fastRt then .next s
  else
    let s := s.setLink l k.enterFull
    match bad with
    | none => .next s
    | some n => if s.spareFree l then .next (s.substitute l n) else .next (s.linkDown l)

/-- LINK_FULL_RT_TIMEOUT (R304): 1 ms passes, so the link goes DOWN. -/
def execLinkFullRtTimeout (l : LinkId) (s : State) : Out :=
  if (s.link l).st = .fullRt then .next (s.linkDown l) else .next s

/-- LINK_DOWN_RETRY (R296): bring-up begins again in the background. -/
def execLinkDownRetry (l : LinkId) (s : State) : Out :=
  let k := s.link l
  if k.st = .down ∧ s.mayTrain l = true then .next (s.setLink l k.enterDetect) else .next s

/-! ### Frames (R281 to R289, R309) -/

/-- The slots of an XCH body enter the exchange receive buffer of a link. -/
def State.takeXch (s : State) (l ten ecyc dmod : Nat) (sl : List SlotEnt) : State :=
  let new := s.slotsOf ten ecyc dmod sl
  s.updLink l (fun k => { k with rxBuf := k.rxBuf ++ new })

/-- FRAME_RECEIVE_XCH (R282, R283, R65). -/
def execFrameReceiveXch (l : LinkId) (line : LineIn) (seq : BitVec 12) (damaged : Bool) (ten : TenId) (ecyc : BitVec 16)
    (dmod _omod : ModId) (slots : List SlotEnt) (s : State) : Out :=
  let x := s.takeLine l line
  let r := x.2.takeFrame l seq (damaged || x.1 || slots.isEmpty || decide (16 < slots.length))
  if r.1 then .next (r.2.takeXch l ten ecyc.toNat dmod slots) else .next r.2

/-- SLOT_FORWARD (R65, R288): a buffered slot goes onto the spine once its destination tile grants credit; slots into one
arrival word go in arrival order. The word's credit returns to the far transmitter. -/
def execSlotForward (l : LinkId) (i : Nat) (s : State) : Out :=
  let k := s.link l
  match k.rxBuf[i]? with
  | none => .next s
  | some p =>
    let blocked := (k.rxBuf.take i).any (fun q => decide (q.ten = p.ten ∧ q.dst = p.dst ∧ q.word = p.word))
    let waits := match s.tileOf p.ten p.dst with
      | some t => decide (s.slotFate t p = .pathFault)
      | none => false
    if blocked || waits then .next s
    else
      let s := s.setLink l { k with rxBuf := k.rxBuf.eraseIdx i, retXch := k.retXch + 1 }
      .next { s with noc := { s.noc with slots := s.noc.slots ++ [{ p with src := 0xC8 + l / 36 }] } }

/-- A PKT frame's packet goes onto the spine with its age kept (R281, R319, R321). -/
def State.takePkt (s : State) (l : Nat) (p : Pkt) : State :=
  let s := s.updLink l (fun k => { k with retPkt := k.retPkt + bodyUnits (.pkt p) })
  { s with noc := { s.noc with pkts := s.noc.pkts ++ [p] } }

/-- FRAME_RECEIVE_PKT (R281). -/
def execFrameReceivePkt (l : LinkId) (line : LineIn) (seq : BitVec 12) (damaged : Bool) (p : Pkt) (s : State) : Out :=
  let x := s.takeLine l line
  let r := x.2.takeFrame l seq (damaged || x.1 || decide (256 < bodyBytes (.pkt p)))
  if r.1 then .next (r.2.takePkt l p) else .next r.2

/-- FRAME_RECEIVE_CTL (R286 to R288): a damaged one is only counted. -/
def execFrameReceiveCtl (l : LinkId) (line : LineIn) (damaged : Bool) (c : Ctl) (s : State) : Out :=
  let x := s.takeLine l line
  let s := x.2
  let k := s.link l
  if k.st ≠ .up then .next s
  else if damaged || x.1 then .next (s.setLink l (k.discard true))
  else .next (s.setLink l (k.applyCtl c))

/-- The lowest-numbered up link to a module. -/
def State.linkToModule (s : State) (m : Nat) : Option Nat := s.upLinks.find? (fun l => decide ((s.link l).farId = some m))

/-- An inner frame is processed as if it had arrived on the failed link (R309). A token among them reaches its own
command with that link. -/
def State.takeInner (s : State) (l : Nat) (seq : BitVec 12) : Body → State
  | .ctl c => s.updLink l (fun k => k.applyCtl c)
  | .xch ten ecyc dmod _ sl =>
    let r := s.takeFrame l seq false
    if r.1 then r.2.takeXch l ten ecyc dmod sl else r.2
  | .pkt p =>
    let r := s.takeFrame l seq false
    if r.1 then r.2.takePkt l p else r.2
  | .tok k => { s with lat := { s.lat with tokIn := s.lat.tokIn ++ [(l, seq, k)] } }
  | .dtr dst org link iseq inner =>
    let r := s.takeFrame l seq false
    if !r.1 then r.2
    else
      let b : Body := .dtr dst org link iseq inner
      let s := r.2.updLink l (fun k => { k with retDtr := k.retDtr + bodyUnits b })
      if dst = s.moduleId then s.takeInner link (BitVec.ofNat 12 iseq) inner
      else
        match s.linkToModule dst with
        | some m => { s with lat := { s.lat with dtrOut := s.lat.dtrOut ++ [(m, b)] } }
        | none => s

/-- FRAME_RECEIVE_DTR (R309): at the destination the inner frame is processed; elsewhere it is sent on unopened over the
lowest-numbered up link to the destination. -/
def execFrameReceiveDtr (l : LinkId) (line : LineIn) (seq : BitVec 12) (damaged : Bool) (dst org : ModId) (link : LinkId) (iseq : BitVec 12)
    (inner : Body) (s : State) : Out :=
  let x := s.takeLine l line
  let r := x.2.takeFrame l seq (damaged || x.1)
  if !r.1 then .next r.2
  else
    let b : Body := .dtr dst org link iseq.toNat inner
    let s := r.2.updLink l (fun k => { k with retDtr := k.retDtr + bodyUnits b })
    if dst.val = s.moduleId then .next (s.takeInner link iseq inner)
    else
      match s.linkToModule dst with
      | some m => .next { s with lat := { s.lat with dtrOut := s.lat.dtrOut ++ [(m, b)] } }
      | none => .next s

/-- The XCH frame that the link's first queued slot begins (R284): every queued slot of the link with its tenant, ecycle
and destination module, up to 16, in queue order. -/
def State.xchFrame (s : State) (l : Nat) : Option (List Slot) :=
  match s.lat.slotOut.find? (fun e => decide (e.1 = l)) with
  | none => none
  | some (_, p) =>
    some (((s.lat.slotOut.filter (fun e => decide (e.1 = l ∧ e.2.ten = p.ten ∧ e.2.ecyc = p.ecyc ∧ e.2.dmod = p.dmod))).map
      (fun e => e.2)).take 16)

/-- The body of an XCH frame. -/
def State.xchBody (s : State) (sl : List Slot) : Body :=
  match sl with
  | [] => .xch 0 0 0 0 []
  | p :: _ =>
    let dm := match (s.ten p.ten).img with | some i => ((i.mods[p.dmod]?).map (fun m => m.1)).getD 0 | none => 0
    .xch p.ten (p.ecyc % 65536) dm s.moduleId
      (sl.map (fun q => { dtile := q.dst, word := q.word, epoch := q.epoch, occ := q.occ, data := q.data }))

/-- The first item of a queue for a link. -/
def firstFor {α : Type} (l : Nat) (q : List (Nat × α)) : Option α := (q.find? (fun e => decide (e.1 = l))).map (fun e => e.2)
def dropFor {α : Type} (l : Nat) (q : List (Nat × α)) : List (Nat × α) := removeFirst (fun e => decide (e.1 = l)) q

/-- A class of frame that waits with credit, in the order of R289: TOK, XCH, DTR, PKT, with one frame in eight for PKT
and for DTR while they wait. -/
def State.nextBody (s : State) (l : Nat) : Option Body :=
  let k := s.link l
  let tok := if 0 < k.credTok then (firstFor l s.lat.tokOut).map Body.tok else none
  let xch := match s.xchFrame l with
    | some sl => if sl.length ≤ k.credXch then some (s.xchBody sl) else none
    | none => none
  let dtr := (firstFor l s.lat.dtrOut).filter (fun b => decide (bodyUnits b ≤ k.credDtr))
  let pkt := ((firstFor l s.lat.pktOut).map Body.pkt).filter (fun b => decide (bodyUnits b ≤ k.credPkt))
  if pkt.isSome && decide (7 ≤ k.sincePkt) then pkt
  else if dtr.isSome && decide (6 ≤ k.sinceDtr) then dtr
  else ((tok.or xch).or dtr).or pkt

/-- Takes a body out of the queue it waits in. -/
def State.dequeue (s : State) (l : Nat) (b : Body) : State :=
  match b with
  | .tok _ => { s with lat := { s.lat with tokOut := dropFor l s.lat.tokOut } }
  | .pkt _ => { s with lat := { s.lat with pktOut := dropFor l s.lat.pktOut } }
  | .dtr _ _ _ _ _ => { s with lat := { s.lat with dtrOut := dropFor l s.lat.dtrOut } }
  | .xch _ _ _ _ _ =>
    match s.xchFrame l with
    | some sl => { s with lat := { s.lat with slotOut := sl.foldl (fun q p => removeFirst (fun e => e = (l, p)) q) s.lat.slotOut } }
    | none => s
  | .ctl _ => s

/-- The transmitter after a sequenced frame: credit spent, the frame kept for a resend, the shares of R289 counted. -/
def Link.sent (k : Link) (b : Body) (dtrWaits pktWaits : Bool) : Link :=
  let k := { k with txSeq := k.txSeq + 1, retry := k.retry ++ [{ seq := k.txSeq, body := b, sent := 1 }]
                    sinceDtr := if dtrWaits then k.sinceDtr + 1 else 0, sincePkt := if pktWaits then k.sincePkt + 1 else 0 }
  match b with
  | .xch _ _ _ _ sl => { k with credXch := k.credXch - sl.length }
  | .tok _ => { k with credTok := k.credTok - 1 }
  | .pkt _ => { k with credPkt := k.credPkt - bodyUnits b, sincePkt := 0 }
  | .dtr _ _ _ _ _ => { k with credDtr := k.credDtr - bodyUnits b, sinceDtr := 0 }
  | .ctl _ => k

/-- Bytes of a frame: header, body and CRC (R281). -/
def wholeBytes (b : Body) : Nat := bodyBytes b + 8
/-- Bytes in the retry buffer (R287). -/
def Link.retryBytes (k : Link) : Nat := sumNat (k.retry.map (fun f => wholeBytes f.body))
/-- The retry buffer has no room for a frame, or 2,048 frames are unacknowledged (R287). -/
def Link.retryFull (k : Link) (b : Body) : Bool := decide (2048 ≤ k.retry.length ∨ 16384 < k.retryBytes + wholeBytes b)
/-- The CTL body due (R287, R288), and the receiver after it. -/
def Link.ctlBody (k : Link) : Ctl :=
  { ack := if k.gotAny then some (k.rxSeq - 1) else none, nak := k.nakDue, xch := min 4096 k.retXch, pkt := min 512 k.retPkt
    tok := min 64 k.retTok, dtr := min 256 k.retDtr }
def Link.ctlSent (k : Link) : Link :=
  { k with nakDue := false, arrived := 0, retXch := k.retXch - min 4096 k.retXch, retPkt := k.retPkt - min 512 k.retPkt
           retTok := k.retTok - min 64 k.retTok, retDtr := k.retDtr - min 256 k.retDtr }

/-- Sends a new sequenced frame of the class that is next, if one waits and the retry buffer has room (R287 to R289). -/
def State.sendNew (s : State) (l : Nat) : State :=
  let k := s.link l
  match s.nextBody l with
  | none => s.send l .idl
  | some b =>
    if k.retryFull b then s.send l .idl
    else
      let s := s.dequeue l b
      let s := s.setLink l (k.sent b (firstFor l s.lat.dtrOut).isSome (firstFor l s.lat.pktOut).isSome)
      s.send l (.frame k.txSeq b)

/-- The transmitter after frame `i` of the retry buffer has been sent again (R287). -/
def Link.resent (k : Link) (i : Nat) (f : SentFrame) : Link :=
  { k with retry := k.retry.set i { f with sent := f.sent + 1 }, cntRetry := satInc k.cntRetry 0xFFFFFFFF
           resendAt := if i + 1 < k.retry.length then some (i + 1) else none }

/-- A frame that a detoured link would have carried travels as a DTR frame of the link that the detour uses (R309). -/
def State.detourFrame (s : State) (l : Nat) (out : Nat) (ctlDue : Bool) : State :=
  let k := s.link l
  let far := k.farId.getD 0
  let farLink := match k.peer with | some p => p.link0 | none => 0
  let wrap := fun (q : BitVec 12) (b : Body) => Body.dtr far s.moduleId farLink q.toNat b
  if k.nakDue || ctlDue || decide (16 ≤ k.arrived) then
    let s := s.setLink l k.ctlSent
    { s with lat := { s.lat with dtrOut := s.lat.dtrOut ++ [(out, wrap 0 (.ctl k.ctlBody))] } }
  else
    match k.resendAt.bind (fun i => (k.retry[i]?).map (fun f => (i, f))) with
    | some (i, f) =>
      let s := s.setLink l (k.resent i f)
      { s with lat := { s.lat with dtrOut := s.lat.dtrOut ++ [(out, wrap f.seq f.body)] } }
    | none =>
      match s.nextBody l with
      | none => s
      | some b =>
        if k.retryFull b then s
        else
          let s := (s.dequeue l b).setLink l (k.sent b false false)
          { s with lat := { s.lat with dtrOut := s.lat.dtrOut ++ [(out, wrap k.txSeq b)] } }

/-- The first item that is due on an up link after a frame mark (R289): SKP, CTL, a resend, the frame that the class order selects,
IDL. -/
def State.sendDue (s : State) (l : Nat) (ctlDue skpDue : Bool) : State :=
  let k := s.link l
  if skpDue then s.send l .skp
  else if k.nakDue || ctlDue || decide (16 ≤ k.arrived) then (s.setLink l k.ctlSent).send l (.frame 0 (.ctl k.ctlBody))
  else
    match k.resendAt with
    | some i =>
      match k.retry[i]? with
      | some f => (s.setLink l (k.resent i f)).send l (.frame f.seq f.body)
      | none => (s.setLink l { k with resendAt := none }).sendNew l
    | none => s.sendNew l

/-- FRAME_TRANSMIT (R289): at a gap between frames the first due item goes out, a training set in bring-up and retraining, else a
frame mark where one waits. `ctlDue` and `skpDue` say that a timer of R287 or Table 10-3 has made one due; `delay` is the time of
the gap after the mark's instant. The frames of a DOWN link go by its detour while its bring-up is tried again. -/
def execFrameTransmit (l : LinkId) (ctlDue skpDue : Bool) (delay : BitVec 10) (s : State) : Out :=
  let k := s.link l
  let s := match k.st, k.detour with
    | .down, some d => s.detourFrame l d.2 ctlDue
    | _, _ => s
  if s.sendsTs l then .next (s.sendTs l)
  else if k.st ≠ .up ∨ k.txSleep = true then .next s
  else if k.markDue then .next (s.sendMark l delay.toNat)
  else .next (s.sendDue l ctlDue skpDue)

/-- RETRY_ACK_TIMEOUT (R287): every unacknowledged frame is sent again. -/
def execRetryAckTimeout (l : LinkId) (s : State) : Out :=
  let k := s.link l
  if (k.st = .up ∨ (k.st = .down ∧ k.detour.isSome = true)) ∧ k.retry ≠ [] then
    .next (s.setLink l { k with resendAt := some 0, ackOuts := k.ackOuts + 1 }) else .next s

/-! ### Sleep (R303) -/

/-- Nothing keeps the transmitter awake. -/
def State.maySleep (s : State) (l : Nat) : Bool :=
  let k := s.link l
  decide (k.st = .up) && decide (s.rfld (lnkCtl l) 6 1 = 1) && (firstFor l s.lat.slotOut).isNone &&
  (firstFor l s.lat.tokOut).isNone && (firstFor l s.lat.dtrOut).isNone && (firstFor l s.lat.pktOut).isNone &&
  k.resendAt.isNone && k.retry.isEmpty && !k.nakDue && decide (k.arrived = 0) &&
  decide (k.retXch + k.retPkt + k.retTok + k.retDtr = 0) && !s.linkNamed l Tenant.runnable && !s.carriesDetour l && decide (s.thy.srcLink ≠ some l)

/-- LINK_SLEEP_ENTER (R303): the transmitter sends SLP and goes to electrical idle. -/
def execLinkSleepEnter (l : LinkId) (s : State) : Out :=
  if s.maySleep l && !(s.link l).txSleep then .next ((s.updLink l (fun k => { k with txSleep := true, markDue := false })).send l .slp)
  else .next s
/-- LINK_WAKE (R303): a sleeping transmitter that something keeps awake sends WAK. -/
def execLinkWake (l : LinkId) (s : State) : Out :=
  if (s.link l).txSleep && !s.maySleep l then .next ((s.updLink l (fun k => { k with txSleep := false })).send l .wak)
  else .next s
/-- SLP_RECEIVE (R303): SLP followed by idle is sleep, not loss of signal. -/
def execSlpReceive (l : LinkId) (line : LineIn) (s : State) : Out :=
  let s := (s.takeLine l line).2
  if s.isUp l then .next (s.updLink l (fun k => { k with rxSleep := true })) else .next s
/-- WAK_RECEIVE (R303). -/
def execWakReceive (l : LinkId) (line : LineIn) (s : State) : Out :=
  let s := (s.takeLine l line).2
  if s.isUp l then .next (s.updLink l (fun k => { k with rxSleep := false })) else .next s

/-! ### LNK registers (R296, R298, R300, R302, R304) -/

/-- LNK_CTL is answered from IDLE onward. -/
def State.setLnkFld (s : State) (l lsb w v : Nat) : State := s.setReg (lnkCtl l) (setFld (s.reg (lnkCtl l)) lsb w v)

/-- LNK_ENABLE (R296). -/
def execLnkEnable (l : LinkId) (s : State) : Out :=
  if s.dev.mode.configured then .next ((s.setLnkFld l 0 1 1).startLink l) else .next s
/-- LNK_DISABLE (R300, Table 10-17): refused while a loaded image names the link or it carries a detour. -/
def execLnkDisable (l : LinkId) (s : State) : Out :=
  if !s.dev.mode.configured then .next s
  else if s.testBarred l then .next (s.accState (lnkCtl l))
  else
    let s := s.setLnkFld l 0 1 0
    .next (s.changeLink l (s.link l).toOff)
/-- LNK_MODE_WRITE (R300, R301, Table 10-14): the pattern of a far-end loopback runs only once the far end has granted it. -/
def execLnkModeWrite (l : LinkId) (mode : BitVec 3) (prbs : BitVec 2) (s : State) : Out :=
  let m := if 5 ≤ mode.toNat then 0 else mode.toNat
  let k := s.link l
  if !s.dev.mode.configured then .next s
  else if k.st = .fastRt ∨ k.st = .fullRt then .next (s.accState (lnkCtl l))
  else if m ≠ 0 ∧ s.testBarred l = true then .next (s.accState (lnkCtl l))
  else
    let was := s.lnkMode l
    let s := (s.setLnkFld l 1 3 m).setLnkFld l 4 2 prbs.toNat
    if m ≠ 0 then
      let s := s.changeLink l { k.toOff with st := .test }
      .next (if m = 4 then s else s.prbsCounts l)
    else if was ≠ 0 then .next ((s.setLink l k.toOff).startLink l)
    else .next s
/-- LNK_RETRAIN (R304): FULL_RT starts at once, from UP or FAST_RT. -/
def execLnkRetrain (l : LinkId) (s : State) : Out :=
  let k := s.link l
  if s.dev.mode.configured = true ∧ (k.st = .up ∨ k.st = .fastRt) then .next (s.changeLink l k.enterFull) else .next s
/-- LNK_CLR_CNT (Table 10-17); a pattern that runs is counted from here. -/
def execLnkClrCnt (l : LinkId) (s : State) : Out :=
  if s.dev.mode.configured then
    let s := s.updLink l (fun k => { k with
      cntCrc := 0, code0 := 0, code1 := 0, cntRetry := 0, fast := 0, full := 0, downs := 0, losses := 0
      prbsErr0 := 0, prbsErr1 := 0, prbsBits := 0 })
    let k := s.link l
    .next (if k.st = .test ∧ (s.lnkMode l ≠ 4 ∨ k.loopAcked = true) then s.prbsCounts l else s)
  else .next s
/-- LNK_ID_WRITE (R298 and Table 10-16): refused while a loaded image names a link; every link in IDENT or beyond then
enters FULL_RT. -/
def execLnkIdWrite (id : ModId) (valid : Bool) (tag : BitVec 16) (s : State) : Out :=
  if !s.dev.mode.configured then .next s
  else if (List.range 144).any (fun l => s.linkNamed l (fun _ => true)) then .next (s.accState 0x100000)
  else
    let s := s.setReg 0x100000 (id.val + 256 * b2n valid + 2 ^ 16 * tag.toNat)
    let old := s.nbrSet
    .next (((List.range 144).foldl (fun s l =>
      let k := s.link l
      if k.st = .ident ∨ k.st = .up ∨ k.st = .fastRt ∨ k.st = .fullRt then s.setLink l k.enterFull else s) s).nbrSince old)

end Sys2Proof.Machine
end

