-- ==== Sys2Proof/Machine/ThymeCmd.lean ====
section
/-!
DEFINITION. The commands of Thyme: the two clocks' ticks, steps, marks, holdover, the mark output and timed starts (R290,
R369 to R382).
-/
namespace Sys2Proof.Machine

/-- THYME_TICK (R369, R321, R290): the tick reaches the routers too, and a microsecond that passes makes marks due. -/
def execThymeTick (s : State) : Out :=
  if s.thy.runs then .next (s.nocTick.thyTick.marksSince (s.thy.ns / 1000)) else .next s

/-- BACKUP_COUNT_TICK (R374): the backup oscillator advances the backup count while BKP is supplied. -/
def execBackupCountTick (s : State) : Out :=
  if s.dev.mode = .off then .next s
  else
    let f := s.thy.bkpFrac + 1
    .next { s with thy := { s.thy with bkpFrac := f % 32768, bkpSec := (s.thy.bkpSec + f / 32768) % 2 ^ 48 } }

/-- THY_INC_APPLY (R370): THY_INC_NS is written. -/
def execThyIncApply (v : BitVec 4) (s : State) : Out := if s.dev.mode.configured then .next (s.writeIncNs v.toNat) else .next s
/-- THY_SET (R371). -/
def execThySet (s : State) : Out := if s.dev.mode.configured then .next s.thySet else .next s
/-- THY_ADJ (R371). -/
def execThyAdj (v : Word) (s : State) : Out := if s.dev.mode.configured then .next (s.thyAdj v) else .next s

/-! ### Marks -/

/-- FMK_SEND (R290, R375): the mark that waits on an up link goes out. -/
def execFmkSend (l : LinkId) (delay : BitVec 10) (s : State) : Out :=
  if s.isUp l && (s.link l).markDue then .next (s.sendMark l delay.toNat) else .next s

/-- FMK_RECEIVE (R290, R376, R377): a mark arrives, `sub` units of 31.25 ps after the tick of its stamp. A link whose mark is not valid is
no candidate until its next valid one; the source stays until its loss. -/
def execFmkReceive (l : LinkId) (line : LineIn) (mseq : BitVec 16) (delay : BitVec 10) (tvalid : Bool) (src : ModId) (stratum : Byte) (crcBad : Bool)
    (sub : Fin 80) (s : State) : Out :=
  let s := (s.takeLine l line).2
  if !s.isUp l then .next s
  else if crcBad then .next (s.updLink l (fun k => { k with code0 := satInc k.code0 0xFFFF }))
  else
    let ok := tvalid && decide (stratum.toNat < 255)
    let m := if ok then Map.set s.thy.marks l (stratum.toNat, src.val)
      else if s.thy.srcLink = some l.val then s.thy.marks else Map.del s.thy.marks l
    let s := { s with thy := { s.thy with marks := m } }
    let s := if s.thySrc = 2 ∧ s.thy.srcLink = none then s.takeSource 0xFF else s
    if ok ∧ s.thySrc = 2 ∧ s.thy.srcLink = some l.val then
      .next (s.steerMark l mseq.toNat delay.toNat sub stratum.toNat)
    else .next s

/-- THY_SOURCE_LOSS (R376): no valid mark on the source link for 5 µs. -/
def execThySourceLoss (s : State) : Out :=
  match s.thy.srcLink with
  | some l =>
    if s.thySrc = 2 then
      .next (({ s with thy := { s.thy with marks := Map.del s.thy.marks l, srcLink := none } }).takeSource l)
    else .next s
  | none => .next s

/-- THY_SOURCE_PREFER (R376): a better link, preferred for 1 ms without a break. -/
def execThySourcePrefer (l : LinkId) (s : State) : Out :=
  match s.thy.srcLink with
  | some c =>
    if s.thySrc = 2 ∧ s.bestMark = some l.val ∧ s.markLt l c = true then .next { s with thy := { s.thy with srcLink := some l.val } }
    else .next s
  | none => .next s

/-- THYME_MARK_IN_EDGE (R379): stamped and counted in every mode of Thyme; in MARK_IN it marks a whole second. -/
def execThymeMarkInEdge (s : State) : Out :=
  if !s.thy.runs then .next s
  else
    let t := s.thy
    let s := { s with thy := { t with minSec := t.sec, minNs := t.ns, minCnt := satInc t.minCnt 0xFFFFFFFF } }
    let s := s.trace 0x13 0xFF 5 (leBytes t.sec 8 ++ leBytes t.ns 4 ++ zeros 4)
    if s.thySrc = 1 then
      let r := s.nearest t.ns 1000000000
      let s := { r.2 with thy := { r.2.thy with holdover := false } }
      .next (s.steer (r.1 * 4000) 0xFF 0)
    else .next s
/-- MARK_IN_HOLDOVER (R379): no edge for 1.5 s. -/
def execMarkInHoldover (s : State) : Out := if s.thySrc = 1 then .next (s.thyHoldover 0xFF) else .next s

/-! ### The mark output (R380) -/

/-- MARK_OUT_RISE (R380): the latest tick is the first at which Thyme has reached a multiple of PERIOD_US. -/
def execMarkOutRise (s : State) : Out :=
  let p := s.rfld 0x40050 12 20 * 1000
  if s.rfld 0x40050 0 1 = 1 ∧ s.thy.valid = true ∧ s.dev.mode.configured = true ∧ s.dev.mode ≠ .safe ∧
      s.thy.total % p * 2 ^ 32 + s.thy.frac < s.thy.inc then
    .next { s with thy := { s.thy with markOut := true } }
  else .next s
/-- MARK_OUT_FALL (R380): the pulse has lasted (WIDTH + 1) × 100 ns. -/
def execMarkOutFall (s : State) : Out := .next { s with thy := { s.thy with markOut := false } }

/-! ### Timed starts (R381) -/

def State.tslot (s : State) (k : Nat) : TStart := Map.get s.thy.slots {} k
def State.setTslot (s : State) (k : Nat) (v : TStart) : State := { s with thy := { s.thy with slots := Map.set s.thy.slots k v } }
/-- Offset of THY_TSTART[k]. -/
def tstartReg (k : Nat) : Nat := 0x40100 + 0x20 * k
/-- Thyme has reached the time T of a slot. -/
def State.tslotDue (s : State) (k : Nat) : Bool :=
  s.thy.reached (s.reg (tstartReg k + 0xC) + 2 ^ 32 * s.reg (tstartReg k + 0x10)) (s.reg (tstartReg k + 8))
/-- THY_TSTART[k] is written whole: its command and tenant, and ARM. -/
def State.writeTstart (s : State) (k v : Nat) : State :=
  let off := tstartReg k
  let q := s.tslot k
  let cfg := v &&& 0xFF02
  if q.arm then
    let s := if cfg = s.reg off then s else s.accState off
    if bit v 0 = 0 then s.setTslot k { q with arm := false } else s
  else
    let s := s.setReg off cfg
    if bit v 0 = 0 then s
    else if s.thy.valid then s.setTslot k { q with arm := true, lateArm := s.tslotDue k }
    else s.accState off
/-- A slot's other registers are written: not while it is armed. -/
def State.writeTstartArg (s : State) (k off v : Nat) : State :=
  if (s.tslot k).arm then s.accState off else s.setReg off (if off = tstartReg k + 4 ∧ v = 0 then 1 else v)

/-- TSTART_ARM (R381): tenant 0 writes the command and the tenant with ARM = 1. -/
def execTstartArm (k : Fin 4) (step : Bool) (ten : TenId) (s : State) : Out :=
  if s.dev.mode.configured then .next (s.writeTstart k (1 + 2 * b2n step + 256 * ten.val)) else .next s

/-- TSTART_FIRE (R381): Thyme has reached T. STATUS is that of the RUN command at its acceptance (log entry 33). -/
def execTstartFire (k : Fin 4) (span : SpanAns) (s : State) : Out :=
  let q := s.tslot k
  if q.arm = true ∧ s.tslotDue k = true then
    let c := s.reg (tstartReg k)
    let t := fld c 8 8
    let done := fun (s : State) (st : Nat) => s.setTslot k { arm := false, lateArm := false, late := q.lateArm, status := st }
    let fail := fun (s : State) (st : Nat) => (done s st).report 0x0853 clsEvent 0 none (k.val + 2 ^ 8 * t + 2 ^ 16 * st)
    if s.dev.mode = .safe then .next (fail s stBadMode)
    else
      match s.startRefusal t span with
      | some st => .next (fail (s.recordRefusal t st) st)
      | none =>
        let kind : ReqKind := if bit c 1 = 1 then .step (s.reg (tstartReg k + 4)) else .start
        .next ((done s stOk).request t kind none)
  else .next s

end Sys2Proof.Machine
end

