-- ==== Sys2Proof/Machine/RegRead.lean ====
section
/-!
DEFINITION. What a read of each register returns (Table 18-1 and the register tables of the owning chapters): registers that
software writes from their stored words, the others as views of the state; latched words from `State.latch` (R483). Offsets are
within the block.
-/
namespace Sys2Proof.Machine

/-- A word from fields given as (least bit, value). -/
def pack (l : List (Nat × Nat)) : Nat := l.foldl (fun a x => a + 2 ^ x.1 * x.2) 0
/-- A signed number in `w` bits, two's complement. -/
def twos (w : Nat) (x : Int) : Nat := (x % (2 ^ w : Nat)).toNat
/-- The word that a low register's read has latched at an offset. -/
def State.latched (s : State) (off : Nat) (d : Word) : Nat := (Map.get s.latch d off).toNat

/-! ### DEV, PWR, CLK, ANA (Tables 18-2, 9-7 to 9-10, 16-12, 17-4) -/

/-- Fused values are read from the end of RESET (R487). -/
def State.fusesRead (s : State) : Bool := s.dev.mode.afterReset
def State.readDev (s : State) (o : Nat) : Nat :=
  if o = 0 then 0x00012192 + (if s.fusesRead && Config.gradeE then 2 ^ 24 else 0)
  else if o = 8 then (if s.fusesRead then Config.serial.toNat % 2 ^ 32 else 0)
  else if o = 0xC then (if s.fusesRead then Config.serial.toNat / 2 ^ 32 else 0)
  else if o = 0x20 then s.devModeWord
  else if o = 0x24 then b2n s.dev.holdBit
  else 0

def State.readPwr (s : State) (o : Nat) : Nat :=
  let p := s.pwr
  if o = 0 then
    pack [(0, b2n s.dev.vinOk), (1, b2n p.fastCap), (2, b2n p.limiter), (3, b2n p.small), (4, p.hub), (6, b2n s.dev.derate),
      (7, b2n s.dev.floor), (8, b2n p.thermalWarn)]
  else if o = 0x10 then pack [(0, p.vin), (16, p.iin)]
  else if o = 0x14 then pack [(0, p.pIn), (16, p.pTh)]
  else if o = 0x18 then pack [(0, p.pNt), (16, p.pLk)]
  else if o = 0x1C then pack [(0, p.vt), (8, p.cap)]
  else if o = 0x20 then pack [(0, twos 10 p.tMax), (10, p.tSrc)]
  else if o = 0x24 then pack [(0, b2n p.bkpReset), (1, b2n p.vbatLow), (2, b2n p.vbatAbsent), (16, p.vbat)]
  else if 0x100 ≤ o ∧ o < 0x208 then
    let v := s.domain ((o - 0x100) / 4)
    pack [(0, bit (s.reg (0x10000 + o)) 0), (1, b2n v.on), (2, b2n v.good), (3, b2n v.fault)]
  else if 0x400 ≤ o ∧ o < 0x620 then
    if o % 8 = 0 then (Map.get p.energy 0 ((o - 0x400) / 8)).toNat % 2 ^ 32 else s.latched (0x10000 + o) 0
  else if 0x800 ≤ o ∧ o < 0x838 then
    let c := (o - 0x800) / 4
    let n := s.phasesShed c
    pack [(0, s.phasesLeft c), (4, min 15 n), (8, b2n (decide (n ≠ 0))), (16, Map.get p.load 0 c)]
  else s.reg (0x10000 + o)

def State.readClk (s : State) (o : Nat) : Nat :=
  let c := s.clk
  if o = 4 then
    pack [(0, srcCode c.root), (2, b2n c.xtalProven), (3, b2n c.refProven), (4, c.refFreq), (6, b2n c.trimValid),
      (7, b2n c.holdover), (8, b2n (decide (c.root ≠ .none ∧ s.pwr.hub ≠ 0))), (9, b2n c.pclkOk)]
  else if o = 8 then pack [(0, twos 16 c.trim), (16, twos 8 (clampInt (-128) 127 c.err))]
  else if o = 0xC then
    pack [(0, c.rstCause), (3, b2n c.savedUsed), (8, c.ioscRetry), (16, c.extRetry), (24, b2n c.switched)]
  else s.reg (0x20000 + o)

/-- ANA_RES of an input (Table 17-4). -/
def AnaRes.word (r : AnaRes) : Nat :=
  pack [(0, twos 16 r.value), (16, b2n r.valid), (17, b2n r.high), (18, b2n r.ovr), (19, b2n r.changed), (20, b2n r.isOpen),
    (21, b2n r.urgent), (24, r.count % 256)]
def State.readAna (s : State) (o : Nat) : Nat :=
  let a := s.ana
  if o = 4 then
    pack [(0, a.rota.length + (match a.spare with | some _ => 1 | none => 0)), (3, a.spare.getD 7), (6, b2n a.failed),
      (16, min 0xFFFF a.pass)]
  else if o = 8 then a.alarm % 2 ^ 32
  else if o = 0xC then a.alarm / 2 ^ 32
  else if 0x100 ≤ o ∧ o < 0x180 then
    let e := (o - 0x100) / 4
    pack [(0, anaInput e), (6, b2n (s.anaEn e)), (7, s.anaMode e), (9, b2n (s.anaOw e)), (10, b2n (s.anaOwned e))]
  else if 0x400 ≤ o ∧ o < 0x4A0 then (Map.get a.res {} ((o - 0x400) / 4)).word
  else if 0x500 ≤ o ∧ o < 0x5A0 then
    let r := Map.get a.res {} ((o - 0x500) / 4)
    pack [(0, r.code), (16, r.slice)]
  else s.reg (0x30000 + o)

/-! ### THY, CFG, SAGE (Tables 13-6, 13-7, 15-13, 16-13) -/

/-- A signed 32-bit value, saturating. -/
def sat32 (x : Int) : Nat := twos 32 (clampInt (-2147483648) 2147483647 x)
def State.readThy (s : State) (o : Nat) : Nat :=
  let t := s.thy
  if o = 0 then
    pack [(0, b2n t.valid), (1, b2n t.fromBackup), (2, b2n t.locked), (3, b2n t.holdover), (4, b2n t.stepped), (8, s.stratum),
      (16, t.srcLink.getD 0xFF)]
  else if o = 0x10 then t.ns
  else if o = 0x14 ∨ o = 0x18 ∨ o = 0x1C ∨ o = 0x64 ∨ o = 0x68 then s.latched (0x40000 + o) 0
  else if o = 0x30 then (if s.thySrc = 0 then s.reg 0x40030 else t.inc % 2 ^ 32)
  else if o = 0x34 then (if s.thySrc = 0 then s.reg 0x40034 else t.inc / 2 ^ 32)
  else if o = 0x3C then sat32 t.offset
  else if o = 0x60 then t.minNs
  else if o = 0x6C then t.minCnt
  else if 0x100 ≤ o ∧ o < 0x180 ∧ o % 0x20 = 0 then
    let q := s.tslot ((o - 0x100) / 0x20)
    pack [(0, b2n q.arm), (2, b2n q.late), (16, q.status)] + s.reg (0x40000 + o)
  else s.reg (0x40000 + o)

def State.readCfg (s : State) (o : Nat) : Nat :=
  let c := s.cfg
  if o = 0 then pack [(0, c.lc), (3, c.bootSrc), (6, b2n c.trial), (7, b2n (!c.bad.isEmpty))]
  else if o = 4 then c.bootSeq
  else if 0x10 ≤ o ∧ o < 0x28 then
    let r := s.stageRec ((o - 0x10) / 8)
    if o % 8 = 0 then r.cseq else r.stage.code
  else if 0x30 ≤ o ∧ o < 0x40 then s.mc ((o - 0x30) / 4)
  else if o = 0x60 then s.updStatWord
  else if o = 0x74 then pack [(0, c.ce), (16, c.ue)]
  else if o = 0x78 then
    pack [(0, min 0xFFFFF (c.flash.erases.foldl (fun a e => max a e.2) 0)), (20, 14 - c.flash.sparesUsed),
      (24, b2n (!c.flash.worn.isEmpty)), (25, c.flash.retiredN)]
  else if o = 0x7C then c.flashRetries
  else if o = 0x80 then pack [(0, c.cspSel), (2, b2n c.cspDead), (8, c.cspTimeouts)]
  else s.reg (0x50000 + o)

def State.readSage (s : State) (o : Nat) : Nat :=
  let g := s.sage
  if o = 0 then pack [(0, g.post), (8, g.tilesFailed), (16, g.colRepairs), (24, g.failUnit)]
  else if 0x10 ≤ o ∧ o < 0x30 then
    let n := (o - 0x10) / 4
    (g.tfail.filter (fun x => decide (x / 25 = n))).foldl (fun a x => a ||| 2 ^ (x % 25)) 0
  else if o = 0x104 then pack [(0, g.state), (8, g.test), (16, g.fails)]
  else if 0x1000 ≤ o ∧ o < 0x1640 then
    let v := (Map.get g.sig 0 ((o - 0x1000) / 8)).toNat
    if o % 8 = 0 then v % 2 ^ 32 else v / 2 ^ 32
  else s.reg (0x60000 + o)

/-! ### ERR and its log window (Tables 7-2, 7-4, 7-9, 7-12) -/

/-- The spec names the unit that SOURCE holds: the tile of 0x0100 to 0x0104 (R218), and R312, R338, R368, R424, R479. -/
def sourceNamed (code : Nat) : Bool :=
  decide ((0x100 ≤ code ∧ code ≤ 0x104) ∨ (0x200 ≤ code ∧ code < 0x300) ∨ (0x360 ≤ code ∧ code ≤ 0x363) ∨
    (0x500 ≤ code ∧ code ≤ 0x50A) ∨ (0x600 ≤ code ∧ code < 0x800 ∧ code ≠ 0x604))
/-- SOURCE of an entry (Table 7-9; what the spec leaves open is free, log entry 54). -/
def sourceWord (code src : Nat) : Nat :=
  if sourceNamed code then src % 2 ^ 11 + 2 ^ 11 * (Config.unitType code src).toNat else (Config.entrySource code src).toNat
/-- The 32 bytes of the entry with number `seq` (Table 7-9). -/
def Report.bytes (r : Report) (seq : Nat) : List Byte :=
  leBytes seq 4 ++ leBytes r.code 2 ++ leBytes r.cls 1 ++
    leBytes (b2n r.ten.isSome + 2 * b2n (decide (r.count = 0xFFFFFFFF))) 1 ++ leBytes (sourceWord r.code r.src) 2 ++ leBytes (r.ten.getD 0) 1 ++ zeros 1 ++
    leBytes r.count 4 ++ leBytes r.firstS 4 ++ leBytes r.firstNs 4 ++ leBytes r.detail 8
/-- A word of the log window: of the entry written last at its place, and zero where none has been since RESET (R500). -/
def State.readLog (s : State) (o : Nat) : Nat :=
  let i := o / 32
  match s.fm.ring.find? (fun e => decide (e.1 = i)) with
  | some e =>
    let last := (s.fm.widx - 1).toNat
    leAt (e.2.bytes (last - (last + 1024 - i) % 1024)) (o % 32) 4
  | none => 0
/-- SPARE_USED of ERR_FM_STAT. -/
def State.readErr (s : State) (o : Nat) : Nat :=
  let f := s.fm
  if o = 0 then f.widx.toNat
  else if o = 4 then f.ridx.toNat
  else if o = 8 then pack [(0, b2n f.overflow), (1, b2n f.pend), (16, f.lost)]
  else if o = 0x14 then pack [(0, f.spareUsed), (8, f.failed), (16, f.recoveries)]
  else if o = 0x18 then f.dropped
  else if 0x1000 ≤ o ∧ o < 0x1400 then fld (s.reg (0x70000 + o)) 0 24 + 2 ^ 24 * s.intEff ((o - 0x1000) / 4)
  else if 0x2000 ≤ o ∧ o < 0x2300 then
    let r := s.remap ((o - 0x2000) / 4)
    if s.fusesRead then
      pack [(0, r.ptile), (8, r.epoch), (12, b2n r.onSpare), (13, b2n r.runtime), (14, b2n r.failed)]
    else 0
  else if 0x8000 ≤ o ∧ o < 0x10000 then s.readLog (o - 0x8000)
  else s.reg (0x70000 + o)

/-! ### HIF and SCH (Tables 12-15, 8-6 to 8-13, 1-9, 2-5, 5-15, 5-16) -/

def State.readHif (s : State) (o : Nat) : Nat :=
  let h := s.host
  if o = 0 then (if h.linkUp then pack [(0, h.rate), (3, h.width), (8, b2n h.flit), (9, b2n h.l0p)] else 0)
  else if o = 4 then pack [(0, h.numVfs), (9, b2n h.vfEn)]
  else if o = 8 then min 16 h.xfers.length
  else if o = 0x104 then pack [(0, b2n h.smbDead), (1, b2n h.smbDatLow), (2, b2n h.smbClkLow), (8, h.smbTimeouts)]
  else if 0x1000 ≤ o ∧ o < 0x1400 then
    let t := (o - 0x1000) / 4
    let ens := fun (f : Nat → Bool) => (List.range 8).foldl (fun a r => if f r then a ||| 2 ^ r else a) 0
    pack [(0, ens (fun r => (s.sq t r).en)), (8, ens (fun r => (s.cq t r).en)), (16, b2n (s.fnUp t))]
  else s.reg (0x80000 + o)

/-- Codes of Table 1-7. -/
def RunState.code (r : RunState) : Nat :=
  match r with | .stopped => 0 | .running => 1 | .stepping => 2 | .held => 3 | .swapped => 4
/-- The mode stops a tenant from advancing although its state would let it (Table 1-9). -/
def State.suspended (s : State) (t : Nat) : Bool :=
  let v := s.ten t
  v.run.advancing && (decide (s.dev.mode = .safe) || v.devHeld || v.recov.isSome || (v.affected && decide (s.dev.mode = .refit)))
/-- SCH_TSTATE (Table 1-9). -/
def State.tstate (s : State) (t : Nat) : Nat :=
  let v := s.ten t
  pack [(0, v.run.code), (3, if v.run = .swapped then v.back.code else 0), (6, b2n v.img.isSome), (7, b2n (s.suspended t)),
    (8, if v.eff = .held then v.firstHold else 0), (12, b2n v.affected)]
/-- SCH_FORECAST (R237, R252, Table 8-11). -/
def State.tforecast (s : State) (t : Nat) : Nat :=
  let p := match s.readyList.findIdx? (fun x => decide (x = t)) with | some i => i + 1 | none => 0
  let never := decide (p ≠ 0) && s.neverFits t
  pack [(0, p), (9, b2n never), (10, if p = 0 then 0 else if never then 2 ^ 22 - 1 else s.swapWait t p)]
/-- SCH_TENERGY (Table 8-11). -/
def State.tenergy (s : State) (t : Nat) : Nat :=
  pack [(0, min 0xFFFF (Map.get s.sched.energy 0 t)),
    (16, if s.inTiles t && (s.ten t).runnable then min 0xFFFF (s.powerT t / 100000) else 0)]
/-- SCH_DEBUG (Table 5-15). -/
def State.tdebug (s : State) (t : Nat) : Nat :=
  fld (s.reg (0x94000 + 4 * t)) 0 7 + 2 ^ 8 * b2n (s.ten t).hazFlag + 2 ^ 9 * b2n (s.detects t)
/-- SCH_THOLD (Table 8-13). -/
def State.thold (s : State) (t : Nat) : Nat := causeBits (s.ten t).holds
/-- SCH_BW_CLASS (Table 8-8): the wait of the newest request is the tokens ahead of it by the class's mean grant (R252). -/
def State.bwClass (s : State) (c : Nat) : Nat :=
  let q := Map.get s.sched.tokens [] c
  let ahead := sumNat (q.dropLast.map (fun r => r.tokens))
  let g := sumNat (Map.get s.sched.granted [] c)
  let us := if q.isEmpty then 0 else if g = 0 then 0xFFFF else min 0xFFFF ((64 * ahead + g - 1) / g)
  pack [(0, s.rfld (0x90040 + 4 * c) 0 7), (8, min 0xFF q.length), (16, us)]
def State.readSch (s : State) (o : Nat) : Nat :=
  let t := o % 0x400 / 4
  if o = 4 then pack [(0, s.freeTiles.length), (8, s.readyList.length), (17, b2n s.sched.swap.isSome)]
  else if o = 8 then pack [(0, min 0xFFFF (s.sched.pb / 100)), (16, min 0xFFFF (s.demandAt s.spaceSet s.sched.fMsps / 100000))]
  else if o = 0xC then pack [(0, s.sched.rate), (16, min 0xFFFF s.sched.resv)]
  else if 0x40 ≤ o ∧ o < 0x58 then s.bwClass ((o - 0x40) / 4)
  else if 0x1000 ≤ o ∧ o < 0x1400 then s.tstate t
  else if 0x2C00 ≤ o ∧ o < 0x3000 then s.tforecast t
  else if 0x3000 ≤ o ∧ o < 0x3400 then
    pack [(0, s.window t), (8, (s.ten t).diam), (16, s.lag t % 2 ^ 12), (28, b2n (s.ten t).spans)]
  else if 0x3400 ≤ o ∧ o < 0x3800 then s.tenergy t
  else if 0x3800 ≤ o ∧ o < 0x3C00 then s.thold t
  else if 0x4000 ≤ o ∧ o < 0x4400 then s.tdebug t
  else if 0x4400 ≤ o ∧ o < 0x4800 then (s.ten t).hazLost
  else if 0x5000 ≤ o ∧ o < 0x5300 then
    let l := s.ltile ((o - 0x5000) / 4)
    pack [(0, l.ten), (8, l.itile), (16, b2n l.bound), (17, b2n l.resident), (18, b2n (l.bound && s.pinned l.ten))]
  else s.reg (0x90000 + o)

/-! ### NOC, HUB, DST (Table 11-11) -/

/-- Age class of a node's oldest waiting head, and its turn forecast (R323, Table 11-11). -/
def State.nodeWord (s : State) (node : Nat) : Nat :=
  let n := s.nocSync.refresh
  match n.niHead node with
  | some f => pack [(0, f.age % 16), (8, n.turnOf f)]
  | none => 0
def State.readNoc (s : State) (o : Nat) : Nat :=
  if o = 0 then pack [(0, s.noc.ce), (16, s.noc.damaged)]
  else if o = 4 then pack [(0, s.nocSync.refresh.maxClass % 16), (16, s.nocSync.refresh.class15)]
  else if 0x1000 ≤ o ∧ o < 0x134C then s.nodeWord ((o - 0x1000) / 4)
  else 0
def State.readHub (s : State) (o : Nat) : Nat :=
  if o = 0 then pack [(0, (poolBytes - s.poolHeld) / 2 ^ 20), (9, b2n s.moveWaits), (16, transitFloor - s.transitUnits)]
  else if o = 4 then pack [(0, s.noc.hubCe), (16, s.noc.hubUe), (24, b2n s.noc.poisonSeen)]
  else if o = 8 then s.noc.deepQ.length % 2 ^ 14
  else 0
/-- PINRATE of a hub level (Tables 9-6 and 11-10). -/
def pinRate (h : Nat) : Nat := min 2 h
def State.readDst (s : State) (o : Nat) : Nat :=
  if o < 0x40 then
    let v := s.stack (o / 0x10)
    if o % 0x10 = 0 then pack [(0, v.temp), (8, b2n v.hotRef), (9, b2n v.hot), (10, pinRate s.pwr.hub)]
    else if o % 0x10 = 4 then pack [(0, v.ce), (16, v.ue)]
    else if o % 0x10 = 8 then pack [(0, v.rows), (16, v.noSpare)] else 0
  else s.reg (0xC0000 + o)

/-! ### TRG, CHV, CAP (Tables 6-3 to 6-18, 13-8) -/

def State.readSeq (s : State) (q x : Nat) : Nat :=
  let v := s.seqOf q
  let r := s.reg (trgReg q + x)
  if x = 0 then fld r 0 8 + 2 ^ 8 * b2n v.armed + 2 ^ 9 * fld r 9 7
  else if x = 4 then
    pack [(0, v.st), (4, b2n v.armed), (5, b2n v.holding.isSome), (6, b2n v.frozen), (7, b2n v.actFail), (16, v.taken)]
  else if 0x200 ≤ x ∧ x < 0x300 ∧ x % 32 = 0 then r + 2 ^ 16 * Map.get v.vcount 0 ((x - 0x200) / 32)
  else if 0x300 ≤ x ∧ x < 0x340 ∧ x % 16 = 12 then Map.get v.cnt 0 ((x - 0x300) / 16) % 2 ^ 32
  else if 0x340 ≤ x ∧ x < 0x360 then s.latched (trgReg q + x) 0
  else if x = 0x380 then (match v.viol with | some e => e.1 % 2 ^ 32 | none => 0)
  else if x = 0x384 then (match v.viol with | some e => e.1 / 2 ^ 32 | none => 0)
  else if x = 0x388 then (match v.viol with | some e => pack [(0, e.2.1), (8, e.2.2), (31, 1)] | none => 0)
  else r
def State.readAcq (s : State) (c x : Nat) : Nat :=
  let a := s.acqOf c
  if x = 0 then s.reg (acqReg c) + 2 ^ 14 * b2n a.st.runs
  else if x = 4 then pack [(0, a.st.code), (3, b2n a.ovf), (4, b2n a.gapSeen)]
  else if x = 0x20 then a.widx % 2 ^ 32
  else if x = 0x24 then s.latched (acqReg c + x) 0
  else if x = 0x28 then a.ridx % 2 ^ 32
  else if x = 0x2C then a.ridx / 2 ^ 32
  else if x = 0x30 then a.lost
  else s.reg (acqReg c + x)
def State.readTrg (s : State) (o : Nat) : Nat :=
  if o < 0x8000 then s.readSeq (o / 0x800) (o % 0x800)
  else if o < 0x8400 then s.readAcq ((o - 0x8000) / 0x40) (o % 0x40)
  else s.reg (0xD0000 + o)

def State.readSink (s : State) (k x : Nat) : Nat :=
  let q := s.sink k
  if x = 0 then s.reg (sinkReg k) + 2 ^ 8 * b2n q.en
  else if x = 4 then pack [(0, min 0xFF (q.fill / 1024)), (8, b2n q.lostSeen)]
  else if x = 0x10 then q.widx % 2 ^ 32
  else if x = 0x14 then s.latched (sinkReg k + x) 0
  else if x = 0x18 then q.ridx % 2 ^ 32
  else if x = 0x1C then q.ridx / 2 ^ 32
  else if x = 0x20 then q.lost
  else s.reg (sinkReg k + x)
def State.readChv (s : State) (o : Nat) : Nat :=
  if o = 0 then b2n s.chv.frozen
  else if 0x200 ≤ o ∧ o < 0x254 then Map.get s.chv.srcLost 0 ((o - 0x200) / 4)
  else if 0x2000 ≤ o ∧ o < 0x2200 then s.readSink ((o - 0x2000) / 0x40) (o % 0x40)
  else s.reg (0xE0000 + o)

/-- CAP_TSTAT (Table 6-18). -/
def State.captstat (s : State) (t : Nat) : Nat :=
  pack [(0, min 7 (s.capPending (some t))), (8, (s.ten t).capSlots), (16, (s.ten t).capSeq % 2 ^ 16)]
def State.readCap (s : State) (o : Nat) : Nat :=
  if o = 0 then
    let busy := s.cap.moving.isSome || !s.cap.draining.isEmpty
    pack [(0, s.capPending none % 128), (7, b2n busy), (8, (s.cap.queue.head?.map (fun q => q.ten)).getD 0),
      (16, if s.cap.draining.isEmpty then 0 else s.capRate)]
  else if 0x1000 ≤ o ∧ o < 0x1400 then s.captstat ((o - 0x1000) / 4)
  else if 0x1400 ≤ o ∧ o < 0x1800 then (s.ten ((o - 0x1400) / 4)).capRel
  else 0

/-! ### LNK (Tables 10-16 to 10-19) -/

def State.linksWhere (s : State) (p : Link → Bool) : Nat := ((List.range 144).filter (fun l => p (s.link l))).length
/-- SPARE_OK or SPARE_USED of a side. -/
def sideBits (l : List (Nat × Nat)) (d : Nat) : Nat := (List.range 4).foldl (fun a j => if l.contains (d, j) then a ||| 2 ^ j else a) 0
/-- LNK_STAT (Table 10-18). -/
def State.linkStat (s : State) (l : Nat) : Nat :=
  let k := s.link l
  pack [(0, k.st.code), (4, b2n k.txSleep), (5, b2n k.rxSleep), (6, b2n k.detour.isSome), (7, b2n (s.carriesDetour l)),
    (8, b2n k.laneSwap), (9, k.polInv % 4), (11, b2n k.subst.isSome), (12, k.subst.getD 0 % 2),
    (13, b2n (decide (s.thy.srcLink = some l))), (14, b2n (k.peer.any (fun p => p.idValid))), (15, b2n k.noSignal),
    (16, b2n (s.linkNamed l Tenant.runnable))]
def State.readLink (s : State) (l x : Nat) : Nat :=
  let k := s.link l
  if x = 0 then fld (s.reg (lnkCtl l)) 0 8
  else if x = 4 then s.linkStat l
  else if x = 8 then (match k.peer with | some p => pack [(0, p.mod0.val), (8, p.link0 % 256), (16, p.tag.toNat)] | none => 0)
  else if x = 0x10 then k.cntCrc
  else if x = 0x14 then pack [(0, k.code0), (16, k.code1)]
  else if x = 0x18 then k.cntRetry
  else if x = 0x1C then pack [(0, k.fast), (8, k.full), (16, k.downs), (24, k.losses)]
  else if x = 0x20 then k.prbsErr0
  else if x = 0x24 then k.prbsErr1
  else if x = 0x28 then k.prbsBits % 2 ^ 32
  else if x = 0x2C then s.latched (lnkCtl l + x) 0
  else if x = 0x30 then pack [(0, k.credXch % 2 ^ 13), (16, k.rxBuf.length % 2 ^ 13)]
  else if x = 0x34 then k.rtt
  else if x = 0x38 then (match k.detour with | some d => pack [(0, d.1), (8, d.2), (16, 1)] | none => 0)
  else s.reg (lnkCtl l + x)
def State.readLnk (s : State) (o : Nat) : Nat :=
  if o = 4 then
    pack [(0, s.linksWhere (fun k => decide (k.st = .up))), (8, s.linksWhere (fun k => k.detour.isSome)),
      (16, s.linksWhere (fun k => decide (k.st = .down)))]
  else if 0x100 ≤ o ∧ o < 0x140 ∧ o % 0x10 = 0 then
    let d := (o - 0x100) / 0x10
    pack [(0, sideBits s.lat.spareOk d), (4, sideBits s.lat.spareUsed d)]
  else if 0x10000 ≤ o ∧ o < 0x34000 then s.readLink ((o - 0x10000) / 0x400) (o % 0x400)
  else s.reg (0x100000 + o)

/-! ### EDG (Tables 14-10 to 14-12) -/

/-- The bit of each bank that meets `p`. -/
def State.bankBits (s : State) (p : EdgeBank → Bool) : Nat :=
  (List.range 12).foldl (fun a g => if p (s.bank g) then a ||| 2 ^ g else a) 0
def State.readBank (s : State) (g x : Nat) : Nat :=
  let b := s.bank g
  if x = 4 then 0
  else if x = 8 then
    pack [(0, b.stage.code), (4, b.fsCause), (8, b2n b.vioOk), (9, b2n b.brownout), (16, b.outFifo.length), (24, b.inFifo.length)]
  else if x = 0x20 then b.inRef
  else if x = 0x24 then b.tcyc % 2 ^ 32
  else if x = 0x28 then s.latched (bankReg g + x) 0
  else s.reg (bankReg g + x)
def State.readEdg (s : State) (o : Nat) : Nat :=
  let e := s.edg
  if o = 4 then
    pack [(0, b2n e.fclkOk), (1, b2n e.pr.isSome), (2, b2n (!s.cfg.bad.isEmpty)), (4, s.bankBits (fun b => decide (b.stage = .run))),
      (16, s.bankBits (fun b => decide (b.stage = .failsafe)))]
  else if 0x100 ≤ o ∧ o < 0x400 then s.readBank ((o - 0x100) / 0x40) (o % 0x40)
  else if 0x4000 ≤ o ∧ o < 0x4080 ∧ o % 0x10 = 0 then
    let r := (o - 0x4000) / 0x10
    s.reg (0x200000 + o) + pack [(9, b2n (e.loaded.contains r)), (10, b2n (decide (e.pr = some r)))]
  else if o = 0x410C then pack [(0, b2n e.pr.isSome), (1, b2n (!e.prQueue.isEmpty)), (8, e.prResult), (16, e.prCheck)]
  else s.reg (0x200000 + o)

/-! ### TIL (Tables 2-9, 2-10, 3-13 to 3-17, 4-8, 4-9, 5-11, 5-12) -/

/-- The tile that a physical tile carries; a tile without an image where it carries none. -/
def State.physTile (s : State) (n : Nat) : Tile := match s.ltileOfPhys n with | some l => s.tile l | none => {}
/-- TIL_ARR_REPAIR of bank `p` of a physical tile: fused repairs first, then soft ones (R142); 0 in RESET (R145). -/
def State.arrRepair (s : State) (n p : Nat) : Nat :=
  if s.dev.mode = .reset then 0 else
  let mine := fun (l : List (Nat × Nat × Nat)) (f : Nat) =>
    (l.filter (fun c => decide (c.1 = n ∧ c.2.1 = p))).map (fun c => (c.2.2, f))
  let all := mine s.sage.fused 1 ++ mine s.sage.soft 0
  let at' := fun (i : Nat) => match all[i]? with | some c => c.1 + 2 ^ 7 + 2 ^ 8 * c.2 | none => 0
  at' 0 + 2 ^ 16 * at' 1
/-- A register of a tile's window (Table 18-1). -/
def State.readTil (s : State) (n x : Nat) : Nat :=
  let t := s.physTile n
  if x = 0x10 then t.estat
  else if x = 0x18 then t.lastEnded.toNat % 2 ^ 32
  else if x = 0x1C then s.latched (0x1000000 + 0x10000 * n + x) (BitVec.allOnes 32)
  else if x = 0x40 then t.seqStat
  else if x = 0x44 then t.seqFault
  else if x = 0x48 then t.trapCnt.toNat
  else if x = 0x4C then t.seqCfg0
  else if x = 0x50 then (if t.hasImg then pack [(0, t.spillBase), (16, t.spillWords)] else 0)
  else if 0x80 ≤ x ∧ x < 0xC0 then s.arrRepair n ((x - 0x80) / 4)
  else if x = 0xC0 then
    let e := s.arrErrOf n
    pack [(0, e.ceCount), (16, e.ceBank), (20, b2n e.ue), (21, e.ueBank), (25, e.ueSrc)]
  else if 0x100 ≤ x ∧ x < 0x130 then Map.get t.stall 0 ((x - 0x100) / 4)
  else if x = 0x140 then pack [(0, t.contract), (16, t.viol)]
  else 0

/-! ### The block map (Table 18-1) and the function pages (Table 12-3) -/

/-- The value of the register at offset `off` of PF BAR0, a multiple of 4; 0 where none is assigned (R480). -/
def State.readReg (s : State) (off : Nat) : Nat :=
  let o := off % 0x10000
  if 0x1000000 ≤ off then (if off < 0x1C80000 then s.readTil ((off - 0x1000000) / 0x10000) o else 0)
  else if 0x200000 ≤ off then (if off < 0x210000 then s.readEdg o else 0)
  else if 0x100000 ≤ off then (if off < 0x140000 then s.readLnk (off - 0x100000) else 0)
  else if off < 0x10000 then s.readDev o
  else if off < 0x20000 then s.readPwr o
  else if off < 0x30000 then s.readClk o
  else if off < 0x40000 then s.readAna o
  else if off < 0x50000 then s.readThy o
  else if off < 0x60000 then s.readCfg o
  else if off < 0x70000 then s.readSage o
  else if off < 0x80000 then s.readErr o
  else if off < 0x90000 then s.readHif o
  else if off < 0xA0000 then s.readSch o
  else if off < 0xB0000 then s.readNoc o
  else if off < 0xC0000 then s.readHub o
  else if off < 0xD0000 then s.readDst o
  else if off < 0xE0000 then s.readTrg o
  else if off < 0xF0000 then s.readChv o
  else s.readCap o

/-- The register of the block map that an offset of a window of function `t`'s page shows (R343): none where the window reads
zero. -/
def State.windowReg (s : State) (t x : Nat) : Option Nat :=
  let sel := s.freg t 0x30
  if 0x2000 ≤ x ∧ x < 0x2800 then
    let q := fld sel 8 4
    if s.seqOwner q = t then some (trgReg q + (x - 0x2000)) else none
  else if 0x2800 ≤ x ∧ x < 0x2840 then
    let c := fld sel 12 4
    if s.acqOwner c = t then some (acqReg c + (x - 0x2800)) else none
  else if 0x3000 ≤ x ∧ x < 0x3200 then
    let w := x - 0x3000
    let shown := decide (0x10 ≤ w ∧ w < 0x20) || decide (0x40 ≤ w ∧ w < 0x54) || decide (0x100 ≤ w ∧ w < 0x144)
    match s.tileOf t (fld sel 0 8) with
    | some l => if shown then some (0x1000000 + 0x10000 * s.ptile l + w) else none
    | none => none
  else none
/-- MSI-X table entries of a function (Table 12-3). -/
def msixEntries (t : Nat) : Nat := if t = 0 then 10 else 9
/-- The value of a register of function `t`'s page. -/
def State.readPage (s : State) (t x : Nat) : Nat :=
  let r := (x % 0x100) / 0x20
  if 0x2000 ≤ x ∧ x < 0x3200 then (match s.windowReg t x with | some off => s.readReg off | none => 0)
  else if x = 0 then t + 2 ^ 8 * b2n (decide (t = 0))
  else if x = 4 then Map.get s.host.fnStat 0 t
  else if x = 0x10 then s.tstate t
  else if x = 0x14 then s.tforecast t
  else if x = 0x18 then s.tenergy t
  else if x = 0x1C then s.reg (0x92000 + 4 * t)
  else if x = 0x20 then s.tdebug t
  else if x = 0x24 then s.captstat t
  else if x = 0x28 then (s.ten t).capRel
  else if x = 0x2C then s.thold t
  else if x = 0x30 then s.freg t 0x30 % 2 ^ 16
  else if 0x100 ≤ x ∧ x < 0x200 then
    if x % 0x20 = 8 then setFld (s.freg t x) 0 1 (b2n (s.sq t r).en)
    else if x % 0x20 = 0xC then (s.sq t r).cidx.toNat else if x % 0x20 < 8 then s.freg t x else 0
  else if 0x200 ≤ x ∧ x < 0x300 then
    if x % 0x20 = 8 then setFld (s.freg t x) 0 1 (b2n (s.cq t r).en)
    else if x % 0x20 = 0xC then (s.cq t r).tidx.toNat else if x % 0x20 < 8 then s.freg t x else 0
  else if 0x1040 ≤ x ∧ x < 0x1060 then (s.cq t ((x - 0x1040) / 4)).head.toNat
  else if 0x3800 ≤ x ∧ x < 0x3800 + 16 * msixEntries t then s.freg t x
  else if x = 0x3C00 then Map.get s.host.pba 0 t
  else 0

end Sys2Proof.Machine
end

