-- ==== Sys2Proof/Machine/TraceCmd.lean ====
section
/-!
DEFINITION. The trace commands (R383 to R394).
-/
namespace Sys2Proof.Machine

/-- TRACE_PACKET_ENTER (R387): the oldest source packet enters the staging of its sinks, or is dropped there. -/
def execTracePacketEnter (s : State) : Out :=
  match s.chv.inq with
  | [] => .next s
  | p :: rest =>
    let s := { s with chv := { s.chv with inq := rest } }
    if s.chv.frozen || decide (s.rfld (srcReg p.src) 0 1 = 0) then .next s
    else .next ((s.sinksOf p).foldl (fun s k => s.enterSink k p) s)

/-- TRACE_DRAIN (R393, R394): bit i of `bad` says that the i-th 64-byte staging line of the packet, by ring position, is poisoned. -/
def execTraceDrain (k : Ring8) (bad : BitVec 10) (s : State) : Out := .next (s.sinkDrain k bad)
/-- SINK_ENABLE (R393). -/
def execSinkEnable (k : Ring8) (s : State) : Out :=
  if s.dev.mode.configured then .next (s.writeSinkCtl k (setFld (s.reg (sinkReg k)) 8 1 1)) else .next s
/-- SINK_DISABLE (R393). -/
def execSinkDisable (k : Ring8) (s : State) : Out :=
  if s.dev.mode.configured then .next (s.writeSinkCtl k (setFld (s.reg (sinkReg k)) 8 1 0)) else .next s
/-- SINK_OWNER_WRITE (R393). -/
def execSinkOwnerWrite (k : Ring8) (owner : TenId) (s : State) : Out :=
  if s.dev.mode.configured then .next (s.setSinkOwner k owner) else .next s
/-- SWMARK_WRITE (R383). -/
def execSwmarkWrite (k : Ring8) (v : Word) (s : State) : Out :=
  if s.dev.mode.configured then .next (s.writeSwmark k v.toNat) else .next s

end Sys2Proof.Machine
end

