-- ==== Sys2Proof/Machine/TrigCmd.lean ====
section
/-!
DEFINITION. The trigger commands (R180 to R195).
-/
namespace Sys2Proof.Machine

/-- TRIGGER_EVALUATE (R182, R183): an armed sequencer evaluates the oldest complete tap vector that it has not. -/
def execTriggerEvaluate (q : Unit16) (span : SpanAns) (s : State) : Out :=
  let v := s.seqOf q
  let t := s.seqOwner q
  if v.armed && !v.frozen then
    match (s.ten t).tapReady.find? (fun x => decide (v.nextE ≤ x.e)) with
    | some x => .next ((s.evalSeq q (some x) span).pruneTaps t)
    | none => .next s
  else .next s

/-- TRIG_IN_EDGE (R194, R184): pin `i` takes a level; a rising edge of an enabled pin latches, holds and evaluates. -/
def execTrigInEdge (i : Fin 4) (level : Bool) (span : SpanAns) (s : State) : Out :=
  let c := s.reg (0xDC000 + 4 * i.val)
  let rise := level && !s.trig.inPins.testBit i && decide (bit c 0 = 1) && s.dev.mode.idleToDerate
  let s := { s with trig := { s.trig with inPins := setFld s.trig.inPins i 1 (b2n level) } }
  if rise then
    let s :=
      if bit c 1 = 1 then
        let s := (List.range 16).foldl (fun s q => s.updSeq q (fun v => { v with ti := v.ti ||| 2 ^ i.val })) s
        (List.range 16).foldl (fun s q => s.idleEval q span) s
      else s
    .next (if bit c 2 = 1 then s.raiseHold (fld c 3 8) 6 none else s)
  else .next s

/-- TRIG_TIMER_EXPIRE (R186, R184). -/
def execTrigTimerExpire (q : Unit16) (i : Fin 2) (span : SpanAns) (s : State) : Out :=
  let v := s.seqOf q
  if v.armed && s.timerDue q i && v.timer.any (fun e => decide (e.1 = i.val ∧ e.2.2 = false)) then
    .next ((s.setSeq q { v with timer := v.timer.map (fun e => if e.1 = i.val then (e.1, e.2.1, true) else e) }).idleEval q span)
  else .next s

/-- TRIG_HOLDOFF_END (R187): a TIME hold-off ends when Thyme reaches its target. -/
def execTrigHoldoffEnd (q : Unit16) (s : State) : Out :=
  match (s.seqOf q).holding with
  | some h => if h.mode = 1 ∧ s.thyPast h.target = true ∧ (s.seqOf q).frozen = false then .next (s.updSeq q (fun v => { v with holding := none })) else .next s
  | none => .next s

/-- TRIG_OUT_PULSE_END (R195): a pulse reaches its width; a pin in LEVEL mode keeps its level. -/
def execTrigOutPulseEnd (i : Fin 4) (s : State) : Out :=
  if s.rfld (0xDC010 + 4 * i.val) 1 1 = 0 then .next { s with trig := { s.trig with outPins := setFld s.trig.outPins i 1 0 } }
  else .next s

/-- TRG_OWNER_WRITE (R180). -/
def execTrgOwnerWrite (q : Unit16) (by' owner : TenId) (s : State) : Out :=
  if !s.dev.mode.configured then .next s
  else if by'.val ≠ 0 then .next (s.accOwner (trgReg q))
  else .next (s.setSeqOwner q owner)

/-- TRG_ARM (R182, Table 6-7). -/
def execTrgArm (q : Unit16) (by' : TenId) (init : BitVec 4) (ring : Ring8) (s : State) : Out :=
  if !s.dev.mode.configured then .next s
  else .next (s.writeTrgCtl by' q (s.seqOwner q + 2 ^ 8 + 2 ^ 9 * init.toNat + 2 ^ 13 * ring.val) .ok)

/-- TRG_DISARM (R182). -/
def execTrgDisarm (q : Unit16) (by' : TenId) (s : State) : Out :=
  if !s.dev.mode.configured then .next s
  else .next (s.writeTrgCtl by' q (setFld (s.reg (trgReg q)) 8 1 0) .ok)

/-- TRG_SWEV (R184): ARM is written as it stands. -/
def execTrgSwev (q : Unit16) (by' : TenId) (span : SpanAns) (s : State) : Out :=
  if !s.dev.mode.configured then .next s
  else .next (s.writeTrgCtl by' q (setFld (setFld (s.reg (trgReg q)) 8 1 (b2n (s.seqOf q).armed)) 16 1 1) span)

end Sys2Proof.Machine
end

