-- ==== Sys2Proof/Machine/RegWrite.lean ====
section
/-!
DEFINITION. What a write of each register does (R482 and the register tables of the owning chapters): the block map of PF BAR0 and
the function pages (R342, R343).
-/
namespace Sys2Proof.Machine

/-- The state that a meaning leaves. -/
def outState (o : Out) (s : State) : State := match o with | .next n => n | _ => s
/-- A field of flags after 1s are written to some of its bits (W1C, Table 0-5). -/
def w1c (old v : Nat) : Nat := old - (old &&& v)

/-! ### Blocks -/

/-- DEV_CTL (Table 1-6): HOLD, then FORCE_SAFE, then SOFT_RESET. -/
def State.writeDevCtl (s : State) (v : Nat) : State :=
  let key := BitVec.ofNat 8 (v / 2 ^ 24)
  let s := if b2n s.dev.holdBit = bit v 0 then s else s.setOwnHold (decide (bit v 0 = 1)) s.dev.floor
  let s := if bit v 8 = 1 then outState (execForceSafe key s) s else s
  if bit v 16 = 1 then outState (execSoftReset key (BitVec.ofNat 2 s.cfg.cspSel) s) s else s

def State.writePwr (s : State) (o v : Nat) : State :=
  if o = 0x24 then (if bit v 0 = 1 then s.updPwr (fun p => { p with bkpReset := false }) else s)
  else if 0x100 ≤ o ∧ o < 0x208 then s.writeDomCtl ((o - 0x100) / 4) (decide (bit v 0 = 1))
  else s.writePreset (0x10000 + o) v

def State.writeClk (s : State) (o v : Nat) : State :=
  if o = 0 then s.writeClkCfg v
  else if bit v 24 = 1 then s.updClk (fun c => { c with switched := false }) else s

def State.writeAna (s : State) (o v : Nat) : State :=
  if o = 0 then s.setReg 0x30000 (anaCtlStored v)
  else if o = 8 then s.updAna (fun a => { a with alarm := w1c a.alarm v })
  else if o = 0xC then s.updAna (fun a => { a with alarm := w1c a.alarm (2 ^ 32 * (v % 2 ^ 8)) })
  else if o < 0x200 then s.writeAnaSeq ((o - 0x100) / 4) v
  else s.setReg (0x30000 + o) v

def State.writeThy (s : State) (o v : Nat) : State :=
  let off := 0x40000 + o
  if o = 0 then (if bit v 4 = 1 then { s with thy := { s.thy with stepped := false } } else s)
  else if o = 4 then s.writeThyCtl v
  else if o = 0x20 then s.setReg off (min 999999999 (v % 2 ^ 30))
  else if o = 0x30 then s.writeIncFrac v
  else if o = 0x34 then s.writeIncNs v
  else if o = 0x38 then s.thyAdj (BitVec.ofNat 32 v)
  else if o = 0x50 then s.writeMout v
  else if 0x100 ≤ o then
    let k := (o - 0x100) / 0x20
    let x := o % 0x20
    if x = 0 then s.writeTstart k v
    else s.writeTstartArg k off (if x = 8 then v % 2 ^ 30 else if x = 0x10 then v % 2 ^ 16 else v)
  else if o = 0x28 ∨ o = 0x40 then s.setReg off (v % 2 ^ 16)
  else s.setReg off v

/-- CFG_UPD registers act in IDLE to DERATE while no update runs. -/
def State.writeUpd (s : State) (o v : Nat) : State :=
  if s.dev.mode.idleToDerate = false ∨ s.cfg.job.isSome then s.accState (0x50000 + o)
  else if o = 0x50 then s.setReg 0x50050 (v &&& 0xFFFFFFC0)
  else if o = 0x5C then
    let op := fld v 0 3
    if bit v 31 = 0 then s
    else if op = 1 then outState (execUpdDownload (decide (bit v 3 = 1)) s) s
    else if op = 2 then outState (execUpdActivate s) s
    else if op = 3 then outState (execUpdConfirm s) s else s
  else s.setReg (0x50000 + o) v
def State.writeCfg (s : State) (o v : Nat) : State :=
  if o = 0x44 then (if bit v 31 = 1 then outState (execMcRaise (BitVec.ofNat 2 v) s) s else s)
  else if o = 0x70 then s.setReg 0x50070 (max 1 (v % 2 ^ 8))
  else if o = 0x40 then s.setReg 0x50040 v
  else s.writeUpd o v

/-- SAGE_CMD.GO: a test of Table 16-10; another number runs nothing. -/
def State.writeSageCmd (s : State) (test arg : Nat) : State :=
  let may := if test = 1 ∨ test = 2 ∨ test = 4 then decide (arg < 200) else decide (1 ≤ test ∧ test ≤ 7 ∧ arg < 4)
  let fuse := decide (s.cfg.lc = 1) && s.sage.keys.all (fun e => decide (e.1 ≠ arg))
  outState (s.sageStart test arg (may && (decide (test ≠ 6) || fuse))) s
def State.writeSage (s : State) (o v : Nat) : State :=
  if o = 0x100 then (if bit v 31 = 1 then s.writeSageCmd (fld v 0 8) (fld v 8 8) else s)
  else if o = 0x110 then outState (execSageLcWrite (BitVec.ofNat 3 v) (BitVec.ofNat 8 (v / 2 ^ 24)) s) s
  else s.setReg (0x60000 + o) v

def State.writeErr (s : State) (o v : Nat) : State :=
  if o = 4 then s.writeLogRidx (BitVec.ofNat 32 v)
  else if o = 8 then
    let f := if bit v 0 = 1 then { s.fm with overflow := false, lost := 0 } else s.fm
    { s with fm := if bit v 1 = 1 then { f with pend := false } else f }
  else if o = 0x10 then s.setReg 0x70010 (fmCfgStored v)
  else s.writeCkptCfg ((o - 0x1000) / 4) v

def State.writeSch (s : State) (o v : Nat) : State :=
  let t := o % 0x400 / 4
  if o = 0 then s.setReg 0x90000 (schCtlStored v)
  else if o < 0x100 then s.writeBwClass ((o - 0x40) / 4) v
  else if o < 0x2000 then s.writeGroup ((o - 0x100) / 4) v
  else if o < 0x2400 then s.writeTcfg t v
  else if o < 0x2800 then s.writeRegionReg t false v
  else if o < 0x2C00 then s.writeRegionReg t true v
  else if o < 0x4000 then s.writeLsync t (v % 16)
  else s.writeDebug t v

/-- A register of sequencer `q` by function `by'` (R180). -/
def State.writeSeqReg (s : State) (by' q x v : Nat) (span : SpanAns) : State :=
  let off := trgReg q + x
  if x = 0 then s.writeTrgCtl by' q v span
  else if x = 4 then
    if by' ≠ 0 ∧ by' ≠ s.seqOwner q then s.accOwner off
    else if bit v 7 = 1 then s.updSeq q (fun w => { w with actFail := false }) else s
  else
    let v := match regDesc off with | some d => v &&& d.rw | none => 0
    let v := if 0x200 ≤ x ∧ x < 0x300 ∧ x % 32 = 0 ∧ fld v 6 2 = 3 then setFld v 6 2 0 else v
    let v := if 0x300 ≤ x ∧ x < 0x340 ∧ x % 16 = 0 ∧ 0x15 < v then 0 else v
    s.writeTrgCfg by' q off v
/-- A register of channel `c` by function `by'` (R196, R198): the ring and what is recorded stay while it runs (log entry 48). -/
def State.writeAcqReg (s : State) (by' c x v : Nat) : State :=
  let off := acqReg c + x
  let a := s.acqOf c
  if x = 0 then s.writeAcqCtl by' c v
  else if x = 0x28 then s.writeAcqRidx by' c (setFld a.ridx 0 32 v)
  else if x = 0x2C then s.writeAcqRidx by' c (a.ridx % 2 ^ 32 + 2 ^ 32 * v)
  else if by' ≠ 0 ∧ by' ≠ s.acqOwner c then s.accOwner off
  else if x = 4 then
    s.setAcq c { a with ovf := a.ovf && decide (bit v 3 = 0), gapSeen := a.gapSeen && decide (bit v 4 = 0) }
  else if a.st.runs then s.accState off
  else
    let n := s.setReg off (if x = 0x1C then v % 2 ^ 16 else v)
    if (x = 0x10 ∨ x = 0x14) ∧ n.acqRingBad (n.acqOwner c) (n.acqBase c) (n.acqSize c) = true then s.accValue off else n
def State.writeTrg (s : State) (by' o v : Nat) (span : SpanAns) : State :=
  if o < 0x8000 then s.writeSeqReg by' (o / 0x800) (o % 0x800) v span
  else if o < 0xC000 then s.writeAcqReg by' ((o - 0x8000) / 0x40) (o % 0x40) v
  else if o < 0xC010 then s.setReg (0xD0000 + o) (v &&& 0x7FF)
  else
    let s := s.setReg (0xD0000 + o) (v &&& 0x00FF007B)
    if bit v 0 = 1 then s else { s with trig := { s.trig with outPins := setFld s.trig.outPins ((o - 0xC010) / 4) 1 0 } }

def State.writeSinkReg (s : State) (k x v : Nat) : State :=
  let q := s.sink k
  if x = 0 then s.writeSinkCtl k v
  else if x = 4 then (if bit v 8 = 1 then s.setSink k { q with lostSeen := false } else s)
  else if x = 8 ∨ x = 0xC then s.writeSinkBase k (sinkReg k + x) v
  else if x = 0x18 then s.writeSinkRidx k (setFld q.ridx 0 32 v)
  else if x = 0x1C then s.writeSinkRidx k (q.ridx % 2 ^ 32 + 2 ^ 32 * v)
  else s.writeSwmark k v
def State.writeChv (s : State) (o v : Nat) : State :=
  if o < 0x1000 then s.writeSrc ((o - 0x100) / 4) v
  else if o < 0x2000 then
    s.writeMemUnit ((o - 0x1000) / 0x20) (0xE0000 + o)
      (if o % 0x20 = 0 then v &&& 0x003F3FFF else if o % 0x20 ≤ 8 then v % 2 ^ 29 else v)
  else s.writeSinkReg ((o - 0x2000) / 0x40) (o % 0x40) v

/-- LNK_CTL (Table 10-17): SLEEP_EN and FARLOOP_PERMIT, then ENABLE and MODE where they change, then RETRAIN and CLR_CNT. -/
def State.writeLnkCtl (s : State) (l : LinkId) (v : Nat) : State :=
  let old := s.reg (lnkCtl l)
  let s := s.setLnkFld l 6 2 (fld v 6 2)
  let s := if bit v 0 = bit old 0 then s
    else if bit v 0 = 1 then outState (execLnkEnable l s) s else outState (execLnkDisable l s) s
  let s := if fld v 1 5 = fld old 1 5 then s
    else outState (execLnkModeWrite l (BitVec.ofNat 3 (fld v 1 3)) (BitVec.ofNat 2 (fld v 4 2)) s) s
  let s := if bit v 8 = 1 then outState (execLnkRetrain l s) s else s
  if bit v 9 = 1 then outState (execLnkClrCnt l s) s else s
def State.writeLnk (s : State) (o v : Nat) : State :=
  if o = 0 then
    outState (execLnkIdWrite ⟨v % 256, Nat.mod_lt _ (by decide)⟩ (decide (bit v 8 = 1)) (BitVec.ofNat 16 (v / 2 ^ 16)) s) s
  else
    let l := (o - 0x10000) / 0x400
    if h : l < 144 then
      if o % 0x400 = 0 then s.writeLnkCtl ⟨l, h⟩ v else s.setReg (0x100000 + o) (max 1 (v % 2 ^ 16))
    else s

def State.writeBankReg (s : State) (g x v : Nat) : State :=
  let off := bankReg g + x
  if x = 0 then s.writeBankCfg g v
  else if x = 4 then
    let s := if bit v 0 = 1 then s.bankRelease g else s
    if bit v 1 = 1 then s.bankWithdraw g else s
  else if x = 0xC then s.setReg off (bankTimeStored v)
  else if x = 0x18 then s.writeRoute g false v
  else if x = 0x1C then s.writeRoute g true v
  else s.setReg off v
def State.writeEdg (s : State) (o v : Nat) : State :=
  if o = 0 then s.setReg 0x200000 (edgCfgStored v)
  else if o < 0x1000 then s.writeBankReg ((o - 0x100) / 0x40) (o % 0x40) v
  else if o < 0x4000 then s.writePin ((o - 0x1000) / 4) v
  else if o < 0x4100 then s.writeRegion ((o - 0x4000) / 0x10) v
  else if o = 0x4100 then
    (if bit v 31 = 1 then outState (execEdgPrGo ⟨v % 8, Nat.mod_lt _ (by decide)⟩ s) s else s)
  else if o = 0x4104 then s.setReg 0x204104 (v &&& 0xFFFFFFC0)
  else s.setReg 0x204108 v

/-- UE of TIL_ARR_ERR is cleared (Table 4-9). -/
def State.clearUe (s : State) (n : Nat) : State :=
  match s.ltileOfPhys n with
  | some l => s.updTile l (fun t => { t with ue := false })
  | none => { s with dev := { s.dev with arrErr := Map.set s.dev.arrErr n { Map.get s.dev.arrErr {} n with ue := false } } }
def State.writeTil (s : State) (n x v : Nat) : State :=
  if x = 0x140 then s.writeContract n v
  else if bit v 20 = 1 then s.clearUe n
  else s

/-! ### The block map -/

/-- A register that regTable names takes the value `v`, by function `by'`. -/
def State.putReg (s : State) (by' off v : Nat) (span : SpanAns) : State :=
  let o := off % 0x10000
  if 0x1000000 ≤ off then s.writeTil ((off - 0x1000000) / 0x10000) o v
  else if 0x200000 ≤ off then s.writeEdg o v
  else if 0x100000 ≤ off then s.writeLnk (off - 0x100000) v
  else if off < 0x10000 then (if o = 0x24 then s.writeDevCtl v else s)
  else if off < 0x20000 then s.writePwr o v
  else if off < 0x30000 then s.writeClk o v
  else if off < 0x40000 then s.writeAna o v
  else if off < 0x50000 then s.writeThy o v
  else if off < 0x60000 then s.writeCfg o v
  else if off < 0x70000 then s.writeSage o v
  else if off < 0x80000 then s.writeErr o v
  else if off < 0x90000 then s.setReg 0x80100 (smbCfgStored v)
  else if off < 0xA0000 then s.writeSch o v
  else if off < 0xB0000 then s
  else if off < 0xC0000 then (if bit v 24 = 1 then { s with noc := { s.noc with poisonSeen := false } } else s)
  else if off < 0xD0000 then s.setReg 0xC0100 (dstCfgStored v)
  else if off < 0xE0000 then s.writeTrg by' o v span
  else if off < 0xF0000 then s.writeChv o v
  else s.writeCapRidx by' ((o - 0x1400) / 4) (v % 2 ^ 16)

/-- The bytes of `v` that `be` enables, over `old`. -/
def mergeBytes (old v be : Nat) : Nat :=
  (List.range 4).foldl (fun a i => if be.testBit i then setFld a (8 * i) 8 (fld v (8 * i) 8) else a) old
/-- A write of one 32-bit register of the block map (R480, R482). -/
def State.writeReg (s : State) (by' off v be : Nat) (span : SpanAns) : State :=
  match regDesc off with
  | none => s
  | some d =>
    if be % 16 = 0 then s
    else if d.whole || decide (d.wo ≠ 0) then
      (if be % 16 = 15 then s.putReg by' off v span else s.accPartial off)
    else if d.rw = 0 then s
    else s.putReg by' off (mergeBytes (s.readReg off) v be) span

/-! ### Function pages (R342, R343) -/

/-- An MSI-X table word of a function; an interrupt that was pending goes out once its vector is not masked (R362). -/
def State.writeMsix (s : State) (t x v : Nat) : State :=
  let n := (x - 0x3800) / 16
  let v := if x % 16 = 0 then v &&& 0xFFFFFFFC else if x % 16 = 12 then v % 2 else v
  let s := s.setFreg t x v
  let p := Map.get s.host.pba 0 t
  if x % 16 = 12 ∧ v = 0 ∧ p.testBit n = true then
    ({ s with host := { s.host with pba := Map.set s.host.pba t (p - 2 ^ n) } }).msix t n
  else s
/-- A whole-word register of function `t`'s page; none where the page has no such register. -/
def State.putPage (s : State) (t : TenId) (x v : Nat) : Option State :=
  let r : Ring8 := ⟨x % 0x100 / 0x20, by omega⟩
  let q : Ring8 := ⟨x % 0x20 / 4, by omega⟩
  if x = 4 then
    some { s with host := { s.host with fnStat := Map.set s.host.fnStat t (w1c (Map.get s.host.fnStat 0 t) v) } }
  else if x = 0x28 then some (s.writeCapRidx t t (v % 2 ^ 16))
  else if x = 0x30 then some (s.setFreg t 0x30 (v % 2 ^ 16))
  else if 0x100 ≤ x ∧ x < 0x300 ∧ x % 0x20 = 0 then some (s.setFreg t x (v &&& 0xFFFFF000))
  else if 0x100 ≤ x ∧ x < 0x300 ∧ x % 0x20 = 4 then some (s.setFreg t x v)
  else if 0x100 ≤ x ∧ x < 0x200 ∧ x % 0x20 = 8 then
    some (s.writeSqCtl t r (decide (bit v 0 = 1)) (fld v 4 5) (fld v 9 3))
  else if 0x200 ≤ x ∧ x < 0x300 ∧ x % 0x20 = 8 then
    some (s.writeCqCtl t r (decide (bit v 0 = 1)) (fld v 4 5) (bit v 9) (fld v 10 3) (fld v 16 8) (fld v 24 8))
  else if 0x1000 ≤ x ∧ x < 0x1020 then some (outState (execSqDoorbell t q (BitVec.ofNat 32 v) s) s)
  else if 0x1040 ≤ x ∧ x < 0x1060 then some (outState (execCqHeadWrite t q (BitVec.ofNat 32 v) s) s)
  else if 0x3800 ≤ x ∧ x < 0x3800 + 16 * msixEntries t then some (s.writeMsix t x v)
  else none
/-- A write through a window: OWNER stays, and without the unit every write is refused (R343). -/
def State.writeWindow (s : State) (t x v be : Nat) (span : SpanAns) : State :=
  match s.windowReg t x with
  | none => s.accOwner x
  | some off =>
    if 0x3000 ≤ x then s.accOwner x
    else if (x = 0x2000 ∨ x = 0x2800) ∧ be % 16 = 15 ∧ fld v 0 8 ≠ t then
      (s.writeReg t off (setFld v 0 8 t) be span).accOwner x
    else s.writeReg t off v be span
/-- Table 12-3 lists a register at this offset of a page, outside the three windows. -/
def pageListed (x : Nat) : Bool :=
  decide (x % 4 = 0) && (decide (x = 0 ∨ x = 4 ∨ (0x10 ≤ x ∧ x ≤ 0x30)) || (decide (0x100 ≤ x ∧ x < 0x300) && decide (x % 0x20 ≤ 0xC)) ||
    decide (0x1000 ≤ x ∧ x < 0x1020) || decide (0x1040 ≤ x ∧ x < 0x1060) || decide (0x3800 ≤ x ∧ x < 0x3900) ||
    decide (0x3C00 ≤ x ∧ x < 0x3C08))
/-- A write of one 32-bit register of function `t`'s page; each is whole-word (R342, R482). -/
def State.writePage (s : State) (t : TenId) (x v be : Nat) (span : SpanAns) : State :=
  if be % 16 = 0 then s
  else if (0x2000 ≤ x ∧ x < 0x2840) ∨ (0x3000 ≤ x ∧ x < 0x3200) then s.writeWindow t x v be span
  else if be % 16 = 15 then (s.putPage t x v).getD s
  else if pageListed x then s.accPartial x else s

end Sys2Proof.Machine
end

