-- ==== Sys2Proof/Machine/RegCmd.lean ====
section
/-!
DEFINITION. Register accesses by the host (R342, R343, R480 to R486): writes of 1 to 8 bytes, reads with their side effects, and the
accesses that complete without effect. A page of none is PF BAR0; a page of t is the function page of tenant t.
-/
namespace Sys2Proof.Machine

/-! ### The form of an access (R481, R485) -/

/-- Byte enables of an access of 1, 2, 4 or 8 bytes that is naturally aligned, at an offset that is a multiple of 4. -/
def accessOk (off be : Nat) : Bool :=
  decide (off % 4 = 0) &&
    (decide (be = 1 ∨ be = 2 ∨ be = 4 ∨ be = 8 ∨ be = 3 ∨ be = 12 ∨ be = 15) || decide (be = 255 ∧ off % 8 = 0))
/-- The function whose BAR is addressed. -/
def pageFn (page : Option TenId) : TenId := page.getD 0
/-- The BAR answers: its function exists and is in D0. -/
def State.barAnswers (s : State) (page : Option TenId) : Bool :=
  s.fnUp (pageFn page) && !s.host.d3.contains (pageFn page).val
/-- Offsets within the BAR: 32 MiB of PF BAR0, or 16 KiB of a function page. -/
def pageOffset (page : Option TenId) (off : Nat) : Nat := match page with | none => off | some _ => off % 0x4000

/-! ### Writes (R482, R484) -/

def State.writeWord (s : State) (page : Option TenId) (off v be : Nat) (span : SpanAns) : State :=
  match page with
  | none => s.writeReg 0 off v be span
  | some t => s.writePage t off v be span
/-- The RIDX pair of a channel or of a sink that an offset is the low word of, by its place in the block map. -/
def State.ridxPair (s : State) (page : Option TenId) (off : Nat) : Option (Bool × Nat) :=
  let o := match page with | none => some off | some t => s.windowReg t off
  match o with
  | some x =>
    if 0xD8000 ≤ x ∧ x < 0xD8400 ∧ x % 0x40 = 0x28 then some (true, (x - 0xD8000) / 0x40)
    else if 0xE2000 ≤ x ∧ x < 0xE2200 ∧ x % 0x40 = 0x18 then some (false, (x - 0xE2000) / 0x40) else none
  | none => none
/-- A write as accepted: both halves of a RIDX pair in one action, and else the lower word first (R484). -/
def State.barWrite (s : State) (page : Option TenId) (off : Nat) (data be : Nat) (span : SpanAns) : State :=
  if be = 255 then
    match s.ridxPair page off with
    | some (true, c) => s.writeAcqRidx (pageFn page) c data
    | some (false, k) => s.writeSinkRidx k data
    | none => (s.writeWord page off (data % 2 ^ 32) 15 span).writeWord page (off + 4) (data / 2 ^ 32) 15 span
  else s.writeWord page off (data % 2 ^ 32) be span
/-- REG_WRITE (R482): `be` are the byte enables from the offset upwards, and `span` is what the other modules of a span answer
where the write starts a tenant. An access that R485 does not allow has no effect. -/
def execRegWrite (page : Option TenId) (off : BitVec 25) (data : DWord) (be : Byte) (span : SpanAns) (s : State) : Out :=
  if s.barAnswers page && accessOk off.toNat be.toNat then
    .next (s.barWrite page (pageOffset page off.toNat) data.toNat be.toNat span)
  else .next s

/-! ### Reads and their side effects (R483) -/

def State.setLatch (s : State) (off v : Nat) : State := { s with latch := Map.set s.latch off (BitVec.ofNat 32 v) }
/-- Latches the words above the low word of a pair. -/
def State.latchHigh (s : State) (off v : Nat) : State := s.setLatch off (v / 2 ^ 32)
/-- What the read of a register of the block map does: it latches high words, and clears NOC_AGE.MAX_CLASS. -/
def State.readEffect (s : State) (off : Nat) : State :=
  let o := off % 0x10000
  if 0x1000000 ≤ off ∧ off < 0x1C80000 then
    (if o = 0x18 then s.latchHigh (off + 4) (s.physTile ((off - 0x1000000) / 0x10000)).lastEnded.toNat else s)
  else if 0x200100 ≤ off ∧ off < 0x200400 ∧ off % 0x40 = 0x24 then
    s.latchHigh (off + 4) (s.bank ((off - 0x200100) / 0x40)).tcyc
  else if 0x110000 ≤ off ∧ off < 0x134000 ∧ off % 0x400 = 0x28 then
    let l := (off - 0x110000) / 0x400
    let s := s.latchHigh (off + 4) (s.link l).prbsBits
    if (s.link l).st = .test then s.prbsCounts l else s
  else if 0x110000 ≤ off ∧ off < 0x134000 ∧ (off % 0x400 = 0x20 ∨ off % 0x400 = 0x24) then
    let l := (off - 0x110000) / 0x400
    if (s.link l).st = .test then s.prbsCounts l else s
  else if 0x10400 ≤ off ∧ off < 0x10620 ∧ off % 8 = 0 then
    s.latchHigh (off + 4) (Map.get s.pwr.energy 0 ((off - 0x10400) / 8)).toNat
  else if off = 0x40010 then
    ((s.setLatch 0x40014 s.thy.sec).setLatch 0x40018 (s.thy.sec / 2 ^ 32)).setLatch 0x4001C s.thy.frac
  else if off = 0x40060 then (s.setLatch 0x40064 s.thy.minSec).setLatch 0x40068 (s.thy.minSec / 2 ^ 32)
  else if off = 0xA0004 then { s with noc := { s.noc with maxClass := 0 } }
  else if 0xD0000 ≤ off ∧ off < 0xD8000 ∧ 0x300 ≤ off % 0x800 ∧ off % 0x800 < 0x340 ∧ off % 16 = 12 then
    let q := (off - 0xD0000) / 0x800
    let c := (off % 0x800 - 0x300) / 16
    s.latchHigh (trgReg q + 0x340 + 8 * c) (Map.get (s.seqOf q).cnt 0 c)
  else if 0xD8000 ≤ off ∧ off < 0xD8400 ∧ off % 0x40 = 0x20 then
    s.latchHigh (off + 4) (s.acqOf ((off - 0xD8000) / 0x40)).widx
  else if 0xE2000 ≤ off ∧ off < 0xE2200 ∧ off % 0x40 = 0x10 then
    s.latchHigh (off + 4) (s.sink ((off - 0xE2000) / 0x40)).widx
  else s
/-- The value of a register of a page, and the state after its read. -/
def State.readWord (s : State) (page : Option TenId) (off be : Nat) : Nat × State :=
  match page with
  | none => (s.readReg off, if be.testBit 0 then s.readEffect off else s)
  | some t =>
    (s.readPage t off, match s.windowReg t off with
      | some x => if be.testBit 0 then s.readEffect x else s
      | none => s)
def State.setBarOut (s : State) (b : BarOut) : State := { s with host := { s.host with barOut := b } }
/-- The data of a read, and the state after it: the lower word first (R484), with the bytes that are enabled. -/
def State.barRead (s : State) (page : Option TenId) (off be : Nat) : State :=
  let a := s.readWord page off be
  if be = 255 then
    let b := a.2.readWord page (off + 4) 15
    b.2.setBarOut (.data (BitVec.ofNat 64 (a.1 + 2 ^ 32 * b.1)))
  else a.2.setBarOut (.data (BitVec.ofNat 64 (mergeBytes 0 a.1 be)))
/-- REG_READ_SIDE_EFFECT (R483): a read completes with its data; its side effect acts where byte 0 is read. -/
def execRegReadSideEffect (page : Option TenId) (off : BitVec 25) (be : Byte) (s : State) : Out :=
  if s.barAnswers page && accessOk off.toNat be.toNat then .next (s.barRead page (pageOffset page off.toNat) be.toNat) else .next s

/-! ### Accesses without effect (R485) -/

/-- BAR_ACCESS_UNSUPPORTED (R485): a read completes with Unsupported Request; a posted write is discarded and signalled under AER. -/
def execBarAccessUnsupported (read : Bool) (s : State) : Out := .next (s.setBarOut (if read then .ur else .aer))
/-- ZERO_LENGTH_ACCESS (R485): a read completes with data 0, and a write is discarded. -/
def execZeroLengthAccess (read : Bool) (s : State) : Out := .next (if read then s.setBarOut (.data 0) else s)

end Sys2Proof.Machine
end

