-- ==== Sys2Proof/Machine/PktCmd.lean ====
section
/-!
DEFINITION. Packets of the network on chip that carry reads, writes, their answers and management reports (R314 to R318, R324,
R330, Tables 11-2, 11-3 and 11-8).
-/
namespace Sys2Proof.Machine

/-! ### Tile stores as bytes (R318, log entry 49) -/

/-- Bytes of one entry of a store, and how many entries it has (Table 3-1). -/
def storeShape (k : Nat) : Option (Nat × Nat) :=
  [(7, 2097152), (96, 32768), (32, 2048), (8, 2048), (8, 4096), (8, 1), (8, 32768), (8, 32768), (8, 131072), (8, 16), (128, 1)][k]?
/-- Entry `j` of store `k`, as a little-endian number. -/
def Tile.entry (t : Tile) (k j : Nat) : Nat :=
  if k = 0 then (Map.get t.prog.steps 0 j).toNat
  else if k = 1 then (Map.get t.prog.xbar 0 j).toNat
  else if k = 2 then (Map.get t.prog.ctrl 0 j).toNat
  else if k = 3 then (Map.get t.prog.dict 0 j).toNat
  else if k = 4 then (t.prog.sends.getD j 0).toNat
  else if k = 5 then (if j = 0 then t.prog.seqCfg.toNat else 0)
  else if k = 6 then (Map.get t.cur 0 j).toNat
  else if k = 7 then (Map.get t.ret 0 j).toNat
  else if k = 8 then (Map.get t.banks 0 j).toNat
  else if k = 9 then (Map.get t.acc 0 j).toNat
  else leNat (seqBytes t.trapCnt (some t))
/-- Puts a value into entry `j` of a list, extending it with zeros. -/
def setPad (l : List DWord) (j : Nat) (v : DWord) : List DWord := (l ++ List.replicate (j + 1 - l.length) 0).set j v
/-- Writes entry `j` of store `k`. Of the sequencer state only the trap counter is a store of its own. -/
def Tile.setEntry (t : Tile) (k j v : Nat) : Tile :=
  if k = 0 then { t with prog := { t.prog with steps := Map.set t.prog.steps j (BitVec.ofNat 56 v) } }
  else if k = 1 then { t with prog := { t.prog with xbar := Map.set t.prog.xbar j (BitVec.ofNat 768 v) } }
  else if k = 2 then { t with prog := { t.prog with ctrl := Map.set t.prog.ctrl j (BitVec.ofNat 256 v) } }
  else if k = 3 then { t with prog := { t.prog with dict := Map.set t.prog.dict j (BitVec.ofNat 64 v) } }
  else if k = 4 then { t with prog := { t.prog with sends := setPad t.prog.sends j (BitVec.ofNat 64 v) } }
  else if k = 5 then (if j = 0 then { t with prog := { t.prog with seqCfg := BitVec.ofNat 64 v } } else t)
  else if k = 6 then { t with cur := Map.set t.cur j (BitVec.ofNat 64 v) }
  else if k = 7 then { t with ret := Map.set t.ret j (BitVec.ofNat 64 v) }
  else if k = 8 then { t with banks := Map.set t.banks j (BitVec.ofNat 64 v) }
  else if k = 9 then { t with acc := Map.set t.acc j (BitVec.ofNat 64 v) }
  else { t with trapCnt := BitVec.ofNat 32 v }
/-- A byte of store `k` whose entries have `n` bytes. -/
def Tile.storeByte (t : Tile) (k n a : Nat) : Byte := BitVec.ofNat 8 (t.entry k (a / n) / 256 ^ (a % n))
def Tile.setStoreByte (t : Tile) (k n a : Nat) (b : Byte) : Tile :=
  let v := t.entry k (a / n)
  let w := 256 ^ (a % n)
  t.setEntry k (a / n) (v - v / w % 256 * w + b.toNat * w)
def Tile.setStoreBytes (t : Tile) (k n a : Nat) : List Byte → Tile
  | [] => t
  | b :: bs => (t.setStoreByte k n a b).setStoreBytes k n (a + 1) bs

/-! ### The parts of a packet (Table 11-3) -/

/-- The `n`-byte field at byte `o` of the head flit. -/
def pktField (p : Pkt) (o n : Nat) : Nat := leAt p.body (o - 9) n
def pktAddr (p : Pkt) : Nat := pktField p 0x10 8
def pktCount (p : Pkt) : Nat := pktField p 0x18 1
/-- The bytes of the body flits: the lines. -/
def pktLines (p : Pkt) : List Byte := (p.body.drop 0x37).take (64 * (pktCount p))
/-- A line address and a line count that Table 11-3 allows. -/
def pktLinesOk (p : Pkt) : Bool := decide ((pktAddr p) % 64 = 0 ∧ 1 ≤ (pktCount p) ∧ (pktCount p) ≤ 3)
/-- Store, offset and entry size of a tile address, where the whole access lies in the store. -/
def pktStore (p : Pkt) : Option (Nat × Nat × Nat) :=
  let a := (pktAddr p)
  (storeShape (fld a 24 4)).bind (fun z =>
    if (pktLinesOk p) ∧ a < 2 ^ 28 ∧ fld a 0 24 + 64 * (pktCount p) ≤ roundUp (z.1 * z.2) 64 then some (fld a 24 4, fld a 0 24, z.1) else none)
/-- The packet has the virtual channel and operation of the command. -/
def pktIs (p : Pkt) (vc op : Nat) : Bool := decide (p.vc = vc ∧ p.op = op)
/-- An answer: source and destination exchanged, the tag kept, with the destination tile's epoch. -/
def State.answer (s : State) (p : Pkt) (op : Nat) (poison : Bool) (body : List Byte) : State :=
  let e := if p.src < 200 then ((s.ltileOfPhys p.src).map (fun l => (s.remap l).epoch)).getD 0 else 0
  let q : Pkt := { vc := 1, op := op, ten := p.ten, dest := p.src, src := p.dest, epoch := e, tag := p.tag, poison := poison
                   body := body }
  { s with noc := { s.noc with pkts := s.noc.pkts ++ [q] } }
/-- ERROR with status REGION: the request names nothing that its destination has (log entry 51). -/
def State.answerError (s : State) (p : Pkt) : State := s.answer p 0xF false [2]
/-- DATA with the lines. -/
def State.answerData (s : State) (p : Pkt) (poison : Bool) (bs : List Byte) : State :=
  s.answer p 1 poison (zeros 7 ++ leBytes (pktAddr p) 8 ++ leBytes (pktCount p) 1 ++ zeros 0x27 ++ bs)
/-- What a requester is told. -/
def State.gets (s : State) (node tag status : Nat) (bs : List Byte) : State :=
  { s with noc := { s.noc with got := s.noc.got ++ [{ node := node, tag := tag, status := status, bytes := bs }] } }

/-! ### Passage (R314, R321, R324) -/

/-- The logical tile that a node stands for: the one it carries, or else the one it has left (R221). -/
def State.nodeTile (s : State) (n : Nat) : Option Nat :=
  match s.ltileOfPhys n with
  | some l => some l
  | none => if n < 200 ∧ n % 25 ≠ 24 then some (n / 25 * 24 + n % 25) else none
/-- The tile of a tenant that a packet's fault is counted at. -/
def State.faultTile (s : State) (p : Pkt) : Option Nat :=
  let own := fun (n : Nat) => (s.nodeTile n).filter (fun l => (s.ltile l).bound && decide ((s.ltile l).ten = p.ten))
  ((own p.dest).orElse (fun _ => own p.src)).orElse (fun _ => (s.boundTiles p.ten).head?)
/-- A packet that arrives damaged (R324). -/
def State.damagedPkt (s : State) (p : Pkt) : State :=
  let s := { s with noc := { s.noc with damaged := satInc s.noc.damaged 0xFFFF } }
  let s := s.report 0x0601 clsMasked p.src (if p.ten = 0 then none else some p.ten) (p.vc + 2 ^ 8 * p.dest + 2 ^ 16 * p.src)
  if p.ten = 0 then s.gets (if p.vc = 1 then p.dest else p.src) p.tag stPathDown []
  else match s.faultTile p with
    | some l => s.pathFault p.ten l (s.tile l).ecyc
    | none => s
/-- What the routers count of a packet: a corrected flit word at a link, and its age class. -/
def State.passed (s : State) (p : Pkt) (ce : Option (BitVec 12)) : State :=
  let n := s.noc
  let s := { s with noc := { n with
    pkts := removeFirst (fun q => q = p) n.pkts
    maxClass := max n.maxClass (min p.age 15)
    class15 := if 15 ≤ p.age ∧ (n.pkts.contains p) = false then satInc n.class15 0xFFFF else n.class15
    ce := if ce.isSome then satInc n.ce 0xFFFF else n.ce } }
  match ce with
  | some x => s.report 0x0600 clsCorrected (x.toNat % 256) none x.toNat
  | none => s
/-- A packet for a SerDes side leaves by its lowest-numbered link that is up; with none it is lost, and device traffic
completes PATH_DOWN (log entry 50). -/
def State.leaveBySide (s : State) (p : Pkt) : State :=
  match s.upLinks.find? (fun l => decide (l / 36 = p.dest - 0xC8)) with
  | some l => { s with lat := { s.lat with pktOut := s.lat.pktOut ++ [(l, { p with age := s.noc.ageOf p })] } }
  | none => if p.ten = 0 then s.gets p.src p.tag stPathDown [] else s
/-- What becomes of a packet at a tile's node (R221). -/
inductive TileFate where
  | here (l : Option Nat) | forward (n : Nat) | drop
deriving DecidableEq, Repr
def State.tileFate (s : State) (p : Pkt) : TileFate :=
  match s.nodeTile p.dest with
  | none => if p.epoch = 0 then .here none else .drop
  | some l =>
    if (s.remap l).epoch ≠ p.epoch then .drop
    else if s.ptile l = p.dest ∧ (s.remap l).failed = false then .here (some l)
    else if s.ptile l ≠ p.dest then .forward (s.ptile l) else .drop
/-- A reserved operation of its virtual channel (Table 11-3). -/
def opReserved (p : Pkt) : Bool :=
  !(if p.vc = 0 then [1, 2, 3, 4, 5] else if p.vc = 1 then [1, 2, 3, 0xF] else if p.vc = 2 then [1, 2, 3] else [1, 2, 3, 4, 5, 6]).contains p.op
/-- Carries a packet to its node: a packet behind another of its way waits (R315), one with a reserved OP is discarded there and counted
as damaged (R317), and else `f` acts there, with the logical tile of a tile's node. -/
def State.carry (s : State) (p : Pkt) (vc op : Nat) (ce : Option (BitVec 12)) (f : State → Option Nat → State) : State :=
  if 0xD3 ≤ p.dest ∨ s.dev.mode ∈ [Mode.off, .keep, .reset] ∨ comesFirst pktWay p s.noc.pkts = false then s
  else if opReserved p then
    let s := s.passed p ce
    { s with noc := { s.noc with damaged := satInc s.noc.damaged 0xFFFF } }
  else if pktIs p vc op = false then s
  else
    let s := s.passed p ce
    if p.damaged then s.damagedPkt p
    else if p.dest < 200 then
      match s.tileFate p with
      | .here l => f s l
      | .forward n => { s with noc := { s.noc with pkts := s.noc.pkts ++ [{ p with dest := n }] } }
      | .drop => s.dropPkt
    else if p.dest < 0xCC then s.leaveBySide p
    else f s none

/-! ### Requests -/

/-- Nodes 0xCC to 0xCF: the hub-store quadrants. -/
def pktToHub (p : Pkt) : Bool := decide (0xCC ≤ p.dest ∧ p.dest < 0xD0)
/-- The lines of a hub-store access. -/
def pktHubLines (p : Pkt) : List Nat := (List.range (pktCount p)).map (fun i => (pktAddr p) / 64 + i)
def pktHubOk (p : Pkt) : Bool := (pktLinesOk p) && decide ((pktAddr p) + 64 * (pktCount p) ≤ 2 ^ 28)
/-- A poisoned line reaches a tile's stores (Table 11-8): the tenant recovers, and in a recovery under way it is lost (R223). -/
def State.poisonedLoad (s : State) (t : Nat) : State :=
  match (s.ten t).recov with
  | some r => s.lost t r
  | none => if (s.ten t).img.isSome then s.startRecovery t .masked none s.lastSeq else s
/-- Lines written to the hub store, with their mark. -/
def State.hubWrite (s : State) (p : Pkt) : State :=
  let n := s.noc
  let others := n.hubPoison.filter (fun x => !(pktHubLines p).contains x)
  { s with noc := { n with
    hub := n.hub.writeBytes (pktAddr p) (pktLines p)
    hubPoison := if p.poison then (pktHubLines p) ++ others else others
    hubUe := if p.poison then min 0xFF (n.hubUe + (pktCount p)) else n.hubUe
    poisonSeen := n.poisonSeen || p.poison } }
/-- A corrected and an uncorrectable word of the hub store under the first line of a packet (R330). -/
def State.hubCeAt (s : State) (p : Pkt) : State :=
  { s with noc := { s.noc with hubCe := satInc s.noc.hubCe 0xFFFF } }.report 0x0602 clsCorrected p.dest none (pktAddr p)
def State.hubUeAt (s : State) (p : Pkt) : State :=
  { s with noc := { s.noc with
    hubUe := satInc s.noc.hubUe 0xFF, poisonSeen := true
    hubPoison := (pktAddr p) / 64 :: s.noc.hubPoison.filter (fun x => x ≠ (pktAddr p) / 64) } }.report 0x0603 clsDegraded p.dest none (pktAddr p)
/-- Lines read from the hub store, with what the code of a word finds (R330). An error of three or more bits is detected, miscorrected
or undetected, as a free value says, and its word is then a free value (R141's outcomes, taken for the same code). -/
def State.hubRead (s : State) (p : Pkt) (err : ErrFound) : State :=
  let s := match err with
    | .clean => s
    | .single => s.hubCeAt p
    | .double => s.hubUeAt p
    | .multi =>
      let r := s.freshNat
      if r.1 % 3 = 0 then r.2.hubUeAt p
      else
        let v := r.2.freshDWord
        let s := { v.2 with noc := { v.2.noc with hub := v.2.noc.hub.writeBytes (pktAddr p) (leBytes v.1.toNat 8) } }
        if r.1 % 3 = 1 then s.hubCeAt p else s
  s.answerData p ((pktHubLines p).any (fun x => s.noc.hubPoison.contains x)) (s.noc.hub.readBytes (pktAddr p) (64 * (pktCount p)))

/-- The hub may touch the store of a tile that a request names (R79, R140): a program store only while the tile has no image or its
image is being restored; any other store while the tile has no image, stands at a closed boundary, or has stopped with every command
complete. A request that finds its tile otherwise waits. -/
def State.hubMayTouch (s : State) (p : Pkt) (wr : Bool) : Bool :=
  match pktStore p, s.tileFate p with
  | some z, .here (some l) =>
    let t := s.tile l
    if wr && decide (z.1 < 6) then
      !t.hasImg || (s.ten (s.ltile l).ten).recov.any (fun r => decide (r.phase = .placed))
    else !t.hasImg || (t.atClosed && !t.inEcyc) || t.settled
  | _, _ => true
/-- Word `j` of the array banks of tile `l` is uncorrectable at a read of the hub (R144). -/
def State.bankUe (s : State) (l j : Nat) : State :=
  let s := s.updTile l (fun t => t.setUe (j / 8192) 2)
  if (s.ltile l).bound then s.arrayUe (s.ltile l).ten l (j / 8192) (j % 8192) else s
/-- A read of the hub of word `j` of the array banks of tile `l` (R141, R143, R144): whether the word is bad, and what it leaves. -/
def State.bankRead (s : State) (l j : Nat) (err : ErrFound) : Bool × State :=
  match err with
  | .clean => (false, s)
  | .single => (false, s.updTile l (fun t => t.countCe (j / 8192)))
  | .double => (true, s.bankUe l j)
  | .multi =>
    let r := s.freshNat
    if r.1 % 3 = 0 then (true, r.2.bankUe l j)
    else
      let v := r.2.freshDWord
      (false, v.2.updTile l (fun t =>
        { (if r.1 % 3 = 1 then t.countCe (j / 8192) else t) with banks := Map.set t.banks j v.1 }))

/-- PKT_REQ_WRITE (R317, R318): lines enter a store of the tile, or the hub store. `ce` is a flit word corrected on the way. -/
def execPktReqWrite (p : Pkt) (ce : Option (BitVec 12)) (s : State) : Out :=
  if s.hubMayTouch p true = false then .next s else
  .next (s.carry p 0 1 ce (fun s l =>
    if (pktToHub p) then (if (pktHubOk p) then s.hubWrite p else s.answerError p)
    else match (pktStore p), l with
      | some z, some l =>
        if p.poison then s.poisonedLoad p.ten else s.updTile l (fun t => t.setStoreBytes z.1 z.2.2 z.2.1 (pktLines p))
      | _, _ => s.answerError p))
/-- PKT_REQ_READ (R317, R318): DATA with the lines goes back. `err` is what the code of the hub store finds (R330), or that of the first
word read of a tile's array banks (R141). -/
def execPktReqRead (p : Pkt) (ce : Option (BitVec 12)) (err : ErrFound) (s : State) : Out :=
  if s.hubMayTouch p false = false then .next s else
  .next (s.carry p 0 2 ce (fun s l =>
    if (pktToHub p) then (if (pktHubOk p) then s.hubRead p err else s.answerError p)
    else match (pktStore p), l with
      | some z, some l =>
        let r := s.bankRead l (z.2.1 / 8) (if z.1 = 8 then err else .clean)
        let t := r.2.tile l
        r.2.answerData p r.1 ((List.range (64 * (pktCount p))).map (fun i => t.storeByte z.1 z.2.2 (z.2.1 + i)))
      | _, _ => s.answerError p))
/-- The register that a REG packet names, as an offset of PF BAR0: the packet's offset in the tile's TIL window (Table 18-1). -/
def pktTil (p : Pkt) : Nat := 0x1000000 + 0x10000 * p.dest + pktField p 0x10 4 % 0x10000
/-- PKT_REQ_REG_RD (R317): REG_DATA with the register's value goes back. -/
def execPktReqRegRd (p : Pkt) (ce : Option (BitVec 12)) (s : State) : Out :=
  .next (s.carry p 0 4 ce (fun s _ =>
    if p.dest < 200 then (s.answer p 3 false (zeros 7 ++ leBytes (s.readReg (pktTil p)) 4)).readEffect (pktTil p) else s.answerError p))
/-- PKT_REQ_REG_WR (R317): the enabled bytes of the register are written. -/
def execPktReqRegWr (p : Pkt) (ce : Option (BitVec 12)) (s : State) : Out :=
  .next (s.carry p 0 5 ce (fun s _ =>
    if p.dest < 200 then s.writeReg 0 (pktTil p) (pktField p 0x14 4) (pktField p 0x18 1 % 16) .ok else s.answerError p))

/-! ### Answers -/

/-- PKT_RSP_DATA (R317, R319): the requester has the lines; a poisoned line makes it DATA_UE, and at a tile the tenant recovers
(Table 11-8). -/
def execPktRspData (p : Pkt) (ce : Option (BitVec 12)) (s : State) : Out :=
  .next (s.carry p 1 1 ce (fun s _ =>
    let s := s.gets p.dest p.tag (if p.poison then stDataUe else stOk) (pktLines p)
    if p.poison && decide (p.dest < 200 ∧ p.ten ≠ 0) then s.poisonedLoad p.ten else s))
/-- PKT_RSP_REG_DATA (R317): the requester has the register's value. -/
def execPktRspRegData (p : Pkt) (ce : Option (BitVec 12)) (s : State) : Out :=
  .next (s.carry p 1 3 ce (fun s _ => s.gets p.dest p.tag stOk (leBytes (pktField p 0x10 4) 4)))
/-- PKT_RSP_ERROR (R317): the request completes with the packet's status, as a completion status (Table 12-9). -/
def execPktRspError (p : Pkt) (ce : Option (BitVec 12)) (s : State) : Out :=
  .next (s.carry p 1 0xF ce (fun s _ =>
    let st := pktField p 0x09 1
    s.gets p.dest p.tag (if st = 2 then stRegion else if st = 1 then stDataUe else stOk) []))

/-! ### Management reports -/

/-- PKT_MGT_STOP (R317): the management controller learns that a tile has stopped, and why. -/
def execPktMgtStop (p : Pkt) (ce : Option (BitVec 12)) (s : State) : Out :=
  .next (s.carry p 3 5 ce (fun s _ =>
    if p.dest = 0xD0 then { s with noc := { s.noc with stops := Map.set s.noc.stops p.src (pktField p 0x09 1) } } else s))
/-- The link of this module that a slot of the tenant from another module comes by: the first up link to a module that sends to it. -/
def State.slotLink (s : State) (t : Nat) : Option Nat :=
  (s.ten t).img.bind (fun i => (i.links.filter (fun e => decide (e.dst = i.me))).findSome? (fun e =>
    s.upLinks.find? (fun l => (i.mods[e.frm]?).any (fun m => decide ((s.link l).farId = some m.1)))))
/-- A slot lost or damaged on a lattice link (Table 7-5): a transient of the link, on its repeat a permanent fault of it (R218). -/
def State.slotLost (s : State) (t : Nat) : State :=
  match s.slotLink t with
  | none => s.startRecovery t .masked none s.lastSeq
  | some l =>
    let r := s.transientFault t 5 l
    if r.1 then r.2.linkDown l else r.2.startRecovery t .masked none s.lastSeq
/-- A detection of Table 7-5, by its place there, at tile `l` of tenant `t`. The packet names neither a word of a bank nor, where no
slice waits, a slice: they are free values of the entry; nor a link or phase, whose own events stand for codes 6 and 7. -/
def State.detection (s : State) (code t l : Nat) : State :=
  let e := (s.tile l).ecyc
  let r := s.freshNat
  if code = 1 then r.2.arrayUe t l (s.tile l).ueBank (r.1 % 8192)
  else if code = 2 then s.pathFault t l e
  else if code = 3 then (s.report 0x0102 clsMasked (s.ptile l) (some t) (s.tile l).waitStep).tileTransient t l 2
  else if code = 4 then
    (r.2.report 0x0103 clsMasked (s.ptile l) (some t)
      (((s.tile l).busySlices (s.tile l).stepNo (BitVec.allOnes 16)).head?.getD (r.1 % 16))).tileTransient t l 3
  else if code = 5 then s.slotLost t
  else if code = 8 then s.dataLoss t e s.lastSeq
  else if code = 9 then s.doubleFault t l
  else s
/-- PKT_MGT_FAULT (R317, R218): the fault manager acts on a tile's detection. -/
def execPktMgtFault (p : Pkt) (ce : Option (BitVec 12)) (s : State) : Out :=
  .next (s.carry p 3 6 ce (fun s _ =>
    match (s.nodeTile p.src).filter (fun l => (s.ltile l).bound && decide ((s.ltile l).ten = p.ten)) with
    | some l => if p.dest = 0xD0 then s.detection (pktField p 0x09 1) p.ten l else s
    | none => s))

end Sys2Proof.Machine
end

