-- ==== Sys2Proof/Machine/SmbCmd.lean ====
section
/-!
DEFINITION. The SMBus port (R365 to R367): the address pointer, reads and writes under tenant 0's authority, and dead lines.
-/
namespace Sys2Proof.Machine

/-- The port answers: powered, enabled, and not dead (R365, R367). -/
def State.smbLives (s : State) : Bool :=
  decide (s.dev.mode ≠ .off ∧ s.dev.mode ≠ .keep) && decide (s.rfld 0x80100 7 1 = 1) && !s.host.smbDead
/-- A transaction of the port: refused without a valid PEC where one is required (R365). One that completes ends the row of
timeouts, and finds both lines high. -/
def State.smb (s : State) (pec : Bool) (act : State → State) : Out :=
  if s.smbLives = false then .next s
  else if s.rfld 0x80100 8 1 = 1 ∧ pec = false then .next { s with host := { s.host with smbOut := .nack } }
  else .next (act { s with host := { s.host with smbRow := 0, smbDatLow := false, smbClkLow := false, smbOut := .ack } })
def State.smbDenied (s : State) (off : Nat) : State := s.report 0x050A clsEvent 0 none off
/-- The blocks that reads reach (R366), with the error-log window. -/
def smbReads (off : Nat) : Bool := decide (off < 0x50000) || decide (0x70000 ≤ off ∧ off < 0x80000)
/-- A block that is not yet up reads zero: the analogue monitor before its domain is good, Thyme and the error log in RESET
(log entry 45). -/
def State.smbUp (s : State) (off : Nat) : Bool :=
  if off < 0x30000 then true
  else if off < 0x40000 then (s.domain 65).good else decide (s.dev.mode ≠ .reset)
def State.smbNext (s : State) : State := { s with host := { s.host with smbPtr := (s.host.smbPtr + 4) % 2 ^ 32 } }

/-- SMB_SET_POINTER (command 0x10, Table 12-14); an offset that is no multiple of 4 is refused (log entry 45). -/
def execSmbSetPointer (off : Word) (pec : Bool) (s : State) : Out :=
  s.smb pec (fun s =>
    if off.toNat % 4 = 0 then { s with host := { s.host with smbPtr := off.toNat } }
    else { s with host := { s.host with smbOut := .nack } })
/-- SMB_BLOCK_READ (command 0x11): the register at the pointer, which then advances by 4. -/
def execSmbBlockRead (pec : Bool) (s : State) : Out :=
  s.smb pec (fun s =>
    let p := s.host.smbPtr
    let out := fun (s : State) (v : Nat) => ({ s with host := { s.host with smbOut := .data (BitVec.ofNat 32 v) } }).smbNext
    if smbReads p = false then out (s.smbDenied p) 0
    else if s.smbUp p then out (s.readEffect p) (s.readReg p) else out s 0)
/-- SMB_BLOCK_WRITE (command 0x12): DEV_CTL and ERR_LOG_RIDX only (R366); the pointer then advances by 4. -/
def execSmbBlockWrite (v : Word) (pec : Bool) (s : State) : Out :=
  s.smb pec (fun s =>
    let p := s.host.smbPtr
    (if p = 0x24 ∨ p = 0x70004 then s.writeReg 0 p v.toNat 15 .ok else s.smbDenied p).smbNext)

/-- SMB_TIMEOUT (R367): a line has stayed low for 35 ms; the third in a row makes the sideband dead. -/
def execSmbTimeout (dat : Bool) (s : State) : Out :=
  if s.smbLives = false then .next s
  else
    let row := s.host.smbRow + 1
    let s := { s with host := { s.host with
      smbRow := row, smbTimeouts := satInc s.host.smbTimeouts 0xFF
      smbDatLow := s.host.smbDatLow || dat, smbClkLow := s.host.smbClkLow || !dat } }
    let s := s.report 0x0507 clsEvent 0 none (b2n dat)
    if row < 3 then .next s
    else .next (({ s with host := { s.host with smbDead := true } }).report 0x0508 clsDegraded 0 none (b2n dat))
/-- SMB_REVIVED (R367): both lines have been high for 10 ms. -/
def execSmbRevived (s : State) : Out :=
  if s.host.smbDead then
    .next (({ s with host := { s.host with smbDead := false, smbRow := 0, smbDatLow := false, smbClkLow := false } }).report
      0x0509 clsEvent 0 none 0)
  else .next s

end Sys2Proof.Machine
end

