-- ==== Sys2Proof/Machine/Dispatch.lean ====
section
/-!
DEFINITION. The command table: one arm per command, each a direct call of its meaning.
-/
namespace Sys2Proof.Machine

def exec (i : Instr) (s : State) : Host.Outcome State Fault Refusal :=
  match i with
  | .vinEnterRange sel => Sys2Proof.Machine.execVinEnterRange sel s
  | .vinLeaveRange => Sys2Proof.Machine.execVinLeaveRange s
  | .vbatRise => Sys2Proof.Machine.execVbatRise s
  | .vbatFall => Sys2Proof.Machine.execVbatFall s
  | .resetPin sel => Sys2Proof.Machine.execResetPin sel s
  | .perst => Sys2Proof.Machine.execPerst s
  | .devHoldRaise => Sys2Proof.Machine.execDevHoldRaise s
  | .devHoldWithdraw => Sys2Proof.Machine.execDevHoldWithdraw s
  | .forceSafe key => Sys2Proof.Machine.execForceSafe key s
  | .softReset key sel => Sys2Proof.Machine.execSoftReset key sel s
  | .postComplete tiles cols dies unit sigs => Sys2Proof.Machine.execPostComplete tiles cols dies unit sigs s
  | .cspBootWaitExpire => Sys2Proof.Machine.execCspBootWaitExpire s
  | .configLoadComplete => Sys2Proof.Machine.execConfigLoadComplete s
  | .runStart d ten count span => Sys2Proof.Machine.execRunStart d ten count span s
  | .runStop d ten count => Sys2Proof.Machine.execRunStop d ten count s
  | .runStep d ten count span => Sys2Proof.Machine.execRunStep d ten count span s
  | .runRelease d ten count => Sys2Proof.Machine.execRunRelease d ten count s
  | .runHold d ten count => Sys2Proof.Machine.execRunHold d ten count s
  | .stepCountExpire ten => Sys2Proof.Machine.execStepCountExpire ten s
  | .stepFetch l delayed => Sys2Proof.Machine.execStepFetch l delayed s
  | .stepGate l => Sys2Proof.Machine.execStepGate l s
  | .stepEvaluate l held => Sys2Proof.Machine.execStepEvaluate l held s
  | .stepWrite l => Sys2Proof.Machine.execStepWrite l s
  | .seqNext l e => Sys2Proof.Machine.execSeqNext l e s
  | .seqEnd l e => Sys2Proof.Machine.execSeqEnd l e s
  | .seqJump l => Sys2Proof.Machine.execSeqJump l s
  | .seqLoop l e => Sys2Proof.Machine.execSeqLoop l e s
  | .seqCall l e => Sys2Proof.Machine.execSeqCall l e s
  | .seqRet l e => Sys2Proof.Machine.execSeqRet l e s
  | .seqTrap l e => Sys2Proof.Machine.execSeqTrap l e s
  | .seqRetx l e => Sys2Proof.Machine.execSeqRetx l e s
  | .stackSpillAccess l err parFails spBad => Sys2Proof.Machine.execStackSpillAccess l err parFails spBad s
  | .macMul l p => Sys2Proof.Machine.execMacMul l p s
  | .macMac l p => Sys2Proof.Machine.execMacMac l p s
  | .macMsub l p => Sys2Proof.Machine.execMacMsub l p s
  | .macCas l p => Sys2Proof.Machine.execMacCas l p s
  | .macRead l p => Sys2Proof.Machine.execMacRead l p s
  | .arrayRead l p err => Sys2Proof.Machine.execArrayRead l p err s
  | .arrayWrite l p err => Sys2Proof.Machine.execArrayWrite l p err s
  | .arraySet l p err => Sys2Proof.Machine.execArraySet l p err s
  | .arrayClear l p err => Sys2Proof.Machine.execArrayClear l p err s
  | .arrayScrub l p err => Sys2Proof.Machine.execArrayScrub l p err s
  | .deepDread ten memid err => Sys2Proof.Machine.execDeepDread ten memid err s
  | .deepDwrite ten memid err wbad => Sys2Proof.Machine.execDeepDwrite ten memid err wbad s
  | .deepDset ten memid err wbad => Sys2Proof.Machine.execDeepDset ten memid err wbad s
  | .deepDclear ten memid err wbad => Sys2Proof.Machine.execDeepDclear ten memid err wbad s
  | .slotArrive p damaged => Sys2Proof.Machine.execSlotArrive p damaged s
  | .creditArrive ten src dst word occ ecyc => Sys2Proof.Machine.execCreditArrive ten src dst word occ ecyc s
  | .sendSlotDepart l k => Sys2Proof.Machine.execSendSlotDepart l k s
  | .tileEndReport l => Sys2Proof.Machine.execTileEndReport l s
  | .startGrant l pins => Sys2Proof.Machine.execStartGrant l pins s
  | .checkpointDue ten => Sys2Proof.Machine.execCheckpointDue ten s
  | .schLsyncWrite t window => Sys2Proof.Machine.execSchLsyncWrite t window s
  | .imageCommit d ten off len => Sys2Proof.Machine.execImageCommit d ten off len s
  | .loadCheckComplete ten => Sys2Proof.Machine.execLoadCheckComplete ten s
  | .imageDiscard d ten => Sys2Proof.Machine.execImageDiscard d ten s
  | .tilContractClear n => Sys2Proof.Machine.execTilContractClear n s
  | .hazardReportPost ten => Sys2Proof.Machine.execHazardReportPost ten s
  | .schDebugWrite t v => Sys2Proof.Machine.execSchDebugWrite t v s
  | .tapsPacket l => Sys2Proof.Machine.execTapsPacket l s
  | .trapEvt l => Sys2Proof.Machine.execTrapEvt l s
  | .triggerEvaluate q span => Sys2Proof.Machine.execTriggerEvaluate q span s
  | .trigInEdge k level span => Sys2Proof.Machine.execTrigInEdge k level span s
  | .trigTimerExpire q k span => Sys2Proof.Machine.execTrigTimerExpire q k span s
  | .trigHoldoffEnd q => Sys2Proof.Machine.execTrigHoldoffEnd q s
  | .trigOutPulseEnd k => Sys2Proof.Machine.execTrigOutPulseEnd k s
  | .trgOwnerWrite q by' owner => Sys2Proof.Machine.execTrgOwnerWrite q by' owner s
  | .trgArm q by' init ring => Sys2Proof.Machine.execTrgArm q by' init ring s
  | .trgDisarm q by' => Sys2Proof.Machine.execTrgDisarm q by' s
  | .trgSwev q by' span => Sys2Proof.Machine.execTrgSwev q by' span s
  | .acqRunStart c by' => Sys2Proof.Machine.execAcqRunStart c by' s
  | .acqRunStop c by' => Sys2Proof.Machine.execAcqRunStop c by' s
  | .acqOwnerWrite c by' owner => Sys2Proof.Machine.execAcqOwnerWrite c by' owner s
  | .acqRecordLanded c bad => Sys2Proof.Machine.execAcqRecordLanded c bad s
  | .acqGapRoom c => Sys2Proof.Machine.execAcqGapRoom c s
  | .acqPacingRoom c => Sys2Proof.Machine.execAcqPacingRoom c s
  | .acqPaceTimeout c ms => Sys2Proof.Machine.execAcqPaceTimeout c ms s
  | .acqRidxWrite c by' v => Sys2Proof.Machine.execAcqRidxWrite c by' v s
  | .capture d ten => Sys2Proof.Machine.execCapture d ten s
  | .captureMoveStart => Sys2Proof.Machine.execCaptureMoveStart s
  | .captureMoveDone bad => Sys2Proof.Machine.execCaptureMoveDone bad s
  | .captureLanded pathOk bad => Sys2Proof.Machine.execCaptureLanded pathOk bad s
  | .capRidxWrite by' t n => Sys2Proof.Machine.execCapRidxWrite by' t n s
  | .captureArea d ten off slots => Sys2Proof.Machine.execCaptureArea d ten off slots s
  | .checkpointLanded ten bad => Sys2Proof.Machine.execCheckpointLanded ten bad s
  | .watchdogExpire l more => Sys2Proof.Machine.execWatchdogExpire l more s
  | .recoveryPlacement ten => Sys2Proof.Machine.execRecoveryPlacement ten s
  | .restoreComplete ten newBad oldBad => Sys2Proof.Machine.execRestoreComplete ten newBad oldBad s
  | .drainMarker marker => Sys2Proof.Machine.execDrainMarker marker s
  | .partitionTimeout ten ms => Sys2Proof.Machine.execPartitionTimeout ten ms s
  | .lateErrorPacket ten ring status tag dseq addr mod memid tile => Sys2Proof.Machine.execLateErrorPacket ten ring status tag dseq addr mod memid tile s
  | .errorLogIntake => Sys2Proof.Machine.execErrorLogIntake s
  | .errLogRidxWrite v => Sys2Proof.Machine.execErrLogRidxWrite v s
  | .errCkptCfgWrite t v => Sys2Proof.Machine.execErrCkptCfgWrite t v s
  | .sliceEnd ten => Sys2Proof.Machine.execSliceEnd ten s
  | .swapStart => Sys2Proof.Machine.execSwapStart s
  | .swapOutEmptied v bad => Sys2Proof.Machine.execSwapOutEmptied v bad s
  | .swapInLoaded bad => Sys2Proof.Machine.execSwapInLoaded bad s
  | .swapDrainDone ten => Sys2Proof.Machine.execSwapDrainDone ten s
  | .rebalance d ten pairs => Sys2Proof.Machine.execRebalance d ten pairs s
  | .schTregionWrite t size v => Sys2Proof.Machine.execSchTregionWrite t size v s
  | .schTcfgWrite t v => Sys2Proof.Machine.execSchTcfgWrite t v s
  | .schBwClassWrite c v => Sys2Proof.Machine.execSchBwClassWrite c v s
  | .tokenWindow => Sys2Proof.Machine.execTokenWindow s
  | .msgOutRelease ten cq => Sys2Proof.Machine.execMsgOutRelease ten cq s
  | .basilEvaluate used lk loads waited share => Sys2Proof.Machine.execBasilEvaluate used lk loads waited share s
  | .fastCap iin => Sys2Proof.Machine.execFastCap iin s
  | .limitTrip vin => Sys2Proof.Machine.execLimitTrip vin s
  | .phaseShed c p => Sys2Proof.Machine.execPhaseShed c p s
  | .converterOutOfWindow c => Sys2Proof.Machine.execConverterOutOfWindow c s
  | .domainFault d => Sys2Proof.Machine.execDomainFault d s
  | .domainIdleOff d => Sys2Proof.Machine.execDomainIdleOff d s
  | .domainPowerGood d => Sys2Proof.Machine.execDomainPowerGood d s
  | .pwrDomCtlWrite d en => Sys2Proof.Machine.execPwrDomCtlWrite d en s
  | .vtMoveDone hub => Sys2Proof.Machine.execVtMoveDone hub s
  | .smallConfigEnter => Sys2Proof.Machine.execSmallConfigEnter s
  | .fullConfigDone => Sys2Proof.Machine.execFullConfigDone s
  | .linkDetectLock l => Sys2Proof.Machine.execLinkDetectLock l s
  | .linkDetectTimeout l bad => Sys2Proof.Machine.execLinkDetectTimeout l bad s
  | .linkTrainDone l swap pol => Sys2Proof.Machine.execLinkTrainDone l swap pol s
  | .linkTrainTimeout l => Sys2Proof.Machine.execLinkTrainTimeout l s
  | .tsReceive l line ts rtt => Sys2Proof.Machine.execTsReceive l line ts rtt s
  | .linkIdentRetry l => Sys2Proof.Machine.execLinkIdentRetry l s
  | .linkFastRtEnter l line cause => Sys2Proof.Machine.execLinkFastRtEnter l line cause s
  | .linkFastRtTimeout l bad => Sys2Proof.Machine.execLinkFastRtTimeout l bad s
  | .linkFullRtTimeout l => Sys2Proof.Machine.execLinkFullRtTimeout l s
  | .linkDownRetry l => Sys2Proof.Machine.execLinkDownRetry l s
  | .frameReceiveXch l line seq damaged ten ecyc dmod omod slots => Sys2Proof.Machine.execFrameReceiveXch l line seq damaged ten ecyc dmod omod slots s
  | .slotForward l k => Sys2Proof.Machine.execSlotForward l k s
  | .frameReceivePkt l line seq damaged p => Sys2Proof.Machine.execFrameReceivePkt l line seq damaged p s
  | .frameReceiveDtr l line seq damaged dst org link iseq inner => Sys2Proof.Machine.execFrameReceiveDtr l line seq damaged dst org link iseq inner s
  | .frameReceiveCtl l line damaged c => Sys2Proof.Machine.execFrameReceiveCtl l line damaged c s
  | .frameTransmit l ctlDue skpDue delay => Sys2Proof.Machine.execFrameTransmit l ctlDue skpDue delay s
  | .retryAckTimeout l => Sys2Proof.Machine.execRetryAckTimeout l s
  | .fmkSend l delay => Sys2Proof.Machine.execFmkSend l delay s
  | .fmkReceive l line mseq delay tvalid src stratum crcBad sub => Sys2Proof.Machine.execFmkReceive l line mseq delay tvalid src stratum crcBad sub s
  | .tokenBnd l line seq damaged k => Sys2Proof.Machine.execTokenBnd l line seq damaged k s
  | .tokenReplay l line seq damaged k => Sys2Proof.Machine.execTokenReplay l line seq damaged k s
  | .tokenPace l line seq damaged k => Sys2Proof.Machine.execTokenPace l line seq damaged k s
  | .tokenDrain l line seq damaged k => Sys2Proof.Machine.execTokenDrain l line seq damaged k s
  | .tokenPartx l line seq damaged k => Sys2Proof.Machine.execTokenPartx l line seq damaged k s
  | .tokenLhold l line seq damaged k => Sys2Proof.Machine.execTokenLhold l line seq damaged k s
  | .tokenNbr l line seq damaged k => Sys2Proof.Machine.execTokenNbr l line seq damaged k s
  | .nbrSend => Sys2Proof.Machine.execNbrSend s
  | .paceNoticeSend ten => Sys2Proof.Machine.execPaceNoticeSend ten s
  | .linkSleepEnter l => Sys2Proof.Machine.execLinkSleepEnter l s
  | .linkWake l => Sys2Proof.Machine.execLinkWake l s
  | .lnkEnable l => Sys2Proof.Machine.execLnkEnable l s
  | .lnkDisable l => Sys2Proof.Machine.execLnkDisable l s
  | .lnkModeWrite l mode prbs => Sys2Proof.Machine.execLnkModeWrite l mode prbs s
  | .lnkRetrain l => Sys2Proof.Machine.execLnkRetrain l s
  | .lnkClrCnt l => Sys2Proof.Machine.execLnkClrCnt l s
  | .lnkIdWrite id valid tag => Sys2Proof.Machine.execLnkIdWrite id valid tag s
  | .pktReqWrite p ce => Sys2Proof.Machine.execPktReqWrite p ce s
  | .pktReqRead p ce err => Sys2Proof.Machine.execPktReqRead p ce err s
  | .pktReqDeep ten memid damaged => Sys2Proof.Machine.execPktReqDeep ten memid damaged s
  | .pktReqRegRd p ce => Sys2Proof.Machine.execPktReqRegRd p ce s
  | .pktReqRegWr p ce => Sys2Proof.Machine.execPktReqRegWr p ce s
  | .pktRspData p ce => Sys2Proof.Machine.execPktRspData p ce s
  | .pktRspDeepRes ten tile k damaged => Sys2Proof.Machine.execPktRspDeepRes ten tile k damaged s
  | .pktRspRegData p ce => Sys2Proof.Machine.execPktRspRegData p ce s
  | .pktRspError p ce => Sys2Proof.Machine.execPktRspError p ce s
  | .pktMgtStop p ce => Sys2Proof.Machine.execPktMgtStop p ce s
  | .pktMgtFault p ce => Sys2Proof.Machine.execPktMgtFault p ce s
  | .dsPatrolRead k err => Sys2Proof.Machine.execDsPatrolRead k err s
  | .dsRowRepairDone k pc row => Sys2Proof.Machine.execDsRowRepairDone k pc row s
  | .dsTempRead k t => Sys2Proof.Machine.execDsTempRead k t s
  | .sqDoorbell fn r value => Sys2Proof.Machine.execSqDoorbell fn r value s
  | .cqHeadWrite fn r value => Sys2Proof.Machine.execCqHeadWrite fn r value s
  | .sqEnable fn r log2 cq => Sys2Proof.Machine.execSqEnable fn r log2 cq s
  | .sqDisable fn r => Sys2Proof.Machine.execSqDisable fn r s
  | .cqEnable fn r log2 ien vector coalCnt coalUs => Sys2Proof.Machine.execCqEnable fn r log2 ien vector coalCnt coalUs s
  | .cqDisable fn r => Sys2Proof.Machine.execCqDisable fn r s
  | .descriptorFetch fn r bytes => Sys2Proof.Machine.execDescriptorFetch fn r bytes s
  | .descriptorStart fn r => Sys2Proof.Machine.execDescriptorStart fn r s
  | .descNop d => Sys2Proof.Machine.execDescNop d s
  | .descWriteDeep d ten hostAddr deepOff len => Sys2Proof.Machine.execDescWriteDeep d ten hostAddr deepOff len s
  | .descReadDeep d ten hostAddr deepOff len => Sys2Proof.Machine.execDescReadDeep d ten hostAddr deepOff len s
  | .msgBind d port dir memid cq => Sys2Proof.Machine.execMsgBind d port dir memid cq s
  | .msgIn d port len hostAddr => Sys2Proof.Machine.execMsgIn d port len hostAddr s
  | .msgInLand ten port => Sys2Proof.Machine.execMsgInLand ten port s
  | .msgOut d port cap hostAddr => Sys2Proof.Machine.execMsgOut d port cap hostAddr s
  | .msgOutProcess ten port res => Sys2Proof.Machine.execMsgOutProcess ten port res s
  | .dmaTransferDone d bytes res => Sys2Proof.Machine.execDmaTransferDone d bytes res s
  | .completionPost fn cq => Sys2Proof.Machine.execCompletionPost fn cq s
  | .msixCoalesceTimer fn cq => Sys2Proof.Machine.execMsixCoalesceTimer fn cq s
  | .flr fn => Sys2Proof.Machine.execFlr fn s
  | .d3hotEnter fn => Sys2Proof.Machine.execD3hotEnter fn s
  | .vfEnableClear => Sys2Proof.Machine.execVfEnableClear s
  | .hotReset => Sys2Proof.Machine.execHotReset s
  | .bmeClear fn => Sys2Proof.Machine.execBmeClear fn s
  | .pclkTrip => Sys2Proof.Machine.execPclkTrip s
  | .smbSetPointer off pec => Sys2Proof.Machine.execSmbSetPointer off pec s
  | .smbBlockRead pec => Sys2Proof.Machine.execSmbBlockRead pec s
  | .smbBlockWrite v pec => Sys2Proof.Machine.execSmbBlockWrite v pec s
  | .smbTimeout dat => Sys2Proof.Machine.execSmbTimeout dat s
  | .smbRevived => Sys2Proof.Machine.execSmbRevived s
  | .thyIncApply v => Sys2Proof.Machine.execThyIncApply v s
  | .thySet => Sys2Proof.Machine.execThySet s
  | .thyAdj v => Sys2Proof.Machine.execThyAdj v s
  | .thySourceLoss => Sys2Proof.Machine.execThySourceLoss s
  | .thySourcePrefer l => Sys2Proof.Machine.execThySourcePrefer l s
  | .thymeMarkInEdge => Sys2Proof.Machine.execThymeMarkInEdge s
  | .markInHoldover => Sys2Proof.Machine.execMarkInHoldover s
  | .markOutRise => Sys2Proof.Machine.execMarkOutRise s
  | .markOutFall => Sys2Proof.Machine.execMarkOutFall s
  | .tstartArm k step ten => Sys2Proof.Machine.execTstartArm k step ten s
  | .tstartFire k span => Sys2Proof.Machine.execTstartFire k span s
  | .tracePacketEnter => Sys2Proof.Machine.execTracePacketEnter s
  | .traceDrain k bad => Sys2Proof.Machine.execTraceDrain k bad s
  | .sinkEnable k => Sys2Proof.Machine.execSinkEnable k s
  | .sinkDisable k => Sys2Proof.Machine.execSinkDisable k s
  | .sinkOwnerWrite k owner => Sys2Proof.Machine.execSinkOwnerWrite k owner s
  | .swmarkWrite k v => Sys2Proof.Machine.execSwmarkWrite k v s
  | .bankRelease g => Sys2Proof.Machine.execBankRelease g s
  | .bankWithdraw g => Sys2Proof.Machine.execBankWithdraw g s
  | .bankStageTimer g pins => Sys2Proof.Machine.execBankStageTimer g pins s
  | .brownoutTrip g => Sys2Proof.Machine.execBrownoutTrip g s
  | .targetCycleC1 g => Sys2Proof.Machine.execTargetCycleC1 g s
  | .targetCycleC2 g pins => Sys2Proof.Machine.execTargetCycleC2 g pins s
  | .targetCycleC3 g => Sys2Proof.Machine.execTargetCycleC3 g s
  | .edgeInputDeliver g => Sys2Proof.Machine.execEdgeInputDeliver g s
  | .freePop g r => Sys2Proof.Machine.execFreePop g r s
  | .freePush g r pins => Sys2Proof.Machine.execFreePush g r pins s
  | .edgPrGo r => Sys2Proof.Machine.execEdgPrGo r s
  | .regionPrDone => Sys2Proof.Machine.execRegionPrDone s
  | .edgPinWrite n v => Sys2Proof.Machine.execEdgPinWrite n v s
  | .edgAssignWrite u v => Sys2Proof.Machine.execEdgAssignWrite u v s
  | .edgRouteWrite g inward v => Sys2Proof.Machine.execEdgRouteWrite g inward v s
  | .cspStatus rdy => Sys2Proof.Machine.execCspStatus rdy s
  | .cspPushBegin rdy len => Sys2Proof.Machine.execCspPushBegin rdy len s
  | .cspData rdy bytes => Sys2Proof.Machine.execCspData rdy bytes s
  | .cspEnd rdy => Sys2Proof.Machine.execCspEnd rdy s
  | .cspUpdBegin rdy len tgt => Sys2Proof.Machine.execCspUpdBegin rdy len tgt s
  | .cspUpdActivate rdy => Sys2Proof.Machine.execCspUpdActivate rdy s
  | .cspUpdConfirm rdy => Sys2Proof.Machine.execCspUpdConfirm rdy s
  | .cspTimeout => Sys2Proof.Machine.execCspTimeout s
  | .cspRevived => Sys2Proof.Machine.execCspRevived s
  | .updDownload bay => Sys2Proof.Machine.execUpdDownload bay s
  | .updActivate => Sys2Proof.Machine.execUpdActivate s
  | .updConfirm => Sys2Proof.Machine.execUpdConfirm s
  | .downloadComplete retries failed => Sys2Proof.Machine.execDownloadComplete retries failed s
  | .sorrelFrameRead f => Sys2Proof.Machine.execSorrelFrameRead f s
  | .mcRaise k => Sys2Proof.Machine.execMcRaise k s
  | .ioscProven => Sys2Proof.Machine.execIoscProven s
  | .extSourceProven ref freq => Sys2Proof.Machine.execExtSourceProven ref freq s
  | .rootLock => Sys2Proof.Machine.execRootLock s
  | .ioscTrip => Sys2Proof.Machine.execIoscTrip s
  | .ioscRetry => Sys2Proof.Machine.execIoscRetry s
  | .extRetry => Sys2Proof.Machine.execExtRetry s
  | .clockSourceTrip => Sys2Proof.Machine.execClockSourceTrip s
  | .clockSwitchLock => Sys2Proof.Machine.execClockSwitchLock s
  | .clockRevert => Sys2Proof.Machine.execClockRevert s
  | .boundaryClockTrip edge => Sys2Proof.Machine.execBoundaryClockTrip edge s
  | .trimWindow err => Sys2Proof.Machine.execTrimWindow err s
  | .sageTileLbist n => Sys2Proof.Machine.execSageTileLbist n s
  | .sageTileMbist n => Sys2Proof.Machine.execSageTileMbist n s
  | .sageDsMarch k => Sys2Proof.Machine.execSageDsMarch k s
  | .sageFuseColumn n => Sys2Proof.Machine.execSageFuseColumn n s
  | .sageDsHppr k => Sys2Proof.Machine.execSageDsHppr k s
  | .sageKeyFuse k => Sys2Proof.Machine.execSageKeyFuse k s
  | .sageKeyRevoke k => Sys2Proof.Machine.execSageKeyRevoke k s
  | .sageTestDone fails sig => Sys2Proof.Machine.execSageTestDone fails sig s
  | .sageLcWrite nx key => Sys2Proof.Machine.execSageLcWrite nx key s
  | .anaConversion raw cal slice temp due => Sys2Proof.Machine.execAnaConversion raw cal slice temp due s
  | .anaCalRotate k offLow offHigh gainLow gainHigh => Sys2Proof.Machine.execAnaCalRotate k offLow offHigh gainLow gainHigh s
  | .anaSeqWrite e v => Sys2Proof.Machine.execAnaSeqWrite e v s
  | .regWrite page off data be span => Sys2Proof.Machine.execRegWrite page off data be span s
  | .barAccessUnsupported read => Sys2Proof.Machine.execBarAccessUnsupported read s
  | .zeroLengthAccess read => Sys2Proof.Machine.execZeroLengthAccess read s
  | .resetNRelease => Sys2Proof.Machine.execResetNRelease s
  | .allSuppliesGood => Sys2Proof.Machine.execAllSuppliesGood s
  | .thymeTick => Sys2Proof.Machine.execThymeTick s
  | .backupCountTick => Sys2Proof.Machine.execBackupCountTick s
  | .unselectedSourceTrip ref => Sys2Proof.Machine.execUnselectedSourceTrip ref s
  | .trimWindowTimeout => Sys2Proof.Machine.execTrimWindowTimeout s
  | .drainMarkerTimeout marker => Sys2Proof.Machine.execDrainMarkerTimeout marker s
  | .bmeSet fn => Sys2Proof.Machine.execBmeSet fn s
  | .vfEnableSet n => Sys2Proof.Machine.execVfEnableSet n s
  | .pcieLinkUp rate width flit l0p => Sys2Proof.Machine.execPcieLinkUp rate width flit l0p s
  | .slpReceive l line => Sys2Proof.Machine.execSlpReceive l line s
  | .wakReceive l line => Sys2Proof.Machine.execWakReceive l line s
  | .regReadSideEffect page off be => Sys2Proof.Machine.execRegReadSideEffect page off be s

end Sys2Proof.Machine
end

