-- ==== Sys2Proof/Machine/Pins.lean ====
section
/-!
DEFINITION. The outputs of the device as functions of its state (R23, R195, R230, R380, R403, R418, R419, R433, R490, Table 18-4), and
what PCI Express configuration software reads of its identity (R340, Table 12-2).
-/
namespace Sys2Proof.Machine

/-! ### Status pins -/

/-- FAULT_N is asserted (Table 1-3, R230): in RESET, SELFTEST, LOAD and SAFE, and while FAULT_PEND is 1; it is released without
supply. -/
def State.faultN (s : State) : Bool :=
  match s.dev.mode with
  | .off | .keep => false
  | .reset | .selftest | .load | .safe => true
  | _ => s.fm.pend
/-- CFG_ERR_N is asserted (R433, Table 18-4): a frame of the target class is in error. -/
def State.cfgErrN (s : State) : Bool := decide (s.dev.mode ≠ .off ∧ s.dev.mode ≠ .keep) && !s.cfg.bad.isEmpty

/-- A 1.8 V output: at high impedance, or driven. -/
inductive PinOut where
  | hiZ
  | drives (high : Bool)
deriving DecidableEq, Repr
/-- An output that is low in RESET, SELFTEST, LOAD and SAFE, and else has a level of its own (Table 18-4). -/
def State.lowPin (s : State) (level : Bool) : PinOut :=
  match s.dev.mode with
  | .off | .keep => .hiZ
  | .reset | .selftest | .load | .safe => .drives false
  | _ => .drives level
/-- TRIG_OUT[i] (R195). -/
def State.trigOutPin (s : State) (i : Nat) : PinOut := s.lowPin (s.trig.outPins.testBit i)
/-- THYME_MARK_OUT (R380). -/
def State.markOutPin (s : State) : PinOut := s.lowPin s.thy.markOut

/-! ### Edge pins (R402, R403, R418, R419, Table 14-5) -/

/-- What an EDGE_IO pin does: nothing, a weak pull-down, a level, or a serialised word of `n` bits per FCLK. -/
inductive PadOut where
  | hiZ
  | pullDown
  | level (high : Bool)
  | serial (n : Nat) (word : Byte)
deriving DecidableEq, Repr
/-- The fail-safe state that a pin's latch holds (Table 14-11, R419). -/
def State.padFailSafe (s : State) (n : Nat) : PadOut :=
  if s.edg.padsPreset then
    match Map.get s.edg.padFs 0 n with
    | 1 => .level false
    | 2 => .level true
    | 3 => .pullDown
    | _ => .hiZ
  else .hiZ
/-- The source of a pin (R403, R409): bit i of CO, the target clock, or the word that its region sends; an input drives nothing. -/
def State.padSource (s : State) (n : Nat) : PadOut :=
  let c := s.pinCfg n
  let even := n / 2 * 2
  let m := if fld c 5 3 = 0 then n else even
  let b := s.bank (n / 64)
  let inv := decide (bit c 18 = 1) != (decide (fld c 5 3 ≠ 0 ∧ n ≠ even))
  let word := Map.get s.edg.tx 0 m ^^^ (if inv then BitVec.allOnes 8 else 0)
  match fld c 0 2 with
  | 1 =>
    if bit c 17 = 1 then .level (b.tclk != inv)
    else if bit c 2 = 0 then .level (b.co.getLsbD (m % 64) != inv)
    else .serial (2 ^ fld c 3 2) word
  | 2 => if s.edg.oe.contains m then .serial (2 ^ fld c 3 2) word else .hiZ
  | _ => .hiZ
/-- The pin drives its source in the stage that its bank shows: outputs from OUT, write enables from WE, resets in RUN (Table 14-5). -/
def padDrives (st : BStage) (cls : Nat) : Bool :=
  match st with
  | .out => decide (cls = 0)
  | .we => decide (cls ≤ 1)
  | .run => true
  | _ => false
/-- An EDGE_IO pin (Table 18-4): without VIN, or while its bank has no VIO (R418, R419), it is at high impedance. -/
def State.pad (s : State) (n : Nat) : PadOut :=
  let b := s.bank (n / 64)
  match s.dev.mode with
  | .off | .keep => .hiZ
  | .reset | .selftest | .load | .safe => if b.hiZ || b.brownout then .hiZ else s.padFailSafe n
  | _ =>
    if b.hiZ || b.brownout then .hiZ
    else if padDrives b.shown (fld (s.pinCfg n) 15 2) then s.padSource n
    else s.padFailSafe n

/-! ### Identity of the PCI Express functions (R340, R341, Table 12-2) -/

/-- A BAR: its number and size; every one is a 64-bit, non-prefetchable memory BAR. -/
structure Bar where
  num : Nat
  bytes : Nat
  is64 : Bool := true
  prefetch : Bool := false
deriving DecidableEq, Repr
/-- What a function carries of its identity; the vendor ID and the class code are stated for the PF. -/
structure PciId where
  vendor : Option (BitVec 16)
  device : BitVec 16
  classCode : Option (BitVec 24)
  bars : List Bar
deriving DecidableEq, Repr
/-- The identity of function `fn`, where it exists: 0 is the PF. -/
def State.pciId (s : State) (fn : Nat) : Option PciId :=
  if s.fnExists fn = false then none
  else if fn = 0 then
    some { vendor := some Config.vendorId, device := 0x2192, classCode := some 0x120000
           bars := [{ num := 0, bytes := 32 * 2 ^ 20 }, { num := 2, bytes := 16 * 2 ^ 10 }] }
  else some { vendor := none, device := 0x2193, classCode := none, bars := [{ num := 0, bytes := 16 * 2 ^ 10 }] }

end Sys2Proof.Machine
end

