-- ==== Sys2Proof/Safety.lean ====
section
/-!
DEFINITION. The terms that claims use: what a command comes to, which parts of the state a command leaves alone, and the
invariants that hold of every state a run can reach.
-/
namespace Sys2Proof.Machine

/-- Command `c` completes in state `s`, in a state of which `P` holds. -/
def Runs (c : Instr) (s : State) (P : State → Prop) : Prop := ∃ t, exec c s = .next t ∧ P t

/-- The parts of the state. -/
inductive Part where
  | dev | regs | tenants | tiles | fm | sched | cap | trig | host | noc | ds | thy | chv | lat | pwr | edg | cfg | clk | sage | ana
  | latch | freeCtr | pending
deriving DecidableEq, Repr

/-- A part of the state is as it was. -/
def State.sameIn (s t : State) : Part → Prop
  | .dev => t.dev = s.dev | .regs => t.regs = s.regs | .tenants => t.tenants = s.tenants | .tiles => t.tiles = s.tiles
  | .fm => t.fm = s.fm | .sched => t.sched = s.sched | .cap => t.cap = s.cap | .trig => t.trig = s.trig
  | .host => t.host = s.host | .noc => t.noc = s.noc | .ds => t.ds = s.ds | .thy => t.thy = s.thy | .chv => t.chv = s.chv
  | .lat => t.lat = s.lat | .pwr => t.pwr = s.pwr | .edg => t.edg = s.edg | .cfg => t.cfg = s.cfg | .clk => t.clk = s.clk
  | .sage => t.sage = s.sage | .ana => t.ana = s.ana | .latch => t.latch = s.latch | .freeCtr => t.freeCtr = s.freeCtr
  | .pending => t.pending = s.pending

/-- FRAME: nothing but the listed parts differs between `s` and `t`. -/
def State.keeps (s t : State) (changed : List Part) : Prop := ∀ p, p ∉ changed → s.sameIn t p

/-- Every tile but `l` is as it was. -/
def State.otherTiles (s t : State) (l : Nat) : Prop := ∀ m, m ≠ l → t.tile m = s.tile m
/-- Every tenant but `x` is as it was. -/
def State.otherTenants (s t : State) (x : Nat) : Prop := ∀ m, m ≠ x → t.ten m = s.ten m
/-- Every lattice link but `l` is as it was. -/
def State.otherLinks (s t : State) (l : Nat) : Prop := ∀ m, m ≠ l → t.link m = s.link m
/-- The error log has one new report, or one that counts once more, or has lost it (R229): of code `c`. -/
def State.reported (s t : State) (c k u : Nat) (ten : Option Nat) (d : Nat) : Prop := t.fm = (s.report c k u ten d).fm

/-! ### What one command does to a tile -/

/-- A result register after a command that names it: it takes the value while no later command has named it (R132). -/
def Tile.delivered (t u : Tile) (rdv : Bool) (rd ident : Nat) (v : Word) : Prop :=
  (rdv = false → u.res = t.res) ∧
  (rdv = true → ∀ k, (Map.get t.res {} rd).waits = some (ident, k) →
    (Map.get u.res {} rd).val = v ∧ (Map.get u.res {} rd).waits = none) ∧
  (∀ r, r ≠ rd → Map.get u.res {} r = Map.get t.res {} r)
/-- Slice `p` has performed command `c` and its accumulator holds `acc` (R125, R126); every other slice, the rows, the banks and the
stack are as they were. -/
def Tile.macDone (t u : Tile) (p : Nat) (c : MacCmd) (acc : DWord) : Prop :=
  Map.get u.acc 0 p = acc ∧ (∀ q, q ≠ p → Map.get u.acc 0 q = Map.get t.acc 0 q) ∧
  Map.get u.macQ [] p = (Map.get t.macQ [] p).tail ∧ (∀ q, q ≠ p → Map.get u.macQ [] q = Map.get t.macQ [] q) ∧
  t.delivered u c.rdv c.rd c.ident (macHalf c acc) ∧
  u.ret = t.ret ∧ u.cur = t.cur ∧ u.banks = t.banks ∧ u.bankQ = t.bankQ ∧ u.outs = t.outs ∧ u.stack = t.stack
/-- Bank `p` has performed command `c` on a word that held `w`, and the word holds `w'` (Table 4-6); every other word, the
accumulators, the rows and the stack are as they were. -/
def Tile.arrDone (t u : Tile) (p : Nat) (c : ArrCmd) (w w' : DWord) : Prop :=
  Map.get u.banks 0 (8192 * p + c.addr) = w' ∧ (∀ k, k ≠ 8192 * p + c.addr → Map.get u.banks 0 k = Map.get t.banks 0 k) ∧
  Map.get u.bankQ [] p = (Map.get t.bankQ [] p).tail ∧ (∀ q, q ≠ p → Map.get u.bankQ [] q = Map.get t.bankQ [] q) ∧
  t.delivered u c.rdv c.rd c.ident (laneOf w c.lane) ∧
  u.ret = t.ret ∧ u.cur = t.cur ∧ u.acc = t.acc ∧ u.macQ = t.macQ ∧ u.outs = t.outs ∧ u.stack = t.stack

/-! ### Invariants -/

/-- The error log: at most 64 reports wait in the intake, and at most 1,024 entries of the ring are unread (R229). -/
def FaultMgr.Inv (f : FaultMgr) : Prop := f.intake.length ≤ 64 ∧ (f.widx - f.ridx).toNat ≤ 1024
/-- Thyme's nanoseconds are a fraction of a second (10^9), FRAC one of a nanosecond (2^32; R369), and the backup count's fraction
is in units of 2^-15 s (R374). -/
def Thyme.Inv (t : Thyme) : Prop := t.ns < 1000000000 ∧ t.frac < 4294967296 ∧ t.bkpFrac < 32768
/-- What every step keeps. Host memory, the hub store and the deep store are in the canonical form: rising addresses, and no byte
listed that an unlisted address reads as (log entry 1). -/
structure State.Inv (s : State) : Prop where
  fm : s.fm.Inv
  thy : s.thy.Inv
  hostMem : s.host.hostMem.wf = true
  hub : s.noc.hub.wf = true
  ds : s.ds.wf = true

end Sys2Proof.Machine
end

