-- ==== Sys2Proof/Certificates/Slice0/Obligations.lean ====
section
/-!
DEFINITION. What is claimed of the machine: each statement says what a command comes to, and what it leaves alone, in the words of
the numbered rules that its docstring or its entry in OBLIGATIONS.json cites.
-/
open Sys2Proof Sys2Proof.Machine

/-! ### The queue, and the steps of a tile -/

/-- Every command runs from the front of the queue, with the queue's rest left waiting: a step at a state whose queue begins with `c` is
exec of `c` on the state with that rest. With an empty queue the fabric takes one FCLK edge and the flit wheel one position (the
model's choice, log entry 15), and nothing else of the block moves: a block with no fabric loaded and no packet on its way idles. -/
def Obligations.StepRunsFrontCommand : Prop :=
  (
  ∀ (c : Instr) (rest : List Instr) (s : State), s.pending = c :: rest → step s = exec c { s with pending := rest }) ∧
  (
 ∀ s : State, s.pending = [] → step s = .next s.fclkEdge.nocTurn ∧ s.keeps s.fclkEdge.nocTurn [.edg, .noc, .freeCtr] ∧
  ((s.edg.fclkOk = false ∨ s.edg.loaded = []) → s.noc.flights = [] → s.noc.refs = [] → step s = .next s))

/-- STEP_FETCH raises the fetch request of the next step, and STEP_GATE performs the operand phase of the fetched step once nothing
holds its gate: every bank's row is read, from the half that RD_HALF names, and the tile waits for nothing. A gate that does not
open leaves the step where it is. Other tiles are untouched. STEP_EVALUATE forms the 1,024 outputs of the step in hand, and
STEP_WRITE makes them the last outputs and ends the step. -/
def Obligations.TileSteps : Prop :=
  (
  (∀ (l : TileId) (d : Bool) (s : State), (s.tile l).canFetch = true →
    Runs (.stepFetch l d) s (fun t =>
      (t.tile l).fetched = (s.tile l).nextA ∧ (t.tile l).nextA = none ∧ (t.tile l).stage = (s.tile l).stage ∧
      Map.get (t.tile l).stall 0 11 = (if d then satInc (Map.get (s.tile l).stall 0 11) 0xFFFFFFFF else Map.get (s.tile l).stall 0 11) ∧
      (t.tile l).ret = (s.tile l).ret ∧ (t.tile l).banks = (s.tile l).banks ∧ (t.tile l).acc = (s.tile l).acc ∧
      s.otherTiles t l ∧ s.keeps t [.tiles])) ∧
  (∀ (l : TileId) (a : Nat) (s : State), (s.tile l).atGate = some a → (s.tile l).gateOpens a = true →
    Runs (.stepGate l) s (fun t =>
      (t.tile l).stage = .operand ∧ (t.tile l).stepNo = a ∧ (t.tile l).fetched = none ∧ (t.tile l).gateWait = false ∧
      (∀ p, p < 16 → Map.get (t.tile l).rows 0 p = (s.tile l).rowRead a p) ∧
      (t.tile l).ret = (s.tile l).ret ∧ (t.tile l).cur = (s.tile l).cur ∧ (t.tile l).banks = (s.tile l).banks ∧
      s.otherTiles t l ∧ s.keeps t [.tiles, .tenants])) ∧
  (∀ (l : TileId) (a : Nat) (s : State), (s.tile l).atGate = some a → (s.tile l).gateOpens a = false →
    Runs (.stepGate l) s (fun t =>
      (t.tile l).gateWait = true ∧ (t.tile l).waitWords = (s.tile l).awaitedWords a ∧ (t.tile l).fetched = (s.tile l).fetched ∧
      s.otherTiles t l ∧ s.keeps t [.tiles, .tenants]))) ∧
  (
  (∀ (l : TileId) (held : BitVec 16) (s : State), (s.tile l).stage = .sequenced → (s.tile l).halt = none →
      (s.tile l).evalReady (s.tile l).stepNo held = true →
    Runs (.stepEvaluate l held) s (fun t =>
      (t.tile l).stage = .evaluated ∧ (t.tile l).outs = (s.tile l).evalAll (s.tile l).stepNo ∧
      (t.tile l).lastOut = (s.tile l).lastOut ∧ (t.tile l).ret = (s.tile l).ret ∧ (t.tile l).banks = (s.tile l).banks ∧
      (t.tile l).acc = (s.tile l).acc ∧ s.otherTiles t l ∧ s.keeps t [.tiles, .noc])) ∧
  (∀ (l : TileId) (s : State), (s.tile l).stage = .evaluated → (s.tile l).halt = none → (s.tile l).sendRoom = true →
    Runs (.stepWrite l) s (fun t =>
      (t.tile l).stage = .none ∧ (t.tile l).lastOut = (s.tile l).outs ∧ (t.tile l).exe = (s.tile l).exe + 1 ∧
      (t.tile l).ret = ((s.tile l).writeRows (s.tile l).stepNo 16).ret ∧ (t.tile l).cur = ((s.tile l).writeRows (s.tile l).stepNo 16).cur ∧
      (t.tile l).sendQ.length = (s.tile l).sendQ.length + ((s.tile l).sendsOf (s.tile l).stepNo).length ∧
      (t.tile l).banks = (s.tile l).banks ∧ (t.tile l).acc = (s.tile l).acc ∧ s.otherTiles t l ∧ s.keeps t [.tiles, .noc])))

/-- A step of a BP (R40, R41, R82): bit `m` of a sprig's window is the source that its crossbar slot `m` names, and the output of a BP
whose word is neither a command nor a carry cell is the bit of its truth table that its six selected window bits name; a command
word's output is 0. R44: a BP's output reaches its bit of the row that the step addresses: in the current half where WE = 1, in the
retained half where RETAIN = 1; the bit of a BP with neither keeps its value. Bank `p`, bit `q` of the row of step `a`. The value
that a crossbar code delivers (Tables 2-2 and 3-4): the constants, and the five classes of one-bit sources. -/
def Obligations.BooleanPlane : Prop :=
  (
  (∀ (t : Tile) (a p m : Nat), m < 64 → (t.window a p).getLsbD m = t.source (t.xcode a p m)) ∧
  (∀ (t : Tile) (a p : Nat), p < 16 → Map.get (t.operandPhase a).win 0 p = (t.operandPhase a).window a p) ∧
  (∀ (t : Tile) (a b : Nat), b < 1024 → isCmdWord (t.word a b) = false → fld (t.word a b) 5 2 = 0 →
    let x := fun k => b2n ((Map.get t.win 0 (b / 64)).getLsbD (fld (t.word a b) (9 + 6 * k) 6))
    (t.evalAll a).getLsbD b =
      (t.table (fld (t.word a b) 45 11)).testBit (x 0 + 2 * x 1 + 4 * x 2 + 8 * x 3 + 16 * x 4 + 32 * x 5)) ∧
  (∀ (t : Tile) (a b : Nat), b < 1024 → isCmdWord (t.word a b) = true → (t.evalAll a).getLsbD b = false)) ∧
  (
  ∀ (t : Tile) (a p q : Nat), p < 16 → q < 64 →
    let u := t.writeRows a 16
    (Map.get u.cur 0 (2048 * p + a)).getLsbD q =
      (if bit (t.word a (64 * p + q)) 8 = 1 then t.outs.getLsbD (64 * p + q) else (Map.get t.cur 0 (2048 * p + a)).getLsbD q) ∧
    (Map.get u.ret 0 (2048 * p + a)).getLsbD q =
      (if bit (t.word a (64 * p + q)) 2 = 1 then t.outs.getLsbD (64 * p + q) else (Map.get t.ret 0 (2048 * p + a)).getLsbD q) ∧
    (∀ k, (∀ r, r < 16 → k ≠ 2048 * r + a) → Map.get u.cur 0 k = Map.get t.cur 0 k ∧ Map.get u.ret 0 k = Map.get t.ret 0 k)) ∧
  (
  ∀ t : Tile,
    t.source 0xE00 = false ∧ t.source 0xE01 = true ∧ t.source 0xE02 = decide (t.ecyc = 0) ∧ t.source 0xE1C = t.topExc.isSome ∧
    (∀ b, b < 1024 → t.source b = t.lastOut.getLsbD b) ∧
    (∀ p i, p < 16 → i < 64 → t.source (0x400 + 64 * p + i) = (Map.get t.rows 0 p).getLsbD i) ∧
    (∀ w i, w < 16 → i < 64 → t.source (0x800 + 64 * w + i) = (t.arrWord w).data.getLsbD i) ∧
    (∀ r i, r < 16 → i < 32 → t.source (0xC00 + 32 * r + i) = (Map.get t.res {} r).val.getLsbD i) ∧
    (∀ i, i < 32 → t.source (0xE20 + i) = t.ecyc.testBit i) ∧
    (∀ i, i < 12 → t.source (0xE10 + i) = t.loopIdx.testBit i) ∧
    (∀ i, i < 128 → t.source (0xE80 + i) = (Map.get t.edgeIn 0 (t.ecyc % 2)).getLsbD i))

/-- The sequencer operations of a step in its operand phase (Table 3-6): the next address, and the stack. NEXT, JUMP, LOOP, CALL, RET,
END, RETX and TRAP with their checks sound; the top loop at its last step (R99); the exceptions of a full and of an empty stack
(R108, Table 3-9). The condition of a branch (Table 6-3): ANY or ALL of the selected terms, inverted where
INV is set, and never where the branch is not eligible. -/
def Obligations.SequencerOperations : Prop :=
  (
  (∀ (l : TileId) (s : State), (s.tile l).stage = .operand → (s.tile l).op (s.tile l).stepNo = 0 → (s.tile l).topLoop = none →
    Runs (.seqNext l .ok) s (fun t => (t.tile l).nextA = some ((s.tile l).stepNo + 1) ∧ (t.tile l).stack = (s.tile l).stack ∧
      (t.tile l).stage = .sequenced ∧ s.otherTiles t l ∧ s.keeps t [.tiles])) ∧
  (∀ (l : TileId) (s : State), (s.tile l).stage = .operand → (s.tile l).op (s.tile l).stepNo = 1 → (s.tile l).sp = 0 →
    Runs (.seqEnd l .ok) s (fun t => (t.tile l).ending = true ∧ (t.tile l).nextA = none ∧ (t.tile l).stage = .sequenced ∧
      s.otherTiles t l ∧ s.keeps t [.tiles])) ∧
  (∀ (l : TileId) (s : State), (s.tile l).stage = .operand → (s.tile l).op (s.tile l).stepNo = 2 →
    Runs (.seqJump l) s (fun t => (t.tile l).nextA = some ((s.tile l).opAddr (s.tile l).stepNo) ∧ (t.tile l).stack = (s.tile l).stack ∧
      (t.tile l).stage = .sequenced ∧ s.otherTiles t l ∧ s.keeps t [.tiles])) ∧
  (∀ (l : TileId) (s : State), (s.tile l).stage = .operand → (s.tile l).op (s.tile l).stepNo = 3 →
      (s.tile l).sp < (s.tile l).cap - 1 →
    Runs (.seqLoop l .ok) s (fun t => (t.tile l).nextA = some ((s.tile l).stepNo + 1) ∧
      (t.tile l).stack = ({ kind := .loop, addr := ((s.tile l).stepNo + 1) % 2048, last := (s.tile l).opAddr (s.tile l).stepNo
                            rem := (s.tile l).opCount (s.tile l).stepNo } :: (s.tile l).stack).take 8 ∧
      (t.tile l).sp = (s.tile l).sp + 1 ∧ (t.tile l).stage = .sequenced ∧
      s.otherTiles t l ∧ s.keeps t [.tiles])) ∧
  (∀ (l : TileId) (s : State), (s.tile l).stage = .operand → (s.tile l).op (s.tile l).stepNo = 4 →
      (s.tile l).sp < (s.tile l).cap - 1 →
    Runs (.seqCall l .ok) s (fun t => (t.tile l).nextA = some ((s.tile l).opAddr (s.tile l).stepNo) ∧
      (t.tile l).stack = ({ kind := .call, addr := ((s.tile l).stepNo + 1) % 2048 } :: (s.tile l).stack).take 8 ∧
      (t.tile l).sp = (s.tile l).sp + 1 ∧
      (t.tile l).stage = .sequenced ∧ s.otherTiles t l ∧ s.keeps t [.tiles])) ∧
  (∀ (l : TileId) (f : Frame) (r : List Frame) (s : State), (s.tile l).stage = .operand → (s.tile l).op (s.tile l).stepNo = 5 →
      (s.tile l).stack = f :: r → f.kind = .call →
    Runs (.seqRet l .ok) s (fun t => (t.tile l).nextA = some f.addr ∧ (t.tile l).stack = r ∧ (t.tile l).sp = (s.tile l).sp - 1 ∧
      (t.tile l).stage = .sequenced ∧ s.otherTiles t l ∧ s.keeps t [.tiles])) ∧
  (∀ (l : TileId) (f : Frame) (r : List Frame) (s : State), (s.tile l).stage = .operand → (s.tile l).op (s.tile l).stepNo = 7 →
      (s.tile l).stack = f :: r → f.kind = .exc → f.cause = 1 →
    Runs (.seqRetx l .ok) s (fun t => (t.tile l).nextA = some f.addr ∧ (t.tile l).stack = r ∧ (t.tile l).sp = (s.tile l).sp - 1 ∧
      (t.tile l).stage = .sequenced ∧ s.otherTiles t l ∧ s.keeps t [.tiles])) ∧
  (∀ (l : TileId) (s : State), (s.tile l).stage = .operand → (s.tile l).op (s.tile l).stepNo = 6 → (s.tile l).topLoop = none →
      (s.tile l).trapHolds = false →
    Runs (.seqTrap l .ok) s (fun t => (t.tile l).nextA = some ((s.tile l).stepNo + 1) ∧ (t.tile l).trapCnt = (s.tile l).trapCnt ∧
      (t.tile l).stack = (s.tile l).stack ∧ (t.tile l).stage = .sequenced ∧ s.otherTiles t l ∧ s.keeps t [.tiles])) ∧
  (∀ (l : TileId) (s : State), (s.tile l).stage = .operand → (s.tile l).op (s.tile l).stepNo = 6 → (s.tile l).topLoop = none →
      (s.tile l).trapHolds = true → bit ((s.tile l).ctrl (s.tile l).stepNo) 231 = 1 → (s.tile l).spill = none → (s.tile l).tvecValid = true →
      (s.tile l).sp < (s.tile l).cap →
    Runs (.seqTrap l .ok) s (fun t => (t.tile l).nextA = some (s.tile l).tvec ∧ (t.tile l).trapCnt = (s.tile l).trapCnt + 1 ∧
      (t.tile l).excCause = 1 ∧ (t.tile l).excCode = fld ((s.tile l).ctrl (s.tile l).stepNo) 223 8 ∧
      s.otherTiles t l ∧ s.keeps t [.tiles])) ∧
  (∀ (l : TileId) (f : Frame) (r : List Frame) (s : State), (s.tile l).stage = .operand → (s.tile l).op (s.tile l).stepNo = 0 →
      (s.tile l).stack = f :: r → f.kind = .loop → f.last = (s.tile l).stepNo →
    Runs (.seqNext l .ok) s (fun t => (t.tile l).stage = .sequenced ∧
      (1 < f.rem → (t.tile l).nextA = some f.addr ∧ (t.tile l).stack = { f with rem := f.rem - 1 } :: r ∧ (t.tile l).sp = (s.tile l).sp) ∧
      (f.rem ≤ 1 → (t.tile l).nextA = some ((s.tile l).stepNo + 1) ∧ (t.tile l).stack = r ∧ (t.tile l).sp = (s.tile l).sp - 1) ∧
      s.otherTiles t l ∧ s.keeps t [.tiles])) ∧
  (∀ (l : TileId) (s : State), (s.tile l).stage = .operand → (s.tile l).sp = (s.tile l).cap - 1 → (s.tile l).tvecValid = true →
    ((s.tile l).op (s.tile l).stepNo = 3 → Runs (.seqLoop l .ok) s (fun t => (t.tile l).nextA = some (s.tile l).tvec ∧
      (t.tile l).excCause = 2 ∧ (t.tile l).sp = (s.tile l).cap ∧ s.otherTiles t l ∧ s.keeps t [.tiles])) ∧
    ((s.tile l).op (s.tile l).stepNo = 4 → Runs (.seqCall l .ok) s (fun t => (t.tile l).nextA = some (s.tile l).tvec ∧
      (t.tile l).excCause = 2 ∧ (t.tile l).sp = (s.tile l).cap ∧ s.otherTiles t l ∧ s.keeps t [.tiles]))) ∧
  (∀ (l : TileId) (s : State), (s.tile l).stage = .operand → (s.tile l).stack = [] → (s.tile l).sp = 0 → (s.tile l).tvecValid = true →
    ((s.tile l).op (s.tile l).stepNo = 5 → Runs (.seqRet l .ok) s (fun t => (t.tile l).nextA = some (s.tile l).tvec ∧
      (t.tile l).excCause = 3 ∧ (t.tile l).sp = 1 ∧ s.otherTiles t l ∧ s.keeps t [.tiles])) ∧
    ((s.tile l).op (s.tile l).stepNo = 7 → Runs (.seqRetx l .ok) s (fun t => (t.tile l).nextA = some (s.tile l).tvec ∧
      (t.tile l).excCause = 3 ∧ (t.tile l).sp = 1 ∧ s.otherTiles t l ∧ s.keeps t [.tiles])))) ∧
  (
  ∀ (w terms : Nat) (traps : List Nat), terms < 2 ^ 20 → fld w 0 20 &&& 2 ^ 18 = 0 →
    (bit w 22 = 0 → condHolds w terms traps = false) ∧
    (bit w 22 = 1 → bit w 20 = 0 → bit w 21 = 0 →
      (condHolds w terms traps = true ↔ ∀ i, i < 20 → w.testBit i = true → terms.testBit i = true)) ∧
    (bit w 22 = 1 → bit w 20 = 1 → bit w 21 = 0 →
      (condHolds w terms traps = true ↔ ∃ i, i < 20 ∧ w.testBit i = true ∧ terms.testBit i = true)) ∧
    (bit w 22 = 1 → condHolds (w ^^^ 2 ^ 21) terms traps = !condHolds w terms traps))

/-! ### The engines of a tile -/

/-- A slice whose oldest command is the one asked for, and may run, performs it: MUL loads the product, MAC adds it, MSUB subtracts it,
CAS adds it to the cascade input of the slice below, READ leaves the accumulator; a command that is not enabled leaves it as well
(Table 4-3). -/
def Obligations.MacCommands : Prop :=
  (∀ (l : TileId) (p : Lane16) (c : MacCmd) (s : State), (s.tile l).macReady p 0 = some c →
    Runs (.macMul l p) s (fun t => (s.tile l).macDone (t.tile l) p c (if c.en then c.prod else Map.get (s.tile l).acc 0 p) ∧
      s.otherTiles t l ∧ s.keeps t [.tiles])) ∧
  (∀ (l : TileId) (p : Lane16) (c : MacCmd) (s : State), (s.tile l).macReady p 1 = some c →
    Runs (.macMac l p) s (fun t =>
      (s.tile l).macDone (t.tile l) p c (if c.en then Map.get (s.tile l).acc 0 p + c.prod else Map.get (s.tile l).acc 0 p) ∧
      s.otherTiles t l ∧ s.keeps t [.tiles])) ∧
  (∀ (l : TileId) (p : Lane16) (c : MacCmd) (s : State), (s.tile l).macReady p 2 = some c →
    Runs (.macMsub l p) s (fun t =>
      (s.tile l).macDone (t.tile l) p c (if c.en then Map.get (s.tile l).acc 0 p - c.prod else Map.get (s.tile l).acc 0 p) ∧
      s.otherTiles t l ∧ s.keeps t [.tiles])) ∧
  (∀ (l : TileId) (p : Lane16) (c : MacCmd) (s : State), (s.tile l).macReady p 3 = some c →
    Runs (.macCas l p) s (fun t =>
      (s.tile l).macDone (t.tile l) p c (if c.en then (if p.val = 0 then 0 else Map.get (s.tile l).acc 0 (p.val - 1)) + c.prod
        else Map.get (s.tile l).acc 0 p) ∧
      s.otherTiles t l ∧ s.keeps t [.tiles])) ∧
  (∀ (l : TileId) (p : Lane16) (c : MacCmd) (s : State), (s.tile l).macReady p 4 = some c →
    Runs (.macRead l p) s (fun t => (s.tile l).macDone (t.tile l) p c (Map.get (s.tile l).acc 0 p) ∧
      s.otherTiles t l ∧ s.keeps t [.tiles]))

/-- A product is that of two 27-bit operands, each signed or not, modulo 2^64 (R125): its operands are what the step word places in the
window. A lane that is written holds the value, and the other lane of the word is as it was: a command that leaves its lane leaves
the word. A stack frame keeps its fields in its 64-bit form (Table 3-8), and the form has even parity (R105). -/
def Obligations.TileValues : Prop :=
  (
  ∀ (w : Nat) (win : DWord),
    (bit w 46 = 0 → bit w 39 = 0 →
      (macProd w win).toNat = fld win.toNat (fld w 47 6) 27 * fld win.toNat (fld w 40 6) 27) ∧
    (∀ v, v < 2 ^ 27 → macOperand v true = (BitVec.ofNat 27 v).toInt ∧ macOperand v false = (v : Int)) ∧
    (macProd w win = BitVec.ofInt 64 (macOperand (fld win.toNat (fld w 47 6) 27) (decide (bit w 46 = 1)) *
      macOperand (fld win.toNat (fld w 40 6) 27) (decide (bit w 39 = 1))))) ∧
  (
  ∀ (w : DWord) (v : Word), (∀ i, i < 2 → laneOf (putLane w i v) i = v ∧ laneOf (putLane w i v) (1 - i) = laneOf w (1 - i) ∧
    putLane w i (laneOf w i) = w)) ∧
  (
  ∀ f : Frame, f.addr < 2 ^ 11 → f.last < 2 ^ 11 → f.rem ≤ 4096 → f.code < 2 ^ 8 → f.cause < 2 ^ 4 →
      f.resv < 2 ^ 15 →
    (Frame.decode f.encode).kind = f.kind ∧ (Frame.decode f.encode).addr = f.addr ∧
    (Frame.decode f.encode).last = f.last ∧ (f.kind = .loop → 1 ≤ f.rem → (Frame.decode f.encode).rem = f.rem) ∧
    (Frame.decode f.encode).code = f.code ∧ (Frame.decode f.encode).cause = f.cause ∧ (Frame.decode f.encode).resv = f.resv ∧
    frameParOk f.encode = true)

/-- The oldest command of a bank is performed on the word that it addresses (Table 4-6): READ leaves the lane, WRITE replaces it, SET
sets the bits of its data, CLEAR clears them; one that is not enabled leaves it. A result takes the lane as it was. On bank 15 the commands wait for
a spill or a fill (R140). -/
def Obligations.ArrayCommands : Prop :=
  (∀ (l : TileId) (p : Lane16) (c : ArrCmd) (r : List ArrCmd) (s : State), Map.get (s.tile l).bankQ [] p = c :: r → c.op = 0 →
      (s.tile l).spillFirst p = false →
    let w := Map.get (s.tile l).banks 0 (8192 * p + c.addr)
    Runs (.arrayRead l p .clean) s (fun t => (s.tile l).arrDone (t.tile l) p c w (putLane w c.lane (laneOf w c.lane)) ∧
      s.otherTiles t l ∧ s.keeps t [.tiles])) ∧
  (∀ (l : TileId) (p : Lane16) (c : ArrCmd) (r : List ArrCmd) (s : State), Map.get (s.tile l).bankQ [] p = c :: r → c.op = 1 →
      (s.tile l).spillFirst p = false →
    let w := Map.get (s.tile l).banks 0 (8192 * p + c.addr)
    Runs (.arrayWrite l p .clean) s (fun t =>
      (s.tile l).arrDone (t.tile l) p c w (putLane w c.lane (if c.en then c.data else laneOf w c.lane)) ∧
      s.otherTiles t l ∧ s.keeps t [.tiles])) ∧
  (∀ (l : TileId) (p : Lane16) (c : ArrCmd) (r : List ArrCmd) (s : State), Map.get (s.tile l).bankQ [] p = c :: r → c.op = 2 →
      (s.tile l).spillFirst p = false →
    let w := Map.get (s.tile l).banks 0 (8192 * p + c.addr)
    Runs (.arraySet l p .clean) s (fun t =>
      (s.tile l).arrDone (t.tile l) p c w (putLane w c.lane (if c.en then laneOf w c.lane ||| c.data else laneOf w c.lane)) ∧
      s.otherTiles t l ∧ s.keeps t [.tiles])) ∧
  (∀ (l : TileId) (p : Lane16) (c : ArrCmd) (r : List ArrCmd) (s : State), Map.get (s.tile l).bankQ [] p = c :: r → c.op = 3 →
      (s.tile l).spillFirst p = false →
    let w := Map.get (s.tile l).banks 0 (8192 * p + c.addr)
    Runs (.arrayClear l p .clean) s (fun t =>
      (s.tile l).arrDone (t.tile l) p c w (putLane w c.lane (if c.en then laneOf w c.lane &&& ~~~c.data else laneOf w c.lane)) ∧
      s.otherTiles t l ∧ s.keeps t [.tiles]))

/-- The scrubber takes the words of a bank in turn, while no command and no spill waits for the bank (R140), and a clean word is left
as it is (R145); a spill write puts the frame's 64-bit form into its word of bank 15, and a fill read that passes ends the wait with
the word's frame at the foot of the eight (R102); one whose frame fails its parity undoes the pop and takes PARITY (R105). -/
def Obligations.ScrubAndSpill : Prop :=
  (∀ (l : TileId) (p : Lane16) (s : State), (s.tile l).hasImg = true → (s.ltile l).bound = true →
      Map.get (s.tile l).bankQ [] p = [] → (s.tile l).spillFirst p = false →
    Runs (.arrayScrub l p .clean) s (fun t =>
      Map.get (t.tile l).scrubAt 0 p = (Map.get (s.tile l).scrubAt 0 p + 1) % 8192 ∧
      ((s.tile l).inEcyc = true → p.val ∈ (t.tile l).scrubbed) ∧ (t.tile l).banks = (s.tile l).banks ∧
      (t.tile l).ceCount = (s.tile l).ceCount ∧ (t.tile l).ret = (s.tile l).ret ∧ (t.tile l).acc = (s.tile l).acc ∧
      s.otherTiles t l ∧ s.keeps t [.tiles])) ∧
  (∀ (l : TileId) (p : Lane16) (s : State), (s.tile l).hasImg = true → (s.ltile l).bound = true →
      Map.get (s.tile l).bankQ [] p = [] → (s.tile l).spillFirst p = false →
    Runs (.arrayScrub l p .single) s (fun t =>
      (t.tile l).ceCount = satInc (s.tile l).ceCount 0xFFFF ∧ (t.tile l).ceBank = p.val ∧ (t.tile l).banks = (s.tile l).banks ∧
      s.otherTiles t l ∧ s.keeps t [.tiles])) ∧
  (∀ (l : TileId) (p : Lane16) (e : ErrFound) (s : State), Map.get (s.tile l).bankQ [] p ≠ [] ∨ (s.tile l).spillFirst p = true →
    Runs (.arrayScrub l p e) s (fun t => t = s)) ∧
  (∀ (l : TileId) (sp : Spill) (f : Frame) (e : ErrFound) (b b' : Bool) (s : State), (s.tile l).spill = some sp → sp.fill = false →
      sp.frame = some f →
    Runs (.stackSpillAccess l e b b') s (fun t =>
      (t.tile l).spill = none ∧ Map.get (t.tile l).banks 0 (8192 * 15 + sp.word) = f.encode ∧
      (∀ k, k ≠ 8192 * 15 + sp.word → Map.get (t.tile l).banks 0 k = Map.get (s.tile l).banks 0 k) ∧
      (t.tile l).stack = (s.tile l).stack ∧ (t.tile l).acc = (s.tile l).acc ∧ s.otherTiles t l ∧ s.keeps t [.tiles])) ∧
  (∀ (l : TileId) (sp : Spill) (b : Bool) (s : State), (s.tile l).spill = some sp → sp.fill = true → sp.after = .nothing →
      frameParOk ((s.tile l).spillWord sp.word) = true →
    Runs (.stackSpillAccess l .clean false b) s (fun t =>
      (t.tile l).spill = none ∧ (t.tile l).stack = (s.tile l).stack ++ [Frame.decode ((s.tile l).spillWord sp.word)] ∧
      (t.tile l).banks = (s.tile l).banks ∧ (t.tile l).acc = (s.tile l).acc ∧ s.otherTiles t l ∧ s.keeps t [.tiles])) ∧
  (∀ (l : TileId) (sp : Spill) (s : State), (s.tile l).spill = some sp → sp.fill = true → (s.tile l).tvecValid = true →
      (s.tile l).sp + 1 < (s.tile l).cap →
    Runs (.stackSpillAccess l .clean true false) s (fun t =>
      (t.tile l).nextA = some (s.tile l).tvec ∧ (t.tile l).excCause = 5 ∧ (t.tile l).stepNo = sp.step ∧
      (t.tile l).sp = (s.tile l).sp + 2 ∧
      (t.tile l).stack = ({ kind := .exc, addr := (sp.step + 1) % 2048, code := 0, cause := 5 } :: sp.undo).take 8 ∧
      s.otherTiles t l ∧ s.keeps t [.tiles]))

/-- A slot that its destination word awaits fills it, a late one is discarded, and one of an epoch that has gone is dropped and counted
(R60, R64, R221); of the slots of one way, and of the credits of one, the oldest comes first (R63); a credit joins its source tile's; a slot leaves its send queue with its credit, or for its link (R63). A tile's
tap deliveries join the tap vector of its ecycle, and its trap events the list of its ecycle, and both leave the tile (R178, R179);
those of a replayed ecycle are not received. -/
def Obligations.Exchange : Prop :=
  (
  (∀ (p : Slot) (l : Nat) (s : State), s.tileOf p.ten p.dst = some l → comesFirst slotWay p s.noc.slots = true →
      s.slotFate l p = .entered →
    Runs (.slotArrive p false) s (fun t =>
      let k := 16 * (p.ecyc % 2) + p.word
      (Map.get (t.tile l).arrive {} k).full = true ∧ (Map.get (t.tile l).arrive {} k).data = p.data ∧
      (Map.get (t.tile l).arrive {} k).entered = (Map.get (s.tile l).arrive {} k).entered + 1 ∧
      (∀ j, j ≠ k → Map.get (t.tile l).arrive {} j = Map.get (s.tile l).arrive {} j) ∧
      (t.tile l).ret = (s.tile l).ret ∧ t.noc.slots = removeFirst (fun q => q = p) s.noc.slots ∧
      s.otherTiles t l ∧ s.keeps t [.tiles, .noc])) ∧
  (∀ (p : Slot) (l : Nat) (s : State), s.tileOf p.ten p.dst = some l → comesFirst slotWay p s.noc.slots = true →
      s.slotFate l p = .late →
    Runs (.slotArrive p false) s (fun t => t.tiles = s.tiles ∧ s.keeps t [.noc, .tenants])) ∧
  (∀ (p : Slot) (l : Nat) (s : State), s.tileOf p.ten p.dst = some l → comesFirst slotWay p s.noc.slots = true →
      s.slotFate l p = .dropped →
    Runs (.slotArrive p false) s (fun t => t.fm.dropped = satInc s.fm.dropped 0xFFFFFFFF ∧ t.tiles = s.tiles ∧
      s.keeps t [.noc, .fm])) ∧
  (∀ (ten : TenId) (src dst : TileId) (word : Lane16) (occ ecyc l : Nat) (s : State), s.tileOf ten src = some l →
      comesFirst creditWay { ten := ten, src := src, dst := dst, word := word, occ := occ, ecyc := ecyc } s.noc.credits = true →
    Runs (.creditArrive ten src dst word occ ecyc) s (fun t =>
      (t.tile l).credits = (s.tile l).credits ++
        [{ ten := ten, src := src, dst := dst, word := word, occ := occ, ecyc := ecyc }] ∧
      (t.tile l).arrive = (s.tile l).arrive ∧ (t.tile l).sendQ = (s.tile l).sendQ ∧ s.otherTiles t l ∧
      s.keeps t [.tiles, .noc])) ∧
  (∀ (l : TileId) (i : Nat) (p : Slot) (s : State), s.mayDepart l i = some p → p.remote = false →
    Runs (.sendSlotDepart l i) s (fun t =>
      t.noc.slots = s.noc.slots ++ [p] ∧ (t.tile l).sendQ = (s.tile l).sendQ.eraseIdx i ∧
      (t.tile l).credits = removeFirst (fun c => c = slotCredit p) (s.tile l).credits ∧ (t.tile l).ret = (s.tile l).ret ∧
      s.otherTiles t l ∧ s.keeps t [.tiles, .noc])) ∧
  (∀ (l : TileId) (i : Nat) (p : Slot) (s : State), s.mayDepart l i = none → (s.tile l).halt = none → (s.tile l).sendQ[i]? = some p →
      s.creditLost l p = true →
    Runs (.sendSlotDepart l i) s (fun t => (t.tile l).sendQ = (s.tile l).sendQ.eraseIdx i ∧ t.noc.slots = s.noc.slots ∧
      (t.tile l).credits = (s.tile l).credits ∧ s.otherTiles t l ∧ s.keeps t [.tiles])) ∧
  (∀ (l : TileId) (i k : Nat) (p : Slot) (s : State), s.mayDepart l i = some p → p.remote = true →
      (s.ten p.ten).img.bind (fun im => im.linkFor p.dmod p.dst) = some k →
    Runs (.sendSlotDepart l i) s (fun t =>
      t.lat.slotOut = s.lat.slotOut ++ [(k, p)] ∧ (t.tile l).sendQ = (s.tile l).sendQ.eraseIdx i ∧
      (t.tile l).credits = (s.tile l).credits ∧ s.otherTiles t l ∧ s.keeps t [.tiles, .lat]))) ∧
  (
  (∀ (l : TileId) (s : State), (s.ten (s.ltile l).ten).replaying = false →
    let x := (s.ltile l).ten
    Runs (.tapsPacket l) s (fun t =>
      (∀ n, n < 4096 → (Map.get (t.ten x).tapVec 0 ((s.tile l).ecyc % 2)).getLsbD n =
        ((Map.get (s.ten x).tapVec 0 ((s.tile l).ecyc % 2)).getLsbD n || (s.tile l).taps.contains n)) ∧
      (t.tile l).taps = [] ∧ (t.tile l).trapEv = (s.tile l).trapEv ∧ (t.ten x).trapCodes = (s.ten x).trapCodes ∧
      s.otherTiles t l ∧ s.otherTenants t x ∧ s.keeps t [.tiles, .tenants])) ∧
  (∀ (l : TileId) (s : State), (s.ten (s.ltile l).ten).replaying = false →
    let x := (s.ltile l).ten
    Runs (.trapEvt l) s (fun t =>
      Map.get (t.ten x).trapCodes [] ((s.tile l).ecyc % 2) =
        Map.get (s.ten x).trapCodes [] ((s.tile l).ecyc % 2) ++ (s.tile l).trapEv ∧
      (t.tile l).trapEv = [] ∧ (t.tile l).taps = (s.tile l).taps ∧ (t.ten x).tapVec = (s.ten x).tapVec ∧
      s.otherTiles t l ∧ s.otherTenants t x ∧ s.keeps t [.tiles, .tenants])) ∧
  (∀ (l : TileId) (s : State), (s.ten (s.ltile l).ten).replaying = true →
    Runs (.tapsPacket l) s (fun t => (t.tile l).taps = [] ∧ s.otherTiles t l ∧ s.keeps t [.tiles]) ∧
    Runs (.trapEvt l) s (fun t => (t.tile l).trapEv = [] ∧ s.otherTiles t l ∧ s.keeps t [.tiles])))

/-! ### Ecycles, boundaries and images -/

/-- A tile whose last step has ended reports the end of its ecycle: nothing of the ecycle is carried but the retained state (R46, R48,
R52). Here other tiles of its tenant have still to end theirs, or the tenant's own ecycle is complete too: either way the tile has
left the ecycle, with the retained half, the banks and the accumulators as they were. A tile that may start is granted its next
ecycle at step address 0 with an empty stack (R53 to R55); one whose boundary is open but that waits counts the wait in class START
(R55, R170), and one whose boundary is closed stays; a replay grants the ecycles up to its stop again (R219), and a recovery starts
none before its replay. -/
def Obligations.Ecycles : Prop :=
  (
  (∀ t : Tile, (t.endEcycle).cur = [] ∧ (t.endEcycle).lastOut = 0 ∧ (t.endEcycle).res = [] ∧ (t.endEcycle).inEcyc = false ∧
    (t.endEcycle).lastEnded = BitVec.ofNat 64 t.ecyc ∧ (t.endEcycle).ret = t.ret ∧ (t.endEcycle).banks = t.banks ∧
    (t.endEcycle).acc = t.acc ∧ (t.endEcycle).trapCnt = t.trapCnt ∧
    (∀ w, w < 16 → Map.get (t.endEcycle).arrive {} (16 * (t.ecyc % 2) + w) = {}) ∧
    (∀ w, w < 16 → Map.get (t.endEcycle).arrive {} (16 * ((t.ecyc + 1) % 2) + w) =
      Map.get t.arrive {} (16 * ((t.ecyc + 1) % 2) + w))) ∧
  (∀ (l : TileId) (s : State), s.mayEnd l = true → (∀ w, w < 16 → ((s.tile l).arrWord w).full = false) →
      (s.updTile l Tile.endEcycle).allEnded (s.ltile l).ten ((s.tile l).ecyc + 1) = false →
    Runs (.tileEndReport l) s (fun t => t.tile l = (s.tile l).endEcycle ∧ s.otherTiles t l ∧ s.keeps t [.tiles, .edg]))) ∧
  (
  (∀ (l : TileId) (pins : List DWord) (s : State), (s.ltile l).bound = true → (s.tile l).inEcyc = false →
      (s.tile l).halt = none → s.dev.mode ≠ .safe → (s.ten (s.ltile l).ten).recov = none → (s.ten (s.ltile l).ten).started = true →
      s.closedFor (s.ltile l).ten (s.tile l).endedCount = false → s.movingFor (s.ltile l).ten (s.tile l).endedCount = false →
      s.startWaits (s.ltile l).ten (s.tile l).endedCount = false →
      s.startHeld (s.ltile l).ten (s.ltile l).itile (s.tile l).endedCount = false →
    Runs (.startGrant l pins) s (fun t => t = s.grant l (s.tile l).endedCount ∧
      (t.tile l).inEcyc = true ∧ (t.tile l).ecyc = (s.tile l).endedCount ∧ (t.tile l).nextA = some 0 ∧ (t.tile l).stack = [] ∧
      (t.tile l).sp = 0)) ∧
  (∀ (l : TileId) (pins : List DWord) (r : Recovery) (s : State), (s.ltile l).bound = true → (s.tile l).inEcyc = false →
      (s.tile l).halt = none → s.dev.mode ≠ .safe → (s.ten (s.ltile l).ten).recov = some r → r.phase = .replay →
      (s.tile l).endedCount < r.stopAt → s.allEnded (s.ltile l).ten ((s.tile l).endedCount - 1) = true →
      s.bndWaits (s.ltile l).ten (s.tile l).endedCount = false → s.flowFull (s.ltile l).ten = false →
    Runs (.startGrant l pins) s (fun t => t = s.grant l (s.tile l).endedCount ∧
      (t.tile l).inEcyc = true ∧ (t.tile l).ecyc = (s.tile l).endedCount ∧ (t.tile l).nextA = some 0 ∧ (t.tile l).stack = [])) ∧
  (∀ (l : TileId) (pins : List DWord) (s : State), (s.ltile l).bound = true → (s.tile l).inEcyc = false →
      (s.tile l).halt = none → s.dev.mode ≠ .safe → (s.ten (s.ltile l).ten).recov = none → (s.ten (s.ltile l).ten).started = true →
      s.closedFor (s.ltile l).ten (s.tile l).endedCount = false →
      (s.movingFor (s.ltile l).ten (s.tile l).endedCount = false ∨ s.ckptHolds (s.ltile l).ten (s.tile l).endedCount = true) →
      s.startWaits (s.ltile l).ten (s.tile l).endedCount = true → 10 ∉ (s.tile l).waited →
    Runs (.startGrant l pins) s (fun t => (t.tile l).inEcyc = false ∧
      Map.get (t.tile l).stall 0 10 = satInc (Map.get (s.tile l).stall 0 10) 0xFFFFFFFF ∧ s.otherTiles t l ∧
      s.otherTenants t (s.ltile l).ten ∧ s.keeps t [.tiles, .tenants, .fm] ∧
      (s.logFull (s.ltile l).ten = false → s.keeps t [.tiles]) ∧
      (s.logFull (s.ltile l).ten = true → (s.ten (s.ltile l).ten).logWait ≠ (s.tile l).endedCount + 1 →
        s.reported t 0x0116 clsEvent 0 (some (s.ltile l).ten) (s.tile l).endedCount))) ∧
  (∀ (l : TileId) (pins : List DWord) (s : State), (s.ten (s.ltile l).ten).recov = none →
      s.closedFor (s.ltile l).ten (s.tile l).endedCount = true → Runs (.startGrant l pins) s (fun t => t = s)) ∧
  (∀ (l : TileId) (pins : List DWord) (r : Recovery) (s : State), (s.ten (s.ltile l).ten).recov = some r →
      (r.phase ≠ .replay ∨ r.stopAt ≤ (s.tile l).endedCount) → Runs (.startGrant l pins) s (fun t => t = s)))

/-- A regular checkpoint that is due stops its tenant at the boundary and joins the capture queue (R209, R210). A capture's move and its
landing (R204 to R207): one entry moves at a time, and takes space of the pool; its record then drains, lands in its slot and its
completions follow. CAP_RIDX frees capture slots for the tenant or tenant 0 (R202), and CAPTURE_AREA gives a tenant its slots
(R354). A checkpoint that has landed is the tenant's newest; on one module the older one goes, with the log and the journal before
it (R211). -/
def Obligations.Captures : Prop :=
  (
  ∀ (ten : TenId) (s : State), s.ckptAt ten (s.ten ten).done = true → (s.ten ten).run.advancing = true → s.noEcycle ten = true →
      (s.ten ten).recov = none → (s.ten ten).moving = false → s.dev.mode ≠ .safe →
    Runs (.checkpointDue ten) s (fun t => (t.ten ten).moving = true ∧ (t.ten ten).jTag = (s.ten ten).done ∧
      (t.ten ten).run = (s.ten ten).run ∧ (t.ten ten).done = (s.ten ten).done ∧
      (∃ q ∈ t.cap.queue, q.ten = ten.val ∧ q.ckpt = true ∧ q.due = (s.ten ten).done) ∧
      s.otherTenants t ten ∧ s.keeps t [.tenants, .cap])) ∧
  (
  (∀ (q : CapEnt) (s : State), s.cap.moving = none → s.capHead = some q → s.poolRoom (s.capSize q) = true →
    Runs .captureMoveStart s (fun t => t.cap.moving = some q ∧ t.cap.queue = removeFirst (fun x => x = q) s.cap.queue ∧
      t.cap.draining = s.cap.draining ∧ s.keeps t [.cap])) ∧
  (∀ (q : CapEnt) (s : State), s.cap.moving = some q → q.kind = some .host → q.seq ≠ 0 → q.ckpt = false →
      (s.ten q.ten).reqs = [] →
    Runs (.captureMoveDone []) s (fun t => t.cap.moving = none ∧ t.cap.queue = s.cap.queue ∧
      (∃ r, t.cap.draining = s.cap.draining ++ [r] ∧ r.ten = q.ten ∧ r.seq = q.seq ∧ r.cmds = q.cmds ∧ r.kind = .host ∧
        r.slot = (q.seq - 1) % max 1 (s.ten q.ten).capSlots) ∧
      s.otherTenants t q.ten ∧ s.keeps t [.cap, .tenants, .sched])) ∧
  (∀ (r : CapRec) (rest : List CapRec) (bad : Option Word) (pathOk : Bool) (s : State), s.cap.draining = r :: rest →
      s.tokWaits (if r.kind.full then 0 else 5) r.tok = false → (r.kind ≠ .safe ∨ pathOk = true) →
    let a := r.base + r.slot * captureSlot r.saved.tiles.length
    let bs := (if bad.isSome then { r with flags := setFld r.flags 1 1 1 } else r).bytes s.moduleId r.me
    Runs (.captureLanded pathOk bad) s (fun t => t.cap.draining = rest ∧ t.cap.queue = s.cap.queue ∧ (t.ten r.ten).capSeq = r.seq ∧
      t.ds = s.ds.writeBytes a bs ∧ (∀ x, (x < a ∨ a + bs.length ≤ x) → t.ds.read x = s.ds.read x) ∧
      s.otherTenants t r.ten ∧
      s.keeps t ([.cap, .ds, .noc, .tenants, .host, .fm] ++ if bad.isSome then [.freeCtr] else []))) ∧
  (∀ (r : CapRec) (rest : List CapRec) (bad : Option Word) (s : State), s.cap.draining = r :: rest → r.kind = .safe →
      s.tokWaits 0 r.tok = false →
    Runs (.captureLanded false bad) s (fun t => t.cap.draining = rest ∧ s.keeps t [.cap, .host, .fm]))) ∧
  (
  (∀ (by' x : TenId) (n : BitVec 16) (s : State), s.dev.mode.configured = true → (by'.val = 0 ∨ by' = x) →
      (n.toNat + 2 ^ 16 - (s.ten x).capRel) % 2 ^ 16 < 2 ^ 15 →
    Runs (.capRidxWrite by' x n) s (fun t => (t.ten x).capRel = n.toNat ∧ (t.ten x).capNext = (s.ten x).capNext ∧
      s.otherTenants t x ∧ s.keeps t [.tenants])) ∧
  (∀ (by' x : TenId) (n : BitVec 16) (s : State), s.dev.mode.configured = true → by'.val ≠ 0 → by' ≠ x →
    Runs (.capRidxWrite by' x n) s (fun t => t = s.accOwner (0xF1400 + 4 * x.val) ∧ s.keeps t [.fm])) ∧
  (∀ (d : DRef) (ten : TenId) (off : DWord) (slots : Byte) (i : Image) (s : State), s.fnUp d.fn = true →
      let x := target d ten
      let len := slots.toNat * captureSlot (s.ten x).ntiles
      (s.ten x).img = some i → s.cap.queue = [] → s.cap.moving = none → off.toNat % 64 = 0 → off.toNat + len ≤ s.rsize x →
      s.inCarved x (s.ten x).ntiles off.toNat len = false → overlaps off.toNat len i.off i.len = false →
      i.memRanges.any (fun m => overlaps off.toNat len m.1 m.2) = false →
    Runs (.captureArea d ten off slots) s (fun t => (t.ten x).capOff = off.toNat ∧ (t.ten x).capSlots = slots.toNat ∧
      (t.ten x).img = (s.ten x).img ∧ s.otherTenants t x ∧ s.keeps t [.tenants, .host, .fm])) ∧
  (∀ (d : DRef) (ten : TenId) (off : DWord) (slots : Byte) (s : State), s.fnUp d.fn = true →
      (s.ten (target d ten)).img = none →
    Runs (.captureArea d ten off slots) s (fun t => t = s.complete d 0x14 0x02 0 0 ∧ s.keeps t [.host, .fm]))) ∧
  (
  ∀ (ten : TenId) (c : Saved) (tok : Nat) (rest : List (Saved × Nat)) (s : State), (s.ten ten).ckptMoved = (c, tok) :: rest →
      s.tokWaits 1 tok = false → (s.ten ten).spans = false →
    Runs (.checkpointLanded ten none) s (fun t => (t.ten ten).newest = some c ∧ (t.ten ten).older = none ∧ (t.ten ten).ckptMoved = rest ∧
      (t.ten ten).ckptSlot = (if (s.ten ten).newest.isSome then 1 - (s.ten ten).ckptSlot else 0) ∧
      (∀ j ∈ (t.ten ten).journal, c.k ≤ j.k) ∧ (∀ j ∈ (s.ten ten).journal, c.k ≤ j.k → j ∈ (t.ten ten).journal) ∧
      (t.ten ten).done = (s.ten ten).done ∧ (t.ten ten).run = (s.ten ten).run ∧ s.otherTenants t ten ∧ s.keeps t [.tenants, .ds, .noc, .freeCtr]))

/-- The refusals of a RUN descriptor complete it at once, with what R352 names and no other effect on the tenant: a count that the
command does not take, a state in which it does not act, and a command that only tenant 0 may give. What R31 to R33 and R57 make of
an accepted RUN command: it is requested for the boundary that R57 gives, and while an ecycle is in progress nothing else changes. A
STEPPING tenant whose count has run out stands STOPPED, its STEP completes OK (R32, R352), and the input log holds the stop (the
model's record of it, log entry 85). The run state is what it is before
the requests pending at that boundary act; here there are none. -/
def Obligations.RunCommands : Prop :=
  (
  (∀ (d : DRef) (ten : TenId) (count : Word) (span : SpanAns) (s : State), s.fnUp d.fn = true → s.dev.mode ≠ .safe → count ≠ 0 →
    Runs (.runStart d ten count span) s (fun t => t = s.complete d 0x12 0x11 (s.ten (target d ten)).lastEcyc 0 ∧ s.keeps t [.host, .fm]) ∧
    Runs (.runStop d ten count) s (fun t => t = s.complete d 0x12 0x11 (s.ten (target d ten)).lastEcyc 0 ∧ s.keeps t [.host, .fm])) ∧
  (∀ (d : DRef) (ten : TenId) (span : SpanAns) (s : State), s.fnUp d.fn = true → s.dev.mode ≠ .safe →
    Runs (.runStep d ten 0 span) s (fun t => t = s.complete d 0x12 0x11 (s.ten (target d ten)).lastEcyc 0 ∧ s.keeps t [.host, .fm])) ∧
  (∀ (d : DRef) (ten : TenId) (span : SpanAns) (s : State), s.fnUp d.fn = true → s.dev.mode ≠ .safe →
      (s.ten (target d ten)).eff ≠ .stopped →
    Runs (.runStart d ten 0 span) s (fun t => t = s.complete d 0x12 0x01 (s.ten (target d ten)).lastEcyc 0 ∧ s.keeps t [.host, .fm])) ∧
  (∀ (d : DRef) (ten : TenId) (s : State), s.fnUp d.fn = true → s.dev.mode ≠ .safe → (s.ten (target d ten)).eff.advancing = false →
    Runs (.runStop d ten 0) s (fun t => t = s.complete d 0x12 0x01 (s.ten (target d ten)).lastEcyc 0 ∧ s.keeps t [.host, .fm])) ∧
  (∀ (d : DRef) (ten : TenId) (s : State), s.fnUp d.fn = true → s.dev.mode ≠ .safe →
      ((s.ten (target d ten)).eff ≠ .held ∨ s.releaseBarred (target d ten) d.fn = true) →
    Runs (.runRelease d ten 0) s (fun t => t = s.complete d 0x12 0x01 (s.ten (target d ten)).lastEcyc 0 ∧ s.keeps t [.host, .fm])) ∧
  (∀ (d : DRef) (ten : TenId) (count : Word) (s : State), s.fnUp d.fn = true → d.fn.val ≠ 0 →
    Runs (.runHold d ten count) s (fun t => t = s.complete d 0x12 0x12 0 0 ∧ s.keeps t [.host, .fm])) ∧
  (∀ (d : DRef) (ten : TenId) (count : Word) (span : SpanAns) (s : State), s.fnUp d.fn = true → s.dev.mode = .safe →
    Runs (.runStart d ten count span) s (fun t => t = s.complete d 0x12 0x0A 0 0 ∧ s.keeps t [.host, .fm]) ∧
    Runs (.runRelease d ten count) s (fun t => t = s.complete d 0x12 0x0A 0 0 ∧ s.keeps t [.host, .fm]))) ∧
  (
  (∀ (d : DRef) (ten : TenId) (span : SpanAns) (s : State), s.fnUp d.fn = true → s.dev.mode ≠ .safe →
      s.startRefusal (target d ten) span = none →
    Runs (.runStart d ten 0 span) s (fun t => t = s.request (target d ten) .start (some d)) ∧
    (∀ n : Word, n ≠ 0 → Runs (.runStep d ten n span) s (fun t => t = s.request (target d ten) (.step n.toNat) (some d)))) ∧
  (∀ (d : DRef) (ten : TenId) (s : State), s.fnUp d.fn = true → s.dev.mode ≠ .safe → (s.ten (target d ten)).eff.advancing = true →
    Runs (.runStop d ten 0) s (fun t => t = s.request (target d ten) .stop (some d))) ∧
  (∀ (d : DRef) (ten : TenId) (s : State), s.fnUp d.fn = true → s.dev.mode ≠ .safe → (s.ten (target d ten)).eff = .held →
      s.releaseBarred (target d ten) d.fn = false →
    Runs (.runRelease d ten 0) s (fun t => t = s.request (target d ten) .release (some d))) ∧
  (∀ (d : DRef) (ten : TenId) (s : State), s.fnUp d.fn = true → d.fn.val = 0 → s.dev.mode ≠ .safe →
    Runs (.runHold d ten 0) s (fun t => t = s.raiseHold ten 7 (some d))) ∧
  (∀ (x : Nat) (k : ReqKind) (cmd : Option DRef) (s : State), (s.ten x).spans = false → s.noEcycle x = false →
      (s.ten x).recov = none →
    let t := s.request x k cmd
    (t.ten x).reqs = (s.ten x).reqs ++ [{ kind := k, due := (s.ten x).done + s.lag x, cmd := cmd, origin := s.moduleId }] ∧
    (t.ten x).run = (s.ten x).run ∧ (t.ten x).done = (s.ten x).done ∧ s.otherTenants t x ∧ s.keeps t [.tenants])) ∧
  (
  ∀ (ten : TenId) (s : State), (s.ten ten).run = .stepping → (s.ten ten).stepLeft = 0 → s.noEcycle ten = true →
      (s.ten ten).recov = none →
    Runs (.stepCountExpire ten) s (fun t =>
      let u := (s.updTen ten (fun v => { v with run := .stopped, stepCmd := none })).completeOpt (s.ten ten).stepCmd 0x12 0x00
        (s.ten ten).lastEcyc 0
      (u.ten ten).run = .stopped ∧ (u.ten ten).stepCmd = none ∧ s.keeps u [.tenants, .host, .fm] ∧
      t = ((u.markStop ten).logInput ten 3 (s.ten ten).done (runCmdBytes 3 u.moduleId 0)).boundary ten))

/-- WINDOW takes its value, at least 1, where the tenant rests stopped and no link of its image would need more than 4,096 words (R71,
R65); else the write is refused and recorded. The scheduler's registers (R233, R237, R250, R172, R171): a region write is refused
while an image is loaded and where regions would meet or pass the store's end; a class's minimum is at most what the others leave of
100 %; SCH_DEBUG changes only for a tenant at rest; TIL_CONTRACT's clear bit clears the stall counts and the violations. -/
def Obligations.SchedulerRegisters : Prop :=
  (
  (∀ (x : TenId) (w : BitVec 4) (s : State), s.dev.mode.configured = true → s.restsStopped x = false →
    Runs (.schLsyncWrite x w) s (fun t => t = s.accState (0x93000 + 4 * x.val) ∧ t.regs = s.regs ∧ s.keeps t [.fm])) ∧
  (∀ (x : TenId) (w : BitVec 4) (s : State), s.dev.mode.configured = true → s.restsStopped x = true → (s.ten x).img = none →
    Runs (.schLsyncWrite x w) s (fun t =>
      fld (t.reg (0x93000 + 4 * x.val)) 0 4 = (if w = 0 then 1 else w.toNat) ∧
      (∀ off, off ≠ 0x93000 + 4 * x.val → t.reg off = s.reg off) ∧ s.keeps t [.regs]))) ∧
  (
  (∀ (x : TenId) (size : Bool) (v : Word) (s : State), s.dev.mode.configured = true → (s.ten x).img.isSome = true →
    Runs (.schTregionWrite x size v) s (fun t => t = s.accState ((if size then 0x92800 else 0x92400) + 4 * x.val) ∧ s.keeps t [.fm])) ∧
  (∀ (x : TenId) (v : Word) (s : State), s.dev.mode.configured = true → (s.ten x).img = none → (s.ten x).load = none →
      1504 < s.rfld (0x92400 + 4 * x.val) 0 11 + v.toNat % 2 ^ 11 →
    Runs (.schTregionWrite x true v) s (fun t => t = s.accValue (0x92800 + 4 * x.val) ∧ s.keeps t [.fm])) ∧
  (∀ (x : TenId) (v : Word) (s : State), s.dev.mode.configured = true → (s.ten x).img = none → (s.ten x).load = none →
      s.rfld (0x92400 + 4 * x.val) 0 11 + v.toNat % 2 ^ 11 ≤ 1504 →
      (∀ u, u < 256 → u ≠ x.val → overlaps (s.rfld (0x92400 + 4 * x.val) 0 11) (v.toNat % 2 ^ 11)
        (s.rfld (0x92400 + 4 * u) 0 11) (s.rfld (0x92800 + 4 * u) 0 11) = false) →
    Runs (.schTregionWrite x true v) s (fun t => t.rsize x = 2 ^ 26 * (v.toNat % 2 ^ 11) ∧ t.rbase x = s.rbase x ∧
      (∀ off, off ≠ 0x92800 + 4 * x.val → t.reg off = s.reg off) ∧ s.keeps t [.regs])) ∧
  (∀ (x : TenId) (v : Word) (s : State), s.dev.mode.configured = true → bit v.toNat 4 = 0 →
    Runs (.schTcfgWrite x v) s (fun t => fld (t.reg (0x92000 + 4 * x.val)) 0 5 = fld v.toNat 0 5 ∧
      fld (t.reg (0x92000 + 4 * x.val)) 8 8 = max 1 (fld v.toNat 8 8) ∧ (∀ y, (t.ten y).run = (s.ten y).run ∧ (t.ten y).img = (s.ten y).img) ∧
      s.keeps t [.regs, .sched, .chv, .pwr, .tenants])) ∧
  (∀ (c : Fin 6) (v : Word) (s : State), s.dev.mode.configured = true →
      sumNat ((List.range 6).map (fun i => if i = c.val then min 100 (v.toNat % 2 ^ 7) else s.minShare i)) ≤ 100 →
    Runs (.schBwClassWrite c v) s (fun t => t.minShare c = min 100 (v.toNat % 2 ^ 7) ∧ (∀ i, i < 6 → i ≠ c.val → t.minShare i = s.minShare i) ∧
      s.keeps t [.regs])) ∧
  (∀ (c : Fin 6) (v : Word) (s : State), s.dev.mode.configured = true →
      100 < sumNat ((List.range 6).map (fun i => if i = c.val then min 100 (v.toNat % 2 ^ 7) else s.minShare i)) →
    Runs (.schBwClassWrite c v) s (fun t => t = s.accValue (0x90040 + 4 * c.val) ∧ s.keeps t [.fm])) ∧
  (∀ (x : TenId) (v : Word) (s : State), s.dev.mode.configured = true → bit v.toNat 8 = 0 → v.toNat % 2 ^ 7 ≠ s.rfld (0x94000 + 4 * x.val) 0 7 →
      ((s.ten x).eff = .stopped ∨ (s.ten x).eff = .held) → s.noEcycle x = true →
    Runs (.schDebugWrite x v) s (fun t => t.reg (0x94000 + 4 * x.val) = v.toNat % 2 ^ 7 ∧ s.keeps t [.regs])) ∧
  (∀ (x : TenId) (v : Word) (s : State), s.dev.mode.configured = true → bit v.toNat 8 = 0 → v.toNat % 2 ^ 7 ≠ s.rfld (0x94000 + 4 * x.val) 0 7 →
      s.noEcycle x = false → Runs (.schDebugWrite x v) s (fun t => t = s.accState (0x94000 + 4 * x.val) ∧ s.keeps t [.fm])) ∧
  (∀ (n : PTileId) (l : Nat) (s : State), s.dev.mode.configured = true → s.ltileOfPhys n = some l →
    Runs (.tilContractClear n) s (fun t => (t.tile l).stall = [] ∧ (t.tile l).viol = 0 ∧ (t.tile l).contract = (s.tile l).contract ∧
      (t.tile l).ret = (s.tile l).ret ∧ s.otherTiles t l ∧ s.keeps t [.tiles])))

/-- IMAGE_COMMIT drops the image and starts the load check; the end of the check accepts the image, SWAPPED with return state STOPPED,
or refuses it with its code (R161, R162, R235); IMAGE_DISCARD leaves the tenant with no image (R354). -/
def Obligations.ImageCommands : Prop :=
  (∀ (d : DRef) (ten : TenId) (off len : DWord) (s : State), s.fnUp d.fn = true → s.dev.mode ≠ .safe → off.toNat % 64 = 0 →
      s.sage.state ≠ 1 → (s.ten (target d ten)).load = none → s.mayCommit (target d ten) = true →
      off.toNat + len.toNat ≤ s.rsize (target d ten) →
    Runs (.imageCommit d ten off len) s (fun t =>
      (∃ n, (t.ten (target d ten)).load = some { cmd := d, off := off.toNat, len := len.toNat, tok := n }) ∧
      (t.ten (target d ten)).img = none)) ∧
  (∀ (d : DRef) (ten : TenId) (off len : DWord) (s : State), s.fnUp d.fn = true → s.dev.mode ≠ .safe → off.toNat % 64 ≠ 0 →
    Runs (.imageCommit d ten off len) s (fun t => t = s.complete d 0x10 0x11 0 0 ∧ s.keeps t [.host, .fm])) ∧
  (∀ (ten : TenId) (j : LoadJob) (s : State), (s.ten ten).load = some j → s.tokWaits 2 j.tok = false →
      s.unitWaits = false → s.rangePoisoned (s.rbase ten + j.off) j.len = false →
    Runs (.loadCheckComplete ten) s (fun t => (t.ten ten).load = none ∧ s.otherTenants t ten ∧
      match loadCheck (s.loadEnv ten j) (s.olpEnv kTenant (s.rsize ten) .other) (s.ds.readBytes (s.rbase ten + j.off) j.len) with
      | .ok i => (t.ten ten).img = some i ∧ (t.ten ten).run = .swapped ∧ (t.ten ten).back = .stopped ∧
          s.keeps t [.tenants, .ds, .noc, .host, .fm]
      | .error _ => (t.ten ten).img = (s.ten ten).img ∧ s.keeps t [.tenants, .host, .fm])) ∧
  (∀ (d : DRef) (ten : TenId) (s : State), s.fnUp d.fn = true → s.dev.mode ≠ .safe →
      ((s.ten (target d ten)).eff = .stopped ∨ (s.ten (target d ten)).eff = .held) →
    Runs (.imageDiscard d ten) s (fun t => (t.ten (target d ten)).img = none ∧ (t.ten (target d ten)).run = .stopped))

/-! ### Triggers, acquisition and captures -/

/-- Sequencer `q` takes the tap vector of an ecycle: where no branch of its state is eligible it stays in its state, and where its first
branch holds with no action but NEXT it moves to the state that NEXT names (R181, R182). Here it has no linked channel, no violation
unit and no hold-off. -/
def Obligations.TriggerSteps : Prop :=
  (∀ (q : Unit16) (span : SpanAns) (x : TapVec) (s : State), (s.seqOf q).armed = true → (s.seqOf q).frozen = false →
      s.linked q = [] → (s.ten (s.seqOwner q)).tapReady.find? (fun y => decide ((s.seqOf q).nextE ≤ y.e)) = some x →
      (∀ u, u < 8 → s.maskMode q u ≠ 2) → (s.seqOf q).holding = none →
      bit (s.reg (trgReg q + 0x100 + 16 * (s.seqOf q).st)) 22 = 0 → bit (s.reg (trgReg q + 0x100 + 16 * (s.seqOf q).st + 8)) 22 = 0 →
    Runs (.triggerEvaluate q span) s (fun t =>
      (t.seqOf q).st = (s.seqOf q).st ∧ (t.seqOf q).taken = (s.seqOf q).taken ∧ (t.seqOf q).nextE = x.e + 1 ∧
      (t.seqOf q).ti = 0 ∧ (t.seqOf q).sw = false ∧ (t.seqOf q).armed = true ∧ (∀ r, r ≠ q.val → t.seqOf r = s.seqOf r) ∧
      t.trig.acq = s.trig.acq ∧ s.otherTenants t (s.seqOwner q) ∧ s.keeps t [.trig, .tenants])) ∧
  (∀ (q : Unit16) (span : SpanAns) (x : TapVec) (s : State), (s.seqOf q).armed = true → (s.seqOf q).frozen = false →
      s.linked q = [] → (s.ten (s.seqOwner q)).tapReady.find? (fun y => decide ((s.seqOf q).nextE ≤ y.e)) = some x →
      (∀ u, u < 8 → s.maskMode q u ≠ 2) → (s.seqOf q).holding = none →
      s.reg (trgReg q + 0x100 + 16 * (s.seqOf q).st) = 2 ^ 22 → s.reg (trgReg q + 0x104 + 16 * (s.seqOf q).st) < 16 →
    Runs (.triggerEvaluate q span) s (fun t =>
      (t.seqOf q).st = s.reg (trgReg q + 0x104 + 16 * (s.seqOf q).st) ∧ (t.seqOf q).taken = satInc (s.seqOf q).taken 0xFFFF ∧
      (t.seqOf q).nextE = x.e + 1 ∧ (∀ r, r ≠ q.val → t.seqOf r = s.seqOf r) ∧ t.trig.acq = s.trig.acq ∧
      s.otherTenants t (s.seqOwner q) ∧ s.keeps t [.trig, .tenants]))

/-- Pins and time at the sequencers: an input pin takes its level, and a rising edge of an enabled EDGE pin latches its term in every
sequencer (R194); a timer that is due shows once (R186); a TIME hold-off ends (R187); an output pulse ends, and a LEVEL output stays
(R195). TRG_CTL (R180, R182, R184, Table 6-7): tenant 0 gives a sequencer its owner, and its program returns to reset; its owner or
tenant 0 arms it in state INIT, disarms it, and latches its software term; another function's write is refused and recorded. -/
def Obligations.TriggerUnit : Prop :=
  (
  (∀ (i : Fin 4) (level : Bool) (span : SpanAns) (s : State), bit (s.reg (0xDC000 + 4 * i.val)) 0 = 0 →
    Runs (.trigInEdge i level span) s (fun t => t.trig.inPins = setFld s.trig.inPins i 1 (b2n level) ∧
      t.trig.seqs = s.trig.seqs ∧ t.trig.outPins = s.trig.outPins ∧ s.keeps t [.trig])) ∧
  (∀ (i : Fin 4) (span : SpanAns) (s : State), fld (s.reg (0xDC000 + 4 * i.val)) 0 3 = 3 → s.trig.inPins.testBit i = false →
      s.dev.mode.idleToDerate = true → (∀ q, q < 16 → (s.seqOf q).armed = false) →
    Runs (.trigInEdge i true span) s (fun t => (∀ q, q < 16 → (t.seqOf q).ti = (s.seqOf q).ti ||| 2 ^ i.val) ∧
      t.trig.inPins = setFld s.trig.inPins i 1 1 ∧ s.keeps t [.trig])) ∧
  (∀ (q : Unit16) (i : Fin 2) (span : SpanAns) (s : State), (s.seqOf q).armed = true → s.timerDue q i = true →
      (s.seqOf q).timer.any (fun e => decide (e.1 = i.val ∧ e.2.2 = false)) = true → s.idleOwner (s.seqOwner q) = false →
    Runs (.trigTimerExpire q i span) s (fun t =>
      (∀ e ∈ (t.seqOf q).timer, e.1 = i.val → e.2.2 = true) ∧ (t.seqOf q).st = (s.seqOf q).st ∧
      (∀ r, r ≠ q.val → t.seqOf r = s.seqOf r) ∧ s.keeps t [.trig])) ∧
  (∀ (q : Unit16) (h : HoldOff) (s : State), (s.seqOf q).holding = some h → h.mode = 1 → (s.seqOf q).frozen = false →
      s.thyPast h.target = true →
    Runs (.trigHoldoffEnd q) s (fun t => (t.seqOf q).holding = none ∧ (t.seqOf q).st = (s.seqOf q).st ∧
      (∀ r, r ≠ q.val → t.seqOf r = s.seqOf r) ∧ s.keeps t [.trig])) ∧
  (∀ (i : Fin 4) (s : State), s.rfld (0xDC010 + 4 * i.val) 1 1 = 0 →
    Runs (.trigOutPulseEnd i) s (fun t => t.trig.outPins = setFld s.trig.outPins i 1 0 ∧ t.trig.seqs = s.trig.seqs ∧
      s.keeps t [.trig])) ∧
  (∀ (i : Fin 4) (s : State), s.rfld (0xDC010 + 4 * i.val) 1 1 = 1 → Runs (.trigOutPulseEnd i) s (fun t => t = s))) ∧
  (
  (∀ (q : Unit16) (owner : TenId) (s : State), s.dev.mode.configured = true → (s.seqOf q).armed = false →
    Runs (.trgOwnerWrite q 0 owner) s (fun t => t.seqOwner q = owner.val ∧ (t.seqOf q).armed = false ∧ (t.seqOf q).st = 0 ∧
      (∀ x, 0x100 ≤ x → x < 0x800 → Map.get t.regs (regReset (trgReg q + x)) (trgReg q + x) = regReset (trgReg q + x)) ∧
      (∀ r, r ≠ q.val → t.seqOf r = s.seqOf r) ∧ s.keeps t [.regs, .trig])) ∧
  (∀ (q : Unit16) (by' owner : TenId) (s : State), s.dev.mode.configured = true → by'.val ≠ 0 →
    Runs (.trgOwnerWrite q by' owner) s (fun t => t = s.accOwner (trgReg q) ∧ s.keeps t [.fm])) ∧
  (∀ (q : Unit16) (by' : TenId) (init : BitVec 4) (ring : Ring8) (s : State), s.dev.mode.configured = true →
      (by'.val = 0 ∨ by'.val = s.seqOwner q) → (s.seqOf q).armed = false → (s.seqOf q).frozen = false →
    Runs (.trgArm q by' init ring) s (fun t => (t.seqOf q).armed = true ∧ (t.seqOf q).st = init.toNat ∧ (t.seqOf q).taken = 0 ∧
      (t.seqOf q).holding = none ∧ t.seqOwner q = s.seqOwner q ∧ (∀ r, r ≠ q.val → t.seqOf r = s.seqOf r) ∧
      s.keeps t [.regs, .trig])) ∧
  (∀ (q : Unit16) (by' : TenId) (s : State), s.dev.mode.configured = true → (by'.val = 0 ∨ by'.val = s.seqOwner q) →
      s.linked q = [] →
    Runs (.trgDisarm q by') s (fun t => (t.seqOf q).armed = false ∧ (t.seqOf q).st = (s.seqOf q).st ∧
      (∀ r, r ≠ q.val → t.seqOf r = s.seqOf r) ∧ s.keeps t [.regs, .trig, .tenants])) ∧
  (∀ (q : Unit16) (by' : TenId) (span : SpanAns) (s : State), s.dev.mode.configured = true →
      (by'.val = 0 ∨ by'.val = s.seqOwner q) → s.idleOwner (s.seqOwner q) = false →
    Runs (.trgSwev q by' span) s (fun t => (t.seqOf q).sw = true ∧ (t.seqOf q).armed = (s.seqOf q).armed ∧
      (∀ r, r ≠ q.val → t.seqOf r = s.seqOf r) ∧ s.keeps t [.regs, .trig])) ∧
  (∀ (q : Unit16) (by' : TenId) (init : BitVec 4) (ring : Ring8) (span : SpanAns) (s : State), s.dev.mode.configured = true →
      by'.val ≠ 0 → by'.val ≠ s.seqOwner q →
    Runs (.trgArm q by' init ring) s (fun t => t = s.accOwner (trgReg q) ∧ s.keeps t [.fm]) ∧
    Runs (.trgDisarm q by') s (fun t => t = s.accOwner (trgReg q) ∧ s.keeps t [.fm]) ∧
    Runs (.trgSwev q by' span) s (fun t => t = s.accOwner (trgReg q) ∧ s.keeps t [.fm])))

/-- A channel's run state (R198, Table 6-11): RUN starts it, with a START mark, and clearing RUN stops it, but for a channel in PACING;
OWNER returns it to OFF with nothing staged, unless its ring would reach into the carved areas of the new owner (R234);
room that comes back closes a gap or ends PACING; a wait that has reached PACE_LIMIT stops it. The ring of a channel (R196): the
oldest staged record lands at WIDX, which then counts it; RIDX moves only between itself and WIDX. A record that a ring takes stands
in its bytes, wrapping at the ring's size, and no other byte of the deep store changes (R196). -/
def Obligations.Acquisition : Prop :=
  (
  (∀ (c : Unit16) (by' : TenId) (s : State), s.dev.mode.configured = true → (by'.val = 0 ∨ by'.val = s.acqOwner c) →
      ((s.acqOf c).st = .off ∨ (s.acqOf c).st = .stopped) →
    Runs (.acqRunStart c by') s (fun t => (t.acqOf c).st = .run ∧ (t.acqOf c).lost = 0 ∧ (t.acqOf c).waiting = [] ∧
      (t.acqOf c).widx = (s.acqOf c).widx ∧
      (∀ r, r ≠ c.val → t.acqOf r = s.acqOf r) ∧ s.keeps t [.regs, .trig, .sched, .fm])) ∧
  (∀ (c : Unit16) (by' : TenId) (s : State), s.dev.mode.configured = true → (by'.val = 0 ∨ by'.val = s.acqOwner c) →
      ((s.acqOf c).st = .off ∨ (s.acqOf c).st = .stopped) → acqCtlStored (s.reg (acqReg c)) = s.reg (acqReg c) →
      (s.acqOf c).gap = none →
      let r := acqRecord 0x10 c (s.acqOwner c) 0 (s.ten (s.acqOwner c)).done s.thy.sec s.thy.ns 0 []
      s.acqFits c r = true →
    Runs (.acqRunStart c by') s (fun t => (t.acqOf c).st = .run ∧
      (∃ n, (t.acqOf c).staging = (s.acqOf c).staging ++ [(r, n)]) ∧ s.keeps t [.trig, .sched])) ∧
  (∀ (c : Unit16) (by' : TenId) (s : State), s.dev.mode.configured = true → (by'.val = 0 ∨ by'.val = s.acqOwner c) →
      ((s.acqOf c).st = .run ∨ (s.acqOf c).st = .post) →
    Runs (.acqRunStop c by') s (fun t => (t.acqOf c).st = .stopped ∧ (t.acqOf c).waiting = (s.acqOf c).waiting ∧
      (t.acqOf c).widx = (s.acqOf c).widx ∧ (∀ r, r ≠ c.val → t.acqOf r = s.acqOf r) ∧
      s.keeps t [.regs, .trig, .sched, .fm])) ∧
  (∀ (c : Unit16) (by' : TenId) (s : State), s.dev.mode.configured = true → (by'.val = 0 ∨ by'.val = s.acqOwner c) →
      (s.acqOf c).st = .pacing →
    Runs (.acqRunStop c by') s (fun t => t.trig = s.trig ∧ s.keeps t [.regs, .fm])) ∧
  (∀ (c : Unit16) (owner : TenId) (s : State), s.dev.mode.configured = true →
      s.acqRingBad owner (s.acqBase c) (2 ^ fld (s.reg (acqReg c)) 16 6) = true →
    Runs (.acqOwnerWrite c 0 owner) s (fun t => t = s.accValue (acqReg c) ∧ s.keeps t [.fm])) ∧
  (∀ (c : Unit16) (owner : TenId) (s : State), s.dev.mode.configured = true →
      s.acqRingBad owner (s.acqBase c) (2 ^ fld (s.reg (acqReg c)) 16 6) = false →
    Runs (.acqOwnerWrite c 0 owner) s (fun t => (t.acqOf c).st = .off ∧ (t.acqOf c).staging = [] ∧ (t.acqOf c).waiting = [] ∧
      t.acqOwner c = owner.val ∧ (∀ r, r ≠ c.val → t.acqOf r = s.acqOf r) ∧ s.keeps t [.regs, .trig])) ∧
  (∀ (c : Unit16) (by' owner : TenId) (s : State), s.dev.mode.configured = true → by'.val ≠ 0 →
    Runs (.acqOwnerWrite c by' owner) s (fun t => t = s.accOwner (acqReg c) ∧ s.keeps t [.fm])) ∧
  (∀ (c : Unit16) (s : State), (s.acqOf c).st.runs = true → (s.acqOf c).gap.isSome = true → s.acqFits c (zeros 32) = true →
    Runs (.acqGapRoom c) s (fun t => (t.acqOf c).gap = none ∧ (t.acqOf c).gapSeen = true ∧ (t.acqOf c).st = (s.acqOf c).st ∧
      (t.acqOf c).staging.length = (s.acqOf c).staging.length + 1 ∧ (∀ r, r ≠ c.val → t.acqOf r = s.acqOf r) ∧
      s.keeps t [.trig, .sched])) ∧
  (∀ (c : Unit16) (r : List Byte) (s : State), (s.acqOf c).st = .pacing → (s.acqOf c).waiting = [r] →
      (s.acqOf c).pacingFrom = .run → s.acqFits c r = true →
    Runs (.acqPacingRoom c) s (fun t => (t.acqOf c).st = .run ∧ (t.acqOf c).waiting = [] ∧
      (t.acqOf c).staging.length = (s.acqOf c).staging.length + 1 ∧ (∀ r, r ≠ c.val → t.acqOf r = s.acqOf r) ∧
      s.keeps t [.trig, .sched])) ∧
  (∀ (c : Unit16) (ms : BitVec 16) (r : List Byte) (w : List (List Byte)) (s : State), (s.acqOf c).st = .pacing →
      (s.acqOf c).waiting = r :: w → s.rfld (acqReg c + 0x1C) 0 16 ≠ 0 → s.rfld (acqReg c + 0x1C) 0 16 ≤ ms.toNat →
    Runs (.acqPaceTimeout c ms) s (fun t => (t.acqOf c).st = .stopped ∧ (t.acqOf c).ovf = true ∧ (t.acqOf c).waiting = [] ∧
      (∀ r, r ≠ c.val → t.acqOf r = s.acqOf r) ∧ s.keeps t [.trig, .sched]))) ∧
  (
  (∀ (c : Unit16) (r : List Byte) (tok : Nat) (rest : List (List Byte × Nat)) (s : State),
      (s.acqOf c).staging = (r, tok) :: rest → s.tokWaits 5 tok = false → (s.acqOf c).held = [] →
      (s.acqMode c = 0 ∨ (s.acqOf c).widx - (s.acqOf c).ridx + r.length ≤ s.acqSize c) →
      s.acqBase c + s.acqSize c ≤ s.rsize (s.acqOwner c) →
    Runs (.acqRecordLanded c 0) s (fun t => (t.acqOf c).staging = rest ∧ (t.acqOf c).widx = (s.acqOf c).widx + r.length ∧
      (s.acqMode c ≠ 0 → (t.acqOf c).ridx = (s.acqOf c).ridx) ∧ (t.acqOf c).st = (s.acqOf c).st ∧
      t.ds = s.ds.putRing (s.rbase (s.acqOwner c) + s.acqBase c) (s.acqSize c) (s.acqOf c).widx r ∧
      (∀ r, r ≠ c.val → t.acqOf r = s.acqOf r) ∧ s.keeps t [.trig, .ds])) ∧
  (∀ (c : Unit16) (by' : TenId) (v : DWord) (s : State), s.dev.mode.configured = true → (by'.val = 0 ∨ by'.val = s.acqOwner c) →
      (s.acqOf c).ridx ≤ v.toNat → v.toNat ≤ (s.acqOf c).widx →
    Runs (.acqRidxWrite c by' v) s (fun t => (t.acqOf c).ridx = v.toNat ∧ (t.acqOf c).widx = (s.acqOf c).widx ∧
      (t.acqOf c).st = (s.acqOf c).st ∧ (∀ r, r ≠ c.val → t.acqOf r = s.acqOf r) ∧ s.keeps t [.trig, .sched])) ∧
  (∀ (c : Unit16) (by' : TenId) (v : DWord) (s : State), s.dev.mode.configured = true → (by'.val = 0 ∨ by'.val = s.acqOwner c) →
      (v.toNat < (s.acqOf c).ridx ∨ (s.acqOf c).widx < v.toNat) →
    Runs (.acqRidxWrite c by' v) s (fun t => t = s.accValue (acqReg c + 0x28) ∧ s.keeps t [.fm]))) ∧
  (
  ∀ (bs : List Byte) (m : Mem) (base size x : Nat), 0 < size → bs.length ≤ size →
    (∀ i, i < bs.length → (m.putRing base size x bs).read (base + (x + i) % size) = bs.getD i 0) ∧
    (∀ a, (∀ i, i < bs.length → a ≠ base + (x + i) % size) → (m.putRing base size x bs).read a = m.read a))

/-- A CAPTURE descriptor: refused with the status that R353 names, or queued for the tenant's boundary with the next capture number
(R202, R203). -/
def Obligations.CaptureRequests : Prop :=
  (∀ (d : DRef) (ten : TenId) (s : State), s.fnUp d.fn = true → s.dev.mode ≠ .safe → (s.ten (target d ten)).img = none →
    Runs (.capture d ten) s (fun t => t = (s.completeCap d 0x02 0 0 0 0).releaseResv d)) ∧
  (∀ (d : DRef) (ten : TenId) (s : State), s.fnUp d.fn = true → s.dev.mode ≠ .safe →
      (s.ten (target d ten)).img.isSome = true → (s.ten (target d ten)).capSlots = 0 →
    Runs (.capture d ten) s (fun t => t = (s.completeCap d 0x07 0 0 0 0).releaseResv d)) ∧
  (∀ (d : DRef) (ten : TenId) (s : State), s.fnUp d.fn = true → s.dev.mode ≠ .safe →
      (s.ten (target d ten)).img.isSome = true → 0 < (s.ten (target d ten)).capSlots → s.capPending none < 64 →
      s.capPending (some (target d ten)) < 4 → s.capShared (target d ten) (s.dueOf (target d ten)) = none →
      (s.ten (target d ten)).slotFree (s.ten (target d ten)).capNext = true → (s.ten (target d ten)).run ≠ .swapped →
      (s.ten (target d ten)).spans = false → s.noEcycle (target d ten) = false → (s.ten (target d ten)).recov = none →
    Runs (.capture d ten) s (fun t =>
      (∃ q ∈ t.cap.queue, q.ten = target d ten ∧ q.cmds = [d] ∧ q.seq = (s.ten (target d ten)).capNext ∧
        q.due = (s.ten (target d ten)).done + s.lag (target d ten)) ∧
      (t.ten (target d ten)).capNext = (s.ten (target d ten)).capNext + 1 ∧
      (t.ten (target d ten)).run = (s.ten (target d ten)).run ∧ (t.ten (target d ten)).done = (s.ten (target d ten)).done ∧
      s.otherTenants t (target d ten) ∧ s.keeps t [.tenants, .cap, .host, .fm]))

/-! ### The error log and recovery -/

/-- A report that is like one waiting raises its COUNT; a new one waits while fewer than 64 do; and one more than that is counted as
lost (R229). The ring of the log: the oldest waiting report takes the entry at WIDX while fewer than 1,024 are unread, one of class
TENANT or above signals vector 9 of the physical function; ERR_LOG_RIDX moves only up to WIDX (R229, R362). ERR_CKPT_CFG (R209,
Table 7-2): the interval and the sizes are clamped, and they keep their values while an image is loaded, when a change of them
records ACCESS_STATE. -/
def Obligations.ErrorLog : Prop :=
  (
  ∀ (f : FaultMgr) (r : Report),
    (f.intake.any (fun q => q.same r) = true → (f.arrive r).intake.length = f.intake.length ∧ (f.arrive r).lost = f.lost ∧
      (f.arrive r).ring = f.ring ∧ (f.arrive r).overflow = f.overflow ∧
      (∀ q, f.intake.find? (fun x => x.same r) = some q → q.again ∈ (f.arrive r).intake)) ∧
    (f.intake.any (fun q => q.same r) = false → f.widx = f.ridx → f.intake.length < 64 →
      (f.arrive r).intake = f.intake ++ [r] ∧ (f.arrive r).lost = f.lost ∧ (f.arrive r).ring = f.ring) ∧
    (f.intake.any (fun q => q.same r) = false → f.widx = f.ridx → 64 ≤ f.intake.length →
      (f.arrive r).intake = f.intake ∧ (f.arrive r).overflow = true ∧ (f.arrive r).lost = satInc f.lost 0xFFFF) ∧
    (f.arrive r).widx = f.widx ∧ (f.arrive r).ridx = f.ridx ∧ (f.arrive r).remap = f.remap ∧ (f.arrive r).bad = f.bad) ∧
  (
  (∀ (r : Report) (rest : List Report) (s : State), s.fm.intake = r :: rest → (s.fm.widx - s.fm.ridx).toNat < 1024 → r.cls < 3 →
    Runs .errorLogIntake s (fun t => t.fm.intake = rest ∧ t.fm.widx = s.fm.widx + 1 ∧ t.fm.ridx = s.fm.ridx ∧
      (∀ e, Map.get t.fm.ring e (s.fm.widx.toNat % 1024) = r) ∧
      (∀ e k, k ≠ s.fm.widx.toNat % 1024 → Map.get t.fm.ring e k = Map.get s.fm.ring e k) ∧ s.keeps t [.fm])) ∧
  (∀ (r : Report) (rest : List Report) (s : State), s.fm.intake = r :: rest → (s.fm.widx - s.fm.ridx).toNat < 1024 → 3 ≤ r.cls →
    Runs .errorLogIntake s (fun t => t.fm.intake = rest ∧ t.fm.widx = s.fm.widx + 1 ∧ t.host = (s.msix 0 9).host ∧
      s.keeps t [.fm, .host])) ∧
  (∀ s : State, 1024 ≤ (s.fm.widx - s.fm.ridx).toNat → Runs .errorLogIntake s (fun t => t = s)) ∧
  (∀ (v : Word) (s : State), s.dev.mode.configured = true → (v - s.fm.ridx).toNat ≤ (s.fm.widx - s.fm.ridx).toNat →
    Runs (.errLogRidxWrite v) s (fun t => t.fm.ridx = v ∧ t.fm.widx = s.fm.widx ∧ t.fm.intake = s.fm.intake ∧ t.fm.ring = s.fm.ring ∧
      s.keeps t [.fm])) ∧
  (∀ (v : Word) (s : State), s.dev.mode.configured = true → (s.fm.widx - s.fm.ridx).toNat < (v - s.fm.ridx).toNat →
    Runs (.errLogRidxWrite v) s (fun t => t = s.accValue 0x70004 ∧ t.fm.ridx = s.fm.ridx ∧ s.keeps t [.fm]))) ∧
  (
  (∀ v : Nat, 10 ≤ fld (ckptCfgStored v) 0 5 ∧ fld (ckptCfgStored v) 0 5 ≤ 20 ∧ 20 ≤ fld (ckptCfgStored v) 8 5 ∧
    20 ≤ fld (ckptCfgStored v) 16 5 ∧ fld (ckptCfgStored v) 21 3 = fld v 21 3) ∧
  (∀ (x : TenId) (v : Word) (s : State), s.dev.mode.configured = true → (s.ten x).img = none →
    Runs (.errCkptCfgWrite x v) s (fun t => t.reg (0x71000 + 4 * x.val) = ckptCfgStored v.toNat ∧
      (∀ off, off ≠ 0x71000 + 4 * x.val → t.reg off = s.reg off) ∧ s.keeps t [.regs])) ∧
  (∀ (x : TenId) (v : Word) (s : State), s.dev.mode.configured = true → (s.ten x).img.isSome = true →
      fld (ckptCfgStored v.toNat) 0 21 ≠ fld (fld (s.reg (0x71000 + 4 * x.val)) 0 24) 0 21 →
    Runs (.errCkptCfgWrite x v) s (fun t => fld (t.reg (0x71000 + 4 * x.val)) 0 21 = fld (s.reg (0x71000 + 4 * x.val)) 0 21 ∧
      fld (t.reg (0x71000 + 4 * x.val)) 21 3 = fld v.toNat 21 3 ∧ s.keeps t [.regs, .fm])))

/-- The events of a recovery: a watchdog that expires stops the tenant and starts one (R218, event 1 of Table 7-6); with every faulty
tile placed the device counts it and goes on (events 2 and 3); with the checkpoint restored the tenant replays (event 4, R219). A
remote wait that has lasted the partition time holds its tenant with cause PARTITION (R70, R227); a late error is recorded, and
reaches the tenant as a completion while fewer than 256 wait (R228). -/
def Obligations.Recoveries : Prop :=
  (
  (∀ (l : TileId) (x : TenId) (s : State), (s.ltile l).bound = true → (s.ltile l).ten = x.val → s.waitsLocal l = true →
      (s.tile l).halt = none → s.dev.mode ≠ .safe → (s.ten x).recov = none → s.dev.refits = [] →
    Runs (.watchdogExpire l []) s (fun t => (∃ r, (t.ten x).recov = some r ∧ r.phase = .stopped ∧ r.kind = .masked ∧
        r.k = s.restorePoint x ∧ r.upTo = (s.ten x).done) ∧
      (t.ten x).affected = true ∧ (t.ten x).done = (s.ten x).done ∧ (t.tile l).halt.isSome = true ∧ t.ds = s.ds ∧ t.regs = s.regs)) ∧
  (∀ (ten : TenId) (r : Recovery) (s : State), (s.ten ten).recov = some r → r.phase = .stopped → r.ltiles = [] →
      (s.ten ten).drained = true → s.dev.mode ≠ .safe → s.dev.refits = [ten.val] → s.faultCapture ten = false →
      s.allSettled ten = true → s.rebalOf ten = none → s.faultyTiles = [] → s.allPlaced ten = true → r.kind ≠ .swapIn →
    Runs (.recoveryPlacement ten) s (fun t => (∃ n, (t.ten ten).recov = some { r with phase := .placed, ltiles := [], tok := n }) ∧
      t.fm.recoveries = satInc s.fm.recoveries 0xFFFF ∧ (t.ten ten).done = (s.ten ten).done ∧ t.ds = s.ds ∧ t.regs = s.regs)) ∧
  (∀ (ten : TenId) (newBad oldBad : Bool) (r : Recovery) (v : Saved) (s : State), (s.ten ten).recov = some r → r.phase = .placed →
      s.tokWaits 0 r.tok = false → s.deepBusy ten = false → s.dev.mode ≠ .safe → s.darkDomains (s.boundTiles ten) = [] →
      s.dev.refits = [] → s.noc.dsPoison = [] → (s.ten ten).readable r.k newBad oldBad = some v → v.k = r.k →
      r.kind = .masked → v.k < r.upTo →
    Runs (.restoreComplete ten newBad oldBad) s (fun t => (t.ten ten).recov = some { r with phase := .replay } ∧
      t.ds = (s.applyJournal ten v.k).ds ∧ t.regs = s.regs))) ∧
  (
  (∀ (ten : TenId) (ms : Nat) (s : State), (s.ten ten).spans = true → s.partDue ten ms = true → s.detourOpen ten = false →
      s.waitsRemote ten = true → (s.ten ten).holds = [] → s.dev.mode ≠ .safe →
    Runs (.partitionTimeout ten ms) s (fun t => 2 ∈ (t.ten ten).holds ∧ (t.ten ten).eff = .held)) ∧
  (∀ (ten : TenId) (ring status : Byte) (tag : BitVec 16) (dseq addr : DWord) (mod : ModId) (memid : Byte) (tile : BitVec 16) (s : State),
      (s.host.cpls.filter (fun c => decide (c.fn = ten.val ∧ c.typ = 5))).length < 256 → (s.cq ten (s.errRing ten)).en = true →
    Runs (.lateErrorPacket ten ring status tag dseq addr mod memid tile) s (fun t =>
      s.reported t 0x0130 3 0 (some ten.val) addr.toNat ∧
      (∃ c, t.host.cpls = s.host.cpls ++ [c] ∧ c.fn = ten.val ∧ c.cq = s.errRing ten ∧ c.typ = 5) ∧ s.keeps t [.fm, .host])) ∧
  (∀ (ten : TenId) (ring status : Byte) (tag : BitVec 16) (dseq addr : DWord) (mod : ModId) (memid : Byte) (tile : BitVec 16) (s : State),
      256 ≤ (s.host.cpls.filter (fun c => decide (c.fn = ten.val ∧ c.typ = 5))).length →
    Runs (.lateErrorPacket ten ring status tag dseq addr mod memid tile) s (fun t =>
      t.fm.lateLost = s.fm.lateLost + 1 ∧ t.host = s.host ∧ s.keeps t [.fm])))

/-! ### The scheduler -/

/-- The end of a slice is a placement decision where a victim is needed, and else the slice renews (R242). A chosen
swap starts once its rate can be reserved and its domains are good; a domain that is not is asked for (R245, R263), and none starts
in HOLD (R28). A victim that
has emptied is SWAPPED, and its state drains to its swap slot (R243). The incoming tenant of a swap resumes its return state on its
tiles, once every victim has emptied (R236, R244); with its image gone or too few tiles free the swap ends without it. -/
def Obligations.Scheduling : Prop :=
  (
  (∀ (x : TenId) (s : State), s.inTiles x = true → (s.ten x).runnable = true → s.dev.mode ≠ .safe → s.victimNeeded = true →
    Runs (.sliceEnd x) s (fun t => t = (s.updTen x (fun v => { v with sliceOver := true })).place ∧ (t.ten x).run = (s.ten x).run ∧
      (s.sched.swap.isSome = true → (t.ten x).sliceOver = true ∧ s.otherTenants t x ∧ s.keeps t [.tenants]))) ∧
  (∀ (x : TenId) (s : State), s.inTiles x = true → (s.ten x).runnable = true → s.dev.mode ≠ .safe → s.victimNeeded = false →
    Runs (.sliceEnd x) s (fun t => (t.ten x).sliceOver = false ∧ (t.ten x).sliceFrom = s.thy.total ∧ (t.ten x).run = (s.ten x).run ∧
      s.otherTenants t x ∧ s.keeps t [.tenants, .chv]))) ∧
  (
  (∀ (h : Nat) (s : State), s.sched.chosen = some (h, []) → s.sched.swap = none → s.dev.mode ≠ .hold → s.dev.mode ≠ .safe →
      s.holdCond = false → s.sched.derateOut = [] →
      let plan := s.swapPlan h []
      let ls := plan.map (fun e => e.2.1)
      s.underRefit [h] ls = false → s.darkDomains ls = [] → swapRate (s.swapBytes h plan) ≤ s.sched.rate - s.sched.resv →
    Runs .swapStart s (fun t => (∃ w, t.sched.swap = some w ∧ w.inT = h ∧ w.victims = [] ∧ w.emptied = [] ∧
        w.rate = swapRate (s.swapBytes h plan) ∧ t.sched.resv = s.sched.resv + w.rate) ∧
      t.sched.chosen = none ∧ s.keeps t [.sched, .chv])) ∧
  (∀ (h : Nat) (vs : List Nat) (s : State), s.sched.chosen = some (h, vs) → s.sched.swap = none → s.dev.mode ≠ .hold →
      s.dev.mode ≠ .safe → s.holdCond = false → s.sched.derateOut = [] →
      let ls := (s.swapPlan h vs).map (fun e => e.2.1)
      s.underRefit (h :: vs) ls = false → s.darkDomains ls ≠ [] →
    Runs .swapStart s (fun t => (∀ d ∈ s.darkDomains ls, d ∈ t.pwr.wanted) ∧ t.sched = s.sched ∧ s.keeps t [.pwr])) ∧
  (∀ (h : Nat) (vs : List Nat) (s : State), s.sched.chosen = some (h, vs) → s.sched.swap = none → s.dev.mode ≠ .hold →
      s.dev.mode ≠ .safe → s.holdCond = false → s.sched.derateOut = [] →
      let plan := s.swapPlan h vs
      let ls := plan.map (fun e => e.2.1)
      s.underRefit (h :: vs) ls = false → s.darkDomains ls = [] → s.sched.rate - s.sched.resv < swapRate (s.swapBytes h plan) →
    Runs .swapStart s (fun t => t = s.decision 0x0A h 0xFF plan.length (s.swapBytes h plan) ∧ s.keeps t [.chv])) ∧
  (∀ s : State, (s.dev.mode = .hold ∨ s.holdCond = true ∨ s.sched.derateOut ≠ []) → Runs .swapStart s (fun t => t = s)) ∧
  (∀ (v : TenId) (s : State), s.leaving v = true → (s.ten v).moving = true → s.noEcycle v = true → (s.ten v).recov = none →
      (s.ten v).run ≠ .swapped → s.dev.mode ≠ .safe → (s.ten v).reqs = [] → s.cap.moving = none → s.cap.queue = [] →
      s.poolRoom (stateSlot (s.ten v).ntiles) = true → s.dev.refits = [] → s.sched.derateQ = [] →
    Runs (.swapOutEmptied v []) s (fun t => (t.ten v).run = .swapped ∧ (t.ten v).back = (s.ten v).run ∧ (t.ten v).moving = false ∧
      (t.ten v).swapSlot = none ∧ (t.ten v).done = (s.ten v).done ∧ v.val ∉ t.sched.derateOut ∧
      (∃ e ∈ t.sched.draining, e.1 = v.val ∧ e.2.1 = s.capSaved v []) ∧
      (∀ x, x ≠ v.val → (t.ten x).run = (s.ten x).run ∧ (t.ten x).done = (s.ten x).done))) ∧
  (∀ (x : TenId) (k tok : Nat) (v : Saved) (s : State), s.sched.draining.find? (fun e => decide (e.1 = x.val)) = some (k, v, tok) →
      tok ≠ 0 → s.tokWaits 2 tok = false →
    Runs (.swapDrainDone x) s (fun t => (t.ten x).swapSlot = some v ∧ (t.ten x).run = (s.ten x).run ∧
      t.sched.draining = s.sched.draining.filter (fun e => decide (e.1 ≠ x.val)) ∧ s.otherTenants t x ∧
      s.keeps t [.sched, .tenants, .ds, .noc, .freeCtr]))) ∧
  (
  (∀ (w : Swap) (s : State), s.sched.swap = some w → w.victims.all (fun v => w.emptied.contains v) = true → s.dev.mode ≠ .safe →
      (s.ten w.inT).img.isSome = true → (s.ten w.inT).run = .swapped →
      let plan := s.planFor w.inT s.freeTiles
      let ls := plan.map (fun e => e.2.1)
      s.underRefit [w.inT] ls = false → s.darkDomains ls = [] →
      (s.ten w.inT).ntiles ≤ plan.length → (s.ten w.inT).fromCkpt = false →
      s.rangePoisoned (s.swapBase w.inT) (stateSlot (s.ten w.inT).ntiles) = false →
    Runs (.swapInLoaded false) s (fun t => ∃ u : State,
      t = (((u.loadTenant w.inT (s.swapInState w.inT)).capResume w.inT).boundary w.inT).dropSwap w ∧
      (u.ten w.inT).run = (s.ten w.inT).back ∧ (u.ten w.inT).swapSlot = none ∧ (u.ten w.inT).done = (s.ten w.inT).done ∧
      u.sched.swap = some w ∧ s.otherTenants u w.inT ∧ s.keeps u [.sched, .tenants, .chv])) ∧
  (∀ (w : Swap) (bad : Bool) (s : State), s.sched.swap = some w → w.victims.all (fun v => w.emptied.contains v) = true →
      s.dev.mode ≠ .safe → s.underRefit [w.inT] ((s.planFor w.inT s.freeTiles).map (fun e => e.2.1)) = false →
      (s.ten w.inT).img = none →
    Runs (.swapInLoaded bad) s (fun t => t = s.dropSwap w)) ∧
  (∀ (w : Swap) (s : State), s.sched.derateQ = [] →
    (s.dropSwap w).sched.swap = none ∧ (s.dropSwap w).sched.resv = s.sched.resv - w.rate))

/-- REBALANCE (R239): from tenant 0 only, refused with the status that its argument or the tenant's state gives; an accepted one joins
the refits, with the device in REFIT and the domains of its tiles asked for, or is noted for the recovery that is under way (R38
item 4). -/
def Obligations.Rebalances : Prop :=
  (∀ (d : DRef) (x : TenId) (ps : List (Byte × Byte)) (s : State), s.fnUp d.fn = true → d.fn.val ≠ 0 →
    Runs (.rebalance d x ps) s (fun t => t = s.complete d 0x15 0x12 0 0 ∧ s.keeps t [.host, .fm])) ∧
  (∀ (d : DRef) (x : TenId) (s : State), s.fnUp d.fn = true → d.fn.val = 0 → s.dev.mode ≠ .safe →
    Runs (.rebalance d x []) s (fun t => t = s.complete d 0x15 0x11 0 0 ∧ s.keeps t [.host, .fm])) ∧
  (∀ (d : DRef) (x : TenId) (ps : List (Byte × Byte)) (s : State), s.fnUp d.fn = true → d.fn.val = 0 → s.dev.mode ≠ .safe →
      s.rebalStatus x (ps.map (fun p => (p.1.toNat, p.2.toNat))) = 0x00 → (s.ten x).recov = none →
    Runs (.rebalance d x ps) s (fun t => ∃ u : State, t = u.remode ∧
      u.sched.rebal = s.sched.rebal ++ [{ cmd := d, ten := x, pairs := ps.map (fun p => (p.1.toNat, p.2.toNat)) }] ∧
      u.dev.refits = s.dev.refits ++ [256 + x.val] ∧ u.inRefit = true ∧
      (∀ p ∈ ps, (s.domain (s.domainOf p.2.toNat)).good = false → s.domainOf p.2.toNat ∈ u.pwr.wanted) ∧
      s.keeps u [.sched, .dev, .pwr])) ∧
  (∀ (d : DRef) (x : TenId) (ps : List (Byte × Byte)) (r : Recovery) (s : State), s.fnUp d.fn = true → d.fn.val = 0 →
      s.dev.mode ≠ .safe → s.rebalStatus x (ps.map (fun p => (p.1.toNat, p.2.toNat))) = 0x00 → (s.ten x).recov = some r →
      r.phase = .stopped →
    Runs (.rebalance d x ps) s (fun t =>
      t.sched.rebal = s.sched.rebal ++ [{ cmd := d, ten := x, pairs := ps.map (fun p => (p.1.toNat, p.2.toNat)) }] ∧
      s.keeps t [.sched, .pwr]))

/-- Hazard reports: an occurrence like one pending raises its COUNT, a new one waits while fewer than 64 do, and one more is counted as
lost (R175); the oldest is posted once its ring has a free entry. -/
def Obligations.Hazards : Prop :=
  (∀ (x it cls step res detail ecyc : Nat) (s : State), s.detects x = true → (s.ten x).recov = none →
      s.hazEnabled x cls = true →
      (s.ten x).hazards.any (fun h => decide (h.tile = it) && decide (h.cls = cls) && decide (h.step = step) && decide (h.res = res)) = false →
      let t := s.hazard x it cls step res detail ecyc
      ((s.ten x).hazards.length < 64 → (t.ten x).hazards = (s.ten x).hazards ++
          [{ tile := it, cls := cls, step := step, ecyc := ecyc, res := res, count := 1, detail := detail, ns := s.thy.ns }] ∧
        (t.ten x).hazLost = (s.ten x).hazLost) ∧
      (64 ≤ (s.ten x).hazards.length → (t.ten x).hazards = (s.ten x).hazards ∧ (t.ten x).hazFlag = true ∧
        (t.ten x).hazLost = satInc (s.ten x).hazLost 0xFFFFFFFF) ∧
      s.otherTenants t x ∧ s.keeps t [.tenants]) ∧
  (∀ (x : TenId) (h : Hazard) (rest : List Hazard) (s : State), (s.ten x).hazards = h :: rest →
      let r := s.rfld (0x94000 + 4 * x.val) 4 3
      (s.cq x r).en = true → ((s.cq x r).tidx - (s.cq x r).head).toNat + (s.cq x r).resv < 2 ^ s.cqLog2 x r → s.host.cpls = [] →
    Runs (.hazardReportPost x) s (fun t => (t.ten x).hazards = rest ∧
      t.host.cpls = [{ fn := x.val, cq := r, typ := 6, status := 0, sq := 0xFF, body := .raw h.bytes, noIrq := false, resv := false }] ∧
      s.otherTenants t x ∧ s.keeps t [.tenants, .host]))

/-- A token window (R249, R250) grants the classes together no more than the rate in force leaves beside what swaps have reserved, and
touches nothing but the token queues, the grants and the virtual times (R240); while rebalances wait for their tokens they are
taken up after it. -/
def Obligations.TokenBudget : Prop :=
  (∀ s : State, sumNat ((List.range 6).map (fun c => (Map.get s.tokenWindow.sched.granted [] c).headD 0)) ≤ s.sched.rate - s.sched.resv) ∧
  (∀ s : State, s.dev.mode.configured = true → s.sched.rebal ≠ [] → Runs .tokenWindow s (fun t => t = s.tokenWindow.accrue.remode)) ∧
  (∀ s : State, s.dev.mode.configured = true → s.sched.rebal = [] → Runs .tokenWindow s (fun t => t.sched.granted = s.tokenWindow.sched.granted ∧
    t.sched.tokens = s.tokenWindow.sched.tokens ∧ t.sched.rate = s.sched.rate ∧ t.sched.resv = s.sched.resv ∧
    t.sched.swap = s.sched.swap ∧ (∀ x, (t.ten x).run = (s.ten x).run ∧ (t.ten x).done = (s.ten x).done ∧ (s.ten x).vt ≤ (t.ten x).vt) ∧
    s.keeps t [.sched, .tenants]))

/-! ### Power, clocks and modes -/

/-- P_B is a multiple of 0.1 W, falls to 0 when the analogue monitor has failed, and never exceeds the input power; the power that a
temperature allows falls from 560 W to 0 over 20 °C around T_lim (R268, R269, R477; P_B's rounding is the model's, log entry 43).
The cap is between the floor rate and the rate at nominal voltage where the floor rate lies below that (R270); V_T for a rate is the
lowest whose minimum rate reaches it, at most VT_NOM. DERATE is set when the demand exceeds P_B and cleared after ten evaluations
with 5 % to spare (R271). -/
def Obligations.PowerBudget : Prop :=
  (
  (∀ (nt lk : Nat) (s : State), s.budget nt lk % 100 = 0 ∧ (s.ana.failed = true → s.budget nt lk = 0) ∧
    s.budget nt lk ≤ s.pIn ∧ s.budget nt lk ≤ pThAt s.hottest.1 ∧ s.pIn ≤ 560000) ∧
  (∀ t : Int, (t ≤ tLim - 40 → pThAt t = 560000) ∧ (tLim - 40 ≤ t → t ≤ tLim + 40 → (pThAt t : Int) = 7000 * (tLim + 40 - t)) ∧
    (tLim + 40 ≤ t → pThAt t = 0))) ∧
  (
  ∀ s : State, s.capFor ≤ atVolt typRows s.vtNom ∧ (s.floorRate ≤ atVolt typRows s.vtNom → s.floorRate ≤ s.capFor) ∧
    (∀ f, s.voltFor f ≤ s.vtNom ∧ (f ≤ atVolt minRows s.vtNom → f ≤ atVolt minRows (s.voltFor f)) ∧
      (∀ v, v < s.voltFor f → atVolt minRows v < f))) ∧
  (
  (∀ s : State, s.dev.derate = false → s.sched.pb * 1000 < s.demandAt s.spaceSet s.sched.fMsps →
    (s.derateCond).dev.derate = true ∧ s.reported s.derateCond 0x0305 0 0 none s.sched.pb ∧ s.keeps s.derateCond [.dev, .pwr, .fm]) ∧
  (∀ s : State, s.dev.derate = false → s.demandAt s.spaceSet s.sched.fMsps ≤ s.sched.pb * 1000 → s.derateCond = s) ∧
  (∀ s : State, s.dev.derate = true → 100 * s.demandAt s.spaceSet (atVolt typRows s.vtNom) ≤ 95 * (s.sched.pb * 1000) →
    (s.pwr.derateRun + 1 < 10 → (s.derateCond).dev.derate = true ∧ (s.derateCond).pwr.derateRun = s.pwr.derateRun + 1) ∧
    (10 ≤ s.pwr.derateRun + 1 → (s.derateCond).dev.derate = false ∧ s.reported s.derateCond 0x0306 0 0 none s.sched.pb)) ∧
  (∀ s : State, s.dev.derate = true → 95 * (s.sched.pb * 1000) < 100 * s.demandAt s.spaceSet (atVolt typRows s.vtNom) →
    (s.derateCond).dev.derate = true ∧ (s.derateCond).pwr.derateRun = 0))

/-- A decrease of V_T lowers the rate first; an increase raises the voltage first, and the rate follows when it has arrived, but a cap
below the rate in force is in force at once (R270, R273); a move in progress runs to its target, and the newest evaluation's
follows it (Table 9-5). -/
def Obligations.VoltageMoves : Prop :=
  (∀ (p : Pwr) (f v : Nat), p.vtTarget = none →
    (v < p.vt → (p.steer f v).cap = f ∧ (p.steer f v).vtTarget = some v ∧ (p.steer f v).vt = p.vt) ∧
    (p.vt < v → (p.steer f v).cap = (if f ≠ 0 ∧ (p.cap = 0 ∨ f < p.cap) then f else p.cap) ∧ (p.steer f v).vtTarget = some v ∧ (p.steer f v).vt = p.vt) ∧
    (v = p.vt → (p.steer f v).cap = f ∧ (p.steer f v).vtTarget = none ∧ (p.steer f v).vt = p.vt)) ∧
  (∀ (p : Pwr) (f v : Nat), p.vtTarget.isSome = true → (p.steer f v).vtTarget = p.vtTarget ∧ (p.steer f v).vt = p.vt ∧
    (p.steer f v).cap = (if f ≠ 0 ∧ (p.cap = 0 ∨ f < p.cap) then f else p.cap)) ∧
  (∀ (v : Nat) (s : State), s.pwr.vtTarget = some v →
    Runs (.vtMoveDone false) s (fun t => t.pwr.vt = v ∧ (s.pwr.vtWish = v → t.pwr.cap = s.pwr.capTarget ∧ t.pwr.vtTarget = none) ∧
      t.pwr.hub = s.pwr.hub ∧ s.keeps t [.pwr, .sched])) ∧
  (∀ (l : Nat) (s : State), s.pwr.hubTarget = some l →
    Runs (.vtMoveDone true) s (fun t => (s.pwr.hubWish.getD l = l → t.pwr.hub = l ∧ t.pwr.hubTarget = none) ∧
      (∀ m, s.pwr.hubWish = some m → l < m → t.pwr.hub = l ∧ t.pwr.hubTarget = some m) ∧
      (∀ m, s.pwr.hubWish = some m → m < l → t.pwr.hub = m ∧ t.pwr.hubTarget = some m) ∧ t.pwr.vt = s.pwr.vt ∧
      s.keeps t [.pwr, .sched])) ∧
  (∀ (p : Pwr) (l : Nat), p.hubTarget = none →
    (l < p.hub → (p.steerHub l).hub = l ∧ (p.steerHub l).hubTarget = some l) ∧
    (p.hub < l → (p.steerHub l).hub = p.hub ∧ (p.steerHub l).hubTarget = some l))

/-- Basil's evaluation publishes P_B of what the last millisecond measured, and in SAFE does nothing else (R268, Table 9-5); outside
SAFE DERATE, the hold floor and the hub level follow in this order, with the mode and a placement after them. The steps that each
tile had executed are taken into its tenant's energy, and counted anew (R247); before IDLE only the energy counters advance (R264). -/
def Obligations.BasilEvaluation : Prop :=
  (∀ (used : List Word) (lk : BitVec 16) (loads : List (BitVec 16)) (waited : Bool) (share : BitVec 10)
    (s : State), s.dev.mode.configured = true →
    let nt := sumNat (((used.take 67).drop 40).map (fun x => x.toNat))
    let m := s.measure used loads
    let u := (((m.publish nt (100 * lk.toNat)).budgetRecord).endFastCap).askTemps
    (u.sched.pb = m.budget nt (100 * lk.toNat) ∧ u.pwr.tMax = m.hottest.1 ∧ u.pwr.cap = s.pwr.cap ∧ u.pwr.vt = s.pwr.vt ∧
      u.pwr.hub = s.pwr.hub ∧ (∀ l, l < 192 → u.tile l = { s.tile l with ran := [] }) ∧
      s.keeps u [.pwr, .sched, .ana, .tiles, .chv, .freeCtr]) ∧
    (s.dev.mode = .safe → Runs (.basilEvaluate used lk loads waited share) s (fun t => t = u)) ∧
    (s.dev.mode ≠ .safe → Runs (.basilEvaluate used lk loads waited share) s (fun t =>
      t = ((((u.derateEval).floorEval).hubEval waited share.toNat).remode).place))) ∧
  (∀ (used : List Word) (lk : BitVec 16) (loads : List (BitVec 16)) (waited : Bool) (share : BitVec 10) (s : State),
      s.dev.mode = .reset ∨ s.dev.mode = .selftest ∨ s.dev.mode = .load →
    Runs (.basilEvaluate used lk loads waited share) s (fun t => t = s.countEnergy used ∧ s.keeps t [.pwr]))

/-- The input and the converters (R259 to R261): at 15.2 A the fast cap holds the rate to the floor; the limiter and a converter out of
its window take the device to SAFE with cause SUPPLY; a phase that leaves its window is shed. -/
def Obligations.SupplyFaults : Prop :=
  (∀ (iin : BitVec 16) (s : State), s.dev.mode.afterReset = true → 15200 ≤ iin.toNat → s.pwr.fastCap = false →
    Runs (.fastCap iin) s (fun t => t.pwr.fastCap = true ∧ t.sched.fMsps ≤ s.floorRate ∧ (s.pwr.small = false → t.pwr.hub ≤ 1) ∧
      t.pwr.vt = s.pwr.vt ∧ s.reported t 0x0302 0 0 none iin.toNat ∧ s.keeps t [.pwr, .sched, .fm])) ∧
  (∀ (iin : BitVec 16) (s : State), iin.toNat < 15200 → Runs (.fastCap iin) s (fun t => t = s)) ∧
  (∀ (vin : BitVec 16) (s : State), s.dev.mode.afterReset = true → s.dev.mode.maySafe = true →
    Runs (.limitTrip vin) s (fun t => t.dev.mode = .safe ∧ t.dev.cause = .supply ∧ t.pwr.limiter = true ∧ t.regs = s.regs ∧ t.ds = s.ds)) ∧
  (∀ (vin : BitVec 16) (s : State), s.dev.mode = .safe →
    Runs (.limitTrip vin) s (fun t => t.dev = s.dev ∧ t.pwr.limiter = true ∧ s.reported t 0x0303 5 0 none vin.toNat ∧
      s.keeps t [.pwr, .fm])) ∧
  (∀ (c : Fin 14) (s : State), s.dev.mode.maySafe = true →
    Runs (.converterOutOfWindow c) s (fun t => t.dev.mode = .safe ∧ t.dev.cause = .supply ∧ t.regs = s.regs ∧ t.ds = s.ds)) ∧
  (∀ (c : Fin 14) (p : Fin 7) (s : State), p.val ≤ phasesOf c → s.pwr.phaseBad.contains (8 * c.val + p.val) = false →
      s.dev.mode.afterReset = true →
    Runs (.phaseShed c p) s (fun t => t.pwr.phaseBad = (8 * c.val + p.val) :: s.pwr.phaseBad ∧
      s.reported t 0x0300 4 c none (c.val + 2 ^ 8 * p.val) ∧ s.keeps t [.pwr, .fm]))

/-- Power domains (R262, R263, R275, Table 9-4): a domain that leaves its window is off and its outcome follows; one that is idle is
switched off; one that has been asked for is on once it is in its window; tenant 0 switches the optional ones. -/
def Obligations.PowerDomains : Prop :=
  (∀ (d : Fin 66) (s : State), s.dev.mode.maySafe = true → s.dev.mode.afterReset = true → domainIsDevice d = true →
    Runs (.domainFault d) s (fun t => t.dev.mode = .safe ∧ t.dev.cause = .supply ∧ (t.domain d).good = false ∧ (t.domain d).fault = true ∧
      t.regs = s.regs ∧ t.ds = s.ds)) ∧
  (∀ (d : Fin 66) (s : State), s.dev.mode = .safe → d.val < 40 →
    Runs (.domainFault d) s (fun t => (t.domain d).good = false ∧ (t.domain d).fault = true ∧ (∀ e, e ≠ d.val → t.domain e = s.domain e) ∧
      s.reported t 0x0301 4 d none d ∧ s.keeps t [.pwr, .fm])) ∧
  (∀ (d : Fin 66) (s : State), d.val < 40 → (s.domain d).on = true → s.groupUsed d = false → s.pwr.wanted.contains d.val = false →
      s.dev.mode.configured = true → s.dev.mode ≠ .safe →
    Runs (.domainIdleOff d) s (fun t => (t.domain d).on = false ∧ (t.domain d).good = false ∧
      (∀ e, e ≠ d.val → t.domain e = s.domain e) ∧ s.keeps t [.pwr, .sched])) ∧
  (∀ (d : Fin 66) (s : State), s.groupUsed d = true → d.val < 40 → Runs (.domainIdleOff d) s (fun t => t = s)) ∧
  (∀ (d : Fin 66) (s : State), (d.val = 62 ∨ d.val = 63) → (s.domain d).on = true →
      (∀ i, i < 6 → s.bankOwner (6 * (d.val - 62) + i) = none) → s.dev.mode.configured = true → s.dev.mode ≠ .safe →
    Runs (.domainIdleOff d) s (fun t => (t.domain d).on = false ∧ (t.domain d).good = false ∧
      (∀ e, e ≠ d.val → t.domain e = s.domain e) ∧ s.keeps t [.pwr, .sched])) ∧
  (∀ (d : Fin 66) (s : State), s.dev.mode.afterReset = true → s.dev.mode ≠ .selftest → (s.domain d).good = false →
      s.pwr.wanted.contains d.val = true → s.mayPower d = true → (d.val < 57 ∨ 60 < d.val) →
    Runs (.domainPowerGood d) s (fun t => (t.domain d).on = true ∧ (t.domain d).good = true ∧ d.val ∉ t.pwr.wanted ∧
      (∀ e, e ≠ d.val → t.domain e = s.domain e) ∧ s.keeps t [.pwr])) ∧
  (∀ (d : Fin 66) (s : State), s.dev.mode.configured = true → (57 ≤ d.val ∧ d.val ≤ 60 ∨ d.val = 64) →
    Runs (.pwrDomCtlWrite d true) s (fun t => (t.domain d).on = true ∧ (t.domain d).good = (s.domain d).good ∧
      t.reg (0x10100 + 4 * d.val) = 1 ∧ s.keeps t [.pwr, .regs])) ∧
  (∀ (d : Fin 66) (s : State), s.dev.mode.configured = true → (57 ≤ d.val ∧ d.val ≤ 60 ∨ d.val = 64) → s.mayOff d = true →
    Runs (.pwrDomCtlWrite d false) s (fun t => (t.domain d).on = false ∧ (t.domain d).good = false ∧
      t.reg (0x10100 + 4 * d.val) = 0 ∧
      (d.val ≠ 64 → ∀ l, 36 * (d.val - 57) ≤ l → l < 36 * (d.val - 57) + 36 → (t.link l).st = .off) ∧
      (d.val = 64 → t.lat = s.lat) ∧ s.keeps t [.pwr, .regs, .lat])) ∧
  (∀ (d : Fin 66) (s : State), s.dev.mode.configured = true → (57 ≤ d.val ∧ d.val ≤ 60 ∨ d.val = 64) → s.mayOff d = false →
    Runs (.pwrDomCtlWrite d false) s (fun t => t = s.accState (0x10100 + 4 * d.val) ∧ s.keeps t [.fm])) ∧
  (∀ s : State, s.dev.mode.idleToDerate = true → s.pwr.small = false → s.rfld 0x10004 16 1 = 1 → s.poweredTiles s.pwr.wanted ≤ 48 →
    Runs .smallConfigEnter s (fun t => t.pwr.small = true ∧ t.pwr.hub = 0 ∧ t.pwr.vt = s.pwr.vt ∧ s.keeps t [.pwr, .sched])) ∧
  (∀ s : State, s.pwr.small = true → (s.rfld 0x10004 16 1 = 0 ∨ s.pwr.wanted.any (fun d => !s.mayPower d) = true) →
    Runs .fullConfigDone s (fun t => t.pwr.small = false ∧ t.pwr.hub = (if s.hubCapped then 1 else min 2 s.hubFits) ∧ (∀ d ∈ s.pwr.wanted, (t.domain d).on = true) ∧
      s.keeps t [.pwr, .sched]))

/-- Proving and losing sources (R451, R452, R456, R460): the sources prove, the root locks to the preferred one, a trip of the selected
source puts the root in holdover towards the next usable source or takes the device to SAFE with cause CLOCK. Switching and trimming
(R455 to R457): the root locks to its new source and the switch is recorded; it reverts to the preferred source where AUTO says so;
a trim window moves the trim by at most 4 steps, and sixteen good windows make it valid. -/
def Obligations.Clocks : Prop :=
  (
  (∀ s : State, s.dev.mode ≠ .off → s.dev.mode ≠ .keep →
    Runs .ioscProven s (fun t => t.clk.ioscProven = true ∧ t.clk.ioscTrip = false ∧ t.clk.root = s.clk.root ∧
      (s.dev.mode ≠ .reset → s.keeps t [.clk]) ∧ (s.dev.mode = .reset → s.keeps t [.clk, .pwr] ∧
        ((s.domain 65).good = false → (t.domain 65).on = true)))) ∧
  (∀ s : State, s.clk.ioscProven = true → s.rfld 0x20000 2 1 = 1 →
    Runs (.extSourceProven false 0) s (fun t => t.clk.xtalProven = true ∧ t.clk.refProven = s.clk.refProven ∧ s.keeps t [.clk])) ∧
  (∀ (f : Fin 4) (s : State), s.clk.ioscProven = true → s.rfld 0x20000 3 1 = 1 → f ≠ 0 →
    Runs (.extSourceProven true f) s (fun t => t.clk.refProven = true ∧ t.clk.refFreq = f.val ∧ t.clk.xtalProven = s.clk.xtalProven ∧
      s.keeps t [.clk])) ∧
  (∀ s : State, s.dev.mode = .reset → s.clk.root = .none → s.clk.usable s.preferred = true → s.clk.resetLow = true →
    Runs .rootLock s (fun t => t.clk.root = s.preferred ∧ t.dev.mode = .reset ∧ s.keeps t [.clk])) ∧
  (∀ s : State, s.dev.mode = .reset → Runs .ioscTrip s (fun t => t.clk.ioscProven = false ∧ t.clk.ioscTrip = true ∧ s.keeps t [.clk])) ∧
  (∀ s : State, s.dev.mode.afterReset = true → s.dev.mode.maySafe = true →
    Runs .ioscTrip s (fun t => t.dev.mode = .safe ∧ t.dev.cause = .clock ∧ t.clk.ioscProven = false ∧ t.regs = s.regs)) ∧
  (∀ s : State, s.dev.mode = .reset → s.clk.ioscTrip = true →
    Runs .ioscRetry s (fun t => t.clk.ioscRetry = satInc s.clk.ioscRetry 0xFF ∧ s.keeps t [.clk])) ∧
  (∀ s : State, s.dev.mode = .reset → s.pwr.suppliesGood = true → s.clk.xtalProven = false → s.clk.refProven = false →
    Runs .extRetry s (fun t => t.clk.extRetry = satInc s.clk.extRetry 0xFF ∧ s.keeps t [.clk])) ∧
  (∀ s : State, s.dev.mode.afterReset = true → s.clk.selected = .xtal → s.clk.refProven = true →
    Runs .clockSourceTrip s (fun t => t.clk.xtalProven = false ∧ t.clk.holdover = true ∧ t.clk.toSrc = some (.ref, true) ∧
      t.clk.root = s.clk.root ∧ s.keeps t [.clk])) ∧
  (∀ s : State, s.dev.mode.afterReset = true → s.dev.mode.maySafe = true → s.clk.selected = .xtal → s.clk.refProven = false →
      (s.clk.ioscProven && s.clk.trimValid) = false →
    Runs .clockSourceTrip s (fun t => t.clk.holdover = true ∧ t.clk.toSrc = none ∧ t.dev.mode = .safe ∧ t.dev.cause = .clock)) ∧
  (∀ (ref : Bool) (s : State), s.clk.usable (if ref then .ref else .xtal) = true → s.clk.selected ≠ (if ref then .ref else .xtal) →
    Runs (.unselectedSourceTrip ref) s (fun t => t.clk.usable (if ref then .ref else .xtal) = false ∧ t.clk.root = s.clk.root ∧
      s.reported t 0x0340 4 0 none (srcCode (if ref then .ref else .xtal)) ∧ s.keeps t [.clk, .fm]))) ∧
  (
  (∀ (y : ClkSrc) (s : State), s.clk.toSrc = some (y, true) →
    Runs .clockSwitchLock s (fun t => t.clk.root = y ∧ t.clk.toSrc = none ∧ t.clk.holdover = false ∧ t.clk.switched = true ∧
      t.fm = ((s.report 0x0340 4 0 none (srcCode s.clk.root)).report 0x0341 0 0 none (srcCode s.clk.root + 4 * srcCode y)).fm ∧
      s.keeps t [.clk, .fm])) ∧
  (∀ (y : ClkSrc) (s : State), s.clk.toSrc = some (y, false) →
    Runs .clockSwitchLock s (fun t => t.clk.root = y ∧ t.clk.toSrc = none ∧ t.clk.holdover = false ∧ t.clk.switched = s.clk.switched ∧
      s.reported t 0x0342 0 0 none (srcCode s.clk.root + 4 * srcCode y) ∧ s.keeps t [.clk, .fm])) ∧
  (∀ s : State, s.rfld 0x20000 1 1 = 1 → s.clk.toSrc = none → s.dev.mode.afterReset = true → s.clk.usable s.preferred = true →
      s.preferred ≠ s.clk.root → s.clk.root ≠ .none →
    Runs .clockRevert s (fun t => t.clk.toSrc = some (s.preferred, false) ∧ t.clk.root = s.clk.root ∧ s.keeps t [.clk])) ∧
  (∀ s : State, s.rfld 0x20000 1 1 = 0 → Runs .clockRevert s (fun t => t = s)) ∧
  (∀ (err : BitVec 16) (s : State), s.trimSource ≠ 4 → s.clk.ioscProven = true → -20 < err.toInt → err.toInt < 20 →
      s.clk.trimValid = false → 15 ≤ s.clk.good →
    Runs (.trimWindow err) s (fun t => t.clk.trimValid = true ∧ t.clk.good = 16 ∧ t.clk.savedTrim = some t.clk.trim ∧
      (t.clk.trim - s.clk.trim).natAbs ≤ 4 + (s.clk.trim.natAbs - 32767) ∧ s.reported t 0x0343 0 0 none s.trimSource ∧ s.keeps t [.clk, .fm])) ∧
  (∀ (err : BitVec 16) (s : State), s.trimSource ≠ 4 → s.clk.ioscProven = true → (err.toInt < -100 ∨ 100 < err.toInt) →
      s.clk.trimValid = true →
    Runs (.trimWindow err) s (fun t => t.clk.trimValid = false ∧ t.clk.good = 0 ∧ s.reported t 0x0344 0 0 none 0 ∧
      s.keeps t [.clk, .fm])) ∧
  (∀ s : State, s.clk.trimValid = true →
    Runs .trimWindowTimeout s (fun t => t.clk.trimValid = false ∧ t.clk.good = 0 ∧ s.reported t 0x0344 0 0 none 1 ∧ s.keeps t [.clk, .fm])) ∧
  (∀ s : State, s.dev.mode.afterReset = true → s.dev.mode.maySafe = true →
    Runs (.boundaryClockTrip false) s (fun t => t.dev.mode = .safe ∧ t.dev.cause = .clock ∧ t.regs = s.regs ∧ t.ds = s.ds) ∧
    Runs (.boundaryClockTrip true) s (fun t => t.dev.mode = .safe ∧ t.dev.cause = .clock ∧ t.edg.fclkOk = false ∧ t.regs = s.regs)))

/-- Supply and reset (R26, R27, R257, R265, R266, R458, R459): main power takes the device from OFF or KEEP to RESET, its loss to KEEP
or OFF; a reset keeps the backup domain, the flash, the fuses and what lies outside the device; RESET is left for SELFTEST once
RESET_N is high, the supplies are good and the root is locked. -/
def Obligations.SupplyAndReset : Prop :=
  (∀ (sel : BitVec 2) (s : State), s.dev.vinOk = false →
    Runs (.vinEnterRange sel) s (fun t => t.dev.mode = .reset ∧ t.dev.vinOk = true ∧ t.clk.rstCause = 1 ∧ t.cfg.cspSel = sel.toNat ∧
      t.tenants = [] ∧ t.tiles = [] ∧ t.regs = State.reset.regs ∧ t.cfg.flash = s.cfg.flash ∧ t.sage.keys = s.sage.keys ∧
      t.thy.bkpSec = s.thy.bkpSec ∧ t.host.hostMem = s.host.hostMem ∧ t.pending = s.pending)) ∧
  (∀ s : State, s.dev.vinOk = true → s.dev.vbatOk = true →
    Runs .vinLeaveRange s (fun t => t.dev.mode = .keep ∧ t.dev.vinOk = false ∧ t.thy.bkpSec = s.thy.bkpSec ∧ t.cfg.flash = s.cfg.flash ∧
      t.tenants = [] ∧ t.tiles = [] ∧ t.edg.padsPreset = false)) ∧
  (∀ s : State, s.dev.vinOk = true → s.dev.vbatOk = false →
    Runs .vinLeaveRange s (fun t => t.dev.mode = .off ∧ t.dev.vinOk = false ∧ t.thy.bkpSec = 0 ∧ t.dev.bkpLost = true ∧
      t.cfg.flash = s.cfg.flash)) ∧
  (∀ s : State, Runs .vbatRise s (fun t => t.dev.vbatOk = true ∧ (s.dev.mode = .off → t.dev.mode = .keep) ∧
    (s.dev.mode ≠ .off → t.dev.mode = s.dev.mode) ∧ s.keeps t [.dev])) ∧
  (∀ s : State, s.dev.mode = .keep → Runs .vbatFall s (fun t => t.dev.mode = .off ∧ t.dev.vbatOk = false ∧ t.thy.bkpSec = 0 ∧
    t.thy.bkpFrac = 0 ∧ t.clk.savedTrim = none ∧ t.cfg.flash = s.cfg.flash ∧ s.keeps t [.dev, .cfg, .clk, .thy])) ∧
  (∀ s : State, s.dev.mode ≠ .keep → Runs .vbatFall s (fun t => t.dev.vbatOk = false ∧ t.dev.mode = s.dev.mode ∧ s.keeps t [.dev])) ∧
  (∀ (sel : BitVec 2) (s : State), s.dev.mode.afterReset = true →
    Runs (.resetPin sel) s (fun t => t.dev.mode = .reset ∧ t.clk.rstCause = 2 ∧ t.clk.resetLow = true ∧ t.tenants = [] ∧ t.tiles = [] ∧
      t.regs = State.reset.regs ∧ t.cfg.flash = s.cfg.flash ∧ t.pending = s.pending)) ∧
  (∀ (sel : BitVec 2) (s : State), s.dev.mode.afterReset = true →
    Runs (.softReset 0xA5 sel) s (fun t => t.dev.mode = .reset ∧ t.clk.rstCause = 3 ∧ t.tenants = [] ∧ t.tiles = [] ∧
      t.regs = State.reset.regs ∧ t.cfg.flash = s.cfg.flash ∧ t.pending = s.pending)) ∧
  (∀ s : State, s.dev.mode = .reset → s.pwr.suppliesGood = false → s.clk.root = .none →
    Runs .allSuppliesGood s (fun t => t.pwr.suppliesGood = true ∧ t.dev.mode = .reset ∧
      (∀ d, 40 ≤ d → d < 66 → (t.domain d).good = true) ∧ s.keeps t [.pwr])) ∧
  (∀ (d : Fin 66) (s : State), s.dev.mode = .reset → (s.domain d).on = true →
    Runs (.domainPowerGood d) s (fun t => (t.domain d).good = true ∧ (∀ e, (s.domain e).good = true → (t.domain e).good = true) ∧
      s.keeps t [.pwr])) ∧
  (∀ s : State, s.dev.mode = .reset → s.pwr.suppliesGood = true → s.clk.root = .xtal → s.dev.bkpLost = false →
    Runs .resetNRelease s (fun t => t.dev.mode = .selftest ∧ t.clk.resetLow = false ∧ t.thy.runs = true ∧ t.cfg = s.cfg ∧ t.regs = s.regs)) ∧
  (∀ s : State, s.dev.mode ≠ .reset → Runs .resetNRelease s (fun t => t.clk.resetLow = false ∧ s.keeps t [.clk]))

/-- SAFE and HOLD (Table 1-6, R28, R29): FORCE_SAFE with its key takes the device to SAFE with cause FORCED, and without its key records
ACCESS_KEY as SOFT_RESET does; HOLD is raised and withdrawn, and with nothing to stop the mode follows at once. The self-test's end
(R462, R463): a failed unit takes the device to SAFE with cause SELFTEST; else the device loads its configuration, and the summary says
whether anything was found. -/
def Obligations.SafeHoldAndSelfTest : Prop :=
  (∀ s : State, s.dev.mode.afterReset = true → s.dev.mode.maySafe = true →
    Runs (.forceSafe 0xA5) s (fun t => t.dev.mode = .safe ∧ t.dev.cause = .forced ∧ t.trig.frozen = true ∧ t.trig.outPins = 0 ∧
      t.thy.markOut = false ∧ t.regs = s.regs ∧ t.ds = s.ds ∧ t.tenants = s.tenants)) ∧
  (∀ (key : Byte) (sel : BitVec 2) (s : State), s.dev.mode.afterReset = true → key ≠ 0xA5 →
    Runs (.forceSafe key) s (fun t => t = s.accKey 0x24 ∧ s.keeps t [.fm]) ∧
    Runs (.softReset key sel) s (fun t => t = s.accKey 0x24 ∧ s.keeps t [.fm])) ∧
  (∀ s : State, s.dev.mode = .idle → s.tenants = [] → s.edg.prQueue = [] → s.dev.refits = [] →
    Runs .devHoldRaise s (fun t => t.dev.holdBit = true ∧ t.dev.mode = .hold ∧ t.tenants = [] ∧ s.keeps t [.dev, .fm, .host, .lat])) ∧
  (∀ s : State, s.dev.mode = .hold → s.tenants = [] → s.edg.prQueue = [] → s.dev.refits = [] → s.dev.lattice = [] →
      s.dev.floor = false → s.dev.derate = false →
    Runs .devHoldWithdraw s (fun t => t.dev.holdBit = false ∧ t.dev.mode = .idle ∧ t.tenants = [] ∧ s.keeps t [.dev, .fm, .host, .lat])) ∧
  (∀ (tiles : List PTileId) (cols : List (PTileId × Lane16 × BitVec 7)) (dies : List (Fin 8)) (unit : Fin 6)
      (sigs : List (PTileId × DWord)) (s : State),
    (s.dev.mode ≠ .selftest → Runs (.postComplete tiles cols dies unit sigs) s (fun t => t = s)) ∧
    (s.dev.mode = .selftest → unit ≠ 0 →
      Runs (.postComplete tiles cols dies unit sigs) s (fun t => t.dev.mode = .safe ∧ t.dev.cause = .selftest ∧ t.sage.post = 3 ∧
        t.sage.failUnit = unit.val ∧ t.sage.tilesFailed = (s.postFailed tiles cols).length ∧ t.fm.bad = s.postFailed tiles cols)) ∧
    (s.dev.mode = .selftest → unit = 0 →
      Runs (.postComplete tiles cols dies unit sigs) s (fun t => t.dev.mode ≠ .selftest ∧ t.sage.failUnit = 0 ∧
        t.fm.bad = s.postFailed tiles cols ∧
        t.sage.post = if s.postFailed tiles cols = [] ∧ cols = [] ∧ dies = [] then 1 else 2))) ∧
  (∀ (unit : Fin 6) (s : State), s.dev.mode = .selftest → s.sage.fused = [] → unit ≠ 0 →
    Runs (.postComplete [] [] [] unit []) s (fun t => t.dev.mode = .safe ∧ t.dev.cause = .selftest ∧ t.sage.post = 3 ∧
      t.sage.failUnit = unit.val ∧ t.fm.bad = [] ∧ t.regs = s.regs)) ∧
  (∀ s : State, s.dev.mode = .selftest → s.sage.fused = [] → s.cfg.cspSel = 1 → s.pwr.bkpReset = false →
    Runs (.postComplete [] [] [] 0 []) s (fun t => t.dev.mode = .load ∧ t.sage.post = 1 ∧ t.sage.tilesFailed = 0 ∧ t.fm.bad = []))

/-! ### Lattice links -/

/-- Bring-up (R296 to R298, R306): a link goes from DETECT through TRAIN to IDENT, or back to DETECT; in IDENT the training sets of the
far end are checked and counted, and the link comes up once 8 good and 8 acknowledging sets have come in and 16 have gone out; a
spare's training sets move no link. A link in bring-up or retraining sends its own training sets, and comes up by the sixteenth that
acknowledges as well (R289, R297). Retraining, failure and sleep (R287, R303, R304): FAST_RT keeps what the link holds, FULL_RT
keeps only the TOK frames of the retry buffer and starts with all credit, a link that does not come back goes DOWN, and a
transmitter with nothing to send may sleep. -/
def Obligations.LinkStates : Prop :=
  (
  (∀ (l : LinkId) (s : State), (s.link l).phase = .detect →
    Runs (.linkDetectLock l) s (fun t => t.link l = { (s.link l).setPhase .train with noSignal := false } ∧ s.otherLinks t l ∧
      s.keeps t [.lat])) ∧
  (∀ (l : LinkId) (s : State), (s.link l).phase = .detect →
    Runs (.linkDetectTimeout l none) s (fun t => t.link l = { (s.link l).enterDetect with noPeerRec := true } ∧ s.otherLinks t l ∧
      ((s.link l).noPeerRec = false → s.reported t 0x0208 0 l none 0) ∧ ((s.link l).noPeerRec = true → t.fm = s.fm) ∧
      s.keeps t [.lat, .fm])) ∧
  (∀ (l : LinkId) (n : Fin 2) (s : State), (s.link l).phase = .detect → s.spareFree l = true →
    Runs (.linkDetectTimeout l (some n)) s (fun t => (t.link l).subst = some n.val ∧ (t.link l).phase = .detect ∧
      t.lat.spareUsed = spareKey l :: s.lat.spareUsed ∧ s.otherLinks t l ∧
      s.reported t 0x0204 4 l none (n.val + 2 * (spareKey l).2) ∧ s.keeps t [.lat, .fm])) ∧
  (∀ (l : LinkId) (n : Fin 2) (s : State), (s.link l).phase = .detect → s.spareFree l = false → (s.link l).st ≠ .down →
    Runs (.linkDetectTimeout l (some n)) s (fun t => t = s.linkDown l)) ∧
  (∀ (l : LinkId) (swap : Bool) (pol : BitVec 2) (s : State), (s.link l).phase = .train →
    Runs (.linkTrainDone l swap pol) s (fun t => t.link l = { (s.link l).setPhase .ident with laneSwap := swap, polInv := pol.toNat } ∧
      s.otherLinks t l ∧ s.keeps t [.lat])) ∧
  (∀ (l : LinkId) (s : State), (s.link l).phase = .train →
    Runs (.linkTrainTimeout l) s (fun t => t.link l = (s.link l).enterDetect ∧ s.otherLinks t l ∧ s.keeps t [.lat])) ∧
  (∀ (l : LinkId) (s : State), (s.link l).phase = .ident →
    Runs (.linkIdentRetry l) s (fun t => (t.link l).phase = .ident ∧ (t.link l).goodTs = 0 ∧ (t.link l).sentAck = 0 ∧
      s.otherLinks t l ∧ s.keeps t [.lat])) ∧
  (∀ (l : LinkId) (s : State), (s.link l).st = .down → s.mayTrain l = true →
    Runs (.linkDownRetry l) s (fun t => (t.link l).st = .down ∧ (t.link l).phase = .detect ∧ (t.link l).detour = (s.link l).detour ∧
      s.otherLinks t l ∧ s.keeps t [.lat])) ∧
  (∀ (l : LinkId) (line : LineIn) (ts : TrainSet) (rtt : BitVec 16) (s : State), (s.link l).st = .ident → ts.spare = false →
      ts.sub = false → ts.loopReq = false → ts.fast = false → s.identFault ts = none → s.bothValid ts = true →
    Runs (.tsReceive l line ts rtt) s (fun t =>
      let good := if ts.rxLocked then (s.link l).goodTs + 1 else 0
      let ackIn := if ts.ack then (s.link l).ackTs + 1 else 0
      let out := if 8 ≤ good then (s.link l).sentAck else 0
      (t.link l).peer = some ts ∧ s.otherLinks t l ∧ s.keeps t [.lat, .fm] ∧
      ((8 ≤ good ∧ 8 ≤ ackIn ∧ 16 ≤ out) → (t.link l).st = .up ∧ (t.link l).txSeq = 0 ∧ (t.link l).credXch = 4096 ∧
        s.reported t 0x0200 0 l none (ts.mod0.val + 256 * ts.link0)) ∧
      (¬ (8 ≤ good ∧ 8 ≤ ackIn ∧ 16 ≤ out) → (t.link l).st = .ident ∧ (t.link l).goodTs = good ∧ (t.link l).ackTs = ackIn ∧
        (t.link l).sentAck = out ∧ t.fm = s.fm))) ∧
  (∀ (l : LinkId) (line : LineIn) (ts : TrainSet) (rtt : BitVec 16) (c k d : Nat) (s : State), (s.link l).st = .ident → ts.spare = false →
      ts.sub = false → ts.loopReq = false → s.identFault ts = some (c, k, d) → (s.link l).peerRec = false →
    Runs (.tsReceive l line ts rtt) s (fun t => (t.link l).st = .ident ∧ (t.link l).goodTs = 0 ∧ (t.link l).peer = some ts ∧
      s.otherLinks t l ∧ s.reported t c k l none d ∧ s.keeps t [.lat, .fm])) ∧
  (∀ (l : LinkId) (line : LineIn) (ts : TrainSet) (rtt : BitVec 16) (s : State), (s.link l).st = .up → ts.spare = false → ts.sub = false →
      ts.loopReq = false → ts.fast = true →
    Runs (.tsReceive l line ts rtt) s (fun t => (t.link l).st = .fastRt ∧ (t.link l).retry = (s.link l).retry ∧
      (t.link l).fast = satInc (s.link l).fast 0xFF ∧ s.otherLinks t l ∧ s.keeps t [.lat])) ∧
  (∀ (l : LinkId) (line : LineIn) (ts : TrainSet) (rtt : BitVec 16) (s : State), ts.spare = true →
    Runs (.tsReceive l line ts rtt) s (fun t => t.lat.links = s.lat.links ∧ s.keeps t [.lat, .fm])) ∧
  (∀ (l : LinkId) (cd sd : Bool) (dl : BitVec 10) (s : State), s.sendsTs l = true → (s.link l).st ≠ .down →
    Runs (.frameTransmit l cd sd dl) s (fun t => t.lat.wire = s.lat.wire ++ [(l.val, .ts (s.ownTs l))] ∧
      ((s.link l).goodTs < 8 → t.link l = (s.link l).afterItem l (.ts (s.ownTs l))) ∧
      (8 ≤ (s.link l).goodTs → ¬ (8 ≤ (s.link l).ackTs ∧ 16 ≤ (s.link l).sentAck + 1) →
        (t.link l).st = (s.link l).st ∧ (t.link l).sentAck = (s.link l).sentAck + 1) ∧
      (8 ≤ (s.link l).goodTs → 8 ≤ (s.link l).ackTs → 16 ≤ (s.link l).sentAck + 1 → (s.link l).st = .ident →
        (t.link l).st = .up ∧ (t.link l).txSeq = 0) ∧
      ((s.link l).st = .ident → s.otherLinks t l ∧ s.keeps t [.lat, .fm])))) ∧
  (
  (∀ (l : LinkId) (line : LineIn) (c : Fin 4) (s : State), (s.link l).st = .up →
      ((s.takeLine l line).2.link l).fastCause c = true →
    Runs (.linkFastRtEnter l line c) s (fun t => (t.link l).st = .fastRt ∧ (t.link l).retry = (s.link l).retry ∧
      (t.link l).txSeq = (s.link l).txSeq ∧ (t.link l).credXch = (s.link l).credXch ∧ (t.link l).rtCause = c.val ∧
      s.otherLinks t l ∧ s.keeps t [.lat])) ∧
  (∀ (l : LinkId) (line : LineIn) (c : Fin 4) (s : State), (s.link l).st ≠ .up →
    Runs (.linkFastRtEnter l line c) s (fun t => t = (s.takeLine l line).2 ∧ s.otherLinks t l ∧ s.keeps t [.lat])) ∧
  (∀ (l : LinkId) (s : State), (s.link l).st = .fastRt →
    Runs (.linkFastRtTimeout l none) s (fun t => t.link l = (s.link l).enterFull ∧ s.otherLinks t l ∧ s.keeps t [.lat])) ∧
  (∀ (l : LinkId) (n : Fin 2) (s : State), (s.link l).st = .fastRt → s.spareFree l = true →
    Runs (.linkFastRtTimeout l (some n)) s (fun t => (t.link l).st = .fullRt ∧ (t.link l).subst = some n.val ∧
      s.reported t 0x0204 4 l none (n.val + 2 * (spareKey l).2) ∧ s.keeps t [.lat, .fm])) ∧
  (∀ (l : LinkId) (n : Fin 2) (s : State), (s.link l).st = .fastRt → s.spareFree l = false →
    Runs (.linkFastRtTimeout l (some n)) s (fun t => t = (s.setLink l (s.link l).enterFull).linkDown l)) ∧
  (∀ (l : LinkId) (s : State), (s.link l).st = .fullRt → Runs (.linkFullRtTimeout l) s (fun t => t = s.linkDown l)) ∧
  (∀ (l : LinkId) (s : State), s.tenants = [] →
    ((s.linkDown l).link l).st = .down ∧ ((s.linkDown l).link l).downs = satInc (s.link l).downs 0xFF ∧
      s.keeps (s.linkDown l) [.lat, .fm, .thy]) ∧
  (∀ (l : LinkId) (s : State), s.dev.mode.configured = true → ((s.link l).st = .up ∨ (s.link l).st = .fastRt) →
    Runs (.lnkRetrain l) s (fun t => t.link l = (s.link l).enterFull ∧ s.otherLinks t l ∧ s.keeps t [.lat])) ∧
  (∀ k : Link, k.enterFull.st = .fullRt ∧ (∀ f ∈ k.enterFull.retry, bodyIsTok f.body = true ∧ f ∈ k.retry) ∧
    (∀ f ∈ k.retry, bodyIsTok f.body = true → f ∈ k.enterFull.retry) ∧ k.enterFull.credXch = 4096 ∧ k.enterFull.credPkt = 512 ∧
    k.enterFull.credTok = 64 ∧ k.enterFull.credDtr = 256 ∧ k.enterFull.txSeq = 0 ∧ k.enterFull.rxSeq = 0) ∧
  (∀ (l : LinkId) (s : State), (s.link l).st = .up → (s.link l).retry ≠ [] →
    Runs (.retryAckTimeout l) s (fun t => t.link l = { s.link l with resendAt := some 0, ackOuts := (s.link l).ackOuts + 1 } ∧
      s.otherLinks t l ∧ s.keeps t [.lat])) ∧
  (∀ (l : LinkId) (s : State), s.maySleep l = true → (s.link l).txSleep = false →
    Runs (.linkSleepEnter l) s (fun t => (t.link l).txSleep = true ∧ t.lat.wire = s.lat.wire ++ [(l.val, .slp)] ∧ s.otherLinks t l ∧
      s.keeps t [.lat])) ∧
  (∀ (l : LinkId) (s : State), s.maySleep l = false → (s.link l).txSleep = true →
    Runs (.linkWake l) s (fun t => (t.link l).txSleep = false ∧ t.lat.wire = s.lat.wire ++ [(l.val, .wak)] ∧ s.otherLinks t l ∧
      s.keeps t [.lat])) ∧
  (∀ (l : LinkId) (line : LineIn) (s : State), s.isUp l = true →
    let u := (s.takeLine l line).2
    Runs (.slpReceive l line) s (fun t => t.link l = { u.link l with rxSleep := true } ∧ s.otherLinks t l ∧ s.keeps t [.lat]) ∧
    Runs (.wakReceive l line) s (fun t => t.link l = { u.link l with rxSleep := false } ∧ s.otherLinks t l ∧ s.keeps t [.lat])))

/-- Frames (R281 to R289, R309): a frame in sequence and undamaged is taken and nothing else is; a frame's slots and packets go on
inside the module, a CTL body acknowledges and returns credit; at a gap between frames the first due item goes out. -/
def Obligations.LinkFrames : Prop :=
  (∀ (l : LinkId) (line : LineIn) (ten : TenId) (e : BitVec 16) (dm om : ModId) (sl : List SlotEnt) (s : State), (s.link l).st = .up →
      (s.takeLine l line).1 = false → sl ≠ [] → sl.length ≤ 16 →
    Runs (.frameReceiveXch l line (s.link l).rxSeq false ten e dm om sl) s (fun t => (t.link l).rxSeq = (s.link l).rxSeq + 1 ∧
      (t.link l).rxBuf = (s.link l).rxBuf ++ s.slotsOf ten e.toNat dm sl ∧ (t.link l).arrived = (s.link l).arrived + 1 ∧
      s.otherLinks t l ∧ s.keeps t [.lat])) ∧
  (∀ (l : LinkId) (line : LineIn) (q : BitVec 12) (d : Bool) (ten : TenId) (e : BitVec 16) (dm om : ModId) (sl : List SlotEnt) (p : Pkt)
      (dst org : ModId) (m : LinkId) (iq : BitVec 12) (b : Body) (c : Ctl) (s : State), (s.link l).st = .up →
    let u := (s.takeLine l line).2
    ((d = true ∨ (s.takeLine l line).1 = true) →
      Runs (.frameReceiveXch l line q d ten e dm om sl) s (fun t => t.link l = (u.link l).discard true ∧ s.otherLinks t l ∧
        s.keeps t [.lat]) ∧
      Runs (.frameReceivePkt l line q d p) s (fun t => t.link l = (u.link l).discard true ∧ s.otherLinks t l ∧ s.keeps t [.lat]) ∧
      Runs (.frameReceiveDtr l line q d dst org m iq b) s (fun t => t.link l = (u.link l).discard true ∧ s.otherLinks t l ∧
        s.keeps t [.lat]) ∧
      Runs (.frameReceiveCtl l line d c) s (fun t => t.link l = (u.link l).discard true ∧ s.otherLinks t l ∧ s.keeps t [.lat])) ∧
    (q ≠ (s.link l).rxSeq → bodyBytes (.pkt p) ≤ 256 → (s.takeLine l line).1 = false →
      Runs (.frameReceivePkt l line q false p) s (fun t => t.link l = (u.link l).discard false ∧ s.otherLinks t l ∧ s.keeps t [.lat]))) ∧
  (∀ (l : LinkId) (line : LineIn) (p : Pkt) (s : State), (s.link l).st = .up → (s.takeLine l line).1 = false →
      bodyBytes (.pkt p) ≤ 256 →
    Runs (.frameReceivePkt l line (s.link l).rxSeq false p) s (fun t => (t.link l).rxSeq = (s.link l).rxSeq + 1 ∧
      (t.link l).retPkt = (s.link l).retPkt + bodyUnits (.pkt p) ∧ t.noc.pkts = s.noc.pkts ++ [p] ∧ s.otherLinks t l ∧
      s.keeps t [.lat, .noc])) ∧
  (∀ (l : LinkId) (line : LineIn) (c : Ctl) (s : State), (s.link l).st = .up → (s.takeLine l line).1 = false →
    Runs (.frameReceiveCtl l line false c) s (fun t => t.link l = ((s.takeLine l line).2.link l).applyCtl c ∧ s.otherLinks t l ∧
      s.keeps t [.lat])) ∧
  (∀ (k : Link) (c : Ctl), (k.applyCtl c).credXch = min 4096 (k.credXch + c.xch) ∧ (k.applyCtl c).credTok = min 64 (k.credTok + c.tok) ∧
    (k.applyCtl c).credPkt = min 512 (k.credPkt + c.pkt) ∧ (k.applyCtl c).credDtr = min 256 (k.credDtr + c.dtr) ∧
    (∀ f ∈ (k.applyCtl c).retry, f ∈ k.retry) ∧ (c.ack = none → (k.applyCtl c).retry = k.retry)) ∧
  (∀ (l m : LinkId) (line : LineIn) (q : BitVec 12) (dst org : ModId) (c : Ctl) (s : State), (s.link l).st = .up → l ≠ m →
      (s.takeLine l line).1 = false → dst.val = s.moduleId →
    Runs (.frameReceiveDtr l line (s.link l).rxSeq false dst org m q (.ctl c)) s (fun t => t.link m = (s.link m).applyCtl c ∧
      (t.link l).rxSeq = (s.link l).rxSeq + 1 ∧
      (t.link l).retDtr = (s.link l).retDtr + bodyUnits (.dtr dst org m q.toNat (.ctl c)) ∧ s.keeps t [.lat])) ∧
  (∀ (l m : LinkId) (line : LineIn) (q : BitVec 12) (dst org : ModId) (b : Body) (n : Nat) (s : State), (s.link l).st = .up →
      (s.takeLine l line).1 = false → dst.val ≠ s.moduleId → s.linkToModule dst = some n →
    Runs (.frameReceiveDtr l line (s.link l).rxSeq false dst org m q b) s (fun t =>
      t.lat.dtrOut = s.lat.dtrOut ++ [(n, .dtr dst org m q.toNat b)] ∧ (t.link l).rxSeq = (s.link l).rxSeq + 1 ∧ s.otherLinks t l ∧
      s.keeps t [.lat])) ∧
  (∀ (l : LinkId) (i : Nat) (p : Slot) (s : State), (s.link l).rxBuf[i]? = some p → s.tileOf p.ten p.dst = none →
      ((s.link l).rxBuf.take i).any (fun q => decide (q.ten = p.ten ∧ q.dst = p.dst ∧ q.word = p.word)) = false →
    Runs (.slotForward l i) s (fun t => t.link l = { s.link l with rxBuf := (s.link l).rxBuf.eraseIdx i, retXch := (s.link l).retXch + 1 } ∧
      t.noc.slots = s.noc.slots ++ [{ p with src := 0xC8 + l.val / 36 }] ∧ s.otherLinks t l ∧ s.keeps t [.lat, .noc])) ∧
  (∀ (l : LinkId) (cd sd : Bool) (dl : BitVec 10) (s : State), (s.link l).st = .up → (s.link l).txSleep = false →
      (s.link l).markDue = true →
    Runs (.frameTransmit l cd sd dl) s (fun t => t = s.sendMark l dl.toNat ∧ (t.link l).markDue = false ∧ s.otherLinks t l ∧
      s.keeps t [.lat])) ∧
  (∀ (l : LinkId) (cd : Bool) (dl : BitVec 10) (s : State), (s.link l).st = .up → (s.link l).txSleep = false →
      (s.link l).markDue = false →
    Runs (.frameTransmit l cd true dl) s (fun t => t = s.send l .skp ∧ s.otherLinks t l ∧ s.keeps t [.lat])) ∧
  (∀ (l : LinkId) (dl : BitVec 10) (s : State), (s.link l).st = .up → (s.link l).txSleep = false → (s.link l).markDue = false →
    Runs (.frameTransmit l true false dl) s (fun t =>
      let w := WireItem.frame 0 (.ctl (s.link l).ctlBody)
      t.lat.wire = s.lat.wire ++ [(l.val, w)] ∧
      t.link l = (s.link l).ctlSent.afterItem l w ∧ s.otherLinks t l ∧ s.keeps t [.lat])) ∧
  (∀ (l : LinkId) (dl : BitVec 10) (i : Nat) (f : _) (s : State), (s.link l).st = .up → (s.link l).txSleep = false →
      (s.link l).markDue = false → (s.link l).nakDue = false →
      (s.link l).arrived < 16 → (s.link l).resendAt = some i → (s.link l).retry[i]? = some f →
    Runs (.frameTransmit l false false dl) s (fun t => t.lat.wire = s.lat.wire ++ [(l.val, .frame f.seq f.body)] ∧
      (t.link l).retry.length = (s.link l).retry.length ∧ (t.link l).cntRetry = satInc (s.link l).cntRetry 0xFFFFFFFF ∧
      (t.link l).txSeq = (s.link l).txSeq ∧ s.otherLinks t l ∧ s.keeps t [.lat])) ∧
  (∀ (l : LinkId) (dl : BitVec 10) (s : State), (s.link l).st = .up → (s.link l).txSleep = false → (s.link l).markDue = false →
      (s.link l).nakDue = false → (s.link l).arrived < 16 → (s.link l).resendAt = none → s.nextBody l = none →
    Runs (.frameTransmit l false false dl) s (fun t => t = s.send l .idl ∧ s.otherLinks t l ∧ s.keeps t [.lat])) ∧
  (∀ (l : LinkId) (dl : BitVec 10) (b : Body) (s : State), (s.link l).st = .up → (s.link l).txSleep = false →
      (s.link l).markDue = false → (s.link l).nakDue = false →
      (s.link l).arrived < 16 → (s.link l).resendAt = none → s.nextBody l = some b → (s.link l).retry.length < 2048 →
      (s.link l).retryBytes + (bodyBytes b + 8) ≤ 16384 →
    Runs (.frameTransmit l false false dl) s (fun t => t.lat.wire = s.lat.wire ++ [(l.val, .frame (s.link l).txSeq b)] ∧
      (t.link l).txSeq = (s.link l).txSeq + 1 ∧
      (t.link l).retry = (s.link l).retry ++ [{ seq := (s.link l).txSeq, body := b, sent := 1 }] ∧ s.otherLinks t l ∧
      s.keeps t [.lat])) ∧
  (∀ (l : LinkId) (cd sd : Bool) (dl : BitVec 10) (s : State), (s.link l).st = .up → (s.link l).txSleep = true →
    Runs (.frameTransmit l cd sd dl) s (fun t => t = s))

/-- Lattice tokens (R66, R67, R200, R221, R225, R227, R238, R291 to R295): a damaged token is discarded; one that is taken returns one
credit and has its type's effect. -/
def Obligations.LatticeTokens : Prop :=
  (∀ (l : LinkId) (line : LineIn) (q : BitVec 12) (k : Token) (c : Instr) (s : State), (s.link l).st = .up →
      c ∈ [Instr.tokenBnd l line q true k, .tokenReplay l line q true k, .tokenPace l line q true k, .tokenDrain l line q true k,
        .tokenPartx l line q true k, .tokenLhold l line q true k, .tokenNbr l line q true k] →
    Runs c s (fun t => t.link l = ((s.takeLine l line).2.link l).discard true ∧ s.otherLinks t l ∧ s.keeps t [.lat])) ∧
  (∀ (l : LinkId) (line : LineIn) (k : Token) (s : State), (s.link l).st = .up → (s.takeLine l line).1 = false →
    Runs (.tokenPace l line (s.link l).rxSeq false k) s (fun t => (t.ten k.ten).partWait = some s.thy.total ∧
      (t.link l).rxSeq = (s.link l).rxSeq + 1 ∧ (t.link l).retTok = (s.link l).retTok + 1 ∧ s.otherLinks t l ∧
      s.otherTenants t k.ten ∧ s.keeps t [.lat, .tenants])) ∧
  (∀ (l : LinkId) (line : LineIn) (k : Token) (s : State), (s.link l).st = .up → (s.takeLine l line).1 = false →
    Runs (.tokenNbr l line (s.link l).rxSeq false k) s (fun t => Map.get t.lat.nbrOf 0 k.origin = k.nbr ∧
      (∀ m, m ≠ k.origin → Map.get t.lat.nbrOf 0 m = Map.get s.lat.nbrOf 0 m) ∧ (t.link l).rxSeq = (s.link l).rxSeq + 1 ∧
      (t.link l).retTok = (s.link l).retTok + 1 ∧ s.otherLinks t l ∧ s.keeps t [.lat])) ∧
  (∀ (l : LinkId) (line : LineIn) (k : Token) (m : Nat) (s : State), (s.link l).st = .up → (s.takeLine l line).1 = false → k.reqs = [] → k.more = false → (s.ten k.ten).eff ≠ .held →
      s.modIndex k.ten k.origin = some m →
    Runs (.tokenBnd l line (s.link l).rxSeq false k) s (fun t =>
      Map.get (t.ten k.ten).bnd 0 m = max (Map.get (s.ten k.ten).bnd 0 m) ((k.a + 1) % 2 ^ 64) ∧
      (t.link l).retTok = (s.link l).retTok + 1 ∧ s.otherLinks t l ∧ s.otherTenants t k.ten ∧ s.keeps t [.lat, .tenants])) ∧
  (∀ (l : LinkId) (line : LineIn) (k : Token) (s : State), (s.link l).st = .up → (s.takeLine l line).1 = false → (s.ten k.ten).img = none →
    Runs (.tokenReplay l line (s.link l).rxSeq false k) s (fun t => (t.link l).retTok = (s.link l).retTok + 1 ∧ s.otherLinks t l ∧
      s.keeps t [.lat])) ∧
  (∀ (l : LinkId) (line : LineIn) (k : Token) (s : State), (s.link l).st = .up → (s.takeLine l line).1 = false →
      (s.ten k.ten).img.isSome = true → (s.ten k.ten).recov = none → (s.ten k.ten).holds = [] → s.dev.refits = [] →
      genNewer (k.word % 2 ^ 16) (s.ten k.ten).gen = true →
    Runs (.tokenReplay l line (s.link l).rxSeq false k) s (fun t =>
      (∃ r, (t.ten k.ten).recov = some r ∧ r.phase = .stopped ∧ r.k = k.a ∧ r.upTo = (s.ten k.ten).done ∧ r.gen = k.word % 2 ^ 16) ∧
      (t.ten k.ten).affected = true ∧ (t.ten k.ten).done = (s.ten k.ten).done ∧ (t.link l).retTok = (s.link l).retTok + 1 ∧
      t.ds = s.ds ∧ t.regs = s.regs)) ∧
  (∀ (l : LinkId) (line : LineIn) (k : Token) (s : State), (s.link l).st = .up → (s.takeLine l line).1 = false → k.fwd = false →
    Runs (.tokenDrain l line (s.link l).rxSeq false k) s (fun t => t.lat.tokOut = s.lat.tokOut ++ [(l.val, { k with fwd := true })] ∧
      (t.link l).retTok = (s.link l).retTok + 1 ∧ s.otherLinks t l ∧ s.keeps t [.lat])) ∧
  (∀ (l : LinkId) (line : LineIn) (k : Token) (s : State), (s.link l).st = .up → (s.takeLine l line).1 = false → k.origin = s.moduleId →
    Runs (.tokenPartx l line (s.link l).rxSeq false k) s (fun t => (t.link l).retTok = (s.link l).retTok + 1 ∧ s.otherLinks t l ∧
      s.keeps t [.lat])) ∧
  (∀ (l : LinkId) (line : LineIn) (k : Token) (s : State), (s.link l).st = .up → (s.takeLine l line).1 = false → k.origin ≠ s.moduleId →
      (s.ten k.ten).partC.any (fun e => decide (e = (k.origin, k.a))) = false → 2 ∉ (s.ten k.ten).holds →
    Runs (.tokenPartx l line (s.link l).rxSeq false k) s (fun t => Map.get (t.ten k.ten).partC 0 k.origin = k.a ∧
      Map.get (t.ten k.ten).partK (0, 0) k.origin = (k.b, k.c) ∧ s.otherTenants t k.ten ∧ s.otherLinks t l ∧
      s.keeps t [.lat, .tenants])) ∧
  (∀ (l : LinkId) (line : LineIn) (k : Token) (s : State), (s.link l).st = .up → (s.takeLine l line).1 = false → k.origin ≠ s.moduleId → s.lat.lholdSeen = [] → s.tenants = [] →
      s.dev.refits = [] →
    Runs (.tokenLhold l line (s.link l).rxSeq false k) s (fun t =>
      ((k.word / 2 ^ 16) % 2 = 1 → k.origin ∈ t.dev.lattice) ∧ ((k.word / 2 ^ 16) % 2 = 0 → k.origin ∉ t.dev.lattice) ∧
      (∀ m, m ≠ k.origin → (m ∈ t.dev.lattice ↔ m ∈ s.dev.lattice)) ∧ Map.get t.lat.lholdSeen 0 k.origin = k.word % 2 ^ 16 ∧
      s.otherLinks t l ∧ s.keeps t [.lat, .dev, .fm, .host])) ∧
  (∀ (ten : TenId) (s : State), (s.ten ten).spans = true → s.pacing ten = true →
    Runs (.paceNoticeSend ten) s (fun t => t = s.tokSpan ten { typ := 3, ten := ten, origin := s.moduleId, word := 0 } ∧
      s.keeps t [.lat])) ∧
  (∀ s : State, Runs .nbrSend s (fun t => t.lat.tokOut = s.lat.tokOut ++ s.upLinks.map (fun l =>
    (l, { typ := 7, ten := 0, origin := s.moduleId, word := 0, nbr := s.nbrSet })) ∧ t.lat.links = s.lat.links ∧ s.keeps t [.lat])) ∧
  (∀ (m : BitVec 16) (x : Nat × Nat × Option Nat) (s : State), s.lat.markers = [x] → x.1 = m.toNat → s.dev.refits = [] →
    Runs (.drainMarker m) s (fun t => t.lat.markers = [] ∧ (t.ten x.2.1).drained = true ∧ s.otherTenants t x.2.1 ∧
      s.keeps t [.lat, .tenants, .dev, .fm, .host])) ∧
  (∀ (m : BitVec 16) (s : State), s.lat.markers.find? (fun e => decide (e.1 = m.toNat)) = none →
    Runs (.drainMarker m) s (fun t => t = s) ∧ Runs (.drainMarkerTimeout m) s (fun t => t = s)) ∧
  (∀ (m : BitVec 16) (n x l : Nat) (s : State), s.lat.markers.find? (fun e => decide (e.1 = m.toNat)) = some (n, x, some l) →
    Runs (.drainMarkerTimeout m) s (fun t => (∃ k : Token, t.lat.tokOut = s.lat.tokOut ++ [(l, k)] ∧ k.typ = 4 ∧ k.ten = x ∧
      k.origin = s.moduleId ∧ k.fwd = false) ∧ t.lat.markers = s.lat.markers ∧ t.lat.links = s.lat.links ∧ s.keeps t [.lat]))

/-- The LNK registers (R296, R298, R300, R302, R304, Tables 10-14, 10-16 and 10-17). -/
def Obligations.LinkRegisters : Prop :=
  (∀ (l : LinkId) (s : State), s.dev.mode.configured = true →
    Runs (.lnkEnable l) s (fun t => t.rfld (lnkCtl l) 0 1 = 1 ∧ (∀ r, r ≠ lnkCtl l → t.reg r = s.reg r) ∧ s.otherLinks t l ∧
      ((s.link l).st ≠ .off → t.link l = s.link l) ∧
      ((s.link l).st = .off → s.lnkMode l = 0 → s.domainGood (sideDomain l) = true → (t.link l).st = .detect) ∧
      s.keeps t [.regs, .lat])) ∧
  (∀ (l : LinkId) (s : State), s.dev.mode.configured = true → s.testBarred l = true →
    Runs (.lnkDisable l) s (fun t => t = s.accState (lnkCtl l) ∧ s.keeps t [.fm])) ∧
  (∀ (l : LinkId) (s : State), s.dev.mode.configured = true → s.testBarred l = false →
    Runs (.lnkDisable l) s (fun t => t.rfld (lnkCtl l) 0 1 = 0 ∧ (∀ r, r ≠ lnkCtl l → t.reg r = s.reg r) ∧
      t.link l = (s.link l).toOff ∧ (t.link l).st = .off ∧ s.otherLinks t l ∧ s.keeps t [.regs, .lat])) ∧
  (∀ (l : LinkId) (m : BitVec 3) (p : BitVec 2) (s : State), s.dev.mode.configured = true →
      ((s.link l).st = .fastRt ∨ (s.link l).st = .fullRt ∨ 1 ≤ m.toNat ∧ m.toNat ≤ 4 ∧ s.testBarred l = true) →
    Runs (.lnkModeWrite l m p) s (fun t => t = s.accState (lnkCtl l) ∧ s.keeps t [.fm])) ∧
  (∀ (l : LinkId) (m : BitVec 3) (p : BitVec 2) (s : State), s.dev.mode.configured = true → 1 ≤ m.toNat → m.toNat ≤ 4 →
      (s.link l).st ≠ .fastRt → (s.link l).st ≠ .fullRt → s.testBarred l = false →
    Runs (.lnkModeWrite l m p) s (fun t => (t.link l).st = .test ∧ t.lnkMode l = m.toNat ∧ t.rfld (lnkCtl l) 4 2 = p.toNat ∧
      s.otherLinks t l ∧ s.keeps t [.regs, .lat, .freeCtr])) ∧
  (∀ (l : LinkId) (m : BitVec 3) (p : BitVec 2) (s : State), s.dev.mode.configured = true → (m.toNat = 0 ∨ 5 ≤ m.toNat) →
      (s.link l).st ≠ .fastRt → (s.link l).st ≠ .fullRt → s.lnkMode l = 0 →
    Runs (.lnkModeWrite l m p) s (fun t => t.lnkMode l = 0 ∧ t.rfld (lnkCtl l) 4 2 = p.toNat ∧ s.keeps t [.regs])) ∧
  (∀ (l : LinkId) (m : BitVec 3) (p : BitVec 2) (s : State), s.dev.mode.configured = true → (m.toNat = 0 ∨ 5 ≤ m.toNat) →
      (s.link l).st ≠ .fastRt → (s.link l).st ≠ .fullRt → s.lnkMode l ≠ 0 → s.lnkEnabled l = true → s.domainGood (sideDomain l) = true →
    Runs (.lnkModeWrite l m p) s (fun t => (t.link l).st = .detect ∧ t.lnkMode l = 0 ∧ t.rfld (lnkCtl l) 4 2 = p.toNat ∧
      s.otherLinks t l ∧ s.keeps t [.regs, .lat])) ∧
  (∀ (l : LinkId) (s : State), s.dev.mode.configured = true → (s.link l).st ≠ .test →
    Runs (.lnkClrCnt l) s (fun t => t.link l = { s.link l with
        cntCrc := 0, code0 := 0, code1 := 0, cntRetry := 0, fast := 0, full := 0, downs := 0, losses := 0
        prbsErr0 := 0, prbsErr1 := 0, prbsBits := 0 } ∧
      s.otherLinks t l ∧ s.keeps t [.lat])) ∧
  (∀ (l : LinkId) (s : State), s.dev.mode.configured = true → (s.link l).st = .test →
    Runs (.lnkClrCnt l) s (fun t => (∃ a b n, t.link l = { s.link l with
        cntCrc := 0, code0 := 0, code1 := 0, cntRetry := 0, fast := 0, full := 0, downs := 0, losses := 0
        prbsErr0 := a, prbsErr1 := b, prbsBits := n }) ∧
      s.otherLinks t l ∧ s.keeps t [.lat, .freeCtr])) ∧
  (∀ (id : ModId) (v : Bool) (tag : BitVec 16) (s : State), s.dev.mode.configured = true →
      (List.range 144).any (fun l => s.linkNamed l (fun _ => true)) = true →
    Runs (.lnkIdWrite id v tag) s (fun t => t = s.accState 0x100000 ∧ s.keeps t [.fm])) ∧
  (∀ (id : ModId) (v : Bool) (tag : BitVec 16) (s : State), s.dev.mode.configured = true →
      (List.range 144).any (fun l => s.linkNamed l (fun _ => true)) = false →
    Runs (.lnkIdWrite id v tag) s (fun t => t.reg 0x100000 = id.val + 256 * b2n v + 2 ^ 16 * tag.toNat ∧
      (∀ r, r ≠ 0x100000 → t.reg r = s.reg r) ∧
      (∀ l, l < 144 → t.link l = if (s.link l).st = .ident ∨ (s.link l).st = .up ∨ (s.link l).st = .fastRt ∨ (s.link l).st = .fullRt
        then (s.link l).enterFull else s.link l) ∧ s.keeps t [.regs, .lat])) ∧
  (∀ (l : LinkId) (id : ModId) (v : Bool) (tag : BitVec 16) (m : BitVec 3) (p : BitVec 2) (c : Instr) (s : State),
      s.dev.mode.configured = false →
      c ∈ [Instr.lnkEnable l, .lnkDisable l, .lnkModeWrite l m p, .lnkRetrain l, .lnkClrCnt l, .lnkIdWrite id v tag] →
    Runs c s (fun t => t = s))

/-! ### The packet network and the host interface -/

/-- Every packet command (R314, R324): a packet of another virtual channel or operation is not the command's, and nothing happens; one
behind another of its way waits (R315), one with a reserved operation is discarded and counted as damaged (R317), one
that arrives damaged is counted and its fault handled; at a tile's node a packet is taken, forwarded to where the tile now is, or
dropped by its epoch (R221). -/
def Obligations.PacketPassage : Prop :=
  (∀ (p : Pkt) (ce : Option (BitVec 12)) (err : ErrFound) (x : Instr × Nat × Nat) (s : State),
      x ∈ [(Instr.pktReqWrite p ce, 0, 1), (.pktReqRead p ce err, 0, 2), (.pktReqRegRd p ce, 0, 4), (.pktReqRegWr p ce, 0, 5),
        (.pktRspData p ce, 1, 1), (.pktRspRegData p ce, 1, 3), (.pktRspError p ce, 1, 0xF), (.pktMgtStop p ce, 3, 5),
        (.pktMgtFault p ce, 3, 6)] →
    (pktIs p x.2.1 x.2.2 = false → opReserved p = false → Runs x.1 s (fun t => t = s)) ∧
    (comesFirst pktWay p s.noc.pkts = false → Runs x.1 s (fun t => t = s)) ∧
    (opReserved p = true → p.dest < 0xD3 → s.dev.mode ∉ [Mode.off, .keep, .reset] → comesFirst pktWay p s.noc.pkts = true →
        s.hubMayTouch p true = true → s.hubMayTouch p false = true →
      Runs x.1 s (fun t => t.noc.pkts = (s.passed p ce).noc.pkts ∧ t.noc.damaged = satInc s.noc.damaged 0xFFFF ∧
        s.keeps t [.noc, .fm])) ∧
    (pktIs p x.2.1 x.2.2 = true → p.dest < 0xD3 → s.dev.mode ∉ [Mode.off, .keep, .reset] → p.damaged = true → opReserved p = false →
        comesFirst pktWay p s.noc.pkts = true → (pktIs p 0 1 = true → s.hubMayTouch p true = true) →
        (pktIs p 0 2 = true → s.hubMayTouch p false = true) →
      Runs x.1 s (fun t => t = (s.passed p ce).damagedPkt p)) ∧
    (pktIs p x.2.1 x.2.2 = true → s.dev.mode ∉ [Mode.off, .keep, .reset] → p.damaged = false →
        comesFirst pktWay p s.noc.pkts = true → (pktIs p 0 1 = true → s.hubMayTouch p true = true) →
        (pktIs p 0 2 = true → s.hubMayTouch p false = true) →
      (∀ n, p.dest < 200 → s.tileFate p = .forward n →
        Runs x.1 s (fun t => t.noc.pkts = (s.passed p ce).noc.pkts ++ [{ p with dest := n }] ∧ s.keeps t [.noc, .fm])) ∧
      (p.dest < 200 → s.tileFate p = .drop →
        Runs x.1 s (fun t => t.fm.dropped = satInc s.fm.dropped 0xFFFFFFFF ∧ s.keeps t [.noc, .fm])) ∧
      (200 ≤ p.dest → p.dest < 0xCC → Runs x.1 s (fun t => t = (s.passed p ce).leaveBySide p ∧ s.keeps t [.noc, .fm, .lat])))) ∧
  (∀ (p : Pkt) (ce : Option (BitVec 12)) (s : State), (s.passed p ce).noc.pkts = removeFirst (fun q => q = p) s.noc.pkts ∧
    (s.passed p ce).noc.maxClass = max s.noc.maxClass (min p.age 15) ∧ (ce = none → s.keeps (s.passed p ce) [.noc]) ∧
    s.keeps (s.passed p ce) [.noc, .fm]) ∧
  (∀ (p : Pkt) (s : State), p.ten = 0 → ((s.damagedPkt p).noc.damaged = satInc s.noc.damaged 0xFFFF ∧
    (s.damagedPkt p).noc.got = s.noc.got ++ [{ node := if p.vc = 1 then p.dest else p.src, tag := p.tag, status := stPathDown, bytes := [] }] ∧
    s.reported (s.damagedPkt p) 0x0601 2 p.src none (p.vc + 2 ^ 8 * p.dest + 2 ^ 16 * p.src) ∧ s.keeps (s.damagedPkt p) [.noc, .fm]))

/-- Requests (R317, R318, R330): lines are written to a tile's store or to the hub store, where a poisoned one keeps its mark; a read is
answered with the lines; a request that names nothing is answered ERROR; a register of a tile is read and written. Answers and
management reports (R317, R218): the requester has the lines, the register's value or the status; the management controller learns
that a tile has stopped, and the fault manager acts on a tile's detection. -/
def Obligations.Packets : Prop :=
  (
  (∀ (p : Pkt) (ce : Option (BitVec 12)) (s : State), pktIs p 0 1 = true → 0xCC ≤ p.dest → p.dest < 0xD0 →
      s.dev.mode ∉ [Mode.off, .keep, .reset] → p.damaged = false → comesFirst pktWay p s.noc.pkts = true →
      s.hubMayTouch p true = true → pktHubOk p = true →
    Runs (.pktReqWrite p ce) s (fun t => t.noc.hub = s.noc.hub.writeBytes (pktAddr p) (pktLines p) ∧
      (p.poison = true → ∀ x ∈ pktHubLines p, x ∈ t.noc.hubPoison) ∧ (p.poison = false → ∀ x ∈ pktHubLines p, x ∉ t.noc.hubPoison) ∧
      (∀ x, x ∉ pktHubLines p → (x ∈ t.noc.hubPoison ↔ x ∈ s.noc.hubPoison)) ∧ s.keeps t [.noc, .fm])) ∧
  (∀ (p : Pkt) (ce : Option (BitVec 12)) (l : Nat) (z : Nat × Nat × Nat) (s : State), pktIs p 0 1 = true → p.dest < 200 →
      s.dev.mode ∉ [Mode.off, .keep, .reset] → p.damaged = false → comesFirst pktWay p s.noc.pkts = true → s.tileFate p = .here (some l) →
      s.hubMayTouch p true = true → pktStore p = some z → p.poison = false →
    Runs (.pktReqWrite p ce) s (fun t => t.tile l = (s.tile l).setStoreBytes z.1 z.2.2 z.2.1 (pktLines p) ∧ s.otherTiles t l ∧
      s.keeps t [.noc, .fm, .tiles])) ∧
  (∀ (p : Pkt) (ce : Option (BitVec 12)) (s : State), pktIs p 0 2 = true → 0xCC ≤ p.dest → p.dest < 0xD0 →
      s.dev.mode ∉ [Mode.off, .keep, .reset] → p.damaged = false → comesFirst pktWay p s.noc.pkts = true →
      s.hubMayTouch p false = true → pktHubOk p = true →
    Runs (.pktReqRead p ce .clean) s (fun t => t = (s.passed p ce).answerData p
        ((pktHubLines p).any (fun x => s.noc.hubPoison.contains x)) (s.noc.hub.readBytes (pktAddr p) (64 * pktCount p)) ∧
      t.noc.hub = s.noc.hub ∧ s.keeps t [.noc, .fm])) ∧
  (∀ (p : Pkt) (ce : Option (BitVec 12)) (err : ErrFound) (l : Nat) (z : Nat × Nat × Nat) (s : State), pktIs p 0 2 = true → p.dest < 200 →
      s.dev.mode ∉ [Mode.off, .keep, .reset] → p.damaged = false → comesFirst pktWay p s.noc.pkts = true → s.tileFate p = .here (some l) →
      s.hubMayTouch p false = true → pktStore p = some z → (z.1 ≠ 8 ∨ err = .clean) →
    Runs (.pktReqRead p ce err) s (fun t => t = (s.passed p ce).answerData p false
        ((List.range (64 * pktCount p)).map (fun i => (s.tile l).storeByte z.1 z.2.2 (z.2.1 + i))) ∧ s.keeps t [.noc, .fm])) ∧
  (∀ (p : Pkt) (ce : Option (BitVec 12)) (l : Nat) (z : Nat × Nat × Nat) (s : State), pktIs p 0 2 = true → p.dest < 200 →
      s.dev.mode ∉ [Mode.off, .keep, .reset] → p.damaged = false → comesFirst pktWay p s.noc.pkts = true →
      s.tileFate p = .here (some l) → s.hubMayTouch p false = true → pktStore p = some z → z.1 = 8 →
    Runs (.pktReqRead p ce .single) s (fun t => t.tile l = (s.tile l).countCe (z.2.1 / 8 / 8192) ∧
      (∃ q ∈ t.noc.pkts, q.vc = 1 ∧ q.op = 1 ∧ q.dest = p.src ∧ q.tag = p.tag ∧ q.poison = false) ∧ s.otherTiles t l ∧
      s.keeps t [.noc, .fm, .tiles])) ∧
  (∀ (p : Pkt) (ce : Option (BitVec 12)) (err : ErrFound) (l : Option Nat) (s : State), p.dest < 200 →
      s.dev.mode ∉ [Mode.off, .keep, .reset] → p.damaged = false → comesFirst pktWay p s.noc.pkts = true → s.tileFate p = .here l → pktStore p = none →
    (pktIs p 0 1 = true → Runs (.pktReqWrite p ce) s (fun t => t = (s.passed p ce).answerError p)) ∧
    (pktIs p 0 2 = true → Runs (.pktReqRead p ce err) s (fun t => t = (s.passed p ce).answerError p))) ∧
  (∀ (p : Pkt) (ce : Option (BitVec 12)) (l : Option Nat) (s : State), p.dest < 200 → s.dev.mode ∉ [Mode.off, .keep, .reset] →
      p.damaged = false → comesFirst pktWay p s.noc.pkts = true → s.tileFate p = .here l →
    (pktIs p 0 4 = true → Runs (.pktReqRegRd p ce) s (fun t => ∃ u, u = s.passed p ce ∧
      t = (u.answer p 3 false (zeros 7 ++ leBytes (u.readReg (pktTil p)) 4)).readEffect (pktTil p))) ∧
    (pktIs p 0 5 = true → Runs (.pktReqRegWr p ce) s (fun t =>
      t = (s.passed p ce).writeReg 0 (pktTil p) (pktField p 0x14 4) (pktField p 0x18 1 % 16) .ok))) ∧
  (∀ (p : Pkt) (s : State) (op : Nat) (poison : Bool) (body : List Byte),
    (s.answer p op poison body).noc.pkts.length = s.noc.pkts.length + 1 ∧ s.keeps (s.answer p op poison body) [.noc] ∧
    (∃ q ∈ (s.answer p op poison body).noc.pkts, q.vc = 1 ∧ q.op = op ∧ q.dest = p.src ∧ q.src = p.dest ∧ q.tag = p.tag ∧ q.ten = p.ten ∧
      q.poison = poison ∧ q.body = body))) ∧
  (
  (∀ (p : Pkt) (ce : Option (BitVec 12)) (s : State), 0xCC ≤ p.dest → p.dest < 0xD3 → s.dev.mode ∉ [Mode.off, .keep, .reset] →
      p.damaged = false → comesFirst pktWay p s.noc.pkts = true →
    (pktIs p 1 1 = true → Runs (.pktRspData p ce) s (fun t => t.noc.got = s.noc.got ++
      [{ node := p.dest, tag := p.tag, status := if p.poison then stDataUe else stOk, bytes := pktLines p }] ∧ s.keeps t [.noc, .fm])) ∧
    (pktIs p 1 3 = true → Runs (.pktRspRegData p ce) s (fun t => t.noc.got = s.noc.got ++
      [{ node := p.dest, tag := p.tag, status := stOk, bytes := leBytes (pktField p 0x10 4) 4 }] ∧ s.keeps t [.noc, .fm])) ∧
    (pktIs p 1 0xF = true → Runs (.pktRspError p ce) s (fun t => (∃ x, t.noc.got = s.noc.got ++
      [{ node := p.dest, tag := p.tag, status := x, bytes := [] }] ∧ (pktField p 9 1 = 2 → x = stRegion) ∧
      (pktField p 9 1 = 1 → x = stDataUe)) ∧ s.keeps t [.noc, .fm]))) ∧
  (∀ (p : Pkt) (ce : Option (BitVec 12)) (s : State), p.dest = 0xD0 → s.dev.mode ∉ [Mode.off, .keep, .reset] → p.damaged = false → comesFirst pktWay p s.noc.pkts = true →
      pktIs p 3 5 = true →
    Runs (.pktMgtStop p ce) s (fun t => Map.get t.noc.stops 0 p.src = pktField p 9 1 ∧
      (∀ m, m ≠ p.src → Map.get t.noc.stops 0 m = Map.get s.noc.stops 0 m) ∧ s.keeps t [.noc, .fm])) ∧
  (∀ (p : Pkt) (ce : Option (BitVec 12)) (l : Nat) (s : State), p.dest = 0xD0 → s.dev.mode ∉ [Mode.off, .keep, .reset] →
      p.damaged = false → comesFirst pktWay p s.noc.pkts = true → pktIs p 3 6 = true → s.nodeTile p.src = some l → (s.ltile l).bound = true → (s.ltile l).ten = p.ten →
    Runs (.pktMgtFault p ce) s (fun t => t = (s.passed p ce).detection (pktField p 9 1) p.ten l)) ∧
  (∀ (p : Pkt) (ce : Option (BitVec 12)) (s : State), p.dest = 0xD0 → s.dev.mode ∉ [Mode.off, .keep, .reset] →
      p.damaged = false → comesFirst pktWay p s.noc.pkts = true → pktIs p 3 6 = true → s.nodeTile p.src = none →
    Runs (.pktMgtFault p ce) s (fun t => t = s.passed p ce ∧ s.keeps t [.noc, .fm])) ∧
  (∀ (s : State) (t l : Nat), s.detection 5 t l = s.slotLost t ∧ s.detection 9 t l = s.doubleFault t l ∧
    s.detection 8 t l = s.dataLoss t (s.tile l).ecyc s.lastSeq ∧ s.detection 2 t l = s.pathFault t l (s.tile l).ecyc))

/-- Deep memories (R149, R150, R328, R329): a command enters its memory's queue; the hub performs the oldest one: DREAD answers the
lane, DWRITE replaces it, DSET sets its bits and DCLEAR clears them, and a command outside the tenant's region fails; the answer is
delivered to its tile. The deep store (R334 to R336): the patrol reads the lines of a stack in turn and leaves a clean one; a
repaired row counts and its accesses go on; a stack's temperature sets its refresh and, with the hub level, the token rate. -/
def Obligations.DeepStore : Prop :=
  (
  (∀ (ten : TenId) (m : Fin 64) (c : DeepCmd) (s : State),
      s.noc.deepReq.find? (fun c => decide (c.ten = ten.val ∧ c.memid = m.val)) = some c → s.tileOf ten c.itile = none →
    Runs (.pktReqDeep ten m false) s (fun t => t.noc.deepReq = removeFirst (fun x => x = c) s.noc.deepReq ∧
      t.noc.deepQ = s.noc.deepQ ++ [c] ∧ s.keeps t [.noc])) ∧
  (∀ (ten : TenId) (m : Fin 64) (c : DeepCmd) (l : Nat) (s : State),
      s.noc.deepReq.find? (fun c => decide (c.ten = ten.val ∧ c.memid = m.val)) = some c → s.tileOf ten c.itile = some l →
    Runs (.pktReqDeep ten m false) s (fun t => t.noc.deepQ = s.noc.deepQ ++ [c] ∧
      (t.tile l).deepOut = (s.tile l).deepOut - (if c.rdv then 0 else 1) ∧ s.otherTiles t l ∧ s.keeps t [.noc, .tiles])) ∧
  (∀ (ten : TenId) (m : Fin 64) (c : DeepCmd) (l : Nat) (s : State),
      s.noc.deepReq.find? (fun c => decide (c.ten = ten.val ∧ c.memid = m.val)) = some c → s.tileOf ten c.itile = some l →
    Runs (.pktReqDeep ten m true) s (fun t => ∃ u, t = u.pathFault ten l c.ecyc ∧ u.noc.deepQ = s.noc.deepQ ∧
      u.noc.damaged = satInc s.noc.damaged 0xFFFF ∧ s.keeps u [.noc, .fm])) ∧
  (∀ (ten : TenId) (m : Fin 64) (c : DeepCmd) (e : DeepEnt) (i : Image) (s : State),
      s.noc.deepQ.find? (fun c => decide (c.ten = ten.val ∧ c.memid = m.val)) = some c → c.op = 0 → (s.ten ten).img = some i →
      i.mem m = some e → e.base + 8 * c.addr < s.rsize ten →
      (s.stack (dsStack (s.rbase ten + (e.base + 8 * c.addr)))).inRepair.contains (rowKey (s.rbase ten + (e.base + 8 * c.addr))) = false →
      s.faultWaits ten = false → 1 ≤ Map.get s.noc.deepPaid 0 ten → s.poisoned ((s.rbase ten + (e.base + 8 * c.addr)) / 64 * 64) = false → c.rdv = true →
    Runs (.deepDread ten m .clean) s (fun t =>
      t.noc.answers = s.noc.answers ++ [
        { ten := c.ten, itile := c.itile, rd := c.rd, ident := c.ident
          val := BitVec.ofNat 32 (s.ds.le (s.rbase ten + (e.base + 8 * c.addr) + 4 * c.lane) 4), status := 0, ecyc := c.ecyc
          step := c.step, seq := 0, memid := c.memid }] ∧
      t.noc.deepQ = removeFirst (fun x => x = c) s.noc.deepQ ∧ t.ds = s.ds ∧ t.tiles = s.tiles ∧ t.regs = s.regs)) ∧
  (∀ (ten : TenId) (m : Fin 64) (c : DeepCmd) (e : DeepEnt) (i : Image) (s : State),
      s.noc.deepQ.find? (fun c => decide (c.ten = ten.val ∧ c.memid = m.val)) = some c → c.en = true → c.addr ≠ 0 →
      (s.ten ten).img = some i → i.mem m = some e → e.base + 8 * c.addr < s.rsize ten →
      (s.stack (dsStack (s.rbase ten + (e.base + 8 * c.addr)))).inRepair.contains (rowKey (s.rbase ten + (e.base + 8 * c.addr))) = false →
      s.faultWaits ten = false → (s.needsJournal ten m (c.addr / 8) c.ecyc = false ∨ 128 ≤ (s.faultAcct ten).1) →
      2 ≤ Map.get s.noc.deepPaid 0 ten → s.poisoned ((s.rbase ten + (e.base + 8 * c.addr)) / 64 * 64) = false →
    let old := BitVec.ofNat 32 (s.ds.le (s.rbase ten + (e.base + 8 * c.addr) + 4 * c.lane) 4)
    let after := fun (t : State) (new : Word) =>
      t.ds = (s.journalLine ten m (c.addr / 8) c.ecyc).ds.putLE (s.rbase ten + (e.base + 8 * c.addr) + 4 * c.lane) 4 new.toNat ∧
      t.noc.deepQ = removeFirst (fun x => x = c) s.noc.deepQ ∧ t.regs = s.regs ∧
      (s.needsJournal ten m (c.addr / 8) c.ecyc = false → t.tiles = s.tiles)
    (c.op = 1 → Runs (.deepDwrite ten m .clean false) s (fun t => after t c.data)) ∧
    (c.op = 2 → Runs (.deepDset ten m .clean false) s (fun t => after t (old ||| c.data))) ∧
    (c.op = 3 → Runs (.deepDclear ten m .clean false) s (fun t => after t (old &&& ~~~c.data)))) ∧
  (∀ (ten : TenId) (m : Fin 64) (c : DeepCmd) (e : DeepEnt) (i : Image) (s : State),
      s.noc.deepQ.find? (fun c => decide (c.ten = ten.val ∧ c.memid = m.val)) = some c → c.op = 1 →
      (s.ten ten).img = some i → i.mem m = some e → s.rsize ten ≤ e.base + 8 * c.addr →
    Runs (.deepDwrite ten m .clean false) s (fun t =>
      t = ((s.popDeep c).regionFault ten (e.base + 8 * c.addr)).deepFails c 2 (e.base + 8 * c.addr) ∧ t.ds = s.ds)) ∧
  (∀ (old d : Word), laneAfter 1 old d true = d ∧ laneAfter 2 old d true = old ||| d ∧ laneAfter 3 old d true = old &&& ~~~d ∧
    laneAfter 0 old d true = old ∧ ∀ op, laneAfter op old d false = old) ∧
  (∀ (ten : TenId) (m : Fin 64) (e : ErrFound) (w : Bool) (x : Instr) (s : State),
      s.noc.deepQ.find? (fun c => decide (c.ten = ten.val ∧ c.memid = m.val)) = none →
      x ∈ [Instr.deepDread ten m e, .deepDwrite ten m e w, .deepDset ten m e w, .deepDclear ten m e w] →
    Runs x s (fun t => t = s)) ∧
  (∀ (ten : TenId) (it : TileId) (i : Nat) (r : DeepAns) (l : Nat) (s : State),
      (s.noc.answers.filter (fun r => decide (r.ten = ten.val ∧ r.itile = it.val)))[i]? = some r → s.tileOf ten it = some l →
      comesFirst ansWay r s.noc.answers = true → r.status = 0 →
    Runs (.pktRspDeepRes ten it i false) s (fun t =>
      t.tile l = { (s.tile l).deliver r.rd r.ident r.val with deepOut := (s.tile l).deepOut - 1 } ∧
      t.noc.answers = removeFirst (fun x => x = r) s.noc.answers ∧ s.otherTiles t l ∧ s.keeps t [.noc, .tiles]))) ∧
  (
  (∀ (k : Stack4) (s : State), s.rfld dstCfg 0 1 = 1 → s.dev.mode.configured = true → s.poisoned (stackLine k (s.stack k).patrol) = false →
    Runs (.dsPatrolRead k .clean) s (fun t =>
      (t.stack k).patrol = (if (s.stack k).patrol + 1 = stackLines then 0 else (s.stack k).patrol + 1) ∧
      (∀ j, j ≠ k.val → t.stack j = s.stack j) ∧ (t.stack k).ce = (s.stack k).ce ∧ s.keeps t [.noc])) ∧
  (∀ (k : Stack4) (e : ErrFound) (s : State), s.rfld dstCfg 0 1 = 0 → Runs (.dsPatrolRead k e) s (fun t => t = s)) ∧
  (∀ (k : Stack4) (e : ErrFound) (s : State), s.rfld dstCfg 0 1 = 1 → s.dev.mode.configured = true →
      s.poisoned (stackLine k (s.stack k).patrol) = true →
    Runs (.dsPatrolRead k e) s (fun t => t.ds = s.ds ∧ t.noc.dsPoison = s.noc.dsPoison ∧ s.keeps t [.noc])) ∧
  (∀ (k : Stack4) (pc : Fin 32) (row : BitVec 24) (s : State), (s.stack k).inRepair.contains (pc.val * 2 ^ 24 + row.toNat) = true →
    Runs (.dsRowRepairDone k pc row) s (fun t => (t.stack k).rows = satInc (s.stack k).rows 0xFFFF ∧
      (t.stack k).inRepair = removeFirst (fun x => x = pc.val * 2 ^ 24 + row.toNat) (s.stack k).inRepair ∧
      (∀ j, j ≠ k.val → t.stack j = s.stack j) ∧ s.reported t 0x0607 4 k none (rowDetail k (pc.val * 2 ^ 24 + row.toNat)) ∧
      t.ds = s.ds ∧ s.keeps t [.noc, .cfg, .fm])) ∧
  (∀ (k : Stack4) (b : Byte) (s : State),
    Runs (.dsTempRead k b) s (fun t => (t.stack k).temp = b.toNat ∧ ((t.stack k).hotRef = true ↔ 85 < b.toNat) ∧
      (95 < b.toNat → (t.stack k).hot = true) ∧ (95 < b.toNat → (s.stack k).hot = false →
        s.reported t 0x0609 4 k none (k.val + 2 ^ 8 * b.toNat)) ∧
      t.sched.rate = rateOf s.pwr.hub ((List.range 4).any (fun i => (t.stack i).hotRef)) ∧
      ((∀ i, i < 4 → (t.stack i).temp < 90) → ∀ i, i < 4 → (t.stack i).hot = false) ∧ s.keeps t [.noc, .sched, .fm])))

/-- Rings (R344 to R348): a doorbell or a head that stays within its ring is taken, another is recorded; enabling a ring clears its
indices, disabling one keeps what a submission ring has fetched and drops what a completion ring holds. Descriptors and completions
(R346, R347, R349, R350, R354 to R356, R362): an announced descriptor is fetched, the oldest fetched one starts when its ring has
room, one of an unknown opcode completes BAD_OPCODE, and a completion is written at the ring's next entry. -/
def Obligations.DescriptorRings : Prop :=
  (
  (∀ (fn : TenId) (r : Ring8) (v : Word) (s : State), s.fnUp fn = true → (s.sq fn r).en = true →
      (v - (s.sq fn r).pi).toNat ≤ 2 ^ s.sqLog2 fn r → (v - (s.sq fn r).cidx).toNat ≤ 2 ^ s.sqLog2 fn r →
    Runs (.sqDoorbell fn r v) s (fun t => t.sq fn r = { s.sq fn r with pi := v } ∧ s.keeps t [.host])) ∧
  (∀ (fn : TenId) (r : Ring8) (v : Word) (s : State), s.fnUp fn = true →
      ((s.sq fn r).en = false ∨ 2 ^ s.sqLog2 fn r < (v - (s.sq fn r).cidx).toNat ∨ 2 ^ s.sqLog2 fn r < (v - (s.sq fn r).pi).toNat) →
    Runs (.sqDoorbell fn r v) s (fun t => t = s.doorbellBad fn r 0 v ∧ t.sq fn r = s.sq fn r ∧ s.keeps t [.host, .fm])) ∧
  (∀ (fn : TenId) (r : Ring8) (v : Word) (s : State), s.fnUp fn = true →
      (v - (s.cq fn r).head).toNat ≤ ((s.cq fn r).tidx - (s.cq fn r).head).toNat →
    Runs (.cqHeadWrite fn r v) s (fun t => t.cq fn r = { s.cq fn r with head := v } ∧ s.keeps t [.host])) ∧
  (∀ (fn : TenId) (r : Ring8) (v : Word) (s : State), s.fnUp fn = true →
      ((s.cq fn r).tidx - (s.cq fn r).head).toNat < (v - (s.cq fn r).head).toNat →
    Runs (.cqHeadWrite fn r v) s (fun t => t = s.doorbellBad fn r 1 v ∧ t.cq fn r = s.cq fn r ∧ s.keeps t [.host, .fm])) ∧
  (∀ (fn : TenId) (r cq : Ring8) (n : BitVec 5) (s : State), s.fnUp fn = true → (s.sq fn r).en = false →
    Runs (.sqEnable fn r n cq) s (fun t => t.sq fn r = { s.sq fn r with en := true, pi := 0, cidx := 0, dseq := 0 } ∧
      t.sqLog2 fn r = clampLog2 n.toNat ∧ s.keeps t [.host])) ∧
  (∀ (fn : TenId) (r : Ring8) (s : State), s.fnUp fn = true → (s.sq fn r).en = true →
    Runs (.sqDisable fn r) s (fun t => t.sq fn r = { s.sq fn r with en := false } ∧ s.keeps t [.host])) ∧
  (∀ (fn : TenId) (r : Ring8) (n : BitVec 5) (ien : Bool) (v : Ring8) (cc cu : Byte) (s : State), s.fnUp fn = true →
      (s.cq fn r).en = false →
    Runs (.cqEnable fn r n ien v cc cu) s (fun t => t.cq fn r = { en := true } ∧ t.cqLog2 fn r = clampLog2 n.toNat ∧
      s.keeps t [.host])) ∧
  (∀ (fn : TenId) (r : Ring8) (s : State), s.fnUp fn = true → (s.cq fn r).en = true →
    Runs (.cqDisable fn r) s (fun t => (t.cq fn r).en = false ∧ (∀ c ∈ t.host.cpls, ¬ (c.fn = fn.val ∧ c.cq = r.val)) ∧
      s.keeps t [.host, .fm])) ∧
  (∀ (fn : TenId) (r cq : Ring8) (v : Word) (n : BitVec 5) (b : Bool) (x y : Byte) (c : Instr) (s : State), s.fnUp fn = false →
      c ∈ [Instr.sqDoorbell fn r v, .cqHeadWrite fn r v, .sqEnable fn r n cq, .sqDisable fn r, .cqEnable fn r n b cq x y, .cqDisable fn r] →
    Runs c s (fun t => t = s))) ∧
  (
  (∀ (fn : TenId) (r : Ring8) (bs : List Byte) (s : State), s.fnUp fn = true → (s.sq fn r).en = true →
      (s.sq fn r).cidx ≠ (s.sq fn r).pi → s.host.bmeOff.contains fn.val = false → bs.length = 64 →
    Runs (.descriptorFetch fn r bs) s (fun t => (t.sq fn r).cidx = (s.sq fn r).cidx + 1 ∧ (t.sq fn r).dseq = (s.sq fn r).dseq + 1 ∧
      (∃ e, (t.sq fn r).wait = (s.sq fn r).wait ++ [e] ∧ e.bytes = bs ∧ e.opc = leAt bs 0 1 ∧ e.ten = leAt bs 4 1 ∧
        e.ref.dseq = (s.sq fn r).dseq ∧ e.ref.tag.toNat = leAt bs 2 2) ∧ s.keeps t [.host])) ∧
  (∀ (fn : TenId) (r : Ring8) (bs : List Byte) (s : State), (s.sq fn r).cidx = (s.sq fn r).pi →
    Runs (.descriptorFetch fn r bs) s (fun t => t = s)) ∧
  (∀ (fn : TenId) (r : Ring8) (e : Desc) (rest : List Desc) (s : State), (s.sq fn r).wait = e :: rest → s.fnUp fn = true →
      (s.sq fn r).prog.length < 64 → (e.ref.flags.getLsbD 0 = false ∨ (s.sq fn r).prog = []) → (s.cq fn (s.ringOf e)).en = true →
      ((s.cq fn (s.ringOf e)).tidx - (s.cq fn (s.ringOf e)).head).toNat + (s.cq fn (s.ringOf e)).resv + opcEntries e.opc ≤
        2 ^ s.cqLog2 fn (s.ringOf e) →
    (knownOpc e.opc = true → descClean e.bytes = true → cqByteOk e.bytes = true → e.opc ≠ 0x12 →
      Runs (.descriptorStart fn r) s (fun t => (t.sq fn r).wait = rest ∧
        (t.sq fn r).prog = (s.sq fn r).prog ++ [{ e.ref with cq := s.ringOf e }] ∧
        (t.cq fn (s.ringOf e)).resv = (s.cq fn (s.ringOf e)).resv + opcEntries e.opc ∧ s.keeps t [.host])) ∧
    (knownOpc e.opc = false → descClean (e.bytes.take 8) = true →
      Runs (.descriptorStart fn r) s (fun t => ∃ u : State, t = u.complete { e.ref with cq := s.ringOf e } e.opc stBadOpc 0 0 ∧
        (u.sq fn r).wait = rest ∧ (t.sq fn r).wait = rest ∧ s.keeps t [.host, .fm])) ∧
    (knownOpc e.opc = true → descClean e.bytes = false →
      Runs (.descriptorStart fn r) s (fun t => ∃ u : State, t = u.complete { e.ref with cq := s.ringOf e } e.opc stBadArg 0 0 ∧
        (t.sq fn r).wait = rest ∧ s.keeps t [.host, .fm]))) ∧
  (∀ (fn : TenId) (r : Ring8) (e : Desc) (rest : List Desc) (s : State), (s.sq fn r).wait = e :: rest → s.fnUp fn = true →
      (s.sq fn r).prog.length < 64 → (e.ref.flags.getLsbD 0 = false ∨ (s.sq fn r).prog = []) → (s.cq fn (s.ringOf e)).en = false →
    Runs (.descriptorStart fn r) s (fun t => t.host.cpls = s.host.cpls ∧ (t.sq fn r).wait = rest ∧
      (Map.get t.host.fnStat 0 fn.val).testBit 17 = true ∧ s.keeps t [.host, .fm])) ∧
  (∀ (fn : TenId) (r : Ring8) (e : Desc) (rest : List Desc) (s : State), (s.sq fn r).wait = e :: rest →
      (64 ≤ (s.sq fn r).prog.length ∨ (e.ref.flags.getLsbD 0 = true ∧ (s.sq fn r).prog ≠ [])) →
    Runs (.descriptorStart fn r) s (fun t => t = s)) ∧
  (∀ (fn : TenId) (r : Ring8) (e : Desc) (rest : List Desc) (s : State), (s.sq fn r).wait = e :: rest →
      (s.cq fn (s.ringOf e)).en = true →
      2 ^ s.cqLog2 fn (s.ringOf e) <
        ((s.cq fn (s.ringOf e)).tidx - (s.cq fn (s.ringOf e)).head).toNat + (s.cq fn (s.ringOf e)).resv + opcEntries e.opc →
    Runs (.descriptorStart fn r) s (fun t => t = s)) ∧
  (∀ (fn : TenId) (r : Ring8) (s : State), (s.sq fn r).wait = [] → Runs (.descriptorStart fn r) s (fun t => t = s)) ∧
  (∀ (d : DRef) (s : State), s.fnUp d.fn = true →
    Runs (.descNop d) s (fun t => t = s.complete d 0x00 stOk 0 0 ∧ s.keeps t [.host, .fm])) ∧
  (∀ (d : DRef) (o st r a : Nat) (s : State), (s.cq d.fn d.cq).en = true → d ∉ s.host.orphans →
    (s.complete d o st r a).host.cpls = s.host.cpls ++ [
      { fn := d.fn, cq := d.cq, typ := 1, status := st, sq := d.sq, body := .cmd o d.flags.toNat d.tag.toNat d.dseq.toNat r a
        noIrq := d.flags.getLsbD 1, resv := true }] ∧
    s.keeps (s.complete d o st r a) [.host]) ∧
  (∀ (fn : TenId) (q : Ring8) (x : Cpl) (s : State), s.fnUp fn = true → s.host.bmeOff.contains fn.val = false → (s.cq fn q).en = true →
      s.nextCpl fn q = some x →
    Runs (.completionPost fn q) s (fun t => (t.cq fn q).tidx = (s.cq fn q).tidx + 1 ∧ (t.cq fn q).head = (s.cq fn q).head ∧
      t.host.cpls = removeFirst (fun y => y = x) s.host.cpls ∧
      t.host.hostMem = s.host.hostMem.writeBytes
        (s.freg fn (0x200 + 0x20 * q) + 2 ^ 32 * s.freg fn (0x204 + 0x20 * q) + 32 * ((s.cq fn q).tidx.toNat % 2 ^ s.cqLog2 fn q))
        (s.cplBytes x (1 - bit (s.cq fn q).tidx.toNat (s.cqLog2 fn q))) ∧ s.keeps t [.host])) ∧
  (∀ (fn : TenId) (q : Ring8) (s : State), s.nextCpl fn q = none → Runs (.completionPost fn q) s (fun t => t = s)) ∧
  (∀ (fn : TenId) (q : Ring8) (s : State), (s.cq fn q).timing = true → 0 < (s.cq fn q).count →
    Runs (.msixCoalesceTimer fn q) s (fun t => t.cq fn q = { s.cq fn q with timing := false, count := 0 } ∧ s.keeps t [.host])))

/-- Transfers (R351, R364): one that is misaligned or leaves the region is refused; one that ends well has moved its bytes, and a
READ_DEEP of a poisoned line moves none. -/
def Obligations.DeepTransfers : Prop :=
  (∀ (d : DRef) (ten : TenId) (h off : DWord) (len : Word) (s : State), s.fnUp d.fn = true →
      (off.toNat % 64 ≠ 0 ∨ len.toNat % 64 ≠ 0 ∨ len.toNat = 0 ∨ 2 ^ 30 < len.toNat) →
    Runs (.descReadDeep d ten h off len) s (fun t => t = s.complete d 0x02 stBadArg 0 0 ∧ s.keeps t [.host, .fm]) ∧
    (s.dev.mode ≠ .safe → Runs (.descWriteDeep d ten h off len) s (fun t => t = s.complete d 0x01 stBadArg 0 0))) ∧
  (∀ (d : DRef) (ten : TenId) (h off : DWord) (len : Word) (s : State), s.fnUp d.fn = true → off.toNat % 64 = 0 → len.toNat % 64 = 0 →
      0 < len.toNat → len.toNat ≤ 2 ^ 30 → s.rsize (target d ten) < off.toNat + len.toNat →
    Runs (.descReadDeep d ten h off len) s (fun t => t = (s.regionFault (target d ten) off.toNat).complete d 0x02 stRegion 0 0) ∧
    (s.dev.mode ≠ .safe →
      Runs (.descWriteDeep d ten h off len) s (fun t => t = (s.regionFault (target d ten) off.toNat).complete d 0x01 stRegion 0 0))) ∧
  (∀ (d : DRef) (ten : TenId) (h off : DWord) (len : Word) (s : State), s.fnUp d.fn = true → off.toNat % 64 = 0 → len.toNat % 64 = 0 →
      0 < len.toNat → len.toNat ≤ 2 ^ 30 → off.toNat + len.toNat ≤ s.rsize (target d ten) →
    Runs (.descReadDeep d ten h off len) s (fun t => (∃ x, t.host.xfers = s.byFetch (fun y => y.ref) x s.host.xfers ∧ x.ref = d ∧ x.opc = 0x02 ∧
      x.ten = target d ten ∧ x.hostAddr = h.toNat ∧ x.off = off.toNat ∧ x.len = len.toNat) ∧ s.keeps t [.host, .sched]) ∧
    (s.dev.mode ≠ .safe → s.protectedRange (target d ten) off.toNat len.toNat = false →
      Runs (.descWriteDeep d ten h off len) s (fun t => (∃ x, t.host.xfers = s.byFetch (fun y => y.ref) x s.host.xfers ∧ x.ref = d ∧ x.opc = 0x01 ∧
        x.ten = target d ten ∧ x.hostAddr = h.toNat ∧ x.off = off.toNat ∧ x.len = len.toNat) ∧ s.keeps t [.host, .sched])) ∧
    (s.dev.mode ≠ .safe → s.protectedRange (target d ten) off.toNat len.toNat = true →
      Runs (.descWriteDeep d ten h off len) s (fun t => t = s.complete d 0x01 stBadArea 0 0))) ∧
  (∀ (d : DRef) (ten : TenId) (h off : DWord) (len : Word) (s : State), s.fnUp d.fn = true → s.dev.mode = .safe →
    Runs (.descWriteDeep d ten h off len) s (fun t => t = s.complete d 0x01 stBadMode 0 0)) ∧
  (∀ (d : DRef) (bs : List Byte) (x : Xfer) (s : State), (s.host.xfers.take 16).find? (fun x => decide (x.ref = d)) = some x →
      s.host.bmeOff.contains d.fn.val = false → s.tokWaits 4 x.tok = false →
    (x.opc = 0x01 → Runs (.dmaTransferDone d bs .ok) s (fun t =>
      t.ds = s.ds.writeBytes (s.rbase x.ten + x.off) ((bs ++ zeros x.len).take x.len) ∧ t.host.hostMem = s.host.hostMem ∧
      t.host.xfers = removeFirst (fun y => y = x) s.host.xfers ∧ s.keeps t [.host, .ds, .noc, .fm])) ∧
    (x.opc = 0x02 → s.rangePoisoned (s.rbase x.ten + x.off) x.len = false → Runs (.dmaTransferDone d bs .ok) s (fun t =>
      t.host.hostMem = s.host.hostMem.writeBytes x.hostAddr (s.ds.readBytes (s.rbase x.ten + x.off) x.len) ∧
      t.host.xfers = removeFirst (fun y => y = x) s.host.xfers ∧ s.keeps t [.host, .fm])) ∧
    (x.opc = 0x02 → s.rangePoisoned (s.rbase x.ten + x.off) x.len = true → Runs (.dmaTransferDone d bs .ok) s (fun t =>
      t.host.hostMem = s.host.hostMem ∧ (∃ u : State, t = u.complete d 0x02 stDataUe 0 0) ∧ s.keeps t [.host, .fm])) ∧
    (x.opc = 0x21 → Runs (.dmaTransferDone d bs .ok) s (fun t =>
      t.host.xfers = removeFirst (fun y => y = x) s.host.xfers ∧ t.host.hostMem = s.host.hostMem ∧
      t.host.ins = s.byFetch (fun y => y.ref)
        { ref := d, ten := x.ten, port := x.port, bytes := (bs ++ zeros x.len).take x.len } s.host.ins ∧
      s.keeps t [.host])) ∧
    (∀ n : Nat, x.opc = 0x01 → Runs (.dmaTransferDone d bs (.hostFault n)) s (fun t => (∃ u : State,
      t = (u.hostFault d 0x01).complete d 0x01 stHostFault 0 0) ∧
      t.ds = s.ds.writeBytes (s.rbase x.ten + x.off) (((bs ++ zeros x.len).take x.len).take (min n x.len)) ∧
      t.host.xfers = removeFirst (fun y => y = x) s.host.xfers ∧ s.keeps t [.host, .ds, .noc, .fm]))) ∧
  (∀ (d : DRef) (bs : List Byte) (e : XferEnd) (s : State),
      ((s.host.xfers.take 16).find? (fun x => decide (x.ref = d)) = none ∨ s.host.bmeOff.contains d.fn.val = true) →
    Runs (.dmaTransferDone d bs e) s (fun t => t = s))

/-- Messages (R253, R254, R357 to R361): a binding takes effect at once where the tenant runs no ecycle; an inbound message is read into
staging and lands; an outbound one is written into the port's oldest buffer and is released in the order of its flow. -/
def Obligations.Messages : Prop :=
  (∀ (d : DRef) (p dir m cq : Byte) (s : State), s.fnUp d.fn = true → s.dev.mode ≠ .safe →
      s.bindStatus d.fn p.toNat dir.toNat m.toNat cq.toNat ≠ stOk →
    Runs (.msgBind d p dir m cq) s (fun t =>
      t = s.complete d 0x20 (s.bindStatus d.fn p.toNat dir.toNat m.toNat cq.toNat) 0 0 ∧ s.keeps t [.host, .fm])) ∧
  (∀ (d : DRef) (p dir m cq : Byte) (s : State), s.fnUp d.fn = true → s.dev.mode ≠ .safe →
      s.bindStatus d.fn p.toNat dir.toNat m.toNat cq.toNat = stOk →
    (s.runsNone d.fn = false → Runs (.msgBind d p dir m cq) s (fun t => ∃ b, (t.ten d.fn).binds = (s.ten d.fn).binds ++ [b] ∧
      b.port = p.toNat ∧ b.cmd = d ∧ s.otherTenants t d.fn ∧ s.keeps t [.tenants])) ∧
    (s.runsNone d.fn = true → Runs (.msgBind d p dir m cq) s (fun t =>
      (dir.toNat = 0xFF → t.port d.fn p.toNat = none) ∧
      (dir.toNat ≠ 0xFF → t.port d.fn p.toNat = some { out := decide (dir.toNat = 1), memid := m.toNat, cq := cq.toNat }) ∧
      s.otherTenants t d.fn ∧ s.keeps t [.tenants, .host, .fm]))) ∧
  (∀ (d : DRef) (p : Byte) (len : BitVec 16) (h : DWord) (s : State), s.fnUp d.fn = true → s.dev.mode ≠ .safe → 0 < len.toNat →
      len.toNat ≤ 4096 → p.toNat < 8 → s.port d.fn p.toNat = none →
    Runs (.msgIn d p len h) s (fun t => t = s.complete d 0x21 stNoPort 0 0 ∧ s.keeps t [.host, .fm])) ∧
  (∀ (d : DRef) (p : Byte) (len : BitVec 16) (h : DWord) (b : Port) (i : Image) (e : DeepEnt) (s : State), s.fnUp d.fn = true →
      s.dev.mode ≠ .safe → 0 < len.toNat → len.toNat ≤ 4096 → p.toNat < 8 → s.port d.fn p.toNat = some b → b.out = false →
      (s.ten d.fn).img = some i → i.mem b.memid = some e →
    (1 + (len.toNat + 7) / 8 ≤ 2 ^ (e.k - 1) → Runs (.msgIn d p len h) s (fun t => (∃ x, t.host.xfers = s.byFetch (fun y => y.ref) x s.host.xfers ∧
      x.ref = d ∧ x.opc = 0x21 ∧ x.port = p.toNat ∧ x.hostAddr = h.toNat ∧ x.len = len.toNat) ∧ s.keeps t [.host])) ∧
    (2 ^ (e.k - 1) < 1 + (len.toNat + 7) / 8 → Runs (.msgIn d p len h) s (fun t => t = s.complete d 0x21 stMsgFormat 0 0))) ∧
  (∀ (ten : TenId) (p : Ring8) (s : State), s.landable ten p = none → Runs (.msgInLand ten p) s (fun t => t = s)) ∧
  (∀ (ten : TenId) (p : Ring8) (m : InMsg) (d : DeepEnt) (b : _) (l : Nat) (s : State), s.landable ten p = some m →
      s.inPort ten p = some (d, b) → s.tileOf ten d.owner = some l →
      (List.range p.val).all (fun q => (s.landable ten q).isNone || !(s.inPort ten q).any (fun x => decide (x.1.owner = d.owner))) = true →
      (s.tile l).inEcyc = false → (s.tile l).halt = none → (s.ten ten).recov = none →
      s.closedFor ten (s.tile l).endedCount = false → s.movingFor ten (s.tile l).endedCount = false → s.logFull ten = false →
      (s.redoFor ten d.owner (s.tile l).endedCount).isEmpty = true → s.dev.mode ≠ .safe →
    Runs (.msgInLand ten p) s (fun t => t = ((({ s with host := { s.host with ins := removeFirst (fun x => x = m) s.host.ins } }).putRecord
        ten p m.ref.dseq.toNat (s.tile l).endedCount m.bytes).logInput ten 1 (s.tile l).endedCount
          (leBytes p.val 1 ++ zeros 3 ++ leBytes m.ref.dseq.toNat 4 ++ m.bytes)).complete m.ref 0x21 stOk (s.tile l).endedCount 0 ∧
      t.host.ins = removeFirst (fun x => x = m) s.host.ins ∧ t.host.hostMem = s.host.hostMem)) ∧
  (∀ (d : DRef) (p : Byte) (cap : Word) (h : DWord) (b : Port) (s : State), s.fnUp d.fn = true → 0 < cap.toNat → cap.toNat ≤ 4096 →
      p.toNat < 8 → s.port d.fn p.toNat = some b → b.out = true →
    Runs (.msgOut d p cap h) s (fun t => t.host.bufs = s.byFetch (fun y => y.ref)
      { ref := d, ten := d.fn, port := p.toNat, cap := cap.toNat, addr := h.toNat } s.host.bufs ∧ s.keeps t [.host])) ∧
  (∀ (d : DRef) (p : Byte) (cap : Word) (h : DWord) (s : State), s.fnUp d.fn = true → 0 < cap.toNat → cap.toNat ≤ 4096 →
      p.toNat < 8 → (s.port d.fn p.toNat).all (fun b => !b.out) = true →
    Runs (.msgOut d p cap h) s (fun t => t = s.completeOut d stNoPort p.toNat 0 0 0 0 ∧ s.keeps t [.host, .fm])) ∧
  (∀ (d : DRef) (p : Byte) (cap : Word) (h : DWord) (s : State), s.fnUp d.fn = true → (cap.toNat = 0 ∨ 4096 < cap.toNat ∨ 8 ≤ p.toNat) →
    Runs (.msgOut d p cap h) s (fun t => t = s.complete d 0x22 stBadArg 0 0 ∧ s.keeps t [.host, .fm])) ∧
  (∀ (ten : TenId) (p : Ring8) (m : Msg) (b : OutBuf) (s : State),
      s.host.msgs.find? (fun m => decide (m.ten = ten.val ∧ m.port = p.val ∧ m.done = none) && s.aboveMark m) = some m →
      s.host.bufs.find? (fun b => decide (b.ten = ten.val ∧ b.port = p.val)) = some b → s.host.bmeOff.contains ten.val = false →
      m.bad = false →
    Runs (.msgOutProcess ten p .ok) s (fun t =>
      t.host.hostMem = s.host.hostMem.writeBytes b.addr (m.bytes.take (min b.cap m.bytes.length)) ∧
      t.host.bufs = removeFirst (fun x => x = b) s.host.bufs ∧
      { m with done := some (b, if b.cap < m.bytes.length then stMsgTrunc else stOk, min b.cap m.bytes.length) } ∈ t.host.msgs ∧
      s.keeps t [.host])) ∧
  (∀ (ten : TenId) (q : Ring8) (s : State), s.flowHead ten q = none → Runs (.msgOutRelease ten q) s (fun t => t = s)) ∧
  (∀ (ten : TenId) (q : Ring8) (m : Msg) (b : OutBuf) (st n : Nat) (s : State), s.flowHead ten q = some m → m.e < (s.ten ten).done →
      s.aboveMark m = true → m.done = some (b, st, n) →
    Runs (.msgOutRelease ten q) s (fun t => Map.get (t.ten ten).msgMark (0, 0) q = (m.e, m.s) ∧
      t.host.msgs = removeFirst (fun x => x = m) s.host.msgs ∧ s.otherTenants t ten ∧ s.keeps t [.tenants, .host, .fm])) ∧
  (∀ (ten : TenId) (q : Ring8) (m : Msg) (s : State), s.flowHead ten q = some m → (s.ten ten).done ≤ m.e →
    Runs (.msgOutRelease ten q) s (fun t => t = s))

/-- Host-side resets (R341, R363, R459, R489, Table 12-13): a reset of a function disables its rings; a hot reset and a link that goes
down also clear VF Enable; with bus mastering off the function waits. -/
def Obligations.HostResets : Prop :=
  (∀ (fn : TenId) (s : State), s.fnUp fn = true →
    Runs (.flr fn) s (fun t => (∀ r, r < 8 → (t.sq fn r).en = false ∧ (t.cq fn r).en = false) ∧ fn.val ∉ t.host.d3 ∧
      (∀ x ∈ t.host.xfers, x.ref.fn ≠ fn) ∧ (Map.get t.host.fnStat 0 fn.val).testBit 18 = true ∧
      (s.host.xfers = [] → t.ds = s.ds) ∧ s.keeps t [.host, .fm, .ds, .freeCtr])) ∧
  (∀ (fn : TenId) (s : State), s.fnUp fn = true →
    Runs (.d3hotEnter fn) s (fun t => fn.val ∈ t.host.d3 ∧ (∀ r, r < 8 → (t.sq fn r).en = false ∧ (t.cq fn r).en = false) ∧
      (∀ x ∈ t.host.xfers, x.ref.fn ≠ fn) ∧ (s.host.xfers = [] → t.ds = s.ds) ∧ s.keeps t [.host, .fm, .ds, .freeCtr])) ∧
  (∀ (fn : TenId) (s : State), s.fnUp fn = false → Runs (.flr fn) s (fun t => t = s) ∧ Runs (.d3hotEnter fn) s (fun t => t = s)) ∧
  (∀ s : State, s.fnUp 0 = true →
    Runs .vfEnableClear s (fun t => t.host.vfEn = false ∧ (∀ f ∈ s.vfs, ∀ r, r < 8 → (t.sq f r).en = false ∧ (t.cq f r).en = false) ∧
      (∀ f ∈ s.vfs, ∀ x ∈ t.host.xfers, x.ref.fn.val ≠ f) ∧ s.keeps t [.host, .fm, .ds, .freeCtr]) ∧
    Runs .hotReset s (fun t => t.host.vfEn = false ∧
      (∀ f ∈ 0 :: s.vfs, ∀ r, r < 8 → (t.sq f r).en = false ∧ (t.cq f r).en = false) ∧
      (∀ f ∈ 0 :: s.vfs, ∀ x ∈ t.host.xfers, x.ref.fn.val ≠ f) ∧ s.keeps t [.host, .fm, .ds, .freeCtr]) ∧
    Runs .perst s (fun t => t.host.vfEn = false ∧ t.host.linkUp = false ∧ t.host.rate = 0 ∧ t.host.width = 0 ∧
      (∀ f ∈ 0 :: s.vfs, ∀ r, r < 8 → (t.sq f r).en = false ∧ (t.cq f r).en = false) ∧ s.keeps t [.host, .fm, .ds, .freeCtr])) ∧
  (∀ s : State, s.fnUp 0 = false → Runs .vfEnableClear s (fun t => t = s) ∧ Runs .hotReset s (fun t => t = s) ∧
    Runs .perst s (fun t => t = s)) ∧
  (∀ (n : TenId) (s : State), s.fnUp 0 = true →
    Runs (.vfEnableSet n) s (fun t => t.host = { s.host with vfEn := true, numVfs := n } ∧ s.keeps t [.host])) ∧
  (∀ (fn : TenId) (s : State),
    Runs (.bmeClear fn) s (fun t => fn.val ∈ t.host.bmeOff ∧ (∀ m, m ≠ fn.val → (m ∈ t.host.bmeOff ↔ m ∈ s.host.bmeOff)) ∧
      s.keeps t [.host]) ∧
    Runs (.bmeSet fn) s (fun t => fn.val ∉ t.host.bmeOff ∧ (∀ m, m ≠ fn.val → (m ∈ t.host.bmeOff ↔ m ∈ s.host.bmeOff)) ∧
      (∀ e ∈ t.host.msiWait, e.1 ≠ fn.val) ∧ s.keeps t [.host])) ∧
  (∀ (rate : BitVec 3) (w : BitVec 5) (f l : Bool) (s : State), (s.domain 61).good = true →
    Runs (.pcieLinkUp rate w f l) s (fun t => t.host.linkUp = true ∧ t.host.rate = rate.toNat ∧ t.host.width = w.toNat ∧ t.clk.pclkOk = true ∧
      s.keeps t [.host, .clk])) ∧
  (∀ (rate : BitVec 3) (w : BitVec 5) (f l : Bool) (s : State), (s.domain 61).good = false →
    Runs (.pcieLinkUp rate w f l) s (fun t => t = s)) ∧
  (∀ s : State, s.clk.pclkOk = true →
    Runs .pclkTrip s (fun t => t.clk.pclkOk = false ∧ t.host.linkUp = false ∧ s.keeps t [.host, .clk, .fm, .ds, .freeCtr])) ∧
  (∀ s : State, s.clk.pclkOk = false → Runs .pclkTrip s (fun t => t = s))

/-- The SMBus port (R365 to R367): it reads the device's basic blocks and writes DEV_CTL and ERR_LOG_RIDX alone, a transaction without
the PEC that is asked for is refused, and three timeouts in a row make it dead until its lines have been high. -/
def Obligations.SidebandPort : Prop :=
  (∀ (off : Word) (pec : Bool) (s : State), s.smbLives = true → s.rfld 0x80100 8 1 = 0 ∨ pec = true →
    Runs (.smbSetPointer off pec) s (fun t => (off.toNat % 4 = 0 → t.host.smbPtr = off.toNat ∧ t.host.smbOut = .ack) ∧
      (off.toNat % 4 ≠ 0 → t.host.smbPtr = s.host.smbPtr ∧ t.host.smbOut = .nack) ∧ t.host.smbRow = 0 ∧ s.keeps t [.host])) ∧
  (∀ (pec : Bool) (s : State), s.smbLives = true → s.rfld 0x80100 8 1 = 0 ∨ pec = true → smbReads s.host.smbPtr = false →
    Runs (.smbBlockRead pec) s (fun t => t.host.smbOut = .data 0 ∧ t.host.smbPtr = (s.host.smbPtr + 4) % 2 ^ 32 ∧
      s.reported t 0x050A 0 0 none s.host.smbPtr ∧ s.keeps t [.host, .fm])) ∧
  (∀ (pec : Bool) (s : State), s.smbLives = true → s.rfld 0x80100 8 1 = 0 ∨ pec = true → s.host.smbPtr = 0x0 →
    Runs (.smbBlockRead pec) s (fun t => t.host.smbOut = .data (BitVec.ofNat 32 (s.readReg 0)) ∧ t.host.smbPtr = 4 ∧
      s.keeps t [.host])) ∧
  (∀ (pec : Bool) (s : State), s.smbLives = true → s.rfld 0x80100 8 1 = 0 ∨ pec = true → smbReads s.host.smbPtr = true →
      s.smbUp s.host.smbPtr = true →
    Runs (.smbBlockRead pec) s (fun t => t.host.smbPtr = (s.host.smbPtr + 4) % 2 ^ 32 ∧ t.host.smbRow = 0 ∧
      ∃ u : State, u = { s with host := { s.host with smbRow := 0, smbDatLow := false, smbClkLow := false, smbOut := .ack } } ∧
        t.host.smbOut = .data (BitVec.ofNat 32 (u.readReg s.host.smbPtr)))) ∧
  (∀ (v : Word) (pec : Bool) (s : State), s.smbLives = true → s.rfld 0x80100 8 1 = 0 ∨ pec = true →
      s.host.smbPtr = 0x24 ∨ s.host.smbPtr = 0x70004 →
    Runs (.smbBlockWrite v pec) s (fun t => ∃ u : State,
      u = { s with host := { s.host with smbRow := 0, smbDatLow := false, smbClkLow := false, smbOut := .ack } } ∧
      t = (u.writeReg 0 s.host.smbPtr v.toNat 15 .ok).smbNext)) ∧
  (∀ (v : Word) (pec : Bool) (s : State), s.smbLives = true → s.rfld 0x80100 8 1 = 0 ∨ pec = true → s.host.smbPtr ≠ 0x24 →
      s.host.smbPtr ≠ 0x70004 →
    Runs (.smbBlockWrite v pec) s (fun t => s.reported t 0x050A 0 0 none s.host.smbPtr ∧ t.regs = s.regs ∧
      t.host.smbPtr = (s.host.smbPtr + 4) % 2 ^ 32 ∧ s.keeps t [.host, .fm])) ∧
  (∀ (off v : Word) (c : Instr) (s : State), s.smbLives = true → s.rfld 0x80100 8 1 = 1 →
      c ∈ [Instr.smbSetPointer off false, .smbBlockRead false, .smbBlockWrite v false] →
    Runs c s (fun t => t.host = { s.host with smbOut := .nack } ∧ s.keeps t [.host])) ∧
  (∀ (off v : Word) (pec : Bool) (c : Instr) (s : State), s.smbLives = false →
      c ∈ [Instr.smbSetPointer off pec, .smbBlockRead pec, .smbBlockWrite v pec, .smbTimeout pec] → Runs c s (fun t => t = s)) ∧
  (∀ (dat : Bool) (s : State), s.smbLives = true →
    Runs (.smbTimeout dat) s (fun t => t.host.smbRow = s.host.smbRow + 1 ∧ t.host.smbTimeouts = satInc s.host.smbTimeouts 0xFF ∧
      (s.host.smbRow < 2 → t.host.smbDead = s.host.smbDead ∧ s.reported t 0x0507 0 0 none (b2n dat)) ∧
      (2 ≤ s.host.smbRow → t.host.smbDead = true ∧
        t.fm = ((s.report 0x0507 clsEvent 0 none (b2n dat)).report 0x0508 clsDegraded 0 none (b2n dat)).fm) ∧ s.keeps t [.host, .fm])) ∧
  (∀ s : State, s.host.smbDead = true →
    Runs .smbRevived s (fun t => t.host.smbDead = false ∧ t.host.smbRow = 0 ∧ s.reported t 0x0509 0 0 none 0 ∧ s.keeps t [.host, .fm])) ∧
  (∀ s : State, s.host.smbDead = false → Runs .smbRevived s (fun t => t = s))

/-! ### Thyme, Chervil and the edge fabric -/

/-- The tick (R369 to R371, R374): SEC, NS and FRAC together grow by INC, modulo 2^48 s; a written increment is in force from then on; a
SET and an ADJ act at the tick after their write; the backup count advances on its own. -/
def Obligations.ThymeTime : Prop :=
  (∀ s : State, s.thy.runs = true → s.thy.stepsDue = [] →
    Runs .thymeTick s (fun t =>
      ((t.thy.sec * 10 ^ 9 + t.thy.ns) * 2 ^ 32 + t.thy.frac) % (2 ^ 48 * 10 ^ 9 * 2 ^ 32) =
        ((s.thy.sec * 10 ^ 9 + s.thy.ns) * 2 ^ 32 + s.thy.frac + s.thy.incDue.getD s.thy.inc) % (2 ^ 48 * 10 ^ 9 * 2 ^ 32) ∧
      t.thy.sec < 2 ^ 48 ∧ t.thy.ns < 10 ^ 9 ∧ t.thy.frac < 2 ^ 32 ∧ t.thy.inc = s.thy.incDue.getD s.thy.inc ∧ t.thy.incDue = none ∧
      t.thy.valid = s.thy.valid ∧ t.noc = s.nocTick.noc ∧ (∀ l, { t.link l with markDue := false } = { s.link l with markDue := false }) ∧
      s.keeps t [.thy, .noc, .lat])) ∧
  (∀ s : State, s.thy.runs = true → s.thy.stepsDue = [none] →
    Runs .thymeTick s (fun t => t.thy.sec = s.reg 0x40024 + 2 ^ 32 * s.reg 0x40028 ∧ t.thy.ns = min 999999999 (s.reg 0x40020) ∧
      t.thy.frac = 0 ∧ t.thy.valid = true ∧ t.thy.stepsDue = [] ∧ t.thy.markOut = false ∧ s.keeps t [.thy, .fm, .chv, .noc, .lat])) ∧
  (∀ (a : Int) (s : State), s.thy.sec < 2 ^ 48 → s.thy.ns < 10 ^ 9 →
    (((s.thyStep (some a)).thy.sec : Int) * 10 ^ 9 + (s.thyStep (some a)).thy.ns) % (2 ^ 48 * 10 ^ 9) =
      ((s.thy.sec : Int) * 10 ^ 9 + s.thy.ns + a) % (2 ^ 48 * 10 ^ 9) ∧
    (s.thyStep (some a)).thy.ns < 10 ^ 9 ∧ (s.thyStep (some a)).thy.frac = s.thy.frac ∧ s.keeps (s.thyStep (some a)) [.thy, .fm, .chv]) ∧
  (∀ s : State, s.thy.runs = false → Runs .thymeTick s (fun t => t = s)) ∧
  (∀ (l : LinkId) (was : Nat) (s : State), s.isUp l = true → (s.link l).txSleep = false →
    (s.thy.ns / 1000 ≠ was → ((s.marksSince was).link l).markDue = true) ∧ (s.thy.ns / 1000 = was → s.marksSince was = s)) ∧
  (∀ s : State, s.dev.mode ≠ .off →
    Runs .backupCountTick s (fun t => (t.thy.bkpSec * 2 ^ 15 + t.thy.bkpFrac) % (2 ^ 48 * 2 ^ 15) =
        (s.thy.bkpSec * 2 ^ 15 + s.thy.bkpFrac + 1) % (2 ^ 48 * 2 ^ 15) ∧ t.thy.bkpFrac < 2 ^ 15 ∧ t.thy.sec = s.thy.sec ∧
      t.thy.ns = s.thy.ns ∧ s.keeps t [.thy])) ∧
  (∀ s : State, s.dev.mode = .off → Runs .backupCountTick s (fun t => t = s)) ∧
  (∀ (v : BitVec 4) (s : State), s.dev.mode.configured = true → s.thySrc = 0 → 0x240000000 ≤ v.toNat * 2 ^ 32 + s.reg 0x40030 →
      v.toNat * 2 ^ 32 + s.reg 0x40030 ≤ 0x2C0000000 →
    Runs (.thyIncApply v) s (fun t => t.thy = { s.thy with incDue := some (v.toNat * 2 ^ 32 + s.reg 0x40030) } ∧
      t.reg 0x40034 = v.toNat ∧ (∀ r, r ≠ 0x40034 → t.reg r = s.reg r) ∧ s.keeps t [.thy, .regs])) ∧
  (∀ (v : BitVec 4) (s : State), s.dev.mode.configured = true → s.thySrc ≠ 0 →
    Runs (.thyIncApply v) s (fun t => t = s.accState 0x40034 ∧ s.keeps t [.fm])) ∧
  (∀ (v : BitVec 4) (s : State), s.dev.mode.configured = true → s.thySrc = 0 →
      (v.toNat * 2 ^ 32 + s.reg 0x40030 < 0x240000000 ∨ 0x2C0000000 < v.toNat * 2 ^ 32 + s.reg 0x40030) →
    Runs (.thyIncApply v) s (fun t => t = s.accValue 0x40034 ∧ s.keeps t [.fm])) ∧
  (∀ (v : Word) (s : State), s.dev.mode.configured = true →
    Runs .thySet s (fun t => t.thy = { s.thy with stepsDue := s.thy.stepsDue ++ [none] } ∧ s.keeps t [.thy]) ∧
    Runs (.thyAdj v) s (fun t => t.thy = { s.thy with stepsDue := s.thy.stepsDue ++ [some v.toInt] } ∧ s.keeps t [.thy])) ∧
  (∀ (v : DWord) (sp : SpanAns) (s : State), s.barAnswers none = true →
    (s.thySrc = 0 → Runs (.regWrite none 0x40030 v 15 sp) s (fun t => t.reg 0x40030 = v.toNat % 2 ^ 32 ∧
      (∀ r, r ≠ 0x40030 → t.reg r = s.reg r) ∧ s.keeps t [.regs])) ∧
    (s.thySrc ≠ 0 → Runs (.regWrite none 0x40030 v 15 sp) s (fun t => t = s.accState 0x40030 ∧ s.keeps t [.fm]))) ∧
  (∀ s : State, s.thySrc ≠ 0 → s.readReg 0x40030 = s.thy.inc % 2 ^ 32 ∧ s.readReg 0x40034 = s.thy.inc / 2 ^ 32)

/-- Marks and sources (R290, R375 to R379): an awake up link sends marks; one that arrives whole sets or clears its link's place among
the sources; a LATTICE module takes the best link and keeps it until it fails or a better one has stood; a MARK_IN edge is stamped. -/
def Obligations.ThymeSources : Prop :=
  (∀ (l : LinkId) (d : BitVec 10) (s : State), s.isUp l = true → (s.link l).markDue = true →
    Runs (.fmkSend l d) s (fun t => t.lat.wire = s.lat.wire ++
      [(l.val, .fmk (s.thy.total / 1000 % 65536) d.toNat s.thy.valid s.moduleId s.stratum)] ∧ (t.link l).markDue = false ∧
      s.otherLinks t l ∧ s.keeps t [.lat])) ∧
  (∀ (l : LinkId) (d : BitVec 10) (s : State), (s.isUp l = false ∨ (s.link l).markDue = false) →
    Runs (.fmkSend l d) s (fun t => t = s)) ∧
  (∀ (l : LinkId) (line : LineIn) (q : BitVec 16) (d : BitVec 10) (tv : Bool) (m : ModId) (st : Byte) (sub : Fin 80) (s : State),
      s.isUp l = true →
    Runs (.fmkReceive l line q d tv m st true sub) s (fun t =>
      t.link l = { (s.takeLine l line).2.link l with code0 := satInc ((s.takeLine l line).2.link l).code0 0xFFFF } ∧
      t.thy = s.thy ∧ s.otherLinks t l ∧ s.keeps t [.lat])) ∧
  (∀ (l : LinkId) (line : LineIn) (q : BitVec 16) (d : BitVec 10) (m : ModId) (st : Byte) (sub : Fin 80) (s : State), s.isUp l = true →
      s.thySrc ≠ 2 →
    (st.toNat < 255 → Runs (.fmkReceive l line q d true m st false sub) s (fun t => Map.get t.thy.marks (255, 0) l = (st.toNat, m.val) ∧
      (∀ k, k ≠ l.val → Map.get t.thy.marks (255, 0) k = Map.get s.thy.marks (255, 0) k) ∧ t.thy.srcLink = s.thy.srcLink ∧
      t.lat = (s.takeLine l line).2.lat ∧ s.keeps t [.thy, .lat])) ∧
    (s.thy.srcLink ≠ some l.val → Runs (.fmkReceive l line q d false m st false sub) s (fun t =>
      Map.get t.thy.marks (255, 0) l = (255, 0) ∧ t.thy.srcLink = s.thy.srcLink ∧
      t.lat = (s.takeLine l line).2.lat ∧ s.keeps t [.thy, .lat]))) ∧
  (∀ (l : LinkId) (line : LineIn) (q : BitVec 16) (d : BitVec 10) (m : ModId) (st : Byte) (sub : Fin 80) (s : State), s.isUp l = true →
      s.thySrc = 2 → s.thy.srcLink = some l.val → st.toNat < 255 →
    Runs (.fmkReceive l line q d true m st false sub) s (fun t => ∃ u : State, t = u.steerMark l q.toNat d.toNat sub st.toNat ∧
      Map.get u.thy.marks (255, 0) l = (st.toNat, m.val) ∧ u.lat = (s.takeLine l line).2.lat ∧ s.keeps u [.thy, .lat])) ∧
  (∀ (l : LinkId) (line : LineIn) (q : BitVec 16) (d : BitVec 10) (m : ModId) (tv cb : Bool) (st : Byte) (sub : Fin 80) (s : State),
      s.isUp l = false →
    Runs (.fmkReceive l line q d tv m st cb sub) s (fun t => t = (s.takeLine l line).2 ∧ s.otherLinks t l ∧ s.keeps t [.lat])) ∧
  (∀ (l : Nat) (s : State), s.thySrc = 2 → s.thy.srcLink = some l → Map.del s.thy.marks l = [] → s.thy.holdover = false →
    Runs .thySourceLoss s (fun t => t.thy.srcLink = none ∧ t.thy.holdover = true ∧ s.reported t 0x0852 0 0 none l ∧
      s.keeps t [.thy, .fm])) ∧
  (∀ (l m : Nat) (s : State), s.thySrc = 2 → s.thy.srcLink = some l → Map.del s.thy.marks l = [(m, (0, 0))] → s.isUp m = true →
    Runs .thySourceLoss s (fun t => t.thy.srcLink = some m ∧ t.thy.holdover = false ∧ s.keeps t [.thy])) ∧
  (∀ s : State, s.thy.srcLink = none → Runs .thySourceLoss s (fun t => t = s)) ∧
  (∀ (l : LinkId) (c : Nat) (s : State), s.thySrc = 2 → s.thy.srcLink = some c → s.bestMark = some l.val → s.markLt l c = true →
    Runs (.thySourcePrefer l) s (fun t => t.thy = { s.thy with srcLink := some l.val } ∧ s.keeps t [.thy])) ∧
  (∀ (l : LinkId) (c : Nat) (s : State), s.thy.srcLink = some c → s.markLt l c = false → Runs (.thySourcePrefer l) s (fun t => t = s)) ∧
  (∀ s : State, s.thy.runs = true →
    Runs .thymeMarkInEdge s (fun t => t.thy.minSec = s.thy.sec ∧ t.thy.minNs = s.thy.ns ∧ t.thy.minCnt = satInc s.thy.minCnt 0xFFFFFFFF ∧
      t.thy.sec = s.thy.sec ∧ t.thy.ns = s.thy.ns ∧ (s.thySrc = 1 → t.thy.holdover = false) ∧ s.keeps t [.thy, .chv, .fm, .freeCtr])) ∧
  (∀ s : State, s.thySrc = 1 → s.thy.holdover = false →
    Runs .markInHoldover s (fun t => t.thy.holdover = true ∧ s.reported t 0x0852 0 0 none 0xFF ∧ s.keeps t [.thy, .fm])) ∧
  (∀ s : State, s.thySrc ≠ 1 → Runs .markInHoldover s (fun t => t = s))

/-- The mark output and timed starts (R380, R381): MARK_OUT rises only while Thyme is valid; a slot arms while Thyme is valid, fires at
its time, and takes the status of the RUN command. -/
def Obligations.TimedEvents : Prop :=
  (∀ s : State, s.rfld 0x40050 0 1 = 1 → s.thy.valid = true → s.dev.mode.configured = true → s.dev.mode ≠ .safe →
      s.thy.total % (s.rfld 0x40050 12 20 * 1000) * 2 ^ 32 + s.thy.frac < s.thy.inc →
    Runs .markOutRise s (fun t => t.thy = { s.thy with markOut := true } ∧ s.keeps t [.thy])) ∧
  (∀ s : State, s.thy.valid = false → Runs .markOutRise s (fun t => t = s)) ∧
  (∀ s : State, Runs .markOutFall s (fun t => t.thy = { s.thy with markOut := false } ∧ s.keeps t [.thy])) ∧
  (∀ (k : Fin 4) (step : Bool) (ten : TenId) (s : State), s.dev.mode.configured = true → (s.tslot k).arm = false → s.thy.valid = true →
    Runs (.tstartArm k step ten) s (fun t => (t.tslot k).arm = true ∧ (t.tslot k).lateArm = s.tslotDue k ∧
      (∀ j, j ≠ k.val → t.tslot j = s.tslot j) ∧ t.reg (tstartReg k) = 2 * b2n step + 256 * ten.val ∧
      (∀ r, r ≠ tstartReg k → t.reg r = s.reg r) ∧ s.keeps t [.thy, .regs])) ∧
  (∀ (k : Fin 4) (step : Bool) (ten : TenId) (s : State), s.dev.mode.configured = true → (s.tslot k).arm = false → s.thy.valid = false →
    Runs (.tstartArm k step ten) s (fun t => (t.tslot k).arm = false ∧ s.reported t 0x0003 0 0 none (tstartReg k) ∧
      s.keeps t [.regs, .fm])) ∧
  (∀ (k : Fin 4) (step : Bool) (ten : TenId) (s : State), s.dev.mode.configured = true → (s.tslot k).arm = true →
    Runs (.tstartArm k step ten) s (fun t => t.tslot k = s.tslot k ∧ t.regs = s.regs ∧
      (s.reg (tstartReg k) ≠ 2 * b2n step + 256 * ten.val → s.reported t 0x0003 0 0 none (tstartReg k)) ∧ s.keeps t [.fm])) ∧
  (∀ (k : Fin 4) (sp : SpanAns) (s : State), ((s.tslot k).arm = false ∨ s.tslotDue k = false) →
    Runs (.tstartFire k sp) s (fun t => t = s)) ∧
  (∀ (k : Fin 4) (sp : SpanAns) (s : State), (s.tslot k).arm = true → s.tslotDue k = true → s.dev.mode = .safe →
    Runs (.tstartFire k sp) s (fun t => (t.tslot k).arm = false ∧ (t.tslot k).status = stBadMode ∧
      s.reported t 0x0853 0 0 none (k.val + 2 ^ 8 * fld (s.reg (tstartReg k)) 8 8 + 2 ^ 16 * stBadMode) ∧ s.keeps t [.thy, .fm])) ∧
  (∀ (k : Fin 4) (sp : SpanAns) (s : State), (s.tslot k).arm = true → s.tslotDue k = true → s.dev.mode ≠ .safe →
      s.startRefusal (fld (s.reg (tstartReg k)) 8 8) sp = none →
    Runs (.tstartFire k sp) s (fun t => ∃ u : State, (u.tslot k).arm = false ∧ (u.tslot k).status = stOk ∧ s.keeps u [.thy] ∧
      t = u.request (fld (s.reg (tstartReg k)) 8 8)
        (if bit (s.reg (tstartReg k)) 1 = 1 then .step (s.reg (tstartReg k + 4)) else .start) none)) ∧
  (∀ (k : Fin 4) (sp : SpanAns) (st : Nat) (s : State), (s.tslot k).arm = true → s.tslotDue k = true → s.dev.mode ≠ .safe →
      s.startRefusal (fld (s.reg (tstartReg k)) 8 8) sp = some st →
    Runs (.tstartFire k sp) s (fun t => (t.tslot k).arm = false ∧ (t.tslot k).status = st ∧
      (∀ j, j ≠ k.val → t.tslot j = s.tslot j) ∧ t.tenants = s.tenants ∧ s.keeps t [.thy, .fm, .chv]))

/-- Trace packets and sinks (R387, R393, R394): the oldest packet leaves the intake for its sinks, a full sink drops and counts it; a
staged packet drains to the ring while it has room; enabling a sink starts its indices, disabling it closes it. -/
def Obligations.TraceSinks : Prop :=
  (∀ s : State, s.chv.inq = [] → Runs .tracePacketEnter s (fun t => t = s)) ∧
  (∀ (p : TracePkt) (r : List TracePkt) (s : State), s.chv.inq = p :: r → (s.chv.frozen = true ∨ s.rfld (srcReg p.src) 0 1 = 0) →
    Runs .tracePacketEnter s (fun t => t.chv = { s.chv with inq := r } ∧ s.keeps t [.chv])) ∧
  (∀ (p : TracePkt) (r : List TracePkt) (s : State), s.chv.inq = p :: r → s.chv.frozen = false → s.rfld (srcReg p.src) 0 1 = 1 →
    Runs .tracePacketEnter s (fun t => ∃ u : State, u.chv = { s.chv with inq := r } ∧ s.keeps u [.chv] ∧
      t = (u.sinksOf p).foldl (fun v k => v.enterSink k p) u)) ∧
  (∀ (k : Nat) (p : TracePkt) (s : State), (s.sink k).en = true → s.chv.frozen = false → 126976 ≤ (s.sink k).fill →
    s.enterSink k p = s.traceDrop k p.src ∧ ((s.traceDrop k p.src).sink k).lost = satInc (s.sink k).lost 0xFFFFFFFF ∧
    ((s.traceDrop k p.src).sink k).lostSeen = true ∧ ((s.traceDrop k p.src).sink k).staging = (s.sink k).staging ∧
    (∀ j, j ≠ k → (s.traceDrop k p.src).sink j = s.sink j) ∧
    (Map.get (s.sink k).drops 0 p.src = 0 → s.reported (s.traceDrop k p.src) 0x0840 0 p.src none (k + 2 ^ 8 * p.src)) ∧
    s.keeps (s.traceDrop k p.src) [.chv, .fm]) ∧
  (∀ (k : Nat) (p : TracePkt) (s : State), ((s.sink k).en = false ∨ s.chv.frozen = true) → s.enterSink k p = s) ∧
  (∀ (k : Ring8) (bad : BitVec 10) (p : List Byte) (r : List (List Byte)) (s : State), (s.sink k).staging = p :: r →
      (s.sink k).wait = [] → (s.sink k).widx - (s.sink k).ridx + p.length ≤ s.sinkSize k → p.length ≤ (s.sink k).paid →
      s.sinkBase k + s.sinkSize k ≤ s.rsize (s.sinkOwner k) →
    (zeroLines (s.sink k).widx bad p = p →
      Runs (.traceDrain k bad) s (fun t => (t.sink k).staging = r ∧ (t.sink k).widx = (s.sink k).widx + p.length ∧
        (t.sink k).paid = (s.sink k).paid - p.length ∧
        t.ds = s.ds.putRing (s.rbase (s.sinkOwner k) + s.sinkBase k) (s.sinkSize k) (s.sink k).widx p ∧
        (∀ j, j ≠ k.val → t.sink j = s.sink j) ∧ s.keeps t [.chv, .ds])) ∧
    (zeroLines (s.sink k).widx bad p ≠ p →
      Runs (.traceDrain k bad) s (fun t => (t.sink k).widx = (s.sink k).widx + p.length ∧
        t.ds = s.ds.putRing (s.rbase (s.sinkOwner k) + s.sinkBase k) (s.sinkSize k) (s.sink k).widx
          (zeroLines (s.sink k).widx bad p) ∧ t.noc.poisonSeen = true ∧
        ((s.sink k).en = true → s.chv.frozen = false → ∃ u : State, u.chv = (s.setSink k { s.sink k with
          staging := r, paid := (s.sink k).paid - p.length, widx := (s.sink k).widx + p.length }).chv ∧
          t = (u.syncPut k 3 0xFF allOnes64).funnelWaiting k) ∧
        (∀ j, j ≠ k.val → t.sink j = s.sink j) ∧ s.keeps t [.chv, .ds, .noc, .fm, .freeCtr]))) ∧
  (∀ (k : Ring8) (bad : BitVec 10) (p : List Byte) (r : List (List Byte)) (s : State), (s.sink k).staging = p :: r →
      (s.sink k).widx - (s.sink k).ridx + p.length ≤ s.sinkSize k → (s.sink k).paid < p.length → (s.sink k).tok = 0 →
    Runs (.traceDrain k bad) s (fun t => t.sink k = { s.sink k with tok := s.sched.tokSeq + 1 } ∧
      (∀ j, j ≠ k.val → t.sink j = s.sink j) ∧ s.keeps t [.chv, .sched])) ∧
  (∀ (k : Ring8) (bad : BitVec 10) (p : List Byte) (r : List (List Byte)) (s : State), (s.sink k).staging = p :: r →
      s.sinkSize k < (s.sink k).widx - (s.sink k).ridx + p.length →
    Runs (.traceDrain k bad) s (fun t => t = s)) ∧
  (∀ (k : Ring8) (bad : BitVec 10) (s : State), (s.sink k).staging = [] → (s.sink k).wait = [] →
    Runs (.traceDrain k bad) s (fun t => t = s)) ∧
  (∀ (k : Ring8) (s : State), s.dev.mode.configured = true → (s.sink k).en = false → s.chv.frozen = false →
    Runs (.sinkEnable k) s (fun t => (t.sink k).en = true ∧ (t.sink k).widx = 0 ∧ (t.sink k).ridx = 0 ∧ (t.sink k).staging.length = 1 ∧
      (∀ j, j ≠ k.val → t.sink j = s.sink j) ∧ s.keeps t [.chv, .regs, .fm])) ∧
  (∀ (k : Ring8) (s : State), s.dev.mode.configured = true →
    Runs (.sinkDisable k) s (fun t => (t.sink k).en = false ∧ (t.sink k).widx = (s.sink k).widx ∧
      (∀ j, j ≠ k.val → t.sink j = s.sink j) ∧ s.keeps t [.chv, .regs, .fm])) ∧
  (∀ (k : Ring8) (o : TenId) (s : State), s.dev.mode.configured = true →
    Runs (.sinkOwnerWrite k o) s (fun t => (t.sink k).en = false ∧ (t.sink k).staging = [] ∧ t.sinkOwner k = o.val ∧
      (∀ j, j ≠ k.val → t.sink j = s.sink j) ∧ s.keeps t [.chv, .regs])) ∧
  (∀ (k : Ring8) (v : Word) (s : State), s.dev.mode.configured = true → s.rfld (srcReg 0x14) 0 1 = 1 → s.chv.frozen = false →
    Runs (.swmarkWrite k v) s (fun t => (∃ p : TracePkt, t.chv.inq = s.chv.inq ++ [p] ∧ p.src = 0x14 ∧ p.typ = 6 ∧
      p.payload = leBytes v.toNat 4 ++ zeros 4 ∧ p.sink = some k.val) ∧ s.keeps t [.chv]))

/-- Edge banks (R406, R409 to R418): a bank is released through CHECK, OUT and WE to RUN and withdrawn the other way; in RUN the target
cycle moves a group out and samples one in; a brownout puts the bank into FAILSAFE. -/
def Obligations.EdgeBanks : Prop :=
  (∀ (g : EBank) (s : State), s.dev.mode.configured = true → ((s.bank g).stage = .off ∨ (s.bank g).stage = .failsafe) →
      s.releasable g = true →
    Runs (.bankRelease g) s (fun t => (t.bank g).stage = (if (s.bank g).vioOk = true then .out else .check) ∧
      ((s.bank g).vioOk = true → (t.bank g).co = s.bankInit g) ∧ (t.bank g).fsCause = 0 ∧ (∀ h, h ≠ g.val → t.bank h = s.bank h) ∧
      s.keeps t [.edg])) ∧
  (∀ (g : EBank) (s : State), s.dev.mode.configured = true → s.releasable g = false →
    Runs (.bankRelease g) s (fun t => t = s.accState (bankReg g + 4) ∧ s.keeps t [.fm]) ∧
    Runs (.bankWithdraw g) s (fun t => t = s.accState (bankReg g + 4) ∧ s.keeps t [.fm])) ∧
  (∀ (g : EBank) (s : State), s.dev.mode.configured = true → (s.bank g).stage ≠ .off → (s.bank g).stage ≠ .failsafe →
    Runs (.bankRelease g) s (fun t => t = s.accState (bankReg g + 4) ∧ s.keeps t [.fm])) ∧
  (∀ (g : EBank) (s : State), s.dev.mode.configured = true → s.releasable g = true → (s.bank g).stage = .run →
    Runs (.bankWithdraw g) s (fun t => (t.bank g).stage = .retreat ∧ (t.bank g).undoing = .we ∧ (t.bank g).outFifo = [] ∧
      (t.bank g).cyc = none ∧ (t.bank g).tclk = false ∧ (∀ h, h ≠ g.val → t.bank h = s.bank h) ∧ s.keeps t [.edg])) ∧
  (∀ (g : EBank) (s : State), s.dev.mode.configured = true → s.releasable g = true →
      ((s.bank g).stage = .check ∨ (s.bank g).stage = .out ∨ (s.bank g).stage = .failsafe) →
    Runs (.bankWithdraw g) s (fun t => (t.bank g).stage = .off ∧ s.reported t 0x0703 0 g none g ∧
      (∀ h, h ≠ g.val → t.bank h = s.bank h) ∧ s.keeps t [.edg, .fm])) ∧
  (∀ (g : EBank) (s : State), s.dev.mode.configured = true → s.releasable g = true →
    ((s.bank g).stage = .we → Runs (.bankWithdraw g) s (fun t => t.bank g = { s.bank g with stage := .retreat, undoing := .out } ∧
      (∀ h, h ≠ g.val → t.bank h = s.bank h) ∧ s.keeps t [.edg])) ∧
    ((s.bank g).stage = .retreat → Runs (.bankWithdraw g) s (fun t => t = s)) ∧
    ((s.bank g).stage = .off → Runs (.bankWithdraw g) s (fun t => t = s.accState (bankReg g + 4) ∧ s.keeps t [.fm]))) ∧
  (∀ (g : EBank) (pins : DWord) (s : State),
    ((s.bank g).stage = .out → Runs (.bankStageTimer g pins) s (fun t => t.bank g = { s.bank g with stage := .we } ∧
      (∀ h, h ≠ g.val → t.bank h = s.bank h) ∧ s.keeps t [.edg])) ∧
    ((s.bank g).stage = .retreat → (s.bank g).undoing = .we →
      Runs (.bankStageTimer g pins) s (fun t => t.bank g = { s.bank g with undoing := .out } ∧
        (∀ h, h ≠ g.val → t.bank h = s.bank h) ∧ s.keeps t [.edg])) ∧
    ((s.bank g).stage = .retreat → (s.bank g).undoing ≠ .we →
      Runs (.bankStageTimer g pins) s (fun t => (t.bank g).stage = .off ∧ s.reported t 0x0703 0 g none g ∧
        (∀ h, h ≠ g.val → t.bank h = s.bank h) ∧ s.keeps t [.edg, .fm])) ∧
    (∀ x, (s.bank g).stage = .we → s.bankOwner g = some x →
      Runs (.bankStageTimer g pins) s (fun t => (t.bank g).stage = .run ∧ (t.bank g).nextIn = s.unstarted x ∧ (t.bank g).given = [] ∧
        (s.bankFree g = false → ∃ u : State, u.regs = s.regs ∧ u.cfg = s.cfg ∧ (u.bank g).stage = .run ∧
          (t.bank g).rel = [(s.unstarted x, u.sampleOf g pins), (s.unstarted x + 1, u.sampleOf g pins)]) ∧
        (s.bankFree g = true → (t.bank g).rel = []) ∧
        s.reported t 0x0700 0 g (some x) (g + 256 * x) ∧ (∀ h, h ≠ g.val → t.bank h = s.bank h) ∧ s.keeps t [.edg, .fm])) ∧
    ((s.bank g).stage ∉ [BStage.out, .we, .retreat] → Runs (.bankStageTimer g pins) s (fun t => t = s))) ∧
  (∀ (g : EBank) (s : State), s.bankOwner g = none → (s.bank g).stage ≠ .off → (s.bank g).stage ≠ .failsafe →
    Runs (.brownoutTrip g) s (fun t => (t.bank g).stage = .failsafe ∧ (t.bank g).fsCause = 4 ∧ (t.bank g).hiZ = true ∧
      (t.bank g).brownout = true ∧ (t.bank g).vioOk = false ∧ s.reported t 0x0701 3 g none (g + 64) ∧
      (∀ h, h ≠ g.val → t.bank h = s.bank h) ∧ s.keeps t [.edg, .fm])) ∧
  (∀ (g : EBank) (s : State), ((s.bank g).stage = .off ∨ (s.bank g).stage = .failsafe) →
    Runs (.brownoutTrip g) s (fun t => (t.bank g).stage = (s.bank g).stage ∧ (t.bank g).brownout = true ∧ (t.bank g).vioOk = false ∧
      (∀ h, h ≠ g.val → t.bank h = s.bank h) ∧ s.keeps t [.edg])) ∧
  (∀ (g : EBank) (x : Nat) (s : State), s.bankOwner g = some x → (s.bank g).stage ≠ .off → (s.bank g).stage ≠ .failsafe →
    Runs (.brownoutTrip g) s (fun t => ∃ u : State, t = u.raiseHold x 5 none ∧ (u.bank g).stage = .failsafe ∧ (u.bank g).brownout = true ∧
      (∀ h, h ≠ g.val → u.bank h = s.bank h) ∧ s.reported u 0x0701 3 g (some x) (g + 64 + 256 * x) ∧ s.keeps u [.edg, .fm])) ∧
  (∀ (g : EBank) (k : Nat) (v : DWord) (r : List (Nat × DWord)) (x : Nat) (s : State), (s.bank g).outFifo = (k, v) :: r →
      s.bankOwner g = some x → (s.bank g).stage = .run → s.bankFree g = false → (s.bank g).cyc = none →
    ((s.ten x).recov = none → Runs (.targetCycleC1 g) s (fun t =>
      t.bank g = { s.bank g with outFifo := r, co := v, cyc := some (k, false), tcyc := (s.bank g).tcyc + 1 } ∧
      (∀ h, h ≠ g.val → t.bank h = s.bank h) ∧ s.keeps t [.edg])) ∧
    ((s.ten x).recov ≠ none → Runs (.targetCycleC1 g) s (fun t => t = s))) ∧
  (∀ (g : EBank) (k : Nat) (pins : DWord) (s : State), (s.bank g).cyc = some (k, false) →
    (s.clockHeld g = false → Runs (.targetCycleC2 g pins) s (fun t =>
      t.bank g = { s.bank g with cyc := some (k, true), tclk := true, inFifo := (s.bank g).inFifo ++ [(k + 2, s.sampleOf g pins)] } ∧
      (∀ h, h ≠ g.val → t.bank h = s.bank h) ∧ s.keeps t [.edg])) ∧
    (s.clockHeld g = true → Runs (.targetCycleC2 g pins) s (fun t => t = s))) ∧
  (∀ (g : EBank) (k : Nat) (s : State), (s.bank g).cyc = some (k, true) →
    (s.clockHeld g = false → Runs (.targetCycleC3 g) s (fun t => t.bank g = { s.bank g with cyc := none, tclk := false } ∧
      (∀ h, h ≠ g.val → t.bank h = s.bank h) ∧ s.keeps t [.edg])) ∧
    (s.clockHeld g = true → Runs (.targetCycleC3 g) s (fun t => t = s))) ∧
  (∀ (g : EBank) (s : State), s.clockHeld g = true ↔ ∃ x, s.bankOwner g = some x ∧ (s.ten x).recov ≠ none) ∧
  (∀ (g : EBank) (e : Nat) (v : DWord) (b : EdgeBank) (x : Nat) (s : State), s.nextGroup g = some (e, v, b) → s.bankOwner g = some x →
      s.bankRuns g = true → e ≤ (s.ten x).done + 1 → (s.ten x).recov = none →
      ((s.boundTiles x).filter (fun l => s.routesTo g (s.ltile l).itile)).all (fun l => decide (e ≤ (s.tile l).endedCount + 1)) = true →
    Runs (.edgeInputDeliver g) s (fun t => (t.bank g).given = b.given ++ [(e, v)] ∧ (t.bank g).nextIn = e + 1 ∧
      (∀ l ∈ s.boundTiles x, s.routesTo g (s.ltile l).itile = true →
        Map.get (t.tile l).edgeIn 0 (e % 2) = t.edgeFor x (s.ltile l).itile e) ∧
      (∀ l, l ∉ s.boundTiles x → t.tile l = s.tile l) ∧ s.keeps t [.edg, .tiles])) ∧
  (∀ (g : EBank) (s : State), s.nextGroup g = none → Runs (.edgeInputDeliver g) s (fun t => t = s)) ∧
  (∀ (g : EBank) (q : Region) (k : Nat) (v : DWord) (r : List (Nat × DWord)) (s : State), (s.bank g).outFifo = (k, v) :: r →
      (s.bank g).stage = .run → s.bankFree g = true → s.isoPasses q (s.bankOwner g) = true →
    Runs (.freePop g q) s (fun t => t.bank g = { s.bank g with outFifo := r, co := v } ∧ (∀ h, h ≠ g.val → t.bank h = s.bank h) ∧
      s.keeps t [.edg])) ∧
  (∀ (g : EBank) (q : Region) (s : State), ((s.bank g).outFifo = [] ∨ s.isoPasses q (s.bankOwner g) = false) →
    Runs (.freePop g q) s (fun t => t = s)) ∧
  (∀ (g : EBank) (q : Region) (pins : DWord) (s : State), s.isoPasses q (s.bankOwner g) = false →
    Runs (.freePush g q pins) s (fun t => t = s)) ∧
  (∀ (g : EBank) (q : Region) (pins : DWord) (s : State), (s.bank g).stage = .run → s.bankFree g = true →
      s.isoPasses q (s.bankOwner g) = true →
    ((s.bank g).inFifo.length < 16 → Runs (.freePush g q pins) s (fun t =>
      t.bank g = { s.bank g with inFifo := (s.bank g).inFifo ++ [(0, s.sampleOf g pins)] } ∧ (∀ h, h ≠ g.val → t.bank h = s.bank h) ∧
      s.keeps t [.edg])) ∧
    (16 ≤ (s.bank g).inFifo.length → Runs (.freePush g q pins) s (fun t => (t.bank g).inFifo = (s.bank g).inFifo ∧
      (t.bank g).inRef = satInc (s.bank g).inRef 0xFFFFFFFF ∧ s.reported t 0x0706 0 g none g ∧ s.keeps t [.edg, .fm]))) ∧
  (∀ (q : Region) (own : Option Nat) (s : State), s.isoPasses q own = true ↔
    own ≠ none ∧ s.regionOwner q = own ∧ q.val ∈ s.edg.loaded ∧ s.edg.pr ≠ some q.val)

/-- Edge registers and regions (R403, R404, R407, R421, R422): a pin, an owner and a route are written only where their bank or tenant
stands, and a write that is refused is recorded; a region command waits for its turn and its tenant. -/
def Obligations.EdgeRegisters : Prop :=
  (∀ (n : Fin 768) (v : Word) (s : State), s.dev.mode.configured = true → (s.bank (n.val / 64)).stage ≠ .off →
      (s.bank (n.val / 64)).stage ≠ .failsafe →
    Runs (.edgPinWrite n v) s (fun t => t = s.accState (0x201000 + 4 * n) ∧ s.keeps t [.fm])) ∧
  (∀ (n : Fin 768) (v : Word) (s : State), s.dev.mode.configured = true →
      ((s.bank (n.val / 64)).stage = .off ∨ (s.bank (n.val / 64)).stage = .failsafe) →
    (pinBad (pinStored v.toNat) (s.rfld (bankReg (n.val / 64)) 10 3) = true →
      Runs (.edgPinWrite n v) s (fun t => t = s.accValue (0x201000 + 4 * n) ∧ s.keeps t [.fm])) ∧
    (pinBad (pinStored v.toNat) (s.rfld (bankReg (n.val / 64)) 10 3) = false →
      Runs (.edgPinWrite n v) s (fun t => t.reg (0x201000 + 4 * n) = pinStored v.toNat ∧
        (∀ r, r ≠ 0x201000 + 4 * n.val → t.reg r = s.reg r) ∧ Map.get t.edg.padFs 0 n = fld (pinStored v.toNat) 13 2 ∧
        (∀ m, m ≠ n.val → Map.get t.edg.padFs 0 m = Map.get s.edg.padFs 0 m) ∧ t.edg.banks = s.edg.banks ∧ s.keeps t [.regs, .edg]))) ∧
  (∀ (v vio : Nat), pinBad v vio = false → (fld v 0 2 = 2 → bit v 2 = 1) ∧ (fld v 3 2 ≠ 0 → bit v 2 = 1) ∧ (bit v 17 = 1 → fld v 0 2 = 1) ∧
    200 * 2 ^ fld v 3 2 ≤ stdRate (fld v 5 3) vio) ∧
  (∀ (g : Fin 12) (v : Word) (s : State), s.dev.mode.configured = true → (s.bank g).stage ≠ .off →
      fld (bankCfgStored v.toNat) 0 10 ≠ s.rfld (bankReg g) 0 10 →
    Runs (.edgAssignWrite (.bank g) v) s (fun t => t = s.accState (bankReg g) ∧ s.keeps t [.fm])) ∧
  (∀ (g : Fin 12) (v : Word) (s : State), s.dev.mode.configured = true → (s.bank g).stage = .off →
    Runs (.edgAssignWrite (.bank g) v) s (fun t => t.reg (bankReg g) = bankCfgStored v.toNat ∧ (∀ r, r ≠ bankReg g → t.reg r = s.reg r) ∧
      (bit (bankCfgStored v.toNat) 8 = 1 → (t.domain (62 + g.val / 6)).on = true) ∧ s.keeps t [.regs, .pwr])) ∧
  (∀ (r : Region) (v : Word) (s : State), s.dev.mode.configured = true → (∀ g, g < 12 → s.bankOwner g = none) →
    Runs (.edgAssignWrite (.region r) v) s (fun t => t.reg (0x204000 + 0x10 * r) = v.toNat % 2 ^ 9 ∧ s.keeps t [.regs])) ∧
  (∀ (g : EBank) (x : Nat) (inw : Bool) (v : Word) (s : State), s.dev.mode.configured = true → s.bankOwner g = some x →
    (s.noEcycle x = false → Runs (.edgRouteWrite g inw v) s (fun t =>
      t = s.accState (bankReg g + (if inw then 0x1C else 0x18)) ∧ s.keeps t [.fm])) ∧
    (s.noEcycle x = true → Runs (.edgRouteWrite g false v) s (fun t => t.reg (bankReg g + 0x18) = v.toNat % 2 ^ 24 ∧ s.keeps t [.regs]) ∧
      Runs (.edgRouteWrite g true v) s (fun t => fld (t.reg (bankReg g + 0x1C)) 0 10 = fld v.toNat 0 10 ∧
        fld (t.reg (bankReg g + 0x1C)) 16 10 = fld v.toNat 16 10 ∧ s.keeps t [.regs]))) ∧
  (∀ (g : EBank) (v : Word) (s : State), s.dev.mode.configured = true → s.bankOwner g = none →
    Runs (.edgRouteWrite g false v) s (fun t => t.reg (bankReg g + 0x18) = v.toNat % 2 ^ 24 ∧ s.keeps t [.regs]) ∧
    Runs (.edgRouteWrite g true v) s (fun t => fld (t.reg (bankReg g + 0x1C)) 0 10 = fld v.toNat 0 10 ∧
      fld (t.reg (bankReg g + 0x1C)) 16 10 = fld v.toNat 16 10 ∧ s.keeps t [.regs])) ∧
  (∀ (r : Region) (v : Word) (g x : Nat) (s : State), s.dev.mode.configured = true → g / 6 = r.val / 4 → s.bankOwner g = some x →
      (s.bank g).stage ≠ .off → (s.bank g).stage ≠ .failsafe → s.regionOwner r = some x →
    Runs (.edgAssignWrite (.region r) v) s (fun t => t = s.accState (0x204000 + 0x10 * r) ∧ s.keeps t [.fm])) ∧
  (∀ (r : Region) (x : Nat) (rest : List Nat) (s : State), s.dev.mode.idleToDerate = true → s.dev.refits = x :: rest →
      (x < 256 ∨ (1000 ≤ x ∧ s.edg.pr ≠ none)) →
    Runs (.edgPrGo r) s (fun t => t.edg.prQueue = s.edg.prQueue ++ [r.val] ∧ t.dev.refits = s.dev.refits ++ [1000 + r.val] ∧
      t.edg.pr = s.edg.pr ∧ t.dev.mode = .refit ∧ s.keeps t [.edg, .dev, .fm, .host])) ∧
  (∀ (r : Region) (s : State), s.dev.mode.idleToDerate = true → s.dev.refits = [] → s.edg.pr = none → s.edg.prQueue = [] →
    (s.regionOwner r = none → Runs (.edgPrGo r) s (fun t => t.edg.prQueue = [] ∧ t.edg.pr = some r.val ∧ t.dev.refits = [1000 + r.val] ∧
      t.dev.mode = .refit ∧ s.keeps t [.edg, .dev, .fm, .host, .sched])) ∧
    (∀ x, s.regionOwner r = some x → Runs (.edgPrGo r) s (fun t => t.edg.pr = some r.val ∧ t.dev.refits = [1000 + r.val] ∧
      (t.ten x).affected = true ∧ t.dev.mode = .refit))) ∧
  (∀ (r : Region) (s : State), s.dev.mode.idleToDerate = false → Runs (.edgPrGo r) s (fun t => t = s)) ∧
  (∀ s : State, s.edg.pr = none → Runs .regionPrDone s (fun t => t = s)) ∧
  (∀ (r x : Nat) (s : State), s.edg.pr = some r → s.regionOwner r = some x → (s.ten x).refitHeld = false →
    Runs .regionPrDone s (fun t => t = s)) ∧
  (∀ (r : Nat) (s : State), s.edg.pr = some r → s.prReady (s.regionOwner r) = true → s.tokWaits 2 s.edg.prTok = false →
      s.reg 0x204104 + 2 ^ 32 * s.reg 0x204108 + 128 ≤ s.rsize 0 → s.noc.dsPoison = [] →
    Runs .regionPrDone s (fun t =>
      (s.checkCopy kRegion s.prPackage.length .other s.prPackage false = 0 →
        t = (s.prPass r (s.regionOwner r) s.prPackage).prEnd r (s.regionOwner r)) ∧
      (s.checkCopy kRegion s.prPackage.length .other s.prPackage false ≠ 0 →
        t = (s.prFail r (s.regionOwner r) (s.checkCopy kRegion s.prPackage.length .other s.prPackage false)).prEnd r
          (s.regionOwner r)))) ∧
  (∀ (r : Nat) (s : State), s.edg.pr = some r → s.tokWaits 2 s.edg.prTok = true → Runs .regionPrDone s (fun t => t = s)) ∧
  (∀ (r : Nat) (s : State), s.edg.pr = some r → s.regionOwner r = none → s.dev.refits = [1000 + r] → s.rsize 0 = 0 → s.noc.dsPoison = [] →
      s.tokWaits 2 s.edg.prTok = false → s.tenants = [] → s.spaceBanks (3 + r) = [] →
    Runs .regionPrDone s (fun t => t.edg.pr = none ∧ t.edg.prResult = 2 ∧ t.edg.prCheck ≠ 0 ∧ r ∉ t.edg.loaded ∧ t.dev.refits = [] ∧
      t.regs = s.regs ∧ t.cfg = s.cfg ∧ t.ds = s.ds))

/-- The line code, the flit wheel, the fabric's logic and the pins (R23, R195, R230, R279, R320 to R322, R340, R380, R398 to R401, R405,
R419): every character of either disparity decodes to itself; code errors are counted by lane; a wheel position goes to the head of
highest input number on its virtual channel, or of all where none waits on it; product terms, macrocells and MAC slices compute what
their frames say, and an edge of FCLK changes the loaded regions alone; a cell that does not pass presents its clamp; the outputs
follow the mode. Where FCLK edges and flit positions pass is the model's choice (log entries 15, 98, 100 and 101). -/
def Obligations.LinesFlitsAndPins : Prop :=
  (∀ (c : Sym) (rd : Bool), decode10 (c.encode rd).1 rd = some c ∧ rdAfter (c.encode rd).1 rd = (c.encode rd).2 ∧
    4 ≤ onesIn (c.encode rd).1 10 ∧ onesIn (c.encode rd).1 10 ≤ 6) ∧
  (∀ (l : LinkId) (x : LineIn) (s : State), ((s.link l).st = .off ∨ (s.link l).st = .test ∨ (s.link l).st = .looped) →
    s.takeLine l x = (false, s)) ∧
  (∀ (l : LinkId) (x : LineIn) (s : State), (s.link l).st ≠ .off → (s.link l).st ≠ .test → (s.link l).st ≠ .looped →
    ((s.takeLine l x).2.link l).code0 = min 0xFFFF ((s.link l).code0 +
      ((decodeSyms ((s.link l).laneIn x 0) (s.link l).rxRd0).1.filter Option.isNone).length) ∧
    ((s.takeLine l x).2.link l).code1 = min 0xFFFF ((s.link l).code1 +
      ((decodeSyms ((s.link l).laneIn x 1) (s.link l).rxRd1).1.filter Option.isNone).length) ∧
    ((s.takeLine l x).2.link l).st = (s.link l).st ∧ ((s.takeLine l x).2.link l).rxSeq = (s.link l).rxSeq ∧
    s.otherLinks (s.takeLine l x).2 l ∧ s.keeps (s.takeLine l x).2 [.lat]) ∧
  (∀ (pos : Nat) (hs : List Flight), nocWinner pos hs = none ↔ hs = []) ∧
  (∀ (pos : Nat) (hs : List Flight) (f : Flight), nocWinner pos hs = some f →
    f ∈ hs ∧ (∀ g ∈ hs, wheelVc pos = some g.vc → f.vc = g.vc ∧ g.inputNo ≤ f.inputNo) ∧
    ((∀ g ∈ hs, wheelVc pos ≠ some g.vc) → ∀ g ∈ hs, g.inputNo ≤ f.inputNo)) ∧
  ((List.range 8).map wheelVc = [some 2, some 3, some 2, some 1, some 2, some 0, some 2, none]) ∧
  (∀ (n : Noc) (f : Flight), f ∈ n.flights → f.node ≠ nocHome → ∃ g ∈ n.refresh.flights, g = { f with age := n.classOf f } ∧ f.age ≤ g.age) ∧
  (∀ (t : PTerm) (x : BitVec 48), t.holds x = true ↔
    ∀ i, i < 48 → (t.pos.getLsbD i = true → x.getLsbD i = true) ∧ (t.neg.getLsbD i = true → x.getLsbD i = false)) ∧
  (∀ (c : MCell) (v b : Bool) (e : CellOut), e.force = some b → c.stores v e = b) ∧
  (∀ (c : MCell) (v : Bool) (e : CellOut), e.force = none →
    (e.enable = false → c.stores v e = v) ∧ (e.enable = true → c.kind = .dff → c.stores v e = e.data) ∧
    (e.enable = true → c.kind = .tff → c.stores v e = xor v e.data)) ∧
  (∀ (c : MCell) (v : Bool) (e : CellOut), c.kind ≠ .comb → c.shows true v e = c.init) ∧
  (∀ (m : EMac) (sig : FabSig → Bool) (j : Nat) (acc : List DWord),
    (sig m.en = false → m.next sig j acc = acc.getD j 0) ∧
    (sig m.en = true → sig m.op1 = false → sig m.op0 = false → m.next sig j acc = m.prod sig) ∧
    (sig m.en = true → sig m.op1 = false → sig m.op0 = true → m.next sig j acc = acc.getD j 0 + m.prod sig) ∧
    (sig m.en = true → sig m.op1 = true → sig m.op0 = false → m.next sig j acc = acc.getD j 0 - m.prod sig) ∧
    (sig m.en = true → sig m.op1 = true → sig m.op0 = true → 0 < j → m.next sig j acc = acc.getD (j - 1) 0 + m.prod sig)) ∧
  (∀ s : State, (s.edg.fclkOk = false ∨ s.edg.loaded = []) → s.fclkEdge = s) ∧
  (∀ s : State, s.fclkEdge.edg.banks = s.edg.banks ∧ s.fclkEdge.edg.loaded = s.edg.loaded ∧ s.keeps s.fclkEdge [.edg, .freeCtr] ∧
    ∀ r, r ∉ s.edg.loaded → s.fclkEdge.fabOf r = s.fabOf r) ∧
  (∀ (r : Nat) (v : Levels) (s : State), s.grst r = true →
    (s.fabClock v r).regs = (s.regionCfg r).initial ∧ (s.fabClock v r).acc = [] ∧ (s.fabClock v r).pipe = []) ∧
  (∀ (r i : Nat) (own : Option Nat) (v : Levels) (inw : Nat → Nat → Bool) (s : State), s.isoPasses r own = false →
    s.crossOut v own inw r i = clampLevel (Config.clamp s.staticFrames false r i) ((s.fabOf r).lastOut.getLsbD i)) ∧
  (∀ s : State, (s.dev.mode ∈ [Mode.reset, .selftest, .load, .safe] → s.faultN = true ∧
      (∀ i, s.trigOutPin i = .drives false) ∧ s.markOutPin = .drives false) ∧
    (s.dev.mode ∈ [Mode.off, .keep] → s.faultN = false ∧ (∀ i, s.trigOutPin i = .hiZ) ∧ s.markOutPin = .hiZ ∧ ∀ n, s.pad n = .hiZ) ∧
    (s.dev.mode ∈ [Mode.idle, .active, .refit, .replay, .hold, .derate] → s.faultN = s.fm.pend ∧
      (∀ i, s.trigOutPin i = .drives (s.trig.outPins.testBit i)) ∧ s.markOutPin = .drives s.thy.markOut)) ∧
  (∀ (n : Nat) (s : State), (s.bank (n / 64)).hiZ = true → s.pad n = .hiZ) ∧
  (∀ (n : Nat) (s : State), (s.bank (n / 64)).stage = .off ∨ (s.bank (n / 64)).stage = .failsafe →
    s.dev.mode ∈ [Mode.idle, .active, .refit, .replay, .hold, .derate] → (s.bank (n / 64)).hiZ = false → (s.bank (n / 64)).brownout = false →
    s.pad n = s.padFailSafe n) ∧
  (∀ (fn : Nat) (p : PciId) (s : State), s.pciId fn = some p → s.fnExists fn = true ∧ p.device = (if fn = 0 then 0x2192 else 0x2193) ∧
    (fn = 0 → p.classCode = some 0x120000) ∧ ∀ b ∈ p.bars, b.is64 = true ∧ b.prefetch = false)

/-! ### Configuration, tests and registers -/

/-- The configuration slave port (R441 to R445): a command that CSP_RDY or the mode does not permit is recorded and has no effect; a
push and a download take bytes until they end; three timeouts in a row make the port dead until it revives. LOAD (R440, R441): a
copy or a push that passes its checks ends LOAD in IDLE, one that fails is recorded and LOAD goes on to the next copy, and with no
copy left the device is in SAFE with cause CONFIG. -/
def Obligations.ConfigPortAndLoad : Prop :=
  (
  (∀ (len : DWord) (tgt : Byte) (bs : List Byte) (x : Instr × Nat) (s : State), s.cspLives = true →
      x ∈ [(Instr.cspStatus false, 0x05), (.cspPushBegin false len, 0x10), (.cspData false bs, 0x11), (.cspEnd false, 0x12),
        (.cspUpdBegin false len tgt, 0x20), (.cspUpdActivate false, 0x21), (.cspUpdConfirm false, 0x22)] →
    Runs x.1 s (fun t => s.reported t 0x0584 0 0 none x.2 ∧ s.keeps t [.fm])) ∧
  (∀ (rdy : Bool) (len : DWord) (tgt : Byte) (bs : List Byte) (c : Instr) (s : State), s.cspLives = false →
      c ∈ [Instr.cspStatus rdy, .cspPushBegin rdy len, .cspData rdy bs, .cspEnd rdy, .cspUpdBegin rdy len tgt, .cspUpdActivate rdy,
        .cspUpdConfirm rdy, .cspTimeout] →
    Runs c s (fun t => t = s)) ∧
  (∀ s : State, s.cspLives = true →
    Runs (.cspStatus true) s (fun t => t.cfg = { s.cfg with cspRow := 0, cspOut := leBytes s.devModeWord 4 ++ leBytes s.updStatWord 4 } ∧
      s.keeps t [.cfg])) ∧
  (∀ (len : DWord) (s : State), s.cspLives = true → s.dev.mode = .load → s.cfg.phase = .cspWait →
    Runs (.cspPushBegin true len) s (fun t => t.cfg.phase = .pushing len.toNat ∧ t.cfg.push = [] ∧ s.keeps t [.cfg])) ∧
  (∀ (len : DWord) (s : State), s.cspLives = true → s.cfg.phase ≠ .cspWait →
    Runs (.cspPushBegin true len) s (fun t => t.cfg.phase = s.cfg.phase ∧ s.reported t 0x0584 0 0 none 0x10 ∧ s.keeps t [.cfg, .fm])) ∧
  (∀ (n : Nat) (bs : List Byte) (s : State), s.cspLives = true → s.cfg.phase = .pushing n → 1 ≤ bs.length → bs.length ≤ 4096 →
    Runs (.cspData true bs) s (fun t => t.cfg.push = s.cfg.push ++ bs ∧ t.cfg.phase = .pushing n ∧ s.keeps t [.cfg])) ∧
  (∀ (j : UpdJob) (bs : List Byte) (s : State), s.cspLives = true → s.cfg.phase = .none → s.cfg.job = some j → j.csp = true →
      j.ended = false → 1 ≤ bs.length → bs.length ≤ 4096 →
    Runs (.cspData true bs) s (fun t => t.cfg.job = some { j with bytes := j.bytes ++ bs } ∧ s.keeps t [.cfg]) ∧
    Runs (.cspEnd true) s (fun t => t.cfg.job = some { j with ended := true } ∧ s.keeps t [.cfg])) ∧
  (∀ (bs : List Byte) (s : State), s.cspLives = true → (bs.length = 0 ∨ 4096 < bs.length) →
    Runs (.cspData true bs) s (fun t => t.cfg.push = s.cfg.push ∧ t.cfg.job = s.cfg.job ∧ s.reported t 0x0584 0 0 none 0x11 ∧
      s.keeps t [.cfg, .fm])) ∧
  (∀ (n : Nat) (s : State), s.cspLives = true → s.cfg.phase = .pushing n →
    Runs (.cspEnd true) s (fun t => t.cfg.phase = .pushed ∧ t.cfg.push = s.cfg.push ∧ s.keeps t [.cfg])) ∧
  (∀ (len : DWord) (tgt : Byte) (s : State), s.cspLives = true → s.dev.mode.fromLoad = true → tgt.toNat < 2 →
    Runs (.cspUpdBegin true len tgt) s (fun t => ∃ u : State, u.cfg = { s.cfg with cspRow := 0 } ∧ s.keeps u [.cfg] ∧
      t = u.startDownload true (decide (tgt.toNat = 1)) 0 len.toNat)) ∧
  (∀ (len : DWord) (tgt : Byte) (x : Instr × Nat) (s : State), s.cspLives = true → s.dev.mode.fromLoad = false →
      x ∈ [(Instr.cspUpdBegin true len tgt, 0x20), (.cspUpdActivate true, 0x21), (.cspUpdConfirm true, 0x22)] →
    Runs x.1 s (fun t => t.cfg = { s.cfg with cspRow := 0 } ∧ s.reported t 0x0584 0 0 none x.2 ∧ s.keeps t [.cfg, .fm])) ∧
  (∀ s : State, s.cspLives = true → s.dev.mode.fromLoad = true →
    Runs (.cspUpdActivate true) s (fun t => ∃ u : State, u.cfg = { s.cfg with cspRow := 0 } ∧ s.keeps u [.cfg] ∧ t = u.activate true) ∧
    Runs (.cspUpdConfirm true) s (fun t => ∃ u : State, u.cfg = { s.cfg with cspRow := 0 } ∧ s.keeps u [.cfg] ∧ t = u.confirmTrial true)) ∧
  (∀ s : State, s.cspLives = true → s.cfg.job = none → s.cfg.phase.pushes = false →
    Runs .cspTimeout s (fun t => t.cfg.cspRow = s.cfg.cspRow + 1 ∧ t.cfg.cspTimeouts = satInc s.cfg.cspTimeouts 0xFF ∧
      (s.cfg.cspRow < 2 → t.cfg.cspDead = s.cfg.cspDead ∧ s.reported t 0x0580 0 0 none 0) ∧ (2 ≤ s.cfg.cspRow → t.cfg.cspDead = true) ∧
      s.keeps t [.cfg, .fm])) ∧
  (∀ (j : UpdJob) (s : State), s.cspLives = true → s.cfg.job = some j → j.csp = true → s.cfg.phase.pushes = false →
    Runs .cspTimeout s (fun t => t.cfg.job = none ∧ t.cfg.updStage = .aborted ∧ t.cfg.updResult = 0x41 ∧ s.keeps t [.cfg, .fm])) ∧
  (∀ (n : Nat) (s : State), s.cspLives = true → s.cfg.phase = .pushing n → s.cfg.cspRow < 2 →
    Runs .cspTimeout s (fun t => ∃ (u : State) (c : Nat), c < 256 ∧ t = u.pushRefused c ∧ u.cfg.cspRow = s.cfg.cspRow + 1 ∧
      s.keeps u [.cfg, .fm, .freeCtr])) ∧
  (∀ s : State, s.cfg.cspDead = true →
    Runs .cspRevived s (fun t => t.cfg = { s.cfg with cspDead := false, cspRow := 0 } ∧ s.reported t 0x0582 0 0 none 0 ∧
      s.keeps t [.cfg, .fm])) ∧
  (∀ s : State, s.cfg.cspDead = false → Runs .cspRevived s (fun t => t = s)) ∧
  (∀ s : State, s.dev.mode = .load → s.cfg.phase = .cspWait →
    Runs .cspBootWaitExpire s (fun t => t = s.loadFlash ∧
      ((t.dev.mode = .safe ∧ t.dev.cause = .config) ∨ (t.dev.mode = .load ∧ ∃ k trial, t.cfg.phase = .copy k trial)))) ∧
  (∀ s : State, s.dev.mode = .load → s.cfg.phase = .cspWait → (s.cfg.lc = 0 ∨ s.cfg.lc = 5) →
    Runs .cspBootWaitExpire s (fun t => t.dev.mode = .safe ∧ t.dev.cause = .config)) ∧
  (∀ s : State, s.dev.mode ≠ .load → Runs .cspBootWaitExpire s (fun t => t = s)) ∧
  (∀ s : State, s.cfg.phase ≠ .cspWait → Runs .cspBootWaitExpire s (fun t => t = s))) ∧
  (
  (∀ (k : Nat) (trial : Bool) (s : State), s.dev.mode = .load → s.cfg.phase = .copy k trial →
    Runs .configLoadComplete s (fun t =>
      (s.checkCopy (slotKind k) (slotBytes k) .flash (s.slotData k) true = 0 →
        t = s.loadPassed (bootSrcOf k) (if k = 2 then 0 else (s.stageRec k).cseq) trial (s.slotData k) (pkgSecs (s.slotData k)) ∧
        t.dev.mode = .idle ∧ t.cfg.phase = .none ∧ t.cfg.bootSrc = k + 1 ∧ t.cfg.trial = trial ∧ t.tenants = s.tenants ∧
        t.ds = s.ds) ∧
      (s.checkCopy (slotKind k) (slotBytes k) .flash (s.slotData k) true ≠ 0 →
        t = s.loadFailed k trial (s.checkCopy (slotKind k) (slotBytes k) .flash (s.slotData k) true) ∧ k ∈ t.cfg.tried ∧
        ((t.dev.mode = .safe ∧ t.dev.cause = .config) ∨ (t.dev.mode = .load ∧ ∃ j b, t.cfg.phase = .copy j b))))) ∧
  (∀ s : State, s.dev.mode = .load → s.cfg.phase = .pushed →
    Runs .configLoadComplete s (fun t => t.cfg.push = [] ∧
      (s.checkCopy kConfig s.cfg.push.length .push s.cfg.push true = 0 →
        t = s.loadPassed 4 0 false s.cfg.push (pkgSecs s.cfg.push) ∧ t.dev.mode = .idle ∧ t.cfg.phase = .none ∧ t.cfg.bootSrc = 4) ∧
      (s.checkCopy kConfig s.cfg.push.length .push s.cfg.push true ≠ 0 →
        t = s.pushRefused (s.checkCopy kConfig s.cfg.push.length .push s.cfg.push true) ∧
        ((t.dev.mode = .safe ∧ t.dev.cause = .config) ∨ (t.dev.mode = .load ∧ ∃ j b, t.cfg.phase = .copy j b))))) ∧
  (∀ s : State, (∀ k b, s.cfg.phase ≠ .copy k b) → s.cfg.phase ≠ .pushed → Runs .configLoadComplete s (fun t => t = s)) ∧
  (∀ s : State, s.dev.mode ≠ .load → Runs .configLoadComplete s (fun t => t = s)) ∧
  (∀ (src cseq : Nat) (trial : Bool) (bs : List Byte) (l : List Sec) (s : State),
    (s.loadPassed src cseq trial bs l).dev.mode = .idle ∧ (s.loadPassed src cseq trial bs l).cfg.bootSrc = src ∧
    (s.loadPassed src cseq trial bs l).cfg.bootSeq = cseq ∧ (s.loadPassed src cseq trial bs l).cfg.phase = .none ∧
    (s.loadPassed src cseq trial bs l).tenants = s.tenants ∧ (s.loadPassed src cseq trial bs l).ds = s.ds) ∧
  (∀ (c : SafeCause) (s : State), s.dev.mode.maySafe = true →
    (s.enterSafe c).dev.mode = .safe ∧ (s.enterSafe c).dev.cause = c ∧ (s.enterSafe c).regs = s.regs ∧ (s.enterSafe c).ds = s.ds ∧
    (s.enterSafe c).tenants = s.tenants) ∧
  (∀ (c : SafeCause) (s : State), s.dev.mode.maySafe = false → s.enterSafe c = s) ∧
  (∀ s : State, (s.cfg.lc = 0 ∨ s.cfg.lc = 5 ∨ s.nextCopy = none) → s.loadNext = s.loadSafe) ∧
  (∀ s : State, s.dev.mode.maySafe = true → s.loadSafe.dev.mode = .safe ∧ s.loadSafe.dev.cause = .config ∧ s.loadSafe.regs = s.regs ∧
    s.loadSafe.tenants = s.tenants) ∧
  (∀ s : State, s.pwr.bkpReset = false → s.loadSafe = s.enterSafe .config) ∧
  (∀ (k : Nat) (s : State), s.cfg.lc ≠ 0 → s.cfg.lc ≠ 5 → s.nextCopy = some (k, false) →
    s.loadNext.cfg.phase = .copy k false ∧ s.keeps s.loadNext [.cfg]) ∧
  (∀ (k : Nat) (s : State), s.cfg.lc ≠ 0 → s.cfg.lc ≠ 5 → s.nextCopy = some (k, true) →
    s.loadNext.cfg.phase = .copy k true ∧ (s.loadNext.stageRec k).stage = .trial ∧ s.keeps s.loadNext [.cfg, .fm]))

/-- Updates and counters (R444, R445, R448): one operation at a time, where the mode and the life-cycle state permit it; DOWNLOAD takes
a slot, ACTIVATE checks it, CONFIRM ends the trial; a counter only rises. -/
def Obligations.Updates : Prop :=
  (∀ (bay : Bool) (s : State), s.dev.mode.idleToDerate = true → s.cfg.job = none →
      s.reg 0x50050 + 2 ^ 32 * s.reg 0x50054 + s.reg 0x50058 ≤ s.rsize 0 →
    Runs (.updDownload bay) s (fun t =>
      t = s.startDownload false bay (s.reg 0x50050 + 2 ^ 32 * s.reg 0x50054) (s.reg 0x50058))) ∧
  (∀ (bay : Bool) (s : State), s.dev.mode.idleToDerate = true → s.cfg.job = none →
      s.rsize 0 < s.reg 0x50050 + 2 ^ 32 * s.reg 0x50054 + s.reg 0x50058 →
      lcPermits s.cfg.lc (if bay then .updateBay else .update) = true →
    Runs (.updDownload bay) s (fun t => t.cfg.job = none ∧ t.cfg.updStage = .aborted ∧ t.cfg.updResult = 0x41 ∧ s.keeps t [.cfg, .fm])) ∧
  (∀ (bay : Bool) (c : Instr) (s : State), c ∈ [Instr.updDownload bay, .updActivate, .updConfirm] → s.dev.mode.configured = false →
    Runs c s (fun t => t = s)) ∧
  (∀ s : State, s.dev.mode.idleToDerate = true → s.cfg.job = none →
    Runs .updActivate s (fun t => t = s.activate false) ∧ Runs .updConfirm s (fun t => t = s.confirmTrial false)) ∧
  (∀ (bay : Bool) (c : Instr) (s : State), c ∈ [Instr.updDownload bay, .updActivate, .updConfirm] → s.dev.mode.configured = true →
      (s.dev.mode = .safe ∨ s.cfg.job ≠ none) →
    Runs c s (fun t => t = s.accState 0x5005C ∧ s.keeps t [.fm])) ∧
  (∀ (csp bay : Bool) (off len : Nat) (s : State), s.cfg.job = none → lcPermits s.cfg.lc (if bay then .updateBay else .update) = true →
    ((∃ j, (s.startDownload csp bay off len).cfg.job = some j ∧ j.slot = (if bay then 2 else s.targetSlot) ∧ j.cseq = s.topCseq + 1 ∧
      j.csp = csp ∧ j.off = off ∧ j.len = len ∧ j.bytes = []) ∧ (s.startDownload csp bay off len).cfg.updStage = .download ∧
      s.keeps (s.startDownload csp bay off len) [.cfg, .fm])) ∧
  (∀ (csp bay : Bool) (off len : Nat) (s : State),
    (s.cfg.job ≠ none → (s.startDownload csp bay off len).cfg = { s.cfg with updResult := 0x42, updCsp := csp }) ∧
    (s.cfg.job = none → lcPermits s.cfg.lc (if bay then .updateBay else .update) = false →
      (s.startDownload csp bay off len).cfg = { s.cfg with updResult := 0x09, updCsp := csp })) ∧
  (∀ (csp : Bool) (s : State), s.cfg.job = none →
    ([0, 1].find? (fun k => decide ((s.stageRec k).stage = .verified)) = none →
      (s.activate csp).cfg = { s.cfg with updResult := 0x43, updCsp := csp }) ∧
    (∀ k, [0, 1].find? (fun k => decide ((s.stageRec k).stage = .verified)) = some k →
      ((s.activate csp).cfg.updStage = .activated ∨ (s.activate csp).cfg.updStage = .aborted) ∧
      ((s.activate csp).cfg.updResult = 0 ↔ (s.activate csp).cfg.updStage = .activated) ∧ s.keeps (s.activate csp) [.cfg, .fm])) ∧
  (∀ (csp : Bool) (s : State), s.cfg.job = none → (s.cfg.bootSrc = 1 ∨ s.cfg.bootSrc = 2) →
      (s.stageRec (s.cfg.bootSrc - 1)).stage = .trial →
    (s.confirmTrial csp).cfg.updStage = .confirmed ∧ (s.confirmTrial csp).cfg.updResult = 0 ∧ (s.confirmTrial csp).cfg.trial = false ∧
    s.cfg.rollback ≤ (s.confirmTrial csp).mc 0 ∧ s.mc 0 ≤ (s.confirmTrial csp).mc 0 ∧ s.keeps (s.confirmTrial csp) [.cfg, .fm]) ∧
  (∀ (rs : List (Fin 384 × BitVec 16)) (f : Option (Fin 384)) (s : State), s.cfg.job = none →
    Runs (.downloadComplete rs f) s (fun t => t = s)) ∧
  (∀ (rs : List (Fin 384 × BitVec 16)) (f : Option (Fin 384)) (j : UpdJob) (s : State), s.cfg.job = some j →
    (j.csp = true → j.ended = false → Runs (.downloadComplete rs f) s (fun t => t = s)) ∧
    (j.csp = true → j.ended = true →
      Runs (.downloadComplete rs f) s (fun t => t = s.finishDownload j j.bytes rs (f.map (fun x => x.val)) ∧ s.keeps t [.cfg, .fm])) ∧
    (j.csp = false → s.rangePoisoned (s.rbase 0 + j.off) j.len = false → Runs (.downloadComplete rs f) s (fun t =>
      t = s.finishDownload j (s.ds.readBytes (s.rbase 0 + j.off) j.len) rs (f.map (fun x => x.val)) ∧ s.keeps t [.cfg, .fm])) ∧
    (j.csp = false → s.rangePoisoned (s.rbase 0 + j.off) j.len = true → Runs (.downloadComplete rs f) s (fun t =>
      t.cfg.job = none ∧ t.cfg.updStage = .aborted ∧ t.cfg.updResult = 0x41 ∧ s.keeps t [.cfg, .fm]))) ∧
  (∀ (rs : List (Fin 384 × BitVec 16)) (j : UpdJob) (bs : List Byte) (s : State), s.cfg.job = some j → s.cfg.flash.noSpare = [] →
    (s.finishDownload j bs rs none).cfg.job = none ∧
    Map.get (s.finishDownload j bs rs none).cfg.flash.slots [] j.slot = bs.take (slotBytes j.slot) ∧
    ((s.finishDownload j bs rs none).cfg.updStage = .verified ∨ (s.finishDownload j bs rs none).cfg.updStage = .aborted) ∧
    ((s.finishDownload j bs rs none).cfg.updResult = 0 ↔ (s.finishDownload j bs rs none).cfg.updStage = .verified)) ∧
  (∀ (k : BitVec 2) (s : State), s.dev.mode.configured = false → Runs (.mcRaise k) s (fun t => t = s)) ∧
  (∀ (k : BitVec 2) (s : State), s.dev.mode.configured = true →
    ((k = 0 ∨ s.reg 0x50040 < s.mc k.toNat) → Runs (.mcRaise k) s (fun t => t = s.accValue 0x50044 ∧ s.keeps t [.fm])) ∧
    (k ≠ 0 → s.reg 0x50040 = s.mc k.toNat → Runs (.mcRaise k) s (fun t => t = s)) ∧
    (k ≠ 0 → s.mc k.toNat < s.reg 0x50040 → Runs (.mcRaise k) s (fun t => t.mc k.toNat = s.reg 0x50040 ∧
      (∀ j, j ≠ k.toNat → t.mc j = s.mc j) ∧ s.keeps t [.cfg, .fm])))

/-- Sorrel (R431, R434, Table 15-7): it reads the loaded frames in turn, corrects one bit, and takes the device to SAFE for a core frame
that it cannot correct; in SAFE an error is recorded only. Sage (R464, R465, Tables 16-10 and 16-11): a test starts only in
MANUFACTURE or RMA with the device idle and empty; a passed one has its effect; a life-cycle transition is recorded and waits for
the next reset. -/
def Obligations.SageUnit : Prop :=
  (
  (∀ (a : Nat) (s : State), s.dev.mode.configured = true → s.nextFrame = some a →
    Runs (.sorrelFrameRead .clean) s (fun t => t.cfg = { s.cfg with pos := some a } ∧ s.keeps t [.cfg]) ∧
    Runs (.sorrelFrameRead .single) s (fun t => t.cfg = { s.cfg with pos := some a, ce := satInc s.cfg.ce 0xFFFF } ∧
      s.reported t 0x0404 1 0 none a ∧ s.keeps t [.cfg, .fm]) ∧
    (∀ f ∈ [ErrFound.double, .multi], frameSpace a = 0 → s.dev.mode ≠ .safe → Runs (.sorrelFrameRead f) s (fun t => t.dev.mode = .safe ∧
      t.dev.cause = .config ∧ t.cfg.ue = satInc s.cfg.ue 0xFF ∧ t.cfg.pos = some a ∧ t.regs = s.regs ∧ t.ds = s.ds)) ∧
    (∀ f ∈ [ErrFound.double, .multi], s.dev.mode = .safe → Runs (.sorrelFrameRead f) s (fun t =>
      t.cfg = { s.cfg with pos := some a, ue := satInc s.cfg.ue 0xFF } ∧ t.dev = s.dev ∧
      (frameSpace a ≠ 0 → s.reported t 0x0405 4 0 none a) ∧ s.keeps t [.cfg, .fm])) ∧
    (∀ f ∈ [ErrFound.double, .multi], frameSpace a ≠ 0 → s.dev.mode ≠ .safe → s.spaceBanks (frameSpace a) = [] →
      Runs (.sorrelFrameRead f) s (fun t => a ∈ t.cfg.bad ∧ t.cfg.ue = satInc s.cfg.ue 0xFF ∧
        (3 ≤ frameSpace a → frameSpace a - 3 ∉ t.edg.loaded) ∧ t.dev = s.dev ∧ s.keeps t [.cfg, .fm, .edg]))) ∧
  (∀ (f : ErrFound) (s : State), s.nextFrame = none → Runs (.sorrelFrameRead f) s (fun t => t = s)) ∧
  (∀ (f : ErrFound) (s : State), s.dev.mode.configured = false → Runs (.sorrelFrameRead f) s (fun t => t = s))) ∧
  (
  (∀ (n : PTileId) (k : Stack4) (j : Fin 4) (s : State), s.dev.mode.configured = true → s.sageMay = true →
    Runs (.sageTileLbist n) s (fun t => t.sage = { s.sage with state := 1, test := 1, arg := n.val, fails := 0 } ∧ s.keeps t [.sage]) ∧
    Runs (.sageTileMbist n) s (fun t => t.sage = { s.sage with state := 1, test := 2, arg := n.val, fails := 0 } ∧ s.keeps t [.sage]) ∧
    Runs (.sageDsMarch k) s (fun t => t.sage = { s.sage with state := 1, test := 3, arg := k.val, fails := 0 } ∧ s.keeps t [.sage]) ∧
    Runs (.sageFuseColumn n) s (fun t => t.sage = { s.sage with state := 1, test := 4, arg := n.val, fails := 0 } ∧ s.keeps t [.sage]) ∧
    Runs (.sageDsHppr k) s (fun t => t.sage = { s.sage with state := 1, test := 5, arg := k.val, fails := 0 } ∧ s.keeps t [.sage]) ∧
    Runs (.sageKeyRevoke j) s (fun t => t.sage = { s.sage with state := 1, test := 7, arg := j.val, fails := 0 } ∧ s.keeps t [.sage])) ∧
  (∀ (j : Fin 4) (s : State), s.dev.mode.configured = true → s.sageMay = true → s.cfg.lc = 1 → (∀ e ∈ s.sage.keys, e.1 ≠ j.val) →
    Runs (.sageKeyFuse j) s (fun t => t.sage = { s.sage with state := 1, test := 6, arg := j.val, fails := 0 } ∧ s.keeps t [.sage])) ∧
  (∀ (n : PTileId) (k : Stack4) (j : Fin 4) (c : Instr) (s : State), s.dev.mode.configured = true →
      c ∈ [Instr.sageTileLbist n, .sageTileMbist n, .sageDsMarch k, .sageFuseColumn n, .sageDsHppr k, .sageKeyFuse j, .sageKeyRevoke j] →
      (s.sageMay = false ∨ (c = .sageKeyFuse j ∧ (s.cfg.lc ≠ 1 ∨ ∃ e ∈ s.sage.keys, e.1 = j.val))) →
    Runs c s (fun t => t = s.accState 0x60100 ∧ s.keeps t [.fm])) ∧
  (∀ (n : PTileId) (k : Stack4) (j : Fin 4) (nx : BitVec 3) (key : Byte) (c : Instr) (s : State), s.dev.mode.configured = false →
      c ∈ [Instr.sageTileLbist n, .sageTileMbist n, .sageDsMarch k, .sageFuseColumn n, .sageDsHppr k, .sageKeyFuse j, .sageKeyRevoke j,
        .sageLcWrite nx key] →
    Runs c s (fun t => t = s)) ∧
  (∀ s : State, s.sageMay = true → (s.cfg.lc = 1 ∨ s.cfg.lc = 4) ∧ s.dev.mode = .idle ∧ (∀ e ∈ s.tenants, e.2.img = none) ∧
    s.sage.state ≠ 1) ∧
  (∀ (sig : DWord) (s : State), s.sage.state = 1 → s.sage.test = 7 →
    Runs (.sageTestDone 0 sig) s (fun t => t.sage.state = 2 ∧ s.sage.arg ∈ t.sage.revoked ∧ t.sage.keys = s.sage.keys ∧
      s.reported t 0x0353 0 0 none (7 + 2 ^ 8 * 2) ∧ s.keeps t [.sage, .fm])) ∧
  (∀ (sig : DWord) (s : State), s.sage.state = 1 → s.sage.test = 6 →
    Runs (.sageTestDone 0 sig) s (fun t => Map.get t.sage.keys 0 s.sage.arg = s.sageDigest ∧ t.sage.state = 2 ∧ s.keeps t [.sage, .fm])) ∧
  (∀ (n : BitVec 16) (sig : DWord) (s : State), s.sage.state = 1 → (s.sage.test = 4 ∨ s.sage.test = 6 ∨ s.sage.test = 7) → n ≠ 0 →
    Runs (.sageTestDone n sig) s (fun t => t.sage = { s.sage with state := 3, fails := n.toNat } ∧ s.keeps t [.sage, .fm])) ∧
  (∀ (n : BitVec 16) (sig : DWord) (s : State), s.sage.state = 1 → s.sage.test = 1 →
    Runs (.sageTestDone n sig) s (fun t => Map.get t.sage.sig 0 s.sage.arg = sig ∧ (∀ l, s.ltileOfPhys s.sage.arg = some l → t.tile l = {}) ∧
      s.keeps t [.sage, .fm, .tiles, .sched])) ∧
  (∀ (n : BitVec 16) (sig : DWord) (s : State), s.sage.state = 1 → s.sage.test = 2 →
    Runs (.sageTestDone n sig) s (fun t => t.sage.sig = s.sage.sig ∧ t.sage.state = (if n = 0 then 2 else 3) ∧
      (∀ l, s.ltileOfPhys s.sage.arg = some l → t.tile l = {}) ∧ s.keeps t [.sage, .fm, .tiles, .sched])) ∧
  (∀ (n : BitVec 16) (sig : DWord) (s : State), s.sage.state = 1 → s.sage.test = 3 →
    Runs (.sageTestDone n sig) s (fun t => t.sage.state = (if n = 0 then 2 else 3) ∧ t.freeCtr = s.freeCtr +
      (s.ds.filter (fun c => decide (dsStack c.1 = s.sage.arg))).length ∧ s.keeps t [.sage, .fm, .ds, .freeCtr])) ∧
  (∀ (sig : DWord) (s : State), s.sage.state = 1 → s.sage.test = 4 →
    Runs (.sageTestDone 0 sig) s (fun t =>
      t.sage.fused = s.sage.fused ++ s.sage.soft.filter (fun c => decide (c.1 = s.sage.arg)) ∧
      t.sage.soft = s.sage.soft.filter (fun c => decide (c.1 ≠ s.sage.arg)) ∧ s.keeps t [.sage, .fm])) ∧
  (∀ (sig : DWord) (s : State), s.sage.state = 1 → s.sage.test = 5 →
    Runs (.sageTestDone 0 sig) s (fun t =>
      t.cfg.flash.repairs = s.cfg.flash.repairs.filter (fun e => decide (e.1 % 4 ≠ s.sage.arg)) ∧
      t.sage.hard = s.sage.hard ++ (s.cfg.flash.repairs.filter (fun e => decide (e.1 % 4 = s.sage.arg))).map (fun e => e.1) ∧
      s.keeps t [.sage, .fm, .cfg])) ∧
  (∀ (n : BitVec 16) (sig : DWord) (s : State), s.sage.state ≠ 1 → Runs (.sageTestDone n sig) s (fun t => t = s)) ∧
  (∀ (nx : BitVec 3) (s : State), s.dev.mode.configured = true → s.lcMay nx.toNat = true →
    Runs (.sageLcWrite nx 0xA5) s (fun t => t.cfg.lcNext = some nx.toNat ∧ t.cfg.lc = s.cfg.lc ∧
      (∃ r, t.cfg.flash.state = some r ∧ r.lc = nx.toNat) ∧ s.keeps t [.cfg, .fm])) ∧
  (∀ (nx : BitVec 3) (key : Byte) (s : State), s.dev.mode.configured = true → key ≠ 0xA5 →
    Runs (.sageLcWrite nx key) s (fun t => t = s.accKey 0x60110 ∧ s.keeps t [.fm])) ∧
  (∀ (nx : BitVec 3) (s : State), s.dev.mode.configured = true → s.lcMay nx.toNat = false →
    Runs (.sageLcWrite nx 0xA5) s (fun t => t = s.accState 0x60110 ∧ s.keeps t [.fm])) ∧
  (∀ (nx : Nat) (s : State), s.lcMay nx = true → s.cfg.lc ≠ 5 ∧ (nx = 1 ∨ nx = 2 ∨ nx = 3 ∨ nx = 4 ∨ nx = 5) ∧ (nx ≠ 5 → s.cfg.lc < nx)))

/-- The analogue monitor (R468 to R478): a code stands for its value, the conversions go through the sequence, an urgent temperature
comes first, two readings in a row at shutdown take the device to SAFE with cause THERMAL; the spare slice takes the oldest one's
place; a value beyond a limit sets the alarm and is recorded once; an open-wire test says whether the input is open. -/
def Obligations.AnalogueMonitor : Prop :=
  (∀ (i c : Nat) (high : Bool), c ≤ 16384 → anaValue i high c ≤ anaFactor i * anaFs high ∧ anaValue i high 0 = 0 ∧
    (∀ d, c ≤ d → anaValue i high c ≤ anaValue i high d)) ∧
  (∀ s : State, s.anaReady = true ↔ s.dev.mode.afterReset = true ∧ (s.dev.mode = .selftest → 5 ≤ s.ana.cal.length)) ∧
  (∀ (raw cal : BitVec 14) (k : Fin 5) (tmp : BitVec 16) (due : Bool) (s : State), s.anaReady = false →
    Runs (.anaConversion raw cal k tmp due) s (fun t => t = s)) ∧
  (∀ (raw cal : BitVec 14) (k : Fin 5) (tmp : BitVec 16) (due : Bool) (s : State), s.anaReady = true → s.ana.urgent = [] →
      s.pwr.thermalWarn = false → s.anaNext due = (24, false) →
    Runs (.anaConversion raw cal k tmp due) s (fun t => t.ana.pos = 25 ∧ (Map.get t.ana.res {} 24).valid = true ∧
      (Map.get t.ana.res {} 24).value = (if raw.toNat = 16383 then 60000 else (anaValue 24 true cal.toNat : Int)) ∧
      t.pwr.vinN = s.pwr.vinN + 1 ∧ s.keeps t [.ana, .pwr, .fm])) ∧
  (∀ (raw cal : BitVec 14) (k : Fin 5) (tmp : BitVec 16) (due : Bool) (s : State), s.anaReady = true → s.ana.urgent = [] →
      s.pwr.thermalWarn = false →
    Runs (.anaConversion raw cal k tmp due) s (fun t => ∃ u : State, u.ana.pos = (s.anaNext due).1 + 1 ∧ s.keeps u [.ana] ∧
      u.ana.res = s.ana.res ∧ t = u.anaEntry (s.anaNext due).1 raw.toNat cal.toNat k tmp.toInt)) ∧
  (∀ (e raw cal k : Nat) (tmp : Int) (s : State), e < 31 → s.anaOw e = false → (s.anaEnt e).enabled = true →
    (Map.get (s.anaEntry e raw cal k tmp).ana.res {} e).valid = true ∧
    (Map.get (s.anaEntry e raw cal k tmp).ana.res {} e).count = ((Map.get s.ana.res {} e).count + 1) % 256 ∧
    (Map.get (s.anaEntry e raw cal k tmp).ana.res {} e).high = (if s.anaMode e = 2 then (s.anaEnt e).high else decide (s.anaMode e = 1)) ∧
    (Map.get (s.anaEntry e raw cal k tmp).ana.res {} e).value =
      (if raw = 16383 then
        anaFactor e * anaFs (if s.anaMode e = 2 then (s.anaEnt e).high else decide (s.anaMode e = 1))
      else anaValue e (if s.anaMode e = 2 then (s.anaEnt e).high else decide (s.anaMode e = 1)) cal : Nat)) ∧
  (∀ (raw cal : BitVec 14) (k : Fin 5) (tmp : BitVec 16) (due : Bool) (i : Nat) (s : State), s.anaReady = true →
      s.ana.urgent = [i] → s.pwr.thermalWarn = false → 31 ≤ i → i < 39 → tmp.toInt < tLim + 40 →
    Runs (.anaConversion raw cal k tmp due) s (fun t => t.ana.urgent = [] ∧ (Map.get t.ana.res {} i).value = tmp.toInt ∧
      (Map.get t.ana.res {} i).urgent = true ∧ t.ana.pos = s.ana.pos ∧ Map.get t.ana.hot 0 i = 0 ∧ t.dev = s.dev ∧
      s.keeps t [.ana, .pwr, .fm])) ∧
  (∀ (raw cal : BitVec 14) (k : Fin 5) (tmp : BitVec 16) (due : Bool) (i : Nat) (s : State), s.anaReady = true →
      s.dev.mode.maySafe = true → s.ana.urgent = [i] → s.pwr.thermalWarn = false → 31 ≤ i → i < 39 → tLim + 40 ≤ tmp.toInt →
      1 ≤ Map.get s.ana.hot 0 i →
    Runs (.anaConversion raw cal k tmp due) s (fun t => t.dev.mode = .safe ∧ t.dev.cause = .thermal ∧ t.regs = s.regs ∧ t.ds = s.ds)) ∧
  (∀ (k : Fin 5) (ol oh gl gh : BitVec 16) (s : State), s.dev.mode.afterReset = false →
    Runs (.anaCalRotate k ol oh gl gh) s (fun t => t = s)) ∧
  (∀ (k : Fin 5) (ol oh gl gh : BitVec 16) (o : Nat) (r : List Nat) (s : State), s.dev.mode.afterReset = true → s.dev.mode ≠ .selftest →
      s.ana.spare = some k.val → s.ana.rota = o :: r →
      calFails ((s.ana.cal.find? (fun e => decide (e.1 = k.val))).map (fun e => e.2)) ol.toInt oh.toInt gl.toInt gh.toInt = false →
    Runs (.anaCalRotate k ol oh gl gh) s (fun t => t.ana.rota = r ++ [k.val] ∧ t.ana.spare = some o ∧
      Map.get t.ana.cal (0, 0) k = (ol.toInt, oh.toInt) ∧ s.keeps t [.ana])) ∧
  (∀ (k : Fin 5) (ol oh gl gh : BitVec 16) (s : State), s.dev.mode.afterReset = true → s.dev.mode ≠ .selftest →
      s.ana.spare = some k.val → s.ana.rota.contains k.val = false → 3 ≤ s.ana.rota.length →
      calFails ((s.ana.cal.find? (fun e => decide (e.1 = k.val))).map (fun e => e.2)) ol.toInt oh.toInt gl.toInt gh.toInt = true →
    Runs (.anaCalRotate k ol oh gl gh) s (fun t => t.ana.spare = none ∧ t.ana.rota = s.ana.rota ∧ t.ana.failed = s.ana.failed ∧
      s.reported t 0x0363 4 k none (k.val + 2 ^ 4 * s.ana.rota.length) ∧ s.keeps t [.ana, .fm])) ∧
  (∀ (k : Fin 5) (ol oh gl gh : BitVec 16) (s : State), s.dev.mode ≠ .selftest → s.ana.spare ≠ some k.val →
    Runs (.anaCalRotate k ol oh gl gh) s (fun t => t = s)) ∧
  (∀ (e i : Nat) (v : Int) (high : Bool) (s : State), e < 31 →
      (v < fld (s.reg (0x30200 + 4 * e)) 0 16 ∨ (fld (s.reg (0x30200 + 4 * e)) 16 16 : Int) < v) →
    (s.anaLimit e i v high).ana.alarm.testBit i = true ∧ (Map.get (s.anaLimit e i v high).ana.ents {} e).beyond = (true : Bool) ∧
    ((s.anaEnt e).beyond = true → (s.anaLimit e i v high).fm = s.fm) ∧
    ((s.anaEnt e).beyond = false → s.reported (s.anaLimit e i v high) 0x0360 clsEvent i none
      (i + 2 ^ 8 * b2n (decide ((fld (s.reg (0x30200 + 4 * e)) 16 16 : Int) < v)) + 2 ^ 16 * (v % 65536).toNat)) ∧
    s.keeps (s.anaLimit e i v high) [.ana, .fm]) ∧
  (∀ (e u d : Nat) (s : State), (Map.get (s.openTest e u d).ana.ents {} e).isOpen = decide (1140 ≤ u ∧ d ≤ 60) ∧
    ((s.anaEnt e).isOpen = decide (1140 ≤ u ∧ d ≤ 60) → (s.openTest e u d).fm = s.fm) ∧
    ((s.anaEnt e).isOpen = false → 1140 ≤ u → d ≤ 60 → s.reported (s.openTest e u d) 0x0361 clsEvent (anaInput e) none (anaInput e)) ∧
    ((s.anaEnt e).isOpen = true → (u < 1140 ∨ 60 < d) → s.reported (s.openTest e u d) 0x0362 clsEvent (anaInput e) none (anaInput e)) ∧
    s.keeps (s.openTest e u d) [.ana, .fm]) ∧
  (∀ (e : Fin 32) (v : Word) (s : State), s.dev.mode.configured = false → Runs (.anaSeqWrite e v) s (fun t => t = s)) ∧
  (∀ (k : Fin 5) (ol oh gl gh : BitVec 16) (s : State), s.dev.mode = .selftest →
      calFails ((s.ana.cal.find? (fun e => decide (e.1 = k.val))).map (fun e => e.2)) ol.toInt oh.toInt gl.toInt gh.toInt = false →
      (s.ana.rota.contains k.val || decide (s.ana.spare = some k.val)) = true →
    Runs (.anaCalRotate k ol oh gl gh) s (fun t => t.ana.rota = s.ana.rota ∧ t.ana.spare = s.ana.spare ∧
      Map.get t.ana.cal (0, 0) k = (ol.toInt, oh.toInt) ∧ s.keeps t [.ana])) ∧
  (∀ (e : Fin 32) (v : Word) (s : State), s.dev.mode.configured = true →
    (24 ≤ e.val → Runs (.anaSeqWrite e v) s (fun t => t = s)) ∧
    (e.val < 24 → s.anaOwned e = true → Runs (.anaSeqWrite e v) s (fun t => t = s.accState (anaSeq e) ∧ s.keeps t [.fm])) ∧
    (e.val < 24 → s.anaOwned e = false → Runs (.anaSeqWrite e v) s (fun t => fld (t.reg (anaSeq e)) 6 1 = fld v.toNat 6 1 ∧
      fld (t.reg (anaSeq e)) 9 1 = fld v.toNat 9 1 ∧ (fld v.toNat 7 2 < 3 → fld (t.reg (anaSeq e)) 7 2 = fld v.toNat 7 2) ∧
      (∀ r, r ≠ anaSeq e → t.reg r = s.reg r) ∧ s.keeps t [.regs])))

/-- Register accesses (R480 to R485): an access that the BAR does not answer or whose form is not allowed has no effect; a write reaches
the enabled bytes of a register that takes bytes, is recorded on one that is written whole only, and leaves a read-only one alone; a
read completes with its data and has the side effect of its register. -/
def Obligations.RegisterAccess : Prop :=
  (∀ (pg : Option TenId) (off : BitVec 25) (d : DWord) (be : Byte) (sp : SpanAns) (s : State),
      (s.barAnswers pg = false ∨ accessOk off.toNat be.toNat = false) →
    Runs (.regWrite pg off d be sp) s (fun t => t = s) ∧ Runs (.regReadSideEffect pg off be) s (fun t => t = s)) ∧
  (∀ (d : DWord) (sp : SpanAns) (s : State), s.barAnswers none = true →
    Runs (.regWrite none 0x60200 d 15 sp) s (fun t => t.reg 0x60200 = d.toNat % 2 ^ 32 ∧ (∀ r, r ≠ 0x60200 → t.reg r = s.reg r) ∧
      s.keeps t [.regs]) ∧
    Runs (.regWrite none 0x60200 d 1 sp) s (fun t => t.reg 0x60200 = setFld (s.reg 0x60200) 0 8 (d.toNat % 2 ^ 8) ∧ s.keeps t [.regs]) ∧
    Runs (.regWrite none 0x10008 d 15 sp) s (fun t => t.floorRate = max 470 (min 1700 (fld d.toNat 0 11)) ∧ s.keeps t [.regs]) ∧
    Runs (.regWrite none 0x24 d 1 sp) s (fun t => t = s.accPartial 0x24 ∧ s.keeps t [.fm]) ∧
    Runs (.regWrite none 0 d 15 sp) s (fun t => t = s)) ∧
  (∀ (off : BitVec 25) (be : Byte) (s : State), s.barAnswers none = true → accessOk off.toNat be.toNat = true → be ≠ 255 →
    Runs (.regReadSideEffect none off be) s (fun t =>
      t.host.barOut = .data (BitVec.ofNat 64 (mergeBytes 0 (s.readReg off.toNat) be.toNat)) ∧
      s.keeps t (if 0x110000 ≤ off.toNat ∧ off.toNat < 0x134000 then [.host, .latch, .lat, .freeCtr] else [.host, .latch, .noc]))) ∧
  (∀ s : State, s.barAnswers none = true →
    Runs (.regReadSideEffect none 0x40010 15) s (fun t => (Map.get t.latch 0 0x40014).toNat = s.thy.sec % 2 ^ 32 ∧
      (Map.get t.latch 0 0x40018).toNat = s.thy.sec / 2 ^ 32 % 2 ^ 32 ∧ (Map.get t.latch 0 0x4001C).toNat = s.thy.frac % 2 ^ 32 ∧
      s.keeps t [.host, .latch]) ∧
    Runs (.regReadSideEffect none 0xA0004 15) s (fun t => t.noc.maxClass = 0 ∧ s.keeps t [.host, .noc])) ∧
  (∀ (rd : Bool) (s : State),
    Runs (.barAccessUnsupported rd) s (fun t => t.host = { s.host with barOut := if rd then .ur else .aer } ∧ s.keeps t [.host]) ∧
    Runs (.zeroLengthAccess rd) s (fun t => (rd = true → t.host = { s.host with barOut := .data 0 }) ∧ (rd = false → t = s) ∧
      s.keeps t [.host]))

/-! ### Rules of the whole machine -/

/-- In every state every command of the table is carried out: `exec` answers a next state, never a fault and never a refusal. Where a
command's condition does not hold the state stays as it is (log entry 2). -/
def Obligations.EveryCommandCompletes : Prop := ∀ (c : Instr) (s : State), ∃ t, exec c s = .next t

/-- Every step keeps the invariant of the machine: at most 64 reports wait in the intake and at most 1,024 entries of the log's ring are
unread (R229), Thyme's nanoseconds and fractions stay below one second and one nanosecond (R369, R374), and host memory, the hub
store and the deep store stay in the one form in which equal contents are equal data. -/
def Obligations.EveryStepKeepsInvariant : Prop := ∀ s t : State, s.Inv → step s = .next t → t.Inv

/-- The state after reset: mode RESET with no command waiting and nothing stored, the reset values that the register tables give, and
the invariant of the machine. The mode in which the model starts is its choice among the modes of a device without state (log entry
52). -/
def Obligations.ResetState : Prop :=
  State.reset.Inv ∧ State.reset.pending = [] ∧ State.reset.dev.mode = .reset ∧ State.reset.ds = [] ∧ State.reset.noc.hub = [] ∧
  (∀ x : Nat, (State.reset.ten x).img = none ∧ (State.reset.ten x).run = .stopped) ∧
  State.reset.readReg 0 = 0x00012192 ∧ State.reset.readReg 0x20 = 0x2 ∧ State.reset.readReg 0x10008 = 470 ∧
  State.reset.readReg 0x40030 = 0x80000000 ∧ State.reset.readReg 0x40034 = 2 ∧ State.reset.readReg 0x71000 = 0x0C18180C ∧
  State.reset.readReg 0xB0000 = 0x001F00F8 ∧ State.reset.readReg 0x80100 = 0xD8

/-- The twelve modes have the twelve codes of Table 1-3, and DEV_MODE.MODE shows that of the mode (R23); the tenants that are runnable
are those of R24. -/
def Obligations.ModesAndRunnable : Prop :=
  [Mode.off, .keep, .reset, .selftest, .load, .idle, .active, .refit, .replay, .hold, .derate, .safe].map Mode.code = List.range 12 ∧
  (∀ m n : Mode, m.code = n.code → m = n) ∧ (∀ s : State, fld (s.readReg 0x20) 0 4 = s.dev.mode.code) ∧
  (∀ t : Tenant, t.runnable = true ↔
    t.run = .running ∨ t.run = .stepping ∨ (t.run = .swapped ∧ (t.back = .running ∨ t.back = .stepping)))
end

