-- ==== Sys2Proof/Laws/Exec.lean ====
section
/-!
SUPPORT. Each command's meaning by name: one equation per constructor, true by definition.
-/
namespace Sys2Proof.Machine

@[simp] theorem exec_vinEnterRange (sel : BitVec 2) (s : State) : exec (.vinEnterRange sel) s = execVinEnterRange sel s := rfl
@[simp] theorem exec_vinLeaveRange (s : State) : exec (.vinLeaveRange) s = execVinLeaveRange s := rfl
@[simp] theorem exec_vbatRise (s : State) : exec (.vbatRise) s = execVbatRise s := rfl
@[simp] theorem exec_vbatFall (s : State) : exec (.vbatFall) s = execVbatFall s := rfl
@[simp] theorem exec_resetPin (sel : BitVec 2) (s : State) : exec (.resetPin sel) s = execResetPin sel s := rfl
@[simp] theorem exec_perst (s : State) : exec (.perst) s = execPerst s := rfl
@[simp] theorem exec_devHoldRaise (s : State) : exec (.devHoldRaise) s = execDevHoldRaise s := rfl
@[simp] theorem exec_devHoldWithdraw (s : State) : exec (.devHoldWithdraw) s = execDevHoldWithdraw s := rfl
@[simp] theorem exec_forceSafe (key : Byte) (s : State) : exec (.forceSafe key) s = execForceSafe key s := rfl
@[simp] theorem exec_softReset (key : Byte) (sel : BitVec 2) (s : State) : exec (.softReset key sel) s = execSoftReset key sel s := rfl
@[simp] theorem exec_postComplete (tiles : List PTileId) (cols : List (PTileId × Lane16 × BitVec 7)) (dies : List (Fin 8)) (unit : Fin 6) (sigs : List (PTileId × DWord)) (s : State) : exec (.postComplete tiles cols dies unit sigs) s = execPostComplete tiles cols dies unit sigs s := rfl
@[simp] theorem exec_cspBootWaitExpire (s : State) : exec (.cspBootWaitExpire) s = execCspBootWaitExpire s := rfl
@[simp] theorem exec_configLoadComplete (s : State) : exec (.configLoadComplete) s = execConfigLoadComplete s := rfl
@[simp] theorem exec_runStart (d : DRef) (ten : TenId) (count : Word) (span : SpanAns) (s : State) : exec (.runStart d ten count span) s = execRunStart d ten count span s := rfl
@[simp] theorem exec_runStop (d : DRef) (ten : TenId) (count : Word) (s : State) : exec (.runStop d ten count) s = execRunStop d ten count s := rfl
@[simp] theorem exec_runStep (d : DRef) (ten : TenId) (count : Word) (span : SpanAns) (s : State) : exec (.runStep d ten count span) s = execRunStep d ten count span s := rfl
@[simp] theorem exec_runRelease (d : DRef) (ten : TenId) (count : Word) (s : State) : exec (.runRelease d ten count) s = execRunRelease d ten count s := rfl
@[simp] theorem exec_runHold (d : DRef) (ten : TenId) (count : Word) (s : State) : exec (.runHold d ten count) s = execRunHold d ten count s := rfl
@[simp] theorem exec_stepCountExpire (ten : TenId) (s : State) : exec (.stepCountExpire ten) s = execStepCountExpire ten s := rfl
@[simp] theorem exec_stepFetch (l : TileId) (delayed : Bool) (s : State) : exec (.stepFetch l delayed) s = execStepFetch l delayed s := rfl
@[simp] theorem exec_stepGate (l : TileId) (s : State) : exec (.stepGate l) s = execStepGate l s := rfl
@[simp] theorem exec_stepEvaluate (l : TileId) (held : BitVec 16) (s : State) : exec (.stepEvaluate l held) s = execStepEvaluate l held s := rfl
@[simp] theorem exec_stepWrite (l : TileId) (s : State) : exec (.stepWrite l) s = execStepWrite l s := rfl
@[simp] theorem exec_seqNext (l : TileId) (e : SeqFind) (s : State) : exec (.seqNext l e) s = execSeqNext l e s := rfl
@[simp] theorem exec_seqEnd (l : TileId) (e : SeqFind) (s : State) : exec (.seqEnd l e) s = execSeqEnd l e s := rfl
@[simp] theorem exec_seqJump (l : TileId) (s : State) : exec (.seqJump l) s = execSeqJump l s := rfl
@[simp] theorem exec_seqLoop (l : TileId) (e : SeqFind) (s : State) : exec (.seqLoop l e) s = execSeqLoop l e s := rfl
@[simp] theorem exec_seqCall (l : TileId) (e : SeqFind) (s : State) : exec (.seqCall l e) s = execSeqCall l e s := rfl
@[simp] theorem exec_seqRet (l : TileId) (e : SeqFind) (s : State) : exec (.seqRet l e) s = execSeqRet l e s := rfl
@[simp] theorem exec_seqTrap (l : TileId) (e : SeqFind) (s : State) : exec (.seqTrap l e) s = execSeqTrap l e s := rfl
@[simp] theorem exec_seqRetx (l : TileId) (e : SeqFind) (s : State) : exec (.seqRetx l e) s = execSeqRetx l e s := rfl
@[simp] theorem exec_stackSpillAccess (l : TileId) (err : ErrFound) (parFails spBad : Bool) (s : State) : exec (.stackSpillAccess l err parFails spBad) s = execStackSpillAccess l err parFails spBad s := rfl
@[simp] theorem exec_macMul (l : TileId) (p : Lane16) (s : State) : exec (.macMul l p) s = execMacMul l p s := rfl
@[simp] theorem exec_macMac (l : TileId) (p : Lane16) (s : State) : exec (.macMac l p) s = execMacMac l p s := rfl
@[simp] theorem exec_macMsub (l : TileId) (p : Lane16) (s : State) : exec (.macMsub l p) s = execMacMsub l p s := rfl
@[simp] theorem exec_macCas (l : TileId) (p : Lane16) (s : State) : exec (.macCas l p) s = execMacCas l p s := rfl
@[simp] theorem exec_macRead (l : TileId) (p : Lane16) (s : State) : exec (.macRead l p) s = execMacRead l p s := rfl
@[simp] theorem exec_arrayRead (l : TileId) (p : Lane16) (err : ErrFound) (s : State) : exec (.arrayRead l p err) s = execArrayRead l p err s := rfl
@[simp] theorem exec_arrayWrite (l : TileId) (p : Lane16) (err : ErrFound) (s : State) : exec (.arrayWrite l p err) s = execArrayWrite l p err s := rfl
@[simp] theorem exec_arraySet (l : TileId) (p : Lane16) (err : ErrFound) (s : State) : exec (.arraySet l p err) s = execArraySet l p err s := rfl
@[simp] theorem exec_arrayClear (l : TileId) (p : Lane16) (err : ErrFound) (s : State) : exec (.arrayClear l p err) s = execArrayClear l p err s := rfl
@[simp] theorem exec_arrayScrub (l : TileId) (p : Lane16) (err : ErrFound) (s : State) : exec (.arrayScrub l p err) s = execArrayScrub l p err s := rfl
@[simp] theorem exec_deepDread (ten : TenId) (memid : Fin 64) (err : ErrFound) (s : State) : exec (.deepDread ten memid err) s = execDeepDread ten memid err s := rfl
@[simp] theorem exec_deepDwrite (ten : TenId) (memid : Fin 64) (err : ErrFound) (wbad : Bool) (s : State) : exec (.deepDwrite ten memid err wbad) s = execDeepDwrite ten memid err wbad s := rfl
@[simp] theorem exec_deepDset (ten : TenId) (memid : Fin 64) (err : ErrFound) (wbad : Bool) (s : State) : exec (.deepDset ten memid err wbad) s = execDeepDset ten memid err wbad s := rfl
@[simp] theorem exec_deepDclear (ten : TenId) (memid : Fin 64) (err : ErrFound) (wbad : Bool) (s : State) : exec (.deepDclear ten memid err wbad) s = execDeepDclear ten memid err wbad s := rfl
@[simp] theorem exec_slotArrive (p : Slot) (damaged : Bool) (s : State) : exec (.slotArrive p damaged) s = execSlotArrive p damaged s := rfl
@[simp] theorem exec_creditArrive (ten : TenId) (src dst : TileId) (word : Lane16) (occ : Nat) (ecyc : Nat) (s : State) : exec (.creditArrive ten src dst word occ ecyc) s = execCreditArrive ten src dst word occ ecyc s := rfl
@[simp] theorem exec_sendSlotDepart (l : TileId) (i : Nat) (s : State) : exec (.sendSlotDepart l i) s = execSendSlotDepart l i s := rfl
@[simp] theorem exec_tileEndReport (l : TileId) (s : State) : exec (.tileEndReport l) s = execTileEndReport l s := rfl
@[simp] theorem exec_startGrant (l : TileId) (pins : List DWord) (s : State) : exec (.startGrant l pins) s = execStartGrant l pins s := rfl
@[simp] theorem exec_checkpointDue (ten : TenId) (s : State) : exec (.checkpointDue ten) s = execCheckpointDue ten s := rfl
@[simp] theorem exec_schLsyncWrite (t : TenId) (window : BitVec 4) (s : State) : exec (.schLsyncWrite t window) s = execSchLsyncWrite t window s := rfl
@[simp] theorem exec_imageCommit (d : DRef) (ten : TenId) (off len : DWord) (s : State) : exec (.imageCommit d ten off len) s = execImageCommit d ten off len s := rfl
@[simp] theorem exec_loadCheckComplete (ten : TenId) (s : State) : exec (.loadCheckComplete ten) s = execLoadCheckComplete ten s := rfl
@[simp] theorem exec_imageDiscard (d : DRef) (ten : TenId) (s : State) : exec (.imageDiscard d ten) s = execImageDiscard d ten s := rfl
@[simp] theorem exec_tilContractClear (n : PTileId) (s : State) : exec (.tilContractClear n) s = execTilContractClear n s := rfl
@[simp] theorem exec_hazardReportPost (ten : TenId) (s : State) : exec (.hazardReportPost ten) s = execHazardReportPost ten s := rfl
@[simp] theorem exec_schDebugWrite (t : TenId) (v : Word) (s : State) : exec (.schDebugWrite t v) s = execSchDebugWrite t v s := rfl
@[simp] theorem exec_tapsPacket (l : TileId) (s : State) : exec (.tapsPacket l) s = execTapsPacket l s := rfl
@[simp] theorem exec_trapEvt (l : TileId) (s : State) : exec (.trapEvt l) s = execTrapEvt l s := rfl
@[simp] theorem exec_triggerEvaluate (q : Unit16) (span : SpanAns) (s : State) : exec (.triggerEvaluate q span) s = execTriggerEvaluate q span s := rfl
@[simp] theorem exec_trigInEdge (i : Fin 4) (level : Bool) (span : SpanAns) (s : State) : exec (.trigInEdge i level span) s = execTrigInEdge i level span s := rfl
@[simp] theorem exec_trigTimerExpire (q : Unit16) (i : Fin 2) (span : SpanAns) (s : State) : exec (.trigTimerExpire q i span) s = execTrigTimerExpire q i span s := rfl
@[simp] theorem exec_trigHoldoffEnd (q : Unit16) (s : State) : exec (.trigHoldoffEnd q) s = execTrigHoldoffEnd q s := rfl
@[simp] theorem exec_trigOutPulseEnd (i : Fin 4) (s : State) : exec (.trigOutPulseEnd i) s = execTrigOutPulseEnd i s := rfl
@[simp] theorem exec_trgOwnerWrite (q : Unit16) (by' owner : TenId) (s : State) : exec (.trgOwnerWrite q by' owner) s = execTrgOwnerWrite q by' owner s := rfl
@[simp] theorem exec_trgArm (q : Unit16) (by' : TenId) (init : BitVec 4) (ring : Ring8) (s : State) : exec (.trgArm q by' init ring) s = execTrgArm q by' init ring s := rfl
@[simp] theorem exec_trgDisarm (q : Unit16) (by' : TenId) (s : State) : exec (.trgDisarm q by') s = execTrgDisarm q by' s := rfl
@[simp] theorem exec_trgSwev (q : Unit16) (by' : TenId) (span : SpanAns) (s : State) : exec (.trgSwev q by' span) s = execTrgSwev q by' span s := rfl
@[simp] theorem exec_acqRunStart (c : Unit16) (by' : TenId) (s : State) : exec (.acqRunStart c by') s = execAcqRunStart c by' s := rfl
@[simp] theorem exec_acqRunStop (c : Unit16) (by' : TenId) (s : State) : exec (.acqRunStop c by') s = execAcqRunStop c by' s := rfl
@[simp] theorem exec_acqOwnerWrite (c : Unit16) (by' owner : TenId) (s : State) : exec (.acqOwnerWrite c by' owner) s = execAcqOwnerWrite c by' owner s := rfl
@[simp] theorem exec_acqRecordLanded (c : Unit16) (bad : BitVec 10) (s : State) : exec (.acqRecordLanded c bad) s = execAcqRecordLanded c bad s := rfl
@[simp] theorem exec_acqGapRoom (c : Unit16) (s : State) : exec (.acqGapRoom c) s = execAcqGapRoom c s := rfl
@[simp] theorem exec_acqPacingRoom (c : Unit16) (s : State) : exec (.acqPacingRoom c) s = execAcqPacingRoom c s := rfl
@[simp] theorem exec_acqPaceTimeout (c : Unit16) (ms : BitVec 16) (s : State) : exec (.acqPaceTimeout c ms) s = execAcqPaceTimeout c ms s := rfl
@[simp] theorem exec_acqRidxWrite (c : Unit16) (by' : TenId) (v : DWord) (s : State) : exec (.acqRidxWrite c by' v) s = execAcqRidxWrite c by' v s := rfl
@[simp] theorem exec_capture (d : DRef) (ten : TenId) (s : State) : exec (.capture d ten) s = execCapture d ten s := rfl
@[simp] theorem exec_captureMoveStart (s : State) : exec (.captureMoveStart) s = execCaptureMoveStart s := rfl
@[simp] theorem exec_captureMoveDone (bad : List BadWord) (s : State) : exec (.captureMoveDone bad) s = execCaptureMoveDone bad s := rfl
@[simp] theorem exec_captureLanded (pathOk : Bool) (bad : Option Word) (s : State) : exec (.captureLanded pathOk bad) s = execCaptureLanded pathOk bad s := rfl
@[simp] theorem exec_capRidxWrite (by' t : TenId) (n : BitVec 16) (s : State) : exec (.capRidxWrite by' t n) s = execCapRidxWrite by' t n s := rfl
@[simp] theorem exec_captureArea (d : DRef) (ten : TenId) (off : DWord) (slots : Byte) (s : State) : exec (.captureArea d ten off slots) s = execCaptureArea d ten off slots s := rfl
@[simp] theorem exec_checkpointLanded (ten : TenId) (bad : Option Word) (s : State) : exec (.checkpointLanded ten bad) s = execCheckpointLanded ten bad s := rfl
@[simp] theorem exec_watchdogExpire (l : TileId) (more : List TileId) (s : State) : exec (.watchdogExpire l more) s = execWatchdogExpire l more s := rfl
@[simp] theorem exec_recoveryPlacement (ten : TenId) (s : State) : exec (.recoveryPlacement ten) s = execRecoveryPlacement ten s := rfl
@[simp] theorem exec_restoreComplete (ten : TenId) (newBad oldBad : Bool) (s : State) : exec (.restoreComplete ten newBad oldBad) s = execRestoreComplete ten newBad oldBad s := rfl
@[simp] theorem exec_drainMarker (marker : BitVec 16) (s : State) : exec (.drainMarker marker) s = execDrainMarker marker s := rfl
@[simp] theorem exec_partitionTimeout (ten : TenId) (ms : Nat) (s : State) : exec (.partitionTimeout ten ms) s = execPartitionTimeout ten ms s := rfl
@[simp] theorem exec_lateErrorPacket (ten : TenId) (ring status : Byte) (tag : BitVec 16) (dseq addr : DWord) (mod : ModId) (memid : Byte) (tile : BitVec 16) (s : State) : exec (.lateErrorPacket ten ring status tag dseq addr mod memid tile) s = execLateErrorPacket ten ring status tag dseq addr mod memid tile s := rfl
@[simp] theorem exec_errorLogIntake (s : State) : exec (.errorLogIntake) s = execErrorLogIntake s := rfl
@[simp] theorem exec_errLogRidxWrite (v : Word) (s : State) : exec (.errLogRidxWrite v) s = execErrLogRidxWrite v s := rfl
@[simp] theorem exec_errCkptCfgWrite (t : TenId) (v : Word) (s : State) : exec (.errCkptCfgWrite t v) s = execErrCkptCfgWrite t v s := rfl
@[simp] theorem exec_sliceEnd (ten : TenId) (s : State) : exec (.sliceEnd ten) s = execSliceEnd ten s := rfl
@[simp] theorem exec_swapStart (s : State) : exec (.swapStart) s = execSwapStart s := rfl
@[simp] theorem exec_swapOutEmptied (v : TenId) (bad : List BadWord) (s : State) : exec (.swapOutEmptied v bad) s = execSwapOutEmptied v bad s := rfl
@[simp] theorem exec_swapInLoaded (bad : Bool) (s : State) : exec (.swapInLoaded bad) s = execSwapInLoaded bad s := rfl
@[simp] theorem exec_swapDrainDone (ten : TenId) (s : State) : exec (.swapDrainDone ten) s = execSwapDrainDone ten s := rfl
@[simp] theorem exec_rebalance (d : DRef) (ten : TenId) (pairs : List (Byte × Byte)) (s : State) : exec (.rebalance d ten pairs) s = execRebalance d ten pairs s := rfl
@[simp] theorem exec_schTregionWrite (t : TenId) (size : Bool) (v : Word) (s : State) : exec (.schTregionWrite t size v) s = execSchTregionWrite t size v s := rfl
@[simp] theorem exec_schTcfgWrite (t : TenId) (v : Word) (s : State) : exec (.schTcfgWrite t v) s = execSchTcfgWrite t v s := rfl
@[simp] theorem exec_schBwClassWrite (c : Fin 6) (v : Word) (s : State) : exec (.schBwClassWrite c v) s = execSchBwClassWrite c v s := rfl
@[simp] theorem exec_tokenWindow (s : State) : exec (.tokenWindow) s = execTokenWindow s := rfl
@[simp] theorem exec_msgOutRelease (ten : TenId) (cq : Ring8) (s : State) : exec (.msgOutRelease ten cq) s = execMsgOutRelease ten cq s := rfl
@[simp] theorem exec_basilEvaluate (used : List Word) (lk : BitVec 16) (loads : List (BitVec 16)) (waited : Bool) (share : BitVec 10) (s : State) : exec (.basilEvaluate used lk loads waited share) s = execBasilEvaluate used lk loads waited share s := rfl
@[simp] theorem exec_fastCap (iin : BitVec 16) (s : State) : exec (.fastCap iin) s = execFastCap iin s := rfl
@[simp] theorem exec_limitTrip (vin : BitVec 16) (s : State) : exec (.limitTrip vin) s = execLimitTrip vin s := rfl
@[simp] theorem exec_phaseShed (c : Fin 14) (p : Fin 7) (s : State) : exec (.phaseShed c p) s = execPhaseShed c p s := rfl
@[simp] theorem exec_converterOutOfWindow (c : Fin 14) (s : State) : exec (.converterOutOfWindow c) s = execConverterOutOfWindow c s := rfl
@[simp] theorem exec_domainFault (d : Fin 66) (s : State) : exec (.domainFault d) s = execDomainFault d s := rfl
@[simp] theorem exec_domainIdleOff (d : Fin 66) (s : State) : exec (.domainIdleOff d) s = execDomainIdleOff d s := rfl
@[simp] theorem exec_domainPowerGood (d : Fin 66) (s : State) : exec (.domainPowerGood d) s = execDomainPowerGood d s := rfl
@[simp] theorem exec_pwrDomCtlWrite (d : Fin 66) (en : Bool) (s : State) : exec (.pwrDomCtlWrite d en) s = execPwrDomCtlWrite d en s := rfl
@[simp] theorem exec_vtMoveDone (hub : Bool) (s : State) : exec (.vtMoveDone hub) s = execVtMoveDone hub s := rfl
@[simp] theorem exec_smallConfigEnter (s : State) : exec (.smallConfigEnter) s = execSmallConfigEnter s := rfl
@[simp] theorem exec_fullConfigDone (s : State) : exec (.fullConfigDone) s = execFullConfigDone s := rfl
@[simp] theorem exec_linkDetectLock (l : LinkId) (s : State) : exec (.linkDetectLock l) s = execLinkDetectLock l s := rfl
@[simp] theorem exec_linkDetectTimeout (l : LinkId) (bad : Option (Fin 2)) (s : State) : exec (.linkDetectTimeout l bad) s = execLinkDetectTimeout l bad s := rfl
@[simp] theorem exec_linkTrainDone (l : LinkId) (swap : Bool) (pol : BitVec 2) (s : State) : exec (.linkTrainDone l swap pol) s = execLinkTrainDone l swap pol s := rfl
@[simp] theorem exec_linkTrainTimeout (l : LinkId) (s : State) : exec (.linkTrainTimeout l) s = execLinkTrainTimeout l s := rfl
@[simp] theorem exec_tsReceive (l : LinkId) (line : LineIn) (ts : TrainSet) (rtt : BitVec 16) (s : State) : exec (.tsReceive l line ts rtt) s = execTsReceive l line ts rtt s := rfl
@[simp] theorem exec_linkIdentRetry (l : LinkId) (s : State) : exec (.linkIdentRetry l) s = execLinkIdentRetry l s := rfl
@[simp] theorem exec_linkFastRtEnter (l : LinkId) (line : LineIn) (cause : Fin 4) (s : State) : exec (.linkFastRtEnter l line cause) s = execLinkFastRtEnter l line cause s := rfl
@[simp] theorem exec_linkFastRtTimeout (l : LinkId) (bad : Option (Fin 2)) (s : State) : exec (.linkFastRtTimeout l bad) s = execLinkFastRtTimeout l bad s := rfl
@[simp] theorem exec_linkFullRtTimeout (l : LinkId) (s : State) : exec (.linkFullRtTimeout l) s = execLinkFullRtTimeout l s := rfl
@[simp] theorem exec_linkDownRetry (l : LinkId) (s : State) : exec (.linkDownRetry l) s = execLinkDownRetry l s := rfl
@[simp] theorem exec_frameReceiveXch (l : LinkId) (line : LineIn) (seq : BitVec 12) (damaged : Bool) (ten : TenId) (ecyc : BitVec 16) (dmod omod : ModId) (slots : List SlotEnt) (s : State) : exec (.frameReceiveXch l line seq damaged ten ecyc dmod omod slots) s = execFrameReceiveXch l line seq damaged ten ecyc dmod omod slots s := rfl
@[simp] theorem exec_slotForward (l : LinkId) (i : Nat) (s : State) : exec (.slotForward l i) s = execSlotForward l i s := rfl
@[simp] theorem exec_frameReceivePkt (l : LinkId) (line : LineIn) (seq : BitVec 12) (damaged : Bool) (p : Pkt) (s : State) : exec (.frameReceivePkt l line seq damaged p) s = execFrameReceivePkt l line seq damaged p s := rfl
@[simp] theorem exec_frameReceiveDtr (l : LinkId) (line : LineIn) (seq : BitVec 12) (damaged : Bool) (dst org : ModId) (link : LinkId) (iseq : BitVec 12) (inner : Body) (s : State) : exec (.frameReceiveDtr l line seq damaged dst org link iseq inner) s = execFrameReceiveDtr l line seq damaged dst org link iseq inner s := rfl
@[simp] theorem exec_frameReceiveCtl (l : LinkId) (line : LineIn) (damaged : Bool) (c : Ctl) (s : State) : exec (.frameReceiveCtl l line damaged c) s = execFrameReceiveCtl l line damaged c s := rfl
@[simp] theorem exec_frameTransmit (l : LinkId) (ctlDue skpDue : Bool) (delay : BitVec 10) (s : State) : exec (.frameTransmit l ctlDue skpDue delay) s = execFrameTransmit l ctlDue skpDue delay s := rfl
@[simp] theorem exec_retryAckTimeout (l : LinkId) (s : State) : exec (.retryAckTimeout l) s = execRetryAckTimeout l s := rfl
@[simp] theorem exec_fmkSend (l : LinkId) (delay : BitVec 10) (s : State) : exec (.fmkSend l delay) s = execFmkSend l delay s := rfl
@[simp] theorem exec_fmkReceive (l : LinkId) (line : LineIn) (mseq : BitVec 16) (delay : BitVec 10) (tvalid : Bool) (src : ModId) (stratum : Byte) (crcBad : Bool) (sub : Fin 80) (s : State) : exec (.fmkReceive l line mseq delay tvalid src stratum crcBad sub) s = execFmkReceive l line mseq delay tvalid src stratum crcBad sub s := rfl
@[simp] theorem exec_tokenBnd (l : LinkId) (line : LineIn) (seq : BitVec 12) (damaged : Bool) (k : Token) (s : State) : exec (.tokenBnd l line seq damaged k) s = execTokenBnd l line seq damaged k s := rfl
@[simp] theorem exec_tokenReplay (l : LinkId) (line : LineIn) (seq : BitVec 12) (damaged : Bool) (k : Token) (s : State) : exec (.tokenReplay l line seq damaged k) s = execTokenReplay l line seq damaged k s := rfl
@[simp] theorem exec_tokenPace (l : LinkId) (line : LineIn) (seq : BitVec 12) (damaged : Bool) (k : Token) (s : State) : exec (.tokenPace l line seq damaged k) s = execTokenPace l line seq damaged k s := rfl
@[simp] theorem exec_tokenDrain (l : LinkId) (line : LineIn) (seq : BitVec 12) (damaged : Bool) (k : Token) (s : State) : exec (.tokenDrain l line seq damaged k) s = execTokenDrain l line seq damaged k s := rfl
@[simp] theorem exec_tokenPartx (l : LinkId) (line : LineIn) (seq : BitVec 12) (damaged : Bool) (k : Token) (s : State) : exec (.tokenPartx l line seq damaged k) s = execTokenPartx l line seq damaged k s := rfl
@[simp] theorem exec_tokenLhold (l : LinkId) (line : LineIn) (seq : BitVec 12) (damaged : Bool) (k : Token) (s : State) : exec (.tokenLhold l line seq damaged k) s = execTokenLhold l line seq damaged k s := rfl
@[simp] theorem exec_tokenNbr (l : LinkId) (line : LineIn) (seq : BitVec 12) (damaged : Bool) (k : Token) (s : State) : exec (.tokenNbr l line seq damaged k) s = execTokenNbr l line seq damaged k s := rfl
@[simp] theorem exec_nbrSend (s : State) : exec (.nbrSend) s = execNbrSend s := rfl
@[simp] theorem exec_paceNoticeSend (ten : TenId) (s : State) : exec (.paceNoticeSend ten) s = execPaceNoticeSend ten s := rfl
@[simp] theorem exec_linkSleepEnter (l : LinkId) (s : State) : exec (.linkSleepEnter l) s = execLinkSleepEnter l s := rfl
@[simp] theorem exec_linkWake (l : LinkId) (s : State) : exec (.linkWake l) s = execLinkWake l s := rfl
@[simp] theorem exec_lnkEnable (l : LinkId) (s : State) : exec (.lnkEnable l) s = execLnkEnable l s := rfl
@[simp] theorem exec_lnkDisable (l : LinkId) (s : State) : exec (.lnkDisable l) s = execLnkDisable l s := rfl
@[simp] theorem exec_lnkModeWrite (l : LinkId) (mode : BitVec 3) (prbs : BitVec 2) (s : State) : exec (.lnkModeWrite l mode prbs) s = execLnkModeWrite l mode prbs s := rfl
@[simp] theorem exec_lnkRetrain (l : LinkId) (s : State) : exec (.lnkRetrain l) s = execLnkRetrain l s := rfl
@[simp] theorem exec_lnkClrCnt (l : LinkId) (s : State) : exec (.lnkClrCnt l) s = execLnkClrCnt l s := rfl
@[simp] theorem exec_lnkIdWrite (id : ModId) (valid : Bool) (tag : BitVec 16) (s : State) : exec (.lnkIdWrite id valid tag) s = execLnkIdWrite id valid tag s := rfl
@[simp] theorem exec_pktReqWrite (p : Pkt) (ce : Option (BitVec 12)) (s : State) : exec (.pktReqWrite p ce) s = execPktReqWrite p ce s := rfl
@[simp] theorem exec_pktReqRead (p : Pkt) (ce : Option (BitVec 12)) (err : ErrFound) (s : State) : exec (.pktReqRead p ce err) s = execPktReqRead p ce err s := rfl
@[simp] theorem exec_pktReqDeep (ten : TenId) (memid : Fin 64) (damaged : Bool) (s : State) : exec (.pktReqDeep ten memid damaged) s = execPktReqDeep ten memid damaged s := rfl
@[simp] theorem exec_pktReqRegRd (p : Pkt) (ce : Option (BitVec 12)) (s : State) : exec (.pktReqRegRd p ce) s = execPktReqRegRd p ce s := rfl
@[simp] theorem exec_pktReqRegWr (p : Pkt) (ce : Option (BitVec 12)) (s : State) : exec (.pktReqRegWr p ce) s = execPktReqRegWr p ce s := rfl
@[simp] theorem exec_pktRspData (p : Pkt) (ce : Option (BitVec 12)) (s : State) : exec (.pktRspData p ce) s = execPktRspData p ce s := rfl
@[simp] theorem exec_pktRspDeepRes (ten : TenId) (tile : TileId) (i : Nat) (damaged : Bool) (s : State) : exec (.pktRspDeepRes ten tile i damaged) s = execPktRspDeepRes ten tile i damaged s := rfl
@[simp] theorem exec_pktRspRegData (p : Pkt) (ce : Option (BitVec 12)) (s : State) : exec (.pktRspRegData p ce) s = execPktRspRegData p ce s := rfl
@[simp] theorem exec_pktRspError (p : Pkt) (ce : Option (BitVec 12)) (s : State) : exec (.pktRspError p ce) s = execPktRspError p ce s := rfl
@[simp] theorem exec_pktMgtStop (p : Pkt) (ce : Option (BitVec 12)) (s : State) : exec (.pktMgtStop p ce) s = execPktMgtStop p ce s := rfl
@[simp] theorem exec_pktMgtFault (p : Pkt) (ce : Option (BitVec 12)) (s : State) : exec (.pktMgtFault p ce) s = execPktMgtFault p ce s := rfl
@[simp] theorem exec_dsPatrolRead (k : Stack4) (err : ErrFound) (s : State) : exec (.dsPatrolRead k err) s = execDsPatrolRead k err s := rfl
@[simp] theorem exec_dsRowRepairDone (k : Stack4) (pc : Fin 32) (row : BitVec 24) (s : State) : exec (.dsRowRepairDone k pc row) s = execDsRowRepairDone k pc row s := rfl
@[simp] theorem exec_dsTempRead (k : Stack4) (t : Byte) (s : State) : exec (.dsTempRead k t) s = execDsTempRead k t s := rfl
@[simp] theorem exec_sqDoorbell (fn : TenId) (r : Ring8) (value : Word) (s : State) : exec (.sqDoorbell fn r value) s = execSqDoorbell fn r value s := rfl
@[simp] theorem exec_cqHeadWrite (fn : TenId) (r : Ring8) (value : Word) (s : State) : exec (.cqHeadWrite fn r value) s = execCqHeadWrite fn r value s := rfl
@[simp] theorem exec_sqEnable (fn : TenId) (r : Ring8) (log2 : BitVec 5) (cq : Ring8) (s : State) : exec (.sqEnable fn r log2 cq) s = execSqEnable fn r log2 cq s := rfl
@[simp] theorem exec_sqDisable (fn : TenId) (r : Ring8) (s : State) : exec (.sqDisable fn r) s = execSqDisable fn r s := rfl
@[simp] theorem exec_cqEnable (fn : TenId) (r : Ring8) (log2 : BitVec 5) (ien : Bool) (vector : Ring8) (coalCnt coalUs : Byte) (s : State) : exec (.cqEnable fn r log2 ien vector coalCnt coalUs) s = execCqEnable fn r log2 ien vector coalCnt coalUs s := rfl
@[simp] theorem exec_cqDisable (fn : TenId) (r : Ring8) (s : State) : exec (.cqDisable fn r) s = execCqDisable fn r s := rfl
@[simp] theorem exec_descriptorFetch (fn : TenId) (r : Ring8) (bytes : List Byte) (s : State) : exec (.descriptorFetch fn r bytes) s = execDescriptorFetch fn r bytes s := rfl
@[simp] theorem exec_descriptorStart (fn : TenId) (r : Ring8) (s : State) : exec (.descriptorStart fn r) s = execDescriptorStart fn r s := rfl
@[simp] theorem exec_descNop (d : DRef) (s : State) : exec (.descNop d) s = execDescNop d s := rfl
@[simp] theorem exec_descWriteDeep (d : DRef) (ten : TenId) (hostAddr : DWord) (deepOff : DWord) (len : Word) (s : State) : exec (.descWriteDeep d ten hostAddr deepOff len) s = execDescWriteDeep d ten hostAddr deepOff len s := rfl
@[simp] theorem exec_descReadDeep (d : DRef) (ten : TenId) (hostAddr : DWord) (deepOff : DWord) (len : Word) (s : State) : exec (.descReadDeep d ten hostAddr deepOff len) s = execDescReadDeep d ten hostAddr deepOff len s := rfl
@[simp] theorem exec_msgBind (d : DRef) (port : Byte) (dir : Byte) (memid : Byte) (cq : Byte) (s : State) : exec (.msgBind d port dir memid cq) s = execMsgBind d port dir memid cq s := rfl
@[simp] theorem exec_msgIn (d : DRef) (port : Byte) (len : BitVec 16) (hostAddr : DWord) (s : State) : exec (.msgIn d port len hostAddr) s = execMsgIn d port len hostAddr s := rfl
@[simp] theorem exec_msgInLand (ten : TenId) (port : Ring8) (s : State) : exec (.msgInLand ten port) s = execMsgInLand ten port s := rfl
@[simp] theorem exec_msgOut (d : DRef) (port : Byte) (cap : Word) (hostAddr : DWord) (s : State) : exec (.msgOut d port cap hostAddr) s = execMsgOut d port cap hostAddr s := rfl
@[simp] theorem exec_msgOutProcess (ten : TenId) (port : Ring8) (res : XferEnd) (s : State) : exec (.msgOutProcess ten port res) s = execMsgOutProcess ten port res s := rfl
@[simp] theorem exec_dmaTransferDone (d : DRef) (bytes : List Byte) (res : XferEnd) (s : State) : exec (.dmaTransferDone d bytes res) s = execDmaTransferDone d bytes res s := rfl
@[simp] theorem exec_completionPost (fn : TenId) (cq : Ring8) (s : State) : exec (.completionPost fn cq) s = execCompletionPost fn cq s := rfl
@[simp] theorem exec_msixCoalesceTimer (fn : TenId) (cq : Ring8) (s : State) : exec (.msixCoalesceTimer fn cq) s = execMsixCoalesceTimer fn cq s := rfl
@[simp] theorem exec_flr (fn : TenId) (s : State) : exec (.flr fn) s = execFlr fn s := rfl
@[simp] theorem exec_d3hotEnter (fn : TenId) (s : State) : exec (.d3hotEnter fn) s = execD3hotEnter fn s := rfl
@[simp] theorem exec_vfEnableClear (s : State) : exec (.vfEnableClear) s = execVfEnableClear s := rfl
@[simp] theorem exec_hotReset (s : State) : exec (.hotReset) s = execHotReset s := rfl
@[simp] theorem exec_bmeClear (fn : TenId) (s : State) : exec (.bmeClear fn) s = execBmeClear fn s := rfl
@[simp] theorem exec_pclkTrip (s : State) : exec (.pclkTrip) s = execPclkTrip s := rfl
@[simp] theorem exec_smbSetPointer (off : Word) (pec : Bool) (s : State) : exec (.smbSetPointer off pec) s = execSmbSetPointer off pec s := rfl
@[simp] theorem exec_smbBlockRead (pec : Bool) (s : State) : exec (.smbBlockRead pec) s = execSmbBlockRead pec s := rfl
@[simp] theorem exec_smbBlockWrite (v : Word) (pec : Bool) (s : State) : exec (.smbBlockWrite v pec) s = execSmbBlockWrite v pec s := rfl
@[simp] theorem exec_smbTimeout (dat : Bool) (s : State) : exec (.smbTimeout dat) s = execSmbTimeout dat s := rfl
@[simp] theorem exec_smbRevived (s : State) : exec (.smbRevived) s = execSmbRevived s := rfl
@[simp] theorem exec_thyIncApply (v : BitVec 4) (s : State) : exec (.thyIncApply v) s = execThyIncApply v s := rfl
@[simp] theorem exec_thySet (s : State) : exec (.thySet) s = execThySet s := rfl
@[simp] theorem exec_thyAdj (v : Word) (s : State) : exec (.thyAdj v) s = execThyAdj v s := rfl
@[simp] theorem exec_thySourceLoss (s : State) : exec (.thySourceLoss) s = execThySourceLoss s := rfl
@[simp] theorem exec_thySourcePrefer (l : LinkId) (s : State) : exec (.thySourcePrefer l) s = execThySourcePrefer l s := rfl
@[simp] theorem exec_thymeMarkInEdge (s : State) : exec (.thymeMarkInEdge) s = execThymeMarkInEdge s := rfl
@[simp] theorem exec_markInHoldover (s : State) : exec (.markInHoldover) s = execMarkInHoldover s := rfl
@[simp] theorem exec_markOutRise (s : State) : exec (.markOutRise) s = execMarkOutRise s := rfl
@[simp] theorem exec_markOutFall (s : State) : exec (.markOutFall) s = execMarkOutFall s := rfl
@[simp] theorem exec_tstartArm (k : Fin 4) (step : Bool) (ten : TenId) (s : State) : exec (.tstartArm k step ten) s = execTstartArm k step ten s := rfl
@[simp] theorem exec_tstartFire (k : Fin 4) (span : SpanAns) (s : State) : exec (.tstartFire k span) s = execTstartFire k span s := rfl
@[simp] theorem exec_tracePacketEnter (s : State) : exec (.tracePacketEnter) s = execTracePacketEnter s := rfl
@[simp] theorem exec_traceDrain (k : Ring8) (bad : BitVec 10) (s : State) : exec (.traceDrain k bad) s = execTraceDrain k bad s := rfl
@[simp] theorem exec_sinkEnable (k : Ring8) (s : State) : exec (.sinkEnable k) s = execSinkEnable k s := rfl
@[simp] theorem exec_sinkDisable (k : Ring8) (s : State) : exec (.sinkDisable k) s = execSinkDisable k s := rfl
@[simp] theorem exec_sinkOwnerWrite (k : Ring8) (owner : TenId) (s : State) : exec (.sinkOwnerWrite k owner) s = execSinkOwnerWrite k owner s := rfl
@[simp] theorem exec_swmarkWrite (k : Ring8) (v : Word) (s : State) : exec (.swmarkWrite k v) s = execSwmarkWrite k v s := rfl
@[simp] theorem exec_bankRelease (g : EBank) (s : State) : exec (.bankRelease g) s = execBankRelease g s := rfl
@[simp] theorem exec_bankWithdraw (g : EBank) (s : State) : exec (.bankWithdraw g) s = execBankWithdraw g s := rfl
@[simp] theorem exec_bankStageTimer (g : EBank) (pins : DWord) (s : State) : exec (.bankStageTimer g pins) s = execBankStageTimer g pins s := rfl
@[simp] theorem exec_brownoutTrip (g : EBank) (s : State) : exec (.brownoutTrip g) s = execBrownoutTrip g s := rfl
@[simp] theorem exec_targetCycleC1 (g : EBank) (s : State) : exec (.targetCycleC1 g) s = execTargetCycleC1 g s := rfl
@[simp] theorem exec_targetCycleC2 (g : EBank) (pins : DWord) (s : State) : exec (.targetCycleC2 g pins) s = execTargetCycleC2 g pins s := rfl
@[simp] theorem exec_targetCycleC3 (g : EBank) (s : State) : exec (.targetCycleC3 g) s = execTargetCycleC3 g s := rfl
@[simp] theorem exec_edgeInputDeliver (g : EBank) (s : State) : exec (.edgeInputDeliver g) s = execEdgeInputDeliver g s := rfl
@[simp] theorem exec_freePop (g : EBank) (r : Region) (s : State) : exec (.freePop g r) s = execFreePop g r s := rfl
@[simp] theorem exec_freePush (g : EBank) (r : Region) (pins : DWord) (s : State) : exec (.freePush g r pins) s = execFreePush g r pins s := rfl
@[simp] theorem exec_edgPrGo (r : Region) (s : State) : exec (.edgPrGo r) s = execEdgPrGo r s := rfl
@[simp] theorem exec_regionPrDone (s : State) : exec (.regionPrDone) s = execRegionPrDone s := rfl
@[simp] theorem exec_edgPinWrite (n : Fin 768) (v : Word) (s : State) : exec (.edgPinWrite n v) s = execEdgPinWrite n v s := rfl
@[simp] theorem exec_edgAssignWrite (u : EdgeUnit) (v : Word) (s : State) : exec (.edgAssignWrite u v) s = execEdgAssignWrite u v s := rfl
@[simp] theorem exec_edgRouteWrite (g : EBank) (inward : Bool) (v : Word) (s : State) : exec (.edgRouteWrite g inward v) s = execEdgRouteWrite g inward v s := rfl
@[simp] theorem exec_cspStatus (rdy : Bool) (s : State) : exec (.cspStatus rdy) s = execCspStatus rdy s := rfl
@[simp] theorem exec_cspPushBegin (rdy : Bool) (len : DWord) (s : State) : exec (.cspPushBegin rdy len) s = execCspPushBegin rdy len s := rfl
@[simp] theorem exec_cspData (rdy : Bool) (bytes : List Byte) (s : State) : exec (.cspData rdy bytes) s = execCspData rdy bytes s := rfl
@[simp] theorem exec_cspEnd (rdy : Bool) (s : State) : exec (.cspEnd rdy) s = execCspEnd rdy s := rfl
@[simp] theorem exec_cspUpdBegin (rdy : Bool) (len : DWord) (tgt : Byte) (s : State) : exec (.cspUpdBegin rdy len tgt) s = execCspUpdBegin rdy len tgt s := rfl
@[simp] theorem exec_cspUpdActivate (rdy : Bool) (s : State) : exec (.cspUpdActivate rdy) s = execCspUpdActivate rdy s := rfl
@[simp] theorem exec_cspUpdConfirm (rdy : Bool) (s : State) : exec (.cspUpdConfirm rdy) s = execCspUpdConfirm rdy s := rfl
@[simp] theorem exec_cspTimeout (s : State) : exec (.cspTimeout) s = execCspTimeout s := rfl
@[simp] theorem exec_cspRevived (s : State) : exec (.cspRevived) s = execCspRevived s := rfl
@[simp] theorem exec_updDownload (bay : Bool) (s : State) : exec (.updDownload bay) s = execUpdDownload bay s := rfl
@[simp] theorem exec_updActivate (s : State) : exec (.updActivate) s = execUpdActivate s := rfl
@[simp] theorem exec_updConfirm (s : State) : exec (.updConfirm) s = execUpdConfirm s := rfl
@[simp] theorem exec_downloadComplete (retries : List (Fin 384 × BitVec 16)) (failed : Option (Fin 384)) (s : State) : exec (.downloadComplete retries failed) s = execDownloadComplete retries failed s := rfl
@[simp] theorem exec_sorrelFrameRead (f : ErrFound) (s : State) : exec (.sorrelFrameRead f) s = execSorrelFrameRead f s := rfl
@[simp] theorem exec_mcRaise (k : BitVec 2) (s : State) : exec (.mcRaise k) s = execMcRaise k s := rfl
@[simp] theorem exec_ioscProven (s : State) : exec (.ioscProven) s = execIoscProven s := rfl
@[simp] theorem exec_extSourceProven (ref : Bool) (freq : Fin 4) (s : State) : exec (.extSourceProven ref freq) s = execExtSourceProven ref freq s := rfl
@[simp] theorem exec_rootLock (s : State) : exec (.rootLock) s = execRootLock s := rfl
@[simp] theorem exec_ioscTrip (s : State) : exec (.ioscTrip) s = execIoscTrip s := rfl
@[simp] theorem exec_ioscRetry (s : State) : exec (.ioscRetry) s = execIoscRetry s := rfl
@[simp] theorem exec_extRetry (s : State) : exec (.extRetry) s = execExtRetry s := rfl
@[simp] theorem exec_clockSourceTrip (s : State) : exec (.clockSourceTrip) s = execClockSourceTrip s := rfl
@[simp] theorem exec_clockSwitchLock (s : State) : exec (.clockSwitchLock) s = execClockSwitchLock s := rfl
@[simp] theorem exec_clockRevert (s : State) : exec (.clockRevert) s = execClockRevert s := rfl
@[simp] theorem exec_boundaryClockTrip (edge : Bool) (s : State) : exec (.boundaryClockTrip edge) s = execBoundaryClockTrip edge s := rfl
@[simp] theorem exec_trimWindow (err : BitVec 16) (s : State) : exec (.trimWindow err) s = execTrimWindow err s := rfl
@[simp] theorem exec_sageTileLbist (n : PTileId) (s : State) : exec (.sageTileLbist n) s = execSageTileLbist n s := rfl
@[simp] theorem exec_sageTileMbist (n : PTileId) (s : State) : exec (.sageTileMbist n) s = execSageTileMbist n s := rfl
@[simp] theorem exec_sageDsMarch (k : Stack4) (s : State) : exec (.sageDsMarch k) s = execSageDsMarch k s := rfl
@[simp] theorem exec_sageFuseColumn (n : PTileId) (s : State) : exec (.sageFuseColumn n) s = execSageFuseColumn n s := rfl
@[simp] theorem exec_sageDsHppr (k : Stack4) (s : State) : exec (.sageDsHppr k) s = execSageDsHppr k s := rfl
@[simp] theorem exec_sageKeyFuse (k : Fin 4) (s : State) : exec (.sageKeyFuse k) s = execSageKeyFuse k s := rfl
@[simp] theorem exec_sageKeyRevoke (k : Fin 4) (s : State) : exec (.sageKeyRevoke k) s = execSageKeyRevoke k s := rfl
@[simp] theorem exec_sageTestDone (fails : BitVec 16) (sig : DWord) (s : State) : exec (.sageTestDone fails sig) s = execSageTestDone fails sig s := rfl
@[simp] theorem exec_sageLcWrite (nx : BitVec 3) (key : Byte) (s : State) : exec (.sageLcWrite nx key) s = execSageLcWrite nx key s := rfl
@[simp] theorem exec_anaConversion (raw cal : BitVec 14) (slice : Fin 5) (temp : BitVec 16) (due : Bool) (s : State) : exec (.anaConversion raw cal slice temp due) s = execAnaConversion raw cal slice temp due s := rfl
@[simp] theorem exec_anaCalRotate (k : Fin 5) (offLow offHigh gainLow gainHigh : BitVec 16) (s : State) : exec (.anaCalRotate k offLow offHigh gainLow gainHigh) s = execAnaCalRotate k offLow offHigh gainLow gainHigh s := rfl
@[simp] theorem exec_anaSeqWrite (e : Fin 32) (v : Word) (s : State) : exec (.anaSeqWrite e v) s = execAnaSeqWrite e v s := rfl
@[simp] theorem exec_regWrite (page : Option TenId) (off : BitVec 25) (data : DWord) (be : Byte) (span : SpanAns) (s : State) : exec (.regWrite page off data be span) s = execRegWrite page off data be span s := rfl
@[simp] theorem exec_barAccessUnsupported (read : Bool) (s : State) : exec (.barAccessUnsupported read) s = execBarAccessUnsupported read s := rfl
@[simp] theorem exec_zeroLengthAccess (read : Bool) (s : State) : exec (.zeroLengthAccess read) s = execZeroLengthAccess read s := rfl
@[simp] theorem exec_resetNRelease (s : State) : exec (.resetNRelease) s = execResetNRelease s := rfl
@[simp] theorem exec_allSuppliesGood (s : State) : exec (.allSuppliesGood) s = execAllSuppliesGood s := rfl
@[simp] theorem exec_thymeTick (s : State) : exec (.thymeTick) s = execThymeTick s := rfl
@[simp] theorem exec_backupCountTick (s : State) : exec (.backupCountTick) s = execBackupCountTick s := rfl
@[simp] theorem exec_unselectedSourceTrip (ref : Bool) (s : State) : exec (.unselectedSourceTrip ref) s = execUnselectedSourceTrip ref s := rfl
@[simp] theorem exec_trimWindowTimeout (s : State) : exec (.trimWindowTimeout) s = execTrimWindowTimeout s := rfl
@[simp] theorem exec_drainMarkerTimeout (marker : BitVec 16) (s : State) : exec (.drainMarkerTimeout marker) s = execDrainMarkerTimeout marker s := rfl
@[simp] theorem exec_bmeSet (fn : TenId) (s : State) : exec (.bmeSet fn) s = execBmeSet fn s := rfl
@[simp] theorem exec_vfEnableSet (n : TenId) (s : State) : exec (.vfEnableSet n) s = execVfEnableSet n s := rfl
@[simp] theorem exec_pcieLinkUp (rate : BitVec 3) (width : BitVec 5) (flit l0p : Bool) (s : State) : exec (.pcieLinkUp rate width flit l0p) s = execPcieLinkUp rate width flit l0p s := rfl
@[simp] theorem exec_slpReceive (l : LinkId) (line : LineIn) (s : State) : exec (.slpReceive l line) s = execSlpReceive l line s := rfl
@[simp] theorem exec_wakReceive (l : LinkId) (line : LineIn) (s : State) : exec (.wakReceive l line) s = execWakReceive l line s := rfl
@[simp] theorem exec_regReadSideEffect (page : Option TenId) (off : BitVec 25) (be : Byte) (s : State) : exec (.regReadSideEffect page off be) s = execRegReadSideEffect page off be s := rfl

end Sys2Proof.Machine
end

