-- ==== Sys2Proof/Laws/Map.lean ====
section
/-!
SUPPORT. The laws of tables and byte memory: reading after writing, and that every operation keeps the canonical form.
-/
namespace Sys2Proof.Machine

@[simp] theorem Map.get_set_self {α : Type} (m : Map α) (d v : α) (k : Nat) : Map.get (Map.set m k v) d k = v := by
  induction m with
  | nil => simp [Map.set, Map.get]
  | cons e r ih =>
    obtain ⟨a, b⟩ := e
    simp only [Map.set]
    split
    · simp [Map.get]
    · split
      · simp [Map.get]
      · rename_i h
        have : a ≠ k := fun x => h x.symm
        simp [Map.get, this, ih]

theorem Map.get_set_ne {α : Type} (m : Map α) (d v : α) {j k : Nat} (h : j ≠ k) :
    Map.get (Map.set m k v) d j = Map.get m d j := by
  induction m with
  | nil => simp [Map.set, Map.get, Ne.symm h]
  | cons e r ih =>
    obtain ⟨a, b⟩ := e
    simp only [Map.set]
    split
    · simp [Map.get, Ne.symm h]
    · split
      · rename_i x
        subst x
        simp [Map.get, Ne.symm h]
      · simp [Map.get, ih]

theorem Map.get_set {α : Type} (m : Map α) (d v : α) (j k : Nat) :
    Map.get (Map.set m k v) d j = if j = k then v else Map.get m d j := by
  by_cases h : j = k
  · subst h; simp
  · simp [h, Map.get_set_ne m d v h]

theorem Map.get_del {α : Type} (m : Map α) (d : α) (j k : Nat) :
    Map.get (Map.del m k) d j = if j = k then d else Map.get m d j := by
  induction m with
  | nil => simp [Map.del, Map.get]
  | cons e r ih =>
    obtain ⟨a, b⟩ := e
    by_cases h : a = k
    · subst h
      have : Map.del ((a, b) :: r) a = Map.del r a := by simp [Map.del]
      rw [this, ih]
      by_cases hj : j = a
      · simp [hj]
      · simp [hj, Map.get, Ne.symm hj]
    · have : Map.del ((a, b) :: r) k = (a, b) :: Map.del r k := by simp [Map.del, h]
      rw [this]
      simp only [Map.get]
      rw [ih]
      by_cases hj : a = j
      · subst hj; simp [h]
      · simp [hj]

/-- Reading a byte after writing one (log entry 1 for what an unlisted address reads). -/
theorem Mem.read_write (m : Mem) (a x : Nat) (b : Byte) : (m.write a b).read x = if x = a then b else m.read x := by
  unfold Mem.write Mem.read
  split
  · rename_i h
    rw [Map.get_del]
    simp [h]
  · rw [Map.get_set]

/-- Every byte outside the bytes stored reads as before, and those read as stored. -/
theorem Mem.read_writeBytes (m : Mem) (a x : Nat) (bs : List Byte) :
    (m.writeBytes a bs).read x = if a ≤ x ∧ x < a + bs.length then bs.getD (x - a) 0 else m.read x := by
  induction bs generalizing m a with
  | nil =>
    have : ¬ (a ≤ x ∧ x < a + 0) := by omega
    simp only [Mem.writeBytes, List.length_nil]
    rw [if_neg this]
  | cons b r ih =>
    simp only [Mem.writeBytes, ih, Mem.read_write, List.length_cons]
    by_cases h : x = a
    · subst h
      have h1 : ¬ (x + 1 ≤ x ∧ x < x + 1 + r.length) := by omega
      have h2 : x ≤ x ∧ x < x + (r.length + 1) := by omega
      simp [h1, h2]
    · by_cases h1 : a + 1 ≤ x ∧ x < a + 1 + r.length
      · have h2 : a ≤ x ∧ x < a + (r.length + 1) := by omega
        obtain ⟨k, hk⟩ : ∃ k, x - a = k + 1 := ⟨x - a - 1, by omega⟩
        have hk' : x - (a + 1) = k := by omega
        rw [if_pos h1, if_pos h2, hk, hk']
        simp
      · have h2 : ¬ (a ≤ x ∧ x < a + (r.length + 1)) := by omega
        rw [if_neg h1, if_neg h2, if_neg h]

/-! ### The canonical form is kept -/

theorem Map.sorted_cons {α : Type} (a : Nat) (b : α) (r : Map α) :
    Map.sorted ((a, b) :: r) = true ↔ (∀ e ∈ r, a < e.1) ∧ Map.sorted r = true := by
  induction r generalizing a b with
  | nil => simp [Map.sorted]
  | cons e r ih =>
    obtain ⟨c, d⟩ := e
    rw [Map.sorted, Bool.and_eq_true, decide_eq_true_eq, ih]
    simp only [List.mem_cons, forall_eq_or_imp]
    constructor
    · rintro ⟨h, h1, h2⟩
      exact ⟨⟨h, fun e he => Nat.lt_trans h (h1 e he)⟩, h1, h2⟩
    · rintro ⟨⟨h, _⟩, h1, h2⟩
      exact ⟨h, h1, h2⟩

theorem Map.mem_set {α : Type} (m : Map α) (k : Nat) (v : α) (e : Nat × α) (h : e ∈ Map.set m k v) : e = (k, v) ∨ e ∈ m := by
  induction m with
  | nil => simpa [Map.set] using h
  | cons x r ih =>
    obtain ⟨a, b⟩ := x
    simp only [Map.set] at h
    split at h
    · simpa using h
    · split at h
      · rcases List.mem_cons.1 h with h | h
        · exact .inl h
        · exact .inr (List.mem_cons_of_mem _ h)
      · rcases List.mem_cons.1 h with h | h
        · exact .inr (h ▸ List.mem_cons_self)
        · rcases ih h with h | h
          · exact .inl h
          · exact .inr (List.mem_cons_of_mem _ h)

theorem Map.sorted_set {α : Type} (m : Map α) (k : Nat) (v : α) (h : Map.sorted m = true) : Map.sorted (Map.set m k v) = true := by
  induction m with
  | nil => simp [Map.set, Map.sorted]
  | cons x r ih =>
    obtain ⟨a, b⟩ := x
    have hs := (Map.sorted_cons a b r).1 h
    simp only [Map.set]
    split
    · rename_i hk
      rw [Map.sorted_cons]
      refine ⟨?_, h⟩
      intro e he
      rcases List.mem_cons.1 he with he | he
      · subst he; exact hk
      · exact Nat.lt_trans hk (hs.1 e he)
    · split
      · rename_i hk
        subst hk
        rw [Map.sorted_cons]
        exact hs
      · rename_i h1 h2
        rw [Map.sorted_cons]
        refine ⟨?_, ih hs.2⟩
        intro e he
        rcases Map.mem_set r k v e he with he | he
        · subst he; show a < k; omega
        · exact hs.1 e he

theorem Map.sorted_filter {α : Type} (m : Map α) (p : Nat × α → Bool) (h : Map.sorted m = true) :
    Map.sorted (m.filter p) = true := by
  induction m with
  | nil => simp [Map.sorted]
  | cons x r ih =>
    obtain ⟨a, b⟩ := x
    have hs := (Map.sorted_cons a b r).1 h
    by_cases hp : p (a, b) = true
    · rw [List.filter_cons_of_pos hp, Map.sorted_cons]
      exact ⟨fun e he => hs.1 e ((List.mem_filter.1 he).1), ih hs.2⟩
    · rw [List.filter_cons_of_neg hp]
      exact ih hs.2

theorem Mem.wf_nil : Mem.wf [] = true := rfl

theorem Mem.wf_filter (m : Mem) (p : Host.Cell → Bool) (h : m.wf = true) : Mem.wf (m.filter p) = true := by
  simp only [Mem.wf, Bool.and_eq_true, List.all_eq_true] at h ⊢
  exact ⟨Map.sorted_filter m p h.1, fun e he => h.2 e ((List.mem_filter.1 he).1)⟩

theorem Mem.wf_write (m : Mem) (a : Nat) (b : Byte) (h : m.wf = true) : (m.write a b).wf = true := by
  unfold Mem.write
  split
  · exact Mem.wf_filter m _ h
  · rename_i hb
    simp only [Mem.wf, Bool.and_eq_true, List.all_eq_true] at h ⊢
    refine ⟨Map.sorted_set m a b h.1, fun e he => ?_⟩
    rcases Map.mem_set m a b e he with he | he
    · subst he; simpa using hb
    · exact h.2 e he

theorem Mem.wf_writeBytes (m : Mem) (a : Nat) (bs : List Byte) (h : m.wf = true) : (m.writeBytes a bs).wf = true := by
  induction bs generalizing m a with
  | nil => exact h
  | cons b r ih => exact ih _ _ (Mem.wf_write m a b h)

theorem Mem.wf_putLE (m : Mem) (a n v : Nat) (h : m.wf = true) : (m.putLE a n v).wf = true := Mem.wf_writeBytes m a _ h

/-- Equal reads make equal memories, for memories in the canonical form: nothing but the bytes is in the data. -/
theorem Mem.read_ne_zero (m : Mem) (h : m.wf = true) (e : Host.Cell) (he : e ∈ m) : m.read e.1 = e.2 := by
  induction m with
  | nil => cases he
  | cons x r ih =>
    obtain ⟨a, b⟩ := x
    simp only [Mem.wf, Bool.and_eq_true, List.all_eq_true] at h
    have hs := (Map.sorted_cons a b r).1 h.1
    rcases List.mem_cons.1 he with he | he
    · subst he; simp [Mem.read, Map.get]
    · have hw : Mem.wf r = true := by
        simp only [Mem.wf, Bool.and_eq_true, List.all_eq_true]
        exact ⟨hs.2, fun e he => h.2 e (List.mem_cons_of_mem _ he)⟩
      have := hs.1 e he
      have hne : ¬ a = e.1 := by omega
      have hi := ih hw he
      simp only [Mem.read, Map.get, hne, if_false] at hi ⊢
      exact hi

end Sys2Proof.Machine
end

