-- ==== Sys2Proof/Laws/State.lean ====
section
/-!
SUPPORT. What each named update of the state leaves alone, one lemma per field, and what it does to the unit it names.
-/
namespace Sys2Proof.Machine

/-! ### The unit named, and every other -/

@[simp] theorem State.ten_setTen (s : State) (i : Nat) (v : Tenant) : (s.setTen i v).ten i = v := by simp [State.ten, State.setTen]
theorem State.ten_setTen_ne (s : State) {i j : Nat} (v : Tenant) (h : j ≠ i) : (s.setTen i v).ten j = s.ten j := by
  simp [State.ten, State.setTen, Map.get_set_ne _ _ _ h]
@[simp] theorem State.ten_updTen (s : State) (i : Nat) (f : Tenant → Tenant) : (s.updTen i f).ten i = f (s.ten i) := by simp [State.updTen]
theorem State.ten_updTen_ne (s : State) {i j : Nat} (f : Tenant → Tenant) (h : j ≠ i) : (s.updTen i f).ten j = s.ten j := by
  simp [State.updTen, State.ten_setTen_ne s _ h]

@[simp] theorem State.tile_setTile (s : State) (i : Nat) (v : Tile) : (s.setTile i v).tile i = v := by simp [State.tile, State.setTile]
theorem State.tile_setTile_ne (s : State) {i j : Nat} (v : Tile) (h : j ≠ i) : (s.setTile i v).tile j = s.tile j := by
  simp [State.tile, State.setTile, Map.get_set_ne _ _ _ h]
@[simp] theorem State.tile_updTile (s : State) (i : Nat) (f : Tile → Tile) : (s.updTile i f).tile i = f (s.tile i) := by simp [State.updTile]
theorem State.tile_updTile_ne (s : State) {i j : Nat} (f : Tile → Tile) (h : j ≠ i) : (s.updTile i f).tile j = s.tile j := by
  simp [State.updTile, State.tile_setTile_ne s _ h]

@[simp] theorem State.link_setLink (s : State) (i : Nat) (v : Link) : (s.setLink i v).link i = v := by simp [State.link, State.setLink]
theorem State.link_setLink_ne (s : State) {i j : Nat} (v : Link) (h : j ≠ i) : (s.setLink i v).link j = s.link j := by
  simp [State.link, State.setLink, Map.get_set_ne _ _ _ h]
@[simp] theorem State.link_updLink (s : State) (i : Nat) (f : Link → Link) : (s.updLink i f).link i = f (s.link i) := by
  simp [State.updLink]
theorem State.link_updLink_ne (s : State) {i j : Nat} (f : Link → Link) (h : j ≠ i) : (s.updLink i f).link j = s.link j := by
  simp [State.updLink, State.link_setLink_ne s _ h]
@[simp] theorem State.bank_setBank (s : State) (g : Nat) (v : EdgeBank) : (s.setBank g v).bank g = v := by simp [State.bank, State.setBank]
theorem State.bank_setBank_ne (s : State) {g h : Nat} (v : EdgeBank) (n : h ≠ g) : (s.setBank g v).bank h = s.bank h := by
  simp [State.bank, State.setBank, Map.get_set_ne _ _ _ n]

/-! ### Every other field -/

@[simp] theorem State.setTen_dev (s : State) (t : Nat) (v : Tenant) : (s.setTen t v).dev = s.dev := rfl
@[simp] theorem State.setTen_regs (s : State) (t : Nat) (v : Tenant) : (s.setTen t v).regs = s.regs := rfl
@[simp] theorem State.setTen_tiles (s : State) (t : Nat) (v : Tenant) : (s.setTen t v).tiles = s.tiles := rfl
@[simp] theorem State.setTen_fm (s : State) (t : Nat) (v : Tenant) : (s.setTen t v).fm = s.fm := rfl
@[simp] theorem State.setTen_sched (s : State) (t : Nat) (v : Tenant) : (s.setTen t v).sched = s.sched := rfl
@[simp] theorem State.setTen_cap (s : State) (t : Nat) (v : Tenant) : (s.setTen t v).cap = s.cap := rfl
@[simp] theorem State.setTen_trig (s : State) (t : Nat) (v : Tenant) : (s.setTen t v).trig = s.trig := rfl
@[simp] theorem State.setTen_host (s : State) (t : Nat) (v : Tenant) : (s.setTen t v).host = s.host := rfl
@[simp] theorem State.setTen_noc (s : State) (t : Nat) (v : Tenant) : (s.setTen t v).noc = s.noc := rfl
@[simp] theorem State.setTen_ds (s : State) (t : Nat) (v : Tenant) : (s.setTen t v).ds = s.ds := rfl
@[simp] theorem State.setTen_thy (s : State) (t : Nat) (v : Tenant) : (s.setTen t v).thy = s.thy := rfl
@[simp] theorem State.setTen_chv (s : State) (t : Nat) (v : Tenant) : (s.setTen t v).chv = s.chv := rfl
@[simp] theorem State.setTen_lat (s : State) (t : Nat) (v : Tenant) : (s.setTen t v).lat = s.lat := rfl
@[simp] theorem State.setTen_pwr (s : State) (t : Nat) (v : Tenant) : (s.setTen t v).pwr = s.pwr := rfl
@[simp] theorem State.setTen_edg (s : State) (t : Nat) (v : Tenant) : (s.setTen t v).edg = s.edg := rfl
@[simp] theorem State.setTen_cfg (s : State) (t : Nat) (v : Tenant) : (s.setTen t v).cfg = s.cfg := rfl
@[simp] theorem State.setTen_clk (s : State) (t : Nat) (v : Tenant) : (s.setTen t v).clk = s.clk := rfl
@[simp] theorem State.setTen_sage (s : State) (t : Nat) (v : Tenant) : (s.setTen t v).sage = s.sage := rfl
@[simp] theorem State.setTen_ana (s : State) (t : Nat) (v : Tenant) : (s.setTen t v).ana = s.ana := rfl
@[simp] theorem State.setTen_latch (s : State) (t : Nat) (v : Tenant) : (s.setTen t v).latch = s.latch := rfl
@[simp] theorem State.setTen_freeCtr (s : State) (t : Nat) (v : Tenant) : (s.setTen t v).freeCtr = s.freeCtr := rfl
@[simp] theorem State.setTen_pending (s : State) (t : Nat) (v : Tenant) : (s.setTen t v).pending = s.pending := rfl
@[simp] theorem State.updTen_dev (s : State) (t : Nat) (f : Tenant → Tenant) : (s.updTen t f).dev = s.dev := rfl
@[simp] theorem State.updTen_regs (s : State) (t : Nat) (f : Tenant → Tenant) : (s.updTen t f).regs = s.regs := rfl
@[simp] theorem State.updTen_tiles (s : State) (t : Nat) (f : Tenant → Tenant) : (s.updTen t f).tiles = s.tiles := rfl
@[simp] theorem State.updTen_fm (s : State) (t : Nat) (f : Tenant → Tenant) : (s.updTen t f).fm = s.fm := rfl
@[simp] theorem State.updTen_sched (s : State) (t : Nat) (f : Tenant → Tenant) : (s.updTen t f).sched = s.sched := rfl
@[simp] theorem State.updTen_cap (s : State) (t : Nat) (f : Tenant → Tenant) : (s.updTen t f).cap = s.cap := rfl
@[simp] theorem State.updTen_trig (s : State) (t : Nat) (f : Tenant → Tenant) : (s.updTen t f).trig = s.trig := rfl
@[simp] theorem State.updTen_host (s : State) (t : Nat) (f : Tenant → Tenant) : (s.updTen t f).host = s.host := rfl
@[simp] theorem State.updTen_noc (s : State) (t : Nat) (f : Tenant → Tenant) : (s.updTen t f).noc = s.noc := rfl
@[simp] theorem State.updTen_ds (s : State) (t : Nat) (f : Tenant → Tenant) : (s.updTen t f).ds = s.ds := rfl
@[simp] theorem State.updTen_thy (s : State) (t : Nat) (f : Tenant → Tenant) : (s.updTen t f).thy = s.thy := rfl
@[simp] theorem State.updTen_chv (s : State) (t : Nat) (f : Tenant → Tenant) : (s.updTen t f).chv = s.chv := rfl
@[simp] theorem State.updTen_lat (s : State) (t : Nat) (f : Tenant → Tenant) : (s.updTen t f).lat = s.lat := rfl
@[simp] theorem State.updTen_pwr (s : State) (t : Nat) (f : Tenant → Tenant) : (s.updTen t f).pwr = s.pwr := rfl
@[simp] theorem State.updTen_edg (s : State) (t : Nat) (f : Tenant → Tenant) : (s.updTen t f).edg = s.edg := rfl
@[simp] theorem State.updTen_cfg (s : State) (t : Nat) (f : Tenant → Tenant) : (s.updTen t f).cfg = s.cfg := rfl
@[simp] theorem State.updTen_clk (s : State) (t : Nat) (f : Tenant → Tenant) : (s.updTen t f).clk = s.clk := rfl
@[simp] theorem State.updTen_sage (s : State) (t : Nat) (f : Tenant → Tenant) : (s.updTen t f).sage = s.sage := rfl
@[simp] theorem State.updTen_ana (s : State) (t : Nat) (f : Tenant → Tenant) : (s.updTen t f).ana = s.ana := rfl
@[simp] theorem State.updTen_latch (s : State) (t : Nat) (f : Tenant → Tenant) : (s.updTen t f).latch = s.latch := rfl
@[simp] theorem State.updTen_freeCtr (s : State) (t : Nat) (f : Tenant → Tenant) : (s.updTen t f).freeCtr = s.freeCtr := rfl
@[simp] theorem State.updTen_pending (s : State) (t : Nat) (f : Tenant → Tenant) : (s.updTen t f).pending = s.pending := rfl
@[simp] theorem State.setTile_dev (s : State) (l : Nat) (v : Tile) : (s.setTile l v).dev = s.dev := rfl
@[simp] theorem State.setTile_regs (s : State) (l : Nat) (v : Tile) : (s.setTile l v).regs = s.regs := rfl
@[simp] theorem State.setTile_tenants (s : State) (l : Nat) (v : Tile) : (s.setTile l v).tenants = s.tenants := rfl
@[simp] theorem State.setTile_fm (s : State) (l : Nat) (v : Tile) : (s.setTile l v).fm = s.fm := rfl
@[simp] theorem State.setTile_sched (s : State) (l : Nat) (v : Tile) : (s.setTile l v).sched = s.sched := rfl
@[simp] theorem State.setTile_cap (s : State) (l : Nat) (v : Tile) : (s.setTile l v).cap = s.cap := rfl
@[simp] theorem State.setTile_trig (s : State) (l : Nat) (v : Tile) : (s.setTile l v).trig = s.trig := rfl
@[simp] theorem State.setTile_host (s : State) (l : Nat) (v : Tile) : (s.setTile l v).host = s.host := rfl
@[simp] theorem State.setTile_noc (s : State) (l : Nat) (v : Tile) : (s.setTile l v).noc = s.noc := rfl
@[simp] theorem State.setTile_ds (s : State) (l : Nat) (v : Tile) : (s.setTile l v).ds = s.ds := rfl
@[simp] theorem State.setTile_thy (s : State) (l : Nat) (v : Tile) : (s.setTile l v).thy = s.thy := rfl
@[simp] theorem State.setTile_chv (s : State) (l : Nat) (v : Tile) : (s.setTile l v).chv = s.chv := rfl
@[simp] theorem State.setTile_lat (s : State) (l : Nat) (v : Tile) : (s.setTile l v).lat = s.lat := rfl
@[simp] theorem State.setTile_pwr (s : State) (l : Nat) (v : Tile) : (s.setTile l v).pwr = s.pwr := rfl
@[simp] theorem State.setTile_edg (s : State) (l : Nat) (v : Tile) : (s.setTile l v).edg = s.edg := rfl
@[simp] theorem State.setTile_cfg (s : State) (l : Nat) (v : Tile) : (s.setTile l v).cfg = s.cfg := rfl
@[simp] theorem State.setTile_clk (s : State) (l : Nat) (v : Tile) : (s.setTile l v).clk = s.clk := rfl
@[simp] theorem State.setTile_sage (s : State) (l : Nat) (v : Tile) : (s.setTile l v).sage = s.sage := rfl
@[simp] theorem State.setTile_ana (s : State) (l : Nat) (v : Tile) : (s.setTile l v).ana = s.ana := rfl
@[simp] theorem State.setTile_latch (s : State) (l : Nat) (v : Tile) : (s.setTile l v).latch = s.latch := rfl
@[simp] theorem State.setTile_freeCtr (s : State) (l : Nat) (v : Tile) : (s.setTile l v).freeCtr = s.freeCtr := rfl
@[simp] theorem State.setTile_pending (s : State) (l : Nat) (v : Tile) : (s.setTile l v).pending = s.pending := rfl
@[simp] theorem State.updTile_dev (s : State) (l : Nat) (f : Tile → Tile) : (s.updTile l f).dev = s.dev := rfl
@[simp] theorem State.updTile_regs (s : State) (l : Nat) (f : Tile → Tile) : (s.updTile l f).regs = s.regs := rfl
@[simp] theorem State.updTile_tenants (s : State) (l : Nat) (f : Tile → Tile) : (s.updTile l f).tenants = s.tenants := rfl
@[simp] theorem State.updTile_fm (s : State) (l : Nat) (f : Tile → Tile) : (s.updTile l f).fm = s.fm := rfl
@[simp] theorem State.updTile_sched (s : State) (l : Nat) (f : Tile → Tile) : (s.updTile l f).sched = s.sched := rfl
@[simp] theorem State.updTile_cap (s : State) (l : Nat) (f : Tile → Tile) : (s.updTile l f).cap = s.cap := rfl
@[simp] theorem State.updTile_trig (s : State) (l : Nat) (f : Tile → Tile) : (s.updTile l f).trig = s.trig := rfl
@[simp] theorem State.updTile_host (s : State) (l : Nat) (f : Tile → Tile) : (s.updTile l f).host = s.host := rfl
@[simp] theorem State.updTile_noc (s : State) (l : Nat) (f : Tile → Tile) : (s.updTile l f).noc = s.noc := rfl
@[simp] theorem State.updTile_ds (s : State) (l : Nat) (f : Tile → Tile) : (s.updTile l f).ds = s.ds := rfl
@[simp] theorem State.updTile_thy (s : State) (l : Nat) (f : Tile → Tile) : (s.updTile l f).thy = s.thy := rfl
@[simp] theorem State.updTile_chv (s : State) (l : Nat) (f : Tile → Tile) : (s.updTile l f).chv = s.chv := rfl
@[simp] theorem State.updTile_lat (s : State) (l : Nat) (f : Tile → Tile) : (s.updTile l f).lat = s.lat := rfl
@[simp] theorem State.updTile_pwr (s : State) (l : Nat) (f : Tile → Tile) : (s.updTile l f).pwr = s.pwr := rfl
@[simp] theorem State.updTile_edg (s : State) (l : Nat) (f : Tile → Tile) : (s.updTile l f).edg = s.edg := rfl
@[simp] theorem State.updTile_cfg (s : State) (l : Nat) (f : Tile → Tile) : (s.updTile l f).cfg = s.cfg := rfl
@[simp] theorem State.updTile_clk (s : State) (l : Nat) (f : Tile → Tile) : (s.updTile l f).clk = s.clk := rfl
@[simp] theorem State.updTile_sage (s : State) (l : Nat) (f : Tile → Tile) : (s.updTile l f).sage = s.sage := rfl
@[simp] theorem State.updTile_ana (s : State) (l : Nat) (f : Tile → Tile) : (s.updTile l f).ana = s.ana := rfl
@[simp] theorem State.updTile_latch (s : State) (l : Nat) (f : Tile → Tile) : (s.updTile l f).latch = s.latch := rfl
@[simp] theorem State.updTile_freeCtr (s : State) (l : Nat) (f : Tile → Tile) : (s.updTile l f).freeCtr = s.freeCtr := rfl
@[simp] theorem State.updTile_pending (s : State) (l : Nat) (f : Tile → Tile) : (s.updTile l f).pending = s.pending := rfl
@[simp] theorem State.report_dev (s : State) (c k u : Nat) (t : Option Nat) (d : Nat) : (s.report c k u t d).dev = s.dev := rfl
@[simp] theorem State.report_regs (s : State) (c k u : Nat) (t : Option Nat) (d : Nat) : (s.report c k u t d).regs = s.regs := rfl
@[simp] theorem State.report_tenants (s : State) (c k u : Nat) (t : Option Nat) (d : Nat) : (s.report c k u t d).tenants = s.tenants := rfl
@[simp] theorem State.report_tiles (s : State) (c k u : Nat) (t : Option Nat) (d : Nat) : (s.report c k u t d).tiles = s.tiles := rfl
@[simp] theorem State.report_sched (s : State) (c k u : Nat) (t : Option Nat) (d : Nat) : (s.report c k u t d).sched = s.sched := rfl
@[simp] theorem State.report_cap (s : State) (c k u : Nat) (t : Option Nat) (d : Nat) : (s.report c k u t d).cap = s.cap := rfl
@[simp] theorem State.report_trig (s : State) (c k u : Nat) (t : Option Nat) (d : Nat) : (s.report c k u t d).trig = s.trig := rfl
@[simp] theorem State.report_host (s : State) (c k u : Nat) (t : Option Nat) (d : Nat) : (s.report c k u t d).host = s.host := rfl
@[simp] theorem State.report_noc (s : State) (c k u : Nat) (t : Option Nat) (d : Nat) : (s.report c k u t d).noc = s.noc := rfl
@[simp] theorem State.report_ds (s : State) (c k u : Nat) (t : Option Nat) (d : Nat) : (s.report c k u t d).ds = s.ds := rfl
@[simp] theorem State.report_thy (s : State) (c k u : Nat) (t : Option Nat) (d : Nat) : (s.report c k u t d).thy = s.thy := rfl
@[simp] theorem State.report_chv (s : State) (c k u : Nat) (t : Option Nat) (d : Nat) : (s.report c k u t d).chv = s.chv := rfl
@[simp] theorem State.report_lat (s : State) (c k u : Nat) (t : Option Nat) (d : Nat) : (s.report c k u t d).lat = s.lat := rfl
@[simp] theorem State.report_pwr (s : State) (c k u : Nat) (t : Option Nat) (d : Nat) : (s.report c k u t d).pwr = s.pwr := rfl
@[simp] theorem State.report_edg (s : State) (c k u : Nat) (t : Option Nat) (d : Nat) : (s.report c k u t d).edg = s.edg := rfl
@[simp] theorem State.report_cfg (s : State) (c k u : Nat) (t : Option Nat) (d : Nat) : (s.report c k u t d).cfg = s.cfg := rfl
@[simp] theorem State.report_clk (s : State) (c k u : Nat) (t : Option Nat) (d : Nat) : (s.report c k u t d).clk = s.clk := rfl
@[simp] theorem State.report_sage (s : State) (c k u : Nat) (t : Option Nat) (d : Nat) : (s.report c k u t d).sage = s.sage := rfl
@[simp] theorem State.report_ana (s : State) (c k u : Nat) (t : Option Nat) (d : Nat) : (s.report c k u t d).ana = s.ana := rfl
@[simp] theorem State.report_latch (s : State) (c k u : Nat) (t : Option Nat) (d : Nat) : (s.report c k u t d).latch = s.latch := rfl
@[simp] theorem State.report_freeCtr (s : State) (c k u : Nat) (t : Option Nat) (d : Nat) : (s.report c k u t d).freeCtr = s.freeCtr := rfl
@[simp] theorem State.report_pending (s : State) (c k u : Nat) (t : Option Nat) (d : Nat) : (s.report c k u t d).pending = s.pending := rfl
@[simp] theorem State.setReg_dev (s : State) (o v : Nat) : (s.setReg o v).dev = s.dev := rfl
@[simp] theorem State.setReg_tenants (s : State) (o v : Nat) : (s.setReg o v).tenants = s.tenants := rfl
@[simp] theorem State.setReg_tiles (s : State) (o v : Nat) : (s.setReg o v).tiles = s.tiles := rfl
@[simp] theorem State.setReg_fm (s : State) (o v : Nat) : (s.setReg o v).fm = s.fm := rfl
@[simp] theorem State.setReg_sched (s : State) (o v : Nat) : (s.setReg o v).sched = s.sched := rfl
@[simp] theorem State.setReg_cap (s : State) (o v : Nat) : (s.setReg o v).cap = s.cap := rfl
@[simp] theorem State.setReg_trig (s : State) (o v : Nat) : (s.setReg o v).trig = s.trig := rfl
@[simp] theorem State.setReg_host (s : State) (o v : Nat) : (s.setReg o v).host = s.host := rfl
@[simp] theorem State.setReg_noc (s : State) (o v : Nat) : (s.setReg o v).noc = s.noc := rfl
@[simp] theorem State.setReg_ds (s : State) (o v : Nat) : (s.setReg o v).ds = s.ds := rfl
@[simp] theorem State.setReg_thy (s : State) (o v : Nat) : (s.setReg o v).thy = s.thy := rfl
@[simp] theorem State.setReg_chv (s : State) (o v : Nat) : (s.setReg o v).chv = s.chv := rfl
@[simp] theorem State.setReg_lat (s : State) (o v : Nat) : (s.setReg o v).lat = s.lat := rfl
@[simp] theorem State.setReg_pwr (s : State) (o v : Nat) : (s.setReg o v).pwr = s.pwr := rfl
@[simp] theorem State.setReg_edg (s : State) (o v : Nat) : (s.setReg o v).edg = s.edg := rfl
@[simp] theorem State.setReg_cfg (s : State) (o v : Nat) : (s.setReg o v).cfg = s.cfg := rfl
@[simp] theorem State.setReg_clk (s : State) (o v : Nat) : (s.setReg o v).clk = s.clk := rfl
@[simp] theorem State.setReg_sage (s : State) (o v : Nat) : (s.setReg o v).sage = s.sage := rfl
@[simp] theorem State.setReg_ana (s : State) (o v : Nat) : (s.setReg o v).ana = s.ana := rfl
@[simp] theorem State.setReg_latch (s : State) (o v : Nat) : (s.setReg o v).latch = s.latch := rfl
@[simp] theorem State.setReg_freeCtr (s : State) (o v : Nat) : (s.setReg o v).freeCtr = s.freeCtr := rfl
@[simp] theorem State.setReg_pending (s : State) (o v : Nat) : (s.setReg o v).pending = s.pending := rfl
@[simp] theorem State.setFreg_dev (s : State) (fn o v : Nat) : (s.setFreg fn o v).dev = s.dev := rfl
@[simp] theorem State.setFreg_regs (s : State) (fn o v : Nat) : (s.setFreg fn o v).regs = s.regs := rfl
@[simp] theorem State.setFreg_tenants (s : State) (fn o v : Nat) : (s.setFreg fn o v).tenants = s.tenants := rfl
@[simp] theorem State.setFreg_tiles (s : State) (fn o v : Nat) : (s.setFreg fn o v).tiles = s.tiles := rfl
@[simp] theorem State.setFreg_fm (s : State) (fn o v : Nat) : (s.setFreg fn o v).fm = s.fm := rfl
@[simp] theorem State.setFreg_sched (s : State) (fn o v : Nat) : (s.setFreg fn o v).sched = s.sched := rfl
@[simp] theorem State.setFreg_cap (s : State) (fn o v : Nat) : (s.setFreg fn o v).cap = s.cap := rfl
@[simp] theorem State.setFreg_trig (s : State) (fn o v : Nat) : (s.setFreg fn o v).trig = s.trig := rfl
@[simp] theorem State.setFreg_noc (s : State) (fn o v : Nat) : (s.setFreg fn o v).noc = s.noc := rfl
@[simp] theorem State.setFreg_ds (s : State) (fn o v : Nat) : (s.setFreg fn o v).ds = s.ds := rfl
@[simp] theorem State.setFreg_thy (s : State) (fn o v : Nat) : (s.setFreg fn o v).thy = s.thy := rfl
@[simp] theorem State.setFreg_chv (s : State) (fn o v : Nat) : (s.setFreg fn o v).chv = s.chv := rfl
@[simp] theorem State.setFreg_lat (s : State) (fn o v : Nat) : (s.setFreg fn o v).lat = s.lat := rfl
@[simp] theorem State.setFreg_pwr (s : State) (fn o v : Nat) : (s.setFreg fn o v).pwr = s.pwr := rfl
@[simp] theorem State.setFreg_edg (s : State) (fn o v : Nat) : (s.setFreg fn o v).edg = s.edg := rfl
@[simp] theorem State.setFreg_cfg (s : State) (fn o v : Nat) : (s.setFreg fn o v).cfg = s.cfg := rfl
@[simp] theorem State.setFreg_clk (s : State) (fn o v : Nat) : (s.setFreg fn o v).clk = s.clk := rfl
@[simp] theorem State.setFreg_sage (s : State) (fn o v : Nat) : (s.setFreg fn o v).sage = s.sage := rfl
@[simp] theorem State.setFreg_ana (s : State) (fn o v : Nat) : (s.setFreg fn o v).ana = s.ana := rfl
@[simp] theorem State.setFreg_latch (s : State) (fn o v : Nat) : (s.setFreg fn o v).latch = s.latch := rfl
@[simp] theorem State.setFreg_freeCtr (s : State) (fn o v : Nat) : (s.setFreg fn o v).freeCtr = s.freeCtr := rfl
@[simp] theorem State.setFreg_pending (s : State) (fn o v : Nat) : (s.setFreg fn o v).pending = s.pending := rfl
@[simp] theorem State.setSq_dev (s : State) (fn r : Nat) (v : Sq) : (s.setSq fn r v).dev = s.dev := rfl
@[simp] theorem State.setSq_regs (s : State) (fn r : Nat) (v : Sq) : (s.setSq fn r v).regs = s.regs := rfl
@[simp] theorem State.setSq_tenants (s : State) (fn r : Nat) (v : Sq) : (s.setSq fn r v).tenants = s.tenants := rfl
@[simp] theorem State.setSq_tiles (s : State) (fn r : Nat) (v : Sq) : (s.setSq fn r v).tiles = s.tiles := rfl
@[simp] theorem State.setSq_fm (s : State) (fn r : Nat) (v : Sq) : (s.setSq fn r v).fm = s.fm := rfl
@[simp] theorem State.setSq_sched (s : State) (fn r : Nat) (v : Sq) : (s.setSq fn r v).sched = s.sched := rfl
@[simp] theorem State.setSq_cap (s : State) (fn r : Nat) (v : Sq) : (s.setSq fn r v).cap = s.cap := rfl
@[simp] theorem State.setSq_trig (s : State) (fn r : Nat) (v : Sq) : (s.setSq fn r v).trig = s.trig := rfl
@[simp] theorem State.setSq_noc (s : State) (fn r : Nat) (v : Sq) : (s.setSq fn r v).noc = s.noc := rfl
@[simp] theorem State.setSq_ds (s : State) (fn r : Nat) (v : Sq) : (s.setSq fn r v).ds = s.ds := rfl
@[simp] theorem State.setSq_thy (s : State) (fn r : Nat) (v : Sq) : (s.setSq fn r v).thy = s.thy := rfl
@[simp] theorem State.setSq_chv (s : State) (fn r : Nat) (v : Sq) : (s.setSq fn r v).chv = s.chv := rfl
@[simp] theorem State.setSq_lat (s : State) (fn r : Nat) (v : Sq) : (s.setSq fn r v).lat = s.lat := rfl
@[simp] theorem State.setSq_pwr (s : State) (fn r : Nat) (v : Sq) : (s.setSq fn r v).pwr = s.pwr := rfl
@[simp] theorem State.setSq_edg (s : State) (fn r : Nat) (v : Sq) : (s.setSq fn r v).edg = s.edg := rfl
@[simp] theorem State.setSq_cfg (s : State) (fn r : Nat) (v : Sq) : (s.setSq fn r v).cfg = s.cfg := rfl
@[simp] theorem State.setSq_clk (s : State) (fn r : Nat) (v : Sq) : (s.setSq fn r v).clk = s.clk := rfl
@[simp] theorem State.setSq_sage (s : State) (fn r : Nat) (v : Sq) : (s.setSq fn r v).sage = s.sage := rfl
@[simp] theorem State.setSq_ana (s : State) (fn r : Nat) (v : Sq) : (s.setSq fn r v).ana = s.ana := rfl
@[simp] theorem State.setSq_latch (s : State) (fn r : Nat) (v : Sq) : (s.setSq fn r v).latch = s.latch := rfl
@[simp] theorem State.setSq_freeCtr (s : State) (fn r : Nat) (v : Sq) : (s.setSq fn r v).freeCtr = s.freeCtr := rfl
@[simp] theorem State.setSq_pending (s : State) (fn r : Nat) (v : Sq) : (s.setSq fn r v).pending = s.pending := rfl
@[simp] theorem State.setCq_dev (s : State) (fn r : Nat) (v : Cq) : (s.setCq fn r v).dev = s.dev := rfl
@[simp] theorem State.setCq_regs (s : State) (fn r : Nat) (v : Cq) : (s.setCq fn r v).regs = s.regs := rfl
@[simp] theorem State.setCq_tenants (s : State) (fn r : Nat) (v : Cq) : (s.setCq fn r v).tenants = s.tenants := rfl
@[simp] theorem State.setCq_tiles (s : State) (fn r : Nat) (v : Cq) : (s.setCq fn r v).tiles = s.tiles := rfl
@[simp] theorem State.setCq_fm (s : State) (fn r : Nat) (v : Cq) : (s.setCq fn r v).fm = s.fm := rfl
@[simp] theorem State.setCq_sched (s : State) (fn r : Nat) (v : Cq) : (s.setCq fn r v).sched = s.sched := rfl
@[simp] theorem State.setCq_cap (s : State) (fn r : Nat) (v : Cq) : (s.setCq fn r v).cap = s.cap := rfl
@[simp] theorem State.setCq_trig (s : State) (fn r : Nat) (v : Cq) : (s.setCq fn r v).trig = s.trig := rfl
@[simp] theorem State.setCq_noc (s : State) (fn r : Nat) (v : Cq) : (s.setCq fn r v).noc = s.noc := rfl
@[simp] theorem State.setCq_ds (s : State) (fn r : Nat) (v : Cq) : (s.setCq fn r v).ds = s.ds := rfl
@[simp] theorem State.setCq_thy (s : State) (fn r : Nat) (v : Cq) : (s.setCq fn r v).thy = s.thy := rfl
@[simp] theorem State.setCq_chv (s : State) (fn r : Nat) (v : Cq) : (s.setCq fn r v).chv = s.chv := rfl
@[simp] theorem State.setCq_lat (s : State) (fn r : Nat) (v : Cq) : (s.setCq fn r v).lat = s.lat := rfl
@[simp] theorem State.setCq_pwr (s : State) (fn r : Nat) (v : Cq) : (s.setCq fn r v).pwr = s.pwr := rfl
@[simp] theorem State.setCq_edg (s : State) (fn r : Nat) (v : Cq) : (s.setCq fn r v).edg = s.edg := rfl
@[simp] theorem State.setCq_cfg (s : State) (fn r : Nat) (v : Cq) : (s.setCq fn r v).cfg = s.cfg := rfl
@[simp] theorem State.setCq_clk (s : State) (fn r : Nat) (v : Cq) : (s.setCq fn r v).clk = s.clk := rfl
@[simp] theorem State.setCq_sage (s : State) (fn r : Nat) (v : Cq) : (s.setCq fn r v).sage = s.sage := rfl
@[simp] theorem State.setCq_ana (s : State) (fn r : Nat) (v : Cq) : (s.setCq fn r v).ana = s.ana := rfl
@[simp] theorem State.setCq_latch (s : State) (fn r : Nat) (v : Cq) : (s.setCq fn r v).latch = s.latch := rfl
@[simp] theorem State.setCq_freeCtr (s : State) (fn r : Nat) (v : Cq) : (s.setCq fn r v).freeCtr = s.freeCtr := rfl
@[simp] theorem State.setCq_pending (s : State) (fn r : Nat) (v : Cq) : (s.setCq fn r v).pending = s.pending := rfl
@[simp] theorem State.setLink_dev (s : State) (l : Nat) (v : Link) : (s.setLink l v).dev = s.dev := rfl
@[simp] theorem State.setLink_regs (s : State) (l : Nat) (v : Link) : (s.setLink l v).regs = s.regs := rfl
@[simp] theorem State.setLink_tenants (s : State) (l : Nat) (v : Link) : (s.setLink l v).tenants = s.tenants := rfl
@[simp] theorem State.setLink_tiles (s : State) (l : Nat) (v : Link) : (s.setLink l v).tiles = s.tiles := rfl
@[simp] theorem State.setLink_fm (s : State) (l : Nat) (v : Link) : (s.setLink l v).fm = s.fm := rfl
@[simp] theorem State.setLink_sched (s : State) (l : Nat) (v : Link) : (s.setLink l v).sched = s.sched := rfl
@[simp] theorem State.setLink_cap (s : State) (l : Nat) (v : Link) : (s.setLink l v).cap = s.cap := rfl
@[simp] theorem State.setLink_trig (s : State) (l : Nat) (v : Link) : (s.setLink l v).trig = s.trig := rfl
@[simp] theorem State.setLink_host (s : State) (l : Nat) (v : Link) : (s.setLink l v).host = s.host := rfl
@[simp] theorem State.setLink_noc (s : State) (l : Nat) (v : Link) : (s.setLink l v).noc = s.noc := rfl
@[simp] theorem State.setLink_ds (s : State) (l : Nat) (v : Link) : (s.setLink l v).ds = s.ds := rfl
@[simp] theorem State.setLink_thy (s : State) (l : Nat) (v : Link) : (s.setLink l v).thy = s.thy := rfl
@[simp] theorem State.setLink_chv (s : State) (l : Nat) (v : Link) : (s.setLink l v).chv = s.chv := rfl
@[simp] theorem State.setLink_pwr (s : State) (l : Nat) (v : Link) : (s.setLink l v).pwr = s.pwr := rfl
@[simp] theorem State.setLink_edg (s : State) (l : Nat) (v : Link) : (s.setLink l v).edg = s.edg := rfl
@[simp] theorem State.setLink_cfg (s : State) (l : Nat) (v : Link) : (s.setLink l v).cfg = s.cfg := rfl
@[simp] theorem State.setLink_clk (s : State) (l : Nat) (v : Link) : (s.setLink l v).clk = s.clk := rfl
@[simp] theorem State.setLink_sage (s : State) (l : Nat) (v : Link) : (s.setLink l v).sage = s.sage := rfl
@[simp] theorem State.setLink_ana (s : State) (l : Nat) (v : Link) : (s.setLink l v).ana = s.ana := rfl
@[simp] theorem State.setLink_latch (s : State) (l : Nat) (v : Link) : (s.setLink l v).latch = s.latch := rfl
@[simp] theorem State.setLink_freeCtr (s : State) (l : Nat) (v : Link) : (s.setLink l v).freeCtr = s.freeCtr := rfl
@[simp] theorem State.setLink_pending (s : State) (l : Nat) (v : Link) : (s.setLink l v).pending = s.pending := rfl
@[simp] theorem State.updLink_dev (s : State) (l : Nat) (f : Link → Link) : (s.updLink l f).dev = s.dev := rfl
@[simp] theorem State.updLink_regs (s : State) (l : Nat) (f : Link → Link) : (s.updLink l f).regs = s.regs := rfl
@[simp] theorem State.updLink_tenants (s : State) (l : Nat) (f : Link → Link) : (s.updLink l f).tenants = s.tenants := rfl
@[simp] theorem State.updLink_tiles (s : State) (l : Nat) (f : Link → Link) : (s.updLink l f).tiles = s.tiles := rfl
@[simp] theorem State.updLink_fm (s : State) (l : Nat) (f : Link → Link) : (s.updLink l f).fm = s.fm := rfl
@[simp] theorem State.updLink_sched (s : State) (l : Nat) (f : Link → Link) : (s.updLink l f).sched = s.sched := rfl
@[simp] theorem State.updLink_cap (s : State) (l : Nat) (f : Link → Link) : (s.updLink l f).cap = s.cap := rfl
@[simp] theorem State.updLink_trig (s : State) (l : Nat) (f : Link → Link) : (s.updLink l f).trig = s.trig := rfl
@[simp] theorem State.updLink_host (s : State) (l : Nat) (f : Link → Link) : (s.updLink l f).host = s.host := rfl
@[simp] theorem State.updLink_noc (s : State) (l : Nat) (f : Link → Link) : (s.updLink l f).noc = s.noc := rfl
@[simp] theorem State.updLink_ds (s : State) (l : Nat) (f : Link → Link) : (s.updLink l f).ds = s.ds := rfl
@[simp] theorem State.updLink_thy (s : State) (l : Nat) (f : Link → Link) : (s.updLink l f).thy = s.thy := rfl
@[simp] theorem State.updLink_chv (s : State) (l : Nat) (f : Link → Link) : (s.updLink l f).chv = s.chv := rfl
@[simp] theorem State.updLink_pwr (s : State) (l : Nat) (f : Link → Link) : (s.updLink l f).pwr = s.pwr := rfl
@[simp] theorem State.updLink_edg (s : State) (l : Nat) (f : Link → Link) : (s.updLink l f).edg = s.edg := rfl
@[simp] theorem State.updLink_cfg (s : State) (l : Nat) (f : Link → Link) : (s.updLink l f).cfg = s.cfg := rfl
@[simp] theorem State.updLink_clk (s : State) (l : Nat) (f : Link → Link) : (s.updLink l f).clk = s.clk := rfl
@[simp] theorem State.updLink_sage (s : State) (l : Nat) (f : Link → Link) : (s.updLink l f).sage = s.sage := rfl
@[simp] theorem State.updLink_ana (s : State) (l : Nat) (f : Link → Link) : (s.updLink l f).ana = s.ana := rfl
@[simp] theorem State.updLink_latch (s : State) (l : Nat) (f : Link → Link) : (s.updLink l f).latch = s.latch := rfl
@[simp] theorem State.updLink_freeCtr (s : State) (l : Nat) (f : Link → Link) : (s.updLink l f).freeCtr = s.freeCtr := rfl
@[simp] theorem State.updLink_pending (s : State) (l : Nat) (f : Link → Link) : (s.updLink l f).pending = s.pending := rfl
@[simp] theorem State.setBank_dev (s : State) (g : Nat) (v : EdgeBank) : (s.setBank g v).dev = s.dev := rfl
@[simp] theorem State.setBank_regs (s : State) (g : Nat) (v : EdgeBank) : (s.setBank g v).regs = s.regs := rfl
@[simp] theorem State.setBank_tenants (s : State) (g : Nat) (v : EdgeBank) : (s.setBank g v).tenants = s.tenants := rfl
@[simp] theorem State.setBank_tiles (s : State) (g : Nat) (v : EdgeBank) : (s.setBank g v).tiles = s.tiles := rfl
@[simp] theorem State.setBank_fm (s : State) (g : Nat) (v : EdgeBank) : (s.setBank g v).fm = s.fm := rfl
@[simp] theorem State.setBank_sched (s : State) (g : Nat) (v : EdgeBank) : (s.setBank g v).sched = s.sched := rfl
@[simp] theorem State.setBank_cap (s : State) (g : Nat) (v : EdgeBank) : (s.setBank g v).cap = s.cap := rfl
@[simp] theorem State.setBank_trig (s : State) (g : Nat) (v : EdgeBank) : (s.setBank g v).trig = s.trig := rfl
@[simp] theorem State.setBank_host (s : State) (g : Nat) (v : EdgeBank) : (s.setBank g v).host = s.host := rfl
@[simp] theorem State.setBank_noc (s : State) (g : Nat) (v : EdgeBank) : (s.setBank g v).noc = s.noc := rfl
@[simp] theorem State.setBank_ds (s : State) (g : Nat) (v : EdgeBank) : (s.setBank g v).ds = s.ds := rfl
@[simp] theorem State.setBank_thy (s : State) (g : Nat) (v : EdgeBank) : (s.setBank g v).thy = s.thy := rfl
@[simp] theorem State.setBank_chv (s : State) (g : Nat) (v : EdgeBank) : (s.setBank g v).chv = s.chv := rfl
@[simp] theorem State.setBank_lat (s : State) (g : Nat) (v : EdgeBank) : (s.setBank g v).lat = s.lat := rfl
@[simp] theorem State.setBank_pwr (s : State) (g : Nat) (v : EdgeBank) : (s.setBank g v).pwr = s.pwr := rfl
@[simp] theorem State.setBank_cfg (s : State) (g : Nat) (v : EdgeBank) : (s.setBank g v).cfg = s.cfg := rfl
@[simp] theorem State.setBank_clk (s : State) (g : Nat) (v : EdgeBank) : (s.setBank g v).clk = s.clk := rfl
@[simp] theorem State.setBank_sage (s : State) (g : Nat) (v : EdgeBank) : (s.setBank g v).sage = s.sage := rfl
@[simp] theorem State.setBank_ana (s : State) (g : Nat) (v : EdgeBank) : (s.setBank g v).ana = s.ana := rfl
@[simp] theorem State.setBank_latch (s : State) (g : Nat) (v : EdgeBank) : (s.setBank g v).latch = s.latch := rfl
@[simp] theorem State.setBank_freeCtr (s : State) (g : Nat) (v : EdgeBank) : (s.setBank g v).freeCtr = s.freeCtr := rfl
@[simp] theorem State.setBank_pending (s : State) (g : Nat) (v : EdgeBank) : (s.setBank g v).pending = s.pending := rfl
@[simp] theorem State.updPwr_dev (s : State) (f : Pwr → Pwr) : (s.updPwr f).dev = s.dev := rfl
@[simp] theorem State.updPwr_regs (s : State) (f : Pwr → Pwr) : (s.updPwr f).regs = s.regs := rfl
@[simp] theorem State.updPwr_tenants (s : State) (f : Pwr → Pwr) : (s.updPwr f).tenants = s.tenants := rfl
@[simp] theorem State.updPwr_tiles (s : State) (f : Pwr → Pwr) : (s.updPwr f).tiles = s.tiles := rfl
@[simp] theorem State.updPwr_fm (s : State) (f : Pwr → Pwr) : (s.updPwr f).fm = s.fm := rfl
@[simp] theorem State.updPwr_sched (s : State) (f : Pwr → Pwr) : (s.updPwr f).sched = s.sched := rfl
@[simp] theorem State.updPwr_cap (s : State) (f : Pwr → Pwr) : (s.updPwr f).cap = s.cap := rfl
@[simp] theorem State.updPwr_trig (s : State) (f : Pwr → Pwr) : (s.updPwr f).trig = s.trig := rfl
@[simp] theorem State.updPwr_host (s : State) (f : Pwr → Pwr) : (s.updPwr f).host = s.host := rfl
@[simp] theorem State.updPwr_noc (s : State) (f : Pwr → Pwr) : (s.updPwr f).noc = s.noc := rfl
@[simp] theorem State.updPwr_ds (s : State) (f : Pwr → Pwr) : (s.updPwr f).ds = s.ds := rfl
@[simp] theorem State.updPwr_thy (s : State) (f : Pwr → Pwr) : (s.updPwr f).thy = s.thy := rfl
@[simp] theorem State.updPwr_chv (s : State) (f : Pwr → Pwr) : (s.updPwr f).chv = s.chv := rfl
@[simp] theorem State.updPwr_lat (s : State) (f : Pwr → Pwr) : (s.updPwr f).lat = s.lat := rfl
@[simp] theorem State.updPwr_edg (s : State) (f : Pwr → Pwr) : (s.updPwr f).edg = s.edg := rfl
@[simp] theorem State.updPwr_cfg (s : State) (f : Pwr → Pwr) : (s.updPwr f).cfg = s.cfg := rfl
@[simp] theorem State.updPwr_clk (s : State) (f : Pwr → Pwr) : (s.updPwr f).clk = s.clk := rfl
@[simp] theorem State.updPwr_sage (s : State) (f : Pwr → Pwr) : (s.updPwr f).sage = s.sage := rfl
@[simp] theorem State.updPwr_ana (s : State) (f : Pwr → Pwr) : (s.updPwr f).ana = s.ana := rfl
@[simp] theorem State.updPwr_latch (s : State) (f : Pwr → Pwr) : (s.updPwr f).latch = s.latch := rfl
@[simp] theorem State.updPwr_freeCtr (s : State) (f : Pwr → Pwr) : (s.updPwr f).freeCtr = s.freeCtr := rfl
@[simp] theorem State.updPwr_pending (s : State) (f : Pwr → Pwr) : (s.updPwr f).pending = s.pending := rfl
@[simp] theorem State.updClk_dev (s : State) (f : Clk → Clk) : (s.updClk f).dev = s.dev := rfl
@[simp] theorem State.updClk_regs (s : State) (f : Clk → Clk) : (s.updClk f).regs = s.regs := rfl
@[simp] theorem State.updClk_tenants (s : State) (f : Clk → Clk) : (s.updClk f).tenants = s.tenants := rfl
@[simp] theorem State.updClk_tiles (s : State) (f : Clk → Clk) : (s.updClk f).tiles = s.tiles := rfl
@[simp] theorem State.updClk_fm (s : State) (f : Clk → Clk) : (s.updClk f).fm = s.fm := rfl
@[simp] theorem State.updClk_sched (s : State) (f : Clk → Clk) : (s.updClk f).sched = s.sched := rfl
@[simp] theorem State.updClk_cap (s : State) (f : Clk → Clk) : (s.updClk f).cap = s.cap := rfl
@[simp] theorem State.updClk_trig (s : State) (f : Clk → Clk) : (s.updClk f).trig = s.trig := rfl
@[simp] theorem State.updClk_host (s : State) (f : Clk → Clk) : (s.updClk f).host = s.host := rfl
@[simp] theorem State.updClk_noc (s : State) (f : Clk → Clk) : (s.updClk f).noc = s.noc := rfl
@[simp] theorem State.updClk_ds (s : State) (f : Clk → Clk) : (s.updClk f).ds = s.ds := rfl
@[simp] theorem State.updClk_thy (s : State) (f : Clk → Clk) : (s.updClk f).thy = s.thy := rfl
@[simp] theorem State.updClk_chv (s : State) (f : Clk → Clk) : (s.updClk f).chv = s.chv := rfl
@[simp] theorem State.updClk_lat (s : State) (f : Clk → Clk) : (s.updClk f).lat = s.lat := rfl
@[simp] theorem State.updClk_pwr (s : State) (f : Clk → Clk) : (s.updClk f).pwr = s.pwr := rfl
@[simp] theorem State.updClk_edg (s : State) (f : Clk → Clk) : (s.updClk f).edg = s.edg := rfl
@[simp] theorem State.updClk_cfg (s : State) (f : Clk → Clk) : (s.updClk f).cfg = s.cfg := rfl
@[simp] theorem State.updClk_sage (s : State) (f : Clk → Clk) : (s.updClk f).sage = s.sage := rfl
@[simp] theorem State.updClk_ana (s : State) (f : Clk → Clk) : (s.updClk f).ana = s.ana := rfl
@[simp] theorem State.updClk_latch (s : State) (f : Clk → Clk) : (s.updClk f).latch = s.latch := rfl
@[simp] theorem State.updClk_freeCtr (s : State) (f : Clk → Clk) : (s.updClk f).freeCtr = s.freeCtr := rfl
@[simp] theorem State.updClk_pending (s : State) (f : Clk → Clk) : (s.updClk f).pending = s.pending := rfl
@[simp] theorem State.setRemap_dev (s : State) (l : Nat) (r : Remap) : (s.setRemap l r).dev = s.dev := rfl
@[simp] theorem State.setRemap_regs (s : State) (l : Nat) (r : Remap) : (s.setRemap l r).regs = s.regs := rfl
@[simp] theorem State.setRemap_tenants (s : State) (l : Nat) (r : Remap) : (s.setRemap l r).tenants = s.tenants := rfl
@[simp] theorem State.setRemap_tiles (s : State) (l : Nat) (r : Remap) : (s.setRemap l r).tiles = s.tiles := rfl
@[simp] theorem State.setRemap_sched (s : State) (l : Nat) (r : Remap) : (s.setRemap l r).sched = s.sched := rfl
@[simp] theorem State.setRemap_cap (s : State) (l : Nat) (r : Remap) : (s.setRemap l r).cap = s.cap := rfl
@[simp] theorem State.setRemap_trig (s : State) (l : Nat) (r : Remap) : (s.setRemap l r).trig = s.trig := rfl
@[simp] theorem State.setRemap_host (s : State) (l : Nat) (r : Remap) : (s.setRemap l r).host = s.host := rfl
@[simp] theorem State.setRemap_noc (s : State) (l : Nat) (r : Remap) : (s.setRemap l r).noc = s.noc := rfl
@[simp] theorem State.setRemap_ds (s : State) (l : Nat) (r : Remap) : (s.setRemap l r).ds = s.ds := rfl
@[simp] theorem State.setRemap_thy (s : State) (l : Nat) (r : Remap) : (s.setRemap l r).thy = s.thy := rfl
@[simp] theorem State.setRemap_chv (s : State) (l : Nat) (r : Remap) : (s.setRemap l r).chv = s.chv := rfl
@[simp] theorem State.setRemap_lat (s : State) (l : Nat) (r : Remap) : (s.setRemap l r).lat = s.lat := rfl
@[simp] theorem State.setRemap_pwr (s : State) (l : Nat) (r : Remap) : (s.setRemap l r).pwr = s.pwr := rfl
@[simp] theorem State.setRemap_edg (s : State) (l : Nat) (r : Remap) : (s.setRemap l r).edg = s.edg := rfl
@[simp] theorem State.setRemap_cfg (s : State) (l : Nat) (r : Remap) : (s.setRemap l r).cfg = s.cfg := rfl
@[simp] theorem State.setRemap_clk (s : State) (l : Nat) (r : Remap) : (s.setRemap l r).clk = s.clk := rfl
@[simp] theorem State.setRemap_sage (s : State) (l : Nat) (r : Remap) : (s.setRemap l r).sage = s.sage := rfl
@[simp] theorem State.setRemap_ana (s : State) (l : Nat) (r : Remap) : (s.setRemap l r).ana = s.ana := rfl
@[simp] theorem State.setRemap_latch (s : State) (l : Nat) (r : Remap) : (s.setRemap l r).latch = s.latch := rfl
@[simp] theorem State.setRemap_freeCtr (s : State) (l : Nat) (r : Remap) : (s.setRemap l r).freeCtr = s.freeCtr := rfl
@[simp] theorem State.setRemap_pending (s : State) (l : Nat) (r : Remap) : (s.setRemap l r).pending = s.pending := rfl
@[simp] theorem State.setBarOut_dev (s : State) (b : BarOut) : (s.setBarOut b).dev = s.dev := rfl
@[simp] theorem State.setBarOut_regs (s : State) (b : BarOut) : (s.setBarOut b).regs = s.regs := rfl
@[simp] theorem State.setBarOut_tenants (s : State) (b : BarOut) : (s.setBarOut b).tenants = s.tenants := rfl
@[simp] theorem State.setBarOut_tiles (s : State) (b : BarOut) : (s.setBarOut b).tiles = s.tiles := rfl
@[simp] theorem State.setBarOut_fm (s : State) (b : BarOut) : (s.setBarOut b).fm = s.fm := rfl
@[simp] theorem State.setBarOut_sched (s : State) (b : BarOut) : (s.setBarOut b).sched = s.sched := rfl
@[simp] theorem State.setBarOut_cap (s : State) (b : BarOut) : (s.setBarOut b).cap = s.cap := rfl
@[simp] theorem State.setBarOut_trig (s : State) (b : BarOut) : (s.setBarOut b).trig = s.trig := rfl
@[simp] theorem State.setBarOut_noc (s : State) (b : BarOut) : (s.setBarOut b).noc = s.noc := rfl
@[simp] theorem State.setBarOut_ds (s : State) (b : BarOut) : (s.setBarOut b).ds = s.ds := rfl
@[simp] theorem State.setBarOut_thy (s : State) (b : BarOut) : (s.setBarOut b).thy = s.thy := rfl
@[simp] theorem State.setBarOut_chv (s : State) (b : BarOut) : (s.setBarOut b).chv = s.chv := rfl
@[simp] theorem State.setBarOut_lat (s : State) (b : BarOut) : (s.setBarOut b).lat = s.lat := rfl
@[simp] theorem State.setBarOut_pwr (s : State) (b : BarOut) : (s.setBarOut b).pwr = s.pwr := rfl
@[simp] theorem State.setBarOut_edg (s : State) (b : BarOut) : (s.setBarOut b).edg = s.edg := rfl
@[simp] theorem State.setBarOut_cfg (s : State) (b : BarOut) : (s.setBarOut b).cfg = s.cfg := rfl
@[simp] theorem State.setBarOut_clk (s : State) (b : BarOut) : (s.setBarOut b).clk = s.clk := rfl
@[simp] theorem State.setBarOut_sage (s : State) (b : BarOut) : (s.setBarOut b).sage = s.sage := rfl
@[simp] theorem State.setBarOut_ana (s : State) (b : BarOut) : (s.setBarOut b).ana = s.ana := rfl
@[simp] theorem State.setBarOut_latch (s : State) (b : BarOut) : (s.setBarOut b).latch = s.latch := rfl
@[simp] theorem State.setBarOut_freeCtr (s : State) (b : BarOut) : (s.setBarOut b).freeCtr = s.freeCtr := rfl
@[simp] theorem State.setBarOut_pending (s : State) (b : BarOut) : (s.setBarOut b).pending = s.pending := rfl
@[simp] theorem State.setLatch_dev (s : State) (o v : Nat) : (s.setLatch o v).dev = s.dev := rfl
@[simp] theorem State.setLatch_regs (s : State) (o v : Nat) : (s.setLatch o v).regs = s.regs := rfl
@[simp] theorem State.setLatch_tenants (s : State) (o v : Nat) : (s.setLatch o v).tenants = s.tenants := rfl
@[simp] theorem State.setLatch_tiles (s : State) (o v : Nat) : (s.setLatch o v).tiles = s.tiles := rfl
@[simp] theorem State.setLatch_fm (s : State) (o v : Nat) : (s.setLatch o v).fm = s.fm := rfl
@[simp] theorem State.setLatch_sched (s : State) (o v : Nat) : (s.setLatch o v).sched = s.sched := rfl
@[simp] theorem State.setLatch_cap (s : State) (o v : Nat) : (s.setLatch o v).cap = s.cap := rfl
@[simp] theorem State.setLatch_trig (s : State) (o v : Nat) : (s.setLatch o v).trig = s.trig := rfl
@[simp] theorem State.setLatch_host (s : State) (o v : Nat) : (s.setLatch o v).host = s.host := rfl
@[simp] theorem State.setLatch_noc (s : State) (o v : Nat) : (s.setLatch o v).noc = s.noc := rfl
@[simp] theorem State.setLatch_ds (s : State) (o v : Nat) : (s.setLatch o v).ds = s.ds := rfl
@[simp] theorem State.setLatch_thy (s : State) (o v : Nat) : (s.setLatch o v).thy = s.thy := rfl
@[simp] theorem State.setLatch_chv (s : State) (o v : Nat) : (s.setLatch o v).chv = s.chv := rfl
@[simp] theorem State.setLatch_lat (s : State) (o v : Nat) : (s.setLatch o v).lat = s.lat := rfl
@[simp] theorem State.setLatch_pwr (s : State) (o v : Nat) : (s.setLatch o v).pwr = s.pwr := rfl
@[simp] theorem State.setLatch_edg (s : State) (o v : Nat) : (s.setLatch o v).edg = s.edg := rfl
@[simp] theorem State.setLatch_cfg (s : State) (o v : Nat) : (s.setLatch o v).cfg = s.cfg := rfl
@[simp] theorem State.setLatch_clk (s : State) (o v : Nat) : (s.setLatch o v).clk = s.clk := rfl
@[simp] theorem State.setLatch_sage (s : State) (o v : Nat) : (s.setLatch o v).sage = s.sage := rfl
@[simp] theorem State.setLatch_ana (s : State) (o v : Nat) : (s.setLatch o v).ana = s.ana := rfl
@[simp] theorem State.setLatch_freeCtr (s : State) (o v : Nat) : (s.setLatch o v).freeCtr = s.freeCtr := rfl
@[simp] theorem State.setLatch_pending (s : State) (o v : Nat) : (s.setLatch o v).pending = s.pending := rfl
@[simp] theorem State.dropPkt_dev (s : State) : (s.dropPkt).dev = s.dev := rfl
@[simp] theorem State.dropPkt_regs (s : State) : (s.dropPkt).regs = s.regs := rfl
@[simp] theorem State.dropPkt_tenants (s : State) : (s.dropPkt).tenants = s.tenants := rfl
@[simp] theorem State.dropPkt_tiles (s : State) : (s.dropPkt).tiles = s.tiles := rfl
@[simp] theorem State.dropPkt_sched (s : State) : (s.dropPkt).sched = s.sched := rfl
@[simp] theorem State.dropPkt_cap (s : State) : (s.dropPkt).cap = s.cap := rfl
@[simp] theorem State.dropPkt_trig (s : State) : (s.dropPkt).trig = s.trig := rfl
@[simp] theorem State.dropPkt_host (s : State) : (s.dropPkt).host = s.host := rfl
@[simp] theorem State.dropPkt_noc (s : State) : (s.dropPkt).noc = s.noc := rfl
@[simp] theorem State.dropPkt_ds (s : State) : (s.dropPkt).ds = s.ds := rfl
@[simp] theorem State.dropPkt_thy (s : State) : (s.dropPkt).thy = s.thy := rfl
@[simp] theorem State.dropPkt_chv (s : State) : (s.dropPkt).chv = s.chv := rfl
@[simp] theorem State.dropPkt_lat (s : State) : (s.dropPkt).lat = s.lat := rfl
@[simp] theorem State.dropPkt_pwr (s : State) : (s.dropPkt).pwr = s.pwr := rfl
@[simp] theorem State.dropPkt_edg (s : State) : (s.dropPkt).edg = s.edg := rfl
@[simp] theorem State.dropPkt_cfg (s : State) : (s.dropPkt).cfg = s.cfg := rfl
@[simp] theorem State.dropPkt_clk (s : State) : (s.dropPkt).clk = s.clk := rfl
@[simp] theorem State.dropPkt_sage (s : State) : (s.dropPkt).sage = s.sage := rfl
@[simp] theorem State.dropPkt_ana (s : State) : (s.dropPkt).ana = s.ana := rfl
@[simp] theorem State.dropPkt_latch (s : State) : (s.dropPkt).latch = s.latch := rfl
@[simp] theorem State.dropPkt_freeCtr (s : State) : (s.dropPkt).freeCtr = s.freeCtr := rfl
@[simp] theorem State.dropPkt_pending (s : State) : (s.dropPkt).pending = s.pending := rfl
@[simp] theorem State.accKey_dev (s : State) (o : Nat) : (s.accKey o).dev = s.dev := rfl
@[simp] theorem State.accKey_regs (s : State) (o : Nat) : (s.accKey o).regs = s.regs := rfl
@[simp] theorem State.accKey_tenants (s : State) (o : Nat) : (s.accKey o).tenants = s.tenants := rfl
@[simp] theorem State.accKey_tiles (s : State) (o : Nat) : (s.accKey o).tiles = s.tiles := rfl
@[simp] theorem State.accKey_sched (s : State) (o : Nat) : (s.accKey o).sched = s.sched := rfl
@[simp] theorem State.accKey_cap (s : State) (o : Nat) : (s.accKey o).cap = s.cap := rfl
@[simp] theorem State.accKey_trig (s : State) (o : Nat) : (s.accKey o).trig = s.trig := rfl
@[simp] theorem State.accKey_host (s : State) (o : Nat) : (s.accKey o).host = s.host := rfl
@[simp] theorem State.accKey_noc (s : State) (o : Nat) : (s.accKey o).noc = s.noc := rfl
@[simp] theorem State.accKey_ds (s : State) (o : Nat) : (s.accKey o).ds = s.ds := rfl
@[simp] theorem State.accKey_thy (s : State) (o : Nat) : (s.accKey o).thy = s.thy := rfl
@[simp] theorem State.accKey_chv (s : State) (o : Nat) : (s.accKey o).chv = s.chv := rfl
@[simp] theorem State.accKey_lat (s : State) (o : Nat) : (s.accKey o).lat = s.lat := rfl
@[simp] theorem State.accKey_pwr (s : State) (o : Nat) : (s.accKey o).pwr = s.pwr := rfl
@[simp] theorem State.accKey_edg (s : State) (o : Nat) : (s.accKey o).edg = s.edg := rfl
@[simp] theorem State.accKey_cfg (s : State) (o : Nat) : (s.accKey o).cfg = s.cfg := rfl
@[simp] theorem State.accKey_clk (s : State) (o : Nat) : (s.accKey o).clk = s.clk := rfl
@[simp] theorem State.accKey_sage (s : State) (o : Nat) : (s.accKey o).sage = s.sage := rfl
@[simp] theorem State.accKey_ana (s : State) (o : Nat) : (s.accKey o).ana = s.ana := rfl
@[simp] theorem State.accKey_latch (s : State) (o : Nat) : (s.accKey o).latch = s.latch := rfl
@[simp] theorem State.accKey_freeCtr (s : State) (o : Nat) : (s.accKey o).freeCtr = s.freeCtr := rfl
@[simp] theorem State.accKey_pending (s : State) (o : Nat) : (s.accKey o).pending = s.pending := rfl
@[simp] theorem State.accState_dev (s : State) (o : Nat) : (s.accState o).dev = s.dev := rfl
@[simp] theorem State.accState_regs (s : State) (o : Nat) : (s.accState o).regs = s.regs := rfl
@[simp] theorem State.accState_tenants (s : State) (o : Nat) : (s.accState o).tenants = s.tenants := rfl
@[simp] theorem State.accState_tiles (s : State) (o : Nat) : (s.accState o).tiles = s.tiles := rfl
@[simp] theorem State.accState_sched (s : State) (o : Nat) : (s.accState o).sched = s.sched := rfl
@[simp] theorem State.accState_cap (s : State) (o : Nat) : (s.accState o).cap = s.cap := rfl
@[simp] theorem State.accState_trig (s : State) (o : Nat) : (s.accState o).trig = s.trig := rfl
@[simp] theorem State.accState_host (s : State) (o : Nat) : (s.accState o).host = s.host := rfl
@[simp] theorem State.accState_noc (s : State) (o : Nat) : (s.accState o).noc = s.noc := rfl
@[simp] theorem State.accState_ds (s : State) (o : Nat) : (s.accState o).ds = s.ds := rfl
@[simp] theorem State.accState_thy (s : State) (o : Nat) : (s.accState o).thy = s.thy := rfl
@[simp] theorem State.accState_chv (s : State) (o : Nat) : (s.accState o).chv = s.chv := rfl
@[simp] theorem State.accState_lat (s : State) (o : Nat) : (s.accState o).lat = s.lat := rfl
@[simp] theorem State.accState_pwr (s : State) (o : Nat) : (s.accState o).pwr = s.pwr := rfl
@[simp] theorem State.accState_edg (s : State) (o : Nat) : (s.accState o).edg = s.edg := rfl
@[simp] theorem State.accState_cfg (s : State) (o : Nat) : (s.accState o).cfg = s.cfg := rfl
@[simp] theorem State.accState_clk (s : State) (o : Nat) : (s.accState o).clk = s.clk := rfl
@[simp] theorem State.accState_sage (s : State) (o : Nat) : (s.accState o).sage = s.sage := rfl
@[simp] theorem State.accState_ana (s : State) (o : Nat) : (s.accState o).ana = s.ana := rfl
@[simp] theorem State.accState_latch (s : State) (o : Nat) : (s.accState o).latch = s.latch := rfl
@[simp] theorem State.accState_freeCtr (s : State) (o : Nat) : (s.accState o).freeCtr = s.freeCtr := rfl
@[simp] theorem State.accState_pending (s : State) (o : Nat) : (s.accState o).pending = s.pending := rfl
@[simp] theorem State.accValue_dev (s : State) (o : Nat) : (s.accValue o).dev = s.dev := rfl
@[simp] theorem State.accValue_regs (s : State) (o : Nat) : (s.accValue o).regs = s.regs := rfl
@[simp] theorem State.accValue_tenants (s : State) (o : Nat) : (s.accValue o).tenants = s.tenants := rfl
@[simp] theorem State.accValue_tiles (s : State) (o : Nat) : (s.accValue o).tiles = s.tiles := rfl
@[simp] theorem State.accValue_sched (s : State) (o : Nat) : (s.accValue o).sched = s.sched := rfl
@[simp] theorem State.accValue_cap (s : State) (o : Nat) : (s.accValue o).cap = s.cap := rfl
@[simp] theorem State.accValue_trig (s : State) (o : Nat) : (s.accValue o).trig = s.trig := rfl
@[simp] theorem State.accValue_host (s : State) (o : Nat) : (s.accValue o).host = s.host := rfl
@[simp] theorem State.accValue_noc (s : State) (o : Nat) : (s.accValue o).noc = s.noc := rfl
@[simp] theorem State.accValue_ds (s : State) (o : Nat) : (s.accValue o).ds = s.ds := rfl
@[simp] theorem State.accValue_thy (s : State) (o : Nat) : (s.accValue o).thy = s.thy := rfl
@[simp] theorem State.accValue_chv (s : State) (o : Nat) : (s.accValue o).chv = s.chv := rfl
@[simp] theorem State.accValue_lat (s : State) (o : Nat) : (s.accValue o).lat = s.lat := rfl
@[simp] theorem State.accValue_pwr (s : State) (o : Nat) : (s.accValue o).pwr = s.pwr := rfl
@[simp] theorem State.accValue_edg (s : State) (o : Nat) : (s.accValue o).edg = s.edg := rfl
@[simp] theorem State.accValue_cfg (s : State) (o : Nat) : (s.accValue o).cfg = s.cfg := rfl
@[simp] theorem State.accValue_clk (s : State) (o : Nat) : (s.accValue o).clk = s.clk := rfl
@[simp] theorem State.accValue_sage (s : State) (o : Nat) : (s.accValue o).sage = s.sage := rfl
@[simp] theorem State.accValue_ana (s : State) (o : Nat) : (s.accValue o).ana = s.ana := rfl
@[simp] theorem State.accValue_latch (s : State) (o : Nat) : (s.accValue o).latch = s.latch := rfl
@[simp] theorem State.accValue_freeCtr (s : State) (o : Nat) : (s.accValue o).freeCtr = s.freeCtr := rfl
@[simp] theorem State.accValue_pending (s : State) (o : Nat) : (s.accValue o).pending = s.pending := rfl

end Sys2Proof.Machine
end

