-- ==== Sys2Proof/Laws/Frame.lean ====
section
/-!
SUPPORT. Frames of the shared operations: which parts of the state each can touch at most, once and for all.
-/
namespace Sys2Proof.Machine

theorem Runs.of {c : Instr} {s t : State} {P : State → Prop} (h : exec c s = .next t) (p : P t) : Runs c s P := ⟨t, h, p⟩
theorem runs_next {c : Instr} {s t : State} {P : State → Prop} (h : exec c s = .next t) : Runs c s P ↔ P t := by
  constructor
  · rintro ⟨u, hu, p⟩
    rw [h] at hu
    exact (Host.Outcome.next.inj hu) ▸ p
  · exact fun p => ⟨t, h, p⟩

/-! ### Composition -/

theorem keeps_refl {s : State} {ps : List Part} : s.keeps s ps := by intro p _; cases p <;> rfl
theorem sameIn_trans {s t u : State} {p : Part} (a : s.sameIn t p) (b : t.sameIn u p) : s.sameIn u p := by
  cases p <;> exact Eq.trans b a
theorem keeps_mono {s t : State} {a b : List Part} (h : s.keeps t a) (n : ∀ p ∈ a, p ∈ b) : s.keeps t b :=
  fun p hp => h p (fun hq => hp (n p hq))
theorem keeps_trans {s t u : State} {a : List Part} (h : s.keeps t a) (k : t.keeps u a) : s.keeps u a :=
  fun p hp => sameIn_trans (h p hp) (k p hp)
theorem keeps_foldl {α : Type} (ps : List Part) (f : State → α → State) (h : ∀ (s : State) x, s.keeps (f s x) ps) (l : List α) (s : State) :
    s.keeps (l.foldl f s) ps := by
  induction l generalizing s with
  | nil => exact keeps_refl
  | cons x r ih => exact keeps_trans (h s x) (ih (f s x))

/-! ### One part -/

theorem setTen_keeps {s : State} {i : Nat} {v : Tenant} : s.keeps (s.setTen i v) [.tenants] := by
  intro p hp; cases p <;> first | rfl | simp at hp
theorem updTen_keeps {s : State} {i : Nat} {f : Tenant → Tenant} : s.keeps (s.updTen i f) [.tenants] := setTen_keeps
theorem setTile_keeps {s : State} {i : Nat} {v : Tile} : s.keeps (s.setTile i v) [.tiles] := by
  intro p hp; cases p <;> first | rfl | simp at hp
theorem updTile_keeps {s : State} {i : Nat} {f : Tile → Tile} : s.keeps (s.updTile i f) [.tiles] := setTile_keeps
theorem setLink_keeps {s : State} {i : Nat} {v : Link} : s.keeps (s.setLink i v) [.lat] := by
  intro p hp; cases p <;> first | rfl | simp at hp
theorem setReg_keeps {s : State} {i v : Nat} : s.keeps (s.setReg i v) [.regs] := by
  intro p hp; cases p <;> first | rfl | simp at hp
theorem setFreg_keeps {s : State} {f i v : Nat} : s.keeps (s.setFreg f i v) [.host] := by
  intro p hp; cases p <;> first | rfl | simp at hp
theorem setBank_keeps {s : State} {i : Nat} {v : EdgeBank} : s.keeps (s.setBank i v) [.edg] := by
  intro p hp; cases p <;> first | rfl | simp at hp
theorem report_keeps {s : State} {c k u : Nat} {t : Option Nat} {d : Nat} : s.keeps (s.report c k u t d) [.fm] := by
  intro p hp; cases p <;> first | rfl | simp at hp
theorem msix_keeps {s : State} {f v : Nat} : s.keeps (s.msix f v) [.host] := by
  unfold State.msix
  split
  · intro p hp; cases p <;> first | rfl | simp at hp
  · split <;> (intro p hp; cases p <;> first | rfl | simp at hp)
theorem raiseFnStat_keeps {s : State} {f i : Nat} : s.keeps (s.raiseFnStat f i) [.host] := by
  unfold State.raiseFnStat
  dsimp only
  split
  · exact keeps_refl
  · refine keeps_trans (t := { s with host := { s.host with fnStat := Map.set s.host.fnStat f (Map.get s.host.fnStat 0 f ||| 2 ^ i) } })
      ?_ (msix_keeps)
    intro p hp; cases p <;> first | rfl | simp at hp
theorem hazard_keeps {s : State} {t i c a r d e : Nat} : s.keeps (s.hazard t i c a r d e) [.tenants] := by
  unfold State.hazard
  split
  · dsimp only; repeat' split
    all_goals exact setTen_keeps
  · exact keeps_refl
theorem stallAt_keeps {s : State} {l c a r d : Nat} : s.keeps (s.stallAt l c a r d) [.tiles, .tenants] := by
  unfold State.stallAt
  dsimp only
  split
  · exact keeps_refl
  · have h : s.keeps (s.setTile l ((s.tile l).stallOnce c)) [.tiles, .tenants] := keeps_mono (setTile_keeps) (by decide)
    split
    · split
      · exact keeps_trans h (keeps_mono (hazard_keeps) (by decide))
      · exact h
    · exact h

/-! ### Completions and modes -/

theorem cplLost_keeps {s : State} {f k : Nat} : s.keeps (s.cplLost f k) [.host, .fm] :=
  keeps_trans (keeps_mono (raiseFnStat_keeps) (by decide)) (keeps_mono (report_keeps) (by decide))
theorem queueCpl_keeps {s : State} {c : Cpl} : s.keeps (s.queueCpl c) [.host, .fm] := by
  unfold State.queueCpl
  split
  · intro p hp; cases p <;> first | rfl | simp at hp
  · exact cplLost_keeps
theorem unsolicited_keeps {s : State} {f q k n : Nat} {b : List Byte} : s.keeps (s.unsolicited f q k n b) [.host, .fm] := by
  unfold State.unsolicited
  split
  · exact queueCpl_keeps
  · exact cplLost_keeps
theorem postFor_keeps {s : State} {d : DRef} {k st : Nat} {b : CplBody} : s.keeps (s.postFor d k st b) [.host, .fm] := by
  unfold State.postFor
  split
  · exact cplLost_keeps
  · exact queueCpl_keeps
theorem retire_keeps {s : State} {d : DRef} : s.keeps (s.retire d) [.host] := by
  intro p hp; cases p <;> first | rfl | simp at hp
theorem complete_keeps {s : State} {d : DRef} {o st r a : Nat} : s.keeps (s.complete d o st r a) [.host, .fm] :=
  keeps_trans (postFor_keeps) (keeps_mono (retire_keeps) (by decide))
theorem completeOpt_keeps {s : State} {d : Option DRef} {o st r a : Nat} : s.keeps (s.completeOpt d o st r a) [.host, .fm] := by
  cases d
  · exact keeps_refl
  · exact complete_keeps
theorem setMode_keeps {s : State} {m : Mode} : s.keeps (s.setMode m) [.dev, .fm, .host] := by
  unfold State.setMode
  dsimp only
  split
  · exact keeps_refl
  · refine keeps_trans (t := { s with dev := { s.dev with mode := m } }) ?_ ?_
    · intro p hp; cases p <;> first | rfl | simp at hp
    · exact keeps_trans (keeps_mono (report_keeps) (by decide)) (keeps_mono (msix_keeps) (by decide))
theorem setMode_mode (s : State) (m : Mode) : (s.setMode m).dev.mode = m := by
  unfold State.setMode
  dsimp only
  split
  · assumption
  · have h := @msix_keeps (State.report { s with dev := { s.dev with mode := m } } 0x0020 clsEvent 0 none
      (s.dev.mode.code + 16 * m.code + 256 * s.dev.cause.code)) 0 9 .dev (by decide)
    exact congrArg Dev.mode h

end Sys2Proof.Machine
end

