-- ==== Sys2Proof/Laws/Inv.lean ====
section
/-!
SUPPORT. The invariant of the machine (`State.Inv`), part by part: what keeps it in a table, a memory, the error log and Thyme,
and how it passes through a record update, a condition and a fold. Each lemma is tried before the terms under it are looked at.
-/
namespace Sys2Proof.Machine

/-- The part of the invariant that the host interface holds. -/
def HostIf.Inv (h : HostIf) : Prop := h.hostMem.wf = true
/-- The part of the invariant that the packet network holds. -/
def Noc.Inv (n : Noc) : Prop := n.hub.wf = true
/-- The state that an outcome answers meets the invariant. -/
def Out.Inv (o : Out) : Prop := match o with | .next t => State.Inv t | _ => True
@[simp ↓] theorem inv_next (t : State) (h : State.Inv t) : Out.Inv (.next t) := h
@[simp ↓] theorem inv_mk (dev regs tenants tiles fm sched cap trig host noc ds thy chv lat pwr edg cfg clk sage ana latch freeCtr pending) (h1 : fm.Inv) (h2 : thy.Inv) (h3 : host.Inv) (h4 : noc.Inv) (h5 : ds.wf = true) :
  State.Inv (.mk dev regs tenants tiles fm sched cap trig host noc ds thy chv lat pwr edg cfg clk sage ana latch freeCtr pending) := ⟨h1, h2, h3, h4, h5⟩
@[simp ↓] theorem inv_ofFm (s : State) (h : State.Inv s) : s.fm.Inv := h.fm
@[simp ↓] theorem inv_ofThy (s : State) (h : State.Inv s) : s.thy.Inv := h.thy
@[simp ↓] theorem inv_ofHost (s : State) (h : State.Inv s) : s.host.Inv := h.hostMem
@[simp ↓] theorem inv_ofNoc (s : State) (h : State.Inv s) : s.noc.Inv := h.hub
@[simp ↓] theorem inv_ofDs (s : State) (h : State.Inv s) : s.ds.wf = true := h.ds
@[simp ↓] theorem inv_ofHostMem (s : State) (h : State.Inv s) : s.host.hostMem.wf = true := h.hostMem
@[simp ↓] theorem inv_ofHub (s : State) (h : State.Inv s) : s.noc.hub.wf = true := h.hub
@[simp ↓] theorem inv_ofNs (s : State) (h : State.Inv s) : s.thy.ns < 1000000000 := h.thy.1
@[simp ↓] theorem inv_ofFrac (s : State) (h : State.Inv s) : s.thy.frac < 4294967296 := h.thy.2.1
@[simp ↓] theorem inv_ofBkp (s : State) (h : State.Inv s) : s.thy.bkpFrac < 32768 := h.thy.2.2
@[simp ↓] theorem thymeInv_mk (sec ns frac runs inc incDue stepsDue valid fromBackup locked holdover stepped good offset srcLink marks minSec minNs minCnt markOut slots bkpSec bkpFrac) (h1 : ns < 1000000000) (h2 : frac < 4294967296) (h3 : bkpFrac < 32768) :
    Thyme.Inv (.mk sec ns frac runs inc incDue stepsDue valid fromBackup locked holdover stepped good offset srcLink marks minSec minNs minCnt markOut slots bkpSec bkpFrac) := ⟨h1, h2, h3⟩
@[simp ↓] theorem hostInv_mk (sqs cqs cpls fregs fnStat hostMem msiOut msiWait orphans fetched pba linkUp rate width flit l0p numVfs vfEn bmeOff d3 msgs bufs ins xfers barOut smbPtr smbOut smbDead smbTimeouts smbRow smbDatLow smbClkLow) (h : hostMem.wf = true) : HostIf.Inv (.mk sqs cqs cpls fregs fnStat hostMem msiOut msiWait orphans fetched pba linkUp rate width flit l0p numVfs vfEn bmeOff d3 msgs bufs ins xfers barOut smbPtr smbOut smbDead smbTimeouts smbRow smbDatLow smbClkLow) := h
@[simp ↓] theorem nocInv_mk (slots credits deepReq deepQ answers deepPaid deepTok damaged ce maxClass class15 pkts got stops hub hubPoison hubCe hubUe poisonSeen dsPoison stks clk flights wheel) (h : hub.wf = true) : Noc.Inv (.mk slots credits deepReq deepQ answers deepPaid deepTok damaged ce maxClass class15 pkts got stops hub hubPoison hubCe hubUe poisonSeen dsPoison stks clk flights wheel) := h
@[simp ↓] theorem inv_ofIntake (s : State) (h : State.Inv s) : s.fm.intake.length ≤ 64 := h.fm.1
@[simp ↓] theorem inv_ofRing (s : State) (h : State.Inv s) : (s.fm.widx - s.fm.ridx).toNat ≤ 1024 := h.fm.2
@[simp ↓] theorem fmInv_mk (ring widx ridx overflow pend lost intake remap bad failed spareUsed recoveries dropped lateLost lastAt) (h1 : intake.length ≤ 64) (h2 : (widx - ridx).toNat ≤ 1024) : FaultMgr.Inv (.mk ring widx ridx overflow pend lost intake remap bad failed spareUsed recoveries dropped lateLost lastAt) := ⟨h1, h2⟩
@[simp ↓] theorem inv_wfWrite (m : Mem) (a : Nat) (b : Byte) (h : m.wf = true) : (m.write a b).wf = true := Mem.wf_write m a b h
@[simp ↓] theorem inv_wfWriteBytes (m : Mem) (a : Nat) (bs : List Byte) (h : m.wf = true) : (m.writeBytes a bs).wf = true :=
  Mem.wf_writeBytes m a bs h
@[simp ↓] theorem inv_wfPutLE (m : Mem) (a n v : Nat) (h : m.wf = true) : (m.putLE a n v).wf = true := Mem.wf_putLE m a n v h
@[simp ↓] theorem inv_wfFilter (m : Mem) (p : Host.Cell → Bool) (h : m.wf = true) : Mem.wf (m.filter p) = true := Mem.wf_filter m p h
theorem replaceFirst_length {α : Type} (p : α → Bool) (f : α → α) (l : List α) : (replaceFirst p f l).length = l.length := by
  induction l with
  | nil => rfl
  | cons x r ih => unfold replaceFirst; split <;> simp [*]
@[simp ↓] theorem fmInv_arrive (f : FaultMgr) (r : Report) (h : f.Inv) : (f.arrive r).Inv := by
  obtain ⟨h1, h2⟩ := h
  unfold FaultMgr.arrive
  dsimp only
  split
  · exact ⟨by simpa [replaceFirst_length] using h1, h2⟩
  split
  · exact ⟨h1, h2⟩
  split
  · exact ⟨by simp only [List.length_append, List.length_singleton]; omega, h2⟩
  · exact ⟨h1, h2⟩
@[simp ↓] theorem fmInv_intakeOne (f : FaultMgr) (h : f.Inv) : f.intakeOne.Inv := by
  obtain ⟨h1, h2⟩ := h
  unfold FaultMgr.intakeOne
  split
  · exact ⟨h1, h2⟩
  · rename_i r rest hr
    rw [hr] at h1
    split
    · exact ⟨by simp only [List.length_cons] at h1; show rest.length ≤ 64; omega, by show (f.widx + 1 - f.ridx).toNat ≤ 1024; bv_omega⟩
    · exact ⟨by rw [hr]; exact h1, h2⟩
@[simp ↓] theorem Mem.wf_putRing (m : Mem) (b z x : Nat) (l : List Byte) (h : m.wf = true) : (Mem.putRing m b z x l).wf = true := by
  induction l generalizing m x with
  | nil => exact h
  | cons c r ih => exact ih _ _ (Mem.wf_write _ _ _ h)
theorem scramble_mem (n : Nat) (m : Mem) (e : Host.Cell) (h : e ∈ scramble n m) : e.2 ≠ 0 ∧ ∃ f ∈ m, f.1 = e.1 := by
  induction m generalizing n with
  | nil => cases h
  | cons x r ih =>
    simp only [scramble] at h
    split at h
    · obtain ⟨h1, f, h2, h3⟩ := ih _ h
      exact ⟨h1, f, List.mem_cons_of_mem _ h2, h3⟩
    · rename_i hb
      rcases List.mem_cons.1 h with h | h
      · subst h; exact ⟨hb, x, List.mem_cons_self, rfl⟩
      · obtain ⟨h1, f, h2, h3⟩ := ih _ h
        exact ⟨h1, f, List.mem_cons_of_mem _ h2, h3⟩
theorem scramble_sorted (n : Nat) (m : Mem) (h : Map.sorted m = true) : Map.sorted (scramble n m) = true := by
  induction m generalizing n with
  | nil => rfl
  | cons x r ih =>
    obtain ⟨a, b⟩ := x
    rw [Map.sorted_cons] at h
    simp only [scramble]
    split
    · exact ih _ h.2
    · rw [Map.sorted_cons]
      refine ⟨fun e he => ?_, ih _ h.2⟩
      obtain ⟨-, f, hf, hk⟩ := scramble_mem _ _ _ he
      rw [← hk]
      exact h.1 f hf
theorem scramble_wf (n : Nat) (m : Mem) (h : m.wf = true) : (scramble n m).wf = true := by
  simp only [Mem.wf, Bool.and_eq_true, List.all_eq_true] at h ⊢
  exact ⟨scramble_sorted n m h.1, fun e he => by simpa using (scramble_mem n m e he).1⟩
@[simp ↓] theorem inv_ite (c : Prop) [Decidable c] (a b : State) (ha : State.Inv a) (hb : State.Inv b) : State.Inv (if c then a else b) := by
  split <;> assumption
@[simp ↓] theorem inv_oite (c : Prop) [Decidable c] (a b : Out) (ha : Out.Inv a) (hb : Out.Inv b) : Out.Inv (if c then a else b) := by
  split <;> assumption
@[simp ↓] theorem foldl_inv {α : Type} {f : State → α → State} (l : List α) (s : State) (hs : State.Inv s) (h : ∀ (s : State) x, State.Inv s → State.Inv (f s x)) :
    State.Inv (l.foldl f s) := by
  induction l generalizing s with
  | nil => exact hs
  | cons x r ih => exact ih _ (h _ _ hs)
theorem inv_lat (s : State) (x : Lattice) (h : State.Inv s) : State.Inv { s with lat := x } := ⟨h.fm, h.thy, h.hostMem, h.hub, h.ds⟩
theorem inv_edg (s : State) (x : Edg) (h : State.Inv s) : State.Inv { s with edg := x } := ⟨h.fm, h.thy, h.hostMem, h.hub, h.ds⟩
theorem inv_sched (s : State) (x : Sched) (h : State.Inv s) : State.Inv { s with sched := x } := ⟨h.fm, h.thy, h.hostMem, h.hub, h.ds⟩
theorem inv_ds (s : State) (d : Mem) (h : State.Inv s) (hd : d.wf = true) : State.Inv { s with ds := d } := ⟨h.fm, h.thy, h.hostMem, h.hub, hd⟩
theorem inv_thy (s : State) (t : Thyme) (h : State.Inv s) (ht : t.Inv) : State.Inv { s with thy := t } := ⟨h.fm, ht, h.hostMem, h.hub, h.ds⟩

end Sys2Proof.Machine
end

