-- ==== Sys2Proof/Laws/InvOps.lean ====
section
/-!
SUPPORT. Every shared operation keeps the invariant of the machine: one lemma per operation, in the order of the model.
-/
namespace Sys2Proof.Machine

@[simp ↓] theorem State.setReg_inv (s : State) (off v : Nat) (h : State.Inv s) : State.Inv (State.setReg s off v) := by
  unfold State.setReg
  simp (maxDischargeDepth := 60) +contextual [*]

@[simp ↓] theorem State.setTen_inv (s : State) (t : Nat) (v : Tenant) (h : State.Inv s) :
    State.Inv (State.setTen s t v) := by
  unfold State.setTen
  simp (maxDischargeDepth := 60) +contextual [*]

@[simp ↓] theorem State.updTen_inv (s : State) (t : Nat) (f : Tenant → Tenant) (h : State.Inv s) :
    State.Inv (State.updTen s t f) := by
  unfold State.updTen
  simp (maxDischargeDepth := 60) +contextual [*]

@[simp ↓] theorem State.setTile_inv (s : State) (l : Nat) (v : Tile) (h : State.Inv s) :
    State.Inv (State.setTile s l v) := by
  unfold State.setTile
  simp (maxDischargeDepth := 60) +contextual [*]

@[simp ↓] theorem State.updTile_inv (s : State) (l : Nat) (f : Tile → Tile) (h : State.Inv s) :
    State.Inv (State.updTile s l f) := by
  unfold State.updTile
  simp (maxDischargeDepth := 60) +contextual [*]

@[simp ↓] theorem State.moveArrErr_inv (s : State) (l n : Nat) (h : State.Inv s) :
    State.Inv (State.moveArrErr s l n) := by
  unfold State.moveArrErr
  simp (maxDischargeDepth := 60) +contextual [*]

@[simp ↓] theorem State.freshNat_inv (s : State) (h : State.Inv s) : State.Inv (State.freshNat s).2 := by
  unfold State.freshNat
  simp (maxDischargeDepth := 60) +contextual [*]

@[simp ↓] theorem State.freshBit_inv (s : State) (h : State.Inv s) : State.Inv (State.freshBit s).2 := by
  unfold State.freshBit
  simp (maxDischargeDepth := 60) +contextual [*]

@[simp ↓] theorem State.freshDWord_inv (s : State) (h : State.Inv s) : State.Inv (State.freshDWord s).2 := by
  unfold State.freshDWord
  simp (maxDischargeDepth := 60) +contextual [*]

@[simp ↓] theorem State.setFreg_inv (s : State) (fn off v : Nat) (h : State.Inv s) :
    State.Inv (State.setFreg s fn off v) := by
  unfold State.setFreg
  simp (maxDischargeDepth := 60) +contextual [*]

@[simp ↓] theorem State.setSq_inv (s : State) (fn r : Nat) (v : Sq) (h : State.Inv s) :
    State.Inv (State.setSq s fn r v) := by
  unfold State.setSq
  simp (maxDischargeDepth := 60) +contextual [*]

@[simp ↓] theorem State.setCq_inv (s : State) (fn r : Nat) (v : Cq) (h : State.Inv s) :
    State.Inv (State.setCq s fn r v) := by
  unfold State.setCq
  simp (maxDischargeDepth := 60) +contextual [*]

@[simp ↓] theorem State.msix_inv (s : State) (fn v : Nat) (h : State.Inv s) : State.Inv (State.msix s fn v) := by
  unfold State.msix
  simp (maxDischargeDepth := 60) +contextual [*]

@[simp ↓] theorem State.raiseFnStat_inv (s : State) (fn i : Nat) (h : State.Inv s) :
    State.Inv (State.raiseFnStat s fn i) := by
  unfold State.raiseFnStat
  simp (maxDischargeDepth := 60) +contextual [*]

@[simp ↓] theorem State.report_inv (s : State) (code cls src : Nat) (ten : Option Nat) (detail : Nat) (h : State.Inv s) :
    State.Inv (State.report s code cls src ten detail) := by
  unfold State.report
  simp (maxDischargeDepth := 60) +contextual [*]

@[simp ↓] theorem State.accPartial_inv (s : State) (off : Nat) (h : State.Inv s) : State.Inv (State.accPartial s off) := by
  unfold State.accPartial
  simp (maxDischargeDepth := 60) +contextual [*]

@[simp ↓] theorem State.accKey_inv (s : State) (off : Nat) (h : State.Inv s) : State.Inv (State.accKey s off) := by
  unfold State.accKey
  simp (maxDischargeDepth := 60) +contextual [*]

@[simp ↓] theorem State.accState_inv (s : State) (off : Nat) (h : State.Inv s) : State.Inv (State.accState s off) := by
  unfold State.accState
  simp (maxDischargeDepth := 60) +contextual [*]

@[simp ↓] theorem State.accOwner_inv (s : State) (off : Nat) (h : State.Inv s) : State.Inv (State.accOwner s off) := by
  unfold State.accOwner
  simp (maxDischargeDepth := 60) +contextual [*]

@[simp ↓] theorem State.accValue_inv (s : State) (off : Nat) (h : State.Inv s) : State.Inv (State.accValue s off) := by
  unfold State.accValue
  simp (maxDischargeDepth := 60) +contextual [*]

@[simp ↓] theorem State.cplLost_inv (s : State) (fn typ : Nat) (h : State.Inv s) : State.Inv (State.cplLost s fn typ) := by
  unfold State.cplLost
  simp (maxDischargeDepth := 60) +contextual [*]

@[simp ↓] theorem State.queueCpl_inv (s : State) (c : Cpl) (h : State.Inv s) : State.Inv (State.queueCpl s c) := by
  unfold State.queueCpl
  simp (maxDischargeDepth := 60) +contextual [*]

@[simp ↓] theorem State.unsolicited_inv (s : State) (fn cq typ limit : Nat) (body : List Byte) (h : State.Inv s) :
    State.Inv (State.unsolicited s fn cq typ limit body) := by
  unfold State.unsolicited
  simp (maxDischargeDepth := 60) +contextual [*]

@[simp ↓] theorem State.retire_inv (s : State) (d : DRef) (h : State.Inv s) : State.Inv (State.retire s d) := by
  unfold State.retire
  simp (maxDischargeDepth := 60) +contextual [*]

@[simp ↓] theorem State.postFor_inv (s : State) (d : DRef) (typ status : Nat) (body : CplBody) (h : State.Inv s) :
    State.Inv (State.postFor s d typ status body) := by
  unfold State.postFor
  simp (maxDischargeDepth := 60) +contextual [*]

@[simp ↓] theorem State.complete_inv (s : State) (d : DRef) (opc status result aux : Nat) (h : State.Inv s) :
    State.Inv (State.complete s d opc status result aux) := by
  unfold State.complete
  simp (maxDischargeDepth := 60) +contextual [*]

@[simp ↓] theorem State.completeOpt_inv (s : State) (d : Option DRef) (opc status result aux : Nat) (h : State.Inv s) :
    State.Inv (State.completeOpt s d opc status result aux) := by
  unfold State.completeOpt
  try dsimp only
  repeat' (first
    | (with_reducible assumption)
    | (with_reducible refine foldl_inv _ _ ?_ ?_)
    | (simp (maxDischargeDepth := 60) +contextual [*]; done)
    | (with_reducible apply inv_next)
    | split
    | (dsimp only; split)
    | intro)

@[simp ↓] theorem State.hazard_inv (s : State) (t itile cls step res detail ecyc : Nat) (h : State.Inv s) :
    State.Inv (State.hazard s t itile cls step res detail ecyc) := by
  unfold State.hazard
  simp (maxDischargeDepth := 60) +contextual [*]

@[simp ↓] theorem State.stallAt_inv (s : State) (l c step res detail : Nat) (h : State.Inv s) :
    State.Inv (State.stallAt s l c step res detail) := by
  unfold State.stallAt
  try dsimp only
  repeat' (first
    | (with_reducible assumption)
    | (with_reducible refine foldl_inv _ _ ?_ ?_)
    | (simp (maxDischargeDepth := 60) +contextual [*]; done)
    | (with_reducible apply inv_next)
    | split
    | (dsimp only; split)
    | intro)

@[simp ↓] theorem State.askTokens_inv (s : State) (c t bytes : Nat) (h : State.Inv s) :
    State.Inv (State.askTokens s c t bytes).2 := by
  unfold State.askTokens
  simp (maxDischargeDepth := 60) +contextual [*]

@[simp ↓] theorem State.emit_inv (s : State) (p : TracePkt) (h : State.Inv s) : State.Inv (State.emit s p) := by
  unfold State.emit
  simp (maxDischargeDepth := 60) +contextual [*]

@[simp ↓] theorem State.trace_inv (s : State) (src ten typ : Nat) (payload : List Byte) (h : State.Inv s) :
    State.Inv (State.trace s src ten typ payload) := by
  unfold State.trace
  simp (maxDischargeDepth := 60) +contextual [*]

@[simp ↓] theorem State.decision_inv (s : State) (typ t other tiles value : Nat) (h : State.Inv s) :
    State.Inv (State.decision s typ t other tiles value) := by
  unfold State.decision
  simp (maxDischargeDepth := 60) +contextual [*]

@[simp ↓] theorem State.wantPower_inv (s : State) (ls : List Nat) (h : State.Inv s) :
    State.Inv (State.wantPower s ls) := by
  unfold State.wantPower
  simp (maxDischargeDepth := 60) +contextual [*]

@[simp ↓] theorem State.renewSlices_inv (s : State) (h : State.Inv s) :
    State.Inv (State.renewSlices s) := by
  unfold State.renewSlices
  simp (maxDischargeDepth := 60) +contextual [*]

@[simp ↓] theorem State.place_inv (s : State) (h : State.Inv s) : State.Inv (State.place s) := by
  unfold State.place
  try dsimp only
  repeat' (first
    | (with_reducible assumption)
    | (with_reducible refine foldl_inv _ _ ?_ ?_)
    | (simp (maxDischargeDepth := 60) +contextual [*]; done)
    | (with_reducible apply inv_next)
    | split
    | (dsimp only; split)
    | intro)

@[simp ↓] theorem State.raiseVt_inv (s : State) (t : Nat) (h : State.Inv s) : State.Inv (State.raiseVt s t) := by
  unfold State.raiseVt
  try dsimp only
  repeat' (first
    | (with_reducible assumption)
    | (with_reducible refine foldl_inv _ _ ?_ ?_)
    | (simp (maxDischargeDepth := 60) +contextual [*]; done)
    | (with_reducible apply inv_next)
    | split
    | (dsimp only; split)
    | intro)

@[simp ↓] theorem State.dsWrite_inv (s : State) (a : Nat) (bs : List Byte) (h : State.Inv s) :
    State.Inv (State.dsWrite s a bs) := by
  unfold State.dsWrite
  simp (maxDischargeDepth := 60) +contextual [*]

@[simp ↓] theorem State.stagingUe_inv (s : State) (h : State.Inv s) :
    State.Inv (State.stagingUe s) := by
  unfold State.stagingUe
  simp (maxDischargeDepth := 60) +contextual [*]

@[simp ↓] theorem State.poisonLine_inv (s : State) (a size n : Nat) (h : State.Inv s) :
    State.Inv (State.poisonLine s a size n) := by
  unfold State.poisonLine
  simp (maxDischargeDepth := 60) +contextual [*]

@[simp ↓] theorem State.freeBytes_inv (s : State) (a n : Nat) (h : State.Inv s) : State.Inv (State.freeBytes s a n) := by
  induction n generalizing s a with
  | zero => exact h
  | succ n ih =>
    unfold State.freeBytes
    exact ih _ _ (inv_ds _ _ (State.freshNat_inv s h) (Mem.wf_write _ _ _ (State.freshNat_inv s h).ds))

@[simp ↓] theorem State.setFaultAcct_inv (s : State) (t : Nat) (v : Nat × Nat) (h : State.Inv s) :
    State.Inv (State.setFaultAcct s t v) := by
  unfold State.setFaultAcct
  simp (maxDischargeDepth := 60) +contextual [*]

@[simp ↓] theorem State.askFault_inv (s : State) (t n : Nat) (h : State.Inv s) :
    State.Inv (State.askFault s t n) := by
  unfold State.askFault
  simp (maxDischargeDepth := 60) +contextual [*]

@[simp ↓] theorem State.chargeFault_inv (s : State) (t n : Nat) (h : State.Inv s) :
    State.Inv (State.chargeFault s t n) := by
  unfold State.chargeFault
  simp (maxDischargeDepth := 60) +contextual [*]

@[simp ↓] theorem State.dsRing_inv (s : State) (base size at_ : Nat) (bs : List Byte) (h : State.Inv s) :
    State.Inv (State.dsRing s base size at_ bs) := by
  unfold State.dsRing
  simp (maxDischargeDepth := 60) +contextual [*]

@[simp ↓] theorem State.logAdd_inv (s : State) (t typ ecyc : Nat) (payload : List Byte) (h : State.Inv s) :
    State.Inv (State.logAdd s t typ ecyc payload) := by
  unfold State.logAdd
  simp (maxDischargeDepth := 60) +contextual [*]

@[simp ↓] theorem State.journalAdd_inv (s : State) (t : Nat) (e : JEnt) (h : State.Inv s) :
    State.Inv (State.journalAdd s t e) := by
  unfold State.journalAdd
  simp (maxDischargeDepth := 60) +contextual [*]

@[simp ↓] theorem State.tokSpan_inv (s : State) (t : Nat) (k : Token) (h : State.Inv s) :
    State.Inv (State.tokSpan s t k) := by
  unfold State.tokSpan
  try dsimp only
  repeat' (first
    | (with_reducible assumption)
    | (with_reducible refine foldl_inv _ _ ?_ ?_)
    | (simp (maxDischargeDepth := 60) +contextual [*]; done)
    | (with_reducible apply inv_next)
    | split
    | (dsimp only; split)
    | intro)

@[simp ↓] theorem State.sendBnd_inv (s : State) (t k : Nat) (h : State.Inv s) : State.Inv (State.sendBnd s t k) := by
  unfold State.sendBnd
  simp (maxDischargeDepth := 60) +contextual [*]

@[simp ↓] theorem State.sendNow_inv (s : State) (t : Nat) (h : State.Inv s) :
    State.Inv (State.sendNow s t) := by
  unfold State.sendNow
  simp (maxDischargeDepth := 60) +contextual [*]

@[simp ↓] theorem State.sendMarkers_inv (s : State) (t epoch : Nat) (h : State.Inv s) :
    State.Inv (State.sendMarkers s t epoch) := by
  unfold State.sendMarkers
  dsimp only
  refine State.updTen_inv _ _ _ (foldl_inv _ _ h ?_)
  intro s x h
  cases x <;> simp [*]

@[simp ↓] theorem State.setMode_inv (s : State) (m : Mode) (h : State.Inv s) : State.Inv (State.setMode s m) := by
  unfold State.setMode
  simp (maxDischargeDepth := 60) +contextual [*]

@[simp ↓] theorem State.capPut_inv (s : State) (q : CapEnt) (h : State.Inv s) : State.Inv (State.capPut s q) := by
  unfold State.capPut
  simp (maxDischargeDepth := 60) +contextual [*]

@[simp ↓] theorem State.capTake_inv (s : State) (q : CapEnt) (h : State.Inv s) :
    State.Inv (State.capTake s q) := by
  unfold State.capTake
  simp (maxDischargeDepth := 60) +contextual [*]

@[simp ↓] theorem State.capCkpt_inv (s : State) (t due : Nat) (h : State.Inv s) : State.Inv (State.capCkpt s t due) := by
  unfold State.capCkpt
  try dsimp only
  repeat' (first
    | (with_reducible assumption)
    | (with_reducible refine foldl_inv _ _ ?_ ?_)
    | (simp (maxDischargeDepth := 60) +contextual [*]; done)
    | (with_reducible apply inv_next)
    | split
    | (dsimp only; split)
    | intro)

@[simp ↓] theorem State.capHere_inv (s : State) (t due : Nat) (h : State.Inv s) :
    State.Inv (State.capHere s t due) := by
  unfold State.capHere
  try dsimp only
  repeat' (first
    | (with_reducible assumption)
    | (with_reducible refine foldl_inv _ _ ?_ ?_)
    | (simp (maxDischargeDepth := 60) +contextual [*]; done)
    | (with_reducible apply inv_next)
    | split
    | (dsimp only; split)
    | intro)

@[simp ↓] theorem State.closeCkpt_inv (s : State) (t : Nat) (h : State.Inv s) :
    State.Inv (State.closeCkpt s t) := by
  unfold State.closeCkpt
  simp (maxDischargeDepth := 60) +contextual [*]

@[simp ↓] theorem State.earlyCheckpoint_inv (s : State) (t : Nat) (h : State.Inv s) :
    State.Inv (State.earlyCheckpoint s t) := by
  unfold State.earlyCheckpoint
  simp (maxDischargeDepth := 60) +contextual [*]

@[simp ↓] theorem State.logInput_inv (s : State) (t typ ecyc : Nat) (payload : List Byte) (h : State.Inv s) :
    State.Inv (State.logInput s t typ ecyc payload) := by
  unfold State.logInput
  simp (maxDischargeDepth := 60) +contextual [*]

@[simp ↓] theorem State.passEpoch_inv (s : State) (l n : Nat) (h : State.Inv s) :
    State.Inv (State.passEpoch s l n) := by
  unfold State.passEpoch
  simp (maxDischargeDepth := 60) +contextual [*]

@[simp ↓] theorem State.moveTiles_inv (s : State) (t : Nat) (pairs : List (Nat × Nat)) (h : State.Inv s) :
    State.Inv (State.moveTiles s t pairs) := by
  unfold State.moveTiles
  try dsimp only
  repeat' (first
    | (with_reducible assumption)
    | (with_reducible refine foldl_inv _ _ ?_ ?_)
    | (simp (maxDischargeDepth := 60) +contextual [*]; done)
    | (with_reducible apply inv_next)
    | split
    | (dsimp only; split)
    | intro)

@[simp ↓] theorem State.advance_inv (s : State) (t : Nat) (ls : List Nat) (h : State.Inv s) :
    State.Inv (State.advance s t ls) := by
  unfold State.advance
  simp (maxDischargeDepth := 60) +contextual [*]

@[simp ↓] theorem State.rebalance_inv (s : State) (t : Nat) (pairs : List (Nat × Nat)) (h : State.Inv s) :
    State.Inv (State.rebalance s t pairs) := by
  unfold State.rebalance
  try dsimp only
  repeat' (first
    | (with_reducible assumption)
    | (with_reducible refine foldl_inv _ _ ?_ ?_)
    | (simp (maxDischargeDepth := 60) +contextual [*]; done)
    | (with_reducible apply inv_next)
    | split
    | (dsimp only; split)
    | intro)

@[simp ↓] theorem State.endRebal_inv (s : State) (t st : Nat) (h : State.Inv s) :
    State.Inv (State.endRebal s t st) := by
  unfold State.endRebal
  try dsimp only
  repeat' (first
    | (with_reducible assumption)
    | (with_reducible refine foldl_inv _ _ ?_ ?_)
    | (simp (maxDischargeDepth := 60) +contextual [*]; done)
    | (with_reducible apply inv_next)
    | split
    | (dsimp only; split)
    | intro)

@[simp ↓] theorem State.endRefit_inv (s : State) (x : Nat) (h : State.Inv s) :
    State.Inv (State.endRefit s x) := by
  unfold State.endRefit
  simp (maxDischargeDepth := 60) +contextual [*]

@[simp ↓] theorem State.closeRefit_inv (s : State) (t : Nat) (h : State.Inv s) :
    State.Inv (State.closeRefit s t) := by
  unfold State.closeRefit
  simp (maxDischargeDepth := 60) +contextual [*]

@[simp ↓] theorem State.refitStep_inv (s : State) (h : State.Inv s) : State.Inv (State.refitStep s) := by
  unfold State.refitStep
  split
  · exact h
  refine inv_ite _ _ _ (inv_ite _ _ _ h ?_) (inv_ite _ _ _ ?_ h)
  · have h1 : State.Inv (s.askTokens 2 0 s.prBytes).2 := State.askTokens_inv _ _ _ _ h
    have h2 := fun x => inv_edg _ x h1
    dsimp only
    split
    · exact h2 _
    · exact State.closeRefit_inv _ _ (h2 _)
  · dsimp only
    split
    · exact State.endRefit_inv _ _ h
    · refine inv_ite _ _ _ (State.endRefit_inv _ _ (State.endRebal_inv _ _ _ h)) (inv_ite _ _ _ (inv_ite _ _ _ h (State.closeRefit_inv _ _ h))
        (inv_ite _ _ _ (inv_sched _ _ (State.askTokens_inv _ _ _ _ h)) (inv_ite _ _ _ h (State.updTen_inv _ _ _ ?_))))
      exact State.endRefit_inv _ _ (State.endRebal_inv _ _ _ (State.rebalance_inv _ _ _ h))

@[simp ↓] theorem State.refitsGo_inv (s : State) (h : State.Inv s) :
    State.Inv (State.refitsGo s) := by
  unfold State.refitsGo
  simp (maxDischargeDepth := 60) +contextual [*]

@[simp ↓] theorem State.remode_inv (s : State) (h : State.Inv s) : State.Inv (State.remode s) := by
  unfold State.remode
  simp (maxDischargeDepth := 60) +contextual [*]

@[simp ↓] theorem State.markStop_inv (s : State) (t : Nat) (h : State.Inv s) : State.Inv (State.markStop s t) := by
  unfold State.markStop
  simp (maxDischargeDepth := 60) +contextual [*]

@[simp ↓] theorem State.endStepEarly_inv (s : State) (t : Nat) (h : State.Inv s) : State.Inv (State.endStepEarly s t) := by
  unfold State.endStepEarly
  try dsimp only
  repeat' (first
    | (with_reducible assumption)
    | (with_reducible refine foldl_inv _ _ ?_ ?_)
    | (simp (maxDischargeDepth := 60) +contextual [*]; done)
    | (with_reducible apply inv_next)
    | split
    | (dsimp only; split)
    | intro)

@[simp ↓] theorem State.holdNow_inv (s : State) (t : Nat) (causes : List Nat) (h : State.Inv s) :
    State.Inv (State.holdNow s t causes) := by
  unfold State.holdNow
  try dsimp only
  repeat' (first
    | (with_reducible assumption)
    | (with_reducible refine foldl_inv _ _ ?_ ?_)
    | (simp (maxDischargeDepth := 60) +contextual [*]; done)
    | (with_reducible apply inv_next)
    | split
    | (dsimp only; split)
    | intro)

@[simp ↓] theorem State.stopNow_inv (s : State) (t : Nat) (h : State.Inv s) : State.Inv (State.stopNow s t) := by
  unfold State.stopNow
  simp (maxDischargeDepth := 60) +contextual [*]

@[simp ↓] theorem State.renewCkpt_inv (s : State) (t : Nat) (h : State.Inv s) :
    State.Inv (State.renewCkpt s t) := by
  unfold State.renewCkpt
  simp (maxDischargeDepth := 60) +contextual [*]

@[simp ↓] theorem State.startNow_inv (s : State) (t : Nat) (n : Option Nat) (cmd : Option DRef) (h : State.Inv s) :
    State.Inv (State.startNow s t n cmd) := by
  unfold State.startNow
  try dsimp only
  repeat' (first
    | (with_reducible assumption)
    | (with_reducible refine foldl_inv _ _ ?_ ?_)
    | (simp (maxDischargeDepth := 60) +contextual [*]; done)
    | (with_reducible apply inv_next)
    | split
    | (dsimp only; split)
    | intro)

@[simp ↓] theorem State.completeReqs_inv (s : State) (t status : Nat) (l : List Req) (h : State.Inv s) :
    State.Inv (State.completeReqs s t status l) := by
  unfold State.completeReqs
  simp (maxDischargeDepth := 60) +contextual [*]

@[simp ↓] theorem State.closeTiles_inv (s : State) (t : Nat) (h : State.Inv s) : State.Inv (State.closeTiles s t) := by
  unfold State.closeTiles
  simp (maxDischargeDepth := 60) +contextual [*]

@[simp ↓] theorem State.releaseNow_inv (s : State) (t origin : Nat) (h : State.Inv s) :
    State.Inv (State.releaseNow s t origin) := by
  unfold State.releaseNow
  simp (maxDischargeDepth := 60) +contextual [*]

@[simp ↓] theorem State.resolveRun_inv (s : State) (t : Nat) (l : List Req) (h : State.Inv s) :
    State.Inv (State.resolveRun s t l) := by
  unfold State.resolveRun
  try dsimp only
  repeat' (first
    | (with_reducible assumption)
    | (with_reducible refine foldl_inv _ _ ?_ ?_)
    | (simp (maxDischargeDepth := 60) +contextual [*]; done)
    | (with_reducible apply inv_next)
    | split
    | (dsimp only; split)
    | intro)

@[simp ↓] theorem State.closeFor_inv (s : State) (t : Nat) (r : Req) (h : State.Inv s) :
    State.Inv (State.closeFor s t r) := by
  unfold State.closeFor
  try dsimp only
  repeat' (first
    | (with_reducible assumption)
    | (with_reducible refine foldl_inv _ _ ?_ ?_)
    | (simp (maxDischargeDepth := 60) +contextual [*]; done)
    | (with_reducible apply inv_next)
    | split
    | (dsimp only; split)
    | intro)

@[simp ↓] theorem State.derateHere_inv (s : State) (t : Nat) (h : State.Inv s) :
    State.Inv (State.derateHere s t) := by
  unfold State.derateHere
  simp (maxDischargeDepth := 60) +contextual [*]

@[simp ↓] theorem State.derateGo_inv (s : State) (h : State.Inv s) :
    State.Inv (State.derateGo s) := by
  unfold State.derateGo
  simp (maxDischargeDepth := 60) +contextual [*]

@[simp ↓] theorem State.resolveLater_inv (s : State) (t : Nat) (rest : List Req) (h : State.Inv s) :
    State.Inv (State.resolveLater s t rest) := by
  unfold State.resolveLater
  simp (maxDischargeDepth := 60) +contextual [*]

@[simp ↓] theorem State.boundary_inv (s : State) (t : Nat) (h : State.Inv s) : State.Inv (State.boundary s t) := by
  unfold State.boundary
  simp (maxDischargeDepth := 60) +contextual [*]

@[simp ↓] theorem State.settle_inv (s : State) (t : Nat) (h : State.Inv s) :
    State.Inv (State.settle s t) := by
  unfold State.settle
  simp (maxDischargeDepth := 60) +contextual [*]

@[simp ↓] theorem State.addReq_inv (s : State) (t : Nat) (r : Req) (h : State.Inv s) :
    State.Inv (State.addReq s t r) := by
  unfold State.addReq
  simp (maxDischargeDepth := 60) +contextual [*]

@[simp ↓] theorem State.request_inv (s : State) (t : Nat) (k : ReqKind) (cmd : Option DRef) (h : State.Inv s) :
    State.Inv (State.request s t k cmd) := by
  unfold State.request
  simp (maxDischargeDepth := 60) +contextual [*]

@[simp ↓] theorem State.requestAt_inv (s : State) (t : Nat) (k : ReqKind) (due : Nat) (cmd : Option DRef) (origin : Nat) (h : State.Inv s) :
    State.Inv (State.requestAt s t k due cmd origin) := by
  unfold State.requestAt
  simp (maxDischargeDepth := 60) +contextual [*]

@[simp ↓] theorem State.raiseHold_inv (s : State) (t cause : Nat) (cmd : Option DRef) (h : State.Inv s) :
    State.Inv (State.raiseHold s t cause cmd) := by
  unfold State.raiseHold
  simp (maxDischargeDepth := 60) +contextual [*]

@[simp ↓] theorem State.enterHold_inv (s : State) (h : State.Inv s) : State.Inv (State.enterHold s) := by
  unfold State.enterHold
  simp (maxDischargeDepth := 60) +contextual [*]

@[simp ↓] theorem State.leaveHold_inv (s : State) (h : State.Inv s) : State.Inv (State.leaveHold s) := by
  unfold State.leaveHold
  simp (maxDischargeDepth := 60) +contextual [*]

@[simp ↓] theorem State.setSink_inv (s : State) (k : Nat) (v : Sink) (h : State.Inv s) :
    State.Inv (State.setSink s k v) := by
  unfold State.setSink
  simp (maxDischargeDepth := 60) +contextual [*]

@[simp ↓] theorem State.updSink_inv (s : State) (k : Nat) (f : Sink → Sink) (h : State.Inv s) :
    State.Inv (State.updSink s k f) := by
  unfold State.updSink
  simp (maxDischargeDepth := 60) +contextual [*]

@[simp ↓] theorem State.funnelPut_inv (s : State) (k typ ten a b : Nat) (h : State.Inv s) :
    State.Inv (State.funnelPut s k typ ten a b) := by
  unfold State.funnelPut
  simp (maxDischargeDepth := 60) +contextual [*]

@[simp ↓] theorem State.funnel_inv (s : State) (k typ ten a b : Nat) (h : State.Inv s) :
    State.Inv (State.funnel s k typ ten a b) := by
  unfold State.funnel
  simp (maxDischargeDepth := 60) +contextual [*]

@[simp ↓] theorem State.syncPut_inv (s : State) (k reason ten ecyc : Nat) (h : State.Inv s) :
    State.Inv (State.syncPut s k reason ten ecyc) := by
  unfold State.syncPut
  simp (maxDischargeDepth := 60) +contextual [*]

@[simp ↓] theorem State.periodic_inv (s : State) (k was : Nat) (h : State.Inv s) :
    State.Inv (State.periodic s k was) := by
  unfold State.periodic
  simp (maxDischargeDepth := 60) +contextual [*]

@[simp ↓] theorem State.funnelMark_inv (s : State) (k typ ten a b : Nat) (h : State.Inv s) :
    State.Inv (State.funnelMark s k typ ten a b) := by
  unfold State.funnelMark
  simp (maxDischargeDepth := 60) +contextual [*]

@[simp ↓] theorem State.syncAll_inv (s : State) (reason : Nat) (h : State.Inv s) : State.Inv (State.syncAll s reason) := by
  unfold State.syncAll
  simp (maxDischargeDepth := 60) +contextual [*]

@[simp ↓] theorem State.closePut_inv (s : State) (k reason ten : Nat) (h : State.Inv s) :
    State.Inv (State.closePut s k reason ten) := by
  unfold State.closePut
  simp (maxDischargeDepth := 60) +contextual [*]

@[simp ↓] theorem State.resumeTrace_inv (s : State) (t : Nat) (h : State.Inv s) : State.Inv (State.resumeTrace s t) := by
  unfold State.resumeTrace
  simp (maxDischargeDepth := 60) +contextual [*]

@[simp ↓] theorem State.closeTrace_inv (s : State) (t : Nat) (h : State.Inv s) : State.Inv (State.closeTrace s t) := by
  unfold State.closeTrace
  simp (maxDischargeDepth := 60) +contextual [*]

@[simp ↓] theorem State.faultEvent_inv (s : State) (t ev logSeq e : Nat) (h : State.Inv s) :
    State.Inv (State.faultEvent s t ev logSeq e) := by
  unfold State.faultEvent
  simp (maxDischargeDepth := 60) +contextual [*]

@[simp ↓] theorem State.chvCut_inv (s : State) (h : State.Inv s) :
    State.Inv (State.chvCut s) := by
  unfold State.chvCut
  simp (maxDischargeDepth := 60) +contextual [*]

@[simp ↓] theorem State.chvSafe_inv (s : State) (h : State.Inv s) : State.Inv (State.chvSafe s) := by
  unfold State.chvSafe
  simp (maxDischargeDepth := 60) +contextual [*]

@[simp ↓] theorem State.loadTenant_inv (s : State) (t : Nat) (v : Saved) (h : State.Inv s) :
    State.Inv (State.loadTenant s t v) := by
  unfold State.loadTenant
  try dsimp only
  repeat' (first
    | (with_reducible assumption)
    | (with_reducible refine foldl_inv _ _ ?_ ?_)
    | (simp (maxDischargeDepth := 60) +contextual [*]; done)
    | (with_reducible apply inv_next)
    | split
    | (dsimp only; split)
    | intro)

@[simp ↓] theorem State.haltTenant_inv (s : State) (t : Nat) (h : Halt) (hs : State.Inv s) :
    State.Inv (State.haltTenant s t h) := by
  unfold State.haltTenant
  try dsimp only
  repeat' (first
    | (with_reducible assumption)
    | (with_reducible refine foldl_inv _ _ ?_ ?_)
    | (simp (maxDischargeDepth := 60) +contextual [*]; done)
    | (with_reducible apply inv_next)
    | split
    | (dsimp only; split)
    | intro)

@[simp ↓] theorem State.markBad_inv (s : State) (n : Nat) (h : State.Inv s) : State.Inv (State.markBad s n) := by
  unfold State.markBad
  simp (maxDischargeDepth := 60) +contextual [*]

@[simp ↓] theorem State.beginRecovery_inv (s : State) (t : Nat) (kind : RecKind) (lt : Option Nat) (k g seq : Nat) (h : State.Inv s) :
    State.Inv (State.beginRecovery s t kind lt k g seq) := by
  unfold State.beginRecovery
  try dsimp only
  repeat' (first
    | (with_reducible assumption)
    | (with_reducible refine foldl_inv _ _ ?_ ?_)
    | (simp (maxDischargeDepth := 60) +contextual [*]; done)
    | (with_reducible apply inv_next)
    | split
    | (dsimp only; split)
    | intro)

@[simp ↓] theorem State.startRecovery_inv (s : State) (t : Nat) (kind : RecKind) (lt : Option Nat) (seq : Nat) (h : State.Inv s) :
    State.Inv (State.startRecovery s t kind lt seq) := by
  unfold State.startRecovery
  simp (maxDischargeDepth := 60) +contextual [*]

@[simp ↓] theorem State.transientFault_inv (s : State) (t cls unit : Nat) (h : State.Inv s) :
    State.Inv (State.transientFault s t cls unit).2 := by
  unfold State.transientFault
  simp (maxDischargeDepth := 60) +contextual [*]

@[simp ↓] theorem State.tileTransient_inv (s : State) (t l cls : Nat) (h : State.Inv s) :
    State.Inv (State.tileTransient s t l cls) := by
  unfold State.tileTransient
  simp (maxDischargeDepth := 60) +contextual [*]

@[simp ↓] theorem State.pathFault_inv (s : State) (t l ecyc : Nat) (h : State.Inv s) :
    State.Inv (State.pathFault s t l ecyc) := by
  unfold State.pathFault
  simp (maxDischargeDepth := 60) +contextual [*]

@[simp ↓] theorem State.arrayUe_inv (s : State) (t l bank word : Nat) (h : State.Inv s) :
    State.Inv (State.arrayUe s t l bank word) := by
  unfold State.arrayUe
  simp (maxDischargeDepth := 60) +contextual [*]

@[simp ↓] theorem State.faultStop_inv (s : State) (t src : Nat) (h : State.Inv s) :
    State.Inv (State.faultStop s t src) := by
  unfold State.faultStop
  try dsimp only
  repeat' (first
    | (with_reducible assumption)
    | (with_reducible refine foldl_inv _ _ ?_ ?_)
    | (simp (maxDischargeDepth := 60) +contextual [*]; done)
    | (with_reducible apply inv_next)
    | split
    | (dsimp only; split)
    | intro)

@[simp ↓] theorem State.spreadFault_inv (s : State) (t b origin : Nat) (h : State.Inv s) :
    State.Inv (State.spreadFault s t b origin) := by
  unfold State.spreadFault
  simp (maxDischargeDepth := 60) +contextual [*]

@[simp ↓] theorem State.doubleFault_inv (s : State) (t l : Nat) (h : State.Inv s) : State.Inv (State.doubleFault s t l) := by
  unfold State.doubleFault
  simp (maxDischargeDepth := 60) +contextual [*]

@[simp ↓] theorem State.dataLoss_inv (s : State) (t ecyc seq : Nat) (h : State.Inv s) :
    State.Inv (State.dataLoss s t ecyc seq) := by
  unfold State.dataLoss
  try dsimp only
  repeat' (first
    | (with_reducible assumption)
    | (with_reducible refine foldl_inv _ _ ?_ ?_)
    | (simp (maxDischargeDepth := 60) +contextual [*]; done)
    | (with_reducible apply inv_next)
    | split
    | (dsimp only; split)
    | intro)

@[simp ↓] theorem State.capAsk_inv (s : State) (t : Nat) (kind : CapKind) (due : Nat) (cmd : Option DRef) (src : Nat) (h : State.Inv s) :
    State.Inv (State.capAsk s t kind due cmd src).2 := by
  unfold State.capAsk
  try dsimp only
  repeat' (first
    | (with_reducible assumption)
    | (with_reducible refine foldl_inv _ _ ?_ ?_)
    | (simp (maxDischargeDepth := 60) +contextual [*]; done)
    | (with_reducible apply State.takeUp_inv)
    | (with_reducible apply State.tokFrame_inv)
    | (with_reducible apply inv_next)
    | split
    | (dsimp only; split)
    | intro)

@[simp ↓] theorem State.capLearn_inv (s : State) (t kind due origin : Nat) (h : State.Inv s) :
    State.Inv (State.capLearn s t kind due origin) := by
  unfold State.capLearn
  simp (maxDischargeDepth := 60) +contextual [*]

@[simp ↓] theorem State.gateHazards_inv (s : State) (l a : Nat) (h : State.Inv s) : State.Inv (State.gateHazards s l a) := by
  unfold State.gateHazards
  simp (maxDischargeDepth := 60) +contextual [*]

@[simp ↓] theorem State.gateWaits_inv (s : State) (l a : Nat) (h : State.Inv s) : State.Inv (State.gateWaits s l a) := by
  unfold State.gateWaits
  have h0 : State.Inv (if (s.tile l).awaitedWords a ≠ 0 then s.stallAt l 0 a 0 0 else s) := by
    split <;> simp [*]
  have h1 := h0
  dsimp only
  refine State.updTile_inv _ _ _ ?_
  refine inv_ite _ _ _ (State.stallAt_inv _ _ _ _ _ _ ?_) ?_
  all_goals
    refine foldl_inv _ _ h0 ?_
    intro s x h
    split
    · split <;> simp [*]
    · simp [*]
    · simp [*]

@[simp ↓] theorem State.issueDeep_inv (s : State) (l a b : Nat) (h : State.Inv s) : State.Inv (State.issueDeep s l a b) := by
  unfold State.issueDeep
  simp (maxDischargeDepth := 60) +contextual [*]

@[simp ↓] theorem State.evaluate_inv (s : State) (l : Nat) (h : State.Inv s) : State.Inv (State.evaluate s l) := by
  unfold State.evaluate
  simp (maxDischargeDepth := 60) +contextual [*]

@[simp ↓] theorem State.evalWaits_inv (s : State) (l : Nat) (held : BitVec 16) (h : State.Inv s) :
    State.Inv (State.evalWaits s l held) := by
  unfold State.evalWaits
  try dsimp only
  repeat' (first
    | (with_reducible assumption)
    | (with_reducible refine foldl_inv _ _ ?_ ?_)
    | (simp (maxDischargeDepth := 60) +contextual [*]; done)
    | (with_reducible apply inv_next)
    | split
    | (dsimp only; split)
    | intro)

@[simp ↓] theorem State.releaseWord_inv (s : State) (l w : Nat) (h : State.Inv s) : State.Inv (State.releaseWord s l w) := by
  unfold State.releaseWord
  try dsimp only
  repeat' (first
    | (with_reducible assumption)
    | (with_reducible refine foldl_inv _ _ ?_ ?_)
    | (simp (maxDischargeDepth := 60) +contextual [*]; done)
    | (with_reducible apply inv_next)
    | split
    | (dsimp only; split)
    | intro)

@[simp ↓] theorem State.writePhase_inv (s : State) (l : Nat) (h : State.Inv s) : State.Inv (State.writePhase s l) := by
  unfold State.writePhase
  simp (maxDischargeDepth := 60) +contextual [*]

@[simp ↓] theorem State.seqOp_inv (s : State) (l op : Nat) (f : Tile → Tile) (h : State.Inv s) :
    State.Inv (State.seqOp s l op f) := by
  unfold State.seqOp
  simp (maxDischargeDepth := 60) +contextual [*]

@[simp ↓] theorem State.macOp_inv (s : State) (l p op : Nat) (h : State.Inv s) : State.Inv (State.macOp s l p op) := by
  unfold State.macOp
  try dsimp only
  repeat' (first
    | (with_reducible assumption)
    | (with_reducible refine foldl_inv _ _ ?_ ?_)
    | (simp (maxDischargeDepth := 60) +contextual [*]; done)
    | (with_reducible apply inv_next)
    | split
    | (dsimp only; split)
    | intro)

@[simp ↓] theorem State.arrUe_inv (s : State) (l p : Nat) (c : ArrCmd) (h : State.Inv s) :
    State.Inv (State.arrUe s l p c) := by
  unfold State.arrUe
  simp (maxDischargeDepth := 60) +contextual [*]

@[simp ↓] theorem State.arrOp_inv (s : State) (l p op : Nat) (err : ErrFound) (h : State.Inv s) :
    State.Inv (State.arrOp s l p op err) := by
  unfold State.arrOp
  try dsimp only
  repeat' (first
    | (with_reducible assumption)
    | (with_reducible refine foldl_inv _ _ ?_ ?_)
    | (simp (maxDischargeDepth := 60) +contextual [*]; done)
    | (with_reducible apply inv_next)
    | split
    | (dsimp only; split)
    | intro)

theorem Noc.turn_hub (n : Noc) (a b : Nat) : (n.turn a b).hub = n.hub := by
  unfold Noc.turn
  dsimp only
  split <;> rfl

theorem Noc.turnAll_hub (n : Noc) : n.turnAll.hub = n.hub := by
  have key : ∀ (l : List (Nat × Nat)) (m : Noc), (l.foldl (fun n e => n.turn e.1 e.2) m).hub = m.hub := by
    intro l
    induction l with
    | nil => intro m; rfl
    | cons e r ih => intro m; exact (ih _).trans (Noc.turn_hub _ _ _)
  exact (key _ _).trans rfl

theorem inv_noc (s : State) (n : Noc) (h : State.Inv s) (e : n.hub = s.noc.hub) : State.Inv { s with noc := n } :=
  ⟨h.fm, h.thy, h.hostMem, by show n.hub.wf = true; rw [e]; exact h.hub, h.ds⟩

@[simp ↓] theorem State.nocTurn_inv (s : State) (h : State.Inv s) : State.Inv (State.nocTurn s) := by
  unfold State.nocTurn
  exact inv_ite _ _ _ h (inv_noc _ _ h (Noc.turnAll_hub _))

@[simp ↓] theorem State.nocTick_inv (s : State) (h : State.Inv s) : State.Inv (State.nocTick s) := by
  unfold State.nocTick
  refine inv_noc _ _ h ?_
  dsimp only
  split <;> rfl

@[simp ↓] theorem State.dropPkt_inv (s : State) (h : State.Inv s) : State.Inv (State.dropPkt s) := by
  unfold State.dropPkt
  simp (maxDischargeDepth := 60) +contextual [*]

@[simp ↓] theorem State.regionFault_inv (s : State) (t off : Nat) (h : State.Inv s) :
    State.Inv (State.regionFault s t off) := by
  unfold State.regionFault
  simp (maxDischargeDepth := 60) +contextual [*]

@[simp ↓] theorem State.doorbellBad_inv (s : State) (fn r cq : Nat) (v : Word) (h : State.Inv s) :
    State.Inv (State.doorbellBad s fn r cq v) := by
  unfold State.doorbellBad
  simp (maxDischargeDepth := 60) +contextual [*]

@[simp ↓] theorem State.takeUp_inv (s : State) (d : DRef) (opc : Nat) (pfOnly safeRefused : Bool) (k : State → State) (hk : ∀ s : State, State.Inv s → State.Inv (k s)) (h : State.Inv s) :
    Out.Inv (State.takeUp s d opc pfOnly safeRefused k) := by
  unfold State.takeUp
  simp (maxDischargeDepth := 60) +contextual [*]

@[simp ↓] theorem State.completeOut_inv (s : State) (d : DRef) (status port e sq len written : Nat) (h : State.Inv s) :
    State.Inv (State.completeOut s d status port e sq len written) := by
  unfold State.completeOut
  simp (maxDischargeDepth := 60) +contextual [*]

@[simp ↓] theorem State.dropPorts_inv (s : State) (t : Nat) (h : State.Inv s) : State.Inv (State.dropPorts s t) := by
  unfold State.dropPorts
  simp (maxDischargeDepth := 60) +contextual [*]

@[simp ↓] theorem State.setCtlEnable_inv (s : State) (fn off : Nat) (en : Bool) (h : State.Inv s) :
    State.Inv (State.setCtlEnable s fn off en) := by
  unfold State.setCtlEnable
  simp (maxDischargeDepth := 60) +contextual [*]

@[simp ↓] theorem State.disableSq_inv (s : State) (fn r : Nat) (h : State.Inv s) : State.Inv (State.disableSq s fn r) := by
  unfold State.disableSq
  simp (maxDischargeDepth := 60) +contextual [*]

@[simp ↓] theorem State.disableCq_inv (s : State) (fn r : Nat) (h : State.Inv s) : State.Inv (State.disableCq s fn r) := by
  unfold State.disableCq
  simp (maxDischargeDepth := 60) +contextual [*]

@[simp ↓] theorem State.ringReset_inv (s : State) (fn : Nat) (h : State.Inv s) : State.Inv (State.ringReset s fn) := by
  unfold State.ringReset
  simp (maxDischargeDepth := 60) +contextual [*]

@[simp ↓] theorem State.pageReset_inv (s : State) (fn : Nat) (h : State.Inv s) : State.Inv (State.pageReset s fn) := by
  unfold State.pageReset
  simp (maxDischargeDepth := 60) +contextual [*]

@[simp ↓] theorem State.flrOne_inv (s : State) (fn : Nat) (h : State.Inv s) : State.Inv (State.flrOne s fn) := by
  unfold State.flrOne
  simp (maxDischargeDepth := 60) +contextual [*]

@[simp ↓] theorem State.hotReset_inv (s : State) (h : State.Inv s) : State.Inv (State.hotReset s) := by
  unfold State.hotReset
  simp (maxDischargeDepth := 60) +contextual [*]

@[simp ↓] theorem State.pcieDown_inv (s : State) (h : State.Inv s) : State.Inv (State.pcieDown s) := by
  unfold State.pcieDown
  simp (maxDischargeDepth := 60) +contextual [*]

@[simp ↓] theorem execSqDoorbell_inv (fn : TenId) (r : Ring8) (value : Word) (s : State) (h : State.Inv s) :
    Out.Inv (execSqDoorbell fn r value s) := by
  unfold execSqDoorbell
  simp (maxDischargeDepth := 60) +contextual [*]

@[simp ↓] theorem execCqHeadWrite_inv (fn : TenId) (r : Ring8) (value : Word) (s : State) (h : State.Inv s) :
    Out.Inv (execCqHeadWrite fn r value s) := by
  unfold execCqHeadWrite
  simp (maxDischargeDepth := 60) +contextual [*]

@[simp ↓] theorem State.writeSqCtl_inv (s : State) (fn r : Nat) (en : Bool) (log2 cq : Nat) (h : State.Inv s) :
    State.Inv (State.writeSqCtl s fn r en log2 cq) := by
  unfold State.writeSqCtl
  simp (maxDischargeDepth := 60) +contextual [*]

@[simp ↓] theorem State.writeCqCtl_inv (s : State) (fn r : Nat) (en : Bool) (log2 ien vector cnt us : Nat) (h : State.Inv s) :
    State.Inv (State.writeCqCtl s fn r en log2 ien vector cnt us) := by
  unfold State.writeCqCtl
  simp (maxDischargeDepth := 60) +contextual [*]

@[simp ↓] theorem State.startXfer_inv (s : State) (d : DRef) (opc ten host off len : Nat) (h : State.Inv s) :
    State.Inv (State.startXfer s d opc ten host off len) := by
  unfold State.startXfer
  simp (maxDischargeDepth := 60) +contextual [*]

@[simp ↓] theorem State.hostFault_inv (s : State) (d : DRef) (opc : Nat) (h : State.Inv s) :
    State.Inv (State.hostFault s d opc) := by
  unfold State.hostFault
  simp (maxDischargeDepth := 60) +contextual [*]

@[simp ↓] theorem State.endXfer_inv (s : State) (x : Xfer) (bytes : List Byte) (res : XferEnd) (h : State.Inv s) :
    State.Inv (State.endXfer s x bytes res) := by
  unfold State.endXfer
  try dsimp only
  repeat' (first
    | (with_reducible assumption)
    | (with_reducible refine foldl_inv _ _ ?_ ?_)
    | (simp (maxDischargeDepth := 60) +contextual [*]; done)
    | (with_reducible apply State.takeUp_inv)
    | (with_reducible apply inv_next)
    | split
    | (dsimp only; split)
    | intro)

@[simp ↓] theorem State.bindNow_inv (s : State) (t : Nat) (b : BindJob) (h : State.Inv s) :
    State.Inv (State.bindNow s t b) := by
  unfold State.bindNow
  simp (maxDischargeDepth := 60) +contextual [*]

@[simp ↓] theorem State.setLink_inv (s : State) (l : Nat) (v : Link) (h : State.Inv s) :
    State.Inv (State.setLink s l v) := by
  unfold State.setLink
  simp (maxDischargeDepth := 60) +contextual [*]

@[simp ↓] theorem State.updLink_inv (s : State) (l : Nat) (f : Link → Link) (h : State.Inv s) :
    State.Inv (State.updLink s l f) := by
  unfold State.updLink
  simp (maxDischargeDepth := 60) +contextual [*]

@[simp ↓] theorem State.linkReport_inv (s : State) (l code cls detail : Nat) (h : State.Inv s) :
    State.Inv (State.linkReport s l code cls detail) := by
  unfold State.linkReport
  simp (maxDischargeDepth := 60) +contextual [*]

@[simp ↓] theorem State.tokUp_inv (s : State) (but : Option Nat) (k : Token) (h : State.Inv s) :
    State.Inv (State.tokUp s but k) := by
  unfold State.tokUp
  simp (maxDischargeDepth := 60) +contextual [*]

@[simp ↓] theorem State.sendNbr_inv (s : State) (h : State.Inv s) :
    State.Inv (State.sendNbr s) := by
  unfold State.sendNbr
  simp (maxDischargeDepth := 60) +contextual [*]

@[simp ↓] theorem State.nbrSince_inv (s : State) (old : BitVec 256) (h : State.Inv s) :
    State.Inv (State.nbrSince s old) := by
  unfold State.nbrSince
  simp (maxDischargeDepth := 60) +contextual [*]

@[simp ↓] theorem State.startLink_inv (s : State) (l : Nat) (h : State.Inv s) : State.Inv (State.startLink s l) := by
  unfold State.startLink
  simp (maxDischargeDepth := 60) +contextual [*]

@[simp ↓] theorem State.startSide_inv (s : State) (d : Nat) (h : State.Inv s) :
    State.Inv (State.startSide s d) := by
  unfold State.startSide
  simp (maxDischargeDepth := 60) +contextual [*]

@[simp ↓] theorem State.startLinks_inv (s : State) (h : State.Inv s) : State.Inv (State.startLinks s) := by
  unfold State.startLinks
  simp (maxDischargeDepth := 60) +contextual [*]

@[simp ↓] theorem State.prbsCounts_inv (s : State) (l : Nat) (h : State.Inv s) : State.Inv (State.prbsCounts s l) := by
  unfold State.prbsCounts
  simp (maxDischargeDepth := 60) +contextual [*]

@[simp ↓] theorem State.substitute_inv (s : State) (l lane : Nat) (h : State.Inv s) :
    State.Inv (State.substitute s l lane) := by
  unfold State.substitute
  simp (maxDischargeDepth := 60) +contextual [*]

@[simp ↓] theorem State.takeDetour_inv (s : State) (l : Nat) (h : State.Inv s) : State.Inv (State.takeDetour s l) := by
  unfold State.takeDetour
  try dsimp only
  repeat' (first
    | (with_reducible assumption)
    | (with_reducible refine foldl_inv _ _ ?_ ?_)
    | (simp (maxDischargeDepth := 60) +contextual [*]; done)
    | (with_reducible apply State.takeUp_inv)
    | (with_reducible apply inv_next)
    | split
    | (dsimp only; split)
    | intro)

@[simp ↓] theorem State.linkDown_inv (s : State) (l : Nat) (h : State.Inv s) : State.Inv (State.linkDown s l) := by
  unfold State.linkDown
  simp (maxDischargeDepth := 60) +contextual [*]

@[simp ↓] theorem State.changeLink_inv (s : State) (l : Nat) (k : Link) (h : State.Inv s) :
    State.Inv (State.changeLink s l k) := by
  unfold State.changeLink
  simp (maxDischargeDepth := 60) +contextual [*]

@[simp ↓] theorem State.upFromFull_inv (s : State) (l : Nat) (h : State.Inv s) : State.Inv (State.upFromFull s l) := by
  unfold State.upFromFull
  simp (maxDischargeDepth := 60) +contextual [*]

@[simp ↓] theorem State.comeUp_inv (s : State) (l : Nat) (h : State.Inv s) :
    State.Inv (State.comeUp s l) := by
  unfold State.comeUp
  try dsimp only
  repeat' (first
    | (with_reducible assumption)
    | (with_reducible refine foldl_inv _ _ ?_ ?_)
    | (simp (maxDischargeDepth := 60) +contextual [*]; done)
    | (with_reducible apply inv_next)
    | split
    | (dsimp only; split)
    | intro)

@[simp ↓] theorem State.linkUpNow_inv (s : State) (l : Nat) (h : State.Inv s) : State.Inv (State.linkUpNow s l) := by
  unfold State.linkUpNow
  try dsimp only
  repeat' (first
    | (with_reducible assumption)
    | (with_reducible refine foldl_inv _ _ ?_ ?_)
    | (simp (maxDischargeDepth := 60) +contextual [*]; done)
    | (with_reducible apply State.takeUp_inv)
    | (with_reducible apply inv_next)
    | split
    | (dsimp only; split)
    | intro)

@[simp ↓] theorem State.takeFrame_inv (s : State) (l : Nat) (seq : BitVec 12) (damaged : Bool) (h : State.Inv s) :
    State.Inv (State.takeFrame s l seq damaged).2 := by
  unfold State.takeFrame
  try dsimp only
  repeat' (first
    | (with_reducible assumption)
    | (with_reducible refine foldl_inv _ _ ?_ ?_)
    | (simp (maxDischargeDepth := 60) +contextual [*]; done)
    | (with_reducible apply State.takeUp_inv)
    | (with_reducible apply inv_next)
    | split
    | (dsimp only; split)
    | intro)

@[simp ↓] theorem State.send_inv (s : State) (l : Nat) (w : WireItem) (h : State.Inv s) : State.Inv (State.send s l w) := by
  unfold State.send
  simp (maxDischargeDepth := 60) +contextual [*]

@[simp ↓] theorem State.takeLine_inv (s : State) (l : Nat) (x : LineIn) (h : State.Inv s) :
    State.Inv (State.takeLine s l x).2 := by
  unfold State.takeLine
  try dsimp only
  repeat' (first
    | (with_reducible assumption)
    | (with_reducible refine foldl_inv _ _ ?_ ?_)
    | (simp (maxDischargeDepth := 60) +contextual [*]; done)
    | (with_reducible apply inv_next)
    | split
    | (dsimp only; split)
    | intro)

@[simp ↓] theorem State.recordRefusal_inv (s : State) (t st : Nat) (h : State.Inv s) :
    State.Inv (State.recordRefusal s t st) := by
  unfold State.recordRefusal
  try dsimp only
  repeat' (first
    | (with_reducible assumption)
    | (with_reducible refine foldl_inv _ _ ?_ ?_)
    | (simp (maxDischargeDepth := 60) +contextual [*]; done)
    | (with_reducible apply State.takeUp_inv)
    | (with_reducible apply State.tokFrame_inv)
    | (with_reducible apply inv_next)
    | split
    | (dsimp only; split)
    | intro)

@[simp ↓] theorem State.endRun_inv (s : State) (d : DRef) (t st : Nat) (h : State.Inv s) :
    State.Inv (State.endRun s d t st) := by
  unfold State.endRun
  simp (maxDischargeDepth := 60) +contextual [*]

@[simp ↓] theorem State.runStart_inv (s : State) (d : DRef) (t : Nat) (k : ReqKind) (span : SpanAns) (h : State.Inv s) :
    State.Inv (State.runStart s d t k span) := by
  unfold State.runStart
  try dsimp only
  repeat' (first
    | (with_reducible assumption)
    | (with_reducible refine foldl_inv _ _ ?_ ?_)
    | (simp (maxDischargeDepth := 60) +contextual [*]; done)
    | (with_reducible apply State.takeUp_inv)
    | (with_reducible apply State.tokFrame_inv)
    | (with_reducible apply inv_next)
    | split
    | (dsimp only; split)
    | intro)

@[simp ↓] theorem State.writeLsync_inv (s : State) (t w : Nat) (h : State.Inv s) : State.Inv (State.writeLsync s t w) := by
  unfold State.writeLsync
  simp (maxDischargeDepth := 60) +contextual [*]

@[simp ↓] theorem State.thyStep_inv (s : State) (d : Option Int) (h : State.Inv s) : State.Inv (State.thyStep s d) := by
  unfold State.thyStep
  dsimp only
  refine State.syncAll_inv _ _ (State.report_inv _ _ _ _ _ _ (inv_thy _ _ h ?_))
  obtain ⟨h1, h2, h3⟩ := h.thy
  cases d with
  | none => exact ⟨by show min _ _ < _; omega, by show 0 < _; omega, h3⟩
  | some a => exact ⟨by show Int.toNat _ < _; omega, h2, h3⟩

@[simp ↓] theorem State.thyTick_inv (s : State) (h : State.Inv s) : State.Inv (State.thyTick s) := by
  unfold State.thyTick
  dsimp only
  obtain ⟨h1, h2, h3⟩ := h.thy
  have h0 : ∀ u : State, State.Inv u → State.Inv { u with thy := u.thy.backup } := by
    intro u hu
    obtain ⟨a, b, c⟩ := hu.thy
    exact inv_thy _ _ hu ⟨a, b, by show u.thy.ns * 32768 / 1000000000 < _; omega⟩
  refine inv_ite _ _ _ (h0 _ ?_) ?_
  all_goals
    refine foldl_inv _ _ ?_ (fun s x h => State.thyStep_inv _ _ h)
    exact inv_thy _ _ h ⟨Nat.mod_lt _ (by decide), Nat.mod_lt _ (by decide), h3⟩

@[simp ↓] theorem State.thyStart_inv (s : State) (h : State.Inv s) : State.Inv (State.thyStart s) := by
  unfold State.thyStart
  obtain ⟨h1, h2, h3⟩ := h.thy
  refine inv_ite _ _ _ (inv_thy _ _ h ⟨by show 0 < _; omega, by show 0 < _; omega, h3⟩) (inv_thy _ _ h ⟨?_, by show 0 < _; omega, h3⟩)
  show s.thy.bkpFrac * 1000000000 / 32768 < _
  omega

@[simp ↓] theorem State.writeIncNs_inv (s : State) (v : Nat) (h : State.Inv s) : State.Inv (State.writeIncNs s v) := by
  unfold State.writeIncNs
  simp (maxDischargeDepth := 60) +contextual [*]

@[simp ↓] theorem State.writeIncFrac_inv (s : State) (v : Nat) (h : State.Inv s) : State.Inv (State.writeIncFrac s v) := by
  unfold State.writeIncFrac
  simp (maxDischargeDepth := 60) +contextual [*]

@[simp ↓] theorem State.thySet_inv (s : State) (h : State.Inv s) : State.Inv (State.thySet s) := by
  unfold State.thySet
  simp (maxDischargeDepth := 60) +contextual [*]

@[simp ↓] theorem State.thyAdj_inv (s : State) (v : Word) (h : State.Inv s) : State.Inv (State.thyAdj s v) := by
  unfold State.thyAdj
  simp (maxDischargeDepth := 60) +contextual [*]

@[simp ↓] theorem State.thyHoldover_inv (s : State) (last : Nat) (h : State.Inv s) :
    State.Inv (State.thyHoldover s last) := by
  unfold State.thyHoldover
  simp (maxDischargeDepth := 60) +contextual [*]

@[simp ↓] theorem State.takeSource_inv (s : State) (last : Nat) (h : State.Inv s) : State.Inv (State.takeSource s last) := by
  unfold State.takeSource
  try dsimp only
  repeat' (first
    | (with_reducible assumption)
    | (with_reducible refine foldl_inv _ _ ?_ ?_)
    | (simp (maxDischargeDepth := 60) +contextual [*]; done)
    | (with_reducible apply State.takeUp_inv)
    | (with_reducible apply State.tokFrame_inv)
    | (with_reducible apply inv_next)
    | split
    | (dsimp only; split)
    | intro)

@[simp ↓] theorem State.writeThyCtl_inv (s : State) (v : Nat) (h : State.Inv s) : State.Inv (State.writeThyCtl s v) := by
  unfold State.writeThyCtl
  simp (maxDischargeDepth := 60) +contextual [*]

@[simp ↓] theorem State.writeMout_inv (s : State) (v : Nat) (h : State.Inv s) : State.Inv (State.writeMout s v) := by
  unfold State.writeMout
  simp (maxDischargeDepth := 60) +contextual [*]

@[simp ↓] theorem State.nearest_inv (s : State) (d p : Nat) (h : State.Inv s) : State.Inv (State.nearest s d p).2 := by
  unfold State.nearest
  try dsimp only
  repeat' (first
    | (with_reducible assumption)
    | (with_reducible refine foldl_inv _ _ ?_ ?_)
    | (simp (maxDischargeDepth := 60) +contextual [*]; done)
    | (with_reducible apply State.takeUp_inv)
    | (with_reducible apply State.tokFrame_inv)
    | (with_reducible apply inv_next)
    | split
    | (dsimp only; split)
    | intro)

@[simp ↓] theorem State.servoInc_inv (s : State) (h : State.Inv s) : State.Inv (State.servoInc s) := by
  unfold State.servoInc
  simp (maxDischargeDepth := 60) +contextual [*]

@[simp ↓] theorem State.steer_inv (s : State) (o : Int) (link stratum : Nat) (h : State.Inv s) :
    State.Inv (State.steer s o link stratum) := by
  unfold State.steer
  simp (maxDischargeDepth := 60) +contextual [*]

@[simp ↓] theorem State.steerMark_inv (s : State) (l mseq delay sub stratum : Nat) (h : State.Inv s) :
    State.Inv (State.steerMark s l mseq delay sub stratum) := by
  unfold State.steerMark
  simp (maxDischargeDepth := 60) +contextual [*]

@[simp ↓] theorem State.sendMark_inv (s : State) (l delay : Nat) (h : State.Inv s) :
    State.Inv (State.sendMark s l delay) := by
  unfold State.sendMark
  simp (maxDischargeDepth := 60) +contextual [*]

@[simp ↓] theorem State.marksSince_inv (s : State) (was : Nat) (h : State.Inv s) :
    State.Inv (State.marksSince s was) := by
  unfold State.marksSince
  simp (maxDischargeDepth := 60) +contextual [*]

@[simp ↓] theorem State.tryUp_inv (s : State) (l : Nat) (h : State.Inv s) :
    State.Inv (State.tryUp s l) := by
  unfold State.tryUp
  simp (maxDischargeDepth := 60) +contextual [*]

@[simp ↓] theorem State.identTs_inv (s : State) (l : Nat) (ts : TrainSet) (rtt : Nat) (h : State.Inv s) :
    State.Inv (State.identTs s l ts rtt) := by
  unfold State.identTs
  try dsimp only
  repeat' (first
    | (with_reducible assumption)
    | (with_reducible refine foldl_inv _ _ ?_ ?_)
    | (simp (maxDischargeDepth := 60) +contextual [*]; done)
    | (with_reducible apply State.takeUp_inv)
    | (with_reducible apply inv_next)
    | split
    | (dsimp only; split)
    | intro)

@[simp ↓] theorem State.sendTs_inv (s : State) (l : Nat) (h : State.Inv s) :
    State.Inv (State.sendTs s l) := by
  unfold State.sendTs
  simp (maxDischargeDepth := 60) +contextual [*]

@[simp ↓] theorem State.spareTs_inv (s : State) (l : Nat) (ts : TrainSet) (h : State.Inv s) :
    State.Inv (State.spareTs s l ts) := by
  unfold State.spareTs
  simp (maxDischargeDepth := 60) +contextual [*]

@[simp ↓] theorem State.answerLoop_inv (s : State) (l : Nat) (ts : TrainSet) (h : State.Inv s) :
    State.Inv (State.answerLoop s l ts) := by
  unfold State.answerLoop
  simp (maxDischargeDepth := 60) +contextual [*]

@[simp ↓] theorem State.loopAnswer_inv (s : State) (l : Nat) (ts : TrainSet) (h : State.Inv s) :
    State.Inv (State.loopAnswer s l ts) := by
  unfold State.loopAnswer
  simp (maxDischargeDepth := 60) +contextual [*]

@[simp ↓] theorem State.takeXch_inv (s : State) (l ten ecyc dmod : Nat) (sl : List SlotEnt) (h : State.Inv s) :
    State.Inv (State.takeXch s l ten ecyc dmod sl) := by
  unfold State.takeXch
  simp (maxDischargeDepth := 60) +contextual [*]

@[simp ↓] theorem State.takePkt_inv (s : State) (l : Nat) (p : Pkt) (h : State.Inv s) : State.Inv (State.takePkt s l p) := by
  unfold State.takePkt
  simp (maxDischargeDepth := 60) +contextual [*]

@[simp ↓] theorem State.takeInner_inv (b : Body) : ∀ (s : State) (l : Nat) (seq : BitVec 12), State.Inv s →
    State.Inv (State.takeInner s l seq b) := by
  induction b with
  | ctl c => intro s l seq h; exact State.updLink_inv _ _ _ h
  | tok k => intro s l seq h; exact inv_lat _ _ h
  | xch ten ecyc dmod omod sl =>
    intro s l seq h
    have h1 := State.takeFrame_inv s l seq false h
    unfold State.takeInner
    dsimp only
    split
    · exact State.takeXch_inv _ _ _ _ _ _ h1
    · exact h1
  | pkt p =>
    intro s l seq h
    have h1 := State.takeFrame_inv s l seq false h
    unfold State.takeInner
    dsimp only
    split
    · exact State.takePkt_inv _ _ _ h1
    · exact h1
  | dtr dst org link iseq inner ih =>
    intro s l seq h
    have h1 := State.takeFrame_inv s l seq false h
    unfold State.takeInner
    dsimp only
    split
    · exact h1
    · split
      · exact ih _ _ _ (State.updLink_inv _ _ _ h1)
      · split
        · exact inv_lat _ _ (State.updLink_inv _ _ _ h1)
        · exact State.updLink_inv _ _ _ h1

@[simp ↓] theorem State.dequeue_inv (s : State) (l : Nat) (b : Body) (h : State.Inv s) :
    State.Inv (State.dequeue s l b) := by
  unfold State.dequeue
  try dsimp only
  repeat' (first
    | (with_reducible assumption)
    | (with_reducible refine foldl_inv _ _ ?_ ?_)
    | (simp (maxDischargeDepth := 60) +contextual [*]; done)
    | (with_reducible apply State.takeUp_inv)
    | (with_reducible apply inv_next)
    | split
    | (dsimp only; split)
    | intro)

@[simp ↓] theorem State.sendNew_inv (s : State) (l : Nat) (h : State.Inv s) : State.Inv (State.sendNew s l) := by
  unfold State.sendNew
  try dsimp only
  repeat' (first
    | (with_reducible assumption)
    | (with_reducible refine foldl_inv _ _ ?_ ?_)
    | (simp (maxDischargeDepth := 60) +contextual [*]; done)
    | (with_reducible apply State.takeUp_inv)
    | (with_reducible apply inv_next)
    | split
    | (dsimp only; split)
    | intro)

@[simp ↓] theorem State.detourFrame_inv (s : State) (l out : Nat) (ctlDue : Bool) (h : State.Inv s) :
    State.Inv (State.detourFrame s l out ctlDue) := by
  unfold State.detourFrame
  try dsimp only
  repeat' (first
    | (with_reducible assumption)
    | (with_reducible refine foldl_inv _ _ ?_ ?_)
    | (simp (maxDischargeDepth := 60) +contextual [*]; done)
    | (with_reducible apply State.takeUp_inv)
    | (with_reducible apply inv_next)
    | split
    | (dsimp only; split)
    | intro)

@[simp ↓] theorem State.sendDue_inv (s : State) (l : Nat) (ctlDue skpDue : Bool) (h : State.Inv s) :
    State.Inv (State.sendDue s l ctlDue skpDue) := by
  unfold State.sendDue
  try dsimp only
  repeat' (first
    | (with_reducible assumption)
    | (with_reducible refine foldl_inv _ _ ?_ ?_)
    | (simp (maxDischargeDepth := 60) +contextual [*]; done)
    | (with_reducible apply inv_next)
    | split
    | (dsimp only; split)
    | intro)

@[simp ↓] theorem State.setLnkFld_inv (s : State) (l lsb w v : Nat) (h : State.Inv s) :
    State.Inv (State.setLnkFld s l lsb w v) := by
  unfold State.setLnkFld
  simp (maxDischargeDepth := 60) +contextual [*]

@[simp ↓] theorem execLnkEnable_inv (l : LinkId) (s : State) (h : State.Inv s) : Out.Inv (execLnkEnable l s) := by
  unfold execLnkEnable
  try dsimp only
  repeat' (first
    | (with_reducible assumption)
    | (with_reducible refine foldl_inv _ _ ?_ ?_)
    | (simp (maxDischargeDepth := 60) +contextual [*]; done)
    | (with_reducible apply inv_next)
    | split
    | (dsimp only; split)
    | intro)

@[simp ↓] theorem execLnkDisable_inv (l : LinkId) (s : State) (h : State.Inv s) : Out.Inv (execLnkDisable l s) := by
  unfold execLnkDisable
  try dsimp only
  repeat' (first
    | (with_reducible assumption)
    | (with_reducible refine foldl_inv _ _ ?_ ?_)
    | (simp (maxDischargeDepth := 60) +contextual [*]; done)
    | (with_reducible apply inv_next)
    | split
    | (dsimp only; split)
    | intro)

@[simp ↓] theorem execLnkModeWrite_inv (l : LinkId) (mode : BitVec 3) (prbs : BitVec 2) (s : State) (h : State.Inv s) :
    Out.Inv (execLnkModeWrite l mode prbs s) := by
  unfold execLnkModeWrite
  try dsimp only
  repeat' (first
    | (with_reducible assumption)
    | (with_reducible refine foldl_inv _ _ ?_ ?_)
    | (simp (maxDischargeDepth := 60) +contextual [*]; done)
    | (with_reducible apply inv_next)
    | split
    | (dsimp only; split)
    | intro)

@[simp ↓] theorem execLnkRetrain_inv (l : LinkId) (s : State) (h : State.Inv s) : Out.Inv (execLnkRetrain l s) := by
  unfold execLnkRetrain
  try dsimp only
  repeat' (first
    | (with_reducible assumption)
    | (with_reducible refine foldl_inv _ _ ?_ ?_)
    | (simp (maxDischargeDepth := 60) +contextual [*]; done)
    | (with_reducible apply inv_next)
    | split
    | (dsimp only; split)
    | intro)

@[simp ↓] theorem execLnkClrCnt_inv (l : LinkId) (s : State) (h : State.Inv s) : Out.Inv (execLnkClrCnt l s) := by
  unfold execLnkClrCnt
  try dsimp only
  repeat' (first
    | (with_reducible assumption)
    | (with_reducible refine foldl_inv _ _ ?_ ?_)
    | (simp (maxDischargeDepth := 60) +contextual [*]; done)
    | (with_reducible apply inv_next)
    | split
    | (dsimp only; split)
    | intro)

@[simp ↓] theorem execLnkIdWrite_inv (id : ModId) (valid : Bool) (tag : BitVec 16) (s : State) (h : State.Inv s) :
    Out.Inv (execLnkIdWrite id valid tag s) := by
  unfold execLnkIdWrite
  try dsimp only
  repeat' (first
    | (with_reducible assumption)
    | (with_reducible refine foldl_inv _ _ ?_ ?_)
    | (simp (maxDischargeDepth := 60) +contextual [*]; done)
    | (with_reducible apply inv_next)
    | split
    | (dsimp only; split)
    | intro)

@[simp ↓] theorem State.tokFrame_inv (s : State) (l : Nat) (line : LineIn) (seq : BitVec 12) (damaged : Bool) (k : Token) (apply : State → State)
    (happly : ∀ s : State, State.Inv s → State.Inv (apply s)) (h : State.Inv s) :
    Out.Inv (State.tokFrame s l line seq damaged k apply) := by
  unfold State.tokFrame
  simp (maxDischargeDepth := 60) +contextual [*]

@[simp ↓] theorem State.tokSpanBut_inv (s : State) (t but : Nat) (k : Token) (h : State.Inv s) :
    State.Inv (State.tokSpanBut s t but k) := by
  unfold State.tokSpanBut
  try dsimp only
  repeat' (first
    | (with_reducible assumption)
    | (with_reducible refine foldl_inv _ _ ?_ ?_)
    | (simp (maxDischargeDepth := 60) +contextual [*]; done)
    | (with_reducible apply State.takeUp_inv)
    | (with_reducible apply State.tokFrame_inv)
    | (with_reducible apply inv_next)
    | split
    | (dsimp only; split)
    | intro)

@[simp ↓] theorem State.learn_inv (s : State) (t : Nat) (e : BndEnt) (h : State.Inv s) : State.Inv (State.learn s t e) := by
  unfold State.learn
  try dsimp only
  repeat' (first
    | (with_reducible assumption)
    | (with_reducible refine foldl_inv _ _ ?_ ?_)
    | (simp (maxDischargeDepth := 60) +contextual [*]; done)
    | (with_reducible apply State.takeUp_inv)
    | (with_reducible apply State.tokFrame_inv)
    | (with_reducible apply inv_next)
    | split
    | (dsimp only; split)
    | intro)

@[simp ↓] theorem State.joinCauses_inv (s : State) (t bits : Nat) (h : State.Inv s) :
    State.Inv (State.joinCauses s t bits) := by
  unfold State.joinCauses
  simp (maxDischargeDepth := 60) +contextual [*]

@[simp ↓] theorem State.markerBack_inv (s : State) (n : Nat) (h : State.Inv s) : State.Inv (State.markerBack s n) := by
  unfold State.markerBack
  try dsimp only
  repeat' (first
    | (with_reducible assumption)
    | (with_reducible refine foldl_inv _ _ ?_ ?_)
    | (simp (maxDischargeDepth := 60) +contextual [*]; done)
    | (with_reducible apply State.takeUp_inv)
    | (with_reducible apply State.tokFrame_inv)
    | (with_reducible apply inv_next)
    | split
    | (dsimp only; split)
    | intro)

@[simp ↓] theorem State.takePartx_inv (s : State) (t m a b c : Nat) (h : State.Inv s) :
    State.Inv (State.takePartx s t m a b c) := by
  unfold State.takePartx
  try dsimp only
  repeat' (first
    | (with_reducible assumption)
    | (with_reducible refine foldl_inv _ _ ?_ ?_)
    | (simp (maxDischargeDepth := 60) +contextual [*]; done)
    | (with_reducible apply State.takeUp_inv)
    | (with_reducible apply State.tokFrame_inv)
    | (with_reducible apply inv_next)
    | split
    | (dsimp only; split)
    | intro)

@[simp ↓] theorem State.sendLhold_inv (s : State) (raise : Bool) (h : State.Inv s) :
    State.Inv (State.sendLhold s raise) := by
  unfold State.sendLhold
  simp (maxDischargeDepth := 60) +contextual [*]

@[simp ↓] theorem State.holdChanged_inv (s : State) (h : State.Inv s) : State.Inv (State.holdChanged s) := by
  unfold State.holdChanged
  simp (maxDischargeDepth := 60) +contextual [*]

@[simp ↓] theorem State.latchInit_inv (s : State) (h : State.Inv s) :
    State.Inv (State.latchInit s) := by
  unfold State.latchInit
  simp (maxDischargeDepth := 60) +contextual [*]

@[simp ↓] theorem State.fclkEdge_inv (s : State) (h : State.Inv s) :
    State.Inv (State.fclkEdge s) := by
  unfold State.fclkEdge
  simp (maxDischargeDepth := 60) +contextual [*]

@[simp ↓] theorem State.setBank_inv (s : State) (g : Nat) (v : EdgeBank) (h : State.Inv s) :
    State.Inv (State.setBank s g v) := by
  unfold State.setBank
  simp (maxDischargeDepth := 60) +contextual [*]

@[simp ↓] theorem State.updBank_inv (s : State) (g : Nat) (f : EdgeBank → EdgeBank) (h : State.Inv s) :
    State.Inv (State.updBank s g f) := by
  unfold State.updBank
  simp (maxDischargeDepth := 60) +contextual [*]

@[simp ↓] theorem State.rowsLeave_inv (s : State) (l k : Nat) (h : State.Inv s) :
    State.Inv (State.rowsLeave s l k) := by
  unfold State.rowsLeave
  simp (maxDischargeDepth := 60) +contextual [*]

@[simp ↓] theorem State.releaseSample_inv (s : State) (t g : Nat) (v : DWord) (h : State.Inv s) :
    State.Inv (State.releaseSample s t g v) := by
  unfold State.releaseSample
  simp (maxDischargeDepth := 60) +contextual [*]

@[simp ↓] theorem State.pushGroups_inv (s : State) (t k : Nat) (h : State.Inv s) : State.Inv (State.pushGroups s t k) := by
  unfold State.pushGroups
  simp (maxDischargeDepth := 60) +contextual [*]

@[simp ↓] theorem State.failBank_inv (s : State) (g cause : Nat) (hiZ hold : Bool) (h : State.Inv s) :
    State.Inv (State.failBank s g cause hiZ hold) := by
  unfold State.failBank
  try dsimp only
  repeat' (first
    | (with_reducible assumption)
    | (with_reducible refine foldl_inv _ _ ?_ ?_)
    | (simp (maxDischargeDepth := 60) +contextual [*]; done)
    | (with_reducible apply State.takeUp_inv)
    | (with_reducible apply State.tokFrame_inv)
    | (with_reducible apply inv_next)
    | split
    | (dsimp only; split)
    | intro)

@[simp ↓] theorem State.failAll_inv (s : State) (cause : Nat) (h : State.Inv s) : State.Inv (State.failAll s cause) := by
  unfold State.failAll
  simp (maxDischargeDepth := 60) +contextual [*]

@[simp ↓] theorem State.failHalf_inv (s : State) (h : Nat) (hs : State.Inv s) :
    State.Inv (State.failHalf s h) := by
  unfold State.failHalf
  try dsimp only
  repeat' (first
    | (with_reducible assumption)
    | (with_reducible refine foldl_inv _ _ ?_ ?_)
    | (simp (maxDischargeDepth := 60) +contextual [*]; done)
    | (with_reducible apply inv_next)
    | split
    | (dsimp only; split)
    | intro)

@[simp ↓] theorem State.vioDoubt_inv (s : State) (g : Nat) (h : State.Inv s) : State.Inv (State.vioDoubt s g) := by
  unfold State.vioDoubt
  simp (maxDischargeDepth := 60) +contextual [*]

@[simp ↓] theorem State.leaveCheck_inv (s : State) (g : Nat) (h : State.Inv s) : State.Inv (State.leaveCheck s g) := by
  unfold State.leaveCheck
  simp (maxDischargeDepth := 60) +contextual [*]

@[simp ↓] theorem State.vioQualified_inv (s : State) (g mv : Nat) (h : State.Inv s) :
    State.Inv (State.vioQualified s g mv) := by
  unfold State.vioQualified
  simp (maxDischargeDepth := 60) +contextual [*]

@[simp ↓] theorem State.bankRelease_inv (s : State) (g : Nat) (h : State.Inv s) : State.Inv (State.bankRelease s g) := by
  unfold State.bankRelease
  simp (maxDischargeDepth := 60) +contextual [*]

@[simp ↓] theorem State.bankOff_inv (s : State) (g : Nat) (h : State.Inv s) : State.Inv (State.bankOff s g) := by
  unfold State.bankOff
  simp (maxDischargeDepth := 60) +contextual [*]

@[simp ↓] theorem State.bankWithdraw_inv (s : State) (g : Nat) (h : State.Inv s) : State.Inv (State.bankWithdraw s g) := by
  unfold State.bankWithdraw
  try dsimp only
  repeat' (first
    | (with_reducible assumption)
    | (with_reducible refine foldl_inv _ _ ?_ ?_)
    | (simp (maxDischargeDepth := 60) +contextual [*]; done)
    | (with_reducible apply State.takeUp_inv)
    | (with_reducible apply State.tokFrame_inv)
    | (with_reducible apply inv_next)
    | split
    | (dsimp only; split)
    | intro)

@[simp ↓] theorem State.enterRun_inv (s : State) (g : Nat) (pins : DWord) (h : State.Inv s) :
    State.Inv (State.enterRun s g pins) := by
  unfold State.enterRun
  try dsimp only
  repeat' (first
    | (with_reducible assumption)
    | (with_reducible refine foldl_inv _ _ ?_ ?_)
    | (simp (maxDischargeDepth := 60) +contextual [*]; done)
    | (with_reducible apply inv_next)
    | split
    | (dsimp only; split)
    | intro)

@[simp ↓] theorem State.writePin_inv (s : State) (n v : Nat) (h : State.Inv s) : State.Inv (State.writePin s n v) := by
  unfold State.writePin
  simp (maxDischargeDepth := 60) +contextual [*]

@[simp ↓] theorem State.writeBankCfg_inv (s : State) (g v : Nat) (h : State.Inv s) :
    State.Inv (State.writeBankCfg s g v) := by
  unfold State.writeBankCfg
  simp (maxDischargeDepth := 60) +contextual [*]

@[simp ↓] theorem State.writeRegion_inv (s : State) (r v : Nat) (h : State.Inv s) : State.Inv (State.writeRegion s r v) := by
  unfold State.writeRegion
  simp (maxDischargeDepth := 60) +contextual [*]

@[simp ↓] theorem State.writeRoute_inv (s : State) (g : Nat) (inward : Bool) (v : Nat) (h : State.Inv s) :
    State.Inv (State.writeRoute s g inward v) := by
  unfold State.writeRoute
  simp (maxDischargeDepth := 60) +contextual [*]

@[simp ↓] theorem State.unbind_inv (s : State) (t : Nat) (keep : Bool) (h : State.Inv s) :
    State.Inv (State.unbind s t keep) := by
  unfold State.unbind
  simp (maxDischargeDepth := 60) +contextual [*]

@[simp ↓] theorem State.dropResident_inv (s : State) (t : Nat) (h : State.Inv s) : State.Inv (State.dropResident s t) := by
  unfold State.dropResident
  simp (maxDischargeDepth := 60) +contextual [*]

@[simp ↓] theorem State.completeCap_inv (s : State) (d : DRef) (status slot flags e seq : Nat) (h : State.Inv s) :
    State.Inv (State.completeCap s d status slot flags e seq) := by
  unfold State.completeCap
  simp (maxDischargeDepth := 60) +contextual [*]

@[simp ↓] theorem State.dropCaptures_inv (s : State) (t : Nat) (h : State.Inv s) : State.Inv (State.dropCaptures s t) := by
  unfold State.dropCaptures
  simp (maxDischargeDepth := 60) +contextual [*]

@[simp ↓] theorem State.dropRefits_inv (s : State) (t : Nat) (h : State.Inv s) :
    State.Inv (State.dropRefits s t) := by
  unfold State.dropRefits
  simp (maxDischargeDepth := 60) +contextual [*]

@[simp ↓] theorem State.dropImage_inv (s : State) (t : Nat) (h : State.Inv s) : State.Inv (State.dropImage s t) := by
  unfold State.dropImage
  simp (maxDischargeDepth := 60) +contextual [*]

@[simp ↓] theorem State.setRemap_inv (s : State) (l : Nat) (r : Remap) (h : State.Inv s) :
    State.Inv (State.setRemap s l r) := by
  unfold State.setRemap
  simp (maxDischargeDepth := 60) +contextual [*]

@[simp ↓] theorem State.placeTile_inv (s : State) (l : Nat) (h : State.Inv s) : State.Inv (State.placeTile s l).2 := by
  unfold State.placeTile
  try dsimp only
  repeat' (first
    | (with_reducible assumption)
    | (with_reducible refine foldl_inv _ _ ?_ ?_)
    | (simp (maxDischargeDepth := 60) +contextual [*]; done)
    | (with_reducible apply State.takeUp_inv)
    | (with_reducible apply State.tokFrame_inv)
    | (with_reducible apply inv_next)
    | split
    | (dsimp only; split)
    | intro)

@[simp ↓] theorem State.placeAll_inv (s : State) (l : List Nat) (h : State.Inv s) : State.Inv (State.placeAll s l) :=
  foldl_inv _ _ h (fun s x h => State.placeTile_inv s x h)

@[simp ↓] theorem State.placeFaulty_inv (s : State) (h : State.Inv s) :
    State.Inv (State.placeFaulty s) := by
  unfold State.placeFaulty
  try dsimp only
  repeat' (first
    | (with_reducible assumption)
    | (with_reducible refine foldl_inv _ _ ?_ ?_)
    | (simp (maxDischargeDepth := 60) +contextual [*]; done)
    | (with_reducible apply inv_next)
    | split
    | (dsimp only; split)
    | intro)

@[simp ↓] theorem State.advanceEpochs_inv (s : State) (t : Nat) (h : State.Inv s) : State.Inv (State.advanceEpochs s t) := by
  unfold State.advanceEpochs
  simp (maxDischargeDepth := 60) +contextual [*]

@[simp ↓] theorem State.discardMessages_inv (s : State) (t : Nat) (h : State.Inv s) :
    State.Inv (State.discardMessages s t) := by
  unfold State.discardMessages
  simp (maxDischargeDepth := 60) +contextual [*]

@[simp ↓] theorem State.dropInFlight_inv (s : State) (t : Nat) (h : State.Inv s) : State.Inv (State.dropInFlight s t) := by
  unfold State.dropInFlight
  simp (maxDischargeDepth := 60) +contextual [*]

@[simp ↓] theorem State.recoveryCpl_inv (s : State) (t kind logSeq k e : Nat) (h : State.Inv s) :
    State.Inv (State.recoveryCpl s t kind logSeq k e) := by
  unfold State.recoveryCpl
  simp (maxDischargeDepth := 60) +contextual [*]

@[simp ↓] theorem State.lateError_inv (s : State) (t addr : Nat) (body : List Byte) (h : State.Inv s) :
    State.Inv (State.lateError s t addr body) := by
  unfold State.lateError
  simp (maxDischargeDepth := 60) +contextual [*]

@[simp ↓] theorem State.noSpare_inv (s : State) (t : Nat) (h : State.Inv s) : State.Inv (State.noSpare s t) := by
  unfold State.noSpare
  simp (maxDischargeDepth := 60) +contextual [*]

@[simp ↓] theorem State.applyJournal_inv (s : State) (t k : Nat) (h : State.Inv s) :
    State.Inv (State.applyJournal s t k) := by
  unfold State.applyJournal
  dsimp only
  refine State.updTen_inv _ _ _ (inv_ds _ _ h ?_)
  generalize List.reverse _ = js
  have h0 := h.ds
  generalize s.ds = m at h0 ⊢
  induction js generalizing m with
  | nil => exact h0
  | cons j r ih =>
    refine ih _ ?_
    dsimp only
    split
    · exact Mem.wf_writeBytes _ _ _ h0
    · exact h0

@[simp ↓] theorem State.journalLine_inv (s : State) (t memid line ecyc : Nat) (h : State.Inv s) :
    State.Inv (State.journalLine s t memid line ecyc) := by
  unfold State.journalLine
  try dsimp only
  repeat' (first
    | (with_reducible assumption)
    | (with_reducible refine foldl_inv _ _ ?_ ?_)
    | (simp (maxDischargeDepth := 60) +contextual [*]; done)
    | (with_reducible apply State.takeUp_inv)
    | (with_reducible apply State.tokFrame_inv)
    | (with_reducible apply inv_next)
    | split
    | (dsimp only; split)
    | intro)

@[simp ↓] theorem State.capResume_inv (s : State) (t : Nat) (h : State.Inv s) :
    State.Inv (State.capResume s t) := by
  unfold State.capResume
  simp (maxDischargeDepth := 60) +contextual [*]

@[simp ↓] theorem State.finishReplay_inv (s : State) (t : Nat) (r : Recovery) (h : State.Inv s) :
    State.Inv (State.finishReplay s t r) := by
  unfold State.finishReplay
  try dsimp only
  repeat' (first
    | (with_reducible assumption)
    | (with_reducible refine foldl_inv _ _ ?_ ?_)
    | (simp (maxDischargeDepth := 60) +contextual [*]; done)
    | (with_reducible apply State.takeUp_inv)
    | (with_reducible apply State.tokFrame_inv)
    | (with_reducible apply inv_next)
    | split
    | (dsimp only; split)
    | intro)

@[simp ↓] theorem State.placed_inv (s : State) (t : Nat) (h : State.Inv s) : State.Inv (State.placed s t) := by
  unfold State.placed
  simp (maxDischargeDepth := 60) +contextual [*]

@[simp ↓] theorem State.restored_inv (s : State) (t : Nat) (r : Recovery) (v : Saved) (h : State.Inv s) :
    State.Inv (State.restored s t r v) := by
  unfold State.restored
  simp (maxDischargeDepth := 60) +contextual [*]

@[simp ↓] theorem State.lost_inv (s : State) (t : Nat) (r : Recovery) (h : State.Inv s) : State.Inv (State.lost s t r) := by
  unfold State.lost
  simp (maxDischargeDepth := 60) +contextual [*]

@[simp ↓] theorem State.writeSlot_inv (s : State) (t a : Nat) (v : Saved) (h : State.Inv s) :
    State.Inv (State.writeSlot s t a v) := by
  unfold State.writeSlot
  simp (maxDischargeDepth := 60) +contextual [*]

@[simp ↓] theorem State.forecast_inv (s : State) (d : DRef) (h : State.Inv s) : State.Inv (State.forecast s d) := by
  unfold State.forecast
  try dsimp only
  repeat' (first
    | (with_reducible assumption)
    | (with_reducible refine foldl_inv _ _ ?_ ?_)
    | (simp (maxDischargeDepth := 60) +contextual [*]; done)
    | (with_reducible apply State.takeUp_inv)
    | (with_reducible apply State.tokFrame_inv)
    | (with_reducible apply inv_next)
    | split
    | (dsimp only; split)
    | intro)

@[simp ↓] theorem State.releaseResv_inv (s : State) (d : DRef) (h : State.Inv s) : State.Inv (State.releaseResv s d) := by
  unfold State.releaseResv
  simp (maxDischargeDepth := 60) +contextual [*]

@[simp ↓] theorem State.capRecord_inv (s : State) (q : CapEnt) (k : CapKind) (bad : List BadWord) (h : State.Inv s) :
    State.Inv (State.capRecord s q k bad) := by
  unfold State.capRecord
  simp (maxDischargeDepth := 60) +contextual [*]

@[simp ↓] theorem State.capEffects_inv (s : State) (q : CapEnt) (bad : List BadWord) (h : State.Inv s) :
    State.Inv (State.capEffects s q bad) := by
  unfold State.capEffects
  try dsimp only
  repeat' (first
    | (with_reducible assumption)
    | (with_reducible refine foldl_inv _ _ ?_ ?_)
    | (simp (maxDischargeDepth := 60) +contextual [*]; done)
    | (with_reducible apply State.takeUp_inv)
    | (with_reducible apply State.tokFrame_inv)
    | (with_reducible apply inv_next)
    | split
    | (dsimp only; split)
    | intro)

@[simp ↓] theorem State.hubCount_inv (s : State) (t : Nat) (b : BadWord) (h : State.Inv s) :
    State.Inv (State.hubCount s t b) := by
  unfold State.hubCount
  try dsimp only
  repeat' (first
    | (with_reducible assumption)
    | (with_reducible refine foldl_inv _ _ ?_ ?_)
    | (simp (maxDischargeDepth := 60) +contextual [*]; done)
    | (with_reducible apply inv_next)
    | split
    | (dsimp only; split)
    | intro)

@[simp ↓] theorem State.hubUe_inv (s : State) (t : Nat) (b : BadWord) (h : State.Inv s) : State.Inv (State.hubUe s t b) := by
  unfold State.hubUe
  try dsimp only
  repeat' (first
    | (with_reducible assumption)
    | (with_reducible refine foldl_inv _ _ ?_ ?_)
    | (simp (maxDischargeDepth := 60) +contextual [*]; done)
    | (with_reducible apply State.takeUp_inv)
    | (with_reducible apply State.tokFrame_inv)
    | (with_reducible apply inv_next)
    | split
    | (dsimp only; split)
    | intro)

@[simp ↓] theorem State.hubFinds_inv (s : State) (t : Nat) (found : List BadWord) (h : State.Inv s) :
    State.Inv (State.hubFinds s t found) := by
  unfold State.hubFinds
  simp (maxDischargeDepth := 60) +contextual [*]

@[simp ↓] theorem State.releaseMove_inv (s : State) (t : Nat) (h : State.Inv s) : State.Inv (State.releaseMove s t) := by
  unfold State.releaseMove
  simp (maxDischargeDepth := 60) +contextual [*]

@[simp ↓] theorem State.watchdogOne_inv (s : State) (t l : Nat) (h : State.Inv s) :
    State.Inv (State.watchdogOne s t l).2 := by
  unfold State.watchdogOne
  simp (maxDischargeDepth := 60) +contextual [*]

@[simp ↓] theorem State.writeLogRidx_inv (s : State) (v : Word) (h : State.Inv s) : State.Inv (State.writeLogRidx s v) := by
  unfold State.writeLogRidx
  split
  · have := h.fm.2
    refine ⟨⟨h.fm.1, ?_⟩, h.thy, h.hostMem, h.hub, h.ds⟩
    show (s.fm.widx - v).toNat ≤ 1024
    bv_omega
  · simp [*]

@[simp ↓] theorem State.writeCkptCfg_inv (s : State) (t v : Nat) (h : State.Inv s) :
    State.Inv (State.writeCkptCfg s t v) := by
  unfold State.writeCkptCfg
  simp (maxDischargeDepth := 60) +contextual [*]

@[simp ↓] theorem State.sendHeldBnd_inv (s : State) (t : Nat) (h : State.Inv s) : State.Inv (State.sendHeldBnd s t) := by
  unfold State.sendHeldBnd
  simp (maxDischargeDepth := 60) +contextual [*]

@[simp ↓] theorem State.capture_inv (s : State) (d : DRef) (t : Nat) (h : State.Inv s) :
    State.Inv (State.capture s d t) := by
  unfold State.capture
  simp (maxDischargeDepth := 60) +contextual [*]

@[simp ↓] theorem State.capComplete_inv (s : State) (r : CapRec) (status : Nat) (h : State.Inv s) :
    State.Inv (State.capComplete s r status) := by
  unfold State.capComplete
  simp (maxDischargeDepth := 60) +contextual [*]

@[simp ↓] theorem State.writeCapRidx_inv (s : State) (by' t n : Nat) (h : State.Inv s) :
    State.Inv (State.writeCapRidx s by' t n) := by
  unfold State.writeCapRidx
  simp (maxDischargeDepth := 60) +contextual [*]

@[simp ↓] theorem State.captureArea_inv (s : State) (d : DRef) (t off slots : Nat) (h : State.Inv s) :
    State.Inv (State.captureArea s d t off slots) := by
  unfold State.captureArea
  try dsimp only
  repeat' (first
    | (with_reducible assumption)
    | (with_reducible refine foldl_inv _ _ ?_ ?_)
    | (simp (maxDischargeDepth := 60) +contextual [*]; done)
    | (with_reducible apply State.takeUp_inv)
    | (with_reducible apply State.tokFrame_inv)
    | (with_reducible apply inv_next)
    | split
    | (dsimp only; split)
    | intro)

@[simp ↓] theorem State.setAcq_inv (s : State) (c : Nat) (v : Acq) (h : State.Inv s) : State.Inv (State.setAcq s c v) := by
  unfold State.setAcq
  simp (maxDischargeDepth := 60) +contextual [*]

@[simp ↓] theorem State.updAcq_inv (s : State) (c : Nat) (f : Acq → Acq) (h : State.Inv s) :
    State.Inv (State.updAcq s c f) := by
  unfold State.updAcq
  simp (maxDischargeDepth := 60) +contextual [*]

@[simp ↓] theorem State.acqStage_inv (s : State) (c : Nat) (r : List Byte) (h : State.Inv s) :
    State.Inv (State.acqStage s c r) := by
  unfold State.acqStage
  simp (maxDischargeDepth := 60) +contextual [*]

@[simp ↓] theorem State.acqDrain_inv (s : State) (c : Nat) (l : List (List Byte)) (h : State.Inv s) : State.Inv (State.acqDrain s c l) := by
  induction l generalizing s with
  | nil => unfold State.acqDrain; simp (maxDischargeDepth := 60) +contextual [*]
  | cons x r ih => unfold State.acqDrain; simp (maxDischargeDepth := 60) +contextual [*]

@[simp ↓] theorem State.acqGap_inv (s : State) (c : Nat) (h : State.Inv s) : State.Inv (State.acqGap s c) := by
  unfold State.acqGap
  try dsimp only
  repeat' (first
    | (with_reducible assumption)
    | (with_reducible refine foldl_inv _ _ ?_ ?_)
    | (simp (maxDischargeDepth := 60) +contextual [*]; done)
    | (with_reducible apply State.takeUp_inv)
    | (with_reducible apply State.tokFrame_inv)
    | (with_reducible apply inv_next)
    | split
    | (dsimp only; split)
    | intro)

@[simp ↓] theorem State.acqPut_inv (s : State) (c : Nat) (r : List Byte) (h : State.Inv s) :
    State.Inv (State.acqPut s c r) := by
  unfold State.acqPut
  try dsimp only
  repeat' (first
    | (with_reducible assumption)
    | (with_reducible refine foldl_inv _ _ ?_ ?_)
    | (simp (maxDischargeDepth := 60) +contextual [*]; done)
    | (with_reducible apply inv_next)
    | split
    | (dsimp only; split)
    | intro)

@[simp ↓] theorem State.acqMark_inv (s : State) (c typ e aux : Nat) (h : State.Inv s) :
    State.Inv (State.acqMark s c typ e aux) := by
  unfold State.acqMark
  simp (maxDischargeDepth := 60) +contextual [*]

@[simp ↓] theorem State.acqOverflow_inv (s : State) (c e : Nat) (h : State.Inv s) :
    State.Inv (State.acqOverflow s c e) := by
  unfold State.acqOverflow
  simp (maxDischargeDepth := 60) +contextual [*]

@[simp ↓] theorem State.acqStop_inv (s : State) (c : Nat) (h : State.Inv s) : State.Inv (State.acqStop s c) := by
  unfold State.acqStop
  simp (maxDischargeDepth := 60) +contextual [*]

@[simp ↓] theorem State.acqStart_inv (s : State) (c e : Nat) (h : State.Inv s) : State.Inv (State.acqStart s c e) := by
  unfold State.acqStart
  simp (maxDischargeDepth := 60) +contextual [*]

@[simp ↓] theorem State.acqTake_inv (s : State) (c e n : Nat) (r : List Byte) (h : State.Inv s) :
    State.Inv (State.acqTake s c e n r) := by
  unfold State.acqTake
  simp (maxDischargeDepth := 60) +contextual [*]

@[simp ↓] theorem State.acqCount_inv (s : State) (c : Nat) (h : State.Inv s) : State.Inv (State.acqCount s c) := by
  unfold State.acqCount
  simp (maxDischargeDepth := 60) +contextual [*]

@[simp ↓] theorem State.acqData_inv (s : State) (c : Nat) (t : TapVec) (h : State.Inv s) :
    State.Inv (State.acqData s c t) := by
  unfold State.acqData
  simp (maxDischargeDepth := 60) +contextual [*]

@[simp ↓] theorem State.acqTrig_inv (s : State) (c q e sec ns : Nat) (h : State.Inv s) :
    State.Inv (State.acqTrig s c q e sec ns) := by
  unfold State.acqTrig
  simp (maxDischargeDepth := 60) +contextual [*]

@[simp ↓] theorem State.acqViolation_inv (s : State) (c unit group : Nat) (obs mis : DWord) (t : TapVec) (h : State.Inv s) :
    State.Inv (State.acqViolation s c unit group obs mis t) := by
  unfold State.acqViolation
  simp (maxDischargeDepth := 60) +contextual [*]

@[simp ↓] theorem State.acqSafe_inv (s : State) (c : Nat) (h : State.Inv s) : State.Inv (State.acqSafe s c) := by
  unfold State.acqSafe
  simp (maxDischargeDepth := 60) +contextual [*]

@[simp ↓] theorem State.acqCut_inv (s : State) (c : Nat) (h : State.Inv s) :
    State.Inv (State.acqCut s c) := by
  unfold State.acqCut
  simp (maxDischargeDepth := 60) +contextual [*]

@[simp ↓] theorem State.acqLand_inv (s : State) (c : Nat) (bad : BitVec 10) (h : State.Inv s) :
    State.Inv (State.acqLand s c bad) := by
  unfold State.acqLand
  try dsimp only
  repeat' (first
    | (with_reducible assumption)
    | (with_reducible refine foldl_inv _ _ ?_ ?_)
    | (simp (maxDischargeDepth := 60) +contextual [*]; done)
    | (with_reducible apply inv_next)
    | split
    | (dsimp only; split)
    | intro)

@[simp ↓] theorem State.acqRoom_inv (s : State) (c : Nat) (h : State.Inv s) : State.Inv (State.acqRoom s c) := by
  unfold State.acqRoom
  try dsimp only
  repeat' (first
    | (with_reducible assumption)
    | (with_reducible refine foldl_inv _ _ ?_ ?_)
    | (simp (maxDischargeDepth := 60) +contextual [*]; done)
    | (with_reducible apply State.takeUp_inv)
    | (with_reducible apply State.tokFrame_inv)
    | (with_reducible apply inv_next)
    | split
    | (dsimp only; split)
    | intro)

@[simp ↓] theorem State.setAcqOwner_inv (s : State) (c owner : Nat) (h : State.Inv s) :
    State.Inv (State.setAcqOwner s c owner) := by
  unfold State.setAcqOwner
  simp (maxDischargeDepth := 60) +contextual [*]

@[simp ↓] theorem State.newAcqOwner_inv (s : State) (c owner v : Nat) (h : State.Inv s) :
    State.Inv (State.newAcqOwner s c owner v) := by
  unfold State.newAcqOwner
  simp (maxDischargeDepth := 60) +contextual [*]

@[simp ↓] theorem State.writeAcqCtl_inv (s : State) (by' c v : Nat) (h : State.Inv s) :
    State.Inv (State.writeAcqCtl s by' c v) := by
  unfold State.writeAcqCtl
  simp (maxDischargeDepth := 60) +contextual [*]

@[simp ↓] theorem State.writeAcqRidx_inv (s : State) (by' c v : Nat) (h : State.Inv s) :
    State.Inv (State.writeAcqRidx s by' c v) := by
  unfold State.writeAcqRidx
  try dsimp only
  repeat' (first
    | (with_reducible assumption)
    | (with_reducible refine foldl_inv _ _ ?_ ?_)
    | (simp (maxDischargeDepth := 60) +contextual [*]; done)
    | (with_reducible apply inv_next)
    | split
    | (dsimp only; split)
    | intro)

@[simp ↓] theorem State.setSeq_inv (s : State) (q : Nat) (v : TrigSeq) (h : State.Inv s) :
    State.Inv (State.setSeq s q v) := by
  unfold State.setSeq
  simp (maxDischargeDepth := 60) +contextual [*]

@[simp ↓] theorem State.updSeq_inv (s : State) (q : Nat) (f : TrigSeq → TrigSeq) (h : State.Inv s) :
    State.Inv (State.updSeq s q f) := by
  unfold State.updSeq
  simp (maxDischargeDepth := 60) +contextual [*]

@[simp ↓] theorem State.trigOut_inv (s : State) (q : Nat) (h : State.Inv s) : State.Inv (State.trigOut s q) := by
  unfold State.trigOut
  simp (maxDischargeDepth := 60) +contextual [*]

@[simp ↓] theorem State.trigHold_inv (s : State) (t due : Nat) (h : State.Inv s) : State.Inv (State.trigHold s t due) := by
  unfold State.trigHold
  simp (maxDischargeDepth := 60) +contextual [*]

@[simp ↓] theorem State.trigCapture_inv (s : State) (q t due : Nat) (h : State.Inv s) :
    State.Inv (State.trigCapture s q t due) := by
  unfold State.trigCapture
  simp (maxDischargeDepth := 60) +contextual [*]

@[simp ↓] theorem State.trigStart_inv (s : State) (q t due : Nat) (span : SpanAns) (h : State.Inv s) :
    State.Inv (State.trigStart s q t due span) := by
  unfold State.trigStart
  simp (maxDischargeDepth := 60) +contextual [*]

@[simp ↓] theorem State.trigNotify_inv (s : State) (q t next e : Nat) (h : State.Inv s) :
    State.Inv (State.trigNotify s q t next e) := by
  unfold State.trigNotify
  simp (maxDischargeDepth := 60) +contextual [*]

@[simp ↓] theorem State.trigMark_inv (s : State) (q t next e : Nat) (h : State.Inv s) :
    State.Inv (State.trigMark s q t next e) := by
  unfold State.trigMark
  simp (maxDischargeDepth := 60) +contextual [*]

@[simp ↓] theorem State.trigBoundary_inv (s : State) (q t act due : Nat) (span : SpanAns) (h : State.Inv s) :
    State.Inv (State.trigBoundary s q t act due span) := by
  unfold State.trigBoundary
  simp (maxDischargeDepth := 60) +contextual [*]

theorem trigAct_stop_inv (b : Prop) [Decidable b] (l : List Nat) (s : State) (h : State.Inv s) :
    State.Inv (if b then l.foldl (fun s c => s.acqStop c) s else s) :=
  inv_ite _ _ _ (foldl_inv _ _ h (fun s x h => State.acqStop_inv _ _ h)) h

theorem trigAct_trig_inv (b : Prop) [Decidable b] (l : List Nat) (q e x y : Nat) (s : State) (h : State.Inv s) :
    State.Inv (if b then l.foldl (fun s c => s.acqTrig c q e x y) s else s) :=
  inv_ite _ _ _ (foldl_inv _ _ h (fun s c h => State.acqTrig_inv _ _ _ _ _ _ h)) h

@[simp ↓] theorem State.trigAct_inv (s : State) (q act : Nat) (ev : Option TapVec) (due : Nat) (span : SpanAns) (h : State.Inv s) :
    State.Inv (State.trigAct s q act ev due span) := by
  unfold State.trigAct
  extract_lets t e next s1 s2 l s3 s4 at' s5 s6 s7 s8
  have h1 : State.Inv s1 := State.updSeq_inv _ _ _ h
  have h2 : State.Inv s2 := inv_ite _ _ _ (State.trigOut_inv _ _ h1) h1
  clear_value s1 s2
  have h3 : State.Inv s3 := trigAct_stop_inv _ _ _ h2
  have h4 : State.Inv s4 := by
    refine inv_ite _ _ _ (foldl_inv _ _ h3 (fun s x h => ?_)) h3
    split
    · exact State.acqData_inv _ _ _ (State.acqStart_inv _ _ _ h)
    · exact State.acqStart_inv _ _ _ h
  clear_value s3 s4
  have h5 : State.Inv s5 := trigAct_trig_inv _ _ _ _ _ _ _ h4
  have h6 : State.Inv s6 := State.trigBoundary_inv _ _ _ _ _ _ h5
  clear_value s5 s6
  have h7 : State.Inv s7 := inv_ite _ _ _ (State.trigNotify_inv _ _ _ _ _ h6) h6
  have h8 : State.Inv s8 := inv_ite _ _ _ (State.trigMark_inv _ _ _ _ _ h7) h7
  clear_value s7 s8
  exact inv_ite _ _ _ (State.updSeq_inv _ _ _ h8) h8

@[simp ↓] theorem State.violation_inv (s : State) (q u : Nat) (v : TapVec) (due : Nat) (h : State.Inv s) :
    State.Inv (State.violation s q u v due) := by
  unfold State.violation
  simp (maxDischargeDepth := 60) +contextual [*]

@[simp ↓] theorem State.countSources_inv (s : State) (q cur : Nat) (h : State.Inv s) :
    State.Inv (State.countSources s q cur) := by
  unfold State.countSources
  simp (maxDischargeDepth := 60) +contextual [*]

@[simp ↓] theorem State.evalSeq_inv (s : State) (q : Nat) (ev : Option TapVec) (span : SpanAns) (h : State.Inv s) :
    State.Inv (State.evalSeq s q ev span) := by
  unfold State.evalSeq
  try dsimp only
  repeat' (first
    | (with_reducible assumption)
    | (with_reducible refine foldl_inv _ _ ?_ ?_)
    | (simp (maxDischargeDepth := 60) +contextual [*]; done)
    | (with_reducible apply State.takeUp_inv)
    | (with_reducible apply State.tokFrame_inv)
    | (with_reducible apply inv_next)
    | split
    | (dsimp only; split)
    | intro)

@[simp ↓] theorem State.pruneTaps_inv (s : State) (t : Nat) (h : State.Inv s) : State.Inv (State.pruneTaps s t) := by
  unfold State.pruneTaps
  simp (maxDischargeDepth := 60) +contextual [*]

@[simp ↓] theorem State.idleEval_inv (s : State) (q : Nat) (span : SpanAns) (h : State.Inv s) :
    State.Inv (State.idleEval s q span) := by
  unfold State.idleEval
  simp (maxDischargeDepth := 60) +contextual [*]

@[simp ↓] theorem State.disarm_inv (s : State) (q : Nat) (h : State.Inv s) : State.Inv (State.disarm s q) := by
  unfold State.disarm
  simp (maxDischargeDepth := 60) +contextual [*]

@[simp ↓] theorem State.arm_inv (s : State) (q : Nat) (h : State.Inv s) : State.Inv (State.arm s q) := by
  unfold State.arm
  simp (maxDischargeDepth := 60) +contextual [*]

@[simp ↓] theorem State.setSeqOwner_inv (s : State) (q owner : Nat) (h : State.Inv s) :
    State.Inv (State.setSeqOwner s q owner) := by
  unfold State.setSeqOwner
  simp (maxDischargeDepth := 60) +contextual [*]

@[simp ↓] theorem State.swev_inv (s : State) (q : Nat) (span : SpanAns) (h : State.Inv s) :
    State.Inv (State.swev s q span) := by
  unfold State.swev
  simp (maxDischargeDepth := 60) +contextual [*]

@[simp ↓] theorem State.writeTrgCtl_inv (s : State) (by' q v : Nat) (span : SpanAns) (h : State.Inv s) :
    State.Inv (State.writeTrgCtl s by' q v span) := by
  unfold State.writeTrgCtl
  simp (maxDischargeDepth := 60) +contextual [*]

@[simp ↓] theorem State.writeTrgCfg_inv (s : State) (by' q off v : Nat) (h : State.Inv s) :
    State.Inv (State.writeTrgCfg s by' q off v) := by
  unfold State.writeTrgCfg
  simp (maxDischargeDepth := 60) +contextual [*]

@[simp ↓] theorem State.leftWords_inv (s : State) (l : Nat) (h : State.Inv s) : State.Inv (State.leftWords s l) := by
  unfold State.leftWords
  simp (maxDischargeDepth := 60) +contextual [*]

@[simp ↓] theorem State.tapsComplete_inv (s : State) (t k : Nat) (h : State.Inv s) :
    State.Inv (State.tapsComplete s t k) := by
  unfold State.tapsComplete
  simp (maxDischargeDepth := 60) +contextual [*]

@[simp ↓] theorem State.dropOlder_inv (s : State) (t : Nat) (h : State.Inv s) : State.Inv (State.dropOlder s t) := by
  unfold State.dropOlder
  try dsimp only
  repeat' (first
    | (with_reducible assumption)
    | (with_reducible refine foldl_inv _ _ ?_ ?_)
    | (simp (maxDischargeDepth := 60) +contextual [*]; done)
    | (with_reducible apply State.takeUp_inv)
    | (with_reducible apply State.tokFrame_inv)
    | (with_reducible apply inv_next)
    | split
    | (dsimp only; split)
    | intro)

@[simp ↓] theorem State.bndAfter_inv (s : State) (t : Nat) (h : State.Inv s) : State.Inv (State.bndAfter s t) := by
  unfold State.bndAfter
  simp (maxDischargeDepth := 60) +contextual [*]

@[simp ↓] theorem State.completeEcycle_inv (s : State) (t k : Nat) (h : State.Inv s) :
    State.Inv (State.completeEcycle s t k) := by
  unfold State.completeEcycle
  simp (maxDischargeDepth := 60) +contextual [*]

@[simp ↓] theorem State.afterEnd_inv (s : State) (t k : Nat) (h : State.Inv s) : State.Inv (State.afterEnd s t k) := by
  unfold State.afterEnd
  try dsimp only
  repeat' (first
    | (with_reducible assumption)
    | (with_reducible refine foldl_inv _ _ ?_ ?_)
    | (simp (maxDischargeDepth := 60) +contextual [*]; done)
    | (with_reducible apply State.takeUp_inv)
    | (with_reducible apply State.tokFrame_inv)
    | (with_reducible apply inv_next)
    | split
    | (dsimp only; split)
    | intro)

@[simp ↓] theorem State.putRecord_inv (s : State) (t p dseq ec : Nat) (bytes : List Byte) (h : State.Inv s) :
    State.Inv (State.putRecord s t p dseq ec bytes) := by
  unfold State.putRecord
  try dsimp only
  repeat' (first
    | (with_reducible assumption)
    | (with_reducible refine foldl_inv _ _ ?_ ?_)
    | (simp (maxDischargeDepth := 60) +contextual [*]; done)
    | (with_reducible apply State.takeUp_inv)
    | (with_reducible apply State.tokFrame_inv)
    | (with_reducible apply inv_next)
    | split
    | (dsimp only; split)
    | intro)

@[simp ↓] theorem State.takeEdges_inv (s : State) (t e : Nat) (h : State.Inv s) : State.Inv (State.takeEdges s t e) := by
  unfold State.takeEdges
  simp (maxDischargeDepth := 60) +contextual [*]

@[simp ↓] theorem State.startCredits_inv (s : State) (l e : Nat) (h : State.Inv s) :
    State.Inv (State.startCredits s l e) := by
  unfold State.startCredits
  simp (maxDischargeDepth := 60) +contextual [*]

@[simp ↓] theorem State.grant_inv (s : State) (l e : Nat) (h : State.Inv s) : State.Inv (State.grant s l e) := by
  unfold State.grant
  simp (maxDischargeDepth := 60) +contextual [*]

@[simp ↓] theorem State.firstSamples_inv (s : State) (t : Nat) (pins : List DWord) (h : State.Inv s) :
    State.Inv (State.firstSamples s t pins) := by
  unfold State.firstSamples
  simp (maxDischargeDepth := 60) +contextual [*]

@[simp ↓] theorem State.logWaits_inv (s : State) (t e : Nat) (h : State.Inv s) : State.Inv (State.logWaits s t e) := by
  unfold State.logWaits
  simp (maxDischargeDepth := 60) +contextual [*]

@[simp ↓] theorem State.waitAt_inv (s : State) (l e : Nat) (h : State.Inv s) :
    State.Inv (State.waitAt s l e) := by
  unfold State.waitAt
  simp (maxDischargeDepth := 60) +contextual [*]

@[simp ↓] theorem State.bindTiles_inv (s : State) (t : Nat) (plan : List (Nat × Nat × Bool)) (h : State.Inv s) :
    State.Inv (State.bindTiles s t plan) := by
  unfold State.bindTiles
  simp (maxDischargeDepth := 60) +contextual [*]

@[simp ↓] theorem State.sharedMoves_inv (s : State) (t : Nat) (bad : List BadWord) (h : State.Inv s) :
    State.Inv (State.sharedMoves s t bad) := by
  unfold State.sharedMoves
  simp (maxDischargeDepth := 60) +contextual [*]

@[simp ↓] theorem State.leavingUe_inv (s : State) (t l : Nat) (b : BadWord) (h : State.Inv s) :
    State.Inv (State.leavingUe s t l b) := by
  unfold State.leavingUe
  simp (maxDischargeDepth := 60) +contextual [*]

@[simp ↓] theorem State.swapAway_inv (s : State) (t : Nat) (bad : List BadWord) (h : State.Inv s) :
    State.Inv (State.swapAway s t bad) := by
  unfold State.swapAway
  simp (maxDischargeDepth := 60) +contextual [*]

@[simp ↓] theorem State.startDrains_inv (s : State) (h : State.Inv s) : State.Inv (State.startDrains s) := by
  unfold State.startDrains
  simp (maxDischargeDepth := 60) +contextual [*]

@[simp ↓] theorem State.grantClass_inv (s : State) (c pool lim : Nat) (h : State.Inv s) :
    State.Inv (State.grantClass s c pool lim).2 := by
  unfold State.grantClass
  simp (maxDischargeDepth := 60) +contextual [*]

@[simp ↓] theorem State.tokenWindow_inv (s : State) (h : State.Inv s) : State.Inv (State.tokenWindow s) := by
  have pf : ∀ (g : State → Nat → Nat → Nat) (ls : List Nat) (p : Nat × State), State.Inv p.2 → State.Inv (ls.foldl (fun (p : Nat × State) c =>
      p.2.grantClass c p.1 (g p.2 p.1 c)) p).2 := by
    intro g ls
    induction ls with
    | nil => intro p hp; exact hp
    | cons x r ih => intro p hp; exact ih _ (State.grantClass_inv _ _ _ _ hp)
  unfold State.tokenWindow
  exact pf (fun _ n _ => n) _ _ (pf (fun s _ c => s.minShare c * s.sched.rate / 100) _ _ (by simp [*]))

@[simp ↓] theorem State.accrue_inv (s : State) (h : State.Inv s) : State.Inv (State.accrue s) := by
  unfold State.accrue
  simp (maxDischargeDepth := 60) +contextual [*]

@[simp ↓] theorem State.dropSwap_inv (s : State) (w : Swap) (h : State.Inv s) : State.Inv (State.dropSwap s w) := by
  unfold State.dropSwap
  simp (maxDischargeDepth := 60) +contextual [*]

@[simp ↓] theorem State.writeRegionReg_inv (s : State) (t : Nat) (size : Bool) (v : Nat) (h : State.Inv s) :
    State.Inv (State.writeRegionReg s t size v) := by
  unfold State.writeRegionReg
  simp (maxDischargeDepth := 60) +contextual [*]

@[simp ↓] theorem State.writeTcfg_inv (s : State) (t v : Nat) (h : State.Inv s) : State.Inv (State.writeTcfg s t v) := by
  unfold State.writeTcfg
  simp (maxDischargeDepth := 60) +contextual [*]

@[simp ↓] theorem State.writeGroup_inv (s : State) (g v : Nat) (h : State.Inv s) : State.Inv (State.writeGroup s g v) := by
  unfold State.writeGroup
  simp (maxDischargeDepth := 60) +contextual [*]

@[simp ↓] theorem State.writeBwClass_inv (s : State) (c v : Nat) (h : State.Inv s) :
    State.Inv (State.writeBwClass s c v) := by
  unfold State.writeBwClass
  simp (maxDischargeDepth := 60) +contextual [*]

@[simp ↓] theorem State.writeDebug_inv (s : State) (t v : Nat) (h : State.Inv s) : State.Inv (State.writeDebug s t v) := by
  unfold State.writeDebug
  simp (maxDischargeDepth := 60) +contextual [*]

@[simp ↓] theorem State.writeContract_inv (s : State) (n v : Nat) (h : State.Inv s) :
    State.Inv (State.writeContract s n v) := by
  unfold State.writeContract
  try dsimp only
  repeat' (first
    | (with_reducible assumption)
    | (with_reducible refine foldl_inv _ _ ?_ ?_)
    | (simp (maxDischargeDepth := 60) +contextual [*]; done)
    | (with_reducible apply State.takeUp_inv)
    | (with_reducible apply State.tokFrame_inv)
    | (with_reducible apply inv_next)
    | split
    | (dsimp only; split)
    | intro)

@[simp ↓] theorem State.traceDrop_inv (s : State) (k src : Nat) (h : State.Inv s) : State.Inv (State.traceDrop s k src) := by
  unfold State.traceDrop
  simp (maxDischargeDepth := 60) +contextual [*]

@[simp ↓] theorem State.enterSink_inv (s : State) (k : Nat) (p : TracePkt) (h : State.Inv s) :
    State.Inv (State.enterSink s k p) := by
  unfold State.enterSink
  try dsimp only
  repeat' (first
    | (with_reducible assumption)
    | (with_reducible refine foldl_inv _ _ ?_ ?_)
    | (simp (maxDischargeDepth := 60) +contextual [*]; done)
    | (with_reducible apply State.takeUp_inv)
    | (with_reducible apply State.tokFrame_inv)
    | (with_reducible apply inv_next)
    | split
    | (dsimp only; split)
    | intro)

@[simp ↓] theorem State.memTrace_inv (s : State) (t : Nat) (a : MemAcc) (h : State.Inv s) :
    State.Inv (State.memTrace s t a) := by
  unfold State.memTrace
  simp (maxDischargeDepth := 60) +contextual [*]

@[simp ↓] theorem State.enableSink_inv (s : State) (k : Nat) (h : State.Inv s) : State.Inv (State.enableSink s k) := by
  unfold State.enableSink
  simp (maxDischargeDepth := 60) +contextual [*]

@[simp ↓] theorem State.disableSink_inv (s : State) (k : Nat) (h : State.Inv s) : State.Inv (State.disableSink s k) := by
  unfold State.disableSink
  simp (maxDischargeDepth := 60) +contextual [*]

@[simp ↓] theorem State.setSinkOwner_inv (s : State) (k owner : Nat) (h : State.Inv s) :
    State.Inv (State.setSinkOwner s k owner) := by
  unfold State.setSinkOwner
  simp (maxDischargeDepth := 60) +contextual [*]

@[simp ↓] theorem State.writeSinkCtl_inv (s : State) (k v : Nat) (h : State.Inv s) :
    State.Inv (State.writeSinkCtl s k v) := by
  unfold State.writeSinkCtl
  simp (maxDischargeDepth := 60) +contextual [*]

@[simp ↓] theorem State.writeSinkBase_inv (s : State) (k off v : Nat) (h : State.Inv s) :
    State.Inv (State.writeSinkBase s k off v) := by
  unfold State.writeSinkBase
  simp (maxDischargeDepth := 60) +contextual [*]

@[simp ↓] theorem State.writeSrc_inv (s : State) (id v : Nat) (h : State.Inv s) : State.Inv (State.writeSrc s id v) := by
  unfold State.writeSrc
  simp (maxDischargeDepth := 60) +contextual [*]

@[simp ↓] theorem State.writeMemUnit_inv (s : State) (u off v : Nat) (h : State.Inv s) :
    State.Inv (State.writeMemUnit s u off v) := by
  unfold State.writeMemUnit
  simp (maxDischargeDepth := 60) +contextual [*]

@[simp ↓] theorem State.writeSwmark_inv (s : State) (k v : Nat) (h : State.Inv s) : State.Inv (State.writeSwmark s k v) := by
  unfold State.writeSwmark
  simp (maxDischargeDepth := 60) +contextual [*]

@[simp ↓] theorem State.writeSinkRidx_inv (s : State) (k v : Nat) (h : State.Inv s) :
    State.Inv (State.writeSinkRidx s k v) := by
  unfold State.writeSinkRidx
  simp (maxDischargeDepth := 60) +contextual [*]

@[simp ↓] theorem State.funnelWaiting_inv (s : State) (k : Nat) (h : State.Inv s) : State.Inv (State.funnelWaiting s k) := by
  unfold State.funnelWaiting
  try dsimp only
  repeat' (first
    | (with_reducible assumption)
    | (with_reducible refine foldl_inv _ _ ?_ ?_)
    | (simp (maxDischargeDepth := 60) +contextual [*]; done)
    | (with_reducible apply State.takeUp_inv)
    | (with_reducible apply State.tokFrame_inv)
    | (with_reducible apply inv_next)
    | split
    | (dsimp only; split)
    | intro)

@[simp ↓] theorem State.sinkDrain_inv (s : State) (k : Nat) (bad : BitVec 10) (h : State.Inv s) :
    State.Inv (State.sinkDrain s k bad) := by
  unfold State.sinkDrain
  try dsimp only
  repeat' (first
    | (with_reducible assumption)
    | (with_reducible refine foldl_inv _ _ ?_ ?_)
    | (simp (maxDischargeDepth := 60) +contextual [*]; done)
    | (with_reducible apply inv_next)
    | split
    | (dsimp only; split)
    | intro)

@[simp ↓] theorem State.setTslot_inv (s : State) (k : Nat) (v : TStart) (h : State.Inv s) :
    State.Inv (State.setTslot s k v) := by
  unfold State.setTslot
  simp (maxDischargeDepth := 60) +contextual [*]

@[simp ↓] theorem State.writeTstart_inv (s : State) (k v : Nat) (h : State.Inv s) : State.Inv (State.writeTstart s k v) := by
  unfold State.writeTstart
  simp (maxDischargeDepth := 60) +contextual [*]

@[simp ↓] theorem State.writeTstartArg_inv (s : State) (k off v : Nat) (h : State.Inv s) :
    State.Inv (State.writeTstartArg s k off v) := by
  unfold State.writeTstartArg
  simp (maxDischargeDepth := 60) +contextual [*]

@[simp ↓] theorem State.setStack_inv (s : State) (k : Nat) (v : Stack) (h : State.Inv s) :
    State.Inv (State.setStack s k v) := by
  unfold State.setStack
  simp (maxDischargeDepth := 60) +contextual [*]

@[simp ↓] theorem State.updStack_inv (s : State) (k : Nat) (f : Stack → Stack) (h : State.Inv s) :
    State.Inv (State.updStack s k f) := by
  unfold State.updStack
  simp (maxDischargeDepth := 60) +contextual [*]

@[simp ↓] theorem State.wantRepair_inv (s : State) (a : Nat) (h : State.Inv s) : State.Inv (State.wantRepair s a) := by
  unfold State.wantRepair
  simp (maxDischargeDepth := 60) +contextual [*]

@[simp ↓] theorem State.dsCe_inv (s : State) (a : Nat) (h : State.Inv s) : State.Inv (State.dsCe s a) := by
  unfold State.dsCe
  simp (maxDischargeDepth := 60) +contextual [*]

@[simp ↓] theorem State.dsUe_inv (s : State) (a : Nat) (h : State.Inv s) : State.Inv (State.dsUe s a) := by
  unfold State.dsUe
  simp (maxDischargeDepth := 60) +contextual [*]

@[simp ↓] theorem State.dsCheck_inv (s : State) (a : Nat) (f : ErrFound) (h : State.Inv s) :
    State.Inv (State.dsCheck s a f).2.2 := by
  unfold State.dsCheck
  try dsimp only
  repeat' (first
    | (with_reducible assumption)
    | (with_reducible refine foldl_inv _ _ ?_ ?_)
    | (simp (maxDischargeDepth := 60) +contextual [*]; done)
    | (with_reducible apply State.takeUp_inv)
    | (with_reducible apply State.tokFrame_inv)
    | (with_reducible apply inv_next)
    | split
    | (dsimp only; split)
    | intro)

@[simp ↓] theorem State.payDeep_inv (s : State) (t n : Nat) (h : State.Inv s) : State.Inv (State.payDeep s t n).2 := by
  unfold State.payDeep
  try dsimp only
  repeat' (first
    | (with_reducible assumption)
    | (with_reducible refine foldl_inv _ _ ?_ ?_)
    | (simp (maxDischargeDepth := 60) +contextual [*]; done)
    | (with_reducible apply State.takeUp_inv)
    | (with_reducible apply State.tokFrame_inv)
    | (with_reducible apply inv_next)
    | split
    | (dsimp only; split)
    | intro)

@[simp ↓] theorem State.emitMsg_inv (s : State) (c : DeepCmd) (e : DeepEnt) (a : Nat) (h : State.Inv s) :
    State.Inv (State.emitMsg s c e a) := by
  unfold State.emitMsg
  try dsimp only
  repeat' (first
    | (with_reducible assumption)
    | (with_reducible refine foldl_inv _ _ ?_ ?_)
    | (simp (maxDischargeDepth := 60) +contextual [*]; done)
    | (with_reducible apply State.takeUp_inv)
    | (with_reducible apply State.tokFrame_inv)
    | (with_reducible apply inv_next)
    | split
    | (dsimp only; split)
    | intro)

@[simp ↓] theorem State.popDeep_inv (s : State) (c : DeepCmd) (h : State.Inv s) : State.Inv (State.popDeep s c) := by
  unfold State.popDeep
  simp (maxDischargeDepth := 60) +contextual [*]

@[simp ↓] theorem State.answerDeep_inv (s : State) (c : DeepCmd) (status : Nat) (v : Word) (seq : Nat) (h : State.Inv s) :
    State.Inv (State.answerDeep s c status v seq) := by
  unfold State.answerDeep
  simp (maxDischargeDepth := 60) +contextual [*]

@[simp ↓] theorem State.deepFails_inv (s : State) (c : DeepCmd) (status off : Nat) (h : State.Inv s) :
    State.Inv (State.deepFails s c status off) := by
  unfold State.deepFails
  simp (maxDischargeDepth := 60) +contextual [*]

@[simp ↓] theorem State.performDeep_inv (s : State) (t memid op : Nat) (f : ErrFound) (wbad : Bool) (h : State.Inv s) :
    State.Inv (State.performDeep s t memid op f wbad) := by
  unfold State.performDeep
  cases s.noc.deepQ.find? (fun c => decide (c.ten = t ∧ c.memid = memid)) with
  | none => exact h
  | some c =>
    refine inv_ite _ _ _ h ?_
    cases (s.ten t).img.bind (fun i => i.mem memid) with
    | none => exact State.popDeep_inv _ _ h
    | some e =>
      refine inv_ite _ _ _ (State.deepFails_inv _ _ _ _ (State.regionFault_inv _ _ _ (State.popDeep_inv _ _ h))) (inv_ite _ _ _ h
        (inv_ite _ _ _ h (inv_ite _ _ _ h (inv_ite _ _ _ (State.askFault_inv _ _ _ h) ?_))))
      have hp := State.payDeep_inv s t c.accesses h
      refine inv_ite _ _ _ hp ?_
      have hu := State.dsCheck_inv _ ((s.rbase t + (e.base + 8 * c.addr)) / 64 * 64) f (State.popDeep_inv _ c hp)
      refine inv_ite _ _ _ (State.deepFails_inv _ _ _ _ hu) ?_
      generalize State.dsCheck _ _ _ = r at hu
      dsimp only
      have hv := inv_ite (r.2.1 = true) _ _ hu (State.freshDWord_inv _ hu)
      generalize (if r.2.1 = true then r.2.2 else r.2.2.freshDWord.2) = v at hv
      refine inv_ite _ _ _ (State.answerDeep_inv _ _ _ _ _ (inv_ite _ _ _ (State.memTrace_inv _ _ _ hv) hv)) (inv_ite _ _ _ (State.deepFails_inv _ _ _ _ hv)
        (State.answerDeep_inv _ _ _ _ _ (State.memTrace_inv _ _ _ ?_)))
      have hj := State.journalLine_inv v t memid (c.addr / 8) c.ecyc hv
      have hz := inv_ds _ (Mem.putLE (v.journalLine t memid (c.addr / 8) c.ecyc).ds (s.rbase t + (e.base + 8 * c.addr) + 4 * c.lane) 4
        (laneAfter c.op (if r.2.1 = true then BitVec.ofNat 32 (r.2.2.ds.le (s.rbase t + (e.base + 8 * c.addr) + 4 * c.lane) 4)
          else laneOf r.2.2.freshDWord.1 0) c.data c.en).toNat) hj (Mem.wf_putLE _ _ _ _ hj.ds)
      exact inv_ite _ _ _ (State.emitMsg_inv _ _ _ _ hz) hz

@[simp ↓] theorem State.updFlash_inv (s : State) (f : Flash → Flash) (h : State.Inv s) : State.Inv (State.updFlash s f) := by
  unfold State.updFlash
  simp (maxDischargeDepth := 60) +contextual [*]

@[simp ↓] theorem State.eraseSector_inv (s : State) (n : Nat) (h : State.Inv s) : State.Inv (State.eraseSector s n) := by
  unfold State.eraseSector
  simp (maxDischargeDepth := 60) +contextual [*]

@[simp ↓] theorem State.retireSector_inv (s : State) (n : Nat) (h : State.Inv s) : State.Inv (State.retireSector s n) := by
  unfold State.retireSector
  simp (maxDischargeDepth := 60) +contextual [*]

@[simp ↓] theorem State.recordRoom_inv (s : State) (h : State.Inv s) : State.Inv (State.recordRoom s) := by
  unfold State.recordRoom
  simp (maxDischargeDepth := 60) +contextual [*]

@[simp ↓] theorem State.recordStage_inv (s : State) (k : Nat) (u : UStage) (cseq len pcheck : Nat) (h : State.Inv s) :
    State.Inv (State.recordStage s k u cseq len pcheck) := by
  unfold State.recordStage
  simp (maxDischargeDepth := 60) +contextual [*]

@[simp ↓] theorem State.recordState_inv (s : State) (lc : Nat) (h : State.Inv s) : State.Inv (State.recordState s lc) := by
  unfold State.recordState
  simp (maxDischargeDepth := 60) +contextual [*]

@[simp ↓] theorem State.raiseMc_inv (s : State) (k v : Nat) (h : State.Inv s) : State.Inv (State.raiseMc s k v) := by
  unfold State.raiseMc
  simp (maxDischargeDepth := 60) +contextual [*]

@[simp ↓] theorem State.writeStage_inv (s : State) (k : Nat) (u : UStage) (cseq len pcheck : Nat) (h : State.Inv s) :
    State.Inv (State.writeStage s k u cseq len pcheck) := by
  unfold State.writeStage
  simp (maxDischargeDepth := 60) +contextual [*]

@[simp ↓] theorem State.moveStage_inv (s : State) (k : Nat) (u : UStage) (h : State.Inv s) :
    State.Inv (State.moveStage s k u) := by
  unfold State.moveStage
  simp (maxDischargeDepth := 60) +contextual [*]

@[simp ↓] theorem State.abortJob_inv (s : State) (result : Nat) (h : State.Inv s) : State.Inv (State.abortJob s result) := by
  unfold State.abortJob
  try dsimp only
  repeat' (first
    | (with_reducible assumption)
    | (with_reducible refine foldl_inv _ _ ?_ ?_)
    | (simp (maxDischargeDepth := 60) +contextual [*]; done)
    | (with_reducible apply State.takeUp_inv)
    | (with_reducible apply State.tokFrame_inv)
    | (with_reducible apply inv_next)
    | split
    | (dsimp only; split)
    | intro)

@[simp ↓] theorem State.recordRepair_inv (s : State) (loc : Nat) (h : State.Inv s) :
    State.Inv (State.recordRepair s loc) := by
  unfold State.recordRepair
  simp (maxDischargeDepth := 60) +contextual [*]

@[simp ↓] theorem State.zeroMems_inv (s : State) (t : Nat) (i : Image) (h : State.Inv s) :
    State.Inv (State.zeroMems s t i) := by
  unfold State.zeroMems
  simp (maxDischargeDepth := 60) +contextual [*]

@[simp ↓] theorem State.acceptImage_inv (s : State) (t : Nat) (i : Image) (h : State.Inv s) :
    State.Inv (State.acceptImage s t i) := by
  unfold State.acceptImage
  simp (maxDischargeDepth := 60) +contextual [*]

@[simp ↓] theorem State.stopPr_inv (s : State) (h : State.Inv s) : State.Inv (State.stopPr s) := by
  unfold State.stopPr
  try dsimp only
  repeat' (first
    | (with_reducible assumption)
    | (with_reducible refine foldl_inv _ _ ?_ ?_)
    | (simp (maxDischargeDepth := 60) +contextual [*]; done)
    | (with_reducible apply State.takeUp_inv)
    | (with_reducible apply State.tokFrame_inv)
    | (with_reducible apply inv_next)
    | split
    | (dsimp only; split)
    | intro)

@[simp ↓] theorem State.haltAll_inv (s : State) (h : State.Inv s) : State.Inv (State.haltAll s) := by
  unfold State.haltAll
  simp (maxDischargeDepth := 60) +contextual [*]

@[simp ↓] theorem State.freezeTrig_inv (s : State) (f : State → Nat → State) (h : State.Inv s) (hf : ∀ (s : State) x0, State.Inv s → State.Inv (f s x0)) :
    State.Inv (State.freezeTrig s f) := by
  unfold State.freezeTrig
  simp (maxDischargeDepth := 60) +contextual [*]

@[simp ↓] theorem State.enterSafe_inv (s : State) (c : SafeCause) (h : State.Inv s) : State.Inv (State.enterSafe s c) := by
  unfold State.enterSafe
  simp (maxDischargeDepth := 60) +contextual [*]

@[simp ↓] theorem State.wiped_inv (s : State) (h : State.Inv s) : State.Inv (State.wiped s) := by
  refine ⟨⟨Nat.zero_le _, ?_⟩, ⟨by show 0 < _; omega, by show 0 < _; omega, h.thy.2.2⟩, h.hostMem, scramble_wf _ _ h.hub, scramble_wf _ _ h.ds⟩
  simp [State.wiped, State.reset]

@[simp ↓] theorem State.bringUp_inv (s : State) (h : State.Inv s) :
    State.Inv (State.bringUp s) := by
  unfold State.bringUp
  try dsimp only
  repeat' (first
    | (with_reducible assumption)
    | (with_reducible refine foldl_inv _ _ ?_ ?_)
    | (simp (maxDischargeDepth := 60) +contextual [*]; done)
    | (with_reducible apply inv_next)
    | split
    | (dsimp only; split)
    | intro)

@[simp ↓] theorem State.enterReset_inv (s : State) (cause : Nat) (sel : BitVec 2) (h : State.Inv s) :
    State.Inv (State.enterReset s cause sel) := by
  unfold State.enterReset
  simp (maxDischargeDepth := 60) +contextual [*]

@[simp ↓] theorem State.bkpDown_inv (s : State) (h : State.Inv s) : State.Inv (State.bkpDown s) := by
  unfold State.bkpDown
  simp (maxDischargeDepth := 60) +contextual [*]

@[simp ↓] theorem State.bkpRestore_inv (s : State) (h : State.Inv s) : State.Inv (State.bkpRestore s) := by
  unfold State.bkpRestore
  simp (maxDischargeDepth := 60) +contextual [*]

@[simp ↓] theorem State.tryLeaveReset_inv (s : State) (h : State.Inv s) : State.Inv (State.tryLeaveReset s) := by
  unfold State.tryLeaveReset
  simp (maxDischargeDepth := 60) +contextual [*]

@[simp ↓] theorem State.spaceError_inv (s : State) (sp : Nat) (hold : Bool) (h : State.Inv s) :
    State.Inv (State.spaceError s sp hold) := by
  unfold State.spaceError
  simp (maxDischargeDepth := 60) +contextual [*]

@[simp ↓] theorem State.writePreset_inv (s : State) (off v : Nat) (h : State.Inv s) :
    State.Inv (State.writePreset s off v) := by
  unfold State.writePreset
  simp (maxDischargeDepth := 60) +contextual [*]

@[simp ↓] theorem State.initFab_inv (s : State) (rs : List Nat) (h : State.Inv s) :
    State.Inv (State.initFab s rs) := by
  unfold State.initFab
  simp (maxDischargeDepth := 60) +contextual [*]

@[simp ↓] theorem State.presetEdg_inv (s : State) (h : State.Inv s) :
    State.Inv (State.presetEdg s) := by
  unfold State.presetEdg
  simp (maxDischargeDepth := 60) +contextual [*]

@[simp ↓] theorem State.applyPresets_inv (s : State) (l : List (Nat × Nat)) (h : State.Inv s) :
    State.Inv (State.applyPresets s l) := by
  unfold State.applyPresets
  simp (maxDischargeDepth := 60) +contextual [*]

@[simp ↓] theorem State.reportBkp_inv (s : State) (h : State.Inv s) :
    State.Inv (State.reportBkp s) := by
  unfold State.reportBkp
  simp (maxDischargeDepth := 60) +contextual [*]

@[simp ↓] theorem State.loadSafe_inv (s : State) (h : State.Inv s) :
    State.Inv (State.loadSafe s) := by
  unfold State.loadSafe
  simp (maxDischargeDepth := 60) +contextual [*]

@[simp ↓] theorem State.loadNext_inv (s : State) (h : State.Inv s) : State.Inv (State.loadNext s) := by
  unfold State.loadNext
  try dsimp only
  repeat' (first
    | (with_reducible assumption)
    | (with_reducible refine foldl_inv _ _ ?_ ?_)
    | (simp (maxDischargeDepth := 60) +contextual [*]; done)
    | (with_reducible apply State.takeUp_inv)
    | (with_reducible apply State.tokFrame_inv)
    | (with_reducible apply inv_next)
    | split
    | (dsimp only; split)
    | intro)

@[simp ↓] theorem State.loadFlash_inv (s : State) (h : State.Inv s) : State.Inv (State.loadFlash s) := by
  unfold State.loadFlash
  simp (maxDischargeDepth := 60) +contextual [*]

@[simp ↓] theorem State.enterLoad_inv (s : State) (h : State.Inv s) : State.Inv (State.enterLoad s) := by
  unfold State.enterLoad
  simp (maxDischargeDepth := 60) +contextual [*]

@[simp ↓] theorem State.placeFrames_inv (s : State) (l : List Sec) (h : State.Inv s) :
    State.Inv (State.placeFrames s l) := by
  unfold State.placeFrames
  simp (maxDischargeDepth := 60) +contextual [*]

@[simp ↓] theorem State.spaceErrors_inv (s : State) (hold : Bool) (l : List Nat) (h : State.Inv s) :
    State.Inv (State.spaceErrors s hold l) := by
  unfold State.spaceErrors
  simp (maxDischargeDepth := 60) +contextual [*]

@[simp ↓] theorem State.reportRetries_inv (s : State) (h : State.Inv s) : State.Inv (State.reportRetries s) := by
  unfold State.reportRetries
  simp (maxDischargeDepth := 60) +contextual [*]

@[simp ↓] theorem State.reportLoad_inv (s : State) (src cseq : Nat) (h : State.Inv s) :
    State.Inv (State.reportLoad s src cseq) := by
  unfold State.reportLoad
  simp (maxDischargeDepth := 60) +contextual [*]

@[simp ↓] theorem State.loadPassed_inv (s : State) (src cseq : Nat) (trial : Bool) (bs : List Byte) (l : List Sec) (h : State.Inv s) :
    State.Inv (State.loadPassed s src cseq trial bs l) := by
  unfold State.loadPassed
  simp (maxDischargeDepth := 60) +contextual [*]

@[simp ↓] theorem State.loadFailed_inv (s : State) (k : Nat) (trial : Bool) (code : Nat) (h : State.Inv s) :
    State.Inv (State.loadFailed s k trial code) := by
  unfold State.loadFailed
  simp (maxDischargeDepth := 60) +contextual [*]

@[simp ↓] theorem State.updDone_inv (s : State) (csp : Bool) (result : Nat) (u : Option UStage) (h : State.Inv s) :
    State.Inv (State.updDone s csp result u) := by
  unfold State.updDone
  simp (maxDischargeDepth := 60) +contextual [*]

@[simp ↓] theorem State.startDownload_inv (s : State) (csp bay : Bool) (off len : Nat) (h : State.Inv s) :
    State.Inv (State.startDownload s csp bay off len) := by
  unfold State.startDownload
  simp (maxDischargeDepth := 60) +contextual [*]

@[simp ↓] theorem State.activate_inv (s : State) (csp : Bool) (h : State.Inv s) : State.Inv (State.activate s csp) := by
  unfold State.activate
  try dsimp only
  repeat' (first
    | (with_reducible assumption)
    | (with_reducible refine foldl_inv _ _ ?_ ?_)
    | (simp (maxDischargeDepth := 60) +contextual [*]; done)
    | (with_reducible apply State.takeUp_inv)
    | (with_reducible apply State.tokFrame_inv)
    | (with_reducible apply inv_next)
    | split
    | (dsimp only; split)
    | intro)

@[simp ↓] theorem State.confirmTrial_inv (s : State) (csp : Bool) (h : State.Inv s) :
    State.Inv (State.confirmTrial s csp) := by
  unfold State.confirmTrial
  simp (maxDischargeDepth := 60) +contextual [*]

@[simp ↓] theorem State.programSlot_inv (s : State) (k n : Nat) (h : State.Inv s) : State.Inv (State.programSlot s k n) := by
  unfold State.programSlot
  simp (maxDischargeDepth := 60) +contextual [*]

@[simp ↓] theorem State.verifyDownload_inv (s : State) (j : UpdJob) (bytes : List Byte) (h : State.Inv s) :
    State.Inv (State.verifyDownload s j bytes) := by
  unfold State.verifyDownload
  simp (maxDischargeDepth := 60) +contextual [*]

@[simp ↓] theorem State.countRetries_inv (s : State) (k : Nat) (l : List (Fin 384 × BitVec 16)) (h : State.Inv s) :
    State.Inv (State.countRetries s k l) := by
  unfold State.countRetries
  simp (maxDischargeDepth := 60) +contextual [*]

@[simp ↓] theorem State.finishDownload_inv (s : State) (j : UpdJob) (bytes : List Byte) (retries : List (Fin 384 × BitVec 16)) (failed : Option Nat)
    (h : State.Inv s) : State.Inv (State.finishDownload s j bytes retries failed) := by
  unfold State.finishDownload
  try dsimp only
  repeat' (first
    | (with_reducible assumption)
    | (simp (maxDischargeDepth := 60) +contextual [*]; done)
    | split)

@[simp ↓] theorem State.pushRefused_inv (s : State) (code : Nat) (h : State.Inv s) :
    State.Inv (State.pushRefused s code) := by
  unfold State.pushRefused
  simp (maxDischargeDepth := 60) +contextual [*]

@[simp ↓] theorem State.cspBad_inv (s : State) (cmd : Nat) (h : State.Inv s) : State.Inv (State.cspBad s cmd) := by
  unfold State.cspBad
  simp (maxDischargeDepth := 60) +contextual [*]

@[simp ↓] theorem State.csp_inv (s : State) (rdy : Bool) (cmd : Nat) (may : Bool) (act : State → State) (hact : ∀ s : State, State.Inv s → State.Inv (act s)) (h : State.Inv s) :
    Out.Inv (State.csp s rdy cmd may act) := by
  unfold State.csp
  simp (maxDischargeDepth := 60) +contextual [*]

@[simp ↓] theorem State.cspDrop_inv (s : State) (h : State.Inv s) : State.Inv (State.cspDrop s) := by
  unfold State.cspDrop
  simp (maxDischargeDepth := 60) +contextual [*]

@[simp ↓] theorem State.updCmd_inv (s : State) (act : State → State) (hact : ∀ s : State, State.Inv s → State.Inv (act s)) (h : State.Inv s) :
    Out.Inv (State.updCmd s act) := by
  unfold State.updCmd
  simp (maxDischargeDepth := 60) +contextual [*]

@[simp ↓] theorem execUpdDownload_inv (bay : Bool) (s : State) (h : State.Inv s) : Out.Inv (execUpdDownload bay s) := by
  unfold execUpdDownload
  simp (maxDischargeDepth := 60) +contextual [*]

@[simp ↓] theorem execUpdActivate_inv (s : State) (h : State.Inv s) : Out.Inv (execUpdActivate s) := by
  unfold execUpdActivate
  simp (maxDischargeDepth := 60) +contextual [*]

@[simp ↓] theorem execUpdConfirm_inv (s : State) (h : State.Inv s) : Out.Inv (execUpdConfirm s) := by
  unfold execUpdConfirm
  simp (maxDischargeDepth := 60) +contextual [*]

@[simp ↓] theorem State.sorrelUe_inv (s : State) (a : Nat) (h : State.Inv s) : State.Inv (State.sorrelUe s a) := by
  unfold State.sorrelUe
  simp (maxDischargeDepth := 60) +contextual [*]

@[simp ↓] theorem execMcRaise_inv (k : BitVec 2) (s : State) (h : State.Inv s) : Out.Inv (execMcRaise k s) := by
  unfold execMcRaise
  simp (maxDischargeDepth := 60) +contextual [*]

@[simp ↓] theorem execEdgPrGo_inv (r : Region) (s : State) (h : State.Inv s) : Out.Inv (execEdgPrGo r s) := by
  unfold execEdgPrGo
  simp (maxDischargeDepth := 60) +contextual [*]

@[simp ↓] theorem State.prPass_inv (s : State) (r : Nat) (own : Option Nat) (bs : List Byte) (h : State.Inv s) :
    State.Inv (State.prPass s r own bs) := by
  unfold State.prPass
  simp (maxDischargeDepth := 60) +contextual [*]

@[simp ↓] theorem State.prFail_inv (s : State) (r : Nat) (own : Option Nat) (code : Nat) (h : State.Inv s) :
    State.Inv (State.prFail s r own code) := by
  unfold State.prFail
  simp (maxDischargeDepth := 60) +contextual [*]

@[simp ↓] theorem State.prEnd_inv (s : State) (r : Nat) (own : Option Nat) (h : State.Inv s) :
    State.Inv (State.prEnd s r own) := by
  unfold State.prEnd
  try dsimp only
  repeat' (first
    | (with_reducible assumption)
    | (with_reducible refine foldl_inv _ _ ?_ ?_)
    | (simp (maxDischargeDepth := 60) +contextual [*]; done)
    | (with_reducible apply State.takeUp_inv)
    | (with_reducible apply State.tokFrame_inv)
    | (with_reducible apply State.csp_inv)
    | (with_reducible apply State.updCmd_inv)
    | (with_reducible apply inv_next)
    | split
    | (dsimp only; split)
    | intro)

@[simp ↓] theorem State.updPwr_inv (s : State) (f : Pwr → Pwr) (h : State.Inv s) : State.Inv (State.updPwr s f) := by
  unfold State.updPwr
  simp (maxDischargeDepth := 60) +contextual [*]

@[simp ↓] theorem State.setDomain_inv (s : State) (d : Nat) (v : Domain) (h : State.Inv s) :
    State.Inv (State.setDomain s d v) := by
  unfold State.setDomain
  simp (maxDischargeDepth := 60) +contextual [*]

@[simp ↓] theorem State.setRate_inv (s : State) (h : State.Inv s) : State.Inv (State.setRate s) := by
  unfold State.setRate
  simp (maxDischargeDepth := 60) +contextual [*]

@[simp ↓] theorem State.setTokenRate_inv (s : State) (h : State.Inv s) : State.Inv (State.setTokenRate s) := by
  unfold State.setTokenRate
  simp (maxDischargeDepth := 60) +contextual [*]

@[simp ↓] theorem State.swapByWeight_inv (s : State) (h : State.Inv s) : State.Inv (State.swapByWeight s) := by
  unfold State.swapByWeight
  simp (maxDischargeDepth := 60) +contextual [*]

@[simp ↓] theorem State.derateCond_inv (s : State) (h : State.Inv s) : State.Inv (State.derateCond s) := by
  unfold State.derateCond
  simp (maxDischargeDepth := 60) +contextual [*]

@[simp ↓] theorem State.derateEval_inv (s : State) (h : State.Inv s) : State.Inv (State.derateEval s) := by
  unfold State.derateEval
  simp (maxDischargeDepth := 60) +contextual [*]

@[simp ↓] theorem State.setOwnHold_inv (s : State) (hold floor : Bool) (h : State.Inv s) :
    State.Inv (State.setOwnHold s hold floor) := by
  unfold State.setOwnHold
  simp (maxDischargeDepth := 60) +contextual [*]

@[simp ↓] theorem State.floorEval_inv (s : State) (h : State.Inv s) : State.Inv (State.floorEval s) := by
  unfold State.floorEval
  simp (maxDischargeDepth := 60) +contextual [*]

@[simp ↓] theorem State.hubEval_inv (s : State) (waited : Bool) (share : Nat) (h : State.Inv s) :
    State.Inv (State.hubEval s waited share) := by
  unfold State.hubEval
  simp (maxDischargeDepth := 60) +contextual [*]

@[simp ↓] theorem State.countEnergy_inv (s : State) (used : List Word) (h : State.Inv s) :
    State.Inv (State.countEnergy s used) := by
  unfold State.countEnergy
  simp (maxDischargeDepth := 60) +contextual [*]

@[simp ↓] theorem State.attribute_inv (s : State) (used : List Word) (h : State.Inv s) :
    State.Inv (State.attribute s used) := by
  unfold State.attribute
  simp (maxDischargeDepth := 60) +contextual [*]

@[simp ↓] theorem State.measure_inv (s : State) (used : List Word) (loads : List (BitVec 16)) (h : State.Inv s) :
    State.Inv (State.measure s used loads) := by
  unfold State.measure
  simp (maxDischargeDepth := 60) +contextual [*]

@[simp ↓] theorem State.publish_inv (s : State) (nt lk : Nat) (h : State.Inv s) : State.Inv (State.publish s nt lk) := by
  unfold State.publish
  simp (maxDischargeDepth := 60) +contextual [*]

@[simp ↓] theorem State.askTemps_inv (s : State) (h : State.Inv s) : State.Inv (State.askTemps s) := by
  unfold State.askTemps
  simp (maxDischargeDepth := 60) +contextual [*]

@[simp ↓] theorem State.endFastCap_inv (s : State) (h : State.Inv s) : State.Inv (State.endFastCap s) := by
  unfold State.endFastCap
  simp (maxDischargeDepth := 60) +contextual [*]

@[simp ↓] theorem State.budgetRecord_inv (s : State) (h : State.Inv s) :
    State.Inv (State.budgetRecord s) := by
  unfold State.budgetRecord
  simp (maxDischargeDepth := 60) +contextual [*]

@[simp ↓] theorem State.groupFaulty_inv (s : State) (d : Nat) (h : State.Inv s) : State.Inv (State.groupFaulty s d) := by
  unfold State.groupFaulty
  try dsimp only
  repeat' (first
    | (with_reducible assumption)
    | (with_reducible refine foldl_inv _ _ ?_ ?_)
    | (simp (maxDischargeDepth := 60) +contextual [*]; done)
    | (with_reducible apply inv_next)
    | split
    | (dsimp only; split)
    | intro)

@[simp ↓] theorem State.domainOutcome_inv (s : State) (d : Nat) (h : State.Inv s) : State.Inv (State.domainOutcome s d) := by
  unfold State.domainOutcome
  try dsimp only
  repeat' (first
    | (with_reducible assumption)
    | (with_reducible refine foldl_inv _ _ ?_ ?_)
    | (simp (maxDischargeDepth := 60) +contextual [*]; done)
    | (with_reducible apply inv_next)
    | split
    | (dsimp only; split)
    | intro)

@[simp ↓] theorem State.clearResident_inv (s : State) (d : Nat) (h : State.Inv s) : State.Inv (State.clearResident s d) := by
  unfold State.clearResident
  simp (maxDischargeDepth := 60) +contextual [*]

@[simp ↓] theorem State.postRow_inv (s : State) (r d : Nat) (h : State.Inv s) :
    State.Inv (State.postRow s r d) := by
  unfold State.postRow
  simp (maxDischargeDepth := 60) +contextual [*]

@[simp ↓] theorem State.writeDomCtl_inv (s : State) (d : Nat) (en : Bool) (h : State.Inv s) :
    State.Inv (State.writeDomCtl s d en) := by
  unfold State.writeDomCtl
  simp (maxDischargeDepth := 60) +contextual [*]

@[simp ↓] theorem execSoftReset_inv (key : Byte) (sel : BitVec 2) (s : State) (h : State.Inv s) :
    Out.Inv (execSoftReset key sel s) := by
  unfold execSoftReset
  simp (maxDischargeDepth := 60) +contextual [*]

@[simp ↓] theorem execForceSafe_inv (key : Byte) (s : State) (h : State.Inv s) : Out.Inv (execForceSafe key s) := by
  unfold execForceSafe
  simp (maxDischargeDepth := 60) +contextual [*]

@[simp ↓] theorem State.postTile_inv (s : State) (failed : List Nat) (n : Nat) (h : State.Inv s) :
    State.Inv (State.postTile s failed n) := by
  unfold State.postTile
  simp (maxDischargeDepth := 60) +contextual [*]

@[simp ↓] theorem State.postDie_inv (s : State) (d : Fin 8) (h : State.Inv s) : State.Inv (State.postDie s d) := by
  unfold State.postDie
  simp (maxDischargeDepth := 60) +contextual [*]

@[simp ↓] theorem State.applyRepairs_inv (s : State) (h : State.Inv s) : State.Inv (State.applyRepairs s) := by
  unfold State.applyRepairs
  simp (maxDischargeDepth := 60) +contextual [*]

@[simp ↓] theorem State.tilesOff_inv (s : State) (h : State.Inv s) :
    State.Inv (State.tilesOff s) := by
  unfold State.tilesOff
  simp (maxDischargeDepth := 60) +contextual [*]

@[simp ↓] theorem State.updClk_inv (s : State) (f : Clk → Clk) (h : State.Inv s) : State.Inv (State.updClk s f) := by
  unfold State.updClk
  simp (maxDischargeDepth := 60) +contextual [*]

@[simp ↓] theorem State.trimLost_inv (s : State) (cause : Nat) (h : State.Inv s) : State.Inv (State.trimLost s cause) := by
  unfold State.trimLost
  simp (maxDischargeDepth := 60) +contextual [*]

@[simp ↓] theorem State.writeClkCfg_inv (s : State) (v : Nat) (h : State.Inv s) : State.Inv (State.writeClkCfg s v) := by
  unfold State.writeClkCfg
  simp (maxDischargeDepth := 60) +contextual [*]

@[simp ↓] theorem State.sageStart_inv (s : State) (test arg : Nat) (may : Bool) (h : State.Inv s) :
    Out.Inv (State.sageStart s test arg may) := by
  unfold State.sageStart
  simp (maxDischargeDepth := 60) +contextual [*]

@[simp ↓] theorem State.tileWiped_inv (s : State) (n : Nat) (h : State.Inv s) : State.Inv (State.tileWiped s n) := by
  unfold State.tileWiped
  try dsimp only
  repeat' (first
    | (with_reducible assumption)
    | (with_reducible refine foldl_inv _ _ ?_ ?_)
    | (simp (maxDischargeDepth := 60) +contextual [*]; done)
    | (with_reducible apply State.takeUp_inv)
    | (with_reducible apply State.tokFrame_inv)
    | (with_reducible apply State.csp_inv)
    | (with_reducible apply State.updCmd_inv)
    | (with_reducible apply inv_next)
    | split
    | (dsimp only; split)
    | intro)

@[simp ↓] theorem State.stackWiped_inv (s : State) (k : Nat) (h : State.Inv s) : State.Inv (State.stackWiped s k) := by
  unfold State.stackWiped
  refine ⟨h.fm, h.thy, h.hostMem, h.hub, ?_⟩
  show Mem.wf (List.foldl _ _ _) = true
  generalize scramble _ _ = l
  have h0 : Mem.wf (s.ds.filter (fun c => decide (dsStack c.1 ≠ k))) = true := Mem.wf_filter _ _ h.ds
  generalize List.filter _ _ = m at h0 ⊢
  induction l generalizing m with
  | nil => exact h0
  | cons c r ih => exact ih _ (Mem.wf_write _ _ _ h0)

@[simp ↓] theorem State.sageEffect_inv (s : State) (test arg : Nat) (h : State.Inv s) :
    State.Inv (State.sageEffect s test arg) := by
  unfold State.sageEffect
  simp (maxDischargeDepth := 60) +contextual [*]

@[simp ↓] theorem execSageLcWrite_inv (x0 : BitVec 3) (key : Byte) (s : State) (h : State.Inv s) :
    Out.Inv (execSageLcWrite x0 key s) := by
  unfold execSageLcWrite
  simp (maxDischargeDepth := 60) +contextual [*]

@[simp ↓] theorem State.updAna_inv (s : State) (f : Ana → Ana) (h : State.Inv s) : State.Inv (State.updAna s f) := by
  unfold State.updAna
  simp (maxDischargeDepth := 60) +contextual [*]

@[simp ↓] theorem State.setEnt_inv (s : State) (e : Nat) (v : AnaEnt) (h : State.Inv s) :
    State.Inv (State.setEnt s e v) := by
  unfold State.setEnt
  simp (maxDischargeDepth := 60) +contextual [*]

@[simp ↓] theorem State.vioReading_inv (s : State) (g : Nat) (good : Bool) (vio : Option Nat) (h : State.Inv s) :
    State.Inv (State.vioReading s g good vio) := by
  unfold State.vioReading
  try dsimp only
  repeat' (first
    | (with_reducible assumption)
    | (with_reducible refine foldl_inv _ _ ?_ ?_)
    | (simp (maxDischargeDepth := 60) +contextual [*]; done)
    | (with_reducible apply State.takeUp_inv)
    | (with_reducible apply State.tokFrame_inv)
    | (with_reducible apply State.csp_inv)
    | (with_reducible apply State.updCmd_inv)
    | (with_reducible apply inv_next)
    | split
    | (dsimp only; split)
    | intro)

@[simp ↓] theorem State.vioCheck_inv (s : State) (i mv : Nat) (ovr : Bool) (h : State.Inv s) :
    State.Inv (State.vioCheck s i mv ovr) := by
  unfold State.vioCheck
  simp (maxDischargeDepth := 60) +contextual [*]

@[simp ↓] theorem State.vbatCheck_inv (s : State) (mv : Nat) (h : State.Inv s) : State.Inv (State.vbatCheck s mv) := by
  unfold State.vbatCheck
  simp (maxDischargeDepth := 60) +contextual [*]

@[simp ↓] theorem State.tempCheck_inv (s : State) (i : Nat) (t : Int) (h : State.Inv s) :
    State.Inv (State.tempCheck s i t) := by
  unfold State.tempCheck
  simp (maxDischargeDepth := 60) +contextual [*]

@[simp ↓] theorem State.anaLimit_inv (s : State) (e i : Nat) (v : Int) (high : Bool) (h : State.Inv s) :
    State.Inv (State.anaLimit s e i v high) := by
  unfold State.anaLimit
  simp (maxDischargeDepth := 60) +contextual [*]

@[simp ↓] theorem State.anaChecks_inv (s : State) (i : Nat) (v : Int) (high ovr : Bool) (h : State.Inv s) :
    State.Inv (State.anaChecks s i v high ovr) := by
  unfold State.anaChecks
  simp (maxDischargeDepth := 60) +contextual [*]

@[simp ↓] theorem State.anaPublish_inv (s : State) (i : Nat) (v : Int) (high ovr changed urgent : Bool) (raw slice : Nat) (h : State.Inv s) :
    State.Inv (State.anaPublish s i v high ovr changed urgent raw slice) := by
  unfold State.anaPublish
  simp (maxDischargeDepth := 60) +contextual [*]

@[simp ↓] theorem State.anaSlot_inv (s : State) (h : State.Inv s) : State.Inv (State.anaSlot s) := by
  unfold State.anaSlot
  simp (maxDischargeDepth := 60) +contextual [*]

@[simp ↓] theorem State.askAgain_inv (s : State) (h : State.Inv s) : State.Inv (State.askAgain s) := by
  unfold State.askAgain
  simp (maxDischargeDepth := 60) +contextual [*]

@[simp ↓] theorem State.anaPass_inv (s : State) (h : State.Inv s) : State.Inv (State.anaPass s) := by
  unfold State.anaPass
  simp (maxDischargeDepth := 60) +contextual [*]

@[simp ↓] theorem State.openTest_inv (s : State) (e u d : Nat) (h : State.Inv s) : State.Inv (State.openTest s e u d) := by
  unfold State.openTest
  simp (maxDischargeDepth := 60) +contextual [*]

@[simp ↓] theorem State.anaEntry_inv (s : State) (e raw cal slice : Nat) (temp : Int) (h : State.Inv s) :
    State.Inv (State.anaEntry s e raw cal slice temp) := by
  unfold State.anaEntry
  try dsimp only
  repeat' (first
    | (with_reducible assumption)
    | (with_reducible refine foldl_inv _ _ ?_ ?_)
    | (simp (maxDischargeDepth := 60) +contextual [*]; done)
    | (with_reducible apply State.takeUp_inv)
    | (with_reducible apply State.tokFrame_inv)
    | (with_reducible apply State.csp_inv)
    | (with_reducible apply State.updCmd_inv)
    | (with_reducible apply inv_next)
    | split
    | (dsimp only; split)
    | intro)

@[simp ↓] theorem State.sliceFails_inv (s : State) (k : Nat) (h : State.Inv s) : State.Inv (State.sliceFails s k) := by
  unfold State.sliceFails
  simp (maxDischargeDepth := 60) +contextual [*]

@[simp ↓] theorem State.writeAnaSeq_inv (s : State) (e v : Nat) (h : State.Inv s) : State.Inv (State.writeAnaSeq s e v) := by
  unfold State.writeAnaSeq
  simp (maxDischargeDepth := 60) +contextual [*]

@[simp ↓] theorem outState_inv (o : Out) (s : State) (ho : Out.Inv o) (h : State.Inv s) : State.Inv (outState o s) := by
  cases o <;> assumption

@[simp ↓] theorem State.writeDevCtl_inv (s : State) (v : Nat) (h : State.Inv s) : State.Inv (State.writeDevCtl s v) := by
  unfold State.writeDevCtl
  simp (maxDischargeDepth := 60) +contextual [*]

@[simp ↓] theorem State.writePwr_inv (s : State) (o v : Nat) (h : State.Inv s) : State.Inv (State.writePwr s o v) := by
  unfold State.writePwr
  simp (maxDischargeDepth := 60) +contextual [*]

@[simp ↓] theorem State.writeClk_inv (s : State) (o v : Nat) (h : State.Inv s) : State.Inv (State.writeClk s o v) := by
  unfold State.writeClk
  simp (maxDischargeDepth := 60) +contextual [*]

@[simp ↓] theorem State.writeAna_inv (s : State) (o v : Nat) (h : State.Inv s) : State.Inv (State.writeAna s o v) := by
  unfold State.writeAna
  simp (maxDischargeDepth := 60) +contextual [*]

@[simp ↓] theorem State.writeThy_inv (s : State) (o v : Nat) (h : State.Inv s) : State.Inv (State.writeThy s o v) := by
  unfold State.writeThy
  simp (maxDischargeDepth := 60) +contextual [*]

@[simp ↓] theorem State.writeUpd_inv (s : State) (o v : Nat) (h : State.Inv s) : State.Inv (State.writeUpd s o v) := by
  unfold State.writeUpd
  simp (maxDischargeDepth := 60) +contextual [*]

@[simp ↓] theorem State.writeCfg_inv (s : State) (o v : Nat) (h : State.Inv s) : State.Inv (State.writeCfg s o v) := by
  unfold State.writeCfg
  simp (maxDischargeDepth := 60) +contextual [*]

@[simp ↓] theorem State.writeSageCmd_inv (s : State) (test arg : Nat) (h : State.Inv s) :
    State.Inv (State.writeSageCmd s test arg) := by
  unfold State.writeSageCmd
  simp (maxDischargeDepth := 60) +contextual [*]

@[simp ↓] theorem State.writeSage_inv (s : State) (o v : Nat) (h : State.Inv s) : State.Inv (State.writeSage s o v) := by
  unfold State.writeSage
  simp (maxDischargeDepth := 60) +contextual [*]

@[simp ↓] theorem State.writeErr_inv (s : State) (o v : Nat) (h : State.Inv s) : State.Inv (State.writeErr s o v) := by
  unfold State.writeErr
  try dsimp only
  repeat' (first
    | (with_reducible assumption)
    | (with_reducible refine foldl_inv _ _ ?_ ?_)
    | (simp (maxDischargeDepth := 60) +contextual [*]; done)
    | (with_reducible apply State.takeUp_inv)
    | (with_reducible apply State.tokFrame_inv)
    | (with_reducible apply State.csp_inv)
    | (with_reducible apply State.updCmd_inv)
    | (with_reducible apply inv_next)
    | split
    | (dsimp only; split)
    | intro)

@[simp ↓] theorem State.writeSch_inv (s : State) (o v : Nat) (h : State.Inv s) : State.Inv (State.writeSch s o v) := by
  unfold State.writeSch
  simp (maxDischargeDepth := 60) +contextual [*]

@[simp ↓] theorem State.writeSeqReg_inv (s : State) (by' q x v : Nat) (span : SpanAns) (h : State.Inv s) :
    State.Inv (State.writeSeqReg s by' q x v span) := by
  unfold State.writeSeqReg
  simp (maxDischargeDepth := 60) +contextual [*]

@[simp ↓] theorem State.writeAcqReg_inv (s : State) (by' c x v : Nat) (h : State.Inv s) :
    State.Inv (State.writeAcqReg s by' c x v) := by
  unfold State.writeAcqReg
  simp (maxDischargeDepth := 60) +contextual [*]

@[simp ↓] theorem State.writeTrg_inv (s : State) (by' o v : Nat) (span : SpanAns) (h : State.Inv s) :
    State.Inv (State.writeTrg s by' o v span) := by
  unfold State.writeTrg
  simp (maxDischargeDepth := 60) +contextual [*]

@[simp ↓] theorem State.writeSinkReg_inv (s : State) (k x v : Nat) (h : State.Inv s) :
    State.Inv (State.writeSinkReg s k x v) := by
  unfold State.writeSinkReg
  simp (maxDischargeDepth := 60) +contextual [*]

@[simp ↓] theorem State.writeChv_inv (s : State) (o v : Nat) (h : State.Inv s) : State.Inv (State.writeChv s o v) := by
  unfold State.writeChv
  simp (maxDischargeDepth := 60) +contextual [*]

@[simp ↓] theorem State.writeLnkCtl_inv (s : State) (l : LinkId) (v : Nat) (h : State.Inv s) :
    State.Inv (State.writeLnkCtl s l v) := by
  unfold State.writeLnkCtl
  simp (maxDischargeDepth := 60) +contextual [*]

@[simp ↓] theorem State.writeLnk_inv (s : State) (o v : Nat) (h : State.Inv s) : State.Inv (State.writeLnk s o v) := by
  unfold State.writeLnk
  try dsimp only
  repeat' (first
    | (with_reducible assumption)
    | (with_reducible refine foldl_inv _ _ ?_ ?_)
    | (simp (maxDischargeDepth := 60) +contextual [*]; done)
    | (with_reducible apply State.takeUp_inv)
    | (with_reducible apply State.tokFrame_inv)
    | (with_reducible apply State.csp_inv)
    | (with_reducible apply State.updCmd_inv)
    | (with_reducible apply inv_next)
    | split
    | (dsimp only; split)
    | intro)

@[simp ↓] theorem State.writeBankReg_inv (s : State) (g x v : Nat) (h : State.Inv s) :
    State.Inv (State.writeBankReg s g x v) := by
  unfold State.writeBankReg
  simp (maxDischargeDepth := 60) +contextual [*]

@[simp ↓] theorem State.writeEdg_inv (s : State) (o v : Nat) (h : State.Inv s) : State.Inv (State.writeEdg s o v) := by
  unfold State.writeEdg
  simp (maxDischargeDepth := 60) +contextual [*]

@[simp ↓] theorem State.clearUe_inv (s : State) (n : Nat) (h : State.Inv s) :
    State.Inv (State.clearUe s n) := by
  unfold State.clearUe
  try dsimp only
  repeat' (first
    | (with_reducible assumption)
    | (with_reducible refine foldl_inv _ _ ?_ ?_)
    | (simp (maxDischargeDepth := 60) +contextual [*]; done)
    | (with_reducible apply inv_next)
    | split
    | (dsimp only; split)
    | intro)

@[simp ↓] theorem State.writeTil_inv (s : State) (n x v : Nat) (h : State.Inv s) : State.Inv (State.writeTil s n x v) := by
  unfold State.writeTil
  try dsimp only
  repeat' (first
    | (with_reducible assumption)
    | (with_reducible refine foldl_inv _ _ ?_ ?_)
    | (simp (maxDischargeDepth := 60) +contextual [*]; done)
    | (with_reducible apply State.takeUp_inv)
    | (with_reducible apply State.tokFrame_inv)
    | (with_reducible apply State.csp_inv)
    | (with_reducible apply State.updCmd_inv)
    | (with_reducible apply inv_next)
    | split
    | (dsimp only; split)
    | intro)

@[simp ↓] theorem State.putReg_inv (s : State) (by' off v : Nat) (span : SpanAns) (h : State.Inv s) :
    State.Inv (State.putReg s by' off v span) := by
  unfold State.putReg
  simp (maxDischargeDepth := 60) +contextual [*]

@[simp ↓] theorem State.writeReg_inv (s : State) (by' off v be : Nat) (span : SpanAns) (h : State.Inv s) :
    State.Inv (State.writeReg s by' off v be span) := by
  unfold State.writeReg
  try dsimp only
  repeat' (first
    | (with_reducible assumption)
    | (with_reducible refine foldl_inv _ _ ?_ ?_)
    | (simp (maxDischargeDepth := 60) +contextual [*]; done)
    | (with_reducible apply State.takeUp_inv)
    | (with_reducible apply State.tokFrame_inv)
    | (with_reducible apply State.csp_inv)
    | (with_reducible apply State.updCmd_inv)
    | (with_reducible apply inv_next)
    | split
    | (dsimp only; split)
    | intro)

@[simp ↓] theorem State.writeMsix_inv (s : State) (t x v : Nat) (h : State.Inv s) : State.Inv (State.writeMsix s t x v) := by
  unfold State.writeMsix
  simp (maxDischargeDepth := 60) +contextual [*]

@[simp ↓] theorem State.putPage_inv (s : State) (t : TenId) (x v : Nat) (n : State) (h : State.Inv s) (hn : s.putPage t x v = some n) : State.Inv n := by
  unfold State.putPage at hn
  dsimp only at hn
  repeat' split at hn
  all_goals first
    | (cases hn; done)
    | (injection hn with hn; subst hn; simp (maxDischargeDepth := 60) [*]; done)

@[simp ↓] theorem State.writeWindow_inv (s : State) (t x v be : Nat) (span : SpanAns) (h : State.Inv s) :
    State.Inv (State.writeWindow s t x v be span) := by
  unfold State.writeWindow
  try dsimp only
  repeat' (first
    | (with_reducible assumption)
    | (with_reducible refine foldl_inv _ _ ?_ ?_)
    | (simp (maxDischargeDepth := 60) +contextual [*]; done)
    | (with_reducible apply State.takeUp_inv)
    | (with_reducible apply State.tokFrame_inv)
    | (with_reducible apply State.csp_inv)
    | (with_reducible apply State.updCmd_inv)
    | (with_reducible apply inv_next)
    | split
    | (dsimp only; split)
    | intro)

@[simp ↓] theorem State.writePage_inv (s : State) (t : TenId) (x v be : Nat) (span : SpanAns) (h : State.Inv s) :
    State.Inv (State.writePage s t x v be span) := by
  unfold State.writePage
  refine inv_ite _ _ _ h (inv_ite _ _ _ (State.writeWindow_inv _ _ _ _ _ _ h) (inv_ite _ _ _ ?_ (inv_ite _ _ _ (State.accPartial_inv _ _ h) h)))
  cases e : s.putPage t x v with
  | none => exact h
  | some n => exact State.putPage_inv _ _ _ _ _ h e

@[simp ↓] theorem State.writeWord_inv (s : State) (page : Option TenId) (off v be : Nat) (span : SpanAns) (h : State.Inv s) :
    State.Inv (State.writeWord s page off v be span) := by
  unfold State.writeWord
  try dsimp only
  repeat' (first
    | (with_reducible assumption)
    | (with_reducible refine foldl_inv _ _ ?_ ?_)
    | (simp (maxDischargeDepth := 60) +contextual [*]; done)
    | (with_reducible apply State.takeUp_inv)
    | (with_reducible apply State.tokFrame_inv)
    | (with_reducible apply State.csp_inv)
    | (with_reducible apply State.updCmd_inv)
    | (with_reducible apply inv_next)
    | split
    | (dsimp only; split)
    | intro)

@[simp ↓] theorem State.barWrite_inv (s : State) (page : Option TenId) (off data be : Nat) (span : SpanAns) (h : State.Inv s) :
    State.Inv (State.barWrite s page off data be span) := by
  unfold State.barWrite
  try dsimp only
  repeat' (first
    | (with_reducible assumption)
    | (with_reducible refine foldl_inv _ _ ?_ ?_)
    | (simp (maxDischargeDepth := 60) +contextual [*]; done)
    | (with_reducible apply State.takeUp_inv)
    | (with_reducible apply State.tokFrame_inv)
    | (with_reducible apply State.csp_inv)
    | (with_reducible apply State.updCmd_inv)
    | (with_reducible apply inv_next)
    | split
    | (dsimp only; split)
    | intro)

@[simp ↓] theorem State.setLatch_inv (s : State) (off v : Nat) (h : State.Inv s) : State.Inv (State.setLatch s off v) := by
  unfold State.setLatch
  simp (maxDischargeDepth := 60) +contextual [*]

@[simp ↓] theorem State.latchHigh_inv (s : State) (off v : Nat) (h : State.Inv s) : State.Inv (State.latchHigh s off v) := by
  unfold State.latchHigh
  simp (maxDischargeDepth := 60) +contextual [*]

@[simp ↓] theorem State.readEffect_inv (s : State) (off : Nat) (h : State.Inv s) : State.Inv (State.readEffect s off) := by
  unfold State.readEffect
  simp (maxDischargeDepth := 60) +contextual [*]

@[simp ↓] theorem State.readWord_inv (s : State) (page : Option TenId) (off be : Nat) (h : State.Inv s) :
    State.Inv (State.readWord s page off be).2 := by
  unfold State.readWord
  try dsimp only
  repeat' (first
    | (with_reducible assumption)
    | (with_reducible refine foldl_inv _ _ ?_ ?_)
    | (simp (maxDischargeDepth := 60) +contextual [*]; done)
    | (with_reducible apply State.takeUp_inv)
    | (with_reducible apply State.tokFrame_inv)
    | (with_reducible apply State.csp_inv)
    | (with_reducible apply State.updCmd_inv)
    | (with_reducible apply inv_next)
    | split
    | (dsimp only; split)
    | intro)

@[simp ↓] theorem State.setBarOut_inv (s : State) (b : BarOut) (h : State.Inv s) : State.Inv (State.setBarOut s b) := by
  unfold State.setBarOut
  simp (maxDischargeDepth := 60) +contextual [*]

@[simp ↓] theorem State.barRead_inv (s : State) (page : Option TenId) (off be : Nat) (h : State.Inv s) :
    State.Inv (State.barRead s page off be) := by
  unfold State.barRead
  simp (maxDischargeDepth := 60) +contextual [*]

@[simp ↓] theorem State.smb_inv (s : State) (pec : Bool) (act : State → State) (hact : ∀ s : State, State.Inv s → State.Inv (act s)) (h : State.Inv s) :
    Out.Inv (State.smb s pec act) := by
  unfold State.smb
  simp (maxDischargeDepth := 60) +contextual [*]

@[simp ↓] theorem State.smbDenied_inv (s : State) (off : Nat) (h : State.Inv s) : State.Inv (State.smbDenied s off) := by
  unfold State.smbDenied
  simp (maxDischargeDepth := 60) +contextual [*]

@[simp ↓] theorem State.smbNext_inv (s : State) (h : State.Inv s) : State.Inv (State.smbNext s) := by
  unfold State.smbNext
  simp (maxDischargeDepth := 60) +contextual [*]

@[simp ↓] theorem State.answer_inv (s : State) (p : Pkt) (op : Nat) (poison : Bool) (body : List Byte) (h : State.Inv s) :
    State.Inv (State.answer s p op poison body) := by
  unfold State.answer
  simp (maxDischargeDepth := 60) +contextual [*]

@[simp ↓] theorem State.answerError_inv (s : State) (p : Pkt) (h : State.Inv s) : State.Inv (State.answerError s p) := by
  unfold State.answerError
  simp (maxDischargeDepth := 60) +contextual [*]

@[simp ↓] theorem State.answerData_inv (s : State) (p : Pkt) (poison : Bool) (bs : List Byte) (h : State.Inv s) :
    State.Inv (State.answerData s p poison bs) := by
  unfold State.answerData
  simp (maxDischargeDepth := 60) +contextual [*]

@[simp ↓] theorem State.gets_inv (s : State) (node tag status : Nat) (bs : List Byte) (h : State.Inv s) :
    State.Inv (State.gets s node tag status bs) := by
  unfold State.gets
  simp (maxDischargeDepth := 60) +contextual [*]

@[simp ↓] theorem State.damagedPkt_inv (s : State) (p : Pkt) (h : State.Inv s) : State.Inv (State.damagedPkt s p) := by
  unfold State.damagedPkt
  try dsimp only
  repeat' (first
    | (with_reducible assumption)
    | (with_reducible refine foldl_inv _ _ ?_ ?_)
    | (simp (maxDischargeDepth := 60) +contextual [*]; done)
    | (with_reducible apply State.takeUp_inv)
    | (with_reducible apply State.tokFrame_inv)
    | (with_reducible apply State.csp_inv)
    | (with_reducible apply State.updCmd_inv)
    | (with_reducible apply State.smb_inv)
    | (with_reducible apply inv_next)
    | split
    | (dsimp only; split)
    | intro)

@[simp ↓] theorem State.passed_inv (s : State) (p : Pkt) (ce : Option (BitVec 12)) (h : State.Inv s) :
    State.Inv (State.passed s p ce) := by
  unfold State.passed
  try dsimp only
  repeat' (first
    | (with_reducible assumption)
    | (with_reducible refine foldl_inv _ _ ?_ ?_)
    | (simp (maxDischargeDepth := 60) +contextual [*]; done)
    | (with_reducible apply State.takeUp_inv)
    | (with_reducible apply State.tokFrame_inv)
    | (with_reducible apply State.csp_inv)
    | (with_reducible apply State.updCmd_inv)
    | (with_reducible apply State.smb_inv)
    | (with_reducible apply inv_next)
    | split
    | (dsimp only; split)
    | intro)

@[simp ↓] theorem State.leaveBySide_inv (s : State) (p : Pkt) (h : State.Inv s) : State.Inv (State.leaveBySide s p) := by
  unfold State.leaveBySide
  try dsimp only
  repeat' (first
    | (with_reducible assumption)
    | (with_reducible refine foldl_inv _ _ ?_ ?_)
    | (simp (maxDischargeDepth := 60) +contextual [*]; done)
    | (with_reducible apply State.takeUp_inv)
    | (with_reducible apply State.tokFrame_inv)
    | (with_reducible apply State.csp_inv)
    | (with_reducible apply State.updCmd_inv)
    | (with_reducible apply State.smb_inv)
    | (with_reducible apply inv_next)
    | split
    | (dsimp only; split)
    | intro)

@[simp ↓] theorem State.carry_inv (s : State) (p : Pkt) (vc op : Nat) (ce : Option (BitVec 12)) (f : State → Option Nat → State) (hf : ∀ (s : State) o, State.Inv s → State.Inv (f s o)) (h : State.Inv s) :
    State.Inv (State.carry s p vc op ce f) := by
  unfold State.carry
  try dsimp only
  repeat' (first
    | (with_reducible assumption)
    | (with_reducible refine foldl_inv _ _ ?_ ?_)
    | (simp (maxDischargeDepth := 60) +contextual [*]; done)
    | (with_reducible apply State.takeUp_inv)
    | (with_reducible apply State.tokFrame_inv)
    | (with_reducible apply State.csp_inv)
    | (with_reducible apply State.updCmd_inv)
    | (with_reducible apply State.smb_inv)
    | (with_reducible apply inv_next)
    | split
    | (dsimp only; split)
    | intro)

@[simp ↓] theorem State.poisonedLoad_inv (s : State) (t : Nat) (h : State.Inv s) : State.Inv (State.poisonedLoad s t) := by
  unfold State.poisonedLoad
  try dsimp only
  repeat' (first
    | (with_reducible assumption)
    | (with_reducible refine foldl_inv _ _ ?_ ?_)
    | (simp (maxDischargeDepth := 60) +contextual [*]; done)
    | (with_reducible apply State.takeUp_inv)
    | (with_reducible apply State.tokFrame_inv)
    | (with_reducible apply State.csp_inv)
    | (with_reducible apply State.updCmd_inv)
    | (with_reducible apply State.smb_inv)
    | (with_reducible apply State.carry_inv)
    | (with_reducible apply inv_next)
    | split
    | (dsimp only; split)
    | intro)

@[simp ↓] theorem State.hubWrite_inv (s : State) (p : Pkt) (h : State.Inv s) : State.Inv (State.hubWrite s p) := by
  unfold State.hubWrite
  simp (maxDischargeDepth := 60) +contextual [*]

@[simp ↓] theorem State.hubCeAt_inv (s : State) (p : Pkt) (h : State.Inv s) :
    State.Inv (State.hubCeAt s p) := by
  unfold State.hubCeAt
  simp (maxDischargeDepth := 60) +contextual [*]

@[simp ↓] theorem State.hubUeAt_inv (s : State) (p : Pkt) (h : State.Inv s) :
    State.Inv (State.hubUeAt s p) := by
  unfold State.hubUeAt
  simp (maxDischargeDepth := 60) +contextual [*]

@[simp ↓] theorem State.hubRead_inv (s : State) (p : Pkt) (err : ErrFound) (h : State.Inv s) :
    State.Inv (State.hubRead s p err) := by
  unfold State.hubRead
  try dsimp only
  repeat' (first
    | (with_reducible assumption)
    | (with_reducible refine foldl_inv _ _ ?_ ?_)
    | (simp (maxDischargeDepth := 60) +contextual [*]; done)
    | (with_reducible apply State.takeUp_inv)
    | (with_reducible apply State.tokFrame_inv)
    | (with_reducible apply State.csp_inv)
    | (with_reducible apply State.updCmd_inv)
    | (with_reducible apply State.smb_inv)
    | (with_reducible apply State.carry_inv)
    | (with_reducible apply inv_next)
    | split
    | (dsimp only; split)
    | intro)

@[simp ↓] theorem State.bankUe_inv (s : State) (l j : Nat) (h : State.Inv s) :
    State.Inv (State.bankUe s l j) := by
  unfold State.bankUe
  simp (maxDischargeDepth := 60) +contextual [*]

@[simp ↓] theorem State.bankRead_inv (s : State) (l j : Nat) (err : ErrFound) (h : State.Inv s) :
    State.Inv (State.bankRead s l j err).2 := by
  unfold State.bankRead
  try dsimp only
  repeat' (first
    | (with_reducible assumption)
    | (with_reducible refine foldl_inv _ _ ?_ ?_)
    | (simp (maxDischargeDepth := 60) +contextual [*]; done)
    | (with_reducible apply inv_next)
    | split
    | (dsimp only; split)
    | intro)

@[simp ↓] theorem State.slotLost_inv (s : State) (t : Nat) (h : State.Inv s) :
    State.Inv (State.slotLost s t) := by
  unfold State.slotLost
  try dsimp only
  repeat' (first
    | (with_reducible assumption)
    | (with_reducible refine foldl_inv _ _ ?_ ?_)
    | (simp (maxDischargeDepth := 60) +contextual [*]; done)
    | (with_reducible apply inv_next)
    | split
    | (dsimp only; split)
    | intro)

@[simp ↓] theorem State.detection_inv (s : State) (code t l : Nat) (h : State.Inv s) :
    State.Inv (State.detection s code t l) := by
  unfold State.detection
  simp (maxDischargeDepth := 60) +contextual [*]

@[simp ↓] theorem State.withFetchWord_inv (s : State) (x1 x2 : Nat) (h : State.Inv s) :
    State.Inv (State.withFetchWord s x1 x2) := by
  unfold State.withFetchWord
  simp (maxDischargeDepth := 60) +contextual [*]

end Sys2Proof.Machine
end

