-- ==== Sys2Proof/Laws/InvExec.lean ====
section
/-!
SUPPORT. The meaning of every command keeps the invariant of the machine: one lemma per meaning.
-/
namespace Sys2Proof.Machine

theorem execStepFetch_inv (l : TileId) (delayed : Bool) (s : State) (h : State.Inv s) :
    Out.Inv (execStepFetch l delayed s) := by
  unfold execStepFetch
  simp (maxDischargeDepth := 60) +contextual [*]

theorem execStepGate_inv (l : TileId) (s : State) (h : State.Inv s) : Out.Inv (execStepGate l s) := by
  unfold execStepGate
  try dsimp only
  repeat' (first
    | (with_reducible assumption)
    | (with_reducible refine foldl_inv _ _ ?_ ?_)
    | (simp (maxDischargeDepth := 60) +contextual [*]; done)
    | (with_reducible apply inv_next)
    | split
    | (dsimp only; split)
    | intro)

theorem execStepEvaluate_inv (l : TileId) (held : BitVec 16) (s : State) (h : State.Inv s) :
    Out.Inv (execStepEvaluate l held s) := by
  unfold execStepEvaluate
  simp (maxDischargeDepth := 60) +contextual [*]

theorem execStepWrite_inv (l : TileId) (s : State) (h : State.Inv s) : Out.Inv (execStepWrite l s) := by
  unfold execStepWrite
  simp (maxDischargeDepth := 60) +contextual [*]

theorem execSeqNext_inv (l : TileId) (e : SeqFind) (s : State) (h : State.Inv s) : Out.Inv (execSeqNext l e s) := by
  unfold execSeqNext
  simp (maxDischargeDepth := 60) +contextual [*]

theorem execSeqEnd_inv (l : TileId) (e : SeqFind) (s : State) (h : State.Inv s) : Out.Inv (execSeqEnd l e s) := by
  unfold execSeqEnd
  simp (maxDischargeDepth := 60) +contextual [*]

theorem execSeqJump_inv (l : TileId) (s : State) (h : State.Inv s) : Out.Inv (execSeqJump l s) := by
  unfold execSeqJump
  simp (maxDischargeDepth := 60) +contextual [*]

theorem execSeqLoop_inv (l : TileId) (e : SeqFind) (s : State) (h : State.Inv s) : Out.Inv (execSeqLoop l e s) := by
  unfold execSeqLoop
  simp (maxDischargeDepth := 60) +contextual [*]

theorem execSeqCall_inv (l : TileId) (e : SeqFind) (s : State) (h : State.Inv s) : Out.Inv (execSeqCall l e s) := by
  unfold execSeqCall
  simp (maxDischargeDepth := 60) +contextual [*]

theorem execSeqRet_inv (l : TileId) (e : SeqFind) (s : State) (h : State.Inv s) : Out.Inv (execSeqRet l e s) := by
  unfold execSeqRet
  simp (maxDischargeDepth := 60) +contextual [*]

theorem execSeqTrap_inv (l : TileId) (e : SeqFind) (s : State) (h : State.Inv s) : Out.Inv (execSeqTrap l e s) := by
  unfold execSeqTrap
  simp (maxDischargeDepth := 60) +contextual [*]

theorem execSeqRetx_inv (l : TileId) (e : SeqFind) (s : State) (h : State.Inv s) : Out.Inv (execSeqRetx l e s) := by
  unfold execSeqRetx
  simp (maxDischargeDepth := 60) +contextual [*]

theorem execStackSpillAccess_inv (l : TileId) (err : ErrFound) (parFails spBad : Bool) (s : State) (h : State.Inv s) :
    Out.Inv (execStackSpillAccess l err parFails spBad s) := by
  unfold execStackSpillAccess
  try dsimp only
  repeat' (first
    | (with_reducible assumption)
    | (with_reducible refine foldl_inv _ _ ?_ ?_)
    | (simp (maxDischargeDepth := 60) +contextual [*]; done)
    | (with_reducible apply State.takeUp_inv)
    | (with_reducible apply State.tokFrame_inv)
    | (with_reducible apply State.csp_inv)
    | (with_reducible apply State.updCmd_inv)
    | (with_reducible apply State.smb_inv)
    | (with_reducible apply inv_next)
    | split
    | (dsimp only; split)
    | intro)

theorem execMacMul_inv (l : TileId) (p : Lane16) (s : State) (h : State.Inv s) : Out.Inv (execMacMul l p s) := by
  unfold execMacMul
  simp (maxDischargeDepth := 60) +contextual [*]

theorem execMacMac_inv (l : TileId) (p : Lane16) (s : State) (h : State.Inv s) : Out.Inv (execMacMac l p s) := by
  unfold execMacMac
  simp (maxDischargeDepth := 60) +contextual [*]

theorem execMacMsub_inv (l : TileId) (p : Lane16) (s : State) (h : State.Inv s) : Out.Inv (execMacMsub l p s) := by
  unfold execMacMsub
  simp (maxDischargeDepth := 60) +contextual [*]

theorem execMacCas_inv (l : TileId) (p : Lane16) (s : State) (h : State.Inv s) : Out.Inv (execMacCas l p s) := by
  unfold execMacCas
  simp (maxDischargeDepth := 60) +contextual [*]

theorem execMacRead_inv (l : TileId) (p : Lane16) (s : State) (h : State.Inv s) : Out.Inv (execMacRead l p s) := by
  unfold execMacRead
  simp (maxDischargeDepth := 60) +contextual [*]

theorem execArrayRead_inv (l : TileId) (p : Lane16) (err : ErrFound) (s : State) (h : State.Inv s) :
    Out.Inv (execArrayRead l p err s) := by
  unfold execArrayRead
  simp (maxDischargeDepth := 60) +contextual [*]

theorem execArrayWrite_inv (l : TileId) (p : Lane16) (err : ErrFound) (s : State) (h : State.Inv s) :
    Out.Inv (execArrayWrite l p err s) := by
  unfold execArrayWrite
  simp (maxDischargeDepth := 60) +contextual [*]

theorem execArraySet_inv (l : TileId) (p : Lane16) (err : ErrFound) (s : State) (h : State.Inv s) :
    Out.Inv (execArraySet l p err s) := by
  unfold execArraySet
  simp (maxDischargeDepth := 60) +contextual [*]

theorem execArrayClear_inv (l : TileId) (p : Lane16) (err : ErrFound) (s : State) (h : State.Inv s) :
    Out.Inv (execArrayClear l p err s) := by
  unfold execArrayClear
  simp (maxDischargeDepth := 60) +contextual [*]

theorem execArrayScrub_inv (l : TileId) (p : Lane16) (err : ErrFound) (s : State) (h : State.Inv s) :
    Out.Inv (execArrayScrub l p err s) := by
  unfold execArrayScrub
  try dsimp only
  repeat' (first
    | (with_reducible assumption)
    | (with_reducible refine foldl_inv _ _ ?_ ?_)
    | (simp (maxDischargeDepth := 60) +contextual [*]; done)
    | (with_reducible apply inv_next)
    | split
    | (dsimp only; split)
    | intro)

theorem execSendSlotDepart_inv (l : TileId) (i : Nat) (s : State) (h : State.Inv s) :
    Out.Inv (execSendSlotDepart l i s) := by
  unfold execSendSlotDepart
  try dsimp only
  repeat' (first
    | (with_reducible assumption)
    | (with_reducible refine foldl_inv _ _ ?_ ?_)
    | (simp (maxDischargeDepth := 60) +contextual [*]; done)
    | (with_reducible apply inv_next)
    | split
    | (dsimp only; split)
    | intro)

theorem execSlotArrive_inv (p : Slot) (damaged : Bool) (s : State) (h : State.Inv s) :
    Out.Inv (execSlotArrive p damaged s) := by
  unfold execSlotArrive
  try dsimp only
  repeat' (first
    | (with_reducible assumption)
    | (with_reducible refine foldl_inv _ _ ?_ ?_)
    | (simp (maxDischargeDepth := 60) +contextual [*]; done)
    | (with_reducible apply inv_next)
    | split
    | (dsimp only; split)
    | intro)

theorem execCreditArrive_inv (ten : TenId) (src dst : TileId) (word : Lane16) (occ : Nat) (ecyc : Nat) (s : State) (h : State.Inv s) :
    Out.Inv (execCreditArrive ten src dst word occ ecyc s) := by
  unfold execCreditArrive
  try dsimp only
  repeat' (first
    | (with_reducible assumption)
    | (with_reducible refine foldl_inv _ _ ?_ ?_)
    | (simp (maxDischargeDepth := 60) +contextual [*]; done)
    | (with_reducible apply State.takeUp_inv)
    | (with_reducible apply State.tokFrame_inv)
    | (with_reducible apply State.csp_inv)
    | (with_reducible apply State.updCmd_inv)
    | (with_reducible apply State.smb_inv)
    | (with_reducible apply inv_next)
    | split
    | (dsimp only; split)
    | intro)

theorem execTapsPacket_inv (l : TileId) (s : State) (h : State.Inv s) : Out.Inv (execTapsPacket l s) := by
  unfold execTapsPacket
  simp (maxDischargeDepth := 60) +contextual [*]

theorem execTrapEvt_inv (l : TileId) (s : State) (h : State.Inv s) : Out.Inv (execTrapEvt l s) := by
  unfold execTrapEvt
  simp (maxDischargeDepth := 60) +contextual [*]

theorem execSqEnable_inv (fn : TenId) (r : Ring8) (log2 : BitVec 5) (cq : Ring8) (s : State) (h : State.Inv s) :
    Out.Inv (execSqEnable fn r log2 cq s) := by
  unfold execSqEnable
  simp (maxDischargeDepth := 60) +contextual [*]

theorem execSqDisable_inv (fn : TenId) (r : Ring8) (s : State) (h : State.Inv s) : Out.Inv (execSqDisable fn r s) := by
  unfold execSqDisable
  simp (maxDischargeDepth := 60) +contextual [*]

theorem execCqEnable_inv (fn : TenId) (r : Ring8) (log2 : BitVec 5) (ien : Bool) (vector : Ring8) (coalCnt coalUs : Byte) (s : State) (h : State.Inv s) :
    Out.Inv (execCqEnable fn r log2 ien vector coalCnt coalUs s) := by
  unfold execCqEnable
  simp (maxDischargeDepth := 60) +contextual [*]

theorem execCqDisable_inv (fn : TenId) (r : Ring8) (s : State) (h : State.Inv s) : Out.Inv (execCqDisable fn r s) := by
  unfold execCqDisable
  simp (maxDischargeDepth := 60) +contextual [*]

theorem execDescriptorFetch_inv (fn : TenId) (r : Ring8) (bytes : List Byte) (s : State) (h : State.Inv s) :
    Out.Inv (execDescriptorFetch fn r bytes s) := by
  unfold execDescriptorFetch
  simp (maxDischargeDepth := 60) +contextual [*]

theorem execDescriptorStart_inv (fn : TenId) (r : Ring8) (s : State) (h : State.Inv s) :
    Out.Inv (execDescriptorStart fn r s) := by
  unfold execDescriptorStart
  dsimp only
  split
  · simp [*]
  · repeat' (first
      | (with_reducible assumption)
      | (with_reducible apply State.takeUp_inv)
      | (with_reducible apply inv_next)
      | (split <;> try dsimp only)
      | intro)
    all_goals (simp (maxDischargeDepth := 60) +contextual [*]; done)

theorem execDescNop_inv (d : DRef) (s : State) (h : State.Inv s) : Out.Inv (execDescNop d s) := by
  unfold execDescNop
  simp (maxDischargeDepth := 60) +contextual [*]

theorem execDescWriteDeep_inv (d : DRef) (ten : TenId) (hostAddr : DWord) (deepOff : DWord) (len : Word) (s : State) (h : State.Inv s) :
    Out.Inv (execDescWriteDeep d ten hostAddr deepOff len s) := by
  unfold execDescWriteDeep
  simp (maxDischargeDepth := 60) +contextual [*]

theorem execDescReadDeep_inv (d : DRef) (ten : TenId) (hostAddr : DWord) (deepOff : DWord) (len : Word) (s : State) (h : State.Inv s) :
    Out.Inv (execDescReadDeep d ten hostAddr deepOff len s) := by
  unfold execDescReadDeep
  simp (maxDischargeDepth := 60) +contextual [*]

theorem execDmaTransferDone_inv (d : DRef) (bytes : List Byte) (res : XferEnd) (s : State) (h : State.Inv s) :
    Out.Inv (execDmaTransferDone d bytes res s) := by
  unfold execDmaTransferDone
  try dsimp only
  repeat' (first
    | (with_reducible assumption)
    | (with_reducible refine foldl_inv _ _ ?_ ?_)
    | (simp (maxDischargeDepth := 60) +contextual [*]; done)
    | (with_reducible apply State.takeUp_inv)
    | (with_reducible apply inv_next)
    | split
    | (dsimp only; split)
    | intro)

theorem execMsgBind_inv (d : DRef) (port : Byte) (dir : Byte) (memid : Byte) (cq : Byte) (s : State) (h : State.Inv s) :
    Out.Inv (execMsgBind d port dir memid cq s) := by
  unfold execMsgBind
  simp (maxDischargeDepth := 60) +contextual [*]

theorem execMsgIn_inv (d : DRef) (port : Byte) (len : BitVec 16) (hostAddr : DWord) (s : State) (h : State.Inv s) :
    Out.Inv (execMsgIn d port len hostAddr s) := by
  unfold execMsgIn
  try dsimp only
  repeat' (first
    | (with_reducible assumption)
    | (with_reducible refine foldl_inv _ _ ?_ ?_)
    | (simp (maxDischargeDepth := 60) +contextual [*]; done)
    | (with_reducible apply State.takeUp_inv)
    | (with_reducible apply inv_next)
    | split
    | (dsimp only; split)
    | intro)

theorem execMsgOut_inv (d : DRef) (port : Byte) (cap : Word) (hostAddr : DWord) (s : State) (h : State.Inv s) :
    Out.Inv (execMsgOut d port cap hostAddr s) := by
  unfold execMsgOut
  try dsimp only
  repeat' (first
    | (with_reducible assumption)
    | (with_reducible refine foldl_inv _ _ ?_ ?_)
    | (simp (maxDischargeDepth := 60) +contextual [*]; done)
    | (with_reducible apply State.takeUp_inv)
    | (with_reducible apply inv_next)
    | split
    | (dsimp only; split)
    | intro)

theorem execMsgOutProcess_inv (ten : TenId) (port : Ring8) (res : XferEnd) (s : State) (h : State.Inv s) :
    Out.Inv (execMsgOutProcess ten port res s) := by
  unfold execMsgOutProcess
  try dsimp only
  repeat' (first
    | (with_reducible assumption)
    | (with_reducible refine foldl_inv _ _ ?_ ?_)
    | (simp (maxDischargeDepth := 60) +contextual [*]; done)
    | (with_reducible apply State.takeUp_inv)
    | (with_reducible apply inv_next)
    | split
    | (dsimp only; split)
    | intro)

theorem execMsgOutRelease_inv (ten : TenId) (cq : Ring8) (s : State) (h : State.Inv s) :
    Out.Inv (execMsgOutRelease ten cq s) := by
  unfold execMsgOutRelease
  try dsimp only
  repeat' (first
    | (with_reducible assumption)
    | (with_reducible refine foldl_inv _ _ ?_ ?_)
    | (simp (maxDischargeDepth := 60) +contextual [*]; done)
    | (with_reducible apply State.takeUp_inv)
    | (with_reducible apply inv_next)
    | split
    | (dsimp only; split)
    | intro)

theorem execCompletionPost_inv (fn : TenId) (cq : Ring8) (s : State) (h : State.Inv s) :
    Out.Inv (execCompletionPost fn cq s) := by
  unfold execCompletionPost
  try dsimp only
  repeat' (first
    | (with_reducible assumption)
    | (with_reducible refine foldl_inv _ _ ?_ ?_)
    | (simp (maxDischargeDepth := 60) +contextual [*]; done)
    | (with_reducible apply State.takeUp_inv)
    | (with_reducible apply inv_next)
    | split
    | (dsimp only; split)
    | intro)

theorem execMsixCoalesceTimer_inv (fn : TenId) (cq : Ring8) (s : State) (h : State.Inv s) :
    Out.Inv (execMsixCoalesceTimer fn cq s) := by
  unfold execMsixCoalesceTimer
  simp (maxDischargeDepth := 60) +contextual [*]

theorem execFlr_inv (fn : TenId) (s : State) (h : State.Inv s) : Out.Inv (execFlr fn s) := by
  unfold execFlr
  simp (maxDischargeDepth := 60) +contextual [*]

theorem execD3hotEnter_inv (fn : TenId) (s : State) (h : State.Inv s) : Out.Inv (execD3hotEnter fn s) := by
  unfold execD3hotEnter
  simp (maxDischargeDepth := 60) +contextual [*]

theorem execVfEnableClear_inv (s : State) (h : State.Inv s) : Out.Inv (execVfEnableClear s) := by
  unfold execVfEnableClear
  simp (maxDischargeDepth := 60) +contextual [*]

theorem execVfEnableSet_inv (n : TenId) (s : State) (h : State.Inv s) : Out.Inv (execVfEnableSet n s) := by
  unfold execVfEnableSet
  simp (maxDischargeDepth := 60) +contextual [*]

theorem execHotReset_inv (s : State) (h : State.Inv s) : Out.Inv (execHotReset s) := by
  unfold execHotReset
  simp (maxDischargeDepth := 60) +contextual [*]

theorem execPerst_inv (s : State) (h : State.Inv s) : Out.Inv (execPerst s) := by
  unfold execPerst
  simp (maxDischargeDepth := 60) +contextual [*]

theorem execBmeClear_inv (fn : TenId) (s : State) (h : State.Inv s) : Out.Inv (execBmeClear fn s) := by
  unfold execBmeClear
  simp (maxDischargeDepth := 60) +contextual [*]

theorem execBmeSet_inv (fn : TenId) (s : State) (h : State.Inv s) : Out.Inv (execBmeSet fn s) := by
  unfold execBmeSet
  simp (maxDischargeDepth := 60) +contextual [*]

theorem execRunStart_inv (d : DRef) (ten : TenId) (count : Word) (span : SpanAns) (s : State) (h : State.Inv s) :
    Out.Inv (execRunStart d ten count span s) := by
  unfold execRunStart
  simp (maxDischargeDepth := 60) +contextual [*]

theorem execRunStep_inv (d : DRef) (ten : TenId) (count : Word) (span : SpanAns) (s : State) (h : State.Inv s) :
    Out.Inv (execRunStep d ten count span s) := by
  unfold execRunStep
  simp (maxDischargeDepth := 60) +contextual [*]

theorem execRunStop_inv (d : DRef) (ten : TenId) (count : Word) (s : State) (h : State.Inv s) :
    Out.Inv (execRunStop d ten count s) := by
  unfold execRunStop
  simp (maxDischargeDepth := 60) +contextual [*]

theorem execRunRelease_inv (d : DRef) (ten : TenId) (count : Word) (s : State) (h : State.Inv s) :
    Out.Inv (execRunRelease d ten count s) := by
  unfold execRunRelease
  simp (maxDischargeDepth := 60) +contextual [*]

theorem execRunHold_inv (d : DRef) (ten : TenId) (count : Word) (s : State) (h : State.Inv s) :
    Out.Inv (execRunHold d ten count s) := by
  unfold execRunHold
  simp (maxDischargeDepth := 60) +contextual [*]

theorem execStepCountExpire_inv (ten : TenId) (s : State) (h : State.Inv s) : Out.Inv (execStepCountExpire ten s) := by
  unfold execStepCountExpire
  simp (maxDischargeDepth := 60) +contextual [*]

theorem execSchLsyncWrite_inv (t : TenId) (window : BitVec 4) (s : State) (h : State.Inv s) :
    Out.Inv (execSchLsyncWrite t window s) := by
  unfold execSchLsyncWrite
  simp (maxDischargeDepth := 60) +contextual [*]

theorem execLinkDetectLock_inv (l : LinkId) (s : State) (h : State.Inv s) : Out.Inv (execLinkDetectLock l s) := by
  unfold execLinkDetectLock
  simp (maxDischargeDepth := 60) +contextual [*]

theorem execLinkDetectTimeout_inv (l : LinkId) (bad : Option (Fin 2)) (s : State) (h : State.Inv s) :
    Out.Inv (execLinkDetectTimeout l bad s) := by
  unfold execLinkDetectTimeout
  try dsimp only
  repeat' (first
    | (with_reducible assumption)
    | (with_reducible refine foldl_inv _ _ ?_ ?_)
    | (simp (maxDischargeDepth := 60) +contextual [*]; done)
    | (with_reducible apply State.takeUp_inv)
    | (with_reducible apply inv_next)
    | split
    | (dsimp only; split)
    | intro)

theorem execLinkTrainDone_inv (l : LinkId) (swap : Bool) (pol : BitVec 2) (s : State) (h : State.Inv s) :
    Out.Inv (execLinkTrainDone l swap pol s) := by
  unfold execLinkTrainDone
  simp (maxDischargeDepth := 60) +contextual [*]

theorem execLinkTrainTimeout_inv (l : LinkId) (s : State) (h : State.Inv s) : Out.Inv (execLinkTrainTimeout l s) := by
  unfold execLinkTrainTimeout
  simp (maxDischargeDepth := 60) +contextual [*]

theorem execTsReceive_inv (l : LinkId) (line : LineIn) (ts : TrainSet) (rtt : BitVec 16) (s : State) (h : State.Inv s) :
    Out.Inv (execTsReceive l line ts rtt s) := by
  unfold execTsReceive
  simp (maxDischargeDepth := 60) +contextual [*]

theorem execLinkIdentRetry_inv (l : LinkId) (s : State) (h : State.Inv s) : Out.Inv (execLinkIdentRetry l s) := by
  unfold execLinkIdentRetry
  simp (maxDischargeDepth := 60) +contextual [*]

theorem execLinkFastRtEnter_inv (l : LinkId) (line : LineIn) (cause : Fin 4) (s : State) (h : State.Inv s) :
    Out.Inv (execLinkFastRtEnter l line cause s) := by
  unfold execLinkFastRtEnter
  simp (maxDischargeDepth := 60) +contextual [*]

theorem execLinkFastRtTimeout_inv (l : LinkId) (bad : Option (Fin 2)) (s : State) (h : State.Inv s) :
    Out.Inv (execLinkFastRtTimeout l bad s) := by
  unfold execLinkFastRtTimeout
  try dsimp only
  repeat' (first
    | (with_reducible assumption)
    | (with_reducible refine foldl_inv _ _ ?_ ?_)
    | (simp (maxDischargeDepth := 60) +contextual [*]; done)
    | (with_reducible apply State.takeUp_inv)
    | (with_reducible apply inv_next)
    | split
    | (dsimp only; split)
    | intro)

theorem execLinkFullRtTimeout_inv (l : LinkId) (s : State) (h : State.Inv s) : Out.Inv (execLinkFullRtTimeout l s) := by
  unfold execLinkFullRtTimeout
  simp (maxDischargeDepth := 60) +contextual [*]

theorem execLinkDownRetry_inv (l : LinkId) (s : State) (h : State.Inv s) : Out.Inv (execLinkDownRetry l s) := by
  unfold execLinkDownRetry
  simp (maxDischargeDepth := 60) +contextual [*]

theorem execFrameReceiveXch_inv (l : LinkId) (line : LineIn) (seq : BitVec 12) (damaged : Bool) (ten : TenId) (ecyc : BitVec 16) (dmod _omod : ModId) (slots : List SlotEnt) (s : State) (h : State.Inv s) :
    Out.Inv (execFrameReceiveXch l line seq damaged ten ecyc dmod _omod slots s) := by
  unfold execFrameReceiveXch
  simp (maxDischargeDepth := 60) +contextual [*]

theorem execSlotForward_inv (l : LinkId) (i : Nat) (s : State) (h : State.Inv s) : Out.Inv (execSlotForward l i s) := by
  unfold execSlotForward
  try dsimp only
  repeat' (first
    | (with_reducible assumption)
    | (with_reducible refine foldl_inv _ _ ?_ ?_)
    | (simp (maxDischargeDepth := 60) +contextual [*]; done)
    | (with_reducible apply State.takeUp_inv)
    | (with_reducible apply inv_next)
    | split
    | (dsimp only; split)
    | intro)

theorem execFrameReceivePkt_inv (l : LinkId) (line : LineIn) (seq : BitVec 12) (damaged : Bool) (p : Pkt) (s : State) (h : State.Inv s) :
    Out.Inv (execFrameReceivePkt l line seq damaged p s) := by
  unfold execFrameReceivePkt
  simp (maxDischargeDepth := 60) +contextual [*]

theorem execFrameReceiveCtl_inv (l : LinkId) (line : LineIn) (damaged : Bool) (c : Ctl) (s : State) (h : State.Inv s) :
    Out.Inv (execFrameReceiveCtl l line damaged c s) := by
  unfold execFrameReceiveCtl
  simp (maxDischargeDepth := 60) +contextual [*]

theorem execFrameReceiveDtr_inv (l : LinkId) (line : LineIn) (seq : BitVec 12) (damaged : Bool) (dst org : ModId) (link : LinkId)
    (iseq : BitVec 12) (inner : Body) (s : State) (h : State.Inv s) :
    Out.Inv (execFrameReceiveDtr l line seq damaged dst org link iseq inner s) := by
  unfold execFrameReceiveDtr
  dsimp only
  have h1 := State.takeFrame_inv _ l seq (damaged || (s.takeLine l line).1) (State.takeLine_inv s l line h)
  generalize State.takeFrame _ _ _ _ = r at h1
  split
  · exact h1
  · split
    · exact State.takeInner_inv _ _ _ _ (State.updLink_inv _ _ _ h1)
    · split
      · exact inv_lat _ _ (State.updLink_inv _ _ _ h1)
      · exact State.updLink_inv _ _ _ h1

theorem execFrameTransmit_inv (l : LinkId) (ctlDue skpDue : Bool) (delay : BitVec 10) (s : State) (h : State.Inv s) :
    Out.Inv (execFrameTransmit l ctlDue skpDue delay s) := by
  unfold execFrameTransmit
  try dsimp only
  repeat' (first
    | (with_reducible assumption)
    | (with_reducible refine foldl_inv _ _ ?_ ?_)
    | (simp (maxDischargeDepth := 60) +contextual [*]; done)
    | (with_reducible apply State.takeUp_inv)
    | (with_reducible apply State.tokFrame_inv)
    | (with_reducible apply State.csp_inv)
    | (with_reducible apply State.updCmd_inv)
    | (with_reducible apply State.smb_inv)
    | (with_reducible apply inv_next)
    | split
    | (dsimp only; split)
    | intro)

theorem execRetryAckTimeout_inv (l : LinkId) (s : State) (h : State.Inv s) : Out.Inv (execRetryAckTimeout l s) := by
  unfold execRetryAckTimeout
  simp (maxDischargeDepth := 60) +contextual [*]

theorem execLinkSleepEnter_inv (l : LinkId) (s : State) (h : State.Inv s) : Out.Inv (execLinkSleepEnter l s) := by
  unfold execLinkSleepEnter
  simp (maxDischargeDepth := 60) +contextual [*]

theorem execLinkWake_inv (l : LinkId) (s : State) (h : State.Inv s) : Out.Inv (execLinkWake l s) := by
  unfold execLinkWake
  simp (maxDischargeDepth := 60) +contextual [*]

theorem execSlpReceive_inv (l : LinkId) (line : LineIn) (s : State) (h : State.Inv s) :
    Out.Inv (execSlpReceive l line s) := by
  unfold execSlpReceive
  simp (maxDischargeDepth := 60) +contextual [*]

theorem execWakReceive_inv (l : LinkId) (line : LineIn) (s : State) (h : State.Inv s) :
    Out.Inv (execWakReceive l line s) := by
  unfold execWakReceive
  simp (maxDischargeDepth := 60) +contextual [*]

theorem execTokenBnd_inv (l : LinkId) (line : LineIn) (seq : BitVec 12) (damaged : Bool) (k : Token) (s : State) (h : State.Inv s) :
    Out.Inv (execTokenBnd l line seq damaged k s) := by
  unfold execTokenBnd
  try dsimp only
  repeat' (first
    | (with_reducible assumption)
    | (with_reducible refine foldl_inv _ _ ?_ ?_)
    | (simp (maxDischargeDepth := 60) +contextual [*]; done)
    | (with_reducible apply State.takeUp_inv)
    | (with_reducible apply State.tokFrame_inv)
    | (with_reducible apply State.csp_inv)
    | (with_reducible apply State.updCmd_inv)
    | (with_reducible apply State.smb_inv)
    | (with_reducible apply inv_next)
    | split
    | (dsimp only; split)
    | intro)

theorem execTokenReplay_inv (l : LinkId) (line : LineIn) (seq : BitVec 12) (damaged : Bool) (k : Token) (s : State) (h : State.Inv s) :
    Out.Inv (execTokenReplay l line seq damaged k s) := by
  unfold execTokenReplay
  simp (maxDischargeDepth := 60) +contextual [*]

theorem execTokenPace_inv (l : LinkId) (line : LineIn) (seq : BitVec 12) (damaged : Bool) (k : Token) (s : State) (h : State.Inv s) :
    Out.Inv (execTokenPace l line seq damaged k s) := by
  unfold execTokenPace
  simp (maxDischargeDepth := 60) +contextual [*]

theorem execPaceNoticeSend_inv (ten : TenId) (s : State) (h : State.Inv s) : Out.Inv (execPaceNoticeSend ten s) := by
  unfold execPaceNoticeSend
  simp (maxDischargeDepth := 60) +contextual [*]

theorem execTokenDrain_inv (l : LinkId) (line : LineIn) (seq : BitVec 12) (damaged : Bool) (k : Token) (s : State) (h : State.Inv s) :
    Out.Inv (execTokenDrain l line seq damaged k s) := by
  unfold execTokenDrain
  try dsimp only
  repeat' (first
    | (with_reducible assumption)
    | (with_reducible refine foldl_inv _ _ ?_ ?_)
    | (simp (maxDischargeDepth := 60) +contextual [*]; done)
    | (with_reducible apply State.takeUp_inv)
    | (with_reducible apply State.tokFrame_inv)
    | (with_reducible apply State.csp_inv)
    | (with_reducible apply State.updCmd_inv)
    | (with_reducible apply State.smb_inv)
    | (with_reducible apply inv_next)
    | split
    | (dsimp only; split)
    | intro)

theorem execDrainMarker_inv (marker : BitVec 16) (s : State) (h : State.Inv s) : Out.Inv (execDrainMarker marker s) := by
  unfold execDrainMarker
  simp (maxDischargeDepth := 60) +contextual [*]

theorem execDrainMarkerTimeout_inv (marker : BitVec 16) (s : State) (h : State.Inv s) :
    Out.Inv (execDrainMarkerTimeout marker s) := by
  unfold execDrainMarkerTimeout
  try dsimp only
  repeat' (first
    | (with_reducible assumption)
    | (with_reducible refine foldl_inv _ _ ?_ ?_)
    | (simp (maxDischargeDepth := 60) +contextual [*]; done)
    | (with_reducible apply State.takeUp_inv)
    | (with_reducible apply State.tokFrame_inv)
    | (with_reducible apply inv_next)
    | split
    | (dsimp only; split)
    | intro)

theorem execTokenPartx_inv (l : LinkId) (line : LineIn) (seq : BitVec 12) (damaged : Bool) (k : Token) (s : State) (h : State.Inv s) :
    Out.Inv (execTokenPartx l line seq damaged k s) := by
  unfold execTokenPartx
  simp (maxDischargeDepth := 60) +contextual [*]

theorem execTokenLhold_inv (l : LinkId) (line : LineIn) (seq : BitVec 12) (damaged : Bool) (k : Token) (s : State) (h : State.Inv s) :
    Out.Inv (execTokenLhold l line seq damaged k s) := by
  unfold execTokenLhold
  simp (maxDischargeDepth := 60) +contextual [*]

theorem execTokenNbr_inv (l : LinkId) (line : LineIn) (seq : BitVec 12) (damaged : Bool) (k : Token) (s : State) (h : State.Inv s) :
    Out.Inv (execTokenNbr l line seq damaged k s) := by
  unfold execTokenNbr
  simp (maxDischargeDepth := 60) +contextual [*]

theorem execNbrSend_inv (s : State) (h : State.Inv s) : Out.Inv (execNbrSend s) := by
  unfold execNbrSend
  simp (maxDischargeDepth := 60) +contextual [*]

theorem execBankRelease_inv (g : EBank) (s : State) (h : State.Inv s) : Out.Inv (execBankRelease g s) := by
  unfold execBankRelease
  simp (maxDischargeDepth := 60) +contextual [*]

theorem execBankWithdraw_inv (g : EBank) (s : State) (h : State.Inv s) : Out.Inv (execBankWithdraw g s) := by
  unfold execBankWithdraw
  simp (maxDischargeDepth := 60) +contextual [*]

theorem execBankStageTimer_inv (g : EBank) (pins : DWord) (s : State) (h : State.Inv s) :
    Out.Inv (execBankStageTimer g pins s) := by
  unfold execBankStageTimer
  try dsimp only
  repeat' (first
    | (with_reducible assumption)
    | (with_reducible refine foldl_inv _ _ ?_ ?_)
    | (simp (maxDischargeDepth := 60) +contextual [*]; done)
    | (with_reducible apply State.takeUp_inv)
    | (with_reducible apply State.tokFrame_inv)
    | (with_reducible apply State.csp_inv)
    | (with_reducible apply State.updCmd_inv)
    | (with_reducible apply State.smb_inv)
    | (with_reducible apply inv_next)
    | split
    | (dsimp only; split)
    | intro)

theorem execBrownoutTrip_inv (g : EBank) (s : State) (h : State.Inv s) : Out.Inv (execBrownoutTrip g s) := by
  unfold execBrownoutTrip
  simp (maxDischargeDepth := 60) +contextual [*]

theorem execTargetCycleC1_inv (g : EBank) (s : State) (h : State.Inv s) : Out.Inv (execTargetCycleC1 g s) := by
  unfold execTargetCycleC1
  try dsimp only
  repeat' (first
    | (with_reducible assumption)
    | (with_reducible refine foldl_inv _ _ ?_ ?_)
    | (simp (maxDischargeDepth := 60) +contextual [*]; done)
    | (with_reducible apply State.takeUp_inv)
    | (with_reducible apply State.tokFrame_inv)
    | (with_reducible apply inv_next)
    | split
    | (dsimp only; split)
    | intro)

theorem execTargetCycleC2_inv (g : EBank) (pins : DWord) (s : State) (h : State.Inv s) :
    Out.Inv (execTargetCycleC2 g pins s) := by
  unfold execTargetCycleC2
  try dsimp only
  repeat' (first
    | (with_reducible assumption)
    | (with_reducible refine foldl_inv _ _ ?_ ?_)
    | (simp (maxDischargeDepth := 60) +contextual [*]; done)
    | (with_reducible apply State.takeUp_inv)
    | (with_reducible apply State.tokFrame_inv)
    | (with_reducible apply State.csp_inv)
    | (with_reducible apply State.updCmd_inv)
    | (with_reducible apply State.smb_inv)
    | (with_reducible apply inv_next)
    | split
    | (dsimp only; split)
    | intro)

theorem execTargetCycleC3_inv (g : EBank) (s : State) (h : State.Inv s) : Out.Inv (execTargetCycleC3 g s) := by
  unfold execTargetCycleC3
  try dsimp only
  repeat' (first
    | (with_reducible assumption)
    | (with_reducible refine foldl_inv _ _ ?_ ?_)
    | (simp (maxDischargeDepth := 60) +contextual [*]; done)
    | (with_reducible apply State.takeUp_inv)
    | (with_reducible apply State.tokFrame_inv)
    | (with_reducible apply inv_next)
    | split
    | (dsimp only; split)
    | intro)

theorem execEdgeInputDeliver_inv (g : EBank) (s : State) (h : State.Inv s) : Out.Inv (execEdgeInputDeliver g s) := by
  unfold execEdgeInputDeliver
  try dsimp only
  repeat' (first
    | (with_reducible assumption)
    | (with_reducible refine foldl_inv _ _ ?_ ?_)
    | (simp (maxDischargeDepth := 60) +contextual [*]; done)
    | (with_reducible apply State.takeUp_inv)
    | (with_reducible apply State.tokFrame_inv)
    | (with_reducible apply inv_next)
    | split
    | (dsimp only; split)
    | intro)

theorem execFreePop_inv (g : EBank) (r : Region) (s : State) (h : State.Inv s) :
    Out.Inv (execFreePop g r s) := by
  unfold execFreePop
  try dsimp only
  repeat' (first
    | (with_reducible assumption)
    | (with_reducible refine foldl_inv _ _ ?_ ?_)
    | (simp (maxDischargeDepth := 60) +contextual [*]; done)
    | (with_reducible apply State.takeUp_inv)
    | (with_reducible apply State.tokFrame_inv)
    | (with_reducible apply State.csp_inv)
    | (with_reducible apply State.updCmd_inv)
    | (with_reducible apply State.smb_inv)
    | (with_reducible apply inv_next)
    | split
    | (dsimp only; split)
    | intro)

theorem execFreePush_inv (g : EBank) (r : Region) (pins : DWord) (s : State) (h : State.Inv s) :
    Out.Inv (execFreePush g r pins s) := by
  unfold execFreePush
  simp (maxDischargeDepth := 60) +contextual [*]

theorem execEdgPinWrite_inv (n : Fin 768) (v : Word) (s : State) (h : State.Inv s) : Out.Inv (execEdgPinWrite n v s) := by
  unfold execEdgPinWrite
  simp (maxDischargeDepth := 60) +contextual [*]

theorem execEdgAssignWrite_inv (u : EdgeUnit) (v : Word) (s : State) (h : State.Inv s) :
    Out.Inv (execEdgAssignWrite u v s) := by
  unfold execEdgAssignWrite
  try dsimp only
  repeat' (first
    | (with_reducible assumption)
    | (with_reducible refine foldl_inv _ _ ?_ ?_)
    | (simp (maxDischargeDepth := 60) +contextual [*]; done)
    | (with_reducible apply State.takeUp_inv)
    | (with_reducible apply State.tokFrame_inv)
    | (with_reducible apply inv_next)
    | split
    | (dsimp only; split)
    | intro)

theorem execEdgRouteWrite_inv (g : EBank) (inward : Bool) (v : Word) (s : State) (h : State.Inv s) :
    Out.Inv (execEdgRouteWrite g inward v s) := by
  unfold execEdgRouteWrite
  simp (maxDischargeDepth := 60) +contextual [*]

theorem execWatchdogExpire_inv (l : TileId) (more : List TileId) (s : State) (h : State.Inv s) :
    Out.Inv (execWatchdogExpire l more s) := by
  have pf : ∀ (t : Nat) (ls : List Nat) (p : List Nat × State), State.Inv p.2 → State.Inv (ls.foldl (fun (p : List Nat × State) m =>
      (if (p.2.watchdogOne t m).1 then m :: p.1 else p.1, (p.2.watchdogOne t m).2)) p).2 := by
    intro t ls
    induction ls with
    | nil => intro p hp; exact hp
    | cons x r ih => intro p hp; exact ih _ (State.watchdogOne_inv _ _ _ hp)
  unfold execWatchdogExpire
  dsimp only
  split
  · generalize hl : List.filter _ _ = ls
    have h1 := pf (s.ltile l.val).ten ls ([], s) h
    generalize List.foldl _ _ _ = r at h1 ⊢
    split
    · exact State.startRecovery_inv _ _ _ _ _ h1
    · exact foldl_inv _ _ h1 (fun s x h => State.startRecovery_inv _ _ _ _ _ h)
  · exact h

theorem execRecoveryPlacement_inv (ten : TenId) (s : State) (h : State.Inv s) : Out.Inv (execRecoveryPlacement ten s) := by
  unfold execRecoveryPlacement
  try dsimp only
  repeat' (first
    | (with_reducible assumption)
    | (with_reducible refine foldl_inv _ _ ?_ ?_)
    | (simp (maxDischargeDepth := 60) +contextual [*]; done)
    | (with_reducible apply State.takeUp_inv)
    | (with_reducible apply State.tokFrame_inv)
    | (with_reducible apply inv_next)
    | split
    | (dsimp only; split)
    | intro)

theorem execRestoreComplete_inv (ten : TenId) (newBad oldBad : Bool) (s : State) (h : State.Inv s) :
    Out.Inv (execRestoreComplete ten newBad oldBad s) := by
  unfold execRestoreComplete
  try dsimp only
  repeat' (first
    | (with_reducible assumption)
    | (with_reducible refine foldl_inv _ _ ?_ ?_)
    | (simp (maxDischargeDepth := 60) +contextual [*]; done)
    | (with_reducible apply State.takeUp_inv)
    | (with_reducible apply State.tokFrame_inv)
    | (with_reducible apply inv_next)
    | split
    | (dsimp only; split)
    | intro)

theorem execPartitionTimeout_inv (ten : TenId) (ms : Nat) (s : State) (h : State.Inv s) :
    Out.Inv (execPartitionTimeout ten ms s) := by
  unfold execPartitionTimeout
  simp (maxDischargeDepth := 60) +contextual [*]

theorem execLateErrorPacket_inv (ten : TenId) (ring status : Byte) (tag : BitVec 16) (dseq addr : DWord) (mod : ModId) (memid : Byte) (tile : BitVec 16) (s : State) (h : State.Inv s) :
    Out.Inv (execLateErrorPacket ten ring status tag dseq addr mod memid tile s) := by
  unfold execLateErrorPacket
  simp (maxDischargeDepth := 60) +contextual [*]

theorem execErrorLogIntake_inv (s : State) (h : State.Inv s) : Out.Inv (execErrorLogIntake s) := by
  unfold execErrorLogIntake
  try dsimp only
  repeat' (first
    | (with_reducible assumption)
    | (with_reducible refine foldl_inv _ _ ?_ ?_)
    | (simp (maxDischargeDepth := 60) +contextual [*]; done)
    | (with_reducible apply State.takeUp_inv)
    | (with_reducible apply State.tokFrame_inv)
    | (with_reducible apply inv_next)
    | split
    | (dsimp only; split)
    | intro)

theorem execErrLogRidxWrite_inv (v : Word) (s : State) (h : State.Inv s) : Out.Inv (execErrLogRidxWrite v s) := by
  unfold execErrLogRidxWrite
  simp (maxDischargeDepth := 60) +contextual [*]

theorem execErrCkptCfgWrite_inv (t : TenId) (v : Word) (s : State) (h : State.Inv s) :
    Out.Inv (execErrCkptCfgWrite t v s) := by
  unfold execErrCkptCfgWrite
  simp (maxDischargeDepth := 60) +contextual [*]

theorem execCheckpointLanded_inv (ten : TenId) (bad : Option Word) (s : State) (h : State.Inv s) :
    Out.Inv (execCheckpointLanded ten bad s) := by
  unfold execCheckpointLanded
  try dsimp only
  repeat' (first
    | (with_reducible assumption)
    | (with_reducible refine foldl_inv _ _ ?_ ?_)
    | (simp (maxDischargeDepth := 60) +contextual [*]; done)
    | (with_reducible apply State.takeUp_inv)
    | (with_reducible apply State.tokFrame_inv)
    | (with_reducible apply State.csp_inv)
    | (with_reducible apply State.updCmd_inv)
    | (with_reducible apply State.smb_inv)
    | (with_reducible apply inv_next)
    | split
    | (dsimp only; split)
    | intro)

theorem execCapture_inv (d : DRef) (ten : TenId) (s : State) (h : State.Inv s) : Out.Inv (execCapture d ten s) := by
  unfold execCapture
  simp (maxDischargeDepth := 60) +contextual [*]

theorem execCaptureMoveStart_inv (s : State) (h : State.Inv s) : Out.Inv (execCaptureMoveStart s) := by
  unfold execCaptureMoveStart
  try dsimp only
  repeat' (first
    | (with_reducible assumption)
    | (with_reducible refine foldl_inv _ _ ?_ ?_)
    | (simp (maxDischargeDepth := 60) +contextual [*]; done)
    | (with_reducible apply State.takeUp_inv)
    | (with_reducible apply State.tokFrame_inv)
    | (with_reducible apply inv_next)
    | split
    | (dsimp only; split)
    | intro)

theorem execCaptureMoveDone_inv (bad : List BadWord) (s : State) (h : State.Inv s) :
    Out.Inv (execCaptureMoveDone bad s) := by
  unfold execCaptureMoveDone
  try dsimp only
  repeat' (first
    | (with_reducible assumption)
    | (with_reducible refine foldl_inv _ _ ?_ ?_)
    | (simp (maxDischargeDepth := 60) +contextual [*]; done)
    | (with_reducible apply State.takeUp_inv)
    | (with_reducible apply State.tokFrame_inv)
    | (with_reducible apply inv_next)
    | split
    | (dsimp only; split)
    | intro)

theorem execCaptureLanded_inv (pathOk : Bool) (bad : Option Word) (s : State) (h : State.Inv s) :
    Out.Inv (execCaptureLanded pathOk bad s) := by
  unfold execCaptureLanded
  try dsimp only
  repeat' (first
    | (with_reducible assumption)
    | (with_reducible refine foldl_inv _ _ ?_ ?_)
    | (simp (maxDischargeDepth := 60) +contextual [*]; done)
    | (with_reducible apply State.takeUp_inv)
    | (with_reducible apply State.tokFrame_inv)
    | (with_reducible apply State.csp_inv)
    | (with_reducible apply State.updCmd_inv)
    | (with_reducible apply State.smb_inv)
    | (with_reducible apply inv_next)
    | split
    | (dsimp only; split)
    | intro)

theorem execCapRidxWrite_inv (by' t : TenId) (n : BitVec 16) (s : State) (h : State.Inv s) :
    Out.Inv (execCapRidxWrite by' t n s) := by
  unfold execCapRidxWrite
  simp (maxDischargeDepth := 60) +contextual [*]

theorem execCaptureArea_inv (d : DRef) (ten : TenId) (off : DWord) (slots : Byte) (s : State) (h : State.Inv s) :
    Out.Inv (execCaptureArea d ten off slots s) := by
  unfold execCaptureArea
  simp (maxDischargeDepth := 60) +contextual [*]

theorem execTriggerEvaluate_inv (q : Unit16) (span : SpanAns) (s : State) (h : State.Inv s) :
    Out.Inv (execTriggerEvaluate q span s) := by
  unfold execTriggerEvaluate
  try dsimp only
  repeat' (first
    | (with_reducible assumption)
    | (with_reducible refine foldl_inv _ _ ?_ ?_)
    | (simp (maxDischargeDepth := 60) +contextual [*]; done)
    | (with_reducible apply State.takeUp_inv)
    | (with_reducible apply State.tokFrame_inv)
    | (with_reducible apply inv_next)
    | split
    | (dsimp only; split)
    | intro)

theorem execTrigInEdge_inv (i : Fin 4) (level : Bool) (span : SpanAns) (s : State) (h : State.Inv s) :
    Out.Inv (execTrigInEdge i level span s) := by
  unfold execTrigInEdge
  simp (maxDischargeDepth := 60) +contextual [*]

theorem execTrigTimerExpire_inv (q : Unit16) (i : Fin 2) (span : SpanAns) (s : State) (h : State.Inv s) :
    Out.Inv (execTrigTimerExpire q i span s) := by
  unfold execTrigTimerExpire
  simp (maxDischargeDepth := 60) +contextual [*]

theorem execTrigHoldoffEnd_inv (q : Unit16) (s : State) (h : State.Inv s) : Out.Inv (execTrigHoldoffEnd q s) := by
  unfold execTrigHoldoffEnd
  try dsimp only
  repeat' (first
    | (with_reducible assumption)
    | (with_reducible refine foldl_inv _ _ ?_ ?_)
    | (simp (maxDischargeDepth := 60) +contextual [*]; done)
    | (with_reducible apply State.takeUp_inv)
    | (with_reducible apply State.tokFrame_inv)
    | (with_reducible apply inv_next)
    | split
    | (dsimp only; split)
    | intro)

theorem execTrigOutPulseEnd_inv (i : Fin 4) (s : State) (h : State.Inv s) : Out.Inv (execTrigOutPulseEnd i s) := by
  unfold execTrigOutPulseEnd
  simp (maxDischargeDepth := 60) +contextual [*]

theorem execTrgOwnerWrite_inv (q : Unit16) (by' owner : TenId) (s : State) (h : State.Inv s) :
    Out.Inv (execTrgOwnerWrite q by' owner s) := by
  unfold execTrgOwnerWrite
  simp (maxDischargeDepth := 60) +contextual [*]

theorem execTrgArm_inv (q : Unit16) (by' : TenId) (init : BitVec 4) (ring : Ring8) (s : State) (h : State.Inv s) :
    Out.Inv (execTrgArm q by' init ring s) := by
  unfold execTrgArm
  simp (maxDischargeDepth := 60) +contextual [*]

theorem execTrgDisarm_inv (q : Unit16) (by' : TenId) (s : State) (h : State.Inv s) : Out.Inv (execTrgDisarm q by' s) := by
  unfold execTrgDisarm
  simp (maxDischargeDepth := 60) +contextual [*]

theorem execTrgSwev_inv (q : Unit16) (by' : TenId) (span : SpanAns) (s : State) (h : State.Inv s) :
    Out.Inv (execTrgSwev q by' span s) := by
  unfold execTrgSwev
  simp (maxDischargeDepth := 60) +contextual [*]

theorem execAcqRunStart_inv (c : Unit16) (by' : TenId) (s : State) (h : State.Inv s) :
    Out.Inv (execAcqRunStart c by' s) := by
  unfold execAcqRunStart
  simp (maxDischargeDepth := 60) +contextual [*]

theorem execAcqRunStop_inv (c : Unit16) (by' : TenId) (s : State) (h : State.Inv s) : Out.Inv (execAcqRunStop c by' s) := by
  unfold execAcqRunStop
  simp (maxDischargeDepth := 60) +contextual [*]

theorem execAcqOwnerWrite_inv (c : Unit16) (by' owner : TenId) (s : State) (h : State.Inv s) :
    Out.Inv (execAcqOwnerWrite c by' owner s) := by
  unfold execAcqOwnerWrite
  simp (maxDischargeDepth := 60) +contextual [*]

theorem execAcqRecordLanded_inv (c : Unit16) (bad : BitVec 10) (s : State) (h : State.Inv s) :
    Out.Inv (execAcqRecordLanded c bad s) := by
  unfold execAcqRecordLanded
  simp (maxDischargeDepth := 60) +contextual [*]

theorem execAcqGapRoom_inv (c : Unit16) (s : State) (h : State.Inv s) : Out.Inv (execAcqGapRoom c s) := by
  unfold execAcqGapRoom
  simp (maxDischargeDepth := 60) +contextual [*]

theorem execAcqPacingRoom_inv (c : Unit16) (s : State) (h : State.Inv s) : Out.Inv (execAcqPacingRoom c s) := by
  unfold execAcqPacingRoom
  simp (maxDischargeDepth := 60) +contextual [*]

theorem execAcqPaceTimeout_inv (c : Unit16) (ms : BitVec 16) (s : State) (h : State.Inv s) :
    Out.Inv (execAcqPaceTimeout c ms s) := by
  unfold execAcqPaceTimeout
  try dsimp only
  repeat' (first
    | (with_reducible assumption)
    | (with_reducible refine foldl_inv _ _ ?_ ?_)
    | (simp (maxDischargeDepth := 60) +contextual [*]; done)
    | (with_reducible apply State.takeUp_inv)
    | (with_reducible apply State.tokFrame_inv)
    | (with_reducible apply inv_next)
    | split
    | (dsimp only; split)
    | intro)

theorem execAcqRidxWrite_inv (c : Unit16) (by' : TenId) (v : DWord) (s : State) (h : State.Inv s) :
    Out.Inv (execAcqRidxWrite c by' v s) := by
  unfold execAcqRidxWrite
  simp (maxDischargeDepth := 60) +contextual [*]

theorem execTileEndReport_inv (l : TileId) (s : State) (h : State.Inv s) : Out.Inv (execTileEndReport l s) := by
  unfold execTileEndReport
  simp (maxDischargeDepth := 60) +contextual [*]

theorem execCheckpointDue_inv (ten : TenId) (s : State) (h : State.Inv s) : Out.Inv (execCheckpointDue ten s) := by
  unfold execCheckpointDue
  simp (maxDischargeDepth := 60) +contextual [*]

theorem execStartGrant_inv (l : TileId) (pins : List DWord) (s : State) (h : State.Inv s) :
    Out.Inv (execStartGrant l pins s) := by
  unfold execStartGrant
  try dsimp only
  repeat' (first
    | (with_reducible assumption)
    | (with_reducible refine foldl_inv _ _ ?_ ?_)
    | (simp (maxDischargeDepth := 60) +contextual [*]; done)
    | (with_reducible apply State.takeUp_inv)
    | (with_reducible apply State.tokFrame_inv)
    | (with_reducible apply State.csp_inv)
    | (with_reducible apply State.updCmd_inv)
    | (with_reducible apply State.smb_inv)
    | (with_reducible apply inv_next)
    | split
    | (dsimp only; split)
    | intro)

theorem execMsgInLand_inv (ten : TenId) (port : Ring8) (s : State) (h : State.Inv s) :
    Out.Inv (execMsgInLand ten port s) := by
  unfold execMsgInLand
  try dsimp only
  repeat' (first
    | (with_reducible assumption)
    | (with_reducible refine foldl_inv _ _ ?_ ?_)
    | (simp (maxDischargeDepth := 60) +contextual [*]; done)
    | (with_reducible apply State.takeUp_inv)
    | (with_reducible apply State.tokFrame_inv)
    | (with_reducible apply inv_next)
    | split
    | (dsimp only; split)
    | intro)

theorem execSliceEnd_inv (ten : TenId) (s : State) (h : State.Inv s) : Out.Inv (execSliceEnd ten s) := by
  unfold execSliceEnd
  simp (maxDischargeDepth := 60) +contextual [*]

theorem execSwapStart_inv (s : State) (h : State.Inv s) : Out.Inv (execSwapStart s) := by
  unfold execSwapStart
  try dsimp only
  repeat' (first
    | (with_reducible assumption)
    | (with_reducible refine foldl_inv _ _ ?_ ?_)
    | (simp (maxDischargeDepth := 60) +contextual [*]; done)
    | (with_reducible apply State.takeUp_inv)
    | (with_reducible apply State.tokFrame_inv)
    | (with_reducible apply inv_next)
    | split
    | (dsimp only; split)
    | intro)

theorem execSwapOutEmptied_inv (v : TenId) (bad : List BadWord) (s : State) (h : State.Inv s) :
    Out.Inv (execSwapOutEmptied v bad s) := by
  unfold execSwapOutEmptied
  simp (maxDischargeDepth := 60) +contextual [*]

theorem execSwapInLoaded_inv (bad : Bool) (s : State) (h : State.Inv s) :
    Out.Inv (execSwapInLoaded bad s) := by
  unfold execSwapInLoaded
  try dsimp only
  repeat' (first
    | (with_reducible assumption)
    | (with_reducible refine foldl_inv _ _ ?_ ?_)
    | (simp (maxDischargeDepth := 60) +contextual [*]; done)
    | (with_reducible apply State.takeUp_inv)
    | (with_reducible apply State.tokFrame_inv)
    | (with_reducible apply State.csp_inv)
    | (with_reducible apply State.updCmd_inv)
    | (with_reducible apply State.smb_inv)
    | (with_reducible apply inv_next)
    | split
    | (dsimp only; split)
    | intro)

theorem execSwapDrainDone_inv (ten : TenId) (s : State) (h : State.Inv s) : Out.Inv (execSwapDrainDone ten s) := by
  unfold execSwapDrainDone
  try dsimp only
  repeat' (first
    | (with_reducible assumption)
    | (with_reducible refine foldl_inv _ _ ?_ ?_)
    | (simp (maxDischargeDepth := 60) +contextual [*]; done)
    | (with_reducible apply State.takeUp_inv)
    | (with_reducible apply State.tokFrame_inv)
    | (with_reducible apply inv_next)
    | split
    | (dsimp only; split)
    | intro)

theorem execRebalance_inv (d : DRef) (ten : TenId) (pairs : List (Byte × Byte)) (s : State) (h : State.Inv s) :
    Out.Inv (execRebalance d ten pairs s) := by
  unfold execRebalance
  try dsimp only
  repeat' (first
    | (with_reducible assumption)
    | (with_reducible refine foldl_inv _ _ ?_ ?_)
    | (simp (maxDischargeDepth := 60) +contextual [*]; done)
    | (with_reducible apply State.takeUp_inv)
    | (with_reducible apply State.tokFrame_inv)
    | (with_reducible apply State.csp_inv)
    | (with_reducible apply State.updCmd_inv)
    | (with_reducible apply State.smb_inv)
    | (with_reducible apply inv_next)
    | split
    | (dsimp only; split)
    | intro)

theorem execSchTregionWrite_inv (t : TenId) (size : Bool) (v : Word) (s : State) (h : State.Inv s) :
    Out.Inv (execSchTregionWrite t size v s) := by
  unfold execSchTregionWrite
  simp (maxDischargeDepth := 60) +contextual [*]

theorem execSchTcfgWrite_inv (t : TenId) (v : Word) (s : State) (h : State.Inv s) : Out.Inv (execSchTcfgWrite t v s) := by
  unfold execSchTcfgWrite
  simp (maxDischargeDepth := 60) +contextual [*]

theorem execSchBwClassWrite_inv (c : Fin 6) (v : Word) (s : State) (h : State.Inv s) :
    Out.Inv (execSchBwClassWrite c v s) := by
  unfold execSchBwClassWrite
  simp (maxDischargeDepth := 60) +contextual [*]

theorem execTokenWindow_inv (s : State) (h : State.Inv s) : Out.Inv (execTokenWindow s) := by
  unfold execTokenWindow
  simp (maxDischargeDepth := 60) +contextual [*]

theorem execSchDebugWrite_inv (t : TenId) (v : Word) (s : State) (h : State.Inv s) : Out.Inv (execSchDebugWrite t v s) := by
  unfold execSchDebugWrite
  simp (maxDischargeDepth := 60) +contextual [*]

theorem execHazardReportPost_inv (ten : TenId) (s : State) (h : State.Inv s) : Out.Inv (execHazardReportPost ten s) := by
  unfold execHazardReportPost
  try dsimp only
  repeat' (first
    | (with_reducible assumption)
    | (with_reducible refine foldl_inv _ _ ?_ ?_)
    | (simp (maxDischargeDepth := 60) +contextual [*]; done)
    | (with_reducible apply State.takeUp_inv)
    | (with_reducible apply State.tokFrame_inv)
    | (with_reducible apply inv_next)
    | split
    | (dsimp only; split)
    | intro)

theorem execTilContractClear_inv (n : PTileId) (s : State) (h : State.Inv s) : Out.Inv (execTilContractClear n s) := by
  unfold execTilContractClear
  simp (maxDischargeDepth := 60) +contextual [*]

theorem execTracePacketEnter_inv (s : State) (h : State.Inv s) : Out.Inv (execTracePacketEnter s) := by
  unfold execTracePacketEnter
  try dsimp only
  repeat' (first
    | (with_reducible assumption)
    | (with_reducible refine foldl_inv _ _ ?_ ?_)
    | (simp (maxDischargeDepth := 60) +contextual [*]; done)
    | (with_reducible apply State.takeUp_inv)
    | (with_reducible apply State.tokFrame_inv)
    | (with_reducible apply inv_next)
    | split
    | (dsimp only; split)
    | intro)

theorem execTraceDrain_inv (k : Ring8) (bad : BitVec 10) (s : State) (h : State.Inv s) :
    Out.Inv (execTraceDrain k bad s) := by
  unfold execTraceDrain
  simp (maxDischargeDepth := 60) +contextual [*]

theorem execSinkEnable_inv (k : Ring8) (s : State) (h : State.Inv s) : Out.Inv (execSinkEnable k s) := by
  unfold execSinkEnable
  simp (maxDischargeDepth := 60) +contextual [*]

theorem execSinkDisable_inv (k : Ring8) (s : State) (h : State.Inv s) : Out.Inv (execSinkDisable k s) := by
  unfold execSinkDisable
  simp (maxDischargeDepth := 60) +contextual [*]

theorem execSinkOwnerWrite_inv (k : Ring8) (owner : TenId) (s : State) (h : State.Inv s) :
    Out.Inv (execSinkOwnerWrite k owner s) := by
  unfold execSinkOwnerWrite
  simp (maxDischargeDepth := 60) +contextual [*]

theorem execSwmarkWrite_inv (k : Ring8) (v : Word) (s : State) (h : State.Inv s) : Out.Inv (execSwmarkWrite k v s) := by
  unfold execSwmarkWrite
  simp (maxDischargeDepth := 60) +contextual [*]

theorem execThymeTick_inv (s : State) (h : State.Inv s) : Out.Inv (execThymeTick s) := by
  unfold execThymeTick
  simp (maxDischargeDepth := 60) +contextual [*]

theorem execBackupCountTick_inv (s : State) (h : State.Inv s) : Out.Inv (execBackupCountTick s) := by
  unfold execBackupCountTick
  split
  · exact h
  · exact inv_thy _ _ h ⟨h.thy.1, h.thy.2.1, Nat.mod_lt _ (by decide)⟩

theorem execThyIncApply_inv (v : BitVec 4) (s : State) (h : State.Inv s) : Out.Inv (execThyIncApply v s) := by
  unfold execThyIncApply
  simp (maxDischargeDepth := 60) +contextual [*]

theorem execThySet_inv (s : State) (h : State.Inv s) : Out.Inv (execThySet s) := by
  unfold execThySet
  simp (maxDischargeDepth := 60) +contextual [*]

theorem execThyAdj_inv (v : Word) (s : State) (h : State.Inv s) : Out.Inv (execThyAdj v s) := by
  unfold execThyAdj
  simp (maxDischargeDepth := 60) +contextual [*]

theorem execFmkSend_inv (l : LinkId) (delay : BitVec 10) (s : State) (h : State.Inv s) :
    Out.Inv (execFmkSend l delay s) := by
  unfold execFmkSend
  simp (maxDischargeDepth := 60) +contextual [*]

theorem execFmkReceive_inv (l : LinkId) (line : LineIn) (mseq : BitVec 16) (delay : BitVec 10) (tvalid : Bool) (src : ModId) (stratum : Byte) (crcBad : Bool) (sub : Fin 80) (s : State) (h : State.Inv s) :
    Out.Inv (execFmkReceive l line mseq delay tvalid src stratum crcBad sub s) := by
  unfold execFmkReceive
  simp (maxDischargeDepth := 60) +contextual [*]

theorem execThySourceLoss_inv (s : State) (h : State.Inv s) : Out.Inv (execThySourceLoss s) := by
  unfold execThySourceLoss
  try dsimp only
  repeat' (first
    | (with_reducible assumption)
    | (with_reducible refine foldl_inv _ _ ?_ ?_)
    | (simp (maxDischargeDepth := 60) +contextual [*]; done)
    | (with_reducible apply State.takeUp_inv)
    | (with_reducible apply State.tokFrame_inv)
    | (with_reducible apply inv_next)
    | split
    | (dsimp only; split)
    | intro)

theorem execThySourcePrefer_inv (l : LinkId) (s : State) (h : State.Inv s) : Out.Inv (execThySourcePrefer l s) := by
  unfold execThySourcePrefer
  try dsimp only
  repeat' (first
    | (with_reducible assumption)
    | (with_reducible refine foldl_inv _ _ ?_ ?_)
    | (simp (maxDischargeDepth := 60) +contextual [*]; done)
    | (with_reducible apply State.takeUp_inv)
    | (with_reducible apply State.tokFrame_inv)
    | (with_reducible apply inv_next)
    | split
    | (dsimp only; split)
    | intro)

theorem execThymeMarkInEdge_inv (s : State) (h : State.Inv s) : Out.Inv (execThymeMarkInEdge s) := by
  unfold execThymeMarkInEdge
  simp (maxDischargeDepth := 60) +contextual [*]

theorem execMarkInHoldover_inv (s : State) (h : State.Inv s) : Out.Inv (execMarkInHoldover s) := by
  unfold execMarkInHoldover
  simp (maxDischargeDepth := 60) +contextual [*]

theorem execMarkOutRise_inv (s : State) (h : State.Inv s) : Out.Inv (execMarkOutRise s) := by
  unfold execMarkOutRise
  simp (maxDischargeDepth := 60) +contextual [*]

theorem execMarkOutFall_inv (s : State) (h : State.Inv s) : Out.Inv (execMarkOutFall s) := by
  unfold execMarkOutFall
  simp (maxDischargeDepth := 60) +contextual [*]

theorem execTstartArm_inv (k : Fin 4) (step : Bool) (ten : TenId) (s : State) (h : State.Inv s) :
    Out.Inv (execTstartArm k step ten s) := by
  unfold execTstartArm
  simp (maxDischargeDepth := 60) +contextual [*]

theorem execTstartFire_inv (k : Fin 4) (span : SpanAns) (s : State) (h : State.Inv s) :
    Out.Inv (execTstartFire k span s) := by
  unfold execTstartFire
  try dsimp only
  repeat' (first
    | (with_reducible assumption)
    | (with_reducible refine foldl_inv _ _ ?_ ?_)
    | (simp (maxDischargeDepth := 60) +contextual [*]; done)
    | (with_reducible apply State.takeUp_inv)
    | (with_reducible apply State.tokFrame_inv)
    | (with_reducible apply inv_next)
    | split
    | (dsimp only; split)
    | intro)

theorem execPktReqDeep_inv (ten : TenId) (memid : Fin 64) (damaged : Bool) (s : State) (h : State.Inv s) :
    Out.Inv (execPktReqDeep ten memid damaged s) := by
  unfold execPktReqDeep
  try dsimp only
  repeat' (first
    | (with_reducible assumption)
    | (with_reducible refine foldl_inv _ _ ?_ ?_)
    | (simp (maxDischargeDepth := 60) +contextual [*]; done)
    | (with_reducible apply State.takeUp_inv)
    | (with_reducible apply State.tokFrame_inv)
    | (with_reducible apply inv_next)
    | split
    | (dsimp only; split)
    | intro)

theorem execDeepDread_inv (ten : TenId) (memid : Fin 64) (err : ErrFound) (s : State) (h : State.Inv s) :
    Out.Inv (execDeepDread ten memid err s) := by
  unfold execDeepDread
  simp (maxDischargeDepth := 60) +contextual [*]

theorem execDeepDwrite_inv (ten : TenId) (memid : Fin 64) (err : ErrFound) (wbad : Bool) (s : State) (h : State.Inv s) :
    Out.Inv (execDeepDwrite ten memid err wbad s) := by
  unfold execDeepDwrite
  simp (maxDischargeDepth := 60) +contextual [*]

theorem execDeepDset_inv (ten : TenId) (memid : Fin 64) (err : ErrFound) (wbad : Bool) (s : State) (h : State.Inv s) :
    Out.Inv (execDeepDset ten memid err wbad s) := by
  unfold execDeepDset
  simp (maxDischargeDepth := 60) +contextual [*]

theorem execDeepDclear_inv (ten : TenId) (memid : Fin 64) (err : ErrFound) (wbad : Bool) (s : State) (h : State.Inv s) :
    Out.Inv (execDeepDclear ten memid err wbad s) := by
  unfold execDeepDclear
  simp (maxDischargeDepth := 60) +contextual [*]

theorem execPktRspDeepRes_inv (ten : TenId) (tile : TileId) (i : Nat) (damaged : Bool) (s : State) (h : State.Inv s) :
    Out.Inv (execPktRspDeepRes ten tile i damaged s) := by
  unfold execPktRspDeepRes
  try dsimp only
  repeat' (first
    | (with_reducible assumption)
    | (with_reducible refine foldl_inv _ _ ?_ ?_)
    | (simp (maxDischargeDepth := 60) +contextual [*]; done)
    | (with_reducible apply State.takeUp_inv)
    | (with_reducible apply State.tokFrame_inv)
    | (with_reducible apply inv_next)
    | split
    | (dsimp only; split)
    | intro)

theorem execDsPatrolRead_inv (k : Stack4) (err : ErrFound) (s : State) (h : State.Inv s) :
    Out.Inv (execDsPatrolRead k err s) := by
  unfold execDsPatrolRead
  simp (maxDischargeDepth := 60) +contextual [*]

theorem execDsRowRepairDone_inv (k : Stack4) (pc : Fin 32) (row : BitVec 24) (s : State) (h : State.Inv s) :
    Out.Inv (execDsRowRepairDone k pc row s) := by
  unfold execDsRowRepairDone
  simp (maxDischargeDepth := 60) +contextual [*]

theorem execDsTempRead_inv (k : Stack4) (t : Byte) (s : State) (h : State.Inv s) : Out.Inv (execDsTempRead k t s) := by
  unfold execDsTempRead
  simp (maxDischargeDepth := 60) +contextual [*]

theorem execImageCommit_inv (d : DRef) (ten : TenId) (off len : DWord) (s : State) (h : State.Inv s) :
    Out.Inv (execImageCommit d ten off len s) := by
  unfold execImageCommit
  simp (maxDischargeDepth := 60) +contextual [*]

theorem execLoadCheckComplete_inv (ten : TenId) (s : State) (h : State.Inv s) : Out.Inv (execLoadCheckComplete ten s) := by
  unfold execLoadCheckComplete
  try dsimp only
  repeat' (first
    | (with_reducible assumption)
    | (with_reducible refine foldl_inv _ _ ?_ ?_)
    | (simp (maxDischargeDepth := 60) +contextual [*]; done)
    | (with_reducible apply State.takeUp_inv)
    | (with_reducible apply State.tokFrame_inv)
    | (with_reducible apply inv_next)
    | split
    | (dsimp only; split)
    | intro)

theorem execImageDiscard_inv (d : DRef) (ten : TenId) (s : State) (h : State.Inv s) :
    Out.Inv (execImageDiscard d ten s) := by
  unfold execImageDiscard
  simp (maxDischargeDepth := 60) +contextual [*]

theorem execConfigLoadComplete_inv (s : State) (h : State.Inv s) : Out.Inv (execConfigLoadComplete s) := by
  unfold execConfigLoadComplete
  try dsimp only
  repeat' (first
    | (with_reducible assumption)
    | (with_reducible refine foldl_inv _ _ ?_ ?_)
    | (simp (maxDischargeDepth := 60) +contextual [*]; done)
    | (with_reducible apply State.takeUp_inv)
    | (with_reducible apply State.tokFrame_inv)
    | (with_reducible apply inv_next)
    | split
    | (dsimp only; split)
    | intro)

theorem execCspBootWaitExpire_inv (s : State) (h : State.Inv s) : Out.Inv (execCspBootWaitExpire s) := by
  unfold execCspBootWaitExpire
  simp (maxDischargeDepth := 60) +contextual [*]

theorem execCspStatus_inv (rdy : Bool) (s : State) (h : State.Inv s) : Out.Inv (execCspStatus rdy s) := by
  unfold execCspStatus
  simp (maxDischargeDepth := 60) +contextual [*]

theorem execCspPushBegin_inv (rdy : Bool) (len : DWord) (s : State) (h : State.Inv s) :
    Out.Inv (execCspPushBegin rdy len s) := by
  unfold execCspPushBegin
  simp (maxDischargeDepth := 60) +contextual [*]

theorem execCspData_inv (rdy : Bool) (bytes : List Byte) (s : State) (h : State.Inv s) :
    Out.Inv (execCspData rdy bytes s) := by
  unfold execCspData
  simp (maxDischargeDepth := 60) +contextual [*]

theorem execCspEnd_inv (rdy : Bool) (s : State) (h : State.Inv s) : Out.Inv (execCspEnd rdy s) := by
  unfold execCspEnd
  simp (maxDischargeDepth := 60) +contextual [*]

theorem execCspUpdBegin_inv (rdy : Bool) (len : DWord) (tgt : Byte) (s : State) (h : State.Inv s) :
    Out.Inv (execCspUpdBegin rdy len tgt s) := by
  unfold execCspUpdBegin
  simp (maxDischargeDepth := 60) +contextual [*]

theorem execCspUpdActivate_inv (rdy : Bool) (s : State) (h : State.Inv s) : Out.Inv (execCspUpdActivate rdy s) := by
  unfold execCspUpdActivate
  simp (maxDischargeDepth := 60) +contextual [*]

theorem execCspUpdConfirm_inv (rdy : Bool) (s : State) (h : State.Inv s) : Out.Inv (execCspUpdConfirm rdy s) := by
  unfold execCspUpdConfirm
  simp (maxDischargeDepth := 60) +contextual [*]

theorem execCspTimeout_inv (s : State) (h : State.Inv s) : Out.Inv (execCspTimeout s) := by
  unfold execCspTimeout
  simp (maxDischargeDepth := 60) +contextual [*]

theorem execCspRevived_inv (s : State) (h : State.Inv s) : Out.Inv (execCspRevived s) := by
  unfold execCspRevived
  simp (maxDischargeDepth := 60) +contextual [*]

theorem execDownloadComplete_inv (retries : List (Fin 384 × BitVec 16)) (failed : Option (Fin 384)) (s : State) (h : State.Inv s) :
    Out.Inv (execDownloadComplete retries failed s) := by
  unfold execDownloadComplete
  try dsimp only
  repeat' (first
    | (with_reducible assumption)
    | (with_reducible refine foldl_inv _ _ ?_ ?_)
    | (simp (maxDischargeDepth := 60) +contextual [*]; done)
    | (with_reducible apply State.takeUp_inv)
    | (with_reducible apply State.tokFrame_inv)
    | (with_reducible apply State.csp_inv)
    | (with_reducible apply State.updCmd_inv)
    | (with_reducible apply State.smb_inv)
    | (with_reducible apply inv_next)
    | split
    | (dsimp only; split)
    | intro)

theorem execSorrelFrameRead_inv (f : ErrFound) (s : State) (h : State.Inv s) : Out.Inv (execSorrelFrameRead f s) := by
  unfold execSorrelFrameRead
  try dsimp only
  repeat' (first
    | (with_reducible assumption)
    | (with_reducible refine foldl_inv _ _ ?_ ?_)
    | (simp (maxDischargeDepth := 60) +contextual [*]; done)
    | (with_reducible apply State.takeUp_inv)
    | (with_reducible apply State.tokFrame_inv)
    | (with_reducible apply State.csp_inv)
    | (with_reducible apply State.updCmd_inv)
    | (with_reducible apply inv_next)
    | split
    | (dsimp only; split)
    | intro)

theorem execRegionPrDone_inv (s : State) (h : State.Inv s) : Out.Inv (execRegionPrDone s) := by
  unfold execRegionPrDone
  try dsimp only
  repeat' (first
    | (with_reducible assumption)
    | (with_reducible refine foldl_inv _ _ ?_ ?_)
    | (simp (maxDischargeDepth := 60) +contextual [*]; done)
    | (with_reducible apply State.takeUp_inv)
    | (with_reducible apply State.tokFrame_inv)
    | (with_reducible apply State.csp_inv)
    | (with_reducible apply State.updCmd_inv)
    | (with_reducible apply inv_next)
    | split
    | (dsimp only; split)
    | intro)

theorem execBasilEvaluate_inv (used : List Word) (lk : BitVec 16) (loads : List (BitVec 16)) (waited : Bool) (share : BitVec 10) (s : State) (h : State.Inv s) :
    Out.Inv (execBasilEvaluate used lk loads waited share s) := by
  unfold execBasilEvaluate
  simp (maxDischargeDepth := 60) +contextual [*]

theorem execFastCap_inv (iin : BitVec 16) (s : State) (h : State.Inv s) : Out.Inv (execFastCap iin s) := by
  unfold execFastCap
  simp (maxDischargeDepth := 60) +contextual [*]

theorem execLimitTrip_inv (vin : BitVec 16) (s : State) (h : State.Inv s) : Out.Inv (execLimitTrip vin s) := by
  unfold execLimitTrip
  simp (maxDischargeDepth := 60) +contextual [*]

theorem execPhaseShed_inv (c : Fin 14) (p : Fin 7) (s : State) (h : State.Inv s) : Out.Inv (execPhaseShed c p s) := by
  unfold execPhaseShed
  simp (maxDischargeDepth := 60) +contextual [*]

theorem execConverterOutOfWindow_inv (_c : Fin 14) (s : State) (h : State.Inv s) :
    Out.Inv (execConverterOutOfWindow _c s) := by
  unfold execConverterOutOfWindow
  simp (maxDischargeDepth := 60) +contextual [*]

theorem execDomainFault_inv (d : Fin 66) (s : State) (h : State.Inv s) : Out.Inv (execDomainFault d s) := by
  unfold execDomainFault
  simp (maxDischargeDepth := 60) +contextual [*]

theorem execDomainIdleOff_inv (d : Fin 66) (s : State) (h : State.Inv s) : Out.Inv (execDomainIdleOff d s) := by
  unfold execDomainIdleOff
  simp (maxDischargeDepth := 60) +contextual [*]

theorem execDomainPowerGood_inv (d : Fin 66) (s : State) (h : State.Inv s) : Out.Inv (execDomainPowerGood d s) := by
  unfold execDomainPowerGood
  simp (maxDischargeDepth := 60) +contextual [*]

theorem execPwrDomCtlWrite_inv (d : Fin 66) (en : Bool) (s : State) (h : State.Inv s) :
    Out.Inv (execPwrDomCtlWrite d en s) := by
  unfold execPwrDomCtlWrite
  simp (maxDischargeDepth := 60) +contextual [*]

theorem execVtMoveDone_inv (hub : Bool) (s : State) (h : State.Inv s) : Out.Inv (execVtMoveDone hub s) := by
  unfold execVtMoveDone
  simp (maxDischargeDepth := 60) +contextual [*]

theorem execSmallConfigEnter_inv (s : State) (h : State.Inv s) : Out.Inv (execSmallConfigEnter s) := by
  unfold execSmallConfigEnter
  simp (maxDischargeDepth := 60) +contextual [*]

theorem execFullConfigDone_inv (s : State) (h : State.Inv s) : Out.Inv (execFullConfigDone s) := by
  unfold execFullConfigDone
  simp (maxDischargeDepth := 60) +contextual [*]

theorem execVinEnterRange_inv (sel : BitVec 2) (s : State) (h : State.Inv s) : Out.Inv (execVinEnterRange sel s) := by
  unfold execVinEnterRange
  simp (maxDischargeDepth := 60) +contextual [*]

theorem execVinLeaveRange_inv (s : State) (h : State.Inv s) : Out.Inv (execVinLeaveRange s) := by
  unfold execVinLeaveRange
  simp (maxDischargeDepth := 60) +contextual [*]

theorem execVbatRise_inv (s : State) (h : State.Inv s) : Out.Inv (execVbatRise s) := by
  unfold execVbatRise
  simp (maxDischargeDepth := 60) +contextual [*]

theorem execVbatFall_inv (s : State) (h : State.Inv s) : Out.Inv (execVbatFall s) := by
  unfold execVbatFall
  simp (maxDischargeDepth := 60) +contextual [*]

theorem execAllSuppliesGood_inv (s : State) (h : State.Inv s) : Out.Inv (execAllSuppliesGood s) := by
  unfold execAllSuppliesGood
  simp (maxDischargeDepth := 60) +contextual [*]

theorem execResetPin_inv (sel : BitVec 2) (s : State) (h : State.Inv s) : Out.Inv (execResetPin sel s) := by
  unfold execResetPin
  simp (maxDischargeDepth := 60) +contextual [*]

theorem execResetNRelease_inv (s : State) (h : State.Inv s) : Out.Inv (execResetNRelease s) := by
  unfold execResetNRelease
  simp (maxDischargeDepth := 60) +contextual [*]

theorem execDevHoldRaise_inv (s : State) (h : State.Inv s) : Out.Inv (execDevHoldRaise s) := by
  unfold execDevHoldRaise
  simp (maxDischargeDepth := 60) +contextual [*]

theorem execDevHoldWithdraw_inv (s : State) (h : State.Inv s) : Out.Inv (execDevHoldWithdraw s) := by
  unfold execDevHoldWithdraw
  simp (maxDischargeDepth := 60) +contextual [*]

theorem execPostComplete_inv (tiles : List PTileId) (cols : List (PTileId × Lane16 × BitVec 7)) (dies : List (Fin 8)) (unit : Fin 6) (sigs : List (PTileId × DWord)) (s : State) (h : State.Inv s) :
    Out.Inv (execPostComplete tiles cols dies unit sigs s) := by
  unfold execPostComplete
  simp (maxDischargeDepth := 60) +contextual [*]

theorem execPcieLinkUp_inv (rate : BitVec 3) (width : BitVec 5) (flit l0p : Bool) (s : State) (h : State.Inv s) :
    Out.Inv (execPcieLinkUp rate width flit l0p s) := by
  unfold execPcieLinkUp
  simp (maxDischargeDepth := 60) +contextual [*]

theorem execPclkTrip_inv (s : State) (h : State.Inv s) : Out.Inv (execPclkTrip s) := by
  unfold execPclkTrip
  simp (maxDischargeDepth := 60) +contextual [*]

theorem execIoscProven_inv (s : State) (h : State.Inv s) : Out.Inv (execIoscProven s) := by
  unfold execIoscProven
  simp (maxDischargeDepth := 60) +contextual [*]

theorem execExtSourceProven_inv (ref : Bool) (freq : Fin 4) (s : State) (h : State.Inv s) :
    Out.Inv (execExtSourceProven ref freq s) := by
  unfold execExtSourceProven
  simp (maxDischargeDepth := 60) +contextual [*]

theorem execRootLock_inv (s : State) (h : State.Inv s) : Out.Inv (execRootLock s) := by
  unfold execRootLock
  simp (maxDischargeDepth := 60) +contextual [*]

theorem execIoscTrip_inv (s : State) (h : State.Inv s) : Out.Inv (execIoscTrip s) := by
  unfold execIoscTrip
  simp (maxDischargeDepth := 60) +contextual [*]

theorem execIoscRetry_inv (s : State) (h : State.Inv s) : Out.Inv (execIoscRetry s) := by
  unfold execIoscRetry
  simp (maxDischargeDepth := 60) +contextual [*]

theorem execExtRetry_inv (s : State) (h : State.Inv s) : Out.Inv (execExtRetry s) := by
  unfold execExtRetry
  simp (maxDischargeDepth := 60) +contextual [*]

theorem execClockSourceTrip_inv (s : State) (h : State.Inv s) : Out.Inv (execClockSourceTrip s) := by
  unfold execClockSourceTrip
  try dsimp only
  repeat' (first
    | (with_reducible assumption)
    | (with_reducible refine foldl_inv _ _ ?_ ?_)
    | (simp (maxDischargeDepth := 60) +contextual [*]; done)
    | (with_reducible apply State.takeUp_inv)
    | (with_reducible apply State.tokFrame_inv)
    | (with_reducible apply State.csp_inv)
    | (with_reducible apply State.updCmd_inv)
    | (with_reducible apply inv_next)
    | split
    | (dsimp only; split)
    | intro)

theorem execClockSwitchLock_inv (s : State) (h : State.Inv s) : Out.Inv (execClockSwitchLock s) := by
  unfold execClockSwitchLock
  try dsimp only
  repeat' (first
    | (with_reducible assumption)
    | (with_reducible refine foldl_inv _ _ ?_ ?_)
    | (simp (maxDischargeDepth := 60) +contextual [*]; done)
    | (with_reducible apply State.takeUp_inv)
    | (with_reducible apply State.tokFrame_inv)
    | (with_reducible apply State.csp_inv)
    | (with_reducible apply State.updCmd_inv)
    | (with_reducible apply inv_next)
    | split
    | (dsimp only; split)
    | intro)

theorem execClockRevert_inv (s : State) (h : State.Inv s) : Out.Inv (execClockRevert s) := by
  unfold execClockRevert
  simp (maxDischargeDepth := 60) +contextual [*]

theorem execUnselectedSourceTrip_inv (ref : Bool) (s : State) (h : State.Inv s) :
    Out.Inv (execUnselectedSourceTrip ref s) := by
  unfold execUnselectedSourceTrip
  simp (maxDischargeDepth := 60) +contextual [*]

theorem execBoundaryClockTrip_inv (edge : Bool) (s : State) (h : State.Inv s) : Out.Inv (execBoundaryClockTrip edge s) := by
  unfold execBoundaryClockTrip
  simp (maxDischargeDepth := 60) +contextual [*]

theorem execTrimWindow_inv (err : BitVec 16) (s : State) (h : State.Inv s) : Out.Inv (execTrimWindow err s) := by
  unfold execTrimWindow
  simp (maxDischargeDepth := 60) +contextual [*]

theorem execTrimWindowTimeout_inv (s : State) (h : State.Inv s) : Out.Inv (execTrimWindowTimeout s) := by
  unfold execTrimWindowTimeout
  simp (maxDischargeDepth := 60) +contextual [*]

theorem execSageTileLbist_inv (n : PTileId) (s : State) (h : State.Inv s) : Out.Inv (execSageTileLbist n s) := by
  unfold execSageTileLbist
  simp (maxDischargeDepth := 60) +contextual [*]

theorem execSageTileMbist_inv (n : PTileId) (s : State) (h : State.Inv s) : Out.Inv (execSageTileMbist n s) := by
  unfold execSageTileMbist
  simp (maxDischargeDepth := 60) +contextual [*]

theorem execSageDsMarch_inv (k : Stack4) (s : State) (h : State.Inv s) : Out.Inv (execSageDsMarch k s) := by
  unfold execSageDsMarch
  simp (maxDischargeDepth := 60) +contextual [*]

theorem execSageFuseColumn_inv (n : PTileId) (s : State) (h : State.Inv s) : Out.Inv (execSageFuseColumn n s) := by
  unfold execSageFuseColumn
  simp (maxDischargeDepth := 60) +contextual [*]

theorem execSageDsHppr_inv (k : Stack4) (s : State) (h : State.Inv s) : Out.Inv (execSageDsHppr k s) := by
  unfold execSageDsHppr
  simp (maxDischargeDepth := 60) +contextual [*]

theorem execSageKeyFuse_inv (k : Fin 4) (s : State) (h : State.Inv s) : Out.Inv (execSageKeyFuse k s) := by
  unfold execSageKeyFuse
  simp (maxDischargeDepth := 60) +contextual [*]

theorem execSageKeyRevoke_inv (k : Fin 4) (s : State) (h : State.Inv s) : Out.Inv (execSageKeyRevoke k s) := by
  unfold execSageKeyRevoke
  simp (maxDischargeDepth := 60) +contextual [*]

theorem execSageTestDone_inv (fails : BitVec 16) (sig : DWord) (s : State) (h : State.Inv s) :
    Out.Inv (execSageTestDone fails sig s) := by
  unfold execSageTestDone
  simp (maxDischargeDepth := 60) +contextual [*]

theorem execAnaConversion_inv (raw cal : BitVec 14) (slice : Fin 5) (temp : BitVec 16) (due : Bool) (s : State) (h : State.Inv s) :
    Out.Inv (execAnaConversion raw cal slice temp due s) := by
  unfold execAnaConversion
  try dsimp only
  repeat' (first
    | (with_reducible assumption)
    | (with_reducible refine foldl_inv _ _ ?_ ?_)
    | (simp (maxDischargeDepth := 60) +contextual [*]; done)
    | (with_reducible apply State.takeUp_inv)
    | (with_reducible apply State.tokFrame_inv)
    | (with_reducible apply State.csp_inv)
    | (with_reducible apply State.updCmd_inv)
    | (with_reducible apply inv_next)
    | split
    | (dsimp only; split)
    | intro)

theorem execAnaCalRotate_inv (k : Fin 5) (offLow offHigh gainLow gainHigh : BitVec 16) (s : State) (h : State.Inv s) :
    Out.Inv (execAnaCalRotate k offLow offHigh gainLow gainHigh s) := by
  unfold execAnaCalRotate
  try dsimp only
  repeat' (first
    | (with_reducible assumption)
    | (with_reducible refine foldl_inv _ _ ?_ ?_)
    | (simp (maxDischargeDepth := 60) +contextual [*]; done)
    | (with_reducible apply State.takeUp_inv)
    | (with_reducible apply State.tokFrame_inv)
    | (with_reducible apply State.csp_inv)
    | (with_reducible apply State.updCmd_inv)
    | (with_reducible apply inv_next)
    | split
    | (dsimp only; split)
    | intro)

theorem execAnaSeqWrite_inv (e : Fin 32) (v : Word) (s : State) (h : State.Inv s) : Out.Inv (execAnaSeqWrite e v s) := by
  unfold execAnaSeqWrite
  simp (maxDischargeDepth := 60) +contextual [*]

theorem execRegWrite_inv (page : Option TenId) (off : BitVec 25) (data : DWord) (be : Byte) (span : SpanAns) (s : State) (h : State.Inv s) :
    Out.Inv (execRegWrite page off data be span s) := by
  unfold execRegWrite
  simp (maxDischargeDepth := 60) +contextual [*]

theorem execRegReadSideEffect_inv (page : Option TenId) (off : BitVec 25) (be : Byte) (s : State) (h : State.Inv s) :
    Out.Inv (execRegReadSideEffect page off be s) := by
  unfold execRegReadSideEffect
  simp (maxDischargeDepth := 60) +contextual [*]

theorem execBarAccessUnsupported_inv (read : Bool) (s : State) (h : State.Inv s) :
    Out.Inv (execBarAccessUnsupported read s) := by
  unfold execBarAccessUnsupported
  simp (maxDischargeDepth := 60) +contextual [*]

theorem execZeroLengthAccess_inv (read : Bool) (s : State) (h : State.Inv s) : Out.Inv (execZeroLengthAccess read s) := by
  unfold execZeroLengthAccess
  simp (maxDischargeDepth := 60) +contextual [*]

theorem execSmbSetPointer_inv (off : Word) (pec : Bool) (s : State) (h : State.Inv s) :
    Out.Inv (execSmbSetPointer off pec s) := by
  unfold execSmbSetPointer
  simp (maxDischargeDepth := 60) +contextual [*]

theorem execSmbBlockRead_inv (pec : Bool) (s : State) (h : State.Inv s) : Out.Inv (execSmbBlockRead pec s) := by
  unfold execSmbBlockRead
  simp (maxDischargeDepth := 60) +contextual [*]

theorem execSmbBlockWrite_inv (v : Word) (pec : Bool) (s : State) (h : State.Inv s) :
    Out.Inv (execSmbBlockWrite v pec s) := by
  unfold execSmbBlockWrite
  simp (maxDischargeDepth := 60) +contextual [*]

theorem execSmbTimeout_inv (dat : Bool) (s : State) (h : State.Inv s) : Out.Inv (execSmbTimeout dat s) := by
  unfold execSmbTimeout
  simp (maxDischargeDepth := 60) +contextual [*]

theorem execSmbRevived_inv (s : State) (h : State.Inv s) : Out.Inv (execSmbRevived s) := by
  unfold execSmbRevived
  simp (maxDischargeDepth := 60) +contextual [*]

theorem execPktReqWrite_inv (p : Pkt) (ce : Option (BitVec 12)) (s : State) (h : State.Inv s) :
    Out.Inv (execPktReqWrite p ce s) := by
  unfold execPktReqWrite
  try dsimp only
  repeat' (first
    | (with_reducible assumption)
    | (with_reducible refine foldl_inv _ _ ?_ ?_)
    | (simp (maxDischargeDepth := 60) +contextual [*]; done)
    | (with_reducible apply State.takeUp_inv)
    | (with_reducible apply State.tokFrame_inv)
    | (with_reducible apply State.csp_inv)
    | (with_reducible apply State.updCmd_inv)
    | (with_reducible apply State.smb_inv)
    | (with_reducible apply State.carry_inv)
    | (with_reducible apply inv_next)
    | split
    | (dsimp only; split)
    | intro)

theorem execPktReqRead_inv (p : Pkt) (ce : Option (BitVec 12)) (err : ErrFound) (s : State) (h : State.Inv s) :
    Out.Inv (execPktReqRead p ce err s) := by
  unfold execPktReqRead
  try dsimp only
  repeat' (first
    | (with_reducible assumption)
    | (with_reducible refine foldl_inv _ _ ?_ ?_)
    | (simp (maxDischargeDepth := 60) +contextual [*]; done)
    | (with_reducible apply State.takeUp_inv)
    | (with_reducible apply State.tokFrame_inv)
    | (with_reducible apply State.csp_inv)
    | (with_reducible apply State.updCmd_inv)
    | (with_reducible apply State.smb_inv)
    | (with_reducible apply State.carry_inv)
    | (with_reducible apply inv_next)
    | split
    | (dsimp only; split)
    | intro)

theorem execPktReqRegRd_inv (p : Pkt) (ce : Option (BitVec 12)) (s : State) (h : State.Inv s) :
    Out.Inv (execPktReqRegRd p ce s) := by
  unfold execPktReqRegRd
  simp (maxDischargeDepth := 60) +contextual [*]

theorem execPktReqRegWr_inv (p : Pkt) (ce : Option (BitVec 12)) (s : State) (h : State.Inv s) :
    Out.Inv (execPktReqRegWr p ce s) := by
  unfold execPktReqRegWr
  simp (maxDischargeDepth := 60) +contextual [*]

theorem execPktRspData_inv (p : Pkt) (ce : Option (BitVec 12)) (s : State) (h : State.Inv s) :
    Out.Inv (execPktRspData p ce s) := by
  unfold execPktRspData
  simp (maxDischargeDepth := 60) +contextual [*]

theorem execPktRspRegData_inv (p : Pkt) (ce : Option (BitVec 12)) (s : State) (h : State.Inv s) :
    Out.Inv (execPktRspRegData p ce s) := by
  unfold execPktRspRegData
  simp (maxDischargeDepth := 60) +contextual [*]

theorem execPktRspError_inv (p : Pkt) (ce : Option (BitVec 12)) (s : State) (h : State.Inv s) :
    Out.Inv (execPktRspError p ce s) := by
  unfold execPktRspError
  simp (maxDischargeDepth := 60) +contextual [*]

theorem execPktMgtStop_inv (p : Pkt) (ce : Option (BitVec 12)) (s : State) (h : State.Inv s) :
    Out.Inv (execPktMgtStop p ce s) := by
  unfold execPktMgtStop
  simp (maxDischargeDepth := 60) +contextual [*]

theorem execPktMgtFault_inv (p : Pkt) (ce : Option (BitVec 12)) (s : State) (h : State.Inv s) :
    Out.Inv (execPktMgtFault p ce s) := by
  unfold execPktMgtFault
  try dsimp only
  repeat' (first
    | (with_reducible assumption)
    | (with_reducible refine foldl_inv _ _ ?_ ?_)
    | (simp (maxDischargeDepth := 60) +contextual [*]; done)
    | (with_reducible apply State.takeUp_inv)
    | (with_reducible apply State.tokFrame_inv)
    | (with_reducible apply State.csp_inv)
    | (with_reducible apply State.updCmd_inv)
    | (with_reducible apply State.smb_inv)
    | (with_reducible apply State.carry_inv)
    | (with_reducible apply inv_next)
    | split
    | (dsimp only; split)
    | intro)

end Sys2Proof.Machine
end

