-- ==== Sys2Proof/WellFormed.lean ====
section
/-!
DEFINITION. Which commands are well formed: operands that the manual packs in a field fit it, and lists have the lengths that their
records have. Operands of a finite type need no check. `exec` answers for every command; a sender forms well-formed ones.
-/
namespace Sys2Proof

/-- A NoC packet fits its header and its flits (Tables 11-2 and 11-3): the head flit has 55 bytes from 0x09 on, and up to three flits of
64 bytes follow. -/
def Pkt.wf (p : Pkt) : Bool :=
  decide (p.vc < 4 ∧ p.op < 16 ∧ p.age < 16 ∧ p.ten < 256 ∧ p.dest < 256 ∧ p.src < 256 ∧ p.epoch < 16 ∧ p.tag < 65536 ∧
    p.body.length ≤ 247)
/-- An exchange slot on the XCH virtual channel (Tables 11-2, 11-3, R58). -/
def Slot.wf (p : Slot) : Bool :=
  decide (p.ten < 256 ∧ p.src < 256 ∧ p.dst < 256 ∧ p.word < 16 ∧ p.occ < 256 ∧ p.ecyc < 2 ^ 64 ∧ p.epoch < 16 ∧ p.dmod < 256)
/-- A slot entry of an XCH frame (Table 10-6). -/
def SlotEnt.wf (e : SlotEnt) : Bool := decide (e.dtile < 256 ∧ e.word < 16 ∧ e.epoch < 16 ∧ e.occ < 256)
/-- A request entry of a BND token (Table 10-11). -/
def BndEnt.wf (e : BndEnt) : Bool := decide (1 ≤ e.typ ∧ e.typ ≤ 8 ∧ e.origin < 256 ∧ e.sub < 256 ∧ e.arg < 2 ^ 32 ∧ e.b < 2 ^ 64)
/-- A lattice token (R291, R292, Table 10-10): at most 14 request entries. -/
def Token.wf (k : Token) : Bool :=
  decide (1 ≤ k.typ ∧ k.typ ≤ 7 ∧ k.ten < 256 ∧ k.origin < 256 ∧ k.word < 2 ^ 32 ∧ k.a < 2 ^ 64 ∧ k.b < 2 ^ 64 ∧ k.c < 2 ^ 64 ∧
    k.reqs.length ≤ 14) && k.reqs.all BndEnt.wf
/-- A CTL body returns at most the credit of each pool (Table 10-7). -/
def Ctl.wf (c : Ctl) : Bool := decide (c.xch ≤ 4096 ∧ c.pkt ≤ 512 ∧ c.tok ≤ 64 ∧ c.dtr ≤ 256)
/-- A frame body (Tables 10-5 to 10-7, R309): 1 to 16 slots in an XCH frame, and no DTR or CTL frame within a DTR frame but a CTL body. -/
def Body.wf : Body → Bool
  | .xch ten ecyc dmod omod slots =>
    decide (ten < 256 ∧ ecyc < 65536 ∧ dmod < 256 ∧ omod < 256 ∧ 1 ≤ slots.length ∧ slots.length ≤ 16) && slots.all SlotEnt.wf
  | .tok k => k.wf
  | .pkt p => p.wf
  | .dtr .. => false
  | .ctl c => c.wf
/-- The far end's training set names a link (Table 10-9). -/
def TrainSet.wf (t : TrainSet) : Bool := decide (t.link0 < 256 ∧ t.link1 < 256)

/-- A command is well formed. -/
def Instr.wf : Instr → Bool
  | .slotArrive p _ => p.wf
  | .creditArrive _ _ _ _ occ ecyc => decide (occ < 256 ∧ ecyc < 2 ^ 64)
  | .startGrant _ pins => decide (pins.length ≤ 12)
  | .rebalance _ _ pairs => decide (1 ≤ pairs.length ∧ pairs.length ≤ 24)
  | .basilEvaluate used _ loads _ _ => decide (used.length ≤ 68 ∧ loads.length ≤ 14)
  | .tsReceive _ _ ts _ => ts.wf
  | .frameReceiveXch _ _ _ _ _ _ _ _ slots => decide (1 ≤ slots.length ∧ slots.length ≤ 16) && slots.all SlotEnt.wf
  | .frameReceivePkt _ _ _ _ p => p.wf
  | .frameReceiveDtr _ _ _ _ _ _ _ _ b => b.wf
  | .frameReceiveCtl _ _ _ c => c.wf
  | .tokenBnd _ _ _ _ k => k.wf && decide (k.typ = 1)
  | .tokenReplay _ _ _ _ k => k.wf && decide (k.typ = 2)
  | .tokenPace _ _ _ _ k => k.wf && decide (k.typ = 3)
  | .tokenDrain _ _ _ _ k => k.wf && decide (k.typ = 4)
  | .tokenPartx _ _ _ _ k => k.wf && decide (k.typ = 5)
  | .tokenLhold _ _ _ _ k => k.wf && decide (k.typ = 6)
  | .tokenNbr _ _ _ _ k => k.wf && decide (k.typ = 7)
  | .pktReqWrite p _ => p.wf && decide (p.vc = 0 ∧ p.op = 1)
  | .pktReqRead p _ _ => p.wf && decide (p.vc = 0 ∧ p.op = 2)
  | .pktReqRegRd p _ => p.wf && decide (p.vc = 0 ∧ p.op = 4)
  | .pktReqRegWr p _ => p.wf && decide (p.vc = 0 ∧ p.op = 5)
  | .pktRspData p _ => p.wf && decide (p.vc = 1 ∧ p.op = 1)
  | .pktRspRegData p _ => p.wf && decide (p.vc = 1 ∧ p.op = 3)
  | .pktRspError p _ => p.wf && decide (p.vc = 1 ∧ p.op = 15)
  | .pktMgtStop p _ => p.wf && decide (p.vc = 3 ∧ p.op = 5)
  | .pktMgtFault p _ => p.wf && decide (p.vc = 3 ∧ p.op = 6)
  | .descriptorFetch _ _ bytes => decide (bytes.length = 64)
  | .cspData _ bytes => decide (1 ≤ bytes.length ∧ bytes.length ≤ 4096)
  | _ => true

end Sys2Proof
end

