-- ==== Sys2Proof/Tests/Slice0.lean ====
section
/-!
SUPPORT. The author's own tests: ill-formed commands that WellFormed refuses, worked examples of the manual, and, for each statement
that has hypotheses, states and operands that meet them, clause by clause.
-/
set_option Elab.async false
namespace Sys2Proof.Tests
open Sys2Proof Sys2Proof.Machine

/-! ### WellFormed: one ill-formed term for each check -/

def okPkt : Pkt := { vc := 3, op := 15, age := 15, ten := 255, dest := 255, src := 255, epoch := 15, tag := 65535, body := List.replicate 247 0 }
def okSlot : Slot := ⟨255, 255, 255, 15, 255, 2 ^ 64 - 1, 15, 0, true, 255⟩
def okEnt : SlotEnt := ⟨255, 15, 15, 255, 0⟩
def okBnd : BndEnt := ⟨8, 255, 255, 2 ^ 32 - 1, 2 ^ 64 - 1⟩
def okToken : Token :=
  { typ := 7, ten := 255, origin := 255, word := 2 ^ 32 - 1, a := 2 ^ 64 - 1, b := 2 ^ 64 - 1, c := 2 ^ 64 - 1, reqs := List.replicate 14 okBnd }
def okCtl : Ctl := ⟨none, true, 4096, 512, 64, 256⟩
def okSet : TrainSet := ⟨1, 255, 1, 255, 0, true, true, true, false, false, false, false, 0, false, 0⟩
def noRef : DRef := ⟨0, 0, 0, 0, 0, 0⟩

theorem test_wf_accepts :
    Instr.wf (.slotArrive okSlot false) = true ∧ Instr.wf (.frameReceivePkt 0 {} 0 false okPkt) = true ∧
    Instr.wf (.tokenNbr 0 {} 0 false okToken) = true ∧ Instr.wf (.frameReceiveXch 0 {} 0 false 255 0 0 0 (List.replicate 16 okEnt)) = true ∧
    Instr.wf (.frameReceiveCtl 0 {} false okCtl) = true ∧ Instr.wf (.tsReceive 0 {} okSet 0) = true ∧
    Instr.wf (.descriptorFetch 0 0 (List.replicate 64 0)) = true ∧ Instr.wf (.cspData false [0]) = true := by decide +kernel

theorem test_wf_slot :
    Instr.wf (.slotArrive { okSlot with ten := 256 } false) = false ∧ Instr.wf (.slotArrive { okSlot with src := 256 } false) = false ∧
    Instr.wf (.slotArrive { okSlot with dst := 256 } false) = false ∧ Instr.wf (.slotArrive { okSlot with word := 16 } false) = false ∧
    Instr.wf (.slotArrive { okSlot with occ := 256 } false) = false ∧ Instr.wf (.slotArrive { okSlot with ecyc := 2 ^ 64 } false) = false ∧
    Instr.wf (.slotArrive { okSlot with epoch := 16 } false) = false ∧ Instr.wf (.slotArrive { okSlot with dmod := 256 } false) = false ∧
    Instr.wf (.creditArrive 0 0 0 0 256 0) = false ∧ Instr.wf (.creditArrive 0 0 0 0 0 (2 ^ 64)) = false := by decide +kernel

theorem test_wf_packet :
    Instr.wf (.frameReceivePkt 0 {} 0 false { okPkt with vc := 4 }) = false ∧ Instr.wf (.frameReceivePkt 0 {} 0 false { okPkt with op := 16 }) = false ∧
    Instr.wf (.frameReceivePkt 0 {} 0 false { okPkt with age := 16 }) = false ∧ Instr.wf (.frameReceivePkt 0 {} 0 false { okPkt with ten := 256 }) = false ∧
    Instr.wf (.frameReceivePkt 0 {} 0 false { okPkt with dest := 256 }) = false ∧ Instr.wf (.frameReceivePkt 0 {} 0 false { okPkt with src := 256 }) = false ∧
    Instr.wf (.frameReceivePkt 0 {} 0 false { okPkt with epoch := 16 }) = false ∧ Instr.wf (.frameReceivePkt 0 {} 0 false { okPkt with tag := 65536 }) = false ∧
    Instr.wf (.frameReceivePkt 0 {} 0 false { okPkt with body := List.replicate 248 0 }) = false ∧
    Instr.wf (.pktReqWrite okPkt none) = false ∧ Instr.wf (.pktReqRead okPkt none .clean) = false ∧ Instr.wf (.pktReqRegRd okPkt none) = false ∧
    Instr.wf (.pktReqRegWr okPkt none) = false ∧ Instr.wf (.pktRspData okPkt none) = false ∧ Instr.wf (.pktRspRegData okPkt none) = false ∧
    Instr.wf (.pktRspError okPkt none) = false ∧ Instr.wf (.pktMgtStop okPkt none) = false ∧
    Instr.wf (.pktMgtFault okPkt none) = false := by decide +kernel

theorem test_wf_token :
    Instr.wf (.tokenNbr 0 {} 0 false { okToken with typ := 8 }) = false ∧ Instr.wf (.tokenNbr 0 {} 0 false { okToken with ten := 256 }) = false ∧
    Instr.wf (.tokenNbr 0 {} 0 false { okToken with origin := 256 }) = false ∧ Instr.wf (.tokenNbr 0 {} 0 false { okToken with word := 2 ^ 32 }) = false ∧
    Instr.wf (.tokenNbr 0 {} 0 false { okToken with a := 2 ^ 64 }) = false ∧ Instr.wf (.tokenNbr 0 {} 0 false { okToken with b := 2 ^ 64 }) = false ∧
    Instr.wf (.tokenNbr 0 {} 0 false { okToken with c := 2 ^ 64 }) = false ∧
    Instr.wf (.tokenNbr 0 {} 0 false { okToken with reqs := List.replicate 15 okBnd }) = false ∧
    Instr.wf (.tokenNbr 0 {} 0 false { okToken with reqs := [{ okBnd with typ := 0 }] }) = false ∧
    Instr.wf (.tokenNbr 0 {} 0 false { okToken with reqs := [{ okBnd with typ := 9 }] }) = false ∧
    Instr.wf (.tokenNbr 0 {} 0 false { okToken with reqs := [{ okBnd with origin := 256 }] }) = false ∧
    Instr.wf (.tokenNbr 0 {} 0 false { okToken with reqs := [{ okBnd with sub := 256 }] }) = false ∧
    Instr.wf (.tokenNbr 0 {} 0 false { okToken with reqs := [{ okBnd with arg := 2 ^ 32 }] }) = false ∧
    Instr.wf (.tokenNbr 0 {} 0 false { okToken with reqs := [{ okBnd with b := 2 ^ 64 }] }) = false ∧
    Instr.wf (.tokenBnd 0 {} 0 false okToken) = false ∧ Instr.wf (.tokenReplay 0 {} 0 false okToken) = false ∧
    Instr.wf (.tokenPace 0 {} 0 false okToken) = false ∧ Instr.wf (.tokenDrain 0 {} 0 false okToken) = false ∧
    Instr.wf (.tokenPartx 0 {} 0 false okToken) = false ∧ Instr.wf (.tokenLhold 0 {} 0 false okToken) = false ∧
    Instr.wf (.tokenNbr 0 {} 0 false { okToken with typ := 1 }) = false := by decide +kernel

theorem test_wf_frame :
    Instr.wf (.frameReceiveXch 0 {} 0 false 255 0 0 0 []) = false ∧
    Instr.wf (.frameReceiveXch 0 {} 0 false 255 0 0 0 (List.replicate 17 okEnt)) = false ∧
    Instr.wf (.frameReceiveXch 0 {} 0 false 255 0 0 0 [{ okEnt with dtile := 256 }]) = false ∧
    Instr.wf (.frameReceiveXch 0 {} 0 false 255 0 0 0 [{ okEnt with word := 16 }]) = false ∧
    Instr.wf (.frameReceiveXch 0 {} 0 false 255 0 0 0 [{ okEnt with epoch := 16 }]) = false ∧
    Instr.wf (.frameReceiveXch 0 {} 0 false 255 0 0 0 [{ okEnt with occ := 256 }]) = false ∧
    Instr.wf (.frameReceiveCtl 0 {} false { okCtl with xch := 4097 }) = false ∧ Instr.wf (.frameReceiveCtl 0 {} false { okCtl with pkt := 513 }) = false ∧
    Instr.wf (.frameReceiveCtl 0 {} false { okCtl with tok := 65 }) = false ∧ Instr.wf (.frameReceiveCtl 0 {} false { okCtl with dtr := 257 }) = false ∧
    Instr.wf (.tsReceive 0 {} { okSet with link0 := 256 } 0) = false ∧ Instr.wf (.tsReceive 0 {} { okSet with link1 := 256 } 0) = false ∧
    Instr.wf (.frameReceiveDtr 0 {} 0 false 0 0 0 0 (.dtr 0 0 0 0 (.tok okToken))) = false ∧
    Instr.wf (.frameReceiveDtr 0 {} 0 false 0 0 0 0 (.xch 256 0 0 0 [okEnt])) = false ∧
    Instr.wf (.frameReceiveDtr 0 {} 0 false 0 0 0 0 (.xch 0 65536 0 0 [okEnt])) = false ∧
    Instr.wf (.frameReceiveDtr 0 {} 0 false 0 0 0 0 (.xch 0 0 256 0 [okEnt])) = false ∧
    Instr.wf (.frameReceiveDtr 0 {} 0 false 0 0 0 0 (.xch 0 0 0 256 [okEnt])) = false ∧
    Instr.wf (.frameReceiveDtr 0 {} 0 false 0 0 0 0 (.xch 0 0 0 0 [])) = false := by decide +kernel

theorem test_wf_lists :
    Instr.wf (.startGrant 0 (List.replicate 13 0)) = false ∧
    Instr.wf (.rebalance noRef 0 []) = false ∧ Instr.wf (.rebalance noRef 0 (List.replicate 25 (0, 0))) = false ∧
    Instr.wf (.basilEvaluate (List.replicate 69 0) 0 [] false 0) = false ∧
    Instr.wf (.basilEvaluate [] 0 (List.replicate 15 0) false 0) = false ∧
    Instr.wf (.descriptorFetch 0 0 (List.replicate 63 0)) = false ∧ Instr.wf (.cspData false []) = false ∧
    Instr.wf (.cspData false (List.replicate 4097 0)) = false := by decide +kernel

/-! ### Worked examples of the manual -/

/-- Chapter 01: logical tile 100 maps to T104, and the spare of its die is T124. -/
theorem test_tile_100 : State.reset.ptile 100 = 104 ∧ spareOf 100 = 124 := by decide +kernel
/-- Chapter 08: the swap slot of 24 tiles, and what the carved areas take by default. -/
theorem test_carved_areas : stateSlot 24 = 31469568 ∧ State.reset.carvedBytes 1 24 = 127963136 := by decide +kernel
/-- Chapter 11: the stack and the pseudo-channel of byte address 0x0000_0012_3456_7000. -/
theorem test_deep_address : dsStack 0x1234567000 = 3 ∧ dsChannel 0x1234567000 = 25 := by decide +kernel
/-- Chapter 09: the minimum rate reaches 1.00 Gsteps/s at 0.730 V. -/
theorem test_minimum_rate : 1000 ≤ atVolt minRows 26 ∧ atVolt minRows 25 < 1000 := by decide +kernel
/-- Chapter 17: 1,100 mV in LOW is code 15,019; HIGH code 5,461 is 2,000 mV. -/
theorem test_conversion : anaValue 0 false 15019 = 1100 ∧ anaValue 0 true 5461 = 2000 := by decide +kernel
/-- The command table gives its rows no bits, so no word spells a command. -/
theorem test_no_table_word : decodeTableWord 32 0 = none ∧ decodeTableWord 0 0 = none := by decide +kernel

/-- Chapter 11: the eight positions of a wheel, of which the last is open. -/
theorem test_wheel : (List.range 8).map wheelVc = [some 2, some 3, some 2, some 1, some 2, some 0, some 2, none] := by decide +kernel
/-- The codes of K28.5 at both disparities and of D21.5, as ANSI X3.230 prints them, first bit first (log entry 101). -/
theorem test_codes :
    encode10 true 0xBC false = (0b0011111010, true) ∧ encode10 true 0xBC true = (0b1100000101, false) ∧
    encode10 false 0xB5 false = (0b1010101010, false) := by decide +kernel

/-! ### States and operands that meet the statements' hypotheses

One theorem for each statement, one conjunct for each of its clauses that has a hypothesis. A hypothesis that names a value by a pattern
(`= some v`, `= v :: r`) stands as a test of the value that is there. -/

/-- A state in mode `m`, else as after reset. -/
def inMode (m : Mode) : State := { dev := { mode := m } }
/-- An image of one tile for one module, and one of two tiles for modules 0 and 1. -/
def oneTile : Image := { mods := [(0, 1)], tiles := [(0, {})] }
def twoMods : Image := { mods := [(0, 1), (1, 1)], diam := 1, links := [⟨0, 1, 0⟩, ⟨1, 0, 0⟩], tiles := [(0, {})] }
/-- Tenant 1 is `v`, and its image tile 0 is logical tile 0, which is `t`. -/
def withTile (t : Tile) (v : Tenant) : State :=
  { dev := { mode := .active }, sched := { ltiles := [(0, { ten := 1, bound := true, resident := true })] }, tiles := [(0, t)], tenants := [(1, v)] }
/-- A program whose step 0 has control operation `n`, its other control bits `w`. -/
def progOp (n w : Nat) : TileProg := { depth := 1, ctrl := [(0, BitVec.ofNat 256 (n * 2 ^ 208 + w))] }
/-- A step in hand whose operand phase has ended, with control operation `n`. -/
def atOp (n w : Nat) : Tile := { inEcyc := true, stage := .operand, prog := progOp n w }
/-- A list has a first element, and it and the rest meet `f`. -/
def headIs {α : Type} (l : List α) (f : α → List α → Bool) : Bool :=
  match l with
  | [] => false
  | x :: r => f x r

theorem witness_StepRunsFrontCommand :
  ((let s : State := { pending := [.perst, .vinLeaveRange] }; headIs s.pending (fun c rest => true)) = true) ∧
  ((let s : State := inMode .idle; decide (s.pending = [])) = true) ∧
  ((let s : State := inMode .idle;
   decide ((s.pending = []) ∧ (s.edg.fclkOk = false ∨ s.edg.loaded = []) ∧ (s.noc.flights = []) ∧ (s.noc.refs = []))) = true) := by
  decide +kernel

theorem witness_TileSteps :
  ((let s : State := withTile { inEcyc := true, nextA := some 2047 } {}; let l : TileId := 0; decide ((s.tile ↑l).canFetch = true)) = true) ∧
  ((let s : State := withTile { inEcyc := true, fetched := some 2047 } {}; let l : TileId := 0;
   ((s.tile ↑l).atGate).any (fun a => decide ((s.tile ↑l).gateOpens a = true))) = true) ∧
  ((let s : State := withTile { inEcyc := true, fetched := some 0, prog := { depth := 1, xbar := [(0, 0x800#768)] } } {}; let l : TileId := 0;
   ((s.tile ↑l).atGate).any (fun a => decide ((s.tile ↑l).gateOpens a = false))) = true) ∧
  ((let s : State := withTile { inEcyc := true, stage := .sequenced } {}; let l : TileId := 0; let held : BitVec 16 := 0;
   decide (((s.tile ↑l).stage = Stage.sequenced) ∧ ((s.tile ↑l).halt = none) ∧ ((s.tile ↑l).evalReady (s.tile ↑l).stepNo held = true))) = true) ∧
  ((let s : State := withTile { inEcyc := true, stage := .evaluated } {}; let l : TileId := 0;
   decide (((s.tile ↑l).stage = Stage.evaluated) ∧ ((s.tile ↑l).halt = none) ∧ ((s.tile ↑l).sendRoom = true))) = true) := by
  decide +kernel

theorem witness_BooleanPlane :
  ((let m : Nat := 63; decide (m < 64)) = true) ∧
  ((let p : Nat := 15; decide (p < 16)) = true) ∧
  ((let t : Tile := {}; let a : Nat := 63; let b : Nat := 1023;
   decide ((b < 1024) ∧ (isCmdWord (t.word a b) = false) ∧ (fld (t.word a b) 5 2 = 0))) = true) ∧
  ((let t : Tile := { prog := { depth := 1, steps := [(1023, 0x10#56)] } }; let a : Nat := 0; let b : Nat := 1023;
   decide ((b < 1024) ∧ (isCmdWord (t.word a b) = true))) = true) ∧
  ((let p : Nat := 15; let q : Nat := 63; decide ((p < 16) ∧ (q < 64))) = true) ∧
  ((let a : Nat := 63; let p : Nat := 15; let q : Nat := 63; let k : Nat := 15;
   decide ((p < 16) ∧ (q < 64) ∧ (∀ r : Nat, r < 16 → k ≠ 2048 * r + a))) = true) ∧
  ((let b : Nat := 1023; decide (b < 1024)) = true) ∧
  ((let p : Nat := 15; let i : Nat := 63; decide ((p < 16) ∧ (i < 64))) = true) ∧
  ((let w : Nat := 15; let i : Nat := 63; decide ((w < 16) ∧ (i < 64))) = true) ∧
  ((let r : Nat := 15; let i : Nat := 15; decide ((r < 16) ∧ (i < 32))) = true) ∧
  ((let i : Nat := 15; decide (i < 32)) = true) ∧
  ((let i : Nat := 1; decide (i < 12)) = true) ∧
  ((let i : Nat := 63; decide (i < 128)) = true) := by
  decide +kernel

theorem witness_SequencerOperations :
  ((let s : State := withTile (atOp 0 0) {}; let l : TileId := 0;
   decide (((s.tile ↑l).stage = Stage.operand) ∧ ((s.tile ↑l).op (s.tile ↑l).stepNo = 0) ∧ ((s.tile ↑l).topLoop = none))) = true) ∧
  ((let s : State := withTile (atOp 1 0) {}; let l : TileId := 0;
   decide (((s.tile ↑l).stage = Stage.operand) ∧ ((s.tile ↑l).op (s.tile ↑l).stepNo = 1) ∧ ((s.tile ↑l).sp = 0))) = true) ∧
  ((let s : State := withTile (atOp 2 0) {}; let l : TileId := 0;
   decide (((s.tile ↑l).stage = Stage.operand) ∧ ((s.tile ↑l).op (s.tile ↑l).stepNo = 2))) = true) ∧
  ((let s : State := withTile (atOp 3 0) {}; let l : TileId := 0;
   decide (((s.tile ↑l).stage = Stage.operand) ∧ ((s.tile ↑l).op (s.tile ↑l).stepNo = 3) ∧ ((s.tile ↑l).sp < (s.tile ↑l).cap - 1))) = true) ∧
  ((let s : State := withTile (atOp 4 0) {}; let l : TileId := 0;
   decide (((s.tile ↑l).stage = Stage.operand) ∧ ((s.tile ↑l).op (s.tile ↑l).stepNo = 4) ∧ ((s.tile ↑l).sp < (s.tile ↑l).cap - 1))) = true) ∧
  ((let s : State := withTile { atOp 5 0 with stack := [{ kind := .call, addr := 2047 }] } {}; let l : TileId := 0;
   decide (((s.tile ↑l).stage = Stage.operand) ∧ ((s.tile ↑l).op (s.tile ↑l).stepNo = 5)) &&
     headIs ((s.tile ↑l).stack) (fun f r => decide (f.kind = FrameKind.call))) = true) ∧
  ((let s : State := withTile { atOp 7 0 with stack := [{ kind := .exc, addr := 2047, cause := 1 }] } {}; let l : TileId := 0;
   decide (((s.tile ↑l).stage = Stage.operand) ∧ ((s.tile ↑l).op (s.tile ↑l).stepNo = 7)) &&
     headIs ((s.tile ↑l).stack) (fun f r => decide ((f.kind = FrameKind.exc) ∧ (f.cause = 1)))) = true) ∧
  ((let s : State := withTile (atOp 6 0) {}; let l : TileId := 0;
   decide (((s.tile ↑l).stage = Stage.operand) ∧ ((s.tile ↑l).op (s.tile ↑l).stepNo = 6) ∧ ((s.tile ↑l).topLoop = none) ∧
     ((s.tile ↑l).trapHolds = false))) = true) ∧
  ((let s : State := withTile { inEcyc := true, stage := .operand, prog := { progOp 6 (2 ^ 222 + 2 ^ 231) with seqCfg := 0x800 } } {};
   let l : TileId := 0;
   decide (((s.tile ↑l).stage = Stage.operand) ∧ ((s.tile ↑l).op (s.tile ↑l).stepNo = 6) ∧ ((s.tile ↑l).topLoop = none) ∧
     ((s.tile ↑l).trapHolds = true) ∧ (bit ((s.tile ↑l).ctrl (s.tile ↑l).stepNo) 231 = 1) ∧ ((s.tile ↑l).spill = none) ∧
     ((s.tile ↑l).tvecValid = true) ∧ ((s.tile ↑l).sp < (s.tile ↑l).cap))) = true) ∧
  ((let s : State := withTile { atOp 0 0 with stack := [{ kind := .loop, addr := 0, last := 0, rem := 2 }], sp := 1 } {}; let l : TileId := 0;
   decide (((s.tile ↑l).stage = Stage.operand) ∧ ((s.tile ↑l).op (s.tile ↑l).stepNo = 0)) &&
     headIs ((s.tile ↑l).stack) (fun f r => decide ((f.kind = FrameKind.loop) ∧ (f.last = (s.tile ↑l).stepNo)))) = true) ∧
  ((let s : State := withTile { atOp 3 0 with sp := 7, prog := { progOp 3 0 with seqCfg := 0x800 } } {}; let l : TileId := 0;
   decide (((s.tile ↑l).stage = Stage.operand) ∧ ((s.tile ↑l).sp = (s.tile ↑l).cap - 1) ∧ ((s.tile ↑l).tvecValid = true) ∧
     ((s.tile ↑l).op (s.tile ↑l).stepNo = 3))) = true) ∧
  ((let s : State := withTile { atOp 4 0 with sp := 7, prog := { progOp 4 0 with seqCfg := 0x800 } } {}; let l : TileId := 0;
   decide (((s.tile ↑l).stage = Stage.operand) ∧ ((s.tile ↑l).sp = (s.tile ↑l).cap - 1) ∧ ((s.tile ↑l).tvecValid = true) ∧
     ((s.tile ↑l).op (s.tile ↑l).stepNo = 4))) = true) ∧
  ((let s : State := withTile { atOp 5 0 with prog := { progOp 5 0 with seqCfg := 0x800 } } {}; let l : TileId := 0;
   decide (((s.tile ↑l).stage = Stage.operand) ∧ ((s.tile ↑l).stack = []) ∧ ((s.tile ↑l).sp = 0) ∧ ((s.tile ↑l).tvecValid = true) ∧
     ((s.tile ↑l).op (s.tile ↑l).stepNo = 5))) = true) ∧
  ((let s : State := withTile { atOp 7 0 with prog := { progOp 7 0 with seqCfg := 0x800 } } {}; let l : TileId := 0;
   decide (((s.tile ↑l).stage = Stage.operand) ∧ ((s.tile ↑l).stack = []) ∧ ((s.tile ↑l).sp = 0) ∧ ((s.tile ↑l).tvecValid = true) ∧
     ((s.tile ↑l).op (s.tile ↑l).stepNo = 7))) = true) ∧
  ((let w : Nat := 0; let terms : Nat := 2 ^ 20 - 1; decide ((terms < 2 ^ 20) ∧ (fld w 0 20 &&& 2 ^ 18 = 0) ∧ (bit w 22 = 0))) = true) ∧
  ((let w : Nat := 2 ^ 22; let terms : Nat := 2 ^ 20 - 1;
   decide ((terms < 2 ^ 20) ∧ (fld w 0 20 &&& 2 ^ 18 = 0) ∧ (bit w 22 = 1) ∧ (bit w 20 = 0) ∧ (bit w 21 = 0))) = true) ∧
  ((let w : Nat := 2 ^ 22 + 2 ^ 20; let terms : Nat := 2 ^ 20 - 1;
   decide ((terms < 2 ^ 20) ∧ (fld w 0 20 &&& 2 ^ 18 = 0) ∧ (bit w 22 = 1) ∧ (bit w 20 = 1) ∧ (bit w 21 = 0))) = true) ∧
  ((let w : Nat := 2 ^ 22; let terms : Nat := 2 ^ 20 - 1; decide ((terms < 2 ^ 20) ∧ (fld w 0 20 &&& 2 ^ 18 = 0) ∧ (bit w 22 = 1))) = true) := by
  decide +kernel

theorem witness_MacCommands :
  ((let s : State := withTile { macQ := [(15, [⟨1, 0, 1, 0, 0, true, 31, true, false, 0⟩])] } {}; let l : TileId := 0; let p : Lane16 := 15;
   ((s.tile ↑l).macReady (↑p) 0).isSome) = true) ∧
  ((let s : State := withTile { macQ := [(15, [⟨1, 0, 1, 1, 0, true, 31, true, false, 0⟩])] } {}; let l : TileId := 0; let p : Lane16 := 15;
   ((s.tile ↑l).macReady (↑p) 1).isSome) = true) ∧
  ((let s : State := withTile { macQ := [(15, [⟨1, 0, 1, 2, 0, true, 31, true, false, 0⟩])] } {}; let l : TileId := 0; let p : Lane16 := 15;
   ((s.tile ↑l).macReady (↑p) 2).isSome) = true) ∧
  ((let s : State := withTile { macQ := [(15, [⟨1, 0, 1, 3, 0, true, 31, true, false, 0⟩])] } {}; let l : TileId := 0; let p : Lane16 := 15;
   ((s.tile ↑l).macReady (↑p) 3).isSome) = true) ∧
  ((let s : State := withTile { macQ := [(15, [⟨1, 0, 1, 4, 0, true, 31, true, false, 0⟩])] } {}; let l : TileId := 0; let p : Lane16 := 15;
   ((s.tile ↑l).macReady (↑p) 4).isSome) = true) := by
  decide +kernel

theorem witness_TileValues :
  ((let w : Nat := 1; decide ((bit w 46 = 0) ∧ (bit w 39 = 0))) = true) ∧
  ((let v : Nat := 63; decide (v < 2 ^ 27)) = true) ∧
  ((let i : Nat := 1; decide (i < 2)) = true) ∧
  ((let f : Frame := { kind := .loop, addr := 2047, last := 2047, rem := 4096, code := 255, cause := 15, resv := 32767 };
   decide ((f.addr < 2 ^ 11) ∧ (f.last < 2 ^ 11) ∧ (f.rem ≤ 4096) ∧ (f.code < 2 ^ 8) ∧ (f.cause < 2 ^ 4) ∧ (f.resv < 2 ^ 15))) = true) ∧
  ((let f : Frame := { kind := .loop, addr := 2047, last := 2047, rem := 4096, code := 255, cause := 15, resv := 32767 };
   decide ((f.addr < 2 ^ 11) ∧ (f.last < 2 ^ 11) ∧ (f.rem ≤ 4096) ∧ (f.code < 2 ^ 8) ∧ (f.cause < 2 ^ 4) ∧ (f.resv < 2 ^ 15) ∧
     (f.kind = FrameKind.loop) ∧ (1 ≤ f.rem))) = true) := by
  decide +kernel

theorem witness_ArrayCommands :
  ((let s : State := withTile { bankQ := [(15, [⟨1, 0, 1, 0, 8191, 1, 0xFFFFFFFF#32, true, 31, true, 0⟩])] } {}; let l : TileId := 0;
   let p : Lane16 := 15; headIs ((s.tile ↑l).bankQ.get [] ↑p) (fun c r => decide ((c.op = 0) ∧ ((s.tile ↑l).spillFirst ↑p = false)))) = true) ∧
  ((let s : State := withTile { bankQ := [(15, [⟨1, 0, 1, 1, 8191, 1, 0xFFFFFFFF#32, true, 31, true, 0⟩])] } {}; let l : TileId := 0;
   let p : Lane16 := 15; headIs ((s.tile ↑l).bankQ.get [] ↑p) (fun c r => decide ((c.op = 1) ∧ ((s.tile ↑l).spillFirst ↑p = false)))) = true) ∧
  ((let s : State := withTile { bankQ := [(15, [⟨1, 0, 1, 2, 8191, 1, 0xFFFFFFFF#32, true, 31, true, 0⟩])] } {}; let l : TileId := 0;
   let p : Lane16 := 15; headIs ((s.tile ↑l).bankQ.get [] ↑p) (fun c r => decide ((c.op = 2) ∧ ((s.tile ↑l).spillFirst ↑p = false)))) = true) ∧
  ((let s : State := withTile { bankQ := [(15, [⟨1, 0, 1, 3, 8191, 1, 0xFFFFFFFF#32, true, 31, true, 0⟩])] } {}; let l : TileId := 0;
   let p : Lane16 := 15; headIs ((s.tile ↑l).bankQ.get [] ↑p) (fun c r => decide ((c.op = 3) ∧ ((s.tile ↑l).spillFirst ↑p = false)))) = true) := by
  decide +kernel

theorem witness_ScrubAndSpill :
  ((let s : State := withTile { hasImg := true } {}; let l : TileId := 0; let p : Lane16 := 0;
   decide (((s.tile ↑l).hasImg = true) ∧ ((s.ltile ↑l).bound = true) ∧ ((s.tile ↑l).bankQ.get [] ↑p = []) ∧
     ((s.tile ↑l).spillFirst ↑p = false))) = true) ∧
  ((let s : State := withTile { spill := some ⟨false, 8191, some { kind := .call, addr := 1 }, [], .nothing, 0⟩ } {}; let l : TileId := 0;
   let p : Lane16 := 15; decide ((s.tile ↑l).bankQ.get [] ↑p ≠ [] ∨ (s.tile ↑l).spillFirst ↑p = true)) = true) ∧
  ((let s : State := withTile { spill := some ⟨false, 8191, some { kind := .call, addr := 1 }, [], .nothing, 0⟩ } {}; let l : TileId := 0;
   ((s.tile ↑l).spill).any (fun sp => decide (sp.fill = false) && sp.frame.isSome)) = true) ∧
  ((let s : State := withTile { spill := some ⟨true, 8191, none, [], .nothing, 0⟩ } {}; let l : TileId := 0;
   ((s.tile ↑l).spill).any (fun sp => decide ((sp.fill = true) ∧ (sp.after = AfterFill.nothing) ∧
     (frameParOk ((s.tile ↑l).spillWord sp.word) = true)))) = true) ∧
  ((let s : State := withTile { prog := { depth := 1, seqCfg := 0x800 }, spill := some ⟨true, 8191, none, [], .nothing, 0⟩ } {};
   let l : TileId := 0;
   ((s.tile ↑l).spill).any (fun sp => decide ((sp.fill = true) ∧ ((s.tile ↑l).tvecValid = true) ∧ ((s.tile ↑l).sp + 1 < (s.tile ↑l).cap)))) = true) := by
  decide +kernel

theorem witness_Exchange :
  ((let s : State := { withTile {} {} with noc := { slots := [⟨1, 0, 0, 15, 0, 0, 0, 7, false, 0⟩] } };
   let p : Slot := ⟨1, 0, 0, 15, 0, 0, 0, 7, false, 0⟩;
   (s.tileOf p.ten p.dst).any (fun l => decide ((comesFirst slotWay p s.noc.slots = true) ∧ (s.slotFate l p = SlotFate.entered)))) = true) ∧
  ((let s : State := { withTile { lastEnded := 5 } {} with noc := { slots := [⟨1, 0, 0, 15, 0, 0, 0, 7, false, 0⟩] } };
   let p : Slot := ⟨1, 0, 0, 15, 0, 0, 0, 7, false, 0⟩;
   (s.tileOf p.ten p.dst).any (fun l => decide ((comesFirst slotWay p s.noc.slots = true) ∧ (s.slotFate l p = SlotFate.late)))) = true) ∧
  ((let s : State := { withTile {} {} with noc := { slots := [⟨1, 0, 0, 15, 0, 0, 9, 7, false, 0⟩] } };
   let p : Slot := ⟨1, 0, 0, 15, 0, 0, 9, 7, false, 0⟩;
   (s.tileOf p.ten p.dst).any (fun l => decide ((comesFirst slotWay p s.noc.slots = true) ∧ (s.slotFate l p = SlotFate.dropped)))) = true) ∧
  ((let s : State := withTile {} {}; let ten : TenId := 1; let src : TileId := 0; let dst : TileId := 0; let word : Lane16 := 0;
   let occ : Nat := 63; let ecyc : Nat := 63;
   (s.tileOf ↑ten ↑src).any (fun l => decide (comesFirst creditWay { ten := ↑ten, src := ↑src, dst := ↑dst, word := ↑word, occ := occ, ecyc := ecyc } s.noc.credits = true))) = true) ∧
  ((let s : State := withTile { sendQ := [⟨1, 0, 0, 15, 0, 0, 0, 7, false, 0⟩], credits := [⟨1, 0, 0, 15, 0, 0⟩] } {}; let l : TileId := 0;
   let i : Nat := 0; (s.mayDepart (↑l) i).any (fun p => decide (p.remote = false))) = true) ∧
  ((let s : State := withTile { sendQ := [⟨1, 0, 0, 15, 0, 0, 0, 7, false, 0⟩], lastEnded := 5 } {}; let l : TileId := 0; let i : Nat := 0;
   decide ((s.mayDepart (↑l) i = none) ∧ ((s.tile ↑l).halt = none)) &&
     ((s.tile ↑l).sendQ[i]?).any (fun p => decide (s.creditLost (↑l) p = true))) = true) ∧
  ((let s : State := withTile { sendQ := [⟨1, 0, 0, 15, 0, 0, 0, 7, true, 1⟩] } { img := some twoMods }; let l : TileId := 0; let i : Nat := 0;
   (s.mayDepart (↑l) i).any (fun p => decide (p.remote = true) && ((s.ten p.ten).img.bind fun im => im.linkFor p.dmod p.dst).isSome)) = true) ∧
  ((let s : State := withTile {} {}; let l : TileId := 0; decide ((s.ten (s.ltile ↑l).ten).replaying = false)) = true) ∧
  ((let s : State := withTile {} { recov := some ⟨.masked, .replay, 7, 9, 1, 0, [], none, false, 0⟩ }; let l : TileId := 0;
   decide ((s.ten (s.ltile ↑l).ten).replaying = true)) = true) := by
  decide +kernel

theorem witness_Ecycles :
  ((let w : Nat := 15; decide (w < 16)) = true) ∧
  ((let s : State := { withTile { inEcyc := true, ending := true, scrubbed := List.range 16 } {} with sched := { ltiles := [(0, { ten := 1, bound := true, resident := true }), (1, { ten := 1, itile := 1, bound := true, resident := true })] } };
   let l : TileId := 0;
   decide ((s.mayEnd ↑l = true) ∧ (∀ w : Nat, w < 16 → ((s.tile ↑l).arrWord w).full = false) ∧
     ((s.updTile (↑l) Tile.endEcycle).allEnded (s.ltile ↑l).ten ((s.tile ↑l).ecyc + 1) = false))) = true) ∧
  ((let s : State := withTile {} { started := true, run := .running }; let l : TileId := 0;
   decide (((s.ltile ↑l).bound = true) ∧ ((s.tile ↑l).inEcyc = false) ∧ ((s.tile ↑l).halt = none) ∧ (s.dev.mode ≠ Mode.safe) ∧
     ((s.ten (s.ltile ↑l).ten).recov = none) ∧ ((s.ten (s.ltile ↑l).ten).started = true) ∧
     (s.closedFor (s.ltile ↑l).ten (s.tile ↑l).endedCount = false) ∧ (s.movingFor (s.ltile ↑l).ten (s.tile ↑l).endedCount = false) ∧
     (s.startWaits (s.ltile ↑l).ten (s.tile ↑l).endedCount = false) ∧
     (s.startHeld (s.ltile ↑l).ten (s.ltile ↑l).itile (s.tile ↑l).endedCount = false))) = true) ∧
  ((let s : State := withTile {} { started := true, img := some oneTile, run := .running, recov := some ⟨.masked, .replay, 7, 9, 1, 0, [], none, false, 0⟩ };
   let l : TileId := 0;
   decide (((s.ltile ↑l).bound = true) ∧ ((s.tile ↑l).inEcyc = false) ∧ ((s.tile ↑l).halt = none) ∧ (s.dev.mode ≠ Mode.safe)) &&
     ((s.ten (s.ltile ↑l).ten).recov).any (fun r => decide ((r.phase = RecPhase.replay) ∧ ((s.tile ↑l).endedCount < r.stopAt) ∧
     (s.allEnded (s.ltile ↑l).ten ((s.tile ↑l).endedCount - 1) = true) ∧ (s.bndWaits (s.ltile ↑l).ten (s.tile ↑l).endedCount = false) ∧
     (s.flowFull (s.ltile ↑l).ten = false)))) = true) ∧
  ((let s : State := withTile { lastEnded := 3 } { started := true, img := some twoMods, run := .running, edgeTo := 9, done := 4 };
   let l : TileId := 0;
   decide (((s.ltile ↑l).bound = true) ∧ ((s.tile ↑l).inEcyc = false) ∧ ((s.tile ↑l).halt = none) ∧ (s.dev.mode ≠ Mode.safe) ∧
     ((s.ten (s.ltile ↑l).ten).recov = none) ∧ ((s.ten (s.ltile ↑l).ten).started = true) ∧
     (s.closedFor (s.ltile ↑l).ten (s.tile ↑l).endedCount = false) ∧
     (s.movingFor (s.ltile ↑l).ten (s.tile ↑l).endedCount = false ∨ s.ckptHolds (s.ltile ↑l).ten (s.tile ↑l).endedCount = true) ∧
     (s.startWaits (s.ltile ↑l).ten (s.tile ↑l).endedCount = true) ∧ (10 ∉ (s.tile ↑l).waited))) = true) ∧
  ((let s : State := withTile { inEcyc := true, ending := true, scrubbed := List.range 16 } {}; let l : TileId := 0;
   decide (((s.ten (s.ltile ↑l).ten).recov = none) ∧ (s.closedFor (s.ltile ↑l).ten (s.tile ↑l).endedCount = true))) = true) ∧
  ((let s : State := withTile {} { started := true, img := some oneTile, run := .running, recov := some ⟨.masked, .stopped, 7, 9, 1, 0, [], none, false, 0⟩ };
   let l : TileId := 0;
   ((s.ten (s.ltile ↑l).ten).recov).any (fun r => decide (r.phase ≠ RecPhase.replay ∨ r.stopAt ≤ (s.tile ↑l).endedCount))) = true) := by
  decide +kernel

theorem witness_Captures :
  ((let s : State := withTile { lastEnded := 65535 } { run := .running, done := 65536 }; let ten : TenId := 1;
   decide ((s.ckptAt (↑ten) (s.ten ↑ten).done = true) ∧ ((s.ten ↑ten).run.advancing = true) ∧ (s.noEcycle ↑ten = true) ∧
     ((s.ten ↑ten).recov = none) ∧ ((s.ten ↑ten).moving = false) ∧ (s.dev.mode ≠ Mode.safe))) = true) ∧
  ((let s : State := { cap := { queue := [{ ten := 1, due := 0, kind := some .host }] }, tenants := [(1, { moving := true })] };
   decide (s.cap.moving = none) && s.capHead.any (fun q => decide (s.poolRoom (s.capSize q) = true))) = true) ∧
  ((let s : State := { cap := { moving := some { ten := 1, due := 0, kind := some .host, seq := 65535 } } };
   s.cap.moving.any (fun q => decide ((q.kind = some CapKind.host) ∧ (q.seq ≠ 0) ∧ (q.ckpt = false) ∧ ((s.ten q.ten).reqs = [])))) = true) ∧
  ((let s : State := { cap := { draining := [⟨.host, 1, 0, 1, 0, 0, 0, 0, 0, [], ⟨0, [], [], 0, []⟩, [], [], [], 3, 0, 0⟩] } };
   let pathOk : Bool := true;
   headIs s.cap.draining (fun r rest => decide ((s.tokWaits (if r.kind.full = true then 0 else 5) r.tok = false) ∧
     (r.kind ≠ CapKind.safe ∨ pathOk = true)))) = true) ∧
  ((let s : State := { cap := { draining := [⟨.safe, 1, 0, 1, 0, 0, 0, 0, 0, [], ⟨0, [], [], 0, []⟩, [], [], [], 3, 0, 0⟩] } };
   headIs s.cap.draining (fun r rest => decide ((r.kind = CapKind.safe) ∧ (s.tokWaits 0 r.tok = false)))) = true) ∧
  ((let s : State := withTile {} { run := .running, done := 65536 }; let by' : TenId := 0; let x : TenId := 0; let n : BitVec 16 := 0;
   decide ((s.dev.mode.configured = true) ∧ (↑by' = 0 ∨ by' = x) ∧ ((n.toNat + 2 ^ 16 - (s.ten ↑x).capRel) % 2 ^ 16 < 2 ^ 15))) = true) ∧
  ((let s : State := withTile {} { run := .running, done := 65536 }; let by' : TenId := 1; let x : TenId := 0;
   decide ((s.dev.mode.configured = true) ∧ (↑by' ≠ 0) ∧ (by' ≠ x))) = true) ∧
  ((let s : State := { dev := { mode := .idle }, tenants := [(0, { img := some oneTile })], regs := [(0x92800, 1)] };
   let d : DRef := ⟨0, 0, 0, 1, 0, 0⟩; let ten : TenId := 0; let off : DWord := 0; let slots : Byte := 0;
   decide (s.fnUp ↑d.fn = true) && ((s.ten (target d ↑ten)).img).any (fun i => decide ((s.cap.queue = []) ∧ (s.cap.moving = none) ∧
     (BitVec.toNat off % 64 = 0) ∧ (BitVec.toNat off + BitVec.toNat slots * captureSlot (s.ten (target d ↑ten)).ntiles ≤ s.rsize (target d ↑ten)) ∧
     (s.inCarved (target d ↑ten) (s.ten (target d ↑ten)).ntiles (BitVec.toNat off) (BitVec.toNat slots * captureSlot (s.ten (target d ↑ten)).ntiles) = false) ∧
     (overlaps (BitVec.toNat off) (BitVec.toNat slots * captureSlot (s.ten (target d ↑ten)).ntiles) i.off i.len = false) ∧
     ((i.memRanges.any fun m => overlaps (BitVec.toNat off) (BitVec.toNat slots * captureSlot (s.ten (target d ↑ten)).ntiles) m.1 m.2) = false)))) = true) ∧
  ((let s : State := withTile {} { run := .running, done := 65536 }; let d : DRef := ⟨0, 0, 0, 1, 0, 0⟩; let ten : TenId := 0;
   decide ((s.fnUp ↑d.fn = true) ∧ ((s.ten (target d ↑ten)).img = none))) = true) ∧
  ((let s : State := { tenants := [(1, { ckptMoved := [(⟨4, [], [], 0, []⟩, 3)] })] }; let ten : TenId := 1;
   headIs ((s.ten ↑ten).ckptMoved) (fun ⟨c, tok⟩ rest => decide ((s.tokWaits 1 tok = false) ∧ ((s.ten ↑ten).spans = false)))) = true) := by
  decide +kernel

theorem witness_RunCommands :
  ((let s : State := { dev := { mode := .active }, tenants := [(0, { run := .running }), (1, { run := .running })] };
   let d : DRef := ⟨0, 0, 0, 1, 0, 0⟩; let count : Word := 1; decide ((s.fnUp ↑d.fn = true) ∧ (s.dev.mode ≠ Mode.safe) ∧ (count ≠ 0))) = true) ∧
  ((let s : State := { dev := { mode := .active }, tenants := [(0, { run := .running }), (1, { run := .running })] };
   let d : DRef := ⟨0, 0, 0, 1, 0, 0⟩; decide ((s.fnUp ↑d.fn = true) ∧ (s.dev.mode ≠ Mode.safe))) = true) ∧
  ((let s : State := { dev := { mode := .active }, tenants := [(0, { run := .running }), (1, { run := .running })] };
   let d : DRef := ⟨0, 0, 0, 1, 0, 0⟩; let ten : TenId := 0;
   decide ((s.fnUp ↑d.fn = true) ∧ (s.dev.mode ≠ Mode.safe) ∧ ((s.ten (target d ↑ten)).eff ≠ RunState.stopped))) = true) ∧
  ((let s : State := { dev := { mode := .active }, tenants := [(0, { run := .running }), (1, { run := .running })] };
   let d : DRef := ⟨0, 0, 0, 1, 0, 0⟩; let ten : TenId := 3;
   decide ((s.fnUp ↑d.fn = true) ∧ (s.dev.mode ≠ Mode.safe) ∧ ((s.ten (target d ↑ten)).eff.advancing = false))) = true) ∧
  ((let s : State := { dev := { mode := .active }, tenants := [(0, { run := .running }), (1, { run := .running })] };
   let d : DRef := ⟨0, 0, 0, 1, 0, 0⟩; let ten : TenId := 0;
   decide ((s.fnUp ↑d.fn = true) ∧ (s.dev.mode ≠ Mode.safe) ∧
     ((s.ten (target d ↑ten)).eff ≠ RunState.held ∨ s.releaseBarred (target d ↑ten) ↑d.fn = true))) = true) ∧
  ((let s : State := { dev := { mode := .idle }, host := { vfEn := true, numVfs := 255 } }; let d : DRef := ⟨1, 0, 0, 1, 0, 0⟩;
   decide ((s.fnUp ↑d.fn = true) ∧ (↑d.fn ≠ 0))) = true) ∧
  ((let s : State := inMode .safe; let d : DRef := ⟨0, 0, 0, 1, 0, 0⟩; decide ((s.fnUp ↑d.fn = true) ∧ (s.dev.mode = Mode.safe))) = true) ∧
  ((let s : State := { dev := { mode := .active }, tenants := [(0, { run := .stopped, img := some oneTile }), (1, { run := .stopped, img := some oneTile })] };
   let d : DRef := ⟨0, 0, 0, 1, 0, 0⟩; let ten : TenId := 0; let span : SpanAns := .ok;
   decide ((s.fnUp ↑d.fn = true) ∧ (s.dev.mode ≠ Mode.safe) ∧ (s.startRefusal (target d ↑ten) span = none))) = true) ∧
  ((let s : State := { dev := { mode := .active }, tenants := [(0, { run := .stopped, img := some oneTile }), (1, { run := .stopped, img := some oneTile })] };
   let d : DRef := ⟨0, 0, 0, 1, 0, 0⟩; let ten : TenId := 0; let span : SpanAns := .ok; let n : Word := 1;
   decide ((s.fnUp ↑d.fn = true) ∧ (s.dev.mode ≠ Mode.safe) ∧ (s.startRefusal (target d ↑ten) span = none) ∧ (n ≠ 0))) = true) ∧
  ((let s : State := { dev := { mode := .active }, tenants := [(0, { run := .running }), (1, { run := .running })] };
   let d : DRef := ⟨0, 0, 0, 1, 0, 0⟩; let ten : TenId := 0;
   decide ((s.fnUp ↑d.fn = true) ∧ (s.dev.mode ≠ Mode.safe) ∧ ((s.ten (target d ↑ten)).eff.advancing = true))) = true) ∧
  ((let s : State := { dev := { mode := .active }, tenants := [(0, { run := .held }), (1, { run := .held })] }; let d : DRef := ⟨0, 0, 0, 1, 0, 0⟩;
   let ten : TenId := 0;
   decide ((s.fnUp ↑d.fn = true) ∧ (s.dev.mode ≠ Mode.safe) ∧ ((s.ten (target d ↑ten)).eff = RunState.held) ∧
     (s.releaseBarred (target d ↑ten) ↑d.fn = false))) = true) ∧
  ((let s : State := { dev := { mode := .active }, tenants := [(0, { run := .running }), (1, { run := .running })] };
   let d : DRef := ⟨0, 0, 0, 1, 0, 0⟩; decide ((s.fnUp ↑d.fn = true) ∧ (↑d.fn = 0) ∧ (s.dev.mode ≠ Mode.safe))) = true) ∧
  ((let s : State := withTile {} { run := .stepping, done := 1 }; let x : Nat := 1;
   decide (((s.ten x).spans = false) ∧ (s.noEcycle x = false) ∧ ((s.ten x).recov = none))) = true) ∧
  ((let s : State := withTile {} { run := .stepping }; let ten : TenId := 1;
   decide (((s.ten ↑ten).run = RunState.stepping) ∧ ((s.ten ↑ten).stepLeft = 0) ∧ (s.noEcycle ↑ten = true) ∧ ((s.ten ↑ten).recov = none))) = true) := by
  decide +kernel

theorem witness_SchedulerRegisters :
  ((let s : State := withTile {} { run := .running }; let x : TenId := 1;
   decide ((s.dev.mode.configured = true) ∧ (s.restsStopped ↑x = false))) = true) ∧
  ((let s : State := { dev := { mode := .idle }, tenants := [(255, { img := some oneTile }), (1, { img := some oneTile }), (0, { img := some oneTile })] };
   let x : TenId := 3; decide ((s.dev.mode.configured = true) ∧ (s.restsStopped ↑x = true) ∧ ((s.ten ↑x).img = none))) = true) ∧
  ((let s : State := { dev := { mode := .idle }, tenants := [(255, { img := some oneTile }), (1, { img := some oneTile }), (0, { img := some oneTile })] };
   let x : TenId := 0; decide ((s.dev.mode.configured = true) ∧ ((s.ten ↑x).img.isSome = true))) = true) ∧
  ((let s : State := { dev := { mode := .idle }, tenants := [(255, { img := some oneTile }), (1, { img := some oneTile }), (0, { img := some oneTile })] };
   let x : TenId := 3; let v : Word := 4294967295;
   decide ((s.dev.mode.configured = true) ∧ ((s.ten ↑x).img = none) ∧ ((s.ten ↑x).load = none) ∧
     (1504 < s.rfld (599040 + 4 * ↑x) 0 11 + BitVec.toNat v % 2 ^ 11))) = true) ∧
  ((let s : State := { dev := { mode := .idle }, tenants := [(255, { img := some oneTile }), (1, { img := some oneTile }), (0, { img := some oneTile })] };
   let x : TenId := 3; let v : Word := 0;
   decide ((s.dev.mode.configured = true) ∧ ((s.ten ↑x).img = none) ∧ ((s.ten ↑x).load = none) ∧
     (s.rfld (599040 + 4 * ↑x) 0 11 + BitVec.toNat v % 2 ^ 11 ≤ 1504) ∧
     (∀ u : Nat, u < 256 → u ≠ ↑x → overlaps (s.rfld (599040 + 4 * ↑x) 0 11) (BitVec.toNat v % 2 ^ 11) (s.rfld (599040 + 4 * u) 0 11) (s.rfld (600064 + 4 * u) 0 11) = false))) = true) ∧
  ((let s : State := { dev := { mode := .idle }, tenants := [(255, { img := some oneTile }), (1, { img := some oneTile }), (0, { img := some oneTile })] };
   let v : Word := 0; decide ((s.dev.mode.configured = true) ∧ (bit (BitVec.toNat v) 4 = 0))) = true) ∧
  ((let s : State := { dev := { mode := .idle }, tenants := [(255, { img := some oneTile }), (1, { img := some oneTile }), (0, { img := some oneTile })] };
   let c : Fin 6 := 0; let v : Word := 0;
   decide ((s.dev.mode.configured = true) ∧
     (sumNat (List.map (fun i => if i = ↑c then min 100 (BitVec.toNat v % 2 ^ 7) else s.minShare i) (List.range 6)) ≤ 100))) = true) ∧
  ((let s : State := { dev := { mode := .idle }, tenants := [(255, { img := some oneTile }), (1, { img := some oneTile }), (0, { img := some oneTile })] };
   let c : Fin 6 := 0; let v : Word := 64;
   decide ((s.dev.mode.configured = true) ∧
     (100 < sumNat (List.map (fun i => if i = ↑c then min 100 (BitVec.toNat v % 2 ^ 7) else s.minShare i) (List.range 6))))) = true) ∧
  ((let s : State := { dev := { mode := .idle }, tenants := [(255, { img := some oneTile }), (1, { img := some oneTile }), (0, { img := some oneTile })] };
   let x : TenId := 0; let v : Word := 1;
   decide ((s.dev.mode.configured = true) ∧ (bit (BitVec.toNat v) 8 = 0) ∧ (BitVec.toNat v % 2 ^ 7 ≠ s.rfld (606208 + 4 * ↑x) 0 7) ∧
     ((s.ten ↑x).eff = RunState.stopped ∨ (s.ten ↑x).eff = RunState.held) ∧ (s.noEcycle ↑x = true))) = true) ∧
  ((let s : State := withTile { inEcyc := true } { run := .running }; let x : TenId := 1; let v : Word := 1;
   decide ((s.dev.mode.configured = true) ∧ (bit (BitVec.toNat v) 8 = 0) ∧ (BitVec.toNat v % 2 ^ 7 ≠ s.rfld (606208 + 4 * ↑x) 0 7) ∧
     (s.noEcycle ↑x = false))) = true) ∧
  ((let s : State := { dev := { mode := .idle }, tenants := [(255, { img := some oneTile }), (1, { img := some oneTile }), (0, { img := some oneTile })] };
   let n : PTileId := 0; decide (s.dev.mode.configured = true) && (s.ltileOfPhys ↑n).isSome) = true) := by
  decide +kernel

theorem witness_ImageCommands :
  ((let s : State := inMode .idle; let d : DRef := ⟨0, 0, 0, 1, 0, 0⟩; let ten : TenId := 0; let off : DWord := 0; let len : DWord := 0;
   decide ((s.fnUp ↑d.fn = true) ∧ (s.dev.mode ≠ Mode.safe) ∧ (BitVec.toNat off % 64 = 0) ∧ (s.sage.state ≠ 1) ∧
     ((s.ten (target d ↑ten)).load = none) ∧ (s.mayCommit (target d ↑ten) = true) ∧
     (BitVec.toNat off + BitVec.toNat len ≤ s.rsize (target d ↑ten)))) = true) ∧
  ((let s : State := inMode .idle; let d : DRef := ⟨0, 0, 0, 1, 0, 0⟩; let off : DWord := 1;
   decide ((s.fnUp ↑d.fn = true) ∧ (s.dev.mode ≠ Mode.safe) ∧ (BitVec.toNat off % 64 ≠ 0))) = true) ∧
  ((let s : State := { tenants := [(1, { load := some ⟨⟨0, 0, 0, 1, 0, 0⟩, 0, 64, 0⟩ })] }; let ten : TenId := 1;
   ((s.ten ↑ten).load).any (fun j => decide ((s.tokWaits 2 j.tok = false) ∧ (s.unitWaits = false) ∧
     (s.rangePoisoned (s.rbase ↑ten + j.off) j.len = false)))) = true) ∧
  ((let s : State := inMode .idle; let d : DRef := ⟨0, 0, 0, 1, 0, 0⟩; let ten : TenId := 0;
   decide ((s.fnUp ↑d.fn = true) ∧ (s.dev.mode ≠ Mode.safe) ∧
     ((s.ten (target d ↑ten)).eff = RunState.stopped ∨ (s.ten (target d ↑ten)).eff = RunState.held))) = true) := by
  decide +kernel

theorem witness_TriggerSteps :
  ((let s : State := { trig := { seqs := [(15, { armed := true, nextE := 7 })] }, tenants := [(0, { tapReady := [⟨7, 1, [], 0, 0⟩] })] };
   let q : Unit16 := 15;
   decide (((s.seqOf ↑q).armed = true) ∧ ((s.seqOf ↑q).frozen = false) ∧ (s.linked ↑q = [])) &&
     (List.find? (fun y => decide ((s.seqOf ↑q).nextE ≤ y.e)) (s.ten (s.seqOwner ↑q)).tapReady).any (fun x => decide ((∀ u : Nat, u < 8 → s.maskMode (↑q) u ≠ 2) ∧
     ((s.seqOf ↑q).holding = none) ∧ (bit (s.reg (trgReg ↑q + 256 + 16 * (s.seqOf ↑q).st)) 22 = 0) ∧
     (bit (s.reg (trgReg ↑q + 256 + 16 * (s.seqOf ↑q).st + 8)) 22 = 0)))) = true) ∧
  ((let s : State := { trig := { seqs := [(15, { armed := true, nextE := 7 })] }, tenants := [(0, { tapReady := [⟨7, 1, [], 0, 0⟩] })], regs := [(0xD7900, 0x400000), (0xD7904, 15)] };
   let q : Unit16 := 15;
   decide (((s.seqOf ↑q).armed = true) ∧ ((s.seqOf ↑q).frozen = false) ∧ (s.linked ↑q = [])) &&
     (List.find? (fun y => decide ((s.seqOf ↑q).nextE ≤ y.e)) (s.ten (s.seqOwner ↑q)).tapReady).any (fun x => decide ((∀ u : Nat, u < 8 → s.maskMode (↑q) u ≠ 2) ∧
     ((s.seqOf ↑q).holding = none) ∧ (s.reg (trgReg ↑q + 256 + 16 * (s.seqOf ↑q).st) = 2 ^ 22) ∧
     (s.reg (trgReg ↑q + 260 + 16 * (s.seqOf ↑q).st) < 16)))) = true) := by
  decide +kernel

theorem witness_TriggerUnit :
  ((let s : State := { dev := { mode := .idle }, regs := [(901120, 3)] }; let i : Fin 4 := 1; decide (bit (s.reg (901120 + 4 * ↑i)) 0 = 0)) = true) ∧
  ((let s : State := { dev := { mode := .idle }, regs := [(901120, 3)] }; let i : Fin 4 := 0;
   decide ((fld (s.reg (901120 + 4 * ↑i)) 0 3 = 3) ∧ (s.trig.inPins.testBit ↑i = false) ∧ (s.dev.mode.idleToDerate = true) ∧
     (∀ q : Nat, q < 16 → (s.seqOf q).armed = false))) = true) ∧
  ((let s : State := { trig := { seqs := [(15, { armed := true, timer := [(1, 0, false)] })] }, tenants := [(0, { run := .running })] };
   let q : Unit16 := 15; let i : Fin 2 := 1;
   decide (((s.seqOf ↑q).armed = true) ∧ (s.timerDue ↑q ↑i = true) ∧ ((List.any (s.seqOf ↑q).timer fun e => decide (e.1 = ↑i ∧
     e.2.2 = false)) = true) ∧ (s.idleOwner (s.seqOwner ↑q) = false))) = true) ∧
  ((let s : State := { trig := { seqs := [(15, { holding := some ⟨1, 0, 0, 0⟩ })] } }; let q : Unit16 := 15;
   ((s.seqOf ↑q).holding).any (fun h => decide ((h.mode = 1) ∧ ((s.seqOf ↑q).frozen = false) ∧ (s.thyPast h.target = true)))) = true) ∧
  ((let s : State := { dev := { mode := .idle }, regs := [(901120, 3)] }; let i : Fin 4 := 0; decide (s.rfld (901136 + 4 * ↑i) 1 1 = 0)) = true) ∧
  ((let s : State := { regs := [(0xDC010, 2)] }; let i : Fin 4 := 0; decide (s.rfld (901136 + 4 * ↑i) 1 1 = 1)) = true) ∧
  ((let s : State := { dev := { mode := .idle }, regs := [(901120, 3)] }; let q : Unit16 := 0;
   decide ((s.dev.mode.configured = true) ∧ ((s.seqOf ↑q).armed = false))) = true) ∧
  ((let s : State := { dev := { mode := .idle }, regs := [(901120, 3)] }; let by' : TenId := 1;
   decide ((s.dev.mode.configured = true) ∧ (↑by' ≠ 0))) = true) ∧
  ((let s : State := { dev := { mode := .idle }, regs := [(901120, 3)] }; let q : Unit16 := 0; let by' : TenId := 0;
   decide ((s.dev.mode.configured = true) ∧ (↑by' = 0 ∨ ↑by' = s.seqOwner ↑q) ∧ ((s.seqOf ↑q).armed = false) ∧
     ((s.seqOf ↑q).frozen = false))) = true) ∧
  ((let s : State := { dev := { mode := .idle }, regs := [(901120, 3)] }; let q : Unit16 := 1; let by' : TenId := 0;
   decide ((s.dev.mode.configured = true) ∧ (↑by' = 0 ∨ ↑by' = s.seqOwner ↑q) ∧ (s.linked ↑q = []))) = true) ∧
  ((let s : State := { withTile { inEcyc := true } { run := .running } with regs := [(0xD7800, 1)] }; let q : Unit16 := 15; let by' : TenId := 0;
   decide ((s.dev.mode.configured = true) ∧ (↑by' = 0 ∨ ↑by' = s.seqOwner ↑q) ∧ (s.idleOwner (s.seqOwner ↑q) = false))) = true) ∧
  ((let s : State := { dev := { mode := .idle }, regs := [(901120, 3)] }; let q : Unit16 := 0; let by' : TenId := 1;
   decide ((s.dev.mode.configured = true) ∧ (↑by' ≠ 0) ∧ (↑by' ≠ s.seqOwner ↑q))) = true) := by
  decide +kernel

theorem witness_Acquisition :
  ((let s : State := { dev := { mode := .idle }, trig := { acq := [(15, { st := .run, gap := some (1, 2), waiting := [[1]], widx := 2, ridx := 2 })] } };
   let c : Unit16 := 0; let by' : TenId := 0;
   decide ((s.dev.mode.configured = true) ∧ (↑by' = 0 ∨ ↑by' = s.acqOwner ↑c) ∧
     ((s.acqOf ↑c).st = AcqState.off ∨ (s.acqOf ↑c).st = AcqState.stopped))) = true) ∧
  ((let s : State := { dev := { mode := .idle }, trig := { acq := [(15, { st := .run, gap := some (1, 2), waiting := [[1]], widx := 2, ridx := 2 })] } };
   let c : Unit16 := 0; let by' : TenId := 0;
   decide ((s.dev.mode.configured = true) ∧ (↑by' = 0 ∨ ↑by' = s.acqOwner ↑c) ∧
     ((s.acqOf ↑c).st = AcqState.off ∨ (s.acqOf ↑c).st = AcqState.stopped) ∧ (acqCtlStored (s.reg (acqReg ↑c)) = s.reg (acqReg ↑c)) ∧
     ((s.acqOf ↑c).gap = none) ∧
     (s.acqFits (↑c) (acqRecord 16 (↑c) (s.acqOwner ↑c) 0 (s.ten (s.acqOwner ↑c)).done s.thy.sec s.thy.ns 0 []) = true))) = true) ∧
  ((let s : State := { dev := { mode := .idle }, trig := { acq := [(15, { st := .run, gap := some (1, 2), waiting := [[1]], widx := 2, ridx := 2 })] } };
   let c : Unit16 := 15; let by' : TenId := 0;
   decide ((s.dev.mode.configured = true) ∧ (↑by' = 0 ∨ ↑by' = s.acqOwner ↑c) ∧
     ((s.acqOf ↑c).st = AcqState.run ∨ (s.acqOf ↑c).st = AcqState.post))) = true) ∧
  ((let s : State := { dev := { mode := .idle }, trig := { acq := [(15, { st := .pacing, gap := some (1, 2), waiting := [[1]], widx := 2, ridx := 2 })] } };
   let c : Unit16 := 15; let by' : TenId := 0;
   decide ((s.dev.mode.configured = true) ∧ (↑by' = 0 ∨ ↑by' = s.acqOwner ↑c) ∧ ((s.acqOf ↑c).st = AcqState.pacing))) = true) ∧
  ((let s : State := { dev := { mode := .idle }, regs := [(acqReg 0 + 0x10, 1), (acqReg 1 + 0x10, 1), (acqReg 0, 0x100000), (acqReg 15 + 0x10, 1), (acqReg 15, 0x100000)] };
   let c : Unit16 := 0; let owner : TenId := 0;
   decide ((s.dev.mode.configured = true) ∧ (s.acqRingBad (↑owner) (s.acqBase ↑c) (2 ^ fld (s.reg (acqReg ↑c)) 16 6) = true))) = true) ∧
  ((let s : State := { dev := { mode := .idle }, trig := { acq := [(15, { st := .run, gap := some (1, 2), waiting := [[1]], widx := 2, ridx := 2 })] } };
   let c : Unit16 := 0; let owner : TenId := 0;
   decide ((s.dev.mode.configured = true) ∧ (s.acqRingBad (↑owner) (s.acqBase ↑c) (2 ^ fld (s.reg (acqReg ↑c)) 16 6) = false))) = true) ∧
  ((let s : State := { dev := { mode := .idle }, trig := { acq := [(15, { st := .run, gap := some (1, 2), waiting := [[1]], widx := 2, ridx := 2 })] } };
   let by' : TenId := 1; decide ((s.dev.mode.configured = true) ∧ (↑by' ≠ 0))) = true) ∧
  ((let s : State := { dev := { mode := .idle }, trig := { acq := [(15, { st := .run, gap := some (1, 2), waiting := [[1]], widx := 2, ridx := 2 })] } };
   let c : Unit16 := 15; decide (((s.acqOf ↑c).st.runs = true) ∧ ((s.acqOf ↑c).gap.isSome = true) ∧ (s.acqFits (↑c) (zeros 32) = true))) = true) ∧
  ((let s : State := { dev := { mode := .idle }, trig := { acq := [(15, { st := .pacing, gap := some (1, 2), waiting := [[1]], widx := 2, ridx := 2 })] } };
   let c : Unit16 := 15;
   decide ((s.acqOf ↑c).st = AcqState.pacing) && headIs ((s.acqOf ↑c).waiting) (fun r rest => rest.isEmpty &&
     decide (((s.acqOf ↑c).pacingFrom = AcqState.run) ∧ (s.acqFits (↑c) r = true)))) = true) ∧
  ((let s : State := { trig := { acq := [(15, { st := .pacing, waiting := [[1]], widx := 2, ridx := 2 })] }, regs := [(acqReg 15 + 28, 1)] };
   let c : Unit16 := 15; let ms : BitVec 16 := 1;
   decide ((s.acqOf ↑c).st = AcqState.pacing) && headIs ((s.acqOf ↑c).waiting) (fun r w => decide ((s.rfld (acqReg ↑c + 28) 0 16 ≠ 0) ∧
     (s.rfld (acqReg ↑c + 28) 0 16 ≤ ms.toNat)))) = true) ∧
  ((let s : State := { trig := { acq := [(0, { staging := [([1], 5)] })] }, regs := [(0x92800, 1), (acqReg 0, 0x101000)] }; let c : Unit16 := 0;
   headIs ((s.acqOf ↑c).staging) (fun ⟨r, tok⟩ rest => decide ((s.tokWaits 5 tok = false) ∧ ((s.acqOf ↑c).held = []) ∧
     (s.acqMode ↑c = 0 ∨ (s.acqOf ↑c).widx - (s.acqOf ↑c).ridx + r.length ≤ s.acqSize ↑c) ∧
     (s.acqBase ↑c + s.acqSize ↑c ≤ s.rsize (s.acqOwner ↑c))))) = true) ∧
  ((let s : State := { dev := { mode := .idle }, trig := { acq := [(15, { st := .run, gap := some (1, 2), waiting := [[1]], widx := 2, ridx := 2 })] } };
   let c : Unit16 := 0; let by' : TenId := 0; let v : DWord := 0;
   decide ((s.dev.mode.configured = true) ∧ (↑by' = 0 ∨ ↑by' = s.acqOwner ↑c) ∧ ((s.acqOf ↑c).ridx ≤ BitVec.toNat v) ∧
     (BitVec.toNat v ≤ (s.acqOf ↑c).widx))) = true) ∧
  ((let s : State := { dev := { mode := .idle }, trig := { acq := [(15, { st := .run, gap := some (1, 2), waiting := [[1]], widx := 2, ridx := 2 })] } };
   let c : Unit16 := 0; let by' : TenId := 0; let v : DWord := 1;
   decide ((s.dev.mode.configured = true) ∧ (↑by' = 0 ∨ ↑by' = s.acqOwner ↑c) ∧
     (BitVec.toNat v < (s.acqOf ↑c).ridx ∨ (s.acqOf ↑c).widx < BitVec.toNat v))) = true) ∧
  ((let bs : List Byte := [1]; let size : Nat := 63; let i : Nat := 0; decide ((0 < size) ∧ (bs.length ≤ size) ∧ (i < bs.length))) = true) ∧
  ((let bs : List Byte := []; let base : Nat := 63; let size : Nat := 63; let x : Nat := 63; let a : Nat := 63;
   decide ((0 < size) ∧ (bs.length ≤ size) ∧ (∀ i : Nat, i < bs.length → a ≠ base + (x + i) % size))) = true) := by
  decide +kernel

theorem witness_CaptureRequests :
  ((let s : State := { withTile { inEcyc := true } { img := some oneTile, run := .running } with host := { vfEn := true, numVfs := 255 } };
   let d : DRef := ⟨0, 0, 0, 1, 0, 0⟩; let ten : TenId := 0;
   decide ((s.fnUp ↑d.fn = true) ∧ (s.dev.mode ≠ Mode.safe) ∧ ((s.ten (target d ↑ten)).img = none))) = true) ∧
  ((let s : State := { withTile { inEcyc := true } { img := some oneTile, run := .running } with host := { vfEn := true, numVfs := 255 } };
   let d : DRef := ⟨0, 0, 0, 1, 0, 0⟩; let ten : TenId := 1;
   decide ((s.fnUp ↑d.fn = true) ∧ (s.dev.mode ≠ Mode.safe) ∧ ((s.ten (target d ↑ten)).img.isSome = true) ∧
     ((s.ten (target d ↑ten)).capSlots = 0))) = true) ∧
  ((let s : State := { withTile { inEcyc := true } { img := some oneTile, run := .running, capSlots := 1, capOff := 0 } with host := { vfEn := true, numVfs := 255 } };
   let d : DRef := ⟨0, 0, 0, 1, 0, 0⟩; let ten : TenId := 1;
   decide ((s.fnUp ↑d.fn = true) ∧ (s.dev.mode ≠ Mode.safe) ∧ ((s.ten (target d ↑ten)).img.isSome = true) ∧
     (0 < (s.ten (target d ↑ten)).capSlots) ∧ (s.capPending none < 64) ∧ (s.capPending (some (target d ↑ten)) < 4) ∧
     (s.capShared (target d ↑ten) (s.dueOf (target d ↑ten)) = none) ∧ ((s.ten (target d ↑ten)).slotFree (s.ten (target d ↑ten)).capNext = true) ∧
     ((s.ten (target d ↑ten)).run ≠ RunState.swapped) ∧ ((s.ten (target d ↑ten)).spans = false) ∧ (s.noEcycle (target d ↑ten) = false) ∧
     ((s.ten (target d ↑ten)).recov = none))) = true) := by
  decide +kernel

theorem witness_ErrorLog :
  ((let f : FaultMgr := { intake := [⟨0x1002, 2, 3, none, 4, 1, 0, 0⟩] }; let r : Report := ⟨0x1002, 2, 3, none, 4, 1, 0, 0⟩;
   decide ((f.intake.any fun q => q.same r) = true)) = true) ∧
  ((let f : FaultMgr := { intake := [⟨0x1002, 2, 3, none, 4, 1, 0, 0⟩] }; let r : Report := ⟨0x1002, 2, 3, none, 4, 1, 0, 0⟩;
   decide ((f.intake.any fun q => q.same r) = true) && (List.find? (fun x => x.same r) f.intake).isSome) = true) ∧
  ((let f : FaultMgr := {}; let r : Report := ⟨0x1002, 2, 3, none, 4, 1, 0, 0⟩;
   decide (((f.intake.any fun q => q.same r) = false) ∧ (f.widx = f.ridx) ∧ (f.intake.length < 64))) = true) ∧
  ((let f : FaultMgr := { intake := (List.range 64).map (fun i => ⟨i, 2, 3, none, 4, 1, 0, 0⟩) };
   let r : Report := ⟨0x1002, 2, 3, none, 4, 1, 0, 0⟩;
   decide (((f.intake.any fun q => q.same r) = false) ∧ (f.widx = f.ridx) ∧ (64 ≤ f.intake.length))) = true) ∧
  ((let s : State := { fm := { intake := [⟨0x1002, 2, 3, none, 4, 1, 0, 0⟩], widx := 1023 } };
   headIs s.fm.intake (fun r rest => decide ((BitVec.toNat (s.fm.widx - s.fm.ridx) < 1024) ∧ (r.cls < 3)))) = true) ∧
  ((let s : State := { fm := { intake := [⟨0x1002, 3, 3, none, 4, 1, 0, 0⟩], widx := 1023 } };
   headIs s.fm.intake (fun r rest => decide ((BitVec.toNat (s.fm.widx - s.fm.ridx) < 1024) ∧ (3 ≤ r.cls)))) = true) ∧
  ((let s : State := { dev := { mode := .idle }, fm := { widx := 1024 } }; decide (1024 ≤ BitVec.toNat (s.fm.widx - s.fm.ridx))) = true) ∧
  ((let s : State := { dev := { mode := .idle }, fm := { widx := 1024 } }; let v : Word := 0;
   decide ((s.dev.mode.configured = true) ∧ (BitVec.toNat (v - s.fm.ridx) ≤ BitVec.toNat (s.fm.widx - s.fm.ridx)))) = true) ∧
  ((let s : State := { dev := { mode := .idle }, fm := { widx := 1024 } }; let v : Word := 4294967295;
   decide ((s.dev.mode.configured = true) ∧ (BitVec.toNat (s.fm.widx - s.fm.ridx) < BitVec.toNat (v - s.fm.ridx)))) = true) ∧
  ((let s : State := { dev := { mode := .idle }, fm := { widx := 1024 } }; let x : TenId := 0;
   decide ((s.dev.mode.configured = true) ∧ ((s.ten ↑x).img = none))) = true) ∧
  ((let s : State := { dev := { mode := .idle }, tenants := [(255, { img := some oneTile }), (1, { img := some oneTile }), (0, { img := some oneTile })] };
   let x : TenId := 0; let v : Word := 0;
   decide ((s.dev.mode.configured = true) ∧ ((s.ten ↑x).img.isSome = true) ∧
     (fld (ckptCfgStored (BitVec.toNat v)) 0 21 ≠ fld (fld (s.reg (462848 + 4 * ↑x)) 0 24) 0 21))) = true) := by
  decide +kernel

theorem witness_Recoveries :
  ((let s : State := withTile { bankQ := [], inEcyc := true, stage := .evaluated, sendQ := (List.replicate 17 ⟨1, 0, 0, 15, 0, 0, 0, 7, false, 0⟩) } {};
   let l : TileId := 0; let x : TenId := 1;
   decide (((s.ltile ↑l).bound = true) ∧ ((s.ltile ↑l).ten = ↑x) ∧ (s.waitsLocal ↑l = true) ∧ ((s.tile ↑l).halt = none) ∧
     (s.dev.mode ≠ Mode.safe) ∧ ((s.ten ↑x).recov = none) ∧ (s.dev.refits = []))) = true) ∧
  ((let s : State := { dev := { mode := .refit, refits := [0] }, tenants := [(0, { recov := some ⟨.masked, .stopped, 7, 9, 1, 0, [], none, false, 0⟩, drained := true })] };
   let ten : TenId := 0;
   ((s.ten ↑ten).recov).any (fun r => decide ((r.phase = RecPhase.stopped) ∧ (r.ltiles = []) ∧ ((s.ten ↑ten).drained = true) ∧
     (s.dev.mode ≠ Mode.safe) ∧ (s.dev.refits = [↑ten]) ∧ (s.faultCapture ↑ten = false) ∧ (s.allSettled ↑ten = true) ∧ (s.rebalOf ↑ten = none) ∧
     (s.faultyTiles = []) ∧ (s.allPlaced ↑ten = true) ∧ (r.kind ≠ RecKind.swapIn)))) = true) ∧
  ((let s : State := { dev := { mode := .active }, tenants := [(1, { recov := some ⟨.masked, .placed, 7, 9, 1, 0, [], none, false, 0⟩, newest := some ⟨7, [], [], 0, []⟩ })] };
   let ten : TenId := 1; let newBad : Bool := false; let oldBad : Bool := true;
   ((s.ten ↑ten).recov).any (fun r => decide ((r.phase = RecPhase.placed) ∧ (s.tokWaits 0 r.tok = false) ∧ (s.deepBusy ↑ten = false) ∧
     (s.dev.mode ≠ Mode.safe) ∧ (s.darkDomains (s.boundTiles ↑ten) = []) ∧ (s.dev.refits = []) ∧ (s.noc.dsPoison = [])) &&
     ((s.ten ↑ten).readable r.k newBad oldBad).any (fun v => decide ((v.k = r.k) ∧ (r.kind = RecKind.masked) ∧ (v.k < r.upTo))))) = true) ∧
  ((let s : State := withTile { inEcyc := true, fetched := some 0, prog := { depth := 1, dict := [], xbar := [(0, 0x800#768)] } } { img := some twoMods };
   let ten : TenId := 1; let ms : Nat := 63;
   decide (((s.ten ↑ten).spans = true) ∧ (s.partDue (↑ten) ms = true) ∧ (s.detourOpen ↑ten = false) ∧ (s.waitsRemote ↑ten = true) ∧
     ((s.ten ↑ten).holds = []) ∧ (s.dev.mode ≠ Mode.safe))) = true) ∧
  ((let s : State := { host := { cqs := [(8, { en := true })] } }; let ten : TenId := 1;
   decide (((List.filter (fun c => decide (c.fn = ↑ten ∧ c.typ = 5)) s.host.cpls).length < 256) ∧
     ((s.cq (↑ten) (s.errRing ↑ten)).en = true))) = true) ∧
  ((let s : State := { host := { cpls := List.replicate 256 ⟨1, 0, 5, 0, 255, .raw [], false, false⟩ } }; let ten : TenId := 1;
   decide ((256 ≤ (List.filter (fun c => decide (c.fn = ↑ten ∧ c.typ = 5)) s.host.cpls).length))) = true) := by
  decide +kernel

theorem witness_Scheduling :
  ((let s : State := { withTile {} { run := .running, img := some oneTile } with tenants := [(1, { run := .running, img := some oneTile }), (2, { img := some { mods := [(0, 192)], tiles := [(0, {})] }, run := .swapped, back := .running })] };
   let x : TenId := 1; decide ((s.inTiles ↑x = true) ∧ ((s.ten ↑x).runnable = true) ∧ (s.dev.mode ≠ Mode.safe) ∧ (s.victimNeeded = true))) = true) ∧
  ((let s : State := { withTile {} { run := .running } with sched := { ltiles := [(0, { ten := 1, bound := true, resident := true })], swap := some ⟨2, [1], [], 0⟩ } };
   let x : TenId := 1; decide ((s.inTiles ↑x = true) ∧ ((s.ten ↑x).runnable = true) ∧ (s.dev.mode ≠ Mode.safe) ∧ (s.victimNeeded = false))) = true) ∧
  ((let s : State := { sched := { chosen := some (1, []) } };
   s.sched.chosen.any (fun ⟨h, vs⟩ => vs.isEmpty && decide ((s.sched.swap = none) ∧ (s.dev.mode ≠ Mode.hold) ∧ (s.dev.mode ≠ Mode.safe) ∧
     (s.holdCond = false) ∧ (s.sched.derateOut = []) ∧ (s.underRefit [h] (List.map (fun e => e.2.1) (s.swapPlan h [])) = false) ∧
     (s.darkDomains (List.map (fun e => e.2.1) (s.swapPlan h [])) = []) ∧
     (swapRate (s.swapBytes h (s.swapPlan h [])) ≤ s.sched.rate - s.sched.resv)))) = true) ∧
  ((let s : State := { dev := { mode := .active }, sched := { chosen := some (1, []) }, tenants := [(1, { img := some oneTile, run := .swapped, back := .running })] };
   s.sched.chosen.any (fun ⟨h, vs⟩ => decide ((s.sched.swap = none) ∧ (s.dev.mode ≠ Mode.hold) ∧ (s.dev.mode ≠ Mode.safe) ∧ (s.holdCond = false) ∧
     (s.sched.derateOut = []) ∧ (s.underRefit (h :: vs) (List.map (fun e => e.2.1) (s.swapPlan h vs)) = false) ∧
     (s.darkDomains (List.map (fun e => e.2.1) (s.swapPlan h vs)) ≠ [])))) = true) ∧
  ((let s : State := { dev := { mode := .active }, sched := { chosen := some (1, []), resv := 2 ^ 40 }, tenants := [(1, { img := some oneTile, run := .swapped, back := .running })], pwr := { domains := [(0, { on := true, good := true })] } };
   s.sched.chosen.any (fun ⟨h, vs⟩ => decide ((s.sched.swap = none) ∧ (s.dev.mode ≠ Mode.hold) ∧ (s.dev.mode ≠ Mode.safe) ∧ (s.holdCond = false) ∧
     (s.sched.derateOut = []) ∧ (s.underRefit (h :: vs) (List.map (fun e => e.2.1) (s.swapPlan h vs)) = false) ∧
     (s.darkDomains (List.map (fun e => e.2.1) (s.swapPlan h vs)) = []) ∧
     (s.sched.rate - s.sched.resv < swapRate (s.swapBytes h (s.swapPlan h vs)))))) = true) ∧
  ((let s : State := inMode .hold; decide (s.dev.mode = Mode.hold ∨ s.holdCond = true ∨ s.sched.derateOut ≠ [])) = true) ∧
  ((let s : State := { dev := { mode := .active }, sched := { swap := some ⟨2, [1], [], 0⟩ }, tenants := [(1, { moving := true, run := .running })] };
   let v : TenId := 1;
   decide ((s.leaving ↑v = true) ∧ ((s.ten ↑v).moving = true) ∧ (s.noEcycle ↑v = true) ∧ ((s.ten ↑v).recov = none) ∧
     ((s.ten ↑v).run ≠ RunState.swapped) ∧ (s.dev.mode ≠ Mode.safe) ∧ ((s.ten ↑v).reqs = []) ∧ (s.cap.moving = none) ∧ (s.cap.queue = []) ∧
     (s.poolRoom (stateSlot (s.ten ↑v).ntiles) = true) ∧ (s.dev.refits = []) ∧ (s.sched.derateQ = []))) = true) ∧
  ((let s : State := { sched := { draining := [(1, ⟨7, [], [], 0, []⟩, 3)] } }; let x : TenId := 1;
   (List.find? (fun e => decide (e.1 = ↑x)) s.sched.draining).any (fun ⟨k, v, tok⟩ => decide ((tok ≠ 0) ∧ (s.tokWaits 2 tok = false)))) = true) ∧
  ((let s : State := { dev := { mode := .active }, sched := { swap := some ⟨1, [2], [2], 0⟩ }, tenants := [(1, { img := some oneTile, run := .swapped, back := .running })], pwr := { domains := [(0, { on := true, good := true })] } };
   s.sched.swap.any (fun w => decide (((w.victims.all fun v => w.emptied.contains v) = true) ∧ (s.dev.mode ≠ Mode.safe) ∧
     ((s.ten w.inT).img.isSome = true) ∧ ((s.ten w.inT).run = RunState.swapped) ∧
     (s.underRefit [w.inT] (List.map (fun e => e.2.1) (s.planFor w.inT s.freeTiles)) = false) ∧
     (s.darkDomains (List.map (fun e => e.2.1) (s.planFor w.inT s.freeTiles)) = []) ∧
     ((s.ten w.inT).ntiles ≤ (s.planFor w.inT s.freeTiles).length) ∧ ((s.ten w.inT).fromCkpt = false) ∧
     (s.rangePoisoned (s.swapBase w.inT) (stateSlot (s.ten w.inT).ntiles) = false)))) = true) ∧
  ((let s : State := { dev := { mode := .active }, sched := { swap := some ⟨1, [2], [2], 0⟩ } };
   s.sched.swap.any (fun w => decide (((w.victims.all fun v => w.emptied.contains v) = true) ∧ (s.dev.mode ≠ Mode.safe) ∧
     (s.underRefit [w.inT] (List.map (fun e => e.2.1) (s.planFor w.inT s.freeTiles)) = false) ∧ ((s.ten w.inT).img = none)))) = true) ∧
  ((let s : State := { withTile {} { run := .running } with sched := { ltiles := [(0, { ten := 1, bound := true, resident := true })], swap := some ⟨2, [1], [], 0⟩ } };
   decide (s.sched.derateQ = [])) = true) := by
  decide +kernel

theorem witness_Rebalances :
  ((let s : State := { dev := { mode := .active }, host := { vfEn := true, numVfs := 255 } }; let d : DRef := ⟨1, 0, 0, 1, 0, 0⟩;
   decide ((s.fnUp ↑d.fn = true) ∧ (↑d.fn ≠ 0))) = true) ∧
  ((let s : State := withTile {} { img := some oneTile, run := .running }; let d : DRef := ⟨0, 0, 0, 1, 0, 0⟩;
   decide ((s.fnUp ↑d.fn = true) ∧ (↑d.fn = 0) ∧ (s.dev.mode ≠ Mode.safe))) = true) ∧
  ((let s : State := withTile {} { img := some oneTile, run := .running }; let d : DRef := ⟨0, 0, 0, 1, 0, 0⟩; let x : TenId := 1;
   let ps : List (Byte × Byte) := [(0, 1)];
   decide ((s.fnUp ↑d.fn = true) ∧ (↑d.fn = 0) ∧ (s.dev.mode ≠ Mode.safe) ∧
     (s.rebalStatus (↑x) (List.map (fun p => (BitVec.toNat p.1, BitVec.toNat p.2)) ps) = 0) ∧ ((s.ten ↑x).recov = none))) = true) ∧
  ((let s : State := { dev := { mode := .active }, sched := { ltiles := [(0, { ten := 1, bound := true, resident := true })] }, tiles := [(0, {})], tenants := [(1, { img := some oneTile, run := .running, recov := some ⟨.masked, .stopped, 7, 9, 1, 0, [], none, false, 0⟩ })], host := { vfEn := true, numVfs := 255 } };
   let d : DRef := ⟨0, 0, 0, 1, 0, 0⟩; let x : TenId := 1; let ps : List (Byte × Byte) := [(0, 1)];
   decide ((s.fnUp ↑d.fn = true) ∧ (↑d.fn = 0) ∧ (s.dev.mode ≠ Mode.safe) ∧
     (s.rebalStatus (↑x) (List.map (fun p => (BitVec.toNat p.1, BitVec.toNat p.2)) ps) = 0)) &&
     ((s.ten ↑x).recov).any (fun r => decide (r.phase = RecPhase.stopped))) = true) := by
  decide +kernel

theorem witness_Hazards :
  ((let s : State := { dev := { mode := .active }, regs := [(0x94004, 0xF)], tenants := [(1, { img := some oneTile })], host := { cqs := [(8, { en := true })], fregs := [] } };
   let x : Nat := 1; let it : Nat := 0; let cls : Nat := 5; let step : Nat := 0; let res : Nat := 0;
   decide ((s.detects x = true) ∧ ((s.ten x).recov = none) ∧ (s.hazEnabled x cls = true) ∧ (((s.ten x).hazards.any fun h => decide (h.tile = it) &&
     decide (h.cls = cls) && decide (h.step = step) && decide (h.res = res)) = false) ∧ ((s.ten x).hazards.length < 64))) = true) ∧
  ((let s : State := { dev := { mode := .active }, regs := [(0x94004, 0xF)], tenants := [(1, { img := some oneTile, hazards := List.replicate 64 ⟨9, 9, 9, 0, 9, 1, 0, 0⟩ })], host := { cqs := [(8, { en := true })], fregs := [] } };
   let x : Nat := 1; let it : Nat := 0; let cls : Nat := 5; let step : Nat := 0; let res : Nat := 0;
   decide ((s.detects x = true) ∧ ((s.ten x).recov = none) ∧ (s.hazEnabled x cls = true) ∧ (((s.ten x).hazards.any fun h => decide (h.tile = it) &&
     decide (h.cls = cls) && decide (h.step = step) && decide (h.res = res)) = false) ∧ (64 ≤ (s.ten x).hazards.length))) = true) ∧
  ((let s : State := { dev := { mode := .active }, regs := [(0x94004, 0xF)], tenants := [(1, { img := some oneTile })], host := { cqs := [(8, { en := true })], fregs := [] } };
   let x : Nat := 1; let it : Nat := 0; let cls : Nat := 5; let step : Nat := 0; let res : Nat := 0;
   decide ((s.detects x = true) ∧ ((s.ten x).recov = none) ∧ (s.hazEnabled x cls = true) ∧ (((s.ten x).hazards.any fun h => decide (h.tile = it) &&
     decide (h.cls = cls) && decide (h.step = step) && decide (h.res = res)) = false))) = true) ∧
  ((let s : State := { dev := { mode := .active }, regs := [(0x94004, 0xF)], tenants := [(1, { img := some oneTile, hazards := List.replicate 64 ⟨9, 9, 9, 0, 9, 1, 0, 0⟩ })], host := { cqs := [(8, { en := true })], fregs := [] } };
   let x : TenId := 1;
   headIs ((s.ten ↑x).hazards) (fun h rest => decide (((s.cq (↑x) (s.rfld (606208 + 4 * ↑x) 4 3)).en = true) ∧
     (BitVec.toNat ((s.cq (↑x) (s.rfld (606208 + 4 * ↑x) 4 3)).tidx - (s.cq (↑x) (s.rfld (606208 + 4 * ↑x) 4 3)).head) + (s.cq (↑x) (s.rfld (606208 + 4 * ↑x) 4 3)).resv < 2 ^ s.cqLog2 (↑x) (s.rfld (606208 + 4 * ↑x) 4 3)) ∧
     (s.host.cpls = [])))) = true) := by
  decide +kernel

theorem witness_TokenBudget :
  ((let s : State := { dev := { mode := .active }, sched := { rebal := [⟨⟨0, 0, 0, 1, 0, 0⟩, 1, [(0, 1)], 0⟩] } };
   decide ((s.dev.mode.configured = true) ∧ (s.sched.rebal ≠ []))) = true) ∧
  ((let s : State := inMode .idle; decide ((s.dev.mode.configured = true) ∧ (s.sched.rebal = []))) = true) := by
  decide +kernel

theorem witness_PowerBudget :
  ((let s : State := { ana := { failed := true } }; decide (s.ana.failed = true)) = true) ∧
  ((let s : State := { ana := { failed := true } }; decide (s.floorRate ≤ atVolt typRows s.vtNom)) = true) ∧
  ((let s : State := { ana := { failed := true } }; let f : Nat := 400; decide (f ≤ atVolt minRows s.vtNom)) = true) ∧
  ((let s : State := { ana := { failed := true } }; let f : Nat := 1250; let v : Nat := 0; decide (v < s.voltFor f)) = true) ∧
  ((let s : State := withTile {} { run := .running, img := some oneTile };
   decide ((s.dev.derate = false) ∧ (s.sched.pb * 1000 < s.demandAt s.spaceSet s.sched.fMsps))) = true) ∧
  ((let s : State := { ana := { failed := true } };
   decide ((s.dev.derate = false) ∧ (s.demandAt s.spaceSet s.sched.fMsps ≤ s.sched.pb * 1000))) = true) ∧
  ((let s : State := { dev := { derate := true }, sched := { pb := 5600 } };
   decide ((s.dev.derate = true) ∧ (100 * s.demandAt s.spaceSet (atVolt typRows s.vtNom) ≤ 95 * (s.sched.pb * 1000)) ∧
     (s.pwr.derateRun + 1 < 10))) = true) ∧
  ((let s : State := { dev := { derate := true }, sched := { pb := 5600 }, pwr := { derateRun := 9 } };
   decide ((s.dev.derate = true) ∧ (100 * s.demandAt s.spaceSet (atVolt typRows s.vtNom) ≤ 95 * (s.sched.pb * 1000)) ∧
     (10 ≤ s.pwr.derateRun + 1))) = true) ∧
  ((let s : State := { withTile {} { run := .running, img := some oneTile } with dev := { mode := .derate, derate := true } };
   decide ((s.dev.derate = true) ∧ (95 * (s.sched.pb * 1000) < 100 * s.demandAt s.spaceSet (atVolt typRows s.vtNom)))) = true) := by
  decide +kernel

theorem witness_VoltageMoves :
  ((let p : Pwr := { vt := 40 }; let v : Nat := 39; decide ((p.vtTarget = none) ∧ (v < p.vt))) = true) ∧
  ((let p : Pwr := { vt := 40 }; let v : Nat := 41; decide ((p.vtTarget = none) ∧ (p.vt < v))) = true) ∧
  ((let p : Pwr := { vt := 40 }; let v : Nat := 40; decide ((p.vtTarget = none) ∧ (v = p.vt))) = true) ∧
  ((let p : Pwr := { vtTarget := some 31 }; decide (p.vtTarget.isSome = true)) = true) ∧
  ((let s : State := { pwr := { vtTarget := some 31 } }; s.pwr.vtTarget.isSome) = true) ∧
  ((let s : State := { pwr := { hubTarget := some 3 } }; s.pwr.hubTarget.isSome) = true) ∧
  ((let p : Pwr := { hub := 2 }; let l : Nat := 1; decide ((p.hubTarget = none) ∧ (l < p.hub))) = true) ∧
  ((let p : Pwr := { hub := 2 }; let l : Nat := 3; decide ((p.hubTarget = none) ∧ (p.hub < l))) = true) := by
  decide +kernel

theorem witness_BasilEvaluation :
  ((let s : State := inMode .idle; decide (s.dev.mode.configured = true)) = true) ∧
  ((let s : State := inMode .idle; let l : Nat := 63; decide ((s.dev.mode.configured = true) ∧ (l < 192))) = true) ∧
  ((let s : State := inMode .safe; decide ((s.dev.mode.configured = true) ∧ (s.dev.mode = Mode.safe))) = true) ∧
  ((let s : State := inMode .idle; decide ((s.dev.mode.configured = true) ∧ (s.dev.mode ≠ Mode.safe))) = true) ∧
  ((let s : State := inMode .reset; decide (s.dev.mode = Mode.reset ∨ s.dev.mode = Mode.selftest ∨ s.dev.mode = Mode.load)) = true) := by
  decide +kernel

theorem witness_SupplyFaults :
  ((let s : State := inMode .active; let iin : BitVec 16 := 65535;
   decide ((s.dev.mode.afterReset = true) ∧ (15200 ≤ iin.toNat) ∧ (s.pwr.fastCap = false))) = true) ∧
  ((let iin : BitVec 16 := 0; decide (iin.toNat < 15200)) = true) ∧
  ((let s : State := inMode .active; decide ((s.dev.mode.afterReset = true) ∧ (s.dev.mode.maySafe = true))) = true) ∧
  ((let s : State := inMode .safe; decide (s.dev.mode = Mode.safe)) = true) ∧
  ((let s : State := inMode .active; decide (s.dev.mode.maySafe = true)) = true) ∧
  ((let s : State := inMode .active; let c : Fin 14 := 0; let p : Fin 7 := 0;
   decide ((↑p ≤ phasesOf ↑c) ∧ (s.pwr.phaseBad.contains (8 * ↑c + ↑p) = false) ∧ (s.dev.mode.afterReset = true))) = true) := by
  decide +kernel

theorem witness_PowerDomains :
  ((let s : State := { dev := { mode := .active }, pwr := { domains := [(0, { on := true, good := true })] } }; let d : Fin 66 := 40;
   decide ((s.dev.mode.maySafe = true) ∧ (s.dev.mode.afterReset = true) ∧ (domainIsDevice ↑d = true))) = true) ∧
  ((let s : State := inMode .safe; let d : Fin 66 := 0; decide ((s.dev.mode = Mode.safe) ∧ (↑d < 40))) = true) ∧
  ((let s : State := { dev := { mode := .active }, pwr := { domains := [(0, { on := true, good := true })] } }; let d : Fin 66 := 0;
   decide ((↑d < 40) ∧ ((s.domain ↑d).on = true) ∧ (s.groupUsed ↑d = false) ∧ (s.pwr.wanted.contains ↑d = false) ∧ (s.dev.mode.configured = true) ∧
     (s.dev.mode ≠ Mode.safe))) = true) ∧
  ((let s : State := { dev := { mode := .active }, sched := { ltiles := [(0, { ten := 1, bound := true })] } }; let d : Fin 66 := 0;
   decide ((s.groupUsed ↑d = true) ∧ (↑d < 40))) = true) ∧
  ((let s : State := { dev := { mode := .active }, pwr := { domains := [(62, { on := true, good := true })] } }; let d : Fin 66 := 62;
   decide ((↑d = 62 ∨ ↑d = 63) ∧ ((s.domain ↑d).on = true) ∧ (∀ i : Nat, i < 6 → s.bankOwner (6 * (↑d - 62) + i) = none) ∧
     (s.dev.mode.configured = true) ∧ (s.dev.mode ≠ Mode.safe))) = true) ∧
  ((let s : State := { dev := { mode := .active }, pwr := { wanted := [39] } }; let d : Fin 66 := 39;
   decide ((s.dev.mode.afterReset = true) ∧ (s.dev.mode ≠ Mode.selftest) ∧ ((s.domain ↑d).good = false) ∧ (s.pwr.wanted.contains ↑d = true) ∧
     (s.mayPower ↑d = true) ∧ (↑d < 57 ∨ 60 < ↑d))) = true) ∧
  ((let s : State := { dev := { mode := .active }, pwr := { domains := [(0, { on := true, good := true })] } }; let d : Fin 66 := 57;
   decide ((s.dev.mode.configured = true) ∧ (57 ≤ ↑d ∧ ↑d ≤ 60 ∨ ↑d = 64))) = true) ∧
  ((let s : State := { dev := { mode := .active }, pwr := { domains := [(0, { on := true, good := true })] } }; let d : Fin 66 := 57;
   decide ((s.dev.mode.configured = true) ∧ (57 ≤ ↑d ∧ ↑d ≤ 60 ∨ ↑d = 64) ∧ (s.mayOff ↑d = true))) = true) ∧
  ((let s : State := { dev := { mode := .active }, lat := { links := [(0, { st := .up })] } }; let d : Fin 66 := 57;
   decide ((s.dev.mode.configured = true) ∧ (57 ≤ ↑d ∧ ↑d ≤ 60 ∨ ↑d = 64) ∧ (s.mayOff ↑d = false))) = true) ∧
  ((let s : State := { dev := { mode := .active }, pwr := { domains := [(0, { on := true, good := true })] } };
   decide ((s.dev.mode.idleToDerate = true) ∧ (s.pwr.small = false) ∧ (s.rfld 65540 16 1 = 1) ∧ (s.poweredTiles s.pwr.wanted ≤ 48))) = true) ∧
  ((let s : State := { dev := { mode := .active }, pwr := { small := true, wanted := [0], domains := (List.range 40).map (fun d => (d, { on := true })) } };
   decide ((s.pwr.small = true) ∧ (s.rfld 65540 16 1 = 0 ∨ (s.pwr.wanted.any fun d => !s.mayPower d) = true))) = true) := by
  decide +kernel

theorem witness_Clocks :
  ((let s : State := { dev := { mode := .active }, clk := { ioscProven := true }, regs := [(131072, 12)] };
   decide ((s.dev.mode ≠ Mode.off) ∧ (s.dev.mode ≠ Mode.keep))) = true) ∧
  ((let s : State := { dev := { mode := .active }, clk := { ioscProven := true }, regs := [(131072, 12)] };
   decide ((s.clk.ioscProven = true) ∧ (s.rfld 131072 2 1 = 1))) = true) ∧
  ((let s : State := { dev := { mode := .active }, clk := { ioscProven := true }, regs := [(131072, 12)] }; let f : Fin 4 := 3;
   decide ((s.clk.ioscProven = true) ∧ (s.rfld 131072 3 1 = 1) ∧ (f ≠ 0))) = true) ∧
  ((let s : State := { dev := { mode := .reset }, clk := { xtalProven := true, resetLow := true } };
   decide ((s.dev.mode = Mode.reset) ∧ (s.clk.root = ClkSrc.none) ∧ (s.clk.usable s.preferred = true) ∧ (s.clk.resetLow = true))) = true) ∧
  ((let s : State := { dev := { mode := .reset }, clk := { xtalProven := true, resetLow := true } }; decide (s.dev.mode = Mode.reset)) = true) ∧
  ((let s : State := { dev := { mode := .active }, clk := { ioscProven := true }, regs := [(131072, 12)] };
   decide ((s.dev.mode.afterReset = true) ∧ (s.dev.mode.maySafe = true))) = true) ∧
  ((let s : State := { dev := { mode := .reset }, clk := { ioscTrip := true } };
   decide ((s.dev.mode = Mode.reset) ∧ (s.clk.ioscTrip = true))) = true) ∧
  ((let s : State := { dev := { mode := .reset }, pwr := { suppliesGood := true } };
   decide ((s.dev.mode = Mode.reset) ∧ (s.pwr.suppliesGood = true) ∧ (s.clk.xtalProven = false) ∧ (s.clk.refProven = false))) = true) ∧
  ((let s : State := { dev := { mode := .active }, clk := { root := .xtal, refProven := true } };
   decide ((s.dev.mode.afterReset = true) ∧ (s.clk.selected = ClkSrc.xtal) ∧ (s.clk.refProven = true))) = true) ∧
  ((let s : State := { dev := { mode := .active }, clk := { root := .xtal } };
   decide ((s.dev.mode.afterReset = true) ∧ (s.dev.mode.maySafe = true) ∧ (s.clk.selected = ClkSrc.xtal) ∧ (s.clk.refProven = false) ∧
     ((s.clk.ioscProven && s.clk.trimValid) = false))) = true) ∧
  ((let s : State := { dev := { mode := .reset }, clk := { xtalProven := true, resetLow := true } }; let ref : Bool := false;
   decide ((s.clk.usable (if ref = true then ClkSrc.ref else ClkSrc.xtal) = true) ∧
     (s.clk.selected ≠ if ref = true then ClkSrc.ref else ClkSrc.xtal))) = true) ∧
  ((let s : State := { dev := { mode := .active }, clk := { toSrc := some (.ref, true) } };
   s.clk.toSrc.any (fun ⟨y, lit1⟩ => decide (lit1 = true))) = true) ∧
  ((let s : State := { dev := { mode := .active }, clk := { toSrc := some (.ref, false) } };
   s.clk.toSrc.any (fun ⟨y, lit1⟩ => decide (lit1 = false))) = true) ∧
  ((let s : State := { dev := { mode := .active }, clk := { refProven := true, root := .xtal }, regs := [(131072, 3)] };
   decide ((s.rfld 131072 1 1 = 1) ∧ (s.clk.toSrc = none) ∧ (s.dev.mode.afterReset = true) ∧ (s.clk.usable s.preferred = true) ∧
     (s.preferred ≠ s.clk.root) ∧ (s.clk.root ≠ ClkSrc.none))) = true) ∧
  ((let s : State := { dev := { mode := .active }, clk := { ioscProven := true }, regs := [(131072, 12)] }; decide (s.rfld 131072 1 1 = 0)) = true) ∧
  ((let s : State := { dev := { mode := .active }, clk := { refProven := true, ioscProven := true, good := 15 }, regs := [(131072, 0x10)] };
   let err : BitVec 16 := 0;
   decide ((s.trimSource ≠ 4) ∧ (s.clk.ioscProven = true) ∧ (-20 < err.toInt) ∧ (err.toInt < 20) ∧ (s.clk.trimValid = false) ∧
     (15 ≤ s.clk.good))) = true) ∧
  ((let s : State := { dev := { mode := .active }, clk := { refProven := true, ioscProven := true, trimValid := true } };
   let err : BitVec 16 := 101;
   decide ((s.trimSource ≠ 4) ∧ (s.clk.ioscProven = true) ∧ (err.toInt < -100 ∨ 100 < err.toInt) ∧ (s.clk.trimValid = true))) = true) ∧
  ((let s : State := { dev := { mode := .active }, clk := { refProven := true, ioscProven := true, trimValid := true } };
   decide (s.clk.trimValid = true)) = true) := by
  decide +kernel

theorem witness_SupplyAndReset :
  ((let s : State := { dev := { vinOk := false } }; decide (s.dev.vinOk = false)) = true) ∧
  ((let s : State := { dev := { vbatOk := true } }; decide ((s.dev.vinOk = true) ∧ (s.dev.vbatOk = true))) = true) ∧
  ((let s : State := { dev := { mode := .reset, bkpLost := false }, pwr := { suppliesGood := true }, clk := { root := .xtal } };
   decide ((s.dev.vinOk = true) ∧ (s.dev.vbatOk = false))) = true) ∧
  ((let s : State := inMode .keep; decide (s.dev.mode = Mode.keep)) = true) ∧
  ((let s : State := { dev := { vinOk := false } }; decide (s.dev.mode ≠ Mode.keep)) = true) ∧
  ((let s : State := inMode .idle; decide (s.dev.mode.afterReset = true)) = true) ∧
  ((let s : State := { dev := { vinOk := false } };
   decide ((s.dev.mode = Mode.reset) ∧ (s.pwr.suppliesGood = false) ∧ (s.clk.root = ClkSrc.none))) = true) ∧
  ((let s : State := { dev := { mode := .reset }, pwr := { domains := [(0, { on := true })] } }; let d : Fin 66 := 0;
   decide ((s.dev.mode = Mode.reset) ∧ ((s.domain ↑d).on = true))) = true) ∧
  ((let s : State := { dev := { mode := .reset, bkpLost := false }, pwr := { suppliesGood := true }, clk := { root := .xtal } };
   decide ((s.dev.mode = Mode.reset) ∧ (s.pwr.suppliesGood = true) ∧ (s.clk.root = ClkSrc.xtal) ∧ (s.dev.bkpLost = false))) = true) ∧
  ((let s : State := inMode .idle; decide (s.dev.mode ≠ Mode.reset)) = true) := by
  decide +kernel

theorem witness_SafeHoldAndSelfTest :
  ((let s : State := { dev := { mode := .selftest }, cfg := { cspSel := 1 } };
   decide ((s.dev.mode.afterReset = true) ∧ (s.dev.mode.maySafe = true))) = true) ∧
  ((let s : State := { dev := { mode := .selftest }, cfg := { cspSel := 1 } }; let key : Byte := 0;
   decide ((s.dev.mode.afterReset = true) ∧ (key ≠ 165))) = true) ∧
  ((let s : State := inMode .idle; decide ((s.dev.mode = Mode.idle) ∧ (s.tenants = []) ∧ (s.edg.prQueue = []) ∧ (s.dev.refits = []))) = true) ∧
  ((let s : State := inMode .hold;
   decide ((s.dev.mode = Mode.hold) ∧ (s.tenants = []) ∧ (s.edg.prQueue = []) ∧ (s.dev.refits = []) ∧ (s.dev.lattice = []) ∧
     (s.dev.floor = false) ∧ (s.dev.derate = false))) = true) ∧
  ((let s : State := inMode .idle; decide (s.dev.mode ≠ Mode.selftest)) = true) ∧
  ((let s : State := { dev := { mode := .selftest }, cfg := { cspSel := 1 } }; let unit : Fin 6 := 1;
   decide ((s.dev.mode = Mode.selftest) ∧ (unit ≠ 0))) = true) ∧
  ((let s : State := { dev := { mode := .selftest }, cfg := { cspSel := 1 } }; let unit : Fin 6 := 0;
   decide ((s.dev.mode = Mode.selftest) ∧ (unit = 0))) = true) ∧
  ((let s : State := { dev := { mode := .selftest }, cfg := { cspSel := 1 } }; let unit : Fin 6 := 1;
   decide ((s.dev.mode = Mode.selftest) ∧ (s.sage.fused = []) ∧ (unit ≠ 0))) = true) ∧
  ((let s : State := { dev := { mode := .selftest }, cfg := { cspSel := 1 } };
   decide ((s.dev.mode = Mode.selftest) ∧ (s.sage.fused = []) ∧ (s.cfg.cspSel = 1) ∧ (s.pwr.bkpReset = false))) = true) := by
  decide +kernel

theorem witness_LinkStates :
  ((let s : State := { dev := { mode := .active }, lat := { links := [(143, { st := .detect })] } }; let l : LinkId := 143;
   decide ((s.link ↑l).phase = LinkSt.detect)) = true) ∧
  ((let s : State := { dev := { mode := .active }, lat := { links := [(143, { st := .detect })], spareOk := [(spareKey 143)] } };
   let l : LinkId := 143; decide (((s.link ↑l).phase = LinkSt.detect) ∧ (s.spareFree ↑l = true))) = true) ∧
  ((let s : State := { dev := { mode := .active }, lat := { links := [(143, { st := .detect })] } }; let l : LinkId := 143;
   decide (((s.link ↑l).phase = LinkSt.detect) ∧ (s.spareFree ↑l = false) ∧ ((s.link ↑l).st ≠ LinkSt.down))) = true) ∧
  ((let s : State := { dev := { mode := .active }, lat := { links := [(143, { st := .train })] } }; let l : LinkId := 143;
   decide ((s.link ↑l).phase = LinkSt.train)) = true) ∧
  ((let s : State := { dev := { mode := .active }, lat := { links := [(143, { st := .train })] } }; let l : LinkId := 143;
   decide ((s.link ↑l).phase = LinkSt.train)) = true) ∧
  ((let s : State := { dev := { mode := .active }, lat := { links := [(143, { st := .ident })] } }; let l : LinkId := 143;
   decide ((s.link ↑l).phase = LinkSt.ident)) = true) ∧
  ((let s : State := { dev := { mode := .active }, lat := { links := [(143, { st := .down })] }, pwr := { domains := [(60, { on := true, good := true })] }, regs := [(lnkCtl 143, 1)] };
   let l : LinkId := 143; decide (((s.link ↑l).st = LinkSt.down) ∧ (s.mayTrain ↑l = true))) = true) ∧
  ((let s : State := { dev := { mode := .active }, lat := { links := [(143, { st := .ident })] }, regs := [(0x100000, 0x100)] };
   let l : LinkId := 143; let ts : TrainSet := ⟨1, 5, 1, 5, 0, true, true, true, false, false, false, false, 0, false, 0⟩;
   decide (((s.link ↑l).st = LinkSt.ident) ∧ (ts.spare = false) ∧ (ts.sub = false) ∧ (ts.loopReq = false) ∧ (ts.fast = false) ∧
     (s.identFault ts = none) ∧ (s.bothValid ts = true))) = true) ∧
  ((let s : State := { dev := { mode := .active }, lat := { links := [(143, { st := .ident })] }, regs := [(0x100000, 0x100)] };
   let l : LinkId := 143; let ts : TrainSet := ⟨1, 5, 2, 5, 0, true, true, true, false, false, false, false, 0, false, 0⟩;
   decide (((s.link ↑l).st = LinkSt.ident) ∧ (ts.spare = false) ∧ (ts.sub = false) ∧ (ts.loopReq = false)) &&
     (s.identFault ts).any (fun ⟨c, k, d⟩ => decide ((s.link ↑l).peerRec = false))) = true) ∧
  ((let s : State := { dev := { mode := .active }, lat := { links := [(143, { st := .up })] } }; let l : LinkId := 143;
   let ts : TrainSet := ⟨1, 5, 1, 5, 0, true, true, true, true, false, false, false, 0, false, 0⟩;
   decide (((s.link ↑l).st = LinkSt.up) ∧ (ts.spare = false) ∧ (ts.sub = false) ∧ (ts.loopReq = false) ∧ (ts.fast = true))) = true) ∧
  ((let ts : TrainSet := ⟨1, 5, 1, 5, 0, true, true, true, false, false, false, false, 0, true, 0⟩; decide (ts.spare = true)) = true) ∧
  ((let s : State := { dev := { mode := .active }, lat := { links := [(143, { st := .detect })] } }; let l : LinkId := 143;
   decide ((s.sendsTs ↑l = true) ∧ ((s.link ↑l).st ≠ LinkSt.down))) = true) ∧
  ((let s : State := { dev := { mode := .active }, lat := { links := [(143, { st := .up })] } }; let l : LinkId := 143; let line : LineIn := {};
   let c : Fin 4 := 0; decide (((s.link ↑l).st = LinkSt.up) ∧ (((s.takeLine (↑l) line).2.link ↑l).fastCause ↑c = true))) = true) ∧
  ((let s : State := { dev := { mode := .active }, lat := { links := [(143, { st := .detect })] } }; let l : LinkId := 143;
   decide ((s.link ↑l).st ≠ LinkSt.up)) = true) ∧
  ((let s : State := { dev := { mode := .active }, lat := { links := [(143, { st := .fastRt })] } }; let l : LinkId := 143;
   decide ((s.link ↑l).st = LinkSt.fastRt)) = true) ∧
  ((let s : State := { dev := { mode := .active }, lat := { links := [(143, { st := .fastRt })], spareOk := [(spareKey 143)] } };
   let l : LinkId := 143; decide (((s.link ↑l).st = LinkSt.fastRt) ∧ (s.spareFree ↑l = true))) = true) ∧
  ((let s : State := { dev := { mode := .active }, lat := { links := [(143, { st := .fastRt })] } }; let l : LinkId := 143;
   decide (((s.link ↑l).st = LinkSt.fastRt) ∧ (s.spareFree ↑l = false))) = true) ∧
  ((let s : State := { dev := { mode := .active }, lat := { links := [(143, { st := .fullRt })] } }; let l : LinkId := 143;
   decide ((s.link ↑l).st = LinkSt.fullRt)) = true) ∧
  ((let s : State := { dev := { mode := .active }, lat := { links := [(143, { st := .detect })] } }; decide (s.tenants = [])) = true) ∧
  ((let s : State := { dev := { mode := .active }, lat := { links := [(143, { st := .up })] } }; let l : LinkId := 143;
   decide ((s.dev.mode.configured = true) ∧ ((s.link ↑l).st = LinkSt.up ∨ (s.link ↑l).st = LinkSt.fastRt))) = true) ∧
  ((let k : Link := { st := .up, retry := [⟨4095, .tok { typ := 1, ten := 1, origin := 0, word := 0 }, 1⟩] };
   let f : SentFrame := ⟨4095, .tok { typ := 1, ten := 1, origin := 0, word := 0 }, 1⟩; decide (f ∈ k.enterFull.retry)) = true) ∧
  ((let k : Link := { st := .up, retry := [⟨4095, .tok { typ := 1, ten := 1, origin := 0, word := 0 }, 1⟩] };
   let f : SentFrame := ⟨4095, .tok { typ := 1, ten := 1, origin := 0, word := 0 }, 1⟩; decide ((f ∈ k.retry) ∧ (bodyIsTok f.body = true))) = true) ∧
  ((let s : State := { dev := { mode := .active }, lat := { links := [(143, { st := .up, retry := [⟨4095, .ctl ⟨none, false, 0, 0, 0, 0⟩, 9⟩] })] } };
   let l : LinkId := 143; decide (((s.link ↑l).st = LinkSt.up) ∧ ((s.link ↑l).retry ≠ []))) = true) ∧
  ((let s : State := { dev := { mode := .active }, lat := { links := [(143, { st := .up })] } }; let l : LinkId := 143;
   decide ((s.maySleep ↑l = true) ∧ ((s.link ↑l).txSleep = false))) = true) ∧
  ((let s : State := { dev := { mode := .active }, lat := { links := [(143, { st := .up, txSleep := true, nakDue := true })] } };
   let l : LinkId := 143; decide ((s.maySleep ↑l = false) ∧ ((s.link ↑l).txSleep = true))) = true) ∧
  ((let s : State := { dev := { mode := .active }, lat := { links := [(143, { st := .up })] } }; let l : LinkId := 143;
   decide (s.isUp ↑l = true)) = true) := by
  decide +kernel

theorem witness_LinkFrames :
  ((let s : State := { dev := { mode := .active }, lat := { links := [(143, { st := .up })] } }; let l : LinkId := 143; let line : LineIn := {};
   let sl : List SlotEnt := List.replicate 16 ⟨0, 15, 0, 1, 7⟩;
   decide (((s.link ↑l).st = LinkSt.up) ∧ ((s.takeLine (↑l) line).1 = false) ∧ (sl ≠ []) ∧ (sl.length ≤ 16))) = true) ∧
  ((let s : State := { dev := { mode := .active }, lat := { links := [(143, { st := .up })] } }; let l : LinkId := 143; let line : LineIn := {};
   let d : Bool := true; decide (((s.link ↑l).st = LinkSt.up) ∧ (d = true ∨ (s.takeLine (↑l) line).1 = true))) = true) ∧
  ((let s : State := { dev := { mode := .active }, lat := { links := [(143, { st := .up })] } }; let l : LinkId := 143; let line : LineIn := {};
   let q : BitVec 12 := 1; let p : Pkt := { vc := 0, op := 1, ten := 1, dest := 0, src := 0 };
   decide (((s.link ↑l).st = LinkSt.up) ∧ (q ≠ (s.link ↑l).rxSeq) ∧ (bodyBytes (Body.pkt p) ≤ 256) ∧ ((s.takeLine (↑l) line).1 = false))) = true) ∧
  ((let s : State := { dev := { mode := .active }, lat := { links := [(143, { st := .up })] } }; let l : LinkId := 143; let line : LineIn := {};
   let p : Pkt := { vc := 0, op := 1, ten := 1, dest := 0, src := 0 };
   decide (((s.link ↑l).st = LinkSt.up) ∧ ((s.takeLine (↑l) line).1 = false) ∧ (bodyBytes (Body.pkt p) ≤ 256))) = true) ∧
  ((let s : State := { dev := { mode := .active }, lat := { links := [(143, { st := .up })] } }; let l : LinkId := 143; let line : LineIn := {};
   decide (((s.link ↑l).st = LinkSt.up) ∧ ((s.takeLine (↑l) line).1 = false))) = true) ∧
  ((let k : Link := { st := .up, retry := [⟨4095, .tok { typ := 1, ten := 1, origin := 0, word := 0 }, 1⟩] };
   let c : Ctl := ⟨none, false, 0, 0, 0, 0⟩; let f : SentFrame := ⟨4095, .tok { typ := 1, ten := 1, origin := 0, word := 0 }, 1⟩;
   decide (f ∈ (k.applyCtl c).retry)) = true) ∧
  ((let c : Ctl := ⟨none, false, 0, 0, 0, 0⟩; decide (c.ack = none)) = true) ∧
  ((let s : State := { dev := { mode := .active }, lat := { links := [(143, { st := .up })] } }; let l : LinkId := 143; let m : LinkId := 0;
   let line : LineIn := {}; let dst : ModId := 0;
   decide (((s.link ↑l).st = LinkSt.up) ∧ (l ≠ m) ∧ ((s.takeLine (↑l) line).1 = false) ∧ (↑dst = s.moduleId))) = true) ∧
  ((let s : State := { lat := { links := [(142, { st := .up, peer := some (⟨1, 5, 1, 5, 0, true, true, true, false, false, false, false, 0, false, 0⟩) }), (143, { st := .up })] } };
   let l : LinkId := 143; let line : LineIn := {}; let dst : ModId := 1;
   decide (((s.link ↑l).st = LinkSt.up) ∧ ((s.takeLine (↑l) line).1 = false) ∧ (↑dst ≠ s.moduleId)) && (s.linkToModule ↑dst).isSome) = true) ∧
  ((let s : State := { dev := { mode := .active }, lat := { links := [(143, { st := .up, rxBuf := [⟨1, 0, 0, 15, 0, 0, 0, 7, true, 0⟩] })] } };
   let l : LinkId := 143; let i : Nat := 0;
   ((s.link ↑l).rxBuf[i]?).any (fun p => decide ((s.tileOf p.ten p.dst = none) ∧
     (((List.take i (s.link ↑l).rxBuf).any fun q => decide (q.ten = p.ten ∧ q.dst = p.dst ∧ q.word = p.word)) = false)))) = true) ∧
  ((let s : State := { lat := { links := [(143, { st := .up, markDue := true })] } }; let l : LinkId := 143;
   decide (((s.link ↑l).st = LinkSt.up) ∧ ((s.link ↑l).txSleep = false) ∧ ((s.link ↑l).markDue = true))) = true) ∧
  ((let s : State := { dev := { mode := .active }, lat := { links := [(143, { st := .up })] } }; let l : LinkId := 143;
   decide (((s.link ↑l).st = LinkSt.up) ∧ ((s.link ↑l).txSleep = false) ∧ ((s.link ↑l).markDue = false))) = true) ∧
  ((let s : State := { dev := { mode := .active }, lat := { links := [(143, { st := .up })] } }; let l : LinkId := 143;
   decide (((s.link ↑l).st = LinkSt.up) ∧ ((s.link ↑l).txSleep = false) ∧ ((s.link ↑l).markDue = false))) = true) ∧
  ((let s : State := { dev := { mode := .active }, lat := { links := [(143, { st := .up, resendAt := some 0, retry := [⟨4095, .ctl ⟨none, false, 0, 0, 0, 0⟩, 9⟩] })] } };
   let l : LinkId := 143;
   decide (((s.link ↑l).st = LinkSt.up) ∧ ((s.link ↑l).txSleep = false) ∧ ((s.link ↑l).markDue = false) ∧ ((s.link ↑l).nakDue = false) ∧
     ((s.link ↑l).arrived < 16)) && ((s.link ↑l).resendAt).any (fun i => ((s.link ↑l).retry[i]?).isSome)) = true) ∧
  ((let s : State := { dev := { mode := .active }, lat := { links := [(143, { st := .up })] } }; let l : LinkId := 143;
   decide (((s.link ↑l).st = LinkSt.up) ∧ ((s.link ↑l).txSleep = false) ∧ ((s.link ↑l).markDue = false) ∧ ((s.link ↑l).nakDue = false) ∧
     ((s.link ↑l).arrived < 16) ∧ ((s.link ↑l).resendAt = none) ∧ (s.nextBody ↑l = none))) = true) ∧
  ((let s : State := { dev := { mode := .active }, lat := { links := [(143, { st := .up })], slotOut := [(143, ⟨1, 0, 0, 15, 0, 0, 0, 7, true, 1⟩)] } };
   let l : LinkId := 143;
   decide (((s.link ↑l).st = LinkSt.up) ∧ ((s.link ↑l).txSleep = false) ∧ ((s.link ↑l).markDue = false) ∧ ((s.link ↑l).nakDue = false) ∧
     ((s.link ↑l).arrived < 16) ∧ ((s.link ↑l).resendAt = none)) && (s.nextBody ↑l).any (fun b => decide (((s.link ↑l).retry.length < 2048) ∧
     ((s.link ↑l).retryBytes + (bodyBytes b + 8) ≤ 16384)))) = true) ∧
  ((let s : State := { dev := { mode := .active }, lat := { links := [(143, { st := .up, txSleep := true })] } }; let l : LinkId := 143;
   decide (((s.link ↑l).st = LinkSt.up) ∧ ((s.link ↑l).txSleep = true))) = true) := by
  decide +kernel

theorem witness_LatticeTokens :
  ((let s : State := { dev := { mode := .active }, lat := { links := [(143, { st := .up })] } }; let l : LinkId := 143; let line : LineIn := {};
   let q : BitVec 12 := 0; let k : Token := { typ := 7, ten := 1, origin := 1, word := 0 };
   (let c : Instr := Instr.tokenBnd l line q true k; decide ((s.link ↑l).st = LinkSt.up))) = true) ∧
  ((let s : State := { dev := { mode := .active }, lat := { links := [(143, { st := .up })] } }; let l : LinkId := 143; let line : LineIn := {};
   decide (((s.link ↑l).st = LinkSt.up) ∧ ((s.takeLine (↑l) line).1 = false))) = true) ∧
  ((let s : State := { dev := { mode := .active }, lat := { links := [(143, { st := .up })] }, tenants := [(1, { img := some twoMods })] };
   let l : LinkId := 143; let line : LineIn := {}; let k : Token := { typ := 7, ten := 1, origin := 1, word := 0 };
   decide (((s.link ↑l).st = LinkSt.up) ∧ ((s.takeLine (↑l) line).1 = false) ∧ (k.reqs = []) ∧ (k.more = false) ∧
     ((s.ten k.ten).eff ≠ RunState.held)) && (s.modIndex k.ten k.origin).isSome) = true) ∧
  ((let s : State := { dev := { mode := .active }, lat := { links := [(143, { st := .up })] } }; let l : LinkId := 143; let line : LineIn := {};
   let k : Token := { typ := 7, ten := 1, origin := 1, word := 0 };
   decide (((s.link ↑l).st = LinkSt.up) ∧ ((s.takeLine (↑l) line).1 = false) ∧ ((s.ten k.ten).img = none))) = true) ∧
  ((let s : State := { dev := { mode := .active }, lat := { links := [(143, { st := .up })] }, tenants := [(1, { img := some twoMods })] };
   let l : LinkId := 143; let line : LineIn := {}; let k : Token := { typ := 7, ten := 1, origin := 1, word := 5 };
   decide (((s.link ↑l).st = LinkSt.up) ∧ ((s.takeLine (↑l) line).1 = false) ∧ ((s.ten k.ten).img.isSome = true) ∧ ((s.ten k.ten).recov = none) ∧
     ((s.ten k.ten).holds = []) ∧ (s.dev.refits = []) ∧ (genNewer (k.word % 2 ^ 16) (s.ten k.ten).gen = true))) = true) ∧
  ((let s : State := { dev := { mode := .active }, lat := { links := [(143, { st := .up })] } }; let l : LinkId := 143; let line : LineIn := {};
   let k : Token := { typ := 7, ten := 1, origin := 1, word := 0 };
   decide (((s.link ↑l).st = LinkSt.up) ∧ ((s.takeLine (↑l) line).1 = false) ∧ (k.fwd = false))) = true) ∧
  ((let s : State := { dev := { mode := .active }, lat := { links := [(143, { st := .up })] } }; let l : LinkId := 143; let line : LineIn := {};
   let k : Token := { typ := 7, ten := 1, origin := 0, word := 0 };
   decide (((s.link ↑l).st = LinkSt.up) ∧ ((s.takeLine (↑l) line).1 = false) ∧ (k.origin = s.moduleId))) = true) ∧
  ((let s : State := { dev := { mode := .active }, lat := { links := [(143, { st := .up })] } }; let l : LinkId := 143; let line : LineIn := {};
   let k : Token := { typ := 7, ten := 1, origin := 1, word := 0 };
   decide (((s.link ↑l).st = LinkSt.up) ∧ ((s.takeLine (↑l) line).1 = false) ∧ (k.origin ≠ s.moduleId) ∧
     ((List.any (s.ten k.ten).partC fun e => decide (e = (k.origin, k.a))) = false) ∧ (2 ∉ (s.ten k.ten).holds))) = true) ∧
  ((let s : State := { dev := { mode := .active }, lat := { links := [(143, { st := .up })] } }; let l : LinkId := 143; let line : LineIn := {};
   let k : Token := { typ := 7, ten := 1, origin := 1, word := 0 };
   decide (((s.link ↑l).st = LinkSt.up) ∧ ((s.takeLine (↑l) line).1 = false) ∧ (k.origin ≠ s.moduleId) ∧ (s.lat.lholdSeen = []) ∧
     (s.tenants = []) ∧ (s.dev.refits = []))) = true) ∧
  ((let s : State := { tenants := [(1, { img := some twoMods, run := .swapped, back := .running })] }; let ten : TenId := 1;
   decide (((s.ten ↑ten).spans = true) ∧ (s.pacing ↑ten = true))) = true) ∧
  ((let s : State := { lat := { markers := [(3, 1, none)] } }; let m : BitVec 16 := 3;
   headIs s.lat.markers (fun x rest => rest.isEmpty && decide ((x.1 = m.toNat) ∧ (s.dev.refits = [])))) = true) ∧
  ((let s : State := { dev := { mode := .active }, lat := { links := [(143, { st := .up })] } }; let m : BitVec 16 := 0;
   decide (List.find? (fun e => decide (e.1 = m.toNat)) s.lat.markers = none)) = true) ∧
  ((let s : State := { lat := { markers := [(3, 1, none)] } }; let m : BitVec 16 := 3;
   (List.find? (fun e => decide (e.1 = m.toNat)) s.lat.markers).isSome) = true) := by
  decide +kernel

theorem witness_LinkRegisters :
  ((let s : State := { dev := { mode := .active }, lat := { links := [(143, { st := .fastRt })] } }; decide (s.dev.mode.configured = true)) = true) ∧
  ((let s : State := { dev := { mode := .active }, tenants := [(1, { img := some { twoMods with links := [⟨0, 1, 143⟩] } })] };
   let l : LinkId := 143; decide ((s.dev.mode.configured = true) ∧ (s.testBarred ↑l = true))) = true) ∧
  ((let s : State := { dev := { mode := .active }, lat := { links := [(143, { st := .fastRt })] } }; let l : LinkId := 143;
   decide ((s.dev.mode.configured = true) ∧ (s.testBarred ↑l = false))) = true) ∧
  ((let s : State := { dev := { mode := .active }, lat := { links := [(143, { st := .fastRt })] } }; let l : LinkId := 143; let m : BitVec 3 := 0;
   decide ((s.dev.mode.configured = true) ∧ ((s.link ↑l).st = LinkSt.fastRt ∨ (s.link ↑l).st = LinkSt.fullRt ∨ 1 ≤ m.toNat ∧ m.toNat ≤ 4 ∧
     s.testBarred ↑l = true))) = true) ∧
  ((let s : State := inMode .idle; let l : LinkId := 143; let m : BitVec 3 := 1;
   decide ((s.dev.mode.configured = true) ∧ (1 ≤ m.toNat) ∧ (m.toNat ≤ 4) ∧ ((s.link ↑l).st ≠ LinkSt.fastRt) ∧ ((s.link ↑l).st ≠ LinkSt.fullRt) ∧
     (s.testBarred ↑l = false))) = true) ∧
  ((let s : State := { dev := { mode := .active }, tenants := [(1, { img := some { twoMods with links := [⟨0, 1, 143⟩] } })] };
   let l : LinkId := 143; let m : BitVec 3 := 0;
   decide ((s.dev.mode.configured = true) ∧ (m.toNat = 0 ∨ 5 ≤ m.toNat) ∧ ((s.link ↑l).st ≠ LinkSt.fastRt) ∧ ((s.link ↑l).st ≠ LinkSt.fullRt) ∧
     (s.lnkMode ↑l = 0))) = true) ∧
  ((let s : State := { dev := { mode := .active }, lat := { links := [(143, { st := .up })] }, pwr := { domains := [(60, { on := true, good := true })] }, regs := [(lnkCtl 143, 0x0B)] };
   let l : LinkId := 143; let m : BitVec 3 := 0;
   decide ((s.dev.mode.configured = true) ∧ (m.toNat = 0 ∨ 5 ≤ m.toNat) ∧ ((s.link ↑l).st ≠ LinkSt.fastRt) ∧ ((s.link ↑l).st ≠ LinkSt.fullRt) ∧
     (s.lnkMode ↑l ≠ 0) ∧ (s.lnkEnabled ↑l = true) ∧ (s.domainGood (sideDomain ↑l) = true))) = true) ∧
  ((let s : State := { dev := { mode := .active }, lat := { links := [(143, { st := .fastRt })] } }; let l : LinkId := 143;
   decide ((s.dev.mode.configured = true) ∧ ((s.link ↑l).st ≠ LinkSt.test))) = true) ∧
  ((let s : State := { dev := { mode := .active }, lat := { links := [(143, { st := .test })] } }; let l : LinkId := 143;
   decide ((s.dev.mode.configured = true) ∧ ((s.link ↑l).st = LinkSt.test))) = true) ∧
  ((let s : State := { dev := { mode := .active }, tenants := [(1, { img := some { twoMods with links := [⟨0, 1, 143⟩] } })] };
   decide ((s.dev.mode.configured = true) ∧ (((List.range 144).any fun l => s.linkNamed l fun x => true) = true))) = true) ∧
  ((let s : State := { dev := { mode := .active }, lat := { links := [(143, { st := .fastRt })] } };
   decide ((s.dev.mode.configured = true) ∧ (((List.range 144).any fun l => s.linkNamed l fun x => true) = false))) = true) ∧
  ((let s : State := inMode .reset; let l : LinkId := 143; let id : ModId := 0; let v : Bool := true; let tag : BitVec 16 := 0;
   let m : BitVec 3 := 0; let p : BitVec 2 := 0; (let c : Instr := Instr.lnkEnable l; decide (s.dev.mode.configured = false))) = true) := by
  decide +kernel

theorem witness_PacketPassage :
  ((let p : Pkt := { vc := 0, op := 2, ten := 0, dest := 207, src := 0, body := [] }; let ce : Option (BitVec 12) := none;
   let err : ErrFound := .clean;
   (let x : Instr × Nat × Nat := (Instr.pktReqWrite p ce, 0, 1); decide ((pktIs p x.2.1 x.2.2 = false) ∧ (opReserved p = false)))) = true) ∧
  ((let s : State := { dev := { mode := .active }, noc := { pkts := [{ vc := 0, op := 1, ten := 1, dest := 208, src := 0, tag := 1 }, { vc := 0, op := 1, ten := 1, dest := 208, src := 0, body := [] }] } };
   let p : Pkt := { vc := 0, op := 1, ten := 1, dest := 208, src := 0, body := [] }; let ce : Option (BitVec 12) := none;
   let err : ErrFound := .clean;
   (let x : Instr × Nat × Nat := (Instr.pktReqWrite p ce, 0, 1); decide (comesFirst pktWay p s.noc.pkts = false))) = true) ∧
  ((let s : State := { dev := { mode := .active }, noc := { pkts := [{ vc := 0, op := 7, ten := 1, dest := 208, src := 0, body := [] }] } };
   let p : Pkt := { vc := 0, op := 7, ten := 1, dest := 208, src := 0, body := [] }; let ce : Option (BitVec 12) := none;
   let err : ErrFound := .clean;
   (let x : Instr × Nat × Nat := (Instr.pktReqWrite p ce, 0, 1); decide ((opReserved p = true) ∧ (p.dest < 211) ∧
     (s.dev.mode ∉ [Mode.off, Mode.keep, Mode.reset]) ∧ (comesFirst pktWay p s.noc.pkts = true) ∧ (s.hubMayTouch p true = true) ∧
     (s.hubMayTouch p false = true)))) = true) ∧
  ((let s : State := { dev := { mode := .active }, lat := { links := [(143, { st := .up })] } };
   let p : Pkt := { damaged := true, vc := 0, op := 1, ten := 1, dest := 207, src := 0, body := List.replicate 15 0 ++ [3] };
   let ce : Option (BitVec 12) := none; let err : ErrFound := .clean;
   (let x : Instr × Nat × Nat := (Instr.pktReqWrite p ce, 0, 1); decide ((pktIs p x.2.1 x.2.2 = true) ∧ (p.dest < 211) ∧
     (s.dev.mode ∉ [Mode.off, Mode.keep, Mode.reset]) ∧ (p.damaged = true) ∧ (opReserved p = false) ∧ (comesFirst pktWay p s.noc.pkts = true) ∧
     (pktIs p 0 1 = true → s.hubMayTouch p true = true) ∧ (pktIs p 0 2 = true → s.hubMayTouch p false = true)))) = true) ∧
  ((let s : State := { dev := { mode := .active }, fm := { remap := [(0, { ptile := 24 })] } };
   let p : Pkt := { vc := 0, op := 1, ten := 0, dest := 0, src := 0, body := [] }; let ce : Option (BitVec 12) := none;
   let err : ErrFound := .clean; let n : Nat := 24;
   (let x : Instr × Nat × Nat := (Instr.pktReqWrite p ce, 0, 1); decide ((pktIs p x.2.1 x.2.2 = true) ∧
     (s.dev.mode ∉ [Mode.off, Mode.keep, Mode.reset]) ∧ (p.damaged = false) ∧ (comesFirst pktWay p s.noc.pkts = true) ∧
     (pktIs p 0 1 = true → s.hubMayTouch p true = true) ∧ (pktIs p 0 2 = true → s.hubMayTouch p false = true) ∧ (p.dest < 200) ∧
     (s.tileFate p = TileFate.forward n)))) = true) ∧
  ((let s : State := { dev := { mode := .active }, noc := { pkts := [{ epoch := 9, vc := 0, op := 1, ten := 1, dest := 0, src := 0, body := [] }] } };
   let p : Pkt := { epoch := 9, vc := 0, op := 1, ten := 1, dest := 0, src := 0, body := [] }; let ce : Option (BitVec 12) := none;
   let err : ErrFound := .clean;
   (let x : Instr × Nat × Nat := (Instr.pktReqWrite p ce, 0, 1); decide ((pktIs p x.2.1 x.2.2 = true) ∧
     (s.dev.mode ∉ [Mode.off, Mode.keep, Mode.reset]) ∧ (p.damaged = false) ∧ (comesFirst pktWay p s.noc.pkts = true) ∧
     (pktIs p 0 1 = true → s.hubMayTouch p true = true) ∧ (pktIs p 0 2 = true → s.hubMayTouch p false = true) ∧ (p.dest < 200) ∧
     (s.tileFate p = TileFate.drop)))) = true) ∧
  ((let s : State := { dev := { mode := .active }, noc := { pkts := [{ vc := 0, op := 1, ten := 1, dest := 200, src := 0, body := [] }] } };
   let p : Pkt := { vc := 0, op := 1, ten := 1, dest := 200, src := 0, body := [] }; let ce : Option (BitVec 12) := none;
   let err : ErrFound := .clean;
   (let x : Instr × Nat × Nat := (Instr.pktReqWrite p ce, 0, 1); decide ((pktIs p x.2.1 x.2.2 = true) ∧
     (s.dev.mode ∉ [Mode.off, Mode.keep, Mode.reset]) ∧ (p.damaged = false) ∧ (comesFirst pktWay p s.noc.pkts = true) ∧
     (pktIs p 0 1 = true → s.hubMayTouch p true = true) ∧ (pktIs p 0 2 = true → s.hubMayTouch p false = true) ∧ (200 ≤ p.dest) ∧
     (p.dest < 204)))) = true) ∧
  ((let ce : Option (BitVec 12) := none; decide (ce = none)) = true) ∧
  ((let p : Pkt := { vc := 0, op := 1, ten := 0, dest := 207, src := 0, body := [] }; decide (p.ten = 0)) = true) := by
  decide +kernel

theorem witness_Packets :
  ((let s : State := withTile {} {}; let p : Pkt := { vc := 0, op := 1, ten := 1, dest := 207, src := 0, body := List.replicate 15 0 ++ [3] };
   decide ((pktIs p 0 1 = true) ∧ (204 ≤ p.dest) ∧ (p.dest < 208) ∧ (s.dev.mode ∉ [Mode.off, Mode.keep, Mode.reset]) ∧ (p.damaged = false) ∧
     (comesFirst pktWay p s.noc.pkts = true) ∧ (s.hubMayTouch p true = true) ∧ (pktHubOk p = true))) = true) ∧
  ((let s : State := withTile {} {}; let p : Pkt := { vc := 0, op := 1, ten := 1, dest := 0, src := 0, body := List.replicate 15 0 ++ [3] };
   let l : Nat := 0;
   decide ((pktIs p 0 1 = true) ∧ (p.dest < 200) ∧ (s.dev.mode ∉ [Mode.off, Mode.keep, Mode.reset]) ∧ (p.damaged = false) ∧
     (comesFirst pktWay p s.noc.pkts = true) ∧ (s.tileFate p = TileFate.here (some l)) ∧ (s.hubMayTouch p true = true)) &&
     (pktStore p).any (fun z => decide (p.poison = false))) = true) ∧
  ((let s : State := withTile {} {}; let p : Pkt := { vc := 0, op := 2, ten := 1, dest := 207, src := 0, body := List.replicate 15 0 ++ [3] };
   decide ((pktIs p 0 2 = true) ∧ (204 ≤ p.dest) ∧ (p.dest < 208) ∧ (s.dev.mode ∉ [Mode.off, Mode.keep, Mode.reset]) ∧ (p.damaged = false) ∧
     (comesFirst pktWay p s.noc.pkts = true) ∧ (s.hubMayTouch p false = true) ∧ (pktHubOk p = true))) = true) ∧
  ((let s : State := withTile {} {}; let p : Pkt := { vc := 0, op := 2, ten := 1, dest := 0, src := 0, body := List.replicate 15 0 ++ [3] };
   let err : ErrFound := .clean; let l : Nat := 0;
   decide ((pktIs p 0 2 = true) ∧ (p.dest < 200) ∧ (s.dev.mode ∉ [Mode.off, Mode.keep, Mode.reset]) ∧ (p.damaged = false) ∧
     (comesFirst pktWay p s.noc.pkts = true) ∧ (s.tileFate p = TileFate.here (some l)) ∧ (s.hubMayTouch p false = true)) &&
     (pktStore p).any (fun z => decide (z.1 ≠ 8 ∨ err = ErrFound.clean))) = true) ∧
  ((let s : State := withTile {} {};
   let p : Pkt := { vc := 0, op := 2, ten := 1, dest := 0, src := 0, body := List.replicate 10 0 ++ [8] ++ List.replicate 4 0 ++ [1] };
   let l : Nat := 0;
   decide ((pktIs p 0 2 = true) ∧ (p.dest < 200) ∧ (s.dev.mode ∉ [Mode.off, Mode.keep, Mode.reset]) ∧ (p.damaged = false) ∧
     (comesFirst pktWay p s.noc.pkts = true) ∧ (s.tileFate p = TileFate.here (some l)) ∧ (s.hubMayTouch p false = true)) &&
     (pktStore p).any (fun z => decide (z.1 = 8))) = true) ∧
  ((let s : State := withTile {} {}; let p : Pkt := { vc := 0, op := 1, ten := 1, dest := 199, src := 0, body := [] }; let l : Option Nat := none;
   decide ((p.dest < 200) ∧ (s.dev.mode ∉ [Mode.off, Mode.keep, Mode.reset]) ∧ (p.damaged = false) ∧ (comesFirst pktWay p s.noc.pkts = true) ∧
     (s.tileFate p = TileFate.here l) ∧ (pktStore p = none) ∧ (pktIs p 0 1 = true))) = true) ∧
  ((let s : State := withTile {} {}; let p : Pkt := { vc := 0, op := 2, ten := 1, dest := 199, src := 0, body := [] }; let l : Option Nat := none;
   decide ((p.dest < 200) ∧ (s.dev.mode ∉ [Mode.off, Mode.keep, Mode.reset]) ∧ (p.damaged = false) ∧ (comesFirst pktWay p s.noc.pkts = true) ∧
     (s.tileFate p = TileFate.here l) ∧ (pktStore p = none) ∧ (pktIs p 0 2 = true))) = true) ∧
  ((let s : State := withTile {} {}; let p : Pkt := { vc := 0, op := 4, ten := 1, dest := 199, src := 0, body := [] }; let l : Option Nat := none;
   decide ((p.dest < 200) ∧ (s.dev.mode ∉ [Mode.off, Mode.keep, Mode.reset]) ∧ (p.damaged = false) ∧ (comesFirst pktWay p s.noc.pkts = true) ∧
     (s.tileFate p = TileFate.here l) ∧ (pktIs p 0 4 = true))) = true) ∧
  ((let s : State := withTile {} {}; let p : Pkt := { vc := 0, op := 5, ten := 1, dest := 199, src := 0, body := [] }; let l : Option Nat := none;
   decide ((p.dest < 200) ∧ (s.dev.mode ∉ [Mode.off, Mode.keep, Mode.reset]) ∧ (p.damaged = false) ∧ (comesFirst pktWay p s.noc.pkts = true) ∧
     (s.tileFate p = TileFate.here l) ∧ (pktIs p 0 5 = true))) = true) ∧
  ((let s : State := withTile {} {}; let p : Pkt := { vc := 1, op := 1, ten := 1, dest := 207, src := 0, body := [] };
   decide ((204 ≤ p.dest) ∧ (p.dest < 211) ∧ (s.dev.mode ∉ [Mode.off, Mode.keep, Mode.reset]) ∧ (p.damaged = false) ∧
     (comesFirst pktWay p s.noc.pkts = true) ∧ (pktIs p 1 1 = true))) = true) ∧
  ((let s : State := withTile {} {}; let p : Pkt := { vc := 1, op := 3, ten := 1, dest := 207, src := 0, body := [] };
   decide ((204 ≤ p.dest) ∧ (p.dest < 211) ∧ (s.dev.mode ∉ [Mode.off, Mode.keep, Mode.reset]) ∧ (p.damaged = false) ∧
     (comesFirst pktWay p s.noc.pkts = true) ∧ (pktIs p 1 3 = true))) = true) ∧
  ((let s : State := withTile {} {}; let p : Pkt := { vc := 1, op := 15, ten := 1, dest := 207, src := 0, body := [] };
   decide ((204 ≤ p.dest) ∧ (p.dest < 211) ∧ (s.dev.mode ∉ [Mode.off, Mode.keep, Mode.reset]) ∧ (p.damaged = false) ∧
     (comesFirst pktWay p s.noc.pkts = true) ∧ (pktIs p 1 15 = true))) = true) ∧
  ((let s : State := withTile {} {}; let p : Pkt := { vc := 3, op := 5, ten := 1, dest := 208, src := 0, body := [] };
   decide ((p.dest = 208) ∧ (s.dev.mode ∉ [Mode.off, Mode.keep, Mode.reset]) ∧ (p.damaged = false) ∧ (comesFirst pktWay p s.noc.pkts = true) ∧
     (pktIs p 3 5 = true))) = true) ∧
  ((let s : State := withTile {} {}; let p : Pkt := { vc := 3, op := 6, ten := 1, dest := 208, src := 0, body := [] };
   decide ((p.dest = 208) ∧ (s.dev.mode ∉ [Mode.off, Mode.keep, Mode.reset]) ∧ (p.damaged = false) ∧ (comesFirst pktWay p s.noc.pkts = true) ∧
     (pktIs p 3 6 = true)) && (s.nodeTile p.src).any (fun l => decide (((s.ltile l).bound = true) ∧ ((s.ltile l).ten = p.ten)))) = true) ∧
  ((let s : State := withTile {} {}; let p : Pkt := { vc := 3, op := 6, ten := 1, dest := 208, src := 24, body := [] };
   decide ((p.dest = 208) ∧ (s.dev.mode ∉ [Mode.off, Mode.keep, Mode.reset]) ∧ (p.damaged = false) ∧ (comesFirst pktWay p s.noc.pkts = true) ∧
     (pktIs p 3 6 = true) ∧ (s.nodeTile p.src = none))) = true) := by
  decide +kernel

theorem witness_DeepStore :
  ((let s : State := { noc := { deepReq := [⟨1, 0, 63, 0, 0, 0, 0, 1, 0, 7, true, 31, true, 0⟩] } }; let ten : TenId := 1; let m : Fin 64 := 63;
   (List.find? (fun c => decide (c.ten = ↑ten ∧ c.memid = ↑m)) s.noc.deepReq).any (fun c => decide (s.tileOf (↑ten) c.itile = none))) = true) ∧
  ((let s : State := { withTile {} {} with noc := { deepReq := [⟨1, 0, 63, 0, 0, 0, 0, 1, 0, 7, true, 31, true, 0⟩] } }; let ten : TenId := 1;
   let m : Fin 64 := 63;
   (List.find? (fun c => decide (c.ten = ↑ten ∧ c.memid = ↑m)) s.noc.deepReq).any (fun c => (s.tileOf (↑ten) c.itile).isSome)) = true) ∧
  ((let s : State := { dev := { mode := .active }, tenants := [(1, { img := some { oneTile with deep := [⟨63, 0, 0, 2, true, 0⟩] } })], regs := [(0x92804, 1)], noc := { deepQ := [⟨1, 0, 63, 0, 0, 0, 0, 1, 0, 7, true, 31, true, 0⟩], deepPaid := [(1, 2)] } };
   let ten : TenId := 1; let m : Fin 64 := 63;
   (List.find? (fun c => decide (c.ten = ↑ten ∧ c.memid = ↑m)) s.noc.deepQ).any (fun c => decide (c.op = 0) &&
     ((s.ten ↑ten).img).any (fun i => (i.mem ↑m).any (fun e => decide ((e.base + 8 * c.addr < s.rsize ↑ten) ∧
     ((s.stack (dsStack (s.rbase ↑ten + (e.base + 8 * c.addr)))).inRepair.contains (rowKey (s.rbase ↑ten + (e.base + 8 * c.addr))) = false) ∧
     (s.faultWaits ↑ten = false) ∧ (1 ≤ s.noc.deepPaid.get 0 ↑ten) ∧ (s.poisoned ((s.rbase ↑ten + (e.base + 8 * c.addr)) / 64 * 64) = false) ∧
     (c.rdv = true)))))) = true) ∧
  ((let s : State := { dev := { mode := .active }, tenants := [(1, { img := some { oneTile with deep := [⟨63, 0, 0, 2, true, 0⟩] } })], regs := [(0x92804, 1)], noc := { deepQ := [⟨1, 0, 63, 0, 0, 0, 1, 1, 0, 7, true, 31, true, 0⟩], deepPaid := [(1, 2)] }, sched := { faultAcct := [(1, (1024, 1024))] } };
   let ten : TenId := 1; let m : Fin 64 := 63;
   (List.find? (fun c => decide (c.ten = ↑ten ∧ c.memid = ↑m)) s.noc.deepQ).any (fun c => decide ((c.en = true) ∧ (c.addr ≠ 0)) &&
     ((s.ten ↑ten).img).any (fun i => (i.mem ↑m).any (fun e => decide ((e.base + 8 * c.addr < s.rsize ↑ten) ∧
     ((s.stack (dsStack (s.rbase ↑ten + (e.base + 8 * c.addr)))).inRepair.contains (rowKey (s.rbase ↑ten + (e.base + 8 * c.addr))) = false) ∧
     (s.faultWaits ↑ten = false) ∧ (s.needsJournal (↑ten) (↑m) (c.addr / 8) c.ecyc = false ∨ 128 ≤ (s.faultAcct ↑ten).1) ∧
     (2 ≤ s.noc.deepPaid.get 0 ↑ten) ∧ (s.poisoned ((s.rbase ↑ten + (e.base + 8 * c.addr)) / 64 * 64) = false) ∧ (c.op = 1)))))) = true) ∧
  ((let s : State := { dev := { mode := .active }, tenants := [(1, { img := some { oneTile with deep := [⟨63, 0, 0, 2, true, 0⟩] } })], regs := [(0x92804, 1)], noc := { deepQ := [⟨1, 0, 63, 0, 0, 0, 2, 1, 0, 7, true, 31, true, 0⟩], deepPaid := [(1, 2)] }, sched := { faultAcct := [(1, (1024, 1024))] } };
   let ten : TenId := 1; let m : Fin 64 := 63;
   (List.find? (fun c => decide (c.ten = ↑ten ∧ c.memid = ↑m)) s.noc.deepQ).any (fun c => decide ((c.en = true) ∧ (c.addr ≠ 0)) &&
     ((s.ten ↑ten).img).any (fun i => (i.mem ↑m).any (fun e => decide ((e.base + 8 * c.addr < s.rsize ↑ten) ∧
     ((s.stack (dsStack (s.rbase ↑ten + (e.base + 8 * c.addr)))).inRepair.contains (rowKey (s.rbase ↑ten + (e.base + 8 * c.addr))) = false) ∧
     (s.faultWaits ↑ten = false) ∧ (s.needsJournal (↑ten) (↑m) (c.addr / 8) c.ecyc = false ∨ 128 ≤ (s.faultAcct ↑ten).1) ∧
     (2 ≤ s.noc.deepPaid.get 0 ↑ten) ∧ (s.poisoned ((s.rbase ↑ten + (e.base + 8 * c.addr)) / 64 * 64) = false) ∧ (c.op = 2)))))) = true) ∧
  ((let s : State := { dev := { mode := .active }, tenants := [(1, { img := some { oneTile with deep := [⟨63, 0, 0, 2, true, 0⟩] } })], regs := [(0x92804, 1)], noc := { deepQ := [⟨1, 0, 63, 0, 0, 0, 3, 1, 0, 7, true, 31, true, 0⟩], deepPaid := [(1, 2)] }, sched := { faultAcct := [(1, (1024, 1024))] } };
   let ten : TenId := 1; let m : Fin 64 := 63;
   (List.find? (fun c => decide (c.ten = ↑ten ∧ c.memid = ↑m)) s.noc.deepQ).any (fun c => decide ((c.en = true) ∧ (c.addr ≠ 0)) &&
     ((s.ten ↑ten).img).any (fun i => (i.mem ↑m).any (fun e => decide ((e.base + 8 * c.addr < s.rsize ↑ten) ∧
     ((s.stack (dsStack (s.rbase ↑ten + (e.base + 8 * c.addr)))).inRepair.contains (rowKey (s.rbase ↑ten + (e.base + 8 * c.addr))) = false) ∧
     (s.faultWaits ↑ten = false) ∧ (s.needsJournal (↑ten) (↑m) (c.addr / 8) c.ecyc = false ∨ 128 ≤ (s.faultAcct ↑ten).1) ∧
     (2 ≤ s.noc.deepPaid.get 0 ↑ten) ∧ (s.poisoned ((s.rbase ↑ten + (e.base + 8 * c.addr)) / 64 * 64) = false) ∧ (c.op = 3)))))) = true) ∧
  ((let s : State := { dev := { mode := .active }, tenants := [(1, { img := some { oneTile with deep := [⟨63, 0, 0, 2, true, 0⟩] } })], regs := [(0x92804, 1)], noc := { deepQ := [⟨1, 0, 63, 0, 0, 0, 1, 1099511627776, 0, 7, true, 31, true, 0⟩], deepPaid := [(1, 2)] }, sched := { faultAcct := [(1, (1024, 1024))] } };
   let ten : TenId := 1; let m : Fin 64 := 63;
   (List.find? (fun c => decide (c.ten = ↑ten ∧ c.memid = ↑m)) s.noc.deepQ).any (fun c => decide (c.op = 1) &&
     ((s.ten ↑ten).img).any (fun i => (i.mem ↑m).any (fun e => decide (s.rsize ↑ten ≤ e.base + 8 * c.addr))))) = true) ∧
  ((let s : State := { noc := { deepReq := [⟨1, 0, 63, 0, 0, 0, 0, 1, 0, 7, true, 31, true, 0⟩] } }; let ten : TenId := 1; let m : Fin 64 := 63;
   let e : ErrFound := .clean; let w : Bool := true;
   (let x : Instr := Instr.deepDread ten m e; decide (List.find? (fun c => decide (c.ten = ↑ten ∧ c.memid = ↑m)) s.noc.deepQ = none))) = true) ∧
  ((let s : State := { withTile {} {} with noc := { answers := [⟨1, 0, 31, 0, 7, 0, 0, 0, 0, 0⟩] } }; let ten : TenId := 1; let it : TileId := 0;
   let i : Nat := 0;
   ((List.filter (fun r => decide (r.ten = ↑ten ∧
     r.itile = ↑it)) s.noc.answers)[i]?).any (fun r => (s.tileOf ↑ten ↑it).any (fun l => decide ((comesFirst ansWay r s.noc.answers = true) ∧
     (r.status = 0))))) = true) ∧
  ((let s : State := { withTile {} {} with noc := { deepReq := [⟨1, 0, 63, 0, 0, 0, 0, 1, 0, 7, true, 31, true, 0⟩] } }; let k : Stack4 := 0;
   decide ((s.rfld dstCfg 0 1 = 1) ∧ (s.dev.mode.configured = true) ∧ (s.poisoned (stackLine (↑k) (s.stack ↑k).patrol) = false))) = true) ∧
  ((let s : State := { dev := { mode := .active }, regs := [(dstCfg, 0)] }; decide (s.rfld dstCfg 0 1 = 0)) = true) ∧
  ((let s : State := { dev := { mode := .active }, regs := [(dstCfg, 1)], noc := { dsPoison := [192] } }; let k : Stack4 := 3;
   decide ((s.rfld dstCfg 0 1 = 1) ∧ (s.dev.mode.configured = true) ∧ (s.poisoned (stackLine (↑k) (s.stack ↑k).patrol) = true))) = true) ∧
  ((let s : State := { noc := { stks := [(3, { inRepair := [0xF00000F] })] } }; let k : Stack4 := 3; let pc : Fin 32 := 15;
   let row : BitVec 24 := 15; decide ((s.stack ↑k).inRepair.contains (↑pc * 2 ^ 24 + row.toNat) = true)) = true) := by
  decide +kernel

theorem witness_DescriptorRings :
  ((let s : State := { dev := { mode := .active }, host := { sqs := [(7, { en := true })], cqs := [(7, { en := true })] } }; let fn : TenId := 0;
   let r : Ring8 := 7; let v : Word := 64;
   decide ((s.fnUp ↑fn = true) ∧ ((s.sq ↑fn ↑r).en = true) ∧ (BitVec.toNat (v - (s.sq ↑fn ↑r).pi) ≤ 2 ^ s.sqLog2 ↑fn ↑r) ∧
     (BitVec.toNat (v - (s.sq ↑fn ↑r).cidx) ≤ 2 ^ s.sqLog2 ↑fn ↑r))) = true) ∧
  ((let s : State := { dev := { mode := .active }, host := { sqs := [(7, { en := true })], cqs := [(7, { en := true })] } }; let fn : TenId := 0;
   let r : Ring8 := 7; let v : Word := 128;
   decide ((s.fnUp ↑fn = true) ∧
     ((s.sq ↑fn ↑r).en = false ∨ 2 ^ s.sqLog2 ↑fn ↑r < BitVec.toNat (v - (s.sq ↑fn ↑r).cidx) ∨ 2 ^ s.sqLog2 ↑fn ↑r < BitVec.toNat (v - (s.sq ↑fn ↑r).pi)))) = true) ∧
  ((let s : State := { dev := { mode := .active }, host := { sqs := [(7, { en := true })], cqs := [(7, { en := true })] } }; let fn : TenId := 0;
   let r : Ring8 := 7; let v : Word := 0;
   decide ((s.fnUp ↑fn = true) ∧ (BitVec.toNat (v - (s.cq ↑fn ↑r).head) ≤ BitVec.toNat ((s.cq ↑fn ↑r).tidx - (s.cq ↑fn ↑r).head)))) = true) ∧
  ((let s : State := { dev := { mode := .active }, host := { sqs := [(7, { en := true })], cqs := [(7, { en := true })] } }; let fn : TenId := 0;
   let r : Ring8 := 7; let v : Word := 1;
   decide ((s.fnUp ↑fn = true) ∧ (BitVec.toNat ((s.cq ↑fn ↑r).tidx - (s.cq ↑fn ↑r).head) < BitVec.toNat (v - (s.cq ↑fn ↑r).head)))) = true) ∧
  ((let s : State := { dev := { mode := .active }, host := { sqs := [(7, {})], cqs := [(7, { en := true, timing := true, count := 1 })], cpls := [⟨0, 7, 5, 0, 255, .raw [], false, false⟩] } };
   let fn : TenId := 0; let r : Ring8 := 7; decide ((s.fnUp ↑fn = true) ∧ ((s.sq ↑fn ↑r).en = false))) = true) ∧
  ((let s : State := { dev := { mode := .active }, host := { sqs := [(7, { en := true })], cqs := [(7, { en := true })] } }; let fn : TenId := 0;
   let r : Ring8 := 7; decide ((s.fnUp ↑fn = true) ∧ ((s.sq ↑fn ↑r).en = true))) = true) ∧
  ((let s : State := inMode .idle; let fn : TenId := 0; let r : Ring8 := 7; decide ((s.fnUp ↑fn = true) ∧ ((s.cq ↑fn ↑r).en = false))) = true) ∧
  ((let s : State := { dev := { mode := .active }, host := { sqs := [(7, { en := true })], cqs := [(7, { en := true })] } }; let fn : TenId := 0;
   let r : Ring8 := 7; decide ((s.fnUp ↑fn = true) ∧ ((s.cq ↑fn ↑r).en = true))) = true) ∧
  ((let s : State := { dev := { mode := .active }, host := { sqs := [(7, { en := true })], cqs := [(7, { en := true })] } }; let fn : TenId := 255;
   let r : Ring8 := 7; let cq : Ring8 := 0; let v : Word := 0; let n : BitVec 5 := 0; let b : Bool := true; let x : Byte := 0; let y : Byte := 0;
   (let c : Instr := Instr.sqDoorbell fn r v; decide (s.fnUp ↑fn = false))) = true) ∧
  ((let s : State := { dev := { mode := .active }, host := { sqs := [(7, { en := true, pi := 1 })], cqs := [(7, { en := true })] } };
   let fn : TenId := 0; let r : Ring8 := 7; let bs : List Byte := List.replicate 64 0;
   decide ((s.fnUp ↑fn = true) ∧ ((s.sq ↑fn ↑r).en = true) ∧ ((s.sq ↑fn ↑r).cidx ≠ (s.sq ↑fn ↑r).pi) ∧ (s.host.bmeOff.contains ↑fn = false) ∧
     (bs.length = 64))) = true) ∧
  ((let s : State := { dev := { mode := .active }, host := { sqs := [(7, { en := true })], cqs := [(7, { en := true })] } }; let fn : TenId := 0;
   let r : Ring8 := 7; decide ((s.sq ↑fn ↑r).cidx = (s.sq ↑fn ↑r).pi)) = true) ∧
  ((let s : State := { dev := { mode := .active }, host := { sqs := [(7, { en := true, wait := [⟨⟨0, 7, 7, 0, 0, 0⟩, 0, 0, List.replicate 64 0⟩] })], cqs := [(7, { en := true })] } };
   let fn : TenId := 0; let r : Ring8 := 7;
   headIs ((s.sq ↑fn ↑r).wait) (fun e rest => decide ((s.fnUp ↑fn = true) ∧ ((s.sq ↑fn ↑r).prog.length < 64) ∧
     (BitVec.getLsbD e.ref.flags 0 = false ∨ (s.sq ↑fn ↑r).prog = []) ∧ ((s.cq ↑fn ↑(s.ringOf e)).en = true) ∧
     (BitVec.toNat ((s.cq ↑fn ↑(s.ringOf e)).tidx - (s.cq ↑fn ↑(s.ringOf e)).head) + (s.cq ↑fn ↑(s.ringOf e)).resv + opcEntries e.opc ≤ 2 ^ s.cqLog2 ↑fn ↑(s.ringOf e)) ∧
     (knownOpc e.opc = true) ∧ (descClean e.bytes = true) ∧ (cqByteOk e.bytes = true) ∧ (e.opc ≠ 18)))) = true) ∧
  ((let s : State := { dev := { mode := .active }, host := { sqs := [(7, { en := true, wait := [⟨⟨0, 7, 7, 0, 0, 0⟩, 0xFF, 0, 0xFF :: List.replicate 63 0⟩] })], cqs := [(7, { en := true })] } };
   let fn : TenId := 0; let r : Ring8 := 7;
   headIs ((s.sq ↑fn ↑r).wait) (fun e rest => decide ((s.fnUp ↑fn = true) ∧ ((s.sq ↑fn ↑r).prog.length < 64) ∧
     (BitVec.getLsbD e.ref.flags 0 = false ∨ (s.sq ↑fn ↑r).prog = []) ∧ ((s.cq ↑fn ↑(s.ringOf e)).en = true) ∧
     (BitVec.toNat ((s.cq ↑fn ↑(s.ringOf e)).tidx - (s.cq ↑fn ↑(s.ringOf e)).head) + (s.cq ↑fn ↑(s.ringOf e)).resv + opcEntries e.opc ≤ 2 ^ s.cqLog2 ↑fn ↑(s.ringOf e)) ∧
     (knownOpc e.opc = false) ∧ (descClean (List.take 8 e.bytes) = true)))) = true) ∧
  ((let s : State := { dev := { mode := .active }, host := { sqs := [(7, { en := true, wait := [⟨⟨0, 7, 7, 0, 0, 0⟩, 0, 0, 0x00 :: 9 :: List.replicate 62 0⟩] })], cqs := [(7, { en := true })] } };
   let fn : TenId := 0; let r : Ring8 := 7;
   headIs ((s.sq ↑fn ↑r).wait) (fun e rest => decide ((s.fnUp ↑fn = true) ∧ ((s.sq ↑fn ↑r).prog.length < 64) ∧
     (BitVec.getLsbD e.ref.flags 0 = false ∨ (s.sq ↑fn ↑r).prog = []) ∧ ((s.cq ↑fn ↑(s.ringOf e)).en = true) ∧
     (BitVec.toNat ((s.cq ↑fn ↑(s.ringOf e)).tidx - (s.cq ↑fn ↑(s.ringOf e)).head) + (s.cq ↑fn ↑(s.ringOf e)).resv + opcEntries e.opc ≤ 2 ^ s.cqLog2 ↑fn ↑(s.ringOf e)) ∧
     (knownOpc e.opc = true) ∧ (descClean e.bytes = false)))) = true) ∧
  ((let s : State := { dev := { mode := .active }, host := { sqs := [(7, { en := true, wait := [⟨⟨0, 7, 7, 0, 0, 0⟩, 0, 0, 0xFF :: 1 :: List.replicate 62 0⟩] })], cqs := [(7, {})] } };
   let fn : TenId := 0; let r : Ring8 := 7;
   headIs ((s.sq ↑fn ↑r).wait) (fun e rest => decide ((s.fnUp ↑fn = true) ∧ ((s.sq ↑fn ↑r).prog.length < 64) ∧
     (BitVec.getLsbD e.ref.flags 0 = false ∨ (s.sq ↑fn ↑r).prog = []) ∧ ((s.cq ↑fn ↑(s.ringOf e)).en = false)))) = true) ∧
  ((let s : State := { dev := { mode := .active }, host := { sqs := [(7, { en := true, prog := List.replicate 64 ⟨0, 7, 7, 0, 0, 0⟩, wait := [⟨⟨0, 7, 7, 0, 0, 0⟩, 0, 0, 0xFF :: 1 :: List.replicate 62 0⟩] })], cqs := [(7, { en := true })] } };
   let fn : TenId := 0; let r : Ring8 := 7;
   headIs ((s.sq ↑fn ↑r).wait) (fun e rest => decide (64 ≤ (s.sq ↑fn ↑r).prog.length ∨ BitVec.getLsbD e.ref.flags 0 = true ∧
     (s.sq ↑fn ↑r).prog ≠ []))) = true) ∧
  ((let s : State := { dev := { mode := .active }, host := { sqs := [(7, { en := true, wait := [⟨⟨0, 7, 7, 0, 0, 0⟩, 0, 0, 0xFF :: 1 :: List.replicate 62 0⟩] })], cqs := [(7, { en := true, resv := 2 ^ 20 })] } };
   let fn : TenId := 0; let r : Ring8 := 7;
   headIs ((s.sq ↑fn ↑r).wait) (fun e rest => decide (((s.cq ↑fn ↑(s.ringOf e)).en = true) ∧
     (2 ^ s.cqLog2 ↑fn ↑(s.ringOf e) < BitVec.toNat ((s.cq ↑fn ↑(s.ringOf e)).tidx - (s.cq ↑fn ↑(s.ringOf e)).head) + (s.cq ↑fn ↑(s.ringOf e)).resv + opcEntries e.opc)))) = true) ∧
  ((let s : State := { dev := { mode := .active }, host := { sqs := [(7, { en := true })], cqs := [(7, { en := true })] } }; let fn : TenId := 0;
   let r : Ring8 := 7; decide ((s.sq ↑fn ↑r).wait = [])) = true) ∧
  ((let s : State := { dev := { mode := .active }, host := { sqs := [(7, { en := true })], cqs := [(7, { en := true })] } };
   let d : DRef := ⟨0, 0, 0, 1, 0, 0⟩; decide (s.fnUp ↑d.fn = true)) = true) ∧
  ((let s : State := { dev := { mode := .active }, host := { sqs := [(7, {})], cqs := [(7, { en := true })] } };
   let d : DRef := ⟨0, 7, 7, 0, 0, 0⟩; decide (((s.cq ↑d.fn ↑d.cq).en = true) ∧ (d ∉ s.host.orphans))) = true) ∧
  ((let s : State := { dev := { mode := .active }, host := { sqs := [(7, {})], cqs := [(7, { en := true, timing := true, count := 1 })], cpls := [⟨0, 7, 5, 0, 255, .raw [], false, false⟩] } };
   let fn : TenId := 0; let q : Ring8 := 7;
   decide ((s.fnUp ↑fn = true) ∧ (s.host.bmeOff.contains ↑fn = false) ∧ ((s.cq ↑fn ↑q).en = true)) && (s.nextCpl ↑fn ↑q).isSome) = true) ∧
  ((let s : State := { dev := { mode := .active }, host := { sqs := [(7, { en := true })], cqs := [(7, { en := true })] } }; let fn : TenId := 0;
   let q : Ring8 := 7; decide (s.nextCpl ↑fn ↑q = none)) = true) ∧
  ((let s : State := { dev := { mode := .active }, host := { sqs := [(7, {})], cqs := [(7, { en := true, timing := true, count := 1 })], cpls := [⟨0, 7, 5, 0, 255, .raw [], false, false⟩] } };
   let fn : TenId := 0; let q : Ring8 := 7; decide (((s.cq ↑fn ↑q).timing = true) ∧ (0 < (s.cq ↑fn ↑q).count))) = true) := by
  decide +kernel

theorem witness_DeepTransfers :
  ((let s : State := { dev := { mode := .active }, regs := [(0x92800, 0x7FF), (0x92804, 0x7FF)] }; let d : DRef := ⟨0, 0, 0, 1, 0, 0⟩;
   let off : DWord := 0; let len : Word := 0;
   decide ((s.fnUp ↑d.fn = true) ∧
     (BitVec.toNat off % 64 ≠ 0 ∨ BitVec.toNat len % 64 ≠ 0 ∨ BitVec.toNat len = 0 ∨ 2 ^ 30 < BitVec.toNat len))) = true) ∧
  ((let s : State := { dev := { mode := .active }, regs := [(0x92800, 0x7FF), (0x92804, 0x7FF)] }; let d : DRef := ⟨0, 0, 0, 1, 0, 0⟩;
   let off : DWord := 0; let len : Word := 0;
   decide ((s.fnUp ↑d.fn = true) ∧ (BitVec.toNat off % 64 ≠ 0 ∨ BitVec.toNat len % 64 ≠ 0 ∨ BitVec.toNat len = 0 ∨ 2 ^ 30 < BitVec.toNat len) ∧
     (s.dev.mode ≠ Mode.safe))) = true) ∧
  ((let s : State := { dev := { mode := .active }, regs := [(0x92800, 0x7FF), (0x92804, 0x7FF)] }; let d : DRef := ⟨0, 0, 0, 1, 0, 0⟩;
   let ten : TenId := 3; let off : DWord := 0; let len : Word := 64;
   decide ((s.fnUp ↑d.fn = true) ∧ (BitVec.toNat off % 64 = 0) ∧ (BitVec.toNat len % 64 = 0) ∧ (0 < BitVec.toNat len) ∧
     (BitVec.toNat len ≤ 2 ^ 30) ∧ (s.rsize (target d ↑ten) < BitVec.toNat off + BitVec.toNat len))) = true) ∧
  ((let s : State := { dev := { mode := .active }, regs := [(0x92800, 0x7FF), (0x92804, 0x7FF)] }; let d : DRef := ⟨0, 0, 0, 1, 0, 0⟩;
   let ten : TenId := 3; let off : DWord := 0; let len : Word := 64;
   decide ((s.fnUp ↑d.fn = true) ∧ (BitVec.toNat off % 64 = 0) ∧ (BitVec.toNat len % 64 = 0) ∧ (0 < BitVec.toNat len) ∧
     (BitVec.toNat len ≤ 2 ^ 30) ∧ (s.rsize (target d ↑ten) < BitVec.toNat off + BitVec.toNat len) ∧ (s.dev.mode ≠ Mode.safe))) = true) ∧
  ((let s : State := { dev := { mode := .active }, regs := [(0x92800, 0x7FF), (0x92804, 0x7FF)] }; let d : DRef := ⟨0, 0, 0, 1, 0, 0⟩;
   let ten : TenId := 0; let off : DWord := 0; let len : Word := 64;
   decide ((s.fnUp ↑d.fn = true) ∧ (BitVec.toNat off % 64 = 0) ∧ (BitVec.toNat len % 64 = 0) ∧ (0 < BitVec.toNat len) ∧
     (BitVec.toNat len ≤ 2 ^ 30) ∧ (BitVec.toNat off + BitVec.toNat len ≤ s.rsize (target d ↑ten)))) = true) ∧
  ((let s : State := { dev := { mode := .active }, regs := [(0x92800, 0x7FF), (0x92804, 0x7FF)] }; let d : DRef := ⟨0, 0, 0, 1, 0, 0⟩;
   let ten : TenId := 0; let off : DWord := 0; let len : Word := 64;
   decide ((s.fnUp ↑d.fn = true) ∧ (BitVec.toNat off % 64 = 0) ∧ (BitVec.toNat len % 64 = 0) ∧ (0 < BitVec.toNat len) ∧
     (BitVec.toNat len ≤ 2 ^ 30) ∧ (BitVec.toNat off + BitVec.toNat len ≤ s.rsize (target d ↑ten)) ∧ (s.dev.mode ≠ Mode.safe) ∧
     (s.protectedRange (target d ↑ten) (BitVec.toNat off) (BitVec.toNat len) = false))) = true) ∧
  ((let s : State := { dev := { mode := .active }, regs := [(0x92800, 0x5E0)], tenants := [(0, { img := some { oneTile with len := 64 } })] };
   let d : DRef := ⟨0, 0, 0, 1, 0, 0⟩; let ten : TenId := 0; let off : DWord := 0; let len : Word := 64;
   decide ((s.fnUp ↑d.fn = true) ∧ (BitVec.toNat off % 64 = 0) ∧ (BitVec.toNat len % 64 = 0) ∧ (0 < BitVec.toNat len) ∧
     (BitVec.toNat len ≤ 2 ^ 30) ∧ (BitVec.toNat off + BitVec.toNat len ≤ s.rsize (target d ↑ten)) ∧ (s.dev.mode ≠ Mode.safe) ∧
     (s.protectedRange (target d ↑ten) (BitVec.toNat off) (BitVec.toNat len) = true))) = true) ∧
  ((let s : State := inMode .safe; let d : DRef := ⟨0, 0, 0, 1, 0, 0⟩; decide ((s.fnUp ↑d.fn = true) ∧ (s.dev.mode = Mode.safe))) = true) ∧
  ((let s : State := { dev := { mode := .active }, host := { xfers := [⟨⟨0, 0, 0, 1, 0, 0⟩, 1, 1, 0, 0, 0, 64, 0⟩] } };
   let d : DRef := ⟨0, 0, 0, 1, 0, 0⟩;
   (List.find? (fun x => decide (x.ref = d)) (List.take 16 s.host.xfers)).any (fun x => decide ((s.host.bmeOff.contains ↑d.fn = false) ∧
     (s.tokWaits 4 x.tok = false) ∧ (x.opc = 1)))) = true) ∧
  ((let s : State := { dev := { mode := .active }, host := { xfers := [⟨⟨0, 0, 0, 1, 0, 0⟩, 2, 1, 0, 0, 0, 64, 0⟩] } };
   let d : DRef := ⟨0, 0, 0, 1, 0, 0⟩;
   (List.find? (fun x => decide (x.ref = d)) (List.take 16 s.host.xfers)).any (fun x => decide ((s.host.bmeOff.contains ↑d.fn = false) ∧
     (s.tokWaits 4 x.tok = false) ∧ (x.opc = 2) ∧ (s.rangePoisoned (s.rbase x.ten + x.off) x.len = false)))) = true) ∧
  ((let s : State := { dev := { mode := .active }, host := { xfers := [⟨⟨0, 0, 0, 1, 0, 0⟩, 2, 1, 0, 0, 0, 64, 0⟩] } , noc := { dsPoison := [0] } };
   let d : DRef := ⟨0, 0, 0, 1, 0, 0⟩;
   (List.find? (fun x => decide (x.ref = d)) (List.take 16 s.host.xfers)).any (fun x => decide ((s.host.bmeOff.contains ↑d.fn = false) ∧
     (s.tokWaits 4 x.tok = false) ∧ (x.opc = 2) ∧ (s.rangePoisoned (s.rbase x.ten + x.off) x.len = true)))) = true) ∧
  ((let s : State := { dev := { mode := .active }, host := { xfers := [⟨⟨0, 0, 0, 1, 0, 0⟩, 33, 1, 0, 0, 0, 64, 0⟩] } };
   let d : DRef := ⟨0, 0, 0, 1, 0, 0⟩;
   (List.find? (fun x => decide (x.ref = d)) (List.take 16 s.host.xfers)).any (fun x => decide ((s.host.bmeOff.contains ↑d.fn = false) ∧
     (s.tokWaits 4 x.tok = false) ∧ (x.opc = 33)))) = true) ∧
  ((let s : State := { dev := { mode := .active }, host := { xfers := [⟨⟨0, 0, 0, 1, 0, 0⟩, 1, 1, 0, 0, 0, 64, 0⟩] } };
   let d : DRef := ⟨0, 0, 0, 1, 0, 0⟩;
   (List.find? (fun x => decide (x.ref = d)) (List.take 16 s.host.xfers)).any (fun x => decide ((s.host.bmeOff.contains ↑d.fn = false) ∧
     (s.tokWaits 4 x.tok = false) ∧ (x.opc = 1)))) = true) ∧
  ((let s : State := { dev := { mode := .active }, regs := [(0x92800, 0x7FF), (0x92804, 0x7FF)] }; let d : DRef := ⟨0, 0, 0, 1, 0, 0⟩;
   decide (List.find? (fun x => decide (x.ref = d)) (List.take 16 s.host.xfers) = none ∨ s.host.bmeOff.contains ↑d.fn = true)) = true) := by
  decide +kernel

theorem witness_Messages :
  ((let s : State := { dev := { mode := .active }, host := { vfEn := true, numVfs := 255,  }, sched := { ltiles := [(0, { ten := 1, bound := true, resident := true })] }, tiles := [(0, { inEcyc := true })], tenants := [(1, { img := some { oneTile with deep := [⟨63, 0, 0, 2, true, 0⟩] } })], regs := [(0x92804, 1)] };
   let d : DRef := ⟨1, 0, 0, 1, 0, 0⟩; let p : Byte := 7; let dir : Byte := 2; let m : Byte := 63; let cq : Byte := 0;
   decide ((s.fnUp ↑d.fn = true) ∧ (s.dev.mode ≠ Mode.safe) ∧
     (s.bindStatus (↑d.fn) (BitVec.toNat p) (BitVec.toNat dir) (BitVec.toNat m) (BitVec.toNat cq) ≠ stOk))) = true) ∧
  ((let s : State := { dev := { mode := .active }, host := { vfEn := true, numVfs := 255,  }, sched := { ltiles := [(0, { ten := 1, bound := true, resident := true })] }, tiles := [(0, { inEcyc := true })], tenants := [(1, { img := some { oneTile with deep := [⟨63, 0, 0, 2, true, 0⟩] } })], regs := [(0x92804, 1)] };
   let d : DRef := ⟨1, 0, 0, 1, 0, 0⟩; let p : Byte := 7; let dir : Byte := 0; let m : Byte := 63; let cq : Byte := 0;
   decide ((s.fnUp ↑d.fn = true) ∧ (s.dev.mode ≠ Mode.safe) ∧
     (s.bindStatus (↑d.fn) (BitVec.toNat p) (BitVec.toNat dir) (BitVec.toNat m) (BitVec.toNat cq) = stOk) ∧ (s.runsNone ↑d.fn = false))) = true) ∧
  ((let s : State := { dev := { mode := .active }, host := { vfEn := true, numVfs := 255,  }, sched := { ltiles := [(0, { ten := 1, bound := true, resident := true })] }, tiles := [(0, { inEcyc := false })], tenants := [(1, { img := some { oneTile with deep := [⟨63, 0, 0, 2, true, 0⟩] } })], regs := [(0x92804, 1)] };
   let d : DRef := ⟨1, 0, 0, 1, 0, 0⟩; let p : Byte := 7; let dir : Byte := 0; let m : Byte := 63; let cq : Byte := 0;
   decide ((s.fnUp ↑d.fn = true) ∧ (s.dev.mode ≠ Mode.safe) ∧
     (s.bindStatus (↑d.fn) (BitVec.toNat p) (BitVec.toNat dir) (BitVec.toNat m) (BitVec.toNat cq) = stOk) ∧ (s.runsNone ↑d.fn = true))) = true) ∧
  ((let s : State := { dev := { mode := .active }, host := { vfEn := true, numVfs := 255,  }, sched := { ltiles := [(0, { ten := 1, bound := true, resident := true })] }, tiles := [(0, { inEcyc := true })], tenants := [(1, { img := some { oneTile with deep := [⟨63, 0, 0, 2, true, 0⟩] } })], regs := [(0x92804, 1)] };
   let d : DRef := ⟨1, 0, 0, 1, 0, 0⟩; let p : Byte := 7; let len : BitVec 16 := 4096;
   decide ((s.fnUp ↑d.fn = true) ∧ (s.dev.mode ≠ Mode.safe) ∧ (0 < len.toNat) ∧ (len.toNat ≤ 4096) ∧ (BitVec.toNat p < 8) ∧
     (s.port (↑d.fn) (BitVec.toNat p) = none))) = true) ∧
  ((let s : State := { dev := { mode := .active }, host := { vfEn := true, numVfs := 255,  }, sched := { ltiles := [(0, { ten := 1, bound := true, resident := true })] }, tiles := [(0, { inEcyc := true })], tenants := [(1, { img := some { oneTile with deep := [⟨63, 0, 0, 10, true, 0⟩] }, ports := [(7, ⟨false, 63, 0⟩)] })], regs := [(0x92804, 1)] };
   let d : DRef := ⟨1, 0, 0, 1, 0, 0⟩; let p : Byte := 7; let len : BitVec 16 := 64;
   decide ((s.fnUp ↑d.fn = true) ∧ (s.dev.mode ≠ Mode.safe) ∧ (0 < len.toNat) ∧ (len.toNat ≤ 4096) ∧ (BitVec.toNat p < 8)) &&
     (s.port (↑d.fn) (BitVec.toNat p)).any (fun b => decide (b.out = false) &&
     ((s.ten ↑d.fn).img).any (fun i => (i.mem b.memid).any (fun e => decide (1 + (len.toNat + 7) / 8 ≤ 2 ^ (e.k - 1)))))) = true) ∧
  ((let s : State := { dev := { mode := .active }, host := { vfEn := true, numVfs := 255,  }, sched := { ltiles := [(0, { ten := 1, bound := true, resident := true })] }, tiles := [(0, { inEcyc := true })], tenants := [(1, { img := some { oneTile with deep := [⟨63, 0, 0, 10, true, 0⟩] }, ports := [(7, ⟨false, 63, 0⟩)] })], regs := [(0x92804, 1)] };
   let d : DRef := ⟨1, 0, 0, 1, 0, 0⟩; let p : Byte := 7; let len : BitVec 16 := 4096;
   decide ((s.fnUp ↑d.fn = true) ∧ (s.dev.mode ≠ Mode.safe) ∧ (0 < len.toNat) ∧ (len.toNat ≤ 4096) ∧ (BitVec.toNat p < 8)) &&
     (s.port (↑d.fn) (BitVec.toNat p)).any (fun b => decide (b.out = false) &&
     ((s.ten ↑d.fn).img).any (fun i => (i.mem b.memid).any (fun e => decide (2 ^ (e.k - 1) < 1 + (len.toNat + 7) / 8))))) = true) ∧
  ((let s : State := { dev := { mode := .active }, host := { vfEn := true, numVfs := 255,  }, sched := { ltiles := [(0, { ten := 1, bound := true, resident := true })] }, tiles := [(0, { inEcyc := true })], tenants := [(1, { img := some { oneTile with deep := [⟨63, 0, 0, 2, true, 0⟩] } })], regs := [(0x92804, 1)] };
   let ten : TenId := 1; let p : Ring8 := 7; decide (s.landable ↑ten ↑p = none)) = true) ∧
  ((let s : State := { dev := { mode := .active }, host := { vfEn := true, numVfs := 255, ins := [⟨⟨1, 0, 0, 1, 0, 0⟩, 1, 7, [1]⟩] }, sched := { ltiles := [(0, { ten := 1, bound := true, resident := true })] }, tiles := [(0, { inEcyc := false })], tenants := [(1, { img := some { oneTile with deep := [⟨63, 0, 0, 2, true, 0⟩] }, ports := [(7, ⟨false, 63, 0⟩)], run := .running })], regs := [(0x92804, 1)] };
   let ten : TenId := 1; let p : Ring8 := 7;
   (s.landable ↑ten ↑p).any (fun m => (s.inPort ↑ten ↑p).any (fun ⟨d, b⟩ => (s.tileOf (↑ten) d.owner).any (fun l => decide ((((List.range ↑p).all fun q => (s.landable (↑ten) q).isNone || !Option.any (fun x => decide (x.1.owner = d.owner)) (s.inPort (↑ten) q)) = true) ∧
     ((s.tile l).inEcyc = false) ∧ ((s.tile l).halt = none) ∧ ((s.ten ↑ten).recov = none) ∧ (s.closedFor (↑ten) (s.tile l).endedCount = false) ∧
     (s.movingFor (↑ten) (s.tile l).endedCount = false) ∧ (s.logFull ↑ten = false) ∧
     ((s.redoFor (↑ten) d.owner (s.tile l).endedCount).isEmpty = true) ∧ (s.dev.mode ≠ Mode.safe)))))) = true) ∧
  ((let s : State := { dev := { mode := .active }, host := { vfEn := true, numVfs := 255,  }, sched := { ltiles := [(0, { ten := 1, bound := true, resident := true })] }, tiles := [(0, { inEcyc := true })], tenants := [(1, { img := some { oneTile with deep := [⟨63, 0, 0, 2, true, 0⟩] }, ports := [(7, ⟨true, 63, 0⟩)] })], regs := [(0x92804, 1)] };
   let d : DRef := ⟨1, 0, 0, 1, 0, 0⟩; let p : Byte := 7; let cap : Word := 4096;
   decide ((s.fnUp ↑d.fn = true) ∧ (0 < BitVec.toNat cap) ∧ (BitVec.toNat cap ≤ 4096) ∧ (BitVec.toNat p < 8)) &&
     (s.port (↑d.fn) (BitVec.toNat p)).any (fun b => decide (b.out = true))) = true) ∧
  ((let s : State := { dev := { mode := .active }, host := { vfEn := true, numVfs := 255,  }, sched := { ltiles := [(0, { ten := 1, bound := true, resident := true })] }, tiles := [(0, { inEcyc := true })], tenants := [(1, { img := some { oneTile with deep := [⟨63, 0, 0, 2, true, 0⟩] } })], regs := [(0x92804, 1)] };
   let d : DRef := ⟨1, 0, 0, 1, 0, 0⟩; let p : Byte := 7; let cap : Word := 4096;
   decide ((s.fnUp ↑d.fn = true) ∧ (0 < BitVec.toNat cap) ∧ (BitVec.toNat cap ≤ 4096) ∧ (BitVec.toNat p < 8) ∧
     (Option.all (fun b => !b.out) (s.port (↑d.fn) (BitVec.toNat p)) = true))) = true) ∧
  ((let s : State := { dev := { mode := .active }, host := { vfEn := true, numVfs := 255,  }, sched := { ltiles := [(0, { ten := 1, bound := true, resident := true })] }, tiles := [(0, { inEcyc := true })], tenants := [(1, { img := some { oneTile with deep := [⟨63, 0, 0, 2, true, 0⟩] } })], regs := [(0x92804, 1)] };
   let d : DRef := ⟨1, 0, 0, 1, 0, 0⟩; let p : Byte := 7; let cap : Word := 0;
   decide ((s.fnUp ↑d.fn = true) ∧ (BitVec.toNat cap = 0 ∨ 4096 < BitVec.toNat cap ∨ 8 ≤ BitVec.toNat p))) = true) ∧
  ((let s : State := { host := { msgs := [⟨1, 7, 7, 0, 0, 1, [1], false, none⟩], bufs := [⟨⟨1, 0, 0, 1, 0, 0⟩, 1, 7, 64, 0⟩] } };
   let ten : TenId := 1; let p : Ring8 := 7;
   (List.find? (fun m => decide (m.ten = ↑ten ∧ m.port = ↑p ∧ m.done = none) &&
     s.aboveMark m) s.host.msgs).any (fun m => (List.find? (fun b => decide (b.ten = ↑ten ∧
     b.port = ↑p)) s.host.bufs).any (fun b => decide ((s.host.bmeOff.contains ↑ten = false) ∧ (m.bad = false))))) = true) ∧
  ((let s : State := { dev := { mode := .active }, host := { vfEn := true, numVfs := 255,  }, sched := { ltiles := [(0, { ten := 1, bound := true, resident := true })] }, tiles := [(0, { inEcyc := true })], tenants := [(1, { img := some { oneTile with deep := [⟨63, 0, 0, 2, true, 0⟩] } })], regs := [(0x92804, 1)] };
   let ten : TenId := 1; let q : Ring8 := 7; decide (s.flowHead ↑ten ↑q = none)) = true) ∧
  ((let s : State := { host := { msgs := [⟨1, 7, 7, 0, 0, 1, [1], false, some (⟨⟨1, 0, 0, 1, 0, 0⟩, 1, 7, 64, 0⟩, 0, 1)⟩] }, tenants := [(1, { done := 1 })] };
   let ten : TenId := 1; let q : Ring8 := 7;
   (s.flowHead ↑ten ↑q).any (fun m => decide ((m.e < (s.ten ↑ten).done) ∧ (s.aboveMark m = true)) && m.done.isSome)) = true) ∧
  ((let s : State := { host := { msgs := [⟨1, 7, 7, 0, 0, 1, [1], false, none⟩], bufs := [⟨⟨1, 0, 0, 1, 0, 0⟩, 1, 7, 64, 0⟩] } };
   let ten : TenId := 1; let q : Ring8 := 7; (s.flowHead ↑ten ↑q).any (fun m => decide ((s.ten ↑ten).done ≤ m.e))) = true) := by
  decide +kernel

theorem witness_HostResets :
  ((let s : State := { dev := { mode := .active }, host := { vfEn := true, numVfs := 255 } }; let fn : TenId := 255;
   decide (s.fnUp ↑fn = true)) = true) ∧
  ((let s : State := { pwr := { domains := [(61, { on := true, good := true })] } }; let fn : TenId := 255; decide (s.fnUp ↑fn = false)) = true) ∧
  ((let s : State := { dev := { mode := .active }, host := { vfEn := true, numVfs := 255 } }; decide (s.fnUp 0 = true)) = true) ∧
  ((let s : State := { pwr := { domains := [(61, { on := true, good := true })] } }; decide (s.fnUp 0 = false)) = true) ∧
  ((let s : State := { dev := { mode := .active }, host := { vfEn := true, numVfs := 255 } }; decide (s.fnUp 0 = true)) = true) ∧
  ((let s : State := { pwr := { domains := [(61, { on := true, good := true })] } }; decide ((s.domain 61).good = true)) = true) ∧
  ((let s : State := { dev := { mode := .active }, host := { vfEn := true, numVfs := 255 } }; decide ((s.domain 61).good = false)) = true) ∧
  ((let s : State := { clk := { pclkOk := true } }; decide (s.clk.pclkOk = true)) = true) ∧
  ((let s : State := { dev := { mode := .active }, host := { vfEn := true, numVfs := 255 } }; decide (s.clk.pclkOk = false)) = true) := by
  decide +kernel

theorem witness_SidebandPort :
  ((let s : State := { dev := { mode := .active }, host := { smbPtr := 0x50000 } }; let pec : Bool := true;
   decide ((s.smbLives = true) ∧ (s.rfld 524544 8 1 = 0 ∨ pec = true))) = true) ∧
  ((let s : State := { dev := { mode := .active }, host := { smbPtr := 0x50000 } }; let pec : Bool := true;
   decide ((s.smbLives = true) ∧ (s.rfld 524544 8 1 = 0 ∨ pec = true) ∧ (smbReads s.host.smbPtr = false))) = true) ∧
  ((let s : State := { regs := [(524544, 0x180)] }; let pec : Bool := true;
   decide ((s.smbLives = true) ∧ (s.rfld 524544 8 1 = 0 ∨ pec = true) ∧ (s.host.smbPtr = 0))) = true) ∧
  ((let s : State := { regs := [(524544, 0x180)] }; let pec : Bool := true;
   decide ((s.smbLives = true) ∧ (s.rfld 524544 8 1 = 0 ∨ pec = true) ∧ (smbReads s.host.smbPtr = true) ∧ (s.smbUp s.host.smbPtr = true))) = true) ∧
  ((let s : State := { dev := { mode := .active }, host := { smbPtr := 36 }, regs := [(524544, 0x80)] }; let pec : Bool := true;
   decide ((s.smbLives = true) ∧ (s.rfld 524544 8 1 = 0 ∨ pec = true) ∧ (s.host.smbPtr = 36 ∨ s.host.smbPtr = 458756))) = true) ∧
  ((let s : State := { dev := { mode := .active }, host := { smbPtr := 0x50000 } }; let pec : Bool := true;
   decide ((s.smbLives = true) ∧ (s.rfld 524544 8 1 = 0 ∨ pec = true) ∧ (s.host.smbPtr ≠ 36) ∧ (s.host.smbPtr ≠ 458756))) = true) ∧
  ((let s : State := { regs := [(524544, 0x180)] }; let off : Word := 0; let v : Word := 0;
   (let c : Instr := Instr.smbSetPointer off false; decide ((s.smbLives = true) ∧ (s.rfld 524544 8 1 = 1)))) = true) ∧
  ((let s : State := { host := { smbDead := true } }; let off : Word := 0; let v : Word := 0; let pec : Bool := true;
   (let c : Instr := Instr.smbSetPointer off pec; decide (s.smbLives = false))) = true) ∧
  ((let s : State := { dev := { mode := .active }, host := { smbPtr := 0x50000 } }; decide (s.smbLives = true)) = true) ∧
  ((let s : State := { host := { smbDead := true } }; decide (s.host.smbDead = true)) = true) ∧
  ((let s : State := { dev := { mode := .active }, host := { smbPtr := 0x50000 } }; decide (s.host.smbDead = false)) = true) := by
  decide +kernel

theorem witness_ThymeTime :
  ((let s : State := { thy := { runs := true } }; decide ((s.thy.runs = true) ∧ (s.thy.stepsDue = []))) = true) ∧
  ((let s : State := { thy := { runs := true, stepsDue := [none] } }; decide ((s.thy.runs = true) ∧ (s.thy.stepsDue = [none]))) = true) ∧
  ((let s : State := { thy := { sec := 2 ^ 48 - 1, ns := 999999999 } }; decide ((s.thy.sec < 2 ^ 48) ∧ (s.thy.ns < 10 ^ 9))) = true) ∧
  ((let s : State := { dev := { mode := .idle }, regs := [(0x40004, 1)] }; decide (s.thy.runs = false)) = true) ∧
  ((let s : State := { dev := { mode := .active }, lat := { links := [(143, { st := .up })] } }; let l : LinkId := 143; let was : Nat := 5;
   decide ((s.isUp ↑l = true) ∧ ((s.link ↑l).txSleep = false) ∧ (s.thy.ns / 1000 ≠ was))) = true) ∧
  ((let s : State := { dev := { mode := .active }, lat := { links := [(143, { st := .up })] } }; let l : LinkId := 143;
   decide ((s.isUp ↑l = true) ∧ ((s.link ↑l).txSleep = false)) && (let was := s.thy.ns / 1000; true)) = true) ∧
  ((let s : State := { thy := { runs := true } }; decide (s.dev.mode ≠ Mode.off)) = true) ∧
  ((let s : State := inMode .off; decide (s.dev.mode = Mode.off)) = true) ∧
  ((let s : State := { dev := { mode := .idle }, regs := [(262192, 1073741824)] }; let v : BitVec 4 := 2;
   decide ((s.dev.mode.configured = true) ∧ (s.thySrc = 0) ∧ (9663676416 ≤ v.toNat * 2 ^ 32 + s.reg 262192) ∧
     (v.toNat * 2 ^ 32 + s.reg 262192 ≤ 11811160064))) = true) ∧
  ((let s : State := { dev := { mode := .idle }, regs := [(0x40004, 1)] }; decide ((s.dev.mode.configured = true) ∧ (s.thySrc ≠ 0))) = true) ∧
  ((let s : State := inMode .idle; let v : BitVec 4 := 0;
   decide ((s.dev.mode.configured = true) ∧ (s.thySrc = 0) ∧
     (v.toNat * 2 ^ 32 + s.reg 262192 < 9663676416 ∨ 11811160064 < v.toNat * 2 ^ 32 + s.reg 262192))) = true) ∧
  ((let s : State := { dev := { mode := .idle }, regs := [(0x40004, 1)] }; decide (s.dev.mode.configured = true)) = true) ∧
  ((let s : State := inMode .idle; decide ((s.barAnswers none = true) ∧ (s.thySrc = 0))) = true) ∧
  ((let s : State := { dev := { mode := .idle }, regs := [(0x40004, 1)] }; decide ((s.barAnswers none = true) ∧ (s.thySrc ≠ 0))) = true) ∧
  ((let s : State := { dev := { mode := .idle }, regs := [(0x40004, 1)] }; decide (s.thySrc ≠ 0)) = true) := by
  decide +kernel

theorem witness_ThymeSources :
  ((let s : State := { lat := { links := [(143, { st := .up, markDue := true })] } }; let l : LinkId := 143;
   decide ((s.isUp ↑l = true) ∧ ((s.link ↑l).markDue = true))) = true) ∧
  ((let s : State := { dev := { mode := .idle }, regs := [(0x40004, 0)], thy := {  }, lat := { links := [(143, { st := .up })] } };
   let l : LinkId := 143; decide (s.isUp ↑l = false ∨ (s.link ↑l).markDue = false)) = true) ∧
  ((let s : State := { dev := { mode := .idle }, regs := [(0x40004, 0)], thy := {  }, lat := { links := [(143, { st := .up })] } };
   let l : LinkId := 143; decide (s.isUp ↑l = true)) = true) ∧
  ((let s : State := { dev := { mode := .idle }, regs := [(0x40004, 0)], thy := {  }, lat := { links := [(143, { st := .up })] } };
   let l : LinkId := 143; let st : Byte := 254; decide ((s.isUp ↑l = true) ∧ (s.thySrc ≠ 2) ∧ (BitVec.toNat st < 255))) = true) ∧
  ((let s : State := { dev := { mode := .idle }, regs := [(0x40004, 0)], thy := {  }, lat := { links := [(143, { st := .up })] } };
   let l : LinkId := 143; decide ((s.isUp ↑l = true) ∧ (s.thySrc ≠ 2) ∧ (s.thy.srcLink ≠ some ↑l))) = true) ∧
  ((let s : State := { dev := { mode := .idle }, regs := [(0x40004, 2)], thy := { srcLink := some 143 }, lat := { links := [(143, { st := .up })] } };
   let l : LinkId := 143; let st : Byte := 254;
   decide ((s.isUp ↑l = true) ∧ (s.thySrc = 2) ∧ (s.thy.srcLink = some ↑l) ∧ (BitVec.toNat st < 255))) = true) ∧
  ((let s : State := { dev := { mode := .idle }, regs := [(0x40004, 0)], thy := {  }, lat := { links := [(143, { st := .up })] } };
   let l : LinkId := 142; decide (s.isUp ↑l = false)) = true) ∧
  ((let s : State := { dev := { mode := .idle }, regs := [(0x40004, 2)], thy := { srcLink := some 143 }, lat := { links := [(143, { st := .up })] } };
   decide (s.thySrc = 2) && s.thy.srcLink.any (fun l => decide ((s.thy.marks.del l = []) ∧ (s.thy.holdover = false)))) = true) ∧
  ((let s : State := { dev := { mode := .idle }, regs := [(0x40004, 2)], thy := { srcLink := some 143, marks := [(142, 0, 0)] }, lat := { links := [(142, { st := .up }), (143, { st := .up })] } };
   decide (s.thySrc = 2) && s.thy.srcLink.any (fun l => headIs (s.thy.marks.del l) (fun ⟨m, a, b⟩ rest => decide (a = 0 ∧ b = 0) && rest.isEmpty &&
     decide (s.isUp m = true)))) = true) ∧
  ((let s : State := { dev := { mode := .idle }, regs := [(0x40004, 0)], thy := {  }, lat := { links := [(143, { st := .up })] } };
   decide (s.thy.srcLink = none)) = true) ∧
  ((let s : State := { dev := { mode := .idle }, regs := [(0x40004, 2)], thy := { srcLink := some 143, marks := [(142, 0, 0)] }, lat := { links := [(142, { st := .up }), (143, { st := .up })] } };
   let l : LinkId := 142; decide (s.thySrc = 2) && s.thy.srcLink.any (fun c => decide ((s.bestMark = some ↑l) ∧ (s.markLt (↑l) c = true)))) = true) ∧
  ((let s : State := { dev := { mode := .idle }, regs := [(0x40004, 2)], thy := { srcLink := some 143 }, lat := { links := [(143, { st := .up })] } };
   let l : LinkId := 143; s.thy.srcLink.any (fun c => decide (s.markLt (↑l) c = false))) = true) ∧
  ((let s : State := { dev := { mode := .idle }, regs := [(0x40004, 0)], thy := { runs := true }, lat := { links := [(143, { st := .up })] } };
   decide (s.thy.runs = true)) = true) ∧
  ((let s : State := { dev := { mode := .idle }, regs := [(0x40004, 1)], thy := { runs := true }, lat := { links := [(143, { st := .up })] } };
   decide ((s.thySrc = 1) ∧ (s.thy.holdover = false))) = true) ∧
  ((let s : State := { dev := { mode := .idle }, regs := [(0x40004, 0)], thy := {  }, lat := { links := [(143, { st := .up })] } };
   decide (s.thySrc ≠ 1)) = true) := by
  decide +kernel

theorem witness_TimedEvents :
  ((let s : State := { dev := { mode := .idle }, thy := { valid := true }, regs := [(262224, 0x3E8001)] };
   decide ((s.rfld 262224 0 1 = 1) ∧ (s.thy.valid = true) ∧ (s.dev.mode.configured = true) ∧ (s.dev.mode ≠ Mode.safe) ∧
     (s.thy.total % (s.rfld 262224 12 20 * 1000) * 2 ^ 32 + s.thy.frac < s.thy.inc))) = true) ∧
  ((let s : State := { dev := { mode := .safe }, thy := { slots := [(15, { arm := true })] } }; decide (s.thy.valid = false)) = true) ∧
  ((let s : State := { dev := { mode := .idle }, thy := { valid := true }, regs := [(262224, 0x3E8001)] }; let k : Fin 4 := 0;
   decide ((s.dev.mode.configured = true) ∧ ((s.tslot ↑k).arm = false) ∧ (s.thy.valid = true))) = true) ∧
  ((let s : State := { dev := { mode := .safe }, thy := { slots := [(15, { arm := true })] } }; let k : Fin 4 := 0;
   decide ((s.dev.mode.configured = true) ∧ ((s.tslot ↑k).arm = false) ∧ (s.thy.valid = false))) = true) ∧
  ((let s : State := { dev := { mode := .safe }, thy := { slots := [(3, { arm := true })] } }; let k : Fin 4 := 3;
   decide ((s.dev.mode.configured = true) ∧ ((s.tslot ↑k).arm = true))) = true) ∧
  ((let s : State := { dev := { mode := .idle }, thy := { valid := true }, regs := [(262224, 0x3E8001)] }; let k : Fin 4 := 0;
   decide ((s.tslot ↑k).arm = false ∨ s.tslotDue ↑k = false)) = true) ∧
  ((let s : State := { dev := { mode := .safe }, thy := { slots := [(3, { arm := true })] } }; let k : Fin 4 := 3;
   decide (((s.tslot ↑k).arm = true) ∧ (s.tslotDue ↑k = true) ∧ (s.dev.mode = Mode.safe))) = true) ∧
  ((let s : State := { dev := { mode := .idle }, thy := { slots := [(3, { arm := true })] }, tenants := [(0, { img := some oneTile })] };
   let k : Fin 4 := 3; let sp : SpanAns := .ok;
   decide (((s.tslot ↑k).arm = true) ∧ (s.tslotDue ↑k = true) ∧ (s.dev.mode ≠ Mode.safe) ∧
     (s.startRefusal (fld (s.reg (tstartReg ↑k)) 8 8) sp = none))) = true) ∧
  ((let s : State := { dev := { mode := .idle }, thy := { slots := [(3, { arm := true })], runs := true, sec := 5, ns := 5 } }; let k : Fin 4 := 3;
   let sp : SpanAns := .ok;
   decide (((s.tslot ↑k).arm = true) ∧ (s.tslotDue ↑k = true) ∧ (s.dev.mode ≠ Mode.safe)) &&
     (s.startRefusal (fld (s.reg (tstartReg ↑k)) 8 8) sp).isSome) = true) := by
  decide +kernel

theorem witness_TraceSinks :
  ((let s : State := { dev := { mode := .idle }, chv := { sinks := [(7, { en := true, staging := [List.replicate 126976 0] })] } };
   decide (s.chv.inq = [])) = true) ∧
  ((let s : State := { dev := { mode := .idle }, chv := { inq := [⟨63, 1, 0, [], 0, 0, none, none⟩] } };
   headIs s.chv.inq (fun p r => decide (s.chv.frozen = true ∨ s.rfld (srcReg p.src) 0 1 = 0))) = true) ∧
  ((let s : State := { dev := { mode := .idle }, chv := { inq := [⟨63, 1, 0, [], 0, 0, none, none⟩] }, regs := [(srcReg 63, 1)] };
   headIs s.chv.inq (fun p r => decide ((s.chv.frozen = false) ∧ (s.rfld (srcReg p.src) 0 1 = 1)))) = true) ∧
  ((let s : State := { dev := { mode := .idle }, chv := { inq := [⟨63, 1, 0, [], 0, 0, none, none⟩] } }; let k : Nat := 7;
   decide ((s.sink k).en = false ∨ s.chv.frozen = true)) = true) ∧
  ((let s : State := { dev := { mode := .idle }, chv := { sinks := [(7, { en := true, staging := [[1]], paid := 1 })] }, regs := [(sinkReg 7, 0x100000), (0x92800, 1)] };
   let k : Ring8 := 7; let bad : BitVec 10 := 0;
   headIs ((s.sink ↑k).staging) (fun p r => decide (((s.sink ↑k).wait = []) ∧ ((s.sink ↑k).widx - (s.sink ↑k).ridx + p.length ≤ s.sinkSize ↑k) ∧
     (p.length ≤ (s.sink ↑k).paid) ∧ (s.sinkBase ↑k + s.sinkSize ↑k ≤ s.rsize (s.sinkOwner ↑k)) ∧ (zeroLines (s.sink ↑k).widx bad p = p)))) = true) ∧
  ((let s : State := { dev := { mode := .idle }, chv := { sinks := [(7, { en := true, staging := [[1]], paid := 1 })] }, regs := [(sinkReg 7, 0x100000), (0x92800, 1)] };
   let k : Ring8 := 7; let bad : BitVec 10 := 1;
   headIs ((s.sink ↑k).staging) (fun p r => decide (((s.sink ↑k).wait = []) ∧ ((s.sink ↑k).widx - (s.sink ↑k).ridx + p.length ≤ s.sinkSize ↑k) ∧
     (p.length ≤ (s.sink ↑k).paid) ∧ (s.sinkBase ↑k + s.sinkSize ↑k ≤ s.rsize (s.sinkOwner ↑k)) ∧ (zeroLines (s.sink ↑k).widx bad p ≠ p)))) = true) ∧
  ((let s : State := { dev := { mode := .idle }, chv := { sinks := [(7, { en := true, staging := [[1, 2]] })] }, regs := [(sinkReg 7, 0x100000)] };
   let k : Ring8 := 7;
   headIs ((s.sink ↑k).staging) (fun p r => decide (((s.sink ↑k).widx - (s.sink ↑k).ridx + p.length ≤ s.sinkSize ↑k) ∧
     ((s.sink ↑k).paid < p.length) ∧ ((s.sink ↑k).tok = 0)))) = true) ∧
  ((let s : State := { dev := { mode := .idle }, chv := { sinks := [(7, { en := true, staging := [List.replicate 126976 0] })] } };
   let k : Ring8 := 7; headIs ((s.sink ↑k).staging) (fun p r => decide (s.sinkSize ↑k < (s.sink ↑k).widx - (s.sink ↑k).ridx + p.length))) = true) ∧
  ((let s : State := { dev := { mode := .idle }, chv := { inq := [⟨63, 1, 0, [], 0, 0, none, none⟩] } }; let k : Ring8 := 7;
   decide (((s.sink ↑k).staging = []) ∧ ((s.sink ↑k).wait = []))) = true) ∧
  ((let s : State := { dev := { mode := .idle }, chv := { inq := [⟨63, 1, 0, [], 0, 0, none, none⟩] } }; let k : Ring8 := 7;
   decide ((s.dev.mode.configured = true) ∧ ((s.sink ↑k).en = false) ∧ (s.chv.frozen = false))) = true) ∧
  ((let s : State := { dev := { mode := .idle }, chv := { inq := [⟨63, 1, 0, [], 0, 0, none, none⟩] } };
   decide (s.dev.mode.configured = true)) = true) ∧
  ((let s : State := { dev := { mode := .idle }, chv := { inq := [⟨63, 1, 0, [], 0, 0, none, none⟩] } };
   decide (s.dev.mode.configured = true)) = true) ∧
  ((let s : State := { dev := { mode := .idle }, chv := {  }, regs := [(srcReg 20, 1)] };
   decide ((s.dev.mode.configured = true) ∧ (s.rfld (srcReg 20) 0 1 = 1) ∧ (s.chv.frozen = false))) = true) := by
  decide +kernel

theorem witness_EdgeBanks :
  ((let s : State := { dev := { mode := .active }, edg := { banks := [(11, { stage := .off })] }, regs := [(bankReg 11, 0x101)] };
   let g : EBank := 11;
   decide ((s.dev.mode.configured = true) ∧ ((s.bank ↑g).stage = BStage.off ∨ (s.bank ↑g).stage = BStage.failsafe) ∧
     (s.releasable ↑g = true))) = true) ∧
  ((let s : State := { dev := { mode := .active }, edg := { banks := [(11, { stage := .off })] }, regs := [(bankReg 11, 0)] }; let g : EBank := 11;
   decide ((s.dev.mode.configured = true) ∧ (s.releasable ↑g = false))) = true) ∧
  ((let s : State := { dev := { mode := .active }, edg := { banks := [(11, { stage := .check })] }, regs := [(bankReg 11, 0x101)] };
   let g : EBank := 11; decide ((s.dev.mode.configured = true) ∧ ((s.bank ↑g).stage ≠ BStage.off) ∧ ((s.bank ↑g).stage ≠ BStage.failsafe))) = true) ∧
  ((let s : State := { dev := { mode := .active }, edg := { banks := [(11, { stage := .run })] }, regs := [(bankReg 11, 0x101)] };
   let g : EBank := 11; decide ((s.dev.mode.configured = true) ∧ (s.releasable ↑g = true) ∧ ((s.bank ↑g).stage = BStage.run))) = true) ∧
  ((let s : State := { dev := { mode := .active }, edg := { banks := [(11, { stage := .check })] }, regs := [(bankReg 11, 0x101)] };
   let g : EBank := 11;
   decide ((s.dev.mode.configured = true) ∧ (s.releasable ↑g = true) ∧
     ((s.bank ↑g).stage = BStage.check ∨ (s.bank ↑g).stage = BStage.out ∨ (s.bank ↑g).stage = BStage.failsafe))) = true) ∧
  ((let s : State := { dev := { mode := .active }, edg := { banks := [(11, { stage := .we })] }, regs := [(bankReg 11, 0x101)] };
   let g : EBank := 11; decide ((s.dev.mode.configured = true) ∧ (s.releasable ↑g = true) ∧ ((s.bank ↑g).stage = BStage.we))) = true) ∧
  ((let s : State := { dev := { mode := .active }, edg := { banks := [(11, { stage := .retreat, undoing := .we })] }, regs := [(bankReg 11, 0x101)] };
   let g : EBank := 11; decide ((s.dev.mode.configured = true) ∧ (s.releasable ↑g = true) ∧ ((s.bank ↑g).stage = BStage.retreat))) = true) ∧
  ((let s : State := { dev := { mode := .active }, edg := { banks := [(11, { stage := .off })] }, regs := [(bankReg 11, 0x101)] };
   let g : EBank := 11; decide ((s.dev.mode.configured = true) ∧ (s.releasable ↑g = true) ∧ ((s.bank ↑g).stage = BStage.off))) = true) ∧
  ((let s : State := { dev := { mode := .active }, edg := { banks := [(11, { stage := .out })] }, regs := [(bankReg 11, 0x101)] };
   let g : EBank := 11; decide ((s.bank ↑g).stage = BStage.out)) = true) ∧
  ((let s : State := { dev := { mode := .active }, edg := { banks := [(11, { stage := .retreat, undoing := .we })] }, regs := [(bankReg 11, 0x101)] };
   let g : EBank := 11; decide (((s.bank ↑g).stage = BStage.retreat) ∧ ((s.bank ↑g).undoing = BStage.we))) = true) ∧
  ((let s : State := { dev := { mode := .active }, edg := { banks := [(11, { stage := .retreat, undoing := .out })] }, regs := [(bankReg 11, 0x101)] };
   let g : EBank := 11; decide (((s.bank ↑g).stage = BStage.retreat) ∧ ((s.bank ↑g).undoing ≠ BStage.we))) = true) ∧
  ((let s : State := { dev := { mode := .active }, edg := { banks := [(11, { stage := .we })] }, regs := [(bankReg 11, 0x101)] };
   let g : EBank := 11; decide ((s.bank ↑g).stage = BStage.we) && (s.bankOwner ↑g).isSome) = true) ∧
  ((let s : State := { dev := { mode := .active }, edg := { banks := [(11, { stage := .off })] }, regs := [(bankReg 11, 0x101)] };
   let g : EBank := 11; decide ((s.bank ↑g).stage ∉ [BStage.out, BStage.we, BStage.retreat])) = true) ∧
  ((let s : State := { dev := { mode := .active }, edg := { banks := [(11, { stage := .check })] }, regs := [(bankReg 11, 0)] };
   let g : EBank := 11; decide ((s.bankOwner ↑g = none) ∧ ((s.bank ↑g).stage ≠ BStage.off) ∧ ((s.bank ↑g).stage ≠ BStage.failsafe))) = true) ∧
  ((let s : State := { dev := { mode := .active }, edg := { banks := [(11, { stage := .off })] }, regs := [(bankReg 11, 0x101)] };
   let g : EBank := 11; decide ((s.bank ↑g).stage = BStage.off ∨ (s.bank ↑g).stage = BStage.failsafe)) = true) ∧
  ((let s : State := { dev := { mode := .active }, edg := { banks := [(11, { stage := .check })] }, regs := [(bankReg 11, 0x101)] };
   let g : EBank := 11; (s.bankOwner ↑g).any (fun x => decide (((s.bank ↑g).stage ≠ BStage.off) ∧ ((s.bank ↑g).stage ≠ BStage.failsafe)))) = true) ∧
  ((let s : State := { dev := { mode := .active }, edg := { banks := [(11, { stage := .run, outFifo := [(0, 7)] })] }, regs := [(bankReg 11, 0x101)] };
   let g : EBank := 11;
   headIs ((s.bank ↑g).outFifo) (fun ⟨k, v⟩ r => (s.bankOwner ↑g).any (fun x => decide (((s.bank ↑g).stage = BStage.run) ∧
     (s.bankFree ↑g = false) ∧ ((s.bank ↑g).cyc = none) ∧ ((s.ten x).recov = none))))) = true) ∧
  ((let s : State := { dev := { mode := .active }, edg := { banks := [(11, { stage := .run, outFifo := [(0, 7)] })] }, regs := [(bankReg 11, 0x101)], tenants := [(1, { recov := some ⟨.masked, .replay, 7, 9, 1, 0, [], none, false, 0⟩ })] };
   let g : EBank := 11;
   headIs ((s.bank ↑g).outFifo) (fun ⟨k, v⟩ r => (s.bankOwner ↑g).any (fun x => decide (((s.bank ↑g).stage = BStage.run) ∧
     (s.bankFree ↑g = false) ∧ ((s.bank ↑g).cyc = none) ∧ ((s.ten x).recov ≠ none))))) = true) ∧
  ((let s : State := { dev := { mode := .active }, edg := { banks := [(11, { cyc := some (5, false) })] }, regs := [(bankReg 11, 0x101)] };
   let g : EBank := 11; ((s.bank ↑g).cyc).any (fun ⟨k, lit1⟩ => decide (lit1 = false) && decide (s.clockHeld ↑g = false))) = true) ∧
  ((let s : State := { dev := { mode := .active }, edg := { banks := [(11, { cyc := some (5, false) })] }, regs := [(bankReg 11, 0x101)], tenants := [(1, { recov := some ⟨.masked, .replay, 7, 9, 1, 0, [], none, false, 0⟩ })] };
   let g : EBank := 11; ((s.bank ↑g).cyc).any (fun ⟨k, lit1⟩ => decide (lit1 = false) && decide (s.clockHeld ↑g = true))) = true) ∧
  ((let s : State := { dev := { mode := .active }, edg := { banks := [(11, { cyc := some (5, true) })] }, regs := [(bankReg 11, 0x101)] };
   let g : EBank := 11; ((s.bank ↑g).cyc).any (fun ⟨k, lit1⟩ => decide (lit1 = true) && decide (s.clockHeld ↑g = false))) = true) ∧
  ((let s : State := { dev := { mode := .active }, edg := { banks := [(11, { cyc := some (5, true) })] }, regs := [(bankReg 11, 0x101)], tenants := [(1, { recov := some ⟨.masked, .replay, 7, 9, 1, 0, [], none, false, 0⟩ })] };
   let g : EBank := 11; ((s.bank ↑g).cyc).any (fun ⟨k, lit1⟩ => decide (lit1 = true) && decide (s.clockHeld ↑g = true))) = true) ∧
  ((let s : State := { dev := { mode := .active }, edg := { banks := [(11, { stage := .run, inFifo := [(0, 7)] })] }, regs := [(bankReg 11, 0x101)] };
   let g : EBank := 11;
   (s.nextGroup ↑g).any (fun ⟨e, v, b⟩ => (s.bankOwner ↑g).any (fun x => decide ((s.bankRuns ↑g = true) ∧ (e ≤ (s.ten x).done + 1) ∧
     ((s.ten x).recov = none) ∧
     (((List.filter (fun l => s.routesTo (↑g) (s.ltile l).itile) (s.boundTiles x)).all fun l => decide (e ≤ (s.tile l).endedCount + 1)) = true))))) = true) ∧
  ((let s : State := { dev := { mode := .active }, edg := { banks := [(11, { stage := .off })] }, regs := [(bankReg 11, 0x101)] };
   let g : EBank := 11; decide (s.nextGroup ↑g = none)) = true) ∧
  ((let s : State := { dev := { mode := .active }, edg := { banks := [(11, { stage := .run, outFifo := [(0, 7)] })], loaded := [7] }, regs := [(bankReg 11, 0x301), (0x204070, 0x101)] };
   let g : EBank := 11; let q : Region := 7;
   headIs ((s.bank ↑g).outFifo) (fun ⟨k, v⟩ r => decide (((s.bank ↑g).stage = BStage.run) ∧ (s.bankFree ↑g = true) ∧
     (s.isoPasses (↑q) (s.bankOwner ↑g) = true)))) = true) ∧
  ((let s : State := { dev := { mode := .active }, edg := { banks := [(11, { stage := .off })] }, regs := [(bankReg 11, 0x101)] };
   let g : EBank := 11; let q : Region := 0; decide ((s.bank ↑g).outFifo = [] ∨ s.isoPasses (↑q) (s.bankOwner ↑g) = false)) = true) ∧
  ((let s : State := { dev := { mode := .active }, edg := { banks := [(11, { stage := .off })] }, regs := [(bankReg 11, 0x101)] };
   let g : EBank := 11; let q : Region := 0; decide (s.isoPasses (↑q) (s.bankOwner ↑g) = false)) = true) ∧
  ((let s : State := { dev := { mode := .active }, edg := { banks := [(11, { stage := .run, outFifo := [(0, 7)] })], loaded := [7] }, regs := [(bankReg 11, 0x301), (0x204070, 0x101)] };
   let g : EBank := 11; let q : Region := 7;
   decide (((s.bank ↑g).stage = BStage.run) ∧ (s.bankFree ↑g = true) ∧ (s.isoPasses (↑q) (s.bankOwner ↑g) = true) ∧
     ((s.bank ↑g).inFifo.length < 16))) = true) ∧
  ((let s : State := { dev := { mode := .active }, edg := { banks := [(11, { stage := .run, inFifo := List.replicate 16 (0, 7) })], loaded := [7] }, regs := [(bankReg 11, 0x301), (0x204070, 0x101)] };
   let g : EBank := 11; let q : Region := 7;
   decide (((s.bank ↑g).stage = BStage.run) ∧ (s.bankFree ↑g = true) ∧ (s.isoPasses (↑q) (s.bankOwner ↑g) = true) ∧
     (16 ≤ (s.bank ↑g).inFifo.length))) = true) := by
  decide +kernel

theorem witness_EdgeRegisters :
  ((let s : State := { dev := { mode := .active }, edg := { banks := [(11, { stage := .run })] }, regs := [(bankReg 11, 0x101)], tenants := [(1, {})] };
   let n : Fin 768 := 767;
   decide ((s.dev.mode.configured = true) ∧ ((s.bank (↑n / 64)).stage ≠ BStage.off) ∧ ((s.bank (↑n / 64)).stage ≠ BStage.failsafe))) = true) ∧
  ((let s : State := { dev := { mode := .active }, edg := { banks := [(11, { stage := .off })] }, regs := [(bankReg 11, 0x101)], tenants := [(1, {})] };
   let n : Fin 768 := 767; let v : Word := 2;
   decide ((s.dev.mode.configured = true) ∧ ((s.bank (↑n / 64)).stage = BStage.off ∨ (s.bank (↑n / 64)).stage = BStage.failsafe) ∧
     (pinBad (pinStored (BitVec.toNat v)) (s.rfld (bankReg (↑n / 64)) 10 3) = true))) = true) ∧
  ((let s : State := { dev := { mode := .active }, edg := { banks := [(11, { stage := .off })] }, regs := [(bankReg 11, 0x101)], tenants := [(1, {})] };
   let n : Fin 768 := 767; let v : Word := 0;
   decide ((s.dev.mode.configured = true) ∧ ((s.bank (↑n / 64)).stage = BStage.off ∨ (s.bank (↑n / 64)).stage = BStage.failsafe) ∧
     (pinBad (pinStored (BitVec.toNat v)) (s.rfld (bankReg (↑n / 64)) 10 3) = false))) = true) ∧
  ((let v : Nat := 6; let vio : Nat := 0; decide ((pinBad v vio = false) ∧ (fld v 0 2 = 2))) = true) ∧
  ((let v : Nat := 0xC; let vio : Nat := 0; decide ((pinBad v vio = false) ∧ (fld v 3 2 ≠ 0))) = true) ∧
  ((let v : Nat := 0x20001; let vio : Nat := 0; decide ((pinBad v vio = false) ∧ (bit v 17 = 1))) = true) ∧
  ((let v : Nat := 0; let vio : Nat := 0; decide (pinBad v vio = false)) = true) ∧
  ((let s : State := { dev := { mode := .active }, edg := { banks := [(11, { stage := .run })] }, regs := [(bankReg 11, 0x101)], tenants := [(1, {})] };
   let g : Fin 12 := 11; let v : Word := 0;
   decide ((s.dev.mode.configured = true) ∧ ((s.bank ↑g).stage ≠ BStage.off) ∧
     (fld (bankCfgStored (BitVec.toNat v)) 0 10 ≠ s.rfld (bankReg ↑g) 0 10))) = true) ∧
  ((let s : State := { dev := { mode := .active }, edg := { banks := [(11, { stage := .off })] }, regs := [(bankReg 11, 0x101)], tenants := [(1, {})] };
   let g : Fin 12 := 11; decide ((s.dev.mode.configured = true) ∧ ((s.bank ↑g).stage = BStage.off))) = true) ∧
  ((let s : State := { dev := { mode := .active, refits := [1] } };
   decide ((s.dev.mode.configured = true) ∧ (∀ g : Nat, g < 12 → s.bankOwner g = none))) = true) ∧
  ((let s : State := { dev := { mode := .active }, edg := { banks := [(11, { stage := .run })] }, regs := [(bankReg 11, 0x101)], tenants := [(1, {})], sched := { ltiles := [(0, { ten := 1, bound := true })] }, tiles := [(0, { inEcyc := true })] };
   let g : EBank := 11; decide (s.dev.mode.configured = true) && (s.bankOwner ↑g).any (fun x => decide (s.noEcycle x = false))) = true) ∧
  ((let s : State := { dev := { mode := .active }, edg := { banks := [(11, { stage := .run })] }, regs := [(bankReg 11, 0x101)], tenants := [(1, {})] };
   let g : EBank := 11; decide (s.dev.mode.configured = true) && (s.bankOwner ↑g).any (fun x => decide (s.noEcycle x = true))) = true) ∧
  ((let s : State := { dev := { mode := .active, refits := [1] } }; let g : EBank := 11;
   decide ((s.dev.mode.configured = true) ∧ (s.bankOwner ↑g = none))) = true) ∧
  ((let s : State := { dev := { mode := .active }, edg := { banks := [(11, { stage := .run })] }, regs := [(bankReg 11, 0x101), (0x204070, 0x101)] };
   let r : Region := 7; let g : Nat := 11;
   decide ((s.dev.mode.configured = true) ∧ (g / 6 = ↑r / 4)) && (s.bankOwner g).any (fun x => decide (((s.bank g).stage ≠ BStage.off) ∧
     ((s.bank g).stage ≠ BStage.failsafe) ∧ (s.regionOwner ↑r = some x)))) = true) ∧
  ((let s : State := { dev := { mode := .active, refits := [1] } };
   decide (s.dev.mode.idleToDerate = true) && headIs s.dev.refits (fun x rest => decide (x < 256 ∨ 1000 ≤ x ∧ s.edg.pr ≠ none))) = true) ∧
  ((let s : State := { dev := { mode := .active }, edg := { banks := [(11, { stage := .run })] }, regs := [(bankReg 11, 0x101)], tenants := [(1, {})] };
   let r : Region := 7;
   decide ((s.dev.mode.idleToDerate = true) ∧ (s.dev.refits = []) ∧ (s.edg.pr = none) ∧ (s.edg.prQueue = []) ∧ (s.regionOwner ↑r = none))) = true) ∧
  ((let s : State := { dev := { mode := .active }, regs := [(0x204070, 0x101)] }; let r : Region := 7;
   decide ((s.dev.mode.idleToDerate = true) ∧ (s.dev.refits = []) ∧ (s.edg.pr = none) ∧ (s.edg.prQueue = [])) && (s.regionOwner ↑r).isSome) = true) ∧
  ((let s : State := { edg := { pr := some 7 }, regs := [(0x204070, 0x101)] }; decide (s.dev.mode.idleToDerate = false)) = true) ∧
  ((let s : State := { dev := { mode := .active }, edg := { banks := [(11, { stage := .run })] }, regs := [(bankReg 11, 0x101)], tenants := [(1, {})] };
   decide (s.edg.pr = none)) = true) ∧
  ((let s : State := { edg := { pr := some 7 }, regs := [(0x204070, 0x101)] };
   s.edg.pr.any (fun r => (s.regionOwner r).any (fun x => decide ((s.ten x).refitHeld = false)))) = true) ∧
  ((let s : State := { edg := { pr := some 7 }, regs := [(0x92800, 1)] };
   s.edg.pr.any (fun r => decide ((s.prReady (s.regionOwner r) = true) ∧ (s.tokWaits 2 s.edg.prTok = false) ∧
     (s.reg 2113796 + 2 ^ 32 * s.reg 2113800 + 128 ≤ s.rsize 0) ∧ (s.noc.dsPoison = [])))) = true) ∧
  ((let s : State := { edg := { pr := some 7, prTok := 3 }, sched := { tokens := [(2, [⟨1, 1, 3⟩])] } };
   s.edg.pr.any (fun r => decide (s.tokWaits 2 s.edg.prTok = true))) = true) := by
  decide +kernel

theorem witness_LinesFlitsAndPins :
  ((let s : State := inMode .idle; let l : LinkId := 0;
   decide ((s.link ↑l).st = LinkSt.off ∨ (s.link ↑l).st = LinkSt.test ∨ (s.link ↑l).st = LinkSt.looped)) = true) ∧
  ((let s : State := { lat := { links := [(143, { st := .up })] } }; let l : LinkId := 143;
   decide (((s.link ↑l).st ≠ LinkSt.off) ∧ ((s.link ↑l).st ≠ LinkSt.test) ∧ ((s.link ↑l).st ≠ LinkSt.looped))) = true) ∧
  ((let pos : Nat := 63; let hs : List Flight := [⟨.slot ⟨1, 0, 0, 15, 0, 0, 0, 7, false, 0⟩, 0, 0, 0, 0, 0, 0, 0, 2, 0⟩];
   (nocWinner pos hs).isSome) = true) ∧
  ((let pos : Nat := 1; let hs : List Flight := [⟨.slot ⟨1, 0, 0, 15, 0, 0, 0, 7, false, 0⟩, 3, 0, 0, 0, 0, 0, 0, 2, 0⟩];
   let g : Flight := ⟨.slot ⟨1, 0, 0, 15, 0, 0, 0, 7, false, 0⟩, 3, 0, 0, 0, 0, 0, 0, 2, 0⟩;
   (nocWinner pos hs).any (fun f => decide ((g ∈ hs) ∧ (wheelVc pos = some g.vc)))) = true) ∧
  ((let pos : Nat := 1; let hs : List Flight := [⟨.slot ⟨1, 0, 0, 15, 0, 0, 0, 7, false, 0⟩, 0, 0, 0, 0, 0, 0, 0, 2, 0⟩];
   let g : Flight := ⟨.slot ⟨1, 0, 0, 15, 0, 0, 0, 7, false, 0⟩, 0, 0, 0, 0, 0, 0, 0, 2, 0⟩;
   (nocWinner pos hs).any (fun f => decide ((∀ g ∈ hs, wheelVc pos ≠ some g.vc) ∧ (g ∈ hs)))) = true) ∧
  ((let n : Noc := { flights := [⟨.slot ⟨1, 0, 0, 15, 0, 0, 0, 7, false, 0⟩, 3, 0, 0, 0, 0, 0, 0, 2, 0⟩] };
   let f : Flight := ⟨.slot ⟨1, 0, 0, 15, 0, 0, 0, 7, false, 0⟩, 3, 0, 0, 0, 0, 0, 0, 2, 0⟩; decide ((f ∈ n.flights) ∧ (f.node ≠ nocHome))) = true) ∧
  ((let e : CellOut := ⟨true, false, true, some false⟩; e.force.isSome) = true) ∧
  ((let e : CellOut := ⟨true, false, false, none⟩; decide ((e.force = none) ∧ (e.enable = false))) = true) ∧
  ((let c : MCell := { kind := .dff }; let e : CellOut := ⟨true, false, true, none⟩;
   decide ((e.force = none) ∧ (e.enable = true) ∧ (c.kind = CellKind.dff))) = true) ∧
  ((let c : MCell := { kind := .tff }; let e : CellOut := ⟨true, false, true, none⟩;
   decide ((e.force = none) ∧ (e.enable = true) ∧ (c.kind = CellKind.tff))) = true) ∧
  ((let c : MCell := { kind := .dff }; decide (c.kind ≠ CellKind.comb)) = true) ∧
  ((let m : EMac := {}; let sig : FabSig → Bool := fun _ => false; decide (sig m.en = false)) = true) ∧
  ((let m : EMac := { en := .cell 1, op1 := .cell 2, op0 := .cell 3 }; let sig : FabSig → Bool := fun s => s == .cell 1;
   decide ((sig m.en = true) ∧ (sig m.op1 = false) ∧ (sig m.op0 = false))) = true) ∧
  ((let m : EMac := { en := .cell 1, op1 := .cell 2, op0 := .cell 3 }; let sig : FabSig → Bool := fun s => s == .cell 1 || s == .cell 3;
   decide ((sig m.en = true) ∧ (sig m.op1 = false) ∧ (sig m.op0 = true))) = true) ∧
  ((let m : EMac := { en := .cell 1, op1 := .cell 2, op0 := .cell 3 }; let sig : FabSig → Bool := fun s => s == .cell 1 || s == .cell 2;
   decide ((sig m.en = true) ∧ (sig m.op1 = true) ∧ (sig m.op0 = false))) = true) ∧
  ((let m : EMac := {}; let sig : FabSig → Bool := fun _ => true; let j : Nat := 63;
   decide ((sig m.en = true) ∧ (sig m.op1 = true) ∧ (sig m.op0 = true) ∧ (0 < j))) = true) ∧
  ((let s : State := inMode .idle; decide (s.edg.fclkOk = false ∨ s.edg.loaded = [])) = true) ∧
  ((let s : State := inMode .idle; let r : Nat := 63; decide (r ∉ s.edg.loaded)) = true) ∧
  ((let s : State := inMode .idle; let r : Nat := 63; decide (s.grst r = true)) = true) ∧
  ((let s : State := inMode .idle; let r : Nat := 63; let own : Option Nat := none; decide (s.isoPasses r own = false)) = true) ∧
  ((let s : State := inMode .reset; decide (s.dev.mode ∈ [Mode.reset, Mode.selftest, Mode.load, Mode.safe])) = true) ∧
  ((let s : State := inMode .reset; decide (s.dev.mode ∈ [Mode.reset, Mode.selftest, Mode.load, Mode.safe])) = true) ∧
  ((let s : State := inMode .off; decide (s.dev.mode ∈ [Mode.off, Mode.keep])) = true) ∧
  ((let s : State := inMode .off; decide (s.dev.mode ∈ [Mode.off, Mode.keep])) = true) ∧
  ((let s : State := inMode .off; decide (s.dev.mode ∈ [Mode.off, Mode.keep])) = true) ∧
  ((let s : State := inMode .idle; decide (s.dev.mode ∈ [Mode.idle, Mode.active, Mode.refit, Mode.replay, Mode.hold, Mode.derate])) = true) ∧
  ((let s : State := inMode .idle; decide (s.dev.mode ∈ [Mode.idle, Mode.active, Mode.refit, Mode.replay, Mode.hold, Mode.derate])) = true) ∧
  ((let s : State := { edg := { banks := [(11, { hiZ := true })] } }; let n : Nat := 767; decide ((s.bank (n / 64)).hiZ = true)) = true) ∧
  ((let s : State := inMode .idle; let n : Nat := 63;
   decide (((s.bank (n / 64)).stage = BStage.off ∨ (s.bank (n / 64)).stage = BStage.failsafe) ∧
     (s.dev.mode ∈ [Mode.idle, Mode.active, Mode.refit, Mode.replay, Mode.hold, Mode.derate]) ∧ ((s.bank (n / 64)).hiZ = false) ∧
     ((s.bank (n / 64)).brownout = false))) = true) ∧
  ((let s : State := inMode .idle; let fn : Nat := 0; (s.pciId fn).isSome) = true) ∧
  ((let s : State := inMode .idle; let fn : Nat := 0; (s.pciId fn).any (fun p => decide (fn = 0))) = true) ∧
  ((let s : State := { dev := { mode := .active }, host := { vfEn := true, numVfs := 255 } }; let fn : Nat := 1;
   let b : Bar := { num := 0, bytes := 16 * 2 ^ 10 }; (s.pciId fn).any (fun p => decide (b ∈ p.bars))) = true) := by
  decide +kernel

theorem witness_ConfigPortAndLoad :
  ((let s : State := { dev := { mode := .load }, cfg := { phase := .cspWait } }; let len : DWord := 0; let tgt : Byte := 0;
   let bs : List Byte := []; (let x : Instr × Nat := (Instr.cspStatus false, 5); decide (s.cspLives = true))) = true) ∧
  ((let s : State := { cfg := { cspDead := true } }; let rdy : Bool := true; let len : DWord := 0; let tgt : Byte := 0; let bs : List Byte := [];
   (let c : Instr := Instr.cspStatus rdy; decide (s.cspLives = false))) = true) ∧
  ((let s : State := { dev := { mode := .load }, cfg := { phase := .cspWait } }; decide (s.cspLives = true)) = true) ∧
  ((let s : State := { dev := { mode := .load }, cfg := { phase := .cspWait } };
   decide ((s.cspLives = true) ∧ (s.dev.mode = Mode.load) ∧ (s.cfg.phase = LoadPhase.cspWait))) = true) ∧
  ((let s : State := { dev := { mode := .load }, cfg := { phase := .pushing 4096 } };
   decide ((s.cspLives = true) ∧ (s.cfg.phase ≠ LoadPhase.cspWait))) = true) ∧
  ((let s : State := { dev := { mode := .load }, cfg := { phase := .pushing 4096 } }; let n : Nat := 4096;
   let bs : List Byte := List.replicate 4096 0;
   decide ((s.cspLives = true) ∧ (s.cfg.phase = LoadPhase.pushing n) ∧ (1 ≤ bs.length) ∧ (bs.length ≤ 4096))) = true) ∧
  ((let s : State := { dev := { mode := .idle }, cfg := { job := some ⟨0, 1, true, 0, 64, [], false⟩ } };
   let bs : List Byte := List.replicate 4096 0;
   decide ((s.cspLives = true) ∧ (s.cfg.phase = LoadPhase.none)) && s.cfg.job.any (fun j => decide ((j.csp = true) ∧ (j.ended = false) ∧
     (1 ≤ bs.length) ∧ (bs.length ≤ 4096)))) = true) ∧
  ((let s : State := { dev := { mode := .load }, cfg := { phase := .cspWait } }; let bs : List Byte := [];
   decide ((s.cspLives = true) ∧ (bs.length = 0 ∨ 4096 < bs.length))) = true) ∧
  ((let s : State := { dev := { mode := .load }, cfg := { phase := .pushing 4096 } }; let n : Nat := 4096;
   decide ((s.cspLives = true) ∧ (s.cfg.phase = LoadPhase.pushing n))) = true) ∧
  ((let s : State := { dev := { mode := .load }, cfg := { phase := .cspWait } }; let tgt : Byte := 1;
   decide ((s.cspLives = true) ∧ (s.dev.mode.fromLoad = true) ∧ (BitVec.toNat tgt < 2))) = true) ∧
  ((let s : State := { cfg := { lc := 1, flash := { stages := [(0, ⟨1, .confirmed, 1, 0, 0, 0⟩)] } } }; let len : DWord := 0; let tgt : Byte := 0;
   (let x : Instr × Nat := (Instr.cspUpdBegin true len tgt, 32); decide ((s.cspLives = true) ∧ (s.dev.mode.fromLoad = false)))) = true) ∧
  ((let s : State := { dev := { mode := .load }, cfg := { phase := .cspWait } };
   decide ((s.cspLives = true) ∧ (s.dev.mode.fromLoad = true))) = true) ∧
  ((let s : State := { dev := { mode := .load }, cfg := { phase := .cspWait } };
   decide ((s.cspLives = true) ∧ (s.cfg.job = none) ∧ (s.cfg.phase.pushes = false))) = true) ∧
  ((let s : State := { dev := { mode := .idle }, cfg := { job := some ⟨0, 1, true, 0, 64, [], false⟩ } };
   decide (s.cspLives = true) && s.cfg.job.any (fun j => decide ((j.csp = true) ∧ (s.cfg.phase.pushes = false)))) = true) ∧
  ((let s : State := { dev := { mode := .load }, cfg := { phase := .pushing 4096 } }; let n : Nat := 4096;
   decide ((s.cspLives = true) ∧ (s.cfg.phase = LoadPhase.pushing n) ∧ (s.cfg.cspRow < 2))) = true) ∧
  ((let s : State := { cfg := { cspDead := true } }; decide (s.cfg.cspDead = true)) = true) ∧
  ((let s : State := { dev := { mode := .load }, cfg := { phase := .cspWait } }; decide (s.cfg.cspDead = false)) = true) ∧
  ((let s : State := { dev := { mode := .load }, cfg := { phase := .cspWait } };
   decide ((s.dev.mode = Mode.load) ∧ (s.cfg.phase = LoadPhase.cspWait))) = true) ∧
  ((let s : State := { dev := { mode := .load }, cfg := { phase := .cspWait } };
   decide ((s.dev.mode = Mode.load) ∧ (s.cfg.phase = LoadPhase.cspWait) ∧ (s.cfg.lc = 0 ∨ s.cfg.lc = 5))) = true) ∧
  ((let s : State := { dev := { mode := .idle }, cfg := { job := some ⟨0, 1, true, 0, 64, [], false⟩ } }; decide (s.dev.mode ≠ Mode.load)) = true) ∧
  ((let s : State := { dev := { mode := .load }, cfg := { phase := .pushing 4096 } }; decide (s.cfg.phase ≠ LoadPhase.cspWait)) = true) ∧
  ((let s : State := { dev := { mode := .load }, cfg := { phase := .copy 0 false } }; let k : Nat := 0; let trial : Bool := false;
   decide ((s.dev.mode = Mode.load) ∧ (s.cfg.phase = LoadPhase.copy k trial))) = true) ∧
  ((let s : State := { dev := { mode := .load }, cfg := { phase := .pushed } };
   decide ((s.dev.mode = Mode.load) ∧ (s.cfg.phase = LoadPhase.pushed))) = true) ∧
  ((let s : State := { dev := { mode := .load }, cfg := { phase := .cspWait } }; decide (s.dev.mode.maySafe = true)) = true) ∧
  ((let s : State := { cfg := { cspDead := true } }; decide (s.dev.mode.maySafe = false)) = true) ∧
  ((let s : State := { dev := { mode := .load }, cfg := { phase := .cspWait } }; decide (s.cfg.lc = 0 ∨ s.cfg.lc = 5 ∨ s.nextCopy = none)) = true) ∧
  ((let s : State := { dev := { mode := .load }, cfg := { phase := .cspWait } }; decide (s.dev.mode.maySafe = true)) = true) ∧
  ((let s : State := { dev := { mode := .load }, cfg := { phase := .cspWait } }; decide (s.pwr.bkpReset = false)) = true) ∧
  ((let s : State := { cfg := { lc := 1, flash := { stages := [(0, ⟨1, .confirmed, 1, 0, 0, 0⟩)] } } };
   decide ((s.cfg.lc ≠ 0) ∧ (s.cfg.lc ≠ 5)) && s.nextCopy.any (fun ⟨k, lit1⟩ => decide (lit1 = false))) = true) ∧
  ((let s : State := { cfg := { lc := 1, flash := { stages := [(0, ⟨1, .activated, 1, 0, 0, 0⟩)] } } };
   decide ((s.cfg.lc ≠ 0) ∧ (s.cfg.lc ≠ 5)) && s.nextCopy.any (fun ⟨k, lit1⟩ => decide (lit1 = true))) = true) := by
  decide +kernel

theorem witness_Updates :
  ((let s : State := { dev := { mode := .idle }, cfg := { lc := 1 } };
   decide ((s.dev.mode.idleToDerate = true) ∧ (s.cfg.job = none) ∧ (s.reg 327760 + 2 ^ 32 * s.reg 327764 + s.reg 327768 ≤ s.rsize 0))) = true) ∧
  ((let s : State := { dev := { mode := .idle }, cfg := { lc := 1 }, regs := [(327768, 1)] }; let bay : Bool := true;
   decide ((s.dev.mode.idleToDerate = true) ∧ (s.cfg.job = none) ∧ (s.rsize 0 < s.reg 327760 + 2 ^ 32 * s.reg 327764 + s.reg 327768) ∧
     (lcPermits s.cfg.lc (if bay = true then OlpPath.updateBay else OlpPath.update) = true))) = true) ∧
  ((let s : State := { cfg := { flash := { stages := [(1, ⟨1, .verified, 1, 0, 0, 0⟩)] } } }; let bay : Bool := true;
   (let c : Instr := Instr.updDownload bay; decide (s.dev.mode.configured = false))) = true) ∧
  ((let s : State := { dev := { mode := .idle }, cfg := { lc := 1 } }; decide ((s.dev.mode.idleToDerate = true) ∧ (s.cfg.job = none))) = true) ∧
  ((let s : State := { dev := { mode := .active }, cfg := { job := some ⟨0, 1, true, 0, 64, [], false⟩ } }; let bay : Bool := true;
   (let c : Instr := Instr.updDownload bay; decide ((s.dev.mode.configured = true) ∧ (s.dev.mode = Mode.safe ∨ s.cfg.job ≠ none)))) = true) ∧
  ((let s : State := { dev := { mode := .idle }, cfg := { lc := 1 } }; let bay : Bool := true;
   decide ((s.cfg.job = none) ∧ (lcPermits s.cfg.lc (if bay = true then OlpPath.updateBay else OlpPath.update) = true))) = true) ∧
  ((let s : State := { dev := { mode := .active }, cfg := { job := some ⟨0, 1, true, 0, 64, [], false⟩ } }; decide (s.cfg.job ≠ none)) = true) ∧
  ((let s : State := { cfg := { flash := { stages := [(1, ⟨1, .verified, 1, 0, 0, 0⟩)] } } }; let bay : Bool := true;
   decide ((s.cfg.job = none) ∧ (lcPermits s.cfg.lc (if bay = true then OlpPath.updateBay else OlpPath.update) = false))) = true) ∧
  ((let s : State := { dev := { mode := .idle }, cfg := { lc := 1 } };
   decide ((s.cfg.job = none) ∧ (List.find? (fun k => decide ((s.stageRec k).stage = UStage.verified)) [0, 1] = none))) = true) ∧
  ((let s : State := { cfg := { flash := { stages := [(1, ⟨1, .verified, 1, 0, 0, 0⟩)] } } };
   decide (s.cfg.job = none) && (List.find? (fun k => decide ((s.stageRec k).stage = UStage.verified)) [0, 1]).isSome) = true) ∧
  ((let s : State := { cfg := { bootSrc := 2, flash := { stages := [(1, ⟨1, .trial, 1, 0, 0, 0⟩)] } } };
   decide ((s.cfg.job = none) ∧ (s.cfg.bootSrc = 1 ∨ s.cfg.bootSrc = 2) ∧ ((s.stageRec (s.cfg.bootSrc - 1)).stage = UStage.trial))) = true) ∧
  ((let s : State := { dev := { mode := .idle }, cfg := { lc := 1 } }; decide (s.cfg.job = none)) = true) ∧
  ((let s : State := { dev := { mode := .active }, cfg := { job := some ⟨0, 1, true, 0, 64, [], false⟩ } };
   s.cfg.job.any (fun j => decide ((j.csp = true) ∧ (j.ended = false)))) = true) ∧
  ((let s : State := { dev := { mode := .active }, cfg := { job := some ⟨0, 1, true, 0, 64, [], true⟩ } };
   s.cfg.job.any (fun j => decide ((j.csp = true) ∧ (j.ended = true)))) = true) ∧
  ((let s : State := { dev := { mode := .active }, cfg := { job := some ⟨0, 1, false, 0, 64, [], false⟩ } };
   s.cfg.job.any (fun j => decide ((j.csp = false) ∧ (s.rangePoisoned (s.rbase 0 + j.off) j.len = false)))) = true) ∧
  ((let s : State := { dev := { mode := .active }, cfg := { job := some ⟨0, 1, false, 0, 64, [], false⟩ } , noc := { dsPoison := [0] } };
   s.cfg.job.any (fun j => decide ((j.csp = false) ∧ (s.rangePoisoned (s.rbase 0 + j.off) j.len = true)))) = true) ∧
  ((let s : State := { dev := { mode := .active }, cfg := { job := some ⟨0, 1, true, 0, 64, [], false⟩ } };
   s.cfg.job.any (fun j => decide (s.cfg.flash.noSpare = []))) = true) ∧
  ((let s : State := { cfg := { flash := { stages := [(1, ⟨1, .verified, 1, 0, 0, 0⟩)] } } }; decide (s.dev.mode.configured = false)) = true) ∧
  ((let s : State := { dev := { mode := .idle }, cfg := { lc := 1 } }; let k : BitVec 2 := 0;
   decide ((s.dev.mode.configured = true) ∧ (k = 0 ∨ s.reg 327744 < s.mc k.toNat))) = true) ∧
  ((let s : State := { dev := { mode := .idle }, cfg := { lc := 1 } }; let k : BitVec 2 := 3;
   decide ((s.dev.mode.configured = true) ∧ (k ≠ 0) ∧ (s.reg 327744 = s.mc k.toNat))) = true) ∧
  ((let s : State := { dev := { mode := .idle }, cfg := { mc := [(3, 7)] }, regs := [(327744, 9)] }; let k : BitVec 2 := 3;
   decide ((s.dev.mode.configured = true) ∧ (k ≠ 0) ∧ (s.mc k.toNat < s.reg 327744))) = true) := by
  decide +kernel

theorem witness_SageUnit :
  ((let s : State := { dev := { mode := .active }, cfg := { frames := [(0, [])] } };
   decide (s.dev.mode.configured = true) && s.nextFrame.isSome) = true) ∧
  ((let s : State := { dev := { mode := .active }, cfg := { frames := [(0, [])] } }; let f : ErrFound := .double;
   decide (s.dev.mode.configured = true) && s.nextFrame.any (fun a => decide ((f ∈ [ErrFound.double, ErrFound.multi]) ∧ (frameSpace a = 0) ∧
     (s.dev.mode ≠ Mode.safe)))) = true) ∧
  ((let s : State := { dev := { mode := .safe }, cfg := { frames := [(2 ^ 24, [])] } }; let f : ErrFound := .double;
   decide (s.dev.mode.configured = true) && s.nextFrame.any (fun a => decide ((f ∈ [ErrFound.double, ErrFound.multi]) ∧
     (s.dev.mode = Mode.safe)))) = true) ∧
  ((let s : State := { dev := { mode := .idle }, cfg := { lc := 1 }, tenants := [(1, {})] }; decide (s.nextFrame = none)) = true) ∧
  ((let s : State := { sage := { state := 1, test := 7 } }; decide (s.dev.mode.configured = false)) = true) ∧
  ((let s : State := { dev := { mode := .idle }, cfg := { lc := 1 }, tenants := [(1, {})] };
   decide ((s.dev.mode.configured = true) ∧ (s.sageMay = true))) = true) ∧
  ((let s : State := { dev := { mode := .idle }, cfg := { lc := 1 }, tenants := [(1, {})] }; let j : Fin 4 := 3;
   decide ((s.dev.mode.configured = true) ∧ (s.sageMay = true) ∧ (s.cfg.lc = 1) ∧ (∀ e ∈ s.sage.keys, e.1 ≠ ↑j))) = true) ∧
  ((let s : State := { sage := { state := 1, test := 7 } }; let n : PTileId := 0; let k : Stack4 := 0; let j : Fin 4 := 3; let nx : BitVec 3 := 0;
   let key : Byte := 0; (let c : Instr := Instr.sageTileLbist n; decide (s.dev.mode.configured = false))) = true) ∧
  ((let s : State := { dev := { mode := .idle }, cfg := { lc := 1 }, tenants := [(1, {})] }; decide (s.sageMay = true)) = true) ∧
  ((let s : State := { dev := { mode := .idle }, cfg := { lc := 1 }, tenants := [(1, {})] }; let e : Nat × Tenant := (1, {});
   decide ((s.sageMay = true) ∧ (e ∈ s.tenants))) = true) ∧
  ((let s : State := { sage := { state := 1, test := 7 } }; decide ((s.sage.state = 1) ∧ (s.sage.test = 7))) = true) ∧
  ((let s : State := { sage := { state := 1, test := 6 } }; decide ((s.sage.state = 1) ∧ (s.sage.test = 6))) = true) ∧
  ((let s : State := { sage := { state := 1, test := 7 } }; let n : BitVec 16 := 1;
   decide ((s.sage.state = 1) ∧ (s.sage.test = 4 ∨ s.sage.test = 6 ∨ s.sage.test = 7) ∧ (n ≠ 0))) = true) ∧
  ((let s : State := { sage := { state := 1, test := 1 } }; decide ((s.sage.state = 1) ∧ (s.sage.test = 1))) = true) ∧
  ((let s : State := { sage := { state := 1, test := 2 } }; decide ((s.sage.state = 1) ∧ (s.sage.test = 2))) = true) ∧
  ((let s : State := { sage := { state := 1, test := 3 } }; decide ((s.sage.state = 1) ∧ (s.sage.test = 3))) = true) ∧
  ((let s : State := { sage := { state := 1, test := 4 } }; decide ((s.sage.state = 1) ∧ (s.sage.test = 4))) = true) ∧
  ((let s : State := { sage := { state := 1, test := 5 } }; decide ((s.sage.state = 1) ∧ (s.sage.test = 5))) = true) ∧
  ((let s : State := { dev := { mode := .active }, cfg := { frames := [(0, [])] } }; decide (s.sage.state ≠ 1)) = true) ∧
  ((let s : State := { dev := { mode := .active }, cfg := { frames := [(0, [])] } }; let nx : BitVec 3 := 1;
   decide ((s.dev.mode.configured = true) ∧ (s.lcMay nx.toNat = true))) = true) ∧
  ((let s : State := { dev := { mode := .active }, cfg := { frames := [(0, [])] } }; let key : Byte := 0;
   decide ((s.dev.mode.configured = true) ∧ (key ≠ 165))) = true) ∧
  ((let s : State := { dev := { mode := .active }, cfg := { frames := [(0, [])] } }; let nx : BitVec 3 := 0;
   decide ((s.dev.mode.configured = true) ∧ (s.lcMay nx.toNat = false))) = true) ∧
  ((let s : State := { dev := { mode := .active }, cfg := { frames := [(0, [])] } }; let nx : Nat := 1; decide (s.lcMay nx = true)) = true) ∧
  ((let s : State := { dev := { mode := .active }, cfg := { frames := [(0, [])] } }; let nx : Nat := 1;
   decide ((s.lcMay nx = true) ∧ (nx ≠ 5))) = true) := by
  decide +kernel

theorem witness_AnalogueMonitor :
  ((let c : Nat := 16384; decide (c ≤ 16384)) = true) ∧
  ((let c : Nat := 16384; let d : Nat := 16384; decide ((c ≤ 16384) ∧ (c ≤ d))) = true) ∧
  ((let s : State := inMode .reset; decide (s.anaReady = false)) = true) ∧
  ((let s : State := inMode .idle; let due : Bool := true;
   decide ((s.anaReady = true) ∧ (s.ana.urgent = []) ∧ (s.pwr.thermalWarn = false) ∧ (s.anaNext due = (24, false)))) = true) ∧
  ((let s : State := { dev := { mode := .active }, regs := [(bankReg 11, 0x101)] };
   decide ((s.anaReady = true) ∧ (s.ana.urgent = []) ∧ (s.pwr.thermalWarn = false))) = true) ∧
  ((let s : State := { ana := { ents := [(30, { enabled := true })] } }; let e : Nat := 30;
   decide ((e < 31) ∧ (s.anaOw e = false) ∧ ((s.anaEnt e).enabled = true))) = true) ∧
  ((let s : State := inMode .reset; decide (s.dev.mode.afterReset = false)) = true) ∧
  ((let s : State := { dev := { mode := .active }, ana := { urgent := [31], hot := [(31, 1), (38, 1)] } }; let k : Fin 5 := 4;
   let ol : BitVec 16 := 0; let oh : BitVec 16 := 0; let gl : BitVec 16 := 0; let gh : BitVec 16 := 0;
   decide ((s.dev.mode.afterReset = true) ∧ (s.dev.mode ≠ Mode.selftest) ∧ (s.ana.spare = some ↑k)) &&
     headIs s.ana.rota (fun o r => decide ((calFails (Option.map (fun e => e.2) (List.find? (fun e => decide (e.1 = ↑k)) s.ana.cal)) ol.toInt oh.toInt gl.toInt gh.toInt = false)))) = true) ∧
  ((let s : State := { dev := { mode := .active }, ana := { urgent := [31], hot := [(31, 1), (38, 1)] } }; let k : Fin 5 := 4;
   let ol : BitVec 16 := 0; let oh : BitVec 16 := 0; let gl : BitVec 16 := 0; let gh : BitVec 16 := 15200;
   decide ((s.dev.mode.afterReset = true) ∧ (s.dev.mode ≠ Mode.selftest) ∧ (s.ana.spare = some ↑k) ∧ (s.ana.rota.contains ↑k = false) ∧
     (3 ≤ s.ana.rota.length) ∧
     (calFails (Option.map (fun e => e.2) (List.find? (fun e => decide (e.1 = ↑k)) s.ana.cal)) ol.toInt oh.toInt gl.toInt gh.toInt = true))) = true) ∧
  ((let s : State := { dev := { mode := .active }, ana := { urgent := [31], hot := [(31, 1), (38, 1)] } }; let k : Fin 5 := 0;
   decide ((s.dev.mode ≠ Mode.selftest) ∧ (s.ana.spare ≠ some ↑k))) = true) ∧
  ((let s : State := { dev := { mode := .active }, ana := { urgent := [31], hot := [(31, 1), (38, 1)] } }; let e : Nat := 15; let v : Int := -1;
   decide ((e < 31) ∧ (v < ↑(fld (s.reg (197120 + 4 * e)) 0 16) ∨ ↑(fld (s.reg (197120 + 4 * e)) 16 16) < v))) = true) ∧
  ((let s : State := { ana := { ents := [(30, { beyond := true })] } }; let e : Nat := 30; let v : Int := -1;
   decide ((e < 31) ∧ (v < ↑(fld (s.reg (197120 + 4 * e)) 0 16) ∨ ↑(fld (s.reg (197120 + 4 * e)) 16 16) < v) ∧
     ((s.anaEnt e).beyond = true))) = true) ∧
  ((let s : State := { dev := { mode := .active }, ana := { urgent := [31], hot := [(31, 1), (38, 1)] } }; let e : Nat := 15; let v : Int := -1;
   decide ((e < 31) ∧ (v < ↑(fld (s.reg (197120 + 4 * e)) 0 16) ∨ ↑(fld (s.reg (197120 + 4 * e)) 16 16) < v) ∧
     ((s.anaEnt e).beyond = false))) = true) ∧
  ((let s : State := { dev := { mode := .active }, ana := { urgent := [31], hot := [(31, 1), (38, 1)] } }; let e : Nat := 63; let u : Nat := 63;
   let d : Nat := 63; decide ((s.anaEnt e).isOpen = decide (1140 ≤ u ∧ d ≤ 60))) = true) ∧
  ((let s : State := { dev := { mode := .active }, ana := { urgent := [31], hot := [(31, 1), (38, 1)] } }; let e : Nat := 63; let u : Nat := 4096;
   let d : Nat := 15; decide (((s.anaEnt e).isOpen = false) ∧ (1140 ≤ u) ∧ (d ≤ 60))) = true) ∧
  ((let s : State := { ana := { ents := [(23, { isOpen := true })] } }; let e : Nat := 23; let u : Nat := 0; let d : Nat := 0;
   decide (((s.anaEnt e).isOpen = true) ∧ (u < 1140 ∨ 60 < d))) = true) ∧
  ((let s : State := inMode .reset; decide (s.dev.mode.configured = false)) = true) ∧
  ((let s : State := inMode .selftest; let k : Fin 5 := 0; let ol : BitVec 16 := 0; let oh : BitVec 16 := 0; let gl : BitVec 16 := 0;
   let gh : BitVec 16 := 0;
   decide ((s.dev.mode = Mode.selftest) ∧
     (calFails (Option.map (fun e => e.2) (List.find? (fun e => decide (e.1 = ↑k)) s.ana.cal)) ol.toInt oh.toInt gl.toInt gh.toInt = false) ∧
     ((s.ana.rota.contains ↑k || decide (s.ana.spare = some ↑k)) = true))) = true) ∧
  ((let s : State := { dev := { mode := .active }, ana := { urgent := [31], hot := [(31, 1), (38, 1)] } }; let e : Fin 32 := 31;
   decide ((s.dev.mode.configured = true) ∧ (24 ≤ ↑e))) = true) ∧
  ((let s : State := { dev := { mode := .active }, regs := [(bankReg 11, 0x101)] }; let e : Fin 32 := 11;
   decide ((s.dev.mode.configured = true) ∧ (↑e < 24) ∧ (s.anaOwned ↑e = true))) = true) ∧
  ((let s : State := { dev := { mode := .active }, ana := { urgent := [31], hot := [(31, 1), (38, 1)] } }; let e : Fin 32 := 0;
   decide ((s.dev.mode.configured = true) ∧ (↑e < 24) ∧ (s.anaOwned ↑e = false))) = true) := by
  decide +kernel

theorem witness_RegisterAccess :
  ((let s : State := inMode .idle; let pg : Option TenId := none; let off : BitVec 25 := 0; let be : Byte := 0;
   decide (s.barAnswers pg = false ∨ accessOk off.toNat (BitVec.toNat be) = false)) = true) ∧
  ((let s : State := inMode .idle; decide (s.barAnswers none = true)) = true) ∧
  ((let s : State := inMode .idle; let off : BitVec 25 := 0; let be : Byte := 1;
   decide ((s.barAnswers none = true) ∧ (accessOk off.toNat (BitVec.toNat be) = true) ∧ (be ≠ 255))) = true) ∧
  ((let s : State := inMode .idle; decide (s.barAnswers none = true)) = true) := by
  decide +kernel

theorem witness_ModesAndRunnable :
  ((let m : Mode := .idle; let n : Mode := .idle; decide (m.code = n.code)) = true) := by
  decide +kernel

/-- The clauses whose hypotheses compare with the unit's thermal limit, which is fused (log entry 39): they are met on either unit. -/
theorem witness_PowerBudget_thermal :
    (∃ t : Int, t ≤ tLim - 40) ∧ (∃ t : Int, tLim - 40 ≤ t ∧ t ≤ tLim + 40) ∧ (∃ t : Int, tLim + 40 ≤ t) :=
  ⟨⟨tLim - 40, Int.le_refl _⟩, ⟨tLim, by omega⟩, ⟨tLim + 40, Int.le_refl _⟩⟩
theorem witness_AnalogueMonitor_thermal :
    (let s : State := { dev := { mode := .active }, ana := { urgent := [31], hot := [(31, 1)] } }
     s.anaReady = true ∧ s.dev.mode.maySafe = true ∧ s.ana.urgent = [31] ∧ s.pwr.thermalWarn = false ∧ 1 ≤ Map.get s.ana.hot 0 31) ∧
    (∃ t : BitVec 16, t.toInt < tLim + 40) ∧ (∃ t : BitVec 16, tLim + 40 ≤ t.toInt) := by
  refine ⟨by decide +kernel, ⟨0, ?_⟩, ⟨0x7FFF, ?_⟩⟩ <;> unfold tLim <;> split <;> decide
/-- An offset that a register's row covers lies within the row's span. -/
theorem covers_span (r : RegDesc) (off : Nat) (h : r.covers off = true) : r.base ≤ off ∧ off ≤ r.base + r.n1 * r.s1 + r.n2 * r.s2 := by
  simp only [RegDesc.covers, Bool.and_eq_true, decide_eq_true_eq] at h
  obtain ⟨⟨⟨hb, hi⟩, hj⟩, hd⟩ := h
  have a := Nat.mul_le_mul_right r.s1 (Nat.le_of_lt hi)
  have b := Nat.mul_le_mul_right r.s2 (Nat.le_of_lt hj)
  exact ⟨hb, by omega⟩
/-- No pin register enables its pin at reset. -/
theorem pins_reset (k : Nat) (hk : k < 768) : State.reset.reg (0x201000 + 4 * k) = 0 := by
  have z : ∀ r ∈ regTable, r.reset = 0 ∨ 0x201BFC < r.base ∨ r.base + r.n1 * r.s1 + r.n2 * r.s2 < 0x201000 := by decide +kernel
  have e : State.reset.reg (0x201000 + 4 * k) = (regReset (0x201000 + 4 * k)).toNat := rfl
  rw [e, regReset]
  split
  · rename_i r h
    have hm := List.mem_of_find?_eq_some h
    have hc := covers_span r _ (by simpa using List.find?_some h)
    rcases z r hm with q | q | q
    · rw [q]; rfl
    · omega
    · omega
  · rfl
/-- Region 7 drives no pin where no pin register enables one, whatever the static frames hold (log entry 36). -/
theorem no_pins_no_banks (s : State) (r : Nat) (h : ∀ g, g < 12 → (List.range 64).any (fun i =>
    let p := s.reg (0x201000 + 4 * (64 * g + i)); decide (bit p 2 = 1 ∧ fld p 0 2 ≠ 0)) = false) : s.spaceBanks (3 + r) = [] := by
  have e : ¬(3 + r = 1 ∨ 3 + r = 2) := by omega
  simp only [State.spaceBanks, e, if_false, Nat.le_add_right, if_true, Nat.add_sub_cancel_left, State.regionBanks]
  refine List.filter_eq_nil_iff.2 (fun g hg => ?_)
  have q := h g (List.mem_range.1 hg)
  simp only [q, Bool.and_false]; decide
theorem no_pins (g : Nat) (hg : g < 12) : (List.range 64).any (fun i =>
    let p := State.reset.reg (0x201000 + 4 * (64 * g + i)); decide (bit p 2 = 1 ∧ fld p 0 2 ≠ 0)) = false := by
  refine List.any_eq_false.2 (fun i hi => ?_)
  have hi := List.mem_range.1 hi
  simp only [pins_reset (64 * g + i) (by omega)]
  decide
theorem witness_EdgeRegisters_region :
    (let s : State := { dev := { mode := .active, refits := [1007] }, edg := { pr := some 7 } }
     s.edg.pr = some 7 ∧ s.regionOwner 7 = none ∧ s.dev.refits = [1000 + 7] ∧ s.rsize 0 = 0 ∧ s.noc.dsPoison = [] ∧
       s.tokWaits 2 s.edg.prTok = false ∧ s.tenants = [] ∧ s.spaceBanks (3 + 7) = []) :=
  ⟨rfl, by decide +kernel, rfl, by decide +kernel, rfl, by decide +kernel, rfl, no_pins_no_banks _ 7 (fun g hg => no_pins g hg)⟩
theorem witness_SageUnit_region :
    (let s : State := { dev := { mode := .active }, cfg := { frames := [(10 * 2 ^ 24, [])] }, edg := { loaded := [7] } }
     s.dev.mode.configured = true ∧ s.nextFrame = some (10 * 2 ^ 24) ∧ frameSpace (10 * 2 ^ 24) ≠ 0 ∧ s.dev.mode ≠ .safe ∧
       s.spaceBanks (3 + 7) = []) :=
  ⟨by decide +kernel, by decide +kernel, by decide +kernel, by decide, no_pins_no_banks _ 7 (fun g hg => no_pins g hg)⟩
/-- A unit whose life cycle bars Sage's fuse commands, and one that permits them but whose key 3 is written. -/
theorem witness_SageUnit_refused :
    (let s : State := inMode .hold
     s.dev.mode.configured = true ∧ s.sageMay = false) ∧
    (let s : State := { dev := { mode := .idle }, cfg := { lc := 1 }, sage := { keys := [(3, 7)] } }
     s.dev.mode.configured = true ∧ s.sageMay = true ∧ ∃ e ∈ s.sage.keys, e.1 = 3) :=
  ⟨by decide +kernel, ⟨by decide +kernel, by decide +kernel, (3, 7), List.mem_singleton.2 rfl, rfl⟩⟩
/-- A load that copies nothing and holds no pushed package. -/
theorem witness_ConfigPortAndLoad_idle :
    (∀ (k : Nat) (b : Bool), (inMode .idle).cfg.phase ≠ .copy k b) ∧ (inMode .idle).cfg.phase ≠ .pushed :=
  ⟨fun _ _ h => (nomatch h), fun h => (nomatch h)⟩
/-- The clauses about a sink whose staging is full, with sink 7's; sink 3 is another. -/
theorem witness_TraceSinks_full :
    (let s : State := { chv := { sinks := [(7, { en := true, staging := [List.replicate 126976 0] })] } }
     (s.sink 7).en = true ∧ s.chv.frozen = false ∧ 126976 ≤ (s.sink 7).fill ∧ 3 ≠ 7 ∧ Map.get (s.sink 7).drops 0 63 = 0) := by
  refine ⟨rfl, rfl, ?_, by decide, rfl⟩
  have e : ({ chv := { sinks := [(7, { en := true, staging := [List.replicate 126976 0] })] } } : State).sink 7 =
      { en := true, staging := [List.replicate 126976 0] } := rfl
  simp only [e, Sink.fill, List.map_cons, List.map_nil, List.length_replicate]
  decide
/-- A state that meets the invariant, from which a step leads on. -/
theorem witness_EveryStepKeepsInvariant :
    ∃ s t : State, s.pending = [.vinLeaveRange] ∧ s.Inv ∧ step s = .next t :=
  ⟨{ dev := { mode := .active }, ds := [(7, 1)], pending := [.vinLeaveRange] }, _, rfl,
    ⟨⟨by decide, by decide⟩, ⟨by decide, by decide, by decide⟩, by decide, by decide, by decide⟩, rfl⟩

end Sys2Proof.Tests
end

section
/-!
PROOF. The codes of the device modes, DEV_MODE.MODE, and the runnable tenants (R23, R24).
-/
namespace Sys2Proof.Machine

/-! ### The codes of the modes (Table 1-3) -/

/-- The twelve modes in the order of Table 1-3. -/
def Mode.inTableOrder : List Mode :=
  [.off, .keep, .reset, .selftest, .load, .idle, .active, .refit, .replay, .hold, .derate, .safe]

theorem Mode.map_code_inTableOrder : Mode.inTableOrder.map Mode.code = List.range 12 := by decide

/-- A mode's code is its place in the table, so the table inverts the code. -/
theorem Mode.inTableOrder_getElem?_code (m : Mode) : Mode.inTableOrder[m.code]? = some m := by
  cases m <;> rfl

theorem Mode.code_lt (m : Mode) : m.code < 12 := by
  obtain ⟨h, -⟩ := List.getElem?_eq_some_iff.1 m.inTableOrder_getElem?_code
  exact h

theorem Mode.code_injective : Function.Injective Mode.code := fun m n h => by
  have hm := m.inTableOrder_getElem?_code
  rw [h, n.inTableOrder_getElem?_code] at hm
  exact (Option.some.inj hm).symm

/-! ### DEV_MODE (Table 1-5) -/

theorem State.readReg_devMode (s : State) : s.readReg 0x20 = s.devModeWord := rfl

/-- The field MODE holds any code of Table 1-3 whole, and every other field of DEV_MODE lies above it. -/
theorem State.fld_devModeWord_mode (s : State) : fld s.devModeWord 0 4 = s.dev.mode.code := by
  have hcode := s.dev.mode.code_lt
  simp only [fld, State.devModeWord, Nat.shiftRight_zero]
  omega

/-! ### Runnable tenants (R24) -/

theorem RunState.advancing_iff (r : RunState) : r.advancing = true ↔ r = .running ∨ r = .stepping :=
  decide_eq_true_iff

theorem Tenant.eff_of_swapped {t : Tenant} (h : t.run = .swapped) : t.eff = t.back := if_pos h

theorem Tenant.eff_of_not_swapped {t : Tenant} (h : t.run ≠ .swapped) : t.eff = t.run := if_neg h

theorem Tenant.runnable_iff (t : Tenant) : t.runnable = true ↔
    t.run = .running ∨ t.run = .stepping ∨ (t.run = .swapped ∧ (t.back = .running ∨ t.back = .stepping)) := by
  rw [Tenant.runnable, RunState.advancing_iff]
  by_cases h : t.run = .swapped
  · simp [Tenant.eff_of_swapped h, h]
  · simp [Tenant.eff_of_not_swapped h, h]

/-- Settles O60: the codes are the modes' places in Table 1-3, MODE is the lowest field of DEV_MODE, and whether a tenant is
runnable is decided by its return state exactly when it is SWAPPED. -/
theorem modesAndRunnable : Obligations.ModesAndRunnable :=
  ⟨Mode.map_code_inTableOrder, fun _ _ h => Mode.code_injective h,
    fun s => by rw [s.readReg_devMode, s.fld_devModeWord_mode], Tenant.runnable_iff⟩

end Sys2Proof.Machine
end

section
/-!
PROOF. The Boolean plane of a step: the bits of packed numbers and of fields, the value of a crossbar code, the windows, the
outputs with the carry that each BP receives, and the rows that the outputs are written to (R40, R41, R44, R82, R87).
-/
namespace Sys2Proof.Machine

/-! ### Bits of packed numbers and of fields -/

theorem b2n_eq_toNat (x : Bool) : b2n x = x.toNat := by cases x <;> rfl

@[simp] theorem packBits_zero (f : Nat → Bool) : packBits f 0 = 0 := rfl

theorem packBits_succ (f : Nat → Bool) (n : Nat) : packBits f (n + 1) = packBits f n + 2 ^ n * b2n (f n) := by
  cases h : f n <;> simp [packBits, b2n, h]

theorem packBits_lt (f : Nat → Bool) (n : Nat) : packBits f n < 2 ^ n := by
  induction n with
  | zero => exact Nat.one_pos
  | succ n ih =>
    rw [packBits, Nat.pow_succ]
    split <;> omega

theorem packBits_testBit (f : Nat → Bool) (n i : Nat) : (packBits f n).testBit i = (decide (i < n) && f i) := by
  induction n with
  | zero => simp
  | succ n ih =>
    rw [packBits_succ, b2n_eq_toNat, Nat.add_comm, Nat.testBit_two_pow_mul_add _ (packBits_lt f n), Nat.testBit_bool_toNat, ih]
    rcases Nat.lt_trichotomy i n with h | rfl | h
    · simp [h, Nat.lt_succ_of_lt h]
    · simp
    · have hge : ¬ i < n ∧ ¬ i < n + 1 ∧ i - n ≠ 0 := by omega
      simp [hge]

theorem fld_testBit (w lsb width i : Nat) : (fld w lsb width).testBit i = (decide (i < width) && w.testBit (lsb + i)) := by
  rw [fld, Nat.testBit_mod_two_pow, Nat.testBit_shiftRight]

/-- A power of two, present or not, is one bit of its sum with a multiple of the next power. -/
theorem testBit_add_of_dvd (x : Bool) {b m : Nat} (h : 2 ^ (b + 1) ∣ m) (j : Nat) :
    ((if x then 2 ^ b else 0) + m).testBit j = if j = b then x else m.testBit j := by
  obtain ⟨q, rfl⟩ := h
  have hlt : (if x then 2 ^ b else 0) < 2 ^ (b + 1) := by
    have := Nat.two_pow_pos b
    split <;> omega
  rw [Nat.add_comm, Nat.testBit_two_pow_mul_add _ hlt, Nat.testBit_two_pow_mul]
  rcases Nat.lt_trichotomy j b with h | rfl | h
  · have hj : j < b + 1 ∧ j ≠ b ∧ ¬ b + 1 ≤ j := by omega
    cases x <;> simp [hj, hj.2.1.symm]
  · cases x <;> simp
  · have hj : ¬ j < b + 1 ∧ j ≠ b ∧ b + 1 ≤ j := by omega
    simp [hj]

/-! ### The value of a crossbar code (Tables 2-2 and 3-4) -/

theorem Tile.source_lastOut (t : Tile) {b : Nat} (h : b < 1024) : t.source b = t.lastOut.getLsbD b := if_pos h

theorem Tile.source_row (t : Tile) {p i : Nat} (hp : p < 16) (hi : i < 64) :
    t.source (0x400 + 64 * p + i) = (Map.get t.rows 0 p).getLsbD i := by
  have hdiv : (0x400 + 64 * p + i - 0x400) / 64 = p := by omega
  have hmod : (0x400 + 64 * p + i - 0x400) % 64 = i := by omega
  rw [Tile.source, if_neg (by omega), if_pos (by omega), hdiv, hmod]

theorem Tile.source_arrWord (t : Tile) {w i : Nat} (hw : w < 16) (hi : i < 64) :
    t.source (0x800 + 64 * w + i) = (t.arrWord w).data.getLsbD i := by
  have hdiv : (0x800 + 64 * w + i - 0x800) / 64 = w := by omega
  have hmod : (0x800 + 64 * w + i - 0x800) % 64 = i := by omega
  rw [Tile.source, if_neg (by omega), if_neg (by omega), if_pos (by omega), hdiv, hmod]

theorem Tile.source_res (t : Tile) {r i : Nat} (hr : r < 16) (hi : i < 32) :
    t.source (0xC00 + 32 * r + i) = (Map.get t.res {} r).val.getLsbD i := by
  have hdiv : (0xC00 + 32 * r + i - 0xC00) / 32 = r := by omega
  have hmod : (0xC00 + 32 * r + i - 0xC00) % 32 = i := by omega
  rw [Tile.source, if_neg (by omega), if_neg (by omega), if_neg (by omega), if_pos (by omega), hdiv, hmod]

theorem Tile.source_ecyc (t : Tile) {i : Nat} (hi : i < 32) : t.source (0xE20 + i) = t.ecyc.testBit i := by
  simp (disch := omega) only [Tile.source, if_neg, if_pos, Nat.add_sub_cancel_left]

theorem Tile.source_loopIdx (t : Tile) {i : Nat} (hi : i < 12) : t.source (0xE10 + i) = t.loopIdx.testBit i := by
  simp (disch := omega) only [Tile.source, if_neg, if_pos, Nat.add_sub_cancel_left]

theorem Tile.source_edgeIn (t : Tile) {i : Nat} (hi : i < 128) :
    t.source (0xE80 + i) = (Map.get t.edgeIn 0 (t.ecyc % 2)).getLsbD i := by
  simp (disch := omega) only [Tile.source, if_neg, if_pos, Nat.add_sub_cancel_left]

/-! ### Windows (R41) -/

theorem Tile.window_getLsbD (t : Tile) (a p : Nat) {m : Nat} (h : m < 64) :
    (t.window a p).getLsbD m = t.source (t.xcode a p m) := by
  rw [Tile.window, BitVec.getLsbD_ofNat, packBits_testBit]
  simp [h]

theorem Map.get_map_key {α : Type} (f : Nat → α) (d : α) {p : Nat} {l : List Nat} (h : p ∈ l) :
    Map.get (l.map (fun q => (q, f q))) d p = f p := by
  induction l with
  | nil => cases h
  | cons q r ih =>
    by_cases hq : q = p
    · subst hq; simp [Map.get]
    · simp [Map.get, hq, ih ((List.mem_cons.1 h).resolve_left (Ne.symm hq))]

/-- The operand phase forms every window from the rows that it has latched: no source is a window. -/
theorem Tile.operandPhase_win (t : Tile) (a : Nat) {p : Nat} (h : p < 16) :
    Map.get (t.operandPhase a).win 0 p = (t.operandPhase a).window a p :=
  Map.get_map_key _ _ (List.mem_range.2 h)

/-! ### Outputs (R40, R82, R83, R87 to R89) -/

theorem bpEval_of_command {w : Nat} (h : isCmdWord w = true) (tbl : Nat) (win : DWord) (cin : Bool) :
    bpEval tbl w win cin = (false, false) := if_pos h

/-- A BP that is neither a command nor a carry cell looks its six operands up, whatever carry it receives. -/
theorem bpEval_of_function {w : Nat} (h : isCmdWord w = false) (hc : fld w 5 2 = 0) (tbl : Nat) (win : DWord) (cin : Bool) :
    bpEval tbl w win cin = (tbl.testBit (packBits (operandBit w win) 6), false) := by
  simp [bpEval, h, hc]

/-- What BP `b` of step `s` forms from the carry it receives: its output and its carry output. -/
def Tile.bpForm (t : Tile) (s b : Nat) (cin : Bool) : Bool × Bool :=
  bpEval (t.table (fld (t.word s b) 45 11)) (t.word s b) (Map.get t.win 0 (b / 64)) cin

/-- The carry that BP `b` of step `s` receives (R88, R89). -/
def Tile.carryInto (t : Tile) (s : Nat) : Nat → Bool
  | 0 => false
  | b + 1 => (t.bpForm s b (t.carryInto s b)).2

theorem Tile.evalFrom_succ (t : Tile) (s b : Nat) (carry : Bool) (n : Nat) :
    t.evalFrom s b carry (n + 1) =
      (if (t.bpForm s b carry).1 then 2 ^ b else 0) + t.evalFrom s (b + 1) (t.bpForm s b carry).2 n := rfl

theorem Tile.dvd_evalFrom (t : Tile) (s n b : Nat) (carry : Bool) : 2 ^ b ∣ t.evalFrom s b carry n := by
  induction n generalizing b carry with
  | zero => exact Nat.dvd_zero _
  | succ n ih =>
    rw [t.evalFrom_succ]
    refine Nat.dvd_add ?_ (Nat.dvd_trans (Nat.pow_dvd_pow 2 (Nat.le_succ b)) (ih _ _))
    split
    · exact Nat.dvd_refl _
    · exact Nat.dvd_zero _

theorem Tile.evalFrom_testBit (t : Tile) (s n : Nat) {b j : Nat} (hb : b ≤ j) (hj : j < b + n) :
    (t.evalFrom s b (t.carryInto s b) n).testBit j = (t.bpForm s j (t.carryInto s j)).1 := by
  induction n generalizing b with
  | zero => omega
  | succ n ih =>
    rw [t.evalFrom_succ, testBit_add_of_dvd _ (t.dvd_evalFrom s n (b + 1) _)]
    split
    case isTrue h => rw [h]
    case isFalse h => exact ih (b := b + 1) (by omega) (by omega)

theorem Tile.evalAll_getLsbD (t : Tile) (s : Nat) {b : Nat} (h : b < 1024) :
    (t.evalAll s).getLsbD b = (t.bpForm s b (t.carryInto s b)).1 := by
  rw [Tile.evalAll, BitVec.getLsbD_ofNat, decide_eq_true h, Bool.true_and]
  exact t.evalFrom_testBit s 1024 (Nat.zero_le b) (by omega)

theorem Tile.evalAll_of_command (t : Tile) (s : Nat) {b : Nat} (h : b < 1024) (hw : isCmdWord (t.word s b) = true) :
    (t.evalAll s).getLsbD b = false := by
  rw [t.evalAll_getLsbD s h, Tile.bpForm, bpEval_of_command hw]

theorem Tile.evalAll_of_function (t : Tile) (s : Nat) {b : Nat} (h : b < 1024) (hw : isCmdWord (t.word s b) = false)
    (hc : fld (t.word s b) 5 2 = 0) :
    (t.evalAll s).getLsbD b = (t.table (fld (t.word s b) 45 11)).testBit
      (packBits (operandBit (t.word s b) (Map.get t.win 0 (b / 64))) 6) := by
  rw [t.evalAll_getLsbD s h, Tile.bpForm, bpEval_of_function hw hc]

/-- The index of a truth-table bit, as the sum of R40. -/
theorem packBits_six (x : Nat → Bool) : packBits x 6 =
    b2n (x 0) + 2 * b2n (x 1) + 4 * b2n (x 2) + 8 * b2n (x 3) + 16 * b2n (x 4) + 32 * b2n (x 5) := by
  simp only [packBits_succ, packBits_zero, Nat.reducePow, Nat.one_mul, Nat.zero_add]

/-! ### Net-store writes (R44) -/

theorem maskedRow_getLsbD (old : DWord) (mask out : Nat) {q : Nat} (h : q < 64) :
    (maskedRow old mask out).getLsbD q = if mask.testBit q then out.testBit q else old.getLsbD q := by
  simp only [maskedRow, BitVec.getLsbD_or, BitVec.getLsbD_and, BitVec.getLsbD_not, BitVec.getLsbD_ofNat, h]
  cases mask.testBit q <;> simp

theorem Tile.enMask_testBit (t : Tile) (s p i : Nat) {q : Nat} (h : q < 64) :
    (t.enMask s p i).testBit q = decide (bit (t.word s (64 * p + q)) i = 1) := by
  simp [Tile.enMask, packBits_testBit, h]

/-- One half of the net store after the BPs of `mask` have written `out` into row `k`. -/
def putRow (m : Map DWord) (k mask out : Nat) : Map DWord :=
  if mask = 0 then m else Map.set m k (maskedRow (Map.get m 0 k) mask out)

/-- One half of the net store after banks 0 to `n − 1` have written their row `s`. -/
def putRows (m : Map DWord) (s : Nat) (mask out : Nat → Nat) : Nat → Map DWord
  | 0 => m
  | p + 1 => putRow (putRows m s mask out p) (2048 * p + s) (mask p) (out p)

/-- The outputs of bank `p`'s BPs. -/
def Tile.bankOuts (t : Tile) (p : Nat) : Nat := fld t.outs.toNat (64 * p) 64

/-- The writes of a step touch the two halves of the net store and nothing else, WE deciding the current one and RETAIN the
retained one. -/
theorem Tile.writeRows_eq (t : Tile) (s n : Nat) : t.writeRows s n =
    { t with cur := putRows t.cur s (fun p => t.enMask s p 8) t.bankOuts n
             ret := putRows t.ret s (fun p => t.enMask s p 2) t.bankOuts n } := by
  induction n with
  | zero => rfl
  | succ n ih => rw [Tile.writeRows, ih]; rfl

@[simp] theorem Tile.writeRows_cur (t : Tile) (s n : Nat) :
    (t.writeRows s n).cur = putRows t.cur s (fun p => t.enMask s p 8) t.bankOuts n := by rw [t.writeRows_eq]

@[simp] theorem Tile.writeRows_ret (t : Tile) (s n : Nat) :
    (t.writeRows s n).ret = putRows t.ret s (fun p => t.enMask s p 2) t.bankOuts n := by rw [t.writeRows_eq]

theorem get_putRow (m : Map DWord) (k mask out j : Nat) :
    Map.get (putRow m k mask out) 0 j = if j = k then maskedRow (Map.get m 0 k) mask out else Map.get m 0 j := by
  unfold putRow
  split
  case isTrue h =>
    have hkeep : maskedRow (Map.get m 0 k) mask out = Map.get m 0 k := by
      rw [h, maskedRow, BitVec.ofNat_eq_ofNat, BitVec.not_zero, BitVec.and_allOnes, BitVec.zero_and, BitVec.or_zero]
    split
    case isTrue hj => rw [hkeep, hj]
    case isFalse => rfl
  case isFalse => exact Map.get_set m 0 _ j k

section
variable (m : Map DWord) (s : Nat) (mask out : Nat → Nat) (n : Nat)

theorem get_putRows_of_ne {k : Nat} (h : ∀ r, r < n → k ≠ 2048 * r + s) :
    Map.get (putRows m s mask out n) 0 k = Map.get m 0 k := by
  induction n with
  | zero => rfl
  | succ n ih =>
    rw [putRows, get_putRow, if_neg (h n (Nat.lt_succ_self n)), ih (fun r hr => h r (Nat.lt_succ_of_lt hr))]

theorem get_putRows_row {p : Nat} (h : p < n) :
    Map.get (putRows m s mask out n) 0 (2048 * p + s) = maskedRow (Map.get m 0 (2048 * p + s)) (mask p) (out p) := by
  induction n with
  | zero => omega
  | succ n ih =>
    rw [putRows, get_putRow]
    split
    case isTrue heq =>
      obtain rfl : p = n := by omega
      rw [get_putRows_of_ne m s mask out p (fun r hr => by omega)]
    case isFalse hne => exact ih (by omega)

end

/-- The bit of BP `q` of bank `p` after a step's writes to one half, with bit `i` of the step word as the enable. -/
theorem Tile.putRows_getLsbD (t : Tile) (m : Map DWord) (s i : Nat) {p q : Nat} (hp : p < 16) (hq : q < 64) :
    (Map.get (putRows m s (fun r => t.enMask s r i) t.bankOuts 16) 0 (2048 * p + s)).getLsbD q =
      if bit (t.word s (64 * p + q)) i = 1 then t.outs.getLsbD (64 * p + q) else (Map.get m 0 (2048 * p + s)).getLsbD q := by
  rw [get_putRows_row m s _ _ 16 hp, maskedRow_getLsbD _ _ _ hq, t.enMask_testBit s p i hq]
  simp only [decide_eq_true_eq, Tile.bankOuts, fld_testBit, hq, decide_true, Bool.true_and, BitVec.getLsbD]

/-! ### The obligation -/

/-- Settles O3: a BP's output is its bit of `evalAll` with the carry it receives, which matters to a carry cell only, and the rows
of the sixteen banks are written one by one, each under its own key. -/
theorem booleanPlane : Obligations.BooleanPlane := by
  refine ⟨⟨fun t a p m h => t.window_getLsbD a p h, fun t a p h => t.operandPhase_win a h, fun t a b h hw hc => ?_,
    fun t a b h hw => t.evalAll_of_command a h hw⟩, fun t a p q hp hq => ?_, fun t => ?_⟩
  · rw [t.evalAll_of_function a h hw hc, packBits_six]
    rfl
  · simp only [Tile.writeRows_cur, Tile.writeRows_ret]
    exact ⟨t.putRows_getLsbD t.cur a 8 hp hq, t.putRows_getLsbD t.ret a 2 hp hq,
      fun k hk => ⟨get_putRows_of_ne _ _ _ _ 16 hk, get_putRows_of_ne _ _ _ _ 16 hk⟩⟩
  · exact ⟨rfl, rfl, rfl, rfl, fun _ => t.source_lastOut, fun _ _ => t.source_row, fun _ _ => t.source_arrWord,
      fun _ _ => t.source_res, fun _ => t.source_ecyc, fun _ => t.source_loopIdx, fun _ => t.source_edgeIn⟩

end Sys2Proof.Machine
end

section
/-!
PROOF. Frames of the state: which parts, tiles, tenants and links an update leaves alone, as lemmas that later proofs cite.
-/
namespace Sys2Proof.Machine

/-! ### Frames, part by part -/

/-- A frame says of each part that is not listed that it is as it was. -/
theorem State.keeps_iff {s t : State} {a : List Part} : s.keeps t a ↔
    (.dev ∉ a → t.dev = s.dev) ∧ (.regs ∉ a → t.regs = s.regs) ∧ (.tenants ∉ a → t.tenants = s.tenants) ∧
    (.tiles ∉ a → t.tiles = s.tiles) ∧ (.fm ∉ a → t.fm = s.fm) ∧ (.sched ∉ a → t.sched = s.sched) ∧
    (.cap ∉ a → t.cap = s.cap) ∧ (.trig ∉ a → t.trig = s.trig) ∧ (.host ∉ a → t.host = s.host) ∧
    (.noc ∉ a → t.noc = s.noc) ∧ (.ds ∉ a → t.ds = s.ds) ∧ (.thy ∉ a → t.thy = s.thy) ∧ (.chv ∉ a → t.chv = s.chv) ∧
    (.lat ∉ a → t.lat = s.lat) ∧ (.pwr ∉ a → t.pwr = s.pwr) ∧ (.edg ∉ a → t.edg = s.edg) ∧ (.cfg ∉ a → t.cfg = s.cfg) ∧
    (.clk ∉ a → t.clk = s.clk) ∧ (.sage ∉ a → t.sage = s.sage) ∧ (.ana ∉ a → t.ana = s.ana) ∧
    (.latch ∉ a → t.latch = s.latch) ∧ (.freeCtr ∉ a → t.freeCtr = s.freeCtr) ∧ (.pending ∉ a → t.pending = s.pending) := by
  constructor
  · intro h
    exact ⟨h .dev, h .regs, h .tenants, h .tiles, h .fm, h .sched, h .cap, h .trig, h .host, h .noc, h .ds, h .thy, h .chv,
      h .lat, h .pwr, h .edg, h .cfg, h .clk, h .sage, h .ana, h .latch, h .freeCtr, h .pending⟩
  · rintro ⟨h0, h1, h2, h3, h4, h5, h6, h7, h8, h9, h10, h11, h12, h13, h14, h15, h16, h17, h18, h19, h20, h21, h22⟩ p
    cases p <;> assumption

/-! ### One tile, tenant or link -/

section
variable {s t u : State} {l : Nat}

theorem otherTiles_of_tiles (h : t.tiles = s.tiles) : s.otherTiles t l := fun m _ => by simp only [State.tile, h]
theorem otherTiles_trans (h : s.otherTiles t l) (k : t.otherTiles u l) : s.otherTiles u l :=
  fun m hm => (k m hm).trans (h m hm)
@[simp] theorem otherTiles_setTile {v : Tile} : s.otherTiles (s.setTile l v) l :=
  fun _ hm => s.tile_setTile_ne v hm
@[simp] theorem otherTiles_updTile {f : Tile → Tile} : s.otherTiles (s.updTile l f) l :=
  fun _ hm => s.tile_updTile_ne f hm

theorem otherTiles_of_set {v : Tile} (h : t.tiles = Map.set s.tiles l v) : s.otherTiles t l := fun m hm => by
  simp only [State.tile, h, Map.get_set_ne _ _ _ hm]

theorem otherTenants_of_tenants (h : t.tenants = s.tenants) : s.otherTenants t l := fun m _ => by simp only [State.ten, h]
theorem otherTenants_trans (h : s.otherTenants t l) (k : t.otherTenants u l) : s.otherTenants u l :=
  fun m hm => (k m hm).trans (h m hm)
@[simp] theorem otherTenants_setTen {v : Tenant} : s.otherTenants (s.setTen l v) l :=
  fun _ hm => s.ten_setTen_ne v hm
@[simp] theorem otherTenants_updTen {f : Tenant → Tenant} : s.otherTenants (s.updTen l f) l :=
  fun _ hm => s.ten_updTen_ne f hm

theorem otherTenants_of_set {v : Tenant} (h : t.tenants = Map.set s.tenants l v) : s.otherTenants t l := fun m hm => by
  simp only [State.ten, h, Map.get_set_ne _ _ _ hm]

theorem otherLinks_trans (h : s.otherLinks t l) (k : t.otherLinks u l) : s.otherLinks u l :=
  fun m hm => (k m hm).trans (h m hm)
@[simp] theorem otherLinks_setLink {v : Link} : s.otherLinks (s.setLink l v) l :=
  fun _ hm => s.link_setLink_ne v hm
@[simp] theorem otherLinks_updLink {f : Link → Link} : s.otherLinks (s.updLink l f) l :=
  fun _ hm => s.link_updLink_ne f hm

theorem tile_of_keeps {a : List Part} (h : s.keeps t a) (n : .tiles ∉ a) (m : Nat) : t.tile m = s.tile m := by
  have htiles : t.tiles = s.tiles := h .tiles n
  simp only [State.tile, htiles]
theorem ten_of_keeps {a : List Part} (h : s.keeps t a) (n : .tenants ∉ a) (m : Nat) : t.ten m = s.ten m := by
  have htenants : t.tenants = s.tenants := h .tenants n
  simp only [State.ten, htenants]

end

end Sys2Proof.Machine
end

section
/-!
PROOF. Every step keeps the invariant of the machine: the command table arm by arm, and the turn of an empty queue.
-/
namespace Sys2Proof.Machine

/-- Every arm of the command table keeps the invariant, by the lemma about its meaning. -/
theorem exec_inv (c : Instr) (s : State) (h : s.Inv) : Out.Inv (exec c s) :=
  match c with
  | .vinEnterRange sel => execVinEnterRange_inv sel s h
  | .vinLeaveRange => execVinLeaveRange_inv s h
  | .vbatRise => execVbatRise_inv s h
  | .vbatFall => execVbatFall_inv s h
  | .resetPin sel => execResetPin_inv sel s h
  | .perst => execPerst_inv s h
  | .devHoldRaise => execDevHoldRaise_inv s h
  | .devHoldWithdraw => execDevHoldWithdraw_inv s h
  | .forceSafe key => execForceSafe_inv key s h
  | .softReset key sel => execSoftReset_inv key sel s h
  | .postComplete tiles cols dies unit sigs => execPostComplete_inv tiles cols dies unit sigs s h
  | .cspBootWaitExpire => execCspBootWaitExpire_inv s h
  | .configLoadComplete => execConfigLoadComplete_inv s h
  | .runStart d ten count span => execRunStart_inv d ten count span s h
  | .runStop d ten count => execRunStop_inv d ten count s h
  | .runStep d ten count span => execRunStep_inv d ten count span s h
  | .runRelease d ten count => execRunRelease_inv d ten count s h
  | .runHold d ten count => execRunHold_inv d ten count s h
  | .stepCountExpire ten => execStepCountExpire_inv ten s h
  | .stepFetch l delayed => execStepFetch_inv l delayed s h
  | .stepGate l => execStepGate_inv l s h
  | .stepEvaluate l held => execStepEvaluate_inv l held s h
  | .stepWrite l => execStepWrite_inv l s h
  | .seqNext l e => execSeqNext_inv l e s h
  | .seqEnd l e => execSeqEnd_inv l e s h
  | .seqJump l => execSeqJump_inv l s h
  | .seqLoop l e => execSeqLoop_inv l e s h
  | .seqCall l e => execSeqCall_inv l e s h
  | .seqRet l e => execSeqRet_inv l e s h
  | .seqTrap l e => execSeqTrap_inv l e s h
  | .seqRetx l e => execSeqRetx_inv l e s h
  | .stackSpillAccess l err parFails spBad => execStackSpillAccess_inv l err parFails spBad s h
  | .macMul l p => execMacMul_inv l p s h
  | .macMac l p => execMacMac_inv l p s h
  | .macMsub l p => execMacMsub_inv l p s h
  | .macCas l p => execMacCas_inv l p s h
  | .macRead l p => execMacRead_inv l p s h
  | .arrayRead l p err => execArrayRead_inv l p err s h
  | .arrayWrite l p err => execArrayWrite_inv l p err s h
  | .arraySet l p err => execArraySet_inv l p err s h
  | .arrayClear l p err => execArrayClear_inv l p err s h
  | .arrayScrub l p err => execArrayScrub_inv l p err s h
  | .deepDread ten memid err => execDeepDread_inv ten memid err s h
  | .deepDwrite ten memid err wbad => execDeepDwrite_inv ten memid err wbad s h
  | .deepDset ten memid err wbad => execDeepDset_inv ten memid err wbad s h
  | .deepDclear ten memid err wbad => execDeepDclear_inv ten memid err wbad s h
  | .slotArrive p damaged => execSlotArrive_inv p damaged s h
  | .creditArrive ten src dst word occ ecyc => execCreditArrive_inv ten src dst word occ ecyc s h
  | .sendSlotDepart l k => execSendSlotDepart_inv l k s h
  | .tileEndReport l => execTileEndReport_inv l s h
  | .startGrant l pins => execStartGrant_inv l pins s h
  | .checkpointDue ten => execCheckpointDue_inv ten s h
  | .schLsyncWrite t window => execSchLsyncWrite_inv t window s h
  | .imageCommit d ten off len => execImageCommit_inv d ten off len s h
  | .loadCheckComplete ten => execLoadCheckComplete_inv ten s h
  | .imageDiscard d ten => execImageDiscard_inv d ten s h
  | .tilContractClear n => execTilContractClear_inv n s h
  | .hazardReportPost ten => execHazardReportPost_inv ten s h
  | .schDebugWrite t v => execSchDebugWrite_inv t v s h
  | .tapsPacket l => execTapsPacket_inv l s h
  | .trapEvt l => execTrapEvt_inv l s h
  | .triggerEvaluate q span => execTriggerEvaluate_inv q span s h
  | .trigInEdge k level span => execTrigInEdge_inv k level span s h
  | .trigTimerExpire q k span => execTrigTimerExpire_inv q k span s h
  | .trigHoldoffEnd q => execTrigHoldoffEnd_inv q s h
  | .trigOutPulseEnd k => execTrigOutPulseEnd_inv k s h
  | .trgOwnerWrite q by' owner => execTrgOwnerWrite_inv q by' owner s h
  | .trgArm q by' init ring => execTrgArm_inv q by' init ring s h
  | .trgDisarm q by' => execTrgDisarm_inv q by' s h
  | .trgSwev q by' span => execTrgSwev_inv q by' span s h
  | .acqRunStart c by' => execAcqRunStart_inv c by' s h
  | .acqRunStop c by' => execAcqRunStop_inv c by' s h
  | .acqOwnerWrite c by' owner => execAcqOwnerWrite_inv c by' owner s h
  | .acqRecordLanded c bad => execAcqRecordLanded_inv c bad s h
  | .acqGapRoom c => execAcqGapRoom_inv c s h
  | .acqPacingRoom c => execAcqPacingRoom_inv c s h
  | .acqPaceTimeout c ms => execAcqPaceTimeout_inv c ms s h
  | .acqRidxWrite c by' v => execAcqRidxWrite_inv c by' v s h
  | .capture d ten => execCapture_inv d ten s h
  | .captureMoveStart => execCaptureMoveStart_inv s h
  | .captureMoveDone bad => execCaptureMoveDone_inv bad s h
  | .captureLanded pathOk bad => execCaptureLanded_inv pathOk bad s h
  | .capRidxWrite by' t n => execCapRidxWrite_inv by' t n s h
  | .captureArea d ten off slots => execCaptureArea_inv d ten off slots s h
  | .checkpointLanded ten bad => execCheckpointLanded_inv ten bad s h
  | .watchdogExpire l more => execWatchdogExpire_inv l more s h
  | .recoveryPlacement ten => execRecoveryPlacement_inv ten s h
  | .restoreComplete ten newBad oldBad => execRestoreComplete_inv ten newBad oldBad s h
  | .drainMarker marker => execDrainMarker_inv marker s h
  | .partitionTimeout ten ms => execPartitionTimeout_inv ten ms s h
  | .lateErrorPacket ten ring status tag dseq addr mod memid tile => execLateErrorPacket_inv ten ring status tag dseq addr mod memid tile s h
  | .errorLogIntake => execErrorLogIntake_inv s h
  | .errLogRidxWrite v => execErrLogRidxWrite_inv v s h
  | .errCkptCfgWrite t v => execErrCkptCfgWrite_inv t v s h
  | .sliceEnd ten => execSliceEnd_inv ten s h
  | .swapStart => execSwapStart_inv s h
  | .swapOutEmptied v bad => execSwapOutEmptied_inv v bad s h
  | .swapInLoaded bad => execSwapInLoaded_inv bad s h
  | .swapDrainDone ten => execSwapDrainDone_inv ten s h
  | .rebalance d ten pairs => execRebalance_inv d ten pairs s h
  | .schTregionWrite t size v => execSchTregionWrite_inv t size v s h
  | .schTcfgWrite t v => execSchTcfgWrite_inv t v s h
  | .schBwClassWrite c v => execSchBwClassWrite_inv c v s h
  | .tokenWindow => execTokenWindow_inv s h
  | .msgOutRelease ten cq => execMsgOutRelease_inv ten cq s h
  | .basilEvaluate used lk loads waited share => execBasilEvaluate_inv used lk loads waited share s h
  | .fastCap iin => execFastCap_inv iin s h
  | .limitTrip vin => execLimitTrip_inv vin s h
  | .phaseShed c p => execPhaseShed_inv c p s h
  | .converterOutOfWindow c => execConverterOutOfWindow_inv c s h
  | .domainFault d => execDomainFault_inv d s h
  | .domainIdleOff d => execDomainIdleOff_inv d s h
  | .domainPowerGood d => execDomainPowerGood_inv d s h
  | .pwrDomCtlWrite d en => execPwrDomCtlWrite_inv d en s h
  | .vtMoveDone hub => execVtMoveDone_inv hub s h
  | .smallConfigEnter => execSmallConfigEnter_inv s h
  | .fullConfigDone => execFullConfigDone_inv s h
  | .linkDetectLock l => execLinkDetectLock_inv l s h
  | .linkDetectTimeout l bad => execLinkDetectTimeout_inv l bad s h
  | .linkTrainDone l swap pol => execLinkTrainDone_inv l swap pol s h
  | .linkTrainTimeout l => execLinkTrainTimeout_inv l s h
  | .tsReceive l line ts rtt => execTsReceive_inv l line ts rtt s h
  | .linkIdentRetry l => execLinkIdentRetry_inv l s h
  | .linkFastRtEnter l line cause => execLinkFastRtEnter_inv l line cause s h
  | .linkFastRtTimeout l bad => execLinkFastRtTimeout_inv l bad s h
  | .linkFullRtTimeout l => execLinkFullRtTimeout_inv l s h
  | .linkDownRetry l => execLinkDownRetry_inv l s h
  | .frameReceiveXch l line seq damaged ten ecyc dmod omod slots => execFrameReceiveXch_inv l line seq damaged ten ecyc dmod omod slots s h
  | .slotForward l k => execSlotForward_inv l k s h
  | .frameReceivePkt l line seq damaged p => execFrameReceivePkt_inv l line seq damaged p s h
  | .frameReceiveDtr l line seq damaged dst org link iseq inner => execFrameReceiveDtr_inv l line seq damaged dst org link iseq inner s h
  | .frameReceiveCtl l line damaged c => execFrameReceiveCtl_inv l line damaged c s h
  | .frameTransmit l ctlDue skpDue delay => execFrameTransmit_inv l ctlDue skpDue delay s h
  | .retryAckTimeout l => execRetryAckTimeout_inv l s h
  | .fmkSend l delay => execFmkSend_inv l delay s h
  | .fmkReceive l line mseq delay tvalid src stratum crcBad sub => execFmkReceive_inv l line mseq delay tvalid src stratum crcBad sub s h
  | .tokenBnd l line seq damaged k => execTokenBnd_inv l line seq damaged k s h
  | .tokenReplay l line seq damaged k => execTokenReplay_inv l line seq damaged k s h
  | .tokenPace l line seq damaged k => execTokenPace_inv l line seq damaged k s h
  | .tokenDrain l line seq damaged k => execTokenDrain_inv l line seq damaged k s h
  | .tokenPartx l line seq damaged k => execTokenPartx_inv l line seq damaged k s h
  | .tokenLhold l line seq damaged k => execTokenLhold_inv l line seq damaged k s h
  | .tokenNbr l line seq damaged k => execTokenNbr_inv l line seq damaged k s h
  | .nbrSend => execNbrSend_inv s h
  | .paceNoticeSend ten => execPaceNoticeSend_inv ten s h
  | .linkSleepEnter l => execLinkSleepEnter_inv l s h
  | .linkWake l => execLinkWake_inv l s h
  | .lnkEnable l => execLnkEnable_inv l s h
  | .lnkDisable l => execLnkDisable_inv l s h
  | .lnkModeWrite l mode prbs => execLnkModeWrite_inv l mode prbs s h
  | .lnkRetrain l => execLnkRetrain_inv l s h
  | .lnkClrCnt l => execLnkClrCnt_inv l s h
  | .lnkIdWrite id valid tag => execLnkIdWrite_inv id valid tag s h
  | .pktReqWrite p ce => execPktReqWrite_inv p ce s h
  | .pktReqRead p ce err => execPktReqRead_inv p ce err s h
  | .pktReqDeep ten memid damaged => execPktReqDeep_inv ten memid damaged s h
  | .pktReqRegRd p ce => execPktReqRegRd_inv p ce s h
  | .pktReqRegWr p ce => execPktReqRegWr_inv p ce s h
  | .pktRspData p ce => execPktRspData_inv p ce s h
  | .pktRspDeepRes ten tile k damaged => execPktRspDeepRes_inv ten tile k damaged s h
  | .pktRspRegData p ce => execPktRspRegData_inv p ce s h
  | .pktRspError p ce => execPktRspError_inv p ce s h
  | .pktMgtStop p ce => execPktMgtStop_inv p ce s h
  | .pktMgtFault p ce => execPktMgtFault_inv p ce s h
  | .dsPatrolRead k err => execDsPatrolRead_inv k err s h
  | .dsRowRepairDone k pc row => execDsRowRepairDone_inv k pc row s h
  | .dsTempRead k t => execDsTempRead_inv k t s h
  | .sqDoorbell fn r value => execSqDoorbell_inv fn r value s h
  | .cqHeadWrite fn r value => execCqHeadWrite_inv fn r value s h
  | .sqEnable fn r log2 cq => execSqEnable_inv fn r log2 cq s h
  | .sqDisable fn r => execSqDisable_inv fn r s h
  | .cqEnable fn r log2 ien vector coalCnt coalUs => execCqEnable_inv fn r log2 ien vector coalCnt coalUs s h
  | .cqDisable fn r => execCqDisable_inv fn r s h
  | .descriptorFetch fn r bytes => execDescriptorFetch_inv fn r bytes s h
  | .descriptorStart fn r => execDescriptorStart_inv fn r s h
  | .descNop d => execDescNop_inv d s h
  | .descWriteDeep d ten hostAddr deepOff len => execDescWriteDeep_inv d ten hostAddr deepOff len s h
  | .descReadDeep d ten hostAddr deepOff len => execDescReadDeep_inv d ten hostAddr deepOff len s h
  | .msgBind d port dir memid cq => execMsgBind_inv d port dir memid cq s h
  | .msgIn d port len hostAddr => execMsgIn_inv d port len hostAddr s h
  | .msgInLand ten port => execMsgInLand_inv ten port s h
  | .msgOut d port cap hostAddr => execMsgOut_inv d port cap hostAddr s h
  | .msgOutProcess ten port res => execMsgOutProcess_inv ten port res s h
  | .dmaTransferDone d bytes res => execDmaTransferDone_inv d bytes res s h
  | .completionPost fn cq => execCompletionPost_inv fn cq s h
  | .msixCoalesceTimer fn cq => execMsixCoalesceTimer_inv fn cq s h
  | .flr fn => execFlr_inv fn s h
  | .d3hotEnter fn => execD3hotEnter_inv fn s h
  | .vfEnableClear => execVfEnableClear_inv s h
  | .hotReset => execHotReset_inv s h
  | .bmeClear fn => execBmeClear_inv fn s h
  | .pclkTrip => execPclkTrip_inv s h
  | .smbSetPointer off pec => execSmbSetPointer_inv off pec s h
  | .smbBlockRead pec => execSmbBlockRead_inv pec s h
  | .smbBlockWrite v pec => execSmbBlockWrite_inv v pec s h
  | .smbTimeout dat => execSmbTimeout_inv dat s h
  | .smbRevived => execSmbRevived_inv s h
  | .thyIncApply v => execThyIncApply_inv v s h
  | .thySet => execThySet_inv s h
  | .thyAdj v => execThyAdj_inv v s h
  | .thySourceLoss => execThySourceLoss_inv s h
  | .thySourcePrefer l => execThySourcePrefer_inv l s h
  | .thymeMarkInEdge => execThymeMarkInEdge_inv s h
  | .markInHoldover => execMarkInHoldover_inv s h
  | .markOutRise => execMarkOutRise_inv s h
  | .markOutFall => execMarkOutFall_inv s h
  | .tstartArm k step ten => execTstartArm_inv k step ten s h
  | .tstartFire k span => execTstartFire_inv k span s h
  | .tracePacketEnter => execTracePacketEnter_inv s h
  | .traceDrain k bad => execTraceDrain_inv k bad s h
  | .sinkEnable k => execSinkEnable_inv k s h
  | .sinkDisable k => execSinkDisable_inv k s h
  | .sinkOwnerWrite k owner => execSinkOwnerWrite_inv k owner s h
  | .swmarkWrite k v => execSwmarkWrite_inv k v s h
  | .bankRelease g => execBankRelease_inv g s h
  | .bankWithdraw g => execBankWithdraw_inv g s h
  | .bankStageTimer g pins => execBankStageTimer_inv g pins s h
  | .brownoutTrip g => execBrownoutTrip_inv g s h
  | .targetCycleC1 g => execTargetCycleC1_inv g s h
  | .targetCycleC2 g pins => execTargetCycleC2_inv g pins s h
  | .targetCycleC3 g => execTargetCycleC3_inv g s h
  | .edgeInputDeliver g => execEdgeInputDeliver_inv g s h
  | .freePop g r => execFreePop_inv g r s h
  | .freePush g r pins => execFreePush_inv g r pins s h
  | .edgPrGo r => execEdgPrGo_inv r s h
  | .regionPrDone => execRegionPrDone_inv s h
  | .edgPinWrite n v => execEdgPinWrite_inv n v s h
  | .edgAssignWrite u v => execEdgAssignWrite_inv u v s h
  | .edgRouteWrite g inward v => execEdgRouteWrite_inv g inward v s h
  | .cspStatus rdy => execCspStatus_inv rdy s h
  | .cspPushBegin rdy len => execCspPushBegin_inv rdy len s h
  | .cspData rdy bytes => execCspData_inv rdy bytes s h
  | .cspEnd rdy => execCspEnd_inv rdy s h
  | .cspUpdBegin rdy len tgt => execCspUpdBegin_inv rdy len tgt s h
  | .cspUpdActivate rdy => execCspUpdActivate_inv rdy s h
  | .cspUpdConfirm rdy => execCspUpdConfirm_inv rdy s h
  | .cspTimeout => execCspTimeout_inv s h
  | .cspRevived => execCspRevived_inv s h
  | .updDownload bay => execUpdDownload_inv bay s h
  | .updActivate => execUpdActivate_inv s h
  | .updConfirm => execUpdConfirm_inv s h
  | .downloadComplete retries failed => execDownloadComplete_inv retries failed s h
  | .sorrelFrameRead f => execSorrelFrameRead_inv f s h
  | .mcRaise k => execMcRaise_inv k s h
  | .ioscProven => execIoscProven_inv s h
  | .extSourceProven ref freq => execExtSourceProven_inv ref freq s h
  | .rootLock => execRootLock_inv s h
  | .ioscTrip => execIoscTrip_inv s h
  | .ioscRetry => execIoscRetry_inv s h
  | .extRetry => execExtRetry_inv s h
  | .clockSourceTrip => execClockSourceTrip_inv s h
  | .clockSwitchLock => execClockSwitchLock_inv s h
  | .clockRevert => execClockRevert_inv s h
  | .boundaryClockTrip edge => execBoundaryClockTrip_inv edge s h
  | .trimWindow err => execTrimWindow_inv err s h
  | .sageTileLbist n => execSageTileLbist_inv n s h
  | .sageTileMbist n => execSageTileMbist_inv n s h
  | .sageDsMarch k => execSageDsMarch_inv k s h
  | .sageFuseColumn n => execSageFuseColumn_inv n s h
  | .sageDsHppr k => execSageDsHppr_inv k s h
  | .sageKeyFuse k => execSageKeyFuse_inv k s h
  | .sageKeyRevoke k => execSageKeyRevoke_inv k s h
  | .sageTestDone fails sig => execSageTestDone_inv fails sig s h
  | .sageLcWrite nx key => execSageLcWrite_inv nx key s h
  | .anaConversion raw cal slice temp due => execAnaConversion_inv raw cal slice temp due s h
  | .anaCalRotate k offLow offHigh gainLow gainHigh => execAnaCalRotate_inv k offLow offHigh gainLow gainHigh s h
  | .anaSeqWrite e v => execAnaSeqWrite_inv e v s h
  | .regWrite page off data be span => execRegWrite_inv page off data be span s h
  | .barAccessUnsupported read => execBarAccessUnsupported_inv read s h
  | .zeroLengthAccess read => execZeroLengthAccess_inv read s h
  | .resetNRelease => execResetNRelease_inv s h
  | .allSuppliesGood => execAllSuppliesGood_inv s h
  | .thymeTick => execThymeTick_inv s h
  | .backupCountTick => execBackupCountTick_inv s h
  | .unselectedSourceTrip ref => execUnselectedSourceTrip_inv ref s h
  | .trimWindowTimeout => execTrimWindowTimeout_inv s h
  | .drainMarkerTimeout marker => execDrainMarkerTimeout_inv marker s h
  | .bmeSet fn => execBmeSet_inv fn s h
  | .vfEnableSet n => execVfEnableSet_inv n s h
  | .pcieLinkUp rate width flit l0p => execPcieLinkUp_inv rate width flit l0p s h
  | .slpReceive l line => execSlpReceive_inv l line s h
  | .wakReceive l line => execWakReceive_inv l line s h
  | .regReadSideEffect page off be => execRegReadSideEffect_inv page off be s h

/-- The queue takes no part in the invariant. -/
theorem State.Inv.setPending {s : State} (h : s.Inv) (q : List Instr) : State.Inv { s with pending := q } :=
  ⟨h.fm, h.thy, h.hostMem, h.hub, h.ds⟩

theorem step_inv (s : State) (h : s.Inv) : Out.Inv (step s) := by
  unfold step
  split
  case h_1 => exact s.fclkEdge.nocTurn_inv (s.fclkEdge_inv h)
  case h_2 c rest _ => exact exec_inv c _ (h.setPending rest)

/-- Settles O58: the invariant holds of what the step answers, command by command. -/
theorem everyStepKeepsInvariant : Obligations.EveryStepKeepsInvariant := by
  intro s t h hst
  have hinv := step_inv s h
  rw [hst] at hinv
  exact hinv

end Sys2Proof.Machine
end

section
/-!
PROOF. A step runs the command at the front of the queue; with an empty queue the fabric and the NoC take one turn.
-/
namespace Sys2Proof.Machine

theorem step_of_pending_cons {s : State} {c : Instr} {rest : List Instr} (h : s.pending = c :: rest) :
    step s = exec c { s with pending := rest } := by rw [step, h]

theorem step_of_pending_nil {s : State} (h : s.pending = []) : step s = .next s.fclkEdge.nocTurn := by rw [step, h]

theorem fclkEdge_keeps {s : State} : s.keeps s.fclkEdge [.edg, .freeCtr] := by
  unfold State.fclkEdge
  split
  · exact keeps_refl
  · simp [State.keeps_iff]

theorem nocTurn_keeps {s : State} : s.keeps s.nocTurn [.noc] := by
  unfold State.nocTurn
  split
  · exact keeps_refl
  · simp [State.keeps_iff]

theorem State.fclkEdge_of_idle {s : State} (h : s.edg.fclkOk = false ∨ s.edg.loaded = []) : s.fclkEdge = s := if_pos h

theorem State.nocTurn_of_idle {s : State} (h : s.noc.flights = []) (h' : s.noc.refs = []) : s.nocTurn = s :=
  if_pos (by rw [h, h']; rfl)

/-- Settles O1: the queue decides; on an empty one the two free-running clocks turn, and they leave an idle block as it is. -/
theorem stepRunsFrontCommand : Obligations.StepRunsFrontCommand := by
  refine ⟨fun c rest s h => step_of_pending_cons h, fun s h => ⟨step_of_pending_nil h, ?_, fun hfab hfl hrefs => ?_⟩⟩
  · exact keeps_trans (keeps_mono fclkEdge_keeps (by decide)) (keeps_mono nocTurn_keeps (by decide))
  · rw [step_of_pending_nil h, State.fclkEdge_of_idle hfab, State.nocTurn_of_idle hfl hrefs]

end Sys2Proof.Machine
end

section
/-!
PROOF. The phases of a step: fetch, gate, evaluate and write (E1 to E6), each with the frame of the tile that takes it.
-/
namespace Sys2Proof.Machine

/-! ### What a chain of updates does to one tile -/

/-- From `s` to `t` tile `l` goes as `R` says, every other tile stays, and nothing outside the parts `a` differs. -/
def State.tileMoves (R : Tile → Tile → Prop) (l : Nat) (a : List Part) (s t : State) : Prop :=
  R (s.tile l) (t.tile l) ∧ s.otherTiles t l ∧ s.keeps t a

section
variable {R : Tile → Tile → Prop} {l : Nat} {a : List Part} {s t u : State}

theorem State.tileMoves.refl (hR : ∀ v, R v v) : State.tileMoves R l a s s := ⟨hR _, fun _ _ => rfl, keeps_refl⟩

theorem State.tileMoves.trans (hR : ∀ {x y z}, R x y → R y z → R x z) (h : State.tileMoves R l a s t)
    (k : State.tileMoves R l a t u) : State.tileMoves R l a s u :=
  ⟨hR h.1 k.1, otherTiles_trans h.2.1 k.2.1, keeps_trans h.2.2 k.2.2⟩

theorem State.tileMoves.foldl {α : Type} {f : State → α → State} (h0 : ∀ v, R v v) (hR : ∀ {x y z}, R x y → R y z → R x z)
    (hf : ∀ s x, State.tileMoves R l a s (f s x)) (xs : List α) : State.tileMoves R l a s (xs.foldl f s) :=
  List.foldlRecOn xs f (.refl h0) fun b hb x _ => hb.trans hR (hf b x)

/-- A further move that a condition decides. -/
theorem State.tileMoves.thenIf {c : Prop} [Decidable c] (hR : ∀ {x y z}, R x y → R y z → R x z) (h : State.tileMoves R l a s t)
    (k : State.tileMoves R l a t u) : State.tileMoves R l a s (if c then u else t) := by
  split
  · exact h.trans hR k
  · exact h

theorem State.tileMoves.setTile {v : Tile} (hv : R (s.tile l) v) (ha : .tiles ∈ a) : State.tileMoves R l a s (s.setTile l v) :=
  ⟨by rwa [s.tile_setTile], otherTiles_setTile, keeps_mono setTile_keeps (by simpa using ha)⟩

theorem State.tileMoves.updTile {f : Tile → Tile} (hv : R (s.tile l) (f (s.tile l))) (ha : .tiles ∈ a) :
    State.tileMoves R l a s (s.updTile l f) := .setTile hv ha

/-- An update of other parts moves no tile. -/
theorem State.tileMoves.of_keeps (h0 : ∀ v, R v v) (h : s.keeps t a) (hn : t.tiles = s.tiles) : State.tileMoves R l a s t :=
  ⟨by have htile : t.tile l = s.tile l := by simp only [State.tile, hn]
      rw [htile]; exact h0 _, otherTiles_of_tiles hn, h⟩

end

/-! ### Fetch and gate -/

theorem execStepFetch_of_canFetch {l : TileId} {s : State} (h : (s.tile l).canFetch = true) (d : Bool) :
    execStepFetch l d s = .next (s.setTile l (if d then
      { s.tile l with fetched := (s.tile l).nextA, nextA := none }.countStall 11
      else { s.tile l with fetched := (s.tile l).nextA, nextA := none })) := if_pos h

theorem hazard_tiles (s : State) (x i c a r d e : Nat) : (s.hazard x i c a r d e).tiles = s.tiles :=
  hazard_keeps .tiles (by decide)

theorem gateHazards_keeps {s : State} {l a : Nat} : s.keeps (s.gateHazards l a) [.tenants] := by
  refine keeps_trans (keeps_foldl _ _ (fun s p => ?_) _ s) (keeps_foldl _ _ (fun s p => keeps_foldl _ _ (fun s m => ?_) _ s) _ _)
  · dsimp only
    split_ifs
    · exact hazard_keeps
    · exact keeps_refl
    · exact hazard_keeps
    · exact keeps_refl
  · dsimp only
    split_ifs
    · exact hazard_keeps
    · exact hazard_keeps
    · exact keeps_refl

theorem gateHazards_tile (s : State) (l a m : Nat) : (s.gateHazards l a).tile m = s.tile m :=
  tile_of_keeps gateHazards_keeps (by decide) m

/-- What a wait at the gate leaves alone: the fetched step. -/
def Tile.waitsAtGate (t u : Tile) : Prop := u.fetched = t.fetched

theorem Tile.waitsAtGate.refl (t : Tile) : t.waitsAtGate t := rfl
theorem Tile.waitsAtGate.trans {t u v : Tile} (h : t.waitsAtGate u) (k : u.waitsAtGate v) : t.waitsAtGate v := Eq.trans k h

/-- A wait that is counted leaves the fetched step in its place. -/
theorem State.tileMoves.stallAt (s : State) (l c a r d : Nat) :
    State.tileMoves Tile.waitsAtGate l [.tiles, .tenants] s (s.stallAt l c a r d) := by
  have hstall : ((s.tile l).stallOnce c).fetched = (s.tile l).fetched := by
    unfold Tile.stallOnce
    split <;> rfl
  have hset : State.tileMoves Tile.waitsAtGate l [.tiles, .tenants] s
      (s.setTile l ((s.tile l).stallOnce c)) := .setTile hstall (by decide)
  unfold State.stallAt
  dsimp only
  split
  · exact .refl .refl
  split
  · split
    · exact hset.trans .trans
        (.of_keeps .refl (keeps_mono hazard_keeps (by decide)) (hazard_tiles ..))
    · exact hset
  · exact hset

/-- The waits of a gate that does not open: the tile notes them and keeps its fetched step. -/
theorem gateWaits_moves (s : State) (l a : Nat) :
    State.tileMoves Tile.waitsAtGate l [.tiles, .tenants] s (s.gateWaits l a) := by
  have hstall := fun s c r d => State.tileMoves.stallAt s l c a r d
  unfold State.gateWaits
  refine .trans .trans (.thenIf .trans ?_ (hstall ..)) (.updTile rfl (by decide))
  refine .trans .trans (.thenIf .trans (.refl .refl) (hstall ..)) (.foldl .refl .trans (fun s r => ?_) _)
  dsimp only
  split
  · split <;> exact hstall ..
  · exact hstall ..
  · exact hstall ..

theorem gateWaits_tile (s : State) (l a : Nat) : ((s.gateWaits l a).tile l).gateWait = true ∧
    ((s.gateWaits l a).tile l).waitWords = (s.tile l).awaitedWords a := by
  unfold State.gateWaits
  simp

theorem execStepGate_of_atGate {l : TileId} {a : Nat} {s : State} (h : (s.tile l).atGate = some a) :
    execStepGate l s = if (s.tile l).gateOpens a then .next ((s.gateHazards l a).updTile l (fun v => v.operandPhase a))
      else .next (s.gateWaits l a) := by
  simp only [execStepGate, h]

/-- The rows of the operand phase are those that the step reads, bank by bank. -/
theorem Tile.operandPhase_rows (t : Tile) (a : Nat) {p : Nat} (h : p < 16) :
    Map.get (t.operandPhase a).rows 0 p = t.rowRead a p := Map.get_map_key _ _ (List.mem_range.2 h)

/-! ### Evaluate -/

/-- What issuing a command leaves alone: the step's outputs and its stage, the rows, the banks and the accumulators. -/
def Tile.issues (t u : Tile) : Prop :=
  u.stage = t.stage ∧ u.outs = t.outs ∧ u.lastOut = t.lastOut ∧ u.ret = t.ret ∧ u.banks = t.banks ∧ u.acc = t.acc

theorem Tile.issues.refl (t : Tile) : t.issues t := ⟨rfl, rfl, rfl, rfl, rfl, rfl⟩
theorem Tile.issues.trans {t u v : Tile} (h : t.issues u) (k : u.issues v) : t.issues v := by
  obtain ⟨h1, h2, h3, h4, h5, h6⟩ := h
  obtain ⟨k1, k2, k3, k4, k5, k6⟩ := k
  exact ⟨k1.trans h1, k2.trans h2, k3.trans h3, k4.trans h4, k5.trans h5, k6.trans h6⟩

theorem Tile.issues_issueMac (t : Tile) (a b : Nat) : t.issues (t.issueMac a b) := by
  unfold Tile.issueMac
  dsimp only
  split <;> exact ⟨rfl, rfl, rfl, rfl, rfl, rfl⟩

theorem Tile.issues_issueArr (t : Tile) (a b : Nat) : t.issues (t.issueArr a b) := by
  unfold Tile.issueArr
  dsimp only
  split <;> exact ⟨rfl, rfl, rfl, rfl, rfl, rfl⟩

theorem issueDeep_moves (s : State) (l a b : Nat) : State.tileMoves Tile.issues l [.tiles, .noc] s (s.issueDeep l a b) := by
  unfold State.issueDeep
  refine .trans .trans (.setTile (v := if _ then _ else _) ?_ (by decide)) (.of_keeps .refl (by simp [State.keeps_iff]) rfl)
  split <;> exact ⟨rfl, rfl, rfl, rfl, rfl, rfl⟩

theorem evaluate_moves {s : State} {l : Nat} (h : (s.tile l).halt = none) :
    State.tileMoves Tile.issues l [.tiles, .noc]
      (s.setTile l { s.tile l with outs := (s.tile l).evalAll (s.tile l).stepNo, stage := .evaluated }) (s.evaluate l) := by
  unfold State.evaluate
  simp only [h, Option.isSome_none, Bool.false_eq_true, if_false]
  refine .trans .trans (.foldl .refl .trans (fun s b => .updTile (Tile.issues_issueMac ..) (by decide)) _)
    (.foldl .refl .trans (fun s b => ?_) _)
  split
  · exact .updTile (Tile.issues_issueArr ..) (by decide)
  · exact issueDeep_moves ..

theorem execStepEvaluate_of_ready {l : TileId} {held : BitVec 16} {s : State} (hst : (s.tile l).stage = .sequenced)
    (hr : (s.tile l).evalReady (s.tile l).stepNo held = true) : execStepEvaluate l held s = .next (s.evaluate l) := by
  simp [execStepEvaluate, hst, hr]

/-! ### Write -/

/-- What the release of an arrival word leaves alone. -/
def Tile.releases (t u : Tile) : Prop :=
  u.lastOut = t.lastOut ∧ u.exe = t.exe ∧ u.ret = t.ret ∧ u.cur = t.cur ∧ u.sendQ = t.sendQ ∧ u.banks = t.banks ∧ u.acc = t.acc

theorem Tile.releases.refl (t : Tile) : t.releases t := ⟨rfl, rfl, rfl, rfl, rfl, rfl, rfl⟩
theorem Tile.releases.trans {t u v : Tile} (h : t.releases u) (k : u.releases v) : t.releases v := by
  obtain ⟨h1, h2, h3, h4, h5, h6, h7⟩ := h
  obtain ⟨k1, k2, k3, k4, k5, k6, k7⟩ := k
  exact ⟨k1.trans h1, k2.trans h2, k3.trans h3, k4.trans h4, k5.trans h5, k6.trans h6, k7.trans h7⟩

theorem releaseWord_moves (s : State) (l w : Nat) : State.tileMoves Tile.releases l [.tiles, .noc] s (s.releaseWord l w) := by
  have hset : ∀ m, State.tileMoves Tile.releases l [.tiles, .noc] s (s.setTile l { s.tile l with arrive := m }) :=
    fun m => .setTile ⟨rfl, rfl, rfl, rfl, rfl, rfl, rfl⟩ (by decide)
  unfold State.releaseWord
  dsimp only
  split
  · exact .trans .trans (hset _) (.of_keeps .refl (by simp [State.keeps_iff]) rfl)
  · exact hset _

/-- The write phase of a tile that has not stopped: its outputs and rows are written, its slots queued, its step counted. -/
def Tile.wrote (t u : Tile) : Prop :=
  u.stage = .none ∧ u.lastOut = t.outs ∧ u.exe = t.exe + 1 ∧ u.ret = (t.writeRows t.stepNo 16).ret ∧
  u.cur = (t.writeRows t.stepNo 16).cur ∧ u.sendQ.length = t.sendQ.length + (t.sendsOf t.stepNo).length ∧
  u.banks = t.banks ∧ u.acc = t.acc

theorem writePhase_moves {s : State} {l : Nat} (h : (s.tile l).halt = none) :
    State.tileMoves Tile.wrote l [.tiles, .noc] s (s.writePhase l) := by
  unfold State.writePhase
  simp only [h, Option.isSome_none, Bool.false_eq_true, if_false, State.updTile, State.tile_setTile]
  generalize hA : State.setTile (State.setTile s l _) l _ = A
  generalize hB : List.foldl _ A _ = B
  have hrel : State.tileMoves Tile.releases l [.tiles, .noc] A B := by
    rw [← hB]
    refine .foldl .refl .trans (fun s w => ?_) _
    split
    · exact releaseWord_moves ..
    · exact .refl .refl
  obtain ⟨⟨h1, h2, h3, h4, h5, h6, h7⟩, hother, hkeep⟩ := hrel
  refine ⟨?_, ?_, ?_⟩
  · subst hA
    simp only [State.tile_setTile] at h1 h2 h3 h4 h5 h6 h7
    simp [Tile.wrote, h1, h2, h3, h4, h5, h6, h7, (s.tile l).writeRows_eq]
  · refine otherTiles_trans (otherTiles_trans ?_ hother) (otherTiles_setTile)
    subst hA
    exact otherTiles_trans (otherTiles_setTile) (otherTiles_setTile)
  · refine keeps_trans (keeps_trans ?_ hkeep) (keeps_mono setTile_keeps (by decide))
    subst hA
    exact keeps_trans (keeps_mono setTile_keeps (by decide)) (keeps_mono setTile_keeps (by decide))

theorem execStepWrite_of_room {l : TileId} {s : State} (hst : (s.tile l).stage = .evaluated) (hr : (s.tile l).sendRoom = true) :
    execStepWrite l s = .next (s.writePhase l) := by
  simp [execStepWrite, hst, hr]

/-! ### The obligation -/

/-- Settles O2: each phase is one move of its tile, and what the phase does not name it leaves alone. -/
theorem tileSteps : Obligations.TileSteps := by
  refine ⟨⟨fun l d s h => ?_, fun l a s h ho => ?_, fun l a s h ho => ?_⟩, fun l held s hst hh hr => ?_, fun l s hst hh hr => ?_⟩
  · refine Runs.of (execStepFetch_of_canFetch h d) ?_
    cases d <;> simp [Tile.countStall, setTile_keeps]
  · refine Runs.of ((execStepGate_of_atGate h).trans (if_pos ho)) ?_
    have htile := gateHazards_tile s l a
    refine ⟨?_, ?_, ?_, ?_, fun p hp => ?_, ?_, ?_, ?_,
      otherTiles_trans (fun m _ => htile m) (otherTiles_updTile),
      keeps_trans (keeps_mono gateHazards_keeps (by decide)) (keeps_mono updTile_keeps (by decide))⟩
    case refine_5 => rw [State.tile_updTile, htile, Tile.operandPhase_rows _ _ hp]
    all_goals rw [State.tile_updTile, htile]; rfl
  · refine Runs.of ((execStepGate_of_atGate h).trans (if_neg (by simp [ho]))) ?_
    obtain ⟨hwait, hwords⟩ := gateWaits_tile s l a
    obtain ⟨hfetched, hother, hkeep⟩ := gateWaits_moves s l a
    exact ⟨hwait, hwords, hfetched, hother, hkeep⟩
  · refine Runs.of (execStepEvaluate_of_ready hst hr) ?_
    obtain ⟨⟨h1, h2, h3, h4, h5, h6⟩, hother, hkeep⟩ := evaluate_moves hh
    simp only [State.tile_setTile] at h1 h2 h3 h4 h5 h6
    exact ⟨h1, h2, h3, h4, h5, h6, otherTiles_trans (otherTiles_setTile) hother,
      keeps_trans (keeps_mono setTile_keeps (by decide)) hkeep⟩
  · refine Runs.of (execStepWrite_of_room hst hr) ?_
    obtain ⟨⟨h1, h2, h3, h4, h5, h6, h7, h8⟩, hother, hkeep⟩ := writePhase_moves hh
    exact ⟨h1, h2, h3, h4, h5, h6, h7, h8, hother, hkeep⟩

end Sys2Proof.Machine
end

section
/-!
PROOF. The sequencer operations of a step, the exceptions that they take, and the condition of a branch of a trigger sequencer.
-/
namespace Sys2Proof.Machine

/-! ### One sequencer operation -/

/-- An operation that enters no double fault is a change of its tile. -/
theorem State.seqOp_eq {s : State} {l op : Nat} {f : Tile → Tile} (hst : (s.tile l).stage = .operand)
    (hop : (s.tile l).op (s.tile l).stepNo = op) (hd : (f (s.tile l)).dfault = (s.tile l).dfault) :
    s.seqOp l op f = s.setTile l { f (s.tile l) with stage := .sequenced } := by
  simp [State.seqOp, hst, hop, hd]

/-- What a sequencer operation that enters no double fault comes to. -/
theorem Runs.of_seqOp {c : Instr} {s : State} {l op : Nat} {f : Tile → Tile} {P : State → Prop}
    (hc : exec c s = .next (s.seqOp l op f)) (hst : (s.tile l).stage = .operand)
    (hop : (s.tile l).op (s.tile l).stepNo = op) (hd : (f (s.tile l)).dfault = (s.tile l).dfault)
    (hP : P (s.setTile l { f (s.tile l) with stage := .sequenced })) : Runs c s P :=
  Runs.of (hc.trans (congrArg _ (State.seqOp_eq hst hop hd))) hP

section
variable {t : Tile}

@[simp] theorem Tile.push_dfault (f : Frame) : (t.push f).dfault = t.dfault := rfl
@[simp] theorem Tile.push_sp (f : Frame) : (t.push f).sp = t.sp + 1 := rfl
@[simp] theorem Tile.push_stack (f : Frame) : (t.push f).stack = (f :: t.stack).take 8 := rfl
@[simp] theorem Tile.pop_dfault : t.pop.dfault = t.dfault := rfl
@[simp] theorem Tile.pop_sp : t.pop.sp = t.sp - 1 := rfl
@[simp] theorem Tile.pop_stack : t.pop.stack = t.stack.tail := rfl

/-! ### The end of a loop (R97, R98) -/

theorem Tile.kind_ne_loop_of_topLoop (h : t.topLoop = none) {f : Frame} (hf : f ∈ t.stack) : f.kind ≠ .loop := by
  have hall := List.find?_eq_none.1 h f (List.mem_append_left _ hf)
  simpa using hall

theorem Tile.loopEnd_of_noLoop (h : t.topLoop = none) (e : SeqFind) :
    t.loopEnd e = ({ t with nextA := some (t.stepNo + 1) }, false) := by
  unfold Tile.loopEnd
  split
  case h_1 f r hs =>
    have hf : f.kind ≠ .loop := Tile.kind_ne_loop_of_topLoop h (by rw [hs]; exact List.mem_cons_self)
    exact if_neg fun hk => hf hk.1
  case h_2 => rfl

theorem Tile.loopEnd_again {f : Frame} {r : List Frame} (hs : t.stack = f :: r) (hk : f.kind = .loop) (hl : f.last = t.stepNo)
    (hr : 1 < f.rem) (e : SeqFind) :
    t.loopEnd e = ({ t with stack := { f with rem := f.rem - 1 } :: r, nextA := some f.addr }, false) := by
  simp [Tile.loopEnd, hs, hk, hl, hr]

theorem Tile.loopEnd_last {f : Frame} {r : List Frame} (hs : t.stack = f :: r) (hk : f.kind = .loop) (hl : f.last = t.stepNo)
    (hr : f.rem ≤ 1) : t.loopEnd .ok = ({ t.pop with nextA := some (t.stepNo + 1) }, false) := by
  simp [Tile.loopEnd, hs, hk, hl, Nat.not_lt.2 hr]

/-! ### Exceptions (R108, Table 3-9) -/

/-- A tile with a trap vector and room on its stack takes the exception. -/
theorem Tile.takeExc_eq (hv : t.tvecValid = true) (hs : t.sp < t.cap) (ret cause code : Nat) :
    t.takeExc false ret cause code =
      { t.push { kind := .exc, addr := ret % 2048, code := code, cause := cause } with
        nextA := some t.tvec, fetched := none, excCause := cause, excCode := code, excStep := t.stepNo
        excSeen := t.excSeen || decide (cause ≠ 1) } := by
  have hne : t.sp ≠ t.cap := Nat.ne_of_lt hs
  have hle : ¬ t.cap < t.sp := Nat.lt_asymm hs
  simp only [Tile.takeExc, hv, hne, hle, Bool.not_true, Bool.false_or, decide_false, Bool.false_eq_true, if_false]
  rfl

theorem Tile.cap_pos : 8 ≤ t.cap := Nat.le_add_right 8 _

/-! ### The operations (Table 3-6) -/

theorem Tile.seqNext_of_noLoop (h : t.topLoop = none) (e : SeqFind) : t.seqNext e = { t with nextA := some (t.stepNo + 1) } := by
  rw [Tile.seqNext, Tile.loopEnd_of_noLoop h]

theorem Tile.seqEnd_of_empty (h : t.sp = 0) (e : SeqFind) : t.seqEnd e = { t with ending := true, nextA := none } := if_pos h

theorem Tile.seqLoop_of_room (h : t.sp < t.cap - 1) : t.seqLoop .ok =
    { t.push { kind := .loop, addr := (t.stepNo + 1) % 2048, last := t.opAddr t.stepNo, rem := t.opCount t.stepNo }
      with nextA := some (t.stepNo + 1) } := by
  simp [Tile.seqLoop, Nat.not_le.2 h]

theorem Tile.seqCall_of_room (h : t.sp < t.cap - 1) : t.seqCall .ok =
    { t.push { kind := .call, addr := (t.stepNo + 1) % 2048 } with nextA := some (t.opAddr t.stepNo) } := by
  simp [Tile.seqCall, Nat.not_le.2 h]

theorem Tile.seqLoop_of_full (h : t.sp = t.cap - 1) : t.seqLoop .ok = t.takeExc false (t.stepNo + 1) 2 0 := by
  simp [Tile.seqLoop, h]

theorem Tile.seqCall_of_full (h : t.sp = t.cap - 1) : t.seqCall .ok = t.takeExc false (t.stepNo + 1) 2 0 := by
  simp [Tile.seqCall, h]

theorem Tile.seqRet_of_call {f : Frame} {r : List Frame} (hs : t.stack = f :: r) (hk : f.kind = .call) :
    t.seqRet .ok = { t.pop with nextA := some f.addr } := by
  simp [Tile.seqRet, hs, hk]

theorem Tile.seqRetx_of_trap {f : Frame} {r : List Frame} (hs : t.stack = f :: r) (hk : f.kind = .exc) (hc : f.cause = 1) :
    t.seqRetx .ok = { t.pop with nextA := some f.addr } := by
  simp [Tile.seqRetx, hs, hk, hc]

theorem Tile.seqRet_of_empty (hs : t.stack = []) : t.seqRet .ok = t.takeExc false (t.stepNo + 1) 3 0 := by
  simp [Tile.seqRet, hs]

theorem Tile.seqRetx_of_empty (hs : t.stack = []) : t.seqRetx .ok = t.takeExc false (t.stepNo + 1) 3 0 := by
  simp [Tile.seqRetx, hs]

theorem Tile.seqTrap_of_not_holds (hl : t.topLoop = none) (hh : t.trapHolds = false) (e : SeqFind) :
    t.seqTrap e = { t with nextA := some (t.stepNo + 1) } := by
  simp [Tile.seqTrap, hh, Tile.loopEnd_of_noLoop hl]

/-- A trap whose condition holds takes its exception at once: no loop ends with it, and no fill is under way. -/
theorem Tile.seqTrap_of_holds (hl : t.topLoop = none) (hh : t.trapHolds = true) (hb : bit (t.ctrl t.stepNo) 231 = 1)
    (hs : t.spill = none) : t.seqTrap .ok =
      { t with trapCnt := t.trapCnt + 1, nextA := some (t.stepNo + 1) }.takeExc false (t.stepNo + 1) 1
        (fld (t.ctrl t.stepNo) 223 8) := by
  have hend := Tile.loopEnd_of_noLoop (t := { t with trapCnt := t.trapCnt + 1 }) hl .ok
  rw [Tile.seqTrap]
  simp only [hh, hb, if_true]
  rw [hend]
  simp [Tile.afterPop, hs]

end

/-! ### The condition of a branch (Table 6-3) -/

theorem bit_eq_testBit (w i : Nat) : bit w i = (w.testBit i).toNat := by
  rw [bit, fld, Nat.testBit_eq_decide_div_mod_eq, Nat.shiftRight_eq_div_pow, Nat.pow_one]
  rcases Nat.mod_two_eq_zero_or_one (w / 2 ^ i) with h | h <;> simp [h]

theorem setFld_testBit (w lsb width v j : Nat) : (setFld w lsb width v).testBit j =
    if j < lsb then w.testBit j else if j < lsb + width then v.testBit (j - lsb) else w.testBit j := by
  have hlow : w % 2 ^ lsb < 2 ^ lsb := Nat.mod_lt _ (Nat.two_pow_pos lsb)
  have hmid : v % 2 ^ width < 2 ^ width := Nat.mod_lt _ (Nat.two_pow_pos width)
  have hset : setFld w lsb width v = 2 ^ lsb * (2 ^ width * (w >>> (lsb + width)) + v % 2 ^ width) + w % 2 ^ lsb := by
    rw [setFld, Nat.shiftLeft_eq, Nat.shiftLeft_eq, Nat.pow_add]
    ring
  rw [hset, Nat.testBit_two_pow_mul_add _ hlow, Nat.testBit_two_pow_mul_add _ hmid, Nat.testBit_mod_two_pow,
    Nat.testBit_mod_two_pow, Nat.testBit_shiftRight]
  by_cases h1 : j < lsb
  · simp [h1]
  · by_cases h2 : j < lsb + width
    · have h3 : j - lsb < width := by omega
      simp [h1, h2, h3]
    · have h3 : ¬ j - lsb < width := by omega
      have h4 : lsb + width + (j - lsb - width) = j := by omega
      simp [h1, h2, h3, h4]

/-- A selection without term 18 sees the terms as they came: what the trap puts there is not selected. -/
theorem and_setFld_of_unselected {sel terms v : Nat} (h : sel.testBit 18 = false) :
    sel &&& setFld terms 18 1 v = sel &&& terms := by
  refine Nat.eq_of_testBit_eq fun j => ?_
  rw [Nat.testBit_and, Nat.testBit_and, setFld_testBit]
  rcases Nat.lt_trichotomy j 18 with hj | rfl | hj
  · rw [if_pos hj]
  · rw [h, Bool.false_and, Bool.false_and]
  · rw [if_neg (by omega), if_neg (by omega)]

theorem and_eq_left_iff_testBit (a b : Nat) : a &&& b = a ↔ ∀ i, a.testBit i = true → b.testBit i = true := by
  constructor
  · intro h i ha
    rw [← h, Nat.testBit_and] at ha
    exact (Bool.and_eq_true _ _ ▸ ha).2
  · intro h
    refine Nat.eq_of_testBit_eq fun i => ?_
    rw [Nat.testBit_and]
    cases ha : a.testBit i with
    | false => rfl
    | true => rw [h i ha]; rfl

theorem and_ne_zero_iff_testBit (a b : Nat) : a &&& b ≠ 0 ↔ ∃ i, a.testBit i = true ∧ b.testBit i = true := by
  constructor
  · intro h
    by_contra hne
    refine h (Nat.zero_of_testBit_eq_false fun i => ?_)
    rw [Nat.testBit_and]
    simpa using fun ha : a.testBit i = true => not_and.1 (not_exists.1 hne i) ha
  · rintro ⟨i, ha, hb⟩ h
    have hi := congrArg (Nat.testBit · i) h
    simp [ha, hb] at hi

theorem bit_eq_one_iff (w i : Nat) : bit w i = 1 ↔ w.testBit i = true := by
  rw [bit_eq_testBit]
  cases w.testBit i <;> simp

theorem bit_eq_zero_iff (w i : Nat) : bit w i = 0 ↔ w.testBit i = false := by
  rw [bit_eq_testBit]
  cases w.testBit i <;> simp

/-- A branch whose selection leaves the trap term out: its mode bits decide over the terms as they came. -/
theorem condHolds_of_no_trap {w : Nat} (h : fld w 0 20 &&& 2 ^ 18 = 0) (terms : Nat) (traps : List Nat) :
    condHolds w terms traps = (decide (bit w 22 = 1) &&
      xor (if bit w 20 = 0 then decide (fld w 0 20 &&& terms = fld w 0 20) else decide (fld w 0 20 &&& terms ≠ 0))
        (decide (bit w 21 = 1))) := by
  have hsel : (fld w 0 20).testBit 18 = false := by
    have hbit := congrArg (Nat.testBit · 18) h
    simpa only [Nat.testBit_and, Nat.testBit_two_pow_self, Bool.and_true, Nat.zero_testBit] using hbit
  simp only [condHolds, and_setFld_of_unselected hsel]

/-- A field that lies beside bit `k` does not see it. -/
theorem fld_xor_two_pow {w lsb width k : Nat} (h : k < lsb ∨ lsb + width ≤ k) :
    fld (w ^^^ 2 ^ k) lsb width = fld w lsb width := by
  refine Nat.eq_of_testBit_eq fun i => ?_
  rw [fld_testBit, fld_testBit, Nat.testBit_xor, Nat.testBit_two_pow]
  by_cases hi : i < width
  · have hk : k ≠ lsb + i := by omega
    simp [hk]
  · simp [hi]

theorem fld_low_testBit (w n i : Nat) : (fld w 0 n).testBit i = (decide (i < n) && w.testBit i) := by
  rw [fld_testBit, Nat.zero_add]

theorem condHolds_invert {w : Nat} (h : fld w 0 20 &&& 2 ^ 18 = 0) (he : bit w 22 = 1) (terms : Nat) (traps : List Nat) :
    condHolds (w ^^^ 2 ^ 21) terms traps = !condHolds w terms traps := by
  have hsel : fld (w ^^^ 2 ^ 21) 0 20 = fld w 0 20 := fld_xor_two_pow (by omega)
  have h22 : bit (w ^^^ 2 ^ 21) 22 = bit w 22 := fld_xor_two_pow (by omega)
  have h20 : bit (w ^^^ 2 ^ 21) 20 = bit w 20 := fld_xor_two_pow (by omega)
  have h21 : decide (bit (w ^^^ 2 ^ 21) 21 = 1) = !decide (bit w 21 = 1) := by
    simp only [bit_eq_one_iff, Nat.testBit_xor, Nat.testBit_two_pow_self]
    cases w.testBit 21 <;> rfl
  rw [condHolds_of_no_trap h, condHolds_of_no_trap (by rw [hsel, h]), hsel, h22, h20, h21, he]
  simp

/-! ### The obligation -/

/-- Settles O4: each operation is a change of its tile, and a branch without the trap term sees its terms as they came. -/
theorem sequencerOperations : Obligations.SequencerOperations := by
  refine ⟨⟨?_, ?_, ?_, ?_, ?_, ?_, ?_, ?_, ?_, ?_, ?_, ?_⟩, fun w terms traps _ h => ⟨?_, ?_, ?_, fun he => condHolds_invert h he terms traps⟩⟩
  · intro l s hst hop hl
    have htile := Tile.seqNext_of_noLoop hl .ok
    exact Runs.of_seqOp rfl hst hop (by rw [htile]) (by simp [htile, setTile_keeps])
  · intro l s hst hop hsp
    have htile := Tile.seqEnd_of_empty hsp .ok
    exact Runs.of_seqOp rfl hst hop (by rw [htile]) (by simp [htile, setTile_keeps])
  · intro l s hst hop
    exact Runs.of_seqOp rfl hst hop rfl (by simp [Tile.seqJump, setTile_keeps])
  · intro l s hst hop hsp
    have htile := Tile.seqLoop_of_room hsp
    exact Runs.of_seqOp rfl hst hop (by rw [htile]; rfl) (by simp [htile, setTile_keeps])
  · intro l s hst hop hsp
    have htile := Tile.seqCall_of_room hsp
    exact Runs.of_seqOp rfl hst hop (by rw [htile]; rfl) (by simp [htile, setTile_keeps])
  · intro l f r s hst hop hs hk
    have htile := Tile.seqRet_of_call hs hk
    exact Runs.of_seqOp rfl hst hop (by rw [htile]; rfl) (by simp [htile, hs, setTile_keeps])
  · intro l f r s hst hop hs hk hc
    have htile := Tile.seqRetx_of_trap hs hk hc
    exact Runs.of_seqOp rfl hst hop (by rw [htile]; rfl) (by simp [htile, hs, setTile_keeps])
  · intro l s hst hop hl hh
    have htile := Tile.seqTrap_of_not_holds hl hh .ok
    exact Runs.of_seqOp rfl hst hop (by rw [htile]) (by simp [htile, setTile_keeps])
  · intro l s hst hop hl hh hb hsp hv hcap
    have htile := Tile.seqTrap_of_holds hl hh hb hsp
    rw [Tile.takeExc_eq (by exact hv) (by exact hcap)] at htile
    exact Runs.of_seqOp rfl hst hop (by rw [htile]; rfl) (by simp [htile, setTile_keeps]; exact ⟨rfl, rfl⟩)
  · intro l f r s hst hop hs hk hl
    rcases Nat.lt_or_ge 1 f.rem with hr | hr
    · have htile : (s.tile l).seqNext .ok = _ := congrArg Prod.fst (Tile.loopEnd_again hs hk hl hr .ok)
      exact Runs.of_seqOp rfl hst hop (by rw [htile]) (by simp [htile, hr, Nat.not_le.2 hr, setTile_keeps])
    · have htile : (s.tile l).seqNext .ok = _ := congrArg Prod.fst (Tile.loopEnd_last hs hk hl hr)
      exact Runs.of_seqOp rfl hst hop (by rw [htile]; rfl) (by simp [htile, hs, hr, Nat.not_lt.2 hr, setTile_keeps])
  · intro l s hst hsp hv
    have hcap := (s.tile l).cap_pos
    have hloop := Tile.seqLoop_of_full hsp
    have hcall := Tile.seqCall_of_full hsp
    rw [Tile.takeExc_eq hv (by omega)] at hloop hcall
    have hfull : (s.tile l).cap - 1 + 1 = (s.tile l).cap := by omega
    exact ⟨fun hop => Runs.of_seqOp rfl hst hop (by rw [hloop]; rfl) (by simp [hloop, hsp, hfull, setTile_keeps]),
      fun hop => Runs.of_seqOp rfl hst hop (by rw [hcall]; rfl) (by simp [hcall, hsp, hfull, setTile_keeps])⟩
  · intro l s hst hs hsp hv
    have hcap := (s.tile l).cap_pos
    have hret := Tile.seqRet_of_empty hs
    have hretx := Tile.seqRetx_of_empty hs
    rw [Tile.takeExc_eq hv (by omega)] at hret hretx
    exact ⟨fun hop => Runs.of_seqOp rfl hst hop (by rw [hret]; rfl) (by simp [hret, hsp, setTile_keeps]),
      fun hop => Runs.of_seqOp rfl hst hop (by rw [hretx]; rfl) (by simp [hretx, hsp, setTile_keeps])⟩
  · intro he
    simp [condHolds, he]
  · intro he hm hi
    simp [condHolds_of_no_trap h, he, hm, hi, and_eq_left_iff_testBit, fld_low_testBit]
  · intro he hm hi
    have hany := and_ne_zero_iff_testBit (fld w 0 20) terms
    simp only [fld_low_testBit, Bool.and_eq_true, decide_eq_true_eq, and_assoc] at hany
    simpa [condHolds_of_no_trap h, he, hm, hi] using hany

end Sys2Proof.Machine
end

section
/-!
PROOF. The commands of MAC slices and array banks, the scrubber, and the accesses of a spill (Tables 4-3 and 4-6, R102, R145).
-/
namespace Sys2Proof.Machine

/-! ### The delivery of a result (R132) -/

/-- The tile after a command that may name a result register. -/
def Tile.deliverIf (t : Tile) (rdv : Bool) (rd ident : Nat) (v : Word) : Tile := if rdv then t.deliver rd ident v else t

theorem Tile.deliver_eq (t : Tile) (rd ident : Nat) (v : Word) : ∃ m, t.deliver rd ident v = { t with res := m } := by
  unfold Tile.deliver
  dsimp only
  split
  · split
    · exact ⟨_, rfl⟩
    · exact ⟨t.res, rfl⟩
  · exact ⟨t.res, rfl⟩

/-- A delivery touches the result registers alone. -/
theorem Tile.deliverIf_eq (t : Tile) (rdv : Bool) (rd ident : Nat) (v : Word) : ∃ m, t.deliverIf rdv rd ident v = { t with res := m } := by
  cases rdv
  · exact ⟨t.res, rfl⟩
  · exact t.deliver_eq rd ident v

theorem Tile.delivered_deliverIf {t u : Tile} (h : u.res = t.res) (rdv : Bool) (rd ident : Nat) (v : Word) :
    t.delivered (u.deliverIf rdv rd ident v) rdv rd ident v := by
  cases rdv with
  | false => exact ⟨fun _ => h, nofun, fun r _ => by rw [Tile.deliverIf, if_neg (by decide), h]⟩
  | true =>
    refine ⟨nofun, fun _ k hk => ?_, fun r hr => ?_⟩
    · rw [← h] at hk
      rw [Tile.deliverIf, if_pos rfl]
      unfold Tile.deliver
      simp only [hk, if_true, Map.get_set_self, and_self]
    · rw [Tile.deliverIf, if_pos rfl, ← h]
      unfold Tile.deliver
      dsimp only
      split
      · split
        · exact Map.get_set_ne _ _ _ hr
        · rfl
      · rfl

/-! ### MAC slices -/

theorem Tile.op_of_macReady {t : Tile} {p op : Nat} {c : MacCmd} (h : t.macReady p op = some c) : c.op = op := by
  unfold Tile.macReady at h
  split at h
  · cases h
  · obtain ⟨hc, hs⟩ := Option.ite_none_right_eq_some.1 h
    obtain rfl := Option.some.inj hs
    simp only [Bool.and_eq_true, decide_eq_true_eq] at hc
    exact hc.1.1

theorem Tile.macDone_macDo (t : Tile) (p : Nat) (c : MacCmd) :
    t.macDone (t.macDo p c) p c (macAcc c (Map.get t.acc 0 p) (if p = 0 then 0 else Map.get t.acc 0 (p - 1))) := by
  generalize hacc : macAcc c (Map.get t.acc 0 p) (if p = 0 then 0 else Map.get t.acc 0 (p - 1)) = acc
  have hdo : t.macDo p c = ({ t with acc := Map.set t.acc p acc, macQ := Map.set t.macQ p (Map.get t.macQ [] p).tail }).deliverIf
      c.rdv c.rd c.ident (macHalf c acc) := by rw [← hacc]; rfl
  have hres := Tile.delivered_deliverIf (t := t)
    (u := { t with acc := Map.set t.acc p acc, macQ := Map.set t.macQ p (Map.get t.macQ [] p).tail }) rfl c.rdv c.rd c.ident
    (macHalf c acc)
  rw [← hdo] at hres
  obtain ⟨m, hm⟩ := Tile.deliverIf_eq
    { t with acc := Map.set t.acc p acc, macQ := Map.set t.macQ p (Map.get t.macQ [] p).tail } c.rdv c.rd c.ident (macHalf c acc)
  rw [← hdo] at hm
  refine ⟨?_, fun q hq => ?_, ?_, fun q hq => ?_, hres, ?_⟩
  · rw [hm]; exact Map.get_set_self ..
  · rw [hm]; exact Map.get_set_ne _ _ _ hq
  · rw [hm]; exact Map.get_set_self ..
  · rw [hm]; exact Map.get_set_ne _ _ _ hq
  · rw [hm]; exact ⟨rfl, rfl, rfl, rfl, rfl, rfl⟩

/-- The oldest command of a slice, where it is the one asked for, is performed: `acc` is what Table 4-3 makes of it. -/
theorem Runs.of_macOp {i : Instr} {s : State} {l p op : Nat} {c : MacCmd} {acc : DWord} (hi : exec i s = .next (s.macOp l p op))
    (hr : (s.tile l).macReady p op = some c)
    (hacc : macAcc c (Map.get (s.tile l).acc 0 p) (if p = 0 then 0 else Map.get (s.tile l).acc 0 (p - 1)) = acc) :
    Runs i s (fun t => (s.tile l).macDone (t.tile l) p c acc ∧ s.otherTiles t l ∧ s.keeps t [.tiles]) := by
  have hop : s.macOp l p op = s.setTile l ((s.tile l).macDo p c) := by simp only [State.macOp, hr]
  refine Runs.of (hi.trans (congrArg _ hop)) ⟨?_, otherTiles_setTile, setTile_keeps⟩
  rw [State.tile_setTile, ← hacc]
  exact (s.tile l).macDone_macDo p c

/-- Settles O5: the five commands differ in what Table 4-3 makes of the accumulator. -/
theorem macCommands : Obligations.MacCommands := by
  refine ⟨fun l p c s h => ?_, fun l p c s h => ?_, fun l p c s h => ?_, fun l p c s h => ?_, fun l p c s h => ?_⟩ <;>
    refine Runs.of_macOp rfl h ?_ <;> have hop := Tile.op_of_macReady h <;> cases hen : c.en <;> simp [macAcc, hop, hen]

/-! ### Array banks -/

/-- What a command that reads its lane cleanly does to its bank. -/
theorem Tile.arrDone_arrDo (t : Tile) (p : Nat) (c : ArrCmd) :
    t.arrDone (t.arrDo p c (laneOf (Map.get t.banks 0 (8192 * p + c.addr)) c.lane)) p c (Map.get t.banks 0 (8192 * p + c.addr))
      (putLane (Map.get t.banks 0 (8192 * p + c.addr)) c.lane
        (laneAfter c.op (laneOf (Map.get t.banks 0 (8192 * p + c.addr)) c.lane) c.data c.en)) := by
  generalize hw : Map.get t.banks 0 (8192 * p + c.addr) = w
  generalize hu : ({ t with
    banks := Map.set t.banks (8192 * p + c.addr) (putLane w c.lane (laneAfter c.op (laneOf w c.lane) c.data c.en))
    bankQ := Map.set t.bankQ p (Map.get t.bankQ [] p).tail
    corrBanks := if (Map.get t.bankQ [] p).tail.isEmpty then t.corrBanks.filter (fun b => decide (b ≠ p)) else t.corrBanks } : Tile) = u
  have hdo : t.arrDo p c (laneOf w c.lane) = u.deliverIf c.rdv c.rd c.ident (laneOf w c.lane) := by rw [← hu, ← hw]; rfl
  have hres := Tile.delivered_deliverIf (t := t) (u := u) (by rw [← hu]) c.rdv c.rd c.ident (laneOf w c.lane)
  obtain ⟨m, hm⟩ := u.deliverIf_eq c.rdv c.rd c.ident (laneOf w c.lane)
  rw [hdo]
  refine ⟨?_, fun k hk => ?_, ?_, fun q hq => ?_, hres, ?_⟩
  · rw [hm, ← hu]; exact Map.get_set_self ..
  · rw [hm, ← hu]; exact Map.get_set_ne _ _ _ hk
  · rw [hm, ← hu]; exact Map.get_set_self ..
  · rw [hm, ← hu]; exact Map.get_set_ne _ _ _ hq
  · rw [hm, ← hu]; exact ⟨rfl, rfl, rfl, rfl, rfl, rfl⟩

theorem State.arrOp_clean {s : State} {l p op : Nat} {c : ArrCmd} {r : List ArrCmd}
    (hq : Map.get (s.tile l).bankQ [] p = c :: r) (hop : c.op = op) (hs : (s.tile l).spillFirst p = false) :
    s.arrOp l p op .clean =
      s.setTile l ((s.tile l).arrDo p c (laneOf (Map.get (s.tile l).banks 0 (8192 * p + c.addr)) c.lane)) := by
  simp [State.arrOp, hq, hop, hs]

/-- The oldest command of a bank, where it is the one asked for and nothing of a higher rank waits, is performed. -/
theorem Runs.of_arrOp {i : Instr} {s : State} {l p op : Nat} {c : ArrCmd} {r : List ArrCmd} {v : Word}
    (hi : exec i s = .next (s.arrOp l p op .clean)) (hq : Map.get (s.tile l).bankQ [] p = c :: r) (hop : c.op = op)
    (hs : (s.tile l).spillFirst p = false)
    (hv : laneAfter op (laneOf (Map.get (s.tile l).banks 0 (8192 * p + c.addr)) c.lane) c.data c.en = v) :
    Runs i s (fun t => (s.tile l).arrDone (t.tile l) p c (Map.get (s.tile l).banks 0 (8192 * p + c.addr))
      (putLane (Map.get (s.tile l).banks 0 (8192 * p + c.addr)) c.lane v) ∧ s.otherTiles t l ∧ s.keeps t [.tiles]) := by
  refine Runs.of (hi.trans (congrArg _ (State.arrOp_clean hq hop hs))) ⟨?_, otherTiles_setTile, setTile_keeps⟩
  rw [State.tile_setTile, ← hv, ← hop]
  exact (s.tile l).arrDone_arrDo p c

/-- Settles O7: the four commands differ in what Table 4-6 makes of the lane. -/
theorem arrayCommands : Obligations.ArrayCommands := by
  refine ⟨fun l p c r s hq hop hs => ?_, fun l p c r s hq hop hs => ?_, fun l p c r s hq hop hs => ?_,
    fun l p c r s hq hop hs => ?_⟩ <;>
    refine Runs.of_arrOp rfl hq hop hs ?_ <;> cases hen : c.en <;> simp [laneAfter]

/-! ### The scrubber (R140, R145) -/

section
variable {s : State} {l : TileId} {p : Lane16}

theorem execArrayScrub_of_idle (himg : (s.tile l).hasImg = true) (hb : (s.ltile l).bound = true)
    (hq : Map.get (s.tile l).bankQ [] p = []) (hs : (s.tile l).spillFirst p = false) :
    execArrayScrub l p .clean s = .next (s.setTile l { s.tile l with
      scrubAt := Map.set (s.tile l).scrubAt p ((Map.get (s.tile l).scrubAt 0 p + 1) % 8192)
      scrubbed := if (s.tile l).inEcyc then addCause p.val (s.tile l).scrubbed else (s.tile l).scrubbed }) ∧
    execArrayScrub l p .single s = .next (s.setTile l ({ s.tile l with
      scrubAt := Map.set (s.tile l).scrubAt p ((Map.get (s.tile l).scrubAt 0 p + 1) % 8192)
      scrubbed := if (s.tile l).inEcyc then addCause p.val (s.tile l).scrubbed else (s.tile l).scrubbed }.countCe p)) := by
  constructor <;> simp [execArrayScrub, himg, hb, hq, hs]

theorem execArrayScrub_of_busy (h : Map.get (s.tile l).bankQ [] p ≠ [] ∨ (s.tile l).spillFirst p = true) (e : ErrFound) :
    execArrayScrub l p e s = .next s := by
  refine if_pos ?_
  rcases h with h | h <;> simp [h]

end

theorem mem_insertBy_self (lt : Nat → Nat → Bool) (x : Nat) (xs : List Nat) : x ∈ insertBy lt x xs := by
  induction xs with
  | nil => exact List.mem_singleton.2 rfl
  | cons y ys ih =>
    rw [insertBy]
    split
    · exact List.mem_cons_of_mem _ ih
    · exact List.mem_cons_self

theorem mem_addCause (a : Nat) (xs : List Nat) : a ∈ addCause a xs := by
  unfold addCause
  split
  · assumption
  · exact mem_insertBy_self ..

/-! ### Accesses of a spill (R102, R105, R107) -/

section
variable {s : State} {l : TileId} {sp : Spill}

theorem execStackSpillAccess_of_write (hsp : (s.tile l).spill = some sp) (hf : sp.fill = false) (e : ErrFound) (b b' : Bool) :
    execStackSpillAccess l e b b' s = .next (s.setTile l ((s.tile l).spillDone sp)) := by
  have hd : ((s.tile l).spillDone sp).dfault = (s.tile l).dfault := rfl
  simp [execStackSpillAccess, hsp, hf, hd]

/-- A fill read that finds no error, where what it delivers enters no double fault. -/
theorem execStackSpillAccess_of_fill (hsp : (s.tile l).spill = some sp) (hf : sp.fill = true) {b b' : Bool} {u : Tile}
    (hu : (s.tile l).fillDone sp ((s.tile l).spillWord sp.word) b b' = u) (hd : u.dfault = (s.tile l).dfault) :
    execStackSpillAccess l .clean b b' s = .next (s.setTile l u) := by
  simp [execStackSpillAccess, hsp, hf, hu, hd]

end

theorem Tile.fillDone_of_good {t : Tile} {sp : Spill} {w : DWord} (hp : frameParOk w = true) (ha : sp.after = .nothing) (b : Bool) :
    t.fillDone sp w false b = { t with stack := t.stack ++ [Frame.decode w], spill := none } := by
  simp [Tile.fillDone, hp, ha]

theorem Tile.fillDone_of_bad {t : Tile} {sp : Spill} (hv : t.tvecValid = true) (hs : t.sp + 1 < t.cap) (w : DWord) :
    t.fillDone sp w true false =
      { Tile.push { t with stack := sp.undo, sp := t.sp + 1, spill := none, stepNo := sp.step }
          { kind := .exc, addr := (sp.step + 1) % 2048, code := 0, cause := 5 } with
        nextA := some t.tvec, fetched := none, excCause := 5, excCode := 0, excStep := sp.step, excSeen := true } := by
  have hexc := Tile.takeExc_eq (t := { t with stack := sp.undo, sp := t.sp + 1, spill := none, stepNo := sp.step })
    hv hs (sp.step + 1) 5 0
  simp only [Tile.fillDone, Bool.true_or, if_true, Tile.fillFails, hexc]
  simp [Tile.tvec]

/-- Settles O8: each access is a change of its tile. -/
theorem scrubAndSpill : Obligations.ScrubAndSpill := by
  refine ⟨fun l p s himg hb hq hs => ?_, fun l p s himg hb hq hs => ?_, fun l p e s h => ?_, fun l sp f e b b' s hsp hf hfr => ?_,
    fun l sp b s hsp hf ha hp => ?_, fun l sp s hsp hf hv hcap => ?_⟩
  · refine Runs.of (execArrayScrub_of_idle himg hb hq hs).1 ?_
    refine ⟨?_, fun h => ?_, ?_⟩
    · simp
    · simp [h, mem_addCause]
    · simp [setTile_keeps]
  · refine Runs.of (execArrayScrub_of_idle himg hb hq hs).2 ?_
    simp [Tile.countCe, setTile_keeps]
  · exact Runs.of (execArrayScrub_of_busy h e) rfl
  · refine Runs.of (execStackSpillAccess_of_write hsp hf e b b') ?_
    simp only [State.tile_setTile, Tile.spillDone, hfr, Map.get_set_self, true_and]
    exact ⟨fun k hk => Map.get_set_ne _ _ _ hk, otherTiles_setTile, setTile_keeps⟩
  · refine Runs.of (execStackSpillAccess_of_fill hsp hf (Tile.fillDone_of_good hp ha b) rfl) ?_
    simp [setTile_keeps]
  · refine Runs.of (execStackSpillAccess_of_fill hsp hf (Tile.fillDone_of_bad hv hcap _) rfl) ?_
    simp [setTile_keeps]
    rfl

end Sys2Proof.Machine
end

section
/-!
PROOF. Products, lanes and stack frames as values (R105, R125, Table 3-8).
-/
namespace Sys2Proof.Machine

/-! ### Products (R125) -/

theorem fld_lt (w lsb width : Nat) : fld w lsb width < 2 ^ width := Nat.mod_lt _ (Nat.two_pow_pos width)

theorem macOperand_unsigned (v : Nat) : macOperand v false = (v : Int) := rfl

theorem macOperand_signed {v : Nat} (h : v < 2 ^ 27) : macOperand v true = (BitVec.ofNat 27 v).toInt := by
  have htoNat : (BitVec.ofNat 27 v).toNat = v := Nat.mod_eq_of_lt h
  rw [BitVec.toInt_eq_toNat_cond, htoNat, macOperand]
  simp only [Bool.true_and, decide_eq_true_eq]
  split <;> split <;> omega

theorem macProd_toNat_of_unsigned {w : Nat} (ha : bit w 46 = 0) (hb : bit w 39 = 0) (win : DWord) :
    (macProd w win).toNat = fld win.toNat (fld w 47 6) 27 * fld win.toNat (fld w 40 6) 27 := by
  have h1 := fld_lt win.toNat (fld w 47 6) 27
  have h2 := fld_lt win.toNat (fld w 40 6) 27
  have hlt : fld win.toNat (fld w 47 6) 27 * fld win.toNat (fld w 40 6) 27 < 2 ^ 64 :=
    Nat.lt_of_lt_of_le (Nat.mul_lt_mul'' h1 h2) (by decide)
  simp only [macProd, ha, hb, decide_false, macOperand_unsigned, ← Int.natCast_mul, Nat.zero_ne_one]
  rw [BitVec.ofInt_natCast, BitVec.toNat_ofNat, Nat.mod_eq_of_lt hlt]

/-! ### Lanes (chapter 04) -/

theorem laneOf_getLsbD (w : DWord) (i j : Nat) : (laneOf w i).getLsbD j = (decide (j < 32) && w.getLsbD (32 * i + j)) := by
  rw [laneOf, BitVec.getLsbD_ofNat, Nat.testBit_shiftRight]
  rfl

theorem putLane_getLsbD (w : DWord) (i : Nat) (v : Word) (j : Nat) : (putLane w i v).getLsbD j = (decide (j < 64) &&
    if j < 32 * i then w.getLsbD j else if j < 32 * i + 32 then v.getLsbD (j - 32 * i) else w.getLsbD j) := by
  rw [putLane, BitVec.getLsbD_ofNat, setFld_testBit]
  rfl

theorem laneOf_putLane_self (w : DWord) {i : Nat} (h : i < 2) (v : Word) : laneOf (putLane w i v) i = v := by
  refine BitVec.eq_of_getLsbD_eq fun j hj => ?_
  rw [laneOf_getLsbD, putLane_getLsbD, if_neg (by omega), if_pos (by omega), Nat.add_sub_cancel_left]
  have hlt : 32 * i + j < 64 := by omega
  simp [hj, hlt]

theorem laneOf_putLane_other (w : DWord) {i : Nat} (h : i < 2) (v : Word) : laneOf (putLane w i v) (1 - i) = laneOf w (1 - i) := by
  refine BitVec.eq_of_getLsbD_eq fun j hj => ?_
  have hlt : 32 * (1 - i) + j < 64 := by omega
  rw [laneOf_getLsbD, laneOf_getLsbD, putLane_getLsbD, decide_eq_true hlt, Bool.true_and]
  by_cases hlow : 32 * (1 - i) + j < 32 * i
  · rw [if_pos hlow]
  · rw [if_neg hlow, if_neg (by omega)]

theorem putLane_laneOf (w : DWord) (i : Nat) : putLane w i (laneOf w i) = w := by
  refine BitVec.eq_of_getLsbD_eq fun j hj => ?_
  rw [putLane_getLsbD, laneOf_getLsbD, decide_eq_true hj, Bool.true_and]
  split_ifs with h1 h2
  · rfl
  · have hlt : j - 32 * i < 32 := by omega
    rw [decide_eq_true hlt, Bool.true_and]
    congr 1
    omega
  · rfl

/-! ### Stack frames (Table 3-8, R105) -/

/-- The two bits of a frame's kind. -/
def FrameKind.code : FrameKind → Nat
  | .none => 0 | .loop => 1 | .call => 2 | .exc => 3

theorem FrameKind.code_lt (k : FrameKind) : k.code < 4 := by cases k <;> decide

/-- The 63 bits of a frame under its parity bit. -/
def Frame.payload (f : Frame) : Nat :=
  f.kind.code + f.addr % 2048 * 2 ^ 2 + f.last % 2048 * 2 ^ 13 + f.rem % 4096 * 2 ^ 24 + f.code % 256 * 2 ^ 36
    + f.cause % 16 * 2 ^ 44 + f.resv % 2 ^ 15 * 2 ^ 48

/-- How many of a number's low `n` bits are set. -/
def onesBelow (v n : Nat) : Nat := ((List.range n).filter (fun i => v.testBit i)).length

theorem Frame.encode_eq (f : Frame) : f.encode = BitVec.ofNat 64 (f.payload + onesBelow f.payload 63 % 2 * 2 ^ 63) := by
  unfold Frame.encode Frame.payload
  cases f.kind <;> rfl

theorem Frame.payload_lt (f : Frame) : f.payload < 2 ^ 63 := by
  have hk := f.kind.code_lt
  unfold Frame.payload
  omega

theorem Frame.encode_toNat (f : Frame) : f.encode.toNat = f.payload + onesBelow f.payload 63 % 2 * 2 ^ 63 := by
  have hp := f.payload_lt
  rw [Frame.encode_eq, BitVec.toNat_ofNat, Nat.mod_eq_of_lt]
  omega

theorem Frame.encode_testBit (f : Frame) {i : Nat} (h : i < 63) : f.encode.toNat.testBit i = f.payload.testBit i := by
  rw [f.encode_toNat, Nat.add_comm, Nat.mul_comm, Nat.testBit_two_pow_mul_add _ f.payload_lt, if_pos h]

theorem Frame.encode_testBit_parity (f : Frame) : f.encode.toNat.testBit 63 = decide (onesBelow f.payload 63 % 2 = 1) := by
  rw [f.encode_toNat, Nat.add_comm, Nat.mul_comm, Nat.testBit_two_pow_mul_add _ f.payload_lt, if_neg (by decide), Nat.sub_self,
    Nat.testBit_zero, Nat.mod_mod]

theorem onesBelow_succ (v n : Nat) : onesBelow v (n + 1) = onesBelow v n + (v.testBit n).toNat := by
  rw [onesBelow, List.range_succ, List.filter_append, List.length_append, List.filter_singleton]
  cases v.testBit n <;> rfl

theorem onesBelow_congr {v w n : Nat} (h : ∀ i, i < n → v.testBit i = w.testBit i) : onesBelow v n = onesBelow w n :=
  congrArg List.length (List.filter_congr fun i hi => h i (List.mem_range.1 hi))

theorem frameParOk_iff (w : DWord) : frameParOk w = true ↔ onesBelow w.toNat 64 % 2 = 0 := decide_eq_true_iff

/-- The parity bit makes the number of ones even. -/
theorem Frame.frameParOk_encode (f : Frame) : frameParOk f.encode = true := by
  rw [frameParOk_iff, onesBelow_succ, onesBelow_congr fun i hi => f.encode_testBit hi, f.encode_testBit_parity]
  generalize onesBelow f.payload 63 = n
  rcases Nat.mod_two_eq_zero_or_one n with h | h
  · simp [h]
  · simp [h]
    omega

/-- A field of the payload, read back from the 64-bit form. -/
theorem Frame.fld_encode (f : Frame) {lsb width : Nat} (h : lsb + width ≤ 63) :
    fld f.encode.toNat lsb width = fld f.payload lsb width := by
  refine Nat.eq_of_testBit_eq fun i => ?_
  rw [fld_testBit, fld_testBit]
  by_cases hi : i < width
  · rw [f.encode_testBit (by omega)]
  · simp [hi]

theorem fld_eq_div_mod (w lsb width : Nat) : fld w lsb width = w / 2 ^ lsb % 2 ^ width := by
  rw [fld, Nat.shiftRight_eq_div_pow]

section
variable (f : Frame)

theorem Frame.fld_kind : fld f.encode.toNat 0 2 = f.kind.code := by
  have hk := f.kind.code_lt
  rw [f.fld_encode (by decide), fld_eq_div_mod, Frame.payload]
  omega
theorem Frame.fld_addr : fld f.encode.toNat 2 11 = f.addr % 2048 := by
  have hk := f.kind.code_lt
  rw [f.fld_encode (by decide), fld_eq_div_mod, Frame.payload]
  omega
theorem Frame.fld_last : fld f.encode.toNat 13 11 = f.last % 2048 := by
  have hk := f.kind.code_lt
  rw [f.fld_encode (by decide), fld_eq_div_mod, Frame.payload]
  omega
theorem Frame.fld_rem : fld f.encode.toNat 24 12 = f.rem % 4096 := by
  have hk := f.kind.code_lt
  rw [f.fld_encode (by decide), fld_eq_div_mod, Frame.payload]
  omega
theorem Frame.fld_code : fld f.encode.toNat 36 8 = f.code % 256 := by
  have hk := f.kind.code_lt
  rw [f.fld_encode (by decide), fld_eq_div_mod, Frame.payload]
  omega
theorem Frame.fld_cause : fld f.encode.toNat 44 4 = f.cause % 16 := by
  have hk := f.kind.code_lt
  rw [f.fld_encode (by decide), fld_eq_div_mod, Frame.payload]
  omega
theorem Frame.fld_resv : fld f.encode.toNat 48 15 = f.resv % 2 ^ 15 := by
  have hk := f.kind.code_lt
  rw [f.fld_encode (by decide), fld_eq_div_mod, Frame.payload]
  omega

theorem Frame.decode_encode_kind : (Frame.decode f.encode).kind = f.kind := by
  simp only [Frame.decode, f.fld_kind]
  cases f.kind <;> rfl

theorem Frame.decode_encode_rem (hk : f.kind = .loop) (h1 : 1 ≤ f.rem) (h : f.rem ≤ 4096) : (Frame.decode f.encode).rem = f.rem := by
  simp only [Frame.decode, f.fld_kind, f.fld_rem, hk, FrameKind.code]
  by_cases hr : f.rem = 4096
  · simp [hr]
  · have hne : f.rem % 4096 ≠ 0 := by omega
    simp [hne]
    omega

end

/-- Settles O6: the product is exact below 2^54, a lane is 32 of the 64 bits, and the fields of a frame lie beside each other under
its parity bit. -/
theorem tileValues : Obligations.TileValues := by
  refine ⟨fun w win => ⟨fun ha hb => macProd_toNat_of_unsigned ha hb win,
    fun v hv => ⟨macOperand_signed hv, macOperand_unsigned v⟩, rfl⟩,
    fun w v i hi => ⟨laneOf_putLane_self w hi v, laneOf_putLane_other w hi v, putLane_laneOf w i⟩,
    fun f ha hl hr hc hcause hresv => ?_⟩
  refine ⟨f.decode_encode_kind, ?_, ?_, fun hk h1 => f.decode_encode_rem hk h1 hr, ?_, ?_, ?_, f.frameParOk_encode⟩
  · exact f.fld_addr.trans (Nat.mod_eq_of_lt ha)
  · exact f.fld_last.trans (Nat.mod_eq_of_lt hl)
  · exact f.fld_code.trans (Nat.mod_eq_of_lt hc)
  · exact f.fld_cause.trans (Nat.mod_eq_of_lt hcause)
  · exact f.fld_resv.trans (Nat.mod_eq_of_lt hresv)

end Sys2Proof.Machine
end

section
/-!
PROOF. Slots and credits between tiles, and the delivery of taps and trap events (R60 to R64, R178, R179, R221).
-/
namespace Sys2Proof.Machine

/-! ### Slots and credits that arrive -/

/-- The state once slot `p` has left the exchange. -/
def State.withoutSlot (s : State) (p : Slot) : State :=
  { s with noc := { s.noc with slots := removeFirst (fun q => q = p) s.noc.slots } }

/-- The arrival word of a tile that slot `p` fills. -/
def Tile.fillWord (t : Tile) (p : Slot) : Tile :=
  let k := 16 * (p.ecyc % 2) + p.word
  let a := Map.get t.arrive {} k
  { t with arrive := Map.set t.arrive k { a with full := true, data := p.data, entered := a.entered + 1 } }

/-- An undamaged slot that comes first leaves the exchange and meets its fate at its destination. -/
theorem execSlotArrive_eq {s : State} {p : Slot} {l : Nat} (htile : s.tileOf p.ten p.dst = some l)
    (hfirst : comesFirst slotWay p s.noc.slots = true) : execSlotArrive p false s = .next (match s.slotFate l p with
      | .dropped => (s.withoutSlot p).dropPkt
      | .late => (s.withoutSlot p).hazard p.ten p.dst 0x14 (s.tile l).stepNo p.word p.occ p.ecyc
      | .entered => (s.withoutSlot p).setTile l ((s.tile l).fillWord p)
      | .pathFault => (s.withoutSlot p).pathFault p.ten l p.ecyc) := by
  have htile' : (s.withoutSlot p).tileOf p.ten p.dst = some l := htile
  unfold execSlotArrive
  simp only [hfirst, Bool.true_eq_false, if_false]
  change (match (s.withoutSlot p).tileOf p.ten p.dst with
    | none => _
    | some l => _) = _
  rw [htile']
  change (match s.slotFate l p with
    | .dropped => _
    | .late => _
    | .entered => _
    | .pathFault => _) = _
  cases s.slotFate l p <;> rfl

theorem execCreditArrive_eq {s : State} {ten : TenId} {src dst : TileId} {word : Lane16} {occ ecyc l : Nat} {c : Credit}
    (hc : c = { ten := ten, src := src, dst := dst, word := word, occ := occ, ecyc := ecyc })
    (htile : s.tileOf ten src = some l) (hfirst : comesFirst creditWay c s.noc.credits = true) :
    execCreditArrive ten src dst word occ ecyc s =
      .next (State.updTile { s with noc := { s.noc with credits := removeFirst (fun d => d = c) s.noc.credits } } l
        (fun t => { t with credits := t.credits ++ [c] })) := by
  subst hc
  simp only [execCreditArrive, hfirst, Bool.true_eq_false, if_false]
  split
  case h_1 m hm => rw [Option.some.inj (hm.symm.trans htile)]
  case h_2 hm => cases hm.symm.trans htile

/-! ### Slots that leave -/

section
variable {s : State} {l : TileId} {i : Nat} {p : Slot}

theorem execSendSlotDepart_local (h : s.mayDepart l i = some p) (hr : p.remote = false) : execSendSlotDepart l i s =
    .next { s.updTile l (fun t => { t with sendQ := t.sendQ.eraseIdx i
                                           credits := removeFirst (fun c => c = slotCredit p) t.credits }) with
      noc := { s.noc with slots := s.noc.slots ++ [p] } } := by
  simp only [execSendSlotDepart, h, hr, Bool.false_eq_true, if_false]
  rfl

theorem execSendSlotDepart_remote {k : Nat} (h : s.mayDepart l i = some p) (hr : p.remote = true)
    (hk : (s.ten p.ten).img.bind (fun im => im.linkFor p.dmod p.dst) = some k) : execSendSlotDepart l i s =
    .next { s.updTile l (fun t => { t with sendQ := t.sendQ.eraseIdx i }) with
      lat := { s.lat with slotOut := s.lat.slotOut ++ [(k, p)] } } := by
  simp only [execSendSlotDepart, h, hr, if_true]
  split
  case h_1 j hj => rw [Option.some.inj (hj.symm.trans hk)]; rfl
  case h_2 hj => cases hj.symm.trans hk

theorem execSendSlotDepart_lost (h : s.mayDepart l i = none) (hh : (s.tile l).halt = none) (hq : (s.tile l).sendQ[i]? = some p)
    (hl : s.creditLost l p = true) :
    execSendSlotDepart l i s = .next (s.updTile l (fun t => { t with sendQ := t.sendQ.eraseIdx i })) := by
  simp [execSendSlotDepart, h, hh, hq, hl]

end

/-! ### Taps and trap events -/

/-- A vector after taps have been delivered to it, one after the other (R178). -/
theorem getLsbD_foldl_tap {n : Nat} (hn : n < 4096) (taps : List Nat) (v : BitVec 4096) :
    (taps.foldl (fun x m => x ||| BitVec.ofNat 4096 (2 ^ m)) v).getLsbD n = (v.getLsbD n || taps.contains n) := by
  induction taps generalizing v with
  | nil => simp
  | cons m ms ih =>
    rw [List.foldl_cons, ih, BitVec.getLsbD_or, BitVec.getLsbD_ofNat, decide_eq_true hn, Bool.true_and, Nat.testBit_two_pow,
      List.contains_cons, Bool.or_assoc,
      Bool.beq_eq_decide_eq, decide_eq_decide.2 (eq_comm (a := m) (b := n))]

section
variable {s : State} {l : TileId}

theorem execTapsPacket_of_replay (h : (s.ten (s.ltile l).ten).replaying = true) :
    execTapsPacket l s = .next (s.setTile l { s.tile l with taps := [] }) := if_pos h

theorem execTrapEvt_of_replay (h : (s.ten (s.ltile l).ten).replaying = true) :
    execTrapEvt l s = .next (s.setTile l { s.tile l with trapEv := [] }) := if_pos h

/-- The tap vectors of a tenant once the taps of tile `t` have joined that of its ecycle. -/
def Tenant.takeTaps (v : Tenant) (t : Tile) : Tenant :=
  let k := t.ecyc % 2
  { v with tapVec := Map.set v.tapVec k (t.taps.foldl (fun x n => x ||| BitVec.ofNat 4096 (2 ^ n)) (Map.get v.tapVec 0 k)) }

/-- The trap events of a tenant once those of tile `t` have joined the list of its ecycle. -/
def Tenant.takeTraps (v : Tenant) (t : Tile) : Tenant :=
  { v with trapCodes := Map.set v.trapCodes (t.ecyc % 2) (Map.get v.trapCodes [] (t.ecyc % 2) ++ t.trapEv) }

theorem execTapsPacket_of_run (h : (s.ten (s.ltile l).ten).replaying = false) : execTapsPacket l s =
    .next ((s.setTile l { s.tile l with taps := [] }).updTen (s.ltile l).ten (fun v => v.takeTaps (s.tile l))) :=
  if_neg (ne_true_of_eq_false h)

theorem execTrapEvt_of_run (h : (s.ten (s.ltile l).ten).replaying = false) : execTrapEvt l s =
    .next ((s.setTile l { s.tile l with trapEv := [] }).updTen (s.ltile l).ten (fun v => v.takeTraps (s.tile l))) :=
  if_neg (ne_true_of_eq_false h)

end

theorem withoutSlot_keeps {s : State} {p : Slot} : s.keeps (s.withoutSlot p) [.noc] := by
  simp [State.keeps_iff, State.withoutSlot]

/-- Settles O9: a slot's fate decides what its arrival does, and each delivery touches its tile and its tenant. -/
theorem exchange : Obligations.Exchange := by
  refine ⟨⟨?_, ?_, ?_, ?_, ?_, ?_, ?_⟩, ?_, ?_, ?_⟩
  · intro p l s ht hf h
    have hexec := execSlotArrive_eq ht hf
    rw [h] at hexec
    refine Runs.of hexec ?_
    simp only [State.tile_setTile, Tile.fillWord, Map.get_set_self, true_and]
    exact ⟨fun j hj => Map.get_set_ne _ _ _ hj, rfl, otherTiles_trans (otherTiles_of_tiles rfl) otherTiles_setTile,
      keeps_trans (keeps_mono withoutSlot_keeps (by decide)) (keeps_mono setTile_keeps (by decide))⟩
  · intro p l s ht hf h
    have hexec := execSlotArrive_eq ht hf
    rw [h] at hexec
    exact Runs.of hexec ⟨hazard_tiles .., keeps_trans (keeps_mono withoutSlot_keeps (by decide)) (keeps_mono hazard_keeps (by decide))⟩
  · intro p l s ht hf h
    have hexec := execSlotArrive_eq ht hf
    rw [h] at hexec
    exact Runs.of hexec ⟨rfl, rfl, by simp [State.keeps_iff, State.withoutSlot, State.dropPkt]⟩
  · intro ten src dst word occ ecyc l s ht hf
    refine Runs.of (execCreditArrive_eq rfl ht hf) ?_
    rw [State.tile_updTile]
    exact ⟨rfl, rfl, rfl, otherTiles_trans (otherTiles_of_tiles rfl) otherTiles_updTile, by simp [State.keeps_iff]⟩
  · intro l i p s h hr
    refine Runs.of (execSendSlotDepart_local h hr) ?_
    simp only [State.tile, State.updTile, State.setTile, Map.get_set_self, true_and]
    exact ⟨otherTiles_of_set rfl, by simp [State.keeps_iff]⟩
  · intro l i p s h hh hq hl
    refine Runs.of (execSendSlotDepart_lost h hh hq hl) ?_
    simp [updTile_keeps]
  · intro l i k p s h hr hk
    refine Runs.of (execSendSlotDepart_remote h hr hk) ?_
    simp only [State.tile, State.updTile, State.setTile, Map.get_set_self, true_and]
    exact ⟨otherTiles_of_set rfl, by simp [State.keeps_iff]⟩
  · intro l s h
    refine Runs.of (execTapsPacket_of_run h) ?_
    refine ⟨fun n hn => ?_, ?_, ?_, ?_, ?_, ?_, ?_⟩
    · simp only [State.ten_updTen, Tenant.takeTaps, Map.get_set_self, getLsbD_foldl_tap hn]
      rfl
    · simp [State.tile, State.updTen, State.setTen, State.setTile]
    · simp [State.tile, State.updTen, State.setTen, State.setTile]
    · rw [State.ten_updTen]; rfl
    · exact otherTiles_of_set rfl
    · exact otherTenants_of_set rfl
    · exact keeps_trans (keeps_mono setTile_keeps (by decide)) (keeps_mono updTen_keeps (by decide))
  · intro l s h
    refine Runs.of (execTrapEvt_of_run h) ?_
    refine ⟨?_, ?_, ?_, ?_, ?_, ?_, ?_⟩
    · simp only [State.ten_updTen, Tenant.takeTraps, Map.get_set_self]
      rfl
    · simp [State.tile, State.updTen, State.setTen, State.setTile]
    · simp [State.tile, State.updTen, State.setTen, State.setTile]
    · rw [State.ten_updTen]; rfl
    · exact otherTiles_of_set rfl
    · exact otherTenants_of_set rfl
    · exact keeps_trans (keeps_mono setTile_keeps (by decide)) (keeps_mono updTen_keeps (by decide))
  · intro l s h
    exact ⟨Runs.of (execTapsPacket_of_replay h) (by simp [setTile_keeps]),
      Runs.of (execTrapEvt_of_replay h) (by simp [setTile_keeps])⟩

end Sys2Proof.Machine
end

section
/-!
PROOF. Checkpoints and captures: the stop at the boundary, the move, the landing, and the slots (R202 to R212, R354).
-/
namespace Sys2Proof.Machine

/-! ### Shared operations -/

/-- A descriptor of a function that is up is taken up where neither refusal applies. -/
theorem State.takeUp_of_up {s : State} {d : DRef} (h : s.fnUp d.fn = true) (opc : Nat) (k : State → State) :
    s.takeUp d opc false false k = .next (k s) := by
  simp [State.takeUp, h]

theorem dsWrite_keeps {s : State} {a : Nat} {bs : List Byte} : s.keeps (s.dsWrite a bs) [.ds, .noc] := by
  simp [State.keeps_iff, State.dsWrite]

theorem poisonLine_keeps {s : State} {a z n : Nat} : s.keeps (s.poisonLine a z n) [.noc, .fm, .freeCtr] := by
  simp [State.keeps_iff, State.poisonLine, State.stagingUe, State.freshNat]

theorem completeCap_keeps {s : State} {d : DRef} {st z f e q : Nat} : s.keeps (s.completeCap d st z f e q) [.host, .fm] :=
  keeps_trans postFor_keeps (keeps_mono retire_keeps (by decide))

theorem capComplete_keeps {s : State} {r : CapRec} {st : Nat} : s.keeps (s.capComplete r st) [.host, .fm] :=
  keeps_foldl _ _ (fun _ _ => completeCap_keeps) _ s

theorem freeBytes_keeps {s : State} {a n : Nat} : s.keeps (s.freeBytes a n) [.ds, .freeCtr] := by
  induction n generalizing s a with
  | zero => exact keeps_refl
  | succ n ih => exact keeps_trans (by simp [State.keeps_iff, State.freshNat]) ih

theorem writeSlot_keeps {s : State} {x a : Nat} {v : Saved} : s.keeps (s.writeSlot x a v) [.ds, .noc, .freeCtr] :=
  keeps_trans (keeps_mono freeBytes_keeps (by decide)) (keeps_mono dsWrite_keeps (by decide))

/-- Every byte outside those stored reads as before. -/
theorem Mem.read_writeBytes_of_outside {m : Mem} {a x : Nat} {bs : List Byte} (h : x < a ∨ a + bs.length ≤ x) :
    (m.writeBytes a bs).read x = m.read x := by
  rw [Mem.read_writeBytes, if_neg (by omega)]

/-! ### Checkpoints (R209 to R212) -/

theorem mem_capInsert (q : CapEnt) (xs : List CapEnt) : q ∈ capInsert q xs := by
  induction xs with
  | nil => exact List.mem_singleton.2 rfl
  | cons x r ih =>
    rw [capInsert]
    split
    · exact List.mem_cons_self
    · exact List.mem_cons_of_mem _ ih

theorem capCkpt_keeps {s : State} {x due : Nat} : s.keeps (s.capCkpt x due) [.cap] := by
  unfold State.capCkpt
  split <;> simp [State.keeps_iff, State.capPut, State.capTake]

/-- A checkpoint that joins the queue stands there for its tenant and its boundary, alone or with a capture. -/
theorem exists_mem_capCkpt (s : State) (x due : Nat) :
    ∃ q ∈ (s.capCkpt x due).cap.queue, q.ten = x ∧ q.ckpt = true ∧ q.due = due := by
  unfold State.capCkpt
  split
  case h_1 q hq =>
    have hmatch := List.find?_some hq
    simp only [Bool.and_eq_true, decide_eq_true_eq] at hmatch
    exact ⟨_, mem_capInsert _ _, hmatch.1.1, rfl, hmatch.1.2⟩
  case h_2 => exact ⟨_, mem_capInsert _ _, rfl, rfl, rfl⟩

theorem execCheckpointDue_of_due {ten : TenId} {s : State} (hat : s.ckptAt ten (s.ten ten).done = true)
    (hadv : (s.ten ten).run.advancing = true) (hno : s.noEcycle ten = true) (hrec : (s.ten ten).recov = none)
    (hmov : (s.ten ten).moving = false) (hmode : s.dev.mode ≠ .safe) :
    execCheckpointDue ten s = .next (s.closeCkpt ten) := by
  simp [execCheckpointDue, hat, hadv, hno, hrec, hmov, hmode, State.closeFor]

theorem closeCkpt_ten (s : State) (x : Nat) : (s.closeCkpt x).ten x = { s.ten x with moving := true, jTag := (s.ten x).done } := by
  rw [State.closeCkpt, ten_of_keeps capCkpt_keeps (by decide), State.ten_updTen]

/-! ### Moves (R204 to R207) -/

theorem execCaptureMoveStart_of_room {q : CapEnt} {s : State} (hm : s.cap.moving = none) (hq : s.capHead = some q)
    (hr : s.poolRoom (s.capSize q) = true) : execCaptureMoveStart s =
      .next { s with cap := { s.cap with queue := removeFirst (fun x => x = q) s.cap.queue, moving := some q } } := by
  simp [execCaptureMoveStart, hm, hq, hr, State.capTake]

/-- The record of a HOST capture joins those that drain. -/
theorem capEffects_of_host {s : State} {q : CapEnt} (hk : q.kind = some .host) (hs : q.seq ≠ 0) (hc : q.ckpt = false)
    (bad : List BadWord) : s.capEffects q bad = s.capRecord q .host bad := by
  simp [State.capEffects, hk, hs, hc]

theorem capRecord_keeps {s : State} {q : CapEnt} {k : CapKind} {bad : List BadWord} :
    s.keeps (s.capRecord q k bad) [.cap, .sched] := by
  simp [State.keeps_iff, State.capRecord, State.askTokens]

/-- A release with no request waiting may open the boundary, and does nothing else. -/
theorem releaseMove_of_noReqs {s : State} {x : Nat} (h : (s.ten x).reqs = []) :
    s.releaseMove x = s ∨ s.releaseMove x = s.updTen x (fun v => { v with moving := false }) := by
  unfold State.releaseMove
  split
  · exact .inl rfl
  · refine .inr ?_
    simp [State.settle, h]

theorem releaseMove_frame {s : State} {x : Nat} (h : (s.ten x).reqs = []) :
    s.otherTenants (s.releaseMove x) x ∧ s.keeps (s.releaseMove x) [.tenants] := by
  rcases releaseMove_of_noReqs h with hr | hr <;> rw [hr]
  · exact ⟨fun _ _ => rfl, keeps_refl⟩
  · exact ⟨otherTenants_updTen, updTen_keeps⟩

theorem execCaptureMoveDone_of_host {q : CapEnt} {s : State} (hm : s.cap.moving = some q) (hk : q.kind = some .host)
    (hs : q.seq ≠ 0) (hc : q.ckpt = false) : execCaptureMoveDone [] s =
      .next ((State.capRecord { s with cap := { s.cap with moving := none } } q .host []).releaseMove q.ten) := by
  simp [execCaptureMoveDone, hm, hk, capEffects_of_host hk hs hc, State.hubFinds, badWords]

/-! ### Landings (R204, R207) -/

/-- A record with a line that is poisoned in the hub store is marked as a bad one. -/
def CapRec.mark (r : CapRec) (bad : Option Word) : CapRec := if bad.isSome then { r with flags := setFld r.flags 1 1 1 } else r

theorem CapRec.mark_ten (r : CapRec) (bad : Option Word) : (r.mark bad).ten = r.ten := by cases bad <;> rfl
theorem CapRec.mark_me (r : CapRec) (bad : Option Word) : (r.mark bad).me = r.me := by cases bad <;> rfl
theorem CapRec.mark_seq (r : CapRec) (bad : Option Word) : (r.mark bad).seq = r.seq := by cases bad <;> rfl

/-- The mark that a poisoned line takes along with it. -/
def State.landMark (s : State) (a size : Nat) (bad : Option Word) : State :=
  match bad with | some n => s.poisonLine a size n.toNat | none => s

theorem landMark_keeps {s : State} {a z : Nat} {bad : Option Word} :
    s.keeps (s.landMark a z bad) ([.noc, .fm] ++ if bad.isSome then [.freeCtr] else []) := by
  cases bad
  · exact keeps_refl
  · exact keeps_mono poisonLine_keeps (by simp)

section
variable {r : CapRec} {rest : List CapRec} {s : State} (hd : s.cap.draining = r :: rest)
include hd

theorem execCaptureLanded_eq {pathOk : Bool} {bad : Option Word} (hw : s.tokWaits (if r.kind.full then 0 else 5) r.tok = false)
    (hp : r.kind ≠ .safe ∨ pathOk = true) : ∃ st, execCaptureLanded pathOk bad s =
      .next (State.capComplete (((State.dsWrite { s with cap := { s.cap with draining := rest } }
        (r.base + r.slot * captureSlot r.saved.tiles.length) ((r.mark bad).bytes s.moduleId (r.mark bad).me)).landMark
          (r.base + r.slot * captureSlot r.saved.tiles.length) ((r.mark bad).bytes s.moduleId (r.mark bad).me).length bad).updTen
            (r.mark bad).ten (fun v => { v with capSeq := (r.mark bad).seq })) (r.mark bad) st) := by
  have hpath : ¬ (r.kind = .safe ∧ pathOk = false) := by
    rintro ⟨hk, hf⟩
    rcases hp with h | h
    · exact h hk
    · rw [hf] at h; cases h
  refine ⟨if (r.mark bad).bad.isEmpty && bad.isNone then stOk else stCapturedBad, ?_⟩
  unfold execCaptureLanded
  rw [hd]
  dsimp only
  rw [hw, if_neg Bool.false_ne_true, if_neg hpath]
  rfl

theorem execCaptureLanded_pathDown {bad : Option Word} (hk : r.kind = .safe) (hw : s.tokWaits 0 r.tok = false) :
    execCaptureLanded false bad s =
      .next (State.capComplete { s with cap := { s.cap with draining := rest } } r stPathDown) := by
  simp [execCaptureLanded, hd, hk, CapKind.full, hw]

end

/-- What the landing of a record leaves: its bytes in the deep store, its number with its tenant, and the rest of those that drain. -/
theorem land_effect (s : State) (rest : List CapRec) (r : CapRec) (a : Nat) (bs : List Byte) (x seq st : Nat) (bad : Option Word) :
    let t := State.capComplete (((State.dsWrite { s with cap := { s.cap with draining := rest } } a bs).landMark a bs.length bad).updTen x
      (fun v => { v with capSeq := seq })) r st
    t.cap.draining = rest ∧ t.cap.queue = s.cap.queue ∧ (t.ten x).capSeq = seq ∧ t.ds = s.ds.writeBytes a bs ∧
      (∀ y, (y < a ∨ a + bs.length ≤ y) → t.ds.read y = s.ds.read y) ∧ s.otherTenants t x ∧
      s.keeps t ([.cap, .ds, .noc, .tenants, .host, .fm] ++ if bad.isSome then [.freeCtr] else []) := by
  intro t
  generalize hu : State.dsWrite { s with cap := { s.cap with draining := rest } } a bs = u
  have hucap : u.cap.draining = rest ∧ u.cap.queue = s.cap.queue := by rw [← hu]; exact ⟨rfl, rfl⟩
  have huds : u.ds = s.ds.writeBytes a bs := by rw [← hu]; rfl
  have huten : ∀ m, u.ten m = s.ten m := fun m => by rw [← hu]; rfl
  have hsu : s.keeps u [.cap, .ds, .noc] := by rw [← hu]; simp [State.keeps_iff, State.dsWrite]
  have ht : t = State.capComplete ((u.landMark a bs.length bad).updTen x (fun v => { v with capSeq := seq })) r st := by rw [← hu]
  rw [ht]
  have huv := landMark_keeps (s := u) (a := a) (z := bs.length) (bad := bad)
  generalize u.landMark a bs.length bad = v at huv ⊢
  have hend := capComplete_keeps (s := v.updTen x (fun v => { v with capSeq := seq })) (r := r) (st := st)
  have hten := ten_of_keeps hend (by decide)
  have hcap : _ = u.cap := (hend .cap (by decide)).trans (huv .cap (by cases bad <;> simp))
  have hds : _ = u.ds := (hend .ds (by decide)).trans (huv .ds (by cases bad <;> simp))
  have hvten : ∀ m, v.ten m = s.ten m := fun m => (ten_of_keeps huv (by cases bad <;> simp) m).trans (huten m)
  rw [hcap, hds, hten, State.ten_updTen]
  refine ⟨hucap.1, hucap.2, rfl, huds, fun y hy => by rw [huds, Mem.read_writeBytes_of_outside hy], ?_, ?_⟩
  · exact otherTenants_trans (fun m _ => hvten m) (otherTenants_trans otherTenants_updTen (fun m _ => hten m))
  · refine keeps_trans (keeps_mono hsu (by simp)) (keeps_trans (keeps_mono huv ?_)
      (keeps_trans (keeps_mono updTen_keeps (by simp)) (keeps_mono hend (by simp))))
    cases bad <;> simp

/-! ### Slots (R202, R354) -/

theorem execCapRidxWrite_of_configured {by' x : TenId} {n : BitVec 16} {s : State} (h : s.dev.mode.configured = true) :
    execCapRidxWrite by' x n s = .next (s.writeCapRidx by' x n.toNat) := if_pos h

theorem execCaptureArea_of_up {d : DRef} {ten : TenId} {s : State} (h : s.fnUp d.fn = true) (off : DWord) (slots : Byte) :
    execCaptureArea d ten off slots s = .next (s.captureArea d (target d ten) off.toNat slots.toNat) := State.takeUp_of_up h _ _

theorem captureArea_of_fit {s : State} {d : DRef} {x off slots : Nat} {i : Image} (himg : (s.ten x).img = some i)
    (hq : s.cap.queue = []) (hm : s.cap.moving = none) (hal : off % 64 = 0)
    (hsz : off + slots * captureSlot (s.ten x).ntiles ≤ s.rsize x)
    (hcar : s.inCarved x (s.ten x).ntiles off (slots * captureSlot (s.ten x).ntiles) = false)
    (hov : overlaps off (slots * captureSlot (s.ten x).ntiles) i.off i.len = false)
    (hmem : i.memRanges.any (fun m => overlaps off (slots * captureSlot (s.ten x).ntiles) m.1 m.2) = false) :
    s.captureArea d x off slots = (s.updTen x (fun v => { v with capOff := off, capSlots := slots })).complete d 0x14 stOk
      (captureSlot (s.ten x).ntiles) 0 := by
  simp only [State.captureArea, himg, hq, hm, hal, Nat.not_lt.2 hsz, hcar, hov, hmem]
  simp

/-! ### Checkpoints that land (R211) -/

/-- On one module a checkpoint that lands is the newest and the only one; the log and the journal before it go. -/
def Tenant.landCkpt (v : Tenant) (c : Saved) (rest : List (Saved × Nat)) : Tenant :=
  { v with
    ckptSlot := if v.newest.isSome then 1 - v.ckptSlot else 0
    ckptMoved := rest
    newest := some c
    older := none
    log := v.log.filter (fun r => decide (c.k ≤ r.ecyc))
    journal := v.journal.filter (fun j => decide (c.k ≤ j.k)) }

theorem execCheckpointLanded_of_single {ten : TenId} {c : Saved} {tok : Nat} {rest : List (Saved × Nat)} {s : State}
    (hm : (s.ten ten).ckptMoved = (c, tok) :: rest) (hw : s.tokWaits 1 tok = false) (hs : (s.ten ten).spans = false) :
    ∃ a, execCheckpointLanded ten none s = .next ((s.writeSlot ten a c).setTen ten ((s.ten ten).landCkpt c rest)) := by
  refine ⟨s.ckptBase ten (if (s.ten ten).newest.isSome then 1 - (s.ten ten).ckptSlot else 0), ?_⟩
  unfold execCheckpointLanded
  dsimp only
  rw [hm]
  dsimp only
  rw [hw, if_neg Bool.false_ne_true]
  generalize hu : s.writeSlot ten _ c = u
  have hten : u.ten ten = s.ten ten := by rw [← hu]; exact ten_of_keeps writeSlot_keeps (by decide) _
  have hstay : ∀ f : Tenant → Tenant, (f (s.ten ten)).spans = false → (u.updTen ten f).sendHeldBnd ten = u.setTen ten (f (s.ten ten)) := by
    intro f hf
    unfold State.sendHeldBnd State.updTen
    rw [hten, State.ten_setTen]
    dsimp only
    rw [hf]
    rfl
  rw [hstay _ (by exact hs), hs]
  rfl

/-- Settles O11: each event of a capture is a few updates of the capture unit, its tenant and the deep store. -/
theorem captures : Obligations.Captures := by
  refine ⟨?_, ⟨?_, ?_, ?_, ?_⟩, ⟨?_, ?_, ?_, ?_⟩, ?_⟩
  · intro ten s hat hadv hno hrec hmov hmode
    refine Runs.of (execCheckpointDue_of_due hat hadv hno hrec hmov hmode) ?_
    rw [closeCkpt_ten]
    refine ⟨rfl, rfl, rfl, rfl, exists_mem_capCkpt _ _ _, ?_, ?_⟩
    · exact otherTenants_trans otherTenants_updTen (fun m _ => ten_of_keeps capCkpt_keeps (by decide) m)
    · exact keeps_trans (keeps_mono updTen_keeps (by decide)) (keeps_mono capCkpt_keeps (by decide))
  · intro q s hm hq hr
    exact Runs.of (execCaptureMoveStart_of_room hm hq hr) ⟨rfl, rfl, rfl, by simp [State.keeps_iff]⟩
  · intro q s hm hk hs hc hreqs
    refine Runs.of (execCaptureMoveDone_of_host hm hk hs hc) ?_
    generalize hrec : State.capRecord { s with cap := { s.cap with moving := none } } q .host [] = u
    have hkeep : s.keeps u [.cap, .sched] := by
      rw [← hrec]
      exact keeps_trans (by simp [State.keeps_iff]) capRecord_keeps
    have hten := ten_of_keeps hkeep (by decide)
    obtain ⟨hother, hrel⟩ := releaseMove_frame (s := u) (x := q.ten) (by rw [hten, hreqs])
    have hcap : (u.releaseMove q.ten).cap = u.cap := hrel .cap (by decide)
    rw [hcap, ← hrec]
    refine ⟨rfl, rfl, ⟨_, rfl, rfl, rfl, rfl, rfl, rfl⟩, ?_, ?_⟩
    · rw [hrec]
      exact otherTenants_trans (fun m _ => hten m) hother
    · rw [hrec]
      exact keeps_trans (keeps_mono hkeep (by decide)) (keeps_mono hrel (by decide))
  · intro r rest bad pathOk s hd hw hp a bs
    obtain ⟨st, hexec⟩ := execCaptureLanded_eq (bad := bad) hd hw hp
    rw [r.mark_ten, r.mark_me, r.mark_seq] at hexec
    exact Runs.of hexec (land_effect s rest (r.mark bad) a bs r.ten r.seq st bad)
  · intro r rest bad s hd hk hw
    refine Runs.of (execCaptureLanded_pathDown hd hk hw) ?_
    have hcap : (State.capComplete { s with cap := { s.cap with draining := rest } } r stPathDown).cap = _ :=
      capComplete_keeps .cap (by decide)
    exact ⟨by rw [hcap], keeps_trans (by simp [State.keeps_iff]) (keeps_mono capComplete_keeps (by decide))⟩
  · intro by' x n s hc hby hn
    have hown : ¬ (by'.val ≠ 0 ∧ by'.val ≠ x.val) := by
      rintro ⟨h0, hx⟩
      rcases hby with h | h
      · exact h0 h
      · exact hx (congrArg _ h)
    refine Runs.of (execCapRidxWrite_of_configured hc) ?_
    have hlt : n.toNat % 2 ^ 16 = n.toNat := Nat.mod_eq_of_lt n.isLt
    rw [State.writeCapRidx, if_neg hown, if_pos hn, hlt]
    simp [updTen_keeps]
  · intro by' x n s hc h0 hx
    refine Runs.of (execCapRidxWrite_of_configured hc) ?_
    have hown : by'.val ≠ 0 ∧ by'.val ≠ x.val := ⟨h0, fun h => hx (Fin.ext h)⟩
    rw [State.writeCapRidx, if_pos hown]
    exact ⟨rfl, report_keeps⟩
  · intro d ten off slots i s hup x len himg hq hm hal hsz hcar hov hmem
    refine Runs.of (execCaptureArea_of_up hup off slots) ?_
    rw [captureArea_of_fit himg hq hm hal hsz hcar hov hmem]
    have hend := complete_keeps (s := s.updTen x (fun v => { v with capOff := off.toNat, capSlots := slots.toNat })) (d := d)
      (o := 0x14) (st := stOk) (r := captureSlot (s.ten x).ntiles) (a := 0)
    have hten := ten_of_keeps hend (by decide)
    rw [hten, State.ten_updTen]
    exact ⟨rfl, rfl, rfl, otherTenants_trans otherTenants_updTen (fun m _ => hten m),
      keeps_trans (keeps_mono updTen_keeps (by decide)) (keeps_mono hend (by decide))⟩
  · intro d ten off slots s hup himg
    refine Runs.of (execCaptureArea_of_up hup off slots) ?_
    simp only [State.captureArea, himg]
    exact ⟨rfl, complete_keeps⟩
  · intro ten c tok rest s hmoved hw hspan
    obtain ⟨a, hexec⟩ := execCheckpointLanded_of_single hmoved hw hspan
    refine Runs.of hexec ?_
    rw [State.ten_setTen]
    refine ⟨rfl, rfl, rfl, rfl, fun j hj => of_decide_eq_true (List.mem_filter.1 hj).2,
      fun j hj hk => List.mem_filter.2 ⟨hj, decide_eq_true hk⟩, rfl, rfl, ?_, ?_⟩
    · exact otherTenants_trans (fun m _ => ten_of_keeps writeSlot_keeps (by decide) m) otherTenants_setTen
    · exact keeps_trans (keeps_mono writeSlot_keeps (by decide)) (keeps_mono setTen_keeps (by decide))

end Sys2Proof.Machine
end

section
/-!
PROOF. The RUN descriptor's commands: what refuses them, and what an accepted one asks for (R31 to R33, R57, R352).
-/
namespace Sys2Proof.Machine

/-! ### Descriptors that are taken up -/

section
variable {s : State} {d : DRef} {opc : Nat} {pf sf : Bool} {k : State → State}

theorem State.takeUp_of_mode (h : s.fnUp d.fn = true) (hm : s.dev.mode ≠ .safe) :
    s.takeUp d opc false sf k = .next (k s) := by
  simp [State.takeUp, h, hm]

theorem State.takeUp_of_admin (h : s.fnUp d.fn = true) (hf : d.fn.val = 0) (hm : s.dev.mode ≠ .safe) :
    s.takeUp d opc pf sf k = .next (k s) := by
  rw [State.takeUp, h]
  simp [hf, hm]

theorem State.takeUp_of_notAdmin (h : s.fnUp d.fn = true) (hf : d.fn.val ≠ 0) :
    s.takeUp d opc true sf k = .next (s.complete d opc stNotAdmin 0 0) := by
  have hfn : d.fn ≠ 0 := fun hz => hf (congrArg Fin.val hz)
  simp [State.takeUp, h, hfn]

theorem State.takeUp_of_safe (h : s.fnUp d.fn = true) (hm : s.dev.mode = .safe) :
    s.takeUp d opc false true k = .next (s.complete d opc stBadMode 0 0) := by
  simp [State.takeUp, h, hm]

end

/-- A command that completes at once touches the host interface and the error log. -/
theorem Runs.of_complete {c : Instr} {s : State} {d : DRef} {o st r a : Nat} (h : exec c s = .next (s.complete d o st r a)) :
    Runs c s (fun t => t = s.complete d o st r a ∧ s.keeps t [.host, .fm]) := Runs.of h ⟨rfl, complete_keeps⟩

/-! ### The five commands -/

section
variable {s : State} {d : DRef} {ten : TenId} {span : SpanAns} (h : s.fnUp d.fn = true) (hm : s.dev.mode ≠ .safe)
include h hm

theorem execRunStart_eq (count : Word) : execRunStart d ten count span s =
    .next (if count ≠ 0 then s.endRun d (target d ten) stBadArg else s.runStart d (target d ten) .start span) :=
  State.takeUp_of_mode h hm

theorem execRunStop_eq (count : Word) : execRunStop d ten count s =
    .next (if count ≠ 0 then s.endRun d (target d ten) stBadArg
      else if (s.judged (target d ten)).advancing then s.request (target d ten) .stop (some d)
      else s.endRun d (target d ten) stBadState) := State.takeUp_of_mode h hm

theorem execRunStep_eq (count : Word) : execRunStep d ten count span s =
    .next (if count = 0 then s.endRun d (target d ten) stBadArg
      else s.runStart d (target d ten) (.step count.toNat) span) := State.takeUp_of_mode h hm

theorem execRunRelease_eq (count : Word) : execRunRelease d ten count s =
    .next (if count ≠ 0 then s.endRun d (target d ten) stBadArg
      else if s.judged (target d ten) ≠ .held ∨ s.releaseBarred (target d ten) d.fn = true then s.endRun d (target d ten) stBadState
      else s.request (target d ten) .release (some d)) := State.takeUp_of_mode h hm

end

section
variable {s : State} {d : DRef} {ten : TenId} (h : s.fnUp d.fn = true)
include h

theorem execRunHold_of_notAdmin (hf : d.fn.val ≠ 0) (count : Word) :
    execRunHold d ten count s = .next (s.complete d 0x12 stNotAdmin 0 0) := State.takeUp_of_notAdmin h hf

theorem execRunHold_of_admin (hf : d.fn.val = 0) (hm : s.dev.mode ≠ .safe) :
    execRunHold d ten 0 s = .next (s.raiseHold (target d ten) 7 (some d)) := State.takeUp_of_admin h hf hm

theorem execRunStart_of_safe (hm : s.dev.mode = .safe) (count : Word) (span : SpanAns) :
    execRunStart d ten count span s = .next (s.complete d 0x12 stBadMode 0 0) := State.takeUp_of_safe h hm

theorem execRunRelease_of_safe (hm : s.dev.mode = .safe) (count : Word) :
    execRunRelease d ten count s = .next (s.complete d 0x12 stBadMode 0 0) := State.takeUp_of_safe h hm

end

theorem State.runStart_of_notStopped {s : State} {x : Nat} (h : (s.ten x).eff ≠ .stopped) (d : DRef) (k : ReqKind) (span : SpanAns) :
    s.runStart d x k span = s.endRun d x stBadState := by
  have href : s.startRefusal x span = some stBadState := if_pos h
  rw [State.runStart, href]
  rfl

theorem State.runStart_of_accepted {s : State} {x : Nat} {span : SpanAns} (h : s.startRefusal x span = none) (d : DRef) (k : ReqKind) :
    s.runStart d x k span = s.request x k (some d) := by
  rw [State.runStart, h]

/-! ### A request that waits for its boundary (R57) -/

@[simp] theorem State.boundTiles_updTen (s : State) (x y : Nat) (f : Tenant → Tenant) : (s.updTen x f).boundTiles y = s.boundTiles y := rfl
@[simp] theorem State.tile_updTen (s : State) (x l : Nat) (f : Tenant → Tenant) : (s.updTen x f).tile l = s.tile l := rfl

theorem State.noEcycle_updTen {s : State} {x : Nat} {f : Tenant → Tenant} (h : (f (s.ten x)).done = (s.ten x).done) :
    (s.updTen x f).noEcycle x = s.noEcycle x := by
  simp [State.noEcycle, h]

/-- While an ecycle is in progress a request only joins those of its tenant. -/
theorem State.addReq_of_inEcycle {s : State} {x : Nat} (hs : (s.ten x).spans = false) (hn : s.noEcycle x = false) (r : Req) :
    s.addReq x r = s.updTen x (fun v => { v with reqs := v.reqs ++ [r] }) := by
  rw [State.addReq]
  generalize hu : s.updTen x _ = u
  have hsp : (u.ten x).spans = false := by rw [← hu, State.ten_updTen]; exact hs
  have hno : u.noEcycle x = false := by rw [← hu, State.noEcycle_updTen rfl, hn]
  simp [hsp, State.settle, hno]

theorem State.dueOf_of_inEcycle {s : State} {x : Nat} (hn : s.noEcycle x = false) (hr : (s.ten x).recov = none) :
    s.dueOf x = (s.ten x).done + s.lag x := by
  simp [State.dueOf, hn, hr]

theorem State.request_of_inEcycle {s : State} {x : Nat} (hs : (s.ten x).spans = false) (hn : s.noEcycle x = false)
    (hr : (s.ten x).recov = none) (k : ReqKind) (cmd : Option DRef) : s.request x k cmd =
      s.updTen x (fun v => { v with
        reqs := v.reqs ++ [{ kind := k, due := (s.ten x).done + s.lag x, cmd := cmd, origin := s.moduleId }] }) := by
  rw [State.request, State.dueOf_of_inEcycle hn hr, State.addReq_of_inEcycle hs hn]

/-! ### The end of a STEP's count (R32, R352) -/

theorem execStepCountExpire_eq {ten : TenId} {s : State} (hrun : (s.ten ten).run = .stepping) (hl : (s.ten ten).stepLeft = 0)
    (hn : s.noEcycle ten = true) (hr : (s.ten ten).recov = none) {u : State}
    (hu : (s.updTen ten (fun v => { v with run := .stopped, stepCmd := none })).completeOpt (s.ten ten).stepCmd 0x12 stOk
      (s.ten ten).lastEcyc 0 = u) : execStepCountExpire ten s =
      .next (((u.markStop ten).logInput ten 3 (s.ten ten).done (runCmdBytes 3 u.moduleId 0)).boundary ten) := by
  subst hu
  exact if_pos ⟨hrun, hl, hn, hr⟩

/-- Settles O12: a command that is not refused is a request for its boundary, and a refusal is one completion. -/
theorem runCommands : Obligations.RunCommands := by
  refine ⟨⟨?_, ?_, ?_, ?_, ?_, ?_, ?_⟩, ⟨?_, ?_, ?_, ?_, ?_⟩, ?_⟩
  · intro d ten count span s h hm hc
    exact ⟨Runs.of_complete ((execRunStart_eq h hm count).trans (congrArg _ (if_pos hc))),
      Runs.of_complete ((execRunStop_eq h hm count).trans (congrArg _ (if_pos hc)))⟩
  · intro d ten span s h hm
    exact Runs.of_complete ((execRunStep_eq h hm 0).trans (congrArg _ (if_pos rfl)))
  · intro d ten span s h hm he
    exact Runs.of_complete ((execRunStart_eq h hm 0).trans (congrArg _ (State.runStart_of_notStopped he d .start span)))
  · intro d ten s h hm he
    exact Runs.of_complete ((execRunStop_eq h hm 0).trans (congrArg _ (if_neg (ne_true_of_eq_false he))))
  · intro d ten s h hm he
    exact Runs.of_complete ((execRunRelease_eq h hm 0).trans (congrArg _ (if_pos he)))
  · intro d ten count s h hf
    exact Runs.of_complete (execRunHold_of_notAdmin h hf count)
  · intro d ten count span s h hm
    exact ⟨Runs.of_complete (execRunStart_of_safe h hm count span), Runs.of_complete (execRunRelease_of_safe h hm count)⟩
  · intro d ten span s h hm href
    refine ⟨Runs.of ((execRunStart_eq h hm 0).trans (congrArg _ (State.runStart_of_accepted href d .start))) rfl, fun n hn => ?_⟩
    exact Runs.of ((execRunStep_eq h hm n).trans (congrArg _ ((if_neg hn).trans (State.runStart_of_accepted href d _)))) rfl
  · intro d ten s h hm ha
    exact Runs.of ((execRunStop_eq h hm 0).trans (congrArg _ (if_pos ha))) rfl
  · intro d ten s h hm he hb
    have hok : ¬ (s.judged (target d ten) ≠ .held ∨ s.releaseBarred (target d ten) d.fn = true) := by
      simp [State.judged, he, hb]
    exact Runs.of ((execRunRelease_eq h hm 0).trans (congrArg _ (if_neg hok))) rfl
  · intro d ten s h hf hm
    have htgt : target d ten = ten.val := if_pos hf
    refine Runs.of (execRunHold_of_admin h hf hm) ?_
    rw [htgt]
  · intro x k cmd s hs hn hr
    rw [State.request_of_inEcycle hs hn hr]
    simp [updTen_keeps]
  · intro ten s hrun hl hn hr
    refine Runs.of (execStepCountExpire_eq hrun hl hn hr rfl) ?_
    intro u
    have hkeep : State.keeps (s.updTen ten (fun v => { v with run := .stopped, stepCmd := none })) u [.host, .fm] := completeOpt_keeps
    have hten := ten_of_keeps hkeep (by decide) ten
    rw [State.ten_updTen] at hten
    rw [hten]
    exact ⟨rfl, rfl, keeps_trans (keeps_mono updTen_keeps (by decide)) (keeps_mono hkeep (by decide)), rfl⟩

end Sys2Proof.Machine
end

section
/-!
PROOF. The scheduler's registers: which writes are taken, which are refused, and what a placement decision leaves alone (R71, R171,
R172, R233, R237, R250).
-/
namespace Sys2Proof.Machine

/-! ### The register map -/

@[simp] theorem State.reg_setReg_self (s : State) (off v : Nat) : (s.setReg off v).reg off = v % 2 ^ 32 := by
  simp [State.reg, State.setReg]
theorem State.reg_setReg_ne (s : State) {o off : Nat} (v : Nat) (h : o ≠ off) : (s.setReg off v).reg o = s.reg o := by
  simp [State.reg, State.setReg, Map.get_set_ne _ _ _ h]

theorem reg_of_keeps {s t : State} {a : List Part} (h : s.keeps t a) (n : .regs ∉ a) (off : Nat) : t.reg off = s.reg off := by
  have hr : t.regs = s.regs := h .regs n
  rw [State.reg, hr, State.reg]

/-- A low field that is put into a number. -/
theorem fld_setFld_self (w lsb width v : Nat) : fld (setFld w lsb width v) lsb width = v % 2 ^ width := by
  refine Nat.eq_of_testBit_eq fun i => ?_
  rw [fld_testBit, setFld_testBit, Nat.testBit_mod_two_pow]
  by_cases hi : i < width
  · rw [if_neg (by omega), if_pos (by omega), Nat.add_sub_cancel_left]
  · simp [hi]

/-- A low field of a number that is cut above it. -/
theorem fld_mod_two_pow (w : Nat) {lsb width n : Nat} (h : lsb + width ≤ n) : fld (w % 2 ^ n) lsb width = fld w lsb width := by
  refine Nat.eq_of_testBit_eq fun i => ?_
  rw [fld_testBit, fld_testBit, Nat.testBit_mod_two_pow]
  by_cases hi : i < width
  · rw [decide_eq_true (show lsb + i < n by omega), Bool.true_and]
  · simp [hi]

/-! ### What a placement decision leaves alone (R242, R247) -/

/-- A tenant whose slice has been renewed, or that is as it was. -/
def Tenant.renewed (v w : Tenant) : Prop := ∃ a b, w = { v with sliceOver := a, sliceFrom := b }

theorem Tenant.renewed.refl (v : Tenant) : v.renewed v := ⟨v.sliceOver, v.sliceFrom, rfl⟩
theorem Tenant.renewed.trans {u v w : Tenant} (h : u.renewed v) (k : v.renewed w) : u.renewed w := by
  obtain ⟨a, b, rfl⟩ := h
  obtain ⟨c, d, rfl⟩ := k
  exact ⟨c, d, rfl⟩

theorem trace_keeps {s : State} {a b c : Nat} {p : List Byte} : s.keeps (s.trace a b c p) [.chv] := by
  unfold State.trace State.emit
  split
  · simp [State.keeps_iff]
  · exact keeps_refl

theorem decision_keeps {s : State} {k x o n v : Nat} : s.keeps (s.decision k x o n v) [.chv] := by
  unfold State.decision
  split
  · exact trace_keeps
  · exact keeps_refl

theorem wantPower_keeps {s : State} {ls : List Nat} : s.keeps (s.wantPower ls) [.pwr] := by
  simp [State.keeps_iff, State.wantPower]

theorem renewSlices_keeps {s : State} : s.keeps s.renewSlices [.tenants] := by
  unfold State.renewSlices
  split
  · exact keeps_refl
  · refine keeps_foldl _ _ (fun s x => ?_) _ s
    split
    · exact updTen_keeps
    · exact keeps_refl

theorem renewSlices_ten (s : State) (y : Nat) : (s.ten y).renewed (s.renewSlices.ten y) := by
  unfold State.renewSlices
  split
  · exact .refl _
  · refine List.foldlRecOn (motive := fun (u : State) => (s.ten y).renewed (u.ten y)) _ _ (.refl _) fun u hu x _ => ?_
    split
    · refine hu.trans ?_
      by_cases hy : y = x
      · subst hy
        exact ⟨false, u.thy.total, State.ten_updTen ..⟩
      · rw [State.ten_updTen_ne _ _ hy]
        exact .refl _
    · exact hu

/-- After the slices have been renewed a decision touches the scheduler, the trace and the domains that it asks for. -/
theorem place_after_renewal {s : State} : s.place = s ∨ s.renewSlices.keeps s.place [.sched, .chv, .pwr] := by
  unfold State.place
  split
  · exact .inl rfl
  · refine .inr ?_
    have hsched : ∀ (u : State) (x : Sched), u.keeps { u with sched := x } [.sched, .chv, .pwr] := fun u x => by
      simp [State.keeps_iff]
    dsimp only
    split
    · exact hsched _ _
    · split
      · exact keeps_trans (hsched _ _) (keeps_mono decision_keeps (by decide))
      · split
        · exact keeps_trans (hsched _ _) (keeps_mono decision_keeps (by decide))
        · exact keeps_trans (hsched _ _) (keeps_mono wantPower_keeps (by decide))

theorem place_keeps {s : State} : s.keeps s.place [.sched, .chv, .pwr, .tenants] := by
  rcases place_after_renewal (s := s) with h | h
  · rw [h]; exact keeps_refl
  · exact keeps_trans (keeps_mono renewSlices_keeps (by decide)) (keeps_mono h (by decide))

/-- A placement decision renews slices, and changes nothing else of any tenant. -/
theorem place_ten (s : State) (y : Nat) : (s.ten y).renewed (s.place.ten y) := by
  rcases place_after_renewal (s := s) with h | h
  · rw [h]; exact .refl _
  · rw [ten_of_keeps h (by decide)]
    exact renewSlices_ten s y

/-! ### The writes -/

section
variable {s : State} (h : s.dev.mode.configured = true)
include h

theorem execSchLsyncWrite_eq (x : TenId) (w : BitVec 4) : execSchLsyncWrite x w s = .next (s.writeLsync x w.toNat) := if_pos h
theorem execSchTregionWrite_eq (x : TenId) (z : Bool) (v : Word) :
    execSchTregionWrite x z v s = .next (s.writeRegionReg x z v.toNat) := if_pos h
theorem execSchTcfgWrite_eq (x : TenId) (v : Word) : execSchTcfgWrite x v s = .next (s.writeTcfg x v.toNat) := if_pos h
theorem execSchBwClassWrite_eq (c : Fin 6) (v : Word) : execSchBwClassWrite c v s = .next (s.writeBwClass c v.toNat) := if_pos h
theorem execSchDebugWrite_eq (x : TenId) (v : Word) : execSchDebugWrite x v s = .next (s.writeDebug x v.toNat) := if_pos h
theorem execTilContractClear_eq (n : PTileId) : execTilContractClear n s = .next (s.writeContract n (2 ^ 31)) := if_pos h

end

section
variable {s : State} {x v : Nat}

theorem writeLsync_of_busy (h : s.restsStopped x = false) : s.writeLsync x v = s.accState (0x93000 + 4 * x) := by
  simp [State.writeLsync, h]

theorem writeLsync_of_noImage (h : s.restsStopped x = true) (himg : (s.ten x).img = none) : s.writeLsync x v =
    s.setReg (0x93000 + 4 * x) (setFld (s.reg (0x93000 + 4 * x)) 0 4 (if v = 0 then 1 else v)) := by
  simp [State.writeLsync, h, himg]

theorem writeRegionReg_of_image (h : (s.ten x).img.isSome = true) (z : Bool) :
    s.writeRegionReg x z v = s.accState ((if z then 0x92800 else 0x92400) + 4 * x) := if_pos (.inl h)

theorem writeRegionReg_of_tooLarge (h : (s.ten x).img = none) (hl : (s.ten x).load = none)
    (hb : 1504 < s.rfld (0x92400 + 4 * x) 0 11 + v % 2 ^ 11) :
    s.writeRegionReg x true v = s.accValue (0x92800 + 4 * x) := by
  simp [State.writeRegionReg, h, hl]
  exact fun h' => absurd hb (by omega)

theorem writeRegionReg_of_fit (h : (s.ten x).img = none) (hl : (s.ten x).load = none)
    (hb : s.rfld (0x92400 + 4 * x) 0 11 + v % 2 ^ 11 ≤ 1504)
    (hc : ∀ u, u < 256 → u ≠ x → overlaps (s.rfld (0x92400 + 4 * x) 0 11) (v % 2 ^ 11) (s.rfld (0x92400 + 4 * u) 0 11)
      (s.rfld (0x92800 + 4 * u) 0 11) = false) :
    s.writeRegionReg x true v = s.setReg (0x92800 + 4 * x) (v % 2 ^ 11) := by
  have hclash : (List.range 256).any (fun u => decide (u ≠ x) && overlaps (s.rfld (0x92400 + 4 * x) 0 11) (v % 2 ^ 11)
      (s.rfld (0x92400 + 4 * u) 0 11) (s.rfld (0x92800 + 4 * u) 0 11)) = false := by
    refine List.any_eq_false.2 fun u hu => ?_
    by_cases hx : u = x
    · simp [hx]
    · rw [hc u (List.mem_range.1 hu) hx, Bool.and_false]
      exact Bool.false_ne_true
  have hfree : ¬ ((s.ten x).img.isSome = true ∨ (s.ten x).load.isSome = true) := by simp [h, hl]
  have hok : ¬ (1504 < s.rfld (0x92400 + 4 * x) 0 11 + v % 2 ^ 11 ∨ (List.range 256).any (fun u => decide (u ≠ x) &&
      overlaps (s.rfld (0x92400 + 4 * x) 0 11) (v % 2 ^ 11) (s.rfld (0x92400 + 4 * u) 0 11)
        (s.rfld (0x92800 + 4 * u) 0 11)) = true) := by
    rw [hclash]
    exact not_or.2 ⟨Nat.not_lt.2 hb, Bool.false_ne_true⟩
  exact (if_neg hfree).trans (if_neg hok)

/-- SCH_TCFG as stored. -/
def schTcfgStored (v : Nat) : Nat := fld v 0 5 + 2 ^ 8 * max 1 (fld v 8 8)

theorem schTcfgStored_low (v : Nat) : fld (schTcfgStored v) 0 5 = fld v 0 5 := by
  have hlt := fld_lt v 0 5
  rw [schTcfgStored, fld_eq_div_mod _ 0]
  omega

theorem schTcfgStored_high (v : Nat) : fld (schTcfgStored v) 8 8 = max 1 (fld v 8 8) := by
  have hlow := fld_lt v 0 5
  have hhigh := fld_lt v 8 8
  rw [schTcfgStored, fld_eq_div_mod _ 8 8]
  omega

theorem schTcfgStored_lt (v : Nat) : schTcfgStored v < 2 ^ 32 := by
  have hlow := fld_lt v 0 5
  have hhigh := fld_lt v 8 8
  rw [schTcfgStored]
  omega

theorem writeTcfg_of_noPin (h : bit v 4 = 0) : s.writeTcfg x v = (s.setReg (0x92000 + 4 * x) (schTcfgStored v)).place := by
  have hpin : bit (schTcfgStored v) 4 = 0 := by
    rw [bit_eq_zero_iff] at h ⊢
    have hbits := fld_low_testBit (schTcfgStored v) 5 4
    rw [schTcfgStored_low, fld_low_testBit] at hbits
    simpa [h] using hbits.symm
  refine if_neg fun hc => ?_
  exact absurd (hpin.symm.trans hc.1) (by decide)

theorem writeDebug_of_noClear (h : bit v 8 = 0) (hn : v % 2 ^ 7 ≠ s.rfld (0x94000 + 4 * x) 0 7) :
    s.writeDebug x v = if decide ((s.ten x).eff = .stopped ∨ (s.ten x).eff = .held) && s.noEcycle x
      then s.setReg (0x94000 + 4 * x) (v % 2 ^ 7) else s.accState (0x94000 + 4 * x) := by
  unfold State.writeDebug
  rw [if_neg (show ¬ bit v 8 = 1 by rw [h]; decide)]
  exact if_neg hn

end

theorem minShare_setReg (s : State) (c i v : Nat) :
    (s.setReg (0x90040 + 4 * c) v).minShare i = if i = c then v % 2 ^ 32 % 2 ^ 7 else s.minShare i := by
  unfold State.minShare State.rfld
  split
  · rename_i h
    rw [h, State.reg_setReg_self, fld_eq_div_mod, Nat.pow_zero, Nat.div_one]
  · rw [State.reg_setReg_ne _ _ (by omega)]

/-- Settles O13: each write is refused with one record, or sets one register, and TCFG is followed by a placement decision. -/
theorem schedulerRegisters : Obligations.SchedulerRegisters := by
  refine ⟨⟨?_, ?_⟩, ?_, ?_, ?_, ?_, ?_, ?_, ?_, ?_, ?_⟩
  · intro x w s hc h
    refine Runs.of (execSchLsyncWrite_eq hc x w) ?_
    rw [writeLsync_of_busy h]
    exact ⟨rfl, rfl, report_keeps⟩
  · intro x w s hc h himg
    refine Runs.of (execSchLsyncWrite_eq hc x w) ?_
    rw [writeLsync_of_noImage h himg]
    refine ⟨?_, fun off ho => State.reg_setReg_ne _ _ ho, setReg_keeps⟩
    rw [State.reg_setReg_self, fld_mod_two_pow _ (by decide), fld_setFld_self]
    by_cases hw : w = 0
    · subst hw; rfl
    · rw [if_neg hw, if_neg (show ¬ w.toNat = 0 from fun h0 => hw (BitVec.eq_of_toNat_eq h0)), Nat.mod_eq_of_lt w.isLt]
  · intro x z v s hc h
    refine Runs.of (execSchTregionWrite_eq hc x z v) ?_
    rw [writeRegionReg_of_image h]
    exact ⟨rfl, report_keeps⟩
  · intro x v s hc h hl hb
    refine Runs.of (execSchTregionWrite_eq hc x true v) ?_
    rw [writeRegionReg_of_tooLarge h hl hb]
    exact ⟨rfl, report_keeps⟩
  · intro x v s hc h hl hb hno
    refine Runs.of (execSchTregionWrite_eq hc x true v) ?_
    rw [writeRegionReg_of_fit h hl hb hno]
    refine ⟨?_, ?_, fun off ho => State.reg_setReg_ne _ _ ho, setReg_keeps⟩
    · rw [State.rsize, State.rfld, State.reg_setReg_self, fld_eq_div_mod]
      omega
    · rw [State.rbase, State.rfld, State.reg_setReg_ne _ _ (by omega)]
      rfl
  · intro x v s hc h
    refine Runs.of (execSchTcfgWrite_eq hc x v) ?_
    rw [writeTcfg_of_noPin h]
    rw [reg_of_keeps place_keeps (by decide), State.reg_setReg_self, Nat.mod_eq_of_lt (schTcfgStored_lt _)]
    refine ⟨schTcfgStored_low _, schTcfgStored_high _, fun y => ?_, ?_⟩
    · obtain ⟨a, b, hten⟩ := place_ten (s.setReg (0x92000 + 4 * x) (schTcfgStored v.toNat)) y
      rw [hten]
      exact ⟨rfl, rfl⟩
    · exact keeps_trans (keeps_mono setReg_keeps (by decide)) (keeps_mono place_keeps (by decide))
  · intro c v s hc h
    refine Runs.of (execSchBwClassWrite_eq hc c v) ?_
    have hle : s.writeBwClass c v.toNat = s.setReg (0x90040 + 4 * c) (min 100 (v.toNat % 2 ^ 7)) := if_neg (Nat.not_lt.2 h)
    rw [hle]
    refine ⟨?_, fun i _ hi => ?_, setReg_keeps⟩
    · rw [minShare_setReg, if_pos rfl]
      omega
    · rw [minShare_setReg, if_neg hi]
  · intro c v s hc h
    refine Runs.of (execSchBwClassWrite_eq hc c v) ?_
    have hgt : s.writeBwClass c v.toNat = s.accValue (0x90040 + 4 * c) := if_pos h
    rw [hgt]
    exact ⟨rfl, report_keeps⟩
  · intro x v s hc hb hn he hno
    refine Runs.of (execSchDebugWrite_eq hc x v) ?_
    rw [writeDebug_of_noClear hb hn, if_pos (by simp [he, hno])]
    refine ⟨?_, setReg_keeps⟩
    rw [State.reg_setReg_self]
    omega
  · intro x v s hc hb hn hno
    refine Runs.of (execSchDebugWrite_eq hc x v) ?_
    rw [writeDebug_of_noClear hb hn, if_neg (by simp [hno])]
    exact ⟨rfl, report_keeps⟩
  · intro n l s hc hl
    refine Runs.of (execTilContractClear_eq hc n) ?_
    have hbit : bit (2 ^ 31) 31 = 1 := by decide
    simp only [State.writeContract, hl, hbit, if_true, State.tile_updTile, true_and]
    exact ⟨otherTiles_updTile, updTile_keeps⟩

end Sys2Proof.Machine
end

section
/-!
PROOF. IMAGE_COMMIT, the end of the load check and IMAGE_DISCARD (R161, R162, R235, R354).
-/
namespace Sys2Proof.Machine

/-- A tenant whose image is dropped has none, and stands STOPPED. -/
theorem State.ten_dropImage (s : State) (x : Nat) :
    ((s.dropImage x).ten x).img = none ∧ ((s.dropImage x).ten x).run = .stopped := by
  rw [State.dropImage, State.ten_updTen]
  exact ⟨rfl, rfl⟩

@[simp] theorem State.ten_complete (s : State) (d : DRef) (o st r a x : Nat) : (s.complete d o st r a).ten x = s.ten x :=
  ten_of_keeps complete_keeps (by decide) x

/-- A load check that asks for its tokens is noted in the tenant, which is else as it was. -/
theorem loadAsked_ten (s : State) (x n : Nat) (j : Nat → LoadJob) :
    let r := s.askTokens 2 x n
    ((r.2.updTen x (fun v => { v with load := some (j r.1) })).ten x).load = some (j r.1) ∧
      ((r.2.updTen x (fun v => { v with load := some (j r.1) })).ten x).img = (s.ten x).img := by
  dsimp only
  rw [State.ten_updTen]
  exact ⟨rfl, rfl⟩

section
variable {s : State} {d : DRef} {ten : TenId} (hu : s.fnUp d.fn = true) (hm : s.dev.mode ≠ .safe)
include hu hm

theorem execImageCommit_of_misaligned {off len : DWord} (h : off.toNat % 64 ≠ 0) :
    execImageCommit d ten off len s = .next (s.complete d 0x10 stBadArg 0 0) :=
  (State.takeUp_of_mode hu hm).trans (congrArg Host.Outcome.next (if_pos h))

/-- A commit that no check refuses: the image goes, and the load check waits for its tokens. -/
theorem execImageCommit_of_accepted {off len : DWord} (halign : off.toNat % 64 = 0) (hsage : s.sage.state ≠ 1)
    (hload : (s.ten (target d ten)).load = none) (hmay : s.mayCommit (target d ten) = true)
    (hfit : off.toNat + len.toNat ≤ s.rsize (target d ten)) :
    execImageCommit d ten off len s =
      (let r := ((s.closeTrace (target d ten)).dropImage (target d ten)).askTokens 2 (target d ten) len.toNat
       .next (r.2.updTen (target d ten) (fun v => { v with load := some ⟨d, off.toNat, len.toNat, r.1⟩ }))) := by
  refine (State.takeUp_of_mode hu hm).trans (congrArg Host.Outcome.next ?_)
  dsimp only
  rw [if_neg (not_not.2 halign), if_neg (by simp [hsage, hload]), if_neg (by simp [hmay]), if_neg (Nat.not_lt.2 hfit)]

theorem execImageDiscard_of_rest (h : (s.ten (target d ten)).eff = .stopped ∨ (s.ten (target d ten)).eff = .held) :
    execImageDiscard d ten s =
      .next (((s.closeTrace (target d ten)).dropImage (target d ten)).complete d 0x11 stOk 0 0) :=
  (State.takeUp_of_mode hu hm).trans (congrArg Host.Outcome.next (if_pos h))

end

section
variable {s : State} {ten : TenId} {j : LoadJob}

theorem zeroMems_keeps {x : Nat} {i : Image} : s.keeps (s.zeroMems x i) [.ds, .noc] :=
  keeps_foldl _ _ (fun s e => by simp [State.keeps_iff]) _ s

theorem acceptImage_keeps {x : Nat} {i : Image} : s.keeps (s.acceptImage x i) [.tenants, .ds, .noc] :=
  keeps_trans (keeps_mono zeroMems_keeps (by decide)) (keeps_mono updTen_keeps (by decide))

theorem acceptImage_ten (s : State) (x : Nat) (i : Image) : (s.acceptImage x i).ten x =
    { s.ten x with img := some i, run := .swapped, back := .stopped, load := none, vt := 0 } := by
  rw [State.acceptImage, State.ten_updTen, ten_of_keeps zeroMems_keeps (by decide)]

theorem acceptImage_otherTenants {x : Nat} {i : Image} : s.otherTenants (s.acceptImage x i) x :=
  otherTenants_trans (otherTenants_of_tenants (zeroMems_keeps .tenants (by decide))) otherTenants_updTen

/-- A refused image leaves a record and a completion, and the check of the tenant is over. -/
theorem refusal_frame (s : State) (x : Nat) (d : DRef) (r : Nat) :
    let t := ((s.updTen x (fun v => { v with load := none })).report 0x0010 clsEvent 0 (some x) r).complete d 0x10 stImageRefused r 0
    (t.ten x).load = none ∧ (t.ten x).img = (s.ten x).img ∧ s.otherTenants t x ∧ s.keeps t [.tenants, .host, .fm] := by
  have hkeeps : (s.updTen x (fun v => { v with load := none })).keeps
      (((s.updTen x (fun v => { v with load := none })).report 0x0010 clsEvent 0 (some x) r).complete d 0x10 stImageRefused r 0)
      [.host, .fm] := keeps_trans (keeps_mono report_keeps (by decide)) complete_keeps
  dsimp only
  rw [ten_of_keeps hkeeps (by decide), State.ten_updTen]
  exact ⟨rfl, rfl, otherTenants_trans otherTenants_updTen (otherTenants_of_tenants (hkeeps .tenants (by decide))),
    keeps_trans (keeps_mono updTen_keeps (by decide)) (keeps_mono hkeeps (by decide))⟩

variable (hl : (s.ten ten).load = some j) (ht : s.tokWaits 2 j.tok = false) (hw : s.unitWaits = false)
  (hp : s.rangePoisoned (s.rbase ten + j.off) j.len = false)
include hl ht hw hp

theorem execLoadCheckComplete_of_ok {i : Image} (hc : loadCheck (s.loadEnv ten j) (s.olpEnv kTenant (s.rsize ten) .other)
      (s.ds.readBytes (s.rbase ten + j.off) j.len) = .ok i) :
    execLoadCheckComplete ten s = .next ((s.acceptImage ten i).complete j.cmd 0x10 stOk 0 0) := by
  unfold execLoadCheckComplete
  simp only [hl, ht, hw, hp, hc, Bool.or_self, Bool.false_eq_true, if_false]

theorem execLoadCheckComplete_of_error {e : Nat × Nat × Nat}
    (hc : loadCheck (s.loadEnv ten j) (s.olpEnv kTenant (s.rsize ten) .other)
      (s.ds.readBytes (s.rbase ten + j.off) j.len) = .error e) :
    ∃ r, execLoadCheckComplete ten s = .next (((s.updTen ten (fun v => { v with load := none })).report 0x0010 clsEvent 0
      (some ten) r).complete j.cmd 0x10 stImageRefused r 0) := by
  obtain ⟨c, sec, rec'⟩ := e
  refine ⟨c + 2 ^ 8 * (sec % 2 ^ 24) + 2 ^ 32 * rec', ?_⟩
  unfold execLoadCheckComplete
  simp only [hl, ht, hw, hp, hc, Bool.or_self, Bool.false_eq_true, if_false]

end

/-- Settles O14: the image goes before the check starts, and comes back only with a check that passes. -/
theorem imageCommands : Obligations.ImageCommands := by
  refine ⟨?_, ?_, ?_, ?_⟩
  · intro d ten off len s hu hm halign hsage hload hmay hfit
    refine Runs.of (execImageCommit_of_accepted hu hm halign hsage hload hmay hfit) ?_
    obtain ⟨hload, himg⟩ := loadAsked_ten ((s.closeTrace (target d ten)).dropImage (target d ten)) (target d ten) len.toNat
      (fun n => ⟨d, off.toNat, len.toNat, n⟩)
    exact ⟨⟨_, hload⟩, himg.trans (State.ten_dropImage _ _).1⟩
  · intro d ten off len s hu hm halign
    exact Runs.of (execImageCommit_of_misaligned hu hm halign) ⟨rfl, complete_keeps⟩
  · intro ten j s hl ht hw hp
    cases hc : loadCheck (s.loadEnv ten j) (s.olpEnv kTenant (s.rsize ten) .other)
      (s.ds.readBytes (s.rbase ten + j.off) j.len) with
    | ok i =>
      refine Runs.of (execLoadCheckComplete_of_ok hl ht hw hp hc) ?_
      rw [State.ten_complete, acceptImage_ten]
      refine ⟨rfl, otherTenants_trans acceptImage_otherTenants (otherTenants_of_tenants (complete_keeps .tenants (by decide))),
        rfl, rfl, rfl, ?_⟩
      exact keeps_trans (keeps_mono acceptImage_keeps (by decide)) (keeps_mono complete_keeps (by decide))
    | error e =>
      obtain ⟨r, hr⟩ := execLoadCheckComplete_of_error hl ht hw hp hc
      obtain ⟨hload, himg, hother, hkeeps⟩ := refusal_frame s ten j.cmd r
      exact Runs.of hr ⟨hload, hother, himg, hkeeps⟩
  · intro d ten s hu hm h
    refine Runs.of (execImageDiscard_of_rest hu hm h) ?_
    rw [State.ten_complete]
    exact State.ten_dropImage _ _

end Sys2Proof.Machine
end

section
/-!
PROOF. Trigger sequencers: one sequencer's state and what an evaluation leaves alone (R181, R182).
-/
namespace Sys2Proof.Machine

/-! ### Fields of a register -/

/-- A field that another field's write does not meet. -/
theorem fld_setFld_of_disjoint (w v : Nat) {lsb width l n : Nat} (h : l + n ≤ lsb ∨ lsb + width ≤ l) :
    fld (setFld w lsb width v) l n = fld w l n := by
  refine Nat.eq_of_testBit_eq fun i => ?_
  rw [fld_testBit, fld_testBit]
  by_cases hi : i < n
  · rw [setFld_testBit]
    rcases h with h | h
    · rw [if_pos (by omega)]
    · rw [if_neg (by omega), if_neg (by omega)]
  · simp [hi]

theorem State.rfld_setReg_self (s : State) (off v : Nat) {lsb width : Nat} (h : lsb + width ≤ 32) :
    (s.setReg off v).rfld off lsb width = fld v lsb width := by
  rw [State.rfld, State.reg_setReg_self, fld_mod_two_pow _ h]

theorem State.rfld_setReg_ne (s : State) {o off : Nat} (v lsb width : Nat) (h : o ≠ off) :
    (s.setReg off v).rfld o lsb width = s.rfld o lsb width := by
  rw [State.rfld, State.reg_setReg_ne _ _ h, State.rfld]

/-! ### One sequencer's state -/

@[simp] theorem State.seqOf_setSeq_self (s : State) (q : Nat) (v : TrigSeq) : (s.setSeq q v).seqOf q = v :=
  Map.get_set_self ..
theorem State.seqOf_setSeq_ne (s : State) {q r : Nat} (v : TrigSeq) (h : r ≠ q) : (s.setSeq q v).seqOf r = s.seqOf r :=
  Map.get_set_ne _ _ _ h
@[simp] theorem State.seqOf_updSeq_self (s : State) (q : Nat) (f : TrigSeq → TrigSeq) : (s.updSeq q f).seqOf q = f (s.seqOf q) :=
  s.seqOf_setSeq_self ..
@[simp] theorem State.reg_setSeq (s : State) (q : Nat) (v : TrigSeq) (o : Nat) : (s.setSeq q v).reg o = s.reg o := rfl
@[simp] theorem State.reg_updSeq (s : State) (q : Nat) (f : TrigSeq → TrigSeq) (o : Nat) : (s.updSeq q f).reg o = s.reg o := rfl
@[simp] theorem State.seqOwner_setSeq (s : State) (q r : Nat) (v : TrigSeq) : (s.setSeq q v).seqOwner r = s.seqOwner r := rfl
@[simp] theorem State.seqOwner_updSeq (s : State) (q r : Nat) (f : TrigSeq → TrigSeq) : (s.updSeq q f).seqOwner r = s.seqOwner r := rfl
@[simp] theorem State.linked_updSeq (s : State) (q r : Nat) (f : TrigSeq → TrigSeq) : (s.updSeq q f).linked r = s.linked r := rfl
@[simp] theorem State.linked_setSeq (s : State) (q r : Nat) (v : TrigSeq) : (s.setSeq q v).linked r = s.linked r := rfl

/-- Of the trigger unit only sequencer `q` changes. -/
def State.onlySeq (q : Nat) (s t : State) : Prop :=
  (∀ r, r ≠ q → t.seqOf r = s.seqOf r) ∧ t.trig.acq = s.trig.acq ∧ s.keeps t [.trig]

theorem State.onlySeq.refl (q : Nat) (s : State) : s.onlySeq q s := ⟨fun _ _ => rfl, rfl, keeps_refl⟩
theorem State.onlySeq.trans {q : Nat} {s t u : State} (h : s.onlySeq q t) (k : t.onlySeq q u) : s.onlySeq q u :=
  ⟨fun r hr => (k.1 r hr).trans (h.1 r hr), k.2.1.trans h.2.1, keeps_trans h.2.2 k.2.2⟩
theorem State.onlySeq.setSeq (q : Nat) (s : State) (v : TrigSeq) : s.onlySeq q (s.setSeq q v) :=
  ⟨fun _ hr => s.seqOf_setSeq_ne v hr, rfl, by simp [State.keeps_iff, State.setSeq]⟩
theorem State.onlySeq.updSeq (q : Nat) (s : State) (f : TrigSeq → TrigSeq) : s.onlySeq q (s.updSeq q f) := .setSeq ..

theorem seqOf_of_keeps {s t : State} {a : List Part} (h : s.keeps t a) (n : .trig ∉ a) (q : Nat) : t.seqOf q = s.seqOf q := by
  have htrig : t.trig = s.trig := h .trig n
  rw [State.seqOf, htrig, State.seqOf]

/-! ### An evaluation without channels, violations or a hold-off (R182) -/

section
variable {s : State} {q : Nat} {x : TapVec} {span : SpanAns}

/-- A mask unit whose mode is not violation. -/
theorem violation_of_mode {u due : Nat} (h : s.maskMode q u ≠ 2) : s.violation q u x due = s := if_pos (.inl h)

theorem violations_none (h : ∀ u, u < 8 → s.maskMode q u ≠ 2) (due : Nat) :
    (List.range 8).foldl (fun s u => s.violation q u x due) s = s :=
  List.foldlRecOn (motive := fun t => t = s) _ _ rfl fun t ht u hu => by
    rw [ht, violation_of_mode (h u (List.mem_range.1 hu))]

/-- The state in which the branches are judged: the counters have counted, and the vector is taken. -/
def State.judging (s : State) (q : Nat) (x : TapVec) : State :=
  let u := s.countSources q (s.ecycleTerms q (some x))
  u.setSeq q { u.seqOf q with holding := none, nextE := x.e + 1 }

theorem judging_seqOf (s : State) (q : Nat) (x : TapVec) : ∃ c, (s.judging q x).seqOf q =
    { s.seqOf q with cnt := c, holding := none, nextE := x.e + 1 } := by
  refine ⟨((s.countSources q (s.ecycleTerms q (some x))).seqOf q).cnt, (State.seqOf_setSeq_self ..).trans ?_⟩
  rw [State.countSources, State.seqOf_updSeq_self]

theorem judging_onlySeq (s : State) (q : Nat) (x : TapVec) : s.onlySeq q (s.judging q x) :=
  (State.onlySeq.updSeq ..).trans (State.onlySeq.setSeq ..)

/-- The first eligible branch that holds decides (R182). -/
theorem evalSeq_of_plain (hl : s.linked q = []) (hm : ∀ u, u < 8 → s.maskMode q u ≠ 2) (hh : (s.seqOf q).holding = none) :
    ∃ terms due, s.evalSeq q (some x) span =
      (if condHolds (s.reg (trgReg q + 0x100 + 16 * (s.seqOf q).st)) terms x.traps = true then
          (s.judging q x).trigAct q (s.reg (trgReg q + 0x104 + 16 * (s.seqOf q).st)) (some x) due span
        else if condHolds (s.reg (trgReg q + 0x100 + 16 * (s.seqOf q).st + 8)) terms x.traps = true then
          (s.judging q x).trigAct q (s.reg (trgReg q + 0x10C + 16 * (s.seqOf q).st)) (some x) due span
        else s.judging q x).updSeq q (fun v => { v with ti := 0, sw := false, prev := terms }) := by
  refine ⟨s.ecycleTerms q (some x) ||| (s.countSources q (s.ecycleTerms q (some x))).otherTerms q,
    s.actDue (s.seqOwner q) (some x), ?_⟩
  have hcount : ∃ c, (s.countSources q (s.ecycleTerms q (some x))).seqOf q = { s.seqOf q with cnt := c } :=
    ⟨_, State.seqOf_updSeq_self ..⟩
  obtain ⟨c, hcount⟩ := hcount
  unfold State.evalSeq
  simp only [hl, List.foldl_nil, violations_none hm, Option.isSome_some, if_true]
  simp only [State.judging, hcount, hh, Option.filter_none, Option.bind_none, Option.isSome_none, Bool.false_eq_true, if_false]
  rfl

/-- A branch that is not eligible does not hold (R181). -/
theorem condHolds_of_notEligible {w : Nat} (h : bit w 22 = 0) (terms : Nat) (traps : List Nat) : condHolds w terms traps = false := by
  unfold condHolds
  rw [h]
  rfl

/-- An eligible branch without any term holds. -/
theorem condHolds_of_noTerms (terms : Nat) (traps : List Nat) : condHolds (2 ^ 22) terms traps = true := by
  have hsel : fld (2 ^ 22) 0 20 = 0 := by decide
  have hall : bit (2 ^ 22) 20 = 0 := by decide
  have hinv : bit (2 ^ 22) 21 = 0 := by decide
  have hel : bit (2 ^ 22) 22 = 1 := by decide
  unfold condHolds
  simp only [hsel, hall, hinv, hel, Nat.zero_and]
  rfl

/-- A branch that names NEXT alone moves the sequencer, and nothing else (R182, Table 6-4). -/
theorem trigAct_of_next {act due : Nat} (h : act < 16) (s : State) :
    ∃ f : TrigSeq → TrigSeq, s.trigAct q act (some x) due span = s.updSeq q f ∧
      ∀ v, (f v).st = act ∧ (f v).taken = satInc v.taken 0xFFFF ∧ (f v).nextE = v.nextE := by
  have hbit : ∀ k, 4 ≤ k → bit act k = 0 := fun k hk => by
    rw [bit_eq_zero_iff]
    exact Nat.testBit_lt_two_pow (lt_of_lt_of_le h (Nat.pow_le_pow_right Nat.two_pos hk))
  have hact : fld act 4 8 = 0 := by rw [fld_eq_div_mod]; omega
  have hnext : fld act 0 4 = act := by rw [fld_eq_div_mod]; omega
  unfold State.trigAct State.trigBoundary
  simp only [hbit _ (show 4 ≤ 6 by decide), hbit _ (show 4 ≤ 7 by decide), hbit _ (show 4 ≤ 8 by decide),
    hbit _ (show 4 ≤ 10 by decide), hbit _ (show 4 ≤ 11 by decide), hbit _ (show 4 ≤ 12 by decide),
    hbit _ (show 4 ≤ 23 by decide), hact, hnext, Nat.zero_and, Nat.zero_ne_one, if_false, if_true]
  exact ⟨_, rfl, fun v => ⟨rfl, rfl, rfl⟩⟩

end

/-! ### TRIGGER_EVALUATE -/

theorem pruneTaps_keeps {s : State} {x : Nat} : s.keeps (s.pruneTaps x) [.tenants] := updTen_keeps

theorem execTriggerEvaluate_of_vec {q : Unit16} {span : SpanAns} {x : TapVec} {s : State} (ha : (s.seqOf q).armed = true)
    (hf : (s.seqOf q).frozen = false)
    (hx : (s.ten (s.seqOwner q)).tapReady.find? (fun y => decide ((s.seqOf q).nextE ≤ y.e)) = some x) :
    execTriggerEvaluate q span s = .next ((s.evalSeq q (some x) span).pruneTaps (s.seqOwner q)) := by
  unfold execTriggerEvaluate
  simp only [ha, hf, hx, Bool.not_false, Bool.and_self, if_true]

/-- What holds after the vectors that are no longer needed have been dropped. -/
theorem pruneTaps_frame {q x : Nat} {s t : State} (h : s.onlySeq q t) :
    (t.pruneTaps x).seqOf q = t.seqOf q ∧ (∀ r, r ≠ q → (t.pruneTaps x).seqOf r = s.seqOf r) ∧
      (t.pruneTaps x).trig.acq = s.trig.acq ∧ s.otherTenants (t.pruneTaps x) x ∧ s.keeps (t.pruneTaps x) [.trig, .tenants] := by
  obtain ⟨hseq, hacq, hkeeps⟩ := h
  exact ⟨rfl, hseq, hacq, otherTenants_trans (otherTenants_of_tenants (hkeeps .tenants (by decide))) otherTenants_updTen,
    keeps_trans (keeps_mono hkeeps (by decide)) (keeps_mono pruneTaps_keeps (by decide))⟩

/-- Settles O15: neither branch holds, or the first one does and names NEXT alone. -/
theorem triggerSteps : Obligations.TriggerSteps := by
  refine ⟨?_, ?_⟩
  · intro q span x s ha hf hl hx hm hh h0 h8
    refine Runs.of (execTriggerEvaluate_of_vec ha hf hx) ?_
    obtain ⟨terms, due, heval⟩ := evalSeq_of_plain (x := x) (span := span) hl hm hh
    rw [condHolds_of_notEligible h0, condHolds_of_notEligible h8] at heval
    simp only [Bool.false_eq_true, if_false] at heval
    obtain ⟨c, hseq⟩ := judging_seqOf s q x
    obtain ⟨hself, hother, hacq, hten, hkeeps⟩ := pruneTaps_frame (x := s.seqOwner q) ((judging_onlySeq s q x).trans
      (.updSeq q _ (fun v => { v with ti := 0, sw := false, prev := terms })))
    rw [heval, hself, State.seqOf_updSeq_self, hseq]
    exact ⟨rfl, rfl, rfl, rfl, rfl, ha, hother, hacq, hten, hkeeps⟩
  · intro q span x s ha hf hl hx hm hh h0 hact
    refine Runs.of (execTriggerEvaluate_of_vec ha hf hx) ?_
    obtain ⟨terms, due, heval⟩ := evalSeq_of_plain (x := x) (span := span) hl hm hh
    obtain ⟨f, hstep, hf⟩ := trigAct_of_next (q := q) (x := x) (span := span) (due := due) hact (s.judging q x)
    rw [h0, condHolds_of_noTerms, if_pos rfl, hstep] at heval
    obtain ⟨c, hseq⟩ := judging_seqOf s q x
    obtain ⟨hst, htaken, hnext⟩ := hf ((s.judging q x).seqOf q)
    obtain ⟨hself, hother, hacq, hten, hkeeps⟩ := pruneTaps_frame (x := s.seqOwner q) (((judging_onlySeq s q x).trans
      (.updSeq q _ f)).trans (.updSeq q _ (fun v => { v with ti := 0, sw := false, prev := terms })))
    rw [heval, hself, State.seqOf_updSeq_self, State.seqOf_updSeq_self]
    exact ⟨hst, htaken.trans (by rw [hseq]), hnext.trans (by rw [hseq]), hother, hacq, hten, hkeeps⟩

end Sys2Proof.Machine
end

section
/-!
PROOF. The pins, timers and hold-offs of the trigger unit, and TRG_CTL (R180, R182, R184, R186, R187, R194, R195).
-/
namespace Sys2Proof.Machine

/-! ### Pins and time -/

theorem setInPins_keeps {s : State} {n : Nat} : s.keeps { s with trig := { s.trig with inPins := n } } [.trig] := by
  simp [State.keeps_iff]

theorem execTrigInEdge_of_disabled {i : Fin 4} {level : Bool} {span : SpanAns} {s : State} (h : bit (s.reg (0xDC000 + 4 * i.val)) 0 = 0) :
    execTrigInEdge i level span s = .next { s with trig := { s.trig with inPins := setFld s.trig.inPins i 1 (b2n level) } } := by
  simp [execTrigInEdge, h]

/-- A sequencer that is not armed, or whose owner runs, is not evaluated (R184). -/
theorem idleEval_of_disarmed {s : State} {q : Nat} (h : (s.seqOf q).armed = false) (span : SpanAns) : s.idleEval q span = s :=
  if_neg (by simp [h])
theorem idleEval_of_running {s : State} {q : Nat} (h : s.idleOwner (s.seqOwner q) = false) (span : SpanAns) : s.idleEval q span = s :=
  if_neg (by simp [h])

/-- Term TI of each of the first `n` sequencers is latched, and nothing else changes. -/
theorem latch_seqOf (s : State) (b n r : Nat) :
    ((List.range n).foldl (fun s q => s.updSeq q (fun v => { v with ti := v.ti ||| b })) s).seqOf r =
      if r < n then { s.seqOf r with ti := (s.seqOf r).ti ||| b } else s.seqOf r := by
  induction n with
  | zero => rfl
  | succ n ih =>
    rw [List.range_succ, List.foldl_append, List.foldl_cons, List.foldl_nil]
    by_cases hr : r = n
    · subst hr
      rw [State.seqOf_updSeq_self, ih, if_neg (Nat.lt_irrefl r), if_pos (Nat.lt_succ_self r)]
    · rw [State.updSeq, State.seqOf_setSeq_ne _ _ hr, ih]
      by_cases hn : r < n
      · rw [if_pos hn, if_pos (by omega)]
      · rw [if_neg hn, if_neg (by omega)]

theorem latch_frame (s : State) (b : Nat) (l : List Nat) :
    (l.foldl (fun s q => s.updSeq q (fun v => { v with ti := v.ti ||| b })) s).trig.inPins = s.trig.inPins ∧
      s.keeps (l.foldl (fun s q => s.updSeq q (fun v => { v with ti := v.ti ||| b })) s) [.trig] :=
  List.foldlRecOn (motive := fun (t : State) => t.trig.inPins = s.trig.inPins ∧ s.keeps t [.trig]) _ _ ⟨rfl, keeps_refl⟩
    fun t ht q _ => ⟨ht.1, keeps_trans ht.2 (State.onlySeq.updSeq q t _).2.2⟩

theorem idleEvals_of_disarmed {s : State} {span : SpanAns} {n : Nat} (h : ∀ q, q < n → (s.seqOf q).armed = false) :
    (List.range n).foldl (fun s q => s.idleEval q span) s = s :=
  List.foldlRecOn (motive := fun t => t = s) _ _ rfl fun t ht q hq => by
    rw [ht, idleEval_of_disarmed (h q (List.mem_range.1 hq))]

theorem execTrigInEdge_of_edge {i : Fin 4} {span : SpanAns} {s : State} (hcfg : fld (s.reg (0xDC000 + 4 * i.val)) 0 3 = 3)
    (hlow : s.trig.inPins.testBit i = false) (hmode : s.dev.mode.idleToDerate = true)
    (harm : ∀ q, q < 16 → (s.seqOf q).armed = false) :
    execTrigInEdge i true span s = .next ((List.range 16).foldl (fun s q => s.updSeq q (fun v => { v with ti := v.ti ||| 2 ^ i.val }))
      { s with trig := { s.trig with inPins := setFld s.trig.inPins i 1 1 } }) := by
  have hbit : ∀ k, k < 3 → bit (s.reg (0xDC000 + 4 * i.val)) k = ((3 : Nat).testBit k).toNat := fun k hk => by
    rw [bit_eq_testBit, ← hcfg, fld_low_testBit, decide_eq_true hk, Bool.true_and]
  have h0 : bit (s.reg (0xDC000 + 4 * i.val)) 0 = 1 := hbit 0 (by decide)
  have h1 : bit (s.reg (0xDC000 + 4 * i.val)) 1 = 1 := hbit 1 (by decide)
  have h2 : bit (s.reg (0xDC000 + 4 * i.val)) 2 = 0 := hbit 2 (by decide)
  unfold execTrigInEdge
  simp only [h0, h1, h2, hlow, hmode, Bool.not_false, decide_true, Bool.and_self, if_true, Nat.zero_ne_one, if_false]
  rw [idleEvals_of_disarmed fun q hq => ?_]
  · rfl
  · rw [latch_seqOf, if_pos hq]
    exact harm q hq

theorem execTrigTimerExpire_of_running {q : Unit16} {i : Fin 2} {span : SpanAns} {s : State} (ha : (s.seqOf q).armed = true)
    (hd : s.timerDue q i = true)
    (hn : (s.seqOf q).timer.any (fun e => decide (e.1 = i.val ∧ e.2.2 = false)) = true)
    (hr : s.idleOwner (s.seqOwner q) = false) :
    execTrigTimerExpire q i span s = .next (s.setSeq q { s.seqOf q with
      timer := (s.seqOf q).timer.map (fun e => if e.1 = i.val then (e.1, e.2.1, true) else e) }) := by
  unfold execTrigTimerExpire
  simp only [ha, hd, hn, Bool.and_self, if_true]
  rw [idleEval_of_running]
  exact hr

theorem execTrigHoldoffEnd_of_past {q : Unit16} {h : HoldOff} {s : State} (hh : (s.seqOf q).holding = some h) (hm : h.mode = 1)
    (hf : (s.seqOf q).frozen = false) (hp : s.thyPast h.target = true) :
    execTrigHoldoffEnd q s = .next (s.updSeq q (fun v => { v with holding := none })) := by
  unfold execTrigHoldoffEnd
  simp only [hh, hm, hp, hf, and_self, if_true]

/-! ### TRG_CTL -/

theorem Map.get_filter_of_not {α : Type} (m : Map α) (p : Nat × α → Bool) (d : α) {k : Nat} (h : ∀ v, p (k, v) = false) :
    Map.get (m.filter p) d k = d := by
  induction m with
  | nil => rfl
  | cons e r ih =>
    rw [List.filter_cons]
    split
    · rename_i hp
      have hk : ¬ e.1 = k := fun hk => by
        rw [← Prod.mk.eta (p := e), hk, h] at hp
        exact Bool.false_ne_true hp
      simpa [Map.get, hk] using ih
    · exact ih

theorem disarm_of_disarmed {s : State} {q : Nat} (h : (s.seqOf q).armed = false) : s.disarm q = s := if_neg (by simp [h])
theorem arm_of_armed {s : State} {q : Nat} (h : (s.seqOf q).armed = true) : s.arm q = s := if_pos (by simp [h])

section
variable {s : State} {q : Unit16} {by' : TenId} (hc : s.dev.mode.configured = true)
include hc

theorem execTrgOwnerWrite_of_admin (owner : TenId) : execTrgOwnerWrite q 0 owner s = .next (s.setSeqOwner q owner) := by
  simp [execTrgOwnerWrite, hc]
theorem execTrgOwnerWrite_of_other (owner : TenId) (h : by'.val ≠ 0) : execTrgOwnerWrite q by' owner s = .next (s.accOwner (trgReg q)) := by
  unfold execTrgOwnerWrite
  rw [hc, if_pos h]
  rfl
theorem execTrgArm_eq (init : BitVec 4) (ring : Ring8) : execTrgArm q by' init ring s =
    .next (s.writeTrgCtl by' q (s.seqOwner q + 2 ^ 8 + 2 ^ 9 * init.toNat + 2 ^ 13 * ring.val) .ok) := by
  simp only [execTrgArm, hc]
  rfl
theorem execTrgDisarm_eq : execTrgDisarm q by' s = .next (s.writeTrgCtl by' q (setFld (s.reg (trgReg q)) 8 1 0) .ok) := by
  simp only [execTrgDisarm, hc]
  rfl
theorem execTrgSwev_eq (span : SpanAns) : execTrgSwev q by' span s =
    .next (s.writeTrgCtl by' q (setFld (setFld (s.reg (trgReg q)) 8 1 (b2n (s.seqOf q).armed)) 16 1 1) span) := by
  simp only [execTrgSwev, hc]
  rfl

end

/-- The word that a write of TRG_CTL leaves: without its pulses, and with the owner as it is. -/
def State.trgKept (s : State) (q v : Nat) : Nat := setFld (setFld (fld v 0 16) 8 1 0) 0 8 (s.seqOwner q)

section
variable {s : State} {by' q v : Nat} {span : SpanAns}

theorem writeTrgCtl_of_other (h0 : by' ≠ 0) (ho : by' ≠ s.seqOwner q) : s.writeTrgCtl by' q v span = s.accOwner (trgReg q) :=
  if_pos ⟨h0, ho⟩

theorem writeTrgCtl_of_sameOwner (hby : by' = 0 ∨ by' = s.seqOwner q) (hv : fld v 0 8 = s.seqOwner q) :
    s.writeTrgCtl by' q v span =
      (let u := s.setReg (trgReg q) (s.trgKept q v)
       let w := if bit v 8 = 1 then u.arm q else u.disarm q
       if bit v 16 = 1 then w.swev q span else w) := by
  unfold State.writeTrgCtl
  rw [if_neg (by rcases hby with h | h <;> simp [h])]
  dsimp only
  rw [if_neg (by simp [hv])]
  rfl

theorem seqOwner_trgKept : (s.setReg (trgReg q) (s.trgKept q v)).seqOwner q = s.seqOwner q := by
  rw [State.seqOwner, State.rfld_setReg_self _ _ _ (by decide), State.trgKept, fld_setFld_self]
  exact Nat.mod_eq_of_lt (fld_lt ..)

end

/-- ARM, in a word that names the owner as it is. -/
def trgArmWord (owner init ring : Nat) : Nat := owner + 2 ^ 8 + 2 ^ 9 * init + 2 ^ 13 * ring

theorem trgArmWord_fields {owner init ring : Nat} (ho : owner < 256) (hi : init < 16) (hr : ring < 8) :
    fld (trgArmWord owner init ring) 0 8 = owner ∧ bit (trgArmWord owner init ring) 8 = 1 ∧
      fld (fld (trgArmWord owner init ring) 0 16) 9 4 = init ∧ bit (trgArmWord owner init ring) 16 = 0 := by
  simp only [trgArmWord, bit, fld_eq_div_mod]
  omega

/-- A sequencer that stands disarmed arms in the state that the kept word names. -/
theorem arm_of_disarmed {s : State} {q : Nat} (ha : (s.seqOf q).armed = false) (hf : (s.seqOf q).frozen = false) :
    ∃ v, s.arm q = s.setSeq q v ∧ v.armed = true ∧ v.st = s.rfld (trgReg q) 9 4 ∧ v.taken = 0 ∧ v.holding = none :=
  ⟨_, if_neg (by simp [ha, hf]), rfl, rfl, rfl, rfl⟩

/-- A sequencer without linked channels disarms, and stands where it stood. -/
theorem disarm_of_unlinked {s : State} {q : Nat} (hl : s.linked q = []) :
    (s.disarm q).seqOf q = { s.seqOf q with armed := false } ∧ (∀ r, r ≠ q → (s.disarm q).seqOf r = s.seqOf r) ∧
      s.keeps (s.disarm q) [.regs, .trig, .tenants] := by
  cases ha : (s.seqOf q).armed with
  | false =>
    rw [disarm_of_disarmed ha]
    refine ⟨?_, fun _ _ => rfl, keeps_refl⟩
    rw [← ha]
  | true =>
    have hdisarm : s.disarm q = (s.updSeq q (fun v => { v with armed := false })).pruneTaps (s.seqOwner q) := by
      unfold State.disarm
      rw [if_pos ha]
      dsimp only
      rw [List.foldlRecOn (motive := fun t => t = s) _ _ rfl fun t ht x _ => by rw [ht, hl, List.foldl_nil]]
    obtain ⟨hself, hother, -, -, hkeeps⟩ := pruneTaps_frame (x := s.seqOwner q)
      (State.onlySeq.updSeq q s (fun v => { v with armed := false }))
    rw [hdisarm]
    exact ⟨hself.trans (State.seqOf_updSeq_self ..), hother, keeps_mono hkeeps (by decide)⟩

/-- A write of TRG_CTL that gives ARM the value that it has neither arms nor disarms. -/
theorem arm_or_disarm_as_is {s : State} {q o n v : Nat} (h : bit v 8 = b2n (s.seqOf q).armed % 2) :
    (if bit v 8 = 1 then (s.setReg o n).arm q else (s.setReg o n).disarm q) = s.setReg o n := by
  cases ha : (s.seqOf q).armed with
  | false => exact (if_neg (by rw [h, ha]; decide)).trans (disarm_of_disarmed (s := s.setReg o n) ha)
  | true => exact (if_pos (by rw [h, ha]; rfl)).trans (arm_of_armed (s := s.setReg o n) ha)

/-- The registers that link a channel to a sequencer are not TRG_CTL. -/
theorem linked_setReg_trg {s : State} {q v : Nat} (hq : q < 16) (ho : (s.setReg (trgReg q) v).seqOwner q = s.seqOwner q) :
    (s.setReg (trgReg q) v).linked q = s.linked q := by
  have hne : ∀ c, acqReg c ≠ trgReg q := fun c => by simp only [acqReg, trgReg]; omega
  simp only [State.linked, ho, State.acqSeq, State.acqOwner, State.rfld_setReg_ne _ _ _ _ (hne _)]
  rfl

/-- Settles O16: the pins and the timers, then the four uses of TRG_CTL. -/
theorem triggerUnit : Obligations.TriggerUnit := by
  refine ⟨⟨?_, ?_, ?_, ?_, ?_, ?_⟩, ?_, ?_, ?_, ?_, ?_, ?_⟩
  · intro i level span s h
    exact Runs.of (execTrigInEdge_of_disabled h) ⟨rfl, rfl, rfl, setInPins_keeps⟩
  · intro i span s hcfg hlow hmode harm
    refine Runs.of (execTrigInEdge_of_edge hcfg hlow hmode harm) ⟨fun q hq => ?_, (latch_frame ..).1, ?_⟩
    · rw [latch_seqOf, if_pos hq]
      rfl
    · exact keeps_trans setInPins_keeps (latch_frame ..).2
  · intro q i span s ha hd hn hr
    refine Runs.of (execTrigTimerExpire_of_running ha hd hn hr) ?_
    obtain ⟨hother, -, hkeeps⟩ := State.onlySeq.setSeq q s { s.seqOf q with
      timer := (s.seqOf q).timer.map (fun e => if e.1 = i.val then (e.1, e.2.1, true) else e) }
    rw [State.seqOf_setSeq_self]
    refine ⟨fun e he hei => ?_, rfl, hother, hkeeps⟩
    obtain ⟨f, -, rfl⟩ := List.mem_map.1 he
    by_cases hf : f.1 = i.val
    · rw [if_pos hf]
    · rw [if_neg hf] at hei
      exact absurd hei hf
  · intro q h s hh hm hf hp
    refine Runs.of (execTrigHoldoffEnd_of_past hh hm hf hp) ?_
    obtain ⟨hother, -, hkeeps⟩ := State.onlySeq.updSeq q s (fun v => { v with holding := none })
    rw [State.seqOf_updSeq_self]
    exact ⟨rfl, rfl, hother, hkeeps⟩
  · intro i s h
    exact Runs.of (if_pos h) ⟨rfl, rfl, by simp [State.keeps_iff]⟩
  · intro i s h
    exact Runs.of (if_neg (by rw [h]; decide)) rfl
  · intro q owner s hc ha
    refine Runs.of (execTrgOwnerWrite_of_admin hc owner) ?_
    unfold State.setSeqOwner
    rw [disarm_of_disarmed ha]
    dsimp only
    refine ⟨?_, ?_, ?_, fun x hlo hhi => ?_, fun r hr => State.seqOf_setSeq_ne _ _ hr, ?_⟩
    · rw [State.seqOwner_setSeq, State.seqOwner, State.rfld_setReg_self _ _ _ (by decide), fld_setFld_self]
      exact Nat.mod_eq_of_lt owner.isLt
    · rw [State.seqOf_setSeq_self]
    · rw [State.seqOf_setSeq_self]
    · refine (Map.get_set_ne _ _ _ (by omega)).trans (Map.get_filter_of_not _ _ _ fun v => ?_)
      exact decide_eq_false (by omega)
    · simp [State.keeps_iff, State.setSeq, State.setReg]
  · intro q by' owner s hc h
    exact Runs.of (execTrgOwnerWrite_of_other hc owner h) ⟨rfl, report_keeps⟩
  · intro q by' init ring s hc hby ha hf
    refine Runs.of (execTrgArm_eq hc init ring) ?_
    obtain ⟨howner, harm, hinit, hsw⟩ := trgArmWord_fields (owner := s.seqOwner q) (init := init.toNat) (ring := ring.val)
      (fld_lt ..) init.isLt ring.isLt
    obtain ⟨v, hv, hva, hvs, hvt, hvh⟩ := arm_of_disarmed
      (s := s.setReg (trgReg q) (s.trgKept q (trgArmWord (s.seqOwner q) init.toNat ring.val))) (q := q) ha hf
    have hword : s.seqOwner q + 2 ^ 8 + 2 ^ 9 * init.toNat + 2 ^ 13 * ring.val = trgArmWord (s.seqOwner q) init.toNat ring.val := rfl
    rw [hword, writeTrgCtl_of_sameOwner hby howner]
    dsimp only
    rw [if_pos harm, if_neg (by rw [hsw]; decide), hv, State.seqOf_setSeq_self]
    obtain ⟨hother, -, hkeeps⟩ := State.onlySeq.setSeq q
      (s.setReg (trgReg q) (s.trgKept q (trgArmWord (s.seqOwner q) init.toNat ring.val))) v
    refine ⟨hva, ?_, hvt, hvh, seqOwner_trgKept, hother, ?_⟩
    · rw [hvs, State.rfld_setReg_self _ _ _ (by decide), State.trgKept, fld_setFld_of_disjoint _ _ (.inr (by decide)),
        fld_setFld_of_disjoint _ _ (.inr (by decide)), hinit]
    · exact keeps_trans (keeps_mono setReg_keeps (by decide)) (keeps_mono hkeeps (by decide))
  · intro q by' s hc hby hl
    refine Runs.of (execTrgDisarm_eq hc) ?_
    have howner : fld (setFld (s.reg (trgReg q)) 8 1 0) 0 8 = s.seqOwner q := fld_setFld_of_disjoint _ _ (.inl (by decide))
    have hclear : bit (setFld (s.reg (trgReg q)) 8 1 0) 8 = 0 := fld_setFld_self ..
    rw [writeTrgCtl_of_sameOwner hby howner]
    generalize setFld (s.reg (trgReg q)) 8 1 0 = v at hclear
    obtain ⟨hself, hother, hkeeps⟩ := disarm_of_unlinked (q := q) ((linked_setReg_trg q.isLt seqOwner_trgKept).trans hl :
      (s.setReg (trgReg q) (s.trgKept q v)).linked q = [])
    have hset : s.keeps (s.setReg (trgReg q) (s.trgKept q v)) [.regs, .trig, .tenants] := keeps_mono setReg_keeps (by decide)
    have hkeeps' := keeps_trans hset hkeeps
    dsimp only
    rw [if_neg (show ¬ bit v 8 = 1 by rw [hclear]; decide)]
    generalize (s.setReg (trgReg q) (s.trgKept q v)).disarm q = u at hself hother hkeeps'
    split
    · obtain ⟨hother', -, hk⟩ := State.onlySeq.updSeq q u (fun v => { v with sw := true })
      rw [State.swev, idleEval_of_disarmed (by rw [State.seqOf_updSeq_self, hself]), State.seqOf_updSeq_self, hself]
      exact ⟨rfl, rfl, fun r hr => (hother' r hr).trans (hother r hr), keeps_trans hkeeps' (keeps_mono hk (by decide))⟩
    · rw [hself]
      exact ⟨rfl, rfl, hother, hkeeps'⟩
  · intro q by' span s hc hby hr
    refine Runs.of (execTrgSwev_eq hc span) ?_
    have howner : fld (setFld (setFld (s.reg (trgReg q)) 8 1 (b2n (s.seqOf q).armed)) 16 1 1) 0 8 = s.seqOwner q :=
      (fld_setFld_of_disjoint _ _ (.inl (by decide))).trans (fld_setFld_of_disjoint _ _ (.inl (by decide)))
    have harm : bit (setFld (setFld (s.reg (trgReg q)) 8 1 (b2n (s.seqOf q).armed)) 16 1 1) 8 = b2n (s.seqOf q).armed % 2 :=
      (fld_setFld_of_disjoint _ _ (.inl (by decide))).trans (fld_setFld_self ..)
    have hsw : bit (setFld (setFld (s.reg (trgReg q)) 8 1 (b2n (s.seqOf q).armed)) 16 1 1) 16 = 1 := fld_setFld_self ..
    rw [writeTrgCtl_of_sameOwner hby howner]
    generalize setFld (setFld (s.reg (trgReg q)) 8 1 (b2n (s.seqOf q).armed)) 16 1 1 = v at harm hsw
    dsimp only
    rw [if_pos hsw, arm_or_disarm_as_is harm, State.swev, idleEval_of_running, State.seqOf_updSeq_self]
    · obtain ⟨hother, -, hkeeps⟩ := State.onlySeq.updSeq q (s.setReg (trgReg q) (s.trgKept q v)) (fun v => { v with sw := true })
      exact ⟨rfl, rfl, hother, keeps_trans (keeps_mono setReg_keeps (by decide)) (keeps_mono hkeeps (by decide))⟩
    · rw [State.seqOwner_updSeq, seqOwner_trgKept]
      exact hr
  · intro q by' init ring span s hc h0 ho
    refine ⟨Runs.of (execTrgArm_eq hc init ring) ?_, Runs.of (execTrgDisarm_eq hc) ?_, Runs.of (execTrgSwev_eq hc span) ?_⟩
    all_goals
      rw [writeTrgCtl_of_other h0 ho]
      exact ⟨rfl, report_keeps⟩

end Sys2Proof.Machine
end

section
/-!
PROOF. Acquisition channels: the records that wait and are staged, the transitions of a channel, and its ring (R196 to R201, R234).
-/
namespace Sys2Proof.Machine

/-! ### One channel's state -/

@[simp] theorem State.acqOf_setAcq_self (s : State) (c : Nat) (v : Acq) : (s.setAcq c v).acqOf c = v := Map.get_set_self ..
theorem State.acqOf_setAcq_ne (s : State) {c r : Nat} (v : Acq) (h : r ≠ c) : (s.setAcq c v).acqOf r = s.acqOf r :=
  Map.get_set_ne _ _ _ h
@[simp] theorem State.acqOf_updAcq_self (s : State) (c : Nat) (f : Acq → Acq) : (s.updAcq c f).acqOf c = f (s.acqOf c) :=
  s.acqOf_setAcq_self ..
theorem setAcq_keeps {s : State} {c : Nat} {v : Acq} : s.keeps (s.setAcq c v) [.trig] := by
  simp [State.keeps_iff, State.setAcq]
theorem updAcq_keeps {s : State} {c : Nat} {f : Acq → Acq} : s.keeps (s.updAcq c f) [.trig] := setAcq_keeps

theorem acqOf_of_keeps {s t : State} {a : List Part} (h : s.keeps t a) (n : .trig ∉ a) (c : Nat) : t.acqOf c = s.acqOf c := by
  have htrig : t.trig = s.trig := h .trig n
  rw [State.acqOf, htrig, State.acqOf]

theorem keeps_ite {s t u : State} {l : List Part} {p : Prop} [Decidable p] (ht : s.keeps t l) (hu : s.keeps u l) :
    s.keeps (if p then t else u) l := by
  by_cases h : p
  · rwa [if_pos h]
  · rwa [if_neg h]

/-- Of the channels only `c` changes. -/
def State.otherAcqs (s t : State) (c : Nat) : Prop := ∀ r, r ≠ c → t.acqOf r = s.acqOf r

theorem otherAcqs_trans {s t u : State} {c : Nat} (h : s.otherAcqs t c) (k : t.otherAcqs u c) : s.otherAcqs u c :=
  fun r hr => (k r hr).trans (h r hr)
theorem otherAcqs_updAcq {s : State} {c : Nat} {f : Acq → Acq} : s.otherAcqs (s.updAcq c f) c :=
  fun _ hr => s.acqOf_setAcq_ne _ hr
theorem otherAcqs_setAcq {s : State} {c : Nat} {v : Acq} : s.otherAcqs (s.setAcq c v) c := fun _ hr => s.acqOf_setAcq_ne _ hr
theorem otherAcqs_of_keeps {s t : State} {a : List Part} (h : s.keeps t a) (n : .trig ∉ a) (c : Nat) : s.otherAcqs t c :=
  fun r _ => acqOf_of_keeps h n r

/-- A channel whose records wait or are staged, and that is else as it was. -/
def Acq.queued (v w : Acq) : Prop := ∃ a b n g h, w = { v with staging := a, held := b, recTo := n, gap := g, gapSeen := h }

theorem Acq.queued.refl (v : Acq) : v.queued v := ⟨_, _, _, _, _, rfl⟩
theorem Acq.queued.trans {u v w : Acq} (h : u.queued v) (k : v.queued w) : u.queued w := by
  obtain ⟨_, _, _, _, _, rfl⟩ := h
  obtain ⟨a, b, n, g, e, rfl⟩ := k
  exact ⟨a, b, n, g, e, rfl⟩

/-- Records of channel `c` wait or are staged, and ask for their tokens; nothing else changes. -/
def State.queues (c : Nat) (s t : State) : Prop :=
  (s.acqOf c).queued (t.acqOf c) ∧ s.otherAcqs t c ∧ s.keeps t [.trig, .sched]

theorem State.queues.refl (c : Nat) (s : State) : s.queues c s := ⟨.refl _, fun _ _ => rfl, keeps_refl⟩
theorem State.queues.trans {c : Nat} {s t u : State} (h : s.queues c t) (k : t.queues c u) : s.queues c u :=
  ⟨h.1.trans k.1, otherAcqs_trans h.2.1 k.2.1, keeps_trans h.2.2 k.2.2⟩
theorem State.queues.updAcq {c : Nat} {s : State} {f : Acq → Acq} (h : (s.acqOf c).queued (f (s.acqOf c))) : s.queues c (s.updAcq c f) := by
  refine ⟨?_, otherAcqs_updAcq, keeps_mono updAcq_keeps (by decide)⟩
  rw [State.acqOf_updAcq_self]
  exact h

theorem askTokens_keeps {s : State} {c t n : Nat} : s.keeps (s.askTokens c t n).2 [.sched] := by
  simp [State.keeps_iff, State.askTokens]

/-! ### Staging -/

theorem acqStage_acqOf (s : State) (c : Nat) (r : List Byte) : ∃ n m, (s.acqStage c r).acqOf c =
    { s.acqOf c with staging := (s.acqOf c).staging ++ [(r, n)], recTo := m } := by
  refine ⟨(s.askTokens 5 (s.acqOwner c) r.length).1, if recTyp r = 1 then recEcyc r + 1 else (s.acqOf c).recTo, ?_⟩
  rw [State.acqStage, State.acqOf_updAcq_self, acqOf_of_keeps askTokens_keeps (by decide)]

theorem acqStage_frame {s : State} {c : Nat} {r : List Byte} :
    s.otherAcqs (s.acqStage c r) c ∧ s.keeps (s.acqStage c r) [.trig, .sched] :=
  ⟨otherAcqs_trans (otherAcqs_of_keeps askTokens_keeps (by decide) c) otherAcqs_updAcq,
    keeps_trans (keeps_mono askTokens_keeps (by decide)) (keeps_mono updAcq_keeps (by decide))⟩

theorem State.queues.acqStage (c : Nat) (s : State) (r : List Byte) : s.queues c (s.acqStage c r) := by
  refine ⟨?_, acqStage_frame⟩
  obtain ⟨n, m, h⟩ := acqStage_acqOf s c r
  rw [h]
  exact ⟨_, _, _, _, _, rfl⟩

theorem State.queues.acqDrain (c : Nat) (l : List (List Byte)) (s : State) : s.queues c (s.acqDrain c l) := by
  induction l generalizing s with
  | nil => exact .updAcq ⟨_, _, _, _, _, rfl⟩
  | cons r rest ih =>
    rw [State.acqDrain]
    split
    · exact (State.queues.acqStage c s r).trans (ih _)
    · exact .updAcq ⟨_, _, _, _, _, rfl⟩

theorem State.queues.acqGap (c : Nat) (s : State) : s.queues c (s.acqGap c) := by
  unfold State.acqGap
  split
  · exact .updAcq ⟨_, _, _, _, _, rfl⟩
  · exact .refl c s

theorem State.queues.acqMark (c : Nat) (s : State) (typ e aux : Nat) : s.queues c (s.acqMark c typ e aux) :=
  (State.queues.acqGap c s).trans (State.queues.acqDrain c _ _)

/-- A record with room, and none before it, is staged. -/
theorem acqDrain_of_room {s : State} {c : Nat} {r : List Byte} (h : s.acqHasRoom c r = true) :
    ∃ n m, (s.acqDrain c [r]).acqOf c = { s.acqOf c with staging := (s.acqOf c).staging ++ [(r, n)], recTo := m, held := [] } := by
  obtain ⟨n, m, hst⟩ := acqStage_acqOf s c r
  refine ⟨n, m, ?_⟩
  rw [State.acqDrain, if_pos h, State.acqDrain, State.acqOf_updAcq_self, hst]

theorem acqFits_iff {s : State} {c : Nat} {r : List Byte} :
    s.acqFits c r = true ↔ (s.acqOf c).held = [] ∧ s.acqHasRoom c r = true := by
  simp [State.acqFits]

/-! ### START and STOP -/

theorem acqStart_of_rest {s : State} {c e : Nat} (h : (s.acqOf c).st = .off ∨ (s.acqOf c).st = .stopped) :
    s.acqStart c e = (s.acqMark c 0x10 e 0).updAcq c (fun a => { a with
      st := .run, lost := 0, postLeft := 0, lastGroups := none, nextE := e, recTo := e, waiting := [] }) := if_pos h

/-- Either end of a channel that runs stops it after a mark. -/
theorem acqStop_of_running {s : State} {c : Nat} (h : (s.acqOf c).st = .run ∨ (s.acqOf c).st = .post) :
    ∃ t, ∃ o : Acq → Bool, s.queues c t ∧ s.acqStop c = t.updAcq c (fun a => { a with st := .stopped, ovf := o a }) := by
  unfold State.acqStop State.acqOverflow
  dsimp only
  rw [if_pos h]
  split
  · exact ⟨_, fun _ => true, .acqMark .., rfl⟩
  · exact ⟨_, fun a => a.ovf, .acqMark .., rfl⟩

theorem acqStop_of_pacing {s : State} {c : Nat} (h : (s.acqOf c).st = .pacing) : s.acqStop c = s := if_neg (by simp [h])

/-! ### ACQ_CTL -/

/-- The stored form changes MODE and SIZE_LOG2 alone below bit 22. -/
theorem acqCtlStored_testBit (v i : Nat) (h : i < 12 ∨ i = 14 ∨ i = 15) : (acqCtlStored v).testBit i = v.testBit i := by
  have h22 : i < 22 := by omega
  unfold acqCtlStored
  dsimp only
  rw [setFld_testBit]
  split
  · split
    · rw [setFld_testBit, Nat.testBit_mod_two_pow, decide_eq_true h22, Bool.true_and]
      split
      · rfl
      · rw [if_neg (by omega)]
    · rw [Nat.testBit_mod_two_pow, decide_eq_true h22, Bool.true_and]
  · omega

/-- Setting a field to what it holds changes nothing, and the last of two writes of a field counts. -/
theorem setFld_fld_self (w lsb width : Nat) : setFld w lsb width (fld w lsb width) = w := by
  refine Nat.eq_of_testBit_eq fun i => ?_
  rw [setFld_testBit, fld_testBit]
  split
  · rfl
  · split
    · rw [decide_eq_true (by omega), Bool.true_and, Nat.add_sub_cancel' (by omega)]
    · rfl
theorem setFld_setFld_self (w lsb width a b : Nat) : setFld (setFld w lsb width a) lsb width b = setFld w lsb width b := by
  refine Nat.eq_of_testBit_eq fun i => ?_
  rw [setFld_testBit, setFld_testBit, setFld_testBit]
  split
  · rfl
  · split <;> rfl

/-- MODE and SIZE_LOG2 of a word in its stored form are in range, and nothing stands above them. -/
theorem acqCtlStored_range (v : Nat) : acqCtlStored v < 2 ^ 22 ∧ fld (acqCtlStored v) 12 2 ≠ 3 ∧
    16 ≤ fld (acqCtlStored v) 16 6 ∧ fld (acqCtlStored v) 16 6 ≤ 36 := by
  unfold acqCtlStored
  dsimp only
  refine ⟨Nat.lt_pow_two_of_testBit _ fun i hi => ?_, ?_, ?_⟩
  · rw [setFld_testBit, if_neg (by omega), if_neg (by omega)]
    split
    · rw [setFld_testBit, if_neg (by omega), if_neg (by omega), Nat.testBit_mod_two_pow, decide_eq_false (by omega), Bool.false_and]
    · rw [Nat.testBit_mod_two_pow, decide_eq_false (by omega), Bool.false_and]
  · rw [fld_setFld_of_disjoint _ _ (.inl (by decide))]
    split
    · rw [fld_setFld_self]
      decide
    · assumption
  · rw [fld_setFld_self]
    omega

/-- A word in its stored form is so whatever RUN is. -/
theorem acqCtlStored_setRun {v : Nat} (b : Nat) (h : acqCtlStored v = v) : acqCtlStored (setFld v 14 1 b) = setFld v 14 1 b := by
  obtain ⟨hlt, hmode, hlow, hhigh⟩ := acqCtlStored_range v
  rw [h] at hlt hmode hlow hhigh
  have hcut : setFld v 14 1 b % 2 ^ 22 = setFld v 14 1 b := by
    refine Nat.mod_eq_of_lt (Nat.lt_pow_two_of_testBit _ fun i hi => ?_)
    rw [setFld_testBit, if_neg (by omega), if_neg (by omega)]
    exact Nat.testBit_lt_two_pow (lt_of_lt_of_le hlt (Nat.pow_le_pow_right Nat.two_pos hi))
  have hmode' : fld (setFld v 14 1 b) 12 2 = fld v 12 2 := fld_setFld_of_disjoint _ _ (.inl (by decide))
  have hsize : fld (setFld v 14 1 b) 16 6 = fld v 16 6 := fld_setFld_of_disjoint _ _ (.inr (by decide))
  have hclamp : max 16 (min 36 (fld v 16 6)) = fld v 16 6 := by omega
  unfold acqCtlStored
  simp only [hcut, hmode', if_neg hmode, hsize, hclamp]
  rw [← hsize, setFld_fld_self]

theorem acqCtlStored_owner (v : Nat) : fld (acqCtlStored v) 0 8 = fld v 0 8 := by
  refine Nat.eq_of_testBit_eq fun i => ?_
  rw [fld_low_testBit, fld_low_testBit]
  by_cases hi : i < 8
  · rw [acqCtlStored_testBit _ _ (.inl (by omega))]
  · simp [hi]

theorem acqCtlStored_run (v : Nat) : bit (acqCtlStored v) 14 = bit v 14 := by
  rw [bit_eq_testBit, bit_eq_testBit, acqCtlStored_testBit _ _ (.inr (.inl rfl))]

/-- The word that a write of RUN means to store: with the owner as it is. -/
def acqRunWord (old b : Nat) : Nat := setFld (acqCtlStored (setFld old 14 1 b)) 0 8 (fld old 0 8)

/-- What a write of RUN leaves of the register: at most a refusal is recorded. -/
theorem writeAcqCtl_run {s : State} {by' c b : Nat} (hby : by' = 0 ∨ by' = s.acqOwner c) :
    ∃ u, (s.keeps u [.regs, .fm] ∧ (acqCtlStored (s.reg (acqReg c)) = s.reg (acqReg c) → u = s)) ∧
      s.writeAcqCtl by' c (setFld (s.reg (acqReg c)) 14 1 b) =
      if b % 2 = 1 then u.acqStart c (u.ten (u.acqOwner c)).done else u.acqStop c := by
  have howner : fld (acqCtlStored (setFld (s.reg (acqReg c)) 14 1 b)) 0 8 = fld (s.reg (acqReg c)) 0 8 := by
    rw [acqCtlStored_owner, fld_setFld_of_disjoint _ _ (.inl (by decide))]
  have hrun : bit (acqRunWord (s.reg (acqReg c)) b) 14 = b % 2 := by
    rw [acqRunWord, bit, fld_setFld_of_disjoint _ _ (.inr (by decide))]
    exact (acqCtlStored_run _).trans (fld_setFld_self ..)
  have hsame : acqCtlStored (s.reg (acqReg c)) = s.reg (acqReg c) →
      setFld (acqRunWord (s.reg (acqReg c)) b) 14 1 0 = setFld (s.reg (acqReg c)) 14 1 0 := fun h => by
    have hw : acqRunWord (s.reg (acqReg c)) b = setFld (s.reg (acqReg c)) 14 1 b := by
      have ho := acqCtlStored_owner (setFld (s.reg (acqReg c)) 14 1 b)
      rw [acqRunWord, ← howner, setFld_fld_self, acqCtlStored_setRun b h]
    rw [hw, setFld_setFld_self]
  unfold State.writeAcqCtl
  rw [if_neg (by rcases hby with h | h <;> simp [h])]
  dsimp only
  rw [if_neg (by simp [howner])]
  rw [← hrun]
  refine ⟨_, ⟨?_, fun h => if_pos (decide_eq_true (hsame h))⟩, rfl⟩
  exact keeps_ite keeps_refl (keeps_ite (keeps_mono report_keeps (by decide))
    (keeps_ite (keeps_mono report_keeps (by decide)) (keeps_mono setReg_keeps (by decide))))

/-! ### The ring of a channel (R196) -/

theorem read_putRing_of_outside (bs : List Byte) (m : Mem) (base size x a : Nat)
    (h : ∀ i, i < bs.length → a ≠ base + (x + i) % size) : (m.putRing base size x bs).read a = m.read a := by
  induction bs generalizing m x with
  | nil => rfl
  | cons b bs ih =>
    rw [Mem.putRing, ih _ _ fun i hi => ?_, Mem.read_write]
    · exact if_neg (h 0 (Nat.succ_pos _))
    have hnext := h (i + 1) (Nat.succ_lt_succ hi)
    rwa [← Nat.add_assoc, Nat.add_right_comm] at hnext

/-- Two places of a ring that lie less than its size apart are different. -/
theorem ring_ne {size x i : Nat} (h : i + 1 < size) : x % size ≠ (x + 1 + i) % size := fun heq => by
  have hmod : 0 ≡ i + 1 [MOD size] := Nat.ModEq.add_left_cancel' x (by
    rw [Nat.ModEq, Nat.add_zero, heq, Nat.add_assoc, Nat.add_comm 1 i])
  rw [Nat.ModEq, Nat.zero_mod, Nat.mod_eq_of_lt h] at hmod
  exact Nat.succ_ne_zero i hmod.symm

theorem read_putRing (bs : List Byte) (m : Mem) (base size x i : Nat) (hl : bs.length ≤ size) (hi : i < bs.length) :
    (m.putRing base size x bs).read (base + (x + i) % size) = bs.getD i 0 := by
  induction bs generalizing m x i with
  | nil => exact absurd hi (Nat.not_lt_zero _)
  | cons b bs ih =>
    rw [List.length_cons] at hl hi
    cases i with
    | zero =>
      rw [Mem.putRing, Nat.add_zero, read_putRing_of_outside _ _ _ _ _ _ fun j hj => ?_, Mem.read_write]
      · exact if_pos rfl
      · exact fun heq => ring_ne (by omega) (Nat.add_left_cancel heq)
    | succ i =>
      rw [Mem.putRing, ← Nat.add_assoc, Nat.add_right_comm x i 1, ih _ _ _ (by omega) (by omega)]
      rfl

/-! ### Records that land -/

@[simp] theorem zeroLines_none (pos : Nat) (p : List Byte) : zeroLines pos 0 p = p := by
  refine List.ext_getElem List.length_mapIdx fun i _ _ => ?_
  simp only [zeroLines, List.getElem_mapIdx]
  exact if_neg (by simp)

theorem Map.set_set_self {α : Type} (m : Map α) (k : Nat) (v w : α) : Map.set (Map.set m k v) k w = Map.set m k w := by
  induction m with
  | nil => simp [Map.set]
  | cons e r ih =>
    by_cases hlt : k < e.1
    · simp [Map.set, hlt]
    · by_cases heq : k = e.1
      · simp [Map.set, heq]
      · simp [Map.set, hlt, heq, ih]

theorem State.updAcq_setAcq (s : State) (c : Nat) (v : Acq) (f : Acq → Acq) : (s.setAcq c v).updAcq c f = s.setAcq c (f v) := by
  rw [State.updAcq, State.acqOf_setAcq_self]
  simp only [State.setAcq, Map.set_set_self]

theorem makeRoom_eq (v : Acq) (size n : Nat) (l : List Nat) : ∃ i m, v.makeRoom size n l = { v with ridx := i, landed := m } := by
  induction l generalizing v with
  | nil => exact ⟨_, _, rfl⟩
  | cons e r ih =>
    rw [Acq.makeRoom]
    split
    · exact ⟨_, _, rfl⟩
    · obtain ⟨i, m, h⟩ := ih { v with ridx := e, landed := r }
      exact ⟨i, m, h⟩

/-- The oldest staged record lands where it has room, with nothing waiting behind it. -/
theorem acqLand_of_room {s : State} {c tok : Nat} {r : List Byte} {rest : List (List Byte × Nat)}
    (hs : (s.acqOf c).staging = (r, tok) :: rest) (ht : s.tokWaits 5 tok = false) (hh : (s.acqOf c).held = [])
    (hroom : s.acqMode c = 0 ∨ (s.acqOf c).widx - (s.acqOf c).ridx + r.length ≤ s.acqSize c)
    (hreg : s.acqBase c + s.acqSize c ≤ s.rsize (s.acqOwner c)) :
    ∃ v, s.acqLand c 0 = { s.setAcq c v with
        ds := s.ds.putRing (s.rbase (s.acqOwner c) + s.acqBase c) (s.acqSize c) (s.acqOf c).widx r } ∧
      v.staging = rest ∧ v.widx = (s.acqOf c).widx + r.length ∧ (s.acqMode c ≠ 0 → v.ridx = (s.acqOf c).ridx) ∧
      v.st = (s.acqOf c).st := by
  have hfit : (s.tokWaits 5 tok || (decide (s.acqMode c ≠ 0) &&
      decide (s.acqSize c < (s.acqOf c).widx - (s.acqOf c).ridx + r.length))) = false := by
    rw [ht, Bool.false_or]
    rcases hroom with h | h
    · simp [h]
    · simp [Nat.not_lt.2 h]
  obtain ⟨i, m, hmake⟩ := makeRoom_eq (s.acqOf c) (s.acqSize c) r.length (s.acqOf c).landed
  have hold : ∃ i m, (if s.acqMode c = 0 then (s.acqOf c).makeRoom (s.acqSize c) r.length (s.acqOf c).landed else s.acqOf c) =
      { s.acqOf c with ridx := i, landed := m } ∧ (s.acqMode c ≠ 0 → i = (s.acqOf c).ridx) := by
    split
    · rename_i h0
      exact ⟨i, m, hmake, fun h => absurd h0 h⟩
    · exact ⟨_, _, rfl, fun _ => rfl⟩
  obtain ⟨i, m, hold, hi⟩ := hold
  refine ⟨{ s.acqOf c with
      staging := rest, widx := (s.acqOf c).widx + r.length, ridx := i, landed := m ++ [(s.acqOf c).widx + r.length], held := [] },
    ?_, rfl, rfl, hi, rfl⟩
  unfold State.acqLand
  simp only [hs, hfit, Bool.false_eq_true, if_false, hold, hh, State.acqDrain, zeroLines_none, if_true]
  refine (if_neg (Nat.not_lt.2 hreg)).trans ?_
  rw [State.updAcq_setAcq]
  rfl

/-- A change of a channel whose records have queued: the other channels and the other parts are as they were. -/
theorem State.queues.frame_updAcq {c : Nat} {s u : State} (h : s.queues c u) (f : Acq → Acq) :
    s.otherAcqs (u.updAcq c f) c ∧ s.keeps (u.updAcq c f) [.trig, .sched] :=
  ⟨otherAcqs_trans h.2.1 otherAcqs_updAcq, keeps_trans h.2.2 (keeps_mono updAcq_keeps (by decide))⟩

section
variable {s : State} {c : Unit16} {by' : TenId} (hc : s.dev.mode.configured = true)
include hc

theorem execAcqRunStart_eq : execAcqRunStart c by' s = .next (s.writeAcqCtl by' c (setFld (s.reg (acqReg c)) 14 1 1)) := if_pos hc
theorem execAcqRunStop_eq : execAcqRunStop c by' s = .next (s.writeAcqCtl by' c (setFld (s.reg (acqReg c)) 14 1 0)) := if_pos hc
theorem execAcqRidxWrite_eq (v : DWord) : execAcqRidxWrite c by' v s = .next (s.writeAcqRidx by' c v.toNat) := if_pos hc
theorem execAcqOwnerWrite_of_admin (owner : TenId) :
    execAcqOwnerWrite c 0 owner s = .next (s.newAcqOwner c owner (s.reg (acqReg c))) := by
  simp [execAcqOwnerWrite, hc]
theorem execAcqOwnerWrite_of_other (owner : TenId) (h : by'.val ≠ 0) :
    execAcqOwnerWrite c by' owner s = .next (s.accOwner (acqReg c)) := by
  unfold execAcqOwnerWrite
  rw [hc, if_pos h]
  rfl

end

@[simp] theorem leBytes_length (v n : Nat) : (leBytes v n).length = n := by
  induction n generalizing v with
  | zero => rfl
  | succ n ih => rw [leBytes, List.length_cons, ih]

theorem acqRecord_length (typ chan ten flags e sec ns aux : Nat) : (acqRecord typ chan ten flags e sec ns aux []).length = 32 := by
  have hpad : roundUp 0 32 = 0 := by decide
  simp [acqRecord, hpad, zeros]

theorem recTyp_acqRecord (typ chan ten flags e sec ns aux : Nat) (p : List Byte) :
    recTyp (acqRecord typ chan ten flags e sec ns aux p) = typ % 256 := by
  simp [recTyp, leAt, acqRecord, leBytes, leNat]

/-- A record of the width of a mark has room where 32 bytes have. -/
theorem acqHasRoom_congr {s t : State} {c : Nat} {p r : List Byte} (hl : r.length = p.length)
    (hp : recTyp p ≠ 0x13 ∧ recTyp p ≠ 0x16) (hr : recTyp r ≠ 0x13 ∧ recTyp r ≠ 0x16) (hreg : t.regs = s.regs)
    (hw : (t.acqOf c).widx = (s.acqOf c).widx) (hi : (t.acqOf c).ridx = (s.acqOf c).ridx)
    (hs : (t.acqOf c).staging = (s.acqOf c).staging) : t.acqHasRoom c r = s.acqHasRoom c p := by
  simp only [State.acqHasRoom, State.acqMode, State.acqSize, State.rfld, State.reg, Acq.staged, hl, hreg, hw, hi, hs, hp, hr, or_self,
    if_false]
  rfl

theorem execAcqGapRoom_of_room {c : Unit16} {s : State} (hr : (s.acqOf c).st.runs = true) (hg : (s.acqOf c).gap.isSome = true)
    (hf : s.acqFits c (zeros 32) = true) :
    execAcqGapRoom c s = .next ((s.acqGap c).acqDrain c ((s.acqGap c).acqOf c).held) :=
  if_pos (by rw [hr, hg, hf]; rfl)

/-- The GAP mark that has room is staged. -/
theorem gapRoom_acqOf {s : State} {c : Nat} (hg : (s.acqOf c).gap.isSome = true) (hf : s.acqFits c (zeros 32) = true) :
    ∃ r n m, ((s.acqGap c).acqDrain c ((s.acqGap c).acqOf c).held).acqOf c =
      { s.acqOf c with gap := none, gapSeen := true, held := [], staging := (s.acqOf c).staging ++ [(r, n)], recTo := m } := by
  obtain ⟨hheld, hroom⟩ := acqFits_iff.1 hf
  obtain ⟨⟨e, k⟩, hgap⟩ := Option.isSome_iff_exists.1 hg
  have hmark : (s.acqGap c).acqOf c = { s.acqOf c with
      gap := none, gapSeen := true, held := [acqRecord 0x14 c (s.acqOwner c) 0 e s.thy.sec s.thy.ns k []] } := by
    simp only [State.acqGap, hgap, State.acqOf_updAcq_self, hheld, List.nil_append]
  have hroom' : (s.acqGap c).acqHasRoom c (acqRecord 0x14 c (s.acqOwner c) 0 e s.thy.sec s.thy.ns k []) = true := by
    rw [acqHasRoom_congr (s := s) (p := zeros 32) (by simp [acqRecord_length, zeros]) (by decide)
      (by rw [recTyp_acqRecord]; decide) ((State.queues.acqGap c s).2.2 .regs (by decide)) (by rw [hmark]) (by rw [hmark])
      (by rw [hmark])]
    exact hroom
  rw [hmark]
  obtain ⟨n, m, h⟩ := acqDrain_of_room hroom'
  rw [hmark] at h
  exact ⟨_, n, m, h⟩

theorem execAcqPacingRoom_of_room {c : Unit16} {r : List Byte} {s : State} (hst : (s.acqOf c).st = .pacing)
    (hw : (s.acqOf c).waiting = [r]) (hfrom : (s.acqOf c).pacingFrom = .run) (hf : s.acqFits c r = true) :
    execAcqPacingRoom c s = .next ((s.acqStage c r).updAcq c (fun x => { x with waiting := [], st := x.pacingFrom })) := by
  unfold execAcqPacingRoom State.acqRoom
  simp only [hst, hw, hf, hfrom, if_true, List.isEmpty_nil]
  rfl

theorem execAcqPaceTimeout_of_late {c : Unit16} {ms : BitVec 16} {r : List Byte} {w : List (List Byte)} {s : State}
    (hst : (s.acqOf c).st = .pacing) (hw : (s.acqOf c).waiting = r :: w) (h0 : s.rfld (acqReg c + 0x1C) 0 16 ≠ 0)
    (hle : s.rfld (acqReg c + 0x1C) 0 16 ≤ ms.toNat) :
    ∃ f : Acq → Nat, execAcqPaceTimeout c ms s = .next ((s.acqMark c 0x17 (recEcyc r) 0).updAcq c (fun x => { x with
      st := .stopped, ovf := true, waiting := [], lost := f x })) := by
  unfold execAcqPaceTimeout
  simp only [hst, hw, if_pos (And.intro h0 hle)]
  exact ⟨_, rfl⟩

section
variable {s : State} {by' c v : Nat} (hby : by' = 0 ∨ by' = s.acqOwner c)
include hby

theorem writeAcqRidx_of_outside (h : v < (s.acqOf c).ridx ∨ (s.acqOf c).widx < v) :
    s.writeAcqRidx by' c v = s.accValue (acqReg c + 0x28) := by
  unfold State.writeAcqRidx
  rw [if_neg (by rcases hby with h | h <;> simp [h]), if_pos h]

theorem writeAcqRidx_of_inside (hlo : (s.acqOf c).ridx ≤ v) (hhi : v ≤ (s.acqOf c).widx) :
    s.writeAcqRidx by' c v = (s.setAcq c { s.acqOf c with
      ridx := v, landed := (s.acqOf c).landed.filter (fun e => decide (v < e)) }).acqDrain c (s.acqOf c).held := by
  unfold State.writeAcqRidx
  rw [if_neg (by rcases hby with h | h <;> simp [h])]
  exact if_neg (by omega)

end

/-- Settles O17: the transitions of a channel, then its indices, then the bytes of its ring. -/
theorem acquisition : Obligations.Acquisition := by
  refine ⟨⟨?_, ?_, ?_, ?_, ?_, ?_, ?_, ?_, ?_, ?_⟩, ⟨?_, ?_, ?_⟩, ?_⟩
  · intro c by' s hc hby hst
    refine Runs.of (execAcqRunStart_eq hc) ?_
    obtain ⟨u, ⟨hu, -⟩, hw⟩ := writeAcqCtl_run (b := 1) hby
    have hcu := acqOf_of_keeps hu (by decide) c
    rw [hw, if_pos rfl, acqStart_of_rest (by rw [hcu]; exact hst)]
    have hq := State.queues.acqMark c u 0x10 (u.ten (u.acqOwner c)).done 0
    obtain ⟨hother, hkeeps⟩ := hq.frame_updAcq (fun a => { a with
      st := .run, lost := 0, postLeft := 0, lastGroups := none, nextE := (u.ten (u.acqOwner c)).done
      recTo := (u.ten (u.acqOwner c)).done, waiting := [] })
    obtain ⟨⟨_, _, _, _, _, heq⟩, -, -⟩ := hq
    rw [State.acqOf_updAcq_self]
    refine ⟨rfl, rfl, rfl, ?_, ?_, ?_⟩
    · rw [heq, hcu]
    · exact otherAcqs_trans (otherAcqs_of_keeps hu (by decide) c) hother
    · exact keeps_trans (keeps_mono hu (by decide)) (keeps_mono hkeeps (by decide))
  · intro c by' s hc hby hst hctl hgap r hfit
    refine Runs.of (execAcqRunStart_eq hc) ?_
    obtain ⟨u, ⟨-, hu⟩, hw⟩ := writeAcqCtl_run (b := 1) hby
    rw [hw, if_pos rfl, hu hctl, acqStart_of_rest hst]
    have hmark : s.acqMark c 0x10 (s.ten (s.acqOwner c)).done 0 = s.acqDrain c [r] := by
      have hg : s.acqGap c = s := by rw [State.acqGap, hgap]
      rw [State.acqMark, State.acqPut, hg, (acqFits_iff.1 hfit).1, List.nil_append]
    obtain ⟨n, m, hst'⟩ := acqDrain_of_room (acqFits_iff.1 hfit).2
    rw [hmark, State.acqOf_updAcq_self, hst']
    exact ⟨rfl, ⟨n, rfl⟩, ((State.queues.acqDrain c [r] s).frame_updAcq _).2⟩
  · intro c by' s hc hby hst
    refine Runs.of (execAcqRunStop_eq hc) ?_
    obtain ⟨u, ⟨hu, -⟩, hw⟩ := writeAcqCtl_run (b := 0) hby
    have hcu := acqOf_of_keeps hu (by decide) c
    obtain ⟨t, o, hq, hstop⟩ := acqStop_of_running (s := u) (c := c) (by rw [hcu]; exact hst)
    obtain ⟨hother, hkeeps⟩ := hq.frame_updAcq (fun a => { a with st := .stopped, ovf := o a })
    obtain ⟨⟨_, _, _, _, _, heq⟩, -, -⟩ := hq
    rw [hw, if_neg (by decide), hstop, State.acqOf_updAcq_self, heq, hcu]
    exact ⟨rfl, rfl, rfl, otherAcqs_trans (otherAcqs_of_keeps hu (by decide) c) hother,
      keeps_trans (keeps_mono hu (by decide)) (keeps_mono hkeeps (by decide))⟩
  · intro c by' s hc hby hst
    refine Runs.of (execAcqRunStop_eq hc) ?_
    obtain ⟨u, ⟨hu, -⟩, hw⟩ := writeAcqCtl_run (b := 0) hby
    rw [hw, if_neg (by decide), acqStop_of_pacing (by rw [acqOf_of_keeps hu (by decide)]; exact hst)]
    exact ⟨hu .trig (by decide), hu⟩
  · intro c owner s hc hbad
    exact Runs.of ((execAcqOwnerWrite_of_admin hc owner).trans (congrArg _ (if_pos hbad))) ⟨rfl, report_keeps⟩
  · intro c owner s hc hgood
    refine Runs.of ((execAcqOwnerWrite_of_admin hc owner).trans (congrArg _ (if_neg (by rw [hgood]; decide)))) ?_
    unfold State.setAcqOwner
    rw [State.acqOf_updAcq_self]
    refine ⟨rfl, rfl, rfl, ?_, ?_, ?_⟩
    · refine (State.rfld_setReg_self _ _ _ (by decide)).trans ((fld_setFld_self ..).trans (Nat.mod_eq_of_lt owner.isLt))
    · exact otherAcqs_trans (otherAcqs_of_keeps (keeps_trans setReg_keeps setReg_keeps) (by decide) c) otherAcqs_updAcq
    · exact keeps_trans (keeps_mono setReg_keeps (by decide)) (keeps_trans (keeps_mono setReg_keeps (by decide))
        (keeps_mono updAcq_keeps (by decide)))
  · intro c by' owner s hc h
    exact Runs.of (execAcqOwnerWrite_of_other hc owner h) ⟨rfl, report_keeps⟩
  · intro c s hr hg hf
    refine Runs.of (execAcqGapRoom_of_room hr hg hf) ?_
    obtain ⟨r, n, m, heq⟩ := gapRoom_acqOf hg hf
    obtain ⟨-, hother, hkeeps⟩ := (State.queues.acqGap c s).trans (State.queues.acqDrain c ((s.acqGap c).acqOf c).held _)
    rw [heq]
    exact ⟨rfl, rfl, rfl, by rw [List.length_append, List.length_singleton], hother, hkeeps⟩
  · intro c r s hst hw hfrom hf
    refine Runs.of (execAcqPacingRoom_of_room hst hw hfrom hf) ?_
    obtain ⟨hother, hkeeps⟩ := (State.queues.acqStage c s r).frame_updAcq (fun x => { x with waiting := [], st := x.pacingFrom })
    obtain ⟨n, m, heq⟩ := acqStage_acqOf s c r
    rw [State.acqOf_updAcq_self, heq]
    exact ⟨hfrom, rfl, by rw [List.length_append, List.length_singleton], hother, hkeeps⟩
  · intro c ms r w s hst hw h0 hle
    obtain ⟨f, hstop⟩ := execAcqPaceTimeout_of_late hst hw h0 hle
    refine Runs.of hstop ?_
    rw [State.acqOf_updAcq_self]
    exact ⟨rfl, rfl, rfl, (State.queues.acqMark ..).frame_updAcq _⟩
  · intro c r tok rest s hs ht hh hroom hreg
    obtain ⟨v, hland, hstag, hwidx, hridx, hst⟩ := acqLand_of_room hs ht hh hroom hreg
    refine Runs.of (congrArg Host.Outcome.next hland : execAcqRecordLanded c 0 s = _) ?_
    have hself : ({ s.setAcq c v with
        ds := s.ds.putRing (s.rbase (s.acqOwner c) + s.acqBase c) (s.acqSize c) (s.acqOf c).widx r } : State).acqOf c = v :=
      s.acqOf_setAcq_self c v
    rw [hself]
    exact ⟨hstag, hwidx, hridx, hst, rfl, fun _ hr => s.acqOf_setAcq_ne v hr, by simp [State.keeps_iff, State.setAcq]⟩
  · intro c by' v s hc hby hlo hhi
    refine Runs.of (execAcqRidxWrite_eq hc v) ?_
    rw [writeAcqRidx_of_inside hby hlo hhi]
    obtain ⟨⟨_, _, _, _, _, heq⟩, hother, hkeeps⟩ := State.queues.acqDrain c (s.acqOf c).held (s.setAcq c { s.acqOf c with
      ridx := v.toNat, landed := (s.acqOf c).landed.filter (fun e => decide (v.toNat < e)) })
    rw [heq, State.acqOf_setAcq_self]
    exact ⟨rfl, rfl, rfl, otherAcqs_trans otherAcqs_setAcq hother, keeps_trans (keeps_mono setAcq_keeps (by decide)) hkeeps⟩
  · intro c by' v s hc hby h
    refine Runs.of (execAcqRidxWrite_eq hc v) ?_
    rw [writeAcqRidx_of_outside hby h]
    exact ⟨rfl, report_keeps⟩
  · intro bs m base size x _ hl
    exact ⟨fun i hi => read_putRing bs m base size x i hl hi, fun a ha => read_putRing_of_outside bs m base size x a ha⟩

end Sys2Proof.Machine
end

section
/-!
PROOF. CAPTURE descriptors (R202, R203, R353).
-/
namespace Sys2Proof.Machine

theorem forecast_keeps {s : State} {d : DRef} : s.keeps (s.forecast d) [.host, .fm] := by
  unfold State.forecast
  split
  · exact keeps_refl
  · exact keeps_mono postFor_keeps (by decide)

section
variable {s : State} {d : DRef} {ten : TenId} (hu : s.fnUp d.fn = true) (hm : s.dev.mode ≠ .safe)
include hu hm

/-- Outside SAFE a capture asks for the boundary of R57. -/
theorem execCapture_eq : execCapture d ten s = .next (
    let t := target d ten
    let r := s.capAsk t .host (s.dueOf t) (some d) d.tag.toNat
    if r.1 ≠ stOk then (r.2.completeCap d r.1 0 0 0 0).releaseResv d
    else if ((r.2.forecast d).ten t).run = .swapped ∧ ((r.2.forecast d).ten t).spans = false then r.2.forecast d
    else (r.2.forecast d).requestAt t (.capture 1) (s.dueOf t) none (r.2.forecast d).moduleId) := by
  refine (State.takeUp_of_mode hu hm).trans (congrArg Host.Outcome.next ?_)
  simp only [State.capture, hm, decide_false, Bool.false_eq_true, if_false]

end

section
variable {s : State} {x due src : Nat} {cmd : Option DRef}

theorem capAsk_of_noImage (h : (s.ten x).img = none) (k : CapKind) : s.capAsk x k due cmd src = (stNoImage, s) :=
  if_pos (by rw [h]; rfl)

theorem capAsk_of_noArea (h : (s.ten x).img.isSome = true) (h0 : (s.ten x).capSlots = 0) (k : CapKind) :
    s.capAsk x k due cmd src = (stNoArea, s) := by
  unfold State.capAsk
  dsimp only
  rw [if_neg (by simp [Option.isNone_iff_eq_none, Option.isSome_iff_ne_none.1 h]), if_pos h0]

/-- The entry of a HOST request that shares none. -/
def hostEntry (s : State) (x due src : Nat) (cmd : Option DRef) : CapEnt :=
  { ten := x, due := due, kind := some .host, cmds := cmd.toList, asks := 1, seq := (s.ten x).capNext, src := src }

theorem capAsk_of_room (h : (s.ten x).img.isSome = true) (h0 : 0 < (s.ten x).capSlots) (hall : s.capPending none < 64)
    (hown : s.capPending (some x) < 4) (hsh : s.capShared x due = none) (hfree : (s.ten x).slotFree (s.ten x).capNext = true) :
    s.capAsk x .host due cmd src =
      (stOk, (s.capPut (hostEntry s x due src cmd)).updTen x (fun v => { v with capNext := v.capNext + 1 })) := by
  have hkind : CapKind.host.full = false := rfl
  unfold State.capAsk
  simp only [Option.isNone_iff_eq_none, Option.isSome_iff_ne_none.1 h, Nat.ne_of_gt h0, hkind, Nat.not_le.2 hall, Nat.not_le.2 hown, hsh,
    hfree, if_false, Bool.not_false, decide_false, Bool.or_self, Bool.false_eq_true, Bool.not_true, Bool.and_false]
  rfl

end

theorem noEcycle_of_keeps {s t : State} {a : List Part} (h : s.keeps t a) (ht : .tiles ∉ a) (hn : .tenants ∉ a)
    (hs : .sched ∉ a) (x : Nat) :
    t.noEcycle x = s.noEcycle x := by
  have htiles : t.tiles = s.tiles := h .tiles ht
  have hsched : t.sched = s.sched := h .sched hs
  simp only [State.noEcycle, State.boundTiles, State.ltile, State.tile, htiles, hsched, ten_of_keeps h hn]
  rfl

/-- A request that has joined the queue and been forecast. -/
def State.capAsked (s : State) (x : Nat) (q : CapEnt) (d : DRef) : State :=
  ((s.capPut q).updTen x (fun v => { v with capNext := v.capNext + 1 })).forecast d

theorem capAsked_ten (s : State) (x : Nat) (q : CapEnt) (d : DRef) :
    (s.capAsked x q d).ten x = { s.ten x with capNext := (s.ten x).capNext + 1 } := by
  rw [State.capAsked, ten_of_keeps forecast_keeps (by decide), State.ten_updTen]
  rfl

theorem capAsked_frame (s : State) (x : Nat) (q : CapEnt) (d : DRef) :
    (s.capAsked x q d).cap.queue = capInsert q s.cap.queue ∧ (s.capAsked x q d).noEcycle x = s.noEcycle x ∧
      s.otherTenants (s.capAsked x q d) x ∧ s.keeps (s.capAsked x q d) [.tenants, .cap, .host, .fm] := by
  have hput : s.keeps (s.capPut q) [.cap] := by simp [State.keeps_iff, State.capPut]
  have hfore := forecast_keeps (s := (s.capPut q).updTen x (fun v => { v with capNext := v.capNext + 1 })) (d := d)
  have hcap : (s.capAsked x q d).cap = ((s.capPut q).updTen x (fun v => { v with capNext := v.capNext + 1 })).cap :=
    hfore .cap (by decide)
  refine ⟨by rw [hcap]; rfl, ?_, ?_, ?_⟩
  · rw [State.capAsked, noEcycle_of_keeps forecast_keeps (by decide) (by decide) (by decide), State.noEcycle_updTen (by rfl)]
    exact noEcycle_of_keeps hput (by decide) (by decide) (by decide) x
  · exact otherTenants_trans (otherTenants_trans (otherTenants_of_tenants (hput .tenants (by decide))) otherTenants_updTen)
      (otherTenants_of_tenants (hfore .tenants (by decide)))
  · exact keeps_trans (keeps_mono hput (by decide)) (keeps_trans (keeps_mono updTen_keeps (by decide)) (keeps_mono hfore (by decide)))

/-- Settles O18: without an image or an area the request is refused, and else it stands in the queue for its boundary. -/
theorem captureRequests : Obligations.CaptureRequests := by
  refine ⟨?_, ?_, ?_⟩
  · intro d ten s hu hm himg
    refine Runs.of (execCapture_eq hu hm) ?_
    dsimp only
    rw [capAsk_of_noImage himg]
    rfl
  · intro d ten s hu hm himg h0
    refine Runs.of (execCapture_eq hu hm) ?_
    dsimp only
    rw [capAsk_of_noArea himg h0]
    rfl
  · intro d ten s hu hm himg h0 hall hown hsh hfree hrun hsp hno hrec
    refine Runs.of (execCapture_eq hu hm) ?_
    dsimp only
    rw [capAsk_of_room himg h0 hall hown hsh hfree, State.dueOf_of_inEcycle hno hrec]
    generalize hq : hostEntry s (target d ten) ((s.ten (target d ten)).done + s.lag (target d ten)) d.tag.toNat (some d) = q
    obtain ⟨hqueue, hne, hother, hkeeps⟩ := capAsked_frame s (target d ten) q d
    have hten := capAsked_ten s (target d ten) q d
    rw [State.capAsked] at hqueue hne hother hkeeps hten
    rw [if_neg (not_not.2 rfl), if_neg (by rw [hten]; exact fun h => hrun h.1), State.requestAt,
      State.addReq_of_inEcycle (by rw [hten]; exact hsp) (hne.trans hno), State.ten_updTen, hten]
    exact ⟨⟨q, hqueue ▸ mem_capInsert q _, by rw [← hq]; exact ⟨rfl, rfl, rfl, rfl⟩⟩, rfl, rfl, rfl,
      otherTenants_trans hother otherTenants_updTen, keeps_trans hkeeps (keeps_mono updTen_keeps (by decide))⟩

end Sys2Proof.Machine
end

section
/-!
PROOF. The error log: reports that arrive, the ring, and ERR_CKPT_CFG (R209, R229, R362).
-/
namespace Sys2Proof.Machine

/-! ### Reports that arrive (R229) -/

theorem mem_replaceFirst {α : Type} {p : α → Bool} (f : α → α) {xs : List α} {y : α} (h : xs.find? p = some y) :
    f y ∈ replaceFirst p f xs := by
  induction xs with
  | nil => cases h
  | cons x xs ih =>
    rw [List.find?_cons] at h
    rw [replaceFirst]
    split at h
    · rename_i hp
      rw [if_pos hp, Option.some.inj h]
      exact List.mem_cons_self
    · rename_i hp
      rw [if_neg (by rw [hp]; decide)]
      exact List.mem_cons_of_mem _ (ih h)

section
variable {f : FaultMgr} {r : Report}

/-- The manager with the report's class noted. -/
def FaultMgr.noted (f : FaultMgr) (r : Report) : FaultMgr :=
  { f with pend := f.pend || decide (r.cls = clsDegraded) || decide (r.cls = clsDevice) }

theorem arrive_of_like (h : f.intake.any (fun q => q.same r) = true) : ∃ n, f.arrive r =
    { f.noted r with intake := replaceFirst (fun q => q.same r) Report.again f.intake, lastAt := n } := ⟨_, if_pos h⟩

theorem arrive_of_new (h : f.intake.any (fun q => q.same r) = false) (hw : f.widx = f.ridx) : f.arrive r =
    if f.intake.length < 64 then { f.noted r with intake := f.intake ++ [r], lastAt := f.widx.toNat + f.intake.length }
    else { f.noted r with overflow := true, lost := satInc f.lost 0xFFFF, lastAt := Config.lostSeq f.lost } := by
  refine (if_neg ?_).trans (if_neg fun hc => hc.1 hw)
  exact fun ht => Bool.false_ne_true (h.symm.trans ht)

/-- A report moves neither index, and touches neither the map of tiles nor the list of bad ones. -/
theorem arrive_frame (f : FaultMgr) (r : Report) : (f.arrive r).widx = f.widx ∧ (f.arrive r).ridx = f.ridx ∧
    (f.arrive r).remap = f.remap ∧ (f.arrive r).bad = f.bad := by
  unfold FaultMgr.arrive
  dsimp only
  split
  · exact ⟨rfl, rfl, rfl, rfl⟩
  · split
    · exact ⟨rfl, rfl, rfl, rfl⟩
    · split <;> exact ⟨rfl, rfl, rfl, rfl⟩

end

/-! ### The ring of the log -/

section
variable {s : State} {r : Report} {rest : List Report}

/-- The manager with its oldest report in the ring. -/
def FaultMgr.logged (f : FaultMgr) (r : Report) (rest : List Report) : FaultMgr :=
  { f with ring := Map.set f.ring (f.widx.toNat % 1024) r, widx := f.widx + 1, intake := rest }

theorem intakeOne_of_room {f : FaultMgr} (h : f.intake = r :: rest) (hroom : (f.widx - f.ridx).toNat < 1024) :
    f.intakeOne = f.logged r rest := by
  unfold FaultMgr.intakeOne
  simp only [h, if_pos hroom]
  rfl

theorem intakeOne_of_full {f : FaultMgr} (h : 1024 ≤ (f.widx - f.ridx).toNat) : f.intakeOne = f := by
  unfold FaultMgr.intakeOne
  split
  · rfl
  · exact if_neg (Nat.not_lt.2 h)

theorem execErrorLogIntake_of_room (h : s.fm.intake = r :: rest) (hroom : (s.fm.widx - s.fm.ridx).toNat < 1024) :
    execErrorLogIntake s = .next (if clsTenant ≤ r.cls then { s with fm := s.fm.logged r rest }.msix 0 9
      else { s with fm := s.fm.logged r rest }) := by
  have hne : ¬ (s.fm.logged r rest).widx = s.fm.widx := by
    intro heq
    have hone : (1 : BitVec 32) = 0 := BitVec.add_right_eq_self.1 heq
    exact absurd hone (by decide)
  unfold execErrorLogIntake
  simp only [intakeOne_of_room h hroom, if_neg hne, h, List.head?_cons]
  split <;> rfl

theorem execErrorLogIntake_of_full (h : 1024 ≤ (s.fm.widx - s.fm.ridx).toNat) : execErrorLogIntake s = .next s := by
  unfold execErrorLogIntake
  simp only [intakeOne_of_full h, if_true]

/-- A message interrupt goes by the host interface's state alone. -/
theorem msix_host_congr {t u : State} (h : t.host = u.host) (f v : Nat) : (t.msix f v).host = (u.msix f v).host := by
  have hreg : ∀ o, t.freg f o = u.freg f o := fun o => by rw [State.freg, h, State.freg]
  by_cases hp : u.freg f (0x3800 + 16 * v + 12) % 2 = 1
  · rw [State.msix, if_pos ((hreg _).symm ▸ hp), State.msix, if_pos hp, h]
  · rw [State.msix, if_neg ((hreg _).symm ▸ hp), State.msix, if_neg hp]
    by_cases hb : f ∈ u.host.bmeOff
    · rw [if_pos (h.symm ▸ hb), if_pos hb, h]
    · rw [if_neg (h.symm ▸ hb), if_neg hb, h, hreg, hreg, hreg]

end

/-! ### ERR_CKPT_CFG -/

theorem ckptCfgStored_fields (v : Nat) : fld (ckptCfgStored v) 0 5 = max 10 (min 20 (fld v 0 5)) ∧
    fld (ckptCfgStored v) 8 5 = max 20 (fld v 8 5) ∧ fld (ckptCfgStored v) 16 5 = max 20 (fld v 16 5) ∧
    fld (ckptCfgStored v) 21 3 = fld v 21 3 ∧ ckptCfgStored v < 2 ^ 24 := by
  have h0 := fld_lt v 0 5
  have h8 := fld_lt v 8 5
  have h16 := fld_lt v 16 5
  have h21 := fld_lt v 21 3
  simp only [fld_eq_div_mod (ckptCfgStored v)]
  unfold ckptCfgStored
  generalize fld v 0 5 = a at h0 ⊢
  generalize fld v 8 5 = b at h8 ⊢
  generalize fld v 16 5 = c at h16 ⊢
  generalize fld v 21 3 = d at h21 ⊢
  omega

theorem execErrCkptCfgWrite_of_free {x : TenId} {v : Word} {s : State} (hc : s.dev.mode.configured = true)
    (himg : (s.ten x).img = none) :
    execErrCkptCfgWrite x v s = .next (s.setReg (0x71000 + 4 * x) (ckptCfgStored v.toNat)) :=
  (if_pos hc).trans (congrArg Host.Outcome.next (if_neg fun h => by simp [himg] at h))

theorem execErrCkptCfgWrite_of_image {x : TenId} {v : Word} {s : State} (hc : s.dev.mode.configured = true)
    (himg : (s.ten x).img.isSome = true)
    (hne : fld (ckptCfgStored v.toNat) 0 21 ≠ fld (fld (s.reg (0x71000 + 4 * x)) 0 24) 0 21) :
    execErrCkptCfgWrite x v s = .next ((s.setReg (0x71000 + 4 * x)
      (setFld (s.reg (0x71000 + 4 * x)) 21 3 (fld (ckptCfgStored v.toNat) 21 3))).accState (0x71000 + 4 * x)) :=
  (if_pos hc).trans (congrArg Host.Outcome.next (if_pos ⟨hne, himg⟩))

/-- Settles O19: what arrives, what the ring takes, and the settings of the checkpoints. -/
theorem errorLog : Obligations.ErrorLog := by
  refine ⟨?_, ⟨?_, ?_, ?_, ?_, ?_⟩, ?_, ?_, ?_⟩
  · intro f r
    refine ⟨fun h => ?_, fun h hw hl => ?_, fun h hw hl => ?_, arrive_frame f r⟩
    · obtain ⟨n, ha⟩ := arrive_of_like h
      rw [ha]
      exact ⟨replaceFirst_length .., rfl, rfl, rfl, fun q hq => mem_replaceFirst _ hq⟩
    · rw [arrive_of_new h hw, if_pos hl]
      exact ⟨rfl, rfl, rfl⟩
    · rw [arrive_of_new h hw, if_neg (Nat.not_lt.2 hl)]
      exact ⟨rfl, rfl, rfl⟩
  · intro r rest s h hroom hcls
    refine Runs.of (execErrorLogIntake_of_room h hroom) ?_
    rw [if_neg (show ¬ clsTenant ≤ r.cls from Nat.not_le.2 hcls)]
    exact ⟨rfl, rfl, rfl, fun e => Map.get_set_self .., fun e k hk => Map.get_set_ne _ _ _ hk, by simp [State.keeps_iff]⟩
  · intro r rest s h hroom hcls
    refine Runs.of (execErrorLogIntake_of_room h hroom) ?_
    rw [if_pos (show clsTenant ≤ r.cls from hcls)]
    have hfm : ({ s with fm := s.fm.logged r rest }.msix 0 9).fm = s.fm.logged r rest := msix_keeps .fm (by decide)
    rw [hfm]
    refine ⟨rfl, rfl, msix_host_congr (t := { s with fm := s.fm.logged r rest }) (u := s) rfl 0 9,
      keeps_trans (t := { s with fm := s.fm.logged r rest }) ?_ (keeps_mono msix_keeps (by decide))⟩
    simp [State.keeps_iff]
  · intro s h
    exact Runs.of (execErrorLogIntake_of_full h) rfl
  · intro v s hc h
    refine Runs.of ((if_pos hc).trans (congrArg Host.Outcome.next (if_pos h))) ⟨rfl, rfl, rfl, rfl, ?_⟩
    simp [State.keeps_iff]
  · intro v s hc h
    refine Runs.of ((if_pos hc).trans (congrArg Host.Outcome.next (if_neg (Nat.not_le.2 h)))) ⟨rfl, ?_, report_keeps⟩
    exact (arrive_frame ..).2.1
  · intro v
    obtain ⟨h0, h8, h16, h21, -⟩ := ckptCfgStored_fields v
    rw [h0, h8, h16, h21]
    omega
  · intro x v s hc himg
    refine Runs.of (execErrCkptCfgWrite_of_free hc himg) ⟨?_, fun off ho => State.reg_setReg_ne _ _ ho, setReg_keeps⟩
    obtain ⟨-, -, -, -, hlt⟩ := ckptCfgStored_fields v.toNat
    rw [State.reg_setReg_self]
    omega
  · intro x v s hc himg hne
    refine Runs.of (execErrCkptCfgWrite_of_image hc himg hne) ?_
    rw [State.accState, reg_of_keeps report_keeps (by decide), State.reg_setReg_self, fld_mod_two_pow _ (by decide),
      fld_mod_two_pow _ (by decide), fld_setFld_self, fld_setFld_of_disjoint _ _ (.inl (by decide))]
    obtain ⟨-, -, -, h21, -⟩ := ckptCfgStored_fields v.toNat
    rw [h21]
    exact ⟨rfl, Nat.mod_eq_of_lt (fld_lt ..), keeps_trans (keeps_mono setReg_keeps (by decide)) (keeps_mono report_keeps (by decide))⟩

end Sys2Proof.Machine
end

section
/-!
PROOF. What recoveries, refits and changes of the mode leave of a tenant's run (R25, R38, R216 to R227): its run state, its holds,
its count of ecycles and its image.
-/
namespace Sys2Proof.Machine

/-! ### A tenant's run -/

/-- A tenant in the same run state, with the same holds, count and image. -/
def Tenant.sameRun (v w : Tenant) : Prop :=
  w.run = v.run ∧ w.back = v.back ∧ w.holds = v.holds ∧ w.done = v.done ∧ w.img = v.img

theorem Tenant.sameRun.refl (v : Tenant) : v.sameRun v := ⟨rfl, rfl, rfl, rfl, rfl⟩
theorem Tenant.sameRun.trans {u v w : Tenant} (h : u.sameRun v) (k : v.sameRun w) : u.sameRun w :=
  ⟨k.1.trans h.1, k.2.1.trans h.2.1, k.2.2.1.trans h.2.2.1, k.2.2.2.1.trans h.2.2.2.1, k.2.2.2.2.trans h.2.2.2.2⟩
theorem Tenant.sameRun.eff {v w : Tenant} (h : v.sameRun w) : w.eff = v.eff := by
  rw [Tenant.eff, h.1, h.2.1, Tenant.eff]
theorem Tenant.renewed.sameRun {v w : Tenant} (h : v.renewed w) : v.sameRun w := by
  obtain ⟨_, _, rfl⟩ := h
  exact .refl _

/-- Every tenant runs, or stands, as it did. -/
def State.sameRuns (s t : State) : Prop := ∀ y, (s.ten y).sameRun (t.ten y)

theorem State.sameRuns.refl (s : State) : s.sameRuns s := fun _ => .refl _
theorem State.sameRuns.trans {s t u : State} (h : s.sameRuns t) (k : t.sameRuns u) : s.sameRuns u := fun y => (h y).trans (k y)
theorem State.sameRuns.of_keeps {s t : State} {a : List Part} (h : s.keeps t a) (n : .tenants ∉ a) : s.sameRuns t := fun y => by
  rw [ten_of_keeps h n]
  exact .refl _
theorem State.sameRuns.updTen {s : State} {x : Nat} {f : Tenant → Tenant} (h : (s.ten x).sameRun (f (s.ten x))) :
    s.sameRuns (s.updTen x f) := fun y => by
  by_cases hy : y = x
  · subst hy
    rw [State.ten_updTen]
    exact h
  · rw [State.ten_updTen_ne _ _ hy]
    exact .refl _
theorem State.sameRuns.foldl {α : Type} {f : State → α → State} (h : ∀ (s : State) x, s.sameRuns (f s x)) (l : List α) (s : State) :
    s.sameRuns (l.foldl f s) :=
  List.foldlRecOn (motive := fun (t : State) => s.sameRuns t) _ _ (.refl s) fun t ht x _ => ht.trans (h t x)
theorem State.sameRuns.ite {s t u : State} {p : Prop} [Decidable p] (ht : s.sameRuns t) (hu : s.sameRuns u) :
    s.sameRuns (if p then t else u) := by
  by_cases h : p
  · rwa [if_pos h]
  · rwa [if_neg h]

/-! ### Frames of the operations -/

theorem keeps_then_foldl {α : Type} {a : List Part} {s t : State} {f : State → α → State} (hf : ∀ (u : State) x, u.keeps (f u x) a)
    (l : List α) (h : s.keeps t a) : s.keeps (l.foldl f t) a := keeps_trans h (keeps_foldl a f hf l t)

theorem passEpoch_keeps {s : State} {l m : Nat} : s.keeps (s.passEpoch l m) [.fm] := by
  simp [State.keeps_iff, State.passEpoch]

theorem tokSpan_keeps {s : State} {x : Nat} {k : Token} : s.keeps (s.tokSpan x k) [.lat] := by
  unfold State.tokSpan
  split
  · simp [State.keeps_iff]
  · exact keeps_refl

theorem sendNow_keeps {s : State} {x : Nat} : s.keeps (s.sendNow x) [.lat] := by
  unfold State.sendNow State.sendBnd
  exact keeps_foldl _ _ (fun _ _ => tokSpan_keeps) _ s

theorem endRebal_keeps {s : State} {x st : Nat} : s.keeps (s.endRebal x st) [.sched, .host, .fm] := by
  unfold State.endRebal
  split
  · refine keeps_trans (t := { s with sched := { s.sched with rebal := _ } }) ?_ (keeps_mono complete_keeps (by decide))
    simp [State.keeps_iff]
  · exact keeps_refl

theorem endRefit_keeps {s : State} {x : Nat} : s.keeps (s.endRefit x) [.dev] := by
  simp [State.keeps_iff, State.endRefit]

theorem moveTiles_keeps {s : State} {x : Nat} {pairs : List (Nat × Nat)} : s.keeps (s.moveTiles x pairs) [.fm, .tiles, .sched] := by
  unfold State.moveTiles
  split
  · exact keeps_refl
  · refine keeps_then_foldl (fun s e => ?_) _ (keeps_then_foldl (fun s e => ?_) _ (keeps_foldl _ _ (fun s e => ?_) _ s))
    · simp [State.keeps_iff, State.updTile, State.setTile]
    · simp [State.keeps_iff, State.updTile, State.setTile]
    · exact keeps_mono passEpoch_keeps (by decide)

/-- Drain markers go out, and the tenant waits for them. -/
theorem sendMarkers_eq (s : State) (x e : Nat) :
    ∃ u, s.keeps u [.lat] ∧ s.sendMarkers x e = u.updTen x (fun v => { v with drained := false }) := by
  refine ⟨_, keeps_foldl [.lat] _ (fun s o => ?_) _ s, rfl⟩
  cases o <;> simp [State.keeps_iff]

theorem sendMarkers_sameRuns (s : State) (x e : Nat) : s.sameRuns (s.sendMarkers x e) := by
  obtain ⟨u, hu, h⟩ := sendMarkers_eq s x e
  rw [h]
  exact (State.sameRuns.of_keeps hu (by decide)).trans (.updTen ⟨rfl, rfl, rfl, rfl, rfl⟩)

/-- The epochs of some tiles advance. -/
def State.bumpEpochs (s : State) (ls : List Nat) : State := ls.foldl (fun (s : State) l => { s with fm := { s.fm with
  remap := Map.set s.fm.remap l { s.remap l with epoch := ((s.remap l).epoch + 1) % 16 } } }) s

theorem bumpEpochs_frame (s : State) (ls : List Nat) : s.keeps (s.bumpEpochs ls) [.fm] ∧
    (s.bumpEpochs ls).fm.recoveries = s.fm.recoveries :=
  List.foldlRecOn (motive := fun (t : State) => s.keeps t [.fm] ∧ t.fm.recoveries = s.fm.recoveries) _ _ ⟨keeps_refl, rfl⟩
    fun t ht l _ => ⟨keeps_trans ht.1 (by simp [State.keeps_iff]), ht.2⟩

theorem advance_eq (s : State) (x : Nat) (ls : List Nat) :
    ∃ u, s.keeps u [.fm, .lat] ∧ u.fm.recoveries = s.fm.recoveries ∧ s.advance x ls = u.updTen x (fun v => { v with drained := false }) := by
  obtain ⟨hep, hrec⟩ := bumpEpochs_frame s ls
  obtain ⟨u, hu, h⟩ := sendMarkers_eq (s.bumpEpochs ls) x (((((s.bumpEpochs ls).boundTiles x).head?).map
    (fun l => ((s.bumpEpochs ls).remap l).epoch)).getD 0)
  refine ⟨u, keeps_trans (keeps_mono hep (by decide)) (keeps_mono hu (by decide)), ?_, h⟩
  rw [show u.fm = (s.bumpEpochs ls).fm from hu .fm (by decide), hrec]

theorem advance_sameRuns (s : State) (x : Nat) (ls : List Nat) : s.sameRuns (s.advance x ls) := by
  obtain ⟨u, hu, -, h⟩ := advance_eq s x ls
  rw [h]
  exact (State.sameRuns.of_keeps hu (by decide)).trans (.updTen ⟨rfl, rfl, rfl, rfl, rfl⟩)

theorem closeRefit_sameRuns (s : State) (x : Nat) : s.sameRuns (s.closeRefit x) := by
  unfold State.closeRefit
  refine .ite (.updTen ⟨rfl, rfl, rfl, rfl, rfl⟩) (.ite ?_ (.updTen ⟨rfl, rfl, rfl, rfl, rfl⟩))
  exact (State.sameRuns.updTen ⟨rfl, rfl, rfl, rfl, rfl⟩).trans (.of_keeps sendNow_keeps (by decide))

/-- A refit that goes on may stop its tenant's boundary and move its tiles, not change its run. -/
theorem refitStep_sameRuns (s : State) : s.sameRuns s.refitStep := by
  unfold State.refitStep
  split
  · exact .refl s
  · refine .ite (.ite (.refl s) ?_) (.ite ?_ (.refl s))
    · dsimp only
      split
      · exact .of_keeps (a := [.edg, .sched]) (by simp [State.keeps_iff, State.askTokens]) (by decide)
      · refine State.sameRuns.trans ?_ (closeRefit_sameRuns _ _)
        exact .of_keeps (a := [.edg, .sched]) (by simp [State.keeps_iff, State.askTokens]) (by decide)
    · dsimp only
      split
      · exact .of_keeps endRefit_keeps (by decide)
      · refine .ite ?_ (.ite (.ite (.refl s) (closeRefit_sameRuns _ _)) (.ite ?_ (.ite (.refl s) ?_)))
        · exact .of_keeps (keeps_trans (keeps_mono endRebal_keeps (by decide)) (keeps_mono endRefit_keeps (by decide)) :
            s.keeps _ [.sched, .host, .fm, .dev]) (by decide)
        · exact .of_keeps (a := [.sched]) (by simp [State.keeps_iff, State.askTokens]) (by decide)
        · refine State.sameRuns.trans ?_ (.updTen ⟨rfl, rfl, rfl, rfl, rfl⟩)
          refine State.sameRuns.trans ?_ (.of_keeps (keeps_trans (keeps_mono endRebal_keeps (by decide))
            (keeps_mono endRefit_keeps (by decide)) : State.keeps _ _ [.sched, .host, .fm, .dev]) (by decide))
          exact (State.sameRuns.of_keeps moveTiles_keeps (by decide)).trans (advance_sameRuns _ _ _)

theorem refitsGo_sameRuns (s : State) : s.sameRuns s.refitsGo := .foldl (fun s _ => refitStep_sameRuns s) _ s

theorem setMode_sameRuns (s : State) (m : Mode) : s.sameRuns (s.setMode m) := .of_keeps setMode_keeps (by decide)

theorem remode_sameRuns (s : State) : s.sameRuns s.remode := by
  unfold State.remode
  refine .ite ?_ (.refl s)
  exact ((setMode_sameRuns _ _).trans (refitsGo_sameRuns _)).trans (setMode_sameRuns _ _)

theorem place_sameRuns (s : State) : s.sameRuns s.place := fun y => (place_ten s y).sameRun

/-! ### A change of the mode with no refit to carry out -/

/-- No refit is first in order, or a recovery is, which ends by its placement. -/
def State.noRefit (s : State) : Prop := ∀ x, s.dev.refits.head? = some x → x < 256

theorem refitStep_of_noRefit {s : State} (h : s.noRefit) : s.refitStep = s := by
  unfold State.refitStep
  split
  · rfl
  · rename_i x rest hx
    have hlt : x < 256 := h x (by rw [hx]; rfl)
    rw [if_neg (by omega), if_neg (by omega)]

theorem refitsGo_of_noRefit {s : State} (h : s.noRefit) : s.refitsGo = s :=
  List.foldlRecOn (motive := fun t => t = s) _ _ rfl fun t ht _ _ => by rw [ht, refitStep_of_noRefit h]

theorem setMode_refits (s : State) (m : Mode) : (s.setMode m).dev.refits = s.dev.refits := by
  unfold State.setMode
  split
  · rfl
  · dsimp only
    rw [show ∀ u : State, (u.msix 0 9).dev = u.dev from fun u => msix_keeps .dev (by decide)]
    rfl

/-- The mode alone follows. -/
theorem remode_of_noRefit {s : State} (h : s.noRefit) : s.remode = s ∨
    ∃ m n, s.remode = (s.setMode m).setMode n := by
  unfold State.remode
  split
  · refine .inr ⟨s.rankedMode, (s.setMode s.rankedMode).rankedMode, ?_⟩
    have hnext : (s.setMode s.rankedMode).noRefit := fun x hx => h x (by rwa [setMode_refits] at hx)
    dsimp only
    rw [refitsGo_of_noRefit hnext]
  · exact .inl rfl

theorem remode_keeps {s : State} (h : s.noRefit) : s.keeps s.remode [.dev, .fm, .host] := by
  rcases remode_of_noRefit h with hr | ⟨m, n, hr⟩
  · rw [hr]
    exact keeps_refl
  · rw [hr]
    exact keeps_trans (keeps_mono setMode_keeps (by decide)) (keeps_mono setMode_keeps (by decide))

/-- What a report or a change of the mode leaves of the fault manager's counters. -/
def FaultMgr.sameCounts (f g : FaultMgr) : Prop :=
  g.recoveries = f.recoveries ∧ g.lateLost = f.lateLost ∧ g.remap = f.remap ∧ g.bad = f.bad

theorem FaultMgr.sameCounts.trans {f g h : FaultMgr} (a : f.sameCounts g) (b : g.sameCounts h) : f.sameCounts h :=
  ⟨b.1.trans a.1, b.2.1.trans a.2.1, b.2.2.1.trans a.2.2.1, b.2.2.2.trans a.2.2.2⟩

theorem arrive_sameCounts (f : FaultMgr) (r : Report) : f.sameCounts (f.arrive r) := by
  unfold FaultMgr.arrive
  dsimp only
  split
  · exact ⟨rfl, rfl, rfl, rfl⟩
  · split
    · exact ⟨rfl, rfl, rfl, rfl⟩
    · split <;> exact ⟨rfl, rfl, rfl, rfl⟩

theorem setMode_sameCounts (s : State) (m : Mode) : s.fm.sameCounts (s.setMode m).fm := by
  unfold State.setMode
  split
  · exact ⟨rfl, rfl, rfl, rfl⟩
  · dsimp only
    rw [show ∀ u : State, (u.msix 0 9).fm = u.fm from fun u => msix_keeps .fm (by decide)]
    exact arrive_sameCounts _ _

theorem remode_sameCounts {s : State} (h : s.noRefit) : s.fm.sameCounts s.remode.fm := by
  rcases remode_of_noRefit h with hr | ⟨m, n, hr⟩
  · rw [hr]
    exact ⟨rfl, rfl, rfl, rfl⟩
  · rw [hr]
    exact (setMode_sameCounts _ _).trans (setMode_sameCounts _ _)

end Sys2Proof.Machine
end

section
/-!
PROOF. Recoveries: the watchdog, the placement, the restore, the partition timeout and late errors (R70, R216 to R219, R227, R228).
-/
namespace Sys2Proof.Machine

/-! ### The start of a recovery -/

theorem markBad_keeps {s : State} {n : Nat} : s.keeps (s.markBad n) [.fm] := by
  unfold State.markBad
  split
  · exact keeps_refl
  · simp [State.keeps_iff]

theorem haltTenant_keeps {s : State} {x : Nat} {h : Halt} : s.keeps (s.haltTenant x h) [.tiles] :=
  keeps_foldl _ _ (fun _ _ => updTile_keeps) _ s

theorem mem_boundTiles {s : State} {x l : Nat} : l ∈ s.boundTiles x ↔ l < 192 ∧ (s.ltile l).bound = true ∧ (s.ltile l).ten = x := by
  simp [State.boundTiles]

/-- Every tile of the tenant stands halted. -/
theorem haltTenant_halt {s : State} {x l : Nat} (h : Halt) (hl : l ∈ s.boundTiles x) : ((s.haltTenant x h).tile l).halt.isSome = true := by
  have hall : ∀ (ls : List Nat) (u : State), l ∈ ls ∨ (u.tile l).halt.isSome = true →
      ((ls.foldl (fun s l => s.updTile l (fun v => v.stopAt h)) u).tile l).halt.isSome = true := by
    intro ls
    induction ls with
    | nil => exact fun u hu => hu.resolve_left (List.not_mem_nil)
    | cons m ms ih =>
      intro u hu
      refine ih _ ?_
      by_cases hm : l = m
      · subst hm
        right
        rw [State.tile_updTile]
        unfold Tile.stopAt
        split
        · assumption
        · rfl
      · rcases hu with hu | hu
        · exact .inl ((List.mem_cons.1 hu).resolve_left hm)
        · right
          rwa [State.tile_updTile_ne _ _ hm]
  exact hall _ s (.inl hl)

/-- The record of a recovery that begins. -/
def newRecovery (kind : RecKind) (lt : Option Nat) (k upTo g seq : Nat) : Recovery :=
  { kind := kind, phase := .stopped, k := k, upTo := upTo, gen := g, logSeq := seq, ltiles := addTile lt [], failedAt := none
    suspended := false }

/-- The faulty tile of a recovery, if it has one, is marked. -/
def State.markFaulty (s : State) (lt : Option Nat) : State := match lt with | some l => s.markBad (s.ptile l) | none => s

theorem markFaulty_keeps {s : State} {lt : Option Nat} : s.keeps (s.markFaulty lt) [.fm] := by
  cases lt
  · exact keeps_refl
  · exact markBad_keeps

/-- The tenant as its recovery begins, before its tiles stop. -/
def State.recovering (s : State) (x : Nat) (r : Recovery) (lt : Option Nat) : State :=
  { s.markFaulty lt with dev := { (s.markFaulty lt).dev with refits := refitOrder x (s.markFaulty lt).dev.refits } : State }.updTen x
    (fun v => { v with
      recov := some r, affected := true, gen := r.gen, refitHeld := s.edg.pr.any (fun n => decide (s.regionOwner n = some x))
      reqs := v.reqs.filter (fun (q : Req) => decide (q.kind ≠ .refit)) })

theorem recovering_frame (s : State) (x : Nat) (r : Recovery) (lt : Option Nat) :
    s.keeps (s.recovering x r lt) [.dev, .tenants, .fm] ∧ (s.recovering x r lt).dev.refits = refitOrder x s.dev.refits ∧
      ((s.recovering x r lt).ten x).recov = some r ∧ ((s.recovering x r lt).ten x).affected = true ∧
      (s.ten x).sameRun ((s.recovering x r lt).ten x) := by
  have hmark : s.keeps (s.markFaulty lt) [.fm] := markFaulty_keeps
  have hten := ten_of_keeps hmark (by decide) x
  have hdev : (s.markFaulty lt).dev = s.dev := hmark .dev (by decide)
  unfold State.recovering
  generalize s.markFaulty lt = u at hmark hten hdev
  rw [State.ten_updTen]
  refine ⟨?_, ?_, rfl, rfl, ?_⟩
  · refine keeps_trans (keeps_mono hmark (by decide)) (keeps_trans (t := { u with dev := _ }) ?_ (keeps_mono updTen_keeps (by decide)))
    simp [State.keeps_iff]
  · rw [← hdev]
    rfl
  · rw [← hten]
    exact ⟨rfl, rfl, rfl, rfl, rfl⟩

theorem beginRecovery_eq {s : State} {x : Nat} (hr : (s.ten x).recov = none) (kind : RecKind) (lt : Option Nat) (k g seq : Nat) :
    s.beginRecovery x kind lt k g seq = ((((s.recovering x (newRecovery kind lt k (s.ten x).done g seq) lt).haltTenant x
      .recovery).faultEvent x 1 seq (s.ten x).lastEcyc)).remode := by
  unfold State.beginRecovery
  simp only [hr]
  rfl

theorem faultEvent_keeps {s : State} {x e q k : Nat} : s.keeps (s.faultEvent x e q k) [.chv] := trace_keeps

/-- A recovery that begins with no refit under way: the tenant has stopped, and waits for its placement. -/
theorem beginRecovery_of_none {s : State} {x : Nat} (hr : (s.ten x).recov = none) (hrefits : s.dev.refits = []) (hx : x < 256)
    (kind : RecKind) (lt : Option Nat) (k g seq : Nat) :
    ((s.beginRecovery x kind lt k g seq).ten x).recov = some (newRecovery kind lt k (s.ten x).done g seq) ∧
      ((s.beginRecovery x kind lt k g seq).ten x).affected = true ∧
      (s.ten x).sameRun ((s.beginRecovery x kind lt k g seq).ten x) ∧
      (∀ l, l ∈ s.boundTiles x → ((s.beginRecovery x kind lt k g seq).tile l).halt.isSome = true) ∧
      s.keeps (s.beginRecovery x kind lt k g seq) [.dev, .tenants, .fm, .tiles, .chv, .host] := by
  obtain ⟨hkeeps, hnext, hrec, haff, hrun⟩ := recovering_frame s x (newRecovery kind lt k (s.ten x).done g seq) lt
  rw [beginRecovery_eq hr]
  generalize s.recovering x (newRecovery kind lt k (s.ten x).done g seq) lt = u at hkeeps hnext hrec haff hrun
  have hhalt : u.keeps (u.haltTenant x .recovery) [.tiles] := haltTenant_keeps
  have hevent : (u.haltTenant x .recovery).keeps ((u.haltTenant x .recovery).faultEvent x 1 seq (s.ten x).lastEcyc) [.chv] :=
    faultEvent_keeps
  have hstop : ∀ l, l ∈ s.boundTiles x → ((u.haltTenant x .recovery).tile l).halt.isSome = true := fun l hl =>
    haltTenant_halt .recovery (by rwa [State.boundTiles, show u.ltile = s.ltile from by
      funext l; rw [State.ltile, show u.sched = s.sched from hkeeps .sched (by decide)]; rfl])
  have hbefore : u.keeps ((u.haltTenant x .recovery).faultEvent x 1 seq (s.ten x).lastEcyc) [.tiles, .chv] :=
    keeps_trans (keeps_mono hhalt (by decide)) (keeps_mono hevent (by decide))
  have hno : ((u.haltTenant x .recovery).faultEvent x 1 seq (s.ten x).lastEcyc).noRefit := fun y hy => by
    rw [congrArg Dev.refits (hbefore .dev (by decide)), hnext, hrefits] at hy
    exact Option.some.inj hy ▸ hx
  have hmode := remode_keeps hno
  have hten := (ten_of_keeps hmode (by decide) x).trans (ten_of_keeps hbefore (by decide) x)
  rw [hten]
  refine ⟨hrec, haff, hrun, fun l hl => ?_, ?_⟩
  · rw [tile_of_keeps hmode (by decide), tile_of_keeps hevent (by decide)]
    exact hstop l hl
  · exact keeps_trans (keeps_mono hkeeps (by decide)) (keeps_trans (keeps_mono hbefore (by decide)) (keeps_mono hmode (by decide)))

/-- A recovery that starts: it begins, and a tenant that spans modules tells its neighbours. -/
theorem startRecovery_of_none {s : State} {x : Nat} (hr : (s.ten x).recov = none) (kind : RecKind) (lt : Option Nat) (seq : Nat) :
    ∃ g u, u = s.beginRecovery x kind lt (s.restorePoint x) g seq ∧ u.keeps (s.startRecovery x kind lt seq) [.lat] := by
  unfold State.startRecovery
  simp only [hr]
  refine ⟨_, _, rfl, keeps_ite tokSpan_keeps keeps_refl⟩

/-! ### The watchdog (R218) -/

theorem watchdogOne_ten (s : State) (x l : Nat) : ∃ e, (s.watchdogOne x l).2.ten x = { s.ten x with transient := e } :=
  ⟨_, State.ten_setTen _ _ _⟩

theorem watchdogOne_keeps {s : State} {x l : Nat} : s.keeps (s.watchdogOne x l).2 [.fm, .tenants] :=
  keeps_trans (keeps_mono report_keeps (by decide)) (keeps_mono setTen_keeps (by decide))

theorem watchdogOne_restorePoint (s : State) (x l : Nat) : (s.watchdogOne x l).2.restorePoint x = s.restorePoint x := by
  obtain ⟨e, he⟩ := watchdogOne_ten s x l
  have hwin : (s.watchdogOne x l).2.window x = s.window x := by
    rw [State.window, State.rfld, reg_of_keeps watchdogOne_keeps (by decide), State.window, State.rfld]
  simp only [State.restorePoint, State.lag, he, hwin]
  rfl

theorem execWatchdogExpire_one {l : TileId} {x : Nat} {s : State} (hb : (s.ltile l).bound = true) (hx : (s.ltile l).ten = x)
    (hw : s.waitsLocal l = true) (hh : (s.tile l).halt = none) (hm : s.dev.mode ≠ .safe) :
    ∃ lt seq, execWatchdogExpire l [] s = .next ((s.watchdogOne x l).2.startRecovery x .masked lt seq) := by
  unfold execWatchdogExpire
  simp only [List.map_nil, List.filter_nil, List.filter_cons, hb, hw, hh, hx, Option.isNone_none, Bool.and_self, if_true, List.head?_cons,
    hm, ne_eq, not_false_eq_true, and_self, List.foldl_cons, List.foldl_nil]
  cases (s.watchdogOne x l).1
  · exact ⟨_, _, rfl⟩
  · exact ⟨_, _, rfl⟩

/-! ### The placement (R216, R217) -/

theorem Map.get_map_val {α : Type} (f : α → α) (m : Map α) {d : α} (h : f d = d) (k : Nat) :
    Map.get (m.map (fun e => (e.1, f e.2))) d k = f (Map.get m d k) := by
  induction m with
  | nil => exact h.symm
  | cons e r ih =>
    by_cases hk : e.1 = k
    · simp [Map.get, hk]
    · simpa [Map.get, hk] using ih

/-- With no faulty tile to place, a placement takes the tiles off every recovery that has stopped. -/
theorem placeFaulty_of_none {s : State} (h : s.faultyTiles = []) : s.keeps s.placeFaulty [.tenants] ∧ ∀ y, s.placeFaulty.ten y =
    { s.ten y with recov := (s.ten y).recov.map (fun r => if r.phase = .stopped then { r with ltiles := [] } else r) } := by
  unfold State.placeFaulty
  rw [h]
  exact ⟨by simp [State.keeps_iff, State.placeAll], fun y => Map.get_map_val (fun (v : Tenant) => { v with
    recov := v.recov.map (fun r => if r.phase = .stopped then { r with ltiles := [] } else r) }) s.tenants rfl y⟩

theorem dropInFlight_frame (s : State) (x : Nat) : s.keeps (s.dropInFlight x) [.noc, .fm] ∧
    (s.dropInFlight x).fm.recoveries = s.fm.recoveries := ⟨by simp [State.keeps_iff, State.dropInFlight], rfl⟩
theorem discardMessages_keeps {s : State} {x : Nat} : s.keeps (s.discardMessages x) [.host] := by
  simp [State.keeps_iff, State.discardMessages]

/-- Before its restore asks for tokens: the epochs have advanced, and what was in flight has been dropped. -/
theorem discarded_frame (s : State) (x : Nat) : ∃ u, u = ((s.advanceEpochs x).dropInFlight x).discardMessages x ∧
    s.keeps u [.fm, .lat, .tenants, .noc, .host] ∧ u.fm.recoveries = s.fm.recoveries ∧
    u.ten x = { s.ten x with drained := false } := by
  obtain ⟨v, hv, hvrec, hadv⟩ := advance_eq s x (s.boundTiles x)
  obtain ⟨hdrop, hdroprec⟩ := dropInFlight_frame (s.advanceEpochs x) x
  have hdisc := discardMessages_keeps (s := (s.advanceEpochs x).dropInFlight x) (x := x)
  have hten : (s.advanceEpochs x).ten x = { s.ten x with drained := false } := by
    rw [State.advanceEpochs, hadv, State.ten_updTen, ten_of_keeps hv (by decide)]
  have hkeeps : s.keeps (s.advanceEpochs x) [.fm, .lat, .tenants] := by
    rw [State.advanceEpochs, hadv]
    exact keeps_trans (keeps_mono hv (by decide)) (keeps_mono updTen_keeps (by decide))
  have hrec : (s.advanceEpochs x).fm.recoveries = s.fm.recoveries := by
    rw [State.advanceEpochs, hadv]
    exact hvrec
  refine ⟨_, rfl, ?_, ?_, ?_⟩
  · exact keeps_trans (keeps_mono hkeeps (by decide)) (keeps_trans (keeps_mono hdrop (by decide)) (keeps_mono hdisc (by decide)))
  · exact (congrArg FaultMgr.recoveries (hdisc .fm (by decide))).trans (hdroprec.trans hrec)
  · rw [ten_of_keeps hdisc (by decide), ten_of_keeps hdrop (by decide), hten]

/-- The refit of a recovery that is alone ends with its placement, and the tenant's restore begins. -/
theorem placed_of_alone {s : State} {x : Nat} {r : Recovery} (hr : (s.ten x).recov = some r) (hrefits : s.dev.refits = [x]) :
    (∃ n, ((s.placed x).ten x).recov = some { r with phase := .placed, ltiles := [], tok := n }) ∧
      (s.placed x).fm.recoveries = s.fm.recoveries ∧ ((s.placed x).ten x).done = (s.ten x).done ∧ (s.placed x).ds = s.ds ∧
      (s.placed x).regs = s.regs := by
  obtain ⟨u, hu, hkeeps, hrec, hten⟩ := discarded_frame s x
  unfold State.placed
  rw [← hu]
  dsimp only
  generalize hv : State.updTen _ x _ = v
  have hvten : ∃ n, v.ten x = { s.ten x with drained := false, recov := some { r with phase := .placed, ltiles := [], tok := n } } := by
    refine ⟨(u.askTokens 0 x (stateSlot (u.ten x).ntiles)).1, ?_⟩
    rw [← hv, State.ten_updTen, ten_of_keeps askTokens_keeps (by decide), hten, hr]
    rfl
  have hvkeeps : u.keeps v [.sched, .tenants] := by
    rw [← hv]
    exact keeps_trans (keeps_mono askTokens_keeps (by decide)) (keeps_mono updTen_keeps (by decide))
  generalize Option.getD _ 0 = n
  have hevent : v.keeps (v.faultEvent x 2 n (v.ten x).lastEcyc) [.chv] := faultEvent_keeps
  generalize v.faultEvent x 2 n (v.ten x).lastEcyc = w at hevent
  have hbefore : s.keeps w [.fm, .lat, .tenants, .noc, .host, .sched, .chv] :=
    keeps_trans (keeps_mono hkeeps (by decide)) (keeps_trans (keeps_mono hvkeeps (by decide)) (keeps_mono hevent (by decide)))
  have hend : (w.endRefit x).dev.refits = [] := by
    have hw : w.dev.refits = [x] := (congrArg Dev.refits (hbefore .dev (by decide))).trans hrefits
    simp [State.endRefit, hw, removeFirst]
  have hno : (w.endRefit x).noRefit := fun y hy => by rw [hend] at hy; cases hy
  have hmode := remode_keeps hno
  have hendk : w.keeps (w.endRefit x) [.dev] := endRefit_keeps
  have hplace := place_keeps (s := (w.endRefit x).remode)
  have hall := keeps_trans (keeps_mono hbefore (by decide)) (keeps_trans (keeps_mono hendk (by decide)) (keeps_trans
    (keeps_mono hmode (by decide)) (keeps_mono hplace (by decide) : State.keeps _ _ [.fm, .lat, .tenants, .noc, .host, .sched, .chv, .dev, .pwr])))
  have hfm : ((w.endRefit x).remode).place.fm.recoveries = s.fm.recoveries := by
    rw [show ((w.endRefit x).remode).place.fm = (w.endRefit x).remode.fm from hplace .fm (by decide), (remode_sameCounts hno).1,
      show (w.endRefit x).fm = w.fm from rfl, show w.fm = v.fm from hevent .fm (by decide), show v.fm = u.fm from hvkeeps .fm (by decide),
      hrec]
  obtain ⟨a, b, hren⟩ := place_ten ((w.endRefit x).remode) x
  obtain ⟨n, hvten⟩ := hvten
  rw [hren, ten_of_keeps hmode (by decide), ten_of_keeps hendk (by decide), ten_of_keeps hevent (by decide), hvten]
  exact ⟨⟨n, rfl⟩, hfm, rfl, hall .ds (by decide), hall .regs (by decide)⟩

theorem boundTiles_of_sched {s t : State} (h : t.sched = s.sched) (x : Nat) : t.boundTiles x = s.boundTiles x := by
  simp only [State.boundTiles, State.ltile, h]
  rfl

theorem allPlaced_congr {s t : State} (hs : t.sched = s.sched) (hb : t.fm.bad = s.fm.bad) (hm : t.fm.remap = s.fm.remap) (x : Nat) :
    t.allPlaced x = s.allPlaced x := by
  have hhealthy : t.healthy = s.healthy := by
    funext l
    simp only [State.healthy, State.ptile, State.remap, hb, hm]
  rw [State.allPlaced, boundTiles_of_sched hs, hhealthy, State.allPlaced]

/-- The state in which a recovery with nothing faulty is placed: counted, and with its power asked for. -/
def State.countedPlacement (s : State) (x : Nat) : State :=
  let u := s.placeFaulty.wantPower (s.placeFaulty.boundTiles x)
  { u with fm := { u.fm with recoveries := satInc u.fm.recoveries 0xFFFF } }

theorem execRecoveryPlacement_of_alone {ten : TenId} {r : Recovery} {s : State} (hr : (s.ten ten).recov = some r) (hp : r.phase = .stopped)
    (hd : (s.ten ten).drained = true) (hm : s.dev.mode ≠ .safe) (hrefits : s.dev.refits = [ten.val]) (hfc : s.faultCapture ten = false)
    (hset : s.allSettled ten = true) (hreb : s.rebalOf ten = none) (hk : r.kind ≠ .swapIn)
    (hplaced : (s.countedPlacement ten).allPlaced ten = true) :
    execRecoveryPlacement ten s = .next ((s.countedPlacement ten).placed ten) := by
  have hfirst : s.refitFirst ten = true := by simp [State.refitFirst, hrefits]
  unfold execRecoveryPlacement
  simp only [hr, hp, hd, hm, hfirst, hfc, hset, hreb, hk, ne_eq, not_false_eq_true, and_self, if_true, if_false]
  exact if_pos hplaced

/-! ### The restore (R219) -/

theorem loadTenant_keeps {s : State} {x : Nat} {v : Saved} : s.keeps (s.loadTenant x v) [.tiles, .sched] := by
  unfold State.loadTenant
  split
  · exact keeps_foldl _ _ (fun s l => by simp [State.keeps_iff, State.updTile, State.setTile]) _ s
  · exact keeps_refl

theorem applyJournal_keeps {s : State} {x k : Nat} : s.keeps (s.applyJournal x k) [.ds, .tenants] := by
  refine keeps_trans (t := { s with ds := _ }) ?_ (keeps_mono updTen_keeps (by decide))
  simp [State.keeps_iff]

/-- The tenant with its checkpoint on its tiles, before it replays. -/
def State.reloaded (s : State) (x : Nat) (r : Recovery) (v : Saved) : State :=
  ((s.applyJournal x v.k).loadTenant x v).updTen x (fun y => { y with
    recov := some r, tapVec := [], trapCodes := [], outSeq := [], edgeGrp := [((v.k + 1) % 2, v.edge)], redoMsg := v.redo y.log })

theorem reloaded_frame (s : State) (x : Nat) (r : Recovery) (v : Saved) : ((s.reloaded x r v).ten x).recov = some r ∧
    (s.reloaded x r v).ds = (s.applyJournal x v.k).ds ∧ s.keeps (s.reloaded x r v) [.ds, .tenants, .tiles, .sched] := by
  refine ⟨by rw [State.reloaded, State.ten_updTen], loadTenant_keeps .ds (by decide), ?_⟩
  exact keeps_trans (keeps_mono applyJournal_keeps (by decide)) (keeps_trans (keeps_mono loadTenant_keeps (by decide))
    (keeps_mono updTen_keeps (by decide)))

theorem rangePoisoned_of_clean {s : State} (h : s.noc.dsPoison = []) (a n : Nat) : s.rangePoisoned a n = false := by
  simp [State.rangePoisoned, h]

/-- A masked recovery with ecycles to replay: the tenant has its checkpoint, and the mode follows. -/
theorem execRestoreComplete_of_masked {ten : TenId} {newBad oldBad : Bool} {r : Recovery} {v : Saved} {s : State}
    (hr : (s.ten ten).recov = some r) (hp : r.phase = .placed) (ht : s.tokWaits 0 r.tok = false) (hb : s.deepBusy ten = false)
    (hm : s.dev.mode ≠ .safe) (hdark : s.darkDomains (s.boundTiles ten) = []) (hpo : s.noc.dsPoison = [])
    (hv : (s.ten ten).readable r.k newBad oldBad = some v) (hk : v.k = r.k) (hkind : r.kind = .masked) (hlt : v.k < r.upTo) :
    execRestoreComplete ten newBad oldBad s = .next (s.reloaded ten { r with phase := .replay } v).remode := by
  have hr' : ({ r with k := v.k, phase := .replay, upTo := max v.k r.upTo } : Recovery) = { r with phase := .replay } := by
    rw [hk, Nat.max_eq_right (by omega)]
  have hstop : ¬ ({ r with phase := .replay } : Recovery).stopAt ≤ v.k := by
    simp only [Recovery.stopAt, hkind]
    omega
  unfold execRestoreComplete
  simp only [hr, hp, ht, hb, hm, hdark, rangePoisoned_of_clean hpo, hv, hk, Bool.and_false, Bool.or_false, if_true, ne_eq, not_false_eq_true,
    and_self]
  refine congrArg Host.Outcome.next ?_
  unfold State.restored
  dsimp only
  rw [hr', if_neg hstop]
  rfl

/-! ### Partition and late errors (R70, R227, R228) -/

theorem recoveryCpl_keeps {s : State} {x k q a e : Nat} : s.keeps (s.recoveryCpl x k q a e) [.freeCtr, .host, .fm] := by
  refine keeps_trans (t := s.freshNat.2) ?_ (keeps_mono unsolicited_keeps (by decide))
  simp [State.keeps_iff, State.freshNat]

theorem endStepEarly_sameRuns (s : State) (x : Nat) : s.sameRuns (s.endStepEarly x) := by
  unfold State.endStepEarly
  dsimp only
  split
  · refine State.sameRuns.trans (t := s.setTen x { s.ten x with stepCmd := none }) ?_ (.of_keeps complete_keeps (by decide))
    exact State.sameRuns.updTen (f := fun v => { v with stepCmd := none }) ⟨rfl, rfl, rfl, rfl, rfl⟩
  · exact .refl s

theorem markStop_sameRuns (s : State) (x : Nat) : s.sameRuns (s.markStop x) := by
  refine State.sameRuns.trans (t := { s with sched := _ }) (.refl s) (.updTen ⟨rfl, rfl, rfl, rfl, rfl⟩)

theorem chargeFault_keeps {s : State} {x n : Nat} : s.keeps (s.chargeFault x n) [.sched] := by
  have hask : s.keeps (if n ≤ (s.faultAcct x).1 then s else s.askFault x n) [.sched] :=
    keeps_ite keeps_refl (by simp [State.keeps_iff, State.askFault, State.setFaultAcct, State.askTokens])
  unfold State.chargeFault
  generalize (if n ≤ (s.faultAcct x).1 then s else s.askFault x n) = u at hask
  exact keeps_trans hask (by simp [State.keeps_iff, State.setFaultAcct])

theorem logAdd_sameRuns (s : State) (x typ e : Nat) (p : List Byte) : s.sameRuns (s.logAdd x typ e p) := by
  unfold State.logAdd
  refine .ite ?_ (.refl s)
  refine State.sameRuns.trans (.updTen (x := x) (f := fun v => { v with
    log := v.log ++ [{ typ := typ, ecyc := e, payload := p }]
    logAt := v.logAt + ({ typ := typ, ecyc := e, payload := p } : LogRec).size }) ⟨rfl, rfl, rfl, rfl, rfl⟩) ?_
  exact .of_keeps (keeps_trans (keeps_mono (keeps_trans dsWrite_keeps dsWrite_keeps) (by decide))
    (keeps_mono chargeFault_keeps (by decide)) : State.keeps _ _ [.ds, .noc, .sched]) (by decide)

theorem closeCkpt_sameRuns (s : State) (x : Nat) : s.sameRuns (s.closeCkpt x) :=
  (State.sameRuns.updTen (x := x) (f := fun v => { v with moving := true, jTag := v.done }) ⟨rfl, rfl, rfl, rfl, rfl⟩).trans
    (.of_keeps capCkpt_keeps (by decide))

theorem earlyCheckpoint_sameRuns (s : State) (x : Nat) : s.sameRuns (s.earlyCheckpoint x) := by
  unfold State.earlyCheckpoint
  refine .ite (.ite (closeCkpt_sameRuns s x) ?_) (.refl s)
  exact State.sameRuns.updTen (x := x) (f := fun v => { v with reqs := _ }) ⟨rfl, rfl, rfl, rfl, rfl⟩

theorem logInput_sameRuns (s : State) (x typ e : Nat) (p : List Byte) : s.sameRuns (s.logInput x typ e p) := by
  unfold State.logInput
  exact .ite ((logAdd_sameRuns s x typ e p).trans (earlyCheckpoint_sameRuns _ _)) (.refl s)

theorem Tenant.eff_setEff_held (v : Tenant) : (v.setEff .held).eff = .held := by
  unfold Tenant.setEff
  split
  · exact if_pos ‹_›
  · rfl

/-- A hold that is raised now is among the tenant's, which stands held. -/
theorem holdNow_one (s : State) (x c : Nat) : c ∈ ((s.holdNow x [c]).ten x).holds ∧ ((s.holdNow x [c]).ten x).eff = .held := by
  have hmem : c ∈ [c].foldr addCause (s.ten x).holds := mem_addCause ..
  unfold State.holdNow
  dsimp only
  split
  · rename_i heff
    rw [State.ten_setTen]
    exact ⟨hmem, heff⟩
  · generalize hu : State.updTen _ x _ = u
    have hten : c ∈ (u.ten x).holds ∧ (u.ten x).eff = .held := by
      rw [← hu, State.ten_updTen]
      exact ⟨hmem, Tenant.eff_setEff_held _⟩
    have hrun : ∀ e p, u.sameRuns ((u.markStop x).logInput x 4 e p) := fun e p =>
      (markStop_sameRuns u x).trans (logInput_sameRuns _ x 4 e p)
    exact ⟨by rw [(hrun _ _ x).2.2.1]; exact hten.1, (hrun _ _ x).eff.trans hten.2⟩

theorem beginRecovery_sameRuns (s : State) (x : Nat) (kind : RecKind) (lt : Option Nat) (k g seq : Nat) :
    s.sameRuns (s.beginRecovery x kind lt k g seq) := by
  unfold State.beginRecovery
  refine State.sameRuns.trans ?_ (remode_sameRuns _)
  refine State.sameRuns.trans ?_ (.of_keeps (keeps_trans (keeps_mono haltTenant_keeps (by decide))
    (keeps_mono faultEvent_keeps (by decide)) : State.keeps _ _ [.tiles, .chv]) (by decide))
  refine State.sameRuns.trans (t := { s.markFaulty lt with dev := _ }) ?_ (.updTen ⟨rfl, rfl, rfl, rfl, rfl⟩)
  exact (State.sameRuns.of_keeps markFaulty_keeps (by decide)).trans (.refl _)

theorem takePartx_sameRuns (s : State) (x m a b c : Nat) : s.sameRuns (s.takePartx x m a b c) := by
  unfold State.takePartx
  have hupd : s.sameRuns (s.updTen x (fun v => { v with partC := Map.set v.partC m a, partK := Map.set v.partK m (b, c) })) :=
    .updTen ⟨rfl, rfl, rfl, rfl, rfl⟩
  dsimp only
  refine .ite (hupd.trans ?_) hupd
  split
  · exact (beginRecovery_sameRuns _ _ _ _ _ _ _).trans (.updTen ⟨rfl, rfl, rfl, rfl, rfl⟩)
  · exact .refl _

/-- The partition holds its tenant; then its neighbours learn of it, and the mode follows. -/
theorem execPartitionTimeout_of_due {ten : TenId} {ms : Nat} {s : State} (hs : (s.ten ten).spans = true) (hd : s.partDue ten ms = true)
    (ho : s.detourOpen ten = false) (hw : s.waitsRemote ten = true) (hh : (s.ten ten).holds = []) (hm : s.dev.mode ≠ .safe) :
    ∃ u k m a b c, execPartitionTimeout ten ms s =
      .next ((((u : State).holdNow ten [2]).tokSpan ten k).takePartx ten m a b c).remode :=
  ⟨_, _, _, _, _, _, if_pos ⟨hs, hd, ho, hw, by rw [hh]; rfl, hm⟩⟩

theorem lateError_of_room {s : State} {x : Nat} (h : (s.host.cpls.filter (fun c => decide (c.fn = x ∧ c.typ = 5))).length < 256)
    (hen : (s.cq x (s.errRing x)).en = true) (addr : Nat) (body : List Byte) : s.lateError x addr body =
      (let u := s.report 0x0130 clsTenant 0 (some x) addr
       { u with host := { u.host with cpls := u.host.cpls ++
         [{ fn := x, cq := s.errRing x, typ := 5, status := 0, sq := 0xFF, body := .raw body, noIrq := false, resv := false }] } }) := by
  have hlt : ((s.report 0x0130 clsTenant 0 (some x) addr).host.cpls.filter (fun c => decide (c.fn = x) && decide (c.typ = 5))).length < 256 := by
    simp only [Bool.decide_and] at h
    exact h
  refine (if_pos h).trans ((if_pos hlt).trans (if_pos hen))

theorem lateError_of_full {s : State} {x : Nat} (h : 256 ≤ (s.host.cpls.filter (fun c => decide (c.fn = x ∧ c.typ = 5))).length)
    (addr : Nat) (body : List Byte) : (s.lateError x addr body).fm.lateLost = s.fm.lateLost + 1 ∧
      (s.lateError x addr body).host = s.host ∧ s.keeps (s.lateError x addr body) [.fm] := by
  have hlost : (s.report 0x0130 clsTenant 0 (some x) addr).fm.lateLost = s.fm.lateLost := (arrive_sameCounts _ _).2.1
  have hfull : s.lateError x addr body = _ := if_neg (Nat.not_lt.2 h)
  rw [hfull]
  refine ⟨?_, rfl, ?_⟩
  · exact (arrive_sameCounts _ _).2.1.trans (congrArg Nat.succ hlost)
  · refine keeps_trans (t := { s.report 0x0130 clsTenant 0 (some x) addr with fm := _ }) ?_ report_keeps
    exact keeps_trans (t := s.report 0x0130 clsTenant 0 (some x) addr) report_keeps (by simp [State.keeps_iff])

/-- Settles O20: the watchdog's recovery, its placement and restore, then partition and late errors. -/
theorem recoveries : Obligations.Recoveries := by
  refine ⟨⟨?_, ?_, ?_⟩, ?_, ?_, ?_⟩
  · intro l x s hb hx hw hh hm hr hrefits
    obtain ⟨lt, seq, hexec⟩ := execWatchdogExpire_one hb hx hw hh hm
    refine Runs.of hexec ?_
    obtain ⟨e, hten⟩ := watchdogOne_ten s x l
    have hone := watchdogOne_keeps (s := s) (x := x) (l := l)
    have hpoint := watchdogOne_restorePoint s x l
    have hmem : l.val ∈ (s.watchdogOne x l).2.boundTiles x := mem_boundTiles.2 ⟨l.isLt, by
      rw [State.ltile, show (s.watchdogOne x l).2.sched = s.sched from hone .sched (by decide)]; exact ⟨hb, hx⟩⟩
    have hdev : (s.watchdogOne x l).2.dev.refits = [] := (congrArg Dev.refits (hone .dev (by decide))).trans hrefits
    have hrec : ((s.watchdogOne x l).2.ten x).recov = none := by rw [hten]; exact hr
    have hdone : ((s.watchdogOne x l).2.ten x).done = (s.ten x).done := by rw [hten]
    generalize (s.watchdogOne x l).2 = u at hone hpoint hmem hdev hrec hdone
    obtain ⟨g, v, hv, hlat⟩ := startRecovery_of_none hrec .masked lt seq
    obtain ⟨hrecov, haff, hrun, hhalt, hkeeps⟩ := beginRecovery_of_none hrec hdev x.isLt .masked lt (u.restorePoint x) g seq
    rw [← hv] at hrecov haff hrun hhalt hkeeps
    have hall := keeps_trans (keeps_mono hone (by decide)) (keeps_trans (keeps_mono hkeeps (by decide)) (keeps_mono hlat (by decide)) :
      u.keeps _ [.dev, .tenants, .fm, .tiles, .chv, .host, .lat])
    rw [ten_of_keeps hlat (by decide), tile_of_keeps hlat (by decide)]
    exact ⟨⟨_, hrecov, rfl, rfl, hpoint, hdone⟩, haff, hrun.2.2.2.1.trans hdone, hhalt l hmem, hall .ds (by decide), hall .regs (by decide)⟩
  · intro ten r s hr hp hl hd hm hrefits hfc hset hreb hfaulty hall hk
    obtain ⟨hpk, hpten⟩ := placeFaulty_of_none hfaulty
    have hck : s.keeps (s.countedPlacement ten) [.tenants, .pwr, .fm] :=
      keeps_trans (keeps_mono hpk (by decide)) (by simp [State.keeps_iff, State.countedPlacement, State.wantPower])
    have hsched : (s.countedPlacement ten).sched = s.sched := hck .sched (by decide)
    have hfm : (s.countedPlacement ten).fm = { s.fm with recoveries := satInc s.fm.recoveries 0xFFFF } := by
      have hpfm : s.placeFaulty.fm = s.fm := hpk .fm (by decide)
      rw [← hpfm]
      rfl
    have hplaced : (s.countedPlacement ten).allPlaced ten = true := by
      rw [allPlaced_congr hsched (by rw [hfm]) (by rw [hfm]), hall]
    have hrec : ((s.countedPlacement ten).ten ten).recov = some r := by
      rw [show (s.countedPlacement ten).ten ten = s.placeFaulty.ten ten from rfl, hpten, hr, Option.map_some, if_pos hp, ← hl]
    have hdone : ((s.countedPlacement ten).ten ten).done = (s.ten ten).done := by
      rw [show (s.countedPlacement ten).ten ten = s.placeFaulty.ten ten from rfl, hpten]
    refine Runs.of (execRecoveryPlacement_of_alone hr hp hd hm hrefits hfc hset hreb hk hplaced) ?_
    have hrefits' : (s.countedPlacement ten).dev.refits = [ten.val] := (congrArg Dev.refits (hck .dev (by decide))).trans hrefits
    obtain ⟨hrecov, hcount, hdone', hds, hregs⟩ := placed_of_alone hrec hrefits'
    refine ⟨hrecov, hcount.trans (by rw [hfm]), hdone'.trans hdone, hds.trans (hck .ds (by decide)), hregs.trans (hck .regs (by decide))⟩
  · intro ten newBad oldBad r v s hr hp ht hb hm hdark hrefits hpo hv hk hkind hlt
    refine Runs.of (execRestoreComplete_of_masked hr hp ht hb hm hdark hpo hv hk hkind hlt) ?_
    obtain ⟨hrec, hds, hkeeps⟩ := reloaded_frame s ten { r with phase := .replay } v
    have hno : (s.reloaded ten { r with phase := .replay } v).noRefit := fun y hy => by
      rw [congrArg Dev.refits (hkeeps .dev (by decide)), hrefits] at hy
      cases hy
    have hmode := remode_keeps hno
    rw [ten_of_keeps hmode (by decide)]
    exact ⟨hrec, (hmode .ds (by decide)).trans hds, (hmode .regs (by decide)).trans (hkeeps .regs (by decide))⟩
  · intro ten ms s hs hd ho hw hh hm
    obtain ⟨u, k, m, a, b, c, hexec⟩ := execPartitionTimeout_of_due hs hd ho hw hh hm
    have hrun := ((State.sameRuns.of_keeps tokSpan_keeps (by decide)).trans (takePartx_sameRuns ((u.holdNow ten [2]).tokSpan ten k)
      ten m a b c)).trans (remode_sameRuns _)
    obtain ⟨hmem, heff⟩ := holdNow_one u ten 2
    exact Runs.of hexec ⟨by rw [(hrun ten).2.2.1]; exact hmem, (hrun ten).eff.trans heff⟩
  · intro ten ring status tag dseq addr mod memid tile s hlt hen
    refine Runs.of (congrArg Host.Outcome.next (lateError_of_room hlt hen _ _)) ⟨rfl, ⟨_, rfl, rfl, rfl, rfl⟩, ?_⟩
    refine keeps_trans (t := s.report 0x0130 3 0 (some ten.val) addr.toNat) (keeps_mono report_keeps (by decide)) ?_
    simp [State.keeps_iff]
  · intro ten ring status tag dseq addr mod memid tile s hle
    exact Runs.of rfl (lateError_of_full hle addr.toNat _)

end Sys2Proof.Machine
end

section
/-!
PROOF. Slices and swaps: placement decisions, the start of a swap, and the tenants that leave and enter the tiles (R28, R236, R242 to
R245, R263).
-/
namespace Sys2Proof.Machine

/-! ### The scheduler's shared operations -/

/-- A placement decision writes no more of the scheduler than what it has chosen. -/
theorem place_sched (s : State) : ∃ c, s.place.sched = { s.sched with chosen := c } := by
  have hrenew : s.renewSlices.sched = s.sched := renewSlices_keeps .sched (by decide)
  unfold State.place
  split
  · exact ⟨s.sched.chosen, rfl⟩
  · dsimp only
    split
    · exact ⟨_, by rw [hrenew]⟩
    · split
      · exact ⟨none, (decision_keeps .sched (by decide)).trans (by rw [hrenew])⟩
      · split
        · exact ⟨none, (decision_keeps .sched (by decide)).trans (by rw [hrenew])⟩
        · exact ⟨_, (wantPower_keeps .sched (by decide)).trans (by rw [hrenew])⟩

theorem place_of_swap {s : State} (h : s.sched.swap.isSome = true) : s.place = s := if_pos h

/-- A scheduler that differs in its map of logical tiles alone. -/
def Sched.sameButTiles (c d : Sched) : Prop := d = { c with ltiles := d.ltiles }

theorem Sched.sameButTiles.trans {c d e : Sched} (h : c.sameButTiles d) (k : d.sameButTiles e) : c.sameButTiles e :=
  (show e = { d with ltiles := e.ltiles } from k).trans (congrArg (fun c : Sched => { c with ltiles := e.ltiles }) h)

theorem Sched.sameButTiles.derateQ {c d : Sched} (h : c.sameButTiles d) : d.derateQ = c.derateQ := by rw [h]
theorem Sched.sameButTiles.derateOut {c d : Sched} (h : c.sameButTiles d) : d.derateOut = c.derateOut := by rw [h]

/-- One tile of a tenant that leaves. -/
def State.leaveTile (s : State) (keep : Bool) (l : Nat) : State :=
  let x := s.ltile l
  let s := s.updTile l Tile.free
  { s with sched := { s.sched with ltiles := Map.set s.sched.ltiles l (if keep then { x with bound := false } else {}) } }

theorem leaveTile_frame (s : State) (keep : Bool) (l : Nat) : s.keeps (s.leaveTile keep l) [.tiles, .sched] ∧
    s.sched.sameButTiles (s.leaveTile keep l).sched :=
  ⟨by simp [State.keeps_iff, State.leaveTile, State.updTile, State.setTile], rfl⟩

theorem unbind_frame (s : State) (x : Nat) (keep : Bool) : s.keeps (s.unbind x keep) [.tiles, .sched] ∧
    s.sched.sameButTiles (s.unbind x keep).sched :=
  List.foldlRecOn (motive := fun (t : State) => s.keeps t [.tiles, .sched] ∧ s.sched.sameButTiles t.sched) _ _
    ⟨keeps_refl, rfl⟩ fun t ht l _ =>
      ⟨keeps_trans ht.1 (leaveTile_frame t keep l).1, ht.2.trans (leaveTile_frame t keep l).2⟩

theorem map_replaceFirst {α β : Type} {p : α → Bool} {f : α → α} {g : α → β} (h : ∀ x, g (f x) = g x) (l : List α) :
    (replaceFirst p f l).map g = l.map g := by
  induction l with
  | nil => rfl
  | cons x xs ih =>
    rw [replaceFirst]
    split
    · rw [List.map_cons, List.map_cons, h]
    · rw [List.map_cons, List.map_cons, ih]

/-- The tenants whose state drains, with that state. -/
def Sched.drains (c : Sched) : List (Nat × Saved) := c.draining.map (fun e => (e.1, e.2.1))

/-- A scheduler in which drains have asked for tokens. -/
def Sched.drainsAsked (c d : Sched) : Prop :=
  d = { c with tokSeq := d.tokSeq, tokens := d.tokens, draining := d.draining } ∧ d.drains = c.drains

/-- One drain asks for its tokens. -/
def State.askDrain (s : State) (e : Nat × Saved × Nat) : State :=
  let r := s.askTokens 2 e.1 (stateSlot e.2.1.tiles.length)
  let d := replaceFirst (fun x => decide (x.1 = e.1 ∧ x.2.2 = 0)) (fun x => (x.1, x.2.1, r.1)) r.2.sched.draining
  { r.2 with sched := { r.2.sched with draining := d } }

theorem askDrain_frame (s : State) (e : Nat × Saved × Nat) :
    s.keeps (s.askDrain e) [.sched] ∧ s.sched.drainsAsked (s.askDrain e).sched :=
  ⟨by simp [State.keeps_iff, State.askDrain, State.askTokens], rfl,
    map_replaceFirst (f := fun x => (x.1, x.2.1, (s.askTokens 2 e.1 (stateSlot e.2.1.tiles.length)).1)) (fun _ => rfl) s.sched.draining⟩

theorem Sched.drainsAsked.trans {c d e : Sched} (h : c.drainsAsked d) (k : d.drainsAsked e) : c.drainsAsked e :=
  ⟨k.1.trans (congrArg (fun c : Sched => { c with tokSeq := e.tokSeq, tokens := e.tokens, draining := e.draining }) h.1),
    k.2.trans h.2⟩

theorem startDrains_frame (s : State) : s.keeps s.startDrains [.sched] ∧ s.sched.drainsAsked s.startDrains.sched :=
  List.foldlRecOn (motive := fun (t : State) => s.keeps t [.sched] ∧ s.sched.drainsAsked t.sched) _ _
    ⟨keeps_refl, rfl, rfl⟩ fun t ht e _ => by
      split
      · exact ⟨keeps_trans ht.1 (askDrain_frame t e).1, ht.2.trans (askDrain_frame t e).2⟩
      · exact ht

theorem derateGo_of_none {s : State} (h : s.sched.derateQ = []) : s.derateGo = s := by
  rw [State.derateGo, h, List.foldl_nil]

/-! ### Slices (R242) -/

theorem execSliceEnd_of_victim {x : TenId} {s : State} (ht : s.inTiles x = true) (hr : (s.ten x).runnable = true) (hm : s.dev.mode ≠ .safe)
    (hv : s.victimNeeded = true) : execSliceEnd x s = .next (s.updTen x (fun v => { v with sliceOver := true })).place := by
  unfold execSliceEnd
  simp only [ht, hr, hm, hv, ne_eq, not_false_eq_true, decide_true, Bool.and_self, if_true]

theorem execSliceEnd_of_noVictim {x : TenId} {s : State} (ht : s.inTiles x = true) (hr : (s.ten x).runnable = true)
    (hm : s.dev.mode ≠ .safe) (hv : s.victimNeeded = false) : ∃ t, execSliceEnd x s = .next t ∧
      (s.updTen x (fun v => { v with sliceOver := false, sliceFrom := s.thy.total })).keeps t [.chv] := by
  unfold execSliceEnd
  simp only [ht, hr, hm, hv, ne_eq, not_false_eq_true, decide_true, Bool.and_self, if_true, Bool.false_eq_true, if_false]
  exact ⟨_, rfl, keeps_ite decision_keeps keeps_refl⟩

/-! ### The start of a swap (R245) -/

section
variable {s : State} {h : Nat} {vs : List Nat}

theorem execSwapStart_of_barred (hb : s.dev.mode = .hold ∨ s.holdCond = true ∨ s.sched.derateOut ≠ []) : execSwapStart s = .next s := by
  unfold execSwapStart
  split
  · refine if_pos ?_
    rcases hb with h | h | h <;> simp [h]
  · rfl

/-- A chosen swap that nothing bars: it waits for power or for its rate, or starts. -/
theorem execSwapStart_of_free (hc : s.sched.chosen = some (h, vs)) (hs : s.sched.swap = none) (hm : s.dev.mode ≠ .hold)
    (hm' : s.dev.mode ≠ .safe) (hh : s.holdCond = false) (hd : s.sched.derateOut = [])
    (hu : s.underRefit (h :: vs) ((s.swapPlan h vs).map (fun e => e.2.1)) = false) :
    execSwapStart s = .next (
      let plan := s.swapPlan h vs
      let ls := plan.map (fun e => e.2.1)
      if !(s.darkDomains ls).isEmpty then s.wantPower ls
      else if s.sched.rate - s.sched.resv < swapRate (s.swapBytes h plan) then
        s.decision 0x0A h 0xFF plan.length (s.swapBytes h plan)
      else
        let w : Swap := { inT := h, victims := vs, emptied := [], rate := swapRate (s.swapBytes h plan) }
        let u := { s with sched := { s.sched with swap := some w, chosen := none, resv := s.sched.resv + w.rate } }
        vs.foldl (fun s v => s.request v .swapOut none) (u.decision 1 h (vs.head?.getD 0xFF) plan.length 0)) := by
  unfold execSwapStart
  simp only [hc, hs, hm, hm', hh, hd, hu, or_self, decide_false, Bool.or_self, List.isEmpty_nil, Bool.not_true, Bool.false_eq_true, if_false]
  split
  · rfl
  · split <;> rfl

end

theorem mem_wanted_wantPower {s : State} {ls : List Nat} {d : Nat} (h : d ∈ s.darkDomains ls) : d ∈ (s.wantPower ls).pwr.wanted := by
  by_cases hw : d ∈ s.pwr.wanted
  · exact List.mem_append_left _ hw
  · exact List.mem_append_right _ (List.mem_filter.2 ⟨h, by simp [hw]⟩)

/-! ### Leaving the tiles (R243) -/

/-- The state of a tenant that has left its tiles with every word sound. -/
def State.swappedOut (s : State) (x : Nat) : State :=
  let u := (s.unbind x true).setTen x { s.ten x with
    run := .swapped, back := (s.ten x).run, moving := false, devHeld := false, sliceOver := false, swapSlot := none }
  { u with sched := { u.sched with draining := u.sched.draining ++ [(x, s.capSaved x [], 0)] } }

theorem swappedOut_eq (s : State) (x : Nat) : s.swapAway x [] = s.swappedOut x := by
  unfold State.swapAway State.swappedOut badWords
  simp only [List.foldl_nil, List.filter_nil, List.filterMap_nil, List.isEmpty_nil, Bool.not_true, Bool.or_false, if_true]

theorem sharedMoves_of_none {s : State} {x : Nat} (h : s.cap.queue = []) (bad : List BadWord) : s.sharedMoves x bad = s := by
  unfold State.sharedMoves
  rw [h]
  simp only [List.filter_nil, List.foldl_nil]
  rw [← h]

theorem swappedOut_frame (s : State) (x : Nat) :
    (s.swappedOut x).ten x = { s.ten x with
      run := .swapped, back := (s.ten x).run, moving := false, devHeld := false, sliceOver := false, swapSlot := none } ∧
    s.otherTenants (s.swappedOut x) x ∧ s.keeps (s.swappedOut x) [.tiles, .sched, .tenants] ∧
    (x, s.capSaved x []) ∈ (s.swappedOut x).sched.drains ∧ (s.swappedOut x).sched.derateQ = s.sched.derateQ ∧
    (s.swappedOut x).sched.derateOut = s.sched.derateOut := by
  obtain ⟨hkeeps, hsched⟩ := unbind_frame s x true
  refine ⟨State.ten_setTen _ _ _, ?_, ?_, ?_, hsched.derateQ, hsched.derateOut⟩
  · exact otherTenants_trans (otherTenants_of_tenants (hkeeps .tenants (by decide))) (fun y hy => State.ten_setTen_ne _ _ hy)
  · refine keeps_trans (keeps_mono hkeeps (by decide)) ?_
    simp [State.keeps_iff, State.swappedOut, State.setTen]
  · exact List.mem_map.2 ⟨_, List.mem_append_right _ (List.mem_singleton.2 rfl), rfl⟩

/-- The swap counts a victim as gone, and the tenant no longer waits to leave by its weight. -/
def State.leftTiles (s : State) (x : Nat) (victim : Bool) (n k : Nat) : State :=
  let u := if victim then s.decision 3 x ((s.sched.swap.map (fun w => w.inT)).getD 0xFF) n k else s
  { u with sched := { u.sched with
    derateOut := u.sched.derateOut.filter (fun y => decide (y ≠ x))
    swap := u.sched.swap.map (fun (w : Swap) => if victim then { w with emptied := w.emptied ++ [x] } else w) } }

theorem leftTiles_frame (s : State) (x : Nat) (victim : Bool) (n k : Nat) :
    s.keeps (s.leftTiles x victim n k) [.sched, .chv] ∧ (s.leftTiles x victim n k).sched.drains = s.sched.drains ∧
    (s.leftTiles x victim n k).sched.derateQ = s.sched.derateQ ∧ x ∉ (s.leftTiles x victim n k).sched.derateOut := by
  have hdec : s.keeps (if victim then s.decision 3 x ((s.sched.swap.map (fun w => w.inT)).getD 0xFF) n k else s) [.chv] :=
    keeps_ite decision_keeps keeps_refl
  unfold State.leftTiles
  generalize (if victim then s.decision 3 x ((s.sched.swap.map (fun w => w.inT)).getD 0xFF) n k else s) = u at hdec
  have hsched : u.sched = s.sched := hdec .sched (by decide)
  refine ⟨keeps_trans (keeps_mono hdec (by decide)) (by simp [State.keeps_iff]), ?_, ?_, ?_⟩
  · rw [← hsched]
    rfl
  · rw [← hsched]
  · simp

theorem execSwapOutEmptied_of_clean {v : TenId} {s : State} (hl : s.leaving v = true) (hmv : (s.ten v).moving = true)
    (hn : s.noEcycle v = true) (hr : (s.ten v).recov = none) (hrun : (s.ten v).run ≠ .swapped) (hm : s.dev.mode ≠ .safe)
    (hreqs : (s.ten v).reqs = []) (hcm : s.cap.moving = none) (hcq : s.cap.queue = [])
    (hroom : s.poolRoom (stateSlot (s.ten v).ntiles) = true) :
    ∃ victim n k, execSwapOutEmptied v [] s = .next (
      let u := (s.swappedOut v).leftTiles v victim n k
      if victim then u.remode else ((u.startDrains.remode).derateGo).place) := by
  unfold execSwapOutEmptied
  simp only [hl, hmv, hn, hr, hrun, hm, hreqs, hcm, hroom, Option.isNone_none, ne_eq, not_false_eq_true, and_self, decide_true,
    Bool.and_self, List.all_nil, Option.any_none, Bool.not_false, if_true, sharedMoves_of_none hcq, swappedOut_eq]
  exact ⟨_, _, _, rfl⟩

/-- A tenant that has left its tiles: what its swap or its drain goes on to leaves it and its drain as they are. -/
theorem afterLeaving_frame {u : State} (hrefits : u.dev.refits = []) (hq : u.sched.derateQ = []) :
    (∀ y, (u.ten y).renewed (((u.startDrains.remode).derateGo).place.ten y)) ∧
      (((u.startDrains.remode).derateGo).place).sched.drains = u.sched.drains ∧
      (((u.startDrains.remode).derateGo).place).sched.derateOut = u.sched.derateOut := by
  obtain ⟨hdk, hdq, hdr⟩ := startDrains_frame u
  have hno : u.startDrains.noRefit := fun y hy => by
    rw [show u.startDrains.dev = u.dev from hdk .dev (by decide), hrefits] at hy
    cases hy
  have hmode := remode_keeps hno
  have hsched : u.startDrains.remode.sched = u.startDrains.sched := hmode .sched (by decide)
  have hgo : u.startDrains.remode.derateGo = u.startDrains.remode := derateGo_of_none (by rw [hsched, hdq, hq])
  obtain ⟨c, hplace⟩ := place_sched u.startDrains.remode
  rw [hgo, hplace, hsched]
  refine ⟨fun y => ?_, hdr, by rw [hdq]⟩
  rw [← ten_of_keeps hdk (by decide) y, ← ten_of_keeps hmode (by decide) y]
  exact place_ten _ y

theorem afterLeaving_victim {u : State} (hrefits : u.dev.refits = []) :
    (∀ y, (u.ten y).renewed (u.remode.ten y)) ∧ u.remode.sched.drains = u.sched.drains ∧
      u.remode.sched.derateOut = u.sched.derateOut := by
  have hmode := remode_keeps (s := u) (fun y hy => by rw [hrefits] at hy; cases hy)
  have hsched : u.remode.sched = u.sched := hmode .sched (by decide)
  rw [hsched]
  exact ⟨fun y => by rw [ten_of_keeps hmode (by decide)]; exact .refl _, rfl, rfl⟩

theorem execSwapDrainDone_of_granted {x : TenId} {k tok : Nat} {v : Saved} {s : State}
    (hf : s.sched.draining.find? (fun e => decide (e.1 = x.val)) = some (k, v, tok)) (ht : tok ≠ 0) (hw : s.tokWaits 2 tok = false) :
    execSwapDrainDone x s = .next (
      let u := s.writeSlot x (s.swapBase x) v
      ({ u with sched := { u.sched with draining := s.sched.draining.filter (fun e => decide (e.1 ≠ x.val)) } } : State).updTen x
        (fun y => { y with swapSlot := some v })) := by
  unfold execSwapDrainDone
  simp only [hf, ht, hw, Bool.false_eq_true, or_self, if_false]

theorem drained_frame {s u : State} {x : Nat} (hk : s.keeps u [.ds, .noc, .freeCtr]) (d : List (Nat × Saved × Nat)) (v : Saved) :
    let t := ({ u with sched := { u.sched with draining := d } } : State).updTen x (fun y => { y with swapSlot := some v })
    (t.ten x).swapSlot = some v ∧ (t.ten x).run = (s.ten x).run ∧ t.sched.draining = d ∧ s.otherTenants t x ∧
      s.keeps t [.sched, .tenants, .ds, .noc, .freeCtr] := by
  have hsched : u.keeps { u with sched := { u.sched with draining := d } } [.sched] := by simp [State.keeps_iff]
  dsimp only
  have hd : ({ u with sched := { u.sched with draining := d } } : State).sched.draining = d := rfl
  generalize ({ u with sched := { u.sched with draining := d } } : State) = w at hsched hd
  have hw : s.keeps w [.sched, .ds, .noc, .freeCtr] := keeps_trans (keeps_mono hk (by decide)) (keeps_mono hsched (by decide))
  rw [State.ten_updTen]
  refine ⟨rfl, ?_, hd, otherTenants_trans (otherTenants_of_tenants (hw .tenants (by decide))) otherTenants_updTen,
    keeps_trans (keeps_mono hw (by decide)) (keeps_mono updTen_keeps (by decide))⟩
  rw [ten_of_keeps hw (by decide)]

/-- A swap that ends frees its rate; a placement may choose another, and none starts. -/
theorem dropSwap_sched {s : State} (w : Swap) (h : s.sched.derateQ = []) :
    (s.dropSwap w).sched.swap = none ∧ (s.dropSwap w).sched.resv = s.sched.resv - w.rate := by
  obtain ⟨-, hdq, -⟩ := startDrains_frame { s with sched := { s.sched with swap := none, resv := s.sched.resv - w.rate } }
  unfold State.dropSwap
  generalize State.startDrains _ = u at hdq
  rw [derateGo_of_none (by rw [hdq]; exact h)]
  obtain ⟨c, hplace⟩ := place_sched u
  rw [hplace, hdq]
  exact ⟨rfl, rfl⟩

/-! ### Entering the tiles (R236, R244) -/

/-- The incoming tenant of a swap stands in its tiles, before it resumes. -/
def State.swapEntered (s : State) (x : Nat) (plan : List (Nat × Nat × Bool)) : State :=
  let u := s.bindTiles x plan
  let u := { u with sched := { u.sched with draining := u.sched.draining.filter (fun e => decide (e.1 ≠ x)) } }
  (u.updTen x (fun y => { y with
    run := y.back, back := .stopped, devHeld := y.back.advancing && u.holdCond, sliceOver := false, sliceFrom := u.thy.total
    swapSlot := none, fromCkpt := false })).decision 2 x 0xFF plan.length (s.ten x).done

theorem bindTiles_frame (s : State) (x : Nat) (plan : List (Nat × Nat × Bool)) : s.keeps (s.bindTiles x plan) [.sched] ∧
    (s.bindTiles x plan).sched.swap = s.sched.swap :=
  List.foldlRecOn (motive := fun (t : State) => s.keeps t [.sched] ∧ t.sched.swap = s.sched.swap) _ _ ⟨keeps_refl, rfl⟩
    fun t ht e _ => ⟨keeps_trans ht.1 (by simp [State.keeps_iff]), ht.2⟩

theorem swapEntered_frame (s : State) (x : Nat) (plan : List (Nat × Nat × Bool)) :
    ((s.swapEntered x plan).ten x).run = (s.ten x).back ∧ ((s.swapEntered x plan).ten x).swapSlot = none ∧
      ((s.swapEntered x plan).ten x).done = (s.ten x).done ∧ ((s.swapEntered x plan).ten x).img = (s.ten x).img ∧
      (s.swapEntered x plan).sched.swap = s.sched.swap ∧
      s.otherTenants (s.swapEntered x plan) x ∧ s.keeps (s.swapEntered x plan) [.sched, .tenants, .chv] := by
  obtain ⟨hk, hswap⟩ := bindTiles_frame s x plan
  have hten := ten_of_keeps hk (by decide) x
  have hother : s.otherTenants (s.bindTiles x plan) x := otherTenants_of_tenants (hk .tenants (by decide))
  unfold State.swapEntered
  generalize s.bindTiles x plan = u at hk hswap hten hother
  dsimp only
  generalize hv : State.updTen _ x _ = v
  have hdec : v.keeps (v.decision 2 x 0xFF plan.length (s.ten x).done) [.chv] := decision_keeps
  have hvk : u.keeps v [.sched, .tenants] := by
    rw [← hv]
    simp [State.keeps_iff, State.updTen, State.setTen]
  rw [ten_of_keeps hdec (by decide), show (v.decision 2 x 0xFF plan.length (s.ten x).done).sched = v.sched from hdec .sched (by decide)]
  refine ⟨?_, ?_, ?_, ?_, ?_, ?_, ?_⟩
  · rw [← hv, State.ten_updTen, ← hten]
    rfl
  · rw [← hv, State.ten_updTen]
  · rw [← hv, State.ten_updTen, ← hten]
    rfl
  · rw [← hv, State.ten_updTen, ← hten]
    rfl
  · rw [← hv, ← hswap]
    rfl
  · refine otherTenants_trans hother (otherTenants_trans ?_ (otherTenants_of_tenants (hdec .tenants (by decide))))
    rw [← hv]
    exact fun y hy => State.ten_updTen_ne _ _ hy
  · exact keeps_trans (keeps_mono hk (by decide)) (keeps_trans (keeps_mono hvk (by decide)) (keeps_mono hdec (by decide)))

theorem swapBase_congr {s t : State} {x : Nat} (hr : t.regs = s.regs) (hi : (t.ten x).img = (s.ten x).img) :
    t.swapBase x = s.swapBase x := by
  simp only [State.swapBase, State.faultBase, State.faultArea, State.rbase, State.rsize, State.rfld, State.reg, Tenant.ntiles, hr, hi]

section
variable {s : State} {w : Swap} {bad : Bool} (hs : s.sched.swap = some w) (hv : w.victims.all (fun v => w.emptied.contains v) = true)
  (hm : s.dev.mode ≠ .safe) (hu : s.underRefit [w.inT] ((s.planFor w.inT s.freeTiles).map (fun e => e.2.1)) = false)
include hs hv hm hu

theorem execSwapInLoaded_of_noImage (himg : (s.ten w.inT).img = none) : execSwapInLoaded bad s = .next (s.dropSwap w) := by
  unfold execSwapInLoaded
  simp only [hs, hv, hm, hu, himg, decide_false, Bool.or_self, Bool.not_true, Bool.false_eq_true, if_false, Option.isNone_none, Bool.true_or,
    if_true]

theorem execSwapInLoaded_of_room (himg : (s.ten w.inT).img.isSome = true) (hrun : (s.ten w.inT).run = .swapped)
    (hdark : s.darkDomains ((s.planFor w.inT s.freeTiles).map (fun e => e.2.1)) = [])
    (hfit : (s.ten w.inT).ntiles ≤ (s.planFor w.inT s.freeTiles).length) (hck : (s.ten w.inT).fromCkpt = false)
    (hp : s.rangePoisoned (s.swapBase w.inT) (stateSlot (s.ten w.inT).ntiles) = false) :
    execSwapInLoaded false s = .next (((((s.swapEntered w.inT (s.planFor w.inT s.freeTiles)).loadTenant w.inT
      (s.swapInState w.inT)).capResume w.inT).boundary w.inT).dropSwap w) := by
  obtain ⟨-, -, -, hent, -, -, hk⟩ := swapEntered_frame s w.inT (s.planFor w.inT s.freeTiles)
  have hbase : (s.swapEntered w.inT (s.planFor w.inT s.freeTiles)).swapBase w.inT = s.swapBase w.inT :=
    swapBase_congr (hk .regs (by decide)) hent
  have hclean : (s.swapEntered w.inT (s.planFor w.inT s.freeTiles)).rangePoisoned
      ((s.swapEntered w.inT (s.planFor w.inT s.freeTiles)).swapBase w.inT) (stateSlot (s.ten w.inT).ntiles) = false := by
    rw [hbase, State.rangePoisoned, show (s.swapEntered w.inT (s.planFor w.inT s.freeTiles)).noc = s.noc from hk .noc (by decide)]
    exact hp
  unfold execSwapInLoaded
  simp only [hs, hv, hm, hu, hrun, hdark, hck, Nat.not_lt.2 hfit, Option.isNone_eq_false_iff.2 himg, decide_false, ne_eq, not_true_eq_false,
    Bool.or_self, Bool.not_true, Bool.false_eq_true, if_false, List.isEmpty_nil, Bool.false_or]
  refine congrArg (fun t => Host.Outcome.next (State.dropSwap t w)) (if_neg ?_)
  rw [Bool.and_eq_true, not_and]
  exact fun _ h => Bool.false_ne_true (hclean.symm.trans h)

end

/-- Settles O21: slices, the start of a swap, and the tenants that leave and enter. -/
theorem scheduling : Obligations.Scheduling := by
  refine ⟨⟨?_, ?_⟩, ⟨?_, ?_, ?_, ?_, ?_, ?_⟩, ?_, ?_, ?_⟩
  · intro x s ht hr hm hv
    refine Runs.of (execSliceEnd_of_victim ht hr hm hv) ⟨rfl, ?_, fun hs => ?_⟩
    · rw [(place_sameRuns _ x).1, State.ten_updTen]
    · rw [place_of_swap (s := s.updTen x (fun v => { v with sliceOver := true })) hs, State.ten_updTen]
      exact ⟨rfl, otherTenants_updTen, updTen_keeps⟩
  · intro x s ht hr hm hv
    obtain ⟨t, hexec, hk⟩ := execSliceEnd_of_noVictim ht hr hm hv
    refine Runs.of hexec ?_
    rw [ten_of_keeps hk (by decide), State.ten_updTen]
    exact ⟨rfl, rfl, rfl, otherTenants_trans otherTenants_updTen (otherTenants_of_tenants (hk .tenants (by decide))),
      keeps_trans (keeps_mono updTen_keeps (by decide)) (keeps_mono hk (by decide))⟩
  · intro h s hc hs hm hm' hh hd plan ls hu hdark hrate
    refine Runs.of (execSwapStart_of_free hc hs hm hm' hh hd hu) ?_
    dsimp only
    rw [if_neg (by rw [show s.darkDomains ((s.swapPlan h []).map (fun e => e.2.1)) = [] from hdark]; decide),
      if_neg (Nat.not_lt.2 hrate), List.foldl_nil]
    have hdec := decision_keeps (s := { s with sched := { s.sched with
      swap := some { inT := h, victims := [], emptied := [], rate := swapRate (s.swapBytes h plan) }, chosen := none
      resv := s.sched.resv + swapRate (s.swapBytes h plan) } }) (k := 1) (x := h) (o := ([] : List Nat).head?.getD 0xFF) (n := plan.length) (v := 0)
    refine ⟨⟨_, congrArg Sched.swap (hdec .sched (by decide)), rfl, rfl, rfl, rfl, congrArg Sched.resv (hdec .sched (by decide))⟩,
      congrArg Sched.chosen (hdec .sched (by decide)), ?_⟩
    exact keeps_trans (keeps_mono (by simp [State.keeps_iff] : s.keeps _ [.sched]) (by decide)) (keeps_mono hdec (by decide))
  · intro h vs s hc hs hm hm' hh hd ls hu hdark
    refine Runs.of (execSwapStart_of_free hc hs hm hm' hh hd hu) ?_
    dsimp only
    rw [if_pos (by simpa using hdark)]
    exact ⟨fun d hd => mem_wanted_wantPower hd, rfl, wantPower_keeps⟩
  · intro h vs s hc hs hm hm' hh hd plan ls hu hdark hrate
    refine Runs.of (execSwapStart_of_free hc hs hm hm' hh hd hu) ?_
    dsimp only
    rw [if_neg (by rw [show s.darkDomains ((s.swapPlan h vs).map (fun e => e.2.1)) = [] from hdark]; decide), if_pos hrate]
    exact ⟨rfl, decision_keeps⟩
  · intro s hb
    exact Runs.of (execSwapStart_of_barred hb) rfl
  · intro v s hl hmv hn hr hrun hm hreqs hcm hcq hroom hrefits hdq
    obtain ⟨victim, n, k, hexec⟩ := execSwapOutEmptied_of_clean hl hmv hn hr hrun hm hreqs hcm hcq hroom
    refine Runs.of hexec ?_
    obtain ⟨hten, hother, hkeeps, hdrain, hq, -⟩ := swappedOut_frame s v
    obtain ⟨hlk, hld, hlq, hlo⟩ := leftTiles_frame (s.swappedOut v) v victim n k
    have hutens : ∀ y, ((s.swappedOut v).leftTiles v victim n k).ten y = (s.swappedOut v).ten y := ten_of_keeps hlk (by decide)
    have hurefits : ((s.swappedOut v).leftTiles v victim n k).dev.refits = [] :=
      (congrArg Dev.refits (hlk .dev (by decide))).trans ((congrArg Dev.refits (hkeeps .dev (by decide))).trans hrefits)
    rw [← hld] at hdrain
    rw [hq, hdq] at hlq
    generalize (s.swappedOut v).leftTiles v victim n k = u at hlk hlq hlo hutens hurefits hdrain
    have hgo : ∀ t, (if victim then u.remode else ((u.startDrains.remode).derateGo).place) = t → (∀ y, (u.ten y).renewed (t.ten y)) ∧
        t.sched.drains = u.sched.drains ∧ t.sched.derateOut = u.sched.derateOut := by
      rintro t rfl
      cases victim
      · exact afterLeaving_frame hurefits hlq
      · exact afterLeaving_victim hurefits
    dsimp only
    generalize (if victim then u.remode else ((u.startDrains.remode).derateGo).place) = t at hgo
    obtain ⟨hren, hdrains, hout⟩ := hgo t rfl
    obtain ⟨a, b, hv⟩ := hren v
    rw [hv, hutens, hten]
    refine ⟨rfl, rfl, rfl, rfl, rfl, by rw [hout]; exact hlo, ?_, fun y hy => ?_⟩
    · rw [← hdrains] at hdrain
      obtain ⟨e, he, heq⟩ := List.mem_map.1 hdrain
      exact ⟨e, he, congrArg Prod.fst heq, congrArg Prod.snd heq⟩
    · have hrun := (hren y).sameRun
      rw [hrun.1, hrun.2.2.2.1, hutens, hother y hy]
      exact ⟨rfl, rfl⟩
  · intro x k tok v s hf ht hw
    refine Runs.of (execSwapDrainDone_of_granted hf ht hw) ?_
    exact drained_frame writeSlot_keeps _ _
  · intro w s hs hv hm himg hrun plan ls hu hdark hfit hck hp
    refine Runs.of (execSwapInLoaded_of_room hs hv hm hu himg hrun hdark hfit hck hp) ?_
    obtain ⟨hr, hslot, hdone, -, hswap, hother, hkeeps⟩ := swapEntered_frame s w.inT plan
    exact ⟨_, rfl, hr, hslot, hdone, hswap.trans hs, hother, hkeeps⟩
  · intro w bad s hs hv hm hu himg
    exact Runs.of (execSwapInLoaded_of_noImage hs hv hm hu himg) rfl
  · intro w s hq
    exact dropSwap_sched w hq

end Sys2Proof.Machine
end

section
/-!
PROOF. REBALANCE: what refuses it, and what an accepted one notes (R38, R239, R263).
-/
namespace Sys2Proof.Machine

theorem rebalStatus_of_empty (s : State) (x : Nat) : s.rebalStatus x [] = stBadArg := by
  simp [State.rebalStatus]

/-- An accepted rebalance: it is noted, and the power of its tiles is asked for. -/
def State.rebalNoted (s : State) (r : Rebal) : State :=
  ({ s with sched := { s.sched with rebal := s.sched.rebal ++ [r] } } : State).wantPower (r.pairs.map (fun p => p.2))

theorem rebalNoted_keeps {s : State} {r : Rebal} : s.keeps (s.rebalNoted r) [.sched, .pwr] := by
  simp [State.keeps_iff, State.rebalNoted, State.wantPower]

/-- Every dark domain of the new tiles is among those asked for. -/
theorem rebalNoted_wanted {s : State} {r : Rebal} {l : Nat} (hl : l ∈ r.pairs.map (fun p => p.2))
    (hd : (s.domain (s.domainOf l)).good = false) : s.domainOf l ∈ (s.rebalNoted r).pwr.wanted := by
  refine mem_wanted_wantPower (s := { s with sched := { s.sched with rebal := s.sched.rebal ++ [r] } }) ?_
  refine List.mem_eraseDups.2 (List.mem_filter.2 ⟨List.mem_map.2 ⟨l, hl, rfl⟩, ?_⟩)
  show (!(s.domain (s.domainOf l)).good) = true
  rw [hd]
  rfl

section
variable {s : State} {d : DRef} {x : TenId} {ps : List (Byte × Byte)} (hu : s.fnUp d.fn = true)
include hu

theorem execRebalance_of_notAdmin (hf : d.fn.val ≠ 0) : execRebalance d x ps s = .next (s.complete d 0x15 stNotAdmin 0 0) :=
  State.takeUp_of_notAdmin hu hf

variable (hf : d.fn.val = 0) (hm : s.dev.mode ≠ .safe)
include hf hm

theorem execRebalance_of_empty : execRebalance d x [] s = .next (s.complete d 0x15 stBadArg 0 0) := by
  refine (State.takeUp_of_admin hu hf hm).trans (congrArg Host.Outcome.next ?_)
  have hst : s.rebalStatus x (([] : List (Byte × Byte)).map (fun p => (p.1.toNat, p.2.toNat))) = stBadArg := rebalStatus_of_empty s x
  dsimp only
  rw [hst]
  rfl

variable (hst : s.rebalStatus x (ps.map (fun p => (p.1.toNat, p.2.toNat))) = stOk)
include hst

theorem execRebalance_of_running (hr : (s.ten x).recov = none) : execRebalance d x ps s = .next (
    let u := s.rebalNoted { cmd := d, ten := x, pairs := ps.map (fun p => (p.1.toNat, p.2.toNat)) }
    { u with dev := { u.dev with refits := u.dev.refits ++ [256 + x.val] } : State }.remode) := by
  have hr' : ((s.rebalNoted { cmd := d, ten := x, pairs := ps.map (fun p => (p.1.toNat, p.2.toNat)) }).ten x).recov = none := hr
  refine (State.takeUp_of_admin hu hf hm).trans (congrArg Host.Outcome.next ?_)
  dsimp only
  rw [hst, if_neg (not_not.2 rfl)]
  rw [State.rebalNoted] at hr'
  rw [hr']
  rfl

theorem execRebalance_of_stopped {r : Recovery} (hr : (s.ten x).recov = some r) (hp : r.phase = .stopped) :
    execRebalance d x ps s =
      .next (s.rebalNoted { cmd := d, ten := x, pairs := ps.map (fun p => (p.1.toNat, p.2.toNat)) }) := by
  have hr' : ((s.rebalNoted { cmd := d, ten := x, pairs := ps.map (fun p => (p.1.toNat, p.2.toNat)) }).ten x).recov = some r := hr
  refine (State.takeUp_of_admin hu hf hm).trans (congrArg Host.Outcome.next ?_)
  dsimp only
  rw [hst, if_neg (not_not.2 rfl)]
  rw [State.rebalNoted] at hr'
  rw [hr']
  exact if_pos hp

end

/-- Settles O22: two refusals, then a rebalance of a tenant that runs, and one of a tenant that waits for its placement. -/
theorem rebalances : Obligations.Rebalances := by
  refine ⟨?_, ?_, ?_, ?_⟩
  · intro d x ps s hu hf
    exact Runs.of_complete (execRebalance_of_notAdmin hu hf)
  · intro d x s hu hf hm
    exact Runs.of_complete (execRebalance_of_empty hu hf hm)
  · intro d x ps s hu hf hm hst hr
    refine Runs.of (execRebalance_of_running hu hf hm hst hr) ⟨_, rfl, rfl, rfl, ?_, fun p hp hd => ?_, ?_⟩
    · simp [State.inRefit]
    · refine rebalNoted_wanted ?_ hd
      exact List.mem_map.2 ⟨_, List.mem_map.2 ⟨p, hp, rfl⟩, rfl⟩
    · refine keeps_trans (t := s.rebalNoted { cmd := d, ten := x, pairs := ps.map (fun p => (p.1.toNat, p.2.toNat)) }) (keeps_mono rebalNoted_keeps (by decide)) ?_
      simp [State.keeps_iff]
  · intro d x ps r s hu hf hm hst hr hp
    exact Runs.of (execRebalance_of_stopped hu hf hm hst hr hp) ⟨rfl, rebalNoted_keeps⟩

end Sys2Proof.Machine
end

section
/-!
PROOF. Hazard reports: counted, kept, lost and posted (R175).
-/
namespace Sys2Proof.Machine

/-- A new occurrence that the detector takes: it waits, or is counted as lost. -/
theorem hazard_of_new {s : State} {x it cls step res detail ecyc : Nat} (hd : s.detects x = true) (hr : (s.ten x).recov = none)
    (he : s.hazEnabled x cls = true)
    (hn : (s.ten x).hazards.any (fun h => decide (h.tile = it) && decide (h.cls = cls) && decide (h.step = step) &&
      decide (h.res = res)) = false) : s.hazard x it cls step res detail ecyc =
      if (s.ten x).hazards.length < 64 then
        s.setTen x { s.ten x with hazards := (s.ten x).hazards ++
          [{ tile := it, cls := cls, step := step, ecyc := ecyc, res := res, count := 1, detail := detail, ns := s.thy.ns }] }
      else s.setTen x { s.ten x with hazLost := satInc (s.ten x).hazLost 0xFFFFFFFF, hazFlag := true } := by
  unfold State.hazard
  rw [if_pos (by rw [hd, he, hr]; rfl)]
  exact if_neg (by rw [hn]; exact Bool.false_ne_true)

/-- A ring with a free entry takes the oldest report. -/
theorem execHazardReportPost_of_room {x : TenId} {h : Hazard} {rest : List Hazard} {s : State} (hh : (s.ten x).hazards = h :: rest)
    (hen : (s.cq x (s.rfld (0x94000 + 4 * x.val) 4 3)).en = true)
    (hroom : ((s.cq x (s.rfld (0x94000 + 4 * x.val) 4 3)).tidx - (s.cq x (s.rfld (0x94000 + 4 * x.val) 4 3)).head).toNat +
      (s.cq x (s.rfld (0x94000 + 4 * x.val) 4 3)).resv < 2 ^ s.cqLog2 x (s.rfld (0x94000 + 4 * x.val) 4 3)) (hc : s.host.cpls = []) :
    execHazardReportPost x s = .next (
      let u := s.updTen x (fun v => { v with hazards := rest })
      { u with host := { u.host with cpls := [{ fn := x.val, cq := s.rfld (0x94000 + 4 * x.val) 4 3, typ := 6, status := 0, sq := 0xFF
                                                body := .raw h.bytes, noIrq := false, resv := false }] } }) := by
  unfold execHazardReportPost
  simp only [hh, hen, hc, List.filter_nil, List.length_nil, Nat.add_zero, hroom, decide_true, Bool.and_self, if_true]
  refine congrArg Host.Outcome.next ?_
  have hnone : ((s.updTen x (fun v => { v with hazards := rest })).host.cpls.filter
      (fun c => decide (c.fn = x.val) && decide (c.typ = 6))).length < 64 := by
    rw [show (s.updTen x (fun v => { v with hazards := rest })).host.cpls = [] from hc, List.filter_nil]
    decide
  refine (if_pos hnone).trans ((if_pos hen).trans ?_)
  rw [show (s.updTen x (fun v => { v with hazards := rest })).host.cpls = [] from hc]
  rfl

/-- Settles O23: a new occurrence, and the oldest report. -/
theorem hazards : Obligations.Hazards := by
  refine ⟨?_, ?_⟩
  · intro x it cls step res detail ecyc s hd hr he hn t
    have ht : t = _ := hazard_of_new (detail := detail) (ecyc := ecyc) hd hr he hn
    refine ⟨fun hl => ?_, fun hl => ?_, ?_, ?_⟩
    · rw [ht, if_pos hl, State.ten_setTen]
      exact ⟨rfl, rfl⟩
    · rw [ht, if_neg (Nat.not_lt.2 hl), State.ten_setTen]
      exact ⟨rfl, rfl, rfl⟩
    · rw [ht]
      split
      · exact otherTenants_setTen
      · exact otherTenants_setTen
    · rw [ht]
      exact keeps_ite setTen_keeps setTen_keeps
  · intro x h rest s hh r hen hroom hc
    refine Runs.of (execHazardReportPost_of_room hh hen hroom hc) ?_
    dsimp only
    refine ⟨?_, rfl, ?_, ?_⟩
    · rw [show ∀ (u : State) (w : HostIf), ({ u with host := w } : State).ten x = u.ten x from fun _ _ => rfl, State.ten_updTen]
    · exact fun y hy => State.ten_updTen_ne s (fun v => { v with hazards := rest }) hy
    · refine keeps_trans (t := s.updTen x (fun v => { v with hazards := rest })) (keeps_mono updTen_keeps (by decide)) ?_
      simp [State.keeps_iff]

end Sys2Proof.Machine
end

section
/-!
PROOF. A token window: what it grants, and what it touches (R240, R249, R250).
-/
namespace Sys2Proof.Machine

/-! ### Grants -/

/-- What a class has been granted in the window in force. -/
def State.grantedNow (s : State) (c : Nat) : Nat := (Map.get s.sched.granted [] c).headD 0

/-- The grants of all classes in the window in force. -/
def State.grantedAll (s : State) : Nat := sumNat ((List.range 6).map s.grantedNow)

theorem sumNat_range_add {f g : Nat → Nat} {c u : Nat} (hc : c < 6) (h : ∀ i, g i = if i = c then f c + u else f i) :
    sumNat ((List.range 6).map g) = sumNat ((List.range 6).map f) + u := by
  have hsix : ∀ k : Nat → Nat, sumNat ((List.range 6).map k) = k 0 + k 1 + k 2 + k 3 + k 4 + k 5 := fun k => by
    simp [sumNat, List.range_succ]
  rw [hsix, hsix]
  simp only [h]
  have hcases : c = 0 ∨ c = 1 ∨ c = 2 ∨ c = 3 ∨ c = 4 ∨ c = 5 := by omega
  rcases hcases with rfl | rfl | rfl | rfl | rfl | rfl <;> simp <;> omega

/-- A class takes what it is granted from the pool, and no more than the pool holds. -/
theorem grantClass_frame (s : State) {c : Nat} (hc : c < 6) (pool lim : Nat) :
    (s.grantClass c pool lim).2.grantedAll + (s.grantClass c pool lim).1 = s.grantedAll + pool := by
  let used := min pool lim - (serveTokens (min pool lim) (Map.get s.sched.tokens [] c)).1
  have hused : used ≤ pool := le_trans (Nat.sub_le _ _) (Nat.min_le_left _ _)
  have hall : (s.grantClass c pool lim).2.grantedAll = s.grantedAll + used := by
    refine sumNat_range_add hc fun i => ?_
    simp only [State.grantedNow, State.grantClass, Map.get_set]
    split
    · cases Map.get s.sched.granted [] c <;> simp [used]
    · rfl
  have hpool : (s.grantClass c pool lim).1 = pool - used := rfl
  rw [hall, hpool]
  omega

theorem grants_foldl (lim : Nat × State → Nat → Nat) (p : Nat × State) :
    let q := (List.range 6).foldl (fun (p : Nat × State) c => p.2.grantClass c p.1 (lim p c)) p
    q.2.grantedAll + q.1 = p.2.grantedAll + p.1 :=
  List.foldlRecOn (motive := fun (q : Nat × State) => q.2.grantedAll + q.1 = p.2.grantedAll + p.1) _ _ rfl fun q hq c hc =>
    (grantClass_frame q.2 (List.mem_range.1 hc) q.1 (lim q c)).trans hq

/-- The scheduler as a window begins: nothing granted yet. -/
def State.windowStart (s : State) : State := { s with sched := { s.sched with
  granted := (List.range 6).map (fun c => (c, 0 :: (Map.get s.sched.granted [] c).take 63)) } }

theorem windowStart_grantedAll (s : State) : s.windowStart.grantedAll = 0 := by
  simp [State.grantedAll, State.grantedNow, State.windowStart, List.range_succ, Map.get, sumNat]

theorem tokenWindow_granted (s : State) : s.tokenWindow.grantedAll ≤ s.sched.rate - s.sched.resv := by
  have hfirst := grants_foldl (fun p c => p.2.minShare c * p.2.sched.rate / 100) (s.sched.rate - s.sched.resv, s.windowStart)
  have hsecond := grants_foldl (fun p _ => p.1) ((List.range 6).foldl (fun (p : Nat × State) c =>
    p.2.grantClass c p.1 (p.2.minShare c * p.2.sched.rate / 100)) (s.sched.rate - s.sched.resv, s.windowStart))
  dsimp only at hfirst hsecond
  rw [windowStart_grantedAll, Nat.zero_add] at hfirst
  rw [hfirst] at hsecond
  exact Nat.le.intro hsecond

/-! ### Frames -/

/-- A scheduler that differs in its token queues and grants alone. -/
def Sched.sameButGrants (c d : Sched) : Prop := d = { c with tokens := d.tokens, granted := d.granted }

theorem Sched.sameButGrants.trans {c d e : Sched} (h : c.sameButGrants d) (k : d.sameButGrants e) : c.sameButGrants e :=
  (show e = { d with tokens := e.tokens, granted := e.granted } from k).trans
    (congrArg (fun c : Sched => { c with tokens := e.tokens, granted := e.granted }) h)

theorem tokenWindow_frame (s : State) : s.keeps s.tokenWindow [.sched] ∧ s.sched.sameButGrants s.tokenWindow.sched := by
  have hgrants : ∀ (lim : Nat × State → Nat → Nat) (p : Nat × State), s.keeps p.2 [.sched] ∧ s.sched.sameButGrants p.2.sched →
      (fun q : Nat × State => s.keeps q.2 [.sched] ∧ s.sched.sameButGrants q.2.sched)
        ((List.range 6).foldl (fun (p : Nat × State) c => p.2.grantClass c p.1 (lim p c)) p) := fun lim p hp =>
    List.foldlRecOn (motive := fun (q : Nat × State) => s.keeps q.2 [.sched] ∧ s.sched.sameButGrants q.2.sched) _ _ hp
      fun q hq c _ => ⟨keeps_trans hq.1 (by simp [State.keeps_iff, State.grantClass]), hq.2.trans rfl⟩
  exact hgrants _ _ (hgrants _ _ ⟨by simp [State.keeps_iff], rfl⟩)

/-- A scheduler that differs in its virtual times alone. -/
def Sched.sameButTimes (c d : Sched) : Prop := d = { c with vg := d.vg }

theorem Sched.sameButTimes.trans {c d e : Sched} (h : c.sameButTimes d) (k : d.sameButTimes e) : c.sameButTimes e :=
  (show e = { d with vg := e.vg } from k).trans (congrArg (fun c : Sched => { c with vg := e.vg }) h)

/-- One running tenant's virtual time, and its group's. -/
def State.accrueOne (s : State) (x : Nat) : State :=
  let n := (s.boundTiles x).length
  let g := s.group x
  let s := s.updTen x (fun v => { v with vt := v.vt + n * (vtUnit / s.weightT x) })
  { s with sched := { s.sched with vg := Map.set s.sched.vg g (s.vg g + n * (vtUnit / s.weightG g)) } }

theorem accrueOne_frame (s : State) (x : Nat) : s.keeps (s.accrueOne x) [.sched, .tenants] ∧
    s.sched.sameButTimes (s.accrueOne x).sched ∧
    ∀ y, ((s.accrueOne x).ten y).run = (s.ten y).run ∧ ((s.accrueOne x).ten y).done = (s.ten y).done ∧
      (s.ten y).vt ≤ ((s.accrueOne x).ten y).vt := by
  refine ⟨by simp [State.keeps_iff, State.accrueOne, State.updTen, State.setTen], rfl, fun y => ?_⟩
  rw [show (s.accrueOne x).ten y = (s.updTen x (fun v => { v with
    vt := v.vt + (s.boundTiles x).length * (vtUnit / s.weightT x) })).ten y from rfl]
  by_cases hy : y = x
  · subst hy
    rw [State.ten_updTen]
    exact ⟨rfl, rfl, Nat.le_add_right ..⟩
  · rw [State.ten_updTen_ne _ _ hy]
    exact ⟨rfl, rfl, Nat.le_refl _⟩

theorem accrue_frame (s : State) : s.keeps s.accrue [.sched, .tenants] ∧ s.sched.sameButTimes s.accrue.sched ∧
    ∀ y, (s.accrue.ten y).run = (s.ten y).run ∧ (s.accrue.ten y).done = (s.ten y).done ∧ (s.ten y).vt ≤ (s.accrue.ten y).vt :=
  List.foldlRecOn (motive := fun (t : State) => s.keeps t [.sched, .tenants] ∧ s.sched.sameButTimes t.sched ∧
    ∀ y, (t.ten y).run = (s.ten y).run ∧ (t.ten y).done = (s.ten y).done ∧ (s.ten y).vt ≤ (t.ten y).vt) _ _
    ⟨keeps_refl, rfl, fun _ => ⟨rfl, rfl, Nat.le_refl _⟩⟩ fun t ht x _ => by
      obtain ⟨hk, hs, ht⟩ := ht
      obtain ⟨hk', hs', ht'⟩ := accrueOne_frame t x
      exact ⟨keeps_trans hk hk', hs.trans hs', fun y => ⟨(ht' y).1.trans (ht y).1, (ht' y).2.1.trans (ht y).2.1,
        (ht y).2.2.trans (ht' y).2.2⟩⟩

theorem execTokenWindow_eq {s : State} (hc : s.dev.mode.configured = true) :
    execTokenWindow s = .next (if s.tokenWindow.accrue.sched.rebal.isEmpty then s.tokenWindow.accrue else s.tokenWindow.accrue.remode) :=
  if_pos hc

/-- Settles O24: the grants stay within the pool, and a window with no rebalance touches tokens and virtual times alone. -/
theorem tokenBudget : Obligations.TokenBudget := by
  have hrebal : ∀ s : State, s.tokenWindow.accrue.sched.rebal = s.sched.rebal := fun s => by
    rw [(accrue_frame s.tokenWindow).2.1, (tokenWindow_frame s).2]
  refine ⟨tokenWindow_granted, ?_, ?_⟩
  · intro s hc hr
    refine Runs.of (execTokenWindow_eq hc) ?_
    rw [hrebal, if_neg (by simpa using hr)]
  · intro s hc hr
    refine Runs.of (execTokenWindow_eq hc) ?_
    rw [hrebal, hr, List.isEmpty_nil, if_pos rfl]
    obtain ⟨hk, hs⟩ := tokenWindow_frame s
    obtain ⟨hk', hs', hten⟩ := accrue_frame s.tokenWindow
    refine ⟨by rw [hs'], by rw [hs'], by rw [hs', hs], by rw [hs', hs], by rw [hs', hs], fun x => ?_,
      keeps_trans (keeps_mono hk (by decide)) hk'⟩
    rw [← ten_of_keeps hk (by decide)]
    exact hten x

end Sys2Proof.Machine
end

section
/-!
PROOF. Basil's arithmetic: the budget, the power a temperature allows, the cap, the tile voltage and DERATE (R268 to R271, R477).
-/
namespace Sys2Proof.Machine

/-! ### The budget -/

theorem foldl_min_le (f : Nat → Nat) (l : List Nat) (a : Nat) : l.foldl (fun a c => min a (f c)) a ≤ a :=
  List.foldlRecOn (motive := fun x => x ≤ a) l _ (Nat.le_refl a) fun _ h _ _ => (Nat.min_le_left ..).trans h

theorem pIn_le (s : State) : s.pIn ≤ 560000 := by
  simp only [State.pIn]
  omega

/-- What the smallest remaining rating leaves of the input power, in the units of P_B. -/
theorem budget_of_working {s : State} (h : s.ana.failed = false) (nt lk : Nat) :
    ∃ left ≤ 6, s.budget nt lk =
      (50 * min s.pIn (pThAt s.hottest.1) - (50 * nt + 50 * lk + s.pIn)) * left / 30000 * 100 :=
  ⟨_, foldl_min_le s.phasesLeft (List.range 8) 6, by simp only [State.budget, h, Bool.false_eq_true, if_false]⟩

theorem budget_of_failed {s : State} (h : s.ana.failed = true) (nt lk : Nat) : s.budget nt lk = 0 := by
  simp only [State.budget, h, if_true]

theorem budget_bounds (nt lk : Nat) (s : State) : s.budget nt lk % 100 = 0 ∧ s.budget nt lk ≤ min s.pIn (pThAt s.hottest.1) := by
  by_cases hf : s.ana.failed = true
  · rw [budget_of_failed hf]
    exact ⟨rfl, Nat.zero_le _⟩
  · obtain ⟨left, hleft, hb⟩ := budget_of_working (by simpa using hf) nt lk
    have hn : (50 * min s.pIn (pThAt s.hottest.1) - (50 * nt + 50 * lk + s.pIn)) * left
        ≤ (50 * min s.pIn (pThAt s.hottest.1)) * 6 := Nat.mul_le_mul (Nat.sub_le ..) hleft
    rw [hb]
    generalize (50 * min s.pIn (pThAt s.hottest.1) - (50 * nt + 50 * lk + s.pIn)) * left = n at hn ⊢
    omega

/-! ### What a temperature allows -/

theorem pThAt_of_cool {t : Int} (h : t ≤ tLim - 40) : pThAt t = 560000 := if_pos h

theorem pThAt_of_warm {t : Int} (h : tLim - 40 ≤ t) : pThAt t = (7000 * (tLim + 40 - t)).toNat := by
  by_cases he : t ≤ tLim - 40
  · rw [pThAt_of_cool he]
    omega
  · exact if_neg he

/-! ### The cap and V_T -/

theorem capFor_bounds (s : State) : s.capFor ≤ atVolt typRows s.vtNom ∧
    (s.floorRate ≤ atVolt typRows s.vtNom → s.floorRate ≤ s.capFor) :=
  ⟨Nat.min_le_left .., fun h => Nat.le_min.mpr ⟨h, Nat.le_max_left ..⟩⟩

/-- The search of R270 ends at the lowest voltage that will do, or finds none and takes VT_NOM. -/
theorem voltFor_cases (s : State) (f : Nat) :
    (s.voltFor f ≤ s.vtNom ∧ f ≤ atVolt minRows (s.voltFor f) ∧ ∀ v < s.voltFor f, atVolt minRows v < f) ∨
    (s.voltFor f = s.vtNom ∧ ∀ v ≤ s.vtNom, atVolt minRows v < f) := by
  unfold State.voltFor
  cases h : (List.range (s.vtNom + 1)).find? (fun v => decide (f ≤ atVolt minRows v)) with
  | none =>
    rw [List.find?_range_eq_none] at h
    exact Or.inr ⟨rfl, fun v hv => by simpa using h v (by omega)⟩
  | some w =>
    rw [List.find?_range_eq_some] at h
    obtain ⟨hw, hmem, hleast⟩ := h
    rw [List.mem_range] at hmem
    exact Or.inl ⟨by simpa using Nat.le_of_lt_succ hmem, by simpa using hw, fun v hv => by simpa using hleast v hv⟩

theorem voltFor_spec (s : State) (f : Nat) : s.voltFor f ≤ s.vtNom ∧
    (f ≤ atVolt minRows s.vtNom → f ≤ atVolt minRows (s.voltFor f)) ∧ ∀ v, v < s.voltFor f → atVolt minRows v < f := by
  obtain ⟨hle, hf, hleast⟩ | ⟨he, hnone⟩ := voltFor_cases s f
  · exact ⟨hle, fun _ => hf, hleast⟩
  · exact ⟨Nat.le_of_eq he, fun h => by rwa [he], fun v hv => hnone v (Nat.le_of_lt (he ▸ hv))⟩

/-! ### DERATE -/

theorem derateCond_of_over {s : State} (hd : s.dev.derate = false)
    (h : s.sched.pb * 1000 < s.demandAt s.spaceSet s.sched.fMsps) :
    s.derateCond = (({ s with dev := { s.dev with derate := true } }).updPwr (fun p => { p with derateRun := 0 })).report
      0x0305 clsEvent 0 none s.sched.pb := by
  simp only [State.derateCond, hd, h, Bool.false_eq_true, if_false, if_true]

theorem derateCond_of_within {s : State} (hd : s.dev.derate = false)
    (h : s.demandAt s.spaceSet s.sched.fMsps ≤ s.sched.pb * 1000) : s.derateCond = s := by
  simp only [State.derateCond, hd, Nat.not_lt.mpr h, Bool.false_eq_true, if_false]

/-- Evaluations with 5 % to spare, this one counted. -/
def State.spareRun (s : State) : Nat :=
  if 100 * s.demandAt s.spaceSet (atVolt typRows s.vtNom) ≤ 95 * (s.sched.pb * 1000) then s.pwr.derateRun + 1 else 0

theorem derateCond_of_short {s : State} (hd : s.dev.derate = true) (h : s.spareRun < 10) :
    s.derateCond = s.updPwr (fun p => { p with derateRun := s.spareRun }) := by
  unfold State.derateCond
  rw [if_pos hd]
  exact if_neg (Nat.not_le.mpr h)

theorem derateCond_of_ten {s : State} (hd : s.dev.derate = true) (h : 10 ≤ s.spareRun) :
    s.derateCond = (({ s with dev := { s.dev with derate := false } }).updPwr (fun p => { p with derateRun := 0 })).report
      0x0306 clsEvent 0 none s.sched.pb := by
  unfold State.derateCond
  rw [if_pos hd]
  exact if_pos h

/-- Settles O25: each quantity by its formula's bounds, DERATE by the branch of its rule. -/
theorem powerBudget : Obligations.PowerBudget := by
  refine ⟨⟨fun nt lk s => ?_, fun t => ⟨pThAt_of_cool, ?_, ?_⟩⟩,
    fun s => ⟨(capFor_bounds s).1, (capFor_bounds s).2, voltFor_spec s⟩, ?_, ?_, ?_, ?_⟩
  · obtain ⟨hmod, hle⟩ := budget_bounds nt lk s
    exact ⟨hmod, fun h => budget_of_failed h nt lk, hle.trans (Nat.min_le_left ..), hle.trans (Nat.min_le_right ..), pIn_le s⟩
  · intro hlo hhi
    rw [pThAt_of_warm hlo]
    omega
  · intro hhi
    rw [pThAt_of_warm (by omega)]
    omega
  · intro s hd h
    rw [derateCond_of_over hd h]
    exact ⟨rfl, rfl, keeps_trans (t := ({ s with dev := { s.dev with derate := true } }).updPwr (fun p => { p with derateRun := 0 }))
      (by simp [State.keeps_iff, State.updPwr]) (keeps_mono report_keeps (by decide))⟩
  · exact fun s => derateCond_of_within
  · intro s hd h
    have hrun : s.spareRun = s.pwr.derateRun + 1 := if_pos h
    refine ⟨fun hlt => ?_, fun hge => ?_⟩
    · rw [derateCond_of_short hd (hrun ▸ hlt)]
      exact ⟨hd, hrun⟩
    · rw [derateCond_of_ten hd (hrun ▸ hge)]
      exact ⟨rfl, rfl⟩
  · intro s hd h
    have hrun : s.spareRun = 0 := if_neg (Nat.not_le.mpr h)
    rw [derateCond_of_short hd (by omega)]
    exact ⟨hd, hrun⟩

end Sys2Proof.Machine
end

section
/-!
PROOF. Entry to SAFE: what it sets and what it leaves (R29, R38, R418, R432).
-/
namespace Sys2Proof.Machine

/-! ### What a step of the entry leaves -/

theorem setMode_dev (s : State) (m : Mode) : (s.setMode m).dev = { s.dev with mode := m } := by
  unfold State.setMode
  split
  next h => exact h ▸ rfl
  next => exact (msix_keeps : State.keeps (State.report { s with dev := { s.dev with mode := m } } ..) _ _) .dev (by decide)

theorem FaultMgr.sameCounts.refl (f : FaultMgr) : f.sameCounts f := ⟨rfl, rfl, rfl, rfl⟩

/-- Of the configuration only the update unit and the flash differ. -/
def Cfg.updateOnly (c d : Cfg) : Prop :=
  d = { c with flash := d.flash, job := d.job, updStage := d.updStage, updResult := d.updResult, updCsp := d.updCsp }

theorem Cfg.updateOnly.trans {c d e : Cfg} (h : c.updateOnly d) (k : d.updateOnly e) : c.updateOnly e :=
  (show e = { d with flash := e.flash, job := e.job, updStage := e.updStage, updResult := e.updResult, updCsp := e.updCsp } from k).trans
    (congrArg (fun c : Cfg => { c with
      flash := e.flash, job := e.job, updStage := e.updStage, updResult := e.updResult, updCsp := e.updCsp }) h)

theorem Cfg.updateOnly.endLoad {c d : Cfg} (h : c.updateOnly d) : { c with phase := .none }.updateOnly { d with phase := .none } :=
  congrArg (fun x : Cfg => ({ x with phase := .none } : Cfg))
    (show d = { c with flash := d.flash, job := d.job, updStage := d.updStage, updResult := d.updResult, updCsp := d.updCsp } from h)

/-- Units freeze and parts `a` change: the mode and its cause, the fabric's clock, the fault manager's counters and the loaded
configuration stay. -/
structure State.freezes (s t : State) (a : List Part) : Prop where
  keeps : s.keeps t a
  dev : t.dev = { s.dev with refits := t.dev.refits }
  fclk : t.edg.fclkOk = s.edg.fclkOk
  fm : s.fm.sameCounts t.fm
  cfg : s.cfg.updateOnly t.cfg

theorem State.freezes.mono {s t : State} {a b : List Part} (h : s.freezes t a) (hab : ∀ p ∈ a, p ∈ b) : s.freezes t b :=
  { h with keeps := keeps_mono h.keeps hab }

theorem State.freezes.trans {s t u : State} {a : List Part} (h : s.freezes t a) (k : t.freezes u a) : s.freezes u a where
  keeps := keeps_trans h.keeps k.keeps
  dev := k.dev.trans (congrArg (fun d : Dev => { d with refits := u.dev.refits }) h.dev)
  fclk := k.fclk.trans h.fclk
  fm := h.fm.trans k.fm
  cfg := h.cfg.trans k.cfg

theorem State.freezes.of_keeps {s t : State} {a : List Part} (h : s.keeps t a)
    (n : Part.dev ∉ a ∧ Part.edg ∉ a ∧ Part.fm ∉ a ∧ Part.cfg ∉ a) : s.freezes t a where
  keeps := h
  dev := by rw [show t.dev = s.dev from h .dev n.1]
  fclk := by rw [show t.edg = s.edg from h .edg n.2.1]
  fm := by rw [show t.fm = s.fm from h .fm n.2.2.1]; exact .refl _
  cfg := by rw [show t.cfg = s.cfg from h .cfg n.2.2.2]; exact rfl

theorem State.freezes.refl (s : State) (a : List Part) : s.freezes s a :=
  (State.freezes.of_keeps (a := []) keeps_refl (by simp)).mono (by simp)

theorem State.freezes.report (s : State) (c k u : Nat) (t : Option Nat) (d : Nat) : s.freezes (s.report c k u t d) [.fm] where
  keeps := report_keeps
  dev := rfl
  fclk := rfl
  fm := arrive_sameCounts _ _
  cfg := rfl

theorem State.freezes.foldl {α : Type} {f : State → α → State} {a : List Part} (h : ∀ (s : State) x, s.freezes (f s x) a) (l : List α)
    (s : State) : s.freezes (l.foldl f s) a :=
  List.foldlRecOn (motive := fun t => s.freezes t a) l f (.refl s a) fun t ht x _ => ht.trans (h t x)

/-! ### The units -/

theorem acqSafe_keeps {s : State} {c : Nat} : s.keeps (s.acqSafe c) [.trig, .sched] := by
  unfold State.acqSafe
  dsimp only
  split
  · exact keeps_refl
  · exact keeps_trans (keeps_ite (State.queues.acqMark ..).2.2 keeps_refl) (keeps_mono updAcq_keeps (by decide))

theorem updSeq_keeps {s : State} {q : Nat} {f : TrigSeq → TrigSeq} : s.keeps (s.updSeq q f) [.trig] := by
  simp [State.keeps_iff, State.updSeq, State.setSeq]

theorem freezeTrig_keeps {s : State} {f : State → Nat → State} (hf : ∀ (s : State) c, s.keeps (f s c) [.trig, .sched]) :
    s.keeps (s.freezeTrig f) [.trig, .sched] := by
  have hseq : s.keeps ((List.range 16).foldl (fun s q => s.updSeq q (fun v => { v with frozen := true })) s) [.trig, .sched] :=
    keeps_mono (keeps_foldl [.trig] _ (fun _ _ => updSeq_keeps) _ s) (by decide)
  unfold State.freezeTrig
  dsimp only
  generalize (List.range 16).foldl (fun (s : State) q => s.updSeq q (fun v => { v with frozen := true })) s = u at hseq
  have hf := keeps_then_foldl hf (List.range 16) hseq
  generalize (List.range 16).foldl f u = v at hf
  exact keeps_trans hf (by simp [State.keeps_iff])

theorem setSink_keeps {s : State} {k : Nat} {v : Sink} : s.keeps (s.setSink k v) [.chv] := by
  simp [State.keeps_iff, State.setSink]

theorem funnel_keeps {s : State} {k typ ten a b : Nat} : s.keeps (s.funnel k typ ten a b) [.chv] := by
  unfold State.funnel
  dsimp only
  split <;> exact setSink_keeps

theorem periodic_keeps {s : State} {k was : Nat} : s.keeps (s.periodic k was) [.chv] := keeps_ite keeps_refl funnel_keeps

theorem closePut_keeps {s : State} {k reason ten : Nat} : s.keeps (s.closePut k reason ten) [.chv] :=
  keeps_trans (keeps_trans (keeps_ite funnel_keeps keeps_refl) funnel_keeps) periodic_keeps

theorem chvSafe_keeps {s : State} : s.keeps s.chvSafe [.chv] := by
  have hclose : s.keeps ((List.range 8).foldl (fun (s : State) k => if (s.sink k).en then s.closePut k 1 0xFF else s) s) [.chv] :=
    keeps_foldl _ _ (fun _ _ => keeps_ite closePut_keeps keeps_refl) _ s
  unfold State.chvSafe
  dsimp only
  generalize (List.range 8).foldl (fun (s : State) k => if (s.sink k).en then s.closePut k 1 0xFF else s) s = u at hclose
  have hu : s.keeps (if s.chv.frozen then s else u) [.chv] := keeps_ite keeps_refl hclose
  generalize (if s.chv.frozen then s else u) = v at hu
  exact keeps_trans hu (by simp [State.keeps_iff])

theorem State.freezes.setBank (s : State) (g : Nat) (b : EdgeBank) : s.freezes (s.setBank g b) [.edg, .fm] where
  keeps := keeps_mono setBank_keeps (by decide)
  dev := rfl
  fclk := rfl
  fm := .refl _
  cfg := rfl

/-- A bank that fails without holding its tenant. -/
theorem State.freezes.failBank (s : State) (g cause : Nat) (hiZ : Bool) : s.freezes (s.failBank g cause hiZ false) [.edg, .fm] := by
  have hreport : ∀ (u : State) c k n t d, u.freezes (u.report c k n t d) [.edg, .fm] := fun u c k n t d =>
    (State.freezes.report u c k n t d).mono (by decide)
  unfold State.failBank
  dsimp only
  split
  · exact .refl s _
  · exact .setBank ..
  · split <;> exact (State.freezes.setBank s g _).trans (hreport _ _ _ _ _ _)

theorem State.freezes.stopPr (s : State) : s.freezes s.stopPr [.edg, .dev] := by
  unfold State.stopPr
  split <;> exact ⟨by simp [State.keeps_iff], rfl, rfl, .refl _, rfl⟩

theorem State.freezes.updFlash (s : State) (f : Flash → Flash) : s.freezes (s.updFlash f) [.cfg, .fm] where
  keeps := by simp [State.keeps_iff, State.updFlash]
  dev := rfl
  fclk := rfl
  fm := .refl _
  cfg := rfl

theorem State.freezes.flashReport (s : State) (c k u : Nat) (t : Option Nat) (d : Nat) : s.freezes (s.report c k u t d) [.cfg, .fm] :=
  (State.freezes.report s c k u t d).mono (by decide)

theorem State.freezes.eraseSector (s : State) (n : Nat) : s.freezes (s.eraseSector n) [.cfg, .fm] := by
  unfold State.eraseSector
  dsimp only
  split
  · exact (State.freezes.updFlash s _).trans ((State.freezes.updFlash _ _).trans (.flashReport ..))
  · exact .updFlash ..

theorem State.freezes.recordRoom (s : State) : s.freezes s.recordRoom [.cfg, .fm] := by
  unfold State.recordRoom
  dsimp only
  split
  · exact .refl s _
  · refine State.freezes.trans ?_ (.updFlash _ _)
    split
    · exact (State.freezes.updFlash ..).trans (.eraseSector ..)
    · exact .refl s _

theorem State.freezes.writeStage (s : State) (k : Nat) (u : UStage) (cseq len pcheck : Nat) :
    s.freezes (s.writeStage k u cseq len pcheck) [.cfg, .fm] := by
  have h : s.freezes (s.recordStage k u cseq len pcheck) [.cfg, .fm] := by
    unfold State.recordStage
    exact (State.freezes.recordRoom s).trans (.updFlash _ _)
  unfold State.writeStage
  dsimp only
  split
  · exact h.trans (.flashReport ..)
  · split
    · exact h
    · exact h.trans (.flashReport ..)

theorem State.freezes.abortJob (s : State) (r : Nat) : s.freezes (s.abortJob r) [.cfg, .fm] := by
  unfold State.abortJob
  split
  · exact .refl s _
  next j _ =>
    have hw := State.freezes.writeStage s j.slot .aborted j.cseq (s.stageRec j.slot).len (s.stageRec j.slot).pcheck
    dsimp only
    generalize s.writeStage j.slot .aborted j.cseq (s.stageRec j.slot).len (s.stageRec j.slot).pcheck = u at hw
    have hend : u.freezes { u with cfg := { u.cfg with
        job := none, updStage := .aborted, updResult := r, updCsp := j.csp } } [.cfg, .fm] :=
      ⟨by simp [State.keeps_iff], rfl, rfl, .refl _, rfl⟩
    exact hw.trans (hend.trans (.flashReport ..))

/-! ### The entry -/

/-- The units as SAFE freezes them. -/
def State.frozen (s : State) : State := (((s.haltAll.freezeTrig State.acqSafe).chvSafe).failAll 1).stopPr

/-- What the units' freezing changes. -/
def frozenParts : List Part := [.dev, .tiles, .fm, .sched, .trig, .chv, .edg]

theorem frozen_frame (s : State) : s.freezes s.frozen frozenParts ∧ s.frozen.trig.frozen = true ∧ s.frozen.trig.outPins = 0 := by
  have hhalt : s.keeps s.haltAll [.tiles] := by simp [State.keeps_iff, State.haltAll]
  have htrig : s.haltAll.keeps (s.haltAll.freezeTrig State.acqSafe) [.trig, .sched] := freezeTrig_keeps fun _ _ => acqSafe_keeps
  have hset : (s.haltAll.freezeTrig State.acqSafe).trig.frozen = true ∧ (s.haltAll.freezeTrig State.acqSafe).trig.outPins = 0 := ⟨rfl, rfl⟩
  unfold State.frozen
  generalize s.haltAll.freezeTrig State.acqSafe = u at htrig hset
  have hchv : u.keeps u.chvSafe [.chv] := chvSafe_keeps
  have hfail : u.chvSafe.freezes (u.chvSafe.failAll 1) [.edg, .fm] := .foldl (fun s g => .failBank s g 1 false) _ _
  have hrest : u.chvSafe.freezes (u.chvSafe.failAll 1).stopPr frozenParts :=
    (hfail.mono (by decide)).trans ((State.freezes.stopPr _).mono (by decide))
  have hkeep : (u.chvSafe.failAll 1).stopPr.trig = u.trig := by
    rw [show ∀ v : State, v.stopPr.trig = v.trig from fun v => (State.freezes.stopPr v).keeps .trig (by decide),
      show (u.chvSafe.failAll 1).trig = u.chvSafe.trig from hfail.keeps .trig (by decide), show u.chvSafe.trig = u.trig from hchv .trig (by decide)]
  have hfirst : s.freezes u.chvSafe [.tiles, .trig, .sched, .chv] :=
    .of_keeps (keeps_trans (keeps_mono hhalt (by decide)) (keeps_trans (keeps_mono htrig (by decide)) (keeps_mono hchv (by decide))))
      (by decide)
  exact ⟨(hfirst.mono (by decide)).trans hrest, by rw [hkeep]; exact hset.1, by rw [hkeep]; exact hset.2⟩

/-- The units are frozen and the load and MARK_OUT are over: the entry but for an update that it aborts. -/
def State.safeUnits (s : State) : State :=
  let u := s.frozen
  { u with thy := { u.thy with markOut := false }, cfg := { u.cfg with phase := .none } }

/-- An update that the port does not run is aborted. -/
def State.abortUpdate (s : State) : State := if s.cfg.job.any (fun j => !j.csp) then s.abortJob 0x41 else s

/-- The mode and its cause, before a unit freezes. -/
def State.safeMode (s : State) (c : SafeCause) : State := ({ s with dev := { s.dev with cause := c } }).setMode .safe

theorem enterSafe_eq {s : State} (h : s.dev.mode.maySafe = true) (c : SafeCause) :
    s.enterSafe c = (s.safeMode c).safeUnits.abortUpdate := by
  unfold State.enterSafe
  rw [if_neg (by simp [h])]
  unfold State.abortUpdate State.safeUnits State.frozen State.safeMode
  with_reducible rfl

theorem enterSafe_of_not {s : State} (h : s.dev.mode.maySafe = false) (c : SafeCause) : s.enterSafe c = s := if_pos h

/-- What SAFE changes. -/
def safeParts : List Part := [.dev, .tiles, .fm, .sched, .trig, .host, .thy, .chv, .edg, .cfg]

theorem safeMode_frame (s : State) (c : SafeCause) : (s.safeMode c).dev = { s.dev with cause := c, mode := .safe } ∧
    s.fm.sameCounts (s.safeMode c).fm ∧ s.keeps (s.safeMode c) [.dev, .fm, .host] :=
  ⟨setMode_dev _ _, setMode_sameCounts { s with dev := { s.dev with cause := c } } .safe,
    keeps_trans (t := { s with dev := { s.dev with cause := c } }) (by simp [State.keeps_iff]) setMode_keeps⟩

theorem safeUnits_frame (u : State) : u.safeUnits.dev = { u.dev with refits := u.safeUnits.dev.refits } ∧
    u.safeUnits.trig.frozen = true ∧ u.safeUnits.trig.outPins = 0 ∧ u.safeUnits.thy.markOut = false ∧
    u.safeUnits.edg.fclkOk = u.edg.fclkOk ∧ u.fm.sameCounts u.safeUnits.fm ∧
    { u.cfg with phase := .none }.updateOnly u.safeUnits.cfg ∧ u.keeps u.safeUnits (.thy :: .cfg :: frozenParts) := by
  unfold State.safeUnits
  obtain ⟨hfz, hfrozen, hpins⟩ := frozen_frame u
  generalize u.frozen = v at hfz hfrozen hpins
  refine ⟨hfz.dev, hfrozen, hpins, rfl, hfz.fclk, hfz.fm, hfz.cfg.endLoad, ?_⟩
  exact keeps_trans (keeps_mono hfz.keeps (by decide)) (by simp [State.keeps_iff, frozenParts])

/-- The entry to SAFE of a device that may enter it: mode and cause, the frozen trigger unit, and what stays. -/
theorem enterSafe_frame {s : State} (h : s.dev.mode.maySafe = true) (c : SafeCause) :
    (s.enterSafe c).dev.mode = .safe ∧ (s.enterSafe c).dev.cause = c ∧ (s.enterSafe c).trig.frozen = true ∧
    (s.enterSafe c).trig.outPins = 0 ∧ (s.enterSafe c).thy.markOut = false ∧ (s.enterSafe c).edg.fclkOk = s.edg.fclkOk ∧
    s.fm.sameCounts (s.enterSafe c).fm ∧ { s.cfg with phase := .none }.updateOnly (s.enterSafe c).cfg ∧
    s.keeps (s.enterSafe c) safeParts := by
  rw [enterSafe_eq h]
  obtain ⟨hdev, hfm, hkeeps⟩ := safeMode_frame s c
  generalize s.safeMode c = u at hdev hfm hkeeps
  obtain ⟨hdev', hfrozen, hpins, hmark, hfclk, hfm', hcfg, hkeeps'⟩ := safeUnits_frame u
  generalize u.safeUnits = v at hdev' hfrozen hpins hmark hfclk hfm' hcfg hkeeps'
  have hjob : v.freezes v.abortUpdate [.cfg, .fm] := by
    unfold State.abortUpdate
    split
    · exact .abortJob ..
    · exact .refl ..
  generalize v.abortUpdate = w at hjob
  have hdevw : w.dev = v.dev := hjob.keeps .dev (by decide)
  have htrig : w.trig = v.trig := hjob.keeps .trig (by decide)
  have hthy : w.thy = v.thy := hjob.keeps .thy (by decide)
  have hedg : u.edg = s.edg := hkeeps .edg (by decide)
  have hcfgu : u.cfg = s.cfg := hkeeps .cfg (by decide)
  rw [hcfgu] at hcfg
  rw [hedg] at hfclk
  rw [hdev] at hdev'
  refine ⟨?_, ?_, htrig ▸ hfrozen, htrig ▸ hpins, hthy ▸ hmark, hjob.fclk.trans hfclk, (hfm.trans hfm').trans hjob.fm,
    hcfg.trans hjob.cfg, ?_⟩
  · rw [hdevw, hdev']
  · rw [hdevw, hdev']
  · exact keeps_trans (keeps_mono hkeeps (by decide)) (keeps_trans (keeps_mono hkeeps' (by decide)) (keeps_mono hjob.keeps (by decide)))

end Sys2Proof.Machine
end

section
/-!
PROOF. Moves of V_T and of the hub level (R270, R273, Table 9-5).
-/
namespace Sys2Proof.Machine

theorem updPwr_keeps {s : State} {f : Pwr → Pwr} : s.keeps (s.updPwr f) [.pwr] := by
  simp [State.keeps_iff, State.updPwr]
theorem setRate_keeps {s : State} : s.keeps s.setRate [.sched] := by
  simp [State.keeps_iff, State.setRate]
theorem setTokenRate_keeps {s : State} : s.keeps s.setTokenRate [.sched] := by
  simp [State.keeps_iff, State.setTokenRate]
theorem updPwr_setRate_keeps {s : State} {f : Pwr → Pwr} : s.keeps (s.updPwr f).setRate [.pwr, .sched] :=
  keeps_trans (keeps_mono updPwr_keeps (by decide)) (keeps_mono setRate_keeps (by decide))
theorem updPwr_setTokenRate_keeps {s : State} {f : Pwr → Pwr} : s.keeps (s.updPwr f).setTokenRate [.pwr, .sched] :=
  keeps_trans (keeps_mono updPwr_keeps (by decide)) (keeps_mono setTokenRate_keeps (by decide))

/-! ### V_T -/

/-- The rate at once, before the voltage has moved. -/
def Pwr.lowCap (p : Pwr) (f : Nat) : Nat := if f ≠ 0 ∧ (p.cap = 0 ∨ f < p.cap) then f else p.cap

theorem steer_of_moving {p : Pwr} {f v : Nat} (h : p.vtTarget.isSome = true) :
    p.steer f v = { p with capTarget := f, vtWish := v, cap := p.lowCap f } := by
  simp only [Pwr.steer, h, if_true, Pwr.lowCap]
  split <;> rfl

theorem steer_of_down {p : Pwr} {f v : Nat} (h : p.vtTarget = none) (hv : v < p.vt) :
    p.steer f v = { p with capTarget := f, vtWish := v, cap := f, vtTarget := some v } := by
  simp only [Pwr.steer, h, Option.isSome_none, Bool.false_eq_true, if_false, Nat.lt_asymm hv, hv, if_true]

theorem steer_of_up {p : Pwr} {f v : Nat} (h : p.vtTarget = none) (hv : p.vt < v) :
    p.steer f v = { p with capTarget := f, vtWish := v, cap := p.lowCap f, vtTarget := some v } := by
  simp only [Pwr.steer, h, Option.isSome_none, Bool.false_eq_true, if_false, hv, if_true, Pwr.lowCap]
  split <;> rfl

theorem steer_of_there {p : Pwr} {f v : Nat} (h : p.vtTarget = none) (hv : v = p.vt) :
    p.steer f v = { p with capTarget := f, vtWish := v, cap := f } := by
  simp only [Pwr.steer, h, Option.isSome_none, Bool.false_eq_true, if_false, hv, Nat.lt_irrefl]

theorem vtDone_of_target {p : Pwr} {v : Nat} (h : p.vtTarget = some v) :
    p.vtDone = ({ p with vt := v, vtTarget := none }).steer p.capTarget p.vtWish := by
  simp only [Pwr.vtDone, h]

/-- A move has ended: the voltage is at the target, wherever the next move goes. -/
theorem vtDone_frame {p : Pwr} {v : Nat} (h : p.vtTarget = some v) : p.vtDone.vt = v ∧ p.vtDone.hub = p.hub ∧
    (p.vtWish = v → p.vtDone.cap = p.capTarget ∧ p.vtDone.vtTarget = none) := by
  rw [vtDone_of_target h]
  obtain hlt | heq | hgt := Nat.lt_trichotomy p.vtWish v
  · rw [steer_of_down rfl hlt]
    exact ⟨rfl, rfl, fun he => absurd he (Nat.ne_of_lt hlt)⟩
  · rw [steer_of_there rfl heq]
    exact ⟨rfl, rfl, fun _ => ⟨rfl, rfl⟩⟩
  · rw [steer_of_up rfl hgt]
    exact ⟨rfl, rfl, fun he => absurd he (Nat.ne_of_gt hgt)⟩

/-! ### The hub -/

theorem steerHub_of_there {p : Pwr} {l : Nat} (h : l = p.hub) : p.steerHub l = { p with hubWish := some l } := if_pos (Or.inr h)

theorem steerHub_of_down {p : Pwr} {l : Nat} (h : p.hubTarget = none) (hl : l < p.hub) :
    p.steerHub l = { p with hubWish := some l, hub := l, hubTarget := some l } := by
  simp only [Pwr.steerHub, h, Option.isSome_none, Bool.false_eq_true, false_or, Nat.ne_of_lt hl, if_false, hl, if_true]

theorem steerHub_of_up {p : Pwr} {l : Nat} (h : p.hubTarget = none) (hl : p.hub < l) :
    p.steerHub l = { p with hubWish := some l, hubTarget := some l } := by
  simp only [Pwr.steerHub, h, Option.isSome_none, Bool.false_eq_true, false_or, Nat.ne_of_gt hl, if_false, Nat.lt_asymm hl]

theorem steerHub_vt (p : Pwr) (l : Nat) : (p.steerHub l).vt = p.vt := by
  unfold Pwr.steerHub
  dsimp only
  split
  · rfl
  · split <;> rfl

theorem hubDone_of_target {p : Pwr} {l : Nat} (h : p.hubTarget = some l) :
    p.hubDone = ({ p with hub := l, hubTarget := none }).steerHub (p.hubWish.getD l) := by
  simp only [Pwr.hubDone, h]

/-- Settles O26: a move's branch gives the cap, the voltage and the level in their order. -/
theorem voltageMoves : Obligations.VoltageMoves := by
  refine ⟨fun p f v h => ⟨fun hv => ?_, fun hv => ?_, fun hv => ?_⟩, fun p f v h => ?_, fun v s h => ?_, fun l s h => ?_,
    fun p l h => ⟨fun hl => ?_, fun hl => ?_⟩⟩
  · rw [steer_of_down h hv]
    exact ⟨rfl, rfl, rfl⟩
  · rw [steer_of_up h hv]
    exact ⟨rfl, rfl, rfl⟩
  · rw [steer_of_there h hv]
    exact ⟨rfl, h, rfl⟩
  · rw [steer_of_moving h]
    exact ⟨rfl, rfl, rfl⟩
  · obtain ⟨hvt, hhub, hwish⟩ := vtDone_frame h
    exact Runs.of rfl ⟨hvt, hwish, hhub, updPwr_setRate_keeps⟩
  · refine Runs.of rfl ⟨fun hw => ?_, fun m hw hm => ?_, fun m hw hm => ?_, ?_, updPwr_setTokenRate_keeps⟩
    · show s.pwr.hubDone.hub = l ∧ s.pwr.hubDone.hubTarget = none
      rw [hubDone_of_target h, steerHub_of_there hw]
      exact ⟨rfl, rfl⟩
    · show s.pwr.hubDone.hub = l ∧ s.pwr.hubDone.hubTarget = some m
      rw [hubDone_of_target h, hw, Option.getD_some, steerHub_of_up rfl hm]
      exact ⟨rfl, rfl⟩
    · show s.pwr.hubDone.hub = m ∧ s.pwr.hubDone.hubTarget = some m
      rw [hubDone_of_target h, hw, Option.getD_some, steerHub_of_down rfl hm]
      exact ⟨rfl, rfl⟩
    · show s.pwr.hubDone.vt = s.pwr.vt
      rw [hubDone_of_target h, steerHub_vt]
  · rw [steerHub_of_down h hl]
    exact ⟨rfl, rfl⟩
  · rw [steerHub_of_up h hl]
    exact ⟨rfl, rfl⟩

end Sys2Proof.Machine
end

section
/-!
PROOF. Basil's evaluation: what it measures and publishes, and what follows outside SAFE (R247, R264, R268).
-/
namespace Sys2Proof.Machine

/-- Tiles take an idempotent change in turn: each that is listed has it, and no other. -/
theorem foldl_updTile {f : Tile → Tile} (hf : ∀ t, f (f t) = f t) (ls : List Nat) (s : State) (l : Nat) :
    (ls.foldl (fun (s : State) x => s.updTile x f) s).tile l = if l ∈ ls then f (s.tile l) else s.tile l := by
  induction ls generalizing s with
  | nil => rfl
  | cons x r ih =>
    rw [List.foldl_cons, ih]
    by_cases hx : l = x
    · subst hx
      rw [State.tile_updTile, hf, if_pos List.mem_cons_self, ite_self]
    · rw [State.tile_updTile_ne _ _ hx]
      simp [hx]

theorem countEnergy_keeps {s : State} {used : List Word} : s.keeps (s.countEnergy used) [.pwr] := updPwr_keeps

/-- A tile whose executed steps have been taken in. -/
def Tile.counted (t : Tile) : Tile := { t with ran := [] }

/-- The tenants' energy per step has been taken in, and every tile's steps with it. -/
def State.stepsTaken (s : State) (energy : Map Nat) : State :=
  ((List.range 192).filter (fun l => !(s.tile l).ran.isEmpty)).foldl (fun s l => s.updTile l Tile.counted)
    { s with sched := { s.sched with energy := energy } }

theorem stepsTaken_keeps {s : State} {energy : Map Nat} : s.keeps (s.stepsTaken energy) [.sched, .tiles] :=
  keeps_then_foldl (fun _ _ => keeps_mono updTile_keeps (by decide)) _ (by simp [State.keeps_iff])

theorem stepsTaken_tile (s : State) (energy : Map Nat) {l : Nat} (hl : l < 192) : (s.stepsTaken energy).tile l = (s.tile l).counted := by
  refine (foldl_updTile (f := Tile.counted) (fun _ => rfl) _ _ l).trans ?_
  split
  · rfl
  next hn =>
    have hran : (s.tile l).ran = [] := by
      simp only [List.mem_filter, List.mem_range, hl, true_and, Bool.not_eq_true', Bool.not_eq_false, List.isEmpty_iff] at hn
      exact hn
    show s.tile l = { s.tile l with ran := [] }
    rw [← hran]

/-- The rate, the voltage and the level stand where they stood. -/
def Pwr.sameMoves (p q : Pwr) : Prop := q.cap = p.cap ∧ q.vt = p.vt ∧ q.hub = p.hub

theorem measure_eq (s : State) (used : List Word) (loads : List (BitVec 16)) : ∃ (f : Pwr → Pwr) (energy : Map Nat),
    (∀ p : Pwr, p.sameMoves (f p)) ∧ s.measure used loads = ((s.countEnergy used).updPwr f).stepsTaken energy := by
  refine ⟨_, _, ?_, rfl⟩
  exact fun _ => ⟨rfl, rfl, rfl⟩

theorem measure_frame (s : State) (used : List Word) (loads : List (BitVec 16)) :
    s.keeps (s.measure used loads) [.pwr, .sched, .tiles] ∧ s.pwr.sameMoves (s.measure used loads).pwr ∧
    ∀ l < 192, (s.measure used loads).tile l = (s.tile l).counted := by
  obtain ⟨f, energy, hf, he⟩ := measure_eq s used loads
  rw [he]
  have hpre : s.keeps ((s.countEnergy used).updPwr f) [.pwr] := keeps_trans countEnergy_keeps updPwr_keeps
  have hmoves : s.pwr.sameMoves ((s.countEnergy used).updPwr f).pwr := hf _
  generalize (s.countEnergy used).updPwr f = u at hpre hmoves
  have hpwr : (u.stepsTaken energy).pwr = u.pwr := stepsTaken_keeps .pwr (by decide)
  refine ⟨keeps_trans (keeps_mono hpre (by decide)) (keeps_mono stepsTaken_keeps (by decide)), hpwr ▸ hmoves, fun l hl => ?_⟩
  rw [stepsTaken_tile u energy hl, tile_of_keeps hpre (by decide)]

theorem freshNat_keeps {s : State} : s.keeps s.freshNat.2 [.freeCtr] := by
  simp [State.keeps_iff, State.freshNat]

theorem budgetRecord_keeps {s : State} : s.keeps s.budgetRecord [.chv, .freeCtr] := by
  unfold State.budgetRecord
  split
  · exact keeps_trans (keeps_trans (keeps_mono freshNat_keeps (by decide)) (keeps_mono freshNat_keeps (by decide)))
      (keeps_mono trace_keeps (by decide))
  · exact keeps_refl

/-- What Basil publishes, and asks for, of a measured state. -/
theorem publish_frame (m : State) (nt lk : Nat) (u : State) (hu : u = (((m.publish nt lk).budgetRecord).endFastCap).askTemps) :
    u.sched.pb = m.budget nt lk ∧ u.pwr.tMax = m.hottest.1 ∧ m.pwr.sameMoves u.pwr ∧ u.tiles = m.tiles ∧
    m.keeps u [.pwr, .sched, .ana, .chv, .freeCtr] := by
  have hpub : m.keeps (m.publish nt lk) [.pwr, .sched] := by simp [State.keeps_iff, State.publish]
  have hpb : (m.publish nt lk).sched.pb = m.budget nt lk ∧ (m.publish nt lk).pwr.tMax = m.hottest.1 ∧
      m.pwr.sameMoves (m.publish nt lk).pwr := ⟨rfl, rfl, rfl, rfl, rfl⟩
  generalize m.publish nt lk = p at hu hpub hpb
  have hrec : p.keeps p.budgetRecord [.chv, .freeCtr] := budgetRecord_keeps
  have hsched : p.budgetRecord.sched = p.sched := hrec .sched (by decide)
  have hpwr : p.budgetRecord.pwr = p.pwr := hrec .pwr (by decide)
  generalize p.budgetRecord = b at hu hrec hsched hpwr
  subst hu
  have hkeep : b.keeps b.endFastCap.askTemps [.pwr, .ana] := by
    simp [State.keeps_iff, State.endFastCap, State.askTemps, State.updPwr]
  have hall : m.keeps b.endFastCap.askTemps [.pwr, .sched, .ana, .chv, .freeCtr] :=
    keeps_trans (keeps_mono hpub (by decide)) (keeps_trans (keeps_mono hrec (by decide)) (keeps_mono hkeep (by decide)))
  exact ⟨hsched ▸ hpb.1, (congrArg Pwr.tMax hpwr).trans hpb.2.1, (hpwr ▸ hpb.2.2 : m.pwr.sameMoves b.pwr), hall .tiles (by decide), hall⟩

theorem execBasilEvaluate_of_configured {used : List Word} {lk : BitVec 16} {loads : List (BitVec 16)} {waited : Bool}
    {share : BitVec 10} {s : State} (hc : s.dev.mode.configured = true) (u : State)
    (hu : u = ((((s.measure used loads).publish (sumNat (((used.take 67).drop 40).map (fun x => x.toNat)))
      (100 * lk.toNat)).budgetRecord).endFastCap).askTemps) :
    execBasilEvaluate used lk loads waited share s =
      if u.dev.mode = .safe then .next u else .next (((((u.derateEval).floorEval).hubEval waited share.toNat).remode).place) := by
  have hm : ¬ (s.dev.mode = .off ∨ s.dev.mode = .keep) := by
    rintro (h | h) <;> simp [h, Mode.configured] at hc
  subst hu
  unfold execBasilEvaluate
  rw [if_neg hm, if_neg (by simp [hc])]

theorem execBasilEvaluate_of_early {used : List Word} {lk : BitVec 16} {loads : List (BitVec 16)} {waited : Bool}
    {share : BitVec 10} {s : State} (h : s.dev.mode = .reset ∨ s.dev.mode = .selftest ∨ s.dev.mode = .load) :
    execBasilEvaluate used lk loads waited share s = .next (s.countEnergy used) := by
  have hm : ¬ (s.dev.mode = .off ∨ s.dev.mode = .keep) := by
    obtain h | h | h := h <;> simp [h]
  have hc : s.dev.mode.configured = false := by
    obtain h | h | h := h <;> simp [h, Mode.configured]
  unfold execBasilEvaluate
  rw [if_neg hm, if_pos hc]

/-- Settles O27: the evaluation publishes of the measured state, and branches on SAFE. -/
theorem basilEvaluation : Obligations.BasilEvaluation := by
  refine ⟨fun used lk loads waited share s hc => ?_, fun used lk loads waited share s h =>
    Runs.of (execBasilEvaluate_of_early h) ⟨rfl, countEnergy_keeps⟩⟩
  dsimp only
  obtain ⟨hmk, hmm, hmt⟩ := measure_frame s used loads
  have hexec := fun u hu => execBasilEvaluate_of_configured (waited := waited) (share := share) (used := used) (loads := loads) (lk := lk) hc u hu
  generalize hu : ((((s.measure used loads).publish (sumNat (((used.take 67).drop 40).map (fun x => x.toNat)))
    (100 * lk.toNat)).budgetRecord).endFastCap).askTemps = u at hexec
  obtain ⟨hpb, ht, hmoves, htiles, hkeeps⟩ := publish_frame _ _ _ u hu.symm
  have hall : s.keeps u [.pwr, .sched, .ana, .tiles, .chv, .freeCtr] := keeps_trans (keeps_mono hmk (by decide)) (keeps_mono hkeeps (by decide))
  have hdev : u.dev = s.dev := hall .dev (by decide)
  refine ⟨⟨hpb, ht, hmoves.1.trans hmm.1, hmoves.2.1.trans hmm.2.1, hmoves.2.2.trans hmm.2.2, fun l hl => ?_, hall⟩,
    fun hs => Runs.of ((hexec u rfl).trans (if_pos (hdev ▸ hs))) rfl,
    fun hs => Runs.of ((hexec u rfl).trans (if_neg (hdev ▸ hs))) rfl⟩
  exact (congrArg (fun m : Map Tile => Map.get m {} l) htiles).trans (hmt l hl)

end Sys2Proof.Machine
end

section
/-!
PROOF. The input and the converters: the fast cap, the limiter, a converter out of its window and a phase that is shed (R259 to R261).
-/
namespace Sys2Proof.Machine

/-- What the fast cap makes of Basil's state: a rising move reverses, and the hub falls to H1. -/
def Pwr.fastCapped (p : Pwr) : Pwr :=
  let rising := fun (t : Option Nat) (v : Nat) => if t.any (fun x => decide (v < x)) then none else t
  let p := { p with fastCap := true, hubWish := none, vtTarget := rising p.vtTarget p.vt, hubTarget := rising p.hubTarget p.hub }
  if p.small ∨ p.hub ≤ 1 then p else { p with hub := 1, hubTarget := some 1 }

theorem fastCapped_frame (p : Pwr) : p.fastCapped.fastCap = true ∧ (p.small = false → p.fastCapped.hub ≤ 1) ∧ p.fastCapped.vt = p.vt := by
  unfold Pwr.fastCapped
  dsimp only
  split
  next h => exact ⟨rfl, fun hs => h.resolve_left (by simp [hs]), rfl⟩
  · exact ⟨rfl, fun _ => Nat.le_refl 1, rfl⟩

/-- The fast cap holds the rate to the floor. -/
theorem setRate_of_fastCap {s : State} (h : s.pwr.fastCap = true) : s.setRate.sched.fMsps ≤ s.floorRate := by
  show (if s.pwr.fastCap then min _ s.floorRate else _) ≤ s.floorRate
  rw [if_pos h]
  exact Nat.min_le_right ..

theorem execFastCap_of_over {iin : BitVec 16} {s : State} (hm : s.dev.mode.afterReset = true) (hi : 15200 ≤ iin.toNat)
    (hf : s.pwr.fastCap = false) :
    execFastCap iin s = .next (((s.updPwr Pwr.fastCapped).setRate.setTokenRate).report 0x0302 clsEvent 0 none iin.toNat) :=
  if_neg (by simp [hm, hf, hi])

theorem execFastCap_of_under {iin : BitVec 16} {s : State} (h : iin.toNat < 15200) : execFastCap iin s = .next s :=
  if_pos (Or.inr (Or.inl h))

theorem execLimitTrip_of_on {vin : BitVec 16} {s : State} (h : s.dev.mode.afterReset = true) : execLimitTrip vin s =
    .next (((s.updPwr (fun p => { p with limiter := true })).report 0x0303 clsDevice 0 none vin.toNat).enterSafe .supply) := if_pos h

theorem execPhaseShed_of_new {c : Fin 14} {p : Fin 7} {s : State} (hp : p.val ≤ phasesOf c)
    (hn : s.pwr.phaseBad.contains (8 * c.val + p.val) = false) (hm : s.dev.mode.afterReset = true) :
    execPhaseShed c p s = .next ((s.updPwr (fun v => { v with phaseBad := (8 * c.val + p.val) :: v.phaseBad })).report
      0x0300 clsDegraded c none (c.val + 2 ^ 8 * p.val)) :=
  if_neg (by
    rintro (h | h | h)
    · exact Nat.not_lt.mpr hp h
    · rw [hn] at h
      exact Bool.false_ne_true h
    · rw [hm] at h
      exact Bool.false_ne_true h.symm)

/-- Settles O28: the branches of each command, and the entry to SAFE. -/
theorem supplyFaults : Obligations.SupplyFaults := by
  refine ⟨fun iin s hm hi hf => ?_, fun iin s h => Runs.of (execFastCap_of_under h) rfl, fun vin s hm hsafe => ?_,
    fun vin s hm => ?_, fun c s hsafe => ?_, fun c p s hp hn hm => ?_⟩
  · obtain ⟨hcap, hhub, hvt⟩ := fastCapped_frame s.pwr
    refine Runs.of (execFastCap_of_over hm hi hf) ⟨hcap, ?_, hhub, hvt, rfl, ?_⟩
    · exact setRate_of_fastCap (s := s.updPwr Pwr.fastCapped) hcap
    · exact keeps_trans (keeps_mono (keeps_trans updPwr_setRate_keeps (keeps_mono setTokenRate_keeps (by decide))) (by decide))
        (keeps_mono report_keeps (by decide))
  · have hpre : s.keeps ((s.updPwr (fun p => { p with limiter := true })).report 0x0303 clsDevice 0 none vin.toNat) [.pwr, .fm] :=
      keeps_trans (keeps_mono updPwr_keeps (by decide)) (keeps_mono report_keeps (by decide))
    have hlim : ((s.updPwr (fun p => { p with limiter := true })).report 0x0303 clsDevice 0 none vin.toNat).pwr.limiter = true := rfl
    refine Runs.of (execLimitTrip_of_on hm) ?_
    generalize (s.updPwr (fun p => { p with limiter := true })).report 0x0303 clsDevice 0 none vin.toNat = u at hpre hlim
    have hdev : u.dev = s.dev := hpre .dev (by decide)
    obtain ⟨hmode, hcause, -, -, -, -, -, -, hkeep⟩ := enterSafe_frame (hdev ▸ hsafe : u.dev.mode.maySafe = true) .supply
    have hpwr : (u.enterSafe .supply).pwr = u.pwr := hkeep .pwr (by decide)
    exact ⟨hmode, hcause, hpwr ▸ hlim, (hkeep .regs (by decide)).trans (hpre .regs (by decide)),
      (hkeep .ds (by decide)).trans (hpre .ds (by decide))⟩
  · refine Runs.of ((execLimitTrip_of_on (by simp [hm, Mode.afterReset])).trans
      (congrArg Host.Outcome.next (enterSafe_of_not (by
        show s.dev.mode.maySafe = false
        rw [hm]
        rfl) .supply))) ⟨rfl, rfl, rfl, ?_⟩
    exact keeps_trans (keeps_mono updPwr_keeps (by decide)) (keeps_mono report_keeps (by decide))
  · obtain ⟨hmode, hcause, -, -, -, -, -, -, hkeep⟩ := enterSafe_frame hsafe .supply
    exact Runs.of (t := s.enterSafe .supply) rfl ⟨hmode, hcause, hkeep .regs (by decide), hkeep .ds (by decide)⟩
  · exact Runs.of (execPhaseShed_of_new hp hn hm) ⟨rfl, rfl,
      keeps_trans (keeps_mono updPwr_keeps (by decide)) (keeps_mono report_keeps (by decide))⟩

end Sys2Proof.Machine
end

section
/-!
PROOF. Power domains: the fault, the idle switch-off, the power-good, the register, and the small configuration (R262, R263, R275).
-/
namespace Sys2Proof.Machine

/-! ### One domain's state -/

@[simp] theorem State.domain_setDomain_self (s : State) (d : Nat) (v : Domain) : (s.setDomain d v).domain d = v := Map.get_set_self ..
theorem State.domain_setDomain_ne (s : State) {d e : Nat} (v : Domain) (h : e ≠ d) : (s.setDomain d v).domain e = s.domain e :=
  Map.get_set_ne _ _ _ h
theorem setDomain_keeps {s : State} {d : Nat} {v : Domain} : s.keeps (s.setDomain d v) [.pwr] := updPwr_keeps
theorem domain_of_keeps {s t : State} {a : List Part} (h : s.keeps t a) (n : .pwr ∉ a) (d : Nat) : t.domain d = s.domain d := by
  rw [State.domain, show t.pwr = s.pwr from h .pwr n, State.domain]

/-! ### A fault -/

/-- The domain has left its window, and the fault is recorded. -/
def State.domainLost (s : State) (d : Nat) : State :=
  (s.setDomain d { s.domain d with good := false, fault := true }).report 0x0301
    (if domainIsDevice d then clsDevice else clsDegraded) d none d

theorem domainLost_frame (s : State) (d : Nat) : ((s.domainLost d).domain d).good = false ∧ ((s.domainLost d).domain d).fault = true ∧
    (∀ e, e ≠ d → (s.domainLost d).domain e = s.domain e) ∧ s.keeps (s.domainLost d) [.pwr, .fm] := by
  have hd : ∀ e, (s.domainLost d).domain e = (s.setDomain d { s.domain d with good := false, fault := true }).domain e := fun _ => rfl
  refine ⟨?_, ?_, fun e he => (hd e).trans (State.domain_setDomain_ne _ _ he),
    keeps_trans (keeps_mono setDomain_keeps (by decide)) (keeps_mono report_keeps (by decide))⟩
  · rw [hd, State.domain_setDomain_self]
  · rw [hd, State.domain_setDomain_self]

theorem execDomainFault_of_on {d : Fin 66} {s : State} (h : s.dev.mode.afterReset = true) :
    execDomainFault d s = .next (((s.domainLost d).domainOutcome d).remode) := if_neg (by simp [h])

theorem domainOutcome_of_device {s : State} {d : Nat} (h : domainIsDevice d = true) : s.domainOutcome d = s.enterSafe .supply := by
  simp only [domainIsDevice, Bool.and_eq_true, decide_eq_true_eq, Bool.not_eq_true', decide_eq_false_iff_not] at h
  obtain ⟨⟨h40, hlat⟩, h62, h63, h64⟩ := h
  simp only [State.domainOutcome, Nat.not_lt.mpr h40, hlat, h62, h63, h64, or_self, if_false]

theorem remode_of_safe {s : State} (h : s.dev.mode = .safe) : s.remode = s := by
  unfold State.remode
  rw [if_neg (by simp [h])]

/-! ### Switched off -/

theorem execDomainIdleOff_of_idle {d : Fin 66} {s : State} (hon : (s.domain d).on = true)
    (hidle : (if d.val < 40 then !s.groupUsed d && !s.pwr.wanted.contains d.val
      else decide (d.val = 62 ∨ d.val = 63) && (List.range 6).all (fun i => (s.bankOwner (6 * (d.val - 62) + i)).isNone)) = true)
    (hc : s.dev.mode.configured = true) (hs : s.dev.mode ≠ .safe) :
    execDomainIdleOff d s = .next ((s.setDomain d { s.domain d with on := false, good := false }).clearResident d) := by
  unfold execDomainIdleOff
  dsimp only
  rw [hidle, hon, hc]
  exact if_pos (by simp [hs])

theorem clearResident_keeps {s : State} {d : Nat} : s.keeps (s.clearResident d) [.sched] := by
  simp [State.keeps_iff, State.clearResident]

/-- What a switch-off leaves. -/
theorem idleOff_frame (s : State) (d : Nat) (t : State)
    (ht : t = (s.setDomain d { s.domain d with on := false, good := false }).clearResident d) :
    (t.domain d).on = false ∧ (t.domain d).good = false ∧ (∀ e, e ≠ d → t.domain e = s.domain e) ∧ s.keeps t [.pwr, .sched] := by
  have hd : ∀ e, t.domain e = (s.setDomain d { s.domain d with on := false, good := false }).domain e := fun _ => by rw [ht]; rfl
  refine ⟨?_, ?_, fun e he => (hd e).trans (State.domain_setDomain_ne _ _ he), ?_⟩
  · rw [hd, State.domain_setDomain_self]
  · rw [hd, State.domain_setDomain_self]
  · rw [ht]
    exact keeps_trans (keeps_mono setDomain_keeps (by decide)) (keeps_mono clearResident_keeps (by decide))

theorem execDomainIdleOff_of_used {d : Fin 66} {s : State} (hu : s.groupUsed d = true) (hd : d.val < 40) :
    execDomainIdleOff d s = .next s := by
  unfold execDomainIdleOff
  dsimp only
  rw [if_pos hd, hu]
  exact if_neg (by simp)

/-! ### Powered -/

/-- A domain that has been asked for is on and good, and is asked for no more. -/
def State.powered (s : State) (d : Nat) : State :=
  (s.setDomain d { s.domain d with on := true, good := true }).updPwr
    (fun p => { p with wanted := p.wanted.filter (fun x => decide (x ≠ d)) })

theorem execDomainPowerGood_of_wanted {d : Fin 66} {s : State} (hm : s.dev.mode.afterReset = true) (ht : s.dev.mode ≠ .selftest)
    (hg : (s.domain d).good = false) (hw : s.pwr.wanted.contains d.val = true) (hp : s.mayPower d = true)
    (hd : d.val < 57 ∨ 60 < d.val) : execDomainPowerGood d s = .next (s.powered d) := by
  have hr : s.dev.mode ≠ .reset := by
    intro h
    simp [h, Mode.afterReset] at hm
  unfold execDomainPowerGood
  dsimp only
  rw [if_neg hr, if_neg (fun h => ht h.1), hm, hg, hw, hp, if_pos (by simp), if_neg (by omega)]
  rfl

/-! ### PWR_DOM_CTL -/

/-- The domains that software switches. -/
def optional (d : Nat) : Prop := 57 ≤ d ∧ d ≤ 60 ∨ d = 64

theorem writeDomCtl_on {s : State} {d : Nat} (h : optional d) :
    s.writeDomCtl d true = (s.setReg (0x10100 + 4 * d) 1).setDomain d { s.domain d with on := true } := if_pos h

/-- An optional domain as it goes off, before the links of a side follow. -/
def State.domainOff (s : State) (d : Nat) : State :=
  (s.setReg (0x10100 + 4 * d) 0).setDomain d { s.domain d with on := false, good := false }

theorem writeDomCtl_off {s : State} {d : Nat} (h : optional d) (hoff : s.mayOff d = true) :
    s.writeDomCtl d false = if d = 64 then s.domainOff d
      else (List.range' (36 * (d - 57)) 36).foldl (fun s l => s.updLink l Link.toOff) (s.domainOff d) := by
  refine (if_pos h).trans ?_
  dsimp only
  rw [if_neg Bool.false_ne_true, hoff, if_pos rfl]
  rfl

theorem writeDomCtl_refused {s : State} {d : Nat} (h : optional d) (hoff : s.mayOff d = false) :
    s.writeDomCtl d false = s.accState (0x10100 + 4 * d) := by
  refine (if_pos h).trans ?_
  dsimp only
  rw [if_neg Bool.false_ne_true, hoff, if_neg Bool.false_ne_true]

/-- The links listed are off once each has gone off. -/
theorem foldl_toOff (ls : List Nat) (s : State) (l : Nat) (h : l ∈ ls ∨ (s.link l).st = .off) :
    ((ls.foldl (fun s l => s.updLink l Link.toOff) s).link l).st = .off := by
  induction ls generalizing s with
  | nil => exact h.resolve_left List.not_mem_nil
  | cons x r ih =>
    refine ih _ ?_
    by_cases hx : l = x
    · subst hx
      rw [State.link_updLink]
      exact Or.inr rfl
    · rw [State.link_updLink_ne _ _ hx]
      exact h.imp_left fun hm => (List.mem_cons.1 hm).resolve_left hx

theorem updLink_keeps {s : State} {l : Nat} {f : Link → Link} : s.keeps (s.updLink l f) [.lat] := by
  simp [State.keeps_iff, State.updLink, State.setLink]

theorem domainOff_frame (s : State) (d : Nat) : ((s.domainOff d).domain d).on = false ∧ ((s.domainOff d).domain d).good = false ∧
    (s.domainOff d).reg (0x10100 + 4 * d) = 0 ∧ (s.domainOff d).lat = s.lat ∧ s.keeps (s.domainOff d) [.pwr, .regs] := by
  have hd : (s.domainOff d).domain d = { s.domain d with on := false, good := false } := State.domain_setDomain_self ..
  have hreg : (s.domainOff d).reg (0x10100 + 4 * d) = (s.setReg (0x10100 + 4 * d) 0).reg (0x10100 + 4 * d) := rfl
  refine ⟨by rw [hd], by rw [hd], hreg.trans (State.reg_setReg_self ..), rfl, ?_⟩
  exact keeps_trans (keeps_mono setReg_keeps (by decide)) (keeps_mono setDomain_keeps (by decide))

/-! ### The small configuration -/

theorem execSmallConfigEnter_of_idle {s : State} (hm : s.dev.mode.idleToDerate = true) (hs : s.pwr.small = false)
    (he : s.rfld 0x10004 16 1 = 1) (hp : s.poweredTiles s.pwr.wanted ≤ 48) : execSmallConfigEnter s =
      .next ((s.updPwr (fun p => { p with small := true, hub := 0, hubTarget := if p.hub = 0 then none else some 0 })).setTokenRate) :=
  if_pos (by simp [hm, hs, he, hp])

/-- The domains listed are on once each has been switched on. -/
theorem foldl_on (ds : List Nat) (s : State) (d : Nat) (h : d ∈ ds ∨ (s.domain d).on = true) :
    ((ds.foldl (fun (s : State) d => s.setDomain d { s.domain d with on := true }) s).domain d).on = true := by
  induction ds generalizing s with
  | nil => exact h.resolve_left List.not_mem_nil
  | cons x r ih =>
    refine ih _ ?_
    by_cases hx : d = x
    · subst hx
      rw [State.domain_setDomain_self]
      exact Or.inr rfl
    · rw [State.domain_setDomain_ne _ _ hx]
      exact h.imp_left fun hm => (List.mem_cons.1 hm).resolve_left hx

/-- Switching domains on leaves the rest of Basil's state. -/
theorem foldl_on_frame (ds : List Nat) (s : State) (t : State)
    (ht : t = ds.foldl (fun (s : State) d => s.setDomain d { s.domain d with on := true }) s) :
    t.pwr.small = s.pwr.small ∧ t.pwr.hub = s.pwr.hub ∧ s.keeps t [.pwr] := by
  subst ht
  exact List.foldlRecOn (motive := fun t : State => t.pwr.small = s.pwr.small ∧ t.pwr.hub = s.pwr.hub ∧ s.keeps t [.pwr]) _ _
    ⟨rfl, rfl, keeps_refl⟩ fun t ht d _ => ⟨ht.1, ht.2.1, keeps_trans ht.2.2 setDomain_keeps⟩

/-- The full configuration, before the domains that waited are switched on. -/
def State.fullConfig (s : State) : State :=
  (s.updPwr (fun p => { p with small := false, hub := if s.hubCapped then 1 else min 2 s.hubFits, hubTarget := none, hubWish := none })).setTokenRate

theorem execFullConfigDone_of_ends {s : State} (hs : s.pwr.small = true)
    (he : s.rfld 0x10004 16 1 = 0 ∨ s.pwr.wanted.any (fun d => !s.mayPower d) = true) : execFullConfigDone s =
      .next (s.pwr.wanted.foldl (fun (s : State) d => s.setDomain d { s.domain d with on := true }) s.fullConfig) := by
  have hends : s.smallEnds = true := by
    rw [State.smallEnds, Bool.or_eq_true, decide_eq_true_eq]
    exact he
  exact if_pos (by rw [hs, hends]; rfl)

/-- Settles O29: each command by its branch, a domain's state by its write. -/
theorem powerDomains : Obligations.PowerDomains := by
  refine ⟨fun d s hsafe hm hd => ?_, fun d s hm hd => ?_, fun d s hd hon hu hw hc hs => ?_,
    fun d s hu hd => Runs.of (execDomainIdleOff_of_used hu hd) rfl, fun d s hd hon hb hc hs => ?_,
    fun d s hm ht hg hw hp hd => ?_, fun d s hc hd => ?_, fun d s hc hd hoff => ?_, fun d s hc hd hoff => ?_,
    fun s hm hs he hp => ?_, fun s hs he => ?_⟩
  · refine Runs.of (execDomainFault_of_on hm) ?_
    rw [domainOutcome_of_device hd]
    obtain ⟨hgood, hfault, -, hkeep⟩ := domainLost_frame s d
    generalize s.domainLost d = u at hgood hfault hkeep
    have hdev : u.dev = s.dev := hkeep .dev (by decide)
    obtain ⟨hmode, hcause, -, -, -, -, -, -, hk⟩ := enterSafe_frame (hdev ▸ hsafe : u.dev.mode.maySafe = true) .supply
    rw [remode_of_safe hmode, domain_of_keeps hk (by decide)]
    exact ⟨hmode, hcause, hgood, hfault, (hk .regs (by decide)).trans (hkeep .regs (by decide)),
      (hk .ds (by decide)).trans (hkeep .ds (by decide))⟩
  · obtain ⟨hgood, hfault, hne, hkeep⟩ := domainLost_frame s d
    have hnd : domainIsDevice d = false := by simp [domainIsDevice, Nat.not_le.mpr hd]
    have hrep : s.reported (s.domainLost d) 0x0301 4 d none d := by
      unfold State.domainLost
      rw [hnd]
      rfl
    have hmode : (s.domainLost d).dev.mode = .safe := hm
    refine Runs.of (t := s.domainLost d) ((execDomainFault_of_on (by simp [hm, Mode.afterReset])).trans ?_)
      ⟨hgood, hfault, hne, hrep, hkeep⟩
    rw [State.domainOutcome, if_pos hd, if_pos hmode, remode_of_safe hmode]
  · exact Runs.of (execDomainIdleOff_of_idle hon (by rw [if_pos hd, hu, hw]; rfl) hc hs) (idleOff_frame s d _ rfl)
  · refine Runs.of (execDomainIdleOff_of_idle hon ?_ hc hs) (idleOff_frame s d _ rfl)
    rw [if_neg (by omega), Bool.and_eq_true, List.all_eq_true]
    exact ⟨by simpa using hd, fun i hi => by rw [hb i (List.mem_range.1 hi)]; rfl⟩
  · refine Runs.of (execDomainPowerGood_of_wanted hm ht hg hw hp hd) ?_
    have hdom : ∀ e, (s.powered d).domain e = (s.setDomain d { s.domain d with on := true, good := true }).domain e := fun _ => rfl
    refine ⟨?_, ?_, ?_, fun e he => (hdom e).trans (State.domain_setDomain_ne _ _ he), keeps_trans setDomain_keeps updPwr_keeps⟩
    · rw [hdom, State.domain_setDomain_self]
    · rw [hdom, State.domain_setDomain_self]
    · show d.val ∉ s.pwr.wanted.filter (fun x => decide (x ≠ d.val))
      simp
  · refine Runs.of ((if_pos hc).trans (congrArg Host.Outcome.next (writeDomCtl_on hd))) ?_
    rw [State.domain_setDomain_self]
    refine ⟨rfl, rfl, State.reg_setReg_self s (0x10100 + 4 * d.val) 1, ?_⟩
    exact keeps_trans (keeps_mono setReg_keeps (by decide)) (keeps_mono setDomain_keeps (by decide))
  · refine Runs.of ((if_pos hc).trans (congrArg Host.Outcome.next (writeDomCtl_off hd hoff))) ?_
    obtain ⟨hon, hgood, hreg, hlat, hkeep⟩ := domainOff_frame s d
    generalize s.domainOff d = u at hon hgood hreg hlat hkeep
    by_cases h64 : d.val = 64
    · rw [if_pos h64]
      exact ⟨hon, hgood, hreg, fun h => absurd h64 h, fun _ => hlat, keeps_mono hkeep (by decide)⟩
    · rw [if_neg h64]
      have hk := keeps_foldl [.lat] (fun (s : State) l => s.updLink l Link.toOff) (fun _ _ => updLink_keeps)
        (List.range' (36 * (d.val - 57)) 36) u
      have hst := fun l h => foldl_toOff (List.range' (36 * (d.val - 57)) 36) u l (Or.inl h)
      generalize (List.range' (36 * (d.val - 57)) 36).foldl (fun (s : State) l => s.updLink l Link.toOff) u = v at hk hst
      have hdom : v.domain d = u.domain d := domain_of_keeps hk (by decide) d
      exact ⟨by rw [hdom, hon], by rw [hdom, hgood], (reg_of_keeps hk (by decide) _).trans hreg,
        fun _ l hlo hhi => hst l (by rw [List.mem_range'_1]; omega), fun h => absurd h h64,
        keeps_trans (keeps_mono hkeep (by decide)) (keeps_mono hk (by decide))⟩
  · exact Runs.of ((if_pos hc).trans (congrArg Host.Outcome.next (writeDomCtl_refused hd hoff))) ⟨rfl, report_keeps⟩
  · exact Runs.of (execSmallConfigEnter_of_idle hm hs he hp) ⟨rfl, rfl, rfl, updPwr_setTokenRate_keeps⟩
  · refine Runs.of (execFullConfigDone_of_ends hs he) ?_
    have hfull : s.fullConfig.pwr.small = false ∧ s.fullConfig.pwr.hub = (if s.hubCapped then 1 else min 2 s.hubFits) ∧
        s.keeps s.fullConfig [.pwr, .sched] := ⟨rfl, rfl, updPwr_setTokenRate_keeps⟩
    have hon := fun d hd => foldl_on s.pwr.wanted s.fullConfig d (Or.inl hd)
    obtain ⟨hsmall, hhub, hk⟩ := foldl_on_frame s.pwr.wanted s.fullConfig _ rfl
    generalize s.pwr.wanted.foldl (fun (s : State) d => s.setDomain d { s.domain d with on := true }) s.fullConfig = t at hon hsmall hhub hk
    exact ⟨hsmall.trans hfull.1, hhub.trans hfull.2.1, hon, keeps_trans hfull.2.2 (keeps_mono hk (by decide))⟩

end Sys2Proof.Machine
end

section
/-!
PROOF. Clock sources: proof, loss, switch-over and the trim loop (R451, R452, R455 to R457, R460).
-/
namespace Sys2Proof.Machine

theorem updClk_keeps {s : State} {f : Clk → Clk} : s.keeps (s.updClk f) [.clk] := by
  simp [State.keeps_iff, State.updClk]
theorem updClk_report_keeps {s : State} {f : Clk → Clk} {c k u d : Nat} {t : Option Nat} :
    s.keeps ((s.updClk f).report c k u t d) [.clk, .fm] :=
  keeps_trans (keeps_mono updClk_keeps (by decide)) (keeps_mono report_keeps (by decide))

/-! ### Proving and losing sources -/

/-- Switching domains on keeps each of them good that is. -/
theorem bringUp_keeps {s : State} : s.keeps s.bringUp [.pwr] := by
  unfold State.bringUp
  split
  · exact keeps_foldl _ _ (fun _ _ => setDomain_keeps) _ s
  · exact keeps_refl

theorem bringUp_first {s : State} (h : (s.domain 65).good = false) : (s.bringUp.domain 65).on = true := by
  have hfind : supplyGroups.find? (fun g => !g.all (fun d => (s.domain d).good)) = some [65] :=
    List.find?_cons_of_pos (by simp [h])
  rw [State.bringUp, hfind]
  show ((s.setDomain 65 { s.domain 65 with on := true }).domain 65).on = true
  rw [State.domain_setDomain_self]

theorem execIoscProven_of_powered {s : State} (ho : s.dev.mode ≠ .off) (hk : s.dev.mode ≠ .keep) : execIoscProven s =
    .next (if s.dev.mode = .reset then (s.updClk (fun c => { c with ioscProven := true, ioscTrip := false })).bringUp
      else s.updClk (fun c => { c with ioscProven := true, ioscTrip := false })) :=
  if_neg (by simp [ho, hk])

theorem execExtSourceProven_xtal {s : State} (hp : s.clk.ioscProven = true) (he : s.rfld 0x20000 2 1 = 1) :
    execExtSourceProven false 0 s = .next (s.updClk (fun c => { c with xtalProven := true })) := by
  unfold execExtSourceProven
  rw [if_neg (by simp [hp, he])]
  rfl

theorem execExtSourceProven_ref {f : Fin 4} {s : State} (hp : s.clk.ioscProven = true) (he : s.rfld 0x20000 3 1 = 1) (hf : f ≠ 0) :
    execExtSourceProven true f s = .next (s.updClk (fun c => { c with refProven := true, refFreq := f.val })) := by
  unfold execExtSourceProven
  rw [if_neg (by simp [hp, he, hf])]
  rfl

theorem tryLeaveReset_of_low {s : State} (h : s.clk.resetLow = true) : s.tryLeaveReset = s := if_neg (by simp [h])

theorem execRootLock_of_preferred {s : State} (hm : s.dev.mode = .reset) (hr : s.clk.root = .none)
    (hu : s.clk.usable s.preferred = true) :
    execRootLock s = .next (s.updClk (fun c => { c with root := s.preferred })).tryLeaveReset := by
  unfold execRootLock
  rw [if_pos ⟨hm, hr⟩, if_pos hu]

theorem execIoscTrip_of_reset {s : State} (h : s.dev.mode = .reset) : execIoscTrip s =
    .next ((s.updClk (fun c => { c with ioscProven := false })).updClk (fun c => { c with ioscTrip := true })) := if_pos h

theorem execIoscTrip_of_on {s : State} (h : s.dev.mode.afterReset = true) : execIoscTrip s =
    .next ((s.updClk (fun c => { c with ioscProven := false })).enterSafe .clock) := by
  unfold execIoscTrip
  rw [if_neg (show s.dev.mode ≠ .reset from fun hm => by simp [hm, Mode.afterReset] at h), if_pos h]

theorem execClockSourceTrip_of_xtal {s : State} (hm : s.dev.mode.afterReset = true) (hx : s.clk.selected = .xtal) :
    execClockSourceTrip s = match [ClkSrc.xtal, ClkSrc.ref, ClkSrc.iosc].find? (fun y => (s.clk.lose .xtal).usable y) with
      | some y => .next ((s.updClk (fun c => c.lose .xtal)).updClk (fun c => { c with holdover := true, toSrc := some (y, true) }))
      | none => .next (((s.updClk (fun c => c.lose .xtal)).updClk (fun c => { c with holdover := true, toSrc := none })).enterSafe .clock) := by
  unfold execClockSourceTrip
  rw [hx, if_neg (by simp)]
  exact if_neg (by rw [show (s.updClk fun c => c.lose .xtal).dev.mode = s.dev.mode from rfl, hm]; simp)

theorem usable_lose {c : Clk} {x : ClkSrc} (h : x = .xtal ∨ x = .ref) : (c.lose x).usable x = false := by
  obtain rfl | rfl := h <;> rfl

theorem execUnselectedSourceTrip_of_usable {ref : Bool} {s : State} (hu : s.clk.usable (if ref then .ref else .xtal) = true)
    (hs : s.clk.selected ≠ (if ref then .ref else .xtal)) : execUnselectedSourceTrip ref s =
      .next ((s.updClk (fun c => c.lose (if ref then .ref else .xtal))).report 0x0340 clsDegraded 0 none
        (srcCode (if ref then .ref else .xtal))) := if_pos ⟨hu, hs⟩

/-! ### Switch-over -/

/-- The root has locked to its new source. -/
def Clk.locked (c : Clk) (y : ClkSrc) (lost : Bool) : Clk :=
  { c with root := y, toSrc := none, holdover := false, switched := c.switched || lost }

theorem execClockSwitchLock_lost {y : ClkSrc} {s : State} (h : s.clk.toSrc = some (y, true)) : execClockSwitchLock s =
    .next (((s.updClk (fun c => c.locked y true)).report 0x0340 clsDegraded 0 none (srcCode s.clk.root)).report
      0x0341 clsEvent 0 none (srcCode s.clk.root + 2 ^ 2 * srcCode y)) := by
  unfold execClockSwitchLock
  rw [h]
  rfl

theorem execClockSwitchLock_revert {y : ClkSrc} {s : State} (h : s.clk.toSrc = some (y, false)) : execClockSwitchLock s =
    .next ((s.updClk (fun c => c.locked y false)).report 0x0342 clsEvent 0 none (srcCode s.clk.root + 2 ^ 2 * srcCode y)) := by
  unfold execClockSwitchLock
  rw [h]
  rfl

theorem usable_ne_none {c : Clk} {x : ClkSrc} (h : c.usable x = true) : x ≠ .none := by
  rintro rfl
  cases h

theorem execClockRevert_of_preferred {s : State} (ha : s.rfld 0x20000 1 1 = 1) (ht : s.clk.toSrc = none)
    (hm : s.dev.mode.afterReset = true) (hu : s.clk.usable s.preferred = true) (hp : s.preferred ≠ s.clk.root)
    (hr : s.clk.root ≠ .none) : execClockRevert s = .next (s.updClk (fun c => { c with toSrc := some (s.preferred, false) })) := by
  unfold execClockRevert
  dsimp only
  rw [if_pos hu]
  exact if_pos ⟨ha, ht, hm, usable_ne_none hu, hp, hr⟩

theorem execClockRevert_of_manual {s : State} (ha : s.rfld 0x20000 1 1 = 0) : execClockRevert s = .next s :=
  if_neg fun h => by rw [ha] at h; exact absurd h.1 (by decide)

/-! ### Trimming -/

/-- The trim after a window. -/
def Clk.newTrim (c : Clk) (e : Int) : Int := clampInt (-32767) 32767 (c.trim - clampInt (-4) 4 e)

/-- A window moves a trim within its limits by at most 4. -/
theorem newTrim_near (c : Clk) (e : Int) : (c.newTrim e - c.trim).natAbs ≤ 4 + (c.trim.natAbs - 32767) := by
  unfold Clk.newTrim clampInt
  omega

theorem execTrimWindow_of_sixteenth {err : BitVec 16} {s : State} (hs : s.trimSource ≠ 4) (hp : s.clk.ioscProven = true)
    (hlo : -20 < err.toInt) (hhi : err.toInt < 20) (hv : s.clk.trimValid = false) (hg : 15 ≤ s.clk.good) :
    ∃ e tmp, execTrimWindow err s = .next ((s.updClk (fun c => { c with
      trim := s.clk.newTrim err.toInt, err := e, good := 16, trimValid := true, savedTrim := some (s.clk.newTrim err.toInt), tempAt := tmp
      })).report 0x0343 clsEvent 0 none s.trimSource) := by
  have hn : (if -20 < err.toInt ∧ err.toInt < 20 then min 16 (s.clk.good + 1) else 0) = 16 := by
    rw [if_pos ⟨hlo, hhi⟩]
    omega
  refine ⟨clampInt (-128) 127 err.toInt, s.hubTemp, ?_⟩
  unfold execTrimWindow
  dsimp only
  rw [if_neg (by simp [hs, hp]), if_neg (by omega), hn, if_pos (Or.inr rfl), hv, if_neg Bool.false_ne_true]
  rfl

theorem execTrimWindow_of_bad {err : BitVec 16} {s : State} (hs : s.trimSource ≠ 4) (hp : s.clk.ioscProven = true)
    (he : err.toInt < -100 ∨ 100 < err.toInt) (hv : s.clk.trimValid = true) :
    ∃ t e n, execTrimWindow err s = .next (((s.updClk (fun c => { c with trim := t, err := e, good := n })).updClk
      (fun c => { c with trimValid := false, good := 0 })).report 0x0344 clsEvent 0 none 0) := by
  refine ⟨s.clk.newTrim err.toInt, clampInt (-128) 127 err.toInt,
    if -20 < err.toInt ∧ err.toInt < 20 then min 16 (s.clk.good + 1) else 0, ?_⟩
  unfold execTrimWindow
  dsimp only
  rw [if_neg (by simp [hs, hp]), if_pos he]
  exact congrArg Host.Outcome.next (if_pos hv)

theorem execTrimWindowTimeout_of_valid {s : State} (hv : s.clk.trimValid = true) : execTrimWindowTimeout s =
    .next ((s.updClk (fun c => { c with trimValid := false, good := 0 })).report 0x0344 clsEvent 0 none 1) :=
  congrArg Host.Outcome.next (if_pos hv)

/-! ### The boundary clocks -/

/-- The edge clock has tripped. -/
def State.edgeClockLost (s : State) : State := { s.failAll 3 with edg := { (s.failAll 3).edg with fclkOk := false } }

theorem execBoundaryClockTrip_of_on {edge : Bool} {s : State} (h : s.dev.mode.afterReset = true) :
    execBoundaryClockTrip edge s = .next ((if edge then s.edgeClockLost else s).enterSafe .clock) := if_pos h

theorem edgeClockLost_frame (s : State) : s.edgeClockLost.edg.fclkOk = false ∧ s.keeps s.edgeClockLost [.edg, .fm] := by
  have hfail : s.freezes (s.failAll 3) [.edg, .fm] := .foldl (fun s g => .failBank s g 3 false) _ _
  refine ⟨rfl, ?_⟩
  unfold State.edgeClockLost
  generalize s.failAll 3 = u at hfail
  exact keeps_trans hfail.keeps (by simp [State.keeps_iff])


/-- Settles O30: each command by the branch that its conditions choose; a source lost without another goes by the entry to SAFE. -/
theorem clocks : Obligations.Clocks := by
  refine ⟨⟨fun s ho hk => ?_, fun s hp he => Runs.of (execExtSourceProven_xtal hp he) ⟨rfl, rfl, updClk_keeps⟩,
    fun f s hp he hf => Runs.of (execExtSourceProven_ref hp he hf) ⟨rfl, rfl, rfl, updClk_keeps⟩, fun s hm hr hu hl => ?_,
    fun s hm => Runs.of (execIoscTrip_of_reset hm) ⟨rfl, rfl, keeps_trans updClk_keeps updClk_keeps⟩, fun s hm hsafe => ?_,
    fun s hm ht => Runs.of (if_pos ⟨hm, ht⟩) ⟨rfl, updClk_keeps⟩,
    fun s hm hg hx hr => Runs.of (if_pos ⟨hm, hg, hx, hr⟩) ⟨rfl, updClk_keeps⟩, fun s hm hx hr => ?_, fun s hm hsafe hx hr hi => ?_,
    fun ref s hu hs => ?_⟩,
    fun y s h => Runs.of (execClockSwitchLock_lost h) ⟨rfl, rfl, rfl, Bool.or_true _, rfl, ?_⟩,
    fun y s h => Runs.of (execClockSwitchLock_revert h) ⟨rfl, rfl, rfl, Bool.or_false _, rfl, updClk_report_keeps⟩,
    fun s ha ht hm hu hp hr => Runs.of (execClockRevert_of_preferred ha ht hm hu hp hr) ⟨rfl, rfl, updClk_keeps⟩,
    fun s ha => Runs.of (execClockRevert_of_manual ha) rfl, fun err s hs hp hlo hhi hv hg => ?_, fun err s hs hp he hv => ?_,
    fun s hv => Runs.of (execTrimWindowTimeout_of_valid hv) ⟨rfl, rfl, rfl, updClk_report_keeps⟩, fun s hm hsafe => ⟨?_, ?_⟩⟩
  · refine Runs.of (execIoscProven_of_powered ho hk) ?_
    have hclk : s.keeps (s.updClk (fun c => { c with ioscProven := true, ioscTrip := false })) [.clk] := updClk_keeps
    by_cases hm : s.dev.mode = .reset
    · rw [if_pos hm]
      have hup := bringUp_keeps (s := s.updClk (fun c => { c with ioscProven := true, ioscTrip := false }))
      have hfirst := bringUp_first (s := s.updClk (fun c => { c with ioscProven := true, ioscTrip := false }))
      have heq : (s.updClk (fun c => { c with ioscProven := true, ioscTrip := false })).bringUp.clk =
        { s.clk with ioscProven := true, ioscTrip := false } := hup .clk (by decide)
      generalize (s.updClk (fun c => { c with ioscProven := true, ioscTrip := false })).bringUp = t at hup hfirst heq
      rw [heq]
      exact ⟨rfl, rfl, rfl, fun h => absurd hm h, fun _ =>
        ⟨keeps_trans (keeps_mono hclk (by decide)) (keeps_mono hup (by decide)), hfirst⟩⟩
    · rw [if_neg hm]
      exact ⟨rfl, rfl, rfl, fun _ => hclk, fun h => absurd h hm⟩
  · refine Runs.of (execRootLock_of_preferred hm hr hu) ?_
    rw [tryLeaveReset_of_low (show (s.updClk (fun c => { c with root := s.preferred })).clk.resetLow = true from hl)]
    exact ⟨rfl, hm, updClk_keeps⟩
  · have hf := enterSafe_frame (s := s.updClk (fun c => { c with ioscProven := false })) hsafe .clock
    obtain ⟨hmode, hcause, -, -, -, -, -, -, hk⟩ := hf
    exact Runs.of (execIoscTrip_of_on hm) ⟨hmode, hcause, congrArg Clk.ioscProven (hk .clk (by decide)), hk .regs (by decide)⟩
  · refine Runs.of ((execClockSourceTrip_of_xtal hm hx).trans ?_)
      (t := (s.updClk (fun c => c.lose .xtal)).updClk (fun c => { c with holdover := true, toSrc := some (.ref, true) }))
      ⟨rfl, rfl, rfl, rfl, keeps_trans updClk_keeps updClk_keeps⟩
    have hfind : [ClkSrc.xtal, ClkSrc.ref, ClkSrc.iosc].find? (fun y => (s.clk.lose .xtal).usable y) = some .ref := by
      simp [List.find?, Clk.usable, Clk.lose, hr]
    rw [hfind]
  · have hfind : [ClkSrc.xtal, ClkSrc.ref, ClkSrc.iosc].find? (fun y => (s.clk.lose .xtal).usable y) = none := by
      simp only [List.find?, Clk.usable, Clk.lose, hr, hi]
    obtain ⟨hmode, hcause, -, -, -, -, -, -, hk⟩ := enterSafe_frame
      (s := (s.updClk (fun c => c.lose .xtal)).updClk (fun c => { c with holdover := true, toSrc := none })) hsafe .clock
    refine Runs.of ((execClockSourceTrip_of_xtal hm hx).trans ?_)
      ⟨congrArg Clk.holdover (hk .clk (by decide)), congrArg Clk.toSrc (hk .clk (by decide)), hmode, hcause⟩
    rw [hfind]
  · refine Runs.of (execUnselectedSourceTrip_of_usable hu hs) ⟨?_, ?_, rfl, updClk_report_keeps⟩
    · exact usable_lose (by cases ref <;> simp)
    · cases ref <;> rfl
  · exact keeps_trans updClk_report_keeps (keeps_mono report_keeps (by decide))
  · obtain ⟨e, tmp, h⟩ := execTrimWindow_of_sixteenth hs hp hlo hhi hv hg
    exact Runs.of h ⟨rfl, rfl, rfl, newTrim_near _ _, rfl, updClk_report_keeps⟩
  · obtain ⟨n, e, g, h⟩ := execTrimWindow_of_bad hs hp he hv
    exact Runs.of h ⟨rfl, rfl, rfl, keeps_trans (keeps_mono updClk_keeps (by decide)) updClk_report_keeps⟩
  · obtain ⟨hmode, hcause, -, -, -, -, -, -, hk⟩ := enterSafe_frame hsafe .clock
    exact Runs.of (execBoundaryClockTrip_of_on hm) ⟨hmode, hcause, hk .regs (by decide), hk .ds (by decide)⟩
  · obtain ⟨hfclk, hpre⟩ := edgeClockLost_frame s
    have hexec := execBoundaryClockTrip_of_on (edge := true) hm
    rw [if_pos rfl] at hexec
    generalize s.edgeClockLost = u at hfclk hpre hexec
    have hdev : u.dev = s.dev := hpre .dev (by decide)
    obtain ⟨hmode, hcause, -, -, -, hf, -, -, hk⟩ := enterSafe_frame (hdev ▸ hsafe : u.dev.mode.maySafe = true) .clock
    exact Runs.of hexec ⟨hmode, hcause, hf.trans hfclk, (hk .regs (by decide)).trans (hpre .regs (by decide))⟩

end Sys2Proof.Machine
end

section
/-!
PROOF. Main and backup power, resets, and the exit from RESET (R26, R27, R257, R265, R266, R458, R459).
-/
namespace Sys2Proof.Machine

/-! ### Entry to RESET -/

theorem execVinEnterRange_of_absent {sel : BitVec 2} {s : State} (h : s.dev.vinOk = false) :
    execVinEnterRange sel s = .next (({ s with dev := { s.dev with vinOk := true } }).enterReset 1 sel) := if_neg (by simp [h])

theorem execResetPin_of_on {sel : BitVec 2} {s : State} (h : s.dev.mode.afterReset = true) :
    execResetPin sel s = .next (({ s with clk := { s.clk with resetLow := true } }).enterReset 2 sel) := if_pos h

theorem execSoftReset_of_key {sel : BitVec 2} {s : State} (h : s.dev.mode.afterReset = true) :
    execSoftReset 0xA5 sel s = .next (s.enterReset 3 sel) := by
  unfold execSoftReset
  rw [if_neg (by simp [h]), if_pos rfl]

/-- Entry to RESET: the cause and the straps, and what a reset keeps and wipes. -/
theorem enterReset_frame (s : State) (cause : Nat) (sel : BitVec 2) (t : State) (ht : t = s.enterReset cause sel) :
    t.dev.mode = .reset ∧ t.dev.vinOk = s.dev.vinOk ∧ t.clk.rstCause = cause ∧ t.clk.resetLow = s.clk.resetLow ∧
    t.cfg.cspSel = sel.toNat ∧ t.tenants = [] ∧ t.tiles = [] ∧ t.regs = State.reset.regs ∧ t.cfg.flash = s.cfg.flash ∧
    t.sage.keys = s.sage.keys ∧ t.thy.bkpSec = s.thy.bkpSec ∧ t.host.hostMem = s.host.hostMem ∧ t.pending = s.pending := by
  subst ht
  exact ⟨rfl, rfl, rfl, rfl, rfl, rfl, rfl, rfl, rfl, rfl, rfl, rfl, rfl⟩

/-! ### Loss of main and backup power -/

/-- The device without main power, before the backup domain follows. -/
def State.unpowered (s : State) (keep : Bool) : State :=
  let s := s.wiped
  { s with
    dev := { s.dev with mode := if keep then .keep else .off, vinOk := false }
    edg := { s.edg with padsPreset := false, padFs := [] } }

theorem execVinLeaveRange_of_present {s : State} (h : s.dev.vinOk = true) : execVinLeaveRange s =
    .next (if s.dev.vbatOk then s.unpowered s.dev.vbatOk else (s.unpowered s.dev.vbatOk).bkpDown) := if_neg (by simp [h])

theorem execVbatFall_of_keep {s : State} (h : s.dev.mode = .keep) : execVbatFall s =
    .next ({ s with dev := { s.dev with vbatOk := false, mode := .off } }).bkpDown := if_pos h

theorem execVbatFall_of_on {s : State} (h : s.dev.mode ≠ .keep) : execVbatFall s =
    .next { s with dev := { s.dev with vbatOk := false } } := if_neg h

/-! ### The exit from RESET -/

theorem tryLeaveReset_of_unlocked {s : State} (h : s.clk.root = .none) : s.tryLeaveReset = s := if_neg (by simp [h])
theorem tryLeaveReset_of_elsewhere {s : State} (h : s.dev.mode ≠ .reset) : s.tryLeaveReset = s := if_neg fun hn => h hn.1

theorem tryLeaveReset_of_ready {s : State} (hm : s.dev.mode = .reset) (hl : s.clk.resetLow = false) (hg : s.pwr.suppliesGood = true)
    (hr : s.clk.root = .xtal) (hb : s.dev.bkpLost = false) : s.tryLeaveReset =
      ({ s.thyStart with edg := { s.thyStart.edg with fclkOk := true } }).setMode .selftest := by
  unfold State.tryLeaveReset
  rw [if_pos ⟨hm, hl, hg, Or.inl hr⟩, State.bkpRestore, if_neg (by simp [hb])]

/-- Every domain of a list is on and good after each has been switched. -/
theorem foldl_good (ds : List Nat) (s : State) (d : Nat) (h : d ∈ ds ∨ (s.domain d).good = true) :
    ((ds.foldl (fun (s : State) d => s.setDomain d { on := true, good := true }) s).domain d).good = true := by
  induction ds generalizing s with
  | nil => exact h.resolve_left List.not_mem_nil
  | cons x r ih =>
    refine ih _ ?_
    by_cases hx : d = x
    · subst hx
      rw [State.domain_setDomain_self]
      exact Or.inr rfl
    · rw [State.domain_setDomain_ne _ _ hx]
      exact h.imp_left fun hm => (List.mem_cons.1 hm).resolve_left hx

theorem foldl_good_frame (ds : List Nat) (s : State) (t : State)
    (ht : t = ds.foldl (fun (s : State) d => s.setDomain d { on := true, good := true }) s) :
    t.pwr.suppliesGood = s.pwr.suppliesGood ∧ s.keeps t [.pwr] := by
  subst ht
  exact List.foldlRecOn (motive := fun t : State => t.pwr.suppliesGood = s.pwr.suppliesGood ∧ s.keeps t [.pwr]) _ _
    ⟨rfl, keeps_refl⟩ fun t ht d _ => ⟨ht.1, keeps_trans ht.2 setDomain_keeps⟩

theorem execAllSuppliesGood_of_reset {s : State} (hm : s.dev.mode = .reset) (hg : s.pwr.suppliesGood = false) :
    execAllSuppliesGood s = .next ((List.range' 40 26).foldl (fun (s : State) d => s.setDomain d { on := true, good := true })
      (s.updPwr (fun p => { p with suppliesGood := true }))).tryLeaveReset := if_pos ⟨hm, hg⟩

/-- Bringing a group up leaves each domain as good as it was. -/
theorem bringUp_good (s : State) (e : Nat) : (s.bringUp.domain e).good = (s.domain e).good := by
  unfold State.bringUp
  split
  · refine List.foldlRecOn (motive := fun t : State => (t.domain e).good = (s.domain e).good) _ _ rfl fun t ht d _ => ?_
    rw [← ht]
    show ((t.setDomain d { t.domain d with on := true }).domain e).good = (t.domain e).good
    by_cases hd : e = d
    · rw [hd, State.domain_setDomain_self]
    · rw [State.domain_setDomain_ne _ _ hd]
  · rfl

theorem execDomainPowerGood_of_reset {d : Fin 66} {s : State} (hm : s.dev.mode = .reset) (hon : (s.domain d).on = true) :
    execDomainPowerGood d s = .next (s.setDomain d { s.domain d with good := true }).bringUp := by
  unfold execDomainPowerGood
  dsimp only
  rw [if_pos hm, if_pos hon]

theorem thyStart_frame (s : State) : s.thyStart.thy.runs = true ∧ s.keeps s.thyStart [.thy] := by
  unfold State.thyStart
  dsimp only
  split <;> exact ⟨rfl, by simp [State.keeps_iff]⟩

/-- The self-test begins: time runs, and the rest is as it was. -/
theorem selftest_frame (s t : State) (ht : t = ({ s.thyStart with edg := { s.thyStart.edg with fclkOk := true } }).setMode .selftest) :
    t.dev.mode = .selftest ∧ t.thy.runs = true ∧ s.keeps t [.dev, .fm, .host, .thy, .edg] := by
  obtain ⟨hruns, hk⟩ := thyStart_frame s
  generalize s.thyStart = u at ht hruns hk
  have hset : ({ u with edg := { u.edg with fclkOk := true } } : State).keeps t [.dev, .fm, .host] := ht ▸ setMode_keeps
  have hthy : t.thy = u.thy := hset .thy (by decide)
  refine ⟨ht ▸ setMode_mode _ _, hthy ▸ hruns, keeps_trans (keeps_mono hk (by decide))
    (keeps_trans (t := { u with edg := { u.edg with fclkOk := true } }) (by simp [State.keeps_iff]) (keeps_mono hset (by decide)))⟩

/-- Settles O31: a reset wipes by its record, and the exit from RESET waits for pin, supplies and root. -/
theorem supplyAndReset : Obligations.SupplyAndReset := by
  refine ⟨fun sel s h => Runs.of (execVinEnterRange_of_absent h) ?_, fun s h hb => ?_, fun s h hb => ?_, fun s => ?_,
    fun s h => Runs.of (execVbatFall_of_keep h) ⟨rfl, rfl, rfl, rfl, rfl, rfl, by simp [State.keeps_iff, State.bkpDown]⟩,
    fun s h => Runs.of (execVbatFall_of_on h) ⟨rfl, rfl, by simp [State.keeps_iff]⟩,
    fun sel s h => Runs.of (execResetPin_of_on h) ?_, fun sel s h => Runs.of (execSoftReset_of_key h) ?_, fun s hm hg hr => ?_,
    fun d s hm hon => Runs.of (execDomainPowerGood_of_reset hm hon) ?_, fun s hm hg hr hb => ?_,
    fun s hm => Runs.of (congrArg Host.Outcome.next (tryLeaveReset_of_elsewhere hm)) ⟨rfl, by simp [State.keeps_iff]⟩⟩
  · obtain ⟨hmode, hvin, hcause, -, hsel, hten, htiles, hregs, hflash, hkeys, hbkp, hmem, hpend⟩ :=
      enterReset_frame { s with dev := { s.dev with vinOk := true } } 1 sel _ rfl
    exact ⟨hmode, hvin, hcause, hsel, hten, htiles, hregs, hflash, hkeys, hbkp, hmem, hpend⟩
  · refine Runs.of (execVinLeaveRange_of_present h) ?_
    rw [hb, if_pos rfl]
    exact ⟨rfl, rfl, rfl, rfl, rfl, rfl, rfl⟩
  · refine Runs.of (execVinLeaveRange_of_present h) ?_
    rw [hb, if_neg Bool.false_ne_true]
    exact ⟨rfl, rfl, rfl, rfl, rfl⟩
  · exact Runs.of rfl ⟨rfl, fun h => if_pos h, fun h => if_neg h, by simp [State.keeps_iff]⟩
  · obtain ⟨hmode, -, hcause, hlow, -, hten, htiles, hregs, hflash, -, -, -, hpend⟩ :=
      enterReset_frame { s with clk := { s.clk with resetLow := true } } 2 sel _ rfl
    exact ⟨hmode, hcause, hlow, hten, htiles, hregs, hflash, hpend⟩
  · obtain ⟨hmode, -, hcause, -, -, hten, htiles, hregs, hflash, -, -, -, hpend⟩ := enterReset_frame s 3 sel _ rfl
    exact ⟨hmode, hcause, hten, htiles, hregs, hflash, hpend⟩
  · obtain ⟨hsup, hk⟩ := foldl_good_frame (List.range' 40 26) (s.updPwr (fun p => { p with suppliesGood := true })) _ rfl
    have hgood := foldl_good (List.range' 40 26) (s.updPwr (fun p => { p with suppliesGood := true }))
    have hexec := execAllSuppliesGood_of_reset hm hg
    generalize (List.range' 40 26).foldl (fun (s : State) d => s.setDomain d { on := true, good := true })
      (s.updPwr (fun p => { p with suppliesGood := true })) = u at hsup hk hgood hexec
    have hall : s.keeps u [.pwr] := keeps_trans updPwr_keeps hk
    have hroot : u.clk.root = .none := (congrArg Clk.root (show u.clk = s.clk from hall .clk (by decide))).trans hr
    have hmode : u.dev.mode = .reset := (congrArg Dev.mode (show u.dev = s.dev from hall .dev (by decide))).trans hm
    rw [tryLeaveReset_of_unlocked hroot] at hexec
    exact Runs.of hexec ⟨hsup, hmode, fun d hlo hhi => hgood d (Or.inl (by rw [List.mem_range'_1]; omega)), hall⟩
  · refine ⟨?_, fun e he => ?_, keeps_trans setDomain_keeps bringUp_keeps⟩
    · rw [bringUp_good, State.domain_setDomain_self]
    · rw [bringUp_good]
      by_cases hd : e = d.val
      · rw [hd, State.domain_setDomain_self]
      · rw [State.domain_setDomain_ne _ _ hd, he]
  · obtain ⟨hmode, hruns, hk⟩ := selftest_frame { s with clk := { s.clk with resetLow := false } } _ rfl
    refine Runs.of (congrArg Host.Outcome.next (tryLeaveReset_of_ready (s := { s with clk := { s.clk with resetLow := false } })
      hm rfl hg hr hb)) ⟨hmode, ?_, hruns, hk .cfg (by decide), hk .regs (by decide)⟩
    exact congrArg Clk.resetLow (hk .clk (by decide))

end Sys2Proof.Machine
end

section
/-!
PROOF. SAFE, HOLD and the end of the self-test (R28, R29, R440, R462, R463, Table 1-6).
-/
namespace Sys2Proof.Machine

/-! ### FORCE_SAFE and its key -/

theorem execForceSafe_of_key {s : State} (h : s.dev.mode.afterReset = true) : execForceSafe 0xA5 s = .next (s.enterSafe .forced) := by
  unfold execForceSafe
  rw [if_neg (by simp [h]), if_pos rfl]

theorem execForceSafe_of_noKey {key : Byte} {s : State} (h : s.dev.mode.afterReset = true) (hk : key ≠ 0xA5) :
    execForceSafe key s = .next (s.accKey 0x24) := by
  unfold execForceSafe
  rw [if_neg (by simp [h]), if_neg hk]

theorem execSoftReset_of_noKey {key : Byte} {sel : BitVec 2} {s : State} (h : s.dev.mode.afterReset = true) (hk : key ≠ 0xA5) :
    execSoftReset key sel s = .next (s.accKey 0x24) := by
  unfold execSoftReset
  rw [if_neg (by simp [h]), if_neg hk]

/-! ### HOLD on a device without tenants -/

/-- No tenant is known and no refit waits. -/
def State.vacant (s : State) : Prop := s.tenants = [] ∧ s.dev.refits = []

theorem ten_of_noTenants {s : State} (h : s.tenants = []) (x : Nat) : s.ten x = {} := by
  rw [State.ten, h]
  rfl

/-- The mode of a device without tenants. -/
theorem rankedMode_of_vacant {s : State} (h : s.vacant) :
    s.rankedMode = if s.holdCond then .hold else if s.dev.derate then .derate else .idle := by
  obtain ⟨hten, href⟩ := h
  simp [State.rankedMode, State.inRefit, State.inReplay, State.nextMode, State.allStopped, State.anyRunnable, hten, href]

theorem setMode_of_same {s : State} {m : Mode} (h : s.dev.mode = m) : s.setMode m = s := if_pos h

theorem setMode_vacant {s : State} (h : s.vacant) (m : Mode) : (s.setMode m).vacant :=
  ⟨(setMode_keeps .tenants (by decide)).trans h.1, (setMode_refits s m).trans h.2⟩

theorem setMode_ranked {s : State} (h : s.vacant) (m : Mode) : (s.setMode m).rankedMode = s.rankedMode := by
  rw [rankedMode_of_vacant h, rankedMode_of_vacant (setMode_vacant h m), State.holdCond, State.holdCond, setMode_dev]

theorem remode_of_vacant {s : State} (h : s.vacant) (hc : s.dev.mode.configured = true) (hs : s.dev.mode ≠ .safe) :
    s.remode = s.setMode s.rankedMode := by
  have hno : (s.setMode s.rankedMode).noRefit := fun x hx => by
    rw [(setMode_vacant h _).2] at hx
    cases hx
  unfold State.remode
  rw [hc, if_pos (by simp [hs])]
  dsimp only
  rw [refitsGo_of_noRefit hno, setMode_ranked h, setMode_of_same (setMode_mode _ _)]

theorem enterHold_of_vacant {s : State} (h : s.vacant) : s.enterHold = s := by
  rw [State.enterHold, h.1]
  rfl

theorem derateGo_of_vacant {s : State} (h : s.vacant) : s.derateGo = s := by
  have hone : ∀ x, s.derateHere x = s := fun x => by
    have hrun : ¬ (s.ten x).runnable = true := by
      rw [ten_of_noTenants h.1]
      decide
    unfold State.derateHere
    exact if_neg fun hn => hrun hn.2.1
  exact List.foldlRecOn (motive := fun t => t = s) _ _ rfl fun t ht x _ => by rw [ht, hone, ite_self]

theorem leaveHold_of_vacant {s : State} (h : s.vacant) : s.leaveHold = s := by
  unfold State.leaveHold
  rw [h.1, List.map_nil, List.foldl_nil, derateGo_of_vacant h, ite_self]

theorem holdChanged_of_vacant {s : State} (h : s.vacant) : s.holdChanged = s.remode := by
  rw [State.holdChanged, enterHold_of_vacant h, leaveHold_of_vacant h, ite_self]

/-- The device's own condition of HOLD, told to the lattice where it has changed. -/
def State.ownHold (s : State) (hold floor : Bool) : State :=
  let u := { s with dev := { s.dev with holdBit := hold, floor := floor } }
  if (s.dev.holdBit || s.dev.floor) = (hold || floor) then u else u.sendLhold (hold || floor)

theorem ownHold_frame (s : State) (hold floor : Bool) :
    (s.ownHold hold floor).dev = { s.dev with holdBit := hold, floor := floor } ∧ s.keeps (s.ownHold hold floor) [.dev, .lat] := by
  unfold State.ownHold
  dsimp only
  split
  · exact ⟨rfl, by simp [State.keeps_iff]⟩
  · exact ⟨rfl, by simp [State.keeps_iff, State.sendLhold, State.tokUp]⟩

/-- HOLD of a device without tenants: its mode follows at once. -/
theorem setOwnHold_of_vacant {s : State} (h : s.vacant) (hc : s.dev.mode.configured = true) (hs : s.dev.mode ≠ .safe) (hold floor : Bool) :
    (s.setOwnHold hold floor).dev.holdBit = hold ∧ (s.setOwnHold hold floor).tenants = [] ∧
    (s.setOwnHold hold floor).dev.mode = (if hold || !s.dev.lattice.isEmpty || floor then .hold else if s.dev.derate then .derate else .idle) ∧
    s.keeps (s.setOwnHold hold floor) [.dev, .fm, .host, .lat] := by
  obtain ⟨hdev, hk⟩ := ownHold_frame s hold floor
  have heq : s.setOwnHold hold floor = (s.ownHold hold floor).holdChanged := rfl
  rw [heq]
  generalize s.ownHold hold floor = u at hdev hk
  have hv : u.vacant := ⟨(hk .tenants (by decide)).trans h.1, by rw [hdev]; exact h.2⟩
  rw [holdChanged_of_vacant hv, remode_of_vacant hv (by rw [hdev]; exact hc) (by rw [hdev]; exact hs), setMode_dev,
    rankedMode_of_vacant hv, State.holdCond, hdev]
  exact ⟨rfl, (setMode_vacant hv _).1, rfl, keeps_trans (keeps_mono hk (by decide)) (keeps_mono setMode_keeps (by decide))⟩

/-! ### The end of the self-test -/

/-- What the self-test's findings change: remaps, reports, repairs and domains. -/
structure State.posts (s t : State) : Prop where
  keeps : s.keeps t [.fm, .freeCtr, .noc, .pwr]
  bad : t.fm.bad = s.fm.bad
  bkp : t.pwr.bkpReset = s.pwr.bkpReset

theorem State.posts.refl (s : State) : s.posts s := ⟨keeps_refl, rfl, rfl⟩
theorem State.posts.trans {s t u : State} (h : s.posts t) (k : t.posts u) : s.posts u :=
  ⟨keeps_trans h.keeps k.keeps, k.bad.trans h.bad, k.bkp.trans h.bkp⟩
theorem State.posts.foldl {α : Type} {f : State → α → State} (h : ∀ (s : State) x, s.posts (f s x)) (l : List α) (s : State) :
    s.posts (l.foldl f s) :=
  List.foldlRecOn (motive := fun t => s.posts t) l f (.refl s) fun t ht x _ => ht.trans (h t x)
theorem State.posts.report (s : State) (c k u : Nat) (t : Option Nat) (d : Nat) : s.posts (s.report c k u t d) :=
  ⟨keeps_mono report_keeps (by decide), (arrive_sameCounts _ _).2.2.2, rfl⟩
theorem State.posts.setRemap (s : State) (l : Nat) (r : Remap) : s.posts (s.setRemap l r) :=
  ⟨by simp [State.keeps_iff, State.setRemap], rfl, rfl⟩
theorem State.posts.setDomain (s : State) (d : Nat) (v : Domain) : s.posts (s.setDomain d v) :=
  ⟨keeps_mono setDomain_keeps (by decide), rfl, rfl⟩
theorem State.posts.updStack (s : State) (k : Nat) (f : Stack → Stack) : s.posts (s.updStack k f) :=
  ⟨by simp [State.keeps_iff, State.updStack, State.setStack], rfl, rfl⟩

theorem State.posts.postTile (s : State) (failed : List Nat) (n : Nat) : s.posts (s.postTile failed n) := by
  unfold State.postTile
  split
  · exact State.posts.trans (t := s.freshNat.2) ⟨keeps_mono freshNat_keeps (by decide), rfl, rfl⟩ (.report ..)
  · dsimp only
    refine State.posts.trans ?_ (.report ..)
    split
    · exact .setRemap ..
    · exact ⟨by simp [State.keeps_iff, State.setRemap], rfl, rfl⟩

/-- The self-test has ended: its findings are applied, before LOAD or SAFE. -/
def State.posted (s : State) (tiles : List PTileId) (cols : List (PTileId × Lane16 × BitVec 7)) (dies : List (Fin 8)) (unit : Fin 6)
    (sigs : List (PTileId × DWord)) (res : Nat) : State :=
  let bad := s.postFailed tiles cols
  let s := { s with
    sage := { s.sage with
      post := res, tilesFailed := bad.length, colRepairs := min 0xFF cols.length, failUnit := unit.val, tfail := bad
      soft := cols.map (fun c => (c.1.val, c.2.1.val, c.2.2.toNat))
      sig := sigs.foldl (fun (m : Map DWord) x => Map.set m x.1.val x.2) s.sage.sig }
    fm := { s.fm with bad := bad, failed := min 0xFF bad.length } }
  let s := bad.foldl (fun (s : State) n => s.postTile bad n) s
  let s := cols.foldl (fun (s : State) c =>
    s.report 0x0352 clsCorrected c.1 none (c.1.val + 2 ^ 8 * c.2.1.val + 2 ^ 12 * c.2.2.toNat)) s
  let s := ((dies.foldl State.postDie s).applyRepairs).tilesOff
  s.report 0x0350 clsEvent 0 none (res + 2 ^ 8 * bad.length)

/-- The summary of the self-test. -/
def postRes (bad : List Nat) (cols : List (PTileId × Lane16 × BitVec 7)) (dies : List (Fin 8)) (unit : Fin 6) : Nat :=
  if unit ≠ 0 then 3 else if bad.isEmpty ∧ cols.isEmpty = true ∧ dies.isEmpty = true then 1 else 2

theorem execPostComplete_of_selftest {tiles : List PTileId} {cols : List (PTileId × Lane16 × BitVec 7)} {dies : List (Fin 8)}
    {unit : Fin 6} {sigs : List (PTileId × DWord)} {s : State} (h : s.dev.mode = .selftest) :
    execPostComplete tiles cols dies unit sigs s =
      if postRes (s.postFailed tiles cols) cols dies unit = 3 then
        .next ((s.posted tiles cols dies unit sigs (postRes (s.postFailed tiles cols) cols dies unit)).enterSafe .selftest)
      else .next (s.posted tiles cols dies unit sigs (postRes (s.postFailed tiles cols) cols dies unit)).enterLoad :=
  if_neg (by simp [h])

theorem posted_frame (s : State) (tiles : List PTileId) (cols : List (PTileId × Lane16 × BitVec 7)) (dies : List (Fin 8)) (unit : Fin 6)
    (sigs : List (PTileId × DWord)) (res : Nat) (t : State) (ht : t = s.posted tiles cols dies unit sigs res) :
    t.dev = s.dev ∧ t.sage.post = res ∧ t.sage.failUnit = unit.val ∧ t.sage.tilesFailed = (s.postFailed tiles cols).length ∧
    t.fm.bad = s.postFailed tiles cols ∧ t.pwr.bkpReset = s.pwr.bkpReset ∧ t.cfg = s.cfg ∧ t.regs = s.regs := by
  unfold State.posted at ht
  dsimp only at ht
  generalize hu : ({ s with sage := _, fm := _ } : State) = u at ht
  have h : u.posts t := by
    rw [ht]
    refine State.posts.trans ?_ (.report ..)
    refine State.posts.trans ?_ (.foldl (fun s d => .setDomain s d {}) _ _)
    refine State.posts.trans ?_ (.foldl (fun s k => .updStack s k _) _ _)
    refine State.posts.trans ?_ (.foldl (fun s d => .foldl (fun s k => .setRemap s _ _) _ _) _ _)
    refine State.posts.trans ?_ (.foldl (fun s c => .report s _ _ _ _ _) _ _)
    exact .foldl (fun s n => .postTile s _ n) _ _
  have hsage : t.sage = u.sage := h.keeps .sage (by decide)
  rw [show t.dev = u.dev from h.keeps .dev (by decide), hsage, h.bad, h.bkp, show t.cfg = u.cfg from h.keeps .cfg (by decide),
    show t.regs = u.regs from h.keeps .regs (by decide), ← hu]
  exact ⟨rfl, rfl, rfl, rfl, rfl, rfl, rfl, rfl⟩

/-! ### LOAD begins -/

/-- LOAD goes on, or ends in SAFE. -/
structure State.loads (s t : State) : Prop where
  keeps : s.keeps t safeParts
  fm : s.fm.sameCounts t.fm
  mode : t.dev.mode = s.dev.mode ∨ t.dev.mode = .safe

theorem State.loads.refl (s : State) : s.loads s := ⟨keeps_refl, .refl _, Or.inl rfl⟩
theorem State.loads.trans {s t u : State} (h : s.loads t) (k : t.loads u) : s.loads u :=
  ⟨keeps_trans h.keeps k.keeps, h.fm.trans k.fm, k.mode.elim (fun e => e ▸ h.mode) Or.inr⟩
theorem State.loads.of_freezes {s t : State} {a : List Part} (h : s.freezes t a) (ha : ∀ p ∈ a, p ∈ safeParts) : s.loads t :=
  ⟨keeps_mono h.keeps ha, h.fm, Or.inl (by rw [h.dev])⟩
theorem State.loads.enterSafe (s : State) (c : SafeCause) : s.loads (s.enterSafe c) := by
  by_cases h : s.dev.mode.maySafe = true
  · obtain ⟨hmode, -, -, -, -, -, hfm, -, hk⟩ := enterSafe_frame h c
    exact ⟨hk, hfm, Or.inr hmode⟩
  · rw [enterSafe_of_not (by simpa using h)]
    exact .refl s

theorem State.freezes.reportBkp (s : State) : s.freezes s.reportBkp [.fm] := by
  unfold State.reportBkp
  split
  · exact .report ..
  · exact .refl s _

theorem State.loads.loadSafe (s : State) : s.loads s.loadSafe :=
  (State.loads.of_freezes (.reportBkp s) (by decide)).trans (.enterSafe _ _)

theorem State.loads.moveStage (s : State) (k : Nat) (u : UStage) : s.loads (s.moveStage k u) :=
  .of_freezes (.writeStage s k u _ _ _) (by decide)

theorem State.loads.setCfg (s : State) (c : Cfg) : s.loads { s with cfg := c } :=
  ⟨by simp [State.keeps_iff, safeParts], .refl _, Or.inl rfl⟩

theorem State.loads.loadNext (s : State) : s.loads s.loadNext := by
  unfold State.loadNext
  split
  · exact .loadSafe s
  · split
    · exact .loadSafe s
    next k trial _ =>
      have h : s.loads (if trial then s.moveStage k .trial else s) := by
        split
        · exact .moveStage ..
        · exact .refl s
      exact h.trans (.setCfg _ _)

theorem State.loads.loadFlash (s : State) : s.loads s.loadFlash := by
  have h : s.loads (if s.cfg.lc = 0 ∨ s.cfg.lc = 5 then s
      else [0, 1].foldl (fun s k => if (s.stageRec k).stage = .trial then s.moveStage k .reverted else s) s) := by
    split
    · exact .refl s
    · refine List.foldlRecOn (motive := fun t => s.loads t) _ _ (.refl s) fun t ht k _ => ?_
      split
      · exact ht.trans (.moveStage ..)
      · exact ht
  exact (h.trans (.setCfg _ _)).trans (.loadNext _)

/-- LOAD is entered: it has left the mode before, and found nothing. -/
theorem enterLoad_frame (s : State) : s.keeps s.enterLoad safeParts ∧ s.fm.sameCounts s.enterLoad.fm ∧
    (s.enterLoad.dev.mode = .load ∨ s.enterLoad.dev.mode = .safe) := by
  have hmode : (s.setMode .load).dev.mode = .load := setMode_mode _ _
  have hk : s.keeps (s.setMode .load) [.dev, .fm, .host] := setMode_keeps
  have hfm : s.fm.sameCounts (s.setMode .load).fm := setMode_sameCounts _ _
  unfold State.enterLoad
  dsimp only
  generalize s.setMode .load = u at hmode hk hfm
  have h : u.loads (if u.pwr.bkpReset && u.bkpUnknown then u.loadSafe
      else if u.cfg.cspSel ≠ 0 then { u with cfg := { u.cfg with phase := .cspWait } } else u.loadFlash) := by
    split
    · exact .loadSafe u
    · split
      · exact .setCfg _ _
      · exact .loadFlash u
  exact ⟨keeps_trans (keeps_mono hk (by decide)) h.keeps, hfm.trans h.fm, h.mode.imp_left (fun e => e.trans hmode)⟩

/-- With the configuration port selected, LOAD waits for it. -/
theorem enterLoad_of_csp {s : State} (hb : s.pwr.bkpReset = false) (hc : s.cfg.cspSel = 1) : s.enterLoad.dev.mode = .load := by
  have hmode : (s.setMode .load).dev.mode = .load := setMode_mode _ _
  have hpwr : (s.setMode .load).pwr = s.pwr := setMode_keeps .pwr (by decide)
  have hcfg : (s.setMode .load).cfg = s.cfg := setMode_keeps .cfg (by decide)
  unfold State.enterLoad
  dsimp only
  rw [hpwr, hb, Bool.false_and, if_neg Bool.false_ne_true, hcfg, hc, if_pos (by decide)]
  exact hmode

theorem postFailed_nil {s : State} (h : s.sage.fused = []) : s.postFailed [] [] = [] := by
  simp [State.postFailed, h]

/-- A failed unit. -/
theorem postComplete_of_unit {tiles : List PTileId} {cols : List (PTileId × Lane16 × BitVec 7)} {dies : List (Fin 8)}
    {unit : Fin 6} {sigs : List (PTileId × DWord)} {s : State} (h : s.dev.mode = .selftest) (hu : unit ≠ 0) :
    Runs (.postComplete tiles cols dies unit sigs) s (fun t => t.dev.mode = .safe ∧ t.dev.cause = .selftest ∧ t.sage.post = 3 ∧
      t.sage.failUnit = unit.val ∧ t.sage.tilesFailed = (s.postFailed tiles cols).length ∧ t.fm.bad = s.postFailed tiles cols ∧
      t.regs = s.regs) := by
  have hres : postRes (s.postFailed tiles cols) cols dies unit = 3 := if_pos hu
  have hexec := execPostComplete_of_selftest (tiles := tiles) (cols := cols) (dies := dies) (unit := unit) (sigs := sigs) h
  rw [hres, if_pos rfl] at hexec
  obtain ⟨hdev, hpost, hunit, hcount, hbad, -, -, hregs⟩ := posted_frame s tiles cols dies unit sigs 3 _ rfl
  generalize s.posted tiles cols dies unit sigs 3 = u at hexec hdev hpost hunit hcount hbad hregs
  obtain ⟨hmode, hcause, -, -, -, -, hfm, -, hk⟩ := enterSafe_frame (s := u) (by rw [hdev, h]; rfl) .selftest
  have hsage : (u.enterSafe .selftest).sage = u.sage := hk .sage (by decide)
  refine Runs.of hexec ⟨hmode, hcause, ?_, ?_, ?_, hfm.2.2.2.trans hbad, (hk .regs (by decide)).trans hregs⟩
  · rw [hsage, hpost]
  · rw [hsage, hunit]
  · rw [hsage, hcount]

/-- No failed unit. -/
theorem postComplete_of_good {tiles : List PTileId} {cols : List (PTileId × Lane16 × BitVec 7)} {dies : List (Fin 8)}
    {sigs : List (PTileId × DWord)} {s : State} (h : s.dev.mode = .selftest) :
    Runs (.postComplete tiles cols dies 0 sigs) s (fun t => (t.dev.mode = .load ∨ t.dev.mode = .safe) ∧ t.sage.failUnit = 0 ∧
      t.fm.bad = s.postFailed tiles cols ∧ t.sage.tilesFailed = (s.postFailed tiles cols).length ∧
      t.sage.post = (if s.postFailed tiles cols = [] ∧ cols = [] ∧ dies = [] then 1 else 2) ∧
      (s.pwr.bkpReset = false → s.cfg.cspSel = 1 → t.dev.mode = .load)) := by
  have hres : postRes (s.postFailed tiles cols) cols dies 0 = if s.postFailed tiles cols = [] ∧ cols = [] ∧ dies = [] then 1 else 2 := by
    simp [postRes]
  have hne : postRes (s.postFailed tiles cols) cols dies 0 ≠ 3 := by
    rw [hres]
    split <;> decide
  have hexec := execPostComplete_of_selftest (tiles := tiles) (cols := cols) (dies := dies) (unit := 0) (sigs := sigs) h
  rw [if_neg hne, hres] at hexec
  generalize (if s.postFailed tiles cols = [] ∧ cols = [] ∧ dies = [] then 1 else 2) = res at hexec
  obtain ⟨-, hpost, hunit, hcount, hbad, hbkp, hcfg, -⟩ := posted_frame s tiles cols dies 0 sigs res _ rfl
  generalize s.posted tiles cols dies 0 sigs res = u at hexec hpost hunit hcount hbad hbkp hcfg
  obtain ⟨hk, hfm, hmode⟩ := enterLoad_frame u
  have hsage : u.enterLoad.sage = u.sage := hk .sage (by decide)
  refine Runs.of hexec ⟨hmode, ?_, hfm.2.2.2.trans hbad, ?_, ?_, fun hb hc => enterLoad_of_csp (hbkp.trans hb) ?_⟩
  · rw [hsage, hunit]
    rfl
  · rw [hsage, hcount]
  · rw [hsage, hpost]
  · rw [hcfg, hc]

/-- Settles O32: FORCE_SAFE by the entry to SAFE, HOLD by the ranked mode, the self-test by its summary. -/
theorem safeHoldAndSelfTest : Obligations.SafeHoldAndSelfTest := by
  refine ⟨fun s hm hsafe => ?_, fun key sel s hm hk => ⟨Runs.of (execForceSafe_of_noKey hm hk) ⟨rfl, report_keeps⟩,
    Runs.of (execSoftReset_of_noKey hm hk) ⟨rfl, report_keeps⟩⟩, fun s hm ht _ hr => ?_, fun s hm ht _ hr hl hf hd => ?_,
    fun tiles cols dies unit sigs s => ⟨fun h => Runs.of (if_pos h) rfl, fun h hu => ?_, fun h hu => ?_⟩, fun unit s h hn hu => ?_,
    fun s h hn hc hb => ?_⟩
  · obtain ⟨hmode, hcause, hfrozen, hpins, hmark, -, -, -, hk⟩ := enterSafe_frame hsafe .forced
    exact Runs.of (execForceSafe_of_key hm) ⟨hmode, hcause, hfrozen, hpins, hmark, hk .regs (by decide), hk .ds (by decide),
      hk .tenants (by decide)⟩
  · have hc : s.dev.mode.configured = true := by rw [hm]; rfl
    obtain ⟨hbit, hten, hmode, hk⟩ := setOwnHold_of_vacant ⟨ht, hr⟩ hc (by simp [hm]) true s.dev.floor
    exact Runs.of (if_pos hc) ⟨hbit, hmode, hten, hk⟩
  · have hc : s.dev.mode.configured = true := by rw [hm]; rfl
    obtain ⟨hbit, hten, hmode, hk⟩ := setOwnHold_of_vacant ⟨ht, hr⟩ hc (by simp [hm]) false s.dev.floor
    exact Runs.of (if_pos hc) ⟨hbit, hmode.trans (by rw [hl, hf, hd]; rfl), hten, hk⟩
  · obtain ⟨t, ht, hmode, hcause, hpost, hunit, hcount, hbad, -⟩ := postComplete_of_unit h hu
    exact ⟨t, ht, hmode, hcause, hpost, hunit, hcount, hbad⟩
  · subst hu
    obtain ⟨t, ht, hmode, hunit, hbad, -, hpost, -⟩ := postComplete_of_good h
    exact ⟨t, ht, by rcases hmode with hmode | hmode <;> simp [hmode], hunit, hbad, hpost⟩
  · obtain ⟨t, ht, hmode, hcause, hpost, hunit, -, hbad, hregs⟩ := postComplete_of_unit h hu
    exact ⟨t, ht, hmode, hcause, hpost, hunit, hbad.trans (postFailed_nil hn), hregs⟩
  · obtain ⟨t, ht, -, -, hbad, hcount, hpost, hmode⟩ := postComplete_of_good h
    rw [postFailed_nil hn] at hbad hcount hpost
    exact ⟨t, ht, hmode hb hc, hpost, hcount, hbad⟩

end Sys2Proof.Machine
end

section
/-!
PROOF. The lattice's state: a link read after a write, what the line brings, and the operations that only put tokens on their way.
-/
namespace Sys2Proof.Machine

/-! ### One link -/

theorem setLink_lat_keeps {s : State} {l : Nat} {k : Link} : s.keeps (s.setLink l k) [.lat] := by
  simp [State.keeps_iff, State.setLink]

theorem link_of_links {s t : State} (h : t.lat.links = s.lat.links) (m : Nat) : t.link m = s.link m := by
  rw [State.link, h, State.link]
theorem link_of_keeps {s t : State} {a : List Part} (h : s.keeps t a) (n : .lat ∉ a) (m : Nat) : t.link m = s.link m :=
  link_of_links (congrArg Lattice.links (show t.lat = s.lat from h .lat n)) m
theorem otherLinks_of_links {s t : State} {l : Nat} (h : t.lat.links = s.lat.links) : s.otherLinks t l := fun m _ => link_of_links h m
theorem otherLinks_of_keeps {s t : State} {a : List Part} {l : Nat} (h : s.keeps t a) (n : .lat ∉ a) : s.otherLinks t l :=
  fun m _ => link_of_keeps h n m
theorem otherLinks_refl {s : State} {l : Nat} : s.otherLinks s l := fun _ _ => rfl

/-! ### What the lanes bring -/

/-- A receiver after some symbols: its lanes' disparities, symbol count and code errors differ, and nothing else. -/
def Link.sameButLine (k r : Link) : Prop :=
  r = { k with
    rxRd0 := r.rxRd0, rxRd1 := r.rxRd1, rxSyms := r.rxSyms, code0 := r.code0, code1 := r.code1, errs0 := r.errs0, errs1 := r.errs1 }

/-- A field of the link that is none of the line's. -/
theorem Link.sameButLine.field {k r : Link} (h : k.sameButLine r) {α : Type} (f : Link → α) (hf : f { k with
    rxRd0 := r.rxRd0, rxRd1 := r.rxRd1, rxSyms := r.rxSyms, code0 := r.code0, code1 := r.code1, errs0 := r.errs0, errs1 := r.errs1
    } = f k) : f r = f k := by
  have e := congrArg f h
  exact e.trans hf

/-- In a state that decodes, the line changes the receiver alone. -/
theorem takeLine_of_decoding {s : State} {l : Nat} {x : LineIn}
    (h : (s.link l).st ≠ .off ∧ (s.link l).st ≠ .test ∧ (s.link l).st ≠ .looped) :
    ∃ r, (s.link l).sameButLine r ∧ (s.takeLine l x).2 = s.setLink l r := by
  unfold State.takeLine
  dsimp only
  rw [if_neg (by simp [h])]
  exact ⟨((s.link l).takeLine x).2, rfl, rfl⟩

/-- In every state, the link after it is as before but for its receiver. -/
theorem takeLine_frame (s : State) (l : Nat) (x : LineIn) : (s.link l).sameButLine ((s.takeLine l x).2.link l) ∧
    s.otherLinks (s.takeLine l x).2 l ∧ s.keeps (s.takeLine l x).2 [.lat] := by
  by_cases h : (s.link l).st = .off ∨ (s.link l).st = .test ∨ (s.link l).st = .looped
  · have he : (s.takeLine l x).2 = s := by
      unfold State.takeLine
      dsimp only
      rw [if_pos h]
    rw [he]
    exact ⟨rfl, otherLinks_refl, keeps_refl⟩
  · obtain ⟨r, hr, he⟩ := takeLine_of_decoding (s := s) (l := l) (x := x)
      ⟨fun e => h (Or.inl e), fun e => h (Or.inr (Or.inl e)), fun e => h (Or.inr (Or.inr e))⟩
    rw [he, State.link_setLink]
    exact ⟨hr, otherLinks_setLink, setLink_lat_keeps⟩

/-! ### Tokens on their way -/

/-- Tokens wait for links, and drain markers are out: the links, the line and the other queues are as they were. -/
def State.speaks (s t : State) : Prop :=
  t.lat = { s.lat with tokOut := t.lat.tokOut, marker := t.lat.marker, markers := t.lat.markers }

theorem State.speaks.lat {s t : State} (h : s.speaks t) :
    t.lat = { s.lat with tokOut := t.lat.tokOut, marker := t.lat.marker, markers := t.lat.markers } := h
theorem State.speaks.refl (s : State) : s.speaks s := rfl
theorem State.speaks.trans {s t u : State} (h : s.speaks t) (k : t.speaks u) : s.speaks u := by
  have e := congrArg (fun c : Lattice => ({ c with tokOut := u.lat.tokOut, marker := u.lat.marker, markers := u.lat.markers } : Lattice)) h.lat
  exact k.lat.trans e
theorem State.speaks.of_lat {s t : State} (h : t.lat = s.lat) : s.speaks t := by
  unfold State.speaks
  rw [h]
theorem State.speaks.of_keeps {s t : State} {a : List Part} (h : s.keeps t a) (n : .lat ∉ a) : s.speaks t := .of_lat (h .lat n)
theorem State.speaks.updTen (s : State) (x : Nat) (f : Tenant → Tenant) : s.speaks (s.updTen x f) := .of_lat rfl
theorem State.speaks.ite {s t u : State} {p : Prop} [Decidable p] (h : s.speaks t) (k : s.speaks u) : s.speaks (if p then t else u) := by
  by_cases hp : p
  · rwa [if_pos hp]
  · rwa [if_neg hp]
theorem State.speaks.foldl {α : Type} {f : State → α → State} (h : ∀ (s : State) x, s.speaks (f s x)) (l : List α) (s : State) :
    s.speaks (l.foldl f s) :=
  List.foldlRecOn (motive := fun t => s.speaks t) l f (.refl s) fun t ht x _ => ht.trans (h t x)

theorem State.speaks.links {s t : State} (h : s.speaks t) : t.lat.links = s.lat.links := by
  have e := congrArg Lattice.links h.lat
  exact e
theorem State.speaks.wire {s t : State} (h : s.speaks t) : t.lat.wire = s.lat.wire := by
  have e := congrArg Lattice.wire h.lat
  exact e
theorem State.speaks.link {s t : State} (h : s.speaks t) (m : Nat) : t.link m = s.link m := link_of_links h.links m

theorem State.speaks.tokUp (s : State) (but : Option Nat) (k : Token) : s.speaks (s.tokUp but k) := rfl

theorem State.speaks.tokSpan (s : State) (x : Nat) (k : Token) : s.speaks (s.tokSpan x k) := by
  unfold State.tokSpan
  split
  · exact rfl
  · exact .refl s

theorem State.speaks.sendNow (s : State) (x : Nat) : s.speaks (s.sendNow x) := by
  unfold State.sendNow State.sendBnd
  exact .foldl (fun s _ => .tokSpan s _ _) _ s

theorem State.speaks.sendMarkers (s : State) (x e : Nat) : s.speaks (s.sendMarkers x e) := by
  unfold State.sendMarkers
  dsimp only
  refine State.speaks.trans (.foldl (fun s o => ?_) _ s) (.updTen _ _ _)
  cases o <;> exact rfl

theorem State.speaks.advance (s : State) (x : Nat) (ls : List Nat) : s.speaks (s.advance x ls) :=
  (State.speaks.of_keeps (bumpEpochs_frame s ls).1 (by decide)).trans (.sendMarkers _ _ _)

theorem State.speaks.closeRefit (s : State) (x : Nat) : s.speaks (s.closeRefit x) := by
  unfold State.closeRefit
  exact .ite (.updTen _ _ _) (.ite ((State.speaks.updTen _ _ _).trans (.sendNow _ _)) (.updTen _ _ _))

theorem State.speaks.refitStep (s : State) : s.speaks s.refitStep := by
  unfold State.refitStep
  split
  · exact .refl s
  · refine .ite (.ite (.refl s) ?_) (.ite ?_ (.refl s))
    · dsimp only
      split
      · exact .of_lat rfl
      · exact State.speaks.trans (.of_lat rfl) (.closeRefit _ _)
    · dsimp only
      split
      · exact .of_keeps endRefit_keeps (by decide)
      · refine .ite ?_ (.ite (.ite (.refl s) (.closeRefit _ _)) (.ite (.of_lat rfl) (.ite (.refl s) ?_)))
        · exact (State.speaks.of_keeps endRebal_keeps (by decide)).trans (.of_keeps endRefit_keeps (by decide))
        · refine State.speaks.trans ?_ (.updTen _ _ _)
          refine State.speaks.trans ?_ (.of_keeps endRefit_keeps (by decide))
          refine State.speaks.trans ?_ (.of_keeps endRebal_keeps (by decide))
          exact (State.speaks.of_keeps moveTiles_keeps (by decide)).trans (.advance _ _ _)

theorem State.speaks.setMode (s : State) (m : Mode) : s.speaks (s.setMode m) := .of_keeps setMode_keeps (by decide)

theorem State.speaks.remode (s : State) : s.speaks s.remode := by
  unfold State.remode
  refine .ite ?_ (.refl s)
  exact ((State.speaks.setMode _ _).trans (.foldl (fun s _ => .refitStep s) _ _)).trans (.setMode _ _)

theorem State.speaks.beginRecovery (s : State) (x : Nat) (kind : RecKind) (lt : Option Nat) (k g seq : Nat) :
    s.speaks (s.beginRecovery x kind lt k g seq) := by
  unfold State.beginRecovery
  dsimp only
  refine State.speaks.trans ?_ (.remode _)
  refine State.speaks.trans ?_ (.of_keeps faultEvent_keeps (by decide))
  refine State.speaks.trans ?_ (.of_keeps haltTenant_keeps (by decide))
  refine State.speaks.trans ?_ (.updTen _ _ _)
  exact State.speaks.trans (t := s.markFaulty lt) (.of_keeps markFaulty_keeps (by decide)) (.of_lat (by cases lt <;> rfl))

theorem State.speaks.startRecovery (s : State) (x : Nat) (kind : RecKind) (lt : Option Nat) (seq : Nat) :
    s.speaks (s.startRecovery x kind lt seq) := by
  unfold State.startRecovery
  dsimp only
  exact .ite ((State.speaks.beginRecovery _ _ _ _ _ _ _).trans (.tokSpan _ _ _)) (.beginRecovery _ _ _ _ _ _ _)

/-! ### The neighbours hear of a change -/

theorem State.speaks.nbrSince (s : State) (old : BitVec 256) : s.speaks (s.nbrSince old) := by
  unfold State.nbrSince
  exact .ite (.refl s) rfl

theorem nbrSince_keeps {s : State} {old : BitVec 256} : s.keeps (s.nbrSince old) [.lat] := by
  unfold State.nbrSince
  exact keeps_ite keeps_refl (by simp [State.keeps_iff, State.sendNbr, State.tokUp])

theorem changeLink_frame (s : State) (l : Nat) (k : Link) : (s.changeLink l k).link l = k ∧ s.otherLinks (s.changeLink l k) l ∧
    (s.changeLink l k).lat.wire = s.lat.wire ∧ s.keeps (s.changeLink l k) [.lat] := by
  have h := State.speaks.nbrSince (s.setLink l k) s.nbrSet
  refine ⟨(h.link l).trans (s.link_setLink l k), otherLinks_trans otherLinks_setLink (otherLinks_of_links h.links), h.wire,
    keeps_trans setLink_lat_keeps nbrSince_keeps⟩

theorem linkReport_keeps {s : State} {l c k d : Nat} : s.keeps (s.linkReport l c k d) [.fm] := report_keeps

/-! ### Sending -/

theorem send_frame (s : State) (l : Nat) (w : WireItem) : (s.send l w).link l = (s.link l).afterItem l w ∧
    s.otherLinks (s.send l w) l ∧ (s.send l w).lat.wire = s.lat.wire ++ [(l, w)] ∧ s.keeps (s.send l w) [.lat] :=
  ⟨s.link_updLink l fun k => k.afterItem l w, fun _ hm => s.link_updLink_ne (fun k => k.afterItem l w) hm, rfl,
    by simp [State.keeps_iff, State.send, State.updLink, State.setLink]⟩

end Sys2Proof.Machine
end

section
/-!
PROOF. Bring-up, retraining, failure and sleep of a link (R287, R289, R296 to R298, R303 to R308).
-/
namespace Sys2Proof.Machine

/-! ### DETECT, TRAIN and IDENT -/

theorem enterDetect_phase (k : Link) : k.enterDetect.phase = .detect := by
  by_cases h : k.st = .down <;> simp [Link.enterDetect, Link.setPhase, Link.phase, h]

theorem phase_of_ne_down {k : Link} (h : k.st ≠ .down) : k.phase = k.st := if_neg h

theorem substitute_frame (s : State) (l n : Nat) : (s.substitute l n).link l = { s.link l with subst := some n } ∧
    (s.substitute l n).lat.spareUsed = spareKey l :: s.lat.spareUsed ∧ s.otherLinks (s.substitute l n) l ∧
    s.reported (s.substitute l n) 0x0204 4 l none (n + 2 * (spareKey l).2) ∧ s.keeps (s.substitute l n) [.lat, .fm] := by
  refine ⟨s.link_updLink l fun k => { k with subst := some n }, rfl,
    fun _ hm => s.link_updLink_ne (fun k => { k with subst := some n }) hm, rfl, ?_⟩
  refine keeps_trans (t := { s.updLink l (fun k => { k with subst := some n }) with
    lat := { (s.updLink l (fun k => { k with subst := some n })).lat with spareUsed := spareKey l :: s.lat.spareUsed } })
    (by simp [State.keeps_iff, State.updLink, State.setLink]) (keeps_mono report_keeps (by decide))

theorem execLinkDetectTimeout_silent {l : LinkId} {s : State} (h : (s.link l).phase = .detect) : execLinkDetectTimeout l none s =
    if (s.link l).noPeerRec then .next (s.setLink l { (s.link l).enterDetect with noPeerRec := true })
    else .next ((s.setLink l { (s.link l).enterDetect with noPeerRec := true }).linkReport l 0x0208 clsEvent 0) :=
  if_neg (by simp [h])

theorem execLinkDetectTimeout_spare {l : LinkId} {n : Fin 2} {s : State} (h : (s.link l).phase = .detect) (hf : s.spareFree l = true) :
    execLinkDetectTimeout l (some n) s = .next ((s.substitute l n).updLink l Link.enterDetect) := by
  unfold execLinkDetectTimeout
  dsimp only
  rw [if_neg (by simp [h]), if_pos hf]

theorem execLinkDetectTimeout_down {l : LinkId} {n : Fin 2} {s : State} (h : (s.link l).phase = .detect) (hf : s.spareFree l = false)
    (hd : (s.link l).st ≠ .down) : execLinkDetectTimeout l (some n) s = .next (s.linkDown l) := by
  unfold execLinkDetectTimeout
  dsimp only
  rw [if_neg (by simp [h]), if_neg (by simp [hf]), if_neg hd]

/-! ### A link goes DOWN -/

/-- Links keep their states and counts of failures, and the line what it carries. -/
def State.detours (s t : State) : Prop :=
  t.lat.wire = s.lat.wire ∧ ∀ m, (t.link m).st = (s.link m).st ∧ (t.link m).downs = (s.link m).downs

theorem State.detours.trans {s t u : State} (h : s.detours t) (k : t.detours u) : s.detours u :=
  ⟨k.1.trans h.1, fun m => ⟨(k.2 m).1.trans (h.2 m).1, (k.2 m).2.trans (h.2 m).2⟩⟩
theorem State.detours.of_speaks {s t : State} (h : s.speaks t) : s.detours t := ⟨h.wire, fun m => by rw [h.link]; exact ⟨rfl, rfl⟩⟩
theorem State.detours.refl (s : State) : s.detours s := .of_speaks (.refl s)
theorem State.detours.setDetour (s : State) (l : Nat) (d : Option (Nat × Nat)) :
    s.detours (s.updLink l (fun k => { k with detour := d })) := by
  refine ⟨rfl, fun m => ?_⟩
  by_cases hm : m = l
  · rw [hm, State.link_updLink]
    exact ⟨rfl, rfl⟩
  · rw [State.link_updLink_ne _ _ hm]
    exact ⟨rfl, rfl⟩

theorem State.detours.takeDetour (s : State) (l : Nat) : s.detours (s.takeDetour l) := by
  unfold State.takeDetour
  split
  · exact (State.detours.setDetour s l none).trans (.of_speaks (.of_keeps linkReport_keeps (by decide)))
  next d _ =>
    have hpre : s.detours ((s.updLink l (fun k => { k with detour := some d })).linkReport l 0x0122 clsDegraded l) :=
      (State.detours.setDetour s l (some d)).trans (.of_speaks (.of_keeps linkReport_keeps (by decide)))
    dsimp only
    generalize (s.updLink l (fun k => { k with detour := some d })).linkReport l 0x0122 clsDegraded l = u at hpre
    exact hpre.trans (.of_speaks (.foldl (fun s _ => .startRecovery s _ _ _ _) _ _))

/-- A link that has gone DOWN. -/
def Link.lost (k : Link) : Link :=
  { k.requeue with st := .down, bg := none, downs := satInc k.downs 0xFF, txSleep := false, rxSleep := false, markDue := false }

/-- The marks of a link are forgotten, but for those of Thyme's source. -/
def State.dropMarks (s : State) (l : Nat) : State :=
  if s.thy.srcLink = some l then s else { s with thy := { s.thy with marks := Map.del s.thy.marks l } }

/-- The link as it goes DOWN, its neighbours told. -/
def State.linkLost (s : State) (l : Nat) : State := ((s.updLink l Link.lost).dropMarks l).nbrSince s.nbrSet

theorem linkDown_eq (s : State) (l : Nat) : ∃ via : List Nat, s.linkDown l = via.foldl State.takeDetour
    (((s.linkLost l).linkReport l 0x0203 clsDegraded ((((s.linkLost l).link l).farId).getD 0)).takeDetour l) := ⟨_, rfl⟩

theorem dropMarks_keeps {s : State} {l : Nat} : s.keeps (s.dropMarks l) [.thy] :=
  keeps_ite keeps_refl (by simp [State.keeps_iff])

theorem linkLost_frame (s : State) (l : Nat) : (s.linkLost l).link l = (s.link l).lost ∧ (s.linkLost l).lat.wire = s.lat.wire ∧
    s.keeps (s.linkLost l) [.lat, .thy] := by
  have hk : s.keeps (s.updLink l Link.lost) [.lat] := updLink_keeps
  have hlink : (s.updLink l Link.lost).link l = (s.link l).lost := s.link_updLink l _
  have hwire : (s.updLink l Link.lost).lat.wire = s.lat.wire := rfl
  unfold State.linkLost
  generalize s.updLink l Link.lost = u at hk hlink hwire
  have hm : u.keeps (u.dropMarks l) [.thy] := dropMarks_keeps
  have hs : u.speaks ((u.dropMarks l).nbrSince s.nbrSet) := (State.speaks.of_keeps hm (by decide)).trans (.nbrSince _ _)
  exact ⟨(hs.link l).trans hlink, hs.wire.trans hwire, keeps_trans (keeps_mono hk (by decide))
    (keeps_trans (keeps_mono hm (by decide)) (keeps_mono nbrSince_keeps (by decide)))⟩

/-- A link that goes DOWN: its state and its count, and the line. -/
theorem linkDown_frame (s : State) (l : Nat) : ((s.linkDown l).link l).st = .down ∧
    ((s.linkDown l).link l).downs = satInc (s.link l).downs 0xFF ∧ (s.linkDown l).lat.wire = s.lat.wire := by
  obtain ⟨via, he⟩ := linkDown_eq s l
  obtain ⟨hlink, hwire, -⟩ := linkLost_frame s l
  rw [he]
  generalize s.linkLost l = u at hlink hwire
  have hd : u.detours (via.foldl State.takeDetour
      ((u.linkReport l 0x0203 clsDegraded (((u.link l).farId).getD 0)).takeDetour l)) :=
    List.foldlRecOn (motive := fun t => u.detours t) _ _
      ((State.detours.of_speaks (.of_keeps linkReport_keeps (by decide))).trans (.takeDetour _ _)) fun t ht m _ => ht.trans (.takeDetour t m)
  obtain ⟨hst, hdowns⟩ := hd.2 l
  exact ⟨by rw [hst, hlink]; rfl, by rw [hdowns, hlink]; rfl, hd.1.trans hwire⟩

theorem linkUsers_of_noTenants {s : State} (h : s.tenants = []) (l : Nat) : s.linkUsers l = [] := by
  rw [State.linkUsers, h]
  rfl

theorem takeDetour_keeps {s : State} {l : Nat} (h : s.tenants = []) : s.keeps (s.takeDetour l) [.lat, .fm] := by
  have hpre : ∀ d c k n, s.keeps ((s.updLink l (fun k => { k with detour := d })).linkReport l c k n) [.lat, .fm] := fun _ _ _ _ =>
    keeps_trans (keeps_mono updLink_keeps (by decide)) (keeps_mono linkReport_keeps (by decide))
  unfold State.takeDetour
  split
  · exact hpre _ _ _ _
  next d _ =>
    have hu := hpre (some d) 0x0122 clsDegraded l
    dsimp only
    generalize (s.updLink l (fun k => { k with detour := some d })).linkReport l 0x0122 clsDegraded l = u at hu
    rw [linkUsers_of_noTenants ((hu .tenants (by decide)).trans h)]
    exact hu

theorem linkDown_keeps {s : State} {l : Nat} (h : s.tenants = []) : s.keeps (s.linkDown l) [.lat, .fm, .thy] := by
  obtain ⟨via, he⟩ := linkDown_eq s l
  obtain ⟨-, -, hlost⟩ := linkLost_frame s l
  rw [he]
  generalize s.linkLost l = u at hlost
  have hpre : s.keeps (u.linkReport l 0x0203 clsDegraded (((u.link l).farId).getD 0)) [.lat, .fm, .thy] :=
    keeps_trans (keeps_mono hlost (by decide)) (keeps_mono linkReport_keeps (by decide))
  have hnext : ∀ (t : State) m, s.keeps t [.lat, .fm, .thy] → s.keeps (t.takeDetour m) [.lat, .fm, .thy] := fun t m ht =>
    keeps_trans ht (keeps_mono (takeDetour_keeps ((ht .tenants (by decide)).trans h)) (by decide))
  exact List.foldlRecOn (motive := fun t => s.keeps t [.lat, .fm, .thy]) _ _ (hnext _ l hpre) fun t ht m _ => hnext t m ht

/-! ### A link comes up -/

/-- The far end as LINK_UP names it. -/
def Link.farCode (k : Link) : Nat := match k.peer with | some p => p.mod0.val + 256 * p.link0 | none => 0

/-- A link whose bring-up has ended. -/
theorem linkUpNow_of_ident {s : State} {l : Nat} (h : (s.link l).st = .ident) :
    (s.linkUpNow l).link l = { (s.link l).freshFlow with st := .up, bg := none, retry := [], cut := [] } ∧
    s.reported (s.linkUpNow l) 0x0200 0 l none (s.link l).farCode ∧
    s.otherLinks (s.linkUpNow l) l ∧ (s.linkUpNow l).lat.wire = s.lat.wire ∧ s.keeps (s.linkUpNow l) [.lat, .fm] := by
  have hup : s.comeUp l = (s.setLink l { (s.link l).freshFlow with st := .up, bg := none, retry := [], cut := [] }).linkReport l 0x0200
      clsEvent (s.link l).farCode := by
    unfold State.comeUp
    dsimp only
    rw [h]
    rfl
  have hfm : s.reported (s.comeUp l) 0x0200 0 l none (s.link l).farCode := by
    rw [hup]
    rfl
  have hlink : (s.comeUp l).link l = { (s.link l).freshFlow with st := .up, bg := none, retry := [], cut := [] } := by
    rw [hup]
    exact s.link_setLink l _
  have hother : s.otherLinks (s.comeUp l) l := by
    rw [hup]
    exact fun _ hm => s.link_setLink_ne _ hm
  have hwire : (s.comeUp l).lat.wire = s.lat.wire := by rw [hup]; rfl
  have hk : s.keeps (s.comeUp l) [.lat, .fm] := by
    rw [hup]
    exact keeps_trans (keeps_mono setLink_lat_keeps (by decide)) (keeps_mono linkReport_keeps (by decide))
  unfold State.linkUpNow
  generalize s.comeUp l = u at hfm hlink hother hwire hk
  have hs : u.speaks (u.nbrSince s.nbrSet) := .nbrSince _ _
  have hn : u.keeps (u.nbrSince s.nbrSet) [.lat] := nbrSince_keeps
  refine ⟨(hs.link l).trans hlink, ?_, otherLinks_trans hother (otherLinks_of_links hs.links), hs.wire.trans hwire,
    keeps_trans hk (keeps_mono hn (by decide))⟩
  exact (hn .fm (by decide)).trans hfm

theorem upFromFull_wire (s : State) (l : Nat) : (s.upFromFull l).lat.wire = s.lat.wire := by
  have htail : ∀ (cut : List Nat) (q : Nat) (u : State), (cut.foldl (fun s t => s.startRecovery t .masked none q) u).lat.wire = u.lat.wire :=
    fun cut q u => State.speaks.wire (.foldl (fun s _ => .startRecovery s _ _ _ _) _ _)
  unfold State.upFromFull
  dsimp only
  split
  · rw [(linkDown_frame _ l).2.2, htail]
    rfl
  · rw [htail]
    rfl

theorem linkUpNow_wire (s : State) (l : Nat) : (s.linkUpNow l).lat.wire = s.lat.wire := by
  have hup : (s.comeUp l).lat.wire = s.lat.wire := by
    unfold State.comeUp
    dsimp only
    split
    · rfl
    · exact upFromFull_wire s l
    · split <;> rfl
    · rfl
  exact (State.speaks.nbrSince _ _).wire.trans hup

/-- The counts that bring a link up. -/
def Link.mayUp (k : Link) : Prop := 8 ≤ k.goodTs ∧ 8 ≤ k.ackTs ∧ 16 ≤ k.sentAck

theorem tryUp_of_counts {s : State} {l : Nat} (h : (s.link l).mayUp) : s.tryUp l = s.linkUpNow l := if_pos h
theorem tryUp_of_not {s : State} {l : Nat} (h : ¬ (s.link l).mayUp) : s.tryUp l = s := if_neg h

/-! ### Training sets in -/

theorem execTsReceive_ident {l : LinkId} {line : LineIn} {ts : TrainSet} {rtt : BitVec 16} {s : State} (h : (s.link l).st = .ident)
    (hsp : ts.spare = false) (hsub : ts.sub = false) (hl : ts.loopReq = false) : ∃ r, (s.link l).sameButLine r ∧
      execTsReceive l line ts rtt s = .next ((s.setLink l r).identTs l ts rtt.toNat) := by
  obtain ⟨r, hr, he⟩ := takeLine_of_decoding (s := s) (l := l) (x := line) (by simp [h])
  refine ⟨r, hr, ?_⟩
  have hst : r.st = .ident := (hr.field Link.st rfl).trans h
  unfold execTsReceive
  dsimp only
  rw [hsp, if_neg Bool.false_ne_true, he, hsub, Bool.false_and, if_neg Bool.false_ne_true, hl, Bool.false_and, if_neg Bool.false_ne_true,
    State.link_setLink, hst, if_neg (by simp), if_neg (by simp), if_pos (Or.inl ((phase_of_ne_down (by simp [hst])).trans hst))]

/-- A whole training set from an end whose identity is good: the counts, and whether they bring the link up. -/
theorem identTs_of_good {s : State} {l : Nat} {r : Link} {ts : TrainSet} {n : Nat} (hst : r.st = .ident) (hfast : ts.fast = false)
    (hf : s.identFault ts = none) (hv : s.bothValid ts = true) : (s.setLink l r).identTs l ts n =
      ((s.setLink l r).setLink l { r with
        peer := some ts, rtt := n, goodTs := if ts.rxLocked then r.goodTs + 1 else 0, ackTs := if ts.ack then r.ackTs + 1 else 0
        peerRec := false, sentAck := if 8 ≤ (if ts.rxLocked then r.goodTs + 1 else 0) then r.sentAck else 0 }).tryUp l := by
  have hf' : (s.setLink l r).identFault ts = none := hf
  have hv' : (s.setLink l r).bothValid ts = true := hv
  unfold State.identTs
  dsimp only
  rw [hf']
  dsimp only
  rw [hv', State.link_setLink, hst, hfast]
  simp only [Bool.not_true, Bool.false_eq_true, if_false, reduceCtorEq, decide_false, beq_self_eq_true, Bool.and_true]

/-- One whose identity is at fault, and was not recorded. -/
theorem identTs_of_fault {s : State} {l : Nat} {r : Link} {ts : TrainSet} {n c k d : Nat} (hf : s.identFault ts = some (c, k, d))
    (hp : r.peerRec = false) : (s.setLink l r).identTs l ts n = ((s.setLink l r).setLink l { r with
        peer := some ts, rtt := n, goodTs := 0, ackTs := 0, sentAck := 0, peerRec := true }).linkReport l c k d := by
  have hf' : (s.setLink l r).identFault ts = some (c, k, d) := hf
  unfold State.identTs
  dsimp only
  rw [hf']
  dsimp only
  rw [State.link_setLink, hp, if_pos (by simp)]

theorem execTsReceive_fast {l : LinkId} {line : LineIn} {ts : TrainSet} {rtt : BitVec 16} {s : State} (h : (s.link l).st = .up)
    (hsp : ts.spare = false) (hsub : ts.sub = false) (hl : ts.loopReq = false) (hf : ts.fast = true) : ∃ r, (s.link l).sameButLine r ∧
      execTsReceive l line ts rtt s = .next ((s.setLink l r).changeLink l r.enterFast) := by
  obtain ⟨r, hr, he⟩ := takeLine_of_decoding (s := s) (l := l) (x := line) (by simp [h])
  refine ⟨r, hr, ?_⟩
  have hst : r.st = .up := (hr.field Link.st rfl).trans h
  unfold execTsReceive
  dsimp only
  rw [hsp, if_neg Bool.false_ne_true, he, hsub, Bool.false_and, if_neg Bool.false_ne_true, hl, Bool.false_and, if_neg Bool.false_ne_true,
    State.link_setLink, phase_of_ne_down (by simp [hst]), hst, if_neg (by simp), if_neg (by simp), if_neg (by simp),
    if_pos ⟨rfl, Or.inl hf⟩, if_pos hf]

theorem spareTs_frame (s : State) (l : Nat) (ts : TrainSet) : (s.spareTs l ts).lat.links = s.lat.links ∧
    s.keeps (s.spareTs l ts) [.lat, .fm] := by
  unfold State.spareTs
  refine iteInduction (motive := fun t : State => t.lat.links = s.lat.links ∧ s.keeps t [.lat, .fm]) (fun _ => ⟨rfl, ?_⟩) (fun _ => ⟨rfl, ?_⟩)
  · simp [State.keeps_iff]
  · simp [State.keeps_iff, State.linkReport, State.report]

/-! ### Training sets out -/

/-- A link that is not DOWN sends on its own line. -/
theorem execFrameTransmit_of_ne_down {l : LinkId} {cd sd : Bool} {dl : BitVec 10} {s : State} (hd : (s.link l).st ≠ .down) :
    execFrameTransmit l cd sd dl s = if s.sendsTs l then .next (s.sendTs l)
      else if (s.link l).st ≠ .up ∨ (s.link l).txSleep = true then .next s
      else if (s.link l).markDue then .next (s.sendMark l dl.toNat)
      else .next (s.sendDue l cd sd) := by
  unfold execFrameTransmit
  dsimp only
  split
  next hst _ => exact absurd hst hd
  · rfl

theorem execFrameTransmit_training {l : LinkId} {cd sd : Bool} {dl : BitVec 10} {s : State} (h : s.sendsTs l = true)
    (hd : (s.link l).st ≠ .down) : execFrameTransmit l cd sd dl s = .next (s.sendTs l) :=
  (execFrameTransmit_of_ne_down hd).trans (if_pos h)

/-- A training set that goes out, and what its acknowledgement counts for. -/
theorem sendTs_of_plain {s : State} {l : Nat} (h : (s.link l).goodTs < 8) : s.sendTs l = s.send l (.ts (s.ownTs l)) :=
  if_neg (by simp [State.ownTs, h])

/-- The link after an acknowledging training set has gone out. -/
def State.ackSent (s : State) (l : Nat) : State :=
  (s.send l (.ts (s.ownTs l))).updLink l (fun k => { k with sentAck := k.sentAck + 1 })

theorem sendTs_of_ack {s : State} {l : Nat} (h : 8 ≤ (s.link l).goodTs) : s.sendTs l = (s.ackSent l).tryUp l :=
  if_pos (by simp [State.ownTs, h])

theorem ackSent_frame (s : State) (l : Nat) :
    (s.ackSent l).link l = { (s.link l).afterItem l (.ts (s.ownTs l)) with sentAck := (s.link l).sentAck + 1 } ∧
    s.otherLinks (s.ackSent l) l ∧ (s.ackSent l).lat.wire = s.lat.wire ++ [(l, .ts (s.ownTs l))] ∧ s.keeps (s.ackSent l) [.lat] := by
  obtain ⟨hlink, hother, hwire, hk⟩ := send_frame s l (.ts (s.ownTs l))
  unfold State.ackSent
  generalize s.send l (.ts (s.ownTs l)) = u at hlink hother hwire hk
  refine ⟨?_, otherLinks_trans hother otherLinks_updLink, hwire, keeps_trans hk updLink_keeps⟩
  rw [State.link_updLink, hlink]
  rfl

/-! ### Retraining -/

theorem enterFull_frame (k : Link) : k.enterFull.st = .fullRt ∧ k.enterFull.subst = k.subst ∧
    k.enterFull.retry = k.retry.filter (fun f => bodyIsTok f.body) := ⟨rfl, rfl, rfl⟩

theorem execLinkFastRtEnter_of_cause {l : LinkId} {line : LineIn} {c : Fin 4} {s : State} (h : (s.link l).st = .up)
    (hc : ((s.takeLine l line).2.link l).fastCause c = true) : ∃ r, (s.link l).sameButLine r ∧
      execLinkFastRtEnter l line c s = .next ((s.setLink l r).changeLink l { r.enterFast with rtCause := c }) := by
  obtain ⟨r, hr, he⟩ := takeLine_of_decoding (s := s) (l := l) (x := line) (by simp [h])
  rw [he, State.link_setLink] at hc
  have hst : r.st = .up := (hr.field Link.st rfl).trans h
  refine ⟨r, hr, ?_⟩
  unfold execLinkFastRtEnter
  dsimp only
  rw [he, State.link_setLink, if_pos ⟨hst, hc⟩]

theorem execLinkFastRtEnter_of_other {l : LinkId} {line : LineIn} {c : Fin 4} {s : State} (h : (s.link l).st ≠ .up) :
    execLinkFastRtEnter l line c s = .next (s.takeLine l line).2 := by
  have hst : ((s.takeLine l line).2.link l).st = (s.link l).st :=
    (takeLine_frame s l line).1.field Link.st rfl
  unfold execLinkFastRtEnter
  dsimp only
  rw [if_neg (by rw [hst]; exact fun hn => h hn.1)]

theorem spareFree_enterFull {s : State} {l : Nat} : (s.setLink l (s.link l).enterFull).spareFree l = s.spareFree l := by
  show (s.lat.spareOk.contains (spareKey l) && !s.lat.spareUsed.contains (spareKey l) &&
    ((s.setLink l (s.link l).enterFull).link l).subst.isNone) = s.spareFree l
  rw [State.link_setLink]
  rfl

theorem execLinkFastRtTimeout_of_bad {l : LinkId} {n : Fin 2} {s : State} (h : (s.link l).st = .fastRt) :
    execLinkFastRtTimeout l (some n) s = if s.spareFree l then .next ((s.setLink l (s.link l).enterFull).substitute l n)
      else .next ((s.setLink l (s.link l).enterFull).linkDown l) := by
  unfold execLinkFastRtTimeout
  dsimp only
  rw [if_neg (by simp [h]), spareFree_enterFull]

/-! ### Sleep -/

theorem sendUpdated_frame (s : State) (l : Nat) (f : Link → Link) (w : WireItem) :
    ((s.updLink l f).send l w).link l = (f (s.link l)).afterItem l w ∧ s.otherLinks ((s.updLink l f).send l w) l ∧
    ((s.updLink l f).send l w).lat.wire = s.lat.wire ++ [(l, w)] ∧ s.keeps ((s.updLink l f).send l w) [.lat] := by
  obtain ⟨hlink, hother, hwire, hk⟩ := send_frame (s.updLink l f) l w
  exact ⟨hlink.trans (congrArg (fun k => Link.afterItem k l w) (s.link_updLink l f)), otherLinks_trans otherLinks_updLink hother, hwire,
    keeps_trans updLink_keeps hk⟩

theorem execLinkSleepEnter_of_idle {l : LinkId} {s : State} (hm : s.maySleep l = true) (ht : (s.link l).txSleep = false) :
    execLinkSleepEnter l s = .next ((s.updLink l (fun k => { k with txSleep := true, markDue := false })).send l .slp) :=
  if_pos (by simp [hm, ht])

theorem execLinkWake_of_busy {l : LinkId} {s : State} (hm : s.maySleep l = false) (ht : (s.link l).txSleep = true) :
    execLinkWake l s = .next ((s.updLink l (fun k => { k with txSleep := false })).send l .wak) :=
  if_pos (by simp [hm, ht])

/-- A link that is up has an item of the sleep protocol arrive. -/
theorem sleepItem_frame {l : LinkId} {line : LineIn} {s : State} (h : s.isUp l = true) (f : Link → Link) :
    (s.takeLine l line).2.isUp l = true ∧
    (((s.takeLine l line).2.updLink l f).link l = f ((s.takeLine l line).2.link l)) ∧
    s.otherLinks ((s.takeLine l line).2.updLink l f) l ∧ s.keeps ((s.takeLine l line).2.updLink l f) [.lat] := by
  obtain ⟨hsame, hother, hk⟩ := takeLine_frame s l line
  refine ⟨?_, State.link_updLink _ _ _, otherLinks_trans hother otherLinks_updLink, keeps_trans hk updLink_keeps⟩
  rw [State.isUp, show ((s.takeLine l line).2.link l).st = (s.link l).st from
    hsame.field Link.st rfl]
  exact h

/-! ### The commands -/

theorem tsReceive_of_good (l : LinkId) (line : LineIn) (ts : TrainSet) (rtt : BitVec 16) (s : State) (h : (s.link l).st = .ident)
    (hsp : ts.spare = false) (hsub : ts.sub = false) (hl : ts.loopReq = false) (hfast : ts.fast = false) (hf : s.identFault ts = none)
    (hv : s.bothValid ts = true) :
    Runs (.tsReceive l line ts rtt) s (fun t =>
      let good := if ts.rxLocked then (s.link l).goodTs + 1 else 0
      let ackIn := if ts.ack then (s.link l).ackTs + 1 else 0
      let out := if 8 ≤ good then (s.link l).sentAck else 0
      (t.link l).peer = some ts ∧ s.otherLinks t l ∧ s.keeps t [.lat, .fm] ∧
      ((8 ≤ good ∧ 8 ≤ ackIn ∧ 16 ≤ out) → (t.link l).st = .up ∧ (t.link l).txSeq = 0 ∧ (t.link l).credXch = 4096 ∧
        s.reported t 0x0200 0 l none (ts.mod0.val + 256 * ts.link0)) ∧
      (¬ (8 ≤ good ∧ 8 ≤ ackIn ∧ 16 ≤ out) → (t.link l).st = .ident ∧ (t.link l).goodTs = good ∧ (t.link l).ackTs = ackIn ∧
        (t.link l).sentAck = out ∧ t.fm = s.fm)) := by
  obtain ⟨r, hr, hexec⟩ := execTsReceive_ident (line := line) (rtt := rtt) h hsp hsub hl
  have hst : r.st = .ident := (hr.field Link.st rfl).trans h
  have hgood : r.goodTs = (s.link l).goodTs := hr.field Link.goodTs rfl
  have hack : r.ackTs = (s.link l).ackTs := hr.field Link.ackTs rfl
  have hsent : r.sentAck = (s.link l).sentAck := hr.field Link.sentAck rfl
  rw [identTs_of_good hst hfast hf hv, hgood, hack, hsent] at hexec
  refine Runs.of hexec ?_
  dsimp only
  generalize (if ts.rxLocked then (s.link l).goodTs + 1 else 0) = good
  generalize (if ts.ack then (s.link l).ackTs + 1 else 0) = ackIn
  generalize (if 8 ≤ good then (s.link l).sentAck else 0) = out
  generalize hk : ({ r with peer := some ts, rtt := rtt.toNat, goodTs := good, ackTs := ackIn, peerRec := false, sentAck := out } : Link) = k
  have hkst : k.st = .ident := by rw [← hk]; exact hst
  have hkeep : s.keeps ((s.setLink l r).setLink l k) [.lat] := keeps_trans setLink_lat_keeps setLink_lat_keeps
  have hother : s.otherLinks ((s.setLink l r).setLink l k) l := otherLinks_trans otherLinks_setLink otherLinks_setLink
  have hlink : ((s.setLink l r).setLink l k).link l = k := State.link_setLink _ _ _
  have hfm : ((s.setLink l r).setLink l k).fm = s.fm := rfl
  have hrep : ∀ t d, ((s.setLink l r).setLink l k).reported t 0x0200 0 l none d → s.reported t 0x0200 0 l none d := fun _ _ h => h
  generalize (s.setLink l r).setLink l k = u at hkeep hother hlink hfm hrep
  have hcounts : (u.link l).mayUp ↔ 8 ≤ good ∧ 8 ≤ ackIn ∧ 16 ≤ out := by rw [hlink, ← hk]; exact Iff.rfl
  by_cases hup : 8 ≤ good ∧ 8 ≤ ackIn ∧ 16 ≤ out
  · rw [tryUp_of_counts (hcounts.2 hup)]
    obtain ⟨hl', hr', ho', -, hk'⟩ := linkUpNow_of_ident (s := u) (l := l) (by rw [hlink, hkst])
    have hpeer : k.peer = some ts := by rw [← hk]
    have hfar : k.farCode = ts.mod0.val + 256 * ts.link0 := by rw [Link.farCode, hpeer]
    rw [hlink, hfar] at hr'
    rw [hl', hlink]
    exact ⟨hpeer, otherLinks_trans hother ho', keeps_trans (keeps_mono hkeep (by decide)) hk',
      fun _ => ⟨rfl, rfl, rfl, hrep _ _ hr'⟩, fun hn => absurd hup hn⟩
  · rw [tryUp_of_not (fun hn => hup (hcounts.1 hn)), hlink]
    refine ⟨by rw [← hk], hother, keeps_mono hkeep (by decide), fun hn => absurd hn hup, fun _ => ⟨hkst, ?_, ?_, ?_, hfm⟩⟩
    · rw [← hk]
    · rw [← hk]
    · rw [← hk]

theorem frameTransmit_of_training (l : LinkId) (cd sd : Bool) (dl : BitVec 10) (s : State) (h : s.sendsTs l = true)
    (hd : (s.link l).st ≠ .down) :
    Runs (.frameTransmit l cd sd dl) s (fun t => t.lat.wire = s.lat.wire ++ [(l.val, .ts (s.ownTs l))] ∧
      ((s.link l).goodTs < 8 → t.link l = (s.link l).afterItem l (.ts (s.ownTs l))) ∧
      (8 ≤ (s.link l).goodTs → ¬ (8 ≤ (s.link l).ackTs ∧ 16 ≤ (s.link l).sentAck + 1) →
        (t.link l).st = (s.link l).st ∧ (t.link l).sentAck = (s.link l).sentAck + 1) ∧
      (8 ≤ (s.link l).goodTs → 8 ≤ (s.link l).ackTs → 16 ≤ (s.link l).sentAck + 1 → (s.link l).st = .ident →
        (t.link l).st = .up ∧ (t.link l).txSeq = 0) ∧
      ((s.link l).st = .ident → s.otherLinks t l ∧ s.keeps t [.lat, .fm])) := by
  refine Runs.of (execFrameTransmit_training h hd) ?_
  by_cases hg : 8 ≤ (s.link l).goodTs
  · rw [sendTs_of_ack hg]
    obtain ⟨hlink, hother, hwire, hk⟩ := ackSent_frame s l
    generalize s.ackSent l = u at hlink hother hwire hk
    have hcounts : (u.link l).mayUp ↔ 8 ≤ (s.link l).ackTs ∧ 16 ≤ (s.link l).sentAck + 1 := by
      rw [hlink]
      exact ⟨fun hn => hn.2, fun hn => ⟨hg, hn⟩⟩
    have hst : (u.link l).st = (s.link l).st := by rw [hlink]; rfl
    by_cases hup : 8 ≤ (s.link l).ackTs ∧ 16 ≤ (s.link l).sentAck + 1
    · rw [tryUp_of_counts (hcounts.2 hup)]
      refine ⟨(linkUpNow_wire u l).trans hwire, fun hn => absurd hg (by omega), fun _ hn => absurd hup hn, fun _ _ _ hi => ?_, fun hi => ?_⟩
      · rw [(linkUpNow_of_ident (hst.trans hi)).1]
        exact ⟨rfl, rfl⟩
      · obtain ⟨-, -, ho', -, hk'⟩ := linkUpNow_of_ident (hst.trans hi)
        exact ⟨otherLinks_trans hother ho', keeps_trans (keeps_mono hk (by decide)) hk'⟩
    · rw [tryUp_of_not fun hn => hup (hcounts.1 hn)]
      exact ⟨hwire, fun hn => absurd hg (by omega), fun _ _ => ⟨hst, by rw [hlink]⟩, fun _ ha hs _ => absurd ⟨ha, hs⟩ hup,
        fun _ => ⟨hother, keeps_mono hk (by decide)⟩⟩
  · rw [sendTs_of_plain (Nat.lt_of_not_le hg)]
    obtain ⟨hlink, hother, hwire, hk⟩ := send_frame s l (.ts (s.ownTs l))
    exact ⟨hwire, fun _ => hlink, fun hn => absurd hn hg, fun hn => absurd hn hg, fun _ => ⟨hother, keeps_mono hk (by decide)⟩⟩

/-- Settles O33: each state's command by its branch; a link that comes up or goes down by its own lemma. -/
theorem linkStates : Obligations.LinkStates := by
  refine ⟨⟨fun l s h => ?_, fun l s h => ?_, fun l n s h hf => ?_, fun l n s h hf hd => Runs.of (execLinkDetectTimeout_down h hf hd) rfl,
    fun l swap pol s h => ?_, fun l s h => ?_, fun l s h => ?_, fun l s h hm => ?_, tsReceive_of_good,
    fun l line ts rtt c k d s h hsp hsub hl hf hp => ?_, fun l line ts rtt s h hsp hsub hl hf => ?_, fun l line ts rtt s hsp => ?_,
    frameTransmit_of_training⟩, fun l line c s h hc => ?_, fun l line c s h => ?_, fun l s h => ?_, fun l n s h hf => ?_,
    fun l n s h hf => ?_, fun l s h => Runs.of (if_pos h) rfl, fun l s h => ?_, fun l s hc h => ?_, fun k => ?_, fun l s h hr => ?_,
    fun l s hm ht => ?_, fun l s hm ht => ?_, fun l line s h => ?_⟩
  · exact Runs.of (if_pos h) ⟨s.link_setLink l _, otherLinks_setLink, setLink_lat_keeps⟩
  · have hlink : (s.setLink l { (s.link l).enterDetect with noPeerRec := true }).link l = { (s.link l).enterDetect with noPeerRec := true } :=
      s.link_setLink l _
    have hother : s.otherLinks (s.setLink l { (s.link l).enterDetect with noPeerRec := true }) l := otherLinks_setLink
    have hk : s.keeps (s.setLink l { (s.link l).enterDetect with noPeerRec := true }) [.lat, .fm] := keeps_mono setLink_lat_keeps (by decide)
    have hexec := execLinkDetectTimeout_silent h
    cases hn : (s.link l).noPeerRec with
    | true =>
      rw [hn, if_pos rfl] at hexec
      exact Runs.of hexec ⟨hlink, hother, fun he => absurd he (by simp), fun _ => rfl, hk⟩
    | false =>
      rw [hn, if_neg Bool.false_ne_true] at hexec
      exact Runs.of hexec ⟨hlink, otherLinks_trans hother (otherLinks_of_keeps linkReport_keeps (by decide)), fun _ => rfl,
        fun he => absurd he (by simp), keeps_trans hk (keeps_mono linkReport_keeps (by decide))⟩
  · refine Runs.of (execLinkDetectTimeout_spare h hf) ?_
    obtain ⟨hlink, hused, hother, hrep, hk⟩ := substitute_frame s l n
    generalize s.substitute l n = u at hlink hused hother hrep hk
    rw [State.link_updLink, hlink]
    exact ⟨by simp [Link.enterDetect, Link.setPhase, apply_ite Link.subst], enterDetect_phase _, hused,
      otherLinks_trans hother otherLinks_updLink, hrep, keeps_trans hk (keeps_mono updLink_keeps (by decide))⟩
  · exact Runs.of (if_pos h) ⟨s.link_setLink l _, otherLinks_setLink, setLink_lat_keeps⟩
  · exact Runs.of (if_pos h) ⟨s.link_setLink l _, otherLinks_setLink, setLink_lat_keeps⟩
  · refine Runs.of (if_pos h) ?_
    rw [State.link_setLink]
    exact ⟨h, rfl, rfl, otherLinks_setLink, setLink_lat_keeps⟩
  · refine Runs.of (if_pos ⟨h, hm⟩) ?_
    rw [State.link_setLink]
    exact ⟨by simp [Link.enterDetect, Link.setPhase, h], enterDetect_phase _, by simp [Link.enterDetect, Link.setPhase, h],
      otherLinks_setLink, setLink_lat_keeps⟩
  · obtain ⟨r, hr, hexec⟩ := execTsReceive_ident (line := line) (rtt := rtt) h hsp hsub hl
    have hst : r.st = .ident := (hr.field Link.st rfl).trans h
    rw [identTs_of_fault hf ((hr.field Link.peerRec rfl).trans hp)] at hexec
    refine Runs.of hexec ?_
    rw [link_of_keeps linkReport_keeps (by decide), State.link_setLink]
    exact ⟨hst, rfl, rfl, otherLinks_trans (otherLinks_trans otherLinks_setLink otherLinks_setLink)
      (otherLinks_of_keeps linkReport_keeps (by decide)), rfl,
      keeps_trans (keeps_mono (keeps_trans setLink_lat_keeps setLink_lat_keeps) (by decide)) (keeps_mono linkReport_keeps (by decide))⟩
  · obtain ⟨r, hr, hexec⟩ := execTsReceive_fast (line := line) (rtt := rtt) h hsp hsub hl hf
    obtain ⟨hlink, hother, -, hk⟩ := changeLink_frame (s.setLink l r) l r.enterFast
    refine Runs.of hexec ?_
    rw [hlink]
    exact ⟨rfl, hr.field Link.retry rfl, hr.field (fun k => satInc k.fast 0xFF) rfl,
      otherLinks_trans otherLinks_setLink hother, keeps_trans setLink_lat_keeps hk⟩
  · exact Runs.of (if_pos hsp) (spareTs_frame s l ts)
  · obtain ⟨r, hr, hexec⟩ := execLinkFastRtEnter_of_cause h hc
    obtain ⟨hlink, hother, -, hk⟩ := changeLink_frame (s.setLink l r) l { r.enterFast with rtCause := c }
    refine Runs.of hexec ?_
    rw [hlink]
    exact ⟨rfl, hr.field Link.retry rfl, hr.field Link.txSeq rfl,
      hr.field Link.credXch rfl, rfl, otherLinks_trans otherLinks_setLink hother, keeps_trans setLink_lat_keeps hk⟩
  · exact Runs.of (execLinkFastRtEnter_of_other h) ⟨rfl, (takeLine_frame s l line).2⟩
  · exact Runs.of (if_neg (by simp [h])) ⟨s.link_setLink l _, otherLinks_setLink, setLink_lat_keeps⟩
  · refine Runs.of ((execLinkFastRtTimeout_of_bad h).trans (if_pos hf)) ?_
    obtain ⟨hlink, -, -, hrep, hk⟩ := substitute_frame (s.setLink l (s.link l).enterFull) l n
    rw [hlink, State.link_setLink]
    exact ⟨rfl, rfl, hrep, keeps_trans (keeps_mono setLink_lat_keeps (by decide)) hk⟩
  · exact Runs.of ((execLinkFastRtTimeout_of_bad h).trans (if_neg (by simp [hf]))) rfl
  · exact ⟨(linkDown_frame s l).1, (linkDown_frame s l).2.1, linkDown_keeps h⟩
  · obtain ⟨hlink, hother, -, hk⟩ := changeLink_frame s l (s.link l).enterFull
    exact Runs.of (if_pos ⟨hc, h⟩) ⟨hlink, hother, hk⟩
  · refine ⟨rfl, fun f hf => ?_, fun f hf ht => List.mem_filter.2 ⟨hf, ht⟩, rfl, rfl, rfl, rfl, rfl, rfl⟩
    exact (List.mem_filter.1 hf).symm
  · exact Runs.of (if_pos ⟨Or.inl h, hr⟩) ⟨s.link_setLink l _, otherLinks_setLink, setLink_lat_keeps⟩
  · obtain ⟨hlink, hother, hwire, hk⟩ := sendUpdated_frame s l (fun k => { k with txSleep := true, markDue := false }) .slp
    exact Runs.of (execLinkSleepEnter_of_idle hm ht) ⟨by rw [hlink]; rfl, hwire, hother, hk⟩
  · obtain ⟨hlink, hother, hwire, hk⟩ := sendUpdated_frame s l (fun k => { k with txSleep := false }) .wak
    exact Runs.of (execLinkWake_of_busy hm ht) ⟨by rw [hlink]; rfl, hwire, hother, hk⟩
  · obtain ⟨hup, hslp⟩ := sleepItem_frame (line := line) h (fun k => { k with rxSleep := true })
    obtain ⟨-, hwak⟩ := sleepItem_frame (line := line) h (fun k => { k with rxSleep := false })
    exact ⟨Runs.of (if_pos hup) hslp, Runs.of (if_pos hup) hwak⟩

end Sys2Proof.Machine
end

section
/-!
PROOF. Frames that arrive and what goes out at a gap (R281 to R289, R309).
-/
namespace Sys2Proof.Machine

/-! ### Frames in -/

/-- The link after a frame in sequence. -/
def Link.tookFrame (k : Link) : Link := { k with rxSeq := k.rxSeq + 1, gotAny := true, nakSent := false, arrived := k.arrived + 1 }

section
variable {s : State} {l : Nat} {r : Link} {q : BitVec 12}

theorem takeFrame_of_damaged (h : r.st = .up) : (s.setLink l r).takeFrame l q true = (false, (s.setLink l r).setLink l (r.discard true)) := by
  unfold State.takeFrame
  dsimp only
  rw [State.link_setLink, if_neg (by simp [h]), if_pos rfl]

theorem takeFrame_of_gap (h : r.st = .up) (hq : q ≠ r.rxSeq) :
    (s.setLink l r).takeFrame l q false = (false, (s.setLink l r).setLink l (r.discard false)) := by
  unfold State.takeFrame
  dsimp only
  rw [State.link_setLink, if_neg (by simp [h]), if_neg Bool.false_ne_true, if_pos hq]

theorem takeFrame_of_next (h : r.st = .up) (hq : q = r.rxSeq) :
    (s.setLink l r).takeFrame l q false = (true, (s.setLink l r).setLink l r.tookFrame) := by
  unfold State.takeFrame
  dsimp only
  rw [State.link_setLink, if_neg (by simp [h]), if_neg Bool.false_ne_true, if_neg (by simp [hq])]
  rfl

end

/-- What an up link's line has brought, and the link after it. -/
theorem takeLine_of_up {s : State} {l : Nat} {x : LineIn} (h : (s.link l).st = .up) :
    ∃ r, (s.link l).sameButLine r ∧ r.st = .up ∧ (s.takeLine l x).2 = s.setLink l r := by
  obtain ⟨r, hr, he⟩ := takeLine_of_decoding (s := s) (l := l) (x := x) (by simp [h])
  exact ⟨r, hr, (hr.field Link.st rfl).trans h, he⟩

/-- A link written twice. -/
theorem twice_frame (s : State) (l : Nat) (r k : Link) : ((s.setLink l r).setLink l k).link l = k ∧
    s.otherLinks ((s.setLink l r).setLink l k) l ∧ s.keeps ((s.setLink l r).setLink l k) [.lat] :=
  ⟨State.link_setLink _ _ _, otherLinks_trans otherLinks_setLink otherLinks_setLink, keeps_trans setLink_lat_keeps setLink_lat_keeps⟩

/-- A frame that the line has damaged, or that says so. -/
theorem damaged_of_line {d b : Bool} (h : d = true ∨ b = true) : (d || b) = true := by
  obtain rfl | rfl := h <;> simp

theorem frames_of_damaged (l : LinkId) (line : LineIn) (q : BitVec 12) (d : Bool) (ten : TenId) (e : BitVec 16) (dm om : ModId)
    (sl : List SlotEnt) (p : Pkt) (dst org : ModId) (m : LinkId) (iq : BitVec 12) (b : Body) (c : Ctl) (s : State) (h : (s.link l).st = .up)
    (hd : d = true ∨ (s.takeLine l line).1 = true) :
    ∃ t, execFrameReceiveXch l line q d ten e dm om sl s = .next t ∧ execFrameReceivePkt l line q d p s = .next t ∧
      execFrameReceiveDtr l line q d dst org m iq b s = .next t ∧ execFrameReceiveCtl l line d c s = .next t ∧
      t.link l = ((s.takeLine l line).2.link l).discard true ∧ s.otherLinks t l ∧ s.keeps t [.lat] := by
  obtain ⟨r, hr, hst, he⟩ := takeLine_of_up (x := line) h
  have hdam := damaged_of_line hd
  refine ⟨(s.setLink l r).setLink l (r.discard true), ?_, ?_, ?_, ?_, ?_⟩
  · unfold execFrameReceiveXch
    dsimp only
    rw [hdam, he, Bool.true_or, Bool.true_or, takeFrame_of_damaged hst]
    rfl
  · unfold execFrameReceivePkt
    dsimp only
    rw [hdam, he, Bool.true_or, takeFrame_of_damaged hst]
    rfl
  · unfold execFrameReceiveDtr
    dsimp only
    rw [hdam, he, takeFrame_of_damaged hst]
    rfl
  · unfold execFrameReceiveCtl
    dsimp only
    rw [hdam, he, State.link_setLink, if_neg (by simp [hst]), if_pos rfl]
  · rw [show ((s.takeLine l line).2.link l) = r from he ▸ State.link_setLink ..]
    exact twice_frame s l r _

theorem execFrameReceivePkt_of_gap {l : LinkId} {line : LineIn} {q : BitVec 12} {p : Pkt} {s : State} (h : (s.link l).st = .up)
    (hq : q ≠ (s.link l).rxSeq) (hp : bodyBytes (.pkt p) ≤ 256) (hl : (s.takeLine l line).1 = false) :
    ∃ t, execFrameReceivePkt l line q false p s = .next t ∧
      t.link l = ((s.takeLine l line).2.link l).discard false ∧ s.otherLinks t l ∧ s.keeps t [.lat] := by
  obtain ⟨r, hr, hst, he⟩ := takeLine_of_up (x := line) h
  refine ⟨(s.setLink l r).setLink l (r.discard false), ?_, ?_⟩
  · have hseq : q ≠ r.rxSeq := by rwa [hr.field Link.rxSeq rfl]
    unfold execFrameReceivePkt
    dsimp only
    rw [hl, he, decide_eq_false (by omega), Bool.or_false, Bool.or_false, takeFrame_of_gap hst hseq]
    rfl
  · rw [show ((s.takeLine l line).2.link l) = r from he ▸ State.link_setLink ..]
    exact twice_frame s l r _

/-- A sequenced frame that is taken: the receiver's counts, and what its line left. -/
theorem taken_frame {s : State} {l : Nat} {line : LineIn} (h : (s.link l).st = .up) :
    ∃ r, (s.link l).sameButLine r ∧ (s.takeLine l line).2.takeFrame l (s.link l).rxSeq false =
      (true, (s.setLink l r).setLink l r.tookFrame) := by
  obtain ⟨r, hr, hst, he⟩ := takeLine_of_up (x := line) h
  rw [he]
  exact ⟨r, hr, takeFrame_of_next hst (hr.field Link.rxSeq rfl).symm⟩

/-- The link after a frame was taken and then changed once more. -/
theorem tookAnd_frame (s : State) (l : Nat) (r : Link) (f : Link → Link) :
    (((s.setLink l r).setLink l r.tookFrame).updLink l f).link l = f r.tookFrame ∧
    s.otherLinks (((s.setLink l r).setLink l r.tookFrame).updLink l f) l ∧
    s.keeps (((s.setLink l r).setLink l r.tookFrame).updLink l f) [.lat] := by
  obtain ⟨hlink, hother, hk⟩ := twice_frame s l r r.tookFrame
  refine ⟨?_, otherLinks_trans hother otherLinks_updLink, keeps_trans hk updLink_keeps⟩
  rw [State.link_updLink, hlink]

theorem frameReceiveXch_of_whole (l : LinkId) (line : LineIn) (ten : TenId) (e : BitVec 16) (dm om : ModId) (sl : List SlotEnt) (s : State)
    (h : (s.link l).st = .up) (hl : (s.takeLine l line).1 = false) (hne : sl ≠ []) (hlen : sl.length ≤ 16) :
    Runs (.frameReceiveXch l line (s.link l).rxSeq false ten e dm om sl) s (fun t => (t.link l).rxSeq = (s.link l).rxSeq + 1 ∧
      (t.link l).rxBuf = (s.link l).rxBuf ++ s.slotsOf ten e.toNat dm sl ∧ (t.link l).arrived = (s.link l).arrived + 1 ∧
      s.otherLinks t l ∧ s.keeps t [.lat]) := by
  obtain ⟨r, hr, htake⟩ := taken_frame (line := line) h
  obtain ⟨hlink, hother, hk⟩ := tookAnd_frame s l r (fun k => { k with rxBuf := k.rxBuf ++ s.slotsOf ten e.toNat dm sl })
  refine Runs.of (t := ((s.setLink l r).setLink l r.tookFrame).updLink l (fun k => { k with rxBuf := k.rxBuf ++ s.slotsOf ten e.toNat dm sl }))
    ?_ ⟨?_, ?_, ?_, hother, hk⟩
  · rw [exec_frameReceiveXch]
    unfold execFrameReceiveXch
    dsimp only
    rw [hl, List.isEmpty_eq_false_iff.2 hne, decide_eq_false (by omega), Bool.or_false, Bool.or_false, Bool.or_false, htake]
    rfl
  · rw [hlink]
    exact congrArg (· + 1) (hr.field Link.rxSeq rfl)
  · rw [hlink]
    exact congrArg (· ++ s.slotsOf ten e.toNat dm sl) (hr.field Link.rxBuf rfl)
  · rw [hlink]
    exact congrArg (· + 1) (hr.field Link.arrived rfl)

theorem frameReceivePkt_of_whole (l : LinkId) (line : LineIn) (p : Pkt) (s : State) (h : (s.link l).st = .up)
    (hl : (s.takeLine l line).1 = false) (hp : bodyBytes (.pkt p) ≤ 256) :
    Runs (.frameReceivePkt l line (s.link l).rxSeq false p) s (fun t => (t.link l).rxSeq = (s.link l).rxSeq + 1 ∧
      (t.link l).retPkt = (s.link l).retPkt + bodyUnits (.pkt p) ∧ t.noc.pkts = s.noc.pkts ++ [p] ∧ s.otherLinks t l ∧
      s.keeps t [.lat, .noc]) := by
  obtain ⟨r, hr, htake⟩ := taken_frame (line := line) h
  obtain ⟨hlink, hother, hk⟩ := tookAnd_frame s l r (fun k => { k with retPkt := k.retPkt + bodyUnits (.pkt p) })
  have hexec : execFrameReceivePkt l line (s.link l).rxSeq false p s =
      .next (((s.setLink l r).setLink l r.tookFrame).takePkt l p) := by
    unfold execFrameReceivePkt
    dsimp only
    rw [hl, decide_eq_false (by omega), Bool.or_false, Bool.or_false, htake]
    rfl
  refine Runs.of hexec ?_
  unfold State.takePkt
  dsimp only
  have hnoc : (((s.setLink l r).setLink l r.tookFrame).updLink l (fun k => { k with retPkt := k.retPkt + bodyUnits (.pkt p) })).noc = s.noc := rfl
  generalize ((s.setLink l r).setLink l r.tookFrame).updLink l (fun k => { k with retPkt := k.retPkt + bodyUnits (.pkt p) }) = u at hlink hother hk hnoc
  have hnlat : u.keeps { u with noc := { u.noc with pkts := u.noc.pkts ++ [p] } } [.noc] := by simp [State.keeps_iff]
  rw [link_of_keeps hnlat (by decide), hlink]
  refine ⟨congrArg (· + 1) (hr.field Link.rxSeq rfl), congrArg (· + _) (hr.field Link.retPkt rfl), by rw [hnoc],
    otherLinks_trans hother (otherLinks_of_keeps hnlat (by decide)), keeps_trans (keeps_mono hk (by decide)) (keeps_mono hnlat (by decide))⟩

theorem execFrameReceiveCtl_of_whole {l : LinkId} {line : LineIn} {c : Ctl} {s : State} (h : (s.link l).st = .up)
    (hl : (s.takeLine l line).1 = false) : execFrameReceiveCtl l line false c s =
      .next ((s.takeLine l line).2.setLink l (((s.takeLine l line).2.link l).applyCtl c)) := by
  obtain ⟨r, -, hst, he⟩ := takeLine_of_up (x := line) h
  unfold execFrameReceiveCtl
  dsimp only
  rw [hl, he, State.link_setLink, if_neg (by simp [hst]), Bool.or_false, if_neg Bool.false_ne_true]

/-- What a CTL body does to credit and to the retry buffer. -/
theorem applyCtl_frame (k : Link) (c : Ctl) : (k.applyCtl c).credXch = min 4096 (k.credXch + c.xch) ∧
    (k.applyCtl c).credTok = min 64 (k.credTok + c.tok) ∧ (k.applyCtl c).credPkt = min 512 (k.credPkt + c.pkt) ∧
    (k.applyCtl c).credDtr = min 256 (k.credDtr + c.dtr) ∧ (∀ f ∈ (k.applyCtl c).retry, f ∈ k.retry) ∧
    (c.ack = none → (k.applyCtl c).retry = k.retry) := by
  refine ⟨rfl, rfl, rfl, rfl, fun f hf => List.mem_of_mem_drop hf, fun h => ?_⟩
  unfold Link.applyCtl
  rw [h]
  rfl

/-! ### Detours -/

/-- A detoured frame that is taken: its units return to the far end. -/
def State.tookDetour (s : State) (l : Nat) (r : Link) (b : Body) : State :=
  ((s.setLink l r).setLink l r.tookFrame).updLink l (fun k => { k with retDtr := k.retDtr + bodyUnits b })

theorem execFrameReceiveDtr_of_whole {l m : LinkId} {line : LineIn} {q : BitVec 12} {dst org : ModId} {b : Body} {s : State}
    (h : (s.link l).st = .up) (hl : (s.takeLine l line).1 = false) : ∃ r, (s.link l).sameButLine r ∧
      execFrameReceiveDtr l line (s.link l).rxSeq false dst org m q b s =
        if dst.val = s.moduleId then .next ((s.tookDetour l r (.dtr dst org m q.toNat b)).takeInner m q b)
        else match (s.tookDetour l r (.dtr dst org m q.toNat b)).linkToModule dst with
          | some n => .next { s.tookDetour l r (.dtr dst org m q.toNat b) with
              lat := { (s.tookDetour l r (.dtr dst org m q.toNat b)).lat with
                dtrOut := (s.tookDetour l r (.dtr dst org m q.toNat b)).lat.dtrOut ++ [(n, .dtr dst org m q.toNat b)] } }
          | none => .next (s.tookDetour l r (.dtr dst org m q.toNat b)) := by
  obtain ⟨r, hr, htake⟩ := taken_frame (line := line) h
  refine ⟨r, hr, ?_⟩
  unfold execFrameReceiveDtr
  dsimp only
  rw [hl, Bool.or_false, htake]
  rfl

/-- A link's far end and state decide which link leads to a module. -/
theorem linkToModule_congr {s t : State} (h : ∀ m, (t.link m).st = (s.link m).st ∧ (t.link m).peer = (s.link m).peer) (n : Nat) :
    t.linkToModule n = s.linkToModule n := by
  have hup : t.isUp = s.isUp := funext fun m => by rw [State.isUp, (h m).1, State.isUp]
  have hfar : ∀ m, (t.link m).farId = (s.link m).farId := fun m => by rw [Link.farId, (h m).2, Link.farId]
  rw [State.linkToModule, State.linkToModule, State.upLinks, hup, State.upLinks]
  simp only [hfar]

theorem tookDetour_frame (s : State) (l : Nat) (r : Link) (b : Body) (hr : (s.link l).sameButLine r) :
    ((s.tookDetour l r b).link l).rxSeq = (s.link l).rxSeq + 1 ∧
    ((s.tookDetour l r b).link l).retDtr = (s.link l).retDtr + bodyUnits b ∧ (s.tookDetour l r b).lat.dtrOut = s.lat.dtrOut ∧
    (∀ n, (s.tookDetour l r b).linkToModule n = s.linkToModule n) ∧ s.otherLinks (s.tookDetour l r b) l ∧
    s.keeps (s.tookDetour l r b) [.lat] := by
  obtain ⟨hlink, hother, hk⟩ := tookAnd_frame s l r (fun k => { k with retDtr := k.retDtr + bodyUnits b })
  have hdtr : (s.tookDetour l r b).lat.dtrOut = s.lat.dtrOut := rfl
  have he : s.tookDetour l r b = ((s.setLink l r).setLink l r.tookFrame).updLink l (fun k => { k with retDtr := k.retDtr + bodyUnits b }) := rfl
  rw [← he] at hlink hother hk
  generalize s.tookDetour l r b = u at hlink hother hk hdtr
  refine ⟨?_, ?_, hdtr, linkToModule_congr fun m => ?_, hother, hk⟩
  · rw [hlink]
    exact congrArg (· + 1) (hr.field Link.rxSeq rfl)
  · rw [hlink]
    exact congrArg (· + _) (hr.field Link.retDtr rfl)
  · by_cases hm : m = l
    · rw [hm, hlink]
      exact ⟨hr.field Link.st rfl, hr.field Link.peer rfl⟩
    · rw [hother m hm]
      exact ⟨rfl, rfl⟩

/-! ### What goes out at a gap -/

theorem sendsTs_of_up {s : State} {l : Nat} (h : (s.link l).st = .up) : s.sendsTs l = false := by
  have hp : (s.link l).phase = .up := (phase_of_ne_down (by simp [h])).trans h
  unfold State.sendsTs
  dsimp only
  rw [hp, h]
  rfl

theorem execFrameTransmit_of_up {l : LinkId} {cd sd : Bool} {dl : BitVec 10} {s : State} (h : (s.link l).st = .up)
    (ht : (s.link l).txSleep = false) : execFrameTransmit l cd sd dl s =
      if (s.link l).markDue then .next (s.sendMark l dl.toNat) else .next (s.sendDue l cd sd) := by
  rw [execFrameTransmit_of_ne_down (by simp [h]), sendsTs_of_up h, if_neg Bool.false_ne_true, if_neg (by simp [h, ht])]

theorem execFrameTransmit_due {l : LinkId} {cd sd : Bool} {dl : BitVec 10} {s : State} (h : (s.link l).st = .up)
    (ht : (s.link l).txSleep = false) (hm : (s.link l).markDue = false) :
    execFrameTransmit l cd sd dl s = .next (s.sendDue l cd sd) := by
  rw [execFrameTransmit_of_up h ht, hm, if_neg Bool.false_ne_true]

theorem sendDue_skp {s : State} {l : Nat} {cd : Bool} : s.sendDue l cd true = s.send l .skp := by
  unfold State.sendDue
  exact if_pos rfl

theorem sendDue_ctl {s : State} {l : Nat} : s.sendDue l true false =
    (s.setLink l (s.link l).ctlSent).send l (.frame 0 (.ctl (s.link l).ctlBody)) := by
  unfold State.sendDue
  dsimp only
  rw [if_neg Bool.false_ne_true, Bool.or_true, Bool.true_or, if_pos rfl]

theorem sendDue_resend {s : State} {l i : Nat} {f : SentFrame} (hn : (s.link l).nakDue = false) (ha : (s.link l).arrived < 16)
    (hr : (s.link l).resendAt = some i) (hf : (s.link l).retry[i]? = some f) :
    s.sendDue l false false = (s.setLink l ((s.link l).resent i f)).send l (.frame f.seq f.body) := by
  unfold State.sendDue
  dsimp only
  rw [if_neg Bool.false_ne_true, hn, decide_eq_false (by omega), Bool.or_false, Bool.or_false, if_neg Bool.false_ne_true, hr]
  dsimp only
  rw [hf]

theorem sendDue_new {s : State} {l : Nat} (hn : (s.link l).nakDue = false) (ha : (s.link l).arrived < 16)
    (hr : (s.link l).resendAt = none) : s.sendDue l false false = s.sendNew l := by
  unfold State.sendDue
  dsimp only
  rw [if_neg Bool.false_ne_true, hn, decide_eq_false (by omega), Bool.or_false, Bool.or_false, if_neg Bool.false_ne_true, hr]

theorem sendNew_none {s : State} {l : Nat} (h : s.nextBody l = none) : s.sendNew l = s.send l .idl := by
  unfold State.sendNew
  dsimp only
  rw [h]

/-- A body leaves its queue, and the links and the line are as they were. -/
theorem dequeue_frame (s : State) (l : Nat) (b : Body) : (s.dequeue l b).lat.links = s.lat.links ∧
    (s.dequeue l b).lat.wire = s.lat.wire ∧ s.keeps (s.dequeue l b) [.lat] := by
  unfold State.dequeue
  cases b with
  | xch ten ecyc dmod omod sl =>
    dsimp only
    split
    · exact ⟨rfl, rfl, by simp [State.keeps_iff]⟩
    · exact ⟨rfl, rfl, keeps_refl⟩
  | ctl c => exact ⟨rfl, rfl, keeps_refl⟩
  | tok k => exact ⟨rfl, rfl, by simp [State.keeps_iff]⟩
  | pkt p => exact ⟨rfl, rfl, by simp [State.keeps_iff]⟩
  | dtr dst org link iseq inner => exact ⟨rfl, rfl, by simp [State.keeps_iff]⟩

/-- Every class of frame counts its SEQ and is kept for a resend. -/
theorem sent_frame (k : Link) (b : Body) (dw pw : Bool) : (k.sent b dw pw).txSeq = k.txSeq + 1 ∧
    (k.sent b dw pw).retry = k.retry ++ [{ seq := k.txSeq, body := b, sent := 1 }] := by
  cases b <;> exact ⟨rfl, rfl⟩

theorem sendNew_some {s : State} {l : Nat} {b : Body} (h : s.nextBody l = some b) (hlen : (s.link l).retry.length < 2048)
    (hbytes : (s.link l).retryBytes + (bodyBytes b + 8) ≤ 16384) : ∃ dw pw, s.sendNew l =
      ((s.dequeue l b).setLink l ((s.link l).sent b dw pw)).send l (.frame (s.link l).txSeq b) := by
  have hroom : (s.link l).retryFull b = false := decide_eq_false (by unfold wholeBytes; omega)
  refine ⟨(firstFor l (s.dequeue l b).lat.dtrOut).isSome, (firstFor l (s.dequeue l b).lat.pktOut).isSome, ?_⟩
  unfold State.sendNew
  dsimp only
  rw [h]
  dsimp only
  rw [hroom, if_neg Bool.false_ne_true]

/-- A link is written and then an item sent on it. -/
theorem setSend_frame (s : State) (l : Nat) (k : Link) (w : WireItem) : ((s.setLink l k).send l w).link l = k.afterItem l w ∧
    s.otherLinks ((s.setLink l k).send l w) l ∧ ((s.setLink l k).send l w).lat.wire = s.lat.wire ++ [(l, w)] ∧
    s.keeps ((s.setLink l k).send l w) [.lat] := by
  obtain ⟨hlink, hother, hwire, hk⟩ := send_frame (s.setLink l k) l w
  rw [State.link_setLink] at hlink
  exact ⟨hlink, otherLinks_trans otherLinks_setLink hother, hwire, keeps_trans setLink_lat_keeps hk⟩

/-! ### A slot that goes on -/

theorem execSlotForward_of_first {l : LinkId} {i : Nat} {p : Slot} {s : State} (hp : (s.link l).rxBuf[i]? = some p)
    (ht : s.tileOf p.ten p.dst = none)
    (hb : ((s.link l).rxBuf.take i).any (fun q => decide (q.ten = p.ten ∧ q.dst = p.dst ∧ q.word = p.word)) = false) :
    ∃ u, u = s.setLink l { s.link l with rxBuf := (s.link l).rxBuf.eraseIdx i, retXch := (s.link l).retXch + 1 } ∧
      execSlotForward l i s = .next { u with noc := { u.noc with slots := u.noc.slots ++ [{ p with src := 0xC8 + l / 36 }] } } := by
  refine ⟨_, rfl, ?_⟩
  unfold execSlotForward
  dsimp only
  rw [hp]
  dsimp only
  rw [hb, ht, Bool.or_false, if_neg Bool.false_ne_true]

/-- Settles O34: a frame by whether it is taken, a gap by the first item that is due. -/
theorem linkFrames : Obligations.LinkFrames := by
  refine ⟨frameReceiveXch_of_whole, fun l line q d ten e dm om sl p dst org m iq b c s h => ⟨fun hd => ?_, fun hq hp hl => ?_⟩,
    frameReceivePkt_of_whole, fun l line c s h hl => ?_, applyCtl_frame, fun l m line q dst org c s h hne hl hdst => ?_,
    fun l m line q dst org b n s h hl hdst hn => ?_, fun l i p s hp ht hb => ?_, fun l cd sd dl s h ht hm => ?_,
    fun l cd dl s h ht hm => ?_, fun l dl s h ht hm => ?_, fun l dl i f s h ht hm hn ha hr hf => ?_,
    fun l dl s h ht hm hn ha hr hb => ?_, fun l dl b s h ht hm hn ha hr hb hlen hbytes => ?_, fun l cd sd dl s h ht => ?_⟩
  · obtain ⟨t, hxch, hpkt, hdtr, hctl, hframe⟩ := frames_of_damaged l line q d ten e dm om sl p dst org m iq b c s h hd
    exact ⟨Runs.of hxch hframe, Runs.of hpkt hframe, Runs.of hdtr hframe, Runs.of hctl hframe⟩
  · obtain ⟨t, hexec, hframe⟩ := execFrameReceivePkt_of_gap h hq hp hl
    exact Runs.of hexec hframe
  · obtain ⟨-, hother, hk⟩ := takeLine_frame s l line
    refine Runs.of (execFrameReceiveCtl_of_whole h hl) ⟨State.link_setLink _ _ _, otherLinks_trans hother otherLinks_setLink,
      keeps_trans hk setLink_lat_keeps⟩
  · obtain ⟨r, hr, hexec⟩ := execFrameReceiveDtr_of_whole (m := m) (q := q) (dst := dst) (org := org) (b := .ctl c) h hl
    obtain ⟨hseq, hret, -, -, hother, hk⟩ := tookDetour_frame s l r (.dtr dst org m q.toNat (.ctl c)) hr
    rw [if_pos hdst] at hexec
    have hvals : l.val ≠ m.val := fun he => hne (Fin.ext he)
    refine Runs.of hexec ?_
    generalize s.tookDetour l r (.dtr dst org m q.toNat (.ctl c)) = u at hseq hret hother hk
    have hne' : (u.updLink m (fun k => k.applyCtl c)).link l = u.link l := State.link_updLink_ne _ _ hvals
    have heq : (u.updLink m (fun k => k.applyCtl c)).link m = (s.link m).applyCtl c := by
      rw [State.link_updLink, hother m hvals.symm]
    refine ⟨heq, ?_, ?_, keeps_trans hk updLink_keeps⟩
    · exact (congrArg Link.rxSeq hne').trans hseq
    · exact (congrArg Link.retDtr hne').trans hret
  · obtain ⟨r, hr, hexec⟩ := execFrameReceiveDtr_of_whole (m := m) (q := q) (dst := dst) (org := org) (b := b) h hl
    obtain ⟨hseq, -, hdtr, hto, hother, hk⟩ := tookDetour_frame s l r (.dtr dst org m q.toNat b) hr
    rw [if_neg hdst, hto, hn] at hexec
    refine Runs.of hexec ?_
    generalize s.tookDetour l r (.dtr dst org m q.toNat b) = u at hseq hdtr hother hk
    refine ⟨?_, hseq, hother, keeps_trans hk (by simp [State.keeps_iff])⟩
    show u.lat.dtrOut ++ _ = _
    rw [hdtr]
  · obtain ⟨u, hu, hexec⟩ := execSlotForward_of_first hp ht hb
    refine Runs.of hexec ?_
    have hnoc : u.keeps { u with noc := { u.noc with slots := u.noc.slots ++ [{ p with src := 0xC8 + l.val / 36 }] } } [.noc] := by
      simp [State.keeps_iff]
    have hset : s.keeps u [.lat] := hu ▸ setLink_lat_keeps
    refine ⟨?_, ?_, ?_, keeps_trans (keeps_mono hset (by decide)) (keeps_mono hnoc (by decide))⟩
    · rw [link_of_keeps hnoc (by decide), hu, State.link_setLink]
    · rw [hu]
      rfl
    · refine otherLinks_trans (t := u) ?_ (otherLinks_of_keeps hnoc (by decide))
      rw [hu]
      exact otherLinks_setLink
  · obtain ⟨hlink, hother, -, hk⟩ := sendUpdated_frame s l (fun k => { k with markDue := false })
      (.fmk (s.thy.total / 1000 % 65536) dl.toNat s.thy.valid s.moduleId s.stratum)
    refine Runs.of ((execFrameTransmit_of_up h ht).trans (if_pos hm)) ⟨rfl, ?_, hother, hk⟩
    exact congrArg Link.markDue hlink
  · obtain ⟨-, hother, -, hk⟩ := send_frame s l .skp
    exact Runs.of ((execFrameTransmit_due h ht hm).trans (congrArg Host.Outcome.next sendDue_skp)) ⟨rfl, hother, hk⟩
  · refine Runs.of ((execFrameTransmit_due h ht hm).trans (congrArg Host.Outcome.next sendDue_ctl)) ?_
    obtain ⟨hlink, hother, hwire, hk⟩ := setSend_frame s l (s.link l).ctlSent (.frame 0 (.ctl (s.link l).ctlBody))
    exact ⟨hwire, hlink, hother, hk⟩
  · refine Runs.of ((execFrameTransmit_due h ht hm).trans (congrArg Host.Outcome.next (sendDue_resend hn ha hr hf))) ?_
    obtain ⟨hlink, hother, hwire, hk⟩ := setSend_frame s l ((s.link l).resent i f) (.frame f.seq f.body)
    rw [hlink]
    exact ⟨hwire, List.length_set, rfl, rfl, hother, hk⟩
  · obtain ⟨-, hother, -, hk⟩ := send_frame s l .idl
    exact Runs.of ((execFrameTransmit_due h ht hm).trans
      (congrArg Host.Outcome.next ((sendDue_new hn ha hr).trans (sendNew_none hb)))) ⟨rfl, hother, hk⟩
  · obtain ⟨dw, pw, hsend⟩ := sendNew_some hb hlen hbytes
    refine Runs.of ((execFrameTransmit_due h ht hm).trans (congrArg Host.Outcome.next ((sendDue_new hn ha hr).trans hsend))) ?_
    obtain ⟨hlinks, hw, hkd⟩ := dequeue_frame s l b
    obtain ⟨hlink, hother, hwire, hk⟩ := setSend_frame (s.dequeue l b) l ((s.link l).sent b dw pw) (.frame (s.link l).txSeq b)
    obtain ⟨hseq, hretry⟩ := sent_frame (s.link l) b dw pw
    rw [hlink]
    exact ⟨hwire.trans (by rw [hw]), hseq, hretry, otherLinks_trans (otherLinks_of_links hlinks) hother, keeps_trans hkd hk⟩
  · refine Runs.of ((execFrameTransmit_of_ne_down (by simp [h])).trans ?_) rfl
    rw [sendsTs_of_up h, if_neg Bool.false_ne_true, if_pos (Or.inr ht)]

end Sys2Proof.Machine
end

section
/-!
PROOF. Lattice tokens: how one is taken, and the effect of each type (R66, R67, R200, R221, R225, R227, R238, R291 to R295).
-/
namespace Sys2Proof.Machine

/-! ### A token that arrives -/

/-- The token is no inner frame that waits any more. -/
def State.tokenLeft (s : State) (l : Nat) (q : BitVec 12) (k : Token) : State :=
  { s with lat := { s.lat with tokIn := removeFirst (fun e => e = (l, q, k)) s.lat.tokIn } }

theorem tokenLeft_takeLine (s : State) (l : Nat) (q : BitVec 12) (k : Token) (x : LineIn) :
    ((s.tokenLeft l q k).takeLine l x).1 = (s.takeLine l x).1 ∧
    ((s.tokenLeft l q k).takeLine l x).2.link l = (s.takeLine l x).2.link l := by
  have hlink : (s.tokenLeft l q k).link l = s.link l := rfl
  unfold State.takeLine
  dsimp only
  rw [hlink]
  split
  · exact ⟨rfl, rfl⟩
  · refine ⟨rfl, ?_⟩
    show ((s.tokenLeft l q k).setLink l _).link l = (s.setLink l _).link l
    rw [State.link_setLink, State.link_setLink]

/-- Of the lattice only the links and the inner frames that wait differ. -/
def State.linksOnly (s t : State) : Prop := t.lat = { s.lat with links := t.lat.links, tokIn := t.lat.tokIn }

section
variable {s : State} {l : Nat} {line : LineIn} {k : Token}

theorem tokFrame_of_damaged {q : BitVec 12} (h : (s.link l).st = .up) (f : State → State) : ∃ t, s.tokFrame l line q true k f = .next t ∧
    t.link l = ((s.takeLine l line).2.link l).discard true ∧ s.otherLinks t l ∧ s.keeps t [.lat] := by
  obtain ⟨-, hlinkT⟩ := tokenLeft_takeLine s l q k line
  obtain ⟨r, -, hst, he⟩ := takeLine_of_up (s := s.tokenLeft l q k) (x := line) h
  rw [he, State.link_setLink] at hlinkT
  obtain ⟨hlink, hother, hk⟩ := twice_frame (s.tokenLeft l q k) l r (r.discard true)
  refine ⟨_, ?_, hlink.trans (by rw [hlinkT]), otherLinks_trans (otherLinks_of_links rfl) hother,
    keeps_trans (t := s.tokenLeft l q k) (by simp [State.keeps_iff, State.tokenLeft]) hk⟩
  unfold State.tokFrame
  dsimp only
  rw [show ({ s with lat := { s.lat with tokIn := removeFirst (fun e => e = (l, q, k)) s.lat.tokIn } } : State) = s.tokenLeft l q k from rfl,
    he, Bool.true_or, takeFrame_of_damaged hst]
  rfl

/-- A token in sequence: its effect, and its credit that returns. -/
theorem tokFrame_of_whole (h : (s.link l).st = .up) (hl : (s.takeLine l line).1 = false) (f : State → State) :
    ∃ u, s.tokFrame l line (s.link l).rxSeq false k f = .next ((f u).updLink l (fun v => { v with retTok := v.retTok + 1 })) ∧
      (u.link l).rxSeq = (s.link l).rxSeq + 1 ∧ (u.link l).retTok = (s.link l).retTok ∧ s.linksOnly u ∧ s.otherLinks u l ∧
      s.keeps u [.lat] := by
  obtain ⟨hdam, -⟩ := tokenLeft_takeLine s l (s.link l).rxSeq k line
  rw [hl] at hdam
  obtain ⟨r, hr, htake⟩ := taken_frame (s := s.tokenLeft l (s.link l).rxSeq k) (line := line) h
  obtain ⟨hlink, hother, hk⟩ := twice_frame (s.tokenLeft l (s.link l).rxSeq k) l r r.tookFrame
  refine ⟨((s.tokenLeft l (s.link l).rxSeq k).setLink l r).setLink l r.tookFrame, ?_, ?_, ?_, rfl,
    otherLinks_trans (otherLinks_of_links rfl) hother,
    keeps_trans (t := s.tokenLeft l (s.link l).rxSeq k) (by simp [State.keeps_iff, State.tokenLeft]) hk⟩
  · unfold State.tokFrame
    dsimp only
    rw [show ({ s with lat := { s.lat with tokIn := removeFirst (fun e => e = (l, (s.link l).rxSeq, k)) s.lat.tokIn } } : State) =
      s.tokenLeft l (s.link l).rxSeq k from rfl, hdam, Bool.or_false]
    have htake' : ((s.tokenLeft l (s.link l).rxSeq k).takeLine l line).2.takeFrame l (s.link l).rxSeq false =
        (true, ((s.tokenLeft l (s.link l).rxSeq k).setLink l r).setLink l r.tookFrame) := htake
    rw [htake']
    rfl
  · rw [hlink]
    exact congrArg (· + 1) (hr.field Link.rxSeq rfl)
  · rw [hlink]
    exact hr.field Link.retTok rfl

end

/-- The credit that a token returns, after an effect that leaves the links as they were. -/
theorem tokenCredit_frame {s u v : State} {l : Nat} {a : List Part} (hseq : (u.link l).rxSeq = (s.link l).rxSeq + 1)
    (hret : (u.link l).retTok = (s.link l).retTok) (hother : s.otherLinks u l) (hk : s.keeps u [.lat]) (hv : v.lat.links = u.lat.links)
    (ha : u.keeps v a) (hlat : .lat ∈ a) :
    ((v.updLink l (fun k => { k with retTok := k.retTok + 1 })).link l).rxSeq = (s.link l).rxSeq + 1 ∧
    ((v.updLink l (fun k => { k with retTok := k.retTok + 1 })).link l).retTok = (s.link l).retTok + 1 ∧
    s.otherLinks (v.updLink l (fun k => { k with retTok := k.retTok + 1 })) l ∧
    s.keeps (v.updLink l (fun k => { k with retTok := k.retTok + 1 })) a := by
  have hlink : v.link l = u.link l := link_of_links hv l
  have hsub : ∀ p ∈ [Part.lat], p ∈ a := fun p hp => List.mem_singleton.1 hp ▸ hlat
  rw [State.link_updLink, hlink]
  exact ⟨hseq, congrArg (· + 1) hret, otherLinks_trans (otherLinks_trans hother (otherLinks_of_links hv)) otherLinks_updLink,
    keeps_trans (keeps_trans (keeps_mono hk hsub) ha) (keeps_mono updLink_keeps hsub)⟩

theorem State.linksOnly.tokOut {s u : State} (h : s.linksOnly u) : u.lat.tokOut = s.lat.tokOut := by
  have e := congrArg Lattice.tokOut (show u.lat = { s.lat with links := u.lat.links, tokIn := u.lat.tokIn } from h)
  exact e
theorem State.linksOnly.nbrOf {s u : State} (h : s.linksOnly u) : u.lat.nbrOf = s.lat.nbrOf := by
  have e := congrArg Lattice.nbrOf (show u.lat = { s.lat with links := u.lat.links, tokIn := u.lat.tokIn } from h)
  exact e
theorem State.linksOnly.lholdSeen {s u : State} (h : s.linksOnly u) : u.lat.lholdSeen = s.lat.lholdSeen := by
  have e := congrArg Lattice.lholdSeen (show u.lat = { s.lat with links := u.lat.links, tokIn := u.lat.tokIn } from h)
  exact e

/-! ### BND -/

/-- The neighbour's count after a BND of ecycle `k`. -/
def State.bndTaken (s : State) (x m n : Nat) : State :=
  if n ≤ Map.get (s.ten x).bnd 0 m then s else s.updTen x (fun v => { v with bnd := Map.set v.bnd m n })

theorem bndTaken_frame (s : State) (x m n : Nat) : Map.get ((s.bndTaken x m n).ten x).bnd 0 m = max (Map.get (s.ten x).bnd 0 m) n ∧
    (s.bndTaken x m n).lat = s.lat ∧ s.otherTenants (s.bndTaken x m n) x ∧ s.keeps (s.bndTaken x m n) [.tenants] := by
  unfold State.bndTaken
  split
  next h => exact ⟨(Nat.max_eq_left h).symm, rfl, fun _ _ => rfl, keeps_refl⟩
  next h =>
    rw [State.ten_updTen]
    exact ⟨(Map.get_set_self ..).trans (Nat.max_eq_right (Nat.le_of_not_le h)).symm, rfl, otherTenants_updTen, updTen_keeps⟩

/-- What a BND does once it is taken. -/
def State.bndEffect (k : Token) (s : State) : State :=
  let s := k.reqs.foldl (fun s e => s.learn k.ten e) s
  match s.modIndex k.ten k.origin with
  | some m =>
    let n := (k.a + 1) % 2 ^ 64
    if n ≤ Map.get (s.ten k.ten).bnd 0 m then s
    else
      let s := s.joinCauses k.ten k.word
      if k.more then s else s.updTen k.ten (fun v => { v with bnd := Map.set v.bnd m n })
  | none => s

/-- A BND without entries, whole, of a tenant that is not HELD. -/
theorem bndEffect_of_plain {s : State} {k : Token} {m : Nat} (hr : k.reqs = []) (hm : k.more = false) (he : (s.ten k.ten).eff ≠ .held)
    (hi : s.modIndex k.ten k.origin = some m) : s.bndEffect k = s.bndTaken k.ten m ((k.a + 1) % 2 ^ 64) := by
  have hj : s.joinCauses k.ten k.word = s := if_neg he
  unfold State.bndEffect
  rw [hr, List.foldl_nil]
  dsimp only
  rw [hi]
  dsimp only
  rw [hj, hm, if_neg Bool.false_ne_true]
  rfl

/-! ### REPLAY -/

/-- A tenant's recovery goes on through what a change of the mode sets off. -/
def Tenant.staysRecovering (v w : Tenant) : Prop :=
  w.recov = v.recov ∧ w.done = v.done ∧ (v.recov.isSome = true → v.affected = true → w.affected = true)

/-- So does every tenant's, and the deep store and the registers stay. -/
structure State.staysRecovering (s t : State) : Prop where
  ten : ∀ y, (s.ten y).staysRecovering (t.ten y)
  ds : t.ds = s.ds
  regs : t.regs = s.regs

theorem Tenant.staysRecovering.refl (v : Tenant) : v.staysRecovering v := ⟨rfl, rfl, fun _ h => h⟩
theorem State.staysRecovering.refl (s : State) : s.staysRecovering s := ⟨fun _ => .refl _, rfl, rfl⟩
theorem State.staysRecovering.trans {s t u : State} (h : s.staysRecovering t) (k : t.staysRecovering u) : s.staysRecovering u where
  ten y := by
    obtain ⟨h1, h2, h3⟩ := h.ten y
    obtain ⟨k1, k2, k3⟩ := k.ten y
    exact ⟨k1.trans h1, k2.trans h2, fun hs ha => k3 (by rw [h1]; exact hs) (h3 hs ha)⟩
  ds := k.ds.trans h.ds
  regs := k.regs.trans h.regs
theorem State.staysRecovering.of_keeps {s t : State} {a : List Part} (h : s.keeps t a)
    (n : Part.tenants ∉ a ∧ Part.ds ∉ a ∧ Part.regs ∉ a) : s.staysRecovering t where
  ten y := by rw [ten_of_keeps h n.1]; exact .refl _
  ds := h .ds n.2.1
  regs := h .regs n.2.2
theorem State.staysRecovering.updTen {s : State} {x : Nat} {f : Tenant → Tenant} (h : (s.ten x).staysRecovering (f (s.ten x))) :
    s.staysRecovering (s.updTen x f) where
  ten y := by
    by_cases hy : y = x
    · rw [hy, State.ten_updTen]
      exact h
    · rw [State.ten_updTen_ne _ _ hy]
      exact .refl _
  ds := rfl
  regs := rfl
theorem State.staysRecovering.ite {s t u : State} {p : Prop} [Decidable p] (h : s.staysRecovering t) (k : s.staysRecovering u) :
    s.staysRecovering (if p then t else u) := iteInduction (fun _ => h) (fun _ => k)

theorem State.staysRecovering.advance (s : State) (x : Nat) (ls : List Nat) : s.staysRecovering (s.advance x ls) := by
  obtain ⟨u, hu, -, h⟩ := advance_eq s x ls
  rw [h]
  exact (State.staysRecovering.of_keeps hu (by decide)).trans (.updTen ⟨rfl, rfl, fun _ h => h⟩)

theorem State.staysRecovering.closeRefit (s : State) (x : Nat) : s.staysRecovering (s.closeRefit x) := by
  unfold State.closeRefit
  exact .ite (.updTen ⟨rfl, rfl, fun _ _ => rfl⟩) (.ite ((State.staysRecovering.updTen ⟨rfl, rfl, fun _ _ => rfl⟩).trans
    (.of_keeps sendNow_keeps (by decide))) (.updTen ⟨rfl, rfl, fun _ _ => rfl⟩))

theorem State.staysRecovering.refitStep (s : State) : s.staysRecovering s.refitStep := by
  unfold State.refitStep
  split
  · exact .refl s
  · refine .ite (.ite (.refl s) ?_) (.ite ?_ (.refl s))
    · dsimp only
      split
      · exact .of_keeps (a := [.edg, .sched]) (by simp [State.keeps_iff, State.askTokens]) (by decide)
      · refine State.staysRecovering.trans ?_ (.closeRefit _ _)
        exact .of_keeps (a := [.edg, .sched]) (by simp [State.keeps_iff, State.askTokens]) (by decide)
    · dsimp only
      split
      · exact .of_keeps endRefit_keeps (by decide)
      · refine .ite ?_ (.ite (.ite (.refl s) (.closeRefit _ _)) (.ite ?_ (.ite (.refl s) ?_)))
        · exact (State.staysRecovering.of_keeps endRebal_keeps (by decide)).trans (.of_keeps endRefit_keeps (by decide))
        · exact .of_keeps (a := [.sched]) (by simp [State.keeps_iff, State.askTokens]) (by decide)
        · refine State.staysRecovering.trans ?_ (.updTen ⟨rfl, rfl, fun hs _ => hs⟩)
          refine State.staysRecovering.trans ?_ (.of_keeps endRefit_keeps (by decide))
          refine State.staysRecovering.trans ?_ (.of_keeps endRebal_keeps (by decide))
          exact (State.staysRecovering.of_keeps moveTiles_keeps (by decide)).trans (.advance _ _ _)

theorem State.staysRecovering.setMode (s : State) (m : Mode) : s.staysRecovering (s.setMode m) := .of_keeps setMode_keeps (by decide)

theorem State.staysRecovering.remode (s : State) : s.staysRecovering s.remode := by
  unfold State.remode
  refine .ite ?_ (.refl s)
  dsimp only
  refine (State.staysRecovering.setMode s s.rankedMode).trans (State.staysRecovering.trans ?_ (.setMode _ _))
  exact List.foldlRecOn (motive := fun t => State.staysRecovering _ t) _ _ (.refl _) fun t ht _ _ => ht.trans (.refitStep t)

/-- A recovery that begins: its record, and what it leaves. -/
theorem beginRecovery_frame {s : State} {x : Nat} (hr : (s.ten x).recov = none) (kind : RecKind) (k g seq : Nat) :
    ((s.beginRecovery x kind none k g seq).ten x).recov = some (newRecovery kind none k (s.ten x).done g seq) ∧
    ((s.beginRecovery x kind none k g seq).ten x).affected = true ∧
    ((s.beginRecovery x kind none k g seq).ten x).done = (s.ten x).done ∧ (s.beginRecovery x kind none k g seq).ds = s.ds ∧
    (s.beginRecovery x kind none k g seq).regs = s.regs := by
  obtain ⟨hkeeps, -, hrec, haff, hrun⟩ := recovering_frame s x (newRecovery kind none k (s.ten x).done g seq) none
  rw [beginRecovery_eq hr]
  generalize s.recovering x (newRecovery kind none k (s.ten x).done g seq) none = u at hkeeps hrec haff hrun
  have hend : u.staysRecovering ((u.haltTenant x .recovery).faultEvent x 1 seq (s.ten x).lastEcyc).remode :=
    ((State.staysRecovering.of_keeps haltTenant_keeps (by decide)).trans (.of_keeps faultEvent_keeps (by decide))).trans (.remode _)
  obtain ⟨h1, h2, h3⟩ := hend.ten x
  exact ⟨h1.trans hrec, h3 (by rw [hrec]; rfl) haff, h2.trans hrun.2.2.2.1, hend.ds.trans (hkeeps .ds (by decide)),
    hend.regs.trans (hkeeps .regs (by decide))⟩

theorem tokSpanBut_keeps {s : State} {x m : Nat} {k : Token} : s.keeps (s.tokSpanBut x m k) [.lat] := by
  unfold State.tokSpanBut
  split
  · simp [State.keeps_iff]
  · exact keeps_refl

theorem State.speaks.tokSpanBut (s : State) (x m : Nat) (k : Token) : s.speaks (s.tokSpanBut x m k) := by
  unfold State.tokSpanBut
  split
  · exact rfl
  · exact .refl s

/-- What a REPLAY does once it is taken. -/
def State.replayEffect (l : Nat) (k : Token) (s : State) : State :=
  let tn := s.ten k.ten
  let g := k.word % 2 ^ 16
  let wins := match tn.recov with
    | some r => decide (g = tn.gen ∧ k.a < r.k)
    | none => false
  if tn.img.isSome && (genNewer g tn.gen || wins) then
    let df := decide (3 ∈ tn.holds ∧ tn.eff ≠ .held)
    let n := s.freshNat
    let c := (k.b + 1) % 2 ^ 64
    let s := (n.2.beginRecovery k.ten (if df then .doubleFault else .masked) none k.a g (n.1 % 2 ^ 16)).tokSpanBut k.ten l
      { k with fwd := true }
    if df then
      let s := s.updTen k.ten (fun v => { v with recov := v.recov.map (fun r => { r with upTo := min r.upTo c }) })
      if tn.done < c then s.startRecovery k.ten .doubleFault none (n.1 % 2 ^ 16) else s
    else s
  else s

theorem execTokenReplay_eq (l : LinkId) (line : LineIn) (q : BitVec 12) (d : Bool) (k : Token) (s : State) :
    execTokenReplay l line q d k s = s.tokFrame l line q d k (State.replayEffect l k) := rfl

theorem replayEffect_of_noImage {s : State} {l : Nat} {k : Token} (h : (s.ten k.ten).img = none) : s.replayEffect l k = s := by
  unfold State.replayEffect
  dsimp only
  rw [h]
  exact if_neg (by simp)

theorem replayEffect_of_newer {s : State} {l : Nat} {k : Token} (hi : (s.ten k.ten).img.isSome = true) (hh : (s.ten k.ten).holds = [])
    (hg : genNewer (k.word % 2 ^ 16) (s.ten k.ten).gen = true) : s.replayEffect l k =
      (s.freshNat.2.beginRecovery k.ten .masked none k.a (k.word % 2 ^ 16) (s.freshNat.1 % 2 ^ 16)).tokSpanBut k.ten l { k with fwd := true } := by
  have hdf : decide (3 ∈ (s.ten k.ten).holds ∧ (s.ten k.ten).eff ≠ .held) = false := by simp [hh]
  unfold State.replayEffect
  dsimp only
  rw [hi, hg, Bool.true_or, Bool.true_and, if_pos rfl, hdf, if_neg Bool.false_ne_true, if_neg Bool.false_ne_true]

/-! ### DRAIN -/

/-- What a DRAIN does once it is taken. -/
def State.drainEffect (l : Nat) (k : Token) (s : State) : State :=
  if !k.fwd then { s with lat := { s.lat with tokOut := s.lat.tokOut ++ [(l, { k with fwd := true })] } }
  else if k.origin = s.moduleId then s.markerBack (k.word / 2 ^ 16)
  else
    match s.upLinks.find? (fun m => decide ((s.link m).farId = some k.origin)) with
    | some m => { s with lat := { s.lat with tokOut := s.lat.tokOut ++ [(m, k)] } }
    | none => s

theorem execTokenDrain_eq (l : LinkId) (line : LineIn) (q : BitVec 12) (d : Bool) (k : Token) (s : State) :
    execTokenDrain l line q d k s = s.tokFrame l line q d k (State.drainEffect l k) := rfl

/-- A marker's first token goes back the way it came. -/
theorem drainEffect_of_first {s : State} {l : Nat} {k : Token} (h : k.fwd = false) :
    s.drainEffect l k = { s with lat := { s.lat with tokOut := s.lat.tokOut ++ [(l, { k with fwd := true })] } } :=
  if_pos (by rw [h]; rfl)

theorem markerBack_of_none {s : State} {n : Nat} (h : s.lat.markers.find? (fun e => decide (e.1 = n)) = none) : s.markerBack n = s := by
  unfold State.markerBack
  rw [h]

/-- The last marker of the last tenant has returned. -/
theorem markerBack_of_last {s : State} {n : Nat} {x : Nat × Nat × Option Nat} (h : s.lat.markers = [x]) (hx : x.1 = n) :
    s.markerBack n = (({ s with lat := { s.lat with markers := [] } }).updTen x.2.1 (fun v => { v with drained := true })).remode := by
  have hfind : s.lat.markers.find? (fun e => decide (e.1 = n)) = some x := by rw [h]; simp [hx]
  have hrest : s.lat.markers.filter (fun e => decide (e.1 ≠ n)) = [] := by rw [h]; simp [hx]
  unfold State.markerBack
  rw [hfind]
  dsimp only
  rw [hrest]
  rfl

/-! ### PARTX -/

/-- What a PARTX does once it is taken. -/
def State.partxEffect (l : Nat) (k : Token) (s : State) : State :=
  if k.origin = s.moduleId ∨ (s.ten k.ten).partC.any (fun e => decide (e = (k.origin, k.a))) = true then s
  else (s.tokSpanBut k.ten l { k with fwd := true }).takePartx k.ten k.origin k.a k.b k.c

theorem takePartx_of_noHold {s : State} {x m a b c : Nat} (h : 2 ∉ (s.ten x).holds) : s.takePartx x m a b c =
    s.updTen x (fun v => { v with partC := Map.set v.partC m a, partK := Map.set v.partK m (b, c) }) := by
  unfold State.takePartx
  dsimp only
  refine if_neg fun hn => h ?_
  have := hn.1
  rwa [State.ten_updTen] at this

/-- The token of marker `n` of tenant `x`, sent once more. -/
def State.markerToken (s : State) (n x : Nat) : Token :=
  { typ := 4, ten := x, origin := s.moduleId,
    word := (((s.boundTiles x).head?).map (fun y => (s.remap y).epoch)).getD 0 + 2 ^ 16 * n }

/-! ### LHOLD -/

/-- What an LHOLD does once it is taken. -/
def State.lholdEffect (l : Nat) (k : Token) (s : State) : State :=
  let n := k.word % 2 ^ 16
  if k.origin = s.moduleId ∨ (s.lat.lholdSeen.any (fun e => decide (e.1 = k.origin) && !genNewer n e.2)) = true then s
  else
    let s := s.tokUp (some l) { k with fwd := true }
    let rest := s.dev.lattice.filter (· ≠ k.origin)
    let s := { s with
      lat := { s.lat with lholdSeen := Map.set s.lat.lholdSeen k.origin n }
      dev := { s.dev with lattice := if (k.word / 2 ^ 16) % 2 = 1 then k.origin :: rest else rest } }
    s.holdChanged

/-- The lattice's hold after a token, before the hold conditions act. -/
def State.lholdNoted (l : Nat) (k : Token) (s : State) : State :=
  let u := s.tokUp (some l) { k with fwd := true }
  { u with
    lat := { u.lat with lholdSeen := Map.set u.lat.lholdSeen k.origin (k.word % 2 ^ 16) }
    dev := { u.dev with lattice := if (k.word / 2 ^ 16) % 2 = 1 then k.origin :: u.dev.lattice.filter (· ≠ k.origin)
                                   else u.dev.lattice.filter (· ≠ k.origin) } }

theorem lholdEffect_of_new {s : State} {l : Nat} {k : Token} (ho : k.origin ≠ s.moduleId) (hs : s.lat.lholdSeen = []) :
    s.lholdEffect l k = (s.lholdNoted l k).holdChanged := by
  unfold State.lholdEffect
  dsimp only
  rw [hs]
  exact if_neg (by simp [ho])

theorem remode_lattice {s : State} (h : s.noRefit) : s.remode.dev.lattice = s.dev.lattice := by
  obtain hr | ⟨m, n, hr⟩ := remode_of_noRefit h
  · rw [hr]
  · rw [hr, setMode_dev, setMode_dev]

/-- LHOLD on a device without tenants: who holds it, and what it has heard. -/
theorem lholdEffect_of_vacant {s : State} {l : Nat} {k : Token} (ho : k.origin ≠ s.moduleId) (hs : s.lat.lholdSeen = []) (hv : s.vacant) :
    (s.lholdEffect l k).dev.lattice = (s.lholdNoted l k).dev.lattice ∧ (s.lholdEffect l k).lat = (s.lholdNoted l k).lat ∧
    s.keeps (s.lholdEffect l k) [.lat, .dev, .fm, .host] := by
  have hnoted : s.keeps (s.lholdNoted l k) [.lat, .dev] := by simp [State.keeps_iff, State.lholdNoted, State.tokUp]
  have hvac : (s.lholdNoted l k).vacant := hv
  rw [lholdEffect_of_new ho hs, holdChanged_of_vacant hvac]
  generalize s.lholdNoted l k = u at hnoted hvac
  have hno : u.noRefit := fun x hx => by rw [hvac.2] at hx; cases hx
  exact ⟨remode_lattice hno, remode_keeps hno .lat (by decide), keeps_trans (keeps_mono hnoted (by decide)) (keeps_mono (remode_keeps hno) (by decide))⟩

/-- Settles O35: a token is taken or discarded by its frame, and its type's effect is applied to the state in between. -/
theorem latticeTokens : Obligations.LatticeTokens := by
  refine ⟨fun l line q k c s h hc => ?_, fun l line k s h hl => ?_, fun l line k s h hl => ?_, fun l line k m s h hl hr hm he hi => ?_,
    fun l line k s h hl hi => ?_, fun l line k s h hl hi hr hh hrefits hg => ?_, fun l line k s h hl hf => ?_, fun l line k s h hl ho => ?_,
    fun l line k s h hl ho hp hh => ?_, fun l line k s h hl ho hs ht hr => ?_, fun ten s hs hp => ?_, fun s => ?_, fun m x s h hx hr => ?_,
    fun m s h => ⟨?_, ?_⟩, fun m n x l s h => ?_⟩
  · have hform : ∃ f, exec c s = s.tokFrame l line q true k f := by
      simp only [List.mem_cons, List.not_mem_nil, or_false] at hc
      obtain rfl | rfl | rfl | rfl | rfl | rfl | rfl := hc
      · exact ⟨_, exec_tokenBnd ..⟩
      · exact ⟨_, exec_tokenReplay ..⟩
      · exact ⟨_, exec_tokenPace ..⟩
      · exact ⟨_, exec_tokenDrain ..⟩
      · exact ⟨_, exec_tokenPartx ..⟩
      · exact ⟨_, exec_tokenLhold ..⟩
      · exact ⟨_, exec_tokenNbr ..⟩
    obtain ⟨f, hf⟩ := hform
    obtain ⟨t, ht, hframe⟩ := tokFrame_of_damaged (line := line) (k := k) (q := q) h f
    exact Runs.of (hf.trans ht) hframe
  · obtain ⟨u, hexec, hseq, hret, -, hother, hk⟩ := tokFrame_of_whole (k := k) h hl
      (fun s => s.updTen k.ten (fun v => { v with partWait := some s.thy.total }))
    have hthy : u.thy = s.thy := hk .thy (by decide)
    obtain ⟨h1, h2, h3, h4⟩ := tokenCredit_frame (v := u.updTen k.ten (fun v => { v with partWait := some u.thy.total }))
      (a := [.lat, .tenants]) hseq hret hother hk rfl (keeps_mono updTen_keeps (by decide)) (by decide)
    refine Runs.of hexec ⟨?_, h1, h2, h3, ?_, h4⟩
    · rw [ten_of_keeps updLink_keeps (by decide), State.ten_updTen, hthy]
    · exact fun m hm => by
        rw [ten_of_keeps updLink_keeps (by decide), State.ten_updTen_ne _ _ hm, ten_of_keeps hk (by decide)]
  · obtain ⟨u, hexec, hseq, hret, hlat, hother, hk⟩ := tokFrame_of_whole (k := k) h hl
      (fun s => { s with lat := { s.lat with nbrOf := Map.set s.lat.nbrOf k.origin k.nbr } })
    obtain ⟨h1, h2, h3, h4⟩ := tokenCredit_frame (v := { u with lat := { u.lat with nbrOf := Map.set u.lat.nbrOf k.origin k.nbr } })
      (a := [.lat]) hseq hret hother hk rfl (by simp [State.keeps_iff]) (by decide)
    refine Runs.of hexec ⟨Map.get_set_self .., fun m hm => ?_, h1, h2, h3, h4⟩
    rw [← hlat.nbrOf]
    exact Map.get_set_ne _ _ _ hm
  · obtain ⟨u, hexec, hseq, hret, -, hother, hk⟩ := tokFrame_of_whole (k := k) h hl (State.bndEffect k)
    have hten : u.ten k.ten = s.ten k.ten := ten_of_keeps hk (by decide) _
    have hmod : u.modIndex k.ten k.origin = some m := by rw [State.modIndex, hten]; exact hi
    rw [bndEffect_of_plain hr hm (by rw [hten]; exact he) hmod] at hexec
    obtain ⟨hmax, hlat, hot, hkt⟩ := bndTaken_frame u k.ten m ((k.a + 1) % 2 ^ 64)
    obtain ⟨-, h2, h3, h4⟩ := tokenCredit_frame (a := [.lat, .tenants]) hseq hret hother hk (congrArg Lattice.links hlat)
      (keeps_mono hkt (by decide)) (by decide)
    refine Runs.of hexec ⟨?_, h2, h3, ?_, h4⟩
    · rw [ten_of_keeps updLink_keeps (by decide), hmax, hten]
    · exact otherTenants_trans (otherTenants_of_tenants (hk .tenants (by decide))) (otherTenants_trans hot (otherTenants_of_tenants rfl))
  · obtain ⟨u, hexec, hseq, hret, -, hother, hk⟩ := tokFrame_of_whole (k := k) h hl (State.replayEffect l k)
    rw [replayEffect_of_noImage (by rw [ten_of_keeps hk (by decide)]; exact hi)] at hexec
    obtain ⟨-, h2, h3, h4⟩ := tokenCredit_frame (v := u) (a := [.lat]) hseq hret hother hk rfl keeps_refl (by decide)
    exact Runs.of ((execTokenReplay_eq ..).trans hexec) ⟨h2, h3, h4⟩
  · obtain ⟨u, hexec, -, hret, -, -, hk⟩ := tokFrame_of_whole (k := k) h hl (State.replayEffect l k)
    have hten : u.ten k.ten = s.ten k.ten := ten_of_keeps hk (by decide) _
    rw [replayEffect_of_newer (by rw [hten]; exact hi) (by rw [hten]; exact hh) (by rw [hten]; exact hg)] at hexec
    have hfresh : u.keeps u.freshNat.2 [.freeCtr] := freshNat_keeps
    have htenf : u.freshNat.2.ten k.ten = s.ten k.ten := (ten_of_keeps hfresh (by decide) _).trans hten
    obtain ⟨hrec, haff, hdone, hds, hregs⟩ := beginRecovery_frame (s := u.freshNat.2) (x := k.ten) (by rw [htenf]; exact hr) .masked k.a
      (k.word % 2 ^ 16) (u.freshNat.1 % 2 ^ 16)
    rw [htenf] at hrec hdone
    have hsp : u.speaks ((u.freshNat.2.beginRecovery k.ten .masked none k.a (k.word % 2 ^ 16) (u.freshNat.1 % 2 ^ 16)).tokSpanBut k.ten l
      { k with fwd := true }) := ((State.speaks.of_keeps hfresh (by decide)).trans (.beginRecovery ..)).trans (.tokSpanBut ..)
    have hkb := tokSpanBut_keeps (s := u.freshNat.2.beginRecovery k.ten .masked none k.a (k.word % 2 ^ 16) (u.freshNat.1 % 2 ^ 16))
      (x := k.ten) (m := l) (k := { k with fwd := true })
    have hdss : u.freshNat.2.ds = s.ds := hk .ds (by decide)
    have hregss : u.freshNat.2.regs = s.regs := hk .regs (by decide)
    rw [hdss] at hds
    rw [hregss] at hregs
    refine Runs.of ((execTokenReplay_eq ..).trans hexec) ?_
    generalize u.freshNat.2.beginRecovery k.ten .masked none k.a (k.word % 2 ^ 16) (u.freshNat.1 % 2 ^ 16) = b at hrec haff hdone hds hregs hsp hkb
    generalize b.tokSpanBut k.ten l { k with fwd := true } = v at hsp hkb
    rw [ten_of_keeps updLink_keeps (by decide), ten_of_keeps hkb (by decide), State.link_updLink, hsp.link]
    exact ⟨⟨_, hrec, rfl, rfl, rfl, rfl⟩, haff, hdone, congrArg (· + 1) hret, (hkb .ds (by decide)).trans hds, (hkb .regs (by decide)).trans hregs⟩
  · obtain ⟨u, hexec, hseq, hret, hlat, hother, hk⟩ := tokFrame_of_whole (k := k) h hl (State.drainEffect l k)
    rw [drainEffect_of_first hf] at hexec
    obtain ⟨-, h2, h3, h4⟩ := tokenCredit_frame (v := { u with lat := { u.lat with tokOut := u.lat.tokOut ++ [(l.val, { k with fwd := true })] } })
      (a := [.lat]) hseq hret hother hk rfl (by simp [State.keeps_iff]) (by decide)
    refine Runs.of ((execTokenDrain_eq ..).trans hexec) ⟨?_, h2, h3, h4⟩
    rw [← hlat.tokOut]
    rfl
  · obtain ⟨u, hexec, hseq, hret, -, hother, hk⟩ := tokFrame_of_whole (k := k) h hl (State.partxEffect l k)
    have hid : u.moduleId = s.moduleId := by rw [State.moduleId, State.rfld, reg_of_keeps hk (by decide), State.moduleId, State.rfld]
    rw [show u.partxEffect l k = u from if_pos (Or.inl (ho.trans hid.symm))] at hexec
    obtain ⟨-, h2, h3, h4⟩ := tokenCredit_frame (v := u) (a := [.lat]) hseq hret hother hk rfl keeps_refl (by decide)
    exact Runs.of hexec ⟨h2, h3, h4⟩
  · obtain ⟨u, hexec, hseq, hret, -, hother, hk⟩ := tokFrame_of_whole (k := k) h hl (State.partxEffect l k)
    have hid : u.moduleId = s.moduleId := by rw [State.moduleId, State.rfld, reg_of_keeps hk (by decide), State.moduleId, State.rfld]
    have hten : u.ten k.ten = s.ten k.ten := ten_of_keeps hk (by decide) _
    have hsp : u.speaks (u.tokSpanBut k.ten l { k with fwd := true }) := .tokSpanBut ..
    have hks : u.keeps (u.tokSpanBut k.ten l { k with fwd := true }) [.lat] := tokSpanBut_keeps
    have hnew : u.partxEffect l k = (u.tokSpanBut k.ten l { k with fwd := true }).takePartx k.ten k.origin k.a k.b k.c :=
      if_neg (by rw [hid, hten, hp]; simp [ho])
    rw [hnew] at hexec
    generalize u.tokSpanBut k.ten l { k with fwd := true } = v at hexec hsp hks
    have htenv : v.ten k.ten = s.ten k.ten := (ten_of_keeps hks (by decide) _).trans hten
    rw [takePartx_of_noHold (by rw [htenv]; exact hh)] at hexec
    obtain ⟨-, -, h3, h4⟩ := tokenCredit_frame (v := v.updTen k.ten (fun x => { x with
      partC := Map.set x.partC k.origin k.a, partK := Map.set x.partK k.origin (k.b, k.c) })) (a := [.lat, .tenants]) hseq hret hother hk hsp.links
      (keeps_trans (keeps_mono hks (by decide)) (keeps_mono updTen_keeps (by decide))) (by decide)
    refine Runs.of hexec ?_
    rw [ten_of_keeps updLink_keeps (by decide), State.ten_updTen]
    refine ⟨Map.get_set_self .., Map.get_set_self .., fun m hm => ?_, h3, h4⟩
    rw [ten_of_keeps updLink_keeps (by decide), State.ten_updTen_ne _ _ hm, ten_of_keeps hks (by decide), ten_of_keeps hk (by decide)]
  · obtain ⟨u, hexec, hseq, hret, hlat, hother, hk⟩ := tokFrame_of_whole (k := k) h hl (State.lholdEffect l k)
    have hid : u.moduleId = s.moduleId := by rw [State.moduleId, State.rfld, reg_of_keeps hk (by decide), State.moduleId, State.rfld]
    have hdev : u.dev = s.dev := hk .dev (by decide)
    obtain ⟨hl1, hl2, hl3⟩ := lholdEffect_of_vacant (l := l) (s := u) (k := k) (by rw [hid]; exact ho) (hlat.lholdSeen.trans hs)
      ⟨(hk .tenants (by decide)).trans ht, by rw [hdev]; exact hr⟩
    have hdl : (u.lholdNoted l k).dev.lattice = if (k.word / 2 ^ 16) % 2 = 1 then k.origin :: s.dev.lattice.filter (· ≠ k.origin)
        else s.dev.lattice.filter (· ≠ k.origin) := by rw [← hdev]; rfl
    rw [hdl] at hl1
    obtain ⟨-, -, h3, h4⟩ := tokenCredit_frame (a := [.lat, .dev, .fm, .host]) hseq hret hother hk
      (by rw [hl2]; rfl : (u.lholdEffect l k).lat.links = u.lat.links) hl3 (by decide)
    refine Runs.of hexec ?_
    have hdevu : ((u.lholdEffect l k).updLink l (fun v => { v with retTok := v.retTok + 1 })).dev = (u.lholdEffect l k).dev := rfl
    have hseen : ((u.lholdEffect l k).updLink l (fun v => { v with retTok := v.retTok + 1 })).lat.lholdSeen = (u.lholdEffect l k).lat.lholdSeen := rfl
    rw [hdevu, hl1, hseen, hl2]
    refine ⟨fun hw => ?_, fun hw => ?_, fun m hm => ?_, Map.get_set_self .., h3, h4⟩
    · rw [if_pos hw]
      exact List.mem_cons_self
    · rw [if_neg (by omega)]
      simp
    · split <;> simp [hm]
  · exact Runs.of (if_pos (by simp [hs, hp])) ⟨rfl, tokSpan_keeps⟩
  · refine Runs.of rfl ⟨?_, rfl, by simp [State.keeps_iff, State.sendNbr, State.tokUp]⟩
    simp [State.sendNbr, State.tokUp]
  · refine Runs.of (congrArg Host.Outcome.next (markerBack_of_last h hx)) ?_
    have hrf : (({ s with lat := { s.lat with markers := [] } }).updTen x.2.1 (fun v => { v with drained := true })).dev.refits = [] := hr
    have hno : (({ s with lat := { s.lat with markers := [] } }).updTen x.2.1 (fun v => { v with drained := true })).noRefit := fun y hy => by
      rw [hrf] at hy
      cases hy
    have hpre : s.keeps (({ s with lat := { s.lat with markers := [] } }).updTen x.2.1 (fun v => { v with drained := true })) [.lat, .tenants] :=
      keeps_trans (t := { s with lat := { s.lat with markers := [] } }) (by simp [State.keeps_iff]) (keeps_mono updTen_keeps (by decide))
    have hten : ((({ s with lat := { s.lat with markers := [] } }).updTen x.2.1 (fun v => { v with drained := true })).ten x.2.1).drained = true := by
      rw [State.ten_updTen]
    have hot : s.otherTenants (({ s with lat := { s.lat with markers := [] } }).updTen x.2.1 (fun v => { v with drained := true })) x.2.1 :=
      fun m hm => State.ten_updTen_ne _ _ hm
    have hmk : (({ s with lat := { s.lat with markers := [] } }).updTen x.2.1 (fun v => { v with drained := true })).lat.markers = [] := rfl
    generalize ({ s with lat := { s.lat with markers := [] } }).updTen x.2.1 (fun v => { v with drained := true }) = u at hno hpre hten hot hmk
    have hmode := remode_keeps hno
    refine ⟨(congrArg Lattice.markers (show u.remode.lat = u.lat from hmode .lat (by decide))).trans hmk, ?_,
      otherTenants_trans hot (otherTenants_of_tenants (hmode .tenants (by decide))),
      keeps_trans (keeps_mono hpre (by decide)) (keeps_mono hmode (by decide))⟩
    rw [ten_of_keeps hmode (by decide)]
    exact hten
  · exact Runs.of (congrArg Host.Outcome.next (markerBack_of_none h)) rfl
  · refine Runs.of (t := s) ?_ rfl
    rw [exec_drainMarkerTimeout, execDrainMarkerTimeout, h]
  · refine Runs.of (t := { s with lat := { s.lat with tokOut := s.lat.tokOut ++ [(l, s.markerToken n x)] } }) ?_
      ⟨⟨_, rfl, rfl, rfl, rfl, rfl⟩, rfl, rfl, by simp [State.keeps_iff]⟩
    rw [exec_drainMarkerTimeout, execDrainMarkerTimeout, h]
    rfl

end Sys2Proof.Machine
end

section
/-!
PROOF. The LNK registers: enabling, modes, counters and the module's identity (R296, R298, R300, R302, R304).
-/
namespace Sys2Proof.Machine

/-! ### One field of LNK_CTL -/

section
variable {s : State} {l : Nat}

theorem setLnkFld_keeps {lsb w v : Nat} : s.keeps (s.setLnkFld l lsb w v) [.regs] := setReg_keeps

theorem setLnkFld_reg_ne {lsb w v r : Nat} (h : r ≠ lnkCtl l) : (s.setLnkFld l lsb w v).reg r = s.reg r := State.reg_setReg_ne _ _ h

theorem setLnkFld_self {lsb w v : Nat} (h : lsb + w ≤ 32) : (s.setLnkFld l lsb w v).rfld (lnkCtl l) lsb w = v % 2 ^ w := by
  rw [State.setLnkFld, State.rfld_setReg_self _ _ _ h, fld_setFld_self]

theorem setLnkFld_disjoint {lsb w v i n : Nat} (h : i + n ≤ lsb ∨ lsb + w ≤ i) (hi : i + n ≤ 32) :
    (s.setLnkFld l lsb w v).rfld (lnkCtl l) i n = s.rfld (lnkCtl l) i n := by
  rw [State.setLnkFld, State.rfld_setReg_self _ _ _ hi, fld_setFld_of_disjoint _ _ h, State.rfld]

theorem setLnkFld_others {lsb w v : Nat} : s.otherLinks (s.setLnkFld l lsb w v) l := otherLinks_of_links rfl

theorem rfld_of_keeps {t : State} {a : List Part} (h : s.keeps t a) (n : .regs ∉ a) (off lsb w : Nat) : t.rfld off lsb w = s.rfld off lsb w := by
  rw [State.rfld, reg_of_keeps h n, State.rfld]

/-- LNK_CTL with its MODE and PRBS fields. -/
def State.modeWritten (s : State) (l m p : Nat) : State := (s.setLnkFld l 1 3 m).setLnkFld l 4 2 p

theorem modeWritten_keeps {m p : Nat} : s.keeps (s.modeWritten l m p) [.regs] := keeps_trans setLnkFld_keeps setLnkFld_keeps

theorem modeWritten_others {m p : Nat} : s.otherLinks (s.modeWritten l m p) l := otherLinks_of_links rfl

theorem modeWritten_fields (m p : Nat) : (s.modeWritten l m p).lnkMode l = m % 8 ∧ (s.modeWritten l m p).rfld (lnkCtl l) 4 2 = p % 4 ∧
    (s.modeWritten l m p).lnkEnabled l = s.lnkEnabled l := by
  refine ⟨?_, setLnkFld_self (by decide), ?_⟩
  · rw [State.lnkMode, State.modeWritten, setLnkFld_disjoint (by decide) (by decide), setLnkFld_self (by decide)]
    rfl
  · rw [State.lnkEnabled, State.modeWritten, setLnkFld_disjoint (by decide) (by decide), setLnkFld_disjoint (by decide) (by decide),
      State.lnkEnabled]

/-! ### The links -/

theorem mayTrain_iff : s.mayTrain l = true ↔
    ((s.lnkEnabled l = true ∧ s.lnkMode l = 0) ∧ s.domainGood (sideDomain l) = true) ∧ s.dev.mode.configured = true := by
  simp [State.mayTrain]

theorem startLink_keeps : s.keeps (s.startLink l) [.lat] := by
  unfold State.startLink
  exact keeps_ite updLink_keeps keeps_refl

theorem startLink_others : s.otherLinks (s.startLink l) l := by
  unfold State.startLink
  exact iteInduction (motive := fun t => s.otherLinks t l) (fun _ => otherLinks_updLink) (fun _ => otherLinks_refl)

theorem startLink_of_notOff (h : (s.link l).st ≠ .off) : s.startLink l = s := by
  unfold State.startLink
  exact if_neg (by simp [h])

theorem startLink_of_off (ho : (s.link l).st = .off) (hm : s.mayTrain l = true) : ((s.startLink l).link l).st = .detect := by
  unfold State.startLink
  rw [if_pos (by simp [ho, hm]), State.link_updLink]
  simp [Link.enterDetect, Link.setPhase, Link.freshFlow, ho]

theorem prbsCounts_frame (s : State) (l : Nat) : (∃ a b n, (s.prbsCounts l).link l = { s.link l with prbsErr0 := a, prbsErr1 := b, prbsBits := n }) ∧
    s.otherLinks (s.prbsCounts l) l ∧ s.keeps (s.prbsCounts l) [.lat, .freeCtr] := by
  have hk : s.keeps s.freshNat.2.freshNat.2.freshNat.2 [.freeCtr] := keeps_trans freshNat_keeps (keeps_trans freshNat_keeps freshNat_keeps)
  refine ⟨⟨_, _, _, (State.link_updLink ..).trans (by rw [link_of_keeps hk (by decide)])⟩,
    otherLinks_trans (otherLinks_of_keeps hk (by decide)) otherLinks_updLink,
    keeps_trans (keeps_mono hk (by decide)) (keeps_mono updLink_keeps (by decide))⟩

/-- A link that has a far end takes up its identity anew by a full retraining. -/
def State.retrainOne (s : State) (l : Nat) : State :=
  if (s.link l).st = .ident ∨ (s.link l).st = .up ∨ (s.link l).st = .fastRt ∨ (s.link l).st = .fullRt
  then s.setLink l (s.link l).enterFull else s

theorem retrainOne_self (s : State) (l : Nat) : (s.retrainOne l).link l =
    if (s.link l).st = .ident ∨ (s.link l).st = .up ∨ (s.link l).st = .fastRt ∨ (s.link l).st = .fullRt
    then (s.link l).enterFull else s.link l := by
  unfold State.retrainOne
  split
  · exact State.link_setLink ..
  · rfl

theorem retrainOne_others : s.otherLinks (s.retrainOne l) l := by
  unfold State.retrainOne
  exact iteInduction (motive := fun t => s.otherLinks t l) (fun _ => otherLinks_setLink) (fun _ => otherLinks_refl)

theorem retrainOne_keeps : s.keeps (s.retrainOne l) [.lat] := by
  unfold State.retrainOne
  exact keeps_ite setLink_lat_keeps keeps_refl

end

/-- Retraining the links of a list in turn leaves the others. -/
theorem foldl_retrainOne_not_mem (ls : List Nat) (s : State) {l : Nat} (h : l ∉ ls) : (ls.foldl State.retrainOne s).link l = s.link l := by
  induction ls generalizing s with
  | nil => rfl
  | cons x r ih =>
    obtain ⟨hx, hr⟩ := List.ne_and_not_mem_of_not_mem_cons h |>.imp Ne.symm id
    exact (ih _ hr).trans (retrainOne_others l hx.symm)

theorem foldl_retrainOne_mem (ls : List Nat) (hd : ls.Nodup) (s : State) {l : Nat} (h : l ∈ ls) :
    (ls.foldl State.retrainOne s).link l = (s.retrainOne l).link l := by
  induction ls generalizing s with
  | nil => cases h
  | cons x r ih =>
    obtain ⟨hx, hr⟩ := List.nodup_cons.1 hd
    by_cases hl : l = x
    · subst hl
      exact foldl_retrainOne_not_mem r _ hx
    · have hm : l ∈ r := (List.mem_cons.1 h).resolve_left hl
      rw [List.foldl_cons, ih hr _ hm, retrainOne_self, retrainOne_others l hl, retrainOne_self]

/-! ### The commands -/

section
variable {l : LinkId} {m : BitVec 3} {p : BitVec 2} {s : State}

theorem execLnkModeWrite_of_test (hc : s.dev.mode.configured = true) (h1 : 1 ≤ m.toNat) (h4 : m.toNat ≤ 4) (hf : (s.link l).st ≠ .fastRt)
    (hu : (s.link l).st ≠ .fullRt) (hb : s.testBarred l = false) : ∃ t, exec (.lnkModeWrite l m p) s = .next t ∧
      (t = (s.modeWritten l m.toNat p.toNat).changeLink l { (s.link l).toOff with st := .test } ∨
       t = ((s.modeWritten l m.toNat p.toNat).changeLink l { (s.link l).toOff with st := .test }).prbsCounts l) := by
  have hm : (if 5 ≤ m.toNat then 0 else m.toNat) = m.toNat := if_neg (by omega)
  refine ⟨_, ?_, (ite_eq_or_eq (m.toNat = 4) _ _)⟩
  rw [exec_lnkModeWrite, execLnkModeWrite]
  dsimp only
  rw [hm, if_neg (by simp [hc]), if_neg (by simp [hf, hu]), if_neg (by simp [hb]), if_pos (by omega)]
  rfl

/-- The link with its counters at 0. -/
def Link.countersCleared (k : Link) : Link :=
  { k with
    cntCrc := 0, code0 := 0, code1 := 0, cntRetry := 0, fast := 0, full := 0, downs := 0, losses := 0
    prbsErr0 := 0, prbsErr1 := 0, prbsBits := 0 }

theorem execLnkClrCnt_eq (hc : s.dev.mode.configured = true) : exec (.lnkClrCnt l) s = .next
    (if ((s.updLink l Link.countersCleared).link l).st = .test ∧ ((s.updLink l Link.countersCleared).lnkMode l ≠ 4 ∨
        ((s.updLink l Link.countersCleared).link l).loopAcked = true)
      then (s.updLink l Link.countersCleared).prbsCounts l else s.updLink l Link.countersCleared) := if_pos hc

theorem execLnkModeWrite_of_normal (hc : s.dev.mode.configured = true) (hm : m.toNat = 0 ∨ 5 ≤ m.toNat) (hf : (s.link l).st ≠ .fastRt)
    (hu : (s.link l).st ≠ .fullRt) : exec (.lnkModeWrite l m p) s = .next
      (if s.lnkMode l ≠ 0 then ((s.modeWritten l 0 p.toNat).setLink l (s.link l).toOff).startLink l else s.modeWritten l 0 p.toNat) := by
  have hz : (if 5 ≤ m.toNat then 0 else m.toNat) = 0 := by split <;> omega
  rw [exec_lnkModeWrite, execLnkModeWrite]
  dsimp only
  rw [hz, if_neg (by simp [hc]), if_neg (by simp [hf, hu]), if_neg (by simp), if_neg (by simp), apply_ite Host.Outcome.next]
  rfl

end

/-- Settles O36: each command writes its field of LNK_CTL or is refused, and starts, stops or retrains its link. -/
theorem linkRegisters : Obligations.LinkRegisters := by
  refine ⟨fun l s hc => ?_, fun l s hc hb => ?_, fun l s hc hb => ?_, fun l m p s hc hr => ?_, fun l m p s hc h1 h4 hf hu hb => ?_,
    fun l m p s hc hm hf hu h0 => ?_, fun l m p s hc hm hf hu h0 he hd => ?_, fun l s hc hst => ?_, fun l s hc hst => ?_,
    fun id v tag s hc hn => ?_, fun id v tag s hc hn => ?_, fun l id v tag m p c s hc hmem => ?_⟩
  · have hw : s.keeps (s.setLnkFld l 0 1 1) [.regs] := setLnkFld_keeps
    have hlink : (s.setLnkFld l 0 1 1).link l = s.link l := rfl
    refine Runs.of (if_pos hc) ⟨?_, fun r hr => ?_, otherLinks_trans setLnkFld_others startLink_others, fun hst => ?_,
      fun hst hm hd => ?_, keeps_trans (keeps_mono hw (by decide)) (keeps_mono startLink_keeps (by decide))⟩
    · rw [rfld_of_keeps startLink_keeps (by decide), setLnkFld_self (by decide)]
      rfl
    · rw [reg_of_keeps startLink_keeps (by decide), setLnkFld_reg_ne hr]
    · rw [startLink_of_notOff (by rw [hlink]; exact hst), hlink]
    · refine startLink_of_off (by rw [hlink]; exact hst) (mayTrain_iff.2 ⟨⟨⟨?_, ?_⟩, hd⟩, hc⟩)
      · rw [State.lnkEnabled, setLnkFld_self (by decide)]
        rfl
      · rw [State.lnkMode, setLnkFld_disjoint (by decide) (by decide)]
        exact hm
  · exact Runs.of ((if_neg (by simp [hc])).trans (if_pos hb)) ⟨rfl, report_keeps⟩
  · obtain ⟨hlink, hother, -, hk⟩ := changeLink_frame (s.setLnkFld l 0 1 0) l ((s.setLnkFld l 0 1 0).link l).toOff
    have hw : s.keeps (s.setLnkFld l 0 1 0) [.regs] := setLnkFld_keeps
    refine Runs.of ((if_neg (by simp [hc])).trans (if_neg (by simp [hb]))) ⟨?_, fun r hr => ?_, hlink, by rw [hlink]; rfl,
      otherLinks_trans setLnkFld_others hother, keeps_trans (keeps_mono hw (by decide)) (keeps_mono hk (by decide))⟩
    · rw [rfld_of_keeps hk (by decide), setLnkFld_self (by decide)]
      rfl
    · rw [reg_of_keeps hk (by decide), setLnkFld_reg_ne hr]
  · refine Runs.of ?_ ⟨rfl, report_keeps⟩
    rw [exec_lnkModeWrite, execLnkModeWrite]
    dsimp only
    rw [if_neg (by simp [hc])]
    obtain hr | hr | ⟨h1, h4, hb⟩ := hr
    · exact if_pos (Or.inl hr)
    · exact if_pos (Or.inr hr)
    · rw [if_neg (by omega : ¬ 5 ≤ m.toNat), if_pos (show m.toNat ≠ 0 ∧ s.testBarred l = true from ⟨by omega, hb⟩), ite_self]
  · obtain ⟨t, hexec, ht⟩ := execLnkModeWrite_of_test (p := p) hc h1 h4 hf hu hb
    obtain ⟨hmode, hprbs, -⟩ := modeWritten_fields (s := s) (l := l) m.toNat p.toNat
    have hw : s.keeps (s.modeWritten l m.toNat p.toNat) [.regs] := modeWritten_keeps
    have hother : s.otherLinks (s.modeWritten l m.toNat p.toNat) l := modeWritten_others
    generalize s.modeWritten l m.toNat p.toNat = u at ht hmode hprbs hw hother
    obtain ⟨hlink, hou, -, hk⟩ := changeLink_frame u l { (s.link l).toOff with st := .test }
    have hm8 : m.toNat % 8 = m.toNat := Nat.mod_eq_of_lt m.isLt
    have hp4 : p.toNat % 4 = p.toNat := Nat.mod_eq_of_lt p.isLt
    have hfin : (t.link l).st = .test ∧ u.otherLinks t l ∧ u.keeps t [.lat, .freeCtr] := by
      obtain ht | ht := ht <;> subst ht
      · exact ⟨by rw [hlink], hou, keeps_mono hk (by decide)⟩
      · obtain ⟨⟨a, b, n, hl⟩, hop, hkp⟩ := prbsCounts_frame (u.changeLink l { (s.link l).toOff with st := .test }) l
        exact ⟨by rw [hl, hlink], otherLinks_trans hou hop, keeps_trans (keeps_mono hk (by decide)) hkp⟩
    obtain ⟨hst, hot, hkt⟩ := hfin
    refine Runs.of hexec ⟨hst, ?_, ?_, otherLinks_trans hother hot, keeps_trans (keeps_mono hw (by decide)) (keeps_mono hkt (by decide))⟩
    · rw [State.lnkMode, rfld_of_keeps hkt (by decide)]
      exact hmode.trans hm8
    · rw [rfld_of_keeps hkt (by decide), hprbs, hp4]
  · obtain ⟨hmode, hprbs, -⟩ := modeWritten_fields (s := s) (l := l) 0 p.toNat
    refine Runs.of ((execLnkModeWrite_of_normal hc hm hf hu).trans (congrArg Host.Outcome.next (if_neg (not_not.2 h0)))) ⟨hmode, ?_, modeWritten_keeps⟩
    exact hprbs.trans (Nat.mod_eq_of_lt p.isLt)
  · obtain ⟨hmode, hprbs, hen⟩ := modeWritten_fields (s := s) (l := l) 0 p.toNat
    have hw : s.keeps (s.modeWritten l 0 p.toNat) [.regs] := modeWritten_keeps
    have hws : (s.modeWritten l 0 p.toNat).keeps ((s.modeWritten l 0 p.toNat).setLink l (s.link l).toOff) [.lat] := setLink_lat_keeps
    have hsk : ((s.modeWritten l 0 p.toNat).setLink l (s.link l).toOff).keeps
      (((s.modeWritten l 0 p.toNat).setLink l (s.link l).toOff).startLink l) [.lat] := startLink_keeps
    have hlat := keeps_trans hws hsk
    have hmay : ((s.modeWritten l 0 p.toNat).setLink l (s.link l).toOff).mayTrain l = true := by
      refine mayTrain_iff.2 ⟨⟨⟨?_, ?_⟩, hd⟩, hc⟩
      · rw [State.lnkEnabled, rfld_of_keeps hws (by decide)]
        exact hen.trans he
      · rw [State.lnkMode, rfld_of_keeps hws (by decide)]
        exact hmode
    refine Runs.of ((execLnkModeWrite_of_normal hc hm hf hu).trans (congrArg Host.Outcome.next (if_pos h0))) ⟨?_, ?_, ?_, ?_,
      keeps_trans (keeps_mono hw (by decide)) (keeps_mono hlat (by decide))⟩
    · exact startLink_of_off (by rw [State.link_setLink]; rfl) hmay
    · rw [State.lnkMode, rfld_of_keeps hlat (by decide)]
      exact hmode
    · rw [rfld_of_keeps hlat (by decide), hprbs]
      exact Nat.mod_eq_of_lt p.isLt
    · exact otherLinks_trans (otherLinks_trans modeWritten_others otherLinks_setLink) startLink_others
  · have hlink : (s.updLink l Link.countersCleared).link l = (s.link l).countersCleared := State.link_updLink ..
    refine Runs.of ((execLnkClrCnt_eq hc).trans (congrArg Host.Outcome.next (if_neg ?_))) ⟨hlink, otherLinks_updLink, updLink_keeps⟩
    rw [hlink]
    exact fun h => hst h.1
  · have hlink : (s.updLink l Link.countersCleared).link l = (s.link l).countersCleared := State.link_updLink ..
    have hother : s.otherLinks (s.updLink l Link.countersCleared) l := otherLinks_updLink
    have hk : s.keeps (s.updLink l Link.countersCleared) [.lat] := updLink_keeps
    refine Runs.of (execLnkClrCnt_eq hc) ?_
    generalize s.updLink l Link.countersCleared = u at hlink hother hk
    split
    · obtain ⟨⟨a, b, n, hl⟩, hop, hkp⟩ := prbsCounts_frame u l
      rw [hlink] at hl
      exact ⟨⟨a, b, n, hl⟩, otherLinks_trans hother hop, keeps_trans (keeps_mono hk (by decide)) hkp⟩
    · exact ⟨⟨0, 0, 0, hlink⟩, hother, keeps_mono hk (by decide)⟩
  · exact Runs.of ((if_neg (by simp [hc])).trans (if_pos hn)) ⟨rfl, report_keeps⟩
  · have hw : s.keeps (s.setReg 0x100000 (id.val + 256 * b2n v + 2 ^ 16 * tag.toNat)) [.regs] := setReg_keeps
    have hval : id.val + 256 * b2n v + 2 ^ 16 * tag.toNat < 2 ^ 32 := by
      have hb : b2n v ≤ 1 := by cases v <;> decide
      have := id.isLt
      have := tag.isLt
      omega
    have hreg : (s.setReg 0x100000 (id.val + 256 * b2n v + 2 ^ 16 * tag.toNat)).reg 0x100000 = id.val + 256 * b2n v + 2 ^ 16 * tag.toNat := by
      rw [State.reg_setReg_self, Nat.mod_eq_of_lt hval]
    have hregs := fun r (hr : r ≠ 0x100000) => State.reg_setReg_ne s (id.val + 256 * b2n v + 2 ^ 16 * tag.toNat) hr
    have hlinks : ∀ l, (s.setReg 0x100000 (id.val + 256 * b2n v + 2 ^ 16 * tag.toNat)).link l = s.link l := fun _ => rfl
    refine Runs.of (t := ((List.range 144).foldl State.retrainOne (s.setReg 0x100000 (id.val + 256 * b2n v + 2 ^ 16 * tag.toNat))).nbrSince
      (s.setReg 0x100000 (id.val + 256 * b2n v + 2 ^ 16 * tag.toNat)).nbrSet) ((if_neg (by simp [hc])).trans (if_neg (by simp [hn]))) ?_
    generalize s.setReg 0x100000 (id.val + 256 * b2n v + 2 ^ 16 * tag.toNat) = u at hw hreg hregs hlinks
    have hfold := keeps_foldl [.lat] State.retrainOne (fun _ _ => retrainOne_keeps) (List.range 144) u
    have hmem := fun l => foldl_retrainOne_mem (List.range 144) List.nodup_range u (l := l)
    generalize (List.range 144).foldl State.retrainOne u = w at hfold hmem
    have hlat := keeps_trans hfold (nbrSince_keeps (old := u.nbrSet))
    refine ⟨(reg_of_keeps hlat (by decide) _).trans hreg, fun r hr => (reg_of_keeps hlat (by decide) _).trans (hregs r hr), fun l hl => ?_,
      keeps_trans (keeps_mono hw (by decide)) (keeps_mono hlat (by decide))⟩
    rw [(State.speaks.nbrSince w u.nbrSet).link, hmem l (List.mem_range.2 hl), retrainOne_self, hlinks]
  · simp only [List.mem_cons, List.not_mem_nil, or_false] at hmem
    obtain rfl | rfl | rfl | rfl | rfl | rfl := hmem
    · exact Runs.of (if_neg (by simp [hc])) rfl
    · exact Runs.of (if_pos (by simp [hc])) rfl
    · exact Runs.of (if_pos (by simp [hc])) rfl
    · exact Runs.of (if_neg (by simp [hc])) rfl
    · exact Runs.of (if_neg (by simp [hc])) rfl
    · exact Runs.of (if_pos (by simp [hc])) rfl

end Sys2Proof.Machine
end

section
/-!
PROOF. The passage of a packet at its node: what its command does before its own operation (R221, R314, R315, R317, R324).
-/
namespace Sys2Proof.Machine

/-! ### What the routers count -/

section
variable {s : State} {p : Pkt} {ce : Option (BitVec 12)}

theorem passed_keeps : s.keeps (s.passed p ce) [.noc, .fm] := by
  cases ce <;> simp [State.keeps_iff, State.passed, State.report]

theorem passed_keeps_of_none : s.keeps (s.passed p none) [.noc] := by
  simp [State.keeps_iff, State.passed]

theorem passed_noc (s : State) (p : Pkt) (ce : Option (BitVec 12)) : (s.passed p ce).noc.pkts = removeFirst (fun q => q = p) s.noc.pkts ∧
    (s.passed p ce).noc.maxClass = max s.noc.maxClass (min p.age 15) ∧ (s.passed p ce).noc.damaged = s.noc.damaged := by
  cases ce <;> exact ⟨rfl, rfl, rfl⟩

theorem arrive_dropped (f : FaultMgr) (r : Report) : (f.arrive r).dropped = f.dropped := by
  simp only [FaultMgr.arrive, apply_ite FaultMgr.dropped, ite_self]

theorem passed_fm (s : State) (p : Pkt) (ce : Option (BitVec 12)) : (s.passed p ce).fm.remap = s.fm.remap ∧
    (s.passed p ce).fm.dropped = s.fm.dropped := by
  cases ce with
  | none => exact ⟨rfl, rfl⟩
  | some x => exact ⟨(arrive_sameCounts ..).2.2.1, arrive_dropped ..⟩

theorem tileFate_congr {t : State} (h : t.fm.remap = s.fm.remap) (p : Pkt) : t.tileFate p = s.tileFate p := by
  have hr : t.remap = s.remap := funext fun l => by rw [State.remap, h, State.remap]
  have hp : t.ltileOfPhys = s.ltileOfPhys := funext fun n => by rw [State.ltileOfPhys, hr, State.ltileOfPhys]
  have hn : t.nodeTile = s.nodeTile := funext fun n => by rw [State.nodeTile, hp]; rfl
  have hpt : t.ptile = s.ptile := funext fun l => by rw [State.ptile, hr]; rfl
  rw [State.tileFate, hn, hr, hpt]
  rfl

theorem leaveBySide_keeps : s.keeps (s.leaveBySide p) [.noc, .lat] := by
  unfold State.leaveBySide
  split
  · simp [State.keeps_iff]
  · exact keeps_ite (by simp [State.keeps_iff, State.gets]) keeps_refl

/-! ### The passage -/

variable {vc op : Nat} {f : State → Option Nat → State}

theorem carry_of_behind (h : comesFirst pktWay p s.noc.pkts = false) : s.carry p vc op ce f = s := if_pos (Or.inr (Or.inr h))

theorem carry_of_other (hi : pktIs p vc op = false) (hr : opReserved p = false) : s.carry p vc op ce f = s := by
  by_cases hb : 0xD3 ≤ p.dest ∨ s.dev.mode ∈ [Mode.off, .keep, .reset] ∨ comesFirst pktWay p s.noc.pkts = false
  · exact if_pos hb
  · exact (if_neg hb).trans ((if_neg (by simp [hr])).trans (if_pos hi))

theorem carry_of_reserved (hr : opReserved p = true) (hd : p.dest < 0xD3) (hm : s.dev.mode ∉ [Mode.off, .keep, .reset])
    (hf : comesFirst pktWay p s.noc.pkts = true) : s.carry p vc op ce f =
      { s.passed p ce with noc := { (s.passed p ce).noc with damaged := satInc (s.passed p ce).noc.damaged 0xFFFF } } := by
  unfold State.carry
  rw [if_neg (by simp only [hm, hf]; simp; omega), if_pos hr]

/-- What a packet that has passed meets at its node, where `f` is its command's own effect. -/
def State.atNode (s : State) (p : Pkt) (f : State → Option Nat → State) : State :=
  if p.damaged then s.damagedPkt p
  else if p.dest < 200 then
    match s.tileFate p with
    | .here l => f s l
    | .forward n => { s with noc := { s.noc with pkts := s.noc.pkts ++ [{ p with dest := n }] } }
    | .drop => s.dropPkt
  else if p.dest < 0xCC then s.leaveBySide p
  else f s none

/-- The command's own packet, first of its way, at a node of a module that is on. -/
theorem carry_of_own (hi : pktIs p vc op = true) (hr : opReserved p = false) (hd : p.dest < 0xD3)
    (hm : s.dev.mode ∉ [Mode.off, .keep, .reset]) (hf : comesFirst pktWay p s.noc.pkts = true) : s.carry p vc op ce f =
      (s.passed p ce).atNode p f := by
  unfold State.carry
  rw [if_neg (by simp only [hm, hf]; simp; omega), if_neg (by simp [hr]), if_neg (by simp [hi])]
  rfl

theorem atNode_of_damaged (h : p.damaged = true) : s.atNode p f = s.damagedPkt p := if_pos h

section
variable (h : p.damaged = false)
include h

theorem atNode_of_here {l : Option Nat} (hd : p.dest < 200) (hl : s.tileFate p = .here l) : s.atNode p f = f s l := by
  rw [State.atNode, if_neg (by simp [h]), if_pos hd, hl]
theorem atNode_of_forward {n : Nat} (hd : p.dest < 200) (hn : s.tileFate p = .forward n) :
    s.atNode p f = { s with noc := { s.noc with pkts := s.noc.pkts ++ [{ p with dest := n }] } } := by
  rw [State.atNode, if_neg (by simp [h]), if_pos hd, hn]
theorem atNode_of_drop (hd : p.dest < 200) (hn : s.tileFate p = .drop) : s.atNode p f = s.dropPkt := by
  rw [State.atNode, if_neg (by simp [h]), if_pos hd, hn]
theorem atNode_of_side (hlo : 200 ≤ p.dest) (hhi : p.dest < 0xCC) : s.atNode p f = s.leaveBySide p := by
  rw [State.atNode, if_neg (by simp [h]), if_neg (by omega), if_pos hhi]
theorem atNode_of_hub (hlo : 0xCC ≤ p.dest) : s.atNode p f = f s none := by
  rw [State.atNode, if_neg (by simp [h]), if_neg (by omega), if_neg (by omega)]

end

end

/-! ### The commands -/

/-- Every command of a packet with its virtual channel and operation. -/
def pktCmds (p : Pkt) (ce : Option (BitVec 12)) (err : ErrFound) : List (Instr × Nat × Nat) :=
  [(.pktReqWrite p ce, 0, 1), (.pktReqRead p ce err, 0, 2), (.pktReqRegRd p ce, 0, 4), (.pktReqRegWr p ce, 0, 5),
   (.pktRspData p ce, 1, 1), (.pktRspRegData p ce, 1, 3), (.pktRspError p ce, 1, 0xF), (.pktMgtStop p ce, 3, 5), (.pktMgtFault p ce, 3, 6)]

/-- The hub may touch the store that a request to write or to read names. -/
def State.hubFree (s : State) (p : Pkt) (vc op : Nat) : Prop :=
  ((vc, op) = (0, 1) → s.hubMayTouch p true = true) ∧ ((vc, op) = (0, 2) → s.hubMayTouch p false = true)

section
variable {p : Pkt} {ce : Option (BitVec 12)} {err : ErrFound} {x : Instr × Nat × Nat}

/-- Each command is a passage, but for a request that must wait for its tile. -/
theorem pktCmds_carry (h : x ∈ pktCmds p ce err) (s : State) : ∃ f, (exec x.1 s = .next s ∨ exec x.1 s = .next (s.carry p x.2.1 x.2.2 ce f)) ∧
    (s.hubFree p x.2.1 x.2.2 → exec x.1 s = .next (s.carry p x.2.1 x.2.2 ce f)) := by
  simp only [pktCmds, List.mem_cons, List.not_mem_nil, or_false] at h
  obtain rfl | rfl | rfl | rfl | rfl | rfl | rfl | rfl | rfl := h
  · refine ⟨_, ?_, fun hf => if_neg (by simp [hf.1 rfl])⟩
    exact ite_eq_or_eq ..
  · refine ⟨_, ?_, fun hf => if_neg (by simp [hf.2 rfl])⟩
    exact ite_eq_or_eq ..
  · exact ⟨_, Or.inr rfl, fun _ => rfl⟩
  · exact ⟨_, Or.inr rfl, fun _ => rfl⟩
  · exact ⟨_, Or.inr rfl, fun _ => rfl⟩
  · exact ⟨_, Or.inr rfl, fun _ => rfl⟩
  · exact ⟨_, Or.inr rfl, fun _ => rfl⟩
  · exact ⟨_, Or.inr rfl, fun _ => rfl⟩
  · exact ⟨_, Or.inr rfl, fun _ => rfl⟩

/-- No command's operation is a reserved one. -/
theorem not_opReserved_of_pktCmds (h : x ∈ pktCmds p ce err) (hi : pktIs p x.2.1 x.2.2 = true) : opReserved p = false := by
  obtain ⟨hvc, hop⟩ := of_decide_eq_true hi
  simp only [pktCmds, List.mem_cons, List.not_mem_nil, or_false] at h
  obtain rfl | rfl | rfl | rfl | rfl | rfl | rfl | rfl | rfl := h <;> simp only at hvc hop <;> rw [opReserved, hvc, hop] <;> rfl

theorem hubFree_of_own {s : State} (hi : pktIs p x.2.1 x.2.2 = true) (hw : pktIs p 0 1 = true → s.hubMayTouch p true = true)
    (hr : pktIs p 0 2 = true → s.hubMayTouch p false = true) : s.hubFree p x.2.1 x.2.2 := by
  constructor
  · intro he
    obtain ⟨hv, ho⟩ := Prod.mk.inj he
    exact hw (by rw [← hi, hv, ho])
  · intro he
    obtain ⟨hv, ho⟩ := Prod.mk.inj he
    exact hr (by rw [← hi, hv, ho])

theorem runs_of_carry_eq (h : x ∈ pktCmds p ce err) {s : State} (hc : ∀ f, s.carry p x.2.1 x.2.2 ce f = s) : Runs x.1 s (fun t => t = s) := by
  obtain ⟨f, hexec, -⟩ := pktCmds_carry h s
  rw [hc f, or_self] at hexec
  exact Runs.of hexec rfl

end

/-- Settles O37: every packet command is one passage, whose outcomes are those of its node. -/
theorem packetPassage : Obligations.PacketPassage := by
  refine ⟨fun p ce err x s hx => ⟨fun hi hr => ?_, fun hf => ?_, fun hr hd hm hf hw hrd => ?_, fun hi hd hm hdam hr hf hw hrd => ?_,
    fun hi hm hdam hf hw hrd => ⟨fun n hd hn => ?_, fun hd hn => ?_, fun hlo hhi => ?_⟩⟩, fun p ce s => ?_, fun p s ht => ?_⟩
  · exact runs_of_carry_eq hx fun f => carry_of_other hi hr
  · exact runs_of_carry_eq hx fun f => carry_of_behind hf
  · obtain ⟨f, -, hexec⟩ := pktCmds_carry hx s
    obtain ⟨-, -, hdam⟩ := passed_noc s p ce
    have hk : s.keeps (s.passed p ce) [.noc, .fm] := passed_keeps
    refine Runs.of ((hexec ⟨fun _ => hw, fun _ => hrd⟩).trans (congrArg Host.Outcome.next (carry_of_reserved hr hd hm hf))) ⟨rfl, ?_, ?_⟩
    · rw [← hdam]
    · exact keeps_trans hk (by simp [State.keeps_iff])
  · obtain ⟨f, -, hexec⟩ := pktCmds_carry hx s
    exact Runs.of ((hexec (hubFree_of_own hi hw hrd)).trans (congrArg Host.Outcome.next ((carry_of_own hi hr hd hm hf).trans (atNode_of_damaged hdam)))) rfl
  · obtain ⟨f, -, hexec⟩ := pktCmds_carry hx s
    have hfate : (s.passed p ce).tileFate p = .forward n := (tileFate_congr (passed_fm s p ce).1 p).trans hn
    have hcarry := carry_of_own (ce := ce) (f := f) hi (not_opReserved_of_pktCmds hx hi) (by omega) hm hf
    rw [atNode_of_forward hdam hd hfate] at hcarry
    refine Runs.of ((hexec (hubFree_of_own hi hw hrd)).trans (congrArg Host.Outcome.next hcarry)) ⟨rfl, ?_⟩
    have hk : s.keeps (s.passed p ce) [.noc, .fm] := passed_keeps
    exact keeps_trans hk (by simp [State.keeps_iff])
  · obtain ⟨f, -, hexec⟩ := pktCmds_carry hx s
    have hfate : (s.passed p ce).tileFate p = .drop := (tileFate_congr (passed_fm s p ce).1 p).trans hn
    have hcarry := carry_of_own (ce := ce) (f := f) hi (not_opReserved_of_pktCmds hx hi) (by omega) hm hf
    rw [atNode_of_drop hdam hd hfate] at hcarry
    refine Runs.of ((hexec (hubFree_of_own hi hw hrd)).trans (congrArg Host.Outcome.next hcarry)) ⟨?_, ?_⟩
    · exact congrArg (satInc · 0xFFFFFFFF) (passed_fm s p ce).2
    · have hk : s.keeps (s.passed p ce) [.noc, .fm] := passed_keeps
      exact keeps_trans hk (by simp [State.keeps_iff, State.dropPkt])
  · obtain ⟨f, -, hexec⟩ := pktCmds_carry hx s
    have hcarry := carry_of_own (ce := ce) (f := f) hi (not_opReserved_of_pktCmds hx hi) (by omega) hm hf
    rw [atNode_of_side hdam hlo hhi] at hcarry
    refine Runs.of ((hexec (hubFree_of_own hi hw hrd)).trans (congrArg Host.Outcome.next hcarry)) ⟨rfl, ?_⟩
    exact keeps_trans (keeps_mono passed_keeps (by decide)) (keeps_mono leaveBySide_keeps (by decide))
  · obtain ⟨hpkts, hmax, -⟩ := passed_noc s p ce
    refine ⟨hpkts, hmax, fun hce => ?_, passed_keeps⟩
    subst hce
    exact passed_keeps_of_none
  · have hd : s.damagedPkt p = (({ s with noc := { s.noc with damaged := satInc s.noc.damaged 0xFFFF } }).report 0x0601 clsMasked p.src none
        (p.vc + 2 ^ 8 * p.dest + 2 ^ 16 * p.src)).gets (if p.vc = 1 then p.dest else p.src) p.tag stPathDown [] := by
      unfold State.damagedPkt
      dsimp only
      rw [if_pos ht, if_pos ht]
    rw [hd]
    exact ⟨rfl, rfl, rfl, by simp [State.keeps_iff, State.gets, State.report]⟩

end Sys2Proof.Machine
end

section
/-!
PROOF. Packets at their node: requests to stores and registers, their answers, and management reports (R218, R317, R318, R330).
-/
namespace Sys2Proof.Machine

section
variable {s : State} {p : Pkt} {ce : Option (BitVec 12)} {vc op : Nat} {f : State → Option Nat → State}

/-- The hub store's contents, what requesters have been told and the controllers' stops, which no passage touches. -/
theorem passed_contents (s : State) (p : Pkt) (ce : Option (BitVec 12)) : (s.passed p ce).noc.hub = s.noc.hub ∧
    (s.passed p ce).noc.hubPoison = s.noc.hubPoison ∧ (s.passed p ce).noc.got = s.noc.got ∧ (s.passed p ce).noc.stops = s.noc.stops := by
  cases ce <;> exact ⟨rfl, rfl, rfl, rfl⟩

theorem nodeTile_congr {t : State} (h : t.fm.remap = s.fm.remap) (n : Nat) : t.nodeTile n = s.nodeTile n := by
  have hr : t.remap = s.remap := funext fun l => by rw [State.remap, h, State.remap]
  have hp : t.ltileOfPhys = s.ltileOfPhys := funext fun n => by rw [State.ltileOfPhys, hr, State.ltileOfPhys]
  rw [State.nodeTile, hp]
  rfl

/-- An operation of Table 11-3 that some command performs. -/
def cmdOps : List (Nat × Nat) := [(0, 1), (0, 2), (0, 4), (0, 5), (1, 1), (1, 3), (1, 0xF), (3, 5), (3, 6)]

theorem not_opReserved_of_cmdOps (h : (vc, op) ∈ cmdOps) (hi : pktIs p vc op = true) : opReserved p = false := by
  obtain ⟨hvc, hop⟩ := of_decide_eq_true hi
  rw [opReserved, hvc, hop]
  simp only [cmdOps, List.mem_cons, List.not_mem_nil, or_false, Prod.mk.injEq] at h
  obtain ⟨rfl, rfl⟩ | ⟨rfl, rfl⟩ | ⟨rfl, rfl⟩ | ⟨rfl, rfl⟩ | ⟨rfl, rfl⟩ | ⟨rfl, rfl⟩ | ⟨rfl, rfl⟩ | ⟨rfl, rfl⟩ | ⟨rfl, rfl⟩ := h <;> rfl

/-- A whole packet at the node of a tile that takes it. -/
theorem carry_of_here {l : Option Nat} (ho : (vc, op) ∈ cmdOps) (hi : pktIs p vc op = true) (hd : p.dest < 200)
    (hm : s.dev.mode ∉ [Mode.off, .keep, .reset]) (hdam : p.damaged = false) (hf : comesFirst pktWay p s.noc.pkts = true)
    (hl : s.tileFate p = .here l) : s.carry p vc op ce f = f (s.passed p ce) l := by
  have hfate : (s.passed p ce).tileFate p = .here l := (tileFate_congr (passed_fm s p ce).1 p).trans hl
  rw [carry_of_own hi (not_opReserved_of_cmdOps ho hi) (by omega) hm hf,
    atNode_of_here hdam hd hfate]

/-- A whole packet at a node of the hub. -/
theorem carry_of_hub (ho : (vc, op) ∈ cmdOps) (hi : pktIs p vc op = true) (hlo : 0xCC ≤ p.dest) (hd : p.dest < 0xD3)
    (hm : s.dev.mode ∉ [Mode.off, .keep, .reset]) (hdam : p.damaged = false) (hf : comesFirst pktWay p s.noc.pkts = true) :
    s.carry p vc op ce f = f (s.passed p ce) none := by
  rw [carry_of_own hi (not_opReserved_of_cmdOps ho hi) hd hm hf, atNode_of_hub hdam hlo]

theorem answer_keeps {o : Nat} {b : Bool} {bs : List Byte} : s.keeps (s.answer p o b bs) [.noc] := by
  simp [State.keeps_iff, State.answer]

theorem gets_keeps {n g x : Nat} {bs : List Byte} : s.keeps (s.gets n g x bs) [.noc] := by
  simp [State.keeps_iff, State.gets]

theorem answer_mem (s : State) (p : Pkt) (o : Nat) (b : Bool) (bs : List Byte) : ∃ q ∈ (s.answer p o b bs).noc.pkts, q.vc = 1 ∧ q.op = o ∧
    q.dest = p.src ∧ q.src = p.dest ∧ q.tag = p.tag ∧ q.ten = p.ten ∧ q.poison = b ∧ q.body = bs :=
  ⟨_, List.mem_append_right _ (List.mem_singleton_self _), rfl, rfl, rfl, rfl, rfl, rfl, rfl, rfl⟩

/-- What a passage and then a change of the network and the fault manager keep. -/
theorem keeps_passed_then {t : State} (h : (s.passed p ce).keeps t [.noc]) : s.keeps t [.noc, .fm] :=
  keeps_trans passed_keeps (keeps_mono h (by decide))

/-! ### Requests to a store -/

/-- What PKT_REQ_WRITE does at its node. -/
def State.writeAt (p : Pkt) (s : State) (l : Option Nat) : State :=
  if pktToHub p then (if pktHubOk p then s.hubWrite p else s.answerError p)
  else match pktStore p, l with
    | some z, some l =>
      if p.poison then s.poisonedLoad p.ten else s.updTile l (fun t => t.setStoreBytes z.1 z.2.2 z.2.1 (pktLines p))
    | _, _ => s.answerError p

/-- What PKT_REQ_READ does at its node. -/
def State.readAt (p : Pkt) (err : ErrFound) (s : State) (l : Option Nat) : State :=
  if pktToHub p then (if pktHubOk p then s.hubRead p err else s.answerError p)
  else match pktStore p, l with
    | some z, some l =>
      let r := s.bankRead l (z.2.1 / 8) (if z.1 = 8 then err else .clean)
      let t := r.2.tile l
      r.2.answerData p r.1 ((List.range (64 * pktCount p)).map (fun i => t.storeByte z.1 z.2.2 (z.2.1 + i)))
    | _, _ => s.answerError p

theorem execPktReqWrite_of_free (h : s.hubMayTouch p true = true) :
    exec (.pktReqWrite p ce) s = .next (s.carry p 0 1 ce (State.writeAt p)) := if_neg (by simp [h])
theorem execPktReqRead_of_free {err : ErrFound} (h : s.hubMayTouch p false = true) :
    exec (.pktReqRead p ce err) s = .next (s.carry p 0 2 ce (State.readAt p err)) := if_neg (by simp [h])

theorem pktToHub_of_hub (hlo : 0xCC ≤ p.dest) (hhi : p.dest < 0xD0) : pktToHub p = true := decide_eq_true ⟨hlo, hhi⟩
theorem pktToHub_of_tile (hd : p.dest < 200) : pktToHub p = false := decide_eq_false (by omega)

theorem writeAt_of_hub (hlo : 0xCC ≤ p.dest) (hhi : p.dest < 0xD0) (hok : pktHubOk p = true) (l : Option Nat) :
    s.writeAt p l = s.hubWrite p := (if_pos (pktToHub_of_hub hlo hhi)).trans (if_pos hok)
theorem readAt_of_hub (hlo : 0xCC ≤ p.dest) (hhi : p.dest < 0xD0) (hok : pktHubOk p = true) (err : ErrFound) (l : Option Nat) :
    s.readAt p err l = s.hubRead p err := (if_pos (pktToHub_of_hub hlo hhi)).trans (if_pos hok)

theorem writeAt_of_store {z : Nat × Nat × Nat} {l : Nat} (hd : p.dest < 200) (hz : pktStore p = some z) (hp : p.poison = false) :
    s.writeAt p (some l) = s.updTile l (fun t => t.setStoreBytes z.1 z.2.2 z.2.1 (pktLines p)) := by
  unfold State.writeAt
  rw [if_neg (by simp [pktToHub_of_tile hd]), hz, hp]
  rfl
theorem writeAt_of_none {l : Option Nat} (hd : p.dest < 200) (hz : pktStore p = none) : s.writeAt p l = s.answerError p := by
  unfold State.writeAt
  rw [if_neg (by simp [pktToHub_of_tile hd]), hz]
theorem readAt_of_store {z : Nat × Nat × Nat} {l : Nat} {err : ErrFound} {r : Bool × State} (hd : p.dest < 200) (hz : pktStore p = some z)
    (hr : s.bankRead l (z.2.1 / 8) (if z.1 = 8 then err else .clean) = r) : s.readAt p err (some l) =
      r.2.answerData p r.1 ((List.range (64 * pktCount p)).map (fun i => (r.2.tile l).storeByte z.1 z.2.2 (z.2.1 + i))) := by
  unfold State.readAt
  rw [if_neg (by simp [pktToHub_of_tile hd]), hz, ← hr]
theorem readAt_of_none {l : Option Nat} {err : ErrFound} (hd : p.dest < 200) (hz : pktStore p = none) : s.readAt p err l = s.answerError p := by
  unfold State.readAt
  rw [if_neg (by simp [pktToHub_of_tile hd]), hz]

theorem hubMayTouch_of_none (hz : pktStore p = none) (wr : Bool) : s.hubMayTouch p wr = true := by
  unfold State.hubMayTouch
  rw [hz]

theorem hubWrite_frame (s : State) (p : Pkt) : (s.hubWrite p).noc.hub = s.noc.hub.writeBytes (pktAddr p) (pktLines p) ∧
    (p.poison = true → ∀ x ∈ pktHubLines p, x ∈ (s.hubWrite p).noc.hubPoison) ∧
    (p.poison = false → ∀ x ∈ pktHubLines p, x ∉ (s.hubWrite p).noc.hubPoison) ∧
    (∀ x, x ∉ pktHubLines p → (x ∈ (s.hubWrite p).noc.hubPoison ↔ x ∈ s.noc.hubPoison)) ∧ s.keeps (s.hubWrite p) [.noc] := by
  refine ⟨rfl, fun hp x hx => ?_, fun hp x hx => ?_, fun x hx => ?_, by simp [State.keeps_iff, State.hubWrite]⟩
  · simp [State.hubWrite, hp, hx]
  · simp [State.hubWrite, hp, hx]
  · cases hp : p.poison <;> simp [State.hubWrite, hp, hx]

end

/-- Settles O38: each packet's effect is that of its operation at the node, after the passage. -/
theorem packets : Obligations.Packets := by
  refine ⟨⟨fun p ce s hi hlo hhi hm hdam hf hw hok => ?_, fun p ce l z s hi hd hm hdam hf hl hw hz hp => ?_,
    fun p ce s hi hlo hhi hm hdam hf hr hok => ?_, fun p ce err l z s hi hd hm hdam hf hl hr hz hce => ?_,
    fun p ce l z s hi hd hm hdam hf hl hr hz h8 => ?_, fun p ce err l s hd hm hdam hf hl hz => ⟨fun hi => ?_, fun hi => ?_⟩,
    fun p ce l s hd hm hdam hf hl => ⟨fun hi => ?_, fun hi => ?_⟩, fun p s o b bs => ?_⟩,
    fun p ce s hlo hhi hm hdam hf => ⟨fun hi => ?_, fun hi => ?_, fun hi => ?_⟩, fun p ce s hd hm hdam hf hi => ?_,
    fun p ce l s hd hm hdam hf hi hn hb ht => ?_, fun p ce s hd hm hdam hf hi hn => ?_, fun s t l => ⟨rfl, rfl, rfl, rfl⟩⟩
  · obtain ⟨hhub, hpoison, -, -⟩ := passed_contents s p ce
    obtain ⟨h1, h2, h3, h4, h5⟩ := hubWrite_frame (s.passed p ce) p
    rw [hhub] at h1
    rw [hpoison] at h4
    refine Runs.of ((execPktReqWrite_of_free hw).trans (congrArg Host.Outcome.next
      ((carry_of_hub (by decide) hi hlo (by omega) hm hdam hf).trans (writeAt_of_hub hlo hhi hok none)))) ⟨h1, h2, h3, h4, keeps_passed_then h5⟩
  · have hk : s.keeps (s.passed p ce) [.noc, .fm] := passed_keeps
    refine Runs.of ((execPktReqWrite_of_free hw).trans (congrArg Host.Outcome.next
      ((carry_of_here (by decide) hi hd hm hdam hf hl).trans (writeAt_of_store hd hz hp)))) ⟨?_, ?_, ?_⟩
    · rw [State.tile_updTile, tile_of_keeps hk (by decide)]
    · exact otherTiles_trans (otherTiles_of_tiles (hk .tiles (by decide))) otherTiles_updTile
    · exact keeps_trans (keeps_mono hk (by decide)) (keeps_mono updTile_keeps (by decide))
  · obtain ⟨hhub, hpoison, -, -⟩ := passed_contents s p ce
    refine Runs.of ((execPktReqRead_of_free hr).trans (congrArg Host.Outcome.next
      ((carry_of_hub (by decide) hi hlo (by omega) hm hdam hf).trans (readAt_of_hub hlo hhi hok .clean none)))) ⟨?_, hhub, ?_⟩
    · rw [State.hubRead, hhub, hpoison]
    · exact keeps_passed_then answer_keeps
  · have hclean : (if z.1 = 8 then err else .clean) = ErrFound.clean := by
      obtain h | h := hce
      · exact if_neg h
      · rw [h, ite_self]
    have hk : s.keeps (s.passed p ce) [.noc, .fm] := passed_keeps
    refine Runs.of ((execPktReqRead_of_free hr).trans (congrArg Host.Outcome.next
      ((carry_of_here (by decide) hi hd hm hdam hf hl).trans (readAt_of_store (r := (false, s.passed p ce)) hd hz (by rw [hclean]; rfl))))) ⟨?_, ?_⟩
    · dsimp only
      rw [tile_of_keeps hk (by decide)]
    · exact keeps_passed_then answer_keeps
  · have hk : s.keeps (s.passed p ce) [.noc, .fm] := passed_keeps
    have hread : (s.passed p ce).bankRead l (z.2.1 / 8) (if z.1 = 8 then .single else .clean) =
        (false, (s.passed p ce).updTile l (fun t => t.countCe (z.2.1 / 8 / 8192))) := by
      rw [if_pos h8]
      rfl
    have htile : ((s.passed p ce).updTile l (fun t => t.countCe (z.2.1 / 8 / 8192))).tile l = (s.tile l).countCe (z.2.1 / 8 / 8192) := by
      rw [State.tile_updTile, tile_of_keeps hk (by decide)]
    have hother : s.otherTiles ((s.passed p ce).updTile l (fun t => t.countCe (z.2.1 / 8 / 8192))) l :=
      otherTiles_trans (otherTiles_of_tiles (hk .tiles (by decide))) otherTiles_updTile
    have hku : s.keeps ((s.passed p ce).updTile l (fun t => t.countCe (z.2.1 / 8 / 8192))) [.noc, .fm, .tiles] :=
      keeps_trans (keeps_mono hk (by decide)) (keeps_mono updTile_keeps (by decide))
    refine Runs.of ((execPktReqRead_of_free hr).trans (congrArg Host.Outcome.next
      ((carry_of_here (by decide) hi hd hm hdam hf hl).trans (readAt_of_store hd hz hread)))) ?_
    dsimp only
    generalize (s.passed p ce).updTile l (fun t => t.countCe (z.2.1 / 8 / 8192)) = u at htile hother hku
    obtain ⟨q, hq, hvc, hop, hdest, -, htag, -, hpo, -⟩ := answer_mem u p 1 false (zeros 7 ++ leBytes (pktAddr p) 8 ++ leBytes (pktCount p) 1 ++
      zeros 0x27 ++ (List.range (64 * pktCount p)).map (fun i => (u.tile l).storeByte z.1 z.2.2 (z.2.1 + i)))
    exact ⟨htile, ⟨q, hq, hvc, hop, hdest, htag, hpo⟩, hother, keeps_trans hku (keeps_mono answer_keeps (by decide))⟩
  · exact Runs.of ((execPktReqWrite_of_free (hubMayTouch_of_none hz true)).trans (congrArg Host.Outcome.next
      ((carry_of_here (by decide) hi hd hm hdam hf hl).trans (writeAt_of_none hd hz)))) rfl
  · exact Runs.of ((execPktReqRead_of_free (hubMayTouch_of_none hz false)).trans (congrArg Host.Outcome.next
      ((carry_of_here (by decide) hi hd hm hdam hf hl).trans (readAt_of_none hd hz)))) rfl
  · exact Runs.of (congrArg Host.Outcome.next ((carry_of_here (by decide) hi hd hm hdam hf hl).trans (if_pos hd))) ⟨_, rfl, rfl⟩
  · exact Runs.of (congrArg Host.Outcome.next ((carry_of_here (by decide) hi hd hm hdam hf hl).trans (if_pos hd))) rfl
  · exact ⟨List.length_append, answer_keeps, answer_mem s p o b bs⟩
  · obtain ⟨-, -, hgot, -⟩ := passed_contents s p ce
    refine Runs.of (congrArg Host.Outcome.next ((carry_of_hub (by decide) hi hlo hhi hm hdam hf).trans (if_neg (by simp; omega)))) ⟨?_, ?_⟩
    · rw [← hgot]
      rfl
    · exact keeps_passed_then gets_keeps
  · obtain ⟨-, -, hgot, -⟩ := passed_contents s p ce
    refine Runs.of (congrArg Host.Outcome.next (carry_of_hub (by decide) hi hlo hhi hm hdam hf)) ⟨?_, ?_⟩
    · rw [← hgot]
      rfl
    · exact keeps_passed_then gets_keeps
  · obtain ⟨-, -, hgot, -⟩ := passed_contents s p ce
    refine Runs.of (congrArg Host.Outcome.next (carry_of_hub (by decide) hi hlo hhi hm hdam hf))
      ⟨⟨if pktField p 9 1 = 2 then stRegion else if pktField p 9 1 = 1 then stDataUe else stOk, ?_, fun h => ?_, fun h => ?_⟩, ?_⟩
    · rw [← hgot]
      rfl
    · exact if_pos h
    · rw [h]
      rfl
    · exact keeps_passed_then gets_keeps
  · obtain ⟨-, -, -, hstops⟩ := passed_contents s p ce
    refine Runs.of (congrArg Host.Outcome.next ((carry_of_hub (by decide) hi (by omega) (by omega) hm hdam hf).trans (if_pos hd)))
      ⟨Map.get_set_self .., fun m hne => ?_, ?_⟩
    · rw [← hstops]
      exact Map.get_set_ne _ _ _ hne
    · have hk : s.keeps (s.passed p ce) [.noc, .fm] := passed_keeps
      exact keeps_trans hk (by simp [State.keeps_iff])
  · have hk : s.keeps (s.passed p ce) [.noc, .fm] := passed_keeps
    have hlt : (s.passed p ce).ltile l = s.ltile l := by
      have e : (s.passed p ce).sched = s.sched := hk .sched (by decide)
      rw [State.ltile, e, State.ltile]
    refine Runs.of (congrArg Host.Outcome.next ((carry_of_hub (by decide) hi (by omega) (by omega) hm hdam hf).trans ?_)) rfl
    rw [nodeTile_congr (passed_fm s p ce).1, hn, Option.filter_some, hlt, hb, ht, if_pos (by simp)]
    exact if_pos hd
  · refine Runs.of (congrArg Host.Outcome.next ((carry_of_hub (by decide) hi (by omega) (by omega) hm hdam hf).trans ?_)) ⟨rfl, passed_keeps⟩
    rw [nodeTile_congr (passed_fm s p ce).1, hn]
    rfl

end Sys2Proof.Machine
end

section
/-!
PROOF. How the hub performs a deep command: its conditions, its payment, and its effect on the deep store (R149, R328, R337).
-/
namespace Sys2Proof.Machine

/-! ### What a fault leaves of the deep store -/

theorem beginRecovery_ds (s : State) (x : Nat) (kind : RecKind) (lt : Option Nat) (k g seq : Nat) :
    (s.beginRecovery x kind lt k g seq).ds = s.ds := by
  unfold State.beginRecovery
  dsimp only
  refine (State.staysRecovering.remode _).ds.trans ((faultEvent_keeps .ds (by decide)).trans ((haltTenant_keeps .ds (by decide)).trans ?_))
  exact markFaulty_keeps (s := s) (lt := lt) .ds (by decide)

theorem startRecovery_ds (s : State) (x : Nat) (kind : RecKind) (lt : Option Nat) (seq : Nat) : (s.startRecovery x kind lt seq).ds = s.ds := by
  unfold State.startRecovery
  dsimp only
  refine iteInduction (motive := fun t : State => t.ds = s.ds) (fun _ => ?_) (fun _ => beginRecovery_ds ..)
  exact (tokSpan_keeps .ds (by decide)).trans (beginRecovery_ds ..)

theorem dataLoss_ds (s : State) (x ecyc seq : Nat) : (s.dataLoss x ecyc seq).ds = s.ds := by
  unfold State.dataLoss
  split
  · rfl
  · exact (updTen_keeps .ds (by decide)).trans (startRecovery_ds ..)

theorem lateError_keeps {s : State} {x addr : Nat} {body : List Byte} : s.keeps (s.lateError x addr body) [.fm, .host] := by
  unfold State.lateError
  refine keeps_ite ?_ ?_
  · exact keeps_trans (keeps_mono report_keeps (by decide)) (keeps_mono unsolicited_keeps (by decide))
  · simp [State.keeps_iff, State.report]

theorem answerDeep_keeps {s : State} {c : DeepCmd} {status seq : Nat} {v : Word} : s.keeps (s.answerDeep c status v seq) [.noc] := by
  unfold State.answerDeep
  exact keeps_ite (by simp [State.keeps_iff]) keeps_refl

theorem answerDeep_deepQ (s : State) (c : DeepCmd) (status : Nat) (v : Word) (seq : Nat) :
    (s.answerDeep c status v seq).noc.deepQ = s.noc.deepQ := by
  unfold State.answerDeep
  split <;> rfl

theorem deepFails_ds (s : State) (c : DeepCmd) {status : Nat} (off : Nat) (h : status ≠ 1) : (s.deepFails c status off).ds = s.ds := by
  unfold State.deepFails
  rw [if_neg h]
  refine iteInduction (motive := fun t : State => t.ds = s.ds) (fun _ => ?_) (fun _ => ?_)
  · exact (answerDeep_keeps .ds (by decide)).trans (lateError_keeps .ds (by decide))
  · exact (dataLoss_ds ..).trans (lateError_keeps .ds (by decide))

/-! ### The journal -/

/-- The bytes that free values give depend on the store and the count of free values alone. -/
theorem freeBytes_ds {s t : State} (hd : t.ds = s.ds) (hf : t.freeCtr = s.freeCtr) (a n : Nat) : (t.freeBytes a n).ds = (s.freeBytes a n).ds := by
  induction n generalizing s t a with
  | zero => exact hd
  | succ n ih =>
    refine ih ?_ (congrArg (· + 1) hf) (a + 1)
    show t.ds.write a (BitVec.ofNat 8 (Config.freeNat t.freeCtr)) = s.ds.write a (BitVec.ofNat 8 (Config.freeNat s.freeCtr))
    rw [hd, hf]

theorem earlyCheckpoint_keeps {s : State} {x : Nat} : s.keeps (s.earlyCheckpoint x) [.tenants, .cap] := by
  unfold State.earlyCheckpoint
  refine keeps_ite (keeps_ite ?_ (keeps_mono setTen_keeps (by decide))) keeps_refl
  exact keeps_trans (keeps_mono updTen_keeps (by decide)) (keeps_mono capCkpt_keeps (by decide))

/-- The tenant's journal with one entry more. -/
def State.journalNoted (s : State) (x : Nat) (e : JEnt) : State :=
  s.updTen x (fun v => { v with journal := v.journal ++ [e], jrnAt := v.jrnAt + 128 })

/-- Where the next entry of a journal stands in the deep store. -/
def State.journalPlace (s : State) (x : Nat) : Nat := s.jrnBase x + (s.ten x).jrnAt % max 128 (s.jrnCap x)

/-- Where a tenant's journal stands depends on the registers and its number of tiles. -/
theorem jrnBase_congr {s t : State} (h : t.regs = s.regs) (x : Nat) (hi : (t.ten x).ntiles = (s.ten x).ntiles) :
    t.jrnBase x = s.jrnBase x := by
  have hr : ∀ o, t.reg o = s.reg o := fun o => by rw [State.reg, h, State.reg]
  simp only [State.jrnBase, State.logBase, State.logCap, State.ckptBase, State.faultBase, State.faultArea, State.rbase,
    State.rsize, State.rfld, hr, hi]

theorem journalAdd_eq (s : State) (x : Nat) (e : JEnt) : s.journalAdd x e =
    (((s.journalNoted x e).freeBytes (s.journalPlace x) 64).dsWrite (s.journalPlace x + 64) e.data).chargeFault x 128 := by
  have hn : ((s.journalNoted x e).ten x).ntiles = (s.ten x).ntiles := by
    rw [State.journalNoted, State.ten_updTen, Tenant.ntiles, Tenant.ntiles]
  have hk : s.keeps (s.journalNoted x e) [.tenants] := updTen_keeps
  have hb : (s.journalNoted x e).jrnBase x = s.jrnBase x := jrnBase_congr (hk .regs (by decide)) x hn
  unfold State.journalAdd State.journalPlace
  dsimp only
  rw [show (s.updTen x fun v => { v with journal := v.journal ++ [e], jrnAt := v.jrnAt + 128 }) = s.journalNoted x e from rfl, hb]

/-- The journal's entry in the deep store. -/
theorem journalAdd_frame (s : State) (x : Nat) (e : JEnt) :
    (s.journalAdd x e).ds = (s.freeBytes (s.journalPlace x) 64).ds.writeBytes (s.journalPlace x + 64) e.data ∧
    (s.journalAdd x e).noc.deepQ = s.noc.deepQ ∧ (s.journalAdd x e).regs = s.regs := by
  have hu : s.keeps (s.journalNoted x e) [.tenants] := updTen_keeps
  have hv : (s.journalNoted x e).keeps ((s.journalNoted x e).freeBytes (s.journalPlace x) 64) [.ds, .freeCtr] := freeBytes_keeps
  have hds : ((s.journalNoted x e).freeBytes (s.journalPlace x) 64).ds = (s.freeBytes (s.journalPlace x) 64).ds :=
    freeBytes_ds (hu .ds (by decide)) (hu .freeCtr (by decide)) _ _
  have hnoc := (hv .noc (by decide)).trans (hu .noc (by decide))
  have hregs := (hv .regs (by decide)).trans (hu .regs (by decide))
  rw [journalAdd_eq, ← hds]
  generalize (s.journalNoted x e).freeBytes (s.journalPlace x) 64 = v at hnoc hregs
  have hc : (v.dsWrite (s.journalPlace x + 64) e.data).keeps ((v.dsWrite (s.journalPlace x + 64) e.data).chargeFault x 128) [.sched] :=
    chargeFault_keeps
  refine ⟨hc .ds (by decide), ?_, (hc .regs (by decide)).trans hregs⟩
  have hq : (v.dsWrite (s.journalPlace x + 64) e.data).noc.deepQ = v.noc.deepQ := rfl
  exact (congrArg Noc.deepQ (hc .noc (by decide))).trans (hq.trans (congrArg Noc.deepQ hnoc))

/-- A line's entry of the journal. -/
def State.journalEntry (s : State) (x memid line ecyc a : Nat) : JEnt :=
  { k := min (s.ten x).jTag ecyc, memid := memid, line := line, data := s.ds.readBytes (a + 64 * line) 64 }

theorem journalLine_frame (s : State) (x memid line ecyc : Nat) :
    (s.journalLine x memid line ecyc).noc.deepQ = s.noc.deepQ ∧ (s.journalLine x memid line ecyc).regs = s.regs := by
  unfold State.journalLine
  dsimp only
  split
  · exact ⟨rfl, rfl⟩
  · split
    next a _ =>
      obtain ⟨-, hq, hr⟩ := journalAdd_frame s x (s.journalEntry x memid line ecyc a)
      have he : (s.journalAdd x (s.journalEntry x memid line ecyc a)).keeps _ _ := earlyCheckpoint_keeps (x := x)
      exact ⟨(congrArg Noc.deepQ (he .noc (by decide))).trans hq, (he .regs (by decide)).trans hr⟩
    next => exact ⟨rfl, rfl⟩

/-- A line that needs no journal entry gets none. -/
theorem journalLine_of_notNeeded {s : State} {x memid line ecyc : Nat} (h : s.needsJournal x memid line ecyc = false) :
    s.journalLine x memid line ecyc = s := by
  unfold State.journalLine
  dsimp only
  split
  · rfl
  next hany =>
    have hb : s.memBase x memid = none := by
      simp only [State.needsJournal, hany, Bool.not_false, Bool.true_and] at h
      exact Option.isNone_iff_eq_none.1 (by rw [← Option.not_isSome, h]; rfl)
    rw [hb]

/-- The journal does not look at the network. -/
theorem journalLine_ds_of_noc (s : State) (n : Noc) (x memid line ecyc : Nat) :
    (({ s with noc := n }).journalLine x memid line ecyc).ds = (s.journalLine x memid line ecyc).ds := by
  have hb : ({ s with noc := n }).memBase x memid = s.memBase x memid := rfl
  have ht : ({ s with noc := n }).ten x = s.ten x := rfl
  unfold State.journalLine
  dsimp only
  rw [ht, hb]
  split
  · rfl
  · split
    next a _ =>
      refine (earlyCheckpoint_keeps .ds (by decide)).trans (Eq.trans ?_ (earlyCheckpoint_keeps .ds (by decide)).symm)
      rw [(journalAdd_frame ..).1, (journalAdd_frame ..).1]
      exact congrArg (fun d : Mem => d.writeBytes _ _) (freeBytes_ds rfl rfl _ _)
    next => rfl

/-! ### The performance -/

theorem emit_keeps {s : State} {k : TracePkt} : s.keeps (s.emit k) [.chv] := by
  unfold State.emit
  exact keeps_ite (by simp [State.keeps_iff]) keeps_refl

theorem memTrace_keeps {s : State} {x : Nat} {a : MemAcc} : s.keeps (s.memTrace x a) [.chv] := by
  unfold State.memTrace
  exact keeps_ite keeps_refl (keeps_foldl _ _ (fun _ _ => keeps_ite emit_keeps keeps_refl) _ _)

/-- The tenant has paid for the accesses of a command, which has left its queue. -/
def State.deepTaken (s : State) (x : Nat) (c : DeepCmd) : State :=
  ({ s with noc := { s.noc with
    deepPaid := Map.set s.noc.deepPaid x (Map.get s.noc.deepPaid 0 x - c.accesses)
    deepTok := Map.set s.noc.deepTok x (Map.get s.noc.deepTok 0 x) } }).popDeep c

theorem deepTaken_frame (s : State) (x : Nat) (c : DeepCmd) : (s.deepTaken x c).noc.deepQ = removeFirst (fun y => y = c) s.noc.deepQ ∧
    (s.deepTaken x c).noc.answers = s.noc.answers ∧ s.keeps (s.deepTaken x c) [.noc] :=
  ⟨rfl, rfl, by simp [State.keeps_iff, State.deepTaken, State.popDeep]⟩

/-- What a trace sink learns of a deep access. -/
def DeepCmd.access (c : DeepCmd) (memid : Nat) (old : Word) : MemAcc :=
  { ecyc := c.ecyc, op := c.op, lane := c.lane, memid := memid, idx := c.addr, before := old, after := laneAfter c.op old c.data c.en }

/-- The first command of a memory's queue, of the operation asked for, and the byte offset of its word in the tenant's region. -/
structure State.DeepFirst (s : State) (x memid op : Nat) (c : DeepCmd) (e : DeepEnt) : Prop where
  first : s.noc.deepQ.find? (fun c => decide (c.ten = x ∧ c.memid = memid)) = some c
  op : c.op = op
  mem : ((s.ten x).img.bind fun i => i.mem memid) = some e

/-- Nothing holds the command: its row, a message, the journal and its tokens are ready, and its line is sound. -/
structure State.DeepFree (s : State) (x memid : Nat) (c : DeepCmd) (e : DeepEnt) : Prop where
  inside : e.base + 8 * c.addr < s.rsize x
  row : (s.stack (dsStack (s.rbase x + (e.base + 8 * c.addr)))).inRepair.contains (rowKey (s.rbase x + (e.base + 8 * c.addr))) = false
  emits : s.emitWaits c e (s.rbase x + e.base) = false
  fault : s.faultWaits x = false
  journal : c.op ≠ 0 → c.en = true → s.needsJournal x memid (c.addr / 8) c.ecyc = false ∨ 128 ≤ (s.faultAcct x).1
  paid : c.accesses ≤ Map.get s.noc.deepPaid 0 x
  sound : s.poisoned ((s.rbase x + (e.base + 8 * c.addr)) / 64 * 64) = false

section
variable {s : State} {x memid op : Nat} {c : DeepCmd} {e : DeepEnt}

theorem payDeep_of_paid (h : c.accesses ≤ Map.get s.noc.deepPaid 0 x) : s.payDeep x c.accesses = (true, { s with noc := { s.noc with
    deepPaid := Map.set s.noc.deepPaid x (Map.get s.noc.deepPaid 0 x - c.accesses)
    deepTok := Map.set s.noc.deepTok x (Map.get s.noc.deepTok 0 x) } }) := if_pos h

theorem dsCheck_of_clean {a : Nat} (h : s.poisoned a = false) : s.dsCheck a .clean = (true, true, s) := if_neg (by simp [h])

/-- The value of the lane that the command addresses. -/
def State.deepLane (s : State) (x : Nat) (c : DeepCmd) (e : DeepEnt) : Word :=
  BitVec.ofNat 32 (s.ds.le (s.rbase x + (e.base + 8 * c.addr) + 4 * c.lane) 4)

theorem performDeep_of_none (h : s.noc.deepQ.find? (fun c => decide (c.ten = x ∧ c.memid = memid)) = none) (f : ErrFound) (w : Bool) :
    s.performDeep x memid op f w = s := by
  unfold State.performDeep
  rw [h]

theorem performDeep_of_outside (h : s.DeepFirst x memid op c e) (ho : s.rsize x ≤ e.base + 8 * c.addr) (f : ErrFound) (w : Bool) :
    s.performDeep x memid op f w = ((s.popDeep c).regionFault x (e.base + 8 * c.addr)).deepFails c 2 (e.base + 8 * c.addr) := by
  unfold State.performDeep
  rw [h.first]
  dsimp only
  rw [if_neg (not_not.2 h.op), h.mem]
  exact if_pos ho

/-- A command that nothing holds: what it does to the state that has taken it. -/
theorem performDeep_of_free (h : s.DeepFirst x memid op c e) (k : s.DeepFree x memid c e) : s.performDeep x memid op .clean false =
    if c.op = 0 ∨ c.en = false then
      (if c.op = 0 then (s.deepTaken x c).memTrace x (c.access memid (s.deepLane x c e)) else s.deepTaken x c).answerDeep c 0 (s.deepLane x c e) 0
    else
      let u := (s.deepTaken x c).journalLine x memid (c.addr / 8) c.ecyc
      let u := { u with ds := u.ds.putLE (s.rbase x + (e.base + 8 * c.addr) + 4 * c.lane) 4 (laneAfter c.op (s.deepLane x c e) c.data c.en).toNat }
      let u := if c.op = 1 ∧ c.addr = 0 ∧ c.lane = 0 then u.emitMsg c e (u.rbase x + e.base) else u
      (u.memTrace x (c.access memid (s.deepLane x c e))).answerDeep c 0 (s.deepLane x c e) 0 := by
  have hj : (decide (c.op ≠ 0 ∧ c.en = true) && s.needsJournal x memid (c.addr / 8) c.ecyc && decide ((s.faultAcct x).1 < 128)) = false := by
    by_cases hw : c.op ≠ 0 ∧ c.en = true
    · obtain hn | hn := k.journal hw.1 hw.2
      · simp [hn]
      · simp [hn]
    · rw [decide_eq_false hw, Bool.false_and, Bool.false_and]
  have hcheck : (({ s with noc := { s.noc with
      deepPaid := Map.set s.noc.deepPaid x (Map.get s.noc.deepPaid 0 x - c.accesses)
      deepTok := Map.set s.noc.deepTok x (Map.get s.noc.deepTok 0 x) } } : State).popDeep c).dsCheck
      ((s.rbase x + (e.base + 8 * c.addr)) / 64 * 64) .clean = (true, true, s.deepTaken x c) := dsCheck_of_clean k.sound
  unfold State.performDeep
  rw [h.first]
  dsimp only
  rw [if_neg (not_not.2 h.op), h.mem]
  dsimp only
  rw [if_neg (Nat.not_le.2 k.inside), k.row, k.emits, k.fault, hj, payDeep_of_paid k.paid, hcheck]
  have hold : BitVec.ofNat 32 ((s.deepTaken x c).ds.le (s.rbase x + (e.base + 8 * c.addr) + 4 * c.lane) 4) = s.deepLane x c e := rfl
  simp only [Bool.false_eq_true, if_false, Bool.not_true, if_true, hold]
  generalize s.deepTaken x c = u
  generalize s.deepLane x c e = v
  rfl

end

end Sys2Proof.Machine
end

section
/-!
PROOF. The deep memories' commands and answers, and the deep store's patrol, row repair and temperature (R149, R150, R328, R334 to R336).
-/
namespace Sys2Proof.Machine

/-! ### One stack -/

section
variable {s : State} {k : Nat}

theorem State.stack_setStack_self (s : State) (k : Nat) (v : Stack) : (s.setStack k v).stack k = v := Map.get_set_self ..
theorem State.stack_setStack_ne (s : State) (v : Stack) {j : Nat} (h : j ≠ k) : (s.setStack k v).stack j = s.stack j := Map.get_set_ne _ _ _ h
theorem setStack_keeps {v : Stack} : s.keeps (s.setStack k v) [.noc] := by simp [State.keeps_iff, State.setStack]
theorem stack_of_noc {t : State} (h : t.noc = s.noc) (j : Nat) : t.stack j = s.stack j := by rw [State.stack, h, State.stack]

/-- A stack that has cooled down. -/
def Stack.cooled (v : Stack) : Stack := { v with hot := false }

theorem foldl_cooled (ls : List Nat) (s : State) (j : Nat) :
    (ls.foldl (fun s i => s.updStack i Stack.cooled) s).stack j = if j ∈ ls then (s.stack j).cooled else s.stack j := by
  induction ls generalizing s with
  | nil => rfl
  | cons x r ih =>
    rw [List.foldl_cons, ih, State.updStack]
    by_cases hx : j = x
    · subst hx
      rw [State.stack_setStack_self, if_pos List.mem_cons_self]
      split <;> rfl
    · rw [State.stack_setStack_ne _ _ hx]
      simp [hx]

end

/-! ### The patrol -/

section
variable {s : State} {k : Stack4} {err : ErrFound}

/-- The stack after its patrol has taken its next line. -/
def Stack.patrolled (v : Stack) : Stack :=
  { v with patrol := if decide (v.patrol + 1 = stackLines) then 0 else v.patrol + 1
           rowCe := if decide (v.patrol + 1 = stackLines) then [] else v.rowCe }

theorem execDsPatrolRead_of_clean (h1 : s.rfld dstCfg 0 1 = 1) (hc : s.dev.mode.configured = true)
    (hp : s.poisoned (stackLine k (s.stack k).patrol) = false) :
    exec (.dsPatrolRead k .clean) s = .next (s.setStack k (s.stack k).patrolled) := by
  have hp' : (s.setStack k (s.stack k).patrolled).poisoned (stackLine k (s.stack k).patrol) = false := hp
  have hcheck := dsCheck_of_clean hp'
  unfold Stack.patrolled at hp' hcheck
  rw [exec_dsPatrolRead, execDsPatrolRead, if_neg (by simp [h1, hc])]
  unfold State.updStack
  dsimp only
  rw [hp', hcheck]
  rfl

theorem execDsPatrolRead_of_poisoned (h1 : s.rfld dstCfg 0 1 = 1) (hc : s.dev.mode.configured = true)
    (hp : s.poisoned (stackLine k (s.stack k).patrol) = true) :
    exec (.dsPatrolRead k err) s = .next (s.setStack k (s.stack k).patrolled) := by
  have hp' : (s.setStack k (s.stack k).patrolled).poisoned (stackLine k (s.stack k).patrol) = true := hp
  rw [exec_dsPatrolRead, execDsPatrolRead, if_neg (by simp [h1, hc])]
  exact if_pos hp'

/-! ### A stack's temperature -/

/-- The stack with a temperature that has been read. -/
def Stack.read (v : Stack) (b : Nat) : Stack := { v with temp := b, hotRef := decide (85 < b), hot := v.hot || decide (95 < b) }

/-- A reading, with the record of a stack that becomes hot. -/
def State.tempNoted (s : State) (k : Stack4) (b : Byte) : State :=
  if decide (95 < b.toNat) && !(s.stack k).hot then
    (s.setStack k ((s.stack k).read b.toNat)).report 0x0609 clsDegraded k none (k.val + 2 ^ 8 * b.toNat)
  else s.setStack k ((s.stack k).read b.toNat)

/-- Every stack has cooled down, or none is let off. -/
def State.tempSettled (s : State) : State :=
  if (List.range 4).all (fun i => decide ((s.stack i).temp < 90)) then
    (List.range 4).foldl (fun s i => s.updStack i Stack.cooled) s
  else s

/-- The token rate of the hub level and of the refresh. -/
def State.rateFollows (s : State) : State :=
  { s with sched := { s.sched with rate := rateOf s.pwr.hub ((List.range 4).any (fun i => (s.stack i).hotRef)) } }

theorem execDsTempRead_eq (k : Stack4) (b : Byte) (s : State) :
    exec (.dsTempRead k b) s = .next (s.tempNoted k b).tempSettled.rateFollows := rfl

theorem tempNoted_frame (s : State) (k : Stack4) (b : Byte) : (s.tempNoted k b).stack k = (s.stack k).read b.toNat ∧
    s.keeps (s.tempNoted k b) [.noc, .fm] ∧
    (95 < b.toNat → (s.stack k).hot = false → s.reported (s.tempNoted k b) 0x0609 4 k none (k.val + 2 ^ 8 * b.toNat)) := by
  unfold State.tempNoted
  split
  · exact ⟨State.stack_setStack_self .., keeps_trans (keeps_mono setStack_keeps (by decide)) (keeps_mono report_keeps (by decide)), fun _ _ => rfl⟩
  next hn => exact ⟨State.stack_setStack_self .., keeps_mono setStack_keeps (by decide), fun h1 h2 => absurd (by simp [h1, h2]) hn⟩

theorem tempSettled_frame (s : State) : (∀ j, (s.tempSettled.stack j).temp = (s.stack j).temp ∧ (s.tempSettled.stack j).hotRef = (s.stack j).hotRef) ∧
    (∀ i, i < 4 → 90 ≤ (s.stack i).temp → s.tempSettled = s) ∧
    ((∀ i, i < 4 → (s.stack i).temp < 90) → ∀ i, i < 4 → (s.tempSettled.stack i).hot = false) ∧ s.keeps s.tempSettled [.noc] := by
  unfold State.tempSettled
  split
  next hall =>
    refine ⟨fun j => ?_, fun i hi hlow => ?_, fun _ i hi => ?_, keeps_foldl _ _ (fun _ _ => setStack_keeps) _ _⟩
    · rw [foldl_cooled]
      split <;> exact ⟨rfl, rfl⟩
    · have := of_decide_eq_true (List.all_eq_true.1 hall i (List.mem_range.2 hi))
      omega
    · rw [foldl_cooled, if_pos (List.mem_range.2 hi)]
      rfl
  next hnot =>
    refine ⟨fun _ => ⟨rfl, rfl⟩, fun _ _ _ => rfl, fun h => absurd ?_ hnot, keeps_refl⟩
    exact List.all_eq_true.2 fun i hi => decide_eq_true (h i (List.mem_range.1 hi))

end

/-! ### Deep commands -/

section
variable {s : State} {x memid : Nat} {c : DeepCmd} {e : DeepEnt}

/-- An enabled write past the message word: the journal, and then the lane. -/
theorem performDeep_of_write {op : Nat} (h : s.DeepFirst x memid op c e) (k : s.DeepFree x memid c e) (ho : c.op ≠ 0) (hen : c.en = true)
    (ha : c.addr ≠ 0) :
    (s.performDeep x memid op .clean false).ds = (s.journalLine x memid (c.addr / 8) c.ecyc).ds.putLE
      (s.rbase x + (e.base + 8 * c.addr) + 4 * c.lane) 4 (laneAfter op (s.deepLane x c e) c.data true).toNat ∧
    (s.performDeep x memid op .clean false).noc.deepQ = removeFirst (fun y => y = c) s.noc.deepQ ∧
    (s.performDeep x memid op .clean false).regs = s.regs ∧
    (s.needsJournal x memid (c.addr / 8) c.ecyc = false → (s.performDeep x memid op .clean false).tiles = s.tiles) := by
  obtain ⟨hq, -, hk⟩ := deepTaken_frame s x c
  have hds : ((s.deepTaken x c).journalLine x memid (c.addr / 8) c.ecyc).ds = (s.journalLine x memid (c.addr / 8) c.ecyc).ds :=
    journalLine_ds_of_noc s (s.deepTaken x c).noc x memid (c.addr / 8) c.ecyc
  have hneed : (s.deepTaken x c).needsJournal x memid (c.addr / 8) c.ecyc = s.needsJournal x memid (c.addr / 8) c.ecyc := rfl
  obtain ⟨hjq, hjr⟩ := journalLine_frame (s.deepTaken x c) x memid (c.addr / 8) c.ecyc
  have htiles : s.needsJournal x memid (c.addr / 8) c.ecyc = false →
      ((s.deepTaken x c).journalLine x memid (c.addr / 8) c.ecyc).tiles = s.tiles := fun hn => by
    rw [journalLine_of_notNeeded (hneed.trans hn)]
    exact hk .tiles (by decide)
  rw [performDeep_of_free h k, if_neg (by simp [ho, hen])]
  dsimp only
  rw [if_neg (fun hm => ha hm.2.1), hen, h.op]
  generalize (s.deepTaken x c).journalLine x memid (c.addr / 8) c.ecyc = u at hds hjq hjr htiles
  rw [hds]
  generalize (s.journalLine x memid (c.addr / 8) c.ecyc).ds.putLE (s.rbase x + (e.base + 8 * c.addr) + 4 * c.lane) 4
    (laneAfter op (s.deepLane x c e) c.data true).toNat = d
  have ht : State.keeps { u with ds := d } (({ u with ds := d }).memTrace x (c.access memid (s.deepLane x c e))) [.chv] := memTrace_keeps
  refine ⟨?_, ?_, ?_, fun hn => ?_⟩
  · exact (answerDeep_keeps .ds (by decide)).trans (ht .ds (by decide))
  · exact (answerDeep_deepQ ..).trans ((congrArg Noc.deepQ (ht .noc (by decide))).trans (hjq.trans hq))
  · exact (answerDeep_keeps .regs (by decide)).trans ((ht .regs (by decide)).trans (hjr.trans (hk .regs (by decide))))
  · exact (answerDeep_keeps .tiles (by decide)).trans ((ht .tiles (by decide)).trans (htiles hn))

/-- A read that delivers its result. -/
theorem performDeep_of_read (h : s.DeepFirst x memid 0 c e) (k : s.DeepFree x memid c e) (hr : c.rdv = true) :
    (s.performDeep x memid 0 .clean false).noc.answers = s.noc.answers ++ [
      { ten := c.ten, itile := c.itile, rd := c.rd, ident := c.ident, val := s.deepLane x c e, status := 0, ecyc := c.ecyc, step := c.step
        seq := 0, memid := c.memid }] ∧
    (s.performDeep x memid 0 .clean false).noc.deepQ = removeFirst (fun y => y = c) s.noc.deepQ ∧
    s.keeps (s.performDeep x memid 0 .clean false) [.noc, .chv] := by
  obtain ⟨hq, hans, hk⟩ := deepTaken_frame s x c
  have ht : (s.deepTaken x c).keeps ((s.deepTaken x c).memTrace x (c.access memid (s.deepLane x c e))) [.chv] := memTrace_keeps
  rw [performDeep_of_free h k, if_pos (Or.inl h.op), if_pos h.op]
  generalize (s.deepTaken x c).memTrace x (c.access memid (s.deepLane x c e)) = u at ht
  have hnoc : u.noc = (s.deepTaken x c).noc := ht .noc (by decide)
  refine ⟨?_, ?_, ?_⟩
  · rw [State.answerDeep, if_pos hr, ← hans, ← hnoc]
  · rw [answerDeep_deepQ, hnoc]
    exact hq
  · exact keeps_trans (keeps_mono hk (by decide)) (keeps_trans (keeps_mono ht (by decide)) (keeps_mono answerDeep_keeps (by decide)))

theorem emitWaits_of_not {a : Nat} (h : ¬(c.op = 1 ∧ c.addr = 0)) : s.emitWaits c e a = false := by
  have hd : decide (c.op = 1 ∧ c.en = true ∧ c.addr = 0 ∧ c.lane = 0) = false := decide_eq_false fun hm => h ⟨hm.1, hm.2.2.1⟩
  rw [State.emitWaits, hd, Bool.false_and, Bool.false_and]

end

/-- A deep command that has arrived from its tile, undamaged. -/
def State.deepQueued (s : State) (c : DeepCmd) : State :=
  { s with noc := { s.noc with deepReq := removeFirst (fun x => x = c) s.noc.deepReq, deepQ := s.noc.deepQ ++ [c] } }

/-- A deep command that has arrived damaged. -/
def State.deepDamaged (s : State) (x memid l : Nat) (c : DeepCmd) : State :=
  ({ s with noc := { s.noc with
    deepReq := removeFirst (fun x => x = c) s.noc.deepReq, damaged := satInc s.noc.damaged 0xFFFF } }).report 0x0601 clsMasked (s.ptile l) (some x)
      (2 ^ 8 * (0xCC + (x + memid) % 4) + 2 ^ 16 * s.ptile l)

/-- An answer that has left its way. -/
def State.answerTaken (s : State) (r : DeepAns) : State :=
  { s with noc := { s.noc with answers := removeFirst (fun x => x = r) s.noc.answers } }

/-- Settles O39: each command is performed under its conditions, and the stacks change one at a time. -/
theorem deepStore : Obligations.DeepStore := by
  refine ⟨⟨fun ten m c s hf hl => ?_, fun ten m c l s hf hl => ?_, fun ten m c l s hf hl => ?_,
    fun ten m c e i s hq ho hi he hin hrow hfw hp hpo hr => ?_, fun ten m c e i s hq hen ha hi he hin hrow hfw hj hp hpo => ?_,
    fun ten m c e i s hq ho hi he hout => ?_, fun old d => ⟨rfl, rfl, rfl, rfl, fun op => rfl⟩, fun ten m e w x s hq hx => ?_,
    fun ten it i r l s hr hl hfst hst => ?_⟩, fun k s h1 hc hp => ?_, fun k e s h0 => ?_, fun k e s h1 hc hp => ?_, fun k pc row s hr => ?_,
    fun k b s => ?_⟩
  · have hl' : (s.deepQueued c).tileOf ten c.itile = none := hl
    refine Runs.of (t := s.deepQueued c) ?_ ⟨rfl, rfl, by simp [State.keeps_iff, State.deepQueued]⟩
    rw [exec_pktReqDeep, execPktReqDeep, hf]
    dsimp only
    rw [if_neg Bool.false_ne_true]
    unfold State.deepQueued at hl' ⊢
    have hl0 : ({ s with noc := { s.noc with deepReq := removeFirst (fun x => x = c) s.noc.deepReq } }).tileOf ten c.itile = none := hl
    rw [hl0]
  · have hl0 : ({ s with noc := { s.noc with deepReq := removeFirst (fun x => x = c) s.noc.deepReq } }).tileOf ten c.itile = some l := hl
    have hk : s.keeps (s.deepQueued c) [.noc] := by simp [State.keeps_iff, State.deepQueued]
    have hexec : exec (.pktReqDeep ten m false) s = .next (if c.rdv then s.deepQueued c
        else (s.deepQueued c).updTile l (fun v => { v with deepOut := v.deepOut - 1 })) := by
      rw [exec_pktReqDeep, execPktReqDeep, hf, apply_ite Host.Outcome.next]
      dsimp only
      rw [if_neg Bool.false_ne_true, hl0]
      rfl
    have hq : (s.deepQueued c).noc.deepQ = s.noc.deepQ ++ [c] := rfl
    refine Runs.of hexec ?_
    generalize s.deepQueued c = u at hk hq
    split
    · exact ⟨hq, by rw [tile_of_keeps hk (by decide)]; rfl, otherTiles_of_tiles (hk .tiles (by decide)), keeps_mono hk (by decide)⟩
    · refine ⟨hq, ?_, otherTiles_trans (otherTiles_of_tiles (hk .tiles (by decide))) otherTiles_updTile,
        keeps_trans (keeps_mono hk (by decide)) (keeps_mono updTile_keeps (by decide))⟩
      rw [State.tile_updTile, tile_of_keeps hk (by decide)]
  · have hl0 : ({ s with noc := { s.noc with deepReq := removeFirst (fun x => x = c) s.noc.deepReq } }).tileOf ten c.itile = some l := hl
    refine Runs.of (t := (s.deepDamaged ten m l c).pathFault ten l c.ecyc) ?_ ⟨_, rfl, rfl, rfl, ?_⟩
    · rw [exec_pktReqDeep, execPktReqDeep, hf]
      dsimp only
      rw [if_pos rfl, hl0]
      rfl
    · simp [State.keeps_iff, State.deepDamaged, State.report]
  · have hfirst : s.DeepFirst ten m 0 c e := ⟨hq, ho, by rw [hi]; exact he⟩
    have hacc : c.accesses = 1 := if_neg fun h => h.1 ho
    have hfree : s.DeepFree ten m c e := ⟨hin, hrow, emitWaits_of_not (by omega), hfw, fun hn => absurd ho hn, by rw [hacc]; exact hp, hpo⟩
    obtain ⟨hans, hdq, hk⟩ := performDeep_of_read hfirst hfree hr
    exact Runs.of (exec_deepDread ..) ⟨hans, hdq, hk .ds (by decide), hk .tiles (by decide), hk .regs (by decide)⟩
  · have hmem : ((s.ten ten).img.bind fun i => i.mem m) = some e := by rw [hi]; exact he
    have hfree : c.op ≠ 0 → s.DeepFree ten m c e := fun h0 => ⟨hin, hrow, emitWaits_of_not fun h => ha h.2, hfw, fun _ _ => hj,
      by rw [DeepCmd.accesses, if_pos ⟨h0, hen⟩]; exact hp, hpo⟩
    refine ⟨fun ho => ?_, fun ho => ?_, fun ho => ?_⟩
    · exact Runs.of (exec_deepDwrite ..) (performDeep_of_write ⟨hq, ho, hmem⟩ (hfree (by omega)) (by omega) hen ha)
    · exact Runs.of (exec_deepDset ..) (performDeep_of_write ⟨hq, ho, hmem⟩ (hfree (by omega)) (by omega) hen ha)
    · exact Runs.of (exec_deepDclear ..) (performDeep_of_write ⟨hq, ho, hmem⟩ (hfree (by omega)) (by omega) hen ha)
  · refine Runs.of (congrArg Host.Outcome.next (performDeep_of_outside ⟨hq, ho, by rw [hi]; exact he⟩ hout .clean false)) ⟨rfl, ?_⟩
    exact (deepFails_ds _ c _ (by decide)).trans (report_keeps (s := s.popDeep c) .ds (by decide))
  · simp only [List.mem_cons, List.not_mem_nil, or_false] at hx
    obtain rfl | rfl | rfl | rfl := hx
    · exact Runs.of (congrArg Host.Outcome.next (performDeep_of_none hq e false)) rfl
    · exact Runs.of (congrArg Host.Outcome.next (performDeep_of_none hq e w)) rfl
    · exact Runs.of (congrArg Host.Outcome.next (performDeep_of_none hq e w)) rfl
    · exact Runs.of (congrArg Host.Outcome.next (performDeep_of_none hq e w)) rfl
  · have hl0 : (s.answerTaken r).tileOf ten it = some l := hl
    have hk : s.keeps (s.answerTaken r) [.noc] := by simp [State.keeps_iff, State.answerTaken]
    have hexec : exec (.pktRspDeepRes ten it i false) s = .next ((s.answerTaken r).updTile l
        (fun v => { v.deliver r.rd r.ident r.val with deepOut := v.deepOut - 1 })) := by
      rw [exec_pktRspDeepRes, execPktRspDeepRes, hr]
      dsimp only
      rw [if_neg (by simp [hfst])]
      unfold State.answerTaken at hl0 ⊢
      rw [hl0]
      dsimp only
      rw [if_neg Bool.false_ne_true, if_pos hst, if_pos hst]
    have hans : (s.answerTaken r).noc.answers = removeFirst (fun x => x = r) s.noc.answers := rfl
    refine Runs.of hexec ?_
    generalize s.answerTaken r = u at hk hans
    refine ⟨?_, hans, otherTiles_trans (otherTiles_of_tiles (hk .tiles (by decide))) otherTiles_updTile,
      keeps_trans (keeps_mono hk (by decide)) (keeps_mono updTile_keeps (by decide))⟩
    rw [State.tile_updTile, tile_of_keeps hk (by decide)]
  · refine Runs.of (execDsPatrolRead_of_clean h1 hc hp) ?_
    rw [State.stack_setStack_self]
    refine ⟨?_, fun j hj => State.stack_setStack_ne _ _ hj, rfl, setStack_keeps⟩
    simp [Stack.patrolled]
  · exact Runs.of (if_pos (Or.inl h0)) rfl
  · exact Runs.of (execDsPatrolRead_of_poisoned h1 hc hp) ⟨rfl, rfl, setStack_keeps⟩
  · refine Runs.of (if_pos hr) ?_
    have hk : s.keeps (s.updStack k (fun v => { v with
        inRepair := removeFirst (fun x => x = pc.val * 2 ^ 24 + row.toNat) v.inRepair, rows := satInc v.rows 0xFFFF
        rowCe := Map.del v.rowCe (pc.val * 2 ^ 24 + row.toNat) })) [.noc] := setStack_keeps
    have hself : (s.updStack k (fun v => { v with
        inRepair := removeFirst (fun x => x = pc.val * 2 ^ 24 + row.toNat) v.inRepair, rows := satInc v.rows 0xFFFF
        rowCe := Map.del v.rowCe (pc.val * 2 ^ 24 + row.toNat) })).stack k = _ := State.stack_setStack_self ..
    have hne := fun j (hj : j ≠ k.val) => State.stack_setStack_ne s { s.stack k with
        inRepair := removeFirst (fun x => x = pc.val * 2 ^ 24 + row.toNat) (s.stack k).inRepair, rows := satInc (s.stack k).rows 0xFFFF
        rowCe := Map.del (s.stack k).rowCe (pc.val * 2 ^ 24 + row.toNat) } hj
    refine ⟨congrArg Stack.rows hself, congrArg Stack.inRepair hself, hne, rfl, rfl, ?_⟩
    exact keeps_trans (keeps_mono hk (by decide)) (by simp [State.keeps_iff, State.recordRepair, State.updFlash, State.report])
  · obtain ⟨hself, hk, hrep⟩ := tempNoted_frame s k b
    obtain ⟨hsame, hhot, hcool, hks⟩ := tempSettled_frame (s.tempNoted k b)
    have hfm : (s.tempNoted k b).tempSettled.fm = (s.tempNoted k b).fm := hks .fm (by decide)
    have hpwr : (s.tempNoted k b).tempSettled.pwr = s.pwr := (hks .pwr (by decide)).trans (hk .pwr (by decide))
    refine Runs.of (execDsTempRead_eq k b s) ?_
    generalize s.tempNoted k b = u at hself hk hrep hsame hhot hcool hks hfm hpwr
    obtain ⟨htemp, href⟩ := hsame k
    refine ⟨htemp.trans (congrArg Stack.temp hself), ?_, fun h95 => ?_, fun h95 hcold => hfm.trans (hrep h95 hcold), ?_, fun hall i hi => ?_, ?_⟩
    · have hr : (u.tempSettled.rateFollows.stack k).hotRef = decide (85 < b.toNat) := href.trans (congrArg Stack.hotRef hself)
      rw [hr, decide_eq_true_eq]
    · have htk : (u.stack k).temp = b.toNat := congrArg Stack.temp hself
      have hno : u.tempSettled = u := hhot k k.isLt (by omega)
      have hr : (u.rateFollows.stack k).hot = ((s.stack k).hot || decide (95 < b.toNat)) := congrArg Stack.hot hself
      rw [hno, hr, decide_eq_true h95, Bool.or_true]
    · rw [← hpwr]
      rfl
    · exact hcool (fun j hj => (hsame j).1 ▸ hall j hj) i hi
    · refine keeps_trans (t := u.tempSettled) (keeps_trans (keeps_mono hk (by decide)) (keeps_mono hks (by decide))) ?_
      simp [State.keeps_iff, State.rateFollows]

end Sys2Proof.Machine
end

section
/-!
PROOF. Rings of the host interface: doorbells, control, descriptors and completions (R344 to R350, R362).
-/
namespace Sys2Proof.Machine

/-! ### One ring -/

section
variable {s : State} {fn r : Nat}

theorem State.sq_setSq_self (s : State) (fn r : Nat) (v : Sq) : (s.setSq fn r v).sq fn r = v := Map.get_set_self ..
theorem State.cq_setCq_self (s : State) (fn r : Nat) (v : Cq) : (s.setCq fn r v).cq fn r = v := Map.get_set_self ..
theorem State.freg_setFreg_self (s : State) (fn off v : Nat) : (s.setFreg fn off v).freg fn off = v % 2 ^ 32 := by
  simp [State.freg, State.setFreg]
theorem setSq_keeps {v : Sq} : s.keeps (s.setSq fn r v) [.host] := by simp [State.keeps_iff, State.setSq]
theorem setCq_keeps {v : Cq} : s.keeps (s.setCq fn r v) [.host] := by simp [State.keeps_iff, State.setCq]

/-- The rings, the completions that wait, the functions' registers and host memory are the same. -/
structure State.sameRings (s t : State) : Prop where
  sqs : t.host.sqs = s.host.sqs
  cqs : t.host.cqs = s.host.cqs
  cpls : t.host.cpls = s.host.cpls
  fregs : t.host.fregs = s.host.fregs
  hostMem : t.host.hostMem = s.host.hostMem

theorem State.sameRings.refl (s : State) : s.sameRings s := ⟨rfl, rfl, rfl, rfl, rfl⟩
theorem State.sameRings.trans {t u : State} (h : s.sameRings t) (k : t.sameRings u) : s.sameRings u :=
  ⟨k.sqs.trans h.sqs, k.cqs.trans h.cqs, k.cpls.trans h.cpls, k.fregs.trans h.fregs, k.hostMem.trans h.hostMem⟩
theorem State.sameRings.sq {t : State} (h : s.sameRings t) (f q : Nat) : t.sq f q = s.sq f q := by rw [State.sq, h.sqs, State.sq]
theorem State.sameRings.cq {t : State} (h : s.sameRings t) (f q : Nat) : t.cq f q = s.cq f q := by rw [State.cq, h.cqs, State.cq]

theorem State.sameRings.msix (s : State) (f v : Nat) : s.sameRings (s.msix f v) := by
  unfold State.msix
  split
  · exact ⟨rfl, rfl, rfl, rfl, rfl⟩
  · split <;> exact ⟨rfl, rfl, rfl, rfl, rfl⟩

theorem State.sameRings.raiseFnStat (s : State) (f i : Nat) : s.sameRings (s.raiseFnStat f i) := by
  unfold State.raiseFnStat
  refine iteInduction (motive := fun t => State.sameRings _ t) (fun _ => .refl s) (fun _ => ?_)
  refine State.sameRings.trans ?_ (.msix _ _ _)
  exact ⟨rfl, rfl, rfl, rfl, rfl⟩

theorem State.sameRings.cplLost (s : State) (f k : Nat) : s.sameRings (s.cplLost f k) :=
  (State.sameRings.raiseFnStat s f 17).trans ⟨rfl, rfl, rfl, rfl, rfl⟩

theorem raiseFnStat_bit (s : State) (f i : Nat) : (Map.get (s.raiseFnStat f i).host.fnStat 0 f).testBit i = true := by
  unfold State.raiseFnStat
  dsimp only
  split
  next h => exact h
  next h =>
    have hm : ∀ (u : State) (v : Nat), (u.msix f v).host.fnStat = u.host.fnStat := fun u v => by
      unfold State.msix
      split
      · rfl
      · split <;> rfl
    rw [hm, Map.get_set_self, Nat.testBit_or, Nat.testBit_two_pow_self, Bool.or_true]

/-- A descriptor that is retired leaves the completion side, and of a submission ring what waits. -/
theorem retire_frame (s : State) (d : DRef) : (s.retire d).host.cqs = s.host.cqs ∧ (s.retire d).host.cpls = s.host.cpls ∧
    (s.retire d).host.fregs = s.host.fregs ∧ ∀ f q, ((s.retire d).sq f q).wait = (s.sq f q).wait := by
  refine ⟨rfl, rfl, rfl, fun f q => ?_⟩
  by_cases h : 8 * f + q = 8 * d.fn.val + d.sq.val
  · have hq : ∀ t : State, t.sq f q = t.sq d.fn d.sq := fun t => by rw [State.sq, h, State.sq]
    rw [hq, hq]
    have hset : (s.retire d).sq d.fn d.sq = { s.sq d.fn d.sq with prog := removeFirst (fun e => e = d) (s.sq d.fn d.sq).prog } :=
      State.sq_setSq_self ..
    rw [hset]
  · exact congrArg Sq.wait (Map.get_set_ne _ _ _ h)

theorem queueCpl_sq (s : State) (c : Cpl) (f q : Nat) : (s.queueCpl c).sq f q = s.sq f q := by
  unfold State.queueCpl
  split
  · rfl
  · exact (State.sameRings.cplLost ..).sq f q

theorem complete_wait (s : State) (d : DRef) (o st x a f q : Nat) : ((s.complete d o st x a).sq f q).wait = (s.sq f q).wait := by
  unfold State.complete
  rw [(retire_frame ..).2.2.2]
  unfold State.postFor
  split
  · rw [(State.sameRings.cplLost ..).sq]
  · rw [queueCpl_sq]

/-- The completion of a command. -/
def cmdCpl (d : DRef) (o st x a : Nat) : Cpl :=
  { fn := d.fn, cq := d.cq, typ := 1, status := st, sq := d.sq, body := .cmd o d.flags.toNat d.tag.toNat d.dseq.toNat x a
    noIrq := d.flags.getLsbD 1, resv := true }

/-- A completion of a descriptor whose ring stands and that is no orphan. -/
theorem complete_of_open {d : DRef} (hen : (s.cq d.fn d.cq).en = true) (ho : d ∉ s.host.orphans) (o st x a : Nat) :
    s.complete d o st x a = ({ s with host := { s.host with cpls := s.host.cpls ++ [cmdCpl d o st x a] } }).retire d := by
  rw [State.complete, State.postFor, if_neg ho, State.queueCpl, if_pos hen]
  rfl

/-! ### The control registers -/

theorem clampLog2_bounds (n : Nat) : 6 ≤ clampLog2 n ∧ clampLog2 n ≤ 16 := by
  unfold clampLog2
  omega

/-- HIF_SQ_CTL as a number. -/
theorem sqCtl_eq {c q : Nat} (hc : c ≤ 16) (hq : q < 8) : setFld (setFld 0 4 5 c) 9 3 q = 16 * c + 512 * q := by
  simp only [setFld, Nat.shiftLeft_eq, Nat.shiftRight_eq_div_pow]
  omega

theorem fld_four_five (v : Nat) : fld v 4 5 = v / 16 % 32 := by
  rw [fld, Nat.shiftRight_eq_div_pow]
  rfl

theorem writeSqCtl_enable {n q : Nat} (he : (s.sq fn r).en = false) (hq : q < 8) :
    (s.writeSqCtl fn r true n q).sq fn r = { s.sq fn r with en := true, pi := 0, cidx := 0, dseq := 0 } ∧
    (s.writeSqCtl fn r true n q).sqLog2 fn r = clampLog2 n ∧ s.keeps (s.writeSqCtl fn r true n q) [.host] := by
  obtain ⟨hlo, hhi⟩ := clampLog2_bounds n
  have heq : s.writeSqCtl fn r true n q = (s.setFreg fn (0x108 + 0x20 * r) (16 * clampLog2 n + 512 * q + 1)).setSq fn r
      { s.sq fn r with en := true, pi := 0, cidx := 0, dseq := 0 } := by
    unfold State.writeSqCtl
    dsimp only
    rw [if_neg (by simp [he]), if_pos rfl, sqCtl_eq hhi hq]
    rfl
  rw [heq]
  refine ⟨State.sq_setSq_self .., ?_, keeps_trans setFreg_keeps setSq_keeps⟩
  show fld ((s.setFreg fn (0x108 + 0x20 * r) (16 * clampLog2 n + 512 * q + 1)).freg fn (0x108 + 0x20 * r)) 4 5 = _
  rw [State.freg_setFreg_self, fld_four_five]
  omega

theorem writeCqCtl_enable {n i v c u : Nat} (he : (s.cq fn r).en = false) :
    (s.writeCqCtl fn r true n i v c u).cq fn r = { en := true } ∧ (s.writeCqCtl fn r true n i v c u).cqLog2 fn r = clampLog2 n ∧
    s.keeps (s.writeCqCtl fn r true n i v c u) [.host] := by
  obtain ⟨hlo, hhi⟩ := clampLog2_bounds n
  have heq : s.writeCqCtl fn r true n i v c u = (s.setFreg fn (0x208 + 0x20 * r)
      (2 ^ 4 * clampLog2 n + 2 ^ 9 * i + 2 ^ 10 * v + 2 ^ 16 * (if c = 0 then 1 else c) + 2 ^ 24 * u + 1)).setCq fn r { en := true } := by
    unfold State.writeCqCtl
    dsimp only
    rw [if_neg (by simp [he]), if_pos rfl]
    rfl
  rw [heq]
  refine ⟨State.cq_setCq_self .., ?_, keeps_trans setFreg_keeps setCq_keeps⟩
  show fld ((s.setFreg fn (0x208 + 0x20 * r) _).freg fn (0x208 + 0x20 * r)) 4 5 = _
  rw [State.freg_setFreg_self, fld_four_five]
  split <;> omega

/-- In `t` the completion ring is off and nothing waits for it; only the host's part and the fault manager differ from `s`. -/
structure State.ringOff (fn r : Nat) (s t : State) : Prop where
  off : (t.cq fn r).en = false
  none : ∀ c ∈ t.host.cpls, ¬(c.fn = fn ∧ c.cq = r)
  keeps : s.keeps t [.host, .fm]

theorem State.ringOff.cplLost {t : State} (h : State.ringOff fn r s t) (f k : Nat) : State.ringOff fn r s (t.cplLost f k) := by
  have hs := State.sameRings.cplLost t f k
  refine ⟨by rw [hs.cq]; exact h.off, fun c hc => h.none c (by rw [← hs.cpls]; exact hc), keeps_trans h.keeps cplLost_keeps⟩

theorem State.ringOff.retire {t : State} (h : State.ringOff fn r s t) (d : DRef) : State.ringOff fn r s (t.retire d) :=
  ⟨h.off, h.none, keeps_trans h.keeps (keeps_mono retire_keeps (by decide))⟩

/-- A completion ring that is disabled: what waits for it is lost, and descriptors that used it go. -/
theorem disableCq_ringOff (s : State) (fn r : Nat) : State.ringOff fn r s (s.disableCq fn r) := by
  unfold State.disableCq
  refine List.foldlRecOn _ _ ?_ fun t h d _ => h.retire d
  refine List.foldlRecOn _ _ ?_ fun t h c _ => h.cplLost fn c.typ
  refine ⟨congrArg Cq.en (State.cq_setCq_self s fn r _), fun c hc hm => ?_, ?_⟩
  · have hkept : (!decide (c.fn = fn ∧ c.cq = r)) = true := (List.mem_filter.1 hc).2
    rw [decide_eq_true hm] at hkept
    cases hkept
  · simp [State.keeps_iff, State.setCtlEnable, State.setFreg, State.setCq]

end

/-! ### Descriptors -/

theorem leNat_lt (bs : List Byte) : leNat bs < 256 ^ bs.length := by
  induction bs with
  | nil => exact Nat.one_pos
  | cons b bs ih =>
    have hb := b.isLt
    rw [leNat, List.length_cons, Nat.pow_succ]
    omega

theorem leAt_lt (bs : List Byte) (i n : Nat) : leAt bs i n < 256 ^ n :=
  Nat.lt_of_lt_of_le (leNat_lt _) (Nat.pow_le_pow_right (by decide) (by simp))

/-- The completion ring that a descriptor's CQ byte names. -/
def State.cqOfByte (s : State) (fn r b : Nat) : Ring8 :=
  if b = 0xFF then Fin.ofNat 8 (fld (s.freg fn (0x108 + 0x20 * r)) 9 3) else Fin.ofNat 8 b

/-- The descriptor that 64 bytes at a ring's entry are. -/
def State.readDesc (s : State) (fn : TenId) (r : Ring8) (bs : List Byte) : Desc :=
  { ref := { fn := fn, sq := r, cq := s.cqOfByte fn r (leAt bs 5 1), tag := BitVec.ofNat 16 (leAt bs 2 2)
             flags := BitVec.ofNat 8 (leAt bs 1 1), dseq := (s.sq fn r).dseq }
    opc := leAt bs 0 1, ten := leAt bs 4 1, bytes := (bs ++ zeros 64).take 64 }

/-- A descriptor that has been fetched. -/
def State.fetched (s : State) (fn : TenId) (r : Ring8) (bs : List Byte) : State :=
  ({ s with host := { s.host with fetched := s.host.fetched ++ [(s.readDesc fn r bs).ref] } }).setSq fn r { s.sq fn r with
    cidx := (s.sq fn r).cidx + 1, dseq := (s.sq fn r).dseq + 1, wait := (s.sq fn r).wait ++ [s.readDesc fn r bs] }

theorem execDescriptorFetch_of_announced {fn : TenId} {r : Ring8} {bs : List Byte} {s : State} (h : s.fnUp fn = true) (he : (s.sq fn r).en = true)
    (hn : (s.sq fn r).cidx ≠ (s.sq fn r).pi) (hb : s.host.bmeOff.contains fn.val = false) :
    exec (.descriptorFetch fn r bs) s = .next (s.fetched fn r bs) :=
  if_neg (by rw [h, he, hb, decide_eq_false hn]; decide)

/-- The descriptor's reference with the ring that it completes on. -/
def State.startRef (s : State) (e : Desc) : DRef := { e.ref with cq := s.ringOf e }

/-- The oldest descriptor starts, and `n` entries of its completion ring are reserved. -/
def State.started (s : State) (fn r : Nat) (e : Desc) (rest : List Desc) (n : Nat) : State :=
  (s.setSq fn r { s.sq fn r with wait := rest, prog := (s.sq fn r).prog ++ [s.startRef e] }).setCq fn (s.ringOf e)
    { s.cq fn (s.ringOf e) with resv := (s.cq fn (s.ringOf e)).resv + n }

theorem started_frame (s : State) (fn r : Nat) (e : Desc) (rest : List Desc) (n : Nat) :
    (s.started fn r e rest n).sq fn r = { s.sq fn r with wait := rest, prog := (s.sq fn r).prog ++ [s.startRef e] } ∧
    (s.started fn r e rest n).cq fn (s.ringOf e) = { s.cq fn (s.ringOf e) with resv := (s.cq fn (s.ringOf e)).resv + n } ∧
    s.keeps (s.started fn r e rest n) [.host] :=
  ⟨State.sq_setSq_self .., State.cq_setCq_self .., keeps_trans setSq_keeps setCq_keeps⟩

/-- Fault of a descriptor's bytes: a field that its opcode does not have, a bad CQ byte, or a bad CAPTURE space. -/
def descBad (bs : List Byte) (opc : Nat) : Bool :=
  !descClean bs || !cqByteOk bs || (decide (opc = 0x12) && decide (leAt bs 8 1 = 0 ∨ 5 < leAt bs 8 1))

section
variable {fn : TenId} {r : Ring8} {e : Desc} {rest : List Desc} {s : State}

/-- The conditions of a start: fewer than 64 in progress, and the fence met. -/
def State.mayStart (s : State) (fn r : Nat) (e : Desc) : Prop :=
  s.fnUp fn = true ∧ (s.sq fn r).prog.length < 64 ∧ (e.ref.flags.getLsbD 0 = false ∨ (s.sq fn r).prog = [])

theorem mayStart_guard (h : s.mayStart fn r e) : (!s.fnUp fn || decide (64 ≤ (s.sq fn r).prog.length) ||
    (e.ref.flags.getLsbD 0 && !(s.sq fn r).prog.isEmpty)) = false := by
  obtain ⟨hup, hlen, hfence⟩ := h
  rw [hup, decide_eq_false (Nat.not_le.2 hlen)]
  obtain hf | hf := hfence <;> rw [hf] <;> simp

theorem execDescriptorStart_of_room (hw : (s.sq fn r).wait = e :: rest) (h : s.mayStart fn r e) (hen : (s.cq fn (s.ringOf e)).en = true)
    (hroom : ((s.cq fn (s.ringOf e)).tidx - (s.cq fn (s.ringOf e)).head).toNat + (s.cq fn (s.ringOf e)).resv + opcEntries e.opc ≤
      2 ^ s.cqLog2 fn (s.ringOf e)) : exec (.descriptorStart fn r) s = .next (
    let u := s.started fn r e rest (if !knownOpc e.opc || descBad e.bytes e.opc then 1 else opcEntries e.opc)
    if !knownOpc e.opc && descClean (e.bytes.take 8) then u.complete (s.startRef e) e.opc stBadOpc 0 0
    else if descBad e.bytes e.opc || !knownOpc e.opc then u.complete (s.startRef e) e.opc stBadArg 0 0
    else u) := by
  rw [exec_descriptorStart, execDescriptorStart, hw]
  dsimp only
  rw [mayStart_guard h, if_neg Bool.false_ne_true, if_neg (by simp [hen]), if_neg (Nat.not_lt.2 hroom), apply_ite Host.Outcome.next,
    apply_ite Host.Outcome.next]
  rfl

theorem execDescriptorStart_of_off (hw : (s.sq fn r).wait = e :: rest) (h : s.mayStart fn r e) (hen : (s.cq fn (s.ringOf e)).en = false) :
    exec (.descriptorStart fn r) s = .next (((s.setSq fn r { s.sq fn r with wait := rest }).retire (s.startRef e)).cplLost fn (opcCplType e.opc)) := by
  rw [exec_descriptorStart, execDescriptorStart, hw]
  dsimp only
  rw [mayStart_guard h, if_neg Bool.false_ne_true, hen]
  rfl

end

/-! ### Completions that are posted -/

/-- The completion ring after a posting: its interrupt count and timer follow the ring's control. -/
def Cq.posted (c : Cq) (resv : Bool) (count : Nat) (timing : Bool) : Cq :=
  { c with tidx := c.tidx + 1, resv := if resv then c.resv - 1 else c.resv, count := count, timing := timing }

/-- A completion stands in host memory, and its ring has moved on. -/
def State.cplPosted (s : State) (fn q : Nat) (x : Cpl) (count : Nat) (timing : Bool) : State :=
  ({ s with host := { s.host with
      hostMem := s.host.hostMem.writeBytes
        (s.freg fn (0x200 + 0x20 * q) + 2 ^ 32 * s.freg fn (0x204 + 0x20 * q) + 32 * ((s.cq fn q).tidx.toNat % 2 ^ s.cqLog2 fn q))
        (s.cplBytes x (1 - bit (s.cq fn q).tidx.toNat (s.cqLog2 fn q)))
      cpls := removeFirst (fun y => y = x) s.host.cpls } }).setCq fn q ((s.cq fn q).posted x.resv count timing)

theorem execCompletionPost_of_next {fn : TenId} {q : Ring8} {x : Cpl} {s : State} (h : s.fnUp fn = true)
    (hb : s.host.bmeOff.contains fn.val = false) (hen : (s.cq fn q).en = true) (hx : s.nextCpl fn q = some x) :
    ∃ count timing v, exec (.completionPost fn q) s = .next (s.cplPosted fn q x count timing) ∨
      exec (.completionPost fn q) s = .next ((s.cplPosted fn q x count timing).msix fn v) := by
  rw [exec_completionPost, execCompletionPost, h, hb, hen, hx, if_neg (by decide)]
  dsimp only
  exact ⟨_, _, _, (ite_eq_or_eq _ _ _).symm⟩

/-- Settles O40: each ring command under its conditions, over the rings' own reads and writes. -/
theorem descriptorRings : Obligations.DescriptorRings := by
  refine ⟨⟨fun fn r v s h he h1 h2 => ?_, fun fn r v s h hbad => ?_, fun fn r v s h hle => ?_, fun fn r v s h hlt => ?_,
    fun fn r cq n s h he => ?_, fun fn r s h he => ?_, fun fn r n ien v cc cu s h he => ?_, fun fn r s h he => ?_,
    fun fn r cq v n b x y c s h hc => ?_⟩, fun fn r bs s h he hn hb hl => ?_, fun fn r bs s hn => ?_,
    fun fn r e rest s hw h hlen hf hen hroom => ⟨fun hk hcl hcq h12 => ?_, fun hk hcl => ?_, fun hk hcl => ?_⟩,
    fun fn r e rest s hw h hlen hf hen => ?_, fun fn r e rest s hw hstop => ?_, fun fn r e rest s hw hen hfull => ?_, fun fn r s hw => ?_,
    fun d s h => ?_, fun d o st x a s hen ho => ?_, fun fn q x s h hb hen hx => ?_, fun fn q s hx => ?_, fun fn q s ht hc => ?_⟩
  · exact Runs.of ((if_neg (by simp [h])).trans (if_pos ⟨he, h1, h2⟩)) ⟨State.sq_setSq_self .., setSq_keeps⟩
  · refine Runs.of ((if_neg (by simp [h])).trans (if_neg ?_)) ⟨rfl, (State.sameRings.raiseFnStat ..).sq fn r,
      keeps_trans (keeps_mono raiseFnStat_keeps (by decide)) (keeps_mono report_keeps (by decide))⟩
    rintro ⟨he, h1, h2⟩
    obtain hoff | hc | hp := hbad
    · rw [hoff] at he
      cases he
    · omega
    · omega
  · exact Runs.of ((if_neg (by simp [h])).trans (if_pos hle)) ⟨State.cq_setCq_self .., setCq_keeps⟩
  · exact Runs.of ((if_neg (by simp [h])).trans (if_neg (Nat.not_le.2 hlt))) ⟨rfl, (State.sameRings.raiseFnStat ..).cq fn r,
      keeps_trans (keeps_mono raiseFnStat_keeps (by decide)) (keeps_mono report_keeps (by decide))⟩
  · exact Runs.of (if_pos h) (writeSqCtl_enable he cq.isLt)
  · exact Runs.of (if_pos (by simp [h, he])) ⟨State.sq_setSq_self .., keeps_trans setSq_keeps setFreg_keeps⟩
  · exact Runs.of (if_pos h) (writeCqCtl_enable he)
  · obtain ⟨hoff, hnone, hk⟩ := disableCq_ringOff s fn r
    exact Runs.of (if_pos (by simp [h, he])) ⟨hoff, hnone, hk⟩
  · simp only [List.mem_cons, List.not_mem_nil, or_false] at hc
    obtain rfl | rfl | rfl | rfl | rfl | rfl := hc
    · exact Runs.of (if_pos (by simp [h])) rfl
    · exact Runs.of (if_pos (by simp [h])) rfl
    · exact Runs.of (if_neg (by simp [h])) rfl
    · exact Runs.of (if_neg (by simp [h])) rfl
    · exact Runs.of (if_neg (by simp [h])) rfl
    · exact Runs.of (if_neg (by simp [h])) rfl
  · have hsq : (s.fetched fn r bs).sq fn r = { s.sq fn r with
        cidx := (s.sq fn r).cidx + 1, dseq := (s.sq fn r).dseq + 1, wait := (s.sq fn r).wait ++ [s.readDesc fn r bs] } := State.sq_setSq_self ..
    refine Runs.of (execDescriptorFetch_of_announced h he hn hb) ?_
    rw [hsq]
    refine ⟨rfl, rfl, ⟨_, rfl, ?_, rfl, rfl, rfl, ?_⟩, by simp [State.keeps_iff, State.fetched, State.setSq]⟩
    · exact List.take_left' hl
    · exact Nat.mod_eq_of_lt (leAt_lt bs 2 2)
  · exact Runs.of (if_pos (by simp [hn])) rfl
  · have hbad : descBad e.bytes e.opc = false := by simp [descBad, hcl, hcq, h12]
    have hexec := execDescriptorStart_of_room hw ⟨h, hlen, hf⟩ hen hroom
    rw [hk, hbad] at hexec
    obtain ⟨hsq, hcqs, hkeep⟩ := started_frame s fn r e rest (opcEntries e.opc)
    refine Runs.of hexec ?_
    exact ⟨congrArg Sq.wait hsq, congrArg Sq.prog hsq, congrArg Cq.resv hcqs, hkeep⟩
  · have hexec := execDescriptorStart_of_room hw ⟨h, hlen, hf⟩ hen hroom
    rw [hk, hcl] at hexec
    obtain ⟨hsq, -, hkeep⟩ := started_frame s fn r e rest 1
    refine Runs.of hexec ⟨s.started fn r e rest 1, rfl, congrArg Sq.wait hsq, (complete_wait ..).trans (congrArg Sq.wait hsq), ?_⟩
    exact keeps_trans (keeps_mono hkeep (by decide)) complete_keeps
  · have hbad : descBad e.bytes e.opc = true := by simp [descBad, hcl]
    have hexec := execDescriptorStart_of_room hw ⟨h, hlen, hf⟩ hen hroom
    rw [hk, hbad] at hexec
    obtain ⟨hsq, -, hkeep⟩ := started_frame s fn r e rest 1
    refine Runs.of hexec ⟨s.started fn r e rest 1, rfl, (complete_wait ..).trans (congrArg Sq.wait hsq), ?_⟩
    exact keeps_trans (keeps_mono hkeep (by decide)) complete_keeps
  · have hlost := State.sameRings.cplLost ((s.setSq fn r { s.sq fn r with wait := rest }).retire (s.startRef e)) fn (opcCplType e.opc)
    have hbit : (Map.get (((s.setSq fn r { s.sq fn r with wait := rest }).retire (s.startRef e)).cplLost fn
        (opcCplType e.opc)).host.fnStat 0 fn.val).testBit 17 = true := raiseFnStat_bit _ fn 17
    have hwait := (retire_frame (s.setSq fn r { s.sq fn r with wait := rest }) (s.startRef e)).2.2.2 fn r
    have hk : s.keeps ((s.setSq fn r { s.sq fn r with wait := rest }).retire (s.startRef e)) [.host] := keeps_trans setSq_keeps retire_keeps
    have hcpls : ((s.setSq fn r { s.sq fn r with wait := rest }).retire (s.startRef e)).host.cpls = s.host.cpls := rfl
    refine Runs.of (execDescriptorStart_of_off hw ⟨h, hlen, hf⟩ hen) ⟨hlost.cpls.trans hcpls, ?_, hbit,
      keeps_trans (keeps_mono hk (by decide)) cplLost_keeps⟩
    rw [hlost.sq, hwait, State.sq_setSq_self]
  · refine Runs.of (t := s) ?_ rfl
    rw [exec_descriptorStart, execDescriptorStart, hw]
    dsimp only
    refine if_pos ?_
    obtain hl | ⟨hfl, hp⟩ := hstop
    · simp [hl]
    · simp [hfl, hp]
  · refine Runs.of (t := s) ?_ rfl
    rw [exec_descriptorStart, execDescriptorStart, hw]
    dsimp only
    rw [hen, if_neg (show ¬(!true) = true by decide), if_pos hfull, ite_self]
  · refine Runs.of (t := s) ?_ rfl
    rw [exec_descriptorStart, execDescriptorStart, hw]
  · exact Runs.of_complete (State.takeUp_of_up h 0x00 (fun s => s.complete d 0x00 stOk 0 0))
  · rw [complete_of_open hen ho]
    refine ⟨rfl, keeps_trans (t := { s with host := { s.host with cpls := s.host.cpls ++ [cmdCpl d o st x a] } }) ?_ retire_keeps⟩
    simp [State.keeps_iff]
  · obtain ⟨count, timing, v, hexec⟩ := execCompletionPost_of_next h hb hen hx
    have hcq : (s.cplPosted fn q x count timing).cq fn q = (s.cq fn q).posted x.resv count timing := State.cq_setCq_self ..
    have hk : s.keeps (s.cplPosted fn q x count timing) [.host] := by simp [State.keeps_iff, State.cplPosted, State.setCq]
    have hsame : ∃ t, exec (.completionPost fn q) s = .next t ∧ (s.cplPosted fn q x count timing).sameRings t ∧
        (s.cplPosted fn q x count timing).keeps t [.host] := by
      obtain hexec | hexec := hexec
      · exact ⟨_, hexec, .refl _, keeps_refl⟩
      · exact ⟨_, hexec, .msix _ _ _, msix_keeps⟩
    obtain ⟨t, hexec, hs, hkt⟩ := hsame
    refine Runs.of hexec ⟨?_, ?_, hs.cpls, hs.hostMem, keeps_trans hk hkt⟩
    · rw [hs.cq, hcq]
      rfl
    · rw [hs.cq, hcq]
      rfl
  · refine Runs.of (t := s) ?_ rfl
    rw [exec_completionPost, execCompletionPost, hx]
    exact ite_self _
  · refine Runs.of (if_pos (by simp [ht, hc])) ⟨?_, keeps_trans setCq_keeps msix_keeps⟩
    rw [(State.sameRings.msix ..).cq, State.cq_setCq_self]

end Sys2Proof.Machine
end

section
/-!
PROOF. WRITE_DEEP and READ_DEEP: refused, queued, or ended with what has moved (R351, R364).
-/
namespace Sys2Proof.Machine

/-! ### What a completion leaves of transfers and host memory -/

/-- Transfers, messages, buffers and host memory are the same. -/
structure State.sameMoves (s t : State) : Prop where
  xfers : t.host.xfers = s.host.xfers
  hostMem : t.host.hostMem = s.host.hostMem
  ins : t.host.ins = s.host.ins
  msgs : t.host.msgs = s.host.msgs
  bufs : t.host.bufs = s.host.bufs

theorem State.sameMoves.refl (s : State) : s.sameMoves s := ⟨rfl, rfl, rfl, rfl, rfl⟩
theorem State.sameMoves.trans {s t u : State} (h : s.sameMoves t) (k : t.sameMoves u) : s.sameMoves u :=
  ⟨k.xfers.trans h.xfers, k.hostMem.trans h.hostMem, k.ins.trans h.ins, k.msgs.trans h.msgs, k.bufs.trans h.bufs⟩

theorem State.sameMoves.msix (s : State) (f v : Nat) : s.sameMoves (s.msix f v) := by
  unfold State.msix
  split
  · exact ⟨rfl, rfl, rfl, rfl, rfl⟩
  · split <;> exact ⟨rfl, rfl, rfl, rfl, rfl⟩

theorem State.sameMoves.raiseFnStat (s : State) (f i : Nat) : s.sameMoves (s.raiseFnStat f i) := by
  unfold State.raiseFnStat
  refine iteInduction (motive := fun t => State.sameMoves _ t) (fun _ => .refl s) (fun _ => ?_)
  refine State.sameMoves.trans ?_ (.msix _ _ _)
  exact ⟨rfl, rfl, rfl, rfl, rfl⟩

theorem State.sameMoves.cplLost (s : State) (f k : Nat) : s.sameMoves (s.cplLost f k) :=
  (State.sameMoves.raiseFnStat s f 17).trans ⟨rfl, rfl, rfl, rfl, rfl⟩

theorem State.sameMoves.postFor (s : State) (d : DRef) (k st : Nat) (b : CplBody) : s.sameMoves (s.postFor d k st b) := by
  unfold State.postFor
  refine iteInduction (motive := fun t => State.sameMoves _ t) (fun _ => .cplLost _ _ _) (fun _ => ?_)
  unfold State.queueCpl
  exact iteInduction (motive := fun t => State.sameMoves _ t) (fun _ => ⟨rfl, rfl, rfl, rfl, rfl⟩) (fun _ => .cplLost _ _ _)

theorem State.sameMoves.complete (s : State) (d : DRef) (o st x a : Nat) : s.sameMoves (s.complete d o st x a) :=
  (State.sameMoves.postFor s d _ _ _).trans ⟨rfl, rfl, rfl, rfl, rfl⟩
theorem State.sameMoves.completeOut (s : State) (d : DRef) (st p e q len n : Nat) : s.sameMoves (s.completeOut d st p e q len n) :=
  (State.sameMoves.postFor s d _ _ _).trans ⟨rfl, rfl, rfl, rfl, rfl⟩

theorem byFetch_congr {α : Type} {s t : State} (h : t.host.fetched = s.host.fetched) (ref : α → DRef) (x : α) (l : List α) :
    t.byFetch ref x l = s.byFetch ref x l := by
  have hp : t.fetchPos = s.fetchPos := funext fun d => by rw [State.fetchPos, h, State.fetchPos]
  rw [State.byFetch, hp, State.byFetch]

/-! ### The start -/

section
variable {s : State} {d : DRef} {opc ten host off len : Nat}

theorem startXfer_of_badArg (h : off % 64 ≠ 0 ∨ len % 64 ≠ 0 ∨ len = 0 ∨ 2 ^ 30 < len) :
    s.startXfer d opc ten host off len = s.complete d opc stBadArg 0 0 := if_pos (by omega)

variable (ho : off % 64 = 0) (hl : len % 64 = 0) (h0 : 0 < len) (h30 : len ≤ 2 ^ 30)
include ho hl h0 h30

theorem startXfer_of_outside (hr : s.rsize ten < off + len) :
    s.startXfer d opc ten host off len = (s.regionFault ten off).complete d opc stRegion 0 0 := (if_neg (by omega)).trans (if_pos hr)

theorem startXfer_of_protected (hr : off + len ≤ s.rsize ten) (hp : s.protectedRange ten off len = true) :
    s.startXfer d 0x01 ten host off len = s.complete d 0x01 stBadArea 0 0 :=
  (if_neg (by omega)).trans ((if_neg (Nat.not_lt.2 hr)).trans (if_pos ⟨rfl, hp⟩))

/-- A transfer that is accepted asks for its tokens and joins the queue in the order of fetching. -/
theorem startXfer_of_inside (hr : off + len ≤ s.rsize ten) (hp : opc = 0x01 → s.protectedRange ten off len = false) :
    (∃ x, (s.startXfer d opc ten host off len).host.xfers = s.byFetch (fun y => y.ref) x s.host.xfers ∧ x.ref = d ∧ x.opc = opc ∧
      x.ten = ten ∧ x.hostAddr = host ∧ x.off = off ∧ x.len = len) ∧ s.keeps (s.startXfer d opc ten host off len) [.host, .sched] := by
  have hprot : ¬(opc = 0x01 ∧ s.protectedRange ten off len = true) := fun h => by rw [hp h.1] at h; cases h.2
  have hk : s.keeps (s.askTokens 4 ten len).2 [.sched] := askTokens_keeps
  unfold State.startXfer
  rw [if_neg (by omega), if_neg (Nat.not_lt.2 hr), if_neg hprot]
  dsimp only
  generalize s.askTokens 4 ten len = r at hk
  have hhost : r.2.host = s.host := hk .host (by decide)
  refine ⟨⟨{ ref := d, opc := opc, ten := ten, port := 0, hostAddr := host, off := off, len := len, tok := r.1 }, ?_, rfl, rfl, rfl, rfl, rfl, rfl⟩, ?_⟩
  · rw [byFetch_congr (congrArg HostIf.fetched hhost), hhost]
  · exact keeps_trans (keeps_mono hk (by decide)) (by simp [State.keeps_iff])

end

/-! ### The end -/

/-- The transfer has left its engine. -/
def State.xferTaken (s : State) (x : Xfer) : State :=
  { s with host := { s.host with xfers := removeFirst (fun y => y = x) s.host.xfers } }

/-- The bytes of a transfer of `n` bytes, of which some may be missing. -/
def xferData (bs : List Byte) (n : Nat) : List Byte := (bs ++ zeros n).take n

section
variable {s : State} {d : DRef} {bs : List Byte} {x : Xfer} {e : XferEnd}

theorem xfer_ref (hx : (s.host.xfers.take 16).find? (fun x => decide (x.ref = d)) = some x) : x.ref = d := by
  have h := List.find?_some hx
  exact of_decide_eq_true h

theorem execDmaTransferDone_of_whole (hx : (s.host.xfers.take 16).find? (fun x => decide (x.ref = d)) = some x)
    (hb : s.host.bmeOff.contains d.fn.val = false) (ht : s.tokWaits 4 x.tok = false)
    (hp : x.opc = 0x02 → s.rangePoisoned (s.rbase x.ten + x.off) x.len = false) :
    exec (.dmaTransferDone d bs e) s = .next ((s.xferTaken x).endXfer x bs e) := by
  rw [exec_dmaTransferDone, execDmaTransferDone, hx]
  dsimp only
  rw [hb, ht, if_neg (by decide), if_neg (fun h => by rw [hp h.1] at h; cases h.2)]
  rfl

theorem execDmaTransferDone_of_poisoned (hx : (s.host.xfers.take 16).find? (fun x => decide (x.ref = d)) = some x)
    (hb : s.host.bmeOff.contains d.fn.val = false) (ht : s.tokWaits 4 x.tok = false) (ho : x.opc = 0x02)
    (hp : s.rangePoisoned (s.rbase x.ten + x.off) x.len = true) :
    exec (.dmaTransferDone d bs e) s = .next (((s.xferTaken x).report 0x060A clsTenant ((s.rbase x.ten + x.off) / 4096 % 4) (some x.ten)
      (s.rbase x.ten + x.off)).endXfer x bs .poisoned) := by
  rw [exec_dmaTransferDone, execDmaTransferDone, hx]
  dsimp only
  rw [hb, ht, if_neg (by decide), if_pos ⟨ho, hp⟩]
  rfl

theorem endXfer_of_write (ho : x.opc = 0x01) : s.endXfer x bs .ok =
    (s.dsWrite (s.rbase x.ten + x.off) (xferData bs x.len)).complete x.ref x.opc stOk 0 0 := by
  have hd : ((bs ++ zeros x.len).take x.len).take x.len = xferData bs x.len := by rw [List.take_take, Nat.min_self, xferData]
  unfold State.endXfer
  dsimp only
  rw [if_pos ho, if_pos (Or.inr rfl), hd]
  exact if_neg (by omega)

theorem endXfer_of_faultyWrite {n : Nat} (ho : x.opc = 0x01) : s.endXfer x bs (.hostFault n) =
    ((s.dsWrite (s.rbase x.ten + x.off) ((xferData bs x.len).take (min n x.len))).hostFault x.ref x.opc).complete x.ref x.opc stHostFault 0 0 := by
  unfold State.endXfer
  dsimp only
  rw [if_pos ho, if_neg (by simp [ho])]
  rfl

/-- Bytes of the deep store that have gone to host memory. -/
def State.hostWritten (s : State) (x : Xfer) (n : Nat) : State :=
  { s with host := { s.host with hostMem := s.host.hostMem.writeBytes x.hostAddr (s.ds.readBytes (s.rbase x.ten + x.off) n) } }

theorem endXfer_of_read (ho : x.opc = 0x02) : s.endXfer x bs .ok = (s.hostWritten x x.len).complete x.ref x.opc stOk 0 0 := by
  unfold State.endXfer
  dsimp only
  rw [if_neg (show ¬x.opc = 1 by omega), if_pos ho, if_pos (Or.inr rfl)]
  exact if_neg (by omega)

theorem endXfer_of_poisonedRead (ho : x.opc = 0x02) : s.endXfer x bs .poisoned = (s.hostWritten x 0).complete x.ref x.opc stDataUe 0 0 := by
  unfold State.endXfer
  dsimp only
  rw [if_neg (show ¬x.opc = 1 by omega), if_pos ho, if_pos (Or.inl ho)]
  rfl

theorem endXfer_of_message (ho : x.opc = 0x21) : s.endXfer x bs .ok = { s with host := { s.host with
    ins := s.byFetch (fun y => y.ref) { ref := x.ref, ten := x.ten, port := x.port, bytes := xferData bs x.len } s.host.ins } } := by
  unfold State.endXfer
  dsimp only
  rw [if_neg (show ¬x.opc = 1 by omega), if_neg (show ¬x.opc = 2 by omega), if_pos (Or.inr rfl)]
  exact if_pos ho

theorem hostFault_frame (s : State) (d : DRef) (o : Nat) : s.sameMoves (s.hostFault d o) ∧ s.keeps (s.hostFault d o) [.host, .fm] :=
  ⟨(State.sameMoves.raiseFnStat ..).trans ⟨rfl, rfl, rfl, rfl, rfl⟩,
    keeps_trans (keeps_mono raiseFnStat_keeps (by decide)) (keeps_mono report_keeps (by decide))⟩

end

theorem execDescReadDeep_of_up {d : DRef} {ten : TenId} {h off : DWord} {len : Word} {s : State} (hup : s.fnUp d.fn = true) :
    exec (.descReadDeep d ten h off len) s = .next (s.startXfer d 0x02 (target d ten) h.toNat off.toNat len.toNat) :=
  State.takeUp_of_up hup 0x02 (fun s => s.startXfer d 0x02 (target d ten) h.toNat off.toNat len.toNat)

theorem execDescWriteDeep_of_mode {d : DRef} {ten : TenId} {h off : DWord} {len : Word} {s : State} (hup : s.fnUp d.fn = true)
    (hs : s.dev.mode ≠ .safe) :
    exec (.descWriteDeep d ten h off len) s = .next (s.startXfer d 0x01 (target d ten) h.toNat off.toNat len.toNat) :=
  State.takeUp_of_mode hup hs (k := fun s => s.startXfer d 0x01 (target d ten) h.toNat off.toNat len.toNat)

/-- Settles O41: a transfer's start and its end, each by the rule of its case. -/
theorem deepTransfers : Obligations.DeepTransfers := by
  refine ⟨fun d ten h off len s hup hbad => ⟨?_, fun hs => ?_⟩, fun d ten h off len s hup ho hl h0 h30 hr => ⟨?_, fun hs => ?_⟩,
    fun d ten h off len s hup ho hl h0 h30 hr => ⟨?_, fun hs hp => ?_, fun hs hp => ?_⟩, fun d ten h off len s hup hs => ?_,
    fun d bs x s hx hb ht => ⟨fun ho => ?_, fun ho hp => ?_, fun ho hp => ?_, fun ho => ?_, fun n ho => ?_⟩, fun d bs e s hn => ?_⟩
  · exact Runs.of_complete ((execDescReadDeep_of_up hup).trans (congrArg Host.Outcome.next (startXfer_of_badArg hbad)))
  · exact Runs.of ((execDescWriteDeep_of_mode hup hs).trans (congrArg Host.Outcome.next (startXfer_of_badArg hbad))) rfl
  · exact Runs.of ((execDescReadDeep_of_up hup).trans (congrArg Host.Outcome.next (startXfer_of_outside ho hl h0 h30 hr))) rfl
  · exact Runs.of ((execDescWriteDeep_of_mode hup hs).trans (congrArg Host.Outcome.next (startXfer_of_outside ho hl h0 h30 hr))) rfl
  · exact Runs.of (execDescReadDeep_of_up hup) (startXfer_of_inside ho hl h0 h30 hr (by omega))
  · exact Runs.of (execDescWriteDeep_of_mode hup hs) (startXfer_of_inside ho hl h0 h30 hr fun _ => hp)
  · exact Runs.of ((execDescWriteDeep_of_mode hup hs).trans (congrArg Host.Outcome.next (startXfer_of_protected ho hl h0 h30 hr hp))) rfl
  · exact Runs.of (State.takeUp_of_safe hup hs (k := fun s => s.startXfer d 0x01 (target d ten) h.toNat off.toNat len.toNat)) rfl
  · have href : x.ref = d := xfer_ref hx
    have hds : (s.xferTaken x).keeps ((s.xferTaken x).dsWrite (s.rbase x.ten + x.off) (xferData bs x.len)) [.ds, .noc] := dsWrite_keeps
    have hk : s.keeps (s.xferTaken x) [.host] := by simp [State.keeps_iff, State.xferTaken]
    have hc := State.sameMoves.complete ((s.xferTaken x).dsWrite (s.rbase x.ten + x.off) (xferData bs x.len)) x.ref x.opc stOk 0 0
    refine Runs.of ((execDmaTransferDone_of_whole hx hb ht (by omega)).trans (congrArg Host.Outcome.next (endXfer_of_write ho)))
      ⟨complete_keeps .ds (by decide), hc.hostMem, hc.xfers, ?_⟩
    exact keeps_trans (keeps_mono hk (by decide)) (keeps_trans (keeps_mono hds (by decide)) (keeps_mono complete_keeps (by decide)))
  · have hc := State.sameMoves.complete ((s.xferTaken x).hostWritten x x.len) x.ref x.opc stOk 0 0
    refine Runs.of ((execDmaTransferDone_of_whole hx hb ht fun _ => hp).trans (congrArg Host.Outcome.next (endXfer_of_read ho)))
      ⟨hc.hostMem, hc.xfers, keeps_trans (t := (s.xferTaken x).hostWritten x x.len) ?_ complete_keeps⟩
    simp [State.keeps_iff, State.xferTaken, State.hostWritten]
  · have href : x.ref = d := xfer_ref hx
    have hk : s.keeps (((s.xferTaken x).report 0x060A clsTenant ((s.rbase x.ten + x.off) / 4096 % 4) (some x.ten)
      (s.rbase x.ten + x.off)).hostWritten x 0) [.host, .fm] := by
        simp [State.keeps_iff, State.xferTaken, State.hostWritten, State.report]
    have hmem : (((s.xferTaken x).report 0x060A clsTenant ((s.rbase x.ten + x.off) / 4096 % 4) (some x.ten)
      (s.rbase x.ten + x.off)).hostWritten x 0).host.hostMem = s.host.hostMem := rfl
    have hexec := execDmaTransferDone_of_poisoned (bs := bs) (e := .ok) hx hb ht ho hp
    rw [endXfer_of_poisonedRead ho, href, ho] at hexec
    exact Runs.of hexec ⟨(State.sameMoves.complete ..).hostMem.trans hmem, ⟨_, rfl⟩, keeps_trans hk complete_keeps⟩
  · have href : x.ref = d := xfer_ref hx
    have hby : (s.xferTaken x).byFetch (fun y => y.ref) { ref := d, ten := x.ten, port := x.port, bytes := xferData bs x.len } s.host.ins =
        s.byFetch (fun y => y.ref) { ref := d, ten := x.ten, port := x.port, bytes := xferData bs x.len } s.host.ins := byFetch_congr rfl _ _ _
    have hexec := execDmaTransferDone_of_whole (bs := bs) (e := .ok) hx hb ht (by omega)
    rw [endXfer_of_message ho, href] at hexec
    exact Runs.of hexec ⟨rfl, rfl, hby, by simp [State.keeps_iff, State.xferTaken]⟩
  · have href : x.ref = d := xfer_ref hx
    have hexec := execDmaTransferDone_of_whole (bs := bs) (e := .hostFault n) hx hb ht (by omega)
    rw [endXfer_of_faultyWrite ho, href, ho] at hexec
    have hk : s.keeps (s.xferTaken x) [.host] := by simp [State.keeps_iff, State.xferTaken]
    have hds : (s.xferTaken x).keeps ((s.xferTaken x).dsWrite ((s.xferTaken x).rbase x.ten + x.off)
      ((xferData bs x.len).take (min n x.len))) [.ds, .noc] := dsWrite_keeps
    have hwritten : ((s.xferTaken x).dsWrite ((s.xferTaken x).rbase x.ten + x.off) ((xferData bs x.len).take (min n x.len))).ds =
        s.ds.writeBytes (s.rbase x.ten + x.off) ((xferData bs x.len).take (min n x.len)) := rfl
    have hxfers : ((s.xferTaken x).dsWrite ((s.xferTaken x).rbase x.ten + x.off) ((xferData bs x.len).take (min n x.len))).host.xfers =
        removeFirst (fun y => y = x) s.host.xfers := rfl
    generalize (s.xferTaken x).dsWrite ((s.xferTaken x).rbase x.ten + x.off) ((xferData bs x.len).take (min n x.len)) = u
      at hexec hds hwritten hxfers
    obtain ⟨hf, hkf⟩ := hostFault_frame u d 1
    have hc := State.sameMoves.complete (u.hostFault d 1) d 1 stHostFault 0 0
    refine Runs.of hexec ⟨⟨u, rfl⟩, ?_, hc.xfers.trans (hf.xfers.trans hxfers), ?_⟩
    · exact (complete_keeps .ds (by decide)).trans ((hkf .ds (by decide)).trans hwritten)
    · exact keeps_trans (keeps_mono hk (by decide)) (keeps_trans (keeps_mono hds (by decide))
        (keeps_trans (keeps_mono hkf (by decide)) (keeps_mono complete_keeps (by decide))))
  · refine Runs.of (t := s) ?_ rfl
    rw [exec_dmaTransferDone, execDmaTransferDone]
    split
    · rfl
    next x hx =>
      obtain hn | hb := hn
      · rw [hn] at hx
        cases hx
      · exact if_pos (by rw [hb]; rfl)

end Sys2Proof.Machine
end

section
/-!
PROOF. Messages: bindings, messages in and out, and their release in order (R253, R254, R357 to R361).
-/
namespace Sys2Proof.Machine

/-! ### Ports -/

theorem find?_set_self {α : Type} (m : Map α) (k : Nat) (v : α) : (Map.set m k v).find? (fun e => decide (e.1 = k)) = some (k, v) := by
  induction m with
  | nil => simp [Map.set]
  | cons x r ih =>
    obtain ⟨j, w⟩ := x
    unfold Map.set
    split
    · simp
    · split
      next hk => simp
      next hk => rw [List.find?_cons_of_neg (by simpa using Ne.symm hk)]; exact ih

theorem find?_del_self {α : Type} (m : Map α) (k : Nat) : (Map.del m k).find? (fun e => decide (e.1 = k)) = none := by
  refine List.find?_eq_none.2 fun e he => ?_
  have hne : e.1 ≠ k := of_decide_eq_true (List.mem_filter.1 he).2
  simpa using hne

/-- A tenant's ports once a binding has taken effect. -/
def BindJob.ports (b : BindJob) (m : Map Port) : Map Port :=
  match b.tgt with
  | some p => Map.set m b.port p
  | none => Map.del m b.port

section
variable {s : State} {x : Nat} {b : BindJob}

/-- No buffer and no inbound message waits at the port. -/
def State.portEmptied (s : State) (x : Nat) (b : BindJob) : State :=
  { s with host := { s.host with
    bufs := s.host.bufs.filter (fun y => !decide (y.ten = x ∧ y.port = b.port))
    ins := s.host.ins.filter (fun y => !decide (y.ten = x ∧ y.port = b.port)) } }

/-- What a binding does before its descriptor completes: what waits at the port ends, and the port changes. -/
theorem bindNow_eq (s : State) (x : Nat) (b : BindJob) : ∃ (u : State) (g : List Nat), s.keeps u [.host, .fm] ∧
    s.bindNow x b = (u.updTen x (fun v => { v with ports := b.ports v.ports, gone := g })).complete b.cmd 0x20 stOk 0 0 := by
  have h0 : s.keeps (s.portEmptied x b) [.host, .fm] := by simp [State.keeps_iff, State.portEmptied]
  have h1 := keeps_foldl [.host, .fm] (fun (s : State) (y : OutBuf) => s.completeOut y.ref stAborted y.port 0 0 0 0)
    (fun _ _ => keeps_trans postFor_keeps (keeps_mono retire_keeps (by decide)))
    (s.host.bufs.filter (fun y => decide (y.ten = x ∧ y.port = b.port))) (s.portEmptied x b)
  have h2 := keeps_foldl [.host, .fm] (fun (s : State) (y : InMsg) => s.complete y.ref 0x21 stAborted 0 0) (fun _ _ => complete_keeps)
    (s.host.ins.filter (fun y => decide (y.ten = x ∧ y.port = b.port)))
    ((s.host.bufs.filter (fun y => decide (y.ten = x ∧ y.port = b.port))).foldl
      (fun s y => s.completeOut y.ref stAborted y.port 0 0 0 0) (s.portEmptied x b))
  exact ⟨_, _, keeps_trans h0 (keeps_trans h1 h2), rfl⟩

theorem bindNow_frame (s : State) (x : Nat) (b : BindJob) : ((s.bindNow x b).ten x).ports = b.ports (s.ten x).ports ∧
    s.otherTenants (s.bindNow x b) x ∧ s.keeps (s.bindNow x b) [.tenants, .host, .fm] := by
  obtain ⟨u, g, hk, he⟩ := bindNow_eq s x b
  rw [he, State.ten_complete, State.ten_updTen, ten_of_keeps hk (by decide)]
  refine ⟨rfl, fun m hm => ?_, keeps_trans (keeps_mono hk (by decide)) (keeps_trans (keeps_mono updTen_keeps (by decide))
    (keeps_mono complete_keeps (by decide)))⟩
  rw [State.ten_complete, State.ten_updTen_ne _ _ hm, ten_of_keeps hk (by decide)]

/-! ### MSG_BIND and MSG_IN -/

variable {d : DRef} {p dir m cq : Byte}

/-- The binding that MSG_BIND asks for. -/
def bindJob (d : DRef) (p dir m cq : Byte) : BindJob :=
  { cmd := d, port := p.toNat
    tgt := if dir.toNat = 0xFF then none else some { out := decide (dir.toNat = 1), memid := m.toNat, cq := cq.toNat } }

theorem execMsgBind_of_mode (h : s.fnUp d.fn = true) (hm : s.dev.mode ≠ .safe) : exec (.msgBind d p dir m cq) s = .next (
    if s.bindStatus d.fn p.toNat dir.toNat m.toNat cq.toNat ≠ stOk
    then s.complete d 0x20 (s.bindStatus d.fn p.toNat dir.toNat m.toNat cq.toNat) 0 0
    else if s.runsNone d.fn then s.bindNow d.fn (bindJob d p dir m cq)
    else s.updTen d.fn (fun v => { v with binds := v.binds ++ [bindJob d p dir m cq] })) :=
  State.takeUp_of_mode h hm (k := fun s => if s.bindStatus d.fn p.toNat dir.toNat m.toNat cq.toNat ≠ stOk
    then s.complete d 0x20 (s.bindStatus d.fn p.toNat dir.toNat m.toNat cq.toNat) 0 0
    else if s.runsNone d.fn then s.bindNow d.fn (bindJob d p dir m cq)
    else s.updTen d.fn (fun v => { v with binds := v.binds ++ [bindJob d p dir m cq] }))

/-- What MSG_IN does once it is taken up. -/
def State.msgInTaken (s : State) (d : DRef) (port len addr : Nat) : State :=
  if len = 0 ∨ 4096 < len ∨ 8 ≤ port then s.complete d 0x21 stBadArg 0 0
  else
    match s.port d.fn port, (s.ten d.fn).img with
    | some p, some i =>
      match i.mem p.memid with
      | some e =>
        if p.out then s.complete d 0x21 stNoPort 0 0
        else if 2 ^ (e.k - 1) < 1 + (len + 7) / 8 then s.complete d 0x21 stMsgFormat 0 0
        else
          let x : Xfer := { ref := d, opc := 0x21, ten := d.fn.val, port := port, hostAddr := addr, off := 0, len := len }
          { s with host := { s.host with xfers := s.byFetch (fun y => y.ref) x s.host.xfers } }
      | none => s.complete d 0x21 stNoPort 0 0
    | _, _ => s.complete d 0x21 stNoPort 0 0

theorem execMsgIn_of_mode {len : BitVec 16} {a : DWord} (h : s.fnUp d.fn = true) (hm : s.dev.mode ≠ .safe) :
    exec (.msgIn d p len a) s = .next (s.msgInTaken d p.toNat len.toNat a.toNat) :=
  State.takeUp_of_mode h hm (k := fun s => s.msgInTaken d p.toNat len.toNat a.toNat)

section
variable {port len addr : Nat} (h0 : 0 < len) (hl : len ≤ 4096) (hp : port < 8)
include h0 hl hp

theorem msgInTaken_of_noPort (hn : s.port d.fn port = none) : s.msgInTaken d port len addr = s.complete d 0x21 stNoPort 0 0 := by
  unfold State.msgInTaken
  rw [if_neg (by omega), hn]

variable {q : Port} {i : Image} {e : DeepEnt} (hq : s.port d.fn port = some q) (ho : q.out = false) (hi : (s.ten d.fn).img = some i)
  (he : i.mem q.memid = some e)
include hq ho hi he

theorem msgInTaken_of_fits (hf : 1 + (len + 7) / 8 ≤ 2 ^ (e.k - 1)) : s.msgInTaken d port len addr = { s with host := { s.host with
    xfers := s.byFetch (fun y => y.ref)
      { ref := d, opc := 0x21, ten := d.fn.val, port := port, hostAddr := addr, off := 0, len := len } s.host.xfers } } := by
  unfold State.msgInTaken
  rw [if_neg (by omega), hq, hi]
  dsimp only
  rw [he]
  dsimp only
  rw [if_neg (by simp [ho]), if_neg (Nat.not_lt.2 hf)]

theorem msgInTaken_of_long (hf : 2 ^ (e.k - 1) < 1 + (len + 7) / 8) : s.msgInTaken d port len addr = s.complete d 0x21 stMsgFormat 0 0 := by
  unfold State.msgInTaken
  rw [if_neg (by omega), hq, hi]
  dsimp only
  rw [he]
  dsimp only
  rw [if_neg (by simp [ho]), if_pos hf]

end

/-! ### MSG_IN_LAND -/

theorem journalLine_keeps {memid line ecyc : Nat} : s.keeps (s.journalLine x memid line ecyc) [.tenants, .ds, .noc, .freeCtr, .sched, .cap] := by
  unfold State.journalLine
  dsimp only
  split
  · exact keeps_refl
  · split
    next a _ =>
      rw [journalAdd_eq]
      refine keeps_trans (keeps_trans (keeps_trans (keeps_trans (keeps_mono updTen_keeps ?_) (keeps_mono freeBytes_keeps ?_))
        (keeps_mono dsWrite_keeps ?_)) (keeps_mono chargeFault_keeps ?_)) (keeps_mono earlyCheckpoint_keeps ?_) <;> decide
    next => exact keeps_refl

theorem putRecord_keeps {port dseq ec : Nat} {bs : List Byte} :
    s.keeps (s.putRecord x port dseq ec bs) [.tenants, .ds, .noc, .freeCtr, .sched, .cap] := by
  unfold State.putRecord
  split
  · exact keeps_refl
  next e a _ =>
    have hds : ∀ (u : State) (l : Nat) (w : Mem), u.keeps { u.journalLine x e.memid l ec with ds := w } [.tenants, .ds, .noc, .freeCtr, .sched, .cap] :=
      fun u l w => keeps_trans (t := u.journalLine x e.memid l ec) journalLine_keeps (by simp [State.keeps_iff])
    exact keeps_trans (keeps_foldl _ _ (fun u i => hds u _ _) _ _) (hds _ _ _)

theorem dsRing_keeps {base size at_ : Nat} {bs : List Byte} : s.keeps (s.dsRing base size at_ bs) [.ds, .noc] := by
  unfold State.dsRing
  exact keeps_trans dsWrite_keeps dsWrite_keeps

theorem logInput_keeps {typ e : Nat} {bs : List Byte} : s.keeps (s.logInput x typ e bs) [.tenants, .ds, .noc, .sched, .cap] := by
  unfold State.logInput State.logAdd
  refine keeps_ite (keeps_trans (keeps_ite ?_ keeps_refl) (keeps_mono earlyCheckpoint_keeps (by decide))) keeps_refl
  exact keeps_trans (keeps_trans (keeps_mono updTen_keeps (by decide)) (keeps_mono dsRing_keeps (by decide))) (keeps_mono chargeFault_keeps (by decide))

/-- An inbound message lands: its record, its log entry, its completion. -/
def State.landed (s : State) (x p e : Nat) (m : InMsg) : State :=
  ((({ s with host := { s.host with ins := removeFirst (fun y => y = m) s.host.ins } }).putRecord x p m.ref.dseq.toNat e m.bytes).logInput x 1 e
    (leBytes p 1 ++ zeros 3 ++ leBytes m.ref.dseq.toNat 4 ++ m.bytes)).complete m.ref 0x21 stOk e 0

theorem landed_frame (s : State) (x p e : Nat) (m : InMsg) : (s.landed x p e m).host.ins = removeFirst (fun y => y = m) s.host.ins ∧
    (s.landed x p e m).host.hostMem = s.host.hostMem := by
  unfold State.landed
  have hput : State.keeps { s with host := { s.host with ins := removeFirst (fun y => y = m) s.host.ins } } _ _ :=
    putRecord_keeps (x := x) (port := p) (dseq := m.ref.dseq.toNat) (ec := e) (bs := m.bytes)
  have hhost : (({ s with host := { s.host with ins := removeFirst (fun y => y = m) s.host.ins } }).putRecord x p m.ref.dseq.toNat e m.bytes).host =
      { s.host with ins := removeFirst (fun y => y = m) s.host.ins } := hput .host (by decide)
  generalize ({ s with host := { s.host with ins := removeFirst (fun y => y = m) s.host.ins } }).putRecord x p m.ref.dseq.toNat e m.bytes = u at hhost
  have hlog := (logInput_keeps (s := u) (x := x) (typ := 1) (e := e) (bs := leBytes p 1 ++ zeros 3 ++ leBytes m.ref.dseq.toNat 4 ++ m.bytes)) .host
    (by decide)
  have hc := State.sameMoves.complete (u.logInput x 1 e (leBytes p 1 ++ zeros 3 ++ leBytes m.ref.dseq.toNat 4 ++ m.bytes)) m.ref 0x21 stOk e 0
  constructor
  · rw [hc.ins, show (u.logInput x 1 e _).host = u.host from hlog, hhost]
  · rw [hc.hostMem, show (u.logInput x 1 e _).host = u.host from hlog, hhost]

theorem execMsgInLand_of_none {ten : TenId} {port : Ring8} (h : s.landable ten port = none) : exec (.msgInLand ten port) s = .next s := by
  rw [exec_msgInLand, execMsgInLand, h]

theorem execMsgInLand_of_ready {ten : TenId} {port : Ring8} {y : InMsg} {e : DeepEnt} {a l : Nat} (hl : s.landable ten port = some y)
    (hin : s.inPort ten port = some (e, a)) (ht : s.tileOf ten e.owner = some l)
    (hfirst : (List.range port.val).all (fun q => (s.landable ten q).isNone || !(s.inPort ten q).any (fun x => decide (x.1.owner = e.owner))) = true)
    (he : (s.tile l).inEcyc = false) (hh : (s.tile l).halt = none) (hr : (s.ten ten).recov = none)
    (hc : s.closedFor ten (s.tile l).endedCount = false) (hm : s.movingFor ten (s.tile l).endedCount = false) (hf : s.logFull ten = false)
    (hredo : (s.redoFor ten e.owner (s.tile l).endedCount).isEmpty = true) (hs : s.dev.mode ≠ .safe) :
    exec (.msgInLand ten port) s = .next (s.landed ten port (s.tile l).endedCount y) := by
  rw [exec_msgInLand, execMsgInLand, hl, hin]
  dsimp only
  rw [ht]
  dsimp only
  rw [hfirst, he, hh, hr, hc, hm, hf, hredo, decide_eq_false hs]
  rfl

/-! ### MSG_OUT -/

section
variable {cap : Word} {a : DWord}

theorem execMsgOut_of_badArg (h : s.fnUp d.fn = true) (hb : cap.toNat = 0 ∨ 4096 < cap.toNat ∨ 8 ≤ p.toNat) :
    exec (.msgOut d p cap a) s = .next (s.complete d 0x22 stBadArg 0 0) := (if_pos h).trans (if_pos hb)

theorem execMsgOut_of_out {q : Port} (h : s.fnUp d.fn = true) (h0 : 0 < cap.toNat) (hc : cap.toNat ≤ 4096) (hp : p.toNat < 8)
    (hq : s.port d.fn p.toNat = some q) (ho : q.out = true) : exec (.msgOut d p cap a) s = .next { s with host := { s.host with
      bufs := s.byFetch (fun y => y.ref) { ref := d, ten := d.fn, port := p.toNat, cap := cap.toNat, addr := a.toNat } s.host.bufs } } := by
  rw [exec_msgOut, execMsgOut, if_pos h, if_neg (by omega), hq]
  exact if_pos ho

theorem execMsgOut_of_noPort (h : s.fnUp d.fn = true) (h0 : 0 < cap.toNat) (hc : cap.toNat ≤ 4096) (hp : p.toNat < 8)
    (hq : (s.port d.fn p.toNat).all (fun q => !q.out) = true) :
    exec (.msgOut d p cap a) s = .next (s.completeOut d stNoPort p.toNat 0 0 0 0) := by
  rw [exec_msgOut, execMsgOut, if_pos h, if_neg (by omega)]
  cases hs : s.port d.fn p.toNat with
  | none => rfl
  | some q =>
    rw [hs] at hq
    have ho : (!q.out) = true := hq
    exact if_neg (by simpa using ho)

/-- A message that an engine has written into a buffer: the buffer, its status and the bytes written are noted. -/
def State.msgProcessed (s : State) (f : Msg → Bool) (y : Msg) (b : OutBuf) (r : Nat × Nat) : State :=
  { s with host := { s.host with
    bufs := removeFirst (fun x => x = b) s.host.bufs
    msgs := replaceFirst f (fun x => { x with done := some (b, r.2, r.1) }) s.host.msgs
    hostMem := s.host.hostMem.writeBytes b.addr (y.bytes.take r.1) } }

/-- The port's messages that no engine has processed. -/
def State.unprocessed (s : State) (x port : Nat) (y : Msg) : Bool :=
  decide (y.ten = x ∧ y.port = port ∧ y.done = none) && s.aboveMark y

theorem outcomeOf_ok {y : Msg} (h : y.bad = false) (cap : Nat) :
    outcomeOf y cap .ok = (min cap y.bytes.length, if cap < y.bytes.length then stMsgTrunc else stOk) := if_neg (by simp [h])

theorem execMsgOutProcess_of_ok {ten : TenId} {port : Ring8} {y : Msg} {b : OutBuf}
    (hm : s.host.msgs.find? (fun m => decide (m.ten = ten.val ∧ m.port = port.val ∧ m.done = none) && s.aboveMark m) = some y)
    (hb : s.host.bufs.find? (fun b => decide (b.ten = ten.val ∧ b.port = port.val)) = some b)
    (hbme : s.host.bmeOff.contains ten.val = false) (hbad : y.bad = false) :
    exec (.msgOutProcess ten port .ok) s = .next (s.msgProcessed (s.unprocessed ten port) y b
      (min b.cap y.bytes.length, if b.cap < y.bytes.length then stMsgTrunc else stOk)) := by
  have hst : (if b.cap < y.bytes.length then stMsgTrunc else stOk) ≠ stHostFault := by split <;> decide
  rw [exec_msgOutProcess, execMsgOutProcess]
  dsimp only
  rw [hm, hb]
  dsimp only
  rw [hbme, if_neg Bool.false_ne_true, outcomeOf_ok hbad, if_neg hst]
  rfl

/-- A message that is released: its flow's mark moves to it, and its buffer's descriptor completes. -/
def State.released (s : State) (x q : Nat) (y : Msg) (b : OutBuf) (st n : Nat) : State :=
  (({ s with host := { s.host with msgs := removeFirst (fun z => z = y) s.host.msgs } }).updTen x
    (fun v => { v with msgMark := Map.set v.msgMark q (y.e, y.s) })).completeOut b.ref st y.port y.e y.s y.len n

theorem completeOut_keeps {r : DRef} {st port e q len n : Nat} : s.keeps (s.completeOut r st port e q len n) [.host, .fm] :=
  keeps_trans postFor_keeps (keeps_mono retire_keeps (by decide))

theorem execMsgOutRelease_of_done {ten : TenId} {q : Ring8} {y : Msg} {b : OutBuf} {st n : Nat} (hh : s.flowHead ten q = some y)
    (he : y.e < (s.ten ten).done) (ha : s.aboveMark y = true) (hd : y.done = some (b, st, n)) :
    exec (.msgOutRelease ten q) s = .next (s.released ten q y b st n) := by
  rw [exec_msgOutRelease, execMsgOutRelease, hh]
  dsimp only
  rw [if_neg (Nat.not_le.2 he), if_pos ha, hd]
  rfl

end

end

/-- Settles O42: each message command by its case, with what it leaves of the host's other queues. -/
theorem messages : Obligations.Messages := by
  refine ⟨fun d p dir m cq s h hm hst => ?_, fun d p dir m cq s h hm hst => ⟨fun hr => ?_, fun hr => ?_⟩,
    fun d p len a s h hm h0 hl hp hn => ?_, fun d p len a b i e s h hm h0 hl hp hb ho hi he => ⟨fun hf => ?_, fun hf => ?_⟩,
    fun ten p s hl => ?_, fun ten p m e b l s hl hin ht hfirst hi hh hr hc hmv hf hredo hs => ?_,
    fun d p cap a b s h h0 hc hp hb ho => ?_, fun d p cap a s h h0 hc hp hn => ?_, fun d p cap a s h hbad => ?_,
    fun ten p m b s hm hb hbme hbad => ?_, fun ten q s hh => ?_, fun ten q m b st n s hh he ha hd => ?_, fun ten q m s hh he => ?_⟩
  · exact Runs.of_complete ((execMsgBind_of_mode h hm).trans (congrArg Host.Outcome.next (if_pos hst)))
  · refine Runs.of ((execMsgBind_of_mode h hm).trans (congrArg Host.Outcome.next ((if_neg (not_not.2 hst)).trans (if_neg (by simp [hr])))))
      ⟨bindJob d p dir m cq, ?_, rfl, rfl, otherTenants_updTen, updTen_keeps⟩
    rw [State.ten_updTen]
  · obtain ⟨hports, hother, hk⟩ := bindNow_frame s d.fn (bindJob d p dir m cq)
    refine Runs.of ((execMsgBind_of_mode h hm).trans (congrArg Host.Outcome.next ((if_neg (not_not.2 hst)).trans (if_pos hr))))
      ⟨fun hd => ?_, fun hd => ?_, hother, hk⟩
    · rw [State.port, hports, BindJob.ports, bindJob, if_pos hd]
      dsimp only
      rw [find?_del_self]
      rfl
    · rw [State.port, hports, BindJob.ports, bindJob, if_neg hd]
      dsimp only
      rw [find?_set_self]
      rfl
  · exact Runs.of_complete ((execMsgIn_of_mode h hm).trans (congrArg Host.Outcome.next (msgInTaken_of_noPort h0 hl hp hn)))
  · exact Runs.of ((execMsgIn_of_mode h hm).trans (congrArg Host.Outcome.next (msgInTaken_of_fits h0 hl hp hb ho hi he hf)))
      ⟨⟨_, rfl, rfl, rfl, rfl, rfl, rfl⟩, by simp [State.keeps_iff]⟩
  · exact Runs.of ((execMsgIn_of_mode h hm).trans (congrArg Host.Outcome.next (msgInTaken_of_long h0 hl hp hb ho hi he hf))) rfl
  · exact Runs.of (execMsgInLand_of_none hl) rfl
  · obtain ⟨hins, hmem⟩ := landed_frame s ten p (s.tile l).endedCount m
    exact Runs.of (execMsgInLand_of_ready hl hin ht hfirst hi hh hr hc hmv hf hredo hs) ⟨rfl, hins, hmem⟩
  · exact Runs.of (execMsgOut_of_out h h0 hc hp hb ho) ⟨rfl, by simp [State.keeps_iff]⟩
  · exact Runs.of (execMsgOut_of_noPort h h0 hc hp hn) ⟨rfl, completeOut_keeps⟩
  · exact Runs.of_complete (execMsgOut_of_badArg h hbad)
  · exact Runs.of (execMsgOutProcess_of_ok hm hb hbme hbad) ⟨rfl, rfl, mem_replaceFirst _ hm, by simp [State.keeps_iff, State.msgProcessed]⟩
  · refine Runs.of (t := s) ?_ rfl
    rw [exec_msgOutRelease, execMsgOutRelease, hh]
  · have hk : s.keeps ({ s with host := { s.host with msgs := removeFirst (fun z => z = m) s.host.msgs } }) [.host] := by simp [State.keeps_iff]
    have hmsgs : (({ s with host := { s.host with msgs := removeFirst (fun z => z = m) s.host.msgs } }).updTen ten
      (fun v => { v with msgMark := Map.set v.msgMark q (m.e, m.s) })).host.msgs = removeFirst (fun z => z = m) s.host.msgs := rfl
    refine Runs.of (execMsgOutRelease_of_done hh he ha hd) ⟨?_, (State.sameMoves.completeOut ..).msgs.trans hmsgs, fun x hx => ?_,
      keeps_trans (keeps_mono hk (by decide)) (keeps_trans (keeps_mono updTen_keeps (by decide)) (keeps_mono completeOut_keeps (by decide)))⟩
    · rw [State.released, ten_of_keeps completeOut_keeps (by decide), State.ten_updTen]
      exact Map.get_set_self ..
    · rw [State.released, ten_of_keeps completeOut_keeps (by decide), State.ten_updTen_ne _ _ hx]
      rfl
  · refine Runs.of (t := s) ?_ rfl
    rw [exec_msgOutRelease, execMsgOutRelease, hh]
    exact if_pos he

end Sys2Proof.Machine
end

section
/-!
PROOF. Host-side resets: rings and transfers of a function, and the link (R341, R363, R459, R489).
-/
namespace Sys2Proof.Machine

/-- Steps that each establish their own fact, under a relation that preserves every one of them. -/
theorem foldl_settles {σ α : Type} {R : σ → σ → Prop} (hrefl : ∀ s, R s s) (htrans : ∀ {s t u}, R s t → R t u → R s u) {P : α → σ → Prop}
    (hstable : ∀ {a s t}, R s t → P a s → P a t) {g : σ → α → σ} (hR : ∀ s a, R s (g s a)) (hP : ∀ s a, P a (g s a)) (ls : List α) (s : σ) :
    R s (ls.foldl g s) ∧ ∀ a ∈ ls, P a (ls.foldl g s) := by
  induction ls generalizing s with
  | nil => exact ⟨hrefl s, fun _ h => absurd h List.not_mem_nil⟩
  | cons x r ih =>
    obtain ⟨h1, h2⟩ := ih (g s x)
    refine ⟨htrans (hR s x) h1, fun a ha => ?_⟩
    obtain rfl | ha := List.mem_cons.1 ha
    · exact hstable h1 (hP s a)
    · exact h2 a ha

theorem msix_d3 (s : State) (f v : Nat) : (s.msix f v).host.d3 = s.host.d3 := by
  unfold State.msix
  split
  · rfl
  · split <;> rfl

theorem raiseFnStat_d3 (s : State) (f i : Nat) : (s.raiseFnStat f i).host.d3 = s.host.d3 := by
  unfold State.raiseFnStat
  dsimp only
  split
  · rfl
  · exact msix_d3 ..

/-- No ring is switched on, no transfer begins and no function changes its power state. -/
structure State.rests (s t : State) : Prop where
  sq : ∀ f r, (s.sq f r).en = false → (t.sq f r).en = false
  cq : ∀ f r, (s.cq f r).en = false → (t.cq f r).en = false
  xfers : ∀ x ∈ t.host.xfers, x ∈ s.host.xfers
  keeps : s.keeps t [.host, .fm, .ds, .freeCtr]
  d3 : t.host.d3 = s.host.d3

theorem State.rests.refl (s : State) : s.rests s := ⟨fun _ _ h => h, fun _ _ h => h, fun _ h => h, keeps_refl, rfl⟩
theorem State.rests.trans {s t u : State} (h : s.rests t) (k : t.rests u) : s.rests u where
  sq f r he := k.sq f r (h.sq f r he)
  cq f r he := k.cq f r (h.cq f r he)
  xfers x hx := h.xfers x (k.xfers x hx)
  keeps := keeps_trans h.keeps k.keeps
  d3 := k.d3.trans h.d3
theorem State.rests.noXfers {s t : State} (h : s.rests t) (hx : s.host.xfers = []) : t.host.xfers = [] :=
  List.eq_nil_iff_forall_not_mem.2 fun x hm => by
    have hs := h.xfers x hm
    rw [hx] at hs
    exact absurd hs List.not_mem_nil
theorem State.rests.foldl {α : Type} {g : State → α → State} (h : ∀ (s : State) a, s.rests (g s a)) (ls : List α) (s : State) :
    s.rests (ls.foldl g s) :=
  List.foldlRecOn (motive := fun t => s.rests t) _ _ (.refl s) fun t ht a _ => ht.trans (h t a)

section
variable {s : State} {fn r : Nat}

theorem State.rests.of_same {t : State} (h : s.sameRings t) (k : s.sameMoves t) (hk : s.keeps t [.host, .fm, .ds, .freeCtr])
    (hd : t.host.d3 = s.host.d3) : s.rests t where
  sq f q he := by rw [h.sq]; exact he
  cq f q he := by rw [h.cq]; exact he
  xfers x hx := by rw [← k.xfers]; exact hx
  keeps := hk
  d3 := hd

/-- A submission ring that gets a value with the same switch, or the off one. -/
theorem setSq_off {v : Sq} (h : (s.sq fn r).en = false → v.en = false) (f q : Nat) (he : (s.sq f q).en = false) :
    ((s.setSq fn r v).sq f q).en = false := by
  by_cases hk : 8 * f + q = 8 * fn + r
  · have hq : ∀ t : State, t.sq f q = t.sq fn r := fun t => by rw [State.sq, hk, State.sq]
    rw [hq] at he ⊢
    exact (congrArg Sq.en (State.sq_setSq_self s fn r v)).trans (h he)
  · exact (congrArg Sq.en (Map.get_set_ne _ _ _ hk)).trans he

theorem setCq_off {v : Cq} (h : v.en = false) (f q : Nat) (he : (s.cq f q).en = false) : ((s.setCq fn r v).cq f q).en = false := by
  by_cases hk : 8 * f + q = 8 * fn + r
  · have hq : ∀ t : State, t.cq f q = t.cq fn r := fun t => by rw [State.cq, hk, State.cq]
    rw [hq]
    exact (congrArg Cq.en (State.cq_setCq_self s fn r v)).trans h
  · exact (congrArg Cq.en (Map.get_set_ne _ _ _ hk)).trans he

theorem State.rests.disableSq (s : State) (fn r : Nat) : s.rests (s.disableSq fn r) :=
  ⟨setSq_off fun _ => rfl, fun _ _ he => he, fun _ hx => hx, keeps_mono (keeps_trans setSq_keeps setFreg_keeps) (by decide), rfl⟩

theorem State.rests.retire (s : State) (d : DRef) : s.rests (s.retire d) :=
  ⟨setSq_off fun h => h, fun _ _ he => he, fun _ hx => hx, keeps_mono retire_keeps (by decide), rfl⟩

theorem State.rests.cplLost (s : State) (f k : Nat) : s.rests (s.cplLost f k) :=
  .of_same (.cplLost _ _ _) (.cplLost _ _ _) (keeps_mono cplLost_keeps (by decide)) (raiseFnStat_d3 s f 17)

theorem State.rests.complete (s : State) (d : DRef) (o st x a : Nat) : s.rests (s.complete d o st x a) := by
  refine State.rests.trans (t := s.postFor d 0x01 st (.cmd o d.flags.toNat d.tag.toNat d.dseq.toNat x a)) ?_ (.retire _ _)
  unfold State.postFor
  split
  · exact .cplLost _ _ _
  · unfold State.queueCpl
    split
    · exact ⟨fun _ _ he => he, fun _ _ he => he, fun _ hx => hx, by simp [State.keeps_iff], rfl⟩
    · exact .cplLost _ _ _

/-- A completion ring that is set to off, with what it had waiting taken away. -/
theorem State.rests.disableCq (s : State) (fn r : Nat) : s.rests (s.disableCq fn r) := by
  unfold State.disableCq
  refine State.rests.trans ?_ (.foldl (fun t d => .retire t d) _ _)
  refine State.rests.trans ?_ (.foldl (fun t c => .cplLost t fn (Cpl.typ c)) _ _)
  exact ⟨fun _ _ he => he, setCq_off rfl, fun _ hx => hx, by simp [State.keeps_iff, State.setCtlEnable, State.setFreg, State.setCq], rfl⟩

theorem disableCq_ds (s : State) (fn r : Nat) : (s.disableCq fn r).ds = s.ds := (disableCq_ringOff s fn r).keeps .ds (by decide)

/-- At rest, and with the deep store as it was. -/
def State.quiets (s t : State) : Prop := s.rests t ∧ t.ds = s.ds

theorem State.quiets.refl (s : State) : s.quiets s := ⟨.refl s, rfl⟩
theorem State.quiets.trans {s t u : State} (h : s.quiets t) (k : t.quiets u) : s.quiets u := ⟨h.1.trans k.1, k.2.trans h.2⟩

/-- The function's submission rings and then its completion rings, off. -/
def State.ringsOff (s : State) (fn : Nat) : State :=
  (List.range 8).foldl (fun s r => if (s.cq fn r).en then s.disableCq fn r else s)
    ((List.range 8).foldl (fun s r => if (s.sq fn r).en then s.disableSq fn r else s) s)

/-- Every ring of the function is off. -/
def State.ringless (s : State) (fn : Nat) : Prop := ∀ r < 8, (s.sq fn r).en = false ∧ (s.cq fn r).en = false

theorem State.rests.ringless {s t : State} (h : s.rests t) {fn : Nat} (k : s.ringless fn) : t.ringless fn :=
  fun r hr => ⟨h.sq fn r (k r hr).1, h.cq fn r (k r hr).2⟩

theorem ringsOff_frame (s : State) (fn : Nat) : s.quiets (s.ringsOff fn) ∧ (s.ringsOff fn).ringless fn := by
  obtain ⟨hs, hsq⟩ := foldl_settles (R := State.quiets) State.quiets.refl State.quiets.trans (P := fun r t => (t.sq fn r).en = false)
    (fun h k => h.1.sq fn _ k) (g := fun s r => if (s.sq fn r).en then s.disableSq fn r else s)
    (fun s r => iteInduction (motive := fun t => s.quiets t) (fun _ => ⟨.disableSq s fn r, rfl⟩) (fun _ => .refl s))
    (fun s r => by
      split
      next => exact congrArg Sq.en (State.sq_setSq_self s fn r _)
      next h => exact Bool.eq_false_iff.2 h) (List.range 8) s
  obtain ⟨hc, hcq⟩ := foldl_settles (R := State.quiets) State.quiets.refl State.quiets.trans (P := fun r t => (t.cq fn r).en = false)
    (fun h k => h.1.cq fn _ k) (g := fun s r => if (s.cq fn r).en then s.disableCq fn r else s)
    (fun s r => iteInduction (motive := fun t => s.quiets t) (fun _ => ⟨.disableCq s fn r, disableCq_ds s fn r⟩) (fun _ => .refl s))
    (fun s r => by
      split
      next => exact (disableCq_ringOff s fn r).off
      next h => exact Bool.eq_false_iff.2 h) (List.range 8)
    ((List.range 8).foldl (fun s r => if (s.sq fn r).en then s.disableSq fn r else s) s)
  exact ⟨hs.trans hc, fun r hr => ⟨hc.1.sq fn r (hsq r (List.mem_range.2 hr)), hcq r (List.mem_range.2 hr)⟩⟩

/-- No transfer of the function is left. -/
def State.xfersCut (s : State) (fn : Nat) : State :=
  { s with host := { s.host with xfers := s.host.xfers.filter (fun x => decide (x.ref.fn.val ≠ fn)) } }

/-- The end of a transfer that is cut off: its bytes in the deep store are undefined. -/
def State.cutOff (s : State) (x : Xfer) : State :=
  (if x.opc = 0x01 then s.freeBytes (s.rbase x.ten + x.off) x.len else s).complete x.ref x.opc stAborted 0 0

theorem ringReset_eq (s : State) (fn : Nat) : s.ringReset fn =
    ((s.ringsOff fn).host.xfers.filter (fun x => decide (x.ref.fn.val = fn))).foldl State.cutOff ((s.ringsOff fn).xfersCut fn) := by
  have hoff : (List.range 8).foldl (fun s r => if (s.cq fn r).en then s.disableCq fn r else s)
    ((List.range 8).foldl (fun s r => if (s.sq fn r).en then s.disableSq fn r else s) s) = s.ringsOff fn := by unfold State.ringsOff; rfl
  unfold State.ringReset
  dsimp only
  rw [hoff]
  generalize s.ringsOff fn = u
  rfl

theorem freeBytes_host (s : State) (a n : Nat) : (s.freeBytes a n).host = s.host := freeBytes_keeps .host (by decide)

theorem cutOff_rests (s : State) (x : Xfer) : s.rests (s.cutOff x) := by
  unfold State.cutOff
  refine State.rests.trans ?_ (.complete _ _ _ _ _ _)
  split
  next =>
    have hh := freeBytes_host s (s.rbase x.ten + x.off) x.len
    exact ⟨fun f q he => by rw [State.sq, hh]; exact he, fun f q he => by rw [State.cq, hh]; exact he, fun y hy => by rw [← hh]; exact hy,
      keeps_mono freeBytes_keeps (by decide), by rw [hh]⟩
  next => exact .refl s

/-- A function's rings and transfers after a host-side reset. -/
structure State.wasReset (s t : State) (fn : Nat) : Prop where
  rests : s.rests t
  rings : t.ringless fn
  xfers : ∀ x ∈ t.host.xfers, x.ref.fn.val ≠ fn
  ds : s.host.xfers = [] → t.ds = s.ds

theorem ringReset_wasReset (s : State) (fn : Nat) : s.wasReset (s.ringReset fn) fn := by
  obtain ⟨hq, hoff⟩ := ringsOff_frame s fn
  have hno : s.host.xfers = [] → (s.ringsOff fn).host.xfers = [] := hq.1.noXfers
  rw [ringReset_eq]
  generalize s.ringsOff fn = u at hq hoff hno
  have hcut : u.rests (u.xfersCut fn) := ⟨fun _ _ h => h, fun _ _ h => h, fun _ hx => List.mem_of_mem_filter hx, by
    simp [State.keeps_iff, State.xfersCut], rfl⟩
  have hfold := State.rests.foldl cutOff_rests (u.host.xfers.filter (fun x => decide (x.ref.fn.val = fn))) (u.xfersCut fn)
  refine ⟨hq.1.trans (hcut.trans hfold), (hcut.trans hfold).ringless hoff, fun x hx => ?_, fun he => ?_⟩
  · exact of_decide_eq_true (List.mem_filter.1 (hfold.xfers x hx)).2
  · rw [hno he]
    exact hq.2

/-- Resets of several functions. -/
theorem ringResets_frame (fs : List Nat) (s : State) : s.rests (fs.foldl State.ringReset s) ∧
    (s.host.xfers = [] → (fs.foldl State.ringReset s).ds = s.ds) ∧
    ∀ f ∈ fs, (fs.foldl State.ringReset s).ringless f ∧ ∀ x ∈ (fs.foldl State.ringReset s).host.xfers, x.ref.fn.val ≠ f := by
  obtain ⟨⟨hr, hd⟩, hall⟩ := foldl_settles (R := fun (s t : State) => s.rests t ∧ (s.host.xfers = [] → t.ds = s.ds))
      (fun s => ⟨.refl s, fun _ => rfl⟩)
    (fun h k => ⟨h.1.trans k.1, fun he => (k.2 (h.1.noXfers he)).trans (h.2 he)⟩)
    (P := fun (f : Nat) (t : State) => t.ringless f ∧ ∀ x ∈ t.host.xfers, x.ref.fn.val ≠ f)
    (fun h k => ⟨h.1.ringless k.1, fun x hx => k.2 x (h.1.xfers x hx)⟩) (g := State.ringReset)
    (fun s f => ⟨(ringReset_wasReset s f).rests, (ringReset_wasReset s f).ds⟩)
    (fun s f => ⟨(ringReset_wasReset s f).rings, (ringReset_wasReset s f).xfers⟩) fs s
  exact ⟨hr, hd, hall⟩

/-- Only the function's own registers, status and pending interrupts differ after its page's reset. -/
theorem pageReset_frame (s : State) (fn : Nat) : s.rests (s.pageReset fn) ∧ (s.pageReset fn).ds = s.ds ∧
    (Map.get (s.pageReset fn).host.fnStat 0 fn).testBit 18 = true := by
  unfold State.pageReset
  dsimp only
  generalize hu : ({ s with host := { s.host with
    fregs := s.host.fregs.filter (fun e => !decide (e.1 / 0x4000 = fn ∧ (e.1 % 0x4000 = 0x30 ∨ (0x3800 ≤ e.1 % 0x4000 ∧ e.1 % 0x4000 < 0x3900))))
    fnStat := Map.del s.host.fnStat fn, pba := Map.del s.host.pba fn } } : State) = u
  have hsu : s.rests u ∧ u.ds = s.ds := by
    subst hu
    exact ⟨⟨fun _ _ h => h, fun _ _ h => h, fun _ h => h, by simp [State.keeps_iff], rfl⟩, rfl⟩
  have hraise : u.rests (u.raiseFnStat fn 18) := .of_same (.raiseFnStat _ _ _) (.raiseFnStat _ _ _) (keeps_mono raiseFnStat_keeps (by decide))
    (raiseFnStat_d3 u fn 18)
  have hrep : (u.raiseFnStat fn 18).rests ((u.raiseFnStat fn 18).report 0x0502 clsEvent fn (some fn) fn) :=
    ⟨fun _ _ h => h, fun _ _ h => h, fun _ h => h, keeps_mono report_keeps (by decide), rfl⟩
  refine ⟨hsu.1.trans (hraise.trans hrep), (raiseFnStat_keeps .ds (by decide)).trans hsu.2, raiseFnStat_bit u fn 18⟩

end

/-! ### The resets -/

/-- A function-level reset: rings, transfers, page. -/
theorem flrOne_frame (s : State) (fn : Nat) : s.wasReset (s.flrOne fn) fn ∧ (Map.get (s.flrOne fn).host.fnStat 0 fn).testBit 18 = true := by
  have h := ringReset_wasReset s fn
  obtain ⟨hp, hd, hbit⟩ := pageReset_frame (s.ringReset fn) fn
  exact ⟨⟨h.rests.trans hp, hp.ringless h.rings, fun x hx => h.xfers x (hp.xfers x hx), fun he => hd.trans (h.ds he)⟩, hbit⟩

/-- A change of the functions' power states alone. -/
def State.setD3 (s : State) (l : List Nat) : State := { s with host := { s.host with d3 := l } }

theorem flrOne_after_d3 {s u : State} {fn : Nat} {l : List Nat} (h : s.rests u) (hd : s.host.xfers = [] → u.ds = s.ds) :
    ((u.setD3 l).flrOne fn).ringless fn ∧ (∀ x ∈ ((u.setD3 l).flrOne fn).host.xfers, x.ref.fn.val ≠ fn) ∧
    ((u.setD3 l).flrOne fn).host.d3 = l ∧ (Map.get ((u.setD3 l).flrOne fn).host.fnStat 0 fn).testBit 18 = true ∧
    (s.host.xfers = [] → ((u.setD3 l).flrOne fn).ds = s.ds) ∧ s.keeps ((u.setD3 l).flrOne fn) [.host, .fm, .ds, .freeCtr] := by
  obtain ⟨hw, hbit⟩ := flrOne_frame (u.setD3 l) fn
  have hk : u.keeps (u.setD3 l) [.host] := by simp [State.keeps_iff, State.setD3]
  refine ⟨hw.rings, hw.xfers, hw.rests.d3, hbit, fun he => (hw.ds (h.noXfers he)).trans (hd he), ?_⟩
  exact keeps_trans h.keeps (keeps_trans (keeps_mono hk (by decide)) hw.rests.keeps)

/-- No virtual function exists. -/
def State.vfsGone (s : State) : State := { s with host := { s.host with vfEn := false, d3 := s.host.d3.filter (· = 0) } }

theorem hotReset_frame (s : State) : s.hotReset.host.vfEn = false ∧ (∀ f ∈ 0 :: s.vfs, s.hotReset.ringless f) ∧
    (∀ f ∈ 0 :: s.vfs, ∀ x ∈ s.hotReset.host.xfers, x.ref.fn.val ≠ f) ∧ s.keeps s.hotReset [.host, .fm, .ds, .freeCtr] := by
  obtain ⟨hr, -, hall⟩ := ringResets_frame (0 :: s.vfs) s
  unfold State.hotReset
  generalize (0 :: s.vfs).foldl State.ringReset s = u at hr hall
  refine ⟨rfl, fun f hf => (hall f hf).1, fun f hf => (hall f hf).2, keeps_trans hr.keeps ?_⟩
  simp [State.keeps_iff, State.report]

/-- The link's own registers after it has gone down. -/
theorem pcieDown_frame (s : State) : s.pcieDown.host.vfEn = false ∧ s.pcieDown.host.linkUp = false ∧ s.pcieDown.host.rate = 0 ∧
    s.pcieDown.host.width = 0 ∧ (∀ f ∈ 0 :: s.vfs, s.pcieDown.ringless f) ∧ s.keeps s.pcieDown [.host, .fm, .ds, .freeCtr] := by
  obtain ⟨hvf, hrings, -, hk⟩ := hotReset_frame s
  unfold State.pcieDown
  dsimp only
  generalize s.hotReset = u at hvf hrings hk
  split
  · exact ⟨hvf, rfl, rfl, rfl, hrings, keeps_trans hk (by simp [State.keeps_iff, State.report])⟩
  · exact ⟨hvf, rfl, rfl, rfl, hrings, keeps_trans hk (by simp [State.keeps_iff])⟩

/-- Interrupts of a function that masters the bus go out or become pending: none waits. -/
theorem foldl_msix_frame (ls : List (Nat × Nat)) (s : State) (h : ∀ e ∈ ls, e.1 ∉ s.host.bmeOff) :
    (ls.foldl (fun s e => s.msix e.1 e.2) s).host.bmeOff = s.host.bmeOff ∧
    (ls.foldl (fun s e => s.msix e.1 e.2) s).host.msiWait = s.host.msiWait := by
  induction ls generalizing s with
  | nil => exact ⟨rfl, rfl⟩
  | cons e r ih =>
    have hone : (s.msix e.1 e.2).host.bmeOff = s.host.bmeOff ∧ (s.msix e.1 e.2).host.msiWait = s.host.msiWait := by
      unfold State.msix
      split
      · exact ⟨rfl, rfl⟩
      · rw [if_neg (h e List.mem_cons_self)]
        exact ⟨rfl, rfl⟩
    obtain ⟨h1, h2⟩ := ih (s.msix e.1 e.2) fun x hx => by rw [hone.1]; exact h x (List.mem_cons_of_mem _ hx)
    exact ⟨h1.trans hone.1, h2.trans hone.2⟩

/-- The functions that an FLR of `fn` resets besides `fn` itself. -/
def State.flrVfs (s : State) (fn : Nat) : State := if fn = 0 then s.vfs.foldl State.ringReset s else s

/-- The functions left in D3 by an FLR of `fn`. -/
def State.flrD3 (s : State) (fn : Nat) : List Nat := s.host.d3.filter (fun g => decide (g ≠ fn ∧ (fn ≠ 0 ∨ s.vfs.contains g = false)))

theorem execFlr_of_up {fn : TenId} {s : State} (h : s.fnUp fn = true) :
    exec (.flr fn) s = .next (((s.flrVfs fn).setD3 ((s.flrVfs fn).flrD3 fn)).flrOne fn) := by
  rw [exec_flr, execFlr, if_neg (by simp [h])]
  rfl

theorem execD3hotEnter_of_up {fn : TenId} {s : State} (h : s.fnUp fn = true) :
    exec (.d3hotEnter fn) s = .next ((s.setD3 (fn.val :: s.host.d3.filter (· ≠ fn.val))).flrOne fn) := by
  rw [exec_d3hotEnter, execD3hotEnter, if_neg (by simp [h])]
  rfl

theorem flrVfs_frame (s : State) (fn : Nat) : s.rests (s.flrVfs fn) ∧ (s.host.xfers = [] → (s.flrVfs fn).ds = s.ds) := by
  unfold State.flrVfs
  split
  · obtain ⟨hr, hd, -⟩ := ringResets_frame s.vfs s
    exact ⟨hr, hd⟩
  · exact ⟨.refl s, fun _ => rfl⟩

/-- Settles O43: each reset is its functions' ring resets, and what it sets of the link. -/
theorem hostResets : Obligations.HostResets := by
  refine ⟨fun fn s h => ?_, fun fn s h => ?_, fun fn s h => ⟨?_, ?_⟩, fun s h => ⟨?_, ?_, ?_⟩, fun s h => ⟨?_, ?_, ?_⟩, fun n s h => ?_,
    fun fn s => ⟨?_, ?_⟩, fun rate w f l s h => ?_, fun rate w f l s h => ?_, fun s h => ?_, fun s h => ?_⟩
  · obtain ⟨hr, hd⟩ := flrVfs_frame s fn
    have hexec := execFlr_of_up h
    generalize s.flrVfs fn = u at hr hd hexec
    obtain ⟨h1, h2, h3, h4, h5, h6⟩ := flrOne_after_d3 (fn := fn.val) (l := u.flrD3 fn) hr hd
    refine Runs.of hexec ⟨h1, ?_, fun x hx he => h2 x hx (congrArg Fin.val he), h4, h5, h6⟩
    rw [h3]
    intro hm
    exact (of_decide_eq_true (List.mem_filter.1 hm).2).1 rfl
  · obtain ⟨h1, h2, h3, -, h5, h6⟩ := flrOne_after_d3 (fn := fn.val) (l := fn.val :: s.host.d3.filter (· ≠ fn.val)) (.refl s) (fun _ => rfl)
    refine Runs.of (execD3hotEnter_of_up h)
      ⟨?_, h1, fun x hx he => h2 x hx (congrArg Fin.val he), h5, h6⟩
    rw [h3]
    exact List.mem_cons_self
  · exact Runs.of (if_pos (by simp [h])) rfl
  · exact Runs.of (if_pos (by simp [h])) rfl
  · obtain ⟨hr, -, hall⟩ := ringResets_frame s.vfs s
    have hexec : exec .vfEnableClear s = .next ((s.vfs.foldl State.ringReset s).vfsGone) := if_neg (by simp [h])
    refine Runs.of hexec ?_
    generalize s.vfs.foldl State.ringReset s = u at hr hall
    refine ⟨rfl, fun f hf => (hall f hf).1, fun f hf => (hall f hf).2, keeps_trans hr.keeps ?_⟩
    simp [State.keeps_iff, State.vfsGone]
  · exact Runs.of (if_pos h) (hotReset_frame s)
  · exact Runs.of (if_pos h) (pcieDown_frame s)
  · exact Runs.of (if_pos (by simp [h])) rfl
  · exact Runs.of (if_neg (by simp [h])) rfl
  · exact Runs.of (if_neg (by simp [h])) rfl
  · exact Runs.of (if_pos h) ⟨rfl, by simp [State.keeps_iff]⟩
  · refine Runs.of rfl ⟨List.mem_cons_self, fun m hm => ?_, by simp [State.keeps_iff]⟩
    simp [hm]
  · have hw : ∀ e ∈ s.host.msiWait.filter (fun e => decide (e.1 = fn.val)), e.1 ∉ s.host.bmeOff.filter (· ≠ fn.val) := fun e he hm => by
      have h1 : e.1 = fn.val := of_decide_eq_true (List.mem_filter.1 he).2
      exact of_decide_eq_true (List.mem_filter.1 hm).2 h1
    obtain ⟨hb, hm⟩ := foldl_msix_frame (s.host.msiWait.filter (fun e => decide (e.1 = fn.val))) { s with host := { s.host with
      bmeOff := s.host.bmeOff.filter (· ≠ fn.val), msiWait := s.host.msiWait.filter (fun e => decide (e.1 ≠ fn.val)) } } hw
    refine Runs.of rfl ⟨?_, fun m hne => ?_, ?_, keeps_trans ?_ (keeps_foldl _ _ (fun _ _ => msix_keeps) _ _)⟩
    · rw [hb]
      simp
    · rw [hb]
      simp [hne]
    · rw [hm]
      exact fun e he => of_decide_eq_true (List.mem_filter.1 he).2
    · simp [State.keeps_iff]
  · exact Runs.of (if_pos h) ⟨rfl, rfl, rfl, rfl, by simp [State.keeps_iff]⟩
  · exact Runs.of (if_neg (by simp [h])) rfl
  · have hk : s.keeps (({ s with clk := { s.clk with pclkOk := false } }).report 0x0345 clsDegraded 0 none 0) [.clk, .fm] := by
      simp [State.keeps_iff, State.report]
    have hclk : (({ s with clk := { s.clk with pclkOk := false } }).report 0x0345 clsDegraded 0 none 0).clk.pclkOk = false := rfl
    have hexec : exec .pclkTrip s = .next (
        if (({ s with clk := { s.clk with pclkOk := false } }).report 0x0345 clsDegraded 0 none 0).fnUp 0 then
          (({ s with clk := { s.clk with pclkOk := false } }).report 0x0345 clsDegraded 0 none 0).pcieDown
        else { (({ s with clk := { s.clk with pclkOk := false } }).report 0x0345 clsDegraded 0 none 0) with
          host := { s.host with linkUp := false } }) := if_pos h
    refine Runs.of hexec ?_
    have hhost : (({ s with clk := { s.clk with pclkOk := false } }).report 0x0345 clsDegraded 0 none 0).host = s.host := rfl
    generalize ({ s with clk := { s.clk with pclkOk := false } }).report 0x0345 clsDegraded 0 none 0 = u at hk hclk hhost
    split
    · obtain ⟨-, hup, -, -, -, hkp⟩ := pcieDown_frame u
      refine ⟨(congrArg Clk.pclkOk (hkp .clk (by decide))).trans hclk, hup, ?_⟩
      exact keeps_trans (keeps_mono hk (by decide)) (keeps_mono hkp (by decide))
    · exact ⟨hclk, rfl, keeps_trans (keeps_mono hk (by decide)) (by simp [State.keeps_iff])⟩
  · exact Runs.of (if_neg (by simp [h])) rfl

end Sys2Proof.Machine
end

section
/-!
PROOF. The SMBus port: its transactions, dead lines and revival (R365 to R367).
-/
namespace Sys2Proof.Machine

section
variable {s : State} {pec : Bool}

/-- The port at the start of a transaction: the row of timeouts has ended, and both lines were high. -/
def State.smbBegun (s : State) : State :=
  { s with host := { s.host with smbRow := 0, smbDatLow := false, smbClkLow := false, smbOut := .ack } }

theorem smbBegun_keeps : s.keeps s.smbBegun [.host] := by simp [State.keeps_iff, State.smbBegun]

theorem smb_of_dead (h : s.smbLives = false) (f : State → State) : s.smb pec f = .next s := if_pos h

theorem smb_of_noPec (h : s.smbLives = true) (hr : s.rfld 0x80100 8 1 = 1) (f : State → State) :
    s.smb false f = .next { s with host := { s.host with smbOut := .nack } } := (if_neg (by simp [h])).trans (if_pos ⟨hr, rfl⟩)

theorem smb_of_ok (h : s.smbLives = true) (hp : s.rfld 0x80100 8 1 = 0 ∨ pec = true) (f : State → State) : s.smb pec f = .next (f s.smbBegun) := by
  refine (if_neg (by simp [h])).trans (if_neg ?_)
  rintro ⟨h1, h2⟩
  obtain h0 | ht := hp
  · omega
  · rw [ht] at h2
    cases h2

/-! ### The effects of the transactions -/

/-- The value that a block read gives, with the pointer moved on. -/
def State.smbGives (s : State) (v : Nat) : State := ({ s with host := { s.host with smbOut := .data (BitVec.ofNat 32 v) } }).smbNext

/-- What a block read does. -/
def State.smbRead (s : State) : State :=
  if smbReads s.host.smbPtr = false then (s.smbDenied s.host.smbPtr).smbGives 0
  else if s.smbUp s.host.smbPtr then (s.readEffect s.host.smbPtr).smbGives (s.readReg s.host.smbPtr) else s.smbGives 0

/-- What a block write does. -/
def State.smbWrite (v : Word) (s : State) : State :=
  (if s.host.smbPtr = 0x24 ∨ s.host.smbPtr = 0x70004 then s.writeReg 0 s.host.smbPtr v.toNat 15 .ok else s.smbDenied s.host.smbPtr).smbNext

/-- What SMB_SET_POINTER does. -/
def State.smbPoint (off : Word) (s : State) : State :=
  if off.toNat % 4 = 0 then { s with host := { s.host with smbPtr := off.toNat } }
  else { s with host := { s.host with smbOut := .nack } }

theorem exec_smbSetPointer_eq (off : Word) (pec : Bool) (s : State) : exec (.smbSetPointer off pec) s = s.smb pec (State.smbPoint off) := rfl
theorem exec_smbBlockRead_eq (pec : Bool) (s : State) : exec (.smbBlockRead pec) s = s.smb pec State.smbRead := rfl
theorem exec_smbBlockWrite_eq (v : Word) (pec : Bool) (s : State) : exec (.smbBlockWrite v pec) s = s.smb pec (State.smbWrite v) := rfl

theorem smbNext_keeps : s.keeps s.smbNext [.host] := by simp [State.keeps_iff, State.smbNext]
theorem smbGives_keeps {v : Nat} : s.keeps (s.smbGives v) [.host] := by simp [State.keeps_iff, State.smbGives, State.smbNext]

theorem latchHigh_keeps {o v : Nat} : s.keeps (s.latchHigh o v) [.latch] := by simp [State.keeps_iff, State.latchHigh, State.setLatch]

/-- A read's effect on the state: latched high halves, free counts of a link under test, and NOC_CNT's maximum. -/
theorem readEffect_keeps {o : Nat} : s.keeps (s.readEffect o) [.latch, .lat, .freeCtr, .noc] := by
  have hl : ∀ (u : State) (a v : Nat), u.keeps (u.latchHigh a v) [.latch, .lat, .freeCtr, .noc] := fun u a v =>
    keeps_mono latchHigh_keeps (by decide)
  have hp : ∀ (u : State) (l : Nat), u.keeps (u.prbsCounts l) [.latch, .lat, .freeCtr, .noc] := fun u l =>
    keeps_mono (prbsCounts_frame u l).2.2 (by decide)
  unfold State.readEffect
  refine keeps_ite (keeps_ite (hl _ _ _) keeps_refl) (keeps_ite (hl _ _ _) (keeps_ite ?_ (keeps_ite (keeps_ite (hp _ _) keeps_refl)
    (keeps_ite (hl _ _ _) (keeps_ite ?_ (keeps_ite ?_ (keeps_ite ?_ (keeps_ite (hl _ _ _) (keeps_ite (hl _ _ _)
    (keeps_ite (hl _ _ _) keeps_refl))))))))))
  · exact keeps_trans (hl s _ _) (keeps_ite (hp _ _) keeps_refl)
  · simp [State.keeps_iff, State.setLatch]
  · simp [State.keeps_iff, State.setLatch]
  · simp [State.keeps_iff]

theorem readEffect_host (o : Nat) : (s.readEffect o).host = s.host := readEffect_keeps .host (by decide)

theorem readEffect_zero : s.readEffect 0 = s := rfl

end

/-- Settles O44: each transaction begins the same way and then has its own effect. -/
theorem sidebandPort : Obligations.SidebandPort := by
  refine ⟨fun off pec s h hp => ?_, fun pec s h hp hr => ?_, fun pec s h hp h0 => ?_, fun pec s h hp hr hu => ?_, fun v pec s h hp hw => ?_,
    fun v pec s h hp h1 h2 => ?_, fun off v c s h hr hc => ?_, fun off v pec c s h hc => ?_, fun dat s h => ?_, fun s h => ?_, fun s h => ?_⟩
  · refine Runs.of ((exec_smbSetPointer_eq off pec s).trans (smb_of_ok h hp _)) ?_
    unfold State.smbPoint
    refine ⟨fun ha => ?_, fun ha => ?_, ?_, ?_⟩
    · rw [if_pos ha]
      exact ⟨rfl, rfl⟩
    · rw [if_neg ha]
      exact ⟨rfl, rfl⟩
    · split <;> rfl
    · exact keeps_trans smbBegun_keeps (keeps_ite (by simp [State.keeps_iff]) (by simp [State.keeps_iff]))
  · have hread : s.smbBegun.smbRead = (s.smbBegun.smbDenied s.host.smbPtr).smbGives 0 := if_pos hr
    have hk : s.keeps (s.smbBegun.smbDenied s.host.smbPtr) [.host, .fm] := keeps_trans (keeps_mono smbBegun_keeps (by decide))
      (keeps_mono report_keeps (by decide))
    exact Runs.of ((exec_smbBlockRead_eq pec s).trans ((smb_of_ok h hp _).trans (congrArg Host.Outcome.next hread)))
      ⟨rfl, rfl, rfl, keeps_trans hk (keeps_mono smbGives_keeps (by decide))⟩
  · have hread : s.smbBegun.smbRead = (s.smbBegun.readEffect 0).smbGives (s.smbBegun.readReg 0) := by
      have hptr : s.smbBegun.host.smbPtr = 0 := h0
      rw [State.smbRead, hptr]
      rfl
    rw [readEffect_zero] at hread
    refine Runs.of ((exec_smbBlockRead_eq pec s).trans ((smb_of_ok h hp _).trans (congrArg Host.Outcome.next hread))) ⟨rfl, ?_,
      keeps_trans smbBegun_keeps smbGives_keeps⟩
    show (s.host.smbPtr + 4) % 2 ^ 32 = 4
    rw [h0]
    rfl
  · have hread : s.smbBegun.smbRead = (s.smbBegun.readEffect s.host.smbPtr).smbGives (s.smbBegun.readReg s.host.smbPtr) :=
      (if_neg (by rw [show s.smbBegun.host.smbPtr = s.host.smbPtr from rfl, hr]; decide)).trans (if_pos hu)
    have hhost : (s.smbBegun.readEffect s.host.smbPtr).host = s.smbBegun.host := readEffect_host _
    refine Runs.of ((exec_smbBlockRead_eq pec s).trans ((smb_of_ok h hp _).trans (congrArg Host.Outcome.next hread))) ⟨?_, ?_, _, rfl, rfl⟩
    · have e := congrArg (fun g : HostIf => (g.smbPtr + 4) % 2 ^ 32) hhost
      exact e
    · have e := congrArg HostIf.smbRow hhost
      exact e
  · have hwrite : s.smbBegun.smbWrite v = (s.smbBegun.writeReg 0 s.host.smbPtr v.toNat 15 .ok).smbNext := congrArg State.smbNext (if_pos hw)
    exact Runs.of ((exec_smbBlockWrite_eq v pec s).trans ((smb_of_ok h hp _).trans (congrArg Host.Outcome.next hwrite))) ⟨_, rfl, rfl⟩
  · have hwrite : s.smbBegun.smbWrite v = (s.smbBegun.smbDenied s.host.smbPtr).smbNext :=
      congrArg State.smbNext (if_neg (by rintro (h | h); exacts [h1 h, h2 h]))
    have hk : s.keeps (s.smbBegun.smbDenied s.host.smbPtr) [.host, .fm] := keeps_trans (keeps_mono smbBegun_keeps (by decide))
      (keeps_mono report_keeps (by decide))
    exact Runs.of ((exec_smbBlockWrite_eq v pec s).trans ((smb_of_ok h hp _).trans (congrArg Host.Outcome.next hwrite)))
      ⟨rfl, rfl, rfl, keeps_trans hk (keeps_mono smbNext_keeps (by decide))⟩
  · simp only [List.mem_cons, List.not_mem_nil, or_false] at hc
    obtain rfl | rfl | rfl := hc
    · exact Runs.of ((exec_smbSetPointer_eq off false s).trans (smb_of_noPec h hr _)) ⟨rfl, by simp [State.keeps_iff]⟩
    · exact Runs.of ((exec_smbBlockRead_eq false s).trans (smb_of_noPec h hr _)) ⟨rfl, by simp [State.keeps_iff]⟩
    · exact Runs.of ((exec_smbBlockWrite_eq v false s).trans (smb_of_noPec h hr _)) ⟨rfl, by simp [State.keeps_iff]⟩
  · simp only [List.mem_cons, List.not_mem_nil, or_false] at hc
    obtain rfl | rfl | rfl | rfl := hc
    · exact Runs.of ((exec_smbSetPointer_eq off pec s).trans (smb_of_dead h _)) rfl
    · exact Runs.of ((exec_smbBlockRead_eq pec s).trans (smb_of_dead h _)) rfl
    · exact Runs.of ((exec_smbBlockWrite_eq v pec s).trans (smb_of_dead h _)) rfl
    · exact Runs.of (if_pos h) rfl
  · by_cases hrow : s.host.smbRow + 1 < 3
    · refine Runs.of ((if_neg (by simp [h])).trans (if_pos hrow)) ⟨rfl, rfl, fun _ => ⟨rfl, rfl⟩, fun h2 => absurd hrow (by omega), ?_⟩
      simp [State.keeps_iff, State.report]
    · refine Runs.of ((if_neg (by simp [h])).trans (if_neg hrow)) ⟨rfl, rfl, fun h2 => absurd h2 (by omega), fun _ => ⟨rfl, rfl⟩, ?_⟩
      simp [State.keeps_iff, State.report]
  · exact Runs.of (if_pos h) ⟨rfl, rfl, rfl, by simp [State.keeps_iff, State.report]⟩
  · exact Runs.of (if_neg (by simp [h])) rfl

end Sys2Proof.Machine
end


section
/-! PROOF. Marks and the sources of Thyme (R290, R375 to R379): what a mark that arrives makes of the candidates, what the choice of
a source leaves as it is, and what the servo leaves of the time (O46). -/

namespace Sys2Proof.Machine

/-! ### A mark goes out -/

theorem afterItem_markDue (k : Link) (l : Nat) (w : WireItem) : (k.afterItem l w).markDue = k.markDue := by
  unfold Link.afterItem
  dsimp only

theorem sendMark_frame (s : State) (l delay : Nat) :
    (s.sendMark l delay).lat.wire = s.lat.wire ++
      [(l, .fmk (s.thy.total / 1000 % 65536) delay s.thy.valid s.moduleId s.stratum)] ∧
    ((s.sendMark l delay).link l).markDue = false ∧ s.otherLinks (s.sendMark l delay) l ∧ s.keeps (s.sendMark l delay) [.lat] := by
  obtain ⟨hl, ho, hw, hk⟩ := send_frame (s.updLink l fun k => { k with markDue := false }) l
    (.fmk (s.thy.total / 1000 % 65536) delay s.thy.valid s.moduleId s.stratum)
  refine ⟨hw, ?_, otherLinks_trans (fun _ hm => s.link_updLink_ne _ hm) ho, keeps_trans updLink_keeps hk⟩
  exact (congrArg Link.markDue hl).trans ((afterItem_markDue _ _ _).trans (congrArg Link.markDue (s.link_updLink l _)))

/-! ### A mark arrives (R376) -/

/-- The candidates after a mark of link `l` (R376): `ok` says that it is valid. -/
def State.marked (s : State) (l : Nat) (ok : Bool) (st src : Nat) : State :=
  { s with thy := { s.thy with marks := if ok = true then Map.set s.thy.marks l (st, src)
    else if s.thy.srcLink = some l then s.thy.marks else Map.del s.thy.marks l } }

/-- A LATTICE module without a source takes one (R376). -/
def State.sourced (s : State) : State := if s.thySrc = 2 ∧ s.thy.srcLink = none then s.takeSource 0xFF else s

/-- A mark is valid (R376). -/
def markOk (tv : Bool) (st : Byte) : Bool := tv && decide (st.toNat < 255)

/-- A valid mark of the source link steers Thyme (R377). -/
def State.steered (s : State) (ok : Bool) (l mseq delay sub st : Nat) : State :=
  if ok ∧ s.thySrc = 2 ∧ s.thy.srcLink = some l then s.steerMark l mseq delay sub st else s

theorem isUp_takeLine (s : State) (l : Nat) (x : LineIn) : (s.takeLine l x).2.isUp l = s.isUp l := by
  have h := (takeLine_frame s l x).1.field Link.st rfl
  simp only [State.isUp, h]

theorem exec_fmkReceive_up {l : LinkId} {line : LineIn} {q : BitVec 16} {d : BitVec 10} {tv : Bool} {m : ModId} {st : Byte}
    {sub : Fin 80} {s : State} (h : s.isUp l = true) :
    exec (.fmkReceive l line q d tv m st false sub) s =
      .next (((s.takeLine l line).2.marked l (markOk tv st) st.toNat m.val).sourced.steered (markOk tv st) l q.toNat d.toNat sub st.toNat) := by
  rw [exec_fmkReceive, execFmkReceive]
  dsimp only
  rw [if_neg (by simp [isUp_takeLine, h]), if_neg (by decide)]
  exact (apply_ite Host.Outcome.next _ _ _).symm

theorem marked_keeps {s : State} {l : Nat} {ok : Bool} {st src : Nat} : s.keeps (s.marked l ok st src) [.thy] := by
  simp [State.keeps_iff, State.marked]

theorem marked_srcLink {s : State} {l : Nat} {ok : Bool} {st src : Nat} : (s.marked l ok st src).thy.srcLink = s.thy.srcLink := rfl
theorem marked_of_valid {s : State} {l st src : Nat} : (s.marked l true st src).thy.marks = Map.set s.thy.marks l (st, src) := rfl
theorem marked_of_notSource {s : State} {l st src : Nat} (h : s.thy.srcLink ≠ some l) :
    (s.marked l false st src).thy.marks = Map.del s.thy.marks l := by
  unfold State.marked
  dsimp only
  rw [if_neg (by decide), if_neg h]

theorem marked_takeLine_keeps {s : State} {l : Nat} {x : LineIn} {ok : Bool} {st src : Nat} :
    s.keeps ((s.takeLine l x).2.marked l ok st src) [.thy, .lat] :=
  keeps_trans (keeps_mono (takeLine_frame s l x).2.2 (by decide)) (keeps_mono marked_keeps (by decide))

theorem thySrc_of_keeps {s t : State} {a : List Part} (h : s.keeps t a) (n : .regs ∉ a) : t.thySrc = s.thySrc :=
  rfld_of_keeps h n _ _ _

theorem sourced_of_notLattice {s : State} (h : s.thySrc ≠ 2) : s.sourced = s := if_neg fun e => h e.1
theorem sourced_of_source {s : State} {l : Nat} (h : s.thy.srcLink = some l) : s.sourced = s := if_neg (by simp [h])
theorem steered_of_notLattice {s : State} {ok : Bool} {l q d sub st : Nat} (h : s.thySrc ≠ 2) : s.steered ok l q d sub st = s :=
  if_neg fun e => h e.2.1

/-- A mark that arrives where Thyme has another source than the lattice: it changes the candidates alone. -/
theorem exec_fmkReceive_candidate {l : LinkId} {line : LineIn} {q : BitVec 16} {d : BitVec 10} {tv : Bool} {m : ModId} {st : Byte}
    {sub : Fin 80} {s : State} (h : s.isUp l = true) (hsrc : s.thySrc ≠ 2) :
    exec (.fmkReceive l line q d tv m st false sub) s = .next ((s.takeLine l line).2.marked l (markOk tv st) st.toNat m.val) := by
  have h2 : ((s.takeLine l line).2.marked l (markOk tv st) st.toNat m.val).thySrc ≠ 2 := by
    rwa [thySrc_of_keeps marked_takeLine_keeps (by decide)]
  rw [exec_fmkReceive_up h, sourced_of_notLattice h2, steered_of_notLattice h2]

/-! ### The source is chosen (R376) -/

theorem bestMark_of_none {s : State} (h : s.thy.marks = []) : s.bestMark = none := by
  unfold State.bestMark
  rw [h]
  rfl
theorem bestMark_of_one {s : State} {m : Nat} {v : Nat × Nat} (h : s.thy.marks = [(m, v)]) (hu : s.isUp m = true) :
    s.bestMark = some m := by
  unfold State.bestMark
  rw [h]
  simp [hu, sortBy, insertBy]

/-- The state with the candidates but for link `l`, and no source. -/
def State.sourceLost (s : State) (l : Nat) : State := { s with thy := { s.thy with marks := Map.del s.thy.marks l, srcLink := none } }

theorem exec_thySourceLoss_of {s : State} {l : Nat} (h2 : s.thySrc = 2) (hl : s.thy.srcLink = some l) :
    exec .thySourceLoss s = .next ((s.sourceLost l).takeSource l) := by
  rw [exec_thySourceLoss, execThySourceLoss, hl]
  exact if_pos h2

theorem takeSource_of_best {s : State} {m : Nat} (h : s.bestMark = some m) (last : Nat) :
    s.takeSource last = { s with thy := { s.thy with srcLink := some m, holdover := false } } := by
  rw [State.takeSource, h]
theorem takeSource_of_none {s : State} (h : s.bestMark = none) (last : Nat) : s.takeSource last = s.thyHoldover last := by
  rw [State.takeSource, h]

/-- Holdover begins (R376, R379). -/
theorem thyHoldover_frame {s : State} (h : s.thy.holdover = false) (last : Nat) :
    (s.thyHoldover last).thy = { s.thy with holdover := true, srcLink := none } ∧ s.reported (s.thyHoldover last) 0x0852 0 0 none last ∧
    s.keeps (s.thyHoldover last) [.thy, .fm] := by
  have he : s.thyHoldover last = ({ s with thy := { s.thy with holdover := true, srcLink := none } }).report 0x0852 clsEvent 0 none last :=
    if_neg (by simp [h])
  rw [he]
  refine ⟨rfl, rfl, ?_⟩
  simp [State.keeps_iff, State.report]

/-! ### The servo leaves the time (R377, R379) -/

/-- Two values of Thyme with the same time, the same stamps of MARK_IN and the same holdover. -/
def Thyme.sameTime (t u : Thyme) : Prop := u.sec = t.sec ∧ u.ns = t.ns ∧ u.minSec = t.minSec ∧ u.minNs = t.minNs ∧
  u.minCnt = t.minCnt ∧ u.holdover = t.holdover

theorem Thyme.sameTime_trans {t u v : Thyme} (h : t.sameTime u) (k : u.sameTime v) : t.sameTime v := by
  obtain ⟨h1, h2, h3, h4, h5, h6⟩ := h
  obtain ⟨k1, k2, k3, k4, k5, k6⟩ := k
  exact ⟨k1.trans h1, k2.trans h2, k3.trans h3, k4.trans h4, k5.trans h5, k6.trans h6⟩

theorem nearest_keeps {s : State} {d p : Nat} : s.keeps (s.nearest d p).2 [.freeCtr] := by
  unfold State.nearest
  split
  · exact keeps_refl
  · split
    · exact keeps_refl
    · simp [State.keeps_iff, State.freshBit]

theorem servoInc_frame {s : State} : s.thy.sameTime s.servoInc.thy ∧ s.keeps s.servoInc [.thy, .freeCtr] :=
  ⟨⟨rfl, rfl, rfl, rfl, rfl, rfl⟩, by simp [State.keeps_iff, State.servoInc, State.freshNat]⟩

/-- A step of the servo or its new increment. -/
def State.corrected (s : State) (a : Nat) (ns : Int) : State :=
  if 4000000 ≤ a ∧ s.thy.valid = true then { s with thy := { s.thy with stepsDue := s.thy.stepsDue ++ [some (-ns)] } } else s.servoInc

theorem corrected_frame {s : State} {a : Nat} {ns : Int} : s.thy.sameTime (s.corrected a ns).thy ∧
    s.keeps (s.corrected a ns) [.thy, .freeCtr] := by
  unfold State.corrected
  split
  · exact ⟨⟨rfl, rfl, rfl, rfl, rfl, rfl⟩, by simp [State.keeps_iff]⟩
  · exact servoInc_frame

/-- The good marks in a row after an offset of size `a`, and the servo's lock (R377). -/
def Thyme.goodAfter (t : Thyme) (a : Nat) : Nat := if a < 80000 then min 16 (t.good + 1) else 0
def Thyme.lockedAfter (t : Thyme) (a : Nat) : Bool := if 400000 ≤ a then false else t.locked || decide (t.goodAfter a = 16)

/-- The servo's state after an offset. -/
def State.servoNoted (s : State) (ns : Int) (a : Nat) : State :=
  { s with thy := { s.thy with offset := ns, good := s.thy.goodAfter a, locked := s.thy.lockedAfter a } }

/-- The servo's state after an offset, and the report of its lock. -/
def State.servoJudged (s : State) (ns : Int) (a link stratum : Nat) : State :=
  if s.thy.lockedAfter a && !s.thy.locked then (s.servoNoted ns a).report 0x0851 clsEvent 0 none (link + 256 * stratum)
  else s.servoNoted ns a

theorem servoNoted_keeps {s : State} {ns : Int} {a : Nat} : s.keeps (s.servoNoted ns a) [.thy] := by
  simp [State.keeps_iff, State.servoNoted]

theorem servoJudged_frame {s : State} {ns : Int} {a link stratum : Nat} : s.thy.sameTime (s.servoJudged ns a link stratum).thy ∧
    s.keeps (s.servoJudged ns a link stratum) [.thy, .fm] := by
  have hk : s.keeps (s.servoNoted ns a) [.thy, .fm] := keeps_mono servoNoted_keeps (by decide)
  unfold State.servoJudged
  split
  · exact ⟨⟨rfl, rfl, rfl, rfl, rfl, rfl⟩, keeps_trans hk (keeps_mono report_keeps (by decide))⟩
  · exact ⟨⟨rfl, rfl, rfl, rfl, rfl, rfl⟩, hk⟩

theorem steer_eq (s : State) (o : Int) (link stratum : Nat) :
    ∃ ns, s.steer o link stratum = (s.freshBit.2.corrected o.natAbs ns).servoJudged ns o.natAbs link stratum := ⟨_, rfl⟩

theorem steer_frame {s : State} {o : Int} {link stratum : Nat} : s.thy.sameTime (s.steer o link stratum).thy ∧
    s.keeps (s.steer o link stratum) [.thy, .fm, .freeCtr] := by
  obtain ⟨ns, he⟩ := steer_eq s o link stratum
  obtain ⟨hc, hck⟩ := corrected_frame (s := s.freshBit.2) (a := o.natAbs) (ns := ns)
  obtain ⟨hj, hjk⟩ := servoJudged_frame (s := s.freshBit.2.corrected o.natAbs ns) (ns := ns) (a := o.natAbs) (link := link) (stratum := stratum)
  have hb : s.keeps s.freshBit.2 [.freeCtr] := by simp [State.keeps_iff, State.freshBit]
  rw [he]
  exact ⟨Thyme.sameTime_trans (t := s.thy) hc hj,
    keeps_trans (keeps_trans (keeps_mono hb (by decide)) (keeps_mono hck (by decide))) (keeps_mono hjk (by decide))⟩

/-! ### An edge of MARK_IN (R379) -/

/-- The state with the edge's stamp and its trace packet. -/
def State.edgeStamped (s : State) : State :=
  ({ s with thy := { s.thy with minSec := s.thy.sec, minNs := s.thy.ns, minCnt := satInc s.thy.minCnt 0xFFFFFFFF } }).trace 0x13 0xFF 5
    (leBytes s.thy.sec 8 ++ leBytes s.thy.ns 4 ++ zeros 4)

theorem edgeStamped_frame (s : State) : s.edgeStamped.thy =
      { s.thy with minSec := s.thy.sec, minNs := s.thy.ns, minCnt := satInc s.thy.minCnt 0xFFFFFFFF } ∧
    s.keeps s.edgeStamped [.thy, .chv] := by
  have hk : s.keeps { s with thy := { s.thy with minSec := s.thy.sec, minNs := s.thy.ns, minCnt := satInc s.thy.minCnt 0xFFFFFFFF } }
    [.thy, .chv] := by simp [State.keeps_iff]
  exact ⟨trace_keeps .thy (by decide), keeps_trans hk (keeps_mono trace_keeps (by decide))⟩

/-- The edge marks a whole second. -/
def State.edgeSteered (s : State) (ns : Nat) : State :=
  ({ (s.nearest ns 1000000000).2 with thy := { (s.nearest ns 1000000000).2.thy with holdover := false } }).steer
    ((s.nearest ns 1000000000).1 * 4000) 0xFF 0

theorem exec_thymeMarkInEdge_of {s : State} (h : s.thy.runs = true) :
    exec .thymeMarkInEdge s = .next (if s.thySrc = 1 then s.edgeStamped.edgeSteered s.thy.ns else s.edgeStamped) := by
  rw [exec_thymeMarkInEdge, execThymeMarkInEdge]
  dsimp only
  rw [if_neg (by simp [h])]
  have hs : s.edgeStamped.thySrc = s.thySrc := thySrc_of_keeps (edgeStamped_frame s).2 (by decide)
  rw [← hs]
  exact (apply_ite Host.Outcome.next _ _ _).symm

theorem edgeSteered_frame (s : State) (ns : Nat) : { s.thy with holdover := false }.sameTime (s.edgeSteered ns).thy ∧
    s.keeps (s.edgeSteered ns) [.thy, .fm, .freeCtr] := by
  have hn : (s.nearest ns 1000000000).2.thy = s.thy := nearest_keeps .thy (by decide)
  obtain ⟨ht, hk⟩ := steer_frame (s := { (s.nearest ns 1000000000).2 with thy := { (s.nearest ns 1000000000).2.thy with holdover := false } })
    (o := (s.nearest ns 1000000000).1 * 4000) (link := 0xFF) (stratum := 0)
  have h1 : (s.nearest ns 1000000000).2.keeps
      { (s.nearest ns 1000000000).2 with thy := { (s.nearest ns 1000000000).2.thy with holdover := false } } [.thy, .fm, .freeCtr] := by
    simp [State.keeps_iff]
  refine ⟨?_, keeps_trans (keeps_mono nearest_keeps (by decide)) (keeps_trans h1 hk)⟩
  rw [← hn]
  exact ht

theorem thymeSources_edge {s : State} (h : s.thy.runs = true) : Runs .thymeMarkInEdge s (fun t => t.thy.minSec = s.thy.sec ∧
    t.thy.minNs = s.thy.ns ∧ t.thy.minCnt = satInc s.thy.minCnt 0xFFFFFFFF ∧ t.thy.sec = s.thy.sec ∧ t.thy.ns = s.thy.ns ∧
    (s.thySrc = 1 → t.thy.holdover = false) ∧ s.keeps t [.thy, .chv, .fm, .freeCtr]) := by
  obtain ⟨he, hk⟩ := edgeStamped_frame s
  obtain ⟨⟨h1, h2, h3, h4, h5, h6⟩, hsk⟩ := edgeSteered_frame s.edgeStamped s.thy.ns
  refine Runs.of (exec_thymeMarkInEdge_of h) ?_
  by_cases hs : s.thySrc = 1
  · rw [if_pos hs]
    rw [he] at h1 h2 h3 h4 h5
    exact ⟨h3, h4, h5, h1, h2, fun _ => h6, keeps_trans (keeps_mono hk (by decide)) (keeps_mono hsk (by decide))⟩
  · rw [if_neg hs, he]
    exact ⟨rfl, rfl, rfl, rfl, rfl, fun e => absurd e hs, keeps_mono hk (by decide)⟩

/-- Settles O46: clause by clause over the commands of the marks and of Thyme's source. -/
theorem thymeSources : Obligations.ThymeSources := by
  unfold Obligations.ThymeSources
  refine ⟨fun l d s hu hd => ?_, fun l d s h => ?_, fun l line q d tv m st sub s hu => ?_,
    fun l line q d m st sub s hu hsrc => ⟨fun hst => ?_, fun hl => ?_⟩, fun l line q d m st sub s hu hsrc hl hst => ?_,
    fun l line q d m tv cb st sub s hu => ?_, fun l s h2 hl hm hh => ?_, fun l m s h2 hl hm hu => ?_, fun s h => ?_,
    fun l c s h2 hc hb hlt => ?_, fun l c s hc hlt => ?_, fun s h => thymeSources_edge h, fun s h1 hh => ?_, fun s h => ?_⟩
  · exact Runs.of (if_pos (by simp [hu, hd])) (sendMark_frame s l d.toNat)
  · refine Runs.of (if_neg ?_) rfl
    obtain h | h := h <;> simp [h]
  · obtain ⟨hl, ho, hk⟩ := takeLine_frame s l line
    have he : exec (.fmkReceive l line q d tv m st true sub) s =
        .next ((s.takeLine l line).2.updLink l fun k => { k with code0 := satInc k.code0 0xFFFF }) :=
      (if_neg (by simp [isUp_takeLine, hu])).trans (if_pos rfl)
    exact Runs.of he ⟨State.link_updLink _ _ _, hk .thy (by decide), otherLinks_trans ho (fun _ hm => State.link_updLink_ne _ _ hm),
      keeps_trans hk updLink_keeps⟩
  · have hok : markOk true st = true := by simp [markOk, hst]
    have hthy : (s.takeLine l line).2.thy = s.thy := (takeLine_frame s l line).2.2 .thy (by decide)
    refine Runs.of (exec_fmkReceive_candidate hu hsrc) ⟨?_, fun k hk => ?_, marked_srcLink.trans (congrArg Thyme.srcLink hthy), rfl, marked_takeLine_keeps⟩
    · rw [hok, marked_of_valid, Map.get_set_self]
    · rw [hok, marked_of_valid, Map.get_set_ne _ _ _ hk, hthy]
  · have hthy : (s.takeLine l line).2.thy = s.thy := (takeLine_frame s l line).2.2 .thy (by decide)
    refine Runs.of (exec_fmkReceive_candidate hu hsrc) ⟨?_, marked_srcLink.trans (congrArg Thyme.srcLink hthy), rfl, marked_takeLine_keeps⟩
    have hm : ((s.takeLine l line).2.marked l (markOk false st) st.toNat m.val).thy.marks = Map.del s.thy.marks l.val := by
      rw [show markOk false st = false from rfl, marked_of_notSource (by rwa [hthy]), hthy]
    rw [hm, Map.get_del]
    exact if_pos rfl
  · have hok : markOk true st = true := by simp [markOk, hst]
    have hthy : (s.takeLine l line).2.thy = s.thy := (takeLine_frame s l line).2.2 .thy (by decide)
    have hsl : ((s.takeLine l line).2.marked l (markOk true st) st.toNat m.val).thy.srcLink = some l.val :=
      marked_srcLink.trans ((congrArg Thyme.srcLink hthy).trans hl)
    have h2 : ((s.takeLine l line).2.marked l (markOk true st) st.toNat m.val).thySrc = 2 :=
      (thySrc_of_keeps marked_takeLine_keeps (by decide)).trans hsrc
    refine Runs.of ((exec_fmkReceive_up hu).trans (congrArg Host.Outcome.next ?_))
      ⟨(s.takeLine l line).2.marked l (markOk true st) st.toNat m.val, rfl, ?_, rfl, marked_takeLine_keeps⟩
    · rw [sourced_of_source hsl]
      exact if_pos ⟨hok, h2, hsl⟩
    · rw [hok, marked_of_valid, Map.get_set_self]
  · exact Runs.of (if_pos (by simp [isUp_takeLine, hu])) ⟨rfl, (takeLine_frame s l line).2⟩
  · have hb : (s.sourceLost l).bestMark = none := bestMark_of_none hm
    obtain ⟨ht, hr, hk⟩ := thyHoldover_frame (s := s.sourceLost l) hh l
    refine Runs.of ((exec_thySourceLoss_of h2 hl).trans (congrArg Host.Outcome.next (takeSource_of_none hb l)))
      ⟨congrArg Thyme.srcLink ht, congrArg Thyme.holdover ht, hr, ?_⟩
    exact keeps_trans (t := s.sourceLost l) (by simp [State.keeps_iff, State.sourceLost]) hk
  · have hb : (s.sourceLost l).bestMark = some m := bestMark_of_one hm hu
    refine Runs.of ((exec_thySourceLoss_of h2 hl).trans (congrArg Host.Outcome.next (takeSource_of_best hb l))) ⟨rfl, rfl, ?_⟩
    simp [State.keeps_iff, State.sourceLost]
  · refine Runs.of (t := s) ?_ rfl
    rw [exec_thySourceLoss, execThySourceLoss, h]
  · refine Runs.of (t := { s with thy := { s.thy with srcLink := some l.val } }) ?_ ⟨rfl, by simp [State.keeps_iff]⟩
    rw [exec_thySourcePrefer, execThySourcePrefer, hc]
    exact if_pos ⟨h2, hb, hlt⟩
  · refine Runs.of (t := s) ?_ rfl
    rw [exec_thySourcePrefer, execThySourcePrefer, hc]
    exact if_neg (by simp [hlt])
  · obtain ⟨ht, hr, hk⟩ := thyHoldover_frame hh 0xFF
    exact Runs.of (if_pos h1) ⟨congrArg Thyme.holdover ht, hr, hk⟩
  · exact Runs.of (if_neg h) rfl

end Sys2Proof.Machine
end


section
/-! PROOF. The mark output and the timed-start slots (R380, R381): what a write of a slot and the firing of one make of it (O47). -/

namespace Sys2Proof.Machine

/-! ### The slots -/

theorem tslot_setTslot_self (s : State) (k : Nat) (v : TStart) : (s.setTslot k v).tslot k = v := Map.get_set_self _ _ _ _
theorem tslot_setTslot_ne (s : State) {j k : Nat} (v : TStart) (h : j ≠ k) : (s.setTslot k v).tslot j = s.tslot j := Map.get_set_ne _ _ _ h
theorem setTslot_keeps {s : State} {k : Nat} {v : TStart} : s.keeps (s.setTslot k v) [.thy] := by
  simp [State.keeps_iff, State.setTslot]
theorem tslot_of_keeps {s t : State} {a : List Part} (h : s.keeps t a) (n : .thy ∉ a) (k : Nat) : t.tslot k = s.tslot k := by
  rw [State.tslot, show t.thy = s.thy from h .thy n, State.tslot]

/-! ### A slot is armed (R381) -/

/-- What TSTART_ARM writes: the command and the tenant with ARM set. -/
def tstartWord (step : Bool) (ten : TenId) : Nat := 1 + 2 * b2n step + 256 * ten.val

theorem tstartWord_stored : ∀ (step : Bool) (ten : TenId), tstartWord step ten &&& 0xFF02 = 2 * b2n step + 256 * ten.val := by decide +kernel
theorem tstartWord_arm : ∀ (step : Bool) (ten : TenId), bit (tstartWord step ten) 0 ≠ 0 := by decide +kernel

theorem tslotDue_setReg (s : State) (k v : Nat) : (s.setReg (tstartReg k) v).tslotDue k = s.tslotDue k := by
  unfold State.tslotDue
  rw [State.reg_setReg_ne, State.reg_setReg_ne, State.reg_setReg_ne]
  · rfl
  all_goals omega

theorem exec_tstartArm_of {k : Fin 4} {step : Bool} {ten : TenId} {s : State} (h : s.dev.mode.configured = true) :
    exec (.tstartArm k step ten) s = .next (s.writeTstart k (tstartWord step ten)) := if_pos h

theorem writeTstart_of_armed {s : State} {k : Nat} {step : Bool} {ten : TenId} (h : (s.tslot k).arm = true) :
    s.writeTstart k (tstartWord step ten) =
      if 2 * b2n step + 256 * ten.val = s.reg (tstartReg k) then s else s.accState (tstartReg k) := by
  unfold State.writeTstart
  dsimp only
  rw [if_pos h, if_neg (tstartWord_arm step ten), tstartWord_stored]

theorem writeTstart_of_free {s : State} {k : Nat} {step : Bool} {ten : TenId} (h : (s.tslot k).arm = false) :
    s.writeTstart k (tstartWord step ten) =
      if s.thy.valid = true then
        (s.setReg (tstartReg k) (2 * b2n step + 256 * ten.val)).setTslot k { s.tslot k with arm := true, lateArm := s.tslotDue k }
      else (s.setReg (tstartReg k) (2 * b2n step + 256 * ten.val)).accState (tstartReg k) := by
  unfold State.writeTstart
  dsimp only
  rw [if_neg (by simp [h]), if_neg (tstartWord_arm step ten), tstartWord_stored, tslotDue_setReg]
  rfl

/-! ### A slot fires (R381) -/

/-- Slot `k` after its time, with the status of its command. -/
def State.fired (s : State) (k st : Nat) (late : Bool) : State :=
  s.setTslot k { arm := false, lateArm := false, late := late, status := st }
/-- A slot whose command is refused. -/
def State.firedBadly (s : State) (k ten st : Nat) (late : Bool) : State :=
  (s.fired k st late).report 0x0853 clsEvent 0 none (k + 2 ^ 8 * ten + 2 ^ 16 * st)

theorem firedBadly_frame (s : State) (k ten st : Nat) (late : Bool) :
    ((s.firedBadly k ten st late).tslot k).arm = false ∧ ((s.firedBadly k ten st late).tslot k).status = st ∧
    (∀ j, j ≠ k → (s.firedBadly k ten st late).tslot j = s.tslot j) ∧
    s.reported (s.firedBadly k ten st late) 0x0853 0 0 none (k + 2 ^ 8 * ten + 2 ^ 16 * st) ∧
    s.keeps (s.firedBadly k ten st late) [.thy, .fm] := by
  have hs := tslot_setTslot_self s k { arm := false, lateArm := false, late := late, status := st }
  exact ⟨congrArg TStart.arm hs, congrArg TStart.status hs, fun j hj => tslot_setTslot_ne s _ hj, rfl,
    keeps_trans (t := s.fired k st late) (keeps_mono setTslot_keeps (by decide)) (keeps_mono report_keeps (by decide))⟩

theorem recordRefusal_keeps {s : State} {t st : Nat} : s.keeps (s.recordRefusal t st) [.fm, .chv] := by
  unfold State.recordRefusal
  split
  · split
    · exact keeps_mono report_keeps (by decide)
    · exact keeps_refl
  · exact keeps_ite (keeps_mono decision_keeps (by decide)) keeps_refl

section
variable {k : Fin 4} {sp : SpanAns} {s : State} (ha : (s.tslot k).arm = true) (hd : s.tslotDue k = true)
include ha hd

theorem exec_tstartFire_safe (h : s.dev.mode = .safe) : exec (.tstartFire k sp) s =
    .next (s.firedBadly k (fld (s.reg (tstartReg k)) 8 8) stBadMode (s.tslot k).lateArm) :=
  (if_pos ⟨ha, hd⟩).trans (if_pos h)

theorem exec_tstartFire_refused {st : Nat} (h : s.dev.mode ≠ .safe) (hr : s.startRefusal (fld (s.reg (tstartReg k)) 8 8) sp = some st) :
    exec (.tstartFire k sp) s = .next ((s.recordRefusal (fld (s.reg (tstartReg k)) 8 8) st).firedBadly k
      (fld (s.reg (tstartReg k)) 8 8) st (s.tslot k).lateArm) := by
  refine ((if_pos ⟨ha, hd⟩).trans (if_neg h)).trans ?_
  rw [hr]
  rfl

theorem exec_tstartFire_started (h : s.dev.mode ≠ .safe) (hr : s.startRefusal (fld (s.reg (tstartReg k)) 8 8) sp = none) :
    exec (.tstartFire k sp) s = .next ((s.fired k stOk (s.tslot k).lateArm).request (fld (s.reg (tstartReg k)) 8 8)
      (if bit (s.reg (tstartReg k)) 1 = 1 then .step (s.reg (tstartReg k + 4)) else .start) none) := by
  refine ((if_pos ⟨ha, hd⟩).trans (if_neg h)).trans ?_
  rw [hr]
  rfl
end

/-- Settles O47: clause by clause over the commands of the mark output and of the slots. -/
theorem timedEvents : Obligations.TimedEvents := by
  unfold Obligations.TimedEvents
  refine ⟨fun s h1 hv hc hs hp => ?_, fun s hv => ?_, fun s => ?_, fun k step ten s hc ha hv => ?_, fun k step ten s hc ha hv => ?_,
    fun k step ten s hc ha => ?_, fun k sp s h => ?_, fun k sp s ha hd h => ?_, fun k sp s ha hd h hr => ?_,
    fun k sp st s ha hd h hr => ?_⟩
  · exact Runs.of (if_pos ⟨h1, hv, hc, hs, hp⟩) ⟨rfl, by simp [State.keeps_iff]⟩
  · exact Runs.of (if_neg (by simp [hv])) rfl
  · exact Runs.of (exec_markOutFall s) ⟨rfl, by simp [State.keeps_iff]⟩
  · have hq := tslot_setTslot_self (s.setReg (tstartReg k) (2 * b2n step + 256 * ten.val)) k
      { s.tslot k with arm := true, lateArm := s.tslotDue k }
    have hw : 2 * b2n step + 256 * ten.val < 2 ^ 32 := by
      have hb : b2n step ≤ 1 := by cases step <;> decide
      have ht := ten.isLt
      omega
    refine Runs.of ((exec_tstartArm_of hc).trans (congrArg Host.Outcome.next ((writeTstart_of_free ha).trans (if_pos hv))))
      ⟨congrArg TStart.arm hq, congrArg TStart.lateArm hq, fun j hj => tslot_setTslot_ne _ _ hj, ?_, fun r hr => ?_, ?_⟩
    · exact (State.reg_setReg_self s _ _).trans (Nat.mod_eq_of_lt hw)
    · exact State.reg_setReg_ne s _ hr
    · exact keeps_trans (keeps_mono setReg_keeps (by decide)) (keeps_mono setTslot_keeps (by decide))
  · refine Runs.of ((exec_tstartArm_of hc).trans (congrArg Host.Outcome.next ((writeTstart_of_free ha).trans (if_neg (by simp [hv])))))
      ⟨ha, rfl, ?_⟩
    exact keeps_trans (keeps_mono setReg_keeps (by decide)) (keeps_mono report_keeps (by decide))
  · refine Runs.of ((exec_tstartArm_of hc).trans (congrArg Host.Outcome.next (writeTstart_of_armed ha))) ?_
    by_cases he : 2 * b2n step + 256 * ten.val = s.reg (tstartReg k)
    · rw [if_pos he]
      exact ⟨rfl, rfl, fun hne => absurd he.symm hne, keeps_refl⟩
    · rw [if_neg he]
      exact ⟨rfl, rfl, fun _ => rfl, report_keeps⟩
  · refine Runs.of (if_neg ?_) rfl
    obtain h | h := h <;> simp [h]
  · obtain ⟨h1, h2, _, h4, h5⟩ := firedBadly_frame s k (fld (s.reg (tstartReg k)) 8 8) stBadMode (s.tslot k).lateArm
    exact Runs.of (exec_tstartFire_safe ha hd h) ⟨h1, h2, h4, h5⟩
  · have hq := tslot_setTslot_self s k { arm := false, lateArm := false, late := (s.tslot k).lateArm, status := stOk }
    exact Runs.of (exec_tstartFire_started ha hd h hr)
      ⟨s.fired k stOk (s.tslot k).lateArm, congrArg TStart.arm hq, congrArg TStart.status hq, setTslot_keeps, rfl⟩
  · have hk := recordRefusal_keeps (s := s) (t := fld (s.reg (tstartReg k)) 8 8) (st := st)
    obtain ⟨h1, h2, h3, _, h5⟩ := firedBadly_frame (s.recordRefusal (fld (s.reg (tstartReg k)) 8 8) st) k
      (fld (s.reg (tstartReg k)) 8 8) st (s.tslot k).lateArm
    have hall := keeps_trans (keeps_mono hk (b := [.thy, .fm, .chv]) (by decide)) (keeps_mono h5 (by decide))
    exact Runs.of (exec_tstartFire_refused ha hd h hr)
      ⟨h1, h2, fun j hj => (h3 j hj).trans (tslot_of_keeps hk (by decide) j), hall .tenants (by decide), hall⟩

end Sys2Proof.Machine
end


section
/-! PROOF. Trace packets and the sinks (R383 to R394): what enters a sink, what is dropped, what drains to its ring, and the writes of its
control register (O48). -/

namespace Sys2Proof.Machine

/-! ### What the funnel writes into one sink -/

theorem sink_setSink_self (s : State) (k : Nat) (q : Sink) : (s.setSink k q).sink k = q := Map.get_set_self _ _ _ _
theorem sink_setSink_ne (s : State) {j k : Nat} (q : Sink) (h : j ≠ k) : (s.setSink k q).sink j = s.sink j := Map.get_set_ne _ _ _ h
theorem sink_of_keeps {s t : State} {a : List Part} (h : s.keeps t a) (n : .chv ∉ a) (k : Nat) : t.sink k = s.sink k := by
  rw [State.sink, show t.chv = s.chv from h .chv n, State.sink]

/-- Packets may have entered sink `k`, and nothing else has changed. -/
structure State.feeds (s t : State) (k : Nat) : Prop where
  widx : (t.sink k).widx = (s.sink k).widx
  ridx : (t.sink k).ridx = (s.sink k).ridx
  en : (t.sink k).en = (s.sink k).en
  paid : (t.sink k).paid = (s.sink k).paid
  others : ∀ j, j ≠ k → t.sink j = s.sink j
  keeps : s.keeps t [.chv]

namespace State.feeds

theorem refl (s : State) (k : Nat) : s.feeds s k := ⟨rfl, rfl, rfl, rfl, fun _ _ => rfl, keeps_refl⟩
theorem trans {s t u : State} {k : Nat} (h : s.feeds t k) (g : t.feeds u k) : s.feeds u k :=
  ⟨g.widx.trans h.widx, g.ridx.trans h.ridx, g.en.trans h.en, g.paid.trans h.paid, fun j hj => (g.others j hj).trans (h.others j hj),
    keeps_trans h.keeps g.keeps⟩
theorem ite {s t u : State} {k : Nat} {c : Prop} [Decidable c] (h : s.feeds t k) (g : s.feeds u k) : s.feeds (if c then t else u) k :=
  iteInduction (motive := fun v : State => s.feeds v k) (fun _ => h) (fun _ => g)
theorem setSink {s : State} {k : Nat} {q : Sink} (hw : q.widx = (s.sink k).widx) (hr : q.ridx = (s.sink k).ridx)
    (he : q.en = (s.sink k).en) (hp : q.paid = (s.sink k).paid) : s.feeds (s.setSink k q) k := by
  have hs := sink_setSink_self s k q
  exact ⟨(congrArg Sink.widx hs).trans hw, (congrArg Sink.ridx hs).trans hr, (congrArg Sink.en hs).trans he,
    (congrArg Sink.paid hs).trans hp, fun j hj => sink_setSink_ne s q hj, setSink_keeps⟩

theorem funnelPut {s : State} {k typ ten a b : Nat} : s.feeds (s.funnelPut k typ ten a b) k := setSink rfl rfl rfl rfl
theorem funnel {s : State} {k typ ten a b : Nat} : s.feeds (s.funnel k typ ten a b) k := ite funnelPut (setSink rfl rfl rfl rfl)
theorem periodic {s : State} {k was : Nat} : s.feeds (s.periodic k was) k := ite (refl s k) funnel
theorem funnelMark {s : State} {k typ ten a b : Nat} : s.feeds (s.funnelMark k typ ten a b) k :=
  trans (trans (ite funnel (refl s k)) funnel) periodic
theorem closePut {s : State} {k reason ten : Nat} : s.feeds (s.closePut k reason ten) k := funnelMark
theorem funnelWaiting {s : State} {k : Nat} : s.feeds (s.funnelWaiting k) k := by
  unfold State.funnelWaiting
  split
  next typ ten a b rest _ =>
    have h1 : s.feeds (s.updSink k fun q => { q with wait := rest }) k := setSink rfl rfl rfl rfl
    exact ite (trans h1 funnelPut) (refl s k)
  next => exact refl s k

end State.feeds

/-! ### A packet is dropped (R387, R388) -/

theorem fillLimit_le (p : Nat) : fillLimit p ≤ 126976 := by
  unfold fillLimit
  split
  · omega
  · split
    · omega
    · split <;> omega

theorem enterSink_of_full {s : State} {k : Nat} {p : TracePkt} (he : (s.sink k).en = true) (hf : s.chv.frozen = false)
    (h : 126976 ≤ (s.sink k).fill) : s.enterSink k p = s.traceDrop k p.src := by
  have hl := fillLimit_le (s.rfld (srcReg p.src) 1 2)
  unfold State.enterSink
  dsimp only
  rw [if_neg (by simp [he, hf]), if_pos]
  simp only [Bool.or_eq_true, decide_eq_true_eq]
  right
  split <;> omega

/-- The counts of a dropped packet. -/
def State.dropCounted (s : State) (k src : Nat) : State :=
  { s with chv := { s.chv with
      sinks := Map.set s.chv.sinks k { s.sink k with
        lost := satInc (s.sink k).lost 0xFFFFFFFF, lostSeen := true
        drops := Map.set (s.sink k).drops src (Map.get (s.sink k).drops 0 src + 1) }
      srcLost := Map.set s.chv.srcLost src (satInc (Map.get s.chv.srcLost 0 src) 0xFFFFFFFF) } }

theorem dropCounted_sink (s : State) (k src : Nat) : (s.dropCounted k src).sink k = { s.sink k with
    lost := satInc (s.sink k).lost 0xFFFFFFFF, lostSeen := true
    drops := Map.set (s.sink k).drops src (Map.get (s.sink k).drops 0 src + 1) } := Map.get_set_self _ _ _ _
theorem dropCounted_others (s : State) {j k : Nat} (src : Nat) (h : j ≠ k) : (s.dropCounted k src).sink j = s.sink j :=
  Map.get_set_ne _ _ _ h
theorem dropCounted_keeps {s : State} {k src : Nat} : s.keeps (s.dropCounted k src) [.chv] := by
  simp [State.keeps_iff, State.dropCounted]

theorem traceDrop_eq (s : State) (k src : Nat) : s.traceDrop k src =
    if Map.get (s.sink k).drops 0 src = 0 then (s.dropCounted k src).report 0x0840 clsEvent src none (k + 2 ^ 8 * src)
    else s.dropCounted k src := rfl

theorem traceDrop_sink (s : State) (k src j : Nat) : (s.traceDrop k src).sink j = (s.dropCounted k src).sink j := by
  rw [traceDrop_eq]
  exact iteInduction (motive := fun t : State => t.sink j = _) (fun _ => rfl) (fun _ => rfl)

theorem traceDrop_keeps {s : State} {k src : Nat} : s.keeps (s.traceDrop k src) [.chv, .fm] := by
  have hk : s.keeps (s.dropCounted k src) [.chv, .fm] := keeps_mono dropCounted_keeps (by decide)
  rw [traceDrop_eq]
  exact keeps_ite (keeps_trans hk (keeps_mono report_keeps (by decide))) hk

/-! ### A packet drains to the ring (R393, R394) -/

theorem funnelWaiting_of_none {s : State} {k : Nat} (h : (s.sink k).wait = []) : s.funnelWaiting k = s := by
  rw [State.funnelWaiting, h]

/-- Sink `k` after its oldest packet `p` has left the staging for the bytes `z` of its ring, with `r` left behind. -/
def State.ringed (s : State) (k : Nat) (p z : List Byte) (r : List (List Byte)) : State :=
  { s.setSink k { s.sink k with staging := r, paid := (s.sink k).paid - p.length, widx := (s.sink k).widx + p.length } with
    ds := s.ds.putRing (s.rbase (s.sinkOwner k) + s.sinkBase k) (s.sinkSize k) (s.sink k).widx z }

theorem ringed_sink (s : State) (k : Nat) (p z : List Byte) (r : List (List Byte)) : (s.ringed k p z r).sink k =
    { s.sink k with staging := r, paid := (s.sink k).paid - p.length, widx := (s.sink k).widx + p.length } := Map.get_set_self _ _ _ _
theorem ringed_others (s : State) {j k : Nat} (p z : List Byte) (r : List (List Byte)) (h : j ≠ k) :
    (s.ringed k p z r).sink j = s.sink j := Map.get_set_ne _ _ _ h
theorem ringed_keeps {s : State} {k : Nat} {p z : List Byte} {r : List (List Byte)} : s.keeps (s.ringed k p z r) [.chv, .ds] := by
  simp [State.keeps_iff, State.ringed, State.setSink]

/-- A packet of poisoned staging lines is followed by a SYNC LOSS. -/
def State.lossMarked (s : State) (k : Nat) (now : Bool) : State :=
  if now then s.stagingUe.syncPut k 3 0xFF allOnes64 else s.stagingUe

theorem stagingUe_frame (s : State) : s.stagingUe.noc.poisonSeen = true ∧ s.stagingUe.chv = s.chv ∧ s.stagingUe.ds = s.ds ∧
    s.keeps s.stagingUe [.noc, .fm, .freeCtr] :=
  ⟨rfl, rfl, rfl, by simp [State.keeps_iff, State.stagingUe, State.freshNat, State.report]⟩

section
variable {s : State} {k : Nat} {bad : BitVec 10} {p : List Byte} {r : List (List Byte)} (hq : (s.sink k).staging = p :: r)
include hq

theorem sinkDrain_of_noRoom (h : s.sinkSize k < (s.sink k).widx - (s.sink k).ridx + p.length) : s.sinkDrain k bad = s := by
  unfold State.sinkDrain
  dsimp only
  rw [hq]
  exact if_pos h

variable (hroom : (s.sink k).widx - (s.sink k).ridx + p.length ≤ s.sinkSize k)
include hroom

theorem sinkDrain_of_unpaid (hp : (s.sink k).paid < p.length) (ht : (s.sink k).tok = 0) : s.sinkDrain k bad =
    (s.askTokens 5 (s.sinkOwner k) 4096).2.setSink k { s.sink k with tok := s.sched.tokSeq + 1 } := by
  unfold State.sinkDrain
  dsimp only
  rw [hq]
  dsimp only
  rw [if_neg (by omega), if_pos hp, if_pos ht, ← hq]
  rfl

theorem sinkDrain_of_paid (hp : p.length ≤ (s.sink k).paid) (hr : s.sinkBase k + s.sinkSize k ≤ s.rsize (s.sinkOwner k)) :
    s.sinkDrain k bad = (if zeroLines (s.sink k).widx bad p = p then s.ringed k p (zeroLines (s.sink k).widx bad p) r
      else (s.ringed k p (zeroLines (s.sink k).widx bad p) r).lossMarked k ((s.sink k).en && !s.chv.frozen)).funnelWaiting k := by
  have hin : ¬ (s.setSink k { s.sink k with staging := r, paid := (s.sink k).paid - p.length, widx := (s.sink k).widx + p.length }).rsize
      (s.sinkOwner k) < (s.setSink k { s.sink k with staging := r, paid := (s.sink k).paid - p.length, widx := (s.sink k).widx + p.length
        }).sinkBase k + (s.setSink k { s.sink k with staging := r, paid := (s.sink k).paid - p.length, widx := (s.sink k).widx + p.length
        }).sinkSize k := by
    exact Nat.not_lt.mpr hr
  unfold State.sinkDrain
  dsimp only
  rw [hq]
  dsimp only
  rw [if_neg (by omega), if_neg (by omega), if_neg hin]
  rfl
end

theorem traceSinks_clean {s : State} {k : Ring8} {bad : BitVec 10} {p : List Byte} {r : List (List Byte)} (hq : (s.sink k).staging = p :: r)
    (hwait : (s.sink k).wait = []) (hroom : (s.sink k).widx - (s.sink k).ridx + p.length ≤ s.sinkSize k) (hp : p.length ≤ (s.sink k).paid)
    (hr : s.sinkBase k + s.sinkSize k ≤ s.rsize (s.sinkOwner k)) (hz : zeroLines (s.sink k).widx bad p = p) :
    Runs (.traceDrain k bad) s (fun t => (t.sink k).staging = r ∧ (t.sink k).widx = (s.sink k).widx + p.length ∧
        (t.sink k).paid = (s.sink k).paid - p.length ∧
        t.ds = s.ds.putRing (s.rbase (s.sinkOwner k) + s.sinkBase k) (s.sinkSize k) (s.sink k).widx p ∧
        (∀ j, j ≠ k.val → t.sink j = s.sink j) ∧ s.keeps t [.chv, .ds]) := by
  have hs := ringed_sink s k p p r
  have he : s.sinkDrain k bad = s.ringed k p p r := by
    rw [sinkDrain_of_paid hq hroom hp hr, if_pos hz, hz]
    exact funnelWaiting_of_none ((congrArg Sink.wait hs).trans hwait)
  exact Runs.of ((exec_traceDrain k bad s).trans (congrArg Host.Outcome.next he)) ⟨congrArg Sink.staging hs, congrArg Sink.widx hs,
    congrArg Sink.paid hs, rfl, fun j hj => ringed_others s p p r hj, ringed_keeps⟩

/-- A mark of loss and the packets that waited leave what the drain has done. -/
theorem lossMarked_frame {s : State} {k : Nat} {now : Bool} :
    (((s.lossMarked k now).funnelWaiting k).sink k).widx = (s.sink k).widx ∧
    ((s.lossMarked k now).funnelWaiting k).ds = s.ds ∧ ((s.lossMarked k now).funnelWaiting k).noc.poisonSeen = true ∧
    (∀ j, j ≠ k → ((s.lossMarked k now).funnelWaiting k).sink j = s.sink j) ∧
    s.keeps ((s.lossMarked k now).funnelWaiting k) [.chv, .noc, .fm, .freeCtr] := by
  obtain ⟨hp, hc, hd, hk⟩ := stagingUe_frame s
  have hsink : ∀ j, s.stagingUe.sink j = s.sink j := fun j => sink_of_keeps hk (by decide) j
  have hf : s.stagingUe.feeds ((s.lossMarked k now).funnelWaiting k) k :=
    .trans (.ite .funnel (.refl _ _)) .funnelWaiting
  generalize (s.lossMarked k now).funnelWaiting k = t at hf
  have hnoc : t.noc = s.stagingUe.noc := hf.keeps .noc (by decide)
  exact ⟨hf.widx.trans (congrArg Sink.widx (hsink k)), (hf.keeps .ds (by decide)).trans hd, (congrArg Noc.poisonSeen hnoc).trans hp,
    fun j hj => (hf.others j hj).trans (hsink j), keeps_trans (keeps_mono hk (by decide)) (keeps_mono hf.keeps (by decide))⟩

theorem traceSinks_poisoned {s : State} {k : Ring8} {bad : BitVec 10} {p : List Byte} {r : List (List Byte)}
    (hq : (s.sink k).staging = p :: r) (hroom : (s.sink k).widx - (s.sink k).ridx + p.length ≤ s.sinkSize k)
    (hp : p.length ≤ (s.sink k).paid) (hr : s.sinkBase k + s.sinkSize k ≤ s.rsize (s.sinkOwner k))
    (hz : zeroLines (s.sink k).widx bad p ≠ p) :
    Runs (.traceDrain k bad) s (fun t => (t.sink k).widx = (s.sink k).widx + p.length ∧
        t.ds = s.ds.putRing (s.rbase (s.sinkOwner k) + s.sinkBase k) (s.sinkSize k) (s.sink k).widx
          (zeroLines (s.sink k).widx bad p) ∧ t.noc.poisonSeen = true ∧
        ((s.sink k).en = true → s.chv.frozen = false → ∃ u : State, u.chv = (s.setSink k { s.sink k with
          staging := r, paid := (s.sink k).paid - p.length, widx := (s.sink k).widx + p.length }).chv ∧
          t = (u.syncPut k 3 0xFF allOnes64).funnelWaiting k) ∧
        (∀ j, j ≠ k.val → t.sink j = s.sink j) ∧ s.keeps t [.chv, .ds, .noc, .fm, .freeCtr]) := by
  have hs := ringed_sink s k p (zeroLines (s.sink k).widx bad p) r
  obtain ⟨hw, hd, hn, ho, hk⟩ := lossMarked_frame (s := s.ringed k p (zeroLines (s.sink k).widx bad p) r) (k := k)
    (now := (s.sink k).en && !s.chv.frozen)
  refine Runs.of ((exec_traceDrain k bad s).trans (congrArg Host.Outcome.next ((sinkDrain_of_paid hq hroom hp hr).trans
    (congrArg (State.funnelWaiting · k) (if_neg hz))))) ⟨hw.trans (congrArg Sink.widx hs), hd, hn, fun he hf => ?_,
      fun j hj => (ho j hj).trans (ringed_others s _ _ r hj), keeps_trans (keeps_mono ringed_keeps (by decide)) (keeps_mono hk (by decide))⟩
  refine ⟨(s.ringed k p (zeroLines (s.sink k).widx bad p) r).stagingUe, rfl, congrArg (State.funnelWaiting · k) ?_⟩
  exact if_pos (by simp [he, hf])

/-! ### The control register (R393) -/

theorem fld_and (a m lsb width : Nat) : fld (a &&& m) lsb width = fld a lsb width &&& fld m lsb width := by
  rw [fld, fld, fld, Nat.shiftRight_and_distrib, Nat.and_mod_two_pow]

theorem fld_and_of_ones {m lsb width : Nat} (a : Nat) (h : fld m lsb width = 2 ^ width - 1) :
    fld (a &&& m) lsb width = fld a lsb width := by
  rw [fld_and, h, Nat.and_two_pow_sub_one_eq_mod, Nat.mod_eq_of_lt (fld_lt a lsb width)]

theorem sinkCtlStored_low (v : Nat) {lsb width : Nat} (h : lsb + width ≤ 16) : fld (sinkCtlStored v) lsb width = fld v lsb width := by
  unfold sinkCtlStored
  dsimp only
  rw [fld_setFld_of_disjoint _ _ (.inl (by omega)), fld_setFld_of_disjoint _ _ (.inl h)]

/-- CHV_SINK_CTL as a write of EN stores it. -/
def sinkEnWord (old b : Nat) : Nat := sinkCtlStored (setFld old 8 1 b &&& 0x0F3F07FF)

theorem sinkEnWord_owner (old b : Nat) : fld (sinkEnWord old b) 0 8 = fld old 0 8 := by
  rw [sinkEnWord, sinkCtlStored_low _ (by decide), fld_and_of_ones _ (by decide), fld_setFld_of_disjoint _ _ (.inl (by decide))]
theorem sinkEnWord_en (old b : Nat) : bit (sinkEnWord old b) 8 = b % 2 := by
  rw [bit, sinkEnWord, sinkCtlStored_low _ (by decide), fld_and_of_ones _ (by decide), fld_setFld_self, Nat.pow_one]

/-- The register after a write of EN, before EN acts. -/
def State.sinkCtlTaken (s : State) (k b : Nat) : State :=
  if decide (setFld (sinkEnWord (s.reg (sinkReg k)) b) 8 1 0 = setFld (s.reg (sinkReg k)) 8 1 0) = true then s
  else if (s.sink k).en then s.accState (sinkReg k)
  else if fld (sinkEnWord (s.reg (sinkReg k)) b) 16 6 ≠ fld (s.reg (sinkReg k)) 16 6 ∧
      s.sinkBad (fld (sinkEnWord (s.reg (sinkReg k)) b) 0 8) (s.sinkBase k) (2 ^ fld (sinkEnWord (s.reg (sinkReg k)) b) 16 6) = true then
    s.accValue (sinkReg k)
  else s.setReg (sinkReg k) (setFld (sinkEnWord (s.reg (sinkReg k)) b) 8 1 0)

theorem sinkCtlTaken_keeps {s : State} {k b : Nat} : s.keeps (s.sinkCtlTaken k b) [.regs, .fm] :=
  keeps_ite keeps_refl (keeps_ite (keeps_mono report_keeps (by decide)) (keeps_ite (keeps_mono report_keeps (by decide))
    (keeps_mono setReg_keeps (by decide))))

theorem writeSinkCtl_en (s : State) (k b : Nat) : s.writeSinkCtl k (setFld (s.reg (sinkReg k)) 8 1 b) =
    if b % 2 = 1 then (s.sinkCtlTaken k b).enableSink k else (s.sinkCtlTaken k b).disableSink k := by
  rw [← sinkEnWord_en (s.reg (sinkReg k)) b]
  unfold State.writeSinkCtl
  dsimp only
  exact if_neg (not_not_intro (sinkEnWord_owner _ _))

theorem funnelPut_staging (s : State) (k typ ten a b : Nat) :
    ((s.funnelPut k typ ten a b).sink k).staging.length = (s.sink k).staging.length + 1 := by
  unfold State.funnelPut
  rw [sink_setSink_self, Sink.put, List.length_append, List.length_singleton]

/-- A SYNC enters an empty sink. -/
theorem syncPut_of_empty {s : State} {k : Nat} (hw : (s.sink k).wait = []) (hs : (s.sink k).staging = []) (reason ten ecyc : Nat) :
    s.syncPut k reason ten ecyc = s.funnelPut k 0 ten reason ecyc := by
  refine if_pos ?_
  simp [hw, hs, State.funnelBody, zeros, Sink.fill, sumNat]

/-- An enabled sink starts its indices, with a SYNC START in its staging. -/
theorem enableSink_frame {s : State} {k : Nat} (he : (s.sink k).en = false) (hf : s.chv.frozen = false) :
    ((s.enableSink k).sink k).en = true ∧ ((s.enableSink k).sink k).widx = 0 ∧ ((s.enableSink k).sink k).ridx = 0 ∧
    ((s.enableSink k).sink k).staging.length = 1 ∧ (∀ j, j ≠ k → (s.enableSink k).sink j = s.sink j) ∧
    s.keeps (s.enableSink k) [.chv] := by
  have heq : s.enableSink k =
      (s.setSink k { en := true, lost := (s.sink k).lost, lostSeen := (s.sink k).lostSeen }).syncPut k 1 0xFF allOnes64 :=
    if_neg (by simp [he, hf])
  have hs := sink_setSink_self s k { en := true, lost := (s.sink k).lost, lostSeen := (s.sink k).lostSeen }
  have hfeed : (s.setSink k { en := true, lost := (s.sink k).lost, lostSeen := (s.sink k).lostSeen }).feeds (s.enableSink k) k := by
    rw [heq]
    exact .funnel
  have hput : ((s.enableSink k).sink k).staging.length = 1 := by
    rw [heq, syncPut_of_empty (congrArg Sink.wait hs) (congrArg Sink.staging hs), funnelPut_staging, hs]
    rfl
  exact ⟨hfeed.en.trans (congrArg Sink.en hs), hfeed.widx.trans (congrArg Sink.widx hs), hfeed.ridx.trans (congrArg Sink.ridx hs), hput,
    fun j hj => (hfeed.others j hj).trans (sink_setSink_ne s _ hj), keeps_trans setSink_keeps hfeed.keeps⟩

theorem disableSink_of_on {s : State} {k : Nat} (he : (s.sink k).en = true) :
    s.disableSink k = (s.closePut k 2 0xFF).updSink k (fun q => { q with en := false }) := by
  unfold State.disableSink
  exact if_pos he

theorem updSink_off_frame (s : State) (k : Nat) :
    ((s.updSink k fun q => { q with en := false }).sink k).en = false ∧
    ((s.updSink k fun q => { q with en := false }).sink k).widx = (s.sink k).widx ∧
    (∀ j, j ≠ k → (s.updSink k fun q => { q with en := false }).sink j = s.sink j) ∧
    s.keeps (s.updSink k fun q => { q with en := false }) [.chv] := by
  have hs := sink_setSink_self s k { s.sink k with en := false }
  exact ⟨congrArg Sink.en hs, (congrArg Sink.widx hs).trans rfl, fun j hj => sink_setSink_ne _ _ hj, setSink_keeps⟩

/-- A disabled sink keeps its indices. -/
theorem disableSink_frame (s : State) (k : Nat) :
    ((s.disableSink k).sink k).en = false ∧ ((s.disableSink k).sink k).widx = (s.sink k).widx ∧
    (∀ j, j ≠ k → (s.disableSink k).sink j = s.sink j) ∧ s.keeps (s.disableSink k) [.chv] := by
  by_cases he : (s.sink k).en = true
  · have hc : s.feeds (s.closePut k 2 0xFF) k := .closePut
    obtain ⟨h1, h2, h3, h4⟩ := updSink_off_frame (s.closePut k 2 0xFF) k
    rw [disableSink_of_on he]
    exact ⟨h1, h2.trans hc.widx, fun j hj => (h3 j hj).trans (hc.others j hj), keeps_trans hc.keeps h4⟩
  · have heq : s.disableSink k = s := if_neg he
    rw [heq]
    exact ⟨by simpa using he, rfl, fun _ _ => rfl, keeps_refl⟩

/-- Settles O48: clause by clause over the trace commands. -/
theorem traceSinks : Obligations.TraceSinks := by
  unfold Obligations.TraceSinks
  refine ⟨fun s h => ?_, fun p r s hq h => ?_, fun p r s hq hf hsrc => ?_, fun k p s he hf hfull => ?_, fun k p s h => ?_,
    fun k bad p r s hq hw hroom hp hr => ⟨traceSinks_clean hq hw hroom hp hr, traceSinks_poisoned hq hroom hp hr⟩,
    fun k bad p r s hq hroom hp ht => ?_, fun k bad p r s hq hroom => ?_, fun k bad s hq hw => ?_, fun k s hc he hf => ?_,
    fun k s hc => ?_, fun k o s hc => ?_, fun k v s hc hsrc hf => ?_⟩
  · refine Runs.of (t := s) ?_ rfl
    rw [exec_tracePacketEnter, execTracePacketEnter, h]
  · refine Runs.of (t := { s with chv := { s.chv with inq := r } }) ?_ ⟨rfl, by simp [State.keeps_iff]⟩
    rw [exec_tracePacketEnter, execTracePacketEnter, hq]
    refine if_pos ?_
    obtain h | h := h
    · simp [h]
    · exact Bool.or_eq_true_iff.mpr (.inr (decide_eq_true h))
  · refine Runs.of (t := (({ s with chv := { s.chv with inq := r } } : State).sinksOf p).foldl (fun v k => v.enterSink k p)
      { s with chv := { s.chv with inq := r } }) ?_ ⟨{ s with chv := { s.chv with inq := r } }, rfl, by simp [State.keeps_iff], rfl⟩
    rw [exec_tracePacketEnter, execTracePacketEnter, hq]
    refine if_neg ?_
    rw [Bool.or_eq_true_iff, decide_eq_true_eq]
    rintro (h | h)
    · exact Bool.false_ne_true (hf.symm.trans h)
    · exact absurd (hsrc.symm.trans h) (by decide)
  · have hs := (traceDrop_sink s k p.src k).trans (dropCounted_sink s k p.src)
    refine ⟨enterSink_of_full he hf hfull, congrArg Sink.lost hs, congrArg Sink.lostSeen hs, (congrArg Sink.staging hs).trans rfl,
      fun j hj => (traceDrop_sink s k p.src j).trans (dropCounted_others s p.src hj), fun h0 => ?_, traceDrop_keeps⟩
    rw [traceDrop_eq, if_pos h0]
    rfl
  · unfold State.enterSink
    dsimp only
    refine if_pos ?_
    obtain h | h := h <;> simp [h]
  · have hk : s.keeps (s.askTokens 5 (s.sinkOwner k) 4096).2 [.sched] := askTokens_keeps
    refine Runs.of ((exec_traceDrain k bad s).trans (congrArg Host.Outcome.next (sinkDrain_of_unpaid hq hroom hp ht)))
      ⟨sink_setSink_self _ _ _, fun j hj => (sink_setSink_ne _ _ hj).trans (sink_of_keeps hk (by decide) j), ?_⟩
    exact keeps_trans (keeps_mono hk (by decide)) (keeps_mono setSink_keeps (by decide))
  · exact Runs.of ((exec_traceDrain k bad s).trans (congrArg Host.Outcome.next (sinkDrain_of_noRoom hq hroom))) rfl
  · refine Runs.of (t := s) ?_ rfl
    rw [exec_traceDrain, execTraceDrain, State.sinkDrain]
    dsimp only
    rw [hq]
    exact congrArg Host.Outcome.next (funnelWaiting_of_none hw)
  · have hk := sinkCtlTaken_keeps (s := s) (k := k) (b := 1)
    have hsink := fun j => sink_of_keeps hk (by decide) j
    obtain ⟨h1, h2, h3, h4, h5, h6⟩ := enableSink_frame (s := s.sinkCtlTaken k 1) (k := k) ((congrArg Sink.en (hsink k)).trans he)
      ((congrArg Chv.frozen (show (s.sinkCtlTaken k 1).chv = s.chv from hk .chv (by decide))).trans hf)
    exact Runs.of ((if_pos hc).trans (congrArg Host.Outcome.next ((writeSinkCtl_en s k 1).trans (if_pos rfl))))
      ⟨h1, h2, h3, h4, fun j hj => (h5 j hj).trans (hsink j), keeps_trans (keeps_mono hk (by decide)) (keeps_mono h6 (by decide))⟩
  · have hk := sinkCtlTaken_keeps (s := s) (k := k) (b := 0)
    have hsink := fun j => sink_of_keeps hk (by decide) j
    obtain ⟨h1, h2, h3, h4⟩ := disableSink_frame (s.sinkCtlTaken k 0) k
    exact Runs.of ((if_pos hc).trans (congrArg Host.Outcome.next ((writeSinkCtl_en s k 0).trans (if_neg (by decide)))))
      ⟨h1, h2.trans (congrArg Sink.widx (hsink k)), fun j hj => (h3 j hj).trans (hsink j),
        keeps_trans (keeps_mono hk (by decide)) (keeps_mono h4 (by decide))⟩
  · have hs := sink_setSink_self (s.setReg (sinkReg k) (setFld (setFld (s.reg (sinkReg k)) 8 1 0) 0 8 o.val)) k
      { s.sink k with en := false, staging := [], wait := [] }
    refine Runs.of (if_pos hc) ⟨congrArg Sink.en hs, congrArg Sink.staging hs, ?_, fun j hj => sink_setSink_ne _ _ hj, ?_⟩
    · refine (State.rfld_setReg_self s _ _ (by decide)).trans ?_
      rw [fld_setFld_self]
      exact Nat.mod_eq_of_lt o.isLt
    · exact keeps_trans (keeps_mono setReg_keeps (by decide)) (keeps_mono setSink_keeps (by decide))
  · refine Runs.of ((if_pos hc).trans (congrArg Host.Outcome.next (if_pos ⟨hsrc, hf⟩))) ⟨⟨_, rfl, rfl, rfl, rfl, rfl⟩, ?_⟩
    simp [State.keeps_iff]

end Sys2Proof.Machine
end


section
/-! PROOF. The edge banks: staged release and withdrawal, the target cycle, and the groups of both directions (R406 to R418) (O49). -/

namespace Sys2Proof.Machine

/-! ### One bank changes -/

/-- Only bank `g` differs. -/
def State.otherBanks (s t : State) (g : Nat) : Prop := ∀ h, h ≠ g → t.bank h = s.bank h

theorem otherBanks_setBank {s : State} {g : Nat} {b : EdgeBank} : s.otherBanks (s.setBank g b) g := fun _ n => s.bank_setBank_ne b n
theorem otherBanks_trans {s t u : State} {g : Nat} (h : s.otherBanks t g) (k : t.otherBanks u g) : s.otherBanks u g :=
  fun j hj => (k j hj).trans (h j hj)
theorem otherBanks_refl {s : State} {g : Nat} : s.otherBanks s g := fun _ _ => rfl

theorem updBank_keeps {s : State} {g : Nat} {f : EdgeBank → EdgeBank} : s.keeps (s.updBank g f) [.edg] := setBank_keeps

/-- A report made of a state that differs from the one before neither in the log nor in the time. -/
theorem reported_of_keeps {s t : State} {a : List Part} {c k u d : Nat} {x : Option Nat} (h : s.keeps t a) (nf : .fm ∉ a) (nt : .thy ∉ a) :
    s.reported (t.report c k u x d) c k u x d := by
  unfold State.reported State.report
  dsimp only
  rw [show t.fm = s.fm from h .fm nf, show t.thy = s.thy from h .thy nt]

/-! ### Release and withdrawal (R416, R417) -/

section
variable {s : State} {g : Nat}

/-- Bank `g` in the stage CHECK. -/
def State.checking (s : State) (g : Nat) : State := s.setBank g { s.bank g with stage := .check, fsCause := 0, hiZ := false }

theorem checking_bank : (s.checking g).bank g = { s.bank g with stage := .check, fsCause := 0, hiZ := false } := s.bank_setBank g _

theorem leaveCheck_checking : (s.checking g).leaveCheck g =
    if (s.bank g).vioOk = true then (s.checking g).setBank g { s.bank g with stage := .out, fsCause := 0, hiZ := false, co := s.bankInit g }
    else s.checking g := by
  have hb := checking_bank (s := s) (g := g)
  unfold State.leaveCheck State.updBank
  rw [hb]
  exact if_congr ⟨fun e => e.2, fun e => ⟨rfl, e⟩⟩ rfl rfl

theorem bankRelease_of_rest (h : (s.bank g).stage = .off ∨ (s.bank g).stage = .failsafe) (hr : s.releasable g = true) :
    s.bankRelease g = (s.checking g).leaveCheck g := if_pos ⟨h, hr⟩

theorem bankRelease_frame (h : (s.bank g).stage = .off ∨ (s.bank g).stage = .failsafe) (hr : s.releasable g = true) :
    ((s.bankRelease g).bank g).stage = (if (s.bank g).vioOk = true then .out else .check) ∧
      ((s.bank g).vioOk = true → ((s.bankRelease g).bank g).co = s.bankInit g) ∧ ((s.bankRelease g).bank g).fsCause = 0 ∧
      s.otherBanks (s.bankRelease g) g ∧ s.keeps (s.bankRelease g) [.edg] := by
  rw [bankRelease_of_rest h hr, leaveCheck_checking]
  by_cases hv : (s.bank g).vioOk = true
  · have hb := (s.checking g).bank_setBank g { s.bank g with stage := .out, fsCause := 0, hiZ := false, co := s.bankInit g }
    rw [if_pos hv, if_pos hv]
    exact ⟨congrArg EdgeBank.stage hb, fun _ => congrArg EdgeBank.co hb, congrArg EdgeBank.fsCause hb,
      otherBanks_trans otherBanks_setBank otherBanks_setBank, keeps_trans setBank_keeps setBank_keeps⟩
  · have hb := checking_bank (s := s) (g := g)
    rw [if_neg hv, if_neg hv]
    exact ⟨congrArg EdgeBank.stage hb, fun e => absurd e hv, congrArg EdgeBank.fsCause hb, otherBanks_setBank, setBank_keeps⟩

theorem bankRelease_of_not (h : ¬ (((s.bank g).stage = .off ∨ (s.bank g).stage = .failsafe) ∧ s.releasable g = true)) :
    s.bankRelease g = s.accState (bankReg g + 4) := if_neg h

theorem bankWithdraw_of_not (h : s.releasable g = false) : s.bankWithdraw g = s.accState (bankReg g + 4) := if_neg (by simp [h])

/-- The state that a withdrawal starts, by the bank's stage. -/
theorem bankWithdraw_of_run (hr : s.releasable g = true) (h : (s.bank g).stage = .run) :
    s.bankWithdraw g = s.setBank g { (s.bank g).stopBridge with stage := .retreat, undoing := .we } := by
  refine (if_pos hr).trans ?_
  rw [h]
theorem bankWithdraw_of_we (hr : s.releasable g = true) (h : (s.bank g).stage = .we) :
    s.bankWithdraw g = s.setBank g { s.bank g with stage := .retreat, undoing := .out } := by
  refine (if_pos hr).trans ?_
  rw [h]
theorem bankWithdraw_of_retreat (hr : s.releasable g = true) (h : (s.bank g).stage = .retreat) : s.bankWithdraw g = s := by
  refine (if_pos hr).trans ?_
  rw [h]
theorem bankWithdraw_of_off (hr : s.releasable g = true) (h : (s.bank g).stage = .off) :
    s.bankWithdraw g = s.accState (bankReg g + 4) := by
  refine (if_pos hr).trans ?_
  rw [h]
theorem bankWithdraw_of_early (hr : s.releasable g = true)
    (h : (s.bank g).stage = .check ∨ (s.bank g).stage = .out ∨ (s.bank g).stage = .failsafe) : s.bankWithdraw g = s.bankOff g := by
  refine (if_pos hr).trans ?_
  obtain h | h | h := h <;> rw [h]

theorem bankOff_frame (s : State) (g : Nat) : ((s.bankOff g).bank g).stage = .off ∧ s.reported (s.bankOff g) 0x0703 0 g none g ∧
    s.otherBanks (s.bankOff g) g ∧ s.keeps (s.bankOff g) [.edg, .fm] := by
  have hb := s.bank_setBank g { (s.bank g).stopBridge with stage := .off, undoing := .off, fsCause := 0, hiZ := false }
  exact ⟨congrArg EdgeBank.stage hb, rfl, otherBanks_setBank,
    keeps_trans (keeps_mono updBank_keeps (by decide)) (keeps_mono report_keeps (by decide))⟩
end

/-! ### A bank enters RUN (R410, R416) -/

section
variable {s : State} {g x : Nat} {pins : DWord}

/-- Bank `g` of tenant `x` in RUN, before its release sample. -/
def State.running (s : State) (g x : Nat) : State := s.latchInit.updBank g (fun b =>
  { b.stopBridge with stage := .run, undoing := .off, nextIn := s.latchInit.unstarted x, given := [] })

theorem running_bank : (s.running g x).bank g =
    { (s.bank g).stopBridge with stage := .run, undoing := .off, nextIn := s.unstarted x, given := [] } := State.bank_setBank _ g _
theorem running_others : s.otherBanks (s.running g x) g := fun _ n => State.bank_setBank_ne _ _ n
theorem running_keeps : s.keeps (s.running g x) [.edg] := by
  simp [State.keeps_iff, State.running, State.updBank, State.setBank, State.latchInit]

/-- The release sample of a bank that is not free-running. -/
def State.releaseSampled (s : State) (g x : Nat) (pins : DWord) : State :=
  if s.bankFree g then s else s.releaseSample x g (s.sampleOf g pins)

theorem enterRun_of_owner (h : s.bankOwner g = some x) :
    s.enterRun g pins = ((s.running g x).releaseSampled g x pins).report 0x0700 clsEvent g (some x) (g + 256 * x) := by
  rw [State.enterRun, h]
  rfl

theorem bankFree_running : (s.running g x).bankFree g = s.bankFree g := rfl
theorem unstarted_running : (s.running g x).unstarted x = s.unstarted x := rfl

theorem releaseSampled_free (h : s.bankFree g = true) : (s.running g x).releaseSampled g x pins = s.running g x := if_pos h
theorem releaseSampled_locked (h : s.bankFree g = false) : (s.running g x).releaseSampled g x pins = (s.running g x).updBank g (fun b => { b with
    rel := [(s.unstarted x, (s.running g x).sampleOf g pins), (s.unstarted x + 1, (s.running g x).sampleOf g pins)]
    inFifo := [], nextIn := s.unstarted x }) := if_neg (by simp [bankFree_running, h])

theorem releaseSampled_frame : let t := (s.running g x).releaseSampled g x pins
    (t.bank g).stage = .run ∧ (t.bank g).nextIn = s.unstarted x ∧ (t.bank g).given = [] ∧
    (s.bankFree g = false → ∃ u : State, u.regs = s.regs ∧ u.cfg = s.cfg ∧ (u.bank g).stage = .run ∧
      (t.bank g).rel = [(s.unstarted x, u.sampleOf g pins), (s.unstarted x + 1, u.sampleOf g pins)]) ∧
    (s.bankFree g = true → (t.bank g).rel = []) ∧ s.otherBanks t g ∧ s.keeps t [.edg] := by
  have hb := running_bank (s := s) (g := g) (x := x)
  by_cases hf : s.bankFree g = true
  · rw [releaseSampled_free hf]
    exact ⟨congrArg EdgeBank.stage hb, congrArg EdgeBank.nextIn hb, congrArg EdgeBank.given hb, fun e => by simp [hf] at e,
      fun _ => congrArg EdgeBank.rel hb, running_others, running_keeps⟩
  · have hff : s.bankFree g = false := by simpa using hf
    have hu := (s.running g x).bank_setBank g { (s.running g x).bank g with
      rel := [(s.unstarted x, (s.running g x).sampleOf g pins), (s.unstarted x + 1, (s.running g x).sampleOf g pins)]
      inFifo := [], nextIn := s.unstarted x }
    rw [releaseSampled_locked hff]
    exact ⟨(congrArg EdgeBank.stage hu).trans (congrArg EdgeBank.stage hb), congrArg EdgeBank.nextIn hu,
      (congrArg EdgeBank.given hu).trans (congrArg EdgeBank.given hb),
      fun _ => ⟨s.running g x, rfl, rfl, congrArg EdgeBank.stage hb, congrArg EdgeBank.rel hu⟩, fun e => absurd e hf,
      otherBanks_trans running_others otherBanks_setBank, keeps_trans running_keeps updBank_keeps⟩
end

/-! ### A brownout (R415, R418) -/

section
variable {s : State} {g : Nat}

/-- Bank `g` with its supply lost. -/
def State.browned (s : State) (g : Nat) : State :=
  (s.updBank g (fun b => { b with brownout := true })).updBank g (fun b => { b with vioOk := false, vioSince := none })

theorem browned_bank : (s.browned g).bank g = { s.bank g with brownout := true, vioOk := false, vioSince := none } := by
  simp [State.browned, State.updBank]
theorem browned_stage : ((s.browned g).bank g).stage = (s.bank g).stage := by rw [browned_bank]
theorem browned_others : s.otherBanks (s.browned g) g := otherBanks_trans otherBanks_setBank otherBanks_setBank
theorem browned_keeps : s.keeps (s.browned g) [.edg] := keeps_trans updBank_keeps updBank_keeps

theorem exec_brownoutTrip_eq (g : EBank) (s : State) : exec (.brownoutTrip g) s = .next ((s.browned g).failBank g 4 true true) := rfl

/-- Bank `g` in FAILSAFE, with the report. -/
def State.failed (s : State) (g cause : Nat) (hiZ : Bool) : State :=
  (s.setBank g { (s.bank g).stopBridge with stage := .failsafe, undoing := .off, fsCause := cause, hiZ := hiZ }).report 0x0701 clsTenant g
    (s.bankOwner g) (g + 16 * cause + 256 * (s.bankOwner g).getD 0)

theorem failed_bank (s : State) (g cause : Nat) (hiZ : Bool) : (s.failed g cause hiZ).bank g =
    { (s.bank g).stopBridge with stage := .failsafe, undoing := .off, fsCause := cause, hiZ := hiZ } := s.bank_setBank g _
theorem failed_keeps {cause : Nat} {hiZ : Bool} : s.keeps (s.failed g cause hiZ) [.edg, .fm] :=
  keeps_trans (keeps_mono setBank_keeps (by decide)) (keeps_mono report_keeps (by decide))

theorem failBank_of_working (h1 : (s.bank g).stage ≠ .off) (h2 : (s.bank g).stage ≠ .failsafe) (cause : Nat) (hiZ : Bool) :
    (s.bankOwner g = none → s.failBank g cause hiZ true = s.failed g cause hiZ) ∧
    (∀ x, s.bankOwner g = some x → s.failBank g cause hiZ true = (s.failed g cause hiZ).raiseHold x 5 none) := by
  unfold State.failBank
  dsimp only
  split
  next h => exact absurd h h1
  next h => exact absurd h h2
  next =>
    have ho : (s.setBank g { (s.bank g).stopBridge with stage := .failsafe, undoing := .off, fsCause := cause, hiZ := hiZ }).bankOwner g
      = s.bankOwner g := rfl
    refine ⟨fun hn => ?_, fun x hx => ?_⟩
    · rw [ho, State.failed, hn]
    · rw [ho, State.failed, hx]
      rfl

theorem failBank_of_resting (h : (s.bank g).stage = .off ∨ (s.bank g).stage = .failsafe) (cause : Nat) (hiZ : Bool) :
    (s.failBank g cause hiZ true).bank g = { s.bank g with hiZ := ((s.failBank g cause hiZ true).bank g).hiZ } ∧
    s.otherBanks (s.failBank g cause hiZ true) g ∧ s.keeps (s.failBank g cause hiZ true) [.edg] := by
  unfold State.failBank
  dsimp only
  split
  next => exact ⟨rfl, otherBanks_refl, keeps_refl⟩
  next => exact ⟨by simp, otherBanks_setBank, setBank_keeps⟩
  next h1 h2 => exact absurd h (not_or.mpr ⟨h1, h2⟩)
end

/-! ### Input groups reach the tiles (R406, R410, R411) -/

/-- One tile takes the group of ecycle `e`. -/
def State.handEdge (t e : Nat) (s : State) (l : Nat) : State :=
  s.updTile l (fun x => { x with edgeIn := Map.set x.edgeIn (e % 2) (s.edgeFor t (s.ltile l).itile e) })

theorem edgeFor_of_keeps {s u : State} {a : List Part} (h : s.keeps u a) (hr : .regs ∉ a) (he : .edg ∉ a) (t it e : Nat) :
    u.edgeFor t it e = s.edgeFor t it e := by
  have hregs : u.regs = s.regs := h .regs hr
  have hedg : u.edg = s.edg := h .edg he
  calc u.edgeFor t it e = ({ s with regs := u.regs, edg := u.edg } : State).edgeFor t it e := rfl
    _ = s.edgeFor t it e := by rw [hregs, hedg]

theorem ltile_of_keeps {s u : State} {a : List Part} (h : s.keeps u a) (n : .sched ∉ a) (l : Nat) : u.ltile l = s.ltile l := by
  rw [State.ltile, show u.sched = s.sched from h .sched n, State.ltile]

theorem handEdge_foldl (t e : Nat) (ls : List Nat) (s : State) :
    (∀ l ∈ ls, Map.get ((ls.foldl (State.handEdge t e) s).tile l).edgeIn 0 (e % 2) = s.edgeFor t (s.ltile l).itile e) ∧
    (∀ l, l ∉ ls → (ls.foldl (State.handEdge t e) s).tile l = s.tile l) ∧ s.keeps (ls.foldl (State.handEdge t e) s) [.tiles] := by
  induction ls generalizing s with
  | nil => exact ⟨fun l h => absurd h List.not_mem_nil, fun _ _ => rfl, keeps_refl⟩
  | cons a r ih =>
    obtain ⟨hin, hout, hk⟩ := ih (State.handEdge t e s a)
    have hs : s.keeps (State.handEdge t e s a) [.tiles] := updTile_keeps
    rw [List.foldl_cons]
    refine ⟨fun l hl => ?_, fun l hl => ?_, keeps_trans hs hk⟩
    · by_cases hr : l ∈ r
      · rw [hin l hr, edgeFor_of_keeps hs (by decide) (by decide), ltile_of_keeps hs (by decide)]
      · obtain rfl : l = a := (List.mem_cons.mp hl).resolve_right hr
        rw [hout l hr, State.handEdge, State.tile_updTile]
        exact Map.get_set_self _ _ _ _
    · rw [List.mem_cons, not_or] at hl
      rw [hout l hl.2, State.handEdge, State.tile_updTile_ne _ _ hl.1]

/-- The bound tiles of tenant `x` that bank `g` is routed to. -/
def State.routed (s : State) (g x : Nat) : List Nat := (s.boundTiles x).filter (fun l => s.routesTo g (s.ltile l).itile)

theorem exec_edgeInputDeliver_of {g : EBank} {e : Nat} {v : DWord} {b : EdgeBank} {x : Nat} {s : State}
    (hg : s.nextGroup g = some (e, v, b)) (ho : s.bankOwner g = some x) (hr : s.bankRuns g = true) (hd : e ≤ (s.ten x).done + 1)
    (hrec : (s.ten x).recov = none) (hall : (s.routed g x).all (fun l => decide (e ≤ (s.tile l).endedCount + 1)) = true) :
    exec (.edgeInputDeliver g) s =
      .next ((s.routed g x).foldl (State.handEdge x e) (s.setBank g { b with nextIn := e + 1, given := b.given ++ [(e, v)] })) := by
  rw [exec_edgeInputDeliver, execEdgeInputDeliver, hg, ho]
  exact if_pos ⟨hr, hall, hd, hrec⟩

theorem edgeBanks_deliver {g : EBank} {e : Nat} {v : DWord} {b : EdgeBank} {x : Nat} {s : State}
    (hg : s.nextGroup g = some (e, v, b)) (ho : s.bankOwner g = some x) (hr : s.bankRuns g = true) (hd : e ≤ (s.ten x).done + 1)
    (hrec : (s.ten x).recov = none) (hall : (s.routed g x).all (fun l => decide (e ≤ (s.tile l).endedCount + 1)) = true) :
    Runs (.edgeInputDeliver g) s (fun t => (t.bank g).given = b.given ++ [(e, v)] ∧ (t.bank g).nextIn = e + 1 ∧
      (∀ l ∈ s.boundTiles x, s.routesTo g (s.ltile l).itile = true →
        Map.get (t.tile l).edgeIn 0 (e % 2) = t.edgeFor x (s.ltile l).itile e) ∧
      (∀ l, l ∉ s.boundTiles x → t.tile l = s.tile l) ∧ s.keeps t [.edg, .tiles]) := by
  have hb := s.bank_setBank g { b with nextIn := e + 1, given := b.given ++ [(e, v)] }
  have hk0 : s.keeps (s.setBank g { b with nextIn := e + 1, given := b.given ++ [(e, v)] }) [.edg] := setBank_keeps
  obtain ⟨hin, hout, hk⟩ := handEdge_foldl x e (s.routed g x) (s.setBank g { b with nextIn := e + 1, given := b.given ++ [(e, v)] })
  refine Runs.of (exec_edgeInputDeliver_of hg ho hr hd hrec hall) ?_
  generalize hu : s.setBank g { b with nextIn := e + 1, given := b.given ++ [(e, v)] } = u at hb hk0 hin hout hk
  generalize (s.routed g x).foldl (State.handEdge x e) u = t at hin hout hk
  have hbank : t.bank g = u.bank g := by rw [State.bank, show t.edg = u.edg from hk .edg (by decide), State.bank]
  refine ⟨?_, ?_, fun l hl hrt => ?_, fun l hl => ?_, keeps_trans (keeps_mono hk0 (by decide)) (keeps_mono hk (by decide))⟩
  · rw [hbank, hb]
  · rw [hbank, hb]
  · rw [hin l (List.mem_filter.mpr ⟨hl, hrt⟩), edgeFor_of_keeps hk (by decide) (by decide), ltile_of_keeps hk0 (by decide)]
  · rw [hout l fun h => hl (List.mem_filter.mp h).1, tile_of_keeps hk0 (by decide)]

/-! ### The isolation cells and the held clocks -/

theorem isoPasses_iff (q : Nat) (own : Option Nat) (s : State) : s.isoPasses q own = true ↔
    own ≠ none ∧ s.regionOwner q = own ∧ q ∈ s.edg.loaded ∧ s.edg.pr ≠ some q := by
  simp [State.isoPasses, and_assoc, Option.isSome_iff_ne_none]

theorem clockHeld_iff (g : Nat) (s : State) : s.clockHeld g = true ↔ ∃ x, s.bankOwner g = some x ∧ (s.ten x).recov ≠ none := by
  unfold State.clockHeld
  cases s.bankOwner g <;> simp [Option.isSome_iff_ne_none]

/-! ### The stage timer -/

section
variable {g : EBank} {pins : DWord} {s : State}

theorem exec_bankStageTimer_out (h : (s.bank g).stage = .out) :
    exec (.bankStageTimer g pins) s = .next (s.setBank g { s.bank g with stage := .we }) := by
  rw [exec_bankStageTimer, execBankStageTimer]
  rw [h]
theorem exec_bankStageTimer_we (h : (s.bank g).stage = .we) : exec (.bankStageTimer g pins) s = .next (s.enterRun g pins) := by
  rw [exec_bankStageTimer, execBankStageTimer]
  rw [h]
theorem exec_bankStageTimer_retreat (h : (s.bank g).stage = .retreat) : exec (.bankStageTimer g pins) s =
    if (s.bank g).undoing = .we then .next (s.setBank g { s.bank g with undoing := .out }) else .next (s.bankOff g) := by
  rw [exec_bankStageTimer, execBankStageTimer]
  rw [h]
  dsimp only
  rw [h]
theorem exec_bankStageTimer_other (h : (s.bank g).stage ∉ [BStage.out, .we, .retreat]) : exec (.bankStageTimer g pins) s = .next s := by
  simp only [List.mem_cons, List.not_mem_nil, or_false, not_or] at h
  obtain ⟨h1, h2, h3⟩ := h
  rw [exec_bankStageTimer, execBankStageTimer]
  split
  next e => exact absurd e h1
  next e => exact absurd e h2
  next e => exact absurd e h3
  next => rfl

theorem edgeBanks_run {x : Nat} (h : (s.bank g).stage = .we) (ho : s.bankOwner g = some x) :
    Runs (.bankStageTimer g pins) s (fun t => (t.bank g).stage = .run ∧ (t.bank g).nextIn = s.unstarted x ∧ (t.bank g).given = [] ∧
        (s.bankFree g = false → ∃ u : State, u.regs = s.regs ∧ u.cfg = s.cfg ∧ (u.bank g).stage = .run ∧
          (t.bank g).rel = [(s.unstarted x, u.sampleOf g pins), (s.unstarted x + 1, u.sampleOf g pins)]) ∧
        (s.bankFree g = true → (t.bank g).rel = []) ∧
        s.reported t 0x0700 0 g (some x) (g + 256 * x) ∧ (∀ h, h ≠ g.val → t.bank h = s.bank h) ∧ s.keeps t [.edg, .fm]) := by
  obtain ⟨h1, h2, h3, h4, h5, h6, h7⟩ := releaseSampled_frame (s := s) (g := g) (x := x) (pins := pins)
  refine Runs.of ((exec_bankStageTimer_we h).trans (congrArg Host.Outcome.next (enterRun_of_owner ho))) ?_
  generalize (s.running g x).releaseSampled g x pins = t at h1 h2 h3 h4 h5 h6 h7
  refine ⟨h1, h2, h3, h4, h5, ?_, h6, keeps_trans (keeps_mono h7 (by decide)) (keeps_mono report_keeps (by decide))⟩
  exact reported_of_keeps h7 (by decide) (by decide)
end

/-! ### Target cycles and free-running groups (R405, R409 to R411) -/

section
variable {g : EBank} {s : State}

theorem exec_targetCycleC1_eq {k : Nat} {v : DWord} {r : List (Nat × DWord)} {x : Nat} (hq : (s.bank g).outFifo = (k, v) :: r)
    (ho : s.bankOwner g = some x) : exec (.targetCycleC1 g) s =
      if (s.bank g).stage = .run ∧ s.bankFree g = false ∧ (s.bank g).cyc = none ∧ (s.ten x).recov = none then
        .next (s.setBank g { s.bank g with outFifo := r, co := v, cyc := some (k, false), tcyc := (s.bank g).tcyc + 1 })
      else .next s := by
  rw [exec_targetCycleC1, execTargetCycleC1]
  rw [hq, ho]

theorem exec_targetCycleC2_eq {k : Nat} {pins : DWord} (hc : (s.bank g).cyc = some (k, false)) : exec (.targetCycleC2 g pins) s =
    if s.clockHeld g then .next s
    else .next (s.setBank g { s.bank g with
      cyc := some (k, true), tclk := true, inFifo := (s.bank g).inFifo ++ [(k + 2, s.sampleOf g pins)] }) := by
  rw [exec_targetCycleC2, execTargetCycleC2]
  rw [hc]

theorem exec_targetCycleC3_eq {k : Nat} (hc : (s.bank g).cyc = some (k, true)) : exec (.targetCycleC3 g) s =
    if s.clockHeld g then .next s else .next (s.setBank g { s.bank g with cyc := none, tclk := false }) := by
  rw [exec_targetCycleC3, execTargetCycleC3]
  rw [hc]

theorem exec_freePop_eq {q : Region} {k : Nat} {v : DWord} {r : List (Nat × DWord)} (hq : (s.bank g).outFifo = (k, v) :: r) :
    exec (.freePop g q) s =
      if (s.bank g).stage = .run ∧ s.bankFree g = true ∧ s.isoPasses q (s.bankOwner g) = true then
        .next (s.setBank g { s.bank g with outFifo := r, co := v })
      else .next s := by
  rw [exec_freePop, execFreePop]
  rw [hq]

theorem exec_freePop_idle {q : Region} (h : (s.bank g).outFifo = [] ∨ s.isoPasses q (s.bankOwner g) = false) :
    exec (.freePop g q) s = .next s := by
  rw [exec_freePop, execFreePop]
  split
  next hq =>
    obtain h | h := h
    · exact absurd (hq.symm.trans h) (by simp)
    · exact if_neg (by simp [h])
  next => rfl
end

/-- Settles O49: clause by clause over the commands of the edge banks. -/
theorem edgeBanks : Obligations.EdgeBanks := by
  unfold Obligations.EdgeBanks
  refine ⟨fun g s hc hb hr => ?_, fun g s hc hr => ⟨?_, ?_⟩, fun g s hc h1 h2 => ?_, fun g s hc hr hb => ?_, fun g s hc hr hb => ?_,
    fun g s hc hr => ⟨fun hb => ?_, fun hb => ?_, fun hb => ?_⟩,
    fun g pins s => ⟨fun h => ?_, fun h hu => ?_, fun h hu => ?_, fun x h ho => edgeBanks_run h ho, fun h => ?_⟩,
    fun g s ho h1 h2 => ?_, fun g s hb => ?_, fun g x s ho h1 h2 => ?_, fun g k v r x s hq ho hb hf hc => ⟨fun hr => ?_, fun hr => ?_⟩,
    fun g k pins s hc => ⟨fun hh => ?_, fun hh => ?_⟩, fun g k s hc => ⟨fun hh => ?_, fun hh => ?_⟩, fun g s => clockHeld_iff g s,
    fun g e v b x s hg ho hr hd hrec hall => edgeBanks_deliver hg ho hr hd hrec hall, fun g s h => ?_, fun g q k v r s hq hb hf hi => ?_,
    fun g q s h => ?_, fun g q pins s h => ?_, fun g q pins s hb hf hi => ⟨fun hl => ?_, fun hl => ?_⟩,
    fun q own s => isoPasses_iff q own s⟩
  · exact Runs.of (if_pos hc) (bankRelease_frame hb hr)
  · exact Runs.of ((if_pos hc).trans (congrArg Host.Outcome.next (bankRelease_of_not (by simp [hr])))) ⟨rfl, report_keeps⟩
  · exact Runs.of ((if_pos hc).trans (congrArg Host.Outcome.next (bankWithdraw_of_not hr))) ⟨rfl, report_keeps⟩
  · exact Runs.of ((if_pos hc).trans (congrArg Host.Outcome.next (bankRelease_of_not (by simp [h1, h2])))) ⟨rfl, report_keeps⟩
  · have hs := s.bank_setBank g { (s.bank g).stopBridge with stage := .retreat, undoing := .we }
    exact Runs.of ((if_pos hc).trans (congrArg Host.Outcome.next (bankWithdraw_of_run hr hb))) ⟨congrArg EdgeBank.stage hs,
      congrArg EdgeBank.undoing hs, congrArg EdgeBank.outFifo hs, congrArg EdgeBank.cyc hs, congrArg EdgeBank.tclk hs,
      otherBanks_setBank, setBank_keeps⟩
  · exact Runs.of ((if_pos hc).trans (congrArg Host.Outcome.next (bankWithdraw_of_early hr hb))) (bankOff_frame s g)
  · exact Runs.of ((if_pos hc).trans (congrArg Host.Outcome.next (bankWithdraw_of_we hr hb)))
      ⟨s.bank_setBank g _, otherBanks_setBank, setBank_keeps⟩
  · exact Runs.of ((if_pos hc).trans (congrArg Host.Outcome.next (bankWithdraw_of_retreat hr hb))) rfl
  · exact Runs.of ((if_pos hc).trans (congrArg Host.Outcome.next (bankWithdraw_of_off hr hb))) ⟨rfl, report_keeps⟩
  · exact Runs.of (exec_bankStageTimer_out h) ⟨s.bank_setBank g _, otherBanks_setBank, setBank_keeps⟩
  · exact Runs.of ((exec_bankStageTimer_retreat h).trans (if_pos hu)) ⟨s.bank_setBank g _, otherBanks_setBank, setBank_keeps⟩
  · exact Runs.of ((exec_bankStageTimer_retreat h).trans (if_neg hu)) (bankOff_frame s g)
  · exact Runs.of (exec_bankStageTimer_other h) rfl
  · have hst : ((s.browned g).bank g).stage = (s.bank g).stage := browned_stage
    have hb := failed_bank (s.browned g) g 4 true
    rw [browned_bank] at hb
    refine Runs.of ((exec_brownoutTrip_eq g s).trans (congrArg Host.Outcome.next
      ((failBank_of_working (by rwa [hst]) (by rwa [hst]) 4 true).1 ho))) ⟨congrArg EdgeBank.stage hb, congrArg EdgeBank.fsCause hb,
      congrArg EdgeBank.hiZ hb, congrArg EdgeBank.brownout hb, congrArg EdgeBank.vioOk hb, ?_,
      otherBanks_trans browned_others otherBanks_setBank, keeps_trans (keeps_mono browned_keeps (by decide)) failed_keeps⟩
    rw [State.failed, show (s.browned g).bankOwner g = none from ho]
    rfl
  · have hst : ((s.browned g).bank g).stage = (s.bank g).stage := browned_stage
    obtain ⟨hb, ho, hk⟩ := failBank_of_resting (s := s.browned g) (g := g) (by rwa [hst]) 4 true
    rw [browned_bank] at hb
    exact Runs.of (exec_brownoutTrip_eq g s) ⟨(congrArg EdgeBank.stage hb).trans rfl, congrArg EdgeBank.brownout hb, congrArg EdgeBank.vioOk hb,
      otherBanks_trans browned_others ho, keeps_trans browned_keeps hk⟩
  · have hst : ((s.browned g).bank g).stage = (s.bank g).stage := browned_stage
    have hb := failed_bank (s.browned g) g 4 true
    rw [browned_bank] at hb
    refine Runs.of (exec_brownoutTrip_eq g s) ⟨(s.browned g).failed g 4 true,
      (failBank_of_working (by rwa [hst]) (by rwa [hst]) 4 true).2 x ho, congrArg EdgeBank.stage hb, congrArg EdgeBank.brownout hb,
      otherBanks_trans browned_others otherBanks_setBank, ?_, keeps_trans (keeps_mono browned_keeps (by decide)) failed_keeps⟩
    rw [State.failed, show (s.browned g).bankOwner g = some x from ho]
    rfl
  · exact Runs.of ((exec_targetCycleC1_eq hq ho).trans (if_pos ⟨hb, hf, hc, hr⟩))
      ⟨s.bank_setBank g _, otherBanks_setBank, setBank_keeps⟩
  · exact Runs.of ((exec_targetCycleC1_eq hq ho).trans (if_neg (by simp [hr]))) rfl
  · exact Runs.of ((exec_targetCycleC2_eq hc).trans (if_neg (by simp [hh]))) ⟨s.bank_setBank g _, otherBanks_setBank, setBank_keeps⟩
  · exact Runs.of ((exec_targetCycleC2_eq hc).trans (if_pos hh)) rfl
  · exact Runs.of ((exec_targetCycleC3_eq hc).trans (if_neg (by simp [hh]))) ⟨s.bank_setBank g _, otherBanks_setBank, setBank_keeps⟩
  · exact Runs.of ((exec_targetCycleC3_eq hc).trans (if_pos hh)) rfl
  · refine Runs.of (t := s) ?_ rfl
    rw [exec_edgeInputDeliver, execEdgeInputDeliver, h]
  · exact Runs.of ((exec_freePop_eq hq).trans (if_pos ⟨hb, hf, hi⟩)) ⟨s.bank_setBank g _, otherBanks_setBank, setBank_keeps⟩
  · exact Runs.of (exec_freePop_idle h) rfl
  · exact Runs.of (if_neg (by simp [h])) rfl
  · exact Runs.of ((if_pos ⟨hb, hf, hi⟩).trans (if_pos hl)) ⟨s.bank_setBank g _, otherBanks_setBank, setBank_keeps⟩
  · have hs := s.bank_setBank g { s.bank g with inRef := satInc (s.bank g).inRef 0xFFFFFFFF }
    exact Runs.of ((if_pos ⟨hb, hf, hi⟩).trans (if_neg (by omega))) ⟨(congrArg EdgeBank.inFifo hs).trans rfl, congrArg EdgeBank.inRef hs, rfl,
      keeps_trans (keeps_mono setBank_keeps (by decide)) (keeps_mono report_keeps (by decide))⟩

end Sys2Proof.Machine
end


section
/-! PROOF. The registers of the edge fabric, and the reconfiguration of a region (R403, R404, R407, R421, R422) (O50). -/

namespace Sys2Proof.Machine

/-! ### Pins (R403) -/

theorem setFld_lt {v : Nat} {lsb width x n : Nat} (h : v < 2 ^ n) (hl : lsb + width ≤ n) : setFld v lsb width x < 2 ^ n := by
  refine Nat.lt_pow_two_of_testBit _ fun i hi => ?_
  rw [setFld_testBit, if_neg (by omega), if_neg (by omega)]
  exact Nat.testBit_lt_two_pow (lt_of_lt_of_le h (Nat.pow_le_pow_right Nat.two_pos hi))

theorem ite_setFld_lt {v : Nat} {lsb width x n : Nat} (h : v < 2 ^ n) (hl : lsb + width ≤ n) {c : Prop} [Decidable c] :
    (if c then setFld v lsb width x else v) < 2 ^ n :=
  iteInduction (motive := fun w : Nat => w < 2 ^ n) (fun _ => setFld_lt h hl) (fun _ => h)

theorem pinStored_lt (v : Nat) : pinStored v < 2 ^ 20 :=
  ite_setFld_lt (ite_setFld_lt (ite_setFld_lt (Nat.mod_lt _ (by decide)) (by decide)) (by decide)) (by decide)

theorem bankCfgStored_lt (v : Nat) : bankCfgStored v < 2 ^ 18 :=
  ite_setFld_lt (ite_setFld_lt (Nat.mod_lt _ (by decide)) (by decide)) (by decide)

/-- A pin's word, taken. -/
def State.pinTaken (s : State) (n v : Nat) : State :=
  { s.setReg (0x201000 + 4 * n) v with edg := { s.edg with padFs := Map.set s.edg.padFs n (fld v 13 2) } }

theorem writePin_of_working {s : State} {n v : Nat} (h1 : (s.bank (n / 64)).stage ≠ .off) (h2 : (s.bank (n / 64)).stage ≠ .failsafe) :
    s.writePin n v = s.accState (0x201000 + 4 * n) := if_pos ⟨h1, h2⟩

theorem writePin_of_rest {s : State} {n v : Nat} (h : (s.bank (n / 64)).stage = .off ∨ (s.bank (n / 64)).stage = .failsafe) :
    s.writePin n v = if pinBad (pinStored v) (s.rfld (bankReg (n / 64)) 10 3) then s.accValue (0x201000 + 4 * n)
      else s.pinTaken n (pinStored v) := by
  refine if_neg ?_
  obtain h | h := h <;> simp [h]

theorem pinTaken_frame (s : State) (n : Nat) {v : Nat} (hv : v < 2 ^ 20) : (s.pinTaken n v).reg (0x201000 + 4 * n) = v ∧
    (∀ r, r ≠ 0x201000 + 4 * n → (s.pinTaken n v).reg r = s.reg r) ∧ Map.get (s.pinTaken n v).edg.padFs 0 n = fld v 13 2 ∧
    (∀ m, m ≠ n → Map.get (s.pinTaken n v).edg.padFs 0 m = Map.get s.edg.padFs 0 m) ∧ (s.pinTaken n v).edg.banks = s.edg.banks ∧
    s.keeps (s.pinTaken n v) [.regs, .edg] := by
  refine ⟨?_, fun r hr => s.reg_setReg_ne _ hr, Map.get_set_self _ _ _ _, fun m hm => Map.get_set_ne _ _ _ hm, rfl, ?_⟩
  · exact (s.reg_setReg_self _ _).trans (Nat.mod_eq_of_lt (by omega))
  · simp [State.keeps_iff, State.pinTaken, State.setReg]

theorem bit_eq_one_of_not {v i : Nat} (h : ¬ bit v i = 0) : bit v i = 1 := by
  have := fld_lt v i 1
  unfold bit at *
  omega

theorem pinBad_eq_false {v vio : Nat} (h : pinBad v vio = false) : (fld v 0 2 = 2 → bit v 2 = 1) ∧ (fld v 3 2 ≠ 0 → bit v 2 = 1) ∧
    (bit v 17 = 1 → fld v 0 2 = 1) ∧ 200 * 2 ^ fld v 3 2 ≤ stdRate (fld v 5 3) vio := by
  simp only [pinBad, Bool.or_eq_false_iff, decide_eq_false_iff_not, not_and] at h
  obtain ⟨⟨⟨⟨hrate, hser⟩, hout⟩, hpull⟩, -⟩ := h
  exact ⟨fun e => bit_eq_one_of_not (hout e), fun e => bit_eq_one_of_not fun h0 => hser h0 e, fun e => not_not.mp (hpull e),
    Nat.not_lt.mp hrate⟩

/-! ### Owners (R404) -/

/-- The register of a bank, and its half of the fabric powered where it is assigned (Table 9-4). -/
def State.bankCfgTaken (s : State) (g v : Nat) : State :=
  if bit v 8 = 1 ∧ (s.domain (62 + g / 6)).on = false then
    { s.setReg (bankReg g) v with
      pwr := { s.pwr with domains := Map.set s.pwr.domains (62 + g / 6) { s.domain (62 + g / 6) with on := true } } }
  else s.setReg (bankReg g) v

theorem writeBankCfg_of_changed {s : State} {g v : Nat} (h1 : fld (bankCfgStored v) 0 10 ≠ s.rfld (bankReg g) 0 10)
    (h2 : (s.bank g).stage ≠ .off) : s.writeBankCfg g v = s.accState (bankReg g) := if_pos ⟨h1, h2⟩
theorem writeBankCfg_of_off {s : State} {g v : Nat} (h : (s.bank g).stage = .off) :
    s.writeBankCfg g v = s.bankCfgTaken g (bankCfgStored v) := if_neg fun e => e.2 h

theorem bankCfgTaken_frame (s : State) (g : Nat) {v : Nat} (hv : v < 2 ^ 18) : (s.bankCfgTaken g v).reg (bankReg g) = v ∧
    (∀ r, r ≠ bankReg g → (s.bankCfgTaken g v).reg r = s.reg r) ∧
    (bit v 8 = 1 → ((s.bankCfgTaken g v).domain (62 + g / 6)).on = true) ∧ s.keeps (s.bankCfgTaken g v) [.regs, .pwr] := by
  have hreg : (s.setReg (bankReg g) v).reg (bankReg g) = v := (s.reg_setReg_self _ _).trans (Nat.mod_eq_of_lt (by omega))
  unfold State.bankCfgTaken
  by_cases h : bit v 8 = 1 ∧ (s.domain (62 + g / 6)).on = false
  · rw [if_pos h]
    refine ⟨hreg, fun r hr => s.reg_setReg_ne _ hr, fun _ => ?_, by simp [State.keeps_iff, State.setReg]⟩
    exact congrArg Domain.on (Map.get_set_self s.pwr.domains {} { s.domain (62 + g / 6) with on := true } _)
  · rw [if_neg h]
    refine ⟨hreg, fun r hr => s.reg_setReg_ne _ hr, fun h8 => ?_, keeps_mono setReg_keeps (by decide)⟩
    have hon : ¬ (s.domain (62 + g / 6)).on = false := fun e => h ⟨h8, e⟩
    exact Bool.not_eq_false _ |>.mp hon

/-- The owner that a word of EDG_REGION names. -/
def regionWordOwner (w : Nat) : Option Nat := if bit w 8 = 1 then some (fld w 0 8) else none

/-- The owner of bank `g` does not stand in the way of the word `v` for region `r` (R404). -/
def State.bankAllows (s : State) (r v g : Nat) : Bool := (s.bankOwner g).all fun t =>
  decide (regionWordOwner v ≠ some t ∧ regionWordOwner (s.reg (0x204000 + 0x10 * r)) ≠ some t) ||
    decide ((s.bank g).stage = .off ∨ (s.bank g).stage = .failsafe)

theorem writeRegion_eq (s : State) (r v : Nat) : s.writeRegion r v =
    if (List.range 6).all (fun i => s.bankAllows r v (6 * (r / 4) + i)) then s.setReg (0x204000 + 0x10 * r) (v % 2 ^ 9)
    else s.accState (0x204000 + 0x10 * r) := by
  have he : ∀ i, s.bankAllows r v (6 * (r / 4) + i) = match s.bankOwner (6 * (r / 4) + i) with
    | none => true
    | some t => decide (regionWordOwner v ≠ some t ∧ regionWordOwner (s.reg (0x204000 + 0x10 * r)) ≠ some t) ||
        decide ((s.bank (6 * (r / 4) + i)).stage = .off ∨ (s.bank (6 * (r / 4) + i)).stage = .failsafe) := fun i => by
    unfold State.bankAllows
    cases s.bankOwner (6 * (r / 4) + i) <;> rfl
  simp only [he]
  rfl

theorem bankAllows_of_free {s : State} {r v g : Nat} (h : s.bankOwner g = none) : s.bankAllows r v g = true := by
  rw [State.bankAllows, h]
  rfl

theorem not_bankAllows {s : State} {r v g x : Nat} (h : s.bankOwner g = some x) (h1 : (s.bank g).stage ≠ .off)
    (h2 : (s.bank g).stage ≠ .failsafe) (hr : s.regionOwner r = some x) : s.bankAllows r v g = false := by
  have hw : regionWordOwner (s.reg (0x204000 + 0x10 * r)) = some x := hr
  rw [State.bankAllows, h]
  simp [hw, h1, h2]

theorem writeRegion_of_free {s : State} {r : Region} {v : Nat} (h : ∀ g, g < 12 → s.bankOwner g = none) :
    s.writeRegion r v = s.setReg (0x204000 + 0x10 * r) (v % 2 ^ 9) := by
  rw [writeRegion_eq]
  refine if_pos (List.all_eq_true.mpr fun i hi => bankAllows_of_free (h _ ?_))
  have := List.mem_range.mp hi
  have := r.isLt
  omega

theorem writeRegion_of_working {s : State} {r v g x : Nat} (hg : g / 6 = r / 4) (h : s.bankOwner g = some x)
    (h1 : (s.bank g).stage ≠ .off) (h2 : (s.bank g).stage ≠ .failsafe) (hr : s.regionOwner r = some x) :
    s.writeRegion r v = s.accState (0x204000 + 0x10 * r) := by
  rw [writeRegion_eq]
  refine if_neg fun hall => ?_
  have hone := List.all_eq_true.mp hall (g % 6) (List.mem_range.mpr (Nat.mod_lt _ (by decide)))
  rw [← hg, Nat.div_add_mod, not_bankAllows h h1 h2 hr] at hone
  exact Bool.false_ne_true hone

/-! ### Routes (R407) -/

/-- The tenant of bank `g`, if any, has no ecycle in progress. -/
def State.routeStill (s : State) (g : Nat) : Bool := (s.bankOwner g).all s.noEcycle

theorem writeRoute_eq (s : State) (g : Nat) (inw : Bool) (v : Nat) : s.writeRoute g inw v =
    if s.routeStill g then s.setReg (bankReg g + (if inw then 0x1C else 0x18))
      (if inw then v % 2 ^ 26 - fld v 10 6 * 2 ^ 10 else v % 2 ^ 24)
    else s.accState (bankReg g + (if inw then 0x1C else 0x18)) := by
  unfold State.writeRoute State.routeStill
  cases s.bankOwner g <;> rfl

theorem routeIn_fields (v : Nat) : v % 2 ^ 26 - fld v 10 6 * 2 ^ 10 < 2 ^ 26 ∧
    fld (v % 2 ^ 26 - fld v 10 6 * 2 ^ 10) 0 10 = fld v 0 10 ∧ fld (v % 2 ^ 26 - fld v 10 6 * 2 ^ 10) 16 10 = fld v 16 10 := by
  simp only [fld_eq_div_mod]
  omega

theorem writeRoute_frame {s : State} {g : Nat} (h : s.routeStill g = true) (v : Nat) :
    ((s.writeRoute g false v).reg (bankReg g + 0x18) = v % 2 ^ 24 ∧ s.keeps (s.writeRoute g false v) [.regs]) ∧
    fld ((s.writeRoute g true v).reg (bankReg g + 0x1C)) 0 10 = fld v 0 10 ∧
    fld ((s.writeRoute g true v).reg (bankReg g + 0x1C)) 16 10 = fld v 16 10 ∧ s.keeps (s.writeRoute g true v) [.regs] := by
  obtain ⟨hlt, h0, h16⟩ := routeIn_fields v
  have hout : (s.setReg (bankReg g + 0x18) (v % 2 ^ 24)).reg (bankReg g + 0x18) = v % 2 ^ 24 :=
    (s.reg_setReg_self _ _).trans (Nat.mod_eq_of_lt (lt_trans (Nat.mod_lt _ (by decide)) (by decide)))
  have hin : (s.setReg (bankReg g + 0x1C) (v % 2 ^ 26 - fld v 10 6 * 2 ^ 10)).reg (bankReg g + 0x1C) =
      v % 2 ^ 26 - fld v 10 6 * 2 ^ 10 := (s.reg_setReg_self _ _).trans (Nat.mod_eq_of_lt (lt_trans hlt (by decide)))
  rw [writeRoute_eq, writeRoute_eq, if_pos h, if_pos h]
  exact ⟨⟨hout, setReg_keeps⟩, (congrArg (fld · 0 10) hin).trans h0, (congrArg (fld · 16 10) hin).trans h16, setReg_keeps⟩

/-! ### A reconfiguration takes its place among the refits (R38 item 5, R421) -/

/-- No refit goes on: a recovery is first, or a reconfiguration that has begun. -/
def State.refitStuck (s : State) : Prop := ∃ x r, s.dev.refits = x :: r ∧ (x < 256 ∨ (1000 ≤ x ∧ s.edg.pr ≠ none))

theorem refitStep_of_stuck {s : State} (h : s.refitStuck) : s.refitStep = s := by
  obtain ⟨x, r, hx, h | ⟨h, hp⟩⟩ := h
  · exact refitStep_of_noRefit fun y hy => by
      rw [hx] at hy
      exact Option.some.inj hy ▸ h
  · rw [State.refitStep, hx]
    dsimp only
    rw [if_pos h, if_pos (Option.isSome_iff_ne_none.mpr hp)]

theorem foldl_refitStep_of_stuck {α : Type} {s : State} (h : s.refitStuck) (ls : List α) : ls.foldl (fun s _ => s.refitStep) s = s :=
  List.foldlRecOn (motive := fun t => t = s) _ _ rfl fun t ht _ _ => by rw [ht, refitStep_of_stuck h]

theorem refitStuck_of_dev_edg {s t : State} (h : s.refitStuck) (hd : t.dev.refits = s.dev.refits) (he : t.edg = s.edg) : t.refitStuck := by
  obtain ⟨x, r, hx, ho⟩ := h
  exact ⟨x, r, hd.trans hx, by rwa [he]⟩

theorem rankedMode_of_refits {s : State} (h : s.dev.refits ≠ []) : s.rankedMode = .refit :=
  if_pos (by simp [State.inRefit, h])

/-- With a refit in the order the device takes the mode REFIT, and the refits go on. -/
theorem remode_of_refits {s : State} (hm : s.dev.mode.idleToDerate = true) (h : s.dev.refits ≠ []) :
    s.remode = ((s.setMode .refit).refitsGo).setMode ((s.setMode .refit).refitsGo).rankedMode := by
  refine (if_pos hm).trans ?_
  rw [rankedMode_of_refits h]

theorem remode_of_stuck {s : State} (hm : s.dev.mode.idleToDerate = true) (h : s.refitStuck) : s.remode = s.setMode .refit := by
  have hne : s.dev.refits ≠ [] := by
    obtain ⟨x, r, hx, -⟩ := h
    simp [hx]
  have hgo : (s.setMode .refit).refitsGo = s.setMode .refit :=
    foldl_refitStep_of_stuck (refitStuck_of_dev_edg h (setMode_refits s _) (setMode_keeps .edg (by decide))) _
  rw [remode_of_refits hm hne, hgo, rankedMode_of_refits (by rwa [setMode_refits]), setMode_of_same (setMode_mode s _)]

/-- The command of region `r` has taken its place. -/
def State.prQueued (s : State) (r : Nat) : State :=
  { s with edg := { s.edg with prQueue := s.edg.prQueue ++ [r] }, dev := { s.dev with refits := s.dev.refits ++ [1000 + r] } }

theorem prQueued_keeps {s : State} {r : Nat} : s.keeps (s.prQueued r) [.edg, .dev] := by
  simp [State.keeps_iff, State.prQueued]

theorem exec_edgPrGo_of {r : Region} {s : State} (h : s.dev.mode.idleToDerate = true) : exec (.edgPrGo r) s = .next (s.prQueued r).remode :=
  if_pos h

/-- A reconfiguration asks for the tokens of its image and begins. -/
def State.prBegun (s : State) (r : Nat) : State :=
  { (s.askTokens 2 0 s.prBytes).2 with edg := { s.edg with
      prTok := (s.askTokens 2 0 s.prBytes).1, pr := some r, prQueue := removeFirst (fun y => decide (y = r)) s.edg.prQueue } }

theorem prBegun_keeps {s : State} {r : Nat} : s.keeps (s.prBegun r) [.edg, .sched] := by
  simp [State.keeps_iff, State.prBegun, State.askTokens]

/-- A reconfiguration that has begun closes the boundary of its tenant, if it has one. -/
def State.prTakenUp (s : State) (r : Nat) : State := (s.regionOwner r).elim s s.closeRefit

theorem refitStep_begins {s : State} {r : Nat} {l : List Nat} (hx : s.dev.refits = (1000 + r) :: l) (hp : s.edg.pr = none) :
    s.refitStep = (s.prBegun r).prTakenUp r := by
  rw [State.refitStep, hx]
  dsimp only
  rw [if_pos (by omega), if_neg (by simp [hp]), Nat.add_sub_cancel_left]
  split
  next h =>
    rw [State.prTakenUp, show (s.prBegun r).regionOwner r = none from h]
    rfl
  next x h =>
    rw [State.prTakenUp, show (s.prBegun r).regionOwner r = some x from h]
    rfl

theorem closeRefit_frame (s : State) (x : Nat) : ((s.closeRefit x).ten x).affected = true ∧ s.keeps (s.closeRefit x) [.tenants, .lat] := by
  unfold State.closeRefit
  dsimp only
  split
  · exact ⟨by rw [State.ten_updTen], keeps_mono updTen_keeps (by decide)⟩
  · have haff : ∀ q, ((s.updTen x fun v => { v with affected := true, reqs := v.reqs ++ [q] }).ten x).affected = true := fun q => by
      rw [State.ten_updTen]
    split
    · exact ⟨by rw [ten_of_keeps sendNow_keeps (by decide), haff],
        keeps_trans (keeps_mono updTen_keeps (by decide)) (keeps_mono sendNow_keeps (by decide))⟩
    · exact ⟨haff _, keeps_mono updTen_keeps (by decide)⟩

theorem prTakenUp_keeps {s : State} {r : Nat} : s.keeps (s.prTakenUp r) [.tenants, .lat] := by
  unfold State.prTakenUp
  cases s.regionOwner r with
  | none => exact keeps_refl
  | some x => exact (closeRefit_frame s x).2

/-- The first reconfiguration of an empty order begins at once. -/
theorem remode_prBegun {s : State} {r : Nat} (hm : s.dev.mode.idleToDerate = true) (hx : s.dev.refits = [1000 + r])
    (hp : s.edg.pr = none) : s.remode = (((s.setMode .refit).prBegun r).prTakenUp r).setMode .refit := by
  have hx' : (s.setMode .refit).dev.refits = [1000 + r] := (setMode_refits s _).trans hx
  have hp' : (s.setMode .refit).edg.pr = none := (congrArg Edg.pr (setMode_keeps .edg (by decide))).trans hp
  have hk : ((s.setMode .refit).prBegun r).keeps (((s.setMode .refit).prBegun r).prTakenUp r) [.tenants, .lat] := prTakenUp_keeps
  have hr : (((s.setMode .refit).prBegun r).prTakenUp r).dev.refits = [1000 + r] :=
    (congrArg Dev.refits (hk .dev (by decide))).trans hx'
  have hgo : (s.setMode .refit).refitsGo = ((s.setMode .refit).prBegun r).prTakenUp r := by
    rw [State.refitsGo, hx', show List.range (3 * [1000 + r].length) = [0, 1, 2] from rfl, List.foldl_cons, refitStep_begins hx' hp']
    refine foldl_refitStep_of_stuck ⟨1000 + r, [], hr, .inr ⟨by omega, ?_⟩⟩ _
    rw [show (((s.setMode .refit).prBegun r).prTakenUp r).edg = ((s.setMode .refit).prBegun r).edg from hk .edg (by decide)]
    exact Option.some_ne_none r
  rw [remode_of_refits hm (by simp [hx]), hgo, rankedMode_of_refits (by simp [hr])]

/-! ### A reconfiguration ends (R421, R422) -/

/-- The region package is beyond the end of tenant 0's region (R329). -/
def State.prChecked (s : State) : State :=
  if s.rsize 0 < s.reg 0x204104 + 2 ^ 32 * s.reg 0x204108 + 128 then s.regionFault 0 (s.reg 0x204104 + 2 ^ 32 * s.reg 0x204108) else s

theorem rangePoisoned_of_none {s : State} (h : s.noc.dsPoison = []) (a n : Nat) : s.rangePoisoned a n = false := by
  rw [State.rangePoisoned, h]
  rfl

/-- The code of the check of the region package: 0 where it passes. -/
def State.prCode (s : State) : Nat :=
  if s.prChecked.rangePoisoned (s.prChecked.rbase 0 + (s.reg 0x204104 + 2 ^ 32 * s.reg 0x204108)) s.prPackage.length then 0x08
  else s.prChecked.checkCopy kRegion s.prPackage.length .other s.prPackage false

theorem prCode_of_clean {s : State} (hd : s.noc.dsPoison = []) :
    s.prCode = s.prChecked.checkCopy kRegion s.prPackage.length .other s.prPackage false := by
  have hc : s.prChecked.noc.dsPoison = [] := by
    unfold State.prChecked
    split <;> exact hd
  exact if_neg (by simp [rangePoisoned_of_none hc])

theorem exec_regionPrDone_of {s : State} {r : Nat} (hp : s.edg.pr = some r) (hr : s.prReady (s.regionOwner r) = true)
    (ht : s.tokWaits 2 s.edg.prTok = false) : exec .regionPrDone s =
      if s.prCode = 0 then .next ((s.prChecked.prPass r (s.regionOwner r) s.prPackage).prEnd r (s.regionOwner r))
      else .next ((s.prChecked.prFail r (s.regionOwner r) s.prCode).prEnd r (s.regionOwner r)) := by
  rw [exec_regionPrDone, execRegionPrDone, hp]
  exact if_neg (by simp [hr, ht])

theorem exec_regionPrDone_waits {s : State} {r : Nat} (hp : s.edg.pr = some r)
    (h : s.prReady (s.regionOwner r) = false ∨ s.tokWaits 2 s.edg.prTok = true) : exec .regionPrDone s = .next s := by
  rw [exec_regionPrDone, execRegionPrDone, hp]
  exact if_pos h

theorem checkCopy_nil (s : State) (kind limit : Nat) (path : OlpPath) (atLoad : Bool) : s.checkCopy kind limit path [] atLoad = 1 := by
  have hc : identityCheck (s.olpEnv kind limit path) [] = 1 := by
    unfold identityCheck
    dsimp only
    exact if_pos (by decide)
  rw [State.checkCopy]
  dsimp only
  rw [hc]
  exact if_pos (by decide)

/-- The refusal of a region package that no bank's outputs hang on. -/
theorem prFail_frame {s : State} {r : Nat} (hb : s.spaceBanks (3 + r) = []) (own : Option Nat) (c : Nat) :
    (s.prFail r own c).edg = { s.edg with prResult := 2, prCheck := c, loaded := s.edg.loaded.filter (fun x => decide (x ≠ r)) } ∧
    s.keeps (s.prFail r own c) [.edg, .fm] := by
  have hs : ({ s with edg := { s.edg with prResult := 2, prCheck := c } } : State).spaceError (3 + r) true =
      { s with edg := { s.edg with prResult := 2, prCheck := c, loaded := s.edg.loaded.filter (fun x => decide (x ≠ r)) } } := by
    have hb' : ({ s with edg := { s.edg with prResult := 2, prCheck := c } } : State).spaceBanks (3 + r) = [] := hb
    rw [State.spaceError, hb']
    dsimp only
    rw [if_pos (by omega), Nat.add_sub_cancel_left]
    rfl
  rw [State.prFail, hs]
  refine ⟨rfl, ?_⟩
  simp [State.keeps_iff, State.report]

/-- With its reconfiguration alone in the order and no tenant, a region leaves the order empty. -/
theorem prEnd_frame {s : State} {r : Nat} (hr : s.dev.refits = [1000 + r]) :
    (s.prEnd r none).edg.pr = none ∧ (s.prEnd r none).edg.prResult = s.edg.prResult ∧ (s.prEnd r none).edg.prCheck = s.edg.prCheck ∧
    (s.prEnd r none).edg.loaded = s.edg.loaded ∧ (s.prEnd r none).dev.refits = [] ∧
    s.keeps (s.prEnd r none) [.edg, .dev, .fm, .host, .sched, .chv, .pwr, .tenants] := by
  have he : (({ s.latchInit with edg := { s.latchInit.edg with pr := none } } : State).endRefit (1000 + r)).dev.refits = [] := by
    show removeFirst (fun y => decide (y = 1000 + r)) s.dev.refits = []
    rw [hr]
    exact if_pos (decide_eq_true rfl)
  have hk0 : s.keeps (({ s.latchInit with edg := { s.latchInit.edg with pr := none } } : State).endRefit (1000 + r)) [.edg, .dev] := by
    simp [State.keeps_iff, State.endRefit, State.latchInit]
  have hu : (({ s.latchInit with edg := { s.latchInit.edg with pr := none } } : State).endRefit (1000 + r)).edg =
      { s.latchInit.edg with pr := none } := rfl
  have heq : s.prEnd r none = (({ s.latchInit with edg := { s.latchInit.edg with pr := none } } : State).endRefit (1000 + r)).remode.place := rfl
  rw [heq]
  generalize ({ s.latchInit with edg := { s.latchInit.edg with pr := none } } : State).endRefit (1000 + r) = u at he hk0 hu
  have hno : u.noRefit := fun x hx => by simp [he] at hx
  have hrem : u.keeps u.remode [.dev, .fm, .host] := remode_keeps hno
  have hpl : u.remode.keeps u.remode.place [.sched, .chv, .pwr, .tenants] := place_keeps
  have hedg : u.remode.place.edg = { s.latchInit.edg with pr := none } :=
    (hpl .edg (by decide)).trans ((hrem .edg (by decide)).trans hu)
  have hdev : u.remode.place.dev = u.remode.dev := hpl .dev (by decide)
  refine ⟨congrArg Edg.pr hedg, (congrArg Edg.prResult hedg).trans rfl, (congrArg Edg.prCheck hedg).trans rfl, (congrArg Edg.loaded hedg).trans rfl, ?_,
    keeps_trans (keeps_mono hk0 (by decide)) (keeps_trans (keeps_mono hrem (by decide)) (keeps_mono hpl (by decide)))⟩
  rw [hdev]
  rcases remode_of_noRefit hno with h | ⟨m, n, h⟩
  · rw [h, he]
  · rw [h, setMode_refits, setMode_refits, he]

/-- A region package that lies beyond the region is refused (R329, R422). -/
theorem edgeRegisters_refused {r : Nat} {s : State} (hp : s.edg.pr = some r) (ho : s.regionOwner r = none) (hx : s.dev.refits = [1000 + r])
    (hz : s.rsize 0 = 0) (hd : s.noc.dsPoison = []) (ht : s.tokWaits 2 s.edg.prTok = false) (hb : s.spaceBanks (3 + r) = []) :
    Runs .regionPrDone s (fun t => t.edg.pr = none ∧ t.edg.prResult = 2 ∧ t.edg.prCheck ≠ 0 ∧ r ∉ t.edg.loaded ∧ t.dev.refits = [] ∧
      t.regs = s.regs ∧ t.cfg = s.cfg ∧ t.ds = s.ds) := by
  have hpack : s.prPackage = [] := by
    have hn : s.prBytes = 0 := by
      unfold State.prBytes
      dsimp only
      rw [hz, Nat.zero_sub, Nat.zero_min]
    rw [State.prPackage, hn]
    rfl
  have hcode : s.prCode = 1 := by rw [prCode_of_clean hd, hpack, checkCopy_nil]
  have hchk : s.keeps s.prChecked [.fm] := keeps_ite report_keeps keeps_refl
  have hspace : s.prChecked.spaceBanks (3 + r) = [] := by
    have he : s.prChecked.spaceBanks (3 + r) = s.spaceBanks (3 + r) := by
      unfold State.prChecked
      exact iteInduction (motive := fun u : State => u.spaceBanks (3 + r) = _) (fun _ => rfl) (fun _ => rfl)
    exact he.trans hb
  obtain ⟨hf, hfk⟩ := prFail_frame hspace none 1
  have hall : s.keeps (s.prChecked.prFail r none 1) [.edg, .fm] := keeps_trans (keeps_mono hchk (by decide)) hfk
  have hexec : exec .regionPrDone s = .next ((s.prChecked.prFail r none 1).prEnd r none) := by
    rw [exec_regionPrDone_of hp (by rw [ho]; rfl) ht, hcode, if_neg (by decide), ho]
  have hloaded : s.prChecked.edg = s.edg := hchk .edg (by decide)
  refine Runs.of hexec ?_
  generalize s.prChecked.prFail r none 1 = u at hf hall
  obtain ⟨h1, h2, h3, h4, h5, h6⟩ := prEnd_frame (s := u) (r := r) ((congrArg Dev.refits (hall .dev (by decide))).trans hx)
  refine ⟨h1, ?_, ?_, ?_, h5, (h6 .regs (by decide)).trans (hall .regs (by decide)), (h6 .cfg (by decide)).trans (hall .cfg (by decide)),
    (h6 .ds (by decide)).trans (hall .ds (by decide))⟩
  · rw [h2, hf]
  · rw [h3, hf]
    exact Nat.one_ne_zero
  · rw [h4, hf]
    simp

/-- A reconfiguration that is alone begins at once (R38 item 5). -/
theorem edgeRegisters_begins {r : Region} {s : State} (hm : s.dev.mode.idleToDerate = true) (hx : s.dev.refits = [])
    (hp : s.edg.pr = none) (hq : s.edg.prQueue = []) : exec (.edgPrGo r) s =
      .next (((((s.prQueued r).setMode .refit).prBegun r).prTakenUp r).setMode .refit) ∧
    ((s.prQueued r).setMode .refit).regionOwner r = s.regionOwner r ∧
    (((s.prQueued r).setMode .refit).prBegun r).edg.pr = some r.val ∧
    (((s.prQueued r).setMode .refit).prBegun r).edg.prQueue = [] ∧
    (((s.prQueued r).setMode .refit).prBegun r).dev.refits = [1000 + r.val] ∧
    s.keeps (((s.prQueued r).setMode .refit).prBegun r) [.edg, .dev, .fm, .host, .sched] := by
  have hm' : (s.prQueued r).dev.mode.idleToDerate = true := hm
  have href : (s.prQueued r).dev.refits = [1000 + r.val] := congrArg (· ++ [1000 + r.val]) hx
  have hk : (s.prQueued r).keeps ((s.prQueued r).setMode .refit) [.dev, .fm, .host] := setMode_keeps
  have hregs : ((s.prQueued r).setMode .refit).regs = s.regs := hk .regs (by decide)
  refine ⟨(exec_edgPrGo_of hm).trans (congrArg Host.Outcome.next (remode_prBegun hm' href hp)), ?_, rfl, ?_,
    (setMode_refits _ _).trans href, keeps_trans (keeps_mono prQueued_keeps (by decide)) (keeps_trans (keeps_mono hk (by decide))
      (keeps_mono prBegun_keeps (by decide)))⟩
  · rw [State.regionOwner, rfld_of_keeps hk (by decide), rfld_of_keeps hk (by decide)]
    rfl
  · show removeFirst (fun y => decide (y = r.val)) ((s.prQueued r).setMode .refit).edg.prQueue = []
    rw [show ((s.prQueued r).setMode .refit).edg = (s.prQueued r).edg from hk .edg (by decide),
      show (s.prQueued r).edg.prQueue = [r.val] from congrArg (· ++ [r.val]) hq]
    exact if_pos (decide_eq_true rfl)

/-- Settles O50: clause by clause over the writes of the edge registers and the reconfiguration of a region. -/
theorem edgeRegisters : Obligations.EdgeRegisters := by
  unfold Obligations.EdgeRegisters
  refine ⟨fun n v s hc h1 h2 => ?_, fun n v s hc hb => ⟨fun hbad => ?_, fun hbad => ?_⟩, fun v vio h => pinBad_eq_false h,
    fun g v s hc h1 h2 => ?_, fun g v s hc hb => ?_, fun r v s hc hb => ?_, fun g x inw v s hc ho => ⟨fun hn => ?_, fun hn => ?_⟩,
    fun g v s hc ho => ?_, fun r v g x s hc hg ho h1 h2 hr => ?_, fun r x rest s hm hx hs => ?_,
    fun r s hm hx hp hq => ⟨fun ho => ?_, fun x ho => ?_⟩, fun r s hm => ?_, fun s hp => ?_, fun r x s hp ho hh => ?_,
    fun r s hp hr ht hoff hd => ?_, fun r s hp ht => ?_, fun r s hp ho hx hz hd ht _ hb => edgeRegisters_refused hp ho hx hz hd ht hb⟩
  · exact Runs.of ((if_pos hc).trans (congrArg Host.Outcome.next (writePin_of_working h1 h2))) ⟨rfl, report_keeps⟩
  · exact Runs.of ((if_pos hc).trans (congrArg Host.Outcome.next ((writePin_of_rest hb).trans (if_pos hbad)))) ⟨rfl, report_keeps⟩
  · exact Runs.of ((if_pos hc).trans (congrArg Host.Outcome.next ((writePin_of_rest hb).trans (if_neg (by simp [hbad])))))
      (pinTaken_frame s n (pinStored_lt _))
  · exact Runs.of ((if_pos hc).trans (congrArg Host.Outcome.next (writeBankCfg_of_changed h2 h1))) ⟨rfl, report_keeps⟩
  · exact Runs.of ((if_pos hc).trans (congrArg Host.Outcome.next (writeBankCfg_of_off hb))) (bankCfgTaken_frame s g (bankCfgStored_lt _))
  · exact Runs.of ((if_pos hc).trans (congrArg Host.Outcome.next (writeRegion_of_free hb)))
      ⟨(s.reg_setReg_self _ _).trans (Nat.mod_eq_of_lt (lt_trans (Nat.mod_lt _ (by decide)) (by decide))), setReg_keeps⟩
  · refine Runs.of ((if_pos hc).trans (congrArg Host.Outcome.next ((writeRoute_eq s g inw v.toNat).trans (if_neg ?_)))) ⟨rfl, report_keeps⟩
    simp [State.routeStill, ho, hn]
  · obtain ⟨hout, hin⟩ := writeRoute_frame (s := s) (g := g) (by simp [State.routeStill, ho, hn]) v.toNat
    exact ⟨Runs.of (if_pos hc) hout, Runs.of (if_pos hc) hin⟩
  · obtain ⟨hout, hin⟩ := writeRoute_frame (s := s) (g := g) (by simp [State.routeStill, ho]) v.toNat
    exact ⟨Runs.of (if_pos hc) hout, Runs.of (if_pos hc) hin⟩
  · exact Runs.of ((if_pos hc).trans (congrArg Host.Outcome.next (writeRegion_of_working hg ho h1 h2 hr))) ⟨rfl, report_keeps⟩
  · have hstuck : (s.prQueued r).refitStuck := ⟨x, rest ++ [1000 + r.val], congrArg (· ++ [1000 + r.val]) hx, hs⟩
    have hk : (s.prQueued r).keeps ((s.prQueued r).setMode .refit) [.dev, .fm, .host] := setMode_keeps
    have hedg : ((s.prQueued r).setMode .refit).edg = (s.prQueued r).edg := hk .edg (by decide)
    exact Runs.of ((exec_edgPrGo_of hm).trans (congrArg Host.Outcome.next (remode_of_stuck hm hstuck)))
      ⟨congrArg Edg.prQueue hedg, setMode_refits _ _, (congrArg Edg.pr hedg).trans rfl, setMode_mode _ _,
        keeps_trans (keeps_mono prQueued_keeps (by decide)) (keeps_mono hk (by decide))⟩
  · obtain ⟨hexec, hown, hpr, hqueue, href, hk⟩ := edgeRegisters_begins (r := r) hm hx hp hq
    have hup : (((s.prQueued r).setMode .refit).prBegun r).prTakenUp r = ((s.prQueued r).setMode .refit).prBegun r := by
      rw [State.prTakenUp, show (((s.prQueued r).setMode .refit).prBegun r).regionOwner r = none from hown.trans ho]
      rfl
    rw [hup] at hexec
    refine Runs.of hexec ?_
    generalize ((s.prQueued r).setMode .refit).prBegun r = u at hpr hqueue href hk
    have hm2 : u.keeps (u.setMode .refit) [.dev, .fm, .host] := setMode_keeps
    have hedg : (u.setMode .refit).edg = u.edg := hm2 .edg (by decide)
    exact ⟨(congrArg Edg.prQueue hedg).trans hqueue, (congrArg Edg.pr hedg).trans hpr, (setMode_refits _ _).trans href, setMode_mode _ _,
      keeps_trans hk (keeps_mono hm2 (by decide))⟩
  · obtain ⟨hexec, hown, hpr, -, href, -⟩ := edgeRegisters_begins (r := r) hm hx hp hq
    obtain ⟨haff, hck⟩ := closeRefit_frame (((s.prQueued r).setMode .refit).prBegun r) x
    have hup : (((s.prQueued r).setMode .refit).prBegun r).prTakenUp r = (((s.prQueued r).setMode .refit).prBegun r).closeRefit x := by
      rw [State.prTakenUp, show (((s.prQueued r).setMode .refit).prBegun r).regionOwner r = some x from hown.trans ho]
      rfl
    rw [hup] at hexec
    refine Runs.of hexec ?_
    generalize ((s.prQueued r).setMode .refit).prBegun r = u at hpr href haff hck
    have hm2 : (u.closeRefit x).keeps ((u.closeRefit x).setMode .refit) [.dev, .fm, .host] := setMode_keeps
    have hedg : ((u.closeRefit x).setMode .refit).edg = u.edg := (hm2 .edg (by decide)).trans (hck .edg (by decide))
    have hdev : (u.closeRefit x).dev = u.dev := hck .dev (by decide)
    exact ⟨(congrArg Edg.pr hedg).trans hpr, (setMode_refits _ _).trans ((congrArg Dev.refits hdev).trans href),
      (congrArg Tenant.affected (ten_of_keeps hm2 (by decide) x)).trans haff, setMode_mode _ _⟩
  · exact Runs.of (if_neg (by simp [hm])) rfl
  · refine Runs.of (t := s) ?_ rfl
    rw [exec_regionPrDone, execRegionPrDone, hp]
  · exact Runs.of (exec_regionPrDone_waits hp (.inl (by simp [ho, State.prReady, hh]))) rfl
  · have hchk : s.prChecked = s := if_neg (by omega)
    have hexec := exec_regionPrDone_of hp hr ht
    rw [prCode_of_clean hd, hchk] at hexec
    by_cases hc : s.checkCopy kRegion s.prPackage.length .other s.prPackage false = 0
    · exact Runs.of (hexec.trans (if_pos hc)) ⟨fun _ => rfl, fun hne => absurd hc hne⟩
    · exact Runs.of (hexec.trans (if_neg hc)) ⟨fun h0 => absurd h0 hc, fun _ => rfl⟩
  · exact Runs.of (exec_regionPrDone_waits hp (.inr ht)) rfl

end Sys2Proof.Machine
end


section
/-! PROOF. The line code, the flit wheel and its arbiter, the logic cells and MAC slices of the edge fabric, and the pins (O51). -/

namespace Sys2Proof.Machine

/-! ### The line code decodes (R279) -/

/-- The 6-bit block of a data character, and the running disparity after it. -/
def dataSix (x : Nat) (rd : Bool) : Nat × Bool := rdBlock (code6[x]?.getD 0) 6 (decide (x = 7)) rd
/-- The 4-bit block of a data character after its 6-bit block. -/
def dataFour (x y : Nat) (rd : Bool) : Nat × Bool :=
  rdBlock (if decide (y = 7) && ((!rd && decide (x = 17 ∨ x = 18 ∨ x = 20)) || (rd && decide (x = 11 ∨ x = 13 ∨ x = 14))) then 0b0111
    else code4[y]?.getD 0) 4 (decide (y = 3)) rd

theorem encode10_data (v : Nat) (rd : Bool) : (encode10 false v rd).1 =
    (dataSix (v % 32) rd).1 * 16 + (dataFour (v % 32) (v / 32 % 8) (dataSix (v % 32) rd).2).1 := rfl

theorem dataSix_inj : ∀ x < 32, ∀ y < 32, ∀ rd : Bool, (dataSix x rd).1 = (dataSix y rd).1 → x = y := by decide +kernel
theorem dataFour_lt : ∀ x < 32, ∀ y < 8, ∀ rd : Bool, (dataFour x y rd).1 < 16 := by decide +kernel
theorem dataFour_inj : ∀ x < 32, ∀ y < 8, ∀ z < 8, ∀ rd : Bool, (dataFour x y rd).1 = (dataFour x z rd).1 → y = z := by decide +kernel

theorem encode10_data_inj {v w : Nat} (hv : v < 256) (hw : w < 256) {rd : Bool} (h : (encode10 false v rd).1 = (encode10 false w rd).1) :
    v = w := by
  rw [encode10_data, encode10_data] at h
  have hfv := dataFour_lt (v % 32) (Nat.mod_lt _ (by decide)) (v / 32 % 8) (Nat.mod_lt _ (by decide)) (dataSix (v % 32) rd).2
  have hfw := dataFour_lt (w % 32) (Nat.mod_lt _ (by decide)) (w / 32 % 8) (Nat.mod_lt _ (by decide)) (dataSix (w % 32) rd).2
  have hx : v % 32 = w % 32 := dataSix_inj _ (Nat.mod_lt _ (by decide)) _ (Nat.mod_lt _ (by decide)) rd (by omega)
  rw [hx] at h
  have hy : v / 32 % 8 = w / 32 % 8 :=
    dataFour_inj (w % 32) (Nat.mod_lt _ (by decide)) _ (Nat.mod_lt _ (by decide)) _ (Nat.mod_lt _ (by decide)) _ (Nat.add_left_cancel h)
  omega

/-- No K-character has the code of a data character, nor that of another. -/
theorem encode10_k_ne_data : ∀ k ∈ allK, ∀ v < 256, ∀ rd : Bool, (encode10 true k.value rd).1 ≠ (encode10 false v rd).1 := by decide +kernel
theorem encode10_k_inj : ∀ k ∈ allK, ∀ j ∈ allK, ∀ rd : Bool, (encode10 true k.value rd).1 = (encode10 true j.value rd).1 → k = j := by
  decide +kernel
theorem mem_allK (k : KChar) : k ∈ allK := by cases k <;> decide

theorem find?_eq_some_of_unique {α : Type} {l : List α} {p : α → Bool} {a : α} (ha : a ∈ l) (hp : p a = true)
    (hu : ∀ b ∈ l, p b = true → b = a) : l.find? p = some a := by
  cases h : l.find? p with
  | none => exact absurd hp (List.find?_eq_none.mp h a ha)
  | some b => rw [hu b (List.mem_of_find?_eq_some h) (List.find?_some h)]

theorem decode10_k (k : KChar) (rd : Bool) : decode10 (encode10 true k.value rd).1 rd = some (.k k) := by
  have hf : allK.find? (fun j => decide ((encode10 true j.value rd).1 = (encode10 true k.value rd).1)) = some k :=
    find?_eq_some_of_unique (mem_allK k) (decide_eq_true rfl) fun j hj e => encode10_k_inj j hj k (mem_allK k) rd (of_decide_eq_true e)
  rw [decode10, hf]

theorem decode10_data (v : Byte) (rd : Bool) : decode10 (encode10 false v.toNat rd).1 rd = some (.d v) := by
  have hv : v.toNat < 256 := v.isLt
  have hk : allK.find? (fun j => decide ((encode10 true j.value rd).1 = (encode10 false v.toNat rd).1)) = none :=
    List.find?_eq_none.mpr fun j hj e => encode10_k_ne_data j hj v.toNat hv rd (of_decide_eq_true e)
  have hd : (List.range 256).find? (fun w => decide ((encode10 false w rd).1 = (encode10 false v.toNat rd).1)) = some v.toNat :=
    find?_eq_some_of_unique (List.mem_range.mpr hv) (decide_eq_true rfl) fun w hw e =>
      encode10_data_inj (List.mem_range.mp hw) hv (of_decide_eq_true e)
  rw [decode10, hk, hd]
  simp

theorem encode10_k_ones : ∀ k ∈ allK, ∀ rd : Bool, rdAfter (encode10 true k.value rd).1 rd = (encode10 true k.value rd).2 ∧
    4 ≤ onesIn (encode10 true k.value rd).1 10 ∧ onesIn (encode10 true k.value rd).1 10 ≤ 6 := by decide +kernel
theorem encode10_data_ones : ∀ v < 256, ∀ rd : Bool, rdAfter (encode10 false v rd).1 rd = (encode10 false v rd).2 ∧
    4 ≤ onesIn (encode10 false v rd).1 10 ∧ onesIn (encode10 false v rd).1 10 ≤ 6 := by decide +kernel

theorem linesFlitsAndPins_code (c : Sym) (rd : Bool) : decode10 (c.encode rd).1 rd = some c ∧ rdAfter (c.encode rd).1 rd = (c.encode rd).2 ∧
    4 ≤ onesIn (c.encode rd).1 10 ∧ onesIn (c.encode rd).1 10 ≤ 6 := by
  cases c with
  | d v => exact ⟨decode10_data v rd, encode10_data_ones v.toNat v.isLt rd⟩
  | k k => exact ⟨decode10_k k rd, encode10_k_ones k (mem_allK k) rd⟩

/-! ### Code errors (R279) -/

theorem errPlaces_length (n : Nat) (cs : List (Option Sym)) : (errPlaces n cs).length = (cs.filter Option.isNone).length := by
  have h : ∀ m, ((cs.zipIdx m).filter fun e => e.1.isNone).length = (cs.filter Option.isNone).length := by
    induction cs with
    | nil => exact fun _ => rfl
    | cons c r ih =>
      intro m
      rw [List.zipIdx_cons, List.filter_cons, List.filter_cons]
      cases c.isNone with
      | true => exact congrArg (· + 1) (ih (m + 1))
      | false => exact ih (m + 1)
  rw [errPlaces, List.length_map, h]

theorem takeLine_of_live {s : State} {l : Nat} {x : LineIn} (h1 : (s.link l).st ≠ .off) (h2 : (s.link l).st ≠ .test)
    (h3 : (s.link l).st ≠ .looped) : (s.takeLine l x).2 = s.setLink l ((s.link l).takeLine x).2 := by
  unfold State.takeLine
  dsimp only
  rw [if_neg (by simp [h1, h2, h3])]

theorem takeLine_code0 (k : Link) (x : LineIn) : (k.takeLine x).2.code0 =
    min 0xFFFF (k.code0 + ((decodeSyms (k.laneIn x 0) k.rxRd0).1.filter Option.isNone).length) := by
  rw [← errPlaces_length k.rxSyms]
  rfl
theorem takeLine_code1 (k : Link) (x : LineIn) : (k.takeLine x).2.code1 =
    min 0xFFFF (k.code1 + ((decodeSyms (k.laneIn x 1) k.rxRd1).1.filter Option.isNone).length) := by
  rw [← errPlaces_length k.rxSyms]
  rfl

/-! ### The arbiter (R320, R322) -/

theorem nocBest_eq_none {hs : List Flight} : nocBest hs = none ↔ hs = [] := by
  cases hs with
  | nil => simp [nocBest]
  | cons f fs =>
    rw [nocBest]
    split
    · simp
    · split <;> simp

/-- The best of a list is a member that none surpasses. -/
theorem nocBest_eq_some {hs : List Flight} {f : Flight} (h : nocBest hs = some f) : f ∈ hs ∧ ∀ g ∈ hs, g.inputNo ≤ f.inputNo := by
  induction hs generalizing f with
  | nil => simp [nocBest] at h
  | cons a r ih =>
    rw [nocBest] at h
    split at h
    next hr =>
      obtain rfl := Option.some.inj h
      rw [nocBest_eq_none.mp hr]
      simp
    next b hr =>
      obtain ⟨hb, hmax⟩ := ih hr
      split at h
      next hlt =>
        obtain rfl := Option.some.inj h
        exact ⟨List.mem_cons_of_mem _ hb, fun g hg => (List.mem_cons.mp hg).elim (fun e => by rw [e]; omega) (hmax g)⟩
      next hge =>
        obtain rfl := Option.some.inj h
        exact ⟨List.mem_cons_self, fun g hg => (List.mem_cons.mp hg).elim (fun e => by rw [e])
          fun e => (hmax g e).trans (by omega)⟩

theorem nocWinner_eq (pos : Nat) (hs : List Flight) : nocWinner pos hs =
    nocBest (if (hs.filter fun f => decide (wheelVc pos = some f.vc)).isEmpty then hs
      else hs.filter fun f => decide (wheelVc pos = some f.vc)) := rfl

theorem nocWinner_eq_none {pos : Nat} {hs : List Flight} : nocWinner pos hs = none ↔ hs = [] := by
  rw [nocWinner_eq, nocBest_eq_none]
  split
  · exact Iff.rfl
  next h =>
    refine ⟨fun e => absurd (by rw [e]; rfl) h, fun e => by rw [e]; rfl⟩

theorem nocWinner_eq_some {pos : Nat} {hs : List Flight} {f : Flight} (h : nocWinner pos hs = some f) :
    f ∈ hs ∧ (∀ g ∈ hs, wheelVc pos = some g.vc → f.vc = g.vc ∧ g.inputNo ≤ f.inputNo) ∧
    ((∀ g ∈ hs, wheelVc pos ≠ some g.vc) → ∀ g ∈ hs, g.inputNo ≤ f.inputNo) := by
  rw [nocWinner_eq] at h
  split at h
  next hnone =>
    obtain ⟨hf, hmax⟩ := nocBest_eq_some h
    have hno : ∀ g ∈ hs, wheelVc pos ≠ some g.vc := fun g hg e => by
      have hmem : g ∈ hs.filter fun f => decide (wheelVc pos = some f.vc) := List.mem_filter.mpr ⟨hg, decide_eq_true e⟩
      rw [List.isEmpty_iff.mp hnone] at hmem
      exact List.not_mem_nil hmem
    exact ⟨hf, fun g hg e => absurd e (hno g hg), fun _ => hmax⟩
  next =>
    obtain ⟨hf, hmax⟩ := nocBest_eq_some h
    obtain ⟨hmem, hvc⟩ := List.mem_filter.mp hf
    have hvcf : wheelVc pos = some f.vc := of_decide_eq_true hvc
    exact ⟨hmem, fun g hg e => ⟨Option.some.inj (hvcf.symm.trans e), hmax g (List.mem_filter.mpr ⟨hg, decide_eq_true e⟩)⟩,
      fun hno => absurd hvcf (hno f hmem)⟩

theorem refresh_flight {n : Noc} {f : Flight} (hf : f ∈ n.flights) (hn : f.node ≠ nocHome) :
    ∃ g ∈ n.refresh.flights, g = { f with age := n.classOf f } ∧ f.age ≤ g.age := by
  refine ⟨{ f with age := n.classOf f }, List.mem_map.mpr ⟨f, hf, if_neg hn⟩, rfl, ?_⟩
  exact Nat.le_max_left _ _

/-! ### Logic cells (R398, R399) -/

theorem pterm_holds_iff (t : PTerm) (x : BitVec 48) : t.holds x = true ↔
    ∀ i, i < 48 → (t.pos.getLsbD i = true → x.getLsbD i = true) ∧ (t.neg.getLsbD i = true → x.getLsbD i = false) := by
  simp only [PTerm.holds, Bool.and_eq_true, decide_eq_true_eq]
  constructor
  · rintro ⟨hp, hn⟩ i -
    have hpi := congrArg (BitVec.getLsbD · i) hp
    have hni := congrArg (BitVec.getLsbD · i) hn
    simp only [BitVec.getLsbD_and] at hpi hni
    exact ⟨fun e => by simpa [e] using hpi, fun e => by simpa [e] using hni⟩
  · intro h
    refine ⟨BitVec.eq_of_getLsbD_eq fun i hi => ?_, BitVec.eq_of_getLsbD_eq fun i hi => ?_⟩
    · obtain ⟨hp, -⟩ := h i hi
      rw [BitVec.getLsbD_and]
      cases e : t.pos.getLsbD i with
      | false => rfl
      | true => rw [hp e]; rfl
    · obtain ⟨-, hn⟩ := h i hi
      rw [BitVec.getLsbD_and]
      cases e : t.neg.getLsbD i with
      | false => simp
      | true => rw [hn e]; simp

theorem stores_of_force {c : MCell} {v b : Bool} {e : CellOut} (h : e.force = some b) : c.stores v e = b := by
  rw [MCell.stores, h]
theorem stores_of_disabled {c : MCell} {v : Bool} {e : CellOut} (h : e.force = none) (he : e.enable = false) : c.stores v e = v := by
  rw [MCell.stores, h]
  exact if_neg (by simp [he])
theorem stores_of_enabled {c : MCell} {v : Bool} {e : CellOut} (h : e.force = none) (he : e.enable = true) :
    (c.kind = .dff → c.stores v e = e.data) ∧ (c.kind = .tff → c.stores v e = xor v e.data) := by
  rw [MCell.stores, h]
  dsimp only
  rw [if_pos he]
  exact ⟨fun hk => by rw [hk], fun hk => by rw [hk]⟩
theorem shows_of_grst {c : MCell} {v : Bool} {e : CellOut} (h : c.kind ≠ .comb) : c.shows true v e = c.init :=
  (if_neg h).trans (if_pos rfl)

theorem emac_next_frame (m : EMac) (sig : FabSig → Bool) (j : Nat) (acc : List DWord) :
    (sig m.en = false → m.next sig j acc = acc.getD j 0) ∧
    (sig m.en = true → sig m.op1 = false → sig m.op0 = false → m.next sig j acc = m.prod sig) ∧
    (sig m.en = true → sig m.op1 = false → sig m.op0 = true → m.next sig j acc = acc.getD j 0 + m.prod sig) ∧
    (sig m.en = true → sig m.op1 = true → sig m.op0 = false → m.next sig j acc = acc.getD j 0 - m.prod sig) ∧
    (sig m.en = true → sig m.op1 = true → sig m.op0 = true → 0 < j → m.next sig j acc = acc.getD (j - 1) 0 + m.prod sig) := by
  have hon : sig m.en = true → ¬ sig m.en = false := fun h => by simp [h]
  refine ⟨fun h => if_pos h, fun h h1 h0 => (if_neg (hon h)).trans ?_, fun h h1 h0 => (if_neg (hon h)).trans ?_,
    fun h h1 h0 => (if_neg (hon h)).trans ?_, fun h h1 h0 hj => (if_neg (hon h)).trans ?_⟩
  · rw [h1, h0]
  · rw [h1, h0]
  · rw [h1, h0]
  · rw [h1, h0]
    exact if_neg (by omega)

/-! ### An edge of FCLK (R397, R405) -/

theorem foldl_mapSet_ne {α : Type} (f : Nat → α) (d : α) {r : Nat} (ls : List Nat) (m : Map α) (h : r ∉ ls) :
    Map.get (ls.foldl (fun m r => Map.set m r (f r)) m) d r = Map.get m d r := by
  induction ls generalizing m with
  | nil => rfl
  | cons a t ih =>
    obtain ⟨hne, hnt⟩ := not_or.mp (fun e => h (List.mem_cons.mpr e))
    rw [List.foldl_cons, ih _ hnt, Map.get_set_ne _ _ _ hne]

theorem fclkEdge_of_idle {s : State} (h : s.edg.fclkOk = false ∨ s.edg.loaded = []) : s.fclkEdge = s := if_pos h

theorem fclkEdge_frame (s : State) : s.fclkEdge.edg.banks = s.edg.banks ∧ s.fclkEdge.edg.loaded = s.edg.loaded ∧
    ∀ r, r ∉ s.edg.loaded → s.fclkEdge.fabOf r = s.fabOf r := by
  by_cases h : s.edg.fclkOk = false ∨ s.edg.loaded = []
  · rw [fclkEdge_of_idle h]
    exact ⟨rfl, rfl, fun _ _ => rfl⟩
  · unfold State.fclkEdge
    rw [if_neg h]
    exact ⟨rfl, rfl, fun r hr => foldl_mapSet_ne _ _ _ _ hr⟩

theorem fabClock_of_grst {s : State} {r : Nat} (v : Levels) (h : s.grst r = true) : (s.fabClock v r).regs = (s.regionCfg r).initial ∧
    (s.fabClock v r).acc = [] ∧ (s.fabClock v r).pipe = [] := by
  have hregs : s.fabRegs r = (s.regionCfg r).initial := if_pos h
  refine ⟨?_, if_pos h, if_pos h⟩
  rw [← hregs]
  exact if_pos (by simp [h])

theorem crossOut_of_held {s : State} {r i : Nat} {own : Option Nat} (v : Levels) (inw : Nat → Nat → Bool)
    (h : s.isoPasses r own = false) : s.crossOut v own inw r i =
      clampLevel (Config.clamp s.staticFrames false r i) ((s.fabOf r).lastOut.getLsbD i) := if_neg (by simp [h])

/-! ### The pins (R195, R230, R380, R418, R419) -/

section
variable {s : State}

theorem pins_of_early (h : s.dev.mode ∈ [Mode.reset, .selftest, .load, .safe]) : s.faultN = true ∧ ∀ b, s.lowPin b = .drives false := by
  unfold State.faultN State.lowPin
  generalize s.dev.mode = m at h ⊢
  cases m <;> simp at h ⊢

theorem pins_of_unsupplied (h : s.dev.mode ∈ [Mode.off, .keep]) : s.faultN = false ∧ (∀ b, s.lowPin b = .hiZ) ∧ ∀ n, s.pad n = .hiZ := by
  unfold State.faultN State.lowPin State.pad
  generalize s.dev.mode = m at h ⊢
  cases m <;> simp at h ⊢

theorem pins_of_working (h : s.dev.mode ∈ [Mode.idle, .active, .refit, .replay, .hold, .derate]) :
    s.faultN = s.fm.pend ∧ (∀ b, s.lowPin b = .drives b) ∧ ∀ n, (s.bank (n / 64)).hiZ = false → (s.bank (n / 64)).brownout = false →
      s.pad n = if padDrives (s.bank (n / 64)).shown (fld (s.pinCfg n) 15 2) then s.padSource n else s.padFailSafe n := by
  unfold State.faultN State.lowPin State.pad
  generalize s.dev.mode = m at h ⊢
  cases m <;> simp +contextual at h ⊢

theorem pad_of_hiZ {n : Nat} (h : (s.bank (n / 64)).hiZ = true) : s.pad n = .hiZ := by
  unfold State.pad
  dsimp only
  rw [h, Bool.true_or]
  generalize s.dev.mode = m
  cases m <;> rfl

theorem padDrives_of_rest {b : EdgeBank} (h : b.stage = .off ∨ b.stage = .failsafe) (cls : Nat) : padDrives b.shown cls = false := by
  unfold EdgeBank.shown
  obtain h | h := h <;> rw [h] <;> rfl

theorem pciId_eq_some {fn : Nat} {p : PciId} (h : s.pciId fn = some p) : s.fnExists fn = true ∧
    p.device = (if fn = 0 then 0x2192 else 0x2193) ∧ (fn = 0 → p.classCode = some 0x120000) ∧
    ∀ b ∈ p.bars, b.is64 = true ∧ b.prefetch = false := by
  rw [State.pciId] at h
  split at h
  · simp at h
  next hex =>
    have hfn : s.fnExists fn = true := by simpa using hex
    split at h
    next h0 =>
      obtain rfl := Option.some.inj h
      exact ⟨hfn, (if_pos h0).symm, fun _ => rfl, by simp⟩
    next h0 =>
      obtain rfl := Option.some.inj h
      exact ⟨hfn, (if_neg h0).symm, fun e => absurd e h0, by simp⟩
end

/-- Settles O51: clause by clause over the line code, the arbiter, the cells and the pins. -/
theorem linesFlitsAndPins : Obligations.LinesFlitsAndPins := by
  unfold Obligations.LinesFlitsAndPins
  refine ⟨linesFlitsAndPins_code, fun l x s h => ?_, fun l x s h1 h2 h3 => ?_, fun pos hs => nocWinner_eq_none,
    fun pos hs f h => nocWinner_eq_some h, rfl, fun n f hf hn => refresh_flight hf hn, pterm_holds_iff, fun c v b e h => stores_of_force h,
    fun c v e h => ⟨fun he => stores_of_disabled h he, fun he => (stores_of_enabled h he).1, fun he => (stores_of_enabled h he).2⟩,
    fun c v e h => shows_of_grst h, emac_next_frame, fun s h => fclkEdge_of_idle h, fun s => ?_, fun r v s h => fabClock_of_grst v h,
    fun r i own v inw s h => crossOut_of_held v inw h, fun s => ⟨fun h => ?_, fun h => ?_, fun h => ?_⟩, fun n s h => pad_of_hiZ h,
    fun n s hb hm hz hv => ?_, fun fn p s h => pciId_eq_some h⟩
  · exact if_pos h
  · obtain ⟨hr, ho, hk⟩ := takeLine_frame s l x
    have hl : (s.takeLine l x).2.link l = ((s.link l).takeLine x).2 := by rw [takeLine_of_live h1 h2 h3, State.link_setLink]
    exact ⟨(congrArg Link.code0 hl).trans (takeLine_code0 _ x), (congrArg Link.code1 hl).trans (takeLine_code1 _ x), hr.field Link.st rfl,
      hr.field Link.rxSeq rfl, ho, hk⟩
  · obtain ⟨hb, hl, hf⟩ := fclkEdge_frame s
    exact ⟨hb, hl, fclkEdge_keeps, hf⟩
  · obtain ⟨hn, hp⟩ := pins_of_early h
    exact ⟨hn, fun i => hp _, hp _⟩
  · obtain ⟨hn, hp, hpad⟩ := pins_of_unsupplied h
    exact ⟨hn, fun i => hp _, hp _, hpad⟩
  · obtain ⟨hn, hp, -⟩ := pins_of_working h
    exact ⟨hn, fun i => hp _, hp _⟩
  · obtain ⟨-, -, hpad⟩ := pins_of_working hm
    rw [hpad n hz hv, padDrives_of_rest hb]
    rfl

end Sys2Proof.Machine
end


section
/-! PROOF. LOAD: the selection of a copy, its end with one that passes, and its end in SAFE (R430, R440). -/

namespace Sys2Proof.Machine

/-! ### The record of a slot -/

theorem stageRec_recordStage (s : State) (k : Nat) (u : UStage) (cseq len pcheck : Nat) :
    ((s.recordStage k u cseq len pcheck).stageRec k).stage = u := by
  unfold State.recordStage State.stageRec State.updFlash
  rw [Map.get_set_self]

theorem stageRec_writeStage (s : State) (k : Nat) (u : UStage) (cseq len pcheck : Nat) :
    ((s.writeStage k u cseq len pcheck).stageRec k).stage = u := by
  have h := stageRec_recordStage s k u cseq len pcheck
  unfold State.writeStage
  dsimp only
  exact iteInduction (motive := fun t : State => (t.stageRec k).stage = u) (fun _ => h)
    (fun _ => iteInduction (motive := fun t : State => (t.stageRec k).stage = u) (fun _ => h) (fun _ => h))

theorem stageRec_moveStage (s : State) (k : Nat) (u : UStage) : ((s.moveStage k u).stageRec k).stage = u := stageRec_writeStage s k u _ _ _

theorem State.freezes.moveStage (s : State) (k : Nat) (u : UStage) : s.freezes (s.moveStage k u) [.cfg, .fm] := .writeStage s k u _ _ _

/-! ### LOAD ends in SAFE (R440) -/

theorem loadSafe_frame {s : State} (h : s.dev.mode.maySafe = true) : s.loadSafe.dev.mode = .safe ∧ s.loadSafe.dev.cause = .config ∧
    { s.cfg with phase := .none }.updateOnly s.loadSafe.cfg ∧ s.keeps s.loadSafe safeParts := by
  have hb := State.freezes.reportBkp s
  have hdev : s.reportBkp.dev = s.dev := hb.keeps .dev (by decide)
  have hcfg : s.reportBkp.cfg = s.cfg := hb.keeps .cfg (by decide)
  obtain ⟨hmode, hcause, -, -, -, -, -, hc, hk⟩ := enterSafe_frame (s := s.reportBkp) (by rwa [hdev]) .config
  rw [hcfg] at hc
  exact ⟨hmode, hcause, hc, keeps_trans (keeps_mono hb.keeps (by decide)) hk⟩

/-! ### Selection goes on (R440) -/

/-- In LOAD, the next copy is in hand, or the device is in SAFE with cause CONFIG; the copies tried and the push are as they were. -/
structure State.selects (s t : State) : Prop where
  outcome : (t.dev.mode = .safe ∧ t.dev.cause = .config) ∨ (t.dev.mode = .load ∧ ∃ k b, t.cfg.phase = .copy k b)
  tried : t.cfg.tried = s.cfg.tried
  push : t.cfg.push = s.cfg.push

theorem updateOnly_tried {c d : Cfg} (h : c.updateOnly d) : d.tried = c.tried := (congrArg Cfg.tried h).trans rfl
theorem updateOnly_push {c d : Cfg} (h : c.updateOnly d) : d.push = c.push := (congrArg Cfg.push h).trans rfl
theorem updateOnly_phase {c d : Cfg} (h : c.updateOnly d) : d.phase = c.phase := (congrArg Cfg.phase h).trans rfl
theorem updateOnly_lc {c d : Cfg} (h : c.updateOnly d) : d.lc = c.lc := (congrArg Cfg.lc h).trans rfl

theorem State.selects.loadSafe {s : State} (h : s.dev.mode = .load) : s.selects s.loadSafe := by
  obtain ⟨hm, hc, hcfg, -⟩ := loadSafe_frame (s := s) (by rw [h]; rfl)
  have ht := updateOnly_tried hcfg
  have hp := updateOnly_push hcfg
  exact ⟨.inl ⟨hm, hc⟩, ht, hp⟩

/-- LOAD takes copy `k`, which may be on trial. -/
def State.takeCopy (s : State) (k : Nat) (trial : Bool) : State :=
  { (if trial then s.moveStage k .trial else s) with
    cfg := { (if trial then s.moveStage k .trial else s).cfg with phase := .copy k trial } }

theorem loadNext_of_barred {s : State} (h : s.cfg.lc = 0 ∨ s.cfg.lc = 5 ∨ s.nextCopy = none) : s.loadNext = s.loadSafe := by
  by_cases hl : s.cfg.lc = 0 ∨ s.cfg.lc = 5
  · exact if_pos hl
  · refine (if_neg hl).trans ?_
    rw [h.resolve_left (fun e => hl (.inl e)) |>.resolve_left fun e => hl (.inr e)]
theorem loadNext_of_copy {s : State} {k : Nat} {trial : Bool} (h0 : s.cfg.lc ≠ 0) (h5 : s.cfg.lc ≠ 5)
    (h : s.nextCopy = some (k, trial)) : s.loadNext = s.takeCopy k trial := by
  refine (if_neg (not_or.mpr ⟨h0, h5⟩)).trans ?_
  rw [h]
  rfl

theorem takeCopy_frame (s : State) (k : Nat) (trial : Bool) : (s.takeCopy k trial).cfg.phase = .copy k trial ∧
    (s.takeCopy k trial).dev.mode = s.dev.mode ∧ (s.takeCopy k trial).cfg.tried = s.cfg.tried ∧
    (s.takeCopy k trial).cfg.push = s.cfg.push := by
  have h : s.freezes (if trial then s.moveStage k .trial else s) [.cfg, .fm] :=
    iteInduction (motive := fun t : State => s.freezes t [.cfg, .fm]) (fun _ => .moveStage s k _) (fun _ => .refl s _)
  have hd : (if trial then s.moveStage k .trial else s).dev = s.dev := h.keeps .dev (by decide)
  have ht := updateOnly_tried h.cfg
  have hp := updateOnly_push h.cfg
  exact ⟨rfl, congrArg Dev.mode hd, ht, hp⟩

theorem State.selects.loadNext {s : State} (h : s.dev.mode = .load) : s.selects s.loadNext := by
  by_cases hb : s.cfg.lc = 0 ∨ s.cfg.lc = 5 ∨ s.nextCopy = none
  · rw [loadNext_of_barred hb]
    exact .loadSafe h
  · obtain ⟨h0, h1⟩ := not_or.mp hb
    obtain ⟨h5, hn⟩ := not_or.mp h1
    obtain ⟨⟨k, trial⟩, hc⟩ := Option.ne_none_iff_exists'.mp hn
    obtain ⟨hp, hm, ht, hpu⟩ := takeCopy_frame s k trial
    rw [loadNext_of_copy h0 h5 hc]
    exact ⟨.inr ⟨hm.trans h, k, trial, hp⟩, ht, hpu⟩

/-- The copies on trial are reverted before the selection (R440). -/
def State.trialsReverted (s : State) : State := if s.cfg.lc = 0 ∨ s.cfg.lc = 5 then s
  else [0, 1].foldl (fun s k => if (s.stageRec k).stage = .trial then s.moveStage k .reverted else s) s

theorem State.freezes.trialsReverted (s : State) : s.freezes s.trialsReverted [.cfg, .fm] := by
  unfold State.trialsReverted
  split
  · exact .refl s _
  · exact .foldl (fun t k => iteInduction (motive := fun v : State => t.freezes v [.cfg, .fm]) (fun _ => .moveStage t k _) (fun _ => .refl t _)) _ s

theorem loadFlash_eq (s : State) : s.loadFlash =
    ({ s.trialsReverted with cfg := { s.trialsReverted.cfg with tried := [] } } : State).loadNext := rfl

theorem loadFlash_selects {s : State} (h : s.dev.mode = .load) : ((s.loadFlash.dev.mode = .safe ∧ s.loadFlash.dev.cause = .config) ∨
    (s.loadFlash.dev.mode = .load ∧ ∃ k b, s.loadFlash.cfg.phase = .copy k b)) ∧ s.loadFlash.cfg.push = s.cfg.push := by
  have hf := State.freezes.trialsReverted s
  have hd : s.trialsReverted.dev = s.dev := hf.keeps .dev (by decide)
  have hs := State.selects.loadNext (s := { s.trialsReverted with cfg := { s.trialsReverted.cfg with tried := [] } })
    ((congrArg Dev.mode hd).trans h)
  rw [loadFlash_eq]
  have hp := updateOnly_push hf.cfg
  exact ⟨hs.outcome, hs.push.trans hp⟩

/-- With a life-cycle state that permits no copy, selection ends in SAFE. -/
theorem loadFlash_of_barred {s : State} (hl : s.cfg.lc = 0 ∨ s.cfg.lc = 5) :
    s.loadFlash = ({ s with cfg := { s.cfg with tried := [] } } : State).loadSafe := by
  have hr : s.trialsReverted = s := if_pos hl
  rw [loadFlash_eq, hr]
  exact loadNext_of_barred (or_assoc.mp (.inl hl))

/-! ### LOAD ends with a copy (R430, R440) -/

/-- What the end of LOAD changes beside the configuration memory. -/
def loadParts : List Part := [.dev, .regs, .fm, .host, .thy, .lat, .edg]

theorem thyHoldover_keeps {s : State} {last : Nat} : s.keeps (s.thyHoldover last) [.thy, .fm] := by
  unfold State.thyHoldover
  exact keeps_ite keeps_refl (keeps_trans (t := { s with thy := { s.thy with holdover := true, srcLink := none } })
    (by simp [State.keeps_iff]) (keeps_mono report_keeps (by decide)))

theorem takeSource_keeps {s : State} {last : Nat} : s.keeps (s.takeSource last) [.thy, .fm] := by
  cases h : s.bestMark with
  | none =>
    rw [takeSource_of_none h]
    exact thyHoldover_keeps
  | some m =>
    rw [takeSource_of_best h]
    simp [State.keeps_iff]

theorem thySet_keeps {s : State} : s.keeps s.thySet [.regs, .thy, .fm] := by simp [State.keeps_iff, State.thySet]

/-- A change of SRC: the servo's lock ends, and a LATTICE module takes a source. -/
def State.thySrcChanged (s : State) (src : Nat) : State :=
  let s := if src = 0 then (s.setReg 0x40030 (s.thy.inc % 2 ^ 32)).setReg 0x40034 (s.thy.inc / 2 ^ 32) else s
  let s := { s with thy := { s.thy with locked := false, good := 0, holdover := false, srcLink := none } }
  if src = 2 then s.takeSource 0xFF else s

theorem thySrcChanged_keeps {s : State} {src : Nat} : s.keeps (s.thySrcChanged src) [.regs, .thy, .fm] := by
  unfold State.thySrcChanged
  dsimp only
  have h1 : s.keeps (if src = 0 then (s.setReg 0x40030 (s.thy.inc % 2 ^ 32)).setReg 0x40034 (s.thy.inc / 2 ^ 32) else s)
      [.regs, .thy, .fm] :=
    keeps_ite (keeps_trans (keeps_mono setReg_keeps (by decide)) (keeps_mono setReg_keeps (by decide))) keeps_refl
  generalize (if src = 0 then (s.setReg 0x40030 (s.thy.inc % 2 ^ 32)).setReg 0x40034 (s.thy.inc / 2 ^ 32) else s) = u at h1
  have h2 : u.keeps { u with thy := { u.thy with locked := false, good := 0, holdover := false, srcLink := none } } [.regs, .thy, .fm] := by
    simp [State.keeps_iff]
  exact keeps_ite (keeps_trans (keeps_trans h1 h2) (keeps_mono takeSource_keeps (by decide))) (keeps_trans h1 h2)

/-- THY_CTL with its stored bits, and SRC acting. -/
def State.thyCtlTaken (s : State) (v : Nat) : State :=
  let src := if fld v 0 2 = 3 then 0 else fld v 0 2
  if src = s.thySrc then s.setReg 0x40004 (src + 4 * bit v 2) else (s.setReg 0x40004 (src + 4 * bit v 2)).thySrcChanged src

theorem writeThyCtl_eq (s : State) (v : Nat) :
    s.writeThyCtl v = if bit v 8 = 1 then (s.thyCtlTaken v).thySet else s.thyCtlTaken v := rfl

theorem writeThyCtl_keeps {s : State} {v : Nat} : s.keeps (s.writeThyCtl v) [.regs, .thy, .fm] := by
  have h : s.keeps (s.thyCtlTaken v) [.regs, .thy, .fm] :=
    keeps_ite (keeps_mono setReg_keeps (by decide)) (keeps_trans (keeps_mono setReg_keeps (by decide)) thySrcChanged_keeps)
  rw [writeThyCtl_eq]
  exact keeps_ite (keeps_trans h thySet_keeps) h

theorem writePreset_keeps {s : State} {off v : Nat} : s.keeps (s.writePreset off v) [.regs, .thy, .fm] := by
  have hset : ∀ w, s.keeps (s.setReg off w) [.regs, .thy, .fm] := fun w => keeps_mono setReg_keeps (by decide)
  exact keeps_ite (hset _) (keeps_ite (hset _) (keeps_ite (hset _) (keeps_ite (hset _) (keeps_ite (hset _) (keeps_ite (hset _)
    (keeps_ite writeThyCtl_keeps keeps_refl))))))

theorem applyPresets_keeps {s : State} {l : List (Nat × Nat)} : s.keeps (s.applyPresets l) loadParts :=
  keeps_foldl _ _ (fun _ _ => keeps_mono writePreset_keeps (by decide)) l s

theorem reportLoad_keeps {s : State} {src cseq : Nat} : s.keeps (s.reportLoad src cseq) loadParts := by
  have h : s.keeps (if src = 3 then (s.report 0x0400 clsEvent 0 none (src + 2 ^ 32 * cseq)).report 0x0403 clsDegraded 0 none 0
      else s.report 0x0400 clsEvent 0 none (src + 2 ^ 32 * cseq)) [.fm] := keeps_ite (keeps_trans report_keeps report_keeps) report_keeps
  exact keeps_mono (keeps_trans h (State.freezes.reportBkp _).keeps) (by decide)

theorem spaceError_keeps {s : State} {sp : Nat} : s.keeps (s.spaceError sp false) [.edg, .fm] := by
  have h : s.keeps ((s.spaceBanks sp).foldl (fun s g => s.failBank g 5 false false) s) [.edg, .fm] :=
    keeps_foldl _ _ (fun t g => (State.freezes.failBank t g 5 false).keeps) _ s
  unfold State.spaceError
  dsimp only
  generalize (s.spaceBanks sp).foldl (fun s g => s.failBank g 5 false false) s = u at h
  exact keeps_ite (keeps_trans h (by simp [State.keeps_iff])) h

theorem spaceErrors_keeps {s : State} {l : List Nat} : s.keeps (s.spaceErrors false l) loadParts :=
  keeps_foldl _ _ (fun _ _ => keeps_ite (keeps_mono spaceError_keeps (by decide)) keeps_refl) l s

theorem reportRetries_keeps {s : State} : s.keeps s.reportRetries loadParts := keeps_ite keeps_refl (keeps_mono report_keeps (by decide))

theorem startLinks_keeps {s : State} : s.keeps s.startLinks [.lat] := keeps_foldl _ _ (fun _ _ => startLink_keeps) _ s

/-- An EDG register takes its preset from the static frames. -/
def State.putEdg (st : List (List Byte)) (s : State) (off : Nat) (f : Nat → Nat) : State := s.setReg off (f (Config.edgPreset st off % 2 ^ 32))
/-- The registers of a bank take theirs. -/
def State.putBank (st : List (List Byte)) (s : State) (g : Nat) : State :=
  State.putEdg st (State.putEdg st (State.putEdg st (State.putEdg st (State.putEdg st (State.putEdg st s (bankReg g) bankCfgStored)
    (bankReg g + 0xC) bankTimeStored) (bankReg g + 0x10) id) (bankReg g + 0x14) id) (bankReg g + 0x18) (fun x => x % 2 ^ 24))
    (bankReg g + 0x1C) (fun x => x % 2 ^ 26 - fld x 10 6 * 2 ^ 10)
/-- The EDG registers take their presets. -/
def State.edgRegsPreset (s : State) : State :=
  (List.range 768).foldl (fun t n => State.putEdg s.staticFrames t (0x201000 + 4 * n) pinStored)
    ((List.range 8).foldl (fun t r => State.putEdg s.staticFrames t (0x204000 + 0x10 * r) (fun x => x % 2 ^ 9))
      ((List.range 12).foldl (fun t g => State.putBank s.staticFrames t g) (State.putEdg s.staticFrames s 0x200000 edgCfgStored)))

theorem presetEdg_eq (s : State) : s.presetEdg = { s.edgRegsPreset with edg := { s.edgRegsPreset.edg with
    padsPreset := true
    padFs := (List.range 768).map fun n =>
      (n, fld (pinStored (Config.edgPreset s.staticFrames (0x201000 + 4 * n) % 2 ^ 32)) 13 2) } } := by
  unfold State.presetEdg State.edgRegsPreset
  dsimp only [State.putBank, State.putEdg]

theorem putEdg_keeps {st : List (List Byte)} {s : State} {off : Nat} {f : Nat → Nat} : s.keeps (State.putEdg st s off f) [.regs] :=
  setReg_keeps
theorem putBank_keeps {st : List (List Byte)} {s : State} {g : Nat} : s.keeps (State.putBank st s g) [.regs] :=
  keeps_trans (keeps_trans (keeps_trans (keeps_trans (keeps_trans putEdg_keeps putEdg_keeps) putEdg_keeps) putEdg_keeps) putEdg_keeps)
    putEdg_keeps
theorem edgRegsPreset_keeps {s : State} : s.keeps s.edgRegsPreset [.regs] :=
  keeps_trans (keeps_trans (keeps_trans putEdg_keeps (keeps_foldl _ _ (fun _ _ => putBank_keeps) _ _))
    (keeps_foldl _ _ (fun _ _ => putEdg_keeps) _ _)) (keeps_foldl _ _ (fun _ _ => putEdg_keeps) _ _)

theorem presetEdg_keeps {s : State} : s.keeps s.presetEdg [.regs, .edg] := by
  rw [presetEdg_eq]
  have h := edgRegsPreset_keeps (s := s)
  generalize s.edgRegsPreset = u at h
  exact keeps_trans (keeps_mono h (by decide)) (by simp [State.keeps_iff])

theorem placeFrames_keeps {s : State} {l : List Sec} : s.keeps (s.placeFrames l) [.cfg, .edg] := by
  simp [State.keeps_iff, State.placeFrames, State.initFab]

/-- The copy is in configuration memory, and what it is has been noted. -/
def State.copyPlaced (s : State) (src cseq : Nat) (trial : Bool) (bs : List Byte) (l : List Sec) : State :=
  { s.placeFrames l with cfg := { (s.placeFrames l).cfg with
    phase := .none, push := [], bootSrc := src, bootSeq := cseq, trial := trial, auth := olpAuth bs, rollback := olpRollback bs } }

/-- LOAD up to the change of the mode. -/
def State.copyReported (s : State) (src cseq : Nat) (l : List Sec) : State :=
  (((s.applyPresets (pkgPresets l)).reportLoad src cseq).spaceErrors false (List.range' 1 10)).reportRetries

theorem loadPassed_eq (s : State) (src cseq : Nat) (trial : Bool) (bs : List Byte) (l : List Sec) : s.loadPassed src cseq trial bs l =
    (((s.copyPlaced src cseq trial bs l).copyReported src cseq l).setMode .idle).startLinks.presetEdg := rfl

theorem copyReported_keeps {s : State} {src cseq : Nat} {l : List Sec} : s.keeps (s.copyReported src cseq l) loadParts :=
  keeps_trans (keeps_trans (keeps_trans applyPresets_keeps reportLoad_keeps) spaceErrors_keeps) reportRetries_keeps

theorem loadPassed_frame (s : State) (src cseq : Nat) (trial : Bool) (bs : List Byte) (l : List Sec) :
    (s.loadPassed src cseq trial bs l).dev.mode = .idle ∧
    (s.loadPassed src cseq trial bs l).cfg = (s.copyPlaced src cseq trial bs l).cfg ∧
    (s.loadPassed src cseq trial bs l).tenants = s.tenants ∧ (s.loadPassed src cseq trial bs l).ds = s.ds := by
  have hp : s.keeps (s.copyPlaced src cseq trial bs l) [.cfg, .edg] :=
    keeps_trans (placeFrames_keeps (l := l)) (by simp [State.keeps_iff, State.copyPlaced])
  have hr := copyReported_keeps (s := s.copyPlaced src cseq trial bs l) (src := src) (cseq := cseq) (l := l)
  rw [loadPassed_eq]
  generalize s.copyPlaced src cseq trial bs l = u at hp hr
  generalize u.copyReported src cseq l = v at hr
  have hm : (v.setMode .idle).dev.mode = .idle := setMode_mode _ _
  have hk : v.keeps (v.setMode .idle) [.dev, .fm, .host] := setMode_keeps
  generalize v.setMode .idle = w at hm hk
  have hl : w.keeps w.startLinks.presetEdg [.lat, .regs, .edg] :=
    keeps_trans (keeps_mono startLinks_keeps (by decide)) (keeps_mono presetEdg_keeps (by decide))
  have hall : u.keeps w.startLinks.presetEdg loadParts :=
    keeps_trans hr (keeps_trans (keeps_mono hk (by decide)) (keeps_mono hl (by decide)))
  have hdev : w.startLinks.presetEdg.dev = w.dev := hl .dev (by decide)
  exact ⟨(congrArg Dev.mode hdev).trans hm, hall .cfg (by decide), (hall .tenants (by decide)).trans (hp .tenants (by decide)),
    (hall .ds (by decide)).trans (hp .ds (by decide))⟩

end Sys2Proof.Machine
end


section
/-! PROOF. The configuration slave port, and the commands of LOAD (R440 to R445) (O52). -/

namespace Sys2Proof.Machine

/-! ### A transaction of the port (R442) -/

section
variable {s : State} {cmd : Nat} {may : Bool} {act : State → State}

/-- The port at the start of a transaction: the row of timeouts has ended. -/
def State.cspBegun (s : State) : State := { s with cfg := { s.cfg with cspRow := 0 } }

theorem cspBegun_keeps : s.keeps s.cspBegun [.cfg] := by simp [State.keeps_iff, State.cspBegun]

theorem csp_of_dead {rdy : Bool} (h : s.cspLives = false) : s.csp rdy cmd may act = .next s := if_pos h
theorem csp_of_may (h : s.cspLives = true) (hm : may = true) : s.csp true cmd may act = .next (act s.cspBegun) :=
  (if_neg (by simp [h])).trans ((if_neg (by decide)).trans (if_pos hm))
theorem csp_of_not (h : s.cspLives = true) (hm : may = false) : s.csp true cmd may act = .next (s.cspBegun.cspBad cmd) :=
  (if_neg (by simp [h])).trans ((if_neg (by decide)).trans (if_neg (by simp [hm])))

/-- A command that the port's state or the mode does not permit. -/
theorem cspBegun_bad_frame : (s.cspBegun.cspBad cmd).cfg = { s.cfg with cspRow := 0 } ∧ s.reported (s.cspBegun.cspBad cmd) 0x0584 0 0 none cmd ∧
    s.keeps (s.cspBegun.cspBad cmd) [.cfg, .fm] :=
  ⟨rfl, rfl, keeps_trans (keeps_mono cspBegun_keeps (by decide)) (keeps_mono report_keeps (by decide))⟩
end

/-! ### Data and the end of a package -/

section
variable {s : State} {bs : List Byte}

/-- What the push or the DOWNLOAD in progress takes. -/
def State.cspAppend (s : State) (bs : List Byte) : State :=
  if s.cfg.phase.pushes then { s with cfg := { s.cfg with push := s.cfg.push ++ bs } }
  else { s with cfg := { s.cfg with job := s.cfg.job.map (fun j => { j with bytes := j.bytes ++ bs }) } }
/-- The package in progress is complete. -/
def State.cspComplete (s : State) : State :=
  if s.cfg.phase.pushes then { s with cfg := { s.cfg with phase := .pushed } }
  else { s with cfg := { s.cfg with job := s.cfg.job.map (fun j => { j with ended := true }) } }

theorem exec_cspData_eq (rdy : Bool) (bs : List Byte) (s : State) : exec (.cspData rdy bs) s =
    s.csp rdy 0x11 ((s.cfg.phase.pushes || s.cspTakes) && decide (1 ≤ bs.length ∧ bs.length ≤ 4096)) (fun u => u.cspAppend bs) := rfl
theorem exec_cspEnd_eq (rdy : Bool) (s : State) : exec (.cspEnd rdy) s =
    s.csp rdy 0x12 (s.cfg.phase.pushes || s.cspTakes) (fun u => u.cspComplete) := rfl

theorem exec_cspData_taken (h : s.cspLives = true) (ht : (s.cfg.phase.pushes || s.cspTakes) = true) (h1 : 1 ≤ bs.length)
    (h2 : bs.length ≤ 4096) : exec (.cspData true bs) s = .next (s.cspBegun.cspAppend bs) :=
  (exec_cspData_eq true bs s).trans (csp_of_may h (by simp [ht, h1, h2]))
theorem exec_cspEnd_taken (h : s.cspLives = true) (ht : (s.cfg.phase.pushes || s.cspTakes) = true) :
    exec (.cspEnd true) s = .next s.cspBegun.cspComplete :=
  (exec_cspEnd_eq true s).trans (csp_of_may h ht)

theorem pushes_of_pushing {n : Nat} (h : s.cfg.phase = .pushing n) : s.cfg.phase.pushes = true := by rw [h]; rfl
theorem pushes_of_none (h : s.cfg.phase = .none) : s.cfg.phase.pushes = false := by rw [h]; rfl

theorem cspAppend_push (h : s.cfg.phase.pushes = true) : s.cspBegun.cspAppend bs =
    { s with cfg := { s.cfg with cspRow := 0, push := s.cfg.push ++ bs } } := if_pos h
theorem cspAppend_job {j : UpdJob} (h : s.cfg.phase.pushes = false) (hj : s.cfg.job = some j) : s.cspBegun.cspAppend bs =
    { s with cfg := { s.cfg with cspRow := 0, job := some { j with bytes := j.bytes ++ bs } } } := by
  refine (if_neg (by simp [State.cspBegun, h])).trans ?_
  rw [show s.cspBegun.cfg.job = some j from hj]
  rfl
theorem cspComplete_push (h : s.cfg.phase.pushes = true) : s.cspBegun.cspComplete =
    { s with cfg := { s.cfg with cspRow := 0, phase := .pushed } } := if_pos h
theorem cspComplete_job {j : UpdJob} (h : s.cfg.phase.pushes = false) (hj : s.cfg.job = some j) : s.cspBegun.cspComplete =
    { s with cfg := { s.cfg with cspRow := 0, job := some { j with ended := true } } } := by
  refine (if_neg (by simp [State.cspBegun, h])).trans ?_
  rw [show s.cspBegun.cfg.job = some j from hj]
  rfl
end

/-! ### Timeouts (R443) -/

section
variable {s : State}

/-- A timeout has been counted and recorded. -/
def State.cspTimed (s : State) : State :=
  ({ s with cfg := { s.cfg with cspRow := s.cfg.cspRow + 1, cspTimeouts := satInc s.cfg.cspTimeouts 0xFF } }).report 0x0580 clsEvent 0 none 0

theorem cspTimed_keeps : s.keeps s.cspTimed [.cfg, .fm] := by
  simp [State.keeps_iff, State.cspTimed, State.report]

/-- A DOWNLOAD from the port is aborted. -/
def State.cspAborted (s : State) : State := if s.cfg.job.any (fun j => j.csp) then s.abortJob 0x41 else s

theorem cspAborted_freezes (s : State) : s.freezes s.cspAborted [.cfg, .fm] :=
  iteInduction (motive := fun t : State => s.freezes t [.cfg, .fm]) (fun _ => .abortJob s _) (fun _ => .refl s _)

theorem cspDrop_of_notPushing (h : s.cfg.phase.pushes = false) : s.cspDrop = s.cspAborted := by
  have hp : s.cspAborted.cfg.phase = s.cfg.phase := updateOnly_phase (cspAborted_freezes s).cfg
  exact if_neg (by rw [← hp] at h; simp [State.cspAborted] at h ⊢; exact h)

theorem cspDrop_of_pushing (h : s.cfg.phase.pushes = true) :
    s.cspDrop = s.cspAborted.freshNat.2.pushRefused (s.cspAborted.freshNat.1 % 2 ^ 8) := by
  have hp : s.cspAborted.cfg.phase = s.cfg.phase := updateOnly_phase (cspAborted_freezes s).cfg
  exact if_pos (by rw [← hp] at h; exact h)

theorem cspAborted_of_none (h : s.cfg.job = none) : s.cspAborted = s := if_neg (by simp [h])
theorem cspAborted_of_csp {j : UpdJob} (h : s.cfg.job = some j) (hc : j.csp = true) : s.cspAborted = s.abortJob 0x41 :=
  if_pos (by simp [h, hc])

theorem abortJob_frame {j : UpdJob} (h : s.cfg.job = some j) (r : Nat) : (s.abortJob r).cfg.job = none ∧
    (s.abortJob r).cfg.updStage = .aborted ∧ (s.abortJob r).cfg.updResult = r := by
  unfold State.abortJob
  rw [h]
  exact ⟨rfl, rfl, rfl⟩

/-- The third timeout in a row makes the port dead. -/
def State.cspDies (s : State) : State := ({ s with cfg := { s.cfg with cspDead := true } }).report 0x0581 clsDegraded 0 none 0

theorem cspDies_keeps : s.keeps s.cspDies [.cfg, .fm] := by simp [State.keeps_iff, State.cspDies, State.report]

theorem exec_cspTimeout_eq (h : s.cspLives = true) : exec .cspTimeout s =
    if s.cfg.cspRow + 1 < 3 then .next s.cspTimed.cspDrop else .next s.cspTimed.cspDrop.cspDies := if_neg (by simp [h])

theorem configPortAndLoad_timeout (h : s.cspLives = true) (hj : s.cfg.job = none) (hp : s.cfg.phase.pushes = false) :
    Runs .cspTimeout s (fun t => t.cfg.cspRow = s.cfg.cspRow + 1 ∧ t.cfg.cspTimeouts = satInc s.cfg.cspTimeouts 0xFF ∧
      (s.cfg.cspRow < 2 → t.cfg.cspDead = s.cfg.cspDead ∧ s.reported t 0x0580 0 0 none 0) ∧ (2 ≤ s.cfg.cspRow → t.cfg.cspDead = true) ∧
      s.keeps t [.cfg, .fm]) := by
  have hd : s.cspTimed.cspDrop = s.cspTimed := (cspDrop_of_notPushing (s := s.cspTimed) hp).trans (cspAborted_of_none hj)
  have he := exec_cspTimeout_eq h
  rw [hd] at he
  by_cases hr : s.cfg.cspRow < 2
  · exact Runs.of (he.trans (if_pos (by omega))) ⟨rfl, rfl, fun _ => ⟨rfl, rfl⟩, fun h2 => absurd hr (by omega), cspTimed_keeps⟩
  · exact Runs.of (he.trans (if_neg (by omega))) ⟨rfl, rfl, fun h2 => absurd h2 hr, fun _ => rfl, keeps_trans cspTimed_keeps cspDies_keeps⟩

theorem configPortAndLoad_aborts {j : UpdJob} (h : s.cspLives = true) (hj : s.cfg.job = some j) (hc : j.csp = true)
    (hp : s.cfg.phase.pushes = false) : Runs .cspTimeout s (fun t => t.cfg.job = none ∧ t.cfg.updStage = .aborted ∧
      t.cfg.updResult = 0x41 ∧ s.keeps t [.cfg, .fm]) := by
  have hd : s.cspTimed.cspDrop = s.cspTimed.abortJob 0x41 := (cspDrop_of_notPushing (s := s.cspTimed) hp).trans (cspAborted_of_csp hj hc)
  obtain ⟨h1, h2, h3⟩ := abortJob_frame (s := s.cspTimed) hj 0x41
  have hk : s.keeps (s.cspTimed.abortJob 0x41) [.cfg, .fm] := keeps_trans cspTimed_keeps (State.freezes.abortJob _ _).keeps
  have he := exec_cspTimeout_eq h
  rw [hd] at he
  by_cases hr : s.cfg.cspRow + 1 < 3
  · exact Runs.of (he.trans (if_pos hr)) ⟨h1, h2, h3, hk⟩
  · exact Runs.of (he.trans (if_neg hr)) ⟨h1, h2, h3, keeps_trans hk cspDies_keeps⟩

theorem configPortAndLoad_pushEnds {n : Nat} (h : s.cspLives = true) (hp : s.cfg.phase = .pushing n) (hr : s.cfg.cspRow < 2) :
    Runs .cspTimeout s (fun t => ∃ (u : State) (c : Nat), c < 256 ∧ t = u.pushRefused c ∧ u.cfg.cspRow = s.cfg.cspRow + 1 ∧
      s.keeps u [.cfg, .fm, .freeCtr]) := by
  have hf := cspAborted_freezes s.cspTimed
  have hrow : s.cspTimed.cspAborted.cfg.cspRow = s.cfg.cspRow + 1 := (congrArg Cfg.cspRow hf.cfg).trans rfl
  refine Runs.of ((exec_cspTimeout_eq h).trans (if_pos (by omega))) ⟨s.cspTimed.cspAborted.freshNat.2, _, Nat.mod_lt _ (by decide),
    cspDrop_of_pushing (s := s.cspTimed) (pushes_of_pushing hp), hrow, ?_⟩
  exact keeps_trans (keeps_mono cspTimed_keeps (by decide)) (keeps_trans (keeps_mono hf.keeps (by decide)) (keeps_mono freshNat_keeps (by decide)))
end

/-! ### The port's commands -/

theorem cspTakes_of {s : State} {j : UpdJob} (hj : s.cfg.job = some j) (hc : j.csp = true) (he : j.ended = false) : s.cspTakes = true := by
  simp [State.cspTakes, hj, hc, he]

theorem configPortAndLoad_port :
  (∀ (len : DWord) (tgt : Byte) (bs : List Byte) (x : Instr × Nat) (s : State), s.cspLives = true →
      x ∈ [(Instr.cspStatus false, 0x05), (.cspPushBegin false len, 0x10), (.cspData false bs, 0x11), (.cspEnd false, 0x12),
        (.cspUpdBegin false len tgt, 0x20), (.cspUpdActivate false, 0x21), (.cspUpdConfirm false, 0x22)] →
    Runs x.1 s (fun t => s.reported t 0x0584 0 0 none x.2 ∧ s.keeps t [.fm])) ∧
  (∀ (rdy : Bool) (len : DWord) (tgt : Byte) (bs : List Byte) (c : Instr) (s : State), s.cspLives = false →
      c ∈ [Instr.cspStatus rdy, .cspPushBegin rdy len, .cspData rdy bs, .cspEnd rdy, .cspUpdBegin rdy len tgt, .cspUpdActivate rdy,
        .cspUpdConfirm rdy, .cspTimeout] →
    Runs c s (fun t => t = s)) := by
  refine ⟨fun len tgt bs x s h hx => ?_, fun rdy len tgt bs c s h hc => ?_⟩
  · simp only [List.mem_cons, List.not_mem_nil, or_false] at hx
    obtain rfl | rfl | rfl | rfl | rfl | rfl | rfl := hx <;> exact Runs.of ((if_neg (by simp [h])).trans (if_pos rfl)) ⟨rfl, report_keeps⟩
  · simp only [List.mem_cons, List.not_mem_nil, or_false] at hc
    obtain rfl | rfl | rfl | rfl | rfl | rfl | rfl | rfl := hc <;> exact Runs.of (if_pos h) rfl

theorem exec_cspUpdBegin_eq (rdy : Bool) (len : DWord) (tgt : Byte) (s : State) : exec (.cspUpdBegin rdy len tgt) s =
    s.csp rdy 0x20 (s.dev.mode.fromLoad && decide (tgt.toNat < 2)) (fun u => u.startDownload true (decide (tgt = 1)) 0 len.toNat) := rfl
theorem exec_cspUpdActivate_eq (rdy : Bool) (s : State) : exec (.cspUpdActivate rdy) s =
    s.csp rdy 0x21 s.dev.mode.fromLoad (fun u => u.activate true) := rfl
theorem exec_cspUpdConfirm_eq (rdy : Bool) (s : State) : exec (.cspUpdConfirm rdy) s =
    s.csp rdy 0x22 s.dev.mode.fromLoad (fun u => u.confirmTrial true) := rfl
theorem exec_cspStatus_eq (rdy : Bool) (s : State) : exec (.cspStatus rdy) s = s.csp rdy 0x05 true
    (fun u => { u with cfg := { u.cfg with cspOut := leBytes u.devModeWord 4 ++ leBytes u.updStatWord 4 } }) := rfl
theorem exec_cspPushBegin_eq (rdy : Bool) (len : DWord) (s : State) : exec (.cspPushBegin rdy len) s =
    s.csp rdy 0x10 (decide (s.dev.mode = .load ∧ s.cfg.phase = .cspWait))
      (fun u => { u with cfg := { u.cfg with phase := .pushing len.toNat, push := [] } }) := rfl

theorem configPortAndLoad_denied {len : DWord} {tgt : Byte} {x : Instr × Nat} {s : State} (h : s.cspLives = true)
    (hm : s.dev.mode.fromLoad = false)
    (hx : x ∈ [(Instr.cspUpdBegin true len tgt, 0x20), (.cspUpdActivate true, 0x21), (.cspUpdConfirm true, 0x22)]) :
    Runs x.1 s (fun t => t.cfg = { s.cfg with cspRow := 0 } ∧ s.reported t 0x0584 0 0 none x.2 ∧ s.keeps t [.cfg, .fm]) := by
  simp only [List.mem_cons, List.not_mem_nil, or_false] at hx
  obtain rfl | rfl | rfl := hx
  · exact Runs.of ((exec_cspUpdBegin_eq true len tgt s).trans (csp_of_not h (by simp [hm]))) cspBegun_bad_frame
  · exact Runs.of ((exec_cspUpdActivate_eq true s).trans (csp_of_not h hm)) cspBegun_bad_frame
  · exact Runs.of ((exec_cspUpdConfirm_eq true s).trans (csp_of_not h hm)) cspBegun_bad_frame

/-! ### The end of a copy or of a push in LOAD (R440, R441) -/

section
variable {s : State}

theorem exec_cspBootWaitExpire_of (hm : s.dev.mode = .load) (hp : s.cfg.phase = .cspWait) : exec .cspBootWaitExpire s = .next s.loadFlash :=
  if_pos ⟨hm, hp⟩

theorem exec_configLoadComplete_copy {k : Nat} {trial : Bool} (hm : s.dev.mode = .load) (hp : s.cfg.phase = .copy k trial) :
    exec .configLoadComplete s = if s.checkCopy (slotKind k) (slotBytes k) .flash (s.slotData k) true = 0 then
        .next (s.loadPassed (bootSrcOf k) (if k = 2 then 0 else (s.stageRec k).cseq) trial (s.slotData k) (pkgSecs (s.slotData k)))
      else .next (s.loadFailed k trial (s.checkCopy (slotKind k) (slotBytes k) .flash (s.slotData k) true)) := by
  rw [exec_configLoadComplete, execConfigLoadComplete, if_neg (not_not_intro hm), hp]

theorem exec_configLoadComplete_push (hm : s.dev.mode = .load) (hp : s.cfg.phase = .pushed) :
    exec .configLoadComplete s = if s.checkCopy kConfig s.cfg.push.length .push s.cfg.push true = 0 then
        .next (s.loadPassed 4 0 false s.cfg.push (pkgSecs s.cfg.push))
      else .next (s.pushRefused (s.checkCopy kConfig s.cfg.push.length .push s.cfg.push true)) := by
  rw [exec_configLoadComplete, execConfigLoadComplete, if_neg (not_not_intro hm), hp]

theorem exec_configLoadComplete_idle (hk : ∀ k b, s.cfg.phase ≠ .copy k b) (hp : s.cfg.phase ≠ .pushed) :
    exec .configLoadComplete s = .next s := by
  rw [exec_configLoadComplete, execConfigLoadComplete]
  refine (ite_eq_left_iff.mpr fun _ => ?_)
  split
  next k b h => exact absurd h (hk k b)
  next h => exact absurd h hp
  next => rfl

/-- A copy that has failed, with its report and its stage. -/
def State.copyFailed (s : State) (k : Nat) (trial : Bool) (code : Nat) : State :=
  if trial then (s.report 0x0401 clsDegraded 0 none (k + 2 ^ 8 * code + 2 ^ 32 * (s.stageRec k).cseq)).moveStage k .reverted
  else s.report 0x0401 clsDegraded 0 none (k + 2 ^ 8 * code + 2 ^ 32 * (s.stageRec k).cseq)

theorem copyFailed_freezes (s : State) (k : Nat) (trial : Bool) (code : Nat) : s.freezes (s.copyFailed k trial code) [.cfg, .fm] :=
  iteInduction (motive := fun t : State => s.freezes t [.cfg, .fm]) (fun _ => (State.freezes.flashReport ..).trans (.moveStage ..))
    (fun _ => .flashReport ..)

theorem loadFailed_frame (hm : s.dev.mode = .load) (k : Nat) (trial : Bool) (code : Nat) : k ∈ (s.loadFailed k trial code).cfg.tried ∧
    (((s.loadFailed k trial code).dev.mode = .safe ∧ (s.loadFailed k trial code).dev.cause = .config) ∨
      ((s.loadFailed k trial code).dev.mode = .load ∧ ∃ j b, (s.loadFailed k trial code).cfg.phase = .copy j b)) := by
  have hf := copyFailed_freezes s k trial code
  have heq : s.loadFailed k trial code = ({ s.copyFailed k trial code with
    cfg := { (s.copyFailed k trial code).cfg with tried := k :: (s.copyFailed k trial code).cfg.tried } } : State).loadNext := rfl
  have hmode : (s.copyFailed k trial code).dev.mode = .load := (congrArg Dev.mode (hf.keeps .dev (by decide))).trans hm
  rw [heq]
  generalize s.copyFailed k trial code = u at hmode
  have hs := State.selects.loadNext (s := { u with cfg := { u.cfg with tried := k :: u.cfg.tried } }) hmode
  refine ⟨?_, hs.outcome⟩
  rw [hs.tried]
  exact List.mem_cons_self

theorem pushRefused_frame (hm : s.dev.mode = .load) (code : Nat) : (s.pushRefused code).cfg.push = [] ∧
    (((s.pushRefused code).dev.mode = .safe ∧ (s.pushRefused code).dev.cause = .config) ∨
      ((s.pushRefused code).dev.mode = .load ∧ ∃ j b, (s.pushRefused code).cfg.phase = .copy j b)) := by
  obtain ⟨ho, hp⟩ := loadFlash_selects (s := { s.report 0x0583 clsEvent 0 none code with
    cfg := { (s.report 0x0583 clsEvent 0 none code).cfg with push := [] } }) hm
  exact ⟨hp, ho⟩

theorem configPortAndLoad_copy {k : Nat} {trial : Bool} (hm : s.dev.mode = .load) (hp : s.cfg.phase = .copy k trial) :
    Runs .configLoadComplete s (fun t =>
      (s.checkCopy (slotKind k) (slotBytes k) .flash (s.slotData k) true = 0 →
        t = s.loadPassed (bootSrcOf k) (if k = 2 then 0 else (s.stageRec k).cseq) trial (s.slotData k) (pkgSecs (s.slotData k)) ∧
        t.dev.mode = .idle ∧ t.cfg.phase = .none ∧ t.cfg.bootSrc = k + 1 ∧ t.cfg.trial = trial ∧ t.tenants = s.tenants ∧
        t.ds = s.ds) ∧
      (s.checkCopy (slotKind k) (slotBytes k) .flash (s.slotData k) true ≠ 0 →
        t = s.loadFailed k trial (s.checkCopy (slotKind k) (slotBytes k) .flash (s.slotData k) true) ∧ k ∈ t.cfg.tried ∧
        ((t.dev.mode = .safe ∧ t.dev.cause = .config) ∨ (t.dev.mode = .load ∧ ∃ j b, t.cfg.phase = .copy j b)))) := by
  by_cases hc : s.checkCopy (slotKind k) (slotBytes k) .flash (s.slotData k) true = 0
  · obtain ⟨h1, h2, h3, h4⟩ := loadPassed_frame s (bootSrcOf k) (if k = 2 then 0 else (s.stageRec k).cseq) trial (s.slotData k)
      (pkgSecs (s.slotData k))
    exact Runs.of ((exec_configLoadComplete_copy hm hp).trans (if_pos hc)) ⟨fun _ => ⟨rfl, h1, (congrArg Cfg.phase h2).trans rfl,
      (congrArg Cfg.bootSrc h2).trans rfl, (congrArg Cfg.trial h2).trans rfl, h3, h4⟩, fun hne => absurd hc hne⟩
  · exact Runs.of ((exec_configLoadComplete_copy hm hp).trans (if_neg hc)) ⟨fun h0 => absurd h0 hc, fun _ => ⟨rfl, loadFailed_frame hm _ _ _⟩⟩

theorem configPortAndLoad_push (hm : s.dev.mode = .load) (hp : s.cfg.phase = .pushed) :
    Runs .configLoadComplete s (fun t => t.cfg.push = [] ∧
      (s.checkCopy kConfig s.cfg.push.length .push s.cfg.push true = 0 →
        t = s.loadPassed 4 0 false s.cfg.push (pkgSecs s.cfg.push) ∧ t.dev.mode = .idle ∧ t.cfg.phase = .none ∧ t.cfg.bootSrc = 4) ∧
      (s.checkCopy kConfig s.cfg.push.length .push s.cfg.push true ≠ 0 →
        t = s.pushRefused (s.checkCopy kConfig s.cfg.push.length .push s.cfg.push true) ∧
        ((t.dev.mode = .safe ∧ t.dev.cause = .config) ∨ (t.dev.mode = .load ∧ ∃ j b, t.cfg.phase = .copy j b)))) := by
  by_cases hc : s.checkCopy kConfig s.cfg.push.length .push s.cfg.push true = 0
  · obtain ⟨h1, h2, -, -⟩ := loadPassed_frame s 4 0 false s.cfg.push (pkgSecs s.cfg.push)
    exact Runs.of ((exec_configLoadComplete_push hm hp).trans (if_pos hc)) ⟨(congrArg Cfg.push h2).trans rfl,
      fun _ => ⟨rfl, h1, (congrArg Cfg.phase h2).trans rfl, (congrArg Cfg.bootSrc h2).trans rfl⟩, fun hne => absurd hc hne⟩
  · obtain ⟨h1, h2⟩ := pushRefused_frame hm (s.checkCopy kConfig s.cfg.push.length .push s.cfg.push true)
    exact Runs.of ((exec_configLoadComplete_push hm hp).trans (if_neg hc)) ⟨h1, fun h0 => absurd h0 hc, fun _ => ⟨rfl, h2⟩⟩
end

/-- Settles O52: the port's transactions, and the end of LOAD by its copy, its push or SAFE. -/
theorem configPortAndLoad : Obligations.ConfigPortAndLoad := by
  unfold Obligations.ConfigPortAndLoad
  refine ⟨⟨configPortAndLoad_port.1, configPortAndLoad_port.2, fun s h => ?_, fun len s h hm hp => ?_, fun len s h hp => ?_,
    fun n bs s h hp h1 h2 => ?_, fun j bs s h hp hj hc he h1 h2 => ⟨?_, ?_⟩, fun bs s h hl => ?_, fun n s h hp => ?_,
    fun len tgt s h hm ht => ?_, fun len tgt x s h hm hx => configPortAndLoad_denied h hm hx, fun s h hm => ⟨?_, ?_⟩,
    fun s h hj hp => configPortAndLoad_timeout h hj hp, fun j s h hj hc hp => configPortAndLoad_aborts h hj hc hp,
    fun n s h hp hr => configPortAndLoad_pushEnds h hp hr, fun s h => ?_, fun s h => ?_, fun s hm hp => ?_, fun s hm hp hl => ?_,
    fun s hm => ?_, fun s hp => ?_⟩, fun k trial s hm hp => configPortAndLoad_copy hm hp, fun s hm hp => configPortAndLoad_push hm hp,
    fun s hk hp => ?_, fun s hm => ?_, fun src cseq trial bs l s => ?_, fun c s h => ?_, fun c s h => enterSafe_of_not h c,
    fun s h => loadNext_of_barred h, fun s h => ?_, fun s h => ?_, fun k s h0 h5 hn => ?_, fun k s h0 h5 hn => ?_⟩
  · exact Runs.of ((exec_cspStatus_eq true s).trans (csp_of_may h rfl)) ⟨rfl, by simp [State.keeps_iff, State.cspBegun]⟩
  · refine Runs.of ((exec_cspPushBegin_eq true len s).trans (csp_of_may h (decide_eq_true ⟨hm, hp⟩))) ⟨rfl, rfl, ?_⟩
    simp [State.keeps_iff, State.cspBegun]
  · obtain ⟨hc, hr, hk⟩ := cspBegun_bad_frame (s := s) (cmd := 0x10)
    exact Runs.of ((exec_cspPushBegin_eq true len s).trans (csp_of_not h (decide_eq_false fun e => hp e.2)))
      ⟨(congrArg Cfg.phase hc).trans rfl, hr, hk⟩
  · refine Runs.of ((exec_cspData_taken h (by rw [pushes_of_pushing hp, Bool.true_or]) h1 h2).trans
      (congrArg Host.Outcome.next (cspAppend_push (pushes_of_pushing hp)))) ⟨rfl, hp, ?_⟩
    simp [State.keeps_iff]
  · refine Runs.of ((exec_cspData_taken h (by rw [cspTakes_of hj hc he, Bool.or_true]) h1 h2).trans
      (congrArg Host.Outcome.next (cspAppend_job (pushes_of_none hp) hj))) ⟨rfl, ?_⟩
    simp [State.keeps_iff]
  · refine Runs.of ((exec_cspEnd_taken h (by rw [cspTakes_of hj hc he, Bool.or_true])).trans
      (congrArg Host.Outcome.next (cspComplete_job (pushes_of_none hp) hj))) ⟨rfl, ?_⟩
    simp [State.keeps_iff]
  · have hno : ¬ (1 ≤ bs.length ∧ bs.length ≤ 4096) := by omega
    obtain ⟨hc, hr, hk⟩ := cspBegun_bad_frame (s := s) (cmd := 0x11)
    exact Runs.of ((exec_cspData_eq true bs s).trans (csp_of_not h (by rw [decide_eq_false hno, Bool.and_false])))
      ⟨(congrArg Cfg.push hc).trans rfl, (congrArg Cfg.job hc).trans rfl, hr, hk⟩
  · refine Runs.of ((exec_cspEnd_taken h (by rw [pushes_of_pushing hp, Bool.true_or])).trans
      (congrArg Host.Outcome.next (cspComplete_push (pushes_of_pushing hp)))) ⟨rfl, rfl, ?_⟩
    simp [State.keeps_iff]
  · have hone : decide (tgt = 1) = decide (tgt.toNat = 1) := decide_eq_decide.mpr (by
      rw [← BitVec.toNat_inj]
      rfl)
    refine Runs.of ((exec_cspUpdBegin_eq true len tgt s).trans (csp_of_may h (by simp [hm, ht]))) ⟨s.cspBegun, rfl, cspBegun_keeps, ?_⟩
    rw [hone]
  · exact Runs.of ((exec_cspUpdActivate_eq true s).trans (csp_of_may h hm)) ⟨s.cspBegun, rfl, cspBegun_keeps, rfl⟩
  · exact Runs.of ((exec_cspUpdConfirm_eq true s).trans (csp_of_may h hm)) ⟨s.cspBegun, rfl, cspBegun_keeps, rfl⟩
  · exact Runs.of (if_pos h) ⟨rfl, rfl, by simp [State.keeps_iff, State.report]⟩
  · exact Runs.of (if_neg (by simp [h])) rfl
  · exact Runs.of (exec_cspBootWaitExpire_of hm hp) ⟨rfl, (loadFlash_selects hm).1⟩
  · obtain ⟨h1, h2, -, -⟩ := loadSafe_frame (s := { s with cfg := { s.cfg with tried := [] } }) (by
      rw [hm]
      rfl)
    exact Runs.of ((exec_cspBootWaitExpire_of hm hp).trans (congrArg Host.Outcome.next (loadFlash_of_barred hl))) ⟨h1, h2⟩
  · exact Runs.of (if_neg fun e => hm e.1) rfl
  · exact Runs.of (if_neg fun e => hp e.2) rfl
  · exact Runs.of (exec_configLoadComplete_idle hk hp) rfl
  · exact Runs.of (if_pos hm) rfl
  · obtain ⟨h1, h2, h3, h4⟩ := loadPassed_frame s src cseq trial bs l
    exact ⟨h1, (congrArg Cfg.bootSrc h2).trans rfl, (congrArg Cfg.bootSeq h2).trans rfl, (congrArg Cfg.phase h2).trans rfl, h3, h4⟩
  · obtain ⟨h1, h2, -, -, -, -, -, -, hk⟩ := enterSafe_frame h c
    exact ⟨h1, h2, hk .regs (by decide), hk .ds (by decide), hk .tenants (by decide)⟩
  · obtain ⟨h1, h2, -, hk⟩ := loadSafe_frame h
    exact ⟨h1, h2, hk .regs (by decide), hk .tenants (by decide)⟩
  · rw [State.loadSafe, State.reportBkp, if_neg (by simp [h])]
  · rw [loadNext_of_copy h0 h5 hn]
    exact ⟨rfl, by simp [State.keeps_iff, State.takeCopy]⟩
  · rw [loadNext_of_copy h0 h5 hn]
    exact ⟨rfl, stageRec_moveStage s k .trial, keeps_trans (State.freezes.moveStage s k .trial).keeps (by
      simp [State.keeps_iff, State.takeCopy])⟩

end Sys2Proof.Machine
end


section
/-! PROOF. Updates and the monotonic counters (R444, R445, R448): what each write of the flash leaves, and the stages that follow (O53). -/

namespace Sys2Proof.Machine

/-! ### Writes of the flash -/

/-- The flash has been written, but for the packages in its slots. -/
structure State.flashes (s t : State) : Prop where
  keeps : s.keeps t [.cfg, .fm]
  cfg : t.cfg = { s.cfg with flash := t.cfg.flash, flashRetries := t.cfg.flashRetries, progress := t.cfg.progress }
  slots : t.cfg.flash.slots = s.cfg.flash.slots

/-- The count of the sectors programmed (Table 15-13). -/
def State.progressAt (s : State) (n : Nat) : State := { s with cfg := { s.cfg with progress := n } }

theorem updFlash_keeps {s : State} {f : Flash → Flash} : s.keeps (s.updFlash f) [.cfg, .fm] := by
  simp [State.keeps_iff, State.updFlash]

namespace State.flashes

theorem refl (s : State) : s.flashes s := ⟨keeps_refl, rfl, rfl⟩
theorem trans {s t u : State} (h : s.flashes t) (g : t.flashes u) : s.flashes u :=
  ⟨keeps_trans h.keeps g.keeps, g.cfg.trans (congrArg (fun c : Cfg =>
    { c with flash := u.cfg.flash, flashRetries := u.cfg.flashRetries, progress := u.cfg.progress }) h.cfg), g.slots.trans h.slots⟩
theorem ite {s t u : State} {c : Prop} [Decidable c] (h : s.flashes t) (g : s.flashes u) : s.flashes (if c then t else u) :=
  iteInduction (motive := fun v : State => s.flashes v) (fun _ => h) (fun _ => g)
theorem foldl {α : Type} {f : State → α → State} (h : ∀ (s : State) x, s.flashes (f s x)) (l : List α) (s : State) :
    s.flashes (l.foldl f s) :=
  List.foldlRecOn (motive := fun t => s.flashes t) l f (refl s) fun t ht x _ => ht.trans (h t x)
theorem report (s : State) (c k u : Nat) (t : Option Nat) (d : Nat) : s.flashes (s.report c k u t d) :=
  ⟨keeps_mono report_keeps (by decide), rfl, rfl⟩
theorem updFlash (s : State) {f : Flash → Flash} (h : (f s.cfg.flash).slots = s.cfg.flash.slots) : s.flashes (s.updFlash f) :=
  ⟨by simp [State.keeps_iff, State.updFlash], rfl, h⟩
theorem setProgress (s : State) (n : Nat) : s.flashes (s.progressAt n) :=
  ⟨by simp [State.keeps_iff, State.progressAt], rfl, rfl⟩
theorem setRetries (s : State) (n : Nat) : s.flashes { s with cfg := { s.cfg with flashRetries := n } } :=
  ⟨by simp [State.keeps_iff], rfl, rfl⟩

theorem eraseSector (s : State) (n : Nat) : s.flashes (s.eraseSector n) := by
  unfold State.eraseSector
  exact ite ((updFlash s rfl).trans ((updFlash _ rfl).trans (report ..))) (updFlash s rfl)

theorem saveNewest_slots (f : Flash) (n : Nat) : (f.saveNewest n).slots = f.slots := by
  unfold Flash.saveNewest
  refine List.foldlRecOn (motive := fun g : Flash => g.slots = f.slots) _ _ ?_ fun g hg k _ => ?_
  · split
    · exact iteInduction (motive := fun g : Flash => g.slots = f.slots) (fun _ => rfl) (fun _ => rfl)
    · rfl
  · split
    · exact iteInduction (motive := fun g : Flash => g.slots = f.slots) (fun _ => hg) (fun _ => hg)
    · exact hg

theorem recordRoom (s : State) : s.flashes s.recordRoom := by
  unfold State.recordRoom
  refine ite (refl s) (trans (ite ?_ (refl s)) (updFlash _ rfl))
  exact (updFlash s (saveNewest_slots _ _)).trans (eraseSector ..)

theorem recordStage (s : State) (k : Nat) (u : UStage) (cseq len pcheck : Nat) : s.flashes (s.recordStage k u cseq len pcheck) := by
  unfold State.recordStage
  exact (recordRoom s).trans (updFlash _ rfl)
theorem recordState (s : State) (lc : Nat) : s.flashes (s.recordState lc) := by
  unfold State.recordState
  exact (recordRoom s).trans (updFlash _ rfl)
theorem writeStage (s : State) (k : Nat) (u : UStage) (cseq len pcheck : Nat) : s.flashes (s.writeStage k u cseq len pcheck) :=
  have h := recordStage s k u cseq len pcheck
  ite (h.trans (report ..)) (ite h (h.trans (report ..)))
theorem moveStage (s : State) (k : Nat) (u : UStage) : s.flashes (s.moveStage k u) := writeStage ..
theorem programSlot (s : State) (k n : Nat) : s.flashes (s.programSlot k n) := foldl (fun s _ => eraseSector s _) _ s
theorem countRetries (s : State) (k : Nat) (l : List (Fin 384 × BitVec 16)) : s.flashes (s.countRetries k l) :=
  (foldl (fun s _ => updFlash s rfl) l s).trans (setRetries _ _)
theorem retireSector (s : State) (n : Nat) : s.flashes (s.retireSector n) :=
  ite ((updFlash s rfl).trans (report ..)) ((updFlash s rfl).trans (report ..))

theorem job {s t : State} (h : s.flashes t) : t.cfg.job = s.cfg.job := (congrArg Cfg.job h.cfg).trans rfl
theorem mc {s t : State} (h : s.flashes t) (k : Nat) : t.mc k = s.mc k :=
  congrArg (fun m : Map Nat => Map.get m 0 k) ((congrArg Cfg.mc h.cfg).trans rfl)
theorem rollback {s t : State} (h : s.flashes t) : t.cfg.rollback = s.cfg.rollback := (congrArg Cfg.rollback h.cfg).trans rfl

end State.flashes

/-! ### The commands from the host (R444, R445) -/

section
variable {s : State}

theorem updCmd_of_free (hm : s.dev.mode.idleToDerate = true) (hj : s.cfg.job = none) (act : State → State) :
    s.updCmd act = .next (act s) := if_pos (by simp [hm, hj])
theorem updCmd_of_early (h : s.dev.mode.configured = false) (act : State → State) : s.updCmd act = .next s :=
  (if_neg (by simp [Mode.idleToDerate, h])).trans (if_neg (by simp [h]))
theorem updCmd_of_busy (h : s.dev.mode.configured = true) (hb : s.dev.mode = .safe ∨ s.cfg.job ≠ none) (act : State → State) :
    s.updCmd act = .next (s.accState 0x5005C) := by
  refine (if_neg ?_).trans (if_pos h)
  obtain hb | hb := hb
  · simp [hb, Mode.idleToDerate]
  · simp [hb]

/-- What UPD_DOWNLOAD does once it is accepted. -/
def State.hostDownload (s : State) (bay : Bool) : State :=
  if s.rsize 0 < s.reg 0x50050 + 2 ^ 32 * s.reg 0x50054 + s.reg 0x50058 then
    ((s.startDownload false bay (s.reg 0x50050 + 2 ^ 32 * s.reg 0x50054) (s.reg 0x50058)).regionFault 0
      (s.reg 0x50050 + 2 ^ 32 * s.reg 0x50054)).abortJob 0x41
  else s.startDownload false bay (s.reg 0x50050 + 2 ^ 32 * s.reg 0x50054) (s.reg 0x50058)

theorem exec_updDownload_eq (bay : Bool) (s : State) : exec (.updDownload bay) s = s.updCmd (fun u => u.hostDownload bay) := rfl
theorem exec_updActivate_eq (s : State) : exec .updActivate s = s.updCmd (fun u => u.activate false) := rfl
theorem exec_updConfirm_eq (s : State) : exec .updConfirm s = s.updCmd (fun u => u.confirmTrial false) := rfl

/-! ### DOWNLOAD begins (R444) -/

/-- The slot and the record of a DOWNLOAD that begins. -/
def State.downloadJob (s : State) (csp bay : Bool) (off len : Nat) : UpdJob :=
  { slot := if bay then 2 else s.targetSlot, cseq := s.topCseq + 1, csp := csp, off := off, len := len, bytes := [], ended := false }
/-- The slot's stage is DOWNLOAD, and its package is gone. -/
def State.slotOpened (s : State) (k len : Nat) : State :=
  (s.writeStage k .download (s.topCseq + 1) len 0).updFlash (fun f => { f with slots := Map.del f.slots k })

theorem slotOpened_keeps {k len : Nat} : s.keeps (s.slotOpened k len) [.cfg, .fm] := by
  have h := (State.flashes.writeStage s k .download (s.topCseq + 1) len 0).keeps
  exact keeps_trans h (by simp [State.keeps_iff, State.slotOpened, State.updFlash])

theorem startDownload_of_permitted {csp bay : Bool} {off len : Nat} (hj : s.cfg.job = none)
    (hl : lcPermits s.cfg.lc (if bay then .updateBay else .update) = true) : s.startDownload csp bay off len =
      { s.slotOpened (if bay then 2 else s.targetSlot) len with
        cfg := { (s.slotOpened (if bay then 2 else s.targetSlot) len).cfg with
          job := some (s.downloadJob csp bay off len), updStage := .download, updResult := 0, updCsp := csp, progress := 0
          trial := (s.slotOpened (if bay then 2 else s.targetSlot) len).cfg.trial &&
            decide ((s.slotOpened (if bay then 2 else s.targetSlot) len).cfg.bootSrc ≠ (if bay then 2 else s.targetSlot) + 1) } } :=
  (if_neg (by simp [hj])).trans (if_neg (by simp [hl]))

theorem startDownload_frame {csp bay : Bool} {off len : Nat} (hj : s.cfg.job = none)
    (hl : lcPermits s.cfg.lc (if bay then .updateBay else .update) = true) :
    (s.startDownload csp bay off len).cfg.job = some (s.downloadJob csp bay off len) ∧
    (s.startDownload csp bay off len).cfg.updStage = .download ∧ s.keeps (s.startDownload csp bay off len) [.cfg, .fm] := by
  rw [startDownload_of_permitted hj hl]
  exact ⟨rfl, rfl, keeps_trans (slotOpened_keeps (k := if bay then 2 else s.targetSlot) (len := len)) (by simp [State.keeps_iff])⟩

theorem startDownload_of_busy {csp bay : Bool} {off len : Nat} (hj : s.cfg.job ≠ none) :
    s.startDownload csp bay off len = s.updDone csp 0x42 none := if_pos (Option.isSome_iff_ne_none.mpr hj)
theorem startDownload_of_refused {csp bay : Bool} {off len : Nat} (hj : s.cfg.job = none)
    (hl : lcPermits s.cfg.lc (if bay then .updateBay else .update) = false) :
    s.startDownload csp bay off len = s.updDone csp 0x09 none := (if_neg (by simp [hj])).trans (if_pos hl)

/-! ### ACTIVATE and CONFIRM (R445) -/

theorem updDone_keeps {csp : Bool} {r : Nat} {u : Option UStage} : s.keeps (s.updDone csp r u) [.cfg, .fm] := by
  simp [State.keeps_iff, State.updDone]

theorem activate_of_none {csp : Bool} (hj : s.cfg.job = none)
    (h : [0, 1].find? (fun k => decide ((s.stageRec k).stage = .verified)) = none) : s.activate csp = s.updDone csp 0x43 none := by
  refine (if_neg (by simp [hj])).trans ?_
  rw [h]

/-- The check of a verified copy at ACTIVATE. -/
def State.activateCheck (s : State) (k : Nat) : Nat := s.checkCopy kConfig (slotBytes k) .update (s.slotData k) false

theorem activate_of_some {csp : Bool} {k : Nat} (hj : s.cfg.job = none)
    (h : [0, 1].find? (fun k => decide ((s.stageRec k).stage = .verified)) = some k) : s.activate csp =
      if s.activateCheck k = 0 then (s.moveStage k .activated).updDone csp 0 (some .activated)
      else ((s.moveStage k .aborted).report 0x0407 clsEvent 0 none (k + 2 ^ 8 * s.activateCheck k)).updDone csp (s.activateCheck k)
        (some .aborted) := by
  refine (if_neg (by simp [hj])).trans ?_
  rw [h]
  rfl

theorem activate_frame {csp : Bool} {k : Nat} (hj : s.cfg.job = none)
    (h : [0, 1].find? (fun k => decide ((s.stageRec k).stage = .verified)) = some k) :
    ((s.activate csp).cfg.updStage = .activated ∨ (s.activate csp).cfg.updStage = .aborted) ∧
    ((s.activate csp).cfg.updResult = 0 ↔ (s.activate csp).cfg.updStage = .activated) ∧ s.keeps (s.activate csp) [.cfg, .fm] := by
  rw [activate_of_some hj h]
  by_cases hc : s.activateCheck k = 0
  · rw [if_pos hc]
    exact ⟨.inl rfl, ⟨fun _ => rfl, fun _ => rfl⟩, keeps_trans (State.flashes.moveStage ..).keeps updDone_keeps⟩
  · rw [if_neg hc]
    exact ⟨.inr rfl, ⟨fun e => absurd e hc, fun e => by cases e⟩,
      keeps_trans ((State.flashes.moveStage ..).trans (.report ..)).keeps updDone_keeps⟩

/-! ### Counters (R448) -/

theorem raiseMc_frame (s : State) (k v : Nat) : (s.raiseMc k v).mc k = v ∧ (∀ j, j ≠ k → (s.raiseMc k v).mc j = s.mc j) ∧
    s.keeps (s.raiseMc k v) [.cfg, .fm] := by
  have heq : s.raiseMc k v = ({ s with cfg := { s.cfg with mc := Map.set s.cfg.mc k v } } : State).recordState (s.cfg.lcNext.getD s.cfg.lc) :=
    rfl
  have hf := State.flashes.recordState { s with cfg := { s.cfg with mc := Map.set s.cfg.mc k v } } (s.cfg.lcNext.getD s.cfg.lc)
  rw [heq]
  exact ⟨(hf.mc k).trans (Map.get_set_self _ _ _ _), fun j hj => (hf.mc j).trans (Map.get_set_ne _ _ _ hj),
    keeps_trans (t := { s with cfg := { s.cfg with mc := Map.set s.cfg.mc k v } }) (by simp [State.keeps_iff]) hf.keeps⟩

/-- The trial is over and the stage CONFIRMED, before the counter. -/
def State.trialOver (s : State) : State :=
  { s.moveStage (s.cfg.bootSrc - 1) .confirmed with cfg := { (s.moveStage (s.cfg.bootSrc - 1) .confirmed).cfg with trial := false } }
/-- MC0 is at least the loaded copy's ROLLBACK. -/
def State.mcFollows (s : State) : State := if s.mc 0 < s.cfg.rollback then s.raiseMc 0 s.cfg.rollback else s

theorem confirmTrial_of_trial {csp : Bool} (hj : s.cfg.job = none) (hb : s.cfg.bootSrc = 1 ∨ s.cfg.bootSrc = 2)
    (ht : (s.stageRec (s.cfg.bootSrc - 1)).stage = .trial) : s.confirmTrial csp = s.trialOver.mcFollows.updDone csp 0 (some .confirmed) :=
  (if_neg (by simp [hj])).trans (if_pos ⟨hb, ht⟩)

theorem raiseMc_cfg (s : State) (k v : Nat) : (s.raiseMc k v).cfg.trial = s.cfg.trial := by
  have hf := State.flashes.recordState { s with cfg := { s.cfg with mc := Map.set s.cfg.mc k v } } (s.cfg.lcNext.getD s.cfg.lc)
  exact (congrArg Cfg.trial hf.cfg).trans rfl

theorem mcFollows_frame (s : State) : s.mcFollows.cfg.trial = s.cfg.trial ∧ s.cfg.rollback ≤ s.mcFollows.mc 0 ∧ s.mc 0 ≤ s.mcFollows.mc 0 ∧
    s.keeps s.mcFollows [.cfg, .fm] := by
  unfold State.mcFollows
  by_cases h : s.mc 0 < s.cfg.rollback
  · obtain ⟨h1, -, h3⟩ := raiseMc_frame s 0 s.cfg.rollback
    rw [if_pos h, h1]
    exact ⟨raiseMc_cfg s 0 _, Nat.le_refl _, Nat.le_of_lt h, h3⟩
  · rw [if_neg h]
    exact ⟨rfl, Nat.le_of_not_lt h, Nat.le_refl _, keeps_refl⟩

theorem confirmTrial_frame {csp : Bool} (hj : s.cfg.job = none) (hb : s.cfg.bootSrc = 1 ∨ s.cfg.bootSrc = 2)
    (ht : (s.stageRec (s.cfg.bootSrc - 1)).stage = .trial) :
    (s.confirmTrial csp).cfg.updStage = .confirmed ∧ (s.confirmTrial csp).cfg.updResult = 0 ∧ (s.confirmTrial csp).cfg.trial = false ∧
    s.cfg.rollback ≤ (s.confirmTrial csp).mc 0 ∧ s.mc 0 ≤ (s.confirmTrial csp).mc 0 ∧ s.keeps (s.confirmTrial csp) [.cfg, .fm] := by
  have hf := State.flashes.moveStage s (s.cfg.bootSrc - 1) .confirmed
  have hroll : s.trialOver.cfg.rollback = s.cfg.rollback := hf.rollback
  have hmc : s.trialOver.mc 0 = s.mc 0 := hf.mc 0
  have hk : s.keeps s.trialOver [.cfg, .fm] := keeps_trans hf.keeps (by simp [State.keeps_iff, State.trialOver])
  obtain ⟨h1, h2, h3, h4⟩ := mcFollows_frame s.trialOver
  rw [hroll] at h2
  rw [hmc] at h3
  rw [confirmTrial_of_trial hj hb ht]
  exact ⟨rfl, rfl, h1, h2, h3, keeps_trans hk (keeps_trans h4 updDone_keeps)⟩

/-! ### DOWNLOAD ends (R437, R444) -/

theorem abortJob_keeps {r : Nat} : s.keeps (s.abortJob r) [.cfg, .fm] := (State.freezes.abortJob s r).keeps

theorem abortJob_slots (s : State) (r : Nat) : (s.abortJob r).cfg.flash.slots = s.cfg.flash.slots := by
  unfold State.abortJob
  split
  · rfl
  next j _ => exact (State.flashes.writeStage s j.slot .aborted j.cseq (s.stageRec j.slot).len (s.stageRec j.slot).pcheck).slots

/-- The check of a package that has been programmed. -/
def State.downloadCheck (s : State) (j : UpdJob) (bs : List Byte) : Nat :=
  s.checkCopy (slotKind j.slot) (slotBytes j.slot) (if j.slot = 2 then OlpPath.updateBay else OlpPath.update) bs false
/-- A DOWNLOAD has ended VERIFIED. -/
def State.downloadVerified (s : State) (j : UpdJob) (bs : List Byte) : State :=
  let u := s.writeStage j.slot .verified j.cseq (olpLength bs) (olpPcheck bs)
  ({ u with cfg := { u.cfg with job := none } }).updDone j.csp 0 (some .verified)

theorem verifyDownload_eq (s : State) (j : UpdJob) (bs : List Byte) : s.verifyDownload j bs =
    if s.downloadCheck j bs = 0 then s.downloadVerified j bs else s.abortJob (s.downloadCheck j bs) := rfl

theorem downloadVerified_keeps {j : UpdJob} {bs : List Byte} : s.keeps (s.downloadVerified j bs) [.cfg, .fm] :=
  keeps_trans (State.flashes.writeStage s j.slot .verified j.cseq (olpLength bs) (olpPcheck bs)).keeps (by
    simp [State.keeps_iff, State.downloadVerified, State.updDone])

theorem verifyDownload_keeps {j : UpdJob} {bs : List Byte} : s.keeps (s.verifyDownload j bs) [.cfg, .fm] :=
  keeps_ite downloadVerified_keeps abortJob_keeps

theorem verifyDownload_frame {j i : UpdJob} {bs : List Byte} (hj : s.cfg.job = some i) : (s.verifyDownload j bs).cfg.job = none ∧
    (s.verifyDownload j bs).cfg.flash.slots = s.cfg.flash.slots ∧
    ((s.verifyDownload j bs).cfg.updStage = .verified ∨ (s.verifyDownload j bs).cfg.updStage = .aborted) ∧
    ((s.verifyDownload j bs).cfg.updResult = 0 ↔ (s.verifyDownload j bs).cfg.updStage = .verified) := by
  rw [verifyDownload_eq]
  by_cases hc : s.downloadCheck j bs = 0
  · rw [if_pos hc]
    exact ⟨rfl, (State.flashes.writeStage s j.slot .verified j.cseq (olpLength bs) (olpPcheck bs)).slots, .inl rfl,
      ⟨fun _ => rfl, fun _ => rfl⟩⟩
  · obtain ⟨h1, h2, h3⟩ := abortJob_frame hj (s.downloadCheck j bs)
    rw [if_neg hc]
    exact ⟨h1, abortJob_slots _ _, .inr h2, ⟨fun e => absurd (h3.symm.trans e) hc, fun e => by rw [h2] at e; cases e⟩⟩

/-- The `n` sectors of the slot have been programmed with the package. -/
def State.slotFilled (s : State) (k n : Nat) (bs : List Byte) : State :=
  ((s.programSlot k n).updFlash (fun f => { f with slots := Map.set f.slots k bs })).progressAt n
/-- A sector of the slot has failed for good. -/
def State.sectorLost (s : State) (k i : Nat) : State :=
  ((s.programSlot k (i + 1)).progressAt i).retireSector (slotSector k + i)
/-- A package of `n` sectors is programmed, up to the sector that fails. -/
def State.downloadEnds (s : State) (j : UpdJob) (bs : List Byte) (n : Nat) (rs : List (Fin 384 × BitVec 16)) (f : Option Nat) : State :=
  if (List.range n).any (fun i => s.cfg.flash.noSpare.contains (slotSector j.slot + i)) then s.abortJob 0x40
  else f.elim (((s.countRetries j.slot rs).slotFilled j.slot n bs).verifyDownload j bs)
    (fun i => if i < n then ((s.countRetries j.slot rs).sectorLost j.slot i).abortJob 0x41 else s.countRetries j.slot rs)

theorem finishDownload_eq (s : State) (j : UpdJob) (bs : List Byte) (rs : List (Fin 384 × BitVec 16)) (f : Option Nat) :
    s.finishDownload j bs rs f = s.downloadEnds j (bs.take (slotBytes j.slot)) (sectorsOf (bs.take (slotBytes j.slot)).length) rs f := by
  unfold State.finishDownload
  dsimp only
  generalize sectorsOf (bs.take (slotBytes j.slot)).length = n
  cases f with
  | none => rfl
  | some i => rfl

theorem slotFilled_keeps {k n : Nat} {bs : List Byte} : s.keeps (s.slotFilled k n bs) [.cfg, .fm] := by
  unfold State.slotFilled
  exact keeps_trans (State.flashes.programSlot s k n).keeps (keeps_trans updFlash_keeps (State.flashes.setProgress _ n).keeps)
theorem sectorLost_keeps {k i : Nat} : s.keeps (s.sectorLost k i) [.cfg, .fm] := by
  unfold State.sectorLost
  exact (((State.flashes.programSlot s k (i + 1)).trans (.setProgress _ i)).trans (.retireSector _ _)).keeps

theorem downloadEnds_keeps {j : UpdJob} {bs : List Byte} {n : Nat} {rs : List (Fin 384 × BitVec 16)} {f : Option Nat} :
    s.keeps (s.downloadEnds j bs n rs f) [.cfg, .fm] := by
  have hc := (State.flashes.countRetries s j.slot rs).keeps
  refine keeps_ite abortJob_keeps ?_
  cases f with
  | none => exact keeps_trans (keeps_trans hc slotFilled_keeps) verifyDownload_keeps
  | some i => exact keeps_ite (keeps_trans (keeps_trans hc sectorLost_keeps) abortJob_keeps) hc

theorem finishDownload_keeps {j : UpdJob} {bs : List Byte} {rs : List (Fin 384 × BitVec 16)} {f : Option Nat} :
    s.keeps (s.finishDownload j bs rs f) [.cfg, .fm] := finishDownload_eq s j bs rs f ▸ downloadEnds_keeps

theorem downloadEnds_frame {j : UpdJob} {bs : List Byte} {n : Nat} {rs : List (Fin 384 × BitVec 16)} (hj : s.cfg.job = some j)
    (hn : s.cfg.flash.noSpare = []) : (s.downloadEnds j bs n rs none).cfg.job = none ∧
    Map.get (s.downloadEnds j bs n rs none).cfg.flash.slots [] j.slot = bs ∧
    ((s.downloadEnds j bs n rs none).cfg.updStage = .verified ∨ (s.downloadEnds j bs n rs none).cfg.updStage = .aborted) ∧
    ((s.downloadEnds j bs n rs none).cfg.updResult = 0 ↔ (s.downloadEnds j bs n rs none).cfg.updStage = .verified) := by
  have hf := (State.flashes.countRetries s j.slot rs).trans (.programSlot (s.countRetries j.slot rs) j.slot n)
  have hjob : ((s.countRetries j.slot rs).slotFilled j.slot n bs).cfg.job = some j := hf.job.trans hj
  have hslot : Map.get ((s.countRetries j.slot rs).slotFilled j.slot n bs).cfg.flash.slots [] j.slot = bs := Map.get_set_self _ _ _ _
  rw [State.downloadEnds, if_neg (by simp [hn]), Option.elim_none]
  obtain ⟨h1, h2, h3, h4⟩ := verifyDownload_frame (j := j) (bs := bs) hjob
  exact ⟨h1, h2 ▸ hslot, h3, h4⟩
end

/-! ### DOWNLOAD programs its slot -/

section
variable {s : State} {rs : List (Fin 384 × BitVec 16)} {f : Option (Fin 384)} {j : UpdJob}

theorem exec_downloadComplete_of_none (h : s.cfg.job = none) : exec (.downloadComplete rs f) s = .next s := by
  rw [exec_downloadComplete, execDownloadComplete, h]

theorem exec_downloadComplete_of_some (h : s.cfg.job = some j) : exec (.downloadComplete rs f) s =
    if j.csp then
      if j.ended then .next (s.finishDownload j j.bytes rs (f.map (fun x => x.val))) else .next s
    else if s.rangePoisoned (s.rbase 0 + j.off) j.len then .next (s.abortJob 0x41)
    else .next (s.finishDownload j (s.ds.readBytes (s.rbase 0 + j.off) j.len) rs (f.map (fun x => x.val))) := by
  rw [exec_downloadComplete, execDownloadComplete, h]

theorem updates_complete (h : s.cfg.job = some j) :
    (j.csp = true → j.ended = false → Runs (.downloadComplete rs f) s (fun t => t = s)) ∧
    (j.csp = true → j.ended = true →
      Runs (.downloadComplete rs f) s (fun t => t = s.finishDownload j j.bytes rs (f.map (fun x => x.val)) ∧ s.keeps t [.cfg, .fm])) ∧
    (j.csp = false → s.rangePoisoned (s.rbase 0 + j.off) j.len = false → Runs (.downloadComplete rs f) s (fun t =>
      t = s.finishDownload j (s.ds.readBytes (s.rbase 0 + j.off) j.len) rs (f.map (fun x => x.val)) ∧ s.keeps t [.cfg, .fm])) ∧
    (j.csp = false → s.rangePoisoned (s.rbase 0 + j.off) j.len = true → Runs (.downloadComplete rs f) s (fun t =>
      t.cfg.job = none ∧ t.cfg.updStage = .aborted ∧ t.cfg.updResult = 0x41 ∧ s.keeps t [.cfg, .fm])) := by
  have he := exec_downloadComplete_of_some (rs := rs) (f := f) h
  refine ⟨fun hc hn => ?_, fun hc hn => ?_, fun hc hp => ?_, fun hc hp => ?_⟩
  · exact Runs.of (he.trans ((if_pos hc).trans (if_neg (by simp [hn])))) rfl
  · exact Runs.of (he.trans ((if_pos hc).trans (if_pos hn))) ⟨rfl, finishDownload_keeps⟩
  · exact Runs.of (he.trans ((if_neg (by simp [hc])).trans (if_neg (by simp [hp])))) ⟨rfl, finishDownload_keeps⟩
  · obtain ⟨h1, h2, h3⟩ := abortJob_frame h 0x41
    exact Runs.of (he.trans ((if_neg (by simp [hc])).trans (if_pos hp))) ⟨h1, h2, h3, abortJob_keeps⟩

/-! ### The commands from the host -/

theorem updates_outside {bay : Bool} (hm : s.dev.mode.idleToDerate = true) (hj : s.cfg.job = none)
    (hr : s.rsize 0 < s.reg 0x50050 + 2 ^ 32 * s.reg 0x50054 + s.reg 0x50058)
    (hl : lcPermits s.cfg.lc (if bay then .updateBay else .update) = true) :
    Runs (.updDownload bay) s (fun t => t.cfg.job = none ∧ t.cfg.updStage = .aborted ∧ t.cfg.updResult = 0x41 ∧ s.keeps t [.cfg, .fm]) := by
  obtain ⟨hjob, -, hk⟩ := startDownload_frame (csp := false) (off := s.reg 0x50050 + 2 ^ 32 * s.reg 0x50054) (len := s.reg 0x50058) hj hl
  have hd : s.hostDownload bay = ((s.startDownload false bay (s.reg 0x50050 + 2 ^ 32 * s.reg 0x50054) (s.reg 0x50058)).regionFault 0
    (s.reg 0x50050 + 2 ^ 32 * s.reg 0x50054)).abortJob 0x41 := if_pos hr
  have he := (exec_updDownload_eq bay s).trans (updCmd_of_free hm hj _)
  rw [hd] at he
  generalize s.startDownload false bay (s.reg 0x50050 + 2 ^ 32 * s.reg 0x50054) (s.reg 0x50058) = u at he hjob hk
  obtain ⟨h1, h2, h3⟩ := abortJob_frame (s := u.regionFault 0 (s.reg 0x50050 + 2 ^ 32 * s.reg 0x50054)) hjob 0x41
  exact Runs.of he ⟨h1, h2, h3, keeps_trans hk (keeps_trans (keeps_mono report_keeps (by decide)) abortJob_keeps)⟩

/-- The commands of the host that reach the update job (Table 15-13). -/
theorem updates_commands {bay : Bool} {c : Instr} (hc : c ∈ [Instr.updDownload bay, .updActivate, .updConfirm]) :
    ∃ act : State → State, ∀ s : State, exec c s = s.updCmd act := by
  simp only [List.mem_cons, List.not_mem_nil, or_false] at hc
  obtain rfl | rfl | rfl := hc
  · exact ⟨_, exec_updDownload_eq bay⟩
  · exact ⟨_, exec_updActivate_eq⟩
  · exact ⟨_, exec_updConfirm_eq⟩

theorem updates_begins {csp bay : Bool} {off len : Nat} (hj : s.cfg.job = none)
    (hl : lcPermits s.cfg.lc (if bay then .updateBay else .update) = true) :
    (∃ j, (s.startDownload csp bay off len).cfg.job = some j ∧ j.slot = (if bay then 2 else s.targetSlot) ∧ j.cseq = s.topCseq + 1 ∧
      j.csp = csp ∧ j.off = off ∧ j.len = len ∧ j.bytes = []) ∧ (s.startDownload csp bay off len).cfg.updStage = .download ∧
      s.keeps (s.startDownload csp bay off len) [.cfg, .fm] := by
  obtain ⟨h1, h2, h3⟩ := startDownload_frame (csp := csp) (off := off) (len := len) hj hl
  exact ⟨⟨s.downloadJob csp bay off len, h1, rfl, rfl, rfl, rfl, rfl, rfl⟩, h2, h3⟩

/-! ### The monotonic counters (R448) -/

theorem exec_mcRaise_of_configured {k : BitVec 2} (h : s.dev.mode.configured = true) : exec (.mcRaise k) s =
    if k = 0 ∨ s.reg 0x50040 < s.mc k.toNat then .next (s.accValue 0x50044)
    else if s.reg 0x50040 = s.mc k.toNat then .next s
    else .next (s.raiseMc k.toNat (s.reg 0x50040)) := (exec_mcRaise k s).trans (if_neg (by simp [h]))

theorem updates_counters {k : BitVec 2} (h : s.dev.mode.configured = true) :
    ((k = 0 ∨ s.reg 0x50040 < s.mc k.toNat) → Runs (.mcRaise k) s (fun t => t = s.accValue 0x50044 ∧ s.keeps t [.fm])) ∧
    (k ≠ 0 → s.reg 0x50040 = s.mc k.toNat → Runs (.mcRaise k) s (fun t => t = s)) ∧
    (k ≠ 0 → s.mc k.toNat < s.reg 0x50040 → Runs (.mcRaise k) s (fun t => t.mc k.toNat = s.reg 0x50040 ∧
      (∀ j, j ≠ k.toNat → t.mc j = s.mc j) ∧ s.keeps t [.cfg, .fm])) := by
  have he := exec_mcRaise_of_configured (k := k) h
  refine ⟨fun hr => ?_, fun hk hv => ?_, fun hk hv => ?_⟩
  · exact Runs.of (he.trans (if_pos hr)) ⟨rfl, report_keeps⟩
  · exact Runs.of (he.trans ((if_neg (not_or.mpr ⟨hk, by omega⟩)).trans (if_pos hv))) rfl
  · exact Runs.of (he.trans ((if_neg (not_or.mpr ⟨hk, by omega⟩)).trans (if_neg (by omega)))) (raiseMc_frame ..)
end

/-- Settles O53: each operation begins only with no other in progress (`updCmd_of_*`, `startDownload_of_*`), every stage that follows
is a write of the flash (`State.flashes`), and a counter is written only with a value above its own (`raiseMc_frame`). -/
theorem updates : Obligations.Updates := by
  refine ⟨fun bay s hm hj hr => ?_, fun bay s hm hj hr hl => updates_outside hm hj hr hl, fun bay c s hc hm => ?_,
    fun s hm hj => ⟨?_, ?_⟩, fun bay c s hc hm hb => ?_, fun csp bay off len s hj hl => updates_begins hj hl,
    fun csp bay off len s => ⟨fun hj => ?_, fun hj hl => ?_⟩, fun csp s hj => ⟨fun h => ?_, fun k h => activate_frame hj h⟩,
    fun csp s hj hb ht => confirmTrial_frame hj hb ht, fun rs f s hj => Runs.of (exec_downloadComplete_of_none hj) rfl,
    fun rs f j s hj => updates_complete hj, fun rs j bs s hj hn => finishDownload_eq s j bs rs none ▸ downloadEnds_frame hj hn,
    fun k s hm => Runs.of ((exec_mcRaise k s).trans (if_pos hm)) rfl, fun k s hm => updates_counters hm⟩
  · have hd := (updCmd_of_free hm hj fun u => u.hostDownload bay).trans (congrArg Host.Outcome.next (if_neg (Nat.not_lt.mpr hr)))
    exact Runs.of ((exec_updDownload_eq bay s).trans hd) rfl
  · obtain ⟨act, h⟩ := updates_commands hc
    exact Runs.of ((h s).trans (updCmd_of_early hm act)) rfl
  · exact Runs.of ((exec_updActivate_eq s).trans (updCmd_of_free hm hj _)) rfl
  · exact Runs.of ((exec_updConfirm_eq s).trans (updCmd_of_free hm hj _)) rfl
  · obtain ⟨act, h⟩ := updates_commands hc
    exact Runs.of ((h s).trans (updCmd_of_busy hm hb act)) ⟨rfl, report_keeps⟩
  · exact (congrArg State.cfg (startDownload_of_busy hj)).trans rfl
  · exact (congrArg State.cfg (startDownload_of_refused hj hl)).trans rfl
  · exact (congrArg State.cfg (activate_of_none hj h)).trans rfl

end Sys2Proof.Machine
end


section
/-! PROOF. Sorrel's reads (R431, R434) and the Sage unit (R464, R465): what a frame's error, a test and a life-cycle write leave (O54). -/

namespace Sys2Proof.Machine

/-! ### Sorrel's reads (R431) -/

section
variable {s : State} {f : ErrFound} {a : Nat}

/-- Sorrel stands at frame `a`. -/
def State.sorrelAt (s : State) (a : Nat) : State := { s with cfg := { s.cfg with pos := some a } }
/-- One bit of a frame has been corrected (R431). -/
def State.sorrelCe (s : State) (a : Nat) : State :=
  ({ s with cfg := { s.cfg with ce := satInc s.cfg.ce 0xFFFF } } : State).report 0x0404 clsCorrected 0 none a
/-- A frame that cannot be corrected is counted. -/
def State.ueCounted (s : State) : State := { s with cfg := { s.cfg with ue := satInc s.cfg.ue 0xFF } }
/-- The frame joins those that do not present themselves as good. -/
def State.frameBad (s : State) (a : Nat) : State :=
  { s with cfg := { s.cfg with bad := if s.cfg.bad.contains a then s.cfg.bad else s.cfg.bad ++ [a] } }

theorem exec_sorrel_of_early (h : s.dev.mode.configured = false) : exec (.sorrelFrameRead f) s = .next s :=
  (exec_sorrelFrameRead f s).trans (if_pos h)
theorem exec_sorrel_of_none (h : s.nextFrame = none) : exec (.sorrelFrameRead f) s = .next s := by
  rw [exec_sorrelFrameRead, execSorrelFrameRead, h]
  exact ite_self _
theorem exec_sorrel_clean (hm : s.dev.mode.configured = true) (h : s.nextFrame = some a) :
    exec (.sorrelFrameRead .clean) s = .next (s.sorrelAt a) := by
  rw [exec_sorrelFrameRead, execSorrelFrameRead, h]
  exact if_neg (by simp [hm])
theorem exec_sorrel_single (hm : s.dev.mode.configured = true) (h : s.nextFrame = some a) :
    exec (.sorrelFrameRead .single) s = .next ((s.sorrelAt a).sorrelCe a) := by
  rw [exec_sorrelFrameRead, execSorrelFrameRead, h]
  exact if_neg (by simp [hm])
theorem exec_sorrel_ue (hm : s.dev.mode.configured = true) (h : s.nextFrame = some a) (hf : f ∈ [ErrFound.double, .multi]) :
    exec (.sorrelFrameRead f) s = .next ((s.sorrelAt a).sorrelUe a) := by
  rw [exec_sorrelFrameRead, execSorrelFrameRead, h, if_neg (by simp [hm])]
  simp only [List.mem_cons, List.not_mem_nil, or_false] at hf
  obtain rfl | rfl := hf
  · rfl
  · rfl

theorem sorrelUe_of_core (h : frameSpace a = 0) : s.sorrelUe a = (s.ueCounted.report 0x0405 clsDevice 0 none a).enterSafe .config := if_pos h
theorem sorrelUe_of_safe (h : frameSpace a ≠ 0) (hm : s.dev.mode = .safe) : s.sorrelUe a = s.ueCounted.report 0x0405 clsDegraded 0 none a :=
  (if_neg h).trans (if_pos hm)
theorem sorrelUe_of_space (h : frameSpace a ≠ 0) (hm : s.dev.mode ≠ .safe) :
    s.sorrelUe a = ((s.ueCounted.report 0x0405 clsDegraded 0 none a).frameBad a).spaceError (frameSpace a) true :=
  (if_neg h).trans (if_neg hm)

theorem ueReported_keeps {c k u d : Nat} {x : Option Nat} : s.keeps (s.ueCounted.report c k u x d) [.cfg, .fm] :=
  keeps_trans (t := s.ueCounted) (by simp [State.keeps_iff, State.ueCounted]) (keeps_mono report_keeps (by decide))
theorem sorrelAt_keeps : s.keeps (s.sorrelAt a) [.cfg] := by simp [State.keeps_iff, State.sorrelAt]

/-- In SAFE an error is counted and, outside the core, recorded. -/
theorem sorrelUe_safe_frame (hm : s.dev.mode = .safe) : (s.sorrelUe a).cfg = { s.cfg with ue := satInc s.cfg.ue 0xFF } ∧
    (s.sorrelUe a).dev = s.dev ∧ (frameSpace a ≠ 0 → s.reported (s.sorrelUe a) 0x0405 4 0 none a) ∧ s.keeps (s.sorrelUe a) [.cfg, .fm] := by
  by_cases h : frameSpace a = 0
  · rw [sorrelUe_of_core h, enterSafe_of_not (s := s.ueCounted.report 0x0405 clsDevice 0 none a) (congrArg Mode.maySafe hm)]
    exact ⟨rfl, rfl, fun h0 => absurd h h0, ueReported_keeps⟩
  · rw [sorrelUe_of_safe h hm]
    exact ⟨rfl, rfl, fun _ => rfl, ueReported_keeps⟩

theorem frameBad_keeps : s.keeps (s.frameBad a) [.cfg, .fm] := by simp [State.keeps_iff, State.frameBad]
theorem mem_bad_frameBad : a ∈ (s.frameBad a).cfg.bad := by
  unfold State.frameBad
  dsimp only
  split
  next h => exact List.contains_iff_mem.mp h
  next => exact List.mem_append_right _ (List.mem_singleton_self a)

theorem spaceError_of_noBanks {sp : Nat} (h : s.spaceBanks sp = []) (hold : Bool) : s.spaceError sp hold =
    if 3 ≤ sp then { s with edg := { s.edg with loaded := s.edg.loaded.filter (fun x => decide (x ≠ sp - 3)) } } else s := by
  rw [State.spaceError, h]
  rfl

theorem spaceError_noBanks_frame {sp : Nat} (h : s.spaceBanks sp = []) (hold : Bool) :
    (3 ≤ sp → sp - 3 ∉ (s.spaceError sp hold).edg.loaded) ∧ s.keeps (s.spaceError sp hold) [.edg] := by
  rw [spaceError_of_noBanks h]
  refine ⟨fun hs => ?_, keeps_ite (by simp [State.keeps_iff]) keeps_refl⟩
  rw [if_pos hs]
  simp

theorem sorrelUe_space_frame (h : frameSpace a ≠ 0) (hm : s.dev.mode ≠ .safe) (hb : s.spaceBanks (frameSpace a) = []) :
    a ∈ (s.sorrelUe a).cfg.bad ∧ (s.sorrelUe a).cfg.ue = satInc s.cfg.ue 0xFF ∧
    (3 ≤ frameSpace a → frameSpace a - 3 ∉ (s.sorrelUe a).edg.loaded) ∧ (s.sorrelUe a).dev = s.dev ∧
    s.keeps (s.sorrelUe a) [.cfg, .fm, .edg] := by
  obtain ⟨hl, hk⟩ := spaceError_noBanks_frame (s := (s.ueCounted.report 0x0405 clsDegraded 0 none a).frameBad a) hb true
  have hu : s.keeps ((s.ueCounted.report 0x0405 clsDegraded 0 none a).frameBad a) [.cfg, .fm] :=
    keeps_trans ueReported_keeps frameBad_keeps
  have hcfg := hk .cfg (by decide)
  rw [sorrelUe_of_space h hm]
  refine ⟨?_, (congrArg Cfg.ue hcfg).trans rfl, hl, hk .dev (by decide), keeps_trans (keeps_mono hu (by decide)) (keeps_mono hk (by decide))⟩
  rw [show (State.spaceError _ (frameSpace a) true).cfg = _ from hcfg]
  exact mem_bad_frameBad

theorem sorrelUe_core_frame (h : frameSpace a = 0) (hm : s.dev.mode.maySafe = true) : (s.sorrelUe a).dev.mode = .safe ∧
    (s.sorrelUe a).dev.cause = .config ∧ (s.sorrelUe a).cfg.ue = satInc s.cfg.ue 0xFF ∧ (s.sorrelUe a).cfg.pos = s.cfg.pos ∧
    (s.sorrelUe a).regs = s.regs ∧ (s.sorrelUe a).ds = s.ds := by
  obtain ⟨hmode, hcause, -, -, -, -, -, hcfg, hk⟩ :=
    enterSafe_frame (s := s.ueCounted.report 0x0405 clsDevice 0 none a) hm .config
  rw [sorrelUe_of_core h]
  exact ⟨hmode, hcause, (congrArg Cfg.ue hcfg).trans rfl, (congrArg Cfg.pos hcfg).trans rfl, hk .regs (by decide), hk .ds (by decide)⟩

theorem maySafe_of_configured {m : Mode} (h : m.configured = true) (hs : m ≠ .safe) : m.maySafe = true := by
  cases m <;> simp_all [Mode.configured, Mode.maySafe]
end

theorem sageUnit_sorrel :
  (∀ (a : Nat) (s : State), s.dev.mode.configured = true → s.nextFrame = some a →
    Runs (.sorrelFrameRead .clean) s (fun t => t.cfg = { s.cfg with pos := some a } ∧ s.keeps t [.cfg]) ∧
    Runs (.sorrelFrameRead .single) s (fun t => t.cfg = { s.cfg with pos := some a, ce := satInc s.cfg.ce 0xFFFF } ∧
      s.reported t 0x0404 1 0 none a ∧ s.keeps t [.cfg, .fm]) ∧
    (∀ f ∈ [ErrFound.double, .multi], frameSpace a = 0 → s.dev.mode ≠ .safe → Runs (.sorrelFrameRead f) s (fun t => t.dev.mode = .safe ∧
      t.dev.cause = .config ∧ t.cfg.ue = satInc s.cfg.ue 0xFF ∧ t.cfg.pos = some a ∧ t.regs = s.regs ∧ t.ds = s.ds)) ∧
    (∀ f ∈ [ErrFound.double, .multi], s.dev.mode = .safe → Runs (.sorrelFrameRead f) s (fun t =>
      t.cfg = { s.cfg with pos := some a, ue := satInc s.cfg.ue 0xFF } ∧ t.dev = s.dev ∧
      (frameSpace a ≠ 0 → s.reported t 0x0405 4 0 none a) ∧ s.keeps t [.cfg, .fm])) ∧
    (∀ f ∈ [ErrFound.double, .multi], frameSpace a ≠ 0 → s.dev.mode ≠ .safe → s.spaceBanks (frameSpace a) = [] →
      Runs (.sorrelFrameRead f) s (fun t => a ∈ t.cfg.bad ∧ t.cfg.ue = satInc s.cfg.ue 0xFF ∧
        (3 ≤ frameSpace a → frameSpace a - 3 ∉ t.edg.loaded) ∧ t.dev = s.dev ∧ s.keeps t [.cfg, .fm, .edg]))) ∧
  (∀ (f : ErrFound) (s : State), s.nextFrame = none → Runs (.sorrelFrameRead f) s (fun t => t = s)) ∧
  (∀ (f : ErrFound) (s : State), s.dev.mode.configured = false → Runs (.sorrelFrameRead f) s (fun t => t = s)) := by
  refine ⟨fun a s hm hn => ⟨?_, ?_, fun f hf h hs => ?_, fun f hf hs => ?_, fun f hf h hs hb => ?_⟩,
    fun f s hn => Runs.of (exec_sorrel_of_none hn) rfl, fun f s hm => Runs.of (exec_sorrel_of_early hm) rfl⟩
  · exact Runs.of (exec_sorrel_clean hm hn) ⟨rfl, sorrelAt_keeps⟩
  · exact Runs.of (exec_sorrel_single hm hn) ⟨rfl, rfl, keeps_trans (t := s.sorrelAt a) (by simp [State.keeps_iff, State.sorrelAt])
      (keeps_trans (by simp [State.keeps_iff]) (keeps_mono report_keeps (by decide)))⟩
  · exact Runs.of (exec_sorrel_ue hm hn hf) (sorrelUe_core_frame (s := s.sorrelAt a) h (maySafe_of_configured hm hs))
  · obtain ⟨h1, h2, h3, h4⟩ := sorrelUe_safe_frame (s := s.sorrelAt a) (a := a) hs
    exact Runs.of (exec_sorrel_ue hm hn hf) ⟨h1, h2, h3, keeps_trans (keeps_mono sorrelAt_keeps (by decide)) h4⟩
  · obtain ⟨h1, h2, h3, h4, h5⟩ := sorrelUe_space_frame (s := s.sorrelAt a) h hs hb
    exact Runs.of (exec_sorrel_ue hm hn hf) ⟨h1, h2, h3, h4, keeps_trans (keeps_mono sorrelAt_keeps (by decide)) h5⟩

/-! ### A test begins (R464) -/

section
variable {s : State}

theorem sageStart_of_may {test arg : Nat} {may : Bool} (hm : s.dev.mode.configured = true) (h : s.sageMay = true) (hy : may = true) :
    s.sageStart test arg may = .next { s with sage := { s.sage with state := 1, test := test, arg := arg, fails := 0 } } :=
  (if_neg (by simp [hm])).trans (if_pos (by simp [h, hy]))
theorem sageStart_of_refused {test arg : Nat} {may : Bool} (hm : s.dev.mode.configured = true) (h : (s.sageMay && may) = false) :
    s.sageStart test arg may = .next (s.accState 0x60100) := (if_neg (by simp [hm])).trans (if_neg (by simp [h]))
theorem sageStart_of_early {test arg : Nat} {may : Bool} (hm : s.dev.mode.configured = false) : s.sageStart test arg may = .next s :=
  if_pos hm

theorem sageStart_runs {c : Instr} {test arg : Nat} {may : Bool} (he : exec c s = s.sageStart test arg may)
    (hm : s.dev.mode.configured = true) (h : s.sageMay = true) (hy : may = true) :
    Runs c s (fun t => t.sage = { s.sage with state := 1, test := test, arg := arg, fails := 0 } ∧ s.keeps t [.sage]) :=
  Runs.of (he.trans (sageStart_of_may hm h hy)) ⟨rfl, by simp [State.keeps_iff]⟩

/-- A key is burnt only in MANUFACTURE and only where none stands. -/
def State.fuseMay (s : State) (j : Nat) : Bool := decide (s.cfg.lc = 1) && s.sage.keys.all (fun e => decide (e.1 ≠ j))

theorem exec_sageKeyFuse_eq (j : Fin 4) (s : State) : exec (.sageKeyFuse j) s = s.sageStart 6 j (s.fuseMay j) := rfl

theorem fuseMay_of_free {j : Nat} (hl : s.cfg.lc = 1) (hk : ∀ e ∈ s.sage.keys, e.1 ≠ j) : s.fuseMay j = true := by
  simpa [State.fuseMay, hl] using hk
theorem fuseMay_of_taken {j : Nat} (h : s.cfg.lc ≠ 1 ∨ ∃ e ∈ s.sage.keys, e.1 = j) : s.fuseMay j = false := by
  unfold State.fuseMay
  obtain h | ⟨e, he, hj⟩ := h
  · rw [decide_eq_false h, Bool.false_and]
  · rw [List.all_eq_false.mpr ⟨e, he, by simp [hj]⟩, Bool.and_false]

theorem sageMay_iff : s.sageMay = true ↔ (s.cfg.lc = 1 ∨ s.cfg.lc = 4) ∧ s.dev.mode = .idle ∧
    (∀ e ∈ s.tenants, e.2.img = none ∧ e.2.load = none) ∧ s.sage.state ≠ 1 := by
  simp only [State.sageMay, Bool.and_eq_true, decide_eq_true_eq, List.all_eq_true, Option.isNone_iff_eq_none, and_assoc]

theorem lcMay_rises {nx : Nat} (h : s.lcMay nx = true) :
    s.cfg.lc ≠ 5 ∧ (nx = 1 ∨ nx = 2 ∨ nx = 3 ∨ nx = 4 ∨ nx = 5) ∧ (nx ≠ 5 → s.cfg.lc < nx) := by
  simp only [State.lcMay, Bool.or_eq_true, Bool.and_eq_true, decide_eq_true_eq] at h
  omega
end

/-- Every test is begun by `sageStart`; only KEY_FUSE has a condition of its own. -/
theorem sageTest_starts {n : PTileId} {k : Stack4} {j : Fin 4} {c : Instr} (hc : c ∈ [Instr.sageTileLbist n, .sageTileMbist n, .sageDsMarch k,
    .sageFuseColumn n, .sageDsHppr k, .sageKeyFuse j, .sageKeyRevoke j]) (s : State) :
    ∃ test arg may, exec c s = s.sageStart test arg may ∧ (c = .sageKeyFuse j → may = s.fuseMay j) := by
  simp only [List.mem_cons, List.not_mem_nil, or_false] at hc
  obtain rfl | rfl | rfl | rfl | rfl | rfl | rfl := hc
  · exact ⟨_, _, _, rfl, fun h => by cases h⟩
  · exact ⟨_, _, _, rfl, fun h => by cases h⟩
  · exact ⟨_, _, _, rfl, fun h => by cases h⟩
  · exact ⟨_, _, _, rfl, fun h => by cases h⟩
  · exact ⟨_, _, _, rfl, fun h => by cases h⟩
  · exact ⟨_, _, _, rfl, fun _ => rfl⟩
  · exact ⟨_, _, _, rfl, fun h => by cases h⟩

theorem sageUnit_refused {n : PTileId} {k : Stack4} {j : Fin 4} {c : Instr} {s : State} (hm : s.dev.mode.configured = true)
    (hc : c ∈ [Instr.sageTileLbist n, .sageTileMbist n, .sageDsMarch k, .sageFuseColumn n, .sageDsHppr k, .sageKeyFuse j, .sageKeyRevoke j])
    (hr : s.sageMay = false ∨ (c = .sageKeyFuse j ∧ (s.cfg.lc ≠ 1 ∨ ∃ e ∈ s.sage.keys, e.1 = j.val))) :
    Runs c s (fun t => t = s.accState 0x60100 ∧ s.keeps t [.fm]) := by
  obtain ⟨test, arg, may, he, hf⟩ := sageTest_starts hc s
  have h : (s.sageMay && may) = false := by
    obtain hr | ⟨hc, hr⟩ := hr
    · rw [hr, Bool.false_and]
    · rw [hf hc, fuseMay_of_taken hr, Bool.and_false]
  exact Runs.of (he.trans (sageStart_of_refused hm h)) ⟨rfl, report_keeps⟩

theorem sageUnit_early {n : PTileId} {k : Stack4} {j : Fin 4} {nx : BitVec 3} {key : Byte} {c : Instr} {s : State}
    (hm : s.dev.mode.configured = false) (hc : c ∈ [Instr.sageTileLbist n, .sageTileMbist n, .sageDsMarch k, .sageFuseColumn n, .sageDsHppr k,
      .sageKeyFuse j, .sageKeyRevoke j, .sageLcWrite nx key]) : Runs c s (fun t => t = s) := by
  obtain hc | rfl : c ∈ [Instr.sageTileLbist n, .sageTileMbist n, .sageDsMarch k, .sageFuseColumn n, .sageDsHppr k, .sageKeyFuse j,
      .sageKeyRevoke j] ∨ c = .sageLcWrite nx key := by
    simpa only [List.mem_cons, List.not_mem_nil, or_false, or_assoc] using hc
  · obtain ⟨test, arg, may, he, -⟩ := sageTest_starts hc s
    exact Runs.of (he.trans (sageStart_of_early hm)) rfl
  · exact Runs.of ((exec_sageLcWrite nx key s).trans (if_pos hm)) rfl

/-! ### A test ends (Table 16-10) -/

section
variable {s : State}

/-- The unit's registers at the end of a test. -/
def State.testEnded (s : State) (n : BitVec 16) (sig : DWord) : State :=
  { s with sage := { s.sage with
    state := if n = 0 then 2 else 3, fails := n.toNat
    sig := if s.sage.test = 1 then Map.set s.sage.sig s.sage.arg sig else s.sage.sig } }
/-- What a test of a tile or a stack leaves of its contents. -/
def State.testWipes (s : State) (test arg : Nat) : State :=
  if test = 1 ∨ test = 2 then s.tileWiped arg else if test = 3 then s.stackWiped arg else s
/-- The record of a test. -/
def State.testReport (s : State) (test : Nat) (n : BitVec 16) : State :=
  s.report 0x0353 clsEvent 0 none (test + 2 ^ 8 * (if n = 0 then 2 else 3) + 2 ^ 16 * n.toNat)

theorem testReport_keeps {test : Nat} {n : BitVec 16} : s.keeps (s.testReport test n) [.fm] := report_keeps
theorem testEnded_keeps {n : BitVec 16} {sig : DWord} : s.keeps (s.testEnded n sig) [.sage] := by simp [State.keeps_iff, State.testEnded]

theorem exec_sageTestDone_of_running {n : BitVec 16} {sig : DWord} (h : s.sage.state = 1) : exec (.sageTestDone n sig) s =
    .next ((if n = 0 then ((s.testEnded n sig).testWipes s.sage.test s.sage.arg).sageEffect s.sage.test s.sage.arg
      else (s.testEnded n sig).testWipes s.sage.test s.sage.arg).testReport s.sage.test n) :=
  (exec_sageTestDone n sig s).trans (if_neg (not_not.mpr h))

theorem testWipes_of_other {test arg : Nat} (h : 4 ≤ test) : s.testWipes test arg = s := (if_neg (by omega)).trans (if_neg (by omega))
theorem sageEffect_of_wiping {test arg : Nat} (h : test ≤ 3) : s.sageEffect test arg = s :=
  (if_neg (by omega)).trans ((if_neg (by omega)).trans ((if_neg (by omega)).trans (if_neg (by omega))))

/-- The tests of tiles and stacks leave the same whether they pass or fail. -/
theorem exec_sageTestDone_wiping {n : BitVec 16} {sig : DWord} (h : s.sage.state = 1) (ht : s.sage.test ≤ 3) :
    exec (.sageTestDone n sig) s = .next (((s.testEnded n sig).testWipes s.sage.test s.sage.arg).testReport s.sage.test n) := by
  rw [exec_sageTestDone_of_running h, sageEffect_of_wiping ht, ite_self]
/-- The other tests have an effect only when they pass. -/
theorem exec_sageTestDone_passed {sig : DWord} (h : s.sage.state = 1) (ht : 4 ≤ s.sage.test) :
    exec (.sageTestDone 0 sig) s = .next (((s.testEnded 0 sig).sageEffect s.sage.test s.sage.arg).testReport s.sage.test 0) := by
  rw [exec_sageTestDone_of_running h, testWipes_of_other ht, if_pos rfl]
theorem exec_sageTestDone_failed {n : BitVec 16} {sig : DWord} (h : s.sage.state = 1) (ht : 4 ≤ s.sage.test) (hn : n ≠ 0) :
    exec (.sageTestDone n sig) s = .next ((s.testEnded n sig).testReport s.sage.test n) := by
  rw [exec_sageTestDone_of_running h, testWipes_of_other ht, if_neg hn]

theorem tileWiped_of_some {i l : Nat} (h : s.ltileOfPhys i = some l) :
    s.tileWiped i = { s.setTile l {} with sched := { s.sched with ltiles := Map.del s.sched.ltiles l } } := by
  rw [State.tileWiped, h]
theorem tileWiped_of_none {i : Nat} (h : s.ltileOfPhys i = none) : s.tileWiped i = s := by
  rw [State.tileWiped, h]

theorem tileWiped_frame (s : State) (i : Nat) : (∀ l, s.ltileOfPhys i = some l → (s.tileWiped i).tile l = {}) ∧
    s.keeps (s.tileWiped i) [.tiles, .sched] := by
  cases h : s.ltileOfPhys i with
  | none =>
    rw [tileWiped_of_none h]
    exact ⟨fun l hl => (Option.some_ne_none l hl.symm).elim, keeps_refl⟩
  | some l =>
    rw [tileWiped_of_some h]
    refine ⟨fun k hk => ?_, by simp [State.keeps_iff, State.setTile]⟩
    obtain rfl := Option.some.inj hk
    exact s.tile_setTile l {}

theorem stackWiped_frame (s : State) (k : Nat) : (s.stackWiped k).freeCtr =
    s.freeCtr + (s.ds.filter (fun c => decide (dsStack c.1 = k))).length ∧ s.keeps (s.stackWiped k) [.ds, .freeCtr] :=
  ⟨rfl, by simp [State.keeps_iff, State.stackWiped]⟩

theorem sageUnit_tileTest {n : BitVec 16} {sig : DWord} (h : s.sage.state = 1) (ht : s.sage.test = 1 ∨ s.sage.test = 2) :
    Runs (.sageTestDone n sig) s (fun t => t.sage = (s.testEnded n sig).sage ∧
      (∀ l, s.ltileOfPhys s.sage.arg = some l → t.tile l = {}) ∧ s.keeps t [.sage, .fm, .tiles, .sched]) := by
  obtain ⟨htile, hk⟩ := tileWiped_frame (s.testEnded n sig) s.sage.arg
  have he := exec_sageTestDone_wiping (n := n) (sig := sig) h (by omega)
  rw [State.testWipes, if_pos ht] at he
  exact Runs.of he ⟨hk .sage (by decide), htile, keeps_trans (keeps_mono testEnded_keeps (by decide))
    (keeps_trans (keeps_mono hk (by decide)) (keeps_mono testReport_keeps (by decide)))⟩

theorem sageUnit_march {n : BitVec 16} {sig : DWord} (h : s.sage.state = 1) (ht : s.sage.test = 3) :
    Runs (.sageTestDone n sig) s (fun t => t.sage.state = (if n = 0 then 2 else 3) ∧ t.freeCtr = s.freeCtr +
      (s.ds.filter (fun c => decide (dsStack c.1 = s.sage.arg))).length ∧ s.keeps t [.sage, .fm, .ds, .freeCtr]) := by
  obtain ⟨hfree, hk⟩ := stackWiped_frame (s.testEnded n sig) s.sage.arg
  have he := exec_sageTestDone_wiping (n := n) (sig := sig) h (by omega)
  rw [State.testWipes, if_neg (by omega), if_pos ht] at he
  exact Runs.of he ⟨rfl, hfree, keeps_trans (keeps_mono testEnded_keeps (by decide))
    (keeps_trans (keeps_mono hk (by decide)) (keeps_mono testReport_keeps (by decide)))⟩

theorem sageUnit_failed {n : BitVec 16} {sig : DWord} (h : s.sage.state = 1)
    (ht : s.sage.test = 4 ∨ s.sage.test = 6 ∨ s.sage.test = 7) (hn : n ≠ 0) :
    Runs (.sageTestDone n sig) s (fun t => t.sage = { s.sage with state := 3, fails := n.toNat } ∧ s.keeps t [.sage, .fm]) := by
  have hs : (s.testEnded n sig).sage = { s.sage with state := 3, fails := n.toNat } := by
    rw [State.testEnded, if_neg hn, if_neg (by omega)]
  exact Runs.of (exec_sageTestDone_failed h (by omega) hn) ⟨hs, keeps_trans (keeps_mono testEnded_keeps (by decide))
    (keeps_mono testReport_keeps (by decide))⟩

/-! #### What a test that has passed leaves -/

theorem sageEffect_fuse (s : State) (arg : Nat) : (s.sageEffect 4 arg).sage = { s.sage with
      fused := s.sage.fused ++ s.sage.soft.filter (fun c => decide (c.1 = arg))
      soft := s.sage.soft.filter (fun c => decide (c.1 ≠ arg)) } ∧ s.keeps (s.sageEffect 4 arg) [.sage] :=
  ⟨rfl, by simp [State.keeps_iff, State.sageEffect]⟩
theorem sageEffect_hppr (s : State) (arg : Nat) :
    (s.sageEffect 5 arg).sage =
      { s.sage with hard := s.sage.hard ++ (s.cfg.flash.repairs.filter (fun e => decide (e.1 % 4 = arg))).map (fun e => e.1) } ∧
    (s.sageEffect 5 arg).cfg.flash.repairs = s.cfg.flash.repairs.filter (fun e => decide (e.1 % 4 ≠ arg)) ∧
    s.keeps (s.sageEffect 5 arg) [.sage, .cfg] :=
  ⟨rfl, rfl, by simp [State.keeps_iff, State.sageEffect, State.updFlash]⟩
theorem sageEffect_key (s : State) (arg : Nat) :
    (s.sageEffect 6 arg).sage = { s.sage with keys := Map.set s.sage.keys arg s.sageDigest } ∧ s.keeps (s.sageEffect 6 arg) [.sage] :=
  ⟨rfl, by simp [State.keeps_iff, State.sageEffect]⟩
theorem sageEffect_revoke (s : State) (arg : Nat) :
    (s.sageEffect 7 arg).sage = { s.sage with revoked := addCause arg s.sage.revoked } ∧ s.keeps (s.sageEffect 7 arg) [.sage] :=
  ⟨rfl, by simp [State.keeps_iff, State.sageEffect]⟩

theorem testPassed_keeps {sig : DWord} {test : Nat} {u : State} {l : List Part} (h : (s.testEnded 0 sig).keeps u l) (hs : .sage ∈ l) :
    s.keeps (u.testReport test 0) (.fm :: l) :=
  have hended : s.keeps (s.testEnded 0 sig) (.fm :: l) := keeps_mono testEnded_keeps (by simp [hs])
  keeps_trans hended (keeps_trans (keeps_mono h fun _ => List.mem_cons_of_mem _) (keeps_mono testReport_keeps (by simp)))

theorem sageUnit_fused {sig : DWord} (h : s.sage.state = 1) (ht : s.sage.test = 4) : Runs (.sageTestDone 0 sig) s (fun t =>
    t.sage.fused = s.sage.fused ++ s.sage.soft.filter (fun c => decide (c.1 = s.sage.arg)) ∧
    t.sage.soft = s.sage.soft.filter (fun c => decide (c.1 ≠ s.sage.arg)) ∧ s.keeps t [.sage, .fm]) := by
  have he := exec_sageTestDone_passed (sig := sig) h (by omega)
  obtain ⟨hs, hk⟩ := sageEffect_fuse (s.testEnded 0 sig) s.sage.arg
  rw [ht] at he
  exact Runs.of he ⟨congrArg Sage.fused hs, congrArg Sage.soft hs, keeps_mono (testPassed_keeps hk (by decide)) (by decide)⟩

theorem sageUnit_rowsRepaired {sig : DWord} (h : s.sage.state = 1) (ht : s.sage.test = 5) : Runs (.sageTestDone 0 sig) s (fun t =>
    t.cfg.flash.repairs = s.cfg.flash.repairs.filter (fun e => decide (e.1 % 4 ≠ s.sage.arg)) ∧
    t.sage.hard = s.sage.hard ++ (s.cfg.flash.repairs.filter (fun e => decide (e.1 % 4 = s.sage.arg))).map (fun e => e.1) ∧
    s.keeps t [.sage, .fm, .cfg]) := by
  have he := exec_sageTestDone_passed (sig := sig) h (by omega)
  obtain ⟨hs, hc, hk⟩ := sageEffect_hppr (s.testEnded 0 sig) s.sage.arg
  rw [ht] at he
  exact Runs.of he ⟨hc, congrArg Sage.hard hs, keeps_mono (testPassed_keeps hk (by decide)) (by decide)⟩

theorem sageUnit_keyFused {sig : DWord} (h : s.sage.state = 1) (ht : s.sage.test = 6) : Runs (.sageTestDone 0 sig) s (fun t =>
    Map.get t.sage.keys 0 s.sage.arg = s.sageDigest ∧ t.sage.state = 2 ∧ s.keeps t [.sage, .fm]) := by
  have he := exec_sageTestDone_passed (sig := sig) h (by omega)
  obtain ⟨hs, hk⟩ := sageEffect_key (s.testEnded 0 sig) s.sage.arg
  have hget := (congrArg (fun g : Sage => Map.get g.keys 0 s.sage.arg) hs).trans (Map.get_set_self _ _ _ _)
  rw [ht] at he
  exact Runs.of he ⟨hget, congrArg Sage.state hs, keeps_mono (testPassed_keeps hk (by decide)) (by decide)⟩

theorem sageUnit_keyRevoked {sig : DWord} (h : s.sage.state = 1) (ht : s.sage.test = 7) : Runs (.sageTestDone 0 sig) s (fun t =>
    t.sage.state = 2 ∧ s.sage.arg ∈ t.sage.revoked ∧ t.sage.keys = s.sage.keys ∧
    s.reported t 0x0353 0 0 none (7 + 2 ^ 8 * 2) ∧ s.keeps t [.sage, .fm]) := by
  have he := exec_sageTestDone_passed (sig := sig) h (by omega)
  obtain ⟨hs, hk⟩ := sageEffect_revoke (s.testEnded 0 sig) s.sage.arg
  have hmem : s.sage.arg ∈ (State.sageEffect (s.testEnded 0 sig) 7 s.sage.arg).sage.revoked := by
    rw [hs]
    exact mem_addCause ..
  rw [ht] at he
  exact Runs.of he ⟨congrArg Sage.state hs, hmem, (congrArg Sage.keys hs).trans rfl, rfl, keeps_mono (testPassed_keeps hk (by decide)) (by decide)⟩

theorem sageUnit_logic {n : BitVec 16} {sig : DWord} (h : s.sage.state = 1) (ht : s.sage.test = 1) :
    Runs (.sageTestDone n sig) s (fun t => Map.get t.sage.sig 0 s.sage.arg = sig ∧
      (∀ l, s.ltileOfPhys s.sage.arg = some l → t.tile l = {}) ∧ s.keeps t [.sage, .fm, .tiles, .sched]) := by
  obtain ⟨t, he, hs, htile, hk⟩ := sageUnit_tileTest (n := n) (sig := sig) h (.inl ht)
  have hsig : t.sage.sig = Map.set s.sage.sig s.sage.arg sig := (congrArg Sage.sig hs).trans (if_pos ht)
  exact ⟨t, he, by rw [hsig, Map.get_set_self], htile, hk⟩

theorem sageUnit_memory {n : BitVec 16} {sig : DWord} (h : s.sage.state = 1) (ht : s.sage.test = 2) :
    Runs (.sageTestDone n sig) s (fun t => t.sage.sig = s.sage.sig ∧ t.sage.state = (if n = 0 then 2 else 3) ∧
      (∀ l, s.ltileOfPhys s.sage.arg = some l → t.tile l = {}) ∧ s.keeps t [.sage, .fm, .tiles, .sched]) := by
  obtain ⟨t, he, hs, htile, hk⟩ := sageUnit_tileTest (n := n) (sig := sig) h (.inr ht)
  exact ⟨t, he, (congrArg Sage.sig hs).trans (if_neg (by omega)), congrArg Sage.state hs, htile, hk⟩

/-! ### The life-cycle state (R465) -/

/-- The new state is on record and the rest of the list blank. -/
def State.lcRecorded (s : State) (nx : Nat) : State := (s.recordState nx).updFlash (fun f => { f with leftBlank := true })
/-- A transition waits for the next reset. -/
def State.lcWaits (s : State) (nx : Nat) : State := { s with cfg := { s.cfg with lcNext := some nx } }

theorem exec_sageLcWrite_of_may {nx : BitVec 3} (hm : s.dev.mode.configured = true) (h : s.lcMay nx.toNat = true) :
    exec (.sageLcWrite nx 0xA5) s =
      .next (((s.lcRecorded nx.toNat).lcWaits nx.toNat).report 0x0354 clsEvent 0 none (s.cfg.lc + 2 ^ 4 * nx.toNat)) :=
  (exec_sageLcWrite nx 0xA5 s).trans ((if_neg (by simp [hm])).trans ((if_neg (not_not.mpr rfl)).trans (if_pos h)))

theorem recordState_state (s : State) (lc : Nat) : ∃ r, (s.recordState lc).cfg.flash.state = some r ∧ r.lc = lc := ⟨_, rfl, rfl⟩

theorem lcRecorded_flashes (s : State) (nx : Nat) : s.flashes (s.lcRecorded nx) := (State.flashes.recordState s nx).trans (.updFlash _ rfl)

theorem sageUnit_lcWrite {nx : BitVec 3} (hm : s.dev.mode.configured = true) (h : s.lcMay nx.toNat = true) :
    Runs (.sageLcWrite nx 0xA5) s (fun t => t.cfg.lcNext = some nx.toNat ∧ t.cfg.lc = s.cfg.lc ∧
      (∃ r, t.cfg.flash.state = some r ∧ r.lc = nx.toNat) ∧ s.keeps t [.cfg, .fm]) := by
  have hf := lcRecorded_flashes s nx.toNat
  have hk : s.keeps ((s.lcRecorded nx.toNat).lcWaits nx.toNat) [.cfg, .fm] :=
    keeps_trans hf.keeps (by simp [State.keeps_iff, State.lcWaits])
  exact Runs.of (exec_sageLcWrite_of_may hm h) ⟨rfl, (congrArg Cfg.lc hf.cfg).trans rfl, recordState_state s nx.toNat,
    keeps_trans hk (keeps_mono report_keeps (by decide))⟩
end

/-- Settles O54: Sorrel's read by what it finds (`sorrelUe_*_frame`), a test by `sageStart` where it begins and by `sageEffect` and
the contents it wipes where it ends, and a life-cycle write by the record it leaves. -/
theorem sageUnit : Obligations.SageUnit := by
  refine ⟨sageUnit_sorrel, fun n k j s hm h => ⟨sageStart_runs rfl hm h rfl, sageStart_runs rfl hm h rfl, sageStart_runs rfl hm h rfl,
      sageStart_runs rfl hm h rfl, sageStart_runs rfl hm h rfl, sageStart_runs rfl hm h rfl⟩,
    fun j s hm h hl hk => sageStart_runs (exec_sageKeyFuse_eq j s) hm h (fuseMay_of_free hl hk),
    fun n k j c s hm hc hr => sageUnit_refused hm hc hr, fun n k j nx key c s hm hc => sageUnit_early hm hc, fun s h => ?_,
    fun sig s h ht => sageUnit_keyRevoked h ht, fun sig s h ht => sageUnit_keyFused h ht, fun n sig s h ht hn => sageUnit_failed h ht hn,
    fun n sig s h ht => sageUnit_logic h ht, fun n sig s h ht => sageUnit_memory h ht, fun n sig s h ht => sageUnit_march h ht,
    fun sig s h ht => sageUnit_fused h ht, fun sig s h ht => sageUnit_rowsRepaired h ht,
    fun n sig s h => Runs.of ((exec_sageTestDone n sig s).trans (if_pos h)) rfl, fun nx s hm h => sageUnit_lcWrite hm h,
    fun nx key s hm hk => Runs.of ((exec_sageLcWrite nx key s).trans ((if_neg (by simp [hm])).trans (if_pos hk))) ⟨rfl, report_keeps⟩,
    fun nx s hm h => ?_, fun nx s h => lcMay_rises h⟩
  · obtain ⟨hl, hm, ht, hs⟩ := sageMay_iff.mp h
    exact ⟨hl, hm, fun e he => (ht e he).1, hs⟩
  · exact Runs.of ((exec_sageLcWrite nx 0xA5 s).trans ((if_neg (by simp [hm])).trans
      ((if_neg (not_not.mpr rfl)).trans (if_neg (by simp [h]))))) ⟨rfl, report_keeps⟩

end Sys2Proof.Machine
end


section
/-! PROOF. What a tenant's boundary can change: every part but the registers, the analogue monitor and the units that no tenant moves
(R38, R57). -/

namespace Sys2Proof.Machine

/-- The parts that a boundary and the requests that act at it can change. -/
def boundaryParts : List Part := [.dev, .tenants, .tiles, .fm, .sched, .cap, .host, .noc, .ds, .chv, .lat, .pwr, .edg]

section
variable {s : State} {x : Nat}

/-! ### Stops, holds and starts -/

theorem endStepEarly_keeps : s.keeps (s.endStepEarly x) [.tenants, .host, .fm] := by
  unfold State.endStepEarly
  dsimp only
  split
  · exact keeps_trans (keeps_mono setTen_keeps (by decide)) (keeps_mono complete_keeps (by decide))
  · exact keeps_refl

theorem markStop_keeps : s.keeps (s.markStop x) [.sched, .tenants] := by
  unfold State.markStop
  exact keeps_trans (t := { s with sched := { s.sched with stopSeq := s.sched.stopSeq + 1 } }) (by simp [State.keeps_iff])
    (keeps_mono updTen_keeps (by decide))

theorem markStop_within : s.keeps (s.markStop x) boundaryParts := keeps_mono markStop_keeps (by decide)
theorem endStepEarly_within : s.keeps (s.endStepEarly x) boundaryParts := keeps_mono endStepEarly_keeps (by decide)
theorem updTen_within {f : Tenant → Tenant} : s.keeps (s.updTen x f) boundaryParts := keeps_mono updTen_keeps (by decide)
theorem setTen_within {v : Tenant} : s.keeps (s.setTen x v) boundaryParts := keeps_mono setTen_keeps (by decide)
theorem logInput_within {typ e : Nat} {bs : List Byte} : s.keeps (s.logInput x typ e bs) boundaryParts := keeps_mono logInput_keeps (by decide)
theorem completeOpt_within {d : Option DRef} {o st r a : Nat} : s.keeps (s.completeOpt d o st r a) boundaryParts :=
  keeps_mono completeOpt_keeps (by decide)

theorem holdNow_keeps {causes : List Nat} : s.keeps (s.holdNow x causes) boundaryParts := by
  unfold State.holdNow
  split
  · exact keeps_refl
  · exact keeps_ite setTen_within (keeps_trans endStepEarly_within (keeps_trans updTen_within (keeps_trans markStop_within logInput_within)))

theorem stopNow_keeps : s.keeps (s.stopNow x) boundaryParts :=
  keeps_ite (keeps_trans endStepEarly_within (keeps_trans updTen_within markStop_within)) keeps_refl

theorem raiseVt_keeps : s.keeps (s.raiseVt x) [.tenants, .sched] := by
  unfold State.raiseVt
  dsimp only
  refine keeps_ite ?_ ?_
  · split
    · split
      · exact keeps_refl
      · exact keeps_mono updTen_keeps (by decide)
    · split
      · simp [State.keeps_iff]
      · simp [State.keeps_iff, State.updTen, State.setTen]
  · split
    · exact keeps_refl
    · exact keeps_mono updTen_keeps (by decide)

theorem startNow_keeps {n : Option Nat} {cmd : Option DRef} : s.keeps (s.startNow x n cmd) boundaryParts := by
  unfold State.startNow
  dsimp only
  refine keeps_trans ?_ (keeps_trans updTen_within (keeps_mono raiseVt_keeps (by decide)))
  split
  · exact updTen_within
  · exact updTen_within

theorem completeReqs_keeps {st : Nat} {l : List Req} : s.keeps (s.completeReqs x st l) boundaryParts :=
  keeps_foldl _ _ (fun _ _ => completeOpt_within) l s

theorem releaseNow_keeps {origin : Nat} : s.keeps (s.releaseNow x origin) boundaryParts := by
  unfold State.releaseNow
  refine keeps_ite (keeps_trans (keeps_ite ?_ keeps_refl) (keeps_trans updTen_within (keeps_trans markStop_within logInput_within))) keeps_refl
  exact keeps_foldl _ _ (fun _ _ => keeps_mono updTile_keeps (by decide)) _ s

/-! ### Requests at a boundary -/

theorem capPut_keeps {q : CapEnt} : s.keeps (s.capPut q) [.cap] := by simp [State.keeps_iff, State.capPut]
theorem capTake_keeps {q : CapEnt} : s.keeps (s.capTake q) [.cap] := by simp [State.keeps_iff, State.capTake]

theorem capHere_keeps {due : Nat} : s.keeps (s.capHere x due) [.cap] := by
  unfold State.capHere
  refine keeps_ite keeps_refl ?_
  split
  · exact keeps_refl
  · dsimp only
    split
    · exact keeps_trans capTake_keeps (keeps_trans capTake_keeps capPut_keeps)
    · exact keeps_trans capTake_keeps capPut_keeps

theorem closeCkpt_keeps : s.keeps (s.closeCkpt x) [.tenants, .cap] :=
  keeps_trans (keeps_mono updTen_keeps (by decide)) (keeps_mono capCkpt_keeps (by decide))

theorem closeFor_keeps {r : Req} : s.keeps (s.closeFor x r) boundaryParts := by
  unfold State.closeFor
  split
  · exact keeps_trans updTen_within (keeps_mono capHere_keeps (by decide))
  · exact keeps_ite updTen_within keeps_refl
  · exact keeps_mono closeCkpt_keeps (by decide)
  · exact updTen_within
  · exact keeps_ite updTen_within keeps_refl
  · exact keeps_trans releaseNow_keeps completeOpt_within
  · exact keeps_refl

theorem resolveRun_keeps {l : List Req} : s.keeps (s.resolveRun x l) boundaryParts := by
  unfold State.resolveRun
  refine keeps_ite (keeps_trans holdNow_keeps (keeps_trans completeReqs_keeps (keeps_trans completeReqs_keeps completeReqs_keeps)))
    (keeps_ite (keeps_trans stopNow_keeps (keeps_trans logInput_within (keeps_trans completeReqs_keeps completeReqs_keeps))) ?_)
  split
  · exact keeps_refl
  · refine keeps_ite (keeps_trans ?_ completeReqs_keeps) completeReqs_keeps
    exact keeps_ite (keeps_trans startNow_keeps logInput_within) (keeps_trans startNow_keeps (keeps_trans logInput_within completeOpt_within))

theorem resolveLater_keeps {rest : List Req} : s.keeps (s.resolveLater x rest) boundaryParts := by
  unfold State.resolveLater
  exact keeps_trans updTen_within (keeps_trans holdNow_keeps (keeps_trans completeReqs_keeps (keeps_trans completeReqs_keeps
    (keeps_foldl _ _ (fun _ _ => closeFor_keeps) _ _))))

theorem derateHere_keeps : s.keeps (s.derateHere x) [.sched, .tenants] := by
  unfold State.derateHere
  refine keeps_ite (keeps_trans (t := { s with sched := { s.sched with
    derateQ := s.sched.derateQ.filter (fun y => decide (y ≠ x)), derateOut := s.sched.derateOut ++ [x] } }) ?_ ?_) keeps_refl
  · simp [State.keeps_iff]
  · exact keeps_mono updTen_keeps (by decide)

theorem closeTiles_keeps : s.keeps (s.closeTiles x) [.tenants, .tiles] :=
  keeps_trans (keeps_mono updTen_keeps (by decide)) (keeps_foldl _ _ (fun _ _ => keeps_mono updTile_keeps (by decide)) _ _)

/-! ### The mode that a boundary leaves -/

theorem rebalance_keeps {pairs : List (Nat × Nat)} : s.keeps (s.rebalance x pairs) [.fm, .tiles, .sched, .lat, .tenants] := by
  obtain ⟨u, hu, -, h⟩ := advance_eq (s.moveTiles x pairs) x (pairs.map (fun p => p.2))
  unfold State.rebalance
  rw [h]
  exact keeps_trans (keeps_mono moveTiles_keeps (by decide)) (keeps_trans (keeps_mono hu (by decide)) (keeps_mono updTen_keeps (by decide)))

theorem refitStep_keeps : s.keeps s.refitStep boundaryParts := by
  unfold State.refitStep
  split
  · exact keeps_refl
  · refine keeps_ite (keeps_ite keeps_refl ?_) (keeps_ite ?_ keeps_refl)
    · dsimp only
      split
      · simp [State.keeps_iff, State.askTokens, boundaryParts]
      · exact keeps_trans (by simp [State.keeps_iff, State.askTokens, boundaryParts]) (keeps_mono (closeRefit_frame _ _).2 (by decide))
    · dsimp only
      split
      · exact keeps_mono endRefit_keeps (by decide)
      · refine keeps_ite (keeps_trans (keeps_mono endRebal_keeps (by decide)) (keeps_mono endRefit_keeps (by decide)))
          (keeps_ite (keeps_ite keeps_refl (keeps_mono (closeRefit_frame _ _).2 (by decide)))
            (keeps_ite (by simp [State.keeps_iff, State.askTokens, boundaryParts]) (keeps_ite keeps_refl ?_)))
        exact keeps_trans (keeps_mono rebalance_keeps (by decide)) (keeps_trans (keeps_mono endRebal_keeps (by decide))
          (keeps_trans (keeps_mono endRefit_keeps (by decide)) updTen_within))

theorem remode_within : s.keeps s.remode boundaryParts :=
  keeps_ite (keeps_trans (keeps_mono setMode_keeps (by decide)) (keeps_trans (keeps_foldl _ _ (fun _ _ => refitStep_keeps) _ _)
    (keeps_mono setMode_keeps (by decide)))) keeps_refl

/-! ### The boundary -/

/-- The requests `now` act at the boundary. -/
def State.boundaryActs (s : State) (x : Nat) (now : List Req) : State := now.foldl (fun s r => s.closeFor x r) (s.resolveRun x now)
/-- The starts of a spanning tenant act after them. -/
def State.boundaryStarts (s : State) (x : Nat) (after : List Req) : State :=
  if after.isEmpty then s
  else if (s.ten x).run = .stepping ∧ (s.ten x).stepLeft = 0 then s.updTen x (fun v => { v with reqs := v.reqs ++ after })
  else s.resolveRun x after
/-- A tenant that runs on may leave for DERATE; one that does not takes the requests of later boundaries, those due after `n`. -/
def State.boundaryLater (s : State) (x n : Nat) : State :=
  if (s.ten x).runnable then s.derateHere x else s.resolveLater x ((s.ten x).reqs.filter (fun r => decide (n < r.due)))

/-- The requests that the boundary takes. -/
def State.boundaryDue (s : State) (x : Nat) : List Req :=
  (s.ten x).reqs.filter (fun r => decide (r.due ≤ (s.ten x).done) && !(s.captureMoves x && r.isRun))
def State.boundaryAfter (s : State) (x : Nat) : List Req :=
  (s.boundaryDue x).filter (fun r => (s.ten x).spans && (s.ten x).runnable && r.isStart)
def State.boundaryNow (s : State) (x : Nat) : List Req := (s.boundaryDue x).filter (fun r => !(s.boundaryAfter x).contains r)
/-- The tenant without the requests that the boundary takes. -/
def State.boundaryTaken (s : State) (x : Nat) : State :=
  s.setTen x { s.ten x with reqs := (s.ten x).reqs.filter (fun r => !(s.boundaryDue x).contains r) }

theorem boundary_eq (s : State) (x : Nat) : s.boundary x =
    (((((s.boundaryTaken x).boundaryActs x (s.boundaryNow x)).boundaryStarts x (s.boundaryAfter x)).boundaryLater x
      (s.ten x).done).closeTiles x).remode.place := by
  unfold State.boundary State.boundaryLater State.boundaryStarts State.boundaryActs State.boundaryTaken State.boundaryNow
    State.boundaryAfter State.boundaryDue
  with_reducible rfl

theorem boundaryActs_keeps {now : List Req} : s.keeps (s.boundaryActs x now) boundaryParts :=
  keeps_trans resolveRun_keeps (keeps_foldl _ _ (fun _ _ => closeFor_keeps) _ _)
theorem boundaryStarts_keeps {after : List Req} : s.keeps (s.boundaryStarts x after) boundaryParts :=
  keeps_ite keeps_refl (keeps_ite updTen_within resolveRun_keeps)
theorem boundaryLater_keeps {n : Nat} : s.keeps (s.boundaryLater x n) boundaryParts :=
  keeps_ite (keeps_mono derateHere_keeps (by decide)) resolveLater_keeps

theorem boundary_keeps : s.keeps (s.boundary x) boundaryParts := by
  rw [boundary_eq]
  exact keeps_trans setTen_within (keeps_trans boundaryActs_keeps (keeps_trans boundaryStarts_keeps (keeps_trans boundaryLater_keeps
    (keeps_trans (keeps_mono closeTiles_keeps (by decide)) (keeps_trans remode_within (keeps_mono place_keeps (by decide)))))))

theorem settle_keeps : s.keeps (s.settle x) boundaryParts := keeps_ite boundary_keeps keeps_refl

theorem request_keeps {k : ReqKind} {cmd : Option DRef} : s.keeps (s.request x k cmd) boundaryParts := by
  unfold State.request State.addReq
  exact keeps_trans updTen_within (keeps_trans (keeps_ite (keeps_mono sendNow_keeps (by decide)) keeps_refl) settle_keeps)

theorem raiseHold_keeps {cause : Nat} {cmd : Option DRef} : s.keeps (s.raiseHold x cause cmd) boundaryParts := by
  unfold State.raiseHold
  exact keeps_ite (keeps_trans holdNow_keeps (keeps_trans completeOpt_within (keeps_mono place_keeps (by decide)))) request_keeps
end

end Sys2Proof.Machine
end


section
/-! PROOF. The analogue monitor (R468 to R478): values, the slots of the sequence, urgent temperatures, calibration, limits and the
open-wire test (O55). -/

namespace Sys2Proof.Machine

/-! ### Values (R468) -/

theorem anaValue_le (i : Nat) (high : Bool) {c : Nat} (h : c ≤ 16384) : anaValue i high c ≤ anaFactor i * anaFs high := by
  have hm : anaFactor i * anaFs high * c ≤ anaFactor i * anaFs high * 16384 := Nat.mul_le_mul_left _ h
  unfold anaValue
  omega
theorem anaValue_zero (i : Nat) (high : Bool) : anaValue i high 0 = 0 := by simp [anaValue]
theorem anaValue_mono (i : Nat) (high : Bool) {c d : Nat} (h : c ≤ d) : anaValue i high c ≤ anaValue i high d :=
  Nat.div_le_div_right (Nat.add_le_add_right (Nat.mul_le_mul_left _ h) _)

section
variable {s : State}

theorem anaReady_iff : s.anaReady = true ↔ s.dev.mode.afterReset = true ∧ (s.dev.mode = .selftest → 5 ≤ s.ana.cal.length) := by
  simp only [State.anaReady, Bool.and_eq_true, Bool.or_eq_true, decide_eq_true_eq, imp_iff_not_or, ne_eq]

/-! ### What the checks of a result leave (R414, R267, R269) -/

theorem failBank_keeps {g c : Nat} {hiZ : Bool} : s.keeps (s.failBank g c hiZ true) boundaryParts := by
  by_cases h : (s.bank g).stage = .off ∨ (s.bank g).stage = .failsafe
  · exact keeps_mono (failBank_of_resting h c hiZ).2.2 (by decide)
  · obtain ⟨h1, h2⟩ := not_or.mp h
    obtain ⟨hnone, hsome⟩ := failBank_of_working h1 h2 c hiZ
    have hf : s.keeps (s.failed g c hiZ) boundaryParts := keeps_mono failed_keeps (by decide)
    cases ho : s.bankOwner g with
    | none => exact hnone ho ▸ hf
    | some x => exact hsome x ho ▸ keeps_trans hf raiseHold_keeps

theorem leaveCheck_keeps {g : Nat} : s.keeps (s.leaveCheck g) [.edg] := keeps_ite updBank_keeps keeps_refl

theorem vioQualified_keeps {g mv : Nat} : s.keeps (s.vioQualified g mv) [.edg, .fm] :=
  keeps_ite keeps_refl (keeps_trans (keeps_mono updBank_keeps (by decide)) (keeps_trans (keeps_mono report_keeps (by decide))
    (keeps_mono leaveCheck_keeps (by decide))))

theorem vioDoubt_keeps {g : Nat} : s.keeps (s.vioDoubt g) boundaryParts :=
  keeps_trans (keeps_mono updBank_keeps (by decide)) failBank_keeps

theorem vioReading_keeps {g : Nat} {good : Bool} {vio : Option Nat} : s.keeps (s.vioReading g good vio) boundaryParts := by
  unfold State.vioReading
  refine keeps_ite (keeps_ite keeps_refl vioDoubt_keeps) (keeps_ite (keeps_mono updBank_keeps (by decide)) ?_)
  split
  · exact keeps_mono updBank_keeps (by decide)
  · exact keeps_ite (keeps_mono vioQualified_keeps (by decide)) keeps_refl
  · exact keeps_refl

theorem vioCheck_keeps {i mv : Nat} {ovr : Bool} : s.keeps (s.vioCheck i mv ovr) boundaryParts :=
  keeps_ite (keeps_ite vioReading_keeps keeps_refl) (keeps_ite (keeps_foldl _ _ (fun _ _ => vioReading_keeps) _ s) keeps_refl)

theorem vbatCheck_keeps {mv : Nat} : s.keeps (s.vbatCheck mv) [.pwr, .fm] := by
  unfold State.vbatCheck
  refine keeps_trans (t := s.updPwr (fun p => { p with vbat := mv, vbatLow := decide (mv < 2700), vbatAbsent := decide (mv < 500) })) ?_
    (keeps_trans (keeps_ite (keeps_mono report_keeps (by decide)) keeps_refl) (keeps_ite (keeps_mono report_keeps (by decide)) keeps_refl))
  simp [State.keeps_iff, State.updPwr]

/-! ### Limits (R478) -/

theorem updAna_keeps {f : Ana → Ana} : s.keeps (s.updAna f) [.ana] := by simp [State.keeps_iff, State.updAna]

/-- The alarm of an input is set. -/
def State.alarmed (s : State) (i : Nat) : State := s.updAna (fun a => { a with alarm := a.alarm ||| 2 ^ i })
/-- The entry is beyond a limit, or inside again. -/
def State.entBeyond (s : State) (e : Nat) (b : Bool) : State := s.setEnt e { s.anaEnt e with beyond := b }

theorem anaLimit_of_beyond {e i : Nat} {v : Int} {high : Bool} (he : e < 31)
    (h : v < fld (s.reg (0x30200 + 4 * e)) 0 16 ∨ (fld (s.reg (0x30200 + 4 * e)) 16 16 : Int) < v) : s.anaLimit e i v high =
      if (s.anaEnt e).beyond then s.alarmed i
      else ((s.alarmed i).entBeyond e true).report 0x0360 clsEvent i none
        (i + 2 ^ 8 * b2n (decide ((fld (s.reg (0x30200 + 4 * e)) 16 16 : Int) < v)) + 2 ^ 16 * (v % 65536).toNat) := by
  have hs : ∀ x : Nat, (if e = 31 ∧ 32768 ≤ x then (x : Int) - 65536 else (x : Int)) = x := fun x => if_neg (by omega)
  unfold State.anaLimit
  simp only [hs]
  exact if_pos h

/-- A limit's check leaves the results and the sequence. -/
structure State.limits (s t : State) : Prop where
  keeps : s.keeps t [.ana, .fm]
  ana : t.ana = { s.ana with alarm := t.ana.alarm, ents := t.ana.ents }

theorem State.limits.ite {s t u : State} {c : Prop} [Decidable c] (h : s.limits t) (g : s.limits u) : s.limits (if c then t else u) :=
  iteInduction (motive := fun v : State => s.limits v) (fun _ => h) (fun _ => g)
theorem State.limits.alarmed (s : State) (i : Nat) : s.limits (s.alarmed i) :=
  ⟨by simp [State.keeps_iff, State.alarmed, State.updAna], rfl⟩
theorem State.limits.setEnt (s : State) (e : Nat) (v : AnaEnt) : s.limits (s.setEnt e v) :=
  ⟨by simp [State.keeps_iff, State.setEnt, State.updAna], rfl⟩
theorem State.limits.report (s : State) (c k u : Nat) (x : Option Nat) (d : Nat) : s.limits (s.report c k u x d) :=
  ⟨keeps_mono report_keeps (by decide), rfl⟩
theorem State.limits.refl (s : State) : s.limits s := ⟨keeps_refl, rfl⟩
theorem State.limits.trans {s t u : State} (h : s.limits t) (g : t.limits u) : s.limits u :=
  ⟨keeps_trans h.keeps g.keeps, g.ana.trans (congrArg (fun a : Ana => { a with alarm := u.ana.alarm, ents := u.ana.ents }) h.ana)⟩

theorem anaLimit_limits (s : State) (e i : Nat) (v : Int) (high : Bool) : s.limits (s.anaLimit e i v high) := by
  have ha := State.limits.alarmed s i
  unfold State.anaLimit
  exact .ite (.ite ha ((ha.trans (.setEnt _ e _)).trans (.report ..))) (.ite (.setEnt s e _) (.refl s))

theorem analogueMonitor_limit {e i : Nat} {v : Int} {high : Bool} (he : e < 31)
    (h : v < fld (s.reg (0x30200 + 4 * e)) 0 16 ∨ (fld (s.reg (0x30200 + 4 * e)) 16 16 : Int) < v) :
    (s.anaLimit e i v high).ana.alarm.testBit i = true ∧ (Map.get (s.anaLimit e i v high).ana.ents {} e).beyond = (true : Bool) ∧
    ((s.anaEnt e).beyond = true → (s.anaLimit e i v high).fm = s.fm) ∧
    ((s.anaEnt e).beyond = false → s.reported (s.anaLimit e i v high) 0x0360 clsEvent i none
      (i + 2 ^ 8 * b2n (decide ((fld (s.reg (0x30200 + 4 * e)) 16 16 : Int) < v)) + 2 ^ 16 * (v % 65536).toNat)) ∧
    s.keeps (s.anaLimit e i v high) [.ana, .fm] := by
  have hk := (anaLimit_limits s e i v high).keeps
  have hbit : (s.alarmed i).ana.alarm.testBit i = true := by simp [State.alarmed, State.updAna, Nat.testBit_or]
  rw [anaLimit_of_beyond he h] at hk ⊢
  cases hx : (s.anaEnt e).beyond with
  | true => exact ⟨hbit, hx, fun _ => rfl, nofun, hx ▸ hk⟩
  | false =>
    refine ⟨hbit, ?_, nofun, fun _ => rfl, hx ▸ hk⟩
    exact congrArg AnaEnt.beyond (Map.get_set_self _ _ _ _)

/-! ### The open-wire test (R475) -/

theorem analogueMonitor_open (e u d : Nat) (s : State) :
    (Map.get (s.openTest e u d).ana.ents {} e).isOpen = decide (1140 ≤ u ∧ d ≤ 60) ∧
    ((s.anaEnt e).isOpen = decide (1140 ≤ u ∧ d ≤ 60) → (s.openTest e u d).fm = s.fm) ∧
    ((s.anaEnt e).isOpen = false → 1140 ≤ u → d ≤ 60 → s.reported (s.openTest e u d) 0x0361 clsEvent (anaInput e) none (anaInput e)) ∧
    ((s.anaEnt e).isOpen = true → (u < 1140 ∨ 60 < d) → s.reported (s.openTest e u d) 0x0362 clsEvent (anaInput e) none (anaInput e)) ∧
    s.keeps (s.openTest e u d) [.ana, .fm] := by
  have hset : Map.get (s.openTest e u d).ana.ents {} e = { s.anaEnt e with up := none, passes := 0, isOpen := decide (1140 ≤ u ∧ d ≤ 60) } := by
    unfold State.openTest
    dsimp only
    split
    · exact Map.get_set_self _ _ _ _
    · exact Map.get_set_self _ _ _ _
  refine ⟨congrArg AnaEnt.isOpen hset, fun h => ?_, fun h hu hd => ?_, fun h hud => ?_, ?_⟩
  · unfold State.openTest
    dsimp only
    rw [if_pos h.symm]
    rfl
  · have ho : decide (1140 ≤ u ∧ d ≤ 60) = true := decide_eq_true ⟨hu, hd⟩
    unfold State.openTest
    dsimp only
    rw [ho, h]
    rfl
  · have ho : decide (1140 ≤ u ∧ d ≤ 60) = false := decide_eq_false (by omega)
    unfold State.openTest
    dsimp only
    rw [ho, h]
    rfl
  · exact keeps_ite (State.limits.setEnt s e _).keeps ((State.limits.setEnt s e _).trans (.report ..)).keeps

/-! ### A result is published -/

/-- The result of a conversion (Table 17-4). -/
def State.anaResult (s : State) (i : Nat) (v : Int) (high ovr changed urgent : Bool) (raw slice : Nat) : AnaRes :=
  { value := v, valid := true, high := high, ovr := ovr, changed := changed, isOpen := (s.anaEnt i).isOpen && decide (i < 24)
    urgent := urgent, count := ((Map.get s.ana.res {} i).count + 1) % 256, code := raw, slice := slice }
/-- The result stands in its register. -/
def State.published (s : State) (i : Nat) (r : AnaRes) : State := s.updAna (fun a => { a with res := Map.set a.res i r })

theorem anaPublish_eq (i : Nat) (v : Int) (high ovr changed urgent : Bool) (raw slice : Nat) (s : State) :
    s.anaPublish i v high ovr changed urgent raw slice =
      (s.published i (s.anaResult i v high ovr changed urgent raw slice)).anaChecks i v high ovr := rfl

theorem published_keeps {i : Nat} {r : AnaRes} : s.keeps (s.published i r) [.ana] := updAna_keeps

/-- VIN enters the mean that Basil takes. -/
def State.vinTaken (s : State) (n : Nat) : State := s.updPwr (fun p => { p with vinSum := p.vinSum + n, vinN := p.vinN + 1 })
def State.iinTaken (s : State) (n : Nat) : State := s.updPwr (fun p => { p with iinSum := p.iinSum + n, iinN := p.iinN + 1 })

/-- The check that comes before the limits of an input of the table. -/
def State.unitCheck (s : State) (i n : Nat) (ovr : Bool) : State :=
  if i = 24 then s.vinTaken n else if i = 25 then s.iinTaken n else if i = 26 then s.vbatCheck n else s.vioCheck i n ovr

theorem anaChecks_of_table {i : Nat} (hi : i < 31) (v : Int) (high ovr : Bool) (s : State) :
    s.anaChecks i v high ovr = (s.unitCheck i v.toNat ovr).anaLimit i i v high := by
  unfold State.anaChecks State.unitCheck State.vinTaken State.iinTaken
  dsimp only
  rw [if_pos hi, if_neg (show ¬ 31 ≤ i by omega)]

theorem unitCheck_keeps {i n : Nat} {ovr : Bool} : s.keeps (s.unitCheck i n ovr) boundaryParts :=
  keeps_ite (by simp [State.keeps_iff, State.vinTaken, State.updPwr, boundaryParts])
    (keeps_ite (by simp [State.keeps_iff, State.iinTaken, State.updPwr, boundaryParts])
      (keeps_ite (keeps_mono vbatCheck_keeps (by decide)) vioCheck_keeps))

/-- The checks of a result of the table leave the results and the sequence. -/
theorem anaChecks_ana {i : Nat} (hi : i < 31) (v : Int) (high ovr : Bool) (s : State) : (s.anaChecks i v high ovr).ana =
    { s.ana with alarm := (s.anaChecks i v high ovr).ana.alarm, ents := (s.anaChecks i v high ovr).ana.ents } := by
  have hu : (s.unitCheck i v.toNat ovr).ana = s.ana := unitCheck_keeps .ana (by decide)
  have hl := (anaLimit_limits (s.unitCheck i v.toNat ovr) i i v high).ana
  rw [anaChecks_of_table hi, ← hu]
  exact hl

theorem anaPublish_res {i : Nat} (hi : i < 31) (v : Int) (high ovr changed urgent : Bool) (raw slice : Nat) (s : State) :
    Map.get (s.anaPublish i v high ovr changed urgent raw slice).ana.res {} i = s.anaResult i v high ovr changed urgent raw slice := by
  rw [anaPublish_eq]
  generalize s.anaResult i v high ovr changed urgent raw slice = r
  have h := congrArg (fun a : Ana => Map.get a.res {} i) (anaChecks_ana hi v high ovr (s.published i r))
  exact h.trans (Map.get_set_self _ _ _ _)

/-! ### A conversion of the sequence (R473, R474) -/

/-- The entry as its conversion finds it, with no open-wire test under way. -/
def State.entNow (s : State) (e : Nat) : AnaEnt :=
  { (if (s.anaEnt e).enabled then s.anaEnt e
     else { s.anaEnt e with enabled := true, high := true, reconv := false, passes := 0, up := none }) with up := none }
/-- The range of the conversion. -/
def State.entHigh (s : State) (e : Nat) : Bool := if s.anaMode e = 2 then (s.entNow e).high else decide (s.anaMode e = 1)
/-- The value of the conversion. -/
def State.entValue (s : State) (e raw cal : Nat) (tmp : Int) : Int :=
  if e = 31 then tmp else if raw = 16383 then anaFactor (anaInput e) * anaFs (s.entHigh e) else anaValue (anaInput e) (s.entHigh e) cal
/-- The entry after its conversion: the range of the next one, and whether it comes at once. -/
def State.entNext (s : State) (e raw : Nat) : AnaEnt :=
  { s.entNow e with
    high := if s.anaMode e = 2 then (if s.entHigh e then decide (2730 < raw) else decide (15565 ≤ raw)) else s.entHigh e
    last := some (s.entHigh e), reconv := decide (s.anaMode e = 2) && decide (raw = 16383) && !s.entHigh e }

theorem anaEntry_of_noTest {e raw cal k : Nat} {tmp : Int} (h : s.anaOw e = false) : s.anaEntry e raw cal k tmp =
    (s.setEnt e (s.entNext e raw)).anaPublish (anaInput e) (s.entValue e raw cal tmp) (s.entHigh e)
      (decide (raw = 16383) && decide (e ≠ 31)) ((s.entNow e).last.any (fun l => decide (l ≠ s.entHigh e))) false raw k := by
  unfold State.anaEntry
  rw [h]
  unfold State.entValue
  simp only [decide_eq_true_eq]
  rfl

theorem anaInput_of_lt {e : Nat} (h : e < 31) : anaInput e = e := if_neg (by omega)

theorem analogueMonitor_result {e raw cal k : Nat} {tmp : Int} (he : e < 31) (h : s.anaOw e = false) (hx : (s.anaEnt e).enabled = true) :
    (Map.get (s.anaEntry e raw cal k tmp).ana.res {} e).valid = true ∧
    (Map.get (s.anaEntry e raw cal k tmp).ana.res {} e).count = ((Map.get s.ana.res {} e).count + 1) % 256 ∧
    (Map.get (s.anaEntry e raw cal k tmp).ana.res {} e).high = (if s.anaMode e = 2 then (s.anaEnt e).high else decide (s.anaMode e = 1)) ∧
    (Map.get (s.anaEntry e raw cal k tmp).ana.res {} e).value =
      (if raw = 16383 then
        anaFactor e * anaFs (if s.anaMode e = 2 then (s.anaEnt e).high else decide (s.anaMode e = 1))
      else anaValue e (if s.anaMode e = 2 then (s.anaEnt e).high else decide (s.anaMode e = 1)) cal : Nat) := by
  have hnow : (s.entNow e).high = (s.anaEnt e).high := by rw [State.entNow, hx]; rfl
  have hhigh : s.entHigh e = if s.anaMode e = 2 then (s.anaEnt e).high else decide (s.anaMode e = 1) := by rw [State.entHigh, hnow]
  have hval : s.entValue e raw cal tmp = ((if raw = 16383 then anaFactor e * anaFs (s.entHigh e) else anaValue e (s.entHigh e) cal : Nat) : Int) := by
    rw [State.entValue, if_neg (by omega), anaInput_of_lt he]
    split <;> rfl
  rw [anaEntry_of_noTest h, anaInput_of_lt he, anaPublish_res he, ← hhigh]
  exact ⟨rfl, rfl, rfl, hval⟩

/-! ### The slots of a pass (R469) -/

theorem askAgain_of_cool (h : s.pwr.thermalWarn = false) : s.askAgain = s := if_neg (by simp [h])

/-- The state in which the entry of the next slot is converted. -/
def State.slotAt (s : State) (due : Bool) : State :=
  (if (s.anaNext due).2 then s.anaSlot.anaPass else s.anaSlot).updAna (fun a => { a with pos := (s.anaNext due).1 + 1 })
/-- An urgent request has been taken up. -/
def State.urgentTaken (s : State) (i : Nat) : State :=
  s.anaSlot.updAna (fun a => { a with urgent := a.urgent.filter (fun x => decide (x ≠ i)) })

section
variable {raw cal : BitVec 14} {k : Fin 5} {tmp : BitVec 16} {due : Bool}

theorem exec_anaConversion_of_early (h : s.anaReady = false) : exec (.anaConversion raw cal k tmp due) s = .next s :=
  (exec_anaConversion raw cal k tmp due s).trans (if_pos h)

theorem exec_anaConversion_of_pass (h : s.anaReady = true) (hu : s.ana.urgent = []) (hw : s.pwr.thermalWarn = false) :
    exec (.anaConversion raw cal k tmp due) s = .next ((s.slotAt due).anaEntry (s.anaNext due).1 raw.toNat cal.toNat k tmp.toInt) := by
  rw [exec_anaConversion, execAnaConversion, if_neg (by simp [h]), askAgain_of_cool (s := s.anaSlot) hw]
  dsimp only
  rw [show s.anaSlot.ana.urgent = [] from hu]
  rfl

theorem exec_anaConversion_of_urgent {i : Nat} (h : s.anaReady = true) (hu : s.ana.urgent = [i]) (hw : s.pwr.thermalWarn = false) :
    exec (.anaConversion raw cal k tmp due) s =
      .next ((s.urgentTaken i).anaPublish i tmp.toInt false false false true raw.toNat k) := by
  rw [exec_anaConversion, execAnaConversion, if_neg (by simp [h]), askAgain_of_cool (s := s.anaSlot) hw]
  dsimp only
  rw [show s.anaSlot.ana.urgent = [i] from hu]
  rfl
end


theorem slotAt_frame (s : State) (due : Bool) : (s.slotAt due).ana.pos = (s.anaNext due).1 + 1 ∧ s.keeps (s.slotAt due) [.ana] ∧
    (s.slotAt due).ana.res = s.ana.res := by
  have hslot : s.keeps s.anaSlot [.ana] := updAna_keeps
  refine ⟨rfl, keeps_trans (keeps_ite (keeps_trans hslot updAna_keeps) hslot) updAna_keeps, ?_⟩
  exact (apply_ite (fun t : State => t.ana.res) _ _ _).trans (ite_self _)

theorem anaMode_vin : s.anaMode 24 = 1 := by simp [State.anaMode, State.anaOwned]

/-- The VIN entry is always HIGH, has no open-wire test and enters the mean that Basil takes. -/
theorem vinEntry_frame {raw cal k : Nat} {tmp : Int} : (s.anaEntry 24 raw cal k tmp).ana.pos = s.ana.pos ∧
    (Map.get (s.anaEntry 24 raw cal k tmp).ana.res {} 24).valid = true ∧
    (Map.get (s.anaEntry 24 raw cal k tmp).ana.res {} 24).value = (if raw = 16383 then 60000 else (anaValue 24 true cal : Int)) ∧
    (s.anaEntry 24 raw cal k tmp).pwr.vinN = s.pwr.vinN + 1 ∧ s.keeps (s.anaEntry 24 raw cal k tmp) [.ana, .pwr, .fm] := by
  have how : s.anaOw 24 = false := rfl
  have hhigh : s.entHigh 24 = true := by rw [State.entHigh, anaMode_vin]; rfl
  have hval : s.entValue 24 raw cal tmp = if raw = 16383 then 60000 else (anaValue 24 true cal : Int) := by
    rw [State.entValue, hhigh]
    rfl
  have hlt : anaInput 24 < 31 := by decide
  rw [anaEntry_of_noTest how]
  generalize (decide (raw = 16383) && decide ((24 : Nat) ≠ 31)) = ovr
  generalize (s.entNow 24).last.any (fun l => decide (l ≠ s.entHigh 24)) = ch
  have hres := anaPublish_res hlt (s.entValue 24 raw cal tmp) (s.entHigh 24) ovr ch false raw k (s.setEnt 24 (s.entNext 24 raw))
  refine ⟨?_, (congrArg AnaRes.valid hres).trans rfl, (congrArg AnaRes.value hres).trans hval, ?_⟩
  · rw [anaPublish_eq]
    exact (congrArg Ana.pos (anaChecks_ana hlt ..)).trans rfl
  · rw [anaPublish_eq, anaChecks_of_table hlt]
    generalize State.anaResult .. = x
    have hu : ∀ (t : State) (n : Nat), t.unitCheck (anaInput 24) n ovr = t.vinTaken n := fun _ _ => rfl
    rw [hu]
    have hk : s.keeps (((s.setEnt 24 (s.entNext 24 raw)).published (anaInput 24) x).vinTaken (s.entValue 24 raw cal tmp).toNat) [.ana, .pwr] :=
      by simp [State.keeps_iff, State.vinTaken, State.published, State.setEnt, State.updAna, State.updPwr]
    have hlim := (anaLimit_limits (((s.setEnt 24 (s.entNext 24 raw)).published (anaInput 24) x).vinTaken
      (s.entValue 24 raw cal tmp).toNat) (anaInput 24) (anaInput 24) (s.entValue 24 raw cal tmp) (s.entHigh 24)).keeps
    exact ⟨(congrArg Pwr.vinN (hlim .pwr (by decide))).trans rfl, keeps_trans (keeps_mono hk (by decide)) (keeps_mono hlim (by decide))⟩

/-! ### Urgent temperatures (R269) -/

/-- The readings in a row at or above the shutdown limit. -/
def State.hotCount (s : State) (i : Nat) (v : Int) : Nat := if tLim + 40 ≤ v then Map.get s.ana.hot 0 i + 1 else 0
def State.hotNoted (s : State) (i n : Nat) : State := s.updAna (fun a => { a with hot := Map.set a.hot i n })
/-- THERMAL_WARN follows the hottest die. -/
def State.warned (s : State) : State :=
  let w := s.updPwr (fun p => { p with thermalWarn := decide (tLim - 40 < s.hottest.1) })
  if decide (tLim - 40 < s.hottest.1) && !s.pwr.thermalWarn then
    w.report 0x0304 clsEvent 0 none (temp10 s.hottest.1 + 2 ^ 10 * s.hottest.2)
  else w
/-- The trim loop's watch on the hub die. -/
def State.trimWatch (s : State) (i : Nat) (v : Int) : State :=
  if i = 39 ∧ s.clk.trimValid = true ∧ (v < s.clk.tempAt - 40 ∨ s.clk.tempAt + 40 < v) then s.trimLost 2 else s

theorem tempCheck_eq (s : State) (i : Nat) (v : Int) : s.tempCheck i v =
    if 2 ≤ s.hotCount i v then (((s.hotNoted i (s.hotCount i v)).warned).trimWatch i v).enterSafe .thermal
    else ((s.hotNoted i (s.hotCount i v)).warned).trimWatch i v := by
  unfold State.tempCheck State.trimWatch State.warned State.hotNoted State.hotCount
  with_reducible rfl

theorem anaChecks_of_die {i : Nat} (hi : 31 ≤ i) (hi' : i < 39) (v : Int) (high ovr : Bool) (s : State) :
    s.anaChecks i v high ovr = if 2 ≤ s.hotCount i v then ((s.hotNoted i (s.hotCount i v)).warned).enterSafe .thermal
      else (s.hotNoted i (s.hotCount i v)).warned := by
  have hw : ∀ t : State, t.trimWatch i v = t := fun _ => if_neg (by omega)
  rw [← hw (s.hotNoted i (s.hotCount i v)).warned, ← tempCheck_eq]
  unfold State.anaChecks
  dsimp only
  rw [if_neg (by omega), if_neg (by omega), if_neg (by omega), if_pos hi, if_neg (by omega), if_neg (by omega)]

theorem warned_frame (s : State) : s.warned.ana = s.ana ∧ s.keeps s.warned [.pwr, .fm] := by
  have h : s.keeps s.warned [.pwr, .fm] := by
    unfold State.warned
    refine keeps_trans (t := s.updPwr (fun p => { p with thermalWarn := decide (tLim - 40 < s.hottest.1) })) ?_
      (keeps_ite (keeps_mono report_keeps (by decide)) keeps_refl)
    simp [State.keeps_iff, State.updPwr]
  exact ⟨h .ana (by decide), h⟩

section
variable {raw cal : BitVec 14} {k : Fin 5} {tmp : BitVec 16} {due : Bool} {i : Nat}

/-- The state in which the checks of an urgent result begin. -/
def State.urgentNoted (s : State) (i : Nat) (tmp : Int) (raw k : Nat) : State :=
  (s.urgentTaken i).published i ((s.urgentTaken i).anaResult i tmp false false false true raw k)

theorem urgentNoted_keeps {tmp : Int} {raw k : Nat} : s.keeps (s.urgentNoted i tmp raw k) [.ana] :=
  keeps_trans updAna_keeps (keeps_trans updAna_keeps published_keeps)
theorem hotNoted_keeps {n : Nat} : s.keeps (s.hotNoted i n) [.ana] := updAna_keeps

theorem exec_anaConversion_of_die (h : s.anaReady = true) (hu : s.ana.urgent = [i]) (hw : s.pwr.thermalWarn = false) (hi : 31 ≤ i)
    (hi' : i < 39) : exec (.anaConversion raw cal k tmp due) s = .next (
      if 2 ≤ s.hotCount i tmp.toInt then
        (((s.urgentNoted i tmp.toInt raw.toNat k).hotNoted i (s.hotCount i tmp.toInt)).warned).enterSafe .thermal
      else ((s.urgentNoted i tmp.toInt raw.toNat k).hotNoted i (s.hotCount i tmp.toInt)).warned) := by
  rw [exec_anaConversion_of_urgent h hu hw, anaPublish_eq, anaChecks_of_die hi hi']
  rfl

theorem analogueMonitor_cool (h : s.anaReady = true) (hu : s.ana.urgent = [i]) (hw : s.pwr.thermalWarn = false) (hi : 31 ≤ i)
    (hi' : i < 39) (ht : tmp.toInt < tLim + 40) : Runs (.anaConversion raw cal k tmp due) s (fun t => t.ana.urgent = [] ∧
      (Map.get t.ana.res {} i).value = tmp.toInt ∧ (Map.get t.ana.res {} i).urgent = true ∧ t.ana.pos = s.ana.pos ∧
      Map.get t.ana.hot 0 i = 0 ∧ t.dev = s.dev ∧ s.keeps t [.ana, .pwr, .fm]) := by
  have hn : s.hotCount i tmp.toInt = 0 := if_neg (by omega)
  have he := exec_anaConversion_of_die (raw := raw) (cal := cal) (k := k) (tmp := tmp) (due := due) h hu hw hi hi'
  obtain ⟨hana, hk⟩ := warned_frame ((s.urgentNoted i tmp.toInt raw.toNat k).hotNoted i (s.hotCount i tmp.toInt))
  have hkeeps : s.keeps ((s.urgentNoted i tmp.toInt raw.toNat k).hotNoted i (s.hotCount i tmp.toInt)).warned [.ana, .pwr, .fm] :=
    keeps_trans (keeps_mono urgentNoted_keeps (by decide)) (keeps_trans (keeps_mono hotNoted_keeps (by decide)) (keeps_mono hk (by decide)))
  have hres : ∀ d, Map.get ((s.urgentNoted i tmp.toInt raw.toNat k).hotNoted i (s.hotCount i tmp.toInt)).ana.res d i =
    (s.urgentTaken i).anaResult i tmp.toInt false false false true raw.toNat k := fun d => Map.get_set_self _ _ _ _
  have hurg : s.ana.urgent.filter (fun x => decide (x ≠ i)) = [] := by simp [hu]
  rw [if_neg (by omega)] at he
  refine Runs.of he ⟨?_, ?_, ?_, ?_, ?_, hkeeps .dev (by decide), hkeeps⟩
  · exact (congrArg Ana.urgent hana).trans hurg
  · exact (congrArg (fun a : Ana => (Map.get a.res {} i).value) hana).trans (congrArg AnaRes.value (hres {}))
  · exact (congrArg (fun a : Ana => (Map.get a.res {} i).urgent) hana).trans (congrArg AnaRes.urgent (hres {}))
  · exact (congrArg Ana.pos hana).trans rfl
  · exact (congrArg (fun a : Ana => Map.get a.hot 0 i) hana).trans ((Map.get_set_self _ _ _ _).trans hn)

theorem analogueMonitor_shutdown (h : s.anaReady = true) (hm : s.dev.mode.maySafe = true) (hu : s.ana.urgent = [i])
    (hw : s.pwr.thermalWarn = false) (hi : 31 ≤ i) (hi' : i < 39) (ht : tLim + 40 ≤ tmp.toInt) (hh : 1 ≤ Map.get s.ana.hot 0 i) :
    Runs (.anaConversion raw cal k tmp due) s (fun t => t.dev.mode = .safe ∧ t.dev.cause = .thermal ∧ t.regs = s.regs ∧ t.ds = s.ds) := by
  have hn : 2 ≤ s.hotCount i tmp.toInt := by rw [State.hotCount, if_pos ht]; omega
  have he := exec_anaConversion_of_die (raw := raw) (cal := cal) (k := k) (tmp := tmp) (due := due) h hu hw hi hi'
  have hk : s.keeps ((s.urgentNoted i tmp.toInt raw.toNat k).hotNoted i (s.hotCount i tmp.toInt)).warned [.ana, .pwr, .fm] :=
    keeps_trans (keeps_mono urgentNoted_keeps (by decide)) (keeps_trans (keeps_mono hotNoted_keeps (by decide))
      (keeps_mono (warned_frame _).2 (by decide)))
  rw [if_pos hn] at he
  generalize ((s.urgentNoted i tmp.toInt raw.toNat k).hotNoted i (s.hotCount i tmp.toInt)).warned = u at he hk
  have hdev : u.dev = s.dev := hk .dev (by decide)
  obtain ⟨hmode, hcause, -, -, -, -, -, -, hsafe⟩ := enterSafe_frame (s := u) (by rwa [hdev]) .thermal
  exact Runs.of he ⟨hmode, hcause, (hsafe .regs (by decide)).trans (hk .regs (by decide)), (hsafe .ds (by decide)).trans (hk .ds (by decide))⟩
end

/-! ### Calibration through the spare (R476, R477) -/

section
variable {k : Fin 5} {ol oh gl gh : BitVec 16}

/-- The verdict on a calibration. -/
def State.calBad (s : State) (k : Fin 5) (ol oh gl gh : BitVec 16) : Bool :=
  calFails ((s.ana.cal.find? (fun e => decide (e.1 = k.val))).map (fun e => e.2)) ol.toInt oh.toInt gl.toInt gh.toInt
/-- The slice's offsets are kept. -/
def State.calKept (s : State) (k : Fin 5) (ol oh : BitVec 16) : State :=
  s.updAna (fun a => { a with cal := Map.set a.cal k (ol.toInt, oh.toInt) })
/-- The spare takes the oldest slice's place. -/
def State.rotated (s : State) (k o : Nat) (r : List Nat) : State := s.updAna (fun a => { a with rota := r ++ [k], spare := some o })

theorem exec_anaCalRotate_of_early (h : s.dev.mode.afterReset = false) : exec (.anaCalRotate k ol oh gl gh) s = .next s :=
  (exec_anaCalRotate k ol oh gl gh s).trans (if_pos h)

theorem exec_anaCalRotate_of_selftest (hm : s.dev.mode = .selftest)
    (hk : (s.ana.rota.contains k.val || decide (s.ana.spare = some k.val)) = true) (hb : s.calBad k ol oh gl gh = false) :
    exec (.anaCalRotate k ol oh gl gh) s = .next (s.calKept k ol oh) := by
  have ha : ¬ s.dev.mode.afterReset = false := by simp [hm, Mode.afterReset]
  exact (exec_anaCalRotate k ol oh gl gh s).trans ((if_neg ha).trans ((if_pos hm).trans ((if_pos hk).trans
    (congrArg Host.Outcome.next (if_neg (Bool.eq_false_iff.mp hb))))))

theorem exec_anaCalRotate_of_other (hm : s.dev.mode ≠ .selftest) (hk : s.ana.spare ≠ some k.val) :
    exec (.anaCalRotate k ol oh gl gh) s = .next s := by
  by_cases ha : s.dev.mode.afterReset = false
  · exact exec_anaCalRotate_of_early ha
  · exact (exec_anaCalRotate k ol oh gl gh s).trans ((if_neg ha).trans ((if_neg hm).trans (if_pos hk)))

theorem exec_anaCalRotate_of_bad (ha : s.dev.mode.afterReset = true) (hm : s.dev.mode ≠ .selftest) (hk : s.ana.spare = some k.val)
    (hb : s.calBad k ol oh gl gh = true) : exec (.anaCalRotate k ol oh gl gh) s = .next ((s.calKept k ol oh).sliceFails k) :=
  (exec_anaCalRotate k ol oh gl gh s).trans ((if_neg (by simp [ha])).trans ((if_neg hm).trans ((if_neg (not_not.mpr hk)).trans (if_pos hb))))

theorem exec_anaCalRotate_of_good {o : Nat} {r : List Nat} (ha : s.dev.mode.afterReset = true) (hm : s.dev.mode ≠ .selftest)
    (hk : s.ana.spare = some k.val) (hr : s.ana.rota = o :: r) (hb : s.calBad k ol oh gl gh = false) :
    exec (.anaCalRotate k ol oh gl gh) s = .next ((s.calKept k ol oh).rotated k o r) := by
  refine (exec_anaCalRotate k ol oh gl gh s).trans ((if_neg (by simp [ha])).trans ((if_neg hm).trans ((if_neg (not_not.mpr hk)).trans
    ((if_neg (Bool.eq_false_iff.mp hb)).trans ?_))))
  rw [hr]
  rfl

/-- The spare fails while three or more slices rotate: no slice takes its place, and none leaves. -/
theorem sliceFails_of_spare {x : Nat} (hs : s.ana.spare = some x) (hr : s.ana.rota.contains x = false) (hl : 3 ≤ s.ana.rota.length) :
    s.sliceFails x = (s.updAna (fun a => { a with spare := none })).report 0x0363 clsDegraded x none (x + 2 ^ 4 * s.ana.rota.length) := by
  have hf : s.ana.rota.filter (fun y => decide (y ≠ x)) = s.ana.rota :=
    List.filter_eq_self.mpr fun y hy => decide_eq_true fun e => by simp [e ▸ hy] at hr
  unfold State.sliceFails
  dsimp only
  rw [hf, if_neg (Nat.lt_irrefl _), hs, Option.bind_some, if_pos rfl]
  exact if_neg fun h => absurd h.1 (by simp [Ana.healthy]; omega)

theorem analogueMonitor_spareFails (ha : s.dev.mode.afterReset = true) (hm : s.dev.mode ≠ .selftest) (hk : s.ana.spare = some k.val)
    (hr : s.ana.rota.contains k.val = false) (hl : 3 ≤ s.ana.rota.length) (hb : s.calBad k ol oh gl gh = true) :
    Runs (.anaCalRotate k ol oh gl gh) s (fun t => t.ana.spare = none ∧ t.ana.rota = s.ana.rota ∧ t.ana.failed = s.ana.failed ∧
      s.reported t 0x0363 4 k none (k.val + 2 ^ 4 * s.ana.rota.length) ∧ s.keeps t [.ana, .fm]) := by
  have hf := sliceFails_of_spare (s := s.calKept k ol oh) hk hr hl
  have hcal : s.keeps (s.calKept k ol oh) [.ana, .fm] := keeps_mono updAna_keeps (by decide)
  exact Runs.of ((exec_anaCalRotate_of_bad ha hm hk hb).trans (congrArg Host.Outcome.next hf)) ⟨rfl, rfl, rfl, rfl,
    keeps_trans hcal (keeps_trans (keeps_mono updAna_keeps (by decide)) (keeps_mono report_keeps (by decide)))⟩
end

/-! ### ANA_SEQ (R470) -/

/-- The value that ANA_SEQ takes: the reserved range is stored as AUTO. -/
def anaSeqStored (v : Nat) : Nat := if fld (v &&& 0x3C0) 7 2 = 3 then setFld (v &&& 0x3C0) 7 2 2 else v &&& 0x3C0

theorem writeAnaSeq_of_free {e v : Nat} (he : e < 24) (ho : s.anaOwned e = false) :
    s.writeAnaSeq e v = s.setReg (anaSeq e) (anaSeqStored v) := (if_neg (by omega)).trans (if_neg (by simp [ho]))

theorem anaSeqStored_outside (v : Nat) {lsb width : Nat} (hd : lsb + width ≤ 7 ∨ 9 ≤ lsb) (h : fld 0x3C0 lsb width = 2 ^ width - 1) :
    fld (anaSeqStored v) lsb width = fld v lsb width := by
  unfold anaSeqStored
  split
  · rw [fld_setFld_of_disjoint _ _ hd, fld_and_of_ones _ h]
  · exact fld_and_of_ones _ h

theorem anaSeqStored_range {v : Nat} (h : fld v 7 2 < 3) : fld (anaSeqStored v) 7 2 = fld v 7 2 := by
  have hm : fld (v &&& 0x3C0) 7 2 = fld v 7 2 := fld_and_of_ones _ rfl
  rw [anaSeqStored, if_neg (by omega), hm]

theorem analogueMonitor_seqWrite (e : Fin 32) (v : Word) (hm : s.dev.mode.configured = true) :
    (24 ≤ e.val → Runs (.anaSeqWrite e v) s (fun t => t = s)) ∧
    (e.val < 24 → s.anaOwned e = true → Runs (.anaSeqWrite e v) s (fun t => t = s.accState (anaSeq e) ∧ s.keeps t [.fm])) ∧
    (e.val < 24 → s.anaOwned e = false → Runs (.anaSeqWrite e v) s (fun t => fld (t.reg (anaSeq e)) 6 1 = fld v.toNat 6 1 ∧
      fld (t.reg (anaSeq e)) 9 1 = fld v.toNat 9 1 ∧ (fld v.toNat 7 2 < 3 → fld (t.reg (anaSeq e)) 7 2 = fld v.toNat 7 2) ∧
      (∀ r, r ≠ anaSeq e → t.reg r = s.reg r) ∧ s.keeps t [.regs])) := by
  have hx : exec (.anaSeqWrite e v) s = .next (s.writeAnaSeq e v.toNat) := (exec_anaSeqWrite e v s).trans (if_pos hm)
  refine ⟨fun he => Runs.of hx (if_pos he), fun he ho => Runs.of hx ?_, fun he ho => ?_⟩
  · have hw : s.writeAnaSeq e v.toNat = s.accState (anaSeq e) := (if_neg (by omega)).trans (if_pos ho)
    exact ⟨hw, hw ▸ report_keeps⟩
  · have hreg := s.reg_setReg_self (anaSeq e) (anaSeqStored v.toNat)
    rw [writeAnaSeq_of_free he ho] at hx
    refine Runs.of hx ⟨?_, ?_, fun h => ?_, fun r hr => State.reg_setReg_ne s _ hr, setReg_keeps⟩
    · rw [hreg, fld_mod_two_pow _ (by decide), anaSeqStored_outside _ (.inl (by decide)) rfl]
    · rw [hreg, fld_mod_two_pow _ (by decide), anaSeqStored_outside _ (.inr (by decide)) rfl]
    · rw [hreg, fld_mod_two_pow _ (by decide), anaSeqStored_range h]

end

/-- Settles O55: a slot by the request it takes up (`exec_anaConversion_of_*`), its result by what the conversion publishes and the
checks leave (`anaPublish_res`, `anaChecks_ana`), a calibration by its verdict, and a limit or an open-wire test by its finding. -/
theorem analogueMonitor : Obligations.AnalogueMonitor := by
  refine ⟨fun i c high h => ⟨anaValue_le i high h, anaValue_zero i high, fun d hd => anaValue_mono i high hd⟩, fun s => anaReady_iff,
    fun raw cal k tmp due s h => Runs.of (exec_anaConversion_of_early h) rfl, fun raw cal k tmp due s h hu hw hn => ?_,
    fun raw cal k tmp due s h hu hw => ?_, fun e raw cal k tmp s he h hx => analogueMonitor_result he h hx,
    fun raw cal k tmp due i s h hu hw hi hi' ht => analogueMonitor_cool h hu hw hi hi' ht,
    fun raw cal k tmp due i s h hm hu hw hi hi' ht hh => analogueMonitor_shutdown h hm hu hw hi hi' ht hh,
    fun k ol oh gl gh s h => Runs.of (exec_anaCalRotate_of_early h) rfl,
    fun k ol oh gl gh o r s ha hm hk hr hb => Runs.of (exec_anaCalRotate_of_good ha hm hk hr hb) ⟨rfl, rfl, Map.get_set_self _ _ _ _,
      keeps_trans updAna_keeps updAna_keeps⟩,
    fun k ol oh gl gh s ha hm hk hr hl hb => analogueMonitor_spareFails ha hm hk hr hl hb,
    fun k ol oh gl gh s hm hk => Runs.of (exec_anaCalRotate_of_other hm hk) rfl,
    fun e i v high s he h => analogueMonitor_limit he h, fun e u d s => analogueMonitor_open e u d s,
    fun e v s h => Runs.of ((exec_anaSeqWrite e v s).trans (if_neg (by simp [h]))) rfl,
    fun k ol oh gl gh s hm hb hk => Runs.of (exec_anaCalRotate_of_selftest hm hk hb) ⟨rfl, rfl, Map.get_set_self _ _ _ _, updAna_keeps⟩,
    fun e v s hm => analogueMonitor_seqWrite e v hm⟩
  · obtain ⟨hpos, hk, -⟩ := slotAt_frame s due
    have he := exec_anaConversion_of_pass (raw := raw) (cal := cal) (k := k) (tmp := tmp) (due := due) h hu hw
    obtain ⟨h1, h2, h3, h4, h5⟩ := vinEntry_frame (s := s.slotAt due) (raw := raw.toNat) (cal := cal.toNat) (k := k) (tmp := tmp.toInt)
    have hvin : (s.slotAt due).pwr = s.pwr := hk .pwr (by decide)
    rw [hn] at hpos he
    exact Runs.of he ⟨h1.trans hpos, h2, h3, hvin ▸ h4, keeps_trans (keeps_mono hk (by decide)) h5⟩
  · obtain ⟨hpos, hk, hres⟩ := slotAt_frame s due
    exact Runs.of (exec_anaConversion_of_pass h hu hw) ⟨s.slotAt due, hpos, hk, hres, rfl⟩

end Sys2Proof.Machine
end


section
/-! PROOF. The state after reset (O59): the default values of every part, read back through the register views. -/

namespace Sys2Proof.Machine

theorem reset_ten (x : Nat) : State.reset.ten x = {} := rfl

theorem reset_inv : State.reset.Inv :=
  ⟨⟨by decide, by decide⟩, ⟨by decide, by decide⟩, rfl, rfl, rfl⟩

/-! ### Reset values of the registers (Table 18-1) -/

theorem reset_devId : State.reset.readReg 0 = 0x00012192 := by decide +kernel
theorem reset_devStatus : State.reset.readReg 0x20 = 0x2 := by decide +kernel
theorem reset_pwrFloor : State.reset.readReg 0x10008 = 470 := by decide +kernel
theorem reset_thyIncFrac : State.reset.readReg 0x40030 = 0x80000000 := by decide +kernel
theorem reset_thyIncNs : State.reset.readReg 0x40034 = 2 := by decide +kernel
theorem reset_errCkptCfg : State.reset.readReg 0x71000 = 0x0C18180C := by decide +kernel
theorem reset_hubStatus : State.reset.readReg 0xB0000 = 0x001F00F8 := by decide +kernel
theorem reset_smbCfg : State.reset.readReg 0x80100 = 0xD8 := by decide +kernel

/-- Settles O59, by the default values of the parts and the registers' views of them. -/
theorem resetState : Obligations.ResetState :=
  ⟨reset_inv, rfl, rfl, rfl, rfl, fun x => ⟨congrArg Tenant.img (reset_ten x), congrArg Tenant.run (reset_ten x)⟩, reset_devId,
    reset_devStatus, reset_pwrFloor, reset_thyIncFrac, reset_thyIncNs, reset_errCkptCfg, reset_hubStatus, reset_smbCfg⟩

end Sys2Proof.Machine
end
